-- ==== Sys2Proof/Word.lean ====
section
/-! DEFINITION. The words of the TV-8 and the one kind of sparse table the model uses. -/

namespace Sys2Proof

abbrev Byte := BitVec 8
abbrev W16 := BitVec 16
abbrev W32 := BitVec 32
abbrev W48 := BitVec 48
abbrev W64 := BitVec 64

/-- A sparse table by number, in canonical form: keys strictly rising, no entry equal to the
default that an unlisted key reads as (`Sys2Proof/Machine/Table.lean`). -/
abbrev Tbl (α : Type) := List (Nat × α)

end Sys2Proof
end

