-- ==== Sys2Proof/Syntax.lean ====
section
/-! DEFINITION. The commands: one constructor of `Instr` for each row of spec/opcode_table.json,
with the row's operands. What comes from outside the module (frames, host memory, readings, keys
that a seal or a signature was made with) is an operand (log 4). -/

namespace Sys2Proof

abbrev CoreId := Fin 8
abbrev PortId := Fin 16
abbrev SlotId := Fin 4096
abbrev QueueId := Fin 8192
abbrev ConnId := Fin 16384
abbrev WinId := Fin 262144
abbrev EnclId := Fin 64

/-- The three pass streams of a core (R115). -/
inductive StrmId where | F | B | U
  deriving DecidableEq, Repr

/-- The two sides of a stream (R121). -/
inductive Side where | access | execute
  deriving DecidableEq, Repr

/-- Which part of an instruction's life a command performs (log 7): the sequencer dispatches it,
or a unit issues it from its side's queue, or from B's deferred queue (R121, R127). -/
inductive Phase where | dispatch | issue | issueDeferred
  deriving DecidableEq, Repr

/-- The four candidates of the core arbiter (R125). -/
inductive Cand where | F | B | U | deferred
  deriving DecidableEq, Repr

/-- The units of a core that its streams share (R125), and the B access engine (R127). -/
inductive CoreUnit where | array | loader | accPort | spillPath | vector | accessB
  deriving DecidableEq, Repr

/-- The units that load re-verification and MAINTAIN name (R423, R426). -/
inductive CalUnit where | core (n : CoreId) | near (n : CoreId) | package | board | port (n : PortId)
  deriving DecidableEq, Repr

/-- The reset domains of R362. -/
inductive Domain where | core (n : CoreId) | port (n : PortId) | encl (i : EnclId) | hub | device
  deriving DecidableEq, Repr

/-- The engines of the hub that an engine fault can name (R366). -/
inductive HubEngine where | transport | collective | tierManager | security
  deriving DecidableEq, Repr

/-- The three tiers (R178). -/
inductive Tier where | near | package | board
  deriving DecidableEq, Repr

/-- The two mailboxes (R395). -/
inductive Mbox where | host | i3c
  deriving DecidableEq, Repr

/-- A doorbell posting of the host (R434, R436): through the PF (`fn` 0) or VF `fn`, on page `page`,
the whole 64-byte entry written into DB.ENTRY`index` and then the doorbell written, with whether a
PCIe IDE stream covers the transaction (R432). -/
structure Post where
  fn : Nat
  page : Nat
  index : BitVec 5
  entry : BitVec 512
  ide : Bool
  deriving DecidableEq, Repr

/-- A sealed record of host memory, as R441 lays it out. `key` is the key it was sealed under,
`serial`, `encl` and `slot` the rest of its additional data (R441); `hdrResv` says that its reserved
header bits are zero; `intact` that neither payload, header nor tag was changed since (log 3). -/
structure HostRec where
  version : Byte
  dir : Bool
  rseq : W64
  ctxVA : W48
  payload : List Byte
  length : W32
  hdrResv : Bool
  key : Nat
  serial : W64
  encl : Nat
  slot : Nat
  intact : Bool
  tag : BitVec 128
  deriving DecidableEq, Repr

/-- What carries a frame's payload (R235, R298): an EtherType, or an IP datagram with its destination (the first octet the
most significant), the UDP destination port where it has a UDP header, and whether it is a fragment. -/
inductive RxNet where
  | ether (typ : W16)
  | ip (v6 : Bool) (dst : BitVec 128) (udp : Option W16) (fragment : Bool)
  deriving DecidableEq, Repr

/-- What a port's receive path sees of a frame (R298). -/
structure RxFacts where
  len : Nat
  fecBad : Bool
  stomped : Bool
  fcsBad : Bool
  dst : W48
  src : W48
  tagged : Bool
  vid : BitVec 12
  cls : Fin 8
  net : RxNet
  deriving DecidableEq, Repr

/-- The DWT header and payload of R237. `sealKey` is the key the payload was sealed under
(log 3) and `sealDir` the DIR bit of its nonce; `intact` says that the frame was not altered; `frameLenOk` that LENGTH agrees with the
frame length. -/
structure Msg where
  ver : BitVec 4
  typ : Byte
  resv : Bool
  first : Bool
  last : Bool
  dstConn : BitVec 14
  srcConn : BitVec 14
  txn : W64
  seq : W32
  ref : W32
  window : BitVec 18
  wgen : W16
  length : W16
  offset : W48
  status : W16
  payload : List Byte
  sealKey : Nat
  sealDir : Bool
  intact : Bool
  frameLenOk : Bool
  deriving DecidableEq, Repr

/-- The HELLO payload of R239. -/
structure Hello where
  ver : BitVec 4
  resv : Bool
  endpoint : W64
  coords : List Byte
  axis : Byte
  dir : Byte
  port : Byte
  deriving DecidableEq, Repr

/-- The OPEN payload of R243. -/
structure OpenBody where
  r : BitVec 128
  peer : W64
  holdsYours : Bool
  deriving DecidableEq, Repr

/-- What a message of a job-wide tree carries (R287, R289, R382): the pair, the digest where the tree folds one, the newest
starfix complete, and C, T, H and F. -/
structure TreeVal where
  hi : W32
  lo : W32
  digest : Option (BitVec 384)
  newest : Option W64
  c : Nat
  t : Nat
  h : Nat
  f : Nat
  deriving DecidableEq, Repr

/-- The kinds of message between collective engines (R280, R283, R287); level 0 of a segment is a gather's. -/
inductive CollBody where
  | ready (shard level : Nat)
  | segment (shard level tile first : Nat) (data : List W16)
  | up (level : Nat) (v : TreeVal)
  | down (v : TreeVal)
  deriving DecidableEq, Repr

/-- What a message of the collective engine pairs by: the index k of its descriptor and the step number (R273). -/
structure CollIdx where
  k : Byte
  step : W64
  deriving DecidableEq, Repr

/-- A message of the collective engine (log 35): the index and step of its descriptor, the job ranks of its source and of the
device it is for, and the fingerprint in the first message to a peer (R277). -/
structure CollMsg where
  k : CollIdx
  src : Nat
  dest : Nat
  fp : Option (BitVec 384)
  body : CollBody
  deriving DecidableEq, Repr

/-- A security request's descriptor as the device reads it (R355): whether its reserved fields are
zero and its addresses usable, the input length, and the address and length given for the output. -/
structure SecReq where
  encl : EnclId
  resvOk : Bool
  addrOk : Bool
  inLen : Nat
  outAddr : W48
  outLen : Nat
  tag : W64
  deriving DecidableEq, Repr

/-- The KEY_IMPORT blob of R334: `sealedTo` is the import public key whose ECDH the KEK was
derived from, `tenant` the tenant's public key, `intact` that the blob was not altered (log 3). -/
structure ImportBlob where
  version : Byte
  persist : Bool
  resv : Bool
  tenant : BitVec 768
  sealedTo : BitVec 768
  serial : W64
  index : Nat
  trk : BitVec 256
  intact : Bool
  deriving DecidableEq, Repr

/-- The 213 commands. Their order is the table's. -/
inductive Instr where
  | mmLoadw (c : CoreId) (x : StrmId) (p : Phase)
  | mmRun (c : CoreId) (x : StrmId) (p : Phase)
  | spill (c : CoreId) (x : StrmId)
  | accRead (c : CoreId) (x : StrmId) (p : Phase)
  | accWrite (c : CoreId) (x : StrmId) (p : Phase)
  | accRscale (c : CoreId) (x : StrmId) (p : Phase)
  | accResume (c : CoreId) (x : StrmId) (p : Phase)
  | vecAlu (c : CoreId) (x : StrmId) (p : Phase)
  | vecRed (c : CoreId) (x : StrmId) (p : Phase)
  | vecOsmx (c : CoreId) (x : StrmId) (p : Phase)
  | vecFill (c : CoreId) (x : StrmId) (p : Phase)
  | vecDrop (c : CoreId) (x : StrmId) (p : Phase)
  | moveLoad (c : CoreId) (x : StrmId) (p : Phase)
  | moveStore (c : CoreId) (x : StrmId) (p : Phase)
  | moveTload (c : CoreId) (x : StrmId) (p : Phase)
  | moveGather (c : CoreId) (x : StrmId) (p : Phase)
  | moveDwtq (c : CoreId) (x : StrmId) (p : Phase)
  | syncWait (c : CoreId) (x : StrmId) (p : Phase) (sd : Side)
  | waitMet (c : CoreId) (x : StrmId) (sd : Side) (dfr : Bool)
  | syncInc (c : CoreId) (x : StrmId) (p : Phase) (sd : Side)
  | syncToken (c : CoreId) (x : StrmId) (p : Phase) (sd : Side)
  | collReduce (c : CoreId) (x : StrmId) (p : Phase)
  | collGather (c : CoreId) (x : StrmId) (p : Phase)
  | collNorm (c : CoreId) (x : StrmId) (p : Phase)
  | ctrlLoop (c : CoreId) (x : StrmId)
  | ctrlEndl (c : CoreId) (x : StrmId)
  | ctrlJmp (c : CoreId) (x : StrmId)
  | ctrlBrc (c : CoreId) (x : StrmId)
  | ctrlXset (c : CoreId) (x : StrmId)
  | ctrlXadd (c : CoreId) (x : StrmId)
  | ctrlSclr (c : CoreId) (x : StrmId)
  | meridian (c : CoreId) (x : StrmId) (p : Phase)
  | halt (c : CoreId) (x : StrmId) (p : Phase)
  | layerBegin (c : CoreId) (x : StrmId) (p : Phase)
  | layerEnd (c : CoreId) (x : StrmId) (p : Phase)
  | layerSrcid (c : CoreId) (x : StrmId) (p : Phase)
  | instructionComplete (c : CoreId) (x : StrmId) (n : Nat)
  | contextFault (c : CoreId) (x : StrmId)
  | novaEvent (c : CoreId) (x : StrmId)
  | novaRerun (c : CoreId) (x : StrmId)
  | arbiterAgeExpiry (c : CoreId) (cand : Cand) (u : CoreUnit)
  | meridianTakesPlace (slot : SlotId) (shadowDiffers : Bool)
  | contextSwitchIn (slot : SlotId)
  | preemptiveSwitch (slot : SlotId)
  | selftestStart (c : CoreId)
  | selftestDone (c : CoreId) (fails : List (Fin 264))
  | powerSample (watts16 : W16)
  | powerControlTick
  | powerRaise
  | powerCapUnmet
  | setPowerCap (m : Mbox) (arg : W32)
  | alloc (p : Post)
  | free (p : Post)
  | migrate (p : Post)
  | winCreate (p : Post)
  | winDestroy (p : Post)
  | windowFillStart (slot : SlotId) (view : W48)
  | windowEntryLanded (slot : SlotId) (view : W48)
  | runaheadFetch (slot : SlotId) (view : W48) (page : Nat)
  | patrolScrub (corrected : List Nat) (failed : List Nat)
  | pageMigration
  | displacedReturn (slot : SlotId) (base : W48)
  | nop (q : QueueId)
  | write (q : QueueId)
  | read (q : QueueId)
  | accum (q : QueueId)
  | winOpen (q : QueueId)
  | winRevoke (q : QueueId)
  | revokeComplete (w : WinId)
  | pull (q : QueueId) (signer : BitVec 768)
  | pullChunkCheck (cn : ConnId) (chunk : Nat)
  | connOpen (q : QueueId)
  | connClose (q : QueueId)
  | openResend (cn : ConnId)
  | connNoPeer (cn : ConnId)
  | rekey (cn : ConnId)
  | retransmit (cn : ConnId) (seq : W32)
  | rxWrite (n : PortId) (f : RxFacts) (m : Msg)
  | rxAccum (n : PortId) (f : RxFacts) (m : Msg)
  | rxReadReq (n : PortId) (f : RxFacts) (m : Msg)
  | rxReadResp (n : PortId) (f : RxFacts) (m : Msg)
  | rxAck (n : PortId) (f : RxFacts) (m : Msg)
  | rxNak (n : PortId) (f : RxFacts) (m : Msg)
  | rxOpen (n : PortId) (f : RxFacts) (m : Msg) (b : OpenBody)
  | rxReset (n : PortId) (f : RxFacts) (m : Msg)
  | rxClose (n : PortId) (f : RxFacts) (m : Msg)
  | rxHello (n : PortId) (f : RxFacts) (h : Hello)
  | helloResend (n : PortId)
  | linkMiswired (n : PortId)
  | rxBeacon (n : PortId) (f : RxFacts) (m : Msg) (step : W64) (digest : BitVec 384)
  | collStart (slot : SlotId)
  | collReadyReceived (n : PortId) (f : RxFacts) (m : Msg) (b : CollMsg)
  | collSegmentReceived (n : PortId) (f : RxFacts) (m : Msg) (k : CollIdx) (src dest : Nat) (fp : Option (BitVec 384)) (body : CollBody)
  | collComplete (slot : SlotId) (k : Byte) (status : W16) (hi lo : W32) (root : Option (BitVec 384)) (newest : Option W64)
  | rawFrameReceived (n : PortId) (f : RxFacts) (buf : W48) (frame : List Byte)
  | pause (n : PortId) (f : RxFacts) (q : W16)
  | pfc (n : PortId) (f : RxFacts) (en : Byte) (times : List W16)
  | pauseExpiry (n : PortId) (q : Fin 8)
  | txFrameStart (n : PortId) (staged : Nat)
  | txUnderrun (n : PortId)
  | underrunDecay (n : PortId)
  | xoff (n : PortId) (cls : Fin 8) (level : Nat)
  | xoffRepeat (n : PortId) (cls : Fin 8)
  | xon (n : PortId) (cls : Fin 8) (level : Nat)
  | laneSpared (n : PortId) (lane : Fin 4)
  | laneDegraded (n : PortId) (lane : Fin 4)
  | utilisationWindowEnd (n : PortId) (txPercent rxPercent : Nat)
  | shedTo2 (n : PortId) (f : RxFacts) (seq : W16)
  | shedTo1 (n : PortId) (f : RxFacts) (seq : W16)
  | restore (n : PortId) (received : Bool) (f : RxFacts) (lane : Byte) (seq : W16)
  | spare (n : PortId) (f : RxFacts) (lane : Fin 4) (seq : W16)
  | degrade (n : PortId) (f : RxFacts) (seq : W16)
  | ack (n : PortId) (f : RxFacts) (seq : W16)
  | refuse (n : PortId) (f : RxFacts) (seq : W16)
  | laneRequestResend (n : PortId)
  | linkUp (n : PortId) (rate : Fin 5) (spare : Bool)
  | linkDown (n : PortId)
  | retrain (n : PortId)
  | getCertChain (r : SecReq)
  | getReport (r : SecReq) (kind : BitVec 2) (slot : SlotId) (nonce : BitVec 384)
  | loadImage (r : SecReq) (image : List Byte) (signer : BitVec 768)
  | keyImport (r : SecReq) (blob : ImportBlob)
  | keyErase (r : SecReq) (mac : BitVec 384)
  | pubInstall (r : SecReq) (input : List Byte)
  | opkeyAdd (r : SecReq) (seq : W64) (key : BitVec 768) (signer : BitVec 768)
  | opkeyRemove (r : SecReq) (seq : W64) (key : BitVec 768) (signer : BitVec 768)
  | decommission (r : SecReq) (seq : W64) (signer : BitVec 768)
  | fabricLinkFail (c : CoreId) (hubToHub : Bool)
  | engineFault (d : Domain)
  | drainExpiry (d : Domain)
  | suspectReplay (d : Domain) (slot : SlotId)
  | replayTimeout
  | replayOutcome (reproduced : Bool)
  | coreReset (c : CoreId)
  | portReset (n : PortId)
  | enclosureReset (i : EnclId)
  | hubReset
  | deviceReset
  | hangStream (c : CoreId) (x : StrmId)
  | hangQueue (slot : SlotId) (queue : Option QueueId)
  | coreUnitWatchdog (c : CoreId) (x : StrmId)
  | accessRequestWatchdog (c : CoreId)
  | hubEngineWatchdog (e : HubEngine)
  | tierCommandWatchdog (slot : SlotId)
  | spareFillStart (t : Tier) (bank : Bool) (region : List Nat)
  | spareFillDone (t : Tier) (spareFailed : Bool) (failed : List Nat)
  | rcvSet (p : Post)
  | starfixComplete (slot : SlotId)
  | restoreStarfix (p : Post)
  | autoRestore (slot : SlotId)
  | getStatus (m : Mbox) (arg : W32)
  | getIdentity (m : Mbox) (arg : W32)
  | readSensors (m : Mbox) (arg : W32)
  | readLog (m : Mbox) (arg : W32) (inp : List Byte)
  | getSetting (m : Mbox) (arg : W32)
  | setSetting (m : Mbox) (arg : W32) (inp : List Byte)
  | store (m : Mbox) (arg : W32)
  | setState (m : Mbox) (arg : W32)
  | fwStage (m : Mbox) (arg : W32) (inp : List Byte)
  | fwActivate (m : Mbox) (arg : W32) (sigOk : Bool)
  | fwRollback
  | fwCommit (m : Mbox) (arg : W32)
  | getFwInfo (m : Mbox) (arg : W32)
  | maintain (m : Mbox) (arg : W32)
  | reinstate (m : Mbox) (arg : W32)
  | setSlot (m : Mbox) (arg : W32)
  | entdaa (ordIn : Bool) (addr : BitVec 7)
  | rstdaa
  | hotJoin
  | getpid
  | getbcr
  | getdcr
  | getstatus
  | logNvmCopy (seq : W64)
  | sensorUpdate (readings : List (Fin 1024 × W32))
  | almanacReplan (c : CoreId) (steps : Nat) (table : List (Nat × Nat))
  | loadDerated (u : CalUnit) (marginMV : Nat)
  | loadVerified (u : CalUnit) (marginMV : Nat)
  | retrainDone (u : CalUnit)
  | coreGate (c : CoreId)
  | ctxLoad (p : Post)
  | ctxReload (p : Post)
  | ctxUnload (p : Post)
  | ctxSwitchIn (p : Post)
  | ctxSwitchOut (p : Post)
  | ctxResume (p : Post)
  | dwtPost (p : Post)
  | dmaIn (p : Post) (recs : List HostRec) (abort : Bool)
  | dmaOut (p : Post)
  | dbCplRingWrite (fn : Nat) (page : Nat) (v : W64)
  | dbCplPtrWrite (fn : Nat) (page : Nat) (v : W64)
  | pcieLinkDown
  | pcieLinkUp (speed : BitVec 3) (width : BitVec 5) (flit : Bool)
  | pcieTrainRetry (refclk : Bool)
  | vfFlr (k : Fin 64)
  | pfFlr
  | ideKm (spdmOk : Bool) (link : Bool) (selective : Nat) (key : BitVec 256)
  | registerWrite (bar2 : Bool) (fn : Nat) (offset : Nat) (v : W64) (lo hi : Bool)
  | perstNAssert (micros : Nat)
  | hubLeavesReset
  | firmwareVerified (ok : Bool)
  | dawnEntry
  | readyAll
  | standbyGood
  | powerStagesStart
  | pwrGood
  | inputOutOfRange (mv : Nat)
  | powerStagesStop (mv : Nat)
  | standbyLost (mv : Nat)
  | refclkMissing (a : Fin 4)
  | refclkCheck (a : Fin 4) (ok : Bool)
  | ordInFalls
  | railLeavesRegulation
  deriving DecidableEq, Repr

end Sys2Proof
end

