-- ==== Sys2Proof/Config.lean ====
section
/-! DEFINITION. What the spec fixes for every TV-8, and the values it leaves open.

An `opaque` constant has no body: nothing can be proved about its value, so a claim holds
whatever it is (log 2 for the free values, log 3 for the cryptographic functions). -/

namespace Sys2Proof.Config

/-- The free value number `k`: one for each time an open value is needed (log 2). -/
opaque freeWord : Nat → W64

/-- The payload length of a store, its CRC-32, and how long it runs in ticks, by its sequence number: the layout of the payload
is not given, nor the time beyond its maximum (R413, log 62). -/
opaque storeLength : Nat → Nat
opaque storeCrc : Nat → BitVec 32
opaque storeTicks : Nat → Nat

/-- The cryptographic functions of the standards the spec names are uninterpreted (log 3). -/
opaque sha384 : List Byte → BitVec 384
opaque hmac384 : BitVec 384 → List Byte → BitVec 384
/-- HKDF-SHA-384: salt, input keying material, info, output bytes (as one number). -/
opaque hkdf384 : List Byte → List Byte → List Byte → Nat → Nat
/-- The P-384 public key X ‖ Y of a private scalar. -/
opaque p384Public : Nat → BitVec 768
/-- Whether X ‖ Y is a valid P-384 point (R337). -/
opaque p384Valid : BitVec 768 → Bool
/-- The ECDSA signature r ‖ s under a private scalar (R345). -/
opaque ecdsaSign : Nat → List Byte → BitVec 768
/-- AES-256-XTS of one data unit: the 512-bit key, the tweak, the plaintext (R338). -/
opaque xtsSeal : Nat → Nat → List Byte → List Byte
/-- AES-256-GCM seal of a log entry's tenant part: key, nonce, additional data, plaintext; answers ciphertext and tag (R347). -/
opaque gcmSeal : Nat → Nat → List Byte → List Byte → List Byte
/-- The plaintext of a log entry's tenant part from its fields, and the number of a fault code: the spec gives the
fields and the names, not their places or numbers (log 18). -/
opaque tenantPlain : List Nat → List Byte
opaque faultNumber : String → Nat
/-- The TYPE byte of a collective message that is neither an accumulate nor a write segment: R238 lists none (log 35). -/
opaque collType : Byte
/-- The certificates of R344 in DER: the device's, whose subject holds the serial number and whose key is the device
attestation key, and Ahnina's two. -/
opaque deviceCert : W64 → BitVec 768 → List Byte
opaque deviceCa : List Byte
opaque rootCa : List Byte

/-- The fused MAC address of a port, derived from the serial number and the port: the derivation is not given (R312, log 5). -/
opaque fusedMac : W64 → Nat → W48

/-- Sizes of R5, R42, R115, R128, R234, R316, R331. -/
def cores : Nat := 8
def ports : Nat := 16
def ctxSlots : Nat := 4096
def counters : Nat := 65536
def dwtWindows : Nat := 262144
def dwtConns : Nat := 16384
def dwtQueues : Nat := 8192
def enclosures : Nat := 64
def keySlots : Nat := 512
def queueEntries : Nat := 256
def queueStarted : Nat := 16
def pageBytes : Nat := 2097152
def nearPagesPerCore : Nat := 6144
def packagePages : Nat := 147456
def reservedPages : Nat := 256
def boardPages1408 : Nat := 524288
def boardPages896 : Nat := 262144
def bankBytes : Nat := 524288
def counterMax : Nat := 281474976710655
def sat32 : Nat := 4294967295
def sat64 : Nat := 18446744073709551615
def clockFloor : Nat := 575
def clockTop : Nat := 1150
def clockStep : Nat := 25

/-- The DRAM row that a 64-byte line lies in, and the bank of a row: the spec gives no geometry (R375, log 56). -/
opaque rowOf : Nat → Nat
opaque bankOf : Nat → Nat

/-- A page of the schedule record of a starfix of a step and S; the spec gives its contents no layout (R381, log 30). -/
opaque schedulePage : W64 → W64 → Nat → List Byte

end Sys2Proof.Config
end

