-- ==== Sys2Proof/Machine/Table.lean ====
section
/-! DEFINITION. Sparse tables by number: one reading and two writing operations.

`get d t k` reads key `k`, `d` where it is not listed. `put` lists a value; `write` keeps the
canonical form in which no entry equals the default (memory, counters, element stores). -/

namespace Sys2Proof.Machine

variable {α : Type}

/-- The value at key `k`, or `d`. -/
def Tbl.get (d : α) : Tbl α → Nat → α
  | [], _ => d
  | (a, v) :: t, k => if a = k then v else Tbl.get d t k

/-- The entry at key `k`, where it is listed. -/
def Tbl.look : Tbl α → Nat → Option α
  | [], _ => none
  | (a, v) :: t, k => if a = k then some v else Tbl.look t k

/-- `t` with key `k` removed. -/
def Tbl.drop : Tbl α → Nat → Tbl α
  | [], _ => []
  | (a, v) :: t, k => if a = k then t else (a, v) :: Tbl.drop t k

/-- `t` with `v` at key `k`, keys kept rising. -/
def Tbl.put : Tbl α → Nat → α → Tbl α
  | [], k, v => [(k, v)]
  | (a, w) :: t, k, v =>
    if k < a then (k, v) :: (a, w) :: t
    else if k = a then (a, v) :: t
    else (a, w) :: Tbl.put t k v

/-- `t` with `v` at key `k`; the default is not listed. -/
def Tbl.write [DecidableEq α] (d : α) (t : Tbl α) (k : Nat) (v : α) : Tbl α :=
  if v = d then Tbl.drop t k else Tbl.put t k v

/-- Change the entry at `k`. -/
def Tbl.upd (d : α) (t : Tbl α) (k : Nat) (f : α → α) : Tbl α :=
  Tbl.put t k (f (Tbl.get d t k))

/-- Every key of `t` is above `k`. -/
def Tbl.above (k : Nat) (t : Tbl α) : Bool := t.all fun p => decide (k < p.1)

/-- Keys strictly rising. -/
def Tbl.rising : Tbl α → Bool
  | [] => true
  | (a, _) :: t => Tbl.above a t && Tbl.rising t

/-- The canonical form: keys strictly rising, and no entry equal to the default. -/
def Tbl.wf [DecidableEq α] (d : α) (t : Tbl α) : Bool :=
  Tbl.rising t && t.all fun p => decide (p.2 ≠ d)

/-- `n` consecutive values from key `k` on. -/
def Tbl.slice (d : α) (t : Tbl α) (k n : Nat) : List α :=
  (List.range n).map fun i => Tbl.get d t (k + i)

/-- Write the values of a list at `k`, `k + 1`, … in the canonical form. -/
def Tbl.writeList [DecidableEq α] (d : α) (t : Tbl α) (k : Nat) : List α → Tbl α
  | [] => t
  | v :: vs => Tbl.writeList d (Tbl.write d t k v) (k + 1) vs

/-- Remove every key from `k` up to `k + n - 1`. -/
def Tbl.clear (t : Tbl α) (k n : Nat) : Tbl α :=
  t.filter fun p => decide (p.1 < k) || decide (k + n ≤ p.1)

/-- The little-endian value of a list of bytes (R11). -/
def leNat : List Byte → Nat
  | [] => 0
  | b :: bs => b.toNat + 256 * leNat bs

/-- `n` bytes of a number, little-endian (R11). -/
def leBytes : Nat → Nat → List Byte
  | 0, _ => []
  | n + 1, v => BitVec.ofNat 8 v :: leBytes n (v / 256)

/-- `n` bytes of a number, big-endian. -/
def beBytes (n v : Nat) : List Byte := (leBytes n v).reverse

/-- The big-endian value of a list of bytes. -/
def beNat (l : List Byte) : Nat := leNat l.reverse

/-- Bits `hi` to `lo` of a number. -/
def bits (v hi lo : Nat) : Nat := v / 2 ^ lo % 2 ^ (hi - lo + 1)

/-- Bit `i` of a number. -/
def bit (v i : Nat) : Bool := v.testBit i

/-- The value placed at bit `lo`. -/
def at_ (v lo : Nat) : Nat := v * 2 ^ lo

/-- The first status of a list whose cause holds. -/
def firstOf : List (Bool × Nat) → Option Nat
  | [] => none
  | (b, k) :: l => if b then some k else firstOf l

def b2n (b : Bool) : Nat := if b then 1 else 0

/-- `n` divided by `d`, rounded up. -/
def ceilDiv (n d : Nat) : Nat := (n + d - 1) / d

/-- `n` rounded up to a multiple of `d`. -/
def roundUp (n d : Nat) : Nat := ceilDiv n d * d

/-- Saturating addition. -/
def satAdd (top a b : Nat) : Nat := min top (a + b)

/-- A number below 2^n read as a two's-complement integer. -/
def toSigned (n v : Nat) : Int := if v < 2 ^ (n - 1) then (v : Int) else (v : Int) - 2 ^ n

/-- An integer as an n-bit two's-complement number. -/
def ofSigned (n : Nat) (i : Int) : Nat := (i % (2 ^ n : Int)).toNat

/-- The list with its element number `i` replaced. -/
def setAt (l : List α) (i : Nat) (v : α) : List α := l.set i v

/-- The first `n` elements of a list, padded with `d`. -/
def padTo (d : α) (n : Nat) (l : List α) : List α := l ++ List.replicate (n - l.length) d

/-- A list with `a` added where it is not already a member. -/
def insertNew [DecidableEq α] (a : α) (l : List α) : List α := if a ∈ l then l else l ++ [a]

end Sys2Proof.Machine
end

