-- ==== Sys2Proof/Machine/Chacha.lean ====
section
/-! DEFINITION. The generator of drop-out masks and rounding bits (07 R217 to R220). -/

namespace Sys2Proof.Machine

/-- The sixteen words of a ChaCha state. -/
abbrev CState := List W32

def cw (s : CState) (i : Nat) : W32 := s.getD i 0#32

/-- The quarter-round of RFC 8439 on words a, b, c, d. -/
def quarterRound (s : CState) (a b c d : Nat) : CState :=
  let a1 := cw s a + cw s b
  let d1 := (cw s d ^^^ a1).rotateLeft 16
  let c1 := cw s c + d1
  let b1 := (cw s b ^^^ c1).rotateLeft 12
  let a2 := a1 + b1
  let d2 := (d1 ^^^ a2).rotateLeft 8
  let c2 := c1 + d2
  let b2 := (b1 ^^^ c2).rotateLeft 7
  (((s.set a a2).set b b2).set c c2).set d d2

/-- Two rounds: four columns, then four diagonals. -/
def doubleRound (s : CState) : CState :=
  let s := quarterRound s 0 4 8 12
  let s := quarterRound s 1 5 9 13
  let s := quarterRound s 2 6 10 14
  let s := quarterRound s 3 7 11 15
  let s := quarterRound s 0 5 10 15
  let s := quarterRound s 1 6 11 12
  let s := quarterRound s 2 7 8 13
  quarterRound s 3 4 9 14

def doubleRounds : Nat → CState → CState
  | 0, s => s
  | n + 1, s => doubleRounds n (doubleRound s)

/-- The initial state: constants, the key's eight little-endian words, the counter, the nonce (R217). -/
def chachaInit (key : BitVec 256) (ctr n0 n1 n2 : W32) : CState :=
  [0x61707865#32, 0x3320646E#32, 0x79622D32#32, 0x6B206574#32]
    ++ (List.range 8).map (fun i => key.extractLsb' (32 * i) 32) ++ [ctr, n0, n1, n2]

/-- The block function with 8 rounds (R217). -/
def chachaBlock (key : BitVec 256) (ctr n0 n1 n2 : W32) : CState :=
  let s := chachaInit key ctr n0 n1 n2
  List.zipWith (· + ·) (doubleRounds 4 s) s

/-- Byte `j` of the block's serialised output (R217). -/
def chachaByte (key : BitVec 256) (ctr n0 n1 n2 : W32) (j : Nat) : Nat :=
  ((cw (chachaBlock key ctr n0 n1 n2) (j / 4)).extractLsb' (8 * (j % 4)) 8).toNat

/-- The slice of element `e` under a layer word and a step number; 8 bits, or 16 when `wide` (R219). -/
def randSlice (key : BitVec 256) (layer : W32) (step : W64) (wide : Bool) (e : Nat) : Nat :=
  let e := e % 2 ^ 37
  let n1 := step.extractLsb' 0 32
  let n2 := step.extractLsb' 32 32
  let lo := chachaByte key (BitVec.ofNat 32 (e / 64)) layer n1 n2 (e % 64)
  if wide then lo + 256 * chachaByte key (BitVec.ofNat 32 (e / 64 + 2 ^ 31)) layer n1 n2 (e % 64)
  else lo

/-- The layer word: bit 31 of the layer ID replaced by the domain bit (R218). -/
def layerWord (layer : W32) (rounding : Bool) : W32 :=
  if rounding then layer ||| 0x80000000#32 else layer &&& 0x7FFFFFFF#32

/-- The layer word of a rounding write; no layer ID gives 0xFFFF_FFFF (R218). -/
def roundWord : Option W32 → W32
  | some l => layerWord l true
  | none => 0xFFFFFFFF#32

/-- The element number of a rounding write: TAG, SEQ and POS (R220). -/
def roundElem (tag seq bitOff width : Nat) : Nat :=
  (tag * 2 ^ 35 + seq % 256 * 2 ^ 27) + bitOff / width % 2 ^ 27

end Sys2Proof.Machine
end

