-- ==== Sys2Proof/Machine/Float.lean ====
section
/-! DEFINITION. Exact values and FP32 arithmetic (03 R84, R86, R95; 02 R50, R53, R65, R72).

Every operation computes the exact value and rounds it once. -/

namespace Sys2Proof.Machine

/-- An exact value: `fin neg m e` is ±m·2^e. -/
inductive FV where
  | nan
  | inf (neg : Bool)
  | fin (neg : Bool) (m : Nat) (e : Int)
  deriving DecidableEq, Repr

/-- The eleven formats of R84. -/
inductive Fmt where
  | fp32 | bf16 | fp16 | e4m3 | e5m2 | e3m2 | e2m3 | e2m1 | int8 | int4 | fp32c
  deriving DecidableEq, Repr

/-- How a conversion rounds (R95): to nearest even, or stochastically with `n` bits `r`. -/
inductive Rnd where
  | rne
  | sr (n r : Nat)
  deriving DecidableEq, Repr

def fvZero : FV := .fin false 0 0
def fvOne : FV := .fin false 1 0

/-- ±m·2^(e - q) as whole part, remainder and denominator. -/
def splitMag (m : Nat) (e q : Int) : Nat × Nat × Nat :=
  if q ≤ e then (m * 2 ^ (e - q).toNat, 0, 1)
  else (m / 2 ^ (q - e).toNat, m % 2 ^ (q - e).toNat, 2 ^ (q - e).toNat)

/-- Whether the magnitude a + rem/den rounds to a + 1 (R95). -/
def roundsUp (rd : Rnd) (a rem den : Nat) : Bool :=
  match rd with
  | .rne => decide (2 * rem > den) || (decide (2 * rem = den) && decide (a % 2 = 1))
  | .sr n r => decide (rem * 2 ^ n / den + r ≥ 2 ^ n)

/-- m·2^e rounded to the grid of multiples of 2^q. -/
def roundAt (rd : Rnd) (m : Nat) (e q : Int) : Nat :=
  (splitMag m e q).1 + b2n (roundsUp rd (splitMag m e q).1 (splitMag m e q).2.1 (splitMag m e q).2.2)

/-- The exponent of the last place of m·2^e with `p` significant bits and no place below `emin`. -/
def ulpExp (p : Nat) (emin : Int) (m : Nat) (e : Int) : Int :=
  max (e + (Nat.log2 m + 1 : Nat) - p) emin

/-- m·2^e rounded to `p` bits with unbounded exponent, places below `emin` excepted. -/
def roundMag (p : Nat) (emin : Int) (rd : Rnd) (m : Nat) (e : Int) : Nat × Int :=
  if m = 0 then (0, emin) else (roundAt rd m e (ulpExp p emin m e), ulpExp p emin m e)

/-! Formats -/

/-- Width in bits (R84). -/
def Fmt.width : Fmt → Nat
  | .fp32 => 32 | .bf16 => 16 | .fp16 => 16 | .e4m3 => 8 | .e5m2 => 8
  | .e3m2 => 6 | .e2m3 => 6 | .e2m1 => 4 | .int8 => 8 | .int4 => 4 | .fp32c => 64

/-- Mantissa bits (R84). -/
def Fmt.man : Fmt → Nat
  | .fp32 => 23 | .bf16 => 7 | .fp16 => 10 | .e4m3 => 3 | .e5m2 => 2
  | .e3m2 => 2 | .e2m3 => 3 | .e2m1 => 1 | _ => 0

/-- Exponent bias (R84). -/
def Fmt.bias : Fmt → Nat
  | .fp32 => 127 | .bf16 => 127 | .fp16 => 15 | .e4m3 => 7 | .e5m2 => 15
  | .e3m2 => 3 | .e2m3 => 1 | .e2m1 => 1 | _ => 0

/-- Encoding of the largest finite magnitude (R84). -/
def Fmt.maxCode : Fmt → Nat
  | .fp32 => 0x7F7FFFFF | .bf16 => 0x7F7F | .fp16 => 0x7BFF | .e4m3 => 0x7E | .e5m2 => 0x7B
  | .e3m2 => 0x1F | .e2m3 => 0x1F | .e2m1 => 0x7 | .int8 => 127 | .int4 => 7 | .fp32c => 0

/-- Encoding of +∞, where the format has one (R84). -/
def Fmt.infCode : Fmt → Option Nat
  | .fp32 => some 0x7F800000 | .bf16 => some 0x7F80 | .fp16 => some 0x7C00 | .e5m2 => some 0x7C
  | _ => none

/-- The canonical NaN, where the format has one (R86). -/
def Fmt.nanCode : Fmt → Option Nat
  | .fp32 => some 0x7FC00000 | .bf16 => some 0x7FC0 | .fp16 => some 0x7E00
  | .e4m3 => some 0x7F | .e5m2 => some 0x7E | _ => none

def Fmt.isInt : Fmt → Bool
  | .int8 => true | .int4 => true | _ => false

/-- The unbiased exponent of the largest finite magnitude, for block scaling (R91). -/
def Fmt.emax : Fmt → Int
  | .e4m3 => 8 | .e5m2 => 15 | .e3m2 => 4 | .e2m3 => 2 | .e2m1 => 2 | _ => 0

/-- The exponent of an integer element's unit when block-scaled: n·2^(X − 6) or n·2^(X − 2) (R88). -/
def Fmt.intUnit : Fmt → Int
  | .int8 => -6 | .int4 => -2 | _ => 0

/-- Exponent of the smallest place. -/
def Fmt.emin (f : Fmt) : Int := 1 - (f.bias : Int) - (f.man : Int)

/-- The format codes of R84; 0xB to 0xF are reserved. -/
def Fmt.ofCode : Nat → Option Fmt
  | 0 => some .fp32 | 1 => some .bf16 | 2 => some .fp16 | 3 => some .e4m3 | 4 => some .e5m2
  | 5 => some .e3m2 | 6 => some .e2m3 | 7 => some .e2m1 | 8 => some .int8 | 9 => some .int4
  | 10 => some .fp32c | _ => none

def Fmt.code : Fmt → Nat
  | .fp32 => 0 | .bf16 => 1 | .fp16 => 2 | .e4m3 => 3 | .e5m2 => 4 | .e3m2 => 5 | .e2m3 => 6
  | .e2m1 => 7 | .int8 => 8 | .int4 => 9 | .fp32c => 10

/-- Formats 0x3 to 0x9 may be block-scaled (R89). -/
def Fmt.scalable : Fmt → Bool
  | .fp32 => false | .bf16 => false | .fp16 => false | .fp32c => false | _ => true

/-- The value of a floating-point encoding (R84). -/
def Fmt.decodeFloat (f : Fmt) (code : Nat) : FV :=
  let neg := bit code (f.width - 1)
  let mag := code % 2 ^ (f.width - 1)
  let ex := mag / 2 ^ f.man
  let mn := mag % 2 ^ f.man
  if f.infCode = some mag then .inf neg
  else if f.maxCode < mag then .nan
  else if ex = 0 then .fin neg mn f.emin
  else .fin neg (2 ^ f.man + mn) (f.emin + ex - 1)

/-- An integer as an exact value. -/
def fvInt (i : Int) : FV := .fin (decide (i < 0)) i.natAbs 0

/-- The encoding of a magnitude rounded by `roundMag`. -/
def Fmt.encMag (f : Fmt) (r : Nat × Int) : Nat := (r.2 - f.emin).toNat * 2 ^ f.man + r.1

def Fmt.withSign (f : Fmt) (neg : Bool) (mag : Nat) : Nat := b2n neg * 2 ^ (f.width - 1) + mag

/-! FP32 -/

/-- Decode an FP32 word. -/
def fv (w : W32) : FV := Fmt.fp32.decodeFloat w.toNat

def nan32 : W32 := 0x7FC00000#32

def rndMag32 (m : Nat) (e : Int) : Nat := Fmt.fp32.encMag (roundMag 24 Fmt.fp32.emin .rne m e)

/-- A finite magnitude that rounds beyond the largest finite FP32 value (R53). -/
def ovf32 (v : FV) : Bool :=
  match v with
  | .fin _ m e => decide (Fmt.fp32.maxCode < rndMag32 m e)
  | _ => false

/-- An exact value rounded once to FP32, nearest even; NaN is canonical, overflow gives ±∞ (R53, R72). -/
def round32 (v : FV) : W32 :=
  match v with
  | .nan => nan32
  | .inf neg => BitVec.ofNat 32 (Fmt.fp32.withSign neg 0x7F800000)
  | .fin neg m e =>
    BitVec.ofNat 32 (Fmt.fp32.withSign neg (min (rndMag32 m e) 0x7F800000))

/-! Exact arithmetic -/

def FV.neg : FV → FV
  | .nan => .nan
  | .inf s => .inf (!s)
  | .fin s m e => .fin (!s) m e

def FV.isNan : FV → Bool
  | .nan => true | _ => false

def FV.isInf : FV → Bool
  | .inf _ => true | _ => false

def FV.isFin : FV → Bool
  | .fin _ _ _ => true | _ => false

def FV.isZero : FV → Bool
  | .fin _ m _ => decide (m = 0) | _ => false

def FV.sign : FV → Bool
  | .nan => false | .inf s => s | .fin s _ _ => s

/-- A finite value as an integer multiple of 2^q, for q at or below its exponent. -/
def scaled (s : Bool) (m : Nat) (e q : Int) : Int :=
  if s then -((m * 2 ^ (e - q).toNat : Nat) : Int) else ((m * 2 ^ (e - q).toNat : Nat) : Int)

/-- The exact sum; a zero sum is −0 only if both operands carry a minus sign (R53). -/
def FV.add (a b : FV) : FV :=
  match a, b with
  | .nan, _ => .nan
  | _, .nan => .nan
  | .inf s, .inf t => if s = t then .inf s else .nan
  | .inf s, _ => .inf s
  | _, .inf t => .inf t
  | .fin s m e, .fin t n g =>
    let q := min e g
    let z := scaled s m e q + scaled t n g q
    .fin (if z = 0 then s && t else decide (z < 0)) z.natAbs q

def FV.sub (a b : FV) : FV := FV.add a b.neg

/-- The exact product (R53: ∞ × 0 is NaN). -/
def FV.mul (a b : FV) : FV :=
  match a, b with
  | .nan, _ => .nan
  | _, .nan => .nan
  | .inf s, .inf t => .inf (s != t)
  | .inf s, .fin t n _ => if n = 0 then .nan else .inf (s != t)
  | .fin s m _, .inf t => if m = 0 then .nan else .inf (s != t)
  | .fin s m e, .fin t n g => .fin (s != t) (m * n) (e + g)

/-- a < b; false where either is NaN. -/
def FV.lt (a b : FV) : Bool :=
  match a, b with
  | .nan, _ => false
  | _, .nan => false
  | .inf s, .inf t => s && !t
  | .inf s, _ => s
  | _, .inf t => !t
  | .fin s m e, .fin t n g => decide (scaled s m e (min e g) < scaled t n g (min e g))

/-- a = b, +0 equal to −0; false where either is NaN. -/
def FV.eq (a b : FV) : Bool := !a.isNan && !b.isNan && !FV.lt a b && !FV.lt b a

def FV.le (a b : FV) : Bool := FV.lt a b || FV.eq a b

def FV.abs : FV → FV
  | .nan => .nan
  | .inf _ => .inf false
  | .fin _ m e => .fin false m e

/-- floor(log2 |v|) of a nonzero finite value. -/
def log2Mag (m : Nat) (e : Int) : Int := e + (Nat.log2 m : Nat)

/-- v · 2^k, exactly. -/
def FV.shift (v : FV) (k : Int) : FV :=
  match v with
  | .fin s m e => .fin s m (e + k)
  | w => w

/-! FP32 operations: the exact result, rounded once -/

def add32 (a b : W32) : W32 := round32 ((fv a).add (fv b))
def sub32 (a b : W32) : W32 := round32 ((fv a).sub (fv b))
def mul32 (a b : W32) : W32 := round32 ((fv a).mul (fv b))
def fma32 (a b d : W32) : W32 := round32 (((fv a).mul (fv b)).add (fv d))

/-- The maximum; NaN if either is NaN, MAX(−0, +0) = +0 (R157). -/
def max32 (a b : W32) : W32 :=
  if (fv a).isNan || (fv b).isNan then nan32
  else if (fv a).isZero && (fv b).isZero then (if (fv a).sign then b else a)
  else if FV.lt (fv a) (fv b) then b else a

/-- The minimum; NaN if either is NaN, MIN(−0, +0) = −0 (R157). -/
def min32 (a b : W32) : W32 :=
  if (fv a).isNan || (fv b).isNan then nan32
  else if (fv a).isZero && (fv b).isZero then (if (fv a).sign then a else b)
  else if FV.lt (fv b) (fv a) then b else a

def isNan32 (a : W32) : Bool := (fv a).isNan
def isFin32 (a : W32) : Bool := (fv a).isFin

/-- fp32c_add of R65, with whether the renormalised sum overflowed from finite operands. -/
def fp32cAdd (hi lo x : W32) : W32 × W32 :=
  let s := add32 hi x
  if !isFin32 s then (if isNan32 s then (nan32, nan32) else (s, s))
  else
    let bp := sub32 s hi
    let e := add32 (sub32 hi (sub32 s bp)) (sub32 x bp)
    let lo := add32 lo e
    let h2 := add32 s lo
    if (fv h2).isInf then (h2, h2)
    else (h2, sub32 lo (sub32 h2 s))

/-- An infinite pair that finite operands formed counts as an overflow (R65). -/
def fp32cOvf (hi x : W32) (r : W32 × W32) : Bool :=
  isFin32 hi && isFin32 x && (fv r.1).isInf

/-! Transcendental functions (R72), in fixed point with 256 fraction bits and a sticky bit -/

/-- ln 2 · 2^256, rounded down. -/
def ln2Fix : Nat := 0xb17217f7d1cf79abc9e3b39803f2f6af40f343267298b62d8a0d175b8baafa2b

/-- Terms of e^r · 2^256: `t` is the current term, `k` its number. -/
def expSeries (r : Nat) : Nat → Nat → Nat → Nat
  | 0, _, _ => 0
  | n + 1, t, k => t + expSeries r n (t * r / (2 ^ 256 * k)) (k + 1)

/-- e^(r / 2^256) · 2^256 for 0 ≤ r < ln 2 · 2^256. -/
def expFix (r : Nat) : Nat := expSeries r 64 (2 ^ 256) 1

/-- ±m·2^e in units of 2^−256, for e ≥ −256. -/
def toFix (s : Bool) (m : Nat) (e : Int) : Int := scaled s m e (-256)

/-- An irrational result v·2^(k − 256) that rounds as the true one: a sticky bit below it. -/
def sticky (v : Nat) (k : Int) : FV := .fin false (2 * v + 1) (k - 257)

/-- The exact e^a, to far more places than any rounding needs. -/
def fvExp (a : FV) : FV :=
  match a with
  | .nan => .nan
  | .inf s => if s then fvZero else .inf false
  | .fin s m e =>
    if m = 0 then fvOne
    else if log2Mag m e ≥ 8 then (if s then .fin false 1 (-1000) else .fin false 1 1000)
    else
      let x := toFix s m e
      let k := x / (ln2Fix : Int)
      sticky (expFix (x % (ln2Fix : Int)).toNat) k

/-- The exact 2^a. -/
def fvExp2 (a : FV) : FV :=
  match a with
  | .nan => .nan
  | .inf s => if s then fvZero else .inf false
  | .fin s m e =>
    if m = 0 then fvOne
    else if log2Mag m e ≥ 8 then (if s then .fin false 1 (-1000) else .fin false 1 1000)
    else
      let x := toFix s m e
      let k := x / (2 ^ 256 : Int)
      let f := (x % (2 ^ 256 : Int)).toNat
      if f = 0 then .fin false 1 k else sticky (expFix (f * ln2Fix / 2 ^ 256)) k

/-- 1/a. The spec states no result for a zero (log 17). -/
def fvRcp (a : FV) : Option FV :=
  match a with
  | .nan => some .nan
  | .inf s => some (.fin s 0 0)
  | .fin s m e =>
    if m = 0 then none
    else
      let n := 2 ^ (Nat.log2 m + 64)
      some (.fin s (2 * (n / m) + b2n (decide (n % m ≠ 0))) (-(Nat.log2 m + 65 : Nat) - e))

/-- The integer square root, one bit at a time. -/
def isqrtAux (v : Nat) : Nat → Nat → Nat
  | 0, r => r
  | n + 1, r => isqrtAux v n (if (r + 2 ^ n) * (r + 2 ^ n) ≤ v then r + 2 ^ n else r)

def isqrt (v : Nat) : Nat := isqrtAux v (Nat.log2 v / 2 + 1) 0

/-- 1/√a. The spec states no result for a zero or a negative value (log 17). -/
def fvRsq (a : FV) : Option FV :=
  match a with
  | .nan => some .nan
  | .inf s => if s then none else some fvZero
  | .fin s m e =>
    if m = 0 || s then none
    else
      let odd := decide (e % 2 = 1)
      let m' := if odd then 2 * m else m
      let e' := if odd then e - 1 else e
      let k := Nat.log2 m' + 64
      let n := 2 ^ (2 * k) / m'
      let r := isqrt n
      let exact := decide (r * r * m' = 2 ^ (2 * k))
      some (.fin false (2 * r + b2n (!exact)) (-(k : Nat) - 1 - e' / 2))

end Sys2Proof.Machine
end

