-- ==== Sys2Proof/Machine/Formats.lean ====
section
/-! DEFINITION. Row records, block scaling and conversion through a recipe class
(03 R85 to R98, R103; 02 R70). -/

namespace Sys2Proof.Machine

/-- An effective format: the format, and the block size where it is block-scaled (R101). -/
structure Eff where
  fmt : Fmt
  blk : Option Nat
  deriving DecidableEq, Repr

/-- The conversion attributes of a recipe class (R99). -/
structure ConvAttr where
  floor : Bool
  nonSat : Bool
  deriving DecidableEq, Repr

/-- A value about to be written: an FP32 word, an integer of an INT32 slot, or an FP32C pair. -/
inductive Src where
  | f (w : W32)
  | i (n : Int)
  | p (w : W64)
  deriving DecidableEq, Repr

/-- What a conversion counts (R112). -/
structure Tally where
  elems : Nat := 0
  ovf : Nat := 0
  zeros : Nat := 0
  under : Nat := 0
  sat : Nat := 0
  nonfin : Nat := 0
  miss : Nat := 0
  maxAbs : Nat := 0
  unrep : Bool := false
  deriving DecidableEq, Repr

def Tally.add (a b : Tally) : Tally :=
  { elems := a.elems + b.elems, ovf := a.ovf + b.ovf, zeros := a.zeros + b.zeros,
    under := a.under + b.under, sat := a.sat + b.sat, nonfin := a.nonfin + b.nonfin,
    miss := a.miss + b.miss, maxAbs := max a.maxAbs b.maxAbs, unrep := a.unrep || b.unrep }

def Tally.sum (l : List Tally) : Tally := l.foldr Tally.add {}

/-! Packing (R85): element i takes bits w·i to w·i + w − 1 of the row's little-endian bit string. -/

def packBits (w : Nat) : List Nat → Nat
  | [] => 0
  | c :: cs => c % 2 ^ w + 2 ^ w * packBits w cs

def unpackBits (w : Nat) : Nat → Nat → List Nat
  | 0, _ => []
  | n + 1, v => v % 2 ^ w :: unpackBits w n (v / 2 ^ w)

/-- Elements in the element area of a row of `len` (R90). -/
def Eff.areaElems (e : Eff) (len : Nat) : Nat :=
  match e.blk with
  | some b => roundUp len b
  | none => len

/-- Bytes of the element area (R90). -/
def Eff.elemArea (e : Eff) (len : Nat) : Nat := roundUp (ceilDiv (e.areaElems len * e.fmt.width) 8) 64

/-- Bytes of the scale area (R90). -/
def Eff.scaleArea (e : Eff) (len : Nat) : Nat :=
  match e.blk with
  | some b => roundUp (ceilDiv len b) 64
  | none => 0

/-- Bytes of a row record (R90). -/
def Eff.rowBytes (e : Eff) (len : Nat) : Nat := e.elemArea len + e.scaleArea len

/-- The bytes of a row record that hold its elements, without the padding after them. -/
def Eff.dataBytes (e : Eff) (len : Nat) : Nat := ceilDiv (e.areaElems len * e.fmt.width) 8

/-! Reading -/

/-- The exact value of an unscaled element; an FP32C pair is hi + lo, or hi where hi is not finite (R84, R87, R88). -/
def Fmt.value (f : Fmt) (code : Nat) : FV :=
  match f with
  | .int8 => fvInt (toSigned 8 code)
  | .int4 => fvInt (toSigned 4 code)
  | .fp32c =>
    let hi := Fmt.fp32.decodeFloat (code % 2 ^ 32)
    if hi.isFin then hi.add (Fmt.fp32.decodeFloat (code / 2 ^ 32)) else hi
  | f => f.decodeFloat code

/-- The exact value of an element under scale byte `sc` (R88, R89, R93). -/
def Fmt.scaledValue (f : Fmt) (sc code : Nat) : FV :=
  if sc = 255 then .nan else (f.value code).shift ((sc : Int) - 127 + f.intUnit)

/-- A stored row: its element codes and its scale bytes. -/
structure RowCodes where
  codes : List Nat
  scales : List Nat
  deriving DecidableEq, Repr

/-- A row record of `len` elements taken apart (R90). -/
def Eff.unpackRow (e : Eff) (len : Nat) (bytes : List Byte) : RowCodes :=
  { codes := unpackBits e.fmt.width len (leNat (bytes.take (e.elemArea len)))
    scales := match e.blk with
      | some b => ((bytes.drop (e.elemArea len)).take (ceilDiv len b)).map BitVec.toNat
      | none => [] }

/-- The exact value of element `i` of a row (R93). -/
def Eff.elemValue (e : Eff) (r : RowCodes) (i : Nat) : FV :=
  match e.blk with
  | some b => e.fmt.scaledValue (r.scales.getD (i / b) 0) (r.codes.getD i 0)
  | none => e.fmt.value (r.codes.getD i 0)

/-- An element as the vector unit widens it to FP32 (R93; FP32C reads as hi, R87). -/
def Eff.elem32 (e : Eff) (r : RowCodes) (i : Nat) : W32 :=
  if e.fmt = .fp32c then round32 (Fmt.fp32.decodeFloat (r.codes.getD i 0 % 2 ^ 32))
  else round32 (e.elemValue r i)

/-! Writing one element -/

/-- One written element: its code and what it counts. -/
structure Conv where
  code : Nat
  tally : Tally
  deriving DecidableEq, Repr

/-- MAX_ABS counts the largest finite magnitude before conversion, as FP32 bits (R112). A magnitude that is no FP32 value is
rounded to nearest, ties to even, and at most the largest finite one: DESIGN CHOICE (log 53). -/
def absBits (v : FV) : Nat :=
  match v with
  | .fin _ m e => min (rndMag32 m e) Fmt.fp32.maxCode
  | _ => 0

def tallyFin (v : FV) (zero : Bool) : Tally :=
  { elems := 1, zeros := b2n zero, under := b2n (zero && !v.isZero), maxAbs := absBits v }

/-- An overflow, written by R96. -/
def convOvf (f : Fmt) (nonSat neg : Bool) (v : FV) : Conv :=
  let t : Tally := { elems := 1, ovf := 1, maxAbs := absBits v }
  if nonSat then
    match f.infCode, f.nanCode with
    | some c, _ => { code := f.withSign neg c, tally := { t with nonfin := 1 } }
    | none, some c => { code := c, tally := { t with nonfin := 1 } }
    | none, none => { code := f.withSign neg f.maxCode, tally := { t with sat := 1 } }
  else { code := f.withSign neg f.maxCode, tally := { t with sat := 1 } }

/-- A non-finite value, written by R97. -/
def convNonFin (f : Fmt) (v : FV) : Conv :=
  let t : Tally := { elems := 1, nonfin := 1 }
  match v with
  | .inf neg =>
    match f.infCode, f.nanCode with
    | some c, _ => { code := f.withSign neg c, tally := t }
    | none, some c => { code := c, tally := { t with unrep := true } }
    | none, none => { code := 0, tally := { t with unrep := true } }
  | _ =>
    match f.nanCode with
    | some c => { code := c, tally := t }
    | none => { code := 0, tally := { t with unrep := true } }

/-- A finite value written to an unscaled floating-point format (R95, R96). -/
def convFloat (f : Fmt) (rd : Rnd) (nonSat neg : Bool) (m : Nat) (e : Int) : Conv :=
  let c := f.encMag (roundMag (f.man + 1) f.emin rd m e)
  if f.maxCode < c then convOvf f nonSat neg (.fin neg m e)
  else { code := f.withSign neg c, tally := tallyFin (.fin neg m e) (decide (c = 0)) }

/-- The end of an integer format's range on the side of a value (R88, R96). -/
def intTop (f : Fmt) (neg : Bool) : Nat := if neg then f.maxCode + 1 else f.maxCode

def intCode (f : Fmt) (neg : Bool) (n : Nat) : Nat :=
  ofSigned f.width (if neg then -(n : Int) else n)

/-- A finite value written to an unscaled integer format: rounded to an integer, then clamped (R96). -/
def convInt (f : Fmt) (rd : Rnd) (neg : Bool) (m : Nat) (e : Int) : Conv :=
  let n := roundAt rd m e 0
  if intTop f neg < n then
    { code := intCode f neg (intTop f neg),
      tally := { elems := 1, ovf := 1, sat := 1, maxAbs := absBits (.fin neg m e) } }
  else { code := intCode f neg n, tally := tallyFin (.fin neg m e) (decide (n = 0)) }

/-- One value written unscaled. -/
def conv (f : Fmt) (rd : Rnd) (nonSat : Bool) (v : FV) : Conv :=
  match v with
  | .fin neg m e => if f.isInt then convInt f rd neg m e else convFloat f rd nonSat neg m e
  | v => convNonFin f v

/-! Writing a block (R91) -/

/-- MAXF of a format, as a block-scaled element (R88, R91). -/
def Fmt.maxF (f : Fmt) : FV :=
  if f.isInt then .fin false f.maxCode f.intUnit else f.decodeFloat f.maxCode

/-- The largest finite magnitude of a block. -/
def amax : List FV → FV
  | [] => fvZero
  | v :: vs => if v.isFin && FV.lt (amax vs) v.abs then v.abs else amax vs

/-- The scale exponent X of a block whose largest magnitude is `a` (R91). -/
def scaleExp (f : Fmt) (floor : Bool) (a : FV) : Int :=
  match a with
  | .fin _ m e =>
    if m = 0 then -127
    else
      let x0 := log2Mag m e - f.emax
      let x := if !floor && FV.lt f.maxF (a.shift (-x0)) then x0 + 1 else x0
      max (min x 127) (-127)
  | _ => -127

/-- One value of a block with scale exponent X (R91, R92, R96). An overflow is a value whose own quotient rounds past MAXF (R96):
that a block with X capped at 127 none of whose quotients does so has no overflow, whatever R91's flag says, is the model's
choice (log 63). -/
def convScaled (f : Fmt) (rd : Rnd) (floor : Bool) (x : Int) (v : FV) : Conv :=
  match v with
  | .fin neg m e =>
    let q : FV := .fin false m (e - x)
    let clamp : Nat := if f.isInt then intCode f neg f.maxCode else f.withSign neg f.maxCode
    if floor && FV.lt f.maxF q then
      { code := clamp, tally := { elems := 1, sat := 1, maxAbs := absBits v } }
    else
      let c := if f.isInt then roundAt rd m (e - x) f.intUnit
        else f.encMag (roundMag (f.man + 1) f.emin rd m (e - x))
      if f.maxCode < c then
        { code := clamp, tally := { elems := 1, ovf := 1, sat := 1, maxAbs := absBits v } }
      else
        { code := if f.isInt then intCode f neg c else f.withSign neg c,
          tally := tallyFin v (decide (c = 0)) }
  | v => { code := 0, tally := { elems := 1, nonfin := 1, unrep := v.isInf } }

/-- A block: its scale byte and its elements. The finite elements of a 0xFF block, written as zero bits, count in NONFINITE
only, not as ZEROS or UNDERFLOWS: DESIGN CHOICE (log 53; R112). -/
def convBlock (f : Fmt) (floor : Bool) (vs : List (FV × Rnd)) : Nat × List Conv :=
  if vs.all fun p => p.1.isFin then
    let x := scaleExp f floor (amax (vs.map Prod.fst))
    ((x + 127).toNat, vs.map fun p => convScaled f p.2 floor x p.1)
  else
    (255, vs.map fun p =>
      { code := 0, tally := { elems := 1, nonfin := 1, unrep := p.1.isInf, maxAbs := absBits p.1 } })

/-- A list cut into chunks of `b`, for at most `n` chunks. -/
def chunks {α : Type} (b : Nat) : Nat → List α → List (List α)
  | 0, _ => []
  | n + 1, l => if l.isEmpty then [] else l.take b :: chunks b n (l.drop b)

/-! Writing a row -/

/-- The exact value of a source as it enters a conversion to `f` (R70, R153). -/
def Src.value (f : Fmt) : Src → FV
  | .f w => fv w
  | .i n => if f.isInt then fvInt n else fv (round32 (fvInt n))
  | .p w => Fmt.fp32c.value w.toNat

/-- A source as an FP32C pair, hi in the low word (R70, R87, R153). -/
def Src.pair : Src → W64
  | .f w => BitVec.ofNat 64 (round32 (fv w)).toNat
  | .i n =>
    let hi := round32 (fvInt n)
    let lo := round32 ((fvInt n).sub (fv hi))
    BitVec.ofNat 64 (hi.toNat + lo.toNat * 2 ^ 32)
  | .p w => w

/-- A pair written to FP32C counts by its value. -/
def convPair (s : Src) : Conv :=
  let v := match s with
    | .i n => fvInt n
    | s => s.value .fp32c
  { code := s.pair.toNat
    tally := if v.isFin then tallyFin v v.isZero else { elems := 1, nonfin := 1 } }

/-- The bytes of a row record from its element codes and scale bytes (R85, R90). -/
def Eff.packRow (e : Eff) (codes scales : List Nat) : List Byte :=
  leBytes (e.elemArea codes.length) (packBits e.fmt.width codes)
    ++ padTo 0 (e.scaleArea codes.length) (scales.map (BitVec.ofNat 8))

/-- A row written through a class: its bytes and its tally. `rd i` is the rounding of element `i`;
FP32 and FP32C never round stochastically (R95). -/
def convRow (e : Eff) (a : ConvAttr) (rd : Nat → Rnd) (srcs : List Src) : List Byte × Tally :=
  match e.fmt with
  | .fp32c =>
    let cs := srcs.map convPair
    (e.packRow (cs.map Conv.code) [], Tally.sum (cs.map Conv.tally))
  | f =>
    let vs := srcs.zipIdx.map fun p => (p.1.value f, if f = .fp32 then Rnd.rne else rd p.2)
    match e.blk with
    | none =>
      let cs := vs.map fun p => conv f p.2 a.nonSat p.1
      (e.packRow (cs.map Conv.code) [], Tally.sum (cs.map Conv.tally))
    | some b =>
      let bs := (chunks b vs.length vs).map fun blk => convBlock f a.floor blk
      let cs := (bs.map Prod.snd).flatten
      (e.packRow (cs.map Conv.code) (bs.map Prod.fst), Tally.sum (cs.map Conv.tally))

/-- BF16 of R98: nearest even, ±∞ above the range, canonical NaN. -/
def toBf16 (v : FV) : Nat :=
  match v with
  | .nan => 0x7FC0
  | .inf neg => Fmt.bf16.withSign neg 0x7F80
  | .fin neg m e =>
    Fmt.bf16.withSign neg (min (Fmt.bf16.encMag (roundMag 8 Fmt.bf16.emin .rne m e)) 0x7F80)

/-! The ladder (R103) -/

def Fmt.successor : Fmt → Option Fmt
  | .e2m1 => some .e3m2
  | .e2m3 => some .e4m3 | .e3m2 => some .e4m3
  | .e4m3 => some .bf16 | .e5m2 => some .bf16
  | .int4 => some .int8
  | .int8 => some .bf16
  | .fp16 => some .fp32 | .bf16 => some .fp32
  | .fp32 => none | .fp32c => none

/-- The rungs from `f` on, `f` first, at most `n`. -/
def Fmt.rungs : Nat → Fmt → List Fmt
  | 0, _ => []
  | n + 1, f => f :: (match f.successor with | some g => Fmt.rungs n g | none => [])

/-- How many rungs `g` lies above `f`, where it is reachable. -/
def Fmt.rungOf (f g : Fmt) : Option Nat := (Fmt.rungs 6 f).idxOf? g

/-- The higher of two rungs of the ladder that starts at `f`. -/
def Fmt.higher (f a b : Fmt) : Fmt :=
  if (f.rungOf a).getD 0 < (f.rungOf b).getD 0 then b else a

/-- The rung below `g` on the ladder from `f`. -/
def Fmt.rungBelow (f g : Fmt) : Fmt := (Fmt.rungs 6 f).getD ((f.rungOf g).getD 0 - 1) f

/-- Block scaling of a rung: kept while the format is one of 0x3 to 0x9 (R103). -/
def Fmt.rungEff (g : Fmt) (blk : Option Nat) : Eff := ⟨g, if g.scalable then blk else none⟩

end Sys2Proof.Machine
end

