-- ==== Sys2Proof/Machine/Kwemin.lean ====
section
/-! DEFINITION. The Kwemin instruction word: its operations, its decoding and its encoding
(05 R142 to R175). Field names are the manual's in lower case. -/

namespace Sys2Proof.Machine

/-- The memories of a core that SECDED covers (R79, R80, R358). -/
inductive SramMem where | os | acc | vec
  deriving DecidableEq, Repr

/-- The faults that stop a stream (02 R81, 03 R114, 04 R116 to R136, 05 R144, R177), the refusal of a
collective descriptor (R169, by its code in 09), and the cause of a hang (12). -/
inductive FaultCode where
  | insnBadClass | insnBadOpcode | streamTag | deferBad | syncBadSide | insnReserved | insnRange
  | ctrlFetch | ctrlLoopMismatch | ctrlLoopUnopened | ctrlLoopDepth
  | syncCtrRange | accSlotRange | vecRegRange | vecLaneRange
  | numBadClass | mmBadFormat | mmBadGroup | mmSlotType | accSpillBound
  | layerCarriedSlot | layerNested | layerUnopened | layerIdReused | layerNotReplayable
  | layerHeldFull | layerBadId | layerOpenAtHalt
  | osAlign | osRange | numStrideShort
  | moveAlign | moveUnmapped | moveNoAdder | moveQueueRange | moveViewWrite
  | memPoisoned | nearTag | sramUe (mem : SramMem) | numNonfinite | numFp32Overflow | meridianUnbalanced
  | collNotLead | collRefused (status : Nat)
  deriving DecidableEq, Repr

/-- The name of a fault in the manual. -/
def FaultCode.name : FaultCode → String
  | .insnBadClass => "INSN_BAD_CLASS" | .insnBadOpcode => "INSN_BAD_OPCODE" | .streamTag => "STREAM_TAG"
  | .deferBad => "DEFER_BAD" | .syncBadSide => "SYNC_BAD_SIDE" | .insnReserved => "INSN_RESERVED"
  | .insnRange => "INSN_RANGE" | .ctrlFetch => "CTRL_FETCH" | .ctrlLoopMismatch => "CTRL_LOOP_MISMATCH"
  | .ctrlLoopUnopened => "CTRL_LOOP_UNOPENED" | .ctrlLoopDepth => "CTRL_LOOP_DEPTH"
  | .syncCtrRange => "SYNC_CTR_RANGE" | .accSlotRange => "ACC_SLOT_RANGE" | .vecRegRange => "VEC_REG_RANGE"
  | .vecLaneRange => "VEC_LANE_RANGE" | .numBadClass => "NUM_BAD_CLASS" | .mmBadFormat => "MM_BAD_FORMAT"
  | .mmBadGroup => "MM_BAD_GROUP" | .mmSlotType => "MM_SLOT_TYPE" | .accSpillBound => "ACC_SPILL_BOUND"
  | .layerCarriedSlot => "LAYER_CARRIED_SLOT" | .layerNested => "LAYER_NESTED"
  | .layerUnopened => "LAYER_UNOPENED" | .layerIdReused => "LAYER_ID_REUSED"
  | .layerNotReplayable => "LAYER_NOT_REPLAYABLE" | .layerHeldFull => "LAYER_HELD_FULL"
  | .layerBadId => "LAYER_BAD_ID" | .layerOpenAtHalt => "LAYER_OPEN_AT_HALT" | .osAlign => "OS_ALIGN"
  | .osRange => "OS_RANGE" | .numStrideShort => "NUM_STRIDE_SHORT" | .moveAlign => "MOVE_ALIGN"
  | .moveUnmapped => "MOVE_UNMAPPED" | .moveNoAdder => "MOVE_NO_ADDER" | .moveQueueRange => "MOVE_QUEUE_RANGE"
  | .moveViewWrite => "MOVE_VIEW_WRITE" | .memPoisoned => "MEM_POISONED" | .nearTag => "NEAR_TAG"
  | .sramUe _ => "SRAM_UE" | .numNonfinite => "NUM_NONFINITE" | .numFp32Overflow => "NUM_FP32_OVERFLOW"
  | .meridianUnbalanced => "MERIDIAN_UNBALANCED" | .collNotLead => "COLL_NOT_LEAD" | .collRefused _ => "COLL_REFUSED"

/-- The common tail: DCTR, DCTR_EN, PUSH and POP (R145). -/
structure KwTail where
  dctr : BitVec 16 := 0#16
  en : Bool := false
  push : Bool := false
  pop : Bool := false
  deriving DecidableEq, Repr

/-- Operands of MM.LOADW (R150). -/
structure LoadwF where
  kl : BitVec 11
  nl : BitVec 9
  tb : Bool
  cls : BitVec 4
  lsrc : Bool
  bx : BitVec 4
  off : BitVec 20
  stride : BitVec 12
  deriving DecidableEq, Repr

/-- Operands of MM.RUN (R151). -/
structure RunF where
  slot : BitVec 6
  tb : Bool
  mode : Bool
  group : BitVec 2
  spill : Bool
  spillSlot : BitVec 4
  m : BitVec 9
  k : BitVec 11
  n : BitVec 9
  cls : BitVec 4
  lsrc : Bool
  ax : BitVec 4
  off : BitVec 20
  stride : BitVec 12
  deriving DecidableEq, Repr

/-- Operands of ACC.READ (R153). -/
structure AccReadF where
  slot : BitVec 6
  src : Bool
  clear : Bool
  m : BitVec 9
  n : BitVec 9
  cls : BitVec 4
  lsrc : Bool
  statsSlot : BitVec 8
  dx : BitVec 4
  off : BitVec 20
  stride : BitVec 12
  deriving DecidableEq, Repr

/-- Operands of ACC.WRITE (R154). -/
structure AccWriteF where
  slot : BitVec 6
  m : BitVec 9
  n : BitVec 9
  cls : BitVec 4
  lsrc : Bool
  sx : BitVec 4
  off : BitVec 20
  stride : BitVec 12
  deriving DecidableEq, Repr

/-- Operands of ACC.RSCALE (R155). -/
structure RscaleF where
  slot : BitVec 6
  m : BitVec 9
  vreg : BitVec 6
  deriving DecidableEq, Repr

/-- Operands of ACC.RESUME (R155). -/
structure ResumeF where
  slot : BitVec 6
  spillSlot : BitVec 4
  deriving DecidableEq, Repr

/-- Operands of VEC.ALU (R157). -/
structure AluF where
  fn : BitVec 6
  count : BitVec 11
  osr : BitVec 2
  cls : BitVec 4
  statsSlot : BitVec 8
  lsrc : Bool
  bb : Bool
  seg : BitVec 3
  vd : BitVec 6
  va : BitVec 6
  vb : BitVec 6
  osx : BitVec 4
  stride : BitVec 12
  off : BitVec 15
  deriving DecidableEq, Repr

/-- Operands of VEC.RED (R158). -/
structure RedF where
  fn : BitVec 6
  count : BitVec 11
  osr : BitVec 2
  cls : BitVec 4
  lane : BitVec 10
  seg : BitVec 3
  vd : BitVec 6
  va : BitVec 6
  vb : BitVec 6
  osx : BitVec 4
  stride : BitVec 12
  off : BitVec 14
  lsrc : Bool
  deriving DecidableEq, Repr

/-- Operands of VEC.OSMX (R159). -/
structure OsmxF where
  count : BitVec 11
  osr : BitVec 2
  cls : BitVec 4
  statsSlot : BitVec 8
  lsrc : Bool
  seg : BitVec 3
  vd : BitVec 6
  va : BitVec 6
  vm : BitVec 6
  lane : BitVec 10
  osx : BitVec 4
  stride : BitVec 12
  off : BitVec 12
  deriving DecidableEq, Repr

/-- Operands of VEC.FILL (R160). -/
structure FillF where
  count : BitVec 11
  lane : BitVec 10
  vd : BitVec 6
  imm : BitVec 32
  deriving DecidableEq, Repr

/-- Operands of VEC.DROP (R161). -/
structure VdropF where
  count : BitVec 11
  vd : BitVec 6
  va : BitVec 6
  vb : BitVec 6
  ex : BitVec 4
  w16 : Bool
  thresh : BitVec 16
  layer : BitVec 32
  deriving DecidableEq, Repr

/-- Operands of MOVE.LOAD and MOVE.STORE (R163). -/
structure MvF where
  mx : BitVec 4
  mstride : BitVec 20
  osx : BitVec 4
  off : BitVec 15
  stride : BitVec 12
  rows : BitVec 12
  rowLen : BitVec 11
  add : BitVec 2
  deriving DecidableEq, Repr

/-- Operands of MOVE.TLOAD (R164). -/
structure TloadF where
  mx : BitVec 4
  mstride : BitVec 20
  osx : BitVec 4
  off : BitVec 15
  stride : BitVec 12
  rows : BitVec 11
  cols : BitVec 11
  cls : BitVec 4
  lsrc : Bool
  deriving DecidableEq, Repr

/-- Operands of MOVE.GATHER (R165). -/
structure GatherF where
  mx : BitVec 4
  mstride : BitVec 20
  ixx : BitVec 4
  osx : BitVec 4
  off : BitVec 15
  stride : BitVec 12
  count : BitVec 13
  rowLen : BitVec 11
  deriving DecidableEq, Repr

/-- Operands of MOVE.DWTQ (R166). -/
structure DwtqF where
  dx : BitVec 4
  queue : BitVec 13
  count : BitVec 9
  deriving DecidableEq, Repr

/-- Operands of SYNC.WAIT (R168). -/
structure WaitF where
  t : BitVec 48
  u : BitVec 16
  mode : BitVec 2
  side : BitVec 2
  ctr : BitVec 16
  deriving DecidableEq, Repr

/-- Operands of SYNC.INC (R168). -/
structure IncF where
  amount : BitVec 32
  side : BitVec 2
  ctr : BitVec 16
  deriving DecidableEq, Repr

/-- Operands of SYNC.TOKEN (R168). -/
structure TokenF where
  side : BitVec 2
  deriving DecidableEq, Repr

/-- Operands of the COLL opcodes (R169). -/
structure CollF where
  cx : BitVec 4
  deriving DecidableEq, Repr

/-- Operands of CTRL.LOOP (R170). -/
structure LoopF where
  skip : BitVec 32
  count : BitVec 16
  deriving DecidableEq, Repr

/-- Operands of CTRL.JMP (R171). -/
structure JmpF where
  offset : BitVec 32
  deriving DecidableEq, Repr

/-- Operands of CTRL.BRC (R171). -/
structure BrcF where
  offset : BitVec 32
  t : BitVec 48
  ctr : BitVec 16
  deriving DecidableEq, Repr

/-- Operands of CTRL.XSET and CTRL.XADD (R172). -/
structure XregF where
  imm : BitVec 48
  xreg : BitVec 4
  deriving DecidableEq, Repr

/-- Operands of CTRL.SCLR (R173). -/
structure SclrF where
  count : BitVec 9
  first : BitVec 8
  deriving DecidableEq, Repr

/-- Operands of LAYER.BEGIN and LAYER.SRCID (R175). -/
structure LayerF where
  layer : BitVec 32
  deriving DecidableEq, Repr

/-- The operations of R143 with their operands. -/
inductive KwOp where
  | loadw (f : LoadwF)
  | run (f : RunF)
  | accRead (f : AccReadF)
  | accWrite (f : AccWriteF)
  | rscale (f : RscaleF)
  | resume (f : ResumeF)
  | alu (f : AluF)
  | red (f : RedF)
  | osmx (f : OsmxF)
  | fill (f : FillF)
  | vdrop (f : VdropF)
  | mload (f : MvF)
  | mstore (f : MvF)
  | tload (f : TloadF)
  | gather (f : GatherF)
  | dwtq (f : DwtqF)
  | wait (f : WaitF)
  | inc (f : IncF)
  | token (f : TokenF)
  | reduce (f : CollF)
  | collGather (f : CollF)
  | norm (f : CollF)
  | loop (f : LoopF)
  | endl
  | jmp (f : JmpF)
  | brc (f : BrcF)
  | xset (f : XregF)
  | xadd (f : XregF)
  | sclr (f : SclrF)
  | meridian
  | halt
  | lbegin (f : LayerF)
  | lend
  | srcid (f : LayerF)
  deriving DecidableEq, Repr

/-- One instruction: STATS, DEFER, TAG, the tail and the operation (R142). -/
structure Kw where
  stats : Bool
  dfr : Bool
  tag : BitVec 4
  tail : KwTail
  op : KwOp
  deriving DecidableEq, Repr

/-- Operand fields of MM.LOADW (R150). -/
def LoadwF.read (w : BitVec 128) : LoadwF :=
  { kl := w.extractLsb' 98 11, nl := w.extractLsb' 89 9, tb := w.getLsbD 88,
    cls := w.extractLsb' 84 4, lsrc := w.getLsbD 83, bx := w.extractLsb' 79 4,
    off := w.extractLsb' 59 20, stride := w.extractLsb' 47 12 }

/-- Operand fields of MM.RUN (R151). -/
def RunF.read (w : BitVec 128) : RunF :=
  { slot := w.extractLsb' 103 6, tb := w.getLsbD 102, mode := w.getLsbD 101,
    group := w.extractLsb' 99 2, spill := w.getLsbD 98, spillSlot := w.extractLsb' 94 4,
    m := w.extractLsb' 85 9, k := w.extractLsb' 74 11, n := w.extractLsb' 65 9,
    cls := w.extractLsb' 61 4, lsrc := w.getLsbD 60, ax := w.extractLsb' 56 4,
    off := w.extractLsb' 36 20, stride := w.extractLsb' 24 12 }

/-- Operand fields of ACC.READ (R153). -/
def AccReadF.read (w : BitVec 128) : AccReadF :=
  { slot := w.extractLsb' 103 6, src := w.getLsbD 102, clear := w.getLsbD 101,
    m := w.extractLsb' 92 9, n := w.extractLsb' 83 9, cls := w.extractLsb' 79 4,
    lsrc := w.getLsbD 78, statsSlot := w.extractLsb' 70 8, dx := w.extractLsb' 66 4,
    off := w.extractLsb' 46 20, stride := w.extractLsb' 34 12 }

/-- Operand fields of ACC.WRITE (R154). -/
def AccWriteF.read (w : BitVec 128) : AccWriteF :=
  { slot := w.extractLsb' 103 6, m := w.extractLsb' 94 9, n := w.extractLsb' 85 9,
    cls := w.extractLsb' 81 4, lsrc := w.getLsbD 80, sx := w.extractLsb' 76 4,
    off := w.extractLsb' 56 20, stride := w.extractLsb' 44 12 }

/-- Operand fields of ACC.RSCALE (R155). -/
def RscaleF.read (w : BitVec 128) : RscaleF :=
  { slot := w.extractLsb' 103 6, m := w.extractLsb' 94 9, vreg := w.extractLsb' 88 6 }

/-- Operand fields of ACC.RESUME (R155). -/
def ResumeF.read (w : BitVec 128) : ResumeF :=
  { slot := w.extractLsb' 103 6, spillSlot := w.extractLsb' 99 4 }

/-- Operand fields of VEC.ALU (R157). -/
def AluF.read (w : BitVec 128) : AluF :=
  { fn := w.extractLsb' 103 6, count := w.extractLsb' 92 11, osr := w.extractLsb' 90 2,
    cls := w.extractLsb' 86 4, statsSlot := w.extractLsb' 78 8, lsrc := w.getLsbD 77,
    bb := w.getLsbD 76, seg := w.extractLsb' 73 3, vd := w.extractLsb' 67 6,
    va := w.extractLsb' 61 6, vb := w.extractLsb' 55 6, osx := w.extractLsb' 51 4,
    stride := w.extractLsb' 39 12, off := w.extractLsb' 24 15 }

/-- Operand fields of VEC.RED (R158). -/
def RedF.read (w : BitVec 128) : RedF :=
  { fn := w.extractLsb' 103 6, count := w.extractLsb' 92 11, osr := w.extractLsb' 90 2,
    cls := w.extractLsb' 86 4, lane := w.extractLsb' 76 10, seg := w.extractLsb' 73 3,
    vd := w.extractLsb' 67 6, va := w.extractLsb' 61 6, vb := w.extractLsb' 55 6,
    osx := w.extractLsb' 51 4, stride := w.extractLsb' 39 12, off := w.extractLsb' 25 14,
    lsrc := w.getLsbD 24 }

/-- Operand fields of VEC.OSMX (R159). -/
def OsmxF.read (w : BitVec 128) : OsmxF :=
  { count := w.extractLsb' 98 11, osr := w.extractLsb' 96 2, cls := w.extractLsb' 92 4,
    statsSlot := w.extractLsb' 84 8, lsrc := w.getLsbD 83, seg := w.extractLsb' 80 3,
    vd := w.extractLsb' 74 6, va := w.extractLsb' 68 6, vm := w.extractLsb' 62 6,
    lane := w.extractLsb' 52 10, osx := w.extractLsb' 48 4, stride := w.extractLsb' 36 12,
    off := w.extractLsb' 24 12 }

/-- Operand fields of VEC.FILL (R160). -/
def FillF.read (w : BitVec 128) : FillF :=
  { count := w.extractLsb' 98 11, lane := w.extractLsb' 88 10, vd := w.extractLsb' 82 6,
    imm := w.extractLsb' 50 32 }

/-- Operand fields of VEC.DROP (R161). -/
def VdropF.read (w : BitVec 128) : VdropF :=
  { count := w.extractLsb' 98 11, vd := w.extractLsb' 92 6, va := w.extractLsb' 86 6,
    vb := w.extractLsb' 80 6, ex := w.extractLsb' 76 4, w16 := w.getLsbD 75,
    thresh := w.extractLsb' 59 16, layer := w.extractLsb' 27 32 }

/-- Operand fields of MOVE.LOAD and MOVE.STORE (R163). -/
def MvF.read (w : BitVec 128) : MvF :=
  { mx := w.extractLsb' 105 4, mstride := w.extractLsb' 85 20, osx := w.extractLsb' 81 4,
    off := w.extractLsb' 66 15, stride := w.extractLsb' 54 12, rows := w.extractLsb' 42 12,
    rowLen := w.extractLsb' 31 11, add := w.extractLsb' 29 2 }

/-- Operand fields of MOVE.TLOAD (R164). -/
def TloadF.read (w : BitVec 128) : TloadF :=
  { mx := w.extractLsb' 105 4, mstride := w.extractLsb' 85 20, osx := w.extractLsb' 81 4,
    off := w.extractLsb' 66 15, stride := w.extractLsb' 54 12, rows := w.extractLsb' 43 11,
    cols := w.extractLsb' 32 11, cls := w.extractLsb' 28 4, lsrc := w.getLsbD 27 }

/-- Operand fields of MOVE.GATHER (R165). -/
def GatherF.read (w : BitVec 128) : GatherF :=
  { mx := w.extractLsb' 105 4, mstride := w.extractLsb' 85 20, ixx := w.extractLsb' 81 4,
    osx := w.extractLsb' 77 4, off := w.extractLsb' 62 15, stride := w.extractLsb' 50 12,
    count := w.extractLsb' 37 13, rowLen := w.extractLsb' 26 11 }

/-- Operand fields of MOVE.DWTQ (R166). -/
def DwtqF.read (w : BitVec 128) : DwtqF :=
  { dx := w.extractLsb' 105 4, queue := w.extractLsb' 92 13, count := w.extractLsb' 83 9 }

/-- Operand fields of SYNC.WAIT (R168). -/
def WaitF.read (w : BitVec 128) : WaitF :=
  { t := w.extractLsb' 60 48, u := w.extractLsb' 44 16, mode := w.extractLsb' 42 2,
    side := w.extractLsb' 40 2, ctr := w.extractLsb' 24 16 }

/-- Operand fields of SYNC.INC (R168). -/
def IncF.read (w : BitVec 128) : IncF :=
  { amount := w.extractLsb' 44 32, side := w.extractLsb' 40 2, ctr := w.extractLsb' 24 16 }

/-- Operand fields of SYNC.TOKEN (R168). -/
def TokenF.read (w : BitVec 128) : TokenF :=
  { side := w.extractLsb' 40 2 }

/-- Operand fields of the COLL opcodes (R169). -/
def CollF.read (w : BitVec 128) : CollF :=
  { cx := w.extractLsb' 105 4 }

/-- Operand fields of CTRL.LOOP (R170). -/
def LoopF.read (w : BitVec 128) : LoopF :=
  { skip := w.extractLsb' 40 32, count := w.extractLsb' 24 16 }

/-- Operand fields of CTRL.JMP (R171). -/
def JmpF.read (w : BitVec 128) : JmpF :=
  { offset := w.extractLsb' 24 32 }

/-- Operand fields of CTRL.BRC (R171). -/
def BrcF.read (w : BitVec 128) : BrcF :=
  { offset := w.extractLsb' 88 32, t := w.extractLsb' 40 48, ctr := w.extractLsb' 24 16 }

/-- Operand fields of CTRL.XSET and CTRL.XADD (R172). -/
def XregF.read (w : BitVec 128) : XregF :=
  { imm := w.extractLsb' 28 48, xreg := w.extractLsb' 24 4 }

/-- Operand fields of CTRL.SCLR (R173). -/
def SclrF.read (w : BitVec 128) : SclrF :=
  { count := w.extractLsb' 32 9, first := w.extractLsb' 24 8 }

/-- Operand fields of LAYER.BEGIN and LAYER.SRCID (R175). -/
def LayerF.read (w : BitVec 128) : LayerF :=
  { layer := w.extractLsb' 24 32 }

/-- The operation that CLASS and OPCODE name, with its operands (R143); the class alone decides INSN_BAD_CLASS. -/
def KwOp.read (w : BitVec 128) : Option KwOp :=
  match (w.extractLsb' 8 4).toNat, (w.extractLsb' 0 8).toNat with
  | 0, 1 => some (.loadw (LoadwF.read w))
  | 0, 2 => some (.run (RunF.read w))
  | 1, 1 => some (.accRead (AccReadF.read w))
  | 1, 2 => some (.accWrite (AccWriteF.read w))
  | 1, 3 => some (.rscale (RscaleF.read w))
  | 1, 4 => some (.resume (ResumeF.read w))
  | 2, 1 => some (.alu (AluF.read w))
  | 2, 2 => some (.red (RedF.read w))
  | 2, 3 => some (.osmx (OsmxF.read w))
  | 2, 4 => some (.fill (FillF.read w))
  | 2, 5 => some (.vdrop (VdropF.read w))
  | 3, 1 => some (.mload (MvF.read w))
  | 3, 2 => some (.mstore (MvF.read w))
  | 3, 3 => some (.tload (TloadF.read w))
  | 3, 4 => some (.gather (GatherF.read w))
  | 3, 5 => some (.dwtq (DwtqF.read w))
  | 4, 1 => some (.wait (WaitF.read w))
  | 4, 2 => some (.inc (IncF.read w))
  | 4, 3 => some (.token (TokenF.read w))
  | 5, 1 => some (.reduce (CollF.read w))
  | 5, 2 => some (.collGather (CollF.read w))
  | 5, 3 => some (.norm (CollF.read w))
  | 6, 1 => some (.loop (LoopF.read w))
  | 6, 2 => some .endl
  | 6, 3 => some (.jmp (JmpF.read w))
  | 6, 4 => some (.brc (BrcF.read w))
  | 6, 5 => some (.xset (XregF.read w))
  | 6, 6 => some (.xadd (XregF.read w))
  | 6, 7 => some (.sclr (SclrF.read w))
  | 6, 8 => some .meridian
  | 6, 9 => some .halt
  | 7, 1 => some (.lbegin (LayerF.read w))
  | 7, 2 => some .lend
  | 7, 3 => some (.srcid (LayerF.read w))
  | _, _ => none

/-- The reserved bits of each operation, [23:18] among them (R142 to R175). -/
def KwOp.reservedMask : KwOp → BitVec 128
  | .loadw _ => 0x000000000000000000007FFFFFFC0000#128
  | .run _ => 0x00000000000000000000000000FC0000#128
  | .accRead _ => 0x000000000000000000000003FFFC0000#128
  | .accWrite _ => 0x000000000000000000000FFFFFFC0000#128
  | .rscale _ => 0x0000000000FFFFFFFFFFFFFFFFFC0000#128
  | .resume _ => 0x00000007FFFFFFFFFFFFFFFFFFFC0000#128
  | .alu _ => 0x00000000000000000000000000FC0000#128
  | .red _ => 0x00000000000000000000000000FC0000#128
  | .osmx _ => 0x00000000000000000000000000FC0000#128
  | .fill _ => 0x00000000000000000003FFFFFFFC0000#128
  | .vdrop _ => 0x00000000000000000000000007FC0000#128
  | .mload _ => 0x0000000000000000000000001FFC0000#128
  | .mstore _ => 0x0000000000000000000000001FFC0000#128
  | .tload _ => 0x00000000000000000000000007FC0000#128
  | .gather _ => 0x00000000000000000000000003FC0000#128
  | .dwtq _ => 0x000000000007FFFFFFFFFFFFFFFC0000#128
  | .wait _ => 0xFFFF9000000000000000000000FC0000#128
  | .inc _ => 0xFFFF9FFFFFFFF00000000C0000FC0000#128
  | .token _ => 0xFFFF9FFFFFFFFFFFFFFFFCFFFFFC0000#128
  | .reduce _ => 0x000001FFFFFFFFFFFFFFFFFFFFFC0000#128
  | .collGather _ => 0x000001FFFFFFFFFFFFFFFFFFFFFC0000#128
  | .norm _ => 0x000001FFFFFFFFFFFFFFFFFFFFFC0000#128
  | .loop _ => 0xFFFFFFFFFFFFFF000000000000FC0000#128
  | .endl => 0xFFFFFFFFFFFFFFFFFFFFFFFFFFFC0000#128
  | .jmp _ => 0xFFFFFFFFFFFFFFFFFF00000000FC0000#128
  | .brc _ => 0xFF000000000000000000000000FC0000#128
  | .xset _ => 0xFFFFFFFFFFFFF0000000000000FC0000#128
  | .xadd _ => 0xFFFFFFFFFFFFF0000000000000FC0000#128
  | .sclr _ => 0xFFFFFFFFFFFFFFFFFFFFFE0000FC0000#128
  | .meridian => 0xFFFFFFFFFFFFFFFFFFFFFFFFFFFC0000#128
  | .halt => 0xFFFFFFFFFFFFFFFFFFFFFFFFFFFC0000#128
  | .lbegin _ => 0xFFFFFFFFFFFFFFFFFF00000000FC0000#128
  | .lend => 0xFFFFFFFFFFFFFFFFFFFFFFFFFFFC0000#128
  | .srcid _ => 0xFFFFFFFFFFFFFFFFFF00000000FC0000#128

/-- CLASS and OPCODE of each operation (R143). -/
def KwOp.code : KwOp → BitVec 4 × BitVec 8
  | .loadw _ => (0#4, 1#8)
  | .run _ => (0#4, 2#8)
  | .accRead _ => (1#4, 1#8)
  | .accWrite _ => (1#4, 2#8)
  | .rscale _ => (1#4, 3#8)
  | .resume _ => (1#4, 4#8)
  | .alu _ => (2#4, 1#8)
  | .red _ => (2#4, 2#8)
  | .osmx _ => (2#4, 3#8)
  | .fill _ => (2#4, 4#8)
  | .vdrop _ => (2#4, 5#8)
  | .mload _ => (3#4, 1#8)
  | .mstore _ => (3#4, 2#8)
  | .tload _ => (3#4, 3#8)
  | .gather _ => (3#4, 4#8)
  | .dwtq _ => (3#4, 5#8)
  | .wait _ => (4#4, 1#8)
  | .inc _ => (4#4, 2#8)
  | .token _ => (4#4, 3#8)
  | .reduce _ => (5#4, 1#8)
  | .collGather _ => (5#4, 2#8)
  | .norm _ => (5#4, 3#8)
  | .loop _ => (6#4, 1#8)
  | .endl => (6#4, 2#8)
  | .jmp _ => (6#4, 3#8)
  | .brc _ => (6#4, 4#8)
  | .xset _ => (6#4, 5#8)
  | .xadd _ => (6#4, 6#8)
  | .sclr _ => (6#4, 7#8)
  | .meridian => (6#4, 8#8)
  | .halt => (6#4, 9#8)
  | .lbegin _ => (7#4, 1#8)
  | .lend => (7#4, 2#8)
  | .srcid _ => (7#4, 3#8)

/-- Which bits [127:109] an operation carries: 2 the whole tail, 1 PUSH and POP alone, 0 none (R145). -/
def KwOp.tailKind : KwOp → Nat
  | .loadw _ => 2
  | .run _ => 2
  | .accRead _ => 2
  | .accWrite _ => 2
  | .rscale _ => 2
  | .resume _ => 2
  | .alu _ => 2
  | .red _ => 2
  | .osmx _ => 2
  | .fill _ => 2
  | .vdrop _ => 2
  | .mload _ => 2
  | .mstore _ => 2
  | .tload _ => 2
  | .gather _ => 2
  | .dwtq _ => 2
  | .wait _ => 1
  | .inc _ => 1
  | .token _ => 1
  | .reduce _ => 2
  | .collGather _ => 2
  | .norm _ => 2
  | .loop _ => 0
  | .endl => 0
  | .jmp _ => 0
  | .brc _ => 0
  | .xset _ => 0
  | .xadd _ => 0
  | .sclr _ => 0
  | .meridian => 0
  | .halt => 0
  | .lbegin _ => 0
  | .lend => 0
  | .srcid _ => 0

/-- Bits [127:24] of an operation, `t` giving DCTR, DCTR_EN, PUSH and POP where it carries them. -/
def KwOp.bits (t : KwTail) : KwOp → BitVec 104
  | .loadw f =>
      t.dctr ++ BitVec.ofBool t.en ++ BitVec.ofBool t.push ++ BitVec.ofBool t.pop ++ f.kl ++
      f.nl ++ BitVec.ofBool f.tb ++ f.cls ++ BitVec.ofBool f.lsrc ++ f.bx ++ f.off ++
      f.stride ++ 0#23
  | .run f =>
      t.dctr ++ BitVec.ofBool t.en ++ BitVec.ofBool t.push ++ BitVec.ofBool t.pop ++ f.slot ++
      BitVec.ofBool f.tb ++ BitVec.ofBool f.mode ++ f.group ++ BitVec.ofBool f.spill ++
      f.spillSlot ++ f.m ++ f.k ++ f.n ++ f.cls ++ BitVec.ofBool f.lsrc ++ f.ax ++ f.off ++
      f.stride
  | .accRead f =>
      t.dctr ++ BitVec.ofBool t.en ++ BitVec.ofBool t.push ++ BitVec.ofBool t.pop ++ f.slot ++
      BitVec.ofBool f.src ++ BitVec.ofBool f.clear ++ f.m ++ f.n ++ f.cls ++
      BitVec.ofBool f.lsrc ++ f.statsSlot ++ f.dx ++ f.off ++ f.stride ++ 0#10
  | .accWrite f =>
      t.dctr ++ BitVec.ofBool t.en ++ BitVec.ofBool t.push ++ BitVec.ofBool t.pop ++ f.slot ++
      f.m ++ f.n ++ f.cls ++ BitVec.ofBool f.lsrc ++ f.sx ++ f.off ++ f.stride ++ 0#20
  | .rscale f =>
      t.dctr ++ BitVec.ofBool t.en ++ BitVec.ofBool t.push ++ BitVec.ofBool t.pop ++ f.slot ++
      f.m ++ f.vreg ++ 0#64
  | .resume f =>
      t.dctr ++ BitVec.ofBool t.en ++ BitVec.ofBool t.push ++ BitVec.ofBool t.pop ++ f.slot ++
      f.spillSlot ++ 0#75
  | .alu f =>
      t.dctr ++ BitVec.ofBool t.en ++ BitVec.ofBool t.push ++ BitVec.ofBool t.pop ++ f.fn ++
      f.count ++ f.osr ++ f.cls ++ f.statsSlot ++ BitVec.ofBool f.lsrc ++ BitVec.ofBool f.bb ++
      f.seg ++ f.vd ++ f.va ++ f.vb ++ f.osx ++ f.stride ++ f.off
  | .red f =>
      t.dctr ++ BitVec.ofBool t.en ++ BitVec.ofBool t.push ++ BitVec.ofBool t.pop ++ f.fn ++
      f.count ++ f.osr ++ f.cls ++ f.lane ++ f.seg ++ f.vd ++ f.va ++ f.vb ++ f.osx ++
      f.stride ++ f.off ++ BitVec.ofBool f.lsrc
  | .osmx f =>
      t.dctr ++ BitVec.ofBool t.en ++ BitVec.ofBool t.push ++ BitVec.ofBool t.pop ++ f.count ++
      f.osr ++ f.cls ++ f.statsSlot ++ BitVec.ofBool f.lsrc ++ f.seg ++ f.vd ++ f.va ++ f.vm ++
      f.lane ++ f.osx ++ f.stride ++ f.off
  | .fill f =>
      t.dctr ++ BitVec.ofBool t.en ++ BitVec.ofBool t.push ++ BitVec.ofBool t.pop ++ f.count ++
      f.lane ++ f.vd ++ f.imm ++ 0#26
  | .vdrop f =>
      t.dctr ++ BitVec.ofBool t.en ++ BitVec.ofBool t.push ++ BitVec.ofBool t.pop ++ f.count ++
      f.vd ++ f.va ++ f.vb ++ f.ex ++ BitVec.ofBool f.w16 ++ f.thresh ++ f.layer ++ 0#3
  | .mload f =>
      t.dctr ++ BitVec.ofBool t.en ++ BitVec.ofBool t.push ++ BitVec.ofBool t.pop ++ f.mx ++
      f.mstride ++ f.osx ++ f.off ++ f.stride ++ f.rows ++ f.rowLen ++ f.add ++ 0#5
  | .mstore f =>
      t.dctr ++ BitVec.ofBool t.en ++ BitVec.ofBool t.push ++ BitVec.ofBool t.pop ++ f.mx ++
      f.mstride ++ f.osx ++ f.off ++ f.stride ++ f.rows ++ f.rowLen ++ f.add ++ 0#5
  | .tload f =>
      t.dctr ++ BitVec.ofBool t.en ++ BitVec.ofBool t.push ++ BitVec.ofBool t.pop ++ f.mx ++
      f.mstride ++ f.osx ++ f.off ++ f.stride ++ f.rows ++ f.cols ++ f.cls ++
      BitVec.ofBool f.lsrc ++ 0#3
  | .gather f =>
      t.dctr ++ BitVec.ofBool t.en ++ BitVec.ofBool t.push ++ BitVec.ofBool t.pop ++ f.mx ++
      f.mstride ++ f.ixx ++ f.osx ++ f.off ++ f.stride ++ f.count ++ f.rowLen ++ 0#2
  | .dwtq f =>
      t.dctr ++ BitVec.ofBool t.en ++ BitVec.ofBool t.push ++ BitVec.ofBool t.pop ++ f.dx ++
      f.queue ++ f.count ++ 0#59
  | .wait f =>
      0#17 ++ BitVec.ofBool t.push ++ BitVec.ofBool t.pop ++ 0#1 ++ f.t ++ f.u ++ f.mode ++
      f.side ++ f.ctr
  | .inc f =>
      0#17 ++ BitVec.ofBool t.push ++ BitVec.ofBool t.pop ++ 0#33 ++ f.amount ++ 0#2 ++
      f.side ++ f.ctr
  | .token f =>
      0#17 ++ BitVec.ofBool t.push ++ BitVec.ofBool t.pop ++ 0#67 ++ f.side ++ 0#16
  | .reduce f =>
      t.dctr ++ BitVec.ofBool t.en ++ BitVec.ofBool t.push ++ BitVec.ofBool t.pop ++ f.cx ++
      0#81
  | .collGather f =>
      t.dctr ++ BitVec.ofBool t.en ++ BitVec.ofBool t.push ++ BitVec.ofBool t.pop ++ f.cx ++
      0#81
  | .norm f =>
      t.dctr ++ BitVec.ofBool t.en ++ BitVec.ofBool t.push ++ BitVec.ofBool t.pop ++ f.cx ++
      0#81
  | .loop f =>
      0#56 ++ f.skip ++ f.count
  | .endl =>
      0#104
  | .jmp f =>
      0#72 ++ f.offset
  | .brc f =>
      0#8 ++ f.offset ++ f.t ++ f.ctr
  | .xset f =>
      0#52 ++ f.imm ++ f.xreg
  | .xadd f =>
      0#52 ++ f.imm ++ f.xreg
  | .sclr f =>
      0#87 ++ f.count ++ f.first
  | .meridian =>
      0#104
  | .halt =>
      0#104
  | .lbegin f =>
      0#72 ++ f.layer
  | .lend =>
      0#104
  | .srcid f =>
      0#72 ++ f.layer

/-- The instruction classes of R143, by their CLASS value. -/
def KwOp.cls (o : KwOp) : Nat := o.code.1.toNat

/-- The tail as an operation of kind `k` carries it (R145). -/
def KwTail.read (k : Nat) (w : BitVec 128) : KwTail :=
  if k = 0 then {}
  else if k = 1 then { push := w.getLsbD 110, pop := w.getLsbD 109 }
  else { dctr := w.extractLsb' 112 16, en := w.getLsbD 111, push := w.getLsbD 110, pop := w.getLsbD 109 }

/-- The fields of a word whose operation is `o` (R142, R145). -/
def Kw.read (o : KwOp) (w : BitVec 128) : Kw :=
  { stats := w.getLsbD 17, dfr := w.getLsbD 16, tag := w.extractLsb' 12 4,
      tail := KwTail.read o.tailKind w, op := o }

/-- The word of an instruction (R142). -/
def Kw.encode (k : Kw) : BitVec 128 :=
  k.op.bits k.tail ++ 0#6 ++ BitVec.ofBool k.stats ++ BitVec.ofBool k.dfr ++ k.tag
    ++ k.op.code.1 ++ k.op.code.2

/-- The tag value of a stream (R116). -/
def strmTag : StrmId → Nat
  | .F => 0 | .B => 1 | .U => 2

/-- DEFER is legal only in B, on the MM, ACC, VEC, MOVE and SYNC classes (R116). -/
def deferLegal (x : StrmId) (o : KwOp) : Bool :=
  match x with
  | .B => decide (o.cls ≤ 4)
  | _ => false

/-- A SYNC opcode with PUSH or POP and SIDE = BOTH (R168). -/
def KwOp.badSide (t : KwTail) : KwOp → Bool
  | .wait f => (t.push || t.pop) && f.side == 2#2
  | .inc f => (t.push || t.pop) && f.side == 2#2
  | .token f => (t.push || t.pop) && f.side == 2#2
  | _ => false

/-- The functions of VEC.ALU that R157 defines. -/
def aluFnOk (n : Nat) : Bool := decide (n ≤ 12) || (decide (16 ≤ n) && decide (n ≤ 19))

/-- An enumerated field holds a reserved value, or a field that must be zero is not (R145 to R170). -/
def KwOp.badEnum : KwOp → Bool
  | .run f => !f.spill && f.spillSlot != 0#4
  | .accRead f => f.src && decide (16 ≤ f.slot.toNat)
  | .alu f => !aluFnOk f.fn.toNat || f.osr == 3#2 || decide (5 ≤ f.seg.toNat) || (f.osr == 0#2 && f.cls != 0#4)
  | .red f => decide (4 ≤ f.fn.toNat) || decide (2 ≤ f.osr.toNat) || decide (5 ≤ f.seg.toNat)
  | .osmx f => f.osr == 3#2 || decide (5 ≤ f.seg.toNat)
  | .mload f => f.add != 0#2
  | .mstore f => f.add == 3#2
  | .wait f => f.mode == 3#2 || f.side == 3#2
  | .inc f => f.side == 3#2
  | .token f => f.side == 3#2
  | _ => false

/-- A count, length or index field above its range (R144). -/
def KwOp.badRange : KwOp → Bool
  | .loadw f => decide (1024 < f.kl.toNat) || decide (256 < f.nl.toNat)
  | .run f => decide (256 < f.m.toNat) || decide (1024 < f.k.toNat) || decide (256 < f.n.toNat)
  | .accRead f => decide (256 < f.m.toNat) || decide (256 < f.n.toNat)
  | .accWrite f => decide (256 < f.m.toNat) || decide (256 < f.n.toNat)
  | .rscale f => decide (256 < f.m.toNat)
  | .alu f => decide (1024 < f.count.toNat)
  | .red f => decide (1024 < f.count.toNat)
  | .osmx f => decide (1024 < f.count.toNat)
  | .fill f => decide (1024 < f.count.toNat)
  | .vdrop f => decide (1024 < f.count.toNat) || (!f.w16 && decide (256 < f.thresh.toNat))
  | .tload f => decide (1024 < f.rows.toNat) || decide (1024 < f.cols.toNat)
  | .gather f => decide (4096 < f.count.toNat)
  | .dwtq f => decide (256 < f.count.toNat)
  | .sclr f => decide (256 < f.count.toNat) || decide (256 < f.first.toNat + f.count.toNat)
  | _ => false

/-- Whether a word has a nonzero reserved bit, a reserved value, or a DCTR without DCTR_EN (R144, R145). -/
def Kw.reserved (k : Kw) (w : BitVec 128) : Bool :=
  w &&& k.op.reservedMask != 0#128 || k.op.badEnum || (!k.tail.en && k.tail.dctr != 0#16)

/-- Decoding of a word that stream `x` fetched, the faults in the order of R144. -/
def decodeKw (x : StrmId) (w : BitVec 128) : Except FaultCode Kw :=
  if 8 ≤ (w.extractLsb' 8 4).toNat then .error .insnBadClass
  else match KwOp.read w with
    | none => .error .insnBadOpcode
    | some o =>
      let k := Kw.read o w
      if k.tag.toNat ≠ strmTag x then .error .streamTag
      else if k.dfr && !deferLegal x o then .error .deferBad
      else if o.badSide k.tail then .error .syncBadSide
      else if k.reserved w then .error .insnReserved
      else if o.badRange then .error .insnRange
      else .ok k

/-- An instruction of stream `x` that decoding accepts. -/
def Kw.wf (x : StrmId) (k : Kw) : Bool :=
  decide (k.tag.toNat = strmTag x) && (!k.dfr || deferLegal x k.op) && !k.op.badSide k.tail
    && !k.op.badEnum && (k.tail.en || k.tail.dctr == 0#16) && !k.op.badRange
    && (decide (k.op.tailKind = 2) || (k.tail.dctr == 0#16 && !k.tail.en))
    && (decide (1 ≤ k.op.tailKind) || (!k.tail.push && !k.tail.pop))

/-- Execute side (false) or access side (true) of an operation that has one (R121). -/
def KwOp.onAccess (o : KwOp) : Bool := decide (o.cls = 3) || decide (o.cls = 5)

/-- The sides an operation is queued on: access, execute (R121). -/
def KwOp.sides : KwOp → Bool × Bool
  | .wait f => (f.side != 1#2, f.side != 0#2)
  | .inc f => (f.side != 1#2, f.side != 0#2)
  | .token f => (f.side != 1#2, f.side != 0#2)
  | .meridian => (true, true)
  | .halt => (true, true)
  | o => if o.onAccess then (true, false) else (false, true)

/-- Operations that the sequencer executes itself (R121). -/
def KwOp.isSeq : KwOp → Bool
  | .loop _ => true | .endl => true | .jmp _ => true | .brc _ => true
  | .xset _ => true | .xadd _ => true | .sclr _ => true
  | _ => false

end Sys2Proof.Machine
end

