-- ==== Sys2Proof/Machine/StCore.lean ====
section
/-! DEFINITION. The state of a compute core, of its streams and of a context slot
(02 R42 to R83, 03 R99 to R113, 04 R115 to R141, 05 R146). -/

namespace Sys2Proof.Machine

/-- The type of an accumulator slot (R56). -/
inductive SlotType where | empty | fp32 | int32
  deriving DecidableEq, Repr

/-- An accumulator slot (R56): element (i, j) is entry i·256 + j. The spill binding is held by
the spill slot (`SpillSlot.owner`). `written` says that the slot was written since LAYER.BEGIN (R62). -/
structure AccSlot where
  typ : SlotType := .empty
  k : Nat := 0
  carried : Bool := false
  written : Bool := false
  elems : Tbl W32 := []
  deriving DecidableEq, Repr

/-- A spill slot (R65): EMPTY unless `full`; `owner` is the accumulator slot it is bound to.
Pair (i, j) is entry i·256 + j, hi in the low word. -/
structure SpillSlot where
  full : Bool := false
  owner : Option Nat := none
  carried : Bool := false
  written : Bool := false
  pairs : Tbl W64 := []
  deriving DecidableEq, Repr

/-- The tile a tile buffer holds: KL rows and NL columns, one stored row per column (R46, R47). -/
structure Tile where
  eff : Eff
  kl : Nat
  nl : Nat
  cols : List RowCodes
  deriving DecidableEq, Repr

/-- The states of a stream (R133). RUNNING is WAITING too: which of the two a stream shows follows from its head. -/
inductive StrmState where | absent | running | atMeridian | halted | faulted
  deriving DecidableEq, Repr

/-- An open loop (R170). -/
structure LoopRec where
  start : W48
  count : Nat
  index : Nat
  deriving DecidableEq, Repr

/-- A dispatched instruction that has not issued. `pendA` and `pendE` say on which sides it still
waits; `x1`, `x2`, `x3` are its stream registers resolved at dispatch (R146); `src` is the source
layer ID it names (R148); `loopIx` the innermost loop index (R168); `seq` its rounding sequence
number (R220). -/
structure Pend where
  idx : Nat
  kw : Kw
  pendA : Bool
  pendE : Bool
  x1 : W48
  x2 : W48
  x3 : W48
  src : Option W32
  inBr : Bool
  loopIx : Nat
  seq : Nat
  deriving DecidableEq, Repr

/-- A reserved or filled entry of a handoff queue, pushed by instruction `idx` (R122). -/
structure Token where
  idx : Nat
  filled : Bool
  deriving DecidableEq, Repr

/-- The four handoff queues of a stream (R122): access to execute, execute to access, and the
deferred pair. -/
structure Handoff where
  a2e : List Token := []
  e2a : List Token := []
  da2e : List Token := []
  de2a : List Token := []
  deriving DecidableEq, Repr

/-- A piece of memory that an instruction wrote, which a discard leaves as it is or puts back whole (R105, R203): a byte of a
plain write, a line of an add. -/
structure OldMem where
  slot : Nat
  va : Nat
  old : List Byte
  new : List Byte
  deriving DecidableEq, Repr

/-- An issued instruction that has not completed: what its completion signals, what later
instructions wait for (R60, R123), the old content of its destination extents, any part of which
a discard may leave (R105, R134), the MM, ACC or VEC unit that carries it out (R82), and
whether it is a memory request of an access engine. -/
structure Flight where
  idx : Nat
  onA : Bool
  dfr : Bool
  inBr : Bool
  dctr : Option Nat := none
  pushQ : Bool := false
  isRun : Bool := false
  wSlots : List Nat := []
  rTiles : List Nat := []
  wTiles : List Nat := []
  osR : List (Nat × Nat) := []
  osW : List (Nat × Nat) := []
  oldOs : List (Nat × Byte) := []
  oldMem : List OldMem := []
  oldV : List (Nat × W32) := []
  unit : Option CoreUnit := none
  mem : Bool := false
  deriving DecidableEq, Repr

/-- A SYNC.WAIT that has issued and is not met (R130). -/
structure HeldWait where
  idx : Nat
  ctr : Nat
  target : Nat
  dfr : Bool
  push : Bool
  deriving DecidableEq, Repr

/-- A spill that a committed run owes (R64): accumulator slot, spill slot, run. -/
structure SpillDue where
  slot : Nat
  spillSlot : Nat
  idx : Nat
  deriving DecidableEq, Repr

/-- A token that an instruction of the bracket popped, with the side and the pair of its queue (R124). -/
structure Popped where
  dfr : Bool
  access : Bool
  tok : Token
  deriving DecidableEq, Repr

/-- The open bracket of a stream, recorded when LAYER.BEGIN was dispatched (R102, R175). `closed` is the number of its
LAYER.END once that is dispatched, `endIdx` once it has issued; `held` lists the held amount per counter, in the order of
first holding. -/
structure Bracket where
  layer : W32
  idx : Nat
  pc : W48
  xs : Tbl W48
  loops : List LoopRec
  srcId : Option W32
  begun : Bool := false
  closed : Option Nat := none
  endIdx : Option Nat := none
  held : List (Nat × Nat) := []
  popped : List Popped := []
  deriving DecidableEq, Repr

/-- A raised fault that CONTEXT_FAULT carries out (R134). -/
structure FaultRec where
  code : FaultCode
  idx : Nat
  deriving DecidableEq, Repr

/-- A rewind that NOVA_EVENT carries out (R105): the class raised and the formats. -/
structure NovaRec where
  idx : Nat
  layer : W32
  cls : Nat
  oldFmt : Fmt
  newFmt : Fmt
  deriving DecidableEq, Repr

/-- A stream (R116, R121, R146): `q` holds its dispatched instructions in program order, `dq` B's
deferred queue; in a suspect's replay `limit` is how many it may dispatch (R370). -/
structure Stream where
  st : StrmState := .absent
  pc : W48 := 0
  xs : Tbl W48 := []
  loops : List LoopRec := []
  srcId : Option W32 := none
  seq : Nat := 0
  next : Nat := 0
  q : List Pend := []
  dq : List Pend := []
  flights : List Flight := []
  heldA : Option HeldWait := none
  heldE : Option HeldWait := none
  dheldA : Option HeldWait := none
  dheldE : Option HeldWait := none
  hand : Handoff := {}
  spills : List SpillDue := []
  opened : Bool := false
  bracket : Option Bracket := none
  fault : Option FaultRec := none
  nova : Option NovaRec := none
  rerun : Bool := false
  atSync : Bool := false
  dispatched : Nat := 0
  limit : Option Nat := none
  deriving DecidableEq, Repr

/-- An error in an 8-byte word of a core's SRAM (R79, R80): of the operand store, of accumulator slot `slot` (64 to 79: a
spill slot), or of the vector registers (word = lane key ÷ 2). With `ue` it is uncorrectable, or, where `poisoned` says so,
the word is poisoned. -/
structure SramErr where
  mem : SramMem
  slot : Nat := 0
  word : Nat
  ue : Bool
  poisoned : Bool := false
  deriving DecidableEq, Repr

/-- What a context holds on one core, and what a context switch saves (R42, R140): operand-store
bytes, the words of its SRAM that hold an error, tile buffers (2·stream + buffer), vector lanes (register·1024 + lane).
Under SHADOW_STEP `fold` is the digest of the writes that left the core since the meridian, `pairFold` that of its pair
core (R388, log 51). -/
structure CoreCtx where
  os : Tbl Byte := []
  errs : List SramErr := []
  acc : Tbl AccSlot := []
  spill : Tbl SpillSlot := []
  tiles : Tbl (Option Tile) := []
  vregs : Tbl W32 := []
  f : Stream := {}
  b : Stream := {}
  u : Stream := {}
  fold : BitVec 384 := 0
  pairFold : BitVec 384 := 0
  deriving DecidableEq, Repr

/-- COREn.SPARE_MAPk (R83). -/
structure SpareMap where
  valid : Bool := false
  pending : Bool := false
  source : Nat := 0
  logical : Nat := 0
  deriving DecidableEq, Repr

/-- COREn.STATUS.STATE (R83). -/
inductive CoreState where | gated | locking | idle | running | eclipse | retired
  deriving DecidableEq, Repr

/-- A compute core (R42, R83). `aged` are the candidates whose age count reached 4,096 (R126);
`planSteps` the 25 MHz steps the almanac took
(R422), `loadSteps` those of load re-verification (R424); `sinceTest` the ticks of operation since the device last
started the array's self-test by itself (R78), `sincePlan` those in DAY since its last almanac re-plan (R421), `cyclesMark` and
`busyMark` its counts at the last full second (R423); `key` the generator's key, loaded at the switch-in (R221). Rows of its SRAM
are numbered as `SramErr.row` says: `rowHits` lists when a row showed corrected errors, `rowMarks` the rows to be replaced,
`sparesUsed` the spare rows used by bank (R79). `before` is the state that eclipse covers (R365), `shadow` the context
whose pair core this one shadows (R388). -/
structure Core where
  live : CoreCtx := {}
  resident : Option Nat := none
  state : CoreState := .gated
  clock : Nat := 0
  ceiling : Nat := 1150
  derated : Bool := false
  busyCycles : W64 := 0
  cycles : W64 := 0
  err : BitVec 5 := 0
  osCe : Nat := 0
  accCe : Nat := 0
  osSpares : Nat := 2048
  accSpares : Nat := 256
  firstFail : Nat := 0x1FF
  failCount : Nat := 0
  auto : Bool := true
  pass : Bool := false
  done : Bool := false
  busy : Bool := false
  spareMap : Tbl SpareMap := []
  aged : List (Cand × CoreUnit) := []
  planSteps : Nat := 0
  loadSteps : Nat := 0
  voltage : Nat := 0
  sinceTest : Nat := 0
  sincePlan : Nat := 0
  cyclesMark : W64 := 0
  busyMark : W64 := 0
  key : BitVec 256 := 0
  rowHits : List (Nat × Nat) := []
  rowMarks : List Nat := []
  sparesUsed : Tbl Nat := []
  before : CoreState := .gated
  shadow : Option Nat := none
  deriving DecidableEq, Repr

/-- A tensor statistics slot (R112). -/
structure StatSlot where
  writes : Nat := 0
  overflows : Nat := 0
  elements : Nat := 0
  zeros : Nat := 0
  underflows : Nat := 0
  saturations : Nat := 0
  nonfinite : Nat := 0
  maxAbs : Nat := 0
  downMiss : Nat := 0
  deriving DecidableEq, Repr

/-- A persistent ladder entry with its baseline (R107, R472). -/
structure LadderEnt where
  layerNum : Nat
  cls : Nat
  fmt : Fmt
  baseWrites : Nat := 0
  baseMiss : Nat := 0
  deriving DecidableEq, Repr

/-- An entry of the step raise list (R107); `full` is the PERSIST_FULL of its key (R473). -/
structure RaiseEnt where
  layer : W32
  cls : Nat
  fmt : Fmt
  full : Bool
  deriving DecidableEq, Repr

/-- A grant word (R117). -/
structure Grant where
  present : Bool := false
  vregBase : Nat := 0
  vregCount : Nat := 0
  spillBase : Nat := 0
  spillCount : Nat := 0
  accBase : Nat := 0
  accCount : Nat := 0
  deriving DecidableEq, Repr

/-- A core entry of a descriptor (R117). -/
structure CoreEntry where
  fpc : W48 := 0
  bpc : W48 := 0
  upc : W48 := 0
  fGrant : Grant := {}
  bGrant : Grant := {}
  uGrant : Grant := {}
  spillV : Nat := 0
  bankBase : Nat := 0
  bankCount : Nat := 0
  deriving DecidableEq, Repr

/-- A context descriptor (R117). -/
structure Desc where
  mask : Nat := 0
  recipeAddr : W48 := 0
  statsAddr : W48 := 0
  ctrBase : Nat := 0
  ctrCount : Nat := 0
  stepBase : W64 := 0
  seed : BitVec 256 := 0
  entries : Tbl CoreEntry := []
  deriving DecidableEq, Repr

/-- The states of a context slot (R133, R440). -/
inductive CtxState where | none | ready | running | faulted | eclipse | done
  deriving DecidableEq, Repr

end Sys2Proof.Machine
end

