-- ==== Sys2Proof/Machine/StMem.lean ====
section
/-! DEFINITION. The state of the tier manager, of the host interface and of the window transport
engine (06 R178 to R207, 14 R429 to R447, 08 R234 to R268). -/

namespace Sys2Proof.Machine

/-! Tiers -/

/-- A page-table entry (R184, R197, R204): `frame` numbers the physical page of the module (log 6),
`moving` is the page a migration copies it to. -/
structure Pte where
  frame : Nat
  gen : Nat := 0
  moving : Option Nat := none
  deriving DecidableEq, Repr

/-- An allocation object (R190). `partner` is the base of the other half of a PARAM pair. -/
structure AllocObj where
  slot : Nat
  base : Nat
  pages : Nat
  flags : Nat
  partner : Option Nat := none
  displaced : Bool := false
  deriving DecidableEq, Repr

/-- A page of a streaming window: which source pages its bytes came from, with their generations (R197). -/
structure WinPage where
  srcs : List (Nat × Nat) := []
  deriving DecidableEq, Repr

/-- A streaming window (R193 to R200). Its source is the allocation with base `src` and `srcPages` pages. `entryIn` gives the list position that each slot last took,
`copying` the position being copied with its slot, `held` that filling waits for the next meridian (R195);
`cache` lists (source page, window page) of a FOLLOW window, most recently read first, `ahead` the source pages fetched on
demand whose run-ahead is to come (R198). -/
structure SWin where
  slot : Nat
  core : Nat
  view : Nat
  src : Nat
  srcPages : Nat
  follow : Bool
  depth : Nat
  slotPages : Nat
  runahead : Nat
  list : List (Nat × Nat)
  fillCtr : Nat
  relCtr : Nat
  record : Nat
  frames : List Nat
  pos : Nat := 0
  copying : Option Nat := none
  held : Bool := false
  entryIn : Tbl Nat := []
  pages : Tbl WinPage := []
  cache : List (Nat × Nat) := []
  ahead : List Nat := []
  filled : Nat := 0
  stale : Nat := 0
  stops : Nat := 0
  fetched : Nat := 0
  deriving DecidableEq, Repr

/-- A page move under way or pending (R204); `retire` says that the page leaves a retired region (R205), `rebal` that the move
rebalances an ANY allocation (R190). -/
structure Move where
  slot : Nat
  vpage : Nat
  dest : Nat
  retire : Bool := false
  rebal : Bool := false
  deriving DecidableEq, Repr

/-- An error that a line of a tier holds and that no read has found (R180): correctable, or with `ue` not. -/
structure TierErr where
  line : Nat
  ue : Bool
  deriving DecidableEq, Repr

/-- An occasion on which a read or scrub found an error in a line (R375): corrected, or with `ue` not; `used` that a row has
been spared for it. -/
structure RowHit where
  line : Nat
  tick : Nat
  ue : Bool
  used : Bool := false
  deriving DecidableEq, Repr

/-- The tier manager (R179, R339: `tags` gives the enclosure of each near page, R182, R205, R207). `lost` lists the frames of retired
regions; `latent` the errors that no read has met yet; `rowsUsed` and `banksUsed` the spares taken from each pool, by
`sparePool` (R182, R375); `occasions` the errors found in the last 24 hours and `spared` a line of each row that has been spared
(R375); `leftKeys` the key under which the bytes of a frame stand that no address space maps any longer (R338). -/
structure Tiers where
  mem : Tbl Byte := []
  poison : List Nat := []
  pt : Tbl Pte := []
  tags : Tbl Nat := []
  objs : List AllocObj := []
  wins : List SWin := []
  moves : List Move := []
  movesDone : Nat := 0
  lost : List Nat := []
  ready : Bool := false
  packageDerated : Nat := 0
  boardDerated : Nat := 0
  nearDerated : Tbl Nat := []
  err : BitVec 8 := 0
  ce : Tbl Nat := []
  rowsUsed : Tbl Nat := []
  banksUsed : Tbl Nat := []
  latent : List TierErr := []
  leftKeys : Tbl Nat := []
  occasions : List RowHit := []
  spared : List Nat := []
  passes : Nat := 0
  intervalH : Nat := 24
  deriving DecidableEq, Repr

/-! Host interface -/

/-- A posting in its slot's order (R436). `early` is a refusal already decided when it
arrived; `recs` and `abort` are what a DMA_IN reads of host memory (log 4). -/
structure Posted where
  index : Nat
  control : Bool
  entry : BitVec 512
  fn : Nat
  early : Option Nat
  recs : List HostRec := []
  abort : Bool := false
  started : Bool := false
  deriving DecidableEq, Repr

/-- A completion record (R437). `clear` is the DB.PENDING bit it clears. -/
structure Cpl where
  tag : W64
  bytes : Nat
  control : Bool
  opcode : Nat
  status : Nat
  clear : Option Nat
  deriving DecidableEq, Repr

/-- A context status record that waits for the link: its slot, its words as the change left them, and how many completion records of
the slot wait ahead of it (R431). -/
structure HeldStatus where
  slot : Nat
  words : List Nat
  after : Nat
  deriving DecidableEq, Repr

/-- The 16 bytes of a completion record (R437). -/
def Cpl.record (c : Cpl) (phase : Bool) : List Byte :=
  leBytes 8 c.tag.toNat
    ++ leBytes 8 (c.status % 2 ^ 16 + at_ (c.opcode % 256) 16 + at_ (b2n c.control) 24 + at_ (b2n phase) 31 + at_ (c.bytes % 2 ^ 32) 32)

/-- A slot's doorbell page (R434, R435): its registers, its posted commands in order, and the
completions held for room or for the link. -/
structure Page where
  entries : Tbl (BitVec 512) := []
  pending : BitVec 32 := 0
  ringEntries : Nat := 0
  ringBase : Nat := 0
  consumed : Nat := 0
  next : Nat := 0
  phase : Bool := true
  statusVA : Nat := 0
  statusEn : Bool := false
  cplEn : Bool := false
  vector : Nat := 0
  fn : Nat := 0
  updates : W32 := 0
  queue : List Posted := []
  held : List Cpl := []
  deriving DecidableEq, Repr

/-- The host interface (R429 to R432, R447). -/
structure Hif where
  ready : Bool := false
  linkUp : Bool := false
  speed : Nat := 0
  width : Nat := 0
  flit : Bool := false
  linkIde : Bool := false
  selIde : List Nat := []
  ideKeys : List (Nat × BitVec 256) := []
  vfs : Nat := 0
  ideRequired : Bool := true
  ideLocked : Bool := false
  inBytes : Nat := 0
  outBytes : Nat := 0
  linkCe : Nat := 0
  err : BitVec 5 := 0
  startCount : Nat := 0
  statusHeld : List HeldStatus := []
  deriving DecidableEq, Repr

/-! Window transport -/

inductive WinState where | closed | open_ | closing
  deriving DecidableEq, Repr

/-- A DWT window (R246). `revoker` is the queue and entry of the revoke under way, `refused` its count (R263). -/
structure DwtWin where
  st : WinState := .closed
  revoked : Bool := false
  gen : Nat := 0
  ctx : Nat := 0
  base : Nat := 0
  size : Nat := 0
  perm : BitVec 3 := 0
  bind : Option Nat := none
  notify : Option Nat := none
  revoker : Option (Nat × Nat) := none
  refused : Nat := 0
  deriving DecidableEq, Repr

inductive ConnState where | closed | opening | open_ | rekeying | down
  deriving DecidableEq, Repr

/-- A connection descriptor (R240). -/
structure ConnDesc where
  dscp : Nat := 0
  storage : Bool := false
  tc : Nat := 0
  mtu : Nat := 0
  path : Nat := 0
  peerId : W64 := 0
  dir : Bool := false
  axis : Nat := 0
  peerConn : Nat := 0
  udpPort : Nat := 0
  portMask : Nat := 0
  peerIp : BitVec 128 := 0
  deriving DecidableEq, Repr

/-- A queue entry (R254). `fell` says that its connection has gone DOWN while it waited (R259). -/
structure QEnt where
  op : Nat
  waitEn : Bool
  fence : Bool
  ctrEn : Bool
  recEn : Bool
  conn : Nat
  localVa : Nat
  length : Nat
  rwgen : Nat
  window : Nat
  roffset : Nat
  waitCtr : Nat
  waitTarget : Nat
  doneCtr : Nat
  recVa : Nat
  extra : Nat
  resv : Bool
  fell : Bool := false
  deriving DecidableEq, Repr

/-- An operation in flight on a connection (R248, R251). `sent` counts the segments sent, `first` is the SEQ of the first,
`landed` the bytes acknowledged, landed or verified, `nak` the lowest refusal with its status; `chunk` is the next
chunk of a PULL to verify, `chunkBytes` the size of its chunks and `digests` theirs. -/
structure DwtOp where
  queue : Nat
  ent : Nat
  q : QEnt
  length : Nat
  segs : Nat
  sent : Nat := 0
  first : Nat := 0
  landed : Nat := 0
  nak : Option (Nat × Nat) := none
  chunk : Nat := 0
  chunkBytes : Nat := 0
  digests : List (BitVec 384) := []
  mismatch : Bool := false
  deriving DecidableEq, Repr

/-- A segment sent and not answered (R248, R259). `at_` is its place in the operation's bytes. -/
structure Seg where
  seq : Nat
  typ : Nat
  queue : Nat
  ent : Nat
  window : Nat
  wgen : Nat
  offset : Nat
  length : Nat
  at_ : Nat
  first : Bool
  last : Bool
  ref : Nat
  tries : Nat := 0
  deriving DecidableEq, Repr

/-- Applied segments of an arriving WRITE or ACCUM operation (R250). -/
structure NotifyCount where
  ref : Nat
  window : Nat
  applied : Nat := 0
  total : Option Nat := none
  naked : Bool := false
  deriving DecidableEq, Repr

/-- A message of the collective engine on one of its connections (R278): waiting to be sent, or sent under SEQ `seq` and not
answered. `num` is the context's own collective that it counts for; `up` is the connection and SEQ of the segment that a
relay answers once this one has been answered (log 35). `bytes` is its payload length. -/
structure CollSeg where
  seq : Nat := 0
  typ : Nat
  num : Option Nat
  up : Option (Nat × Nat) := none
  msg : CollMsg
  bytes : Nat
  tries : Nat := 0
  deriving DecidableEq, Repr

/-- A connection (R241, R243, R259, R260). `key` and `openKey` are keys as numbers (log 3), `r` and
`peerR` the handshake's values,
`shaking` that the handshake of a rekey or a reset runs, `opens` that the end still repeats its OPEN (log 22), `cq` and
`csegs` the collective engine's messages that wait and that are unanswered, `bits` the SEQ values applied within the replay bitmap, `high` its H. -/
structure DwtConn where
  st : ConnState := .closed
  ctx : Nat := 0
  encl : Nat := 0
  coll : Bool := false
  desc : ConnDesc := {}
  opener : Option (Nat × Nat) := none
  closer : Option (Nat × Nat) := none
  key : Nat := 0
  openKey : Nat := 0
  r : BitVec 128 := 0
  peerR : Option (BitVec 128) := none
  shaking : Bool := false
  opens : Bool := false
  seq : Nat := 0
  txn : Nat := 0
  high : Option Nat := none
  bits : List Nat := []
  ops : List DwtOp := []
  segs : List Seg := []
  cq : List CollSeg := []
  csegs : List CollSeg := []
  notify : List NotifyCount := []
  deriving DecidableEq, Repr

/-- An entry that has started: its number and the slot that posted it. -/
structure Started where
  num : Nat
  slot : Nat
  e : QEnt
  deriving DecidableEq, Repr

/-- A DWT queue (R253, R256): accepted entries by number, and started entries not completed. -/
structure DwtQueue where
  ctx : Option Nat := none
  next : Nat := 0
  entries : List (Nat × QEnt) := []
  started : List Started := []
  deriving DecidableEq, Repr

/-- The window transport engine (R268). -/
structure Dwt where
  ready : Bool := false
  udpPort : Nat := 0xC301
  udpLocked : Bool := false
  wins : Tbl DwtWin := []
  conns : Tbl DwtConn := []
  queues : Tbl DwtQueue := []
  authFail : Nat := 0
  nakSent : Nat := 0
  replayResets : Nat := 0
  retransmits : Nat := 0
  malformed : Nat := 0
  fragments : Nat := 0
  err : BitVec 4 := 0
  deriving DecidableEq, Repr

end Sys2Proof.Machine
end

