-- ==== Sys2Proof/Machine/StRest.lean ====
section
/-! DEFINITION. The state of the collective engine, the ports, the security engine, the recovery
controller and the management subsystem (09 R273 to R292, 10 R293 to R312, 11 R316 to R357,
12 R362 to R390, 13 R391 to R428). -/

namespace Sys2Proof.Machine

/-! Collective engine -/

/-- A collective descriptor (R274). -/
structure CollDesc where
  k : Nat
  thin : Nat
  recEn : Bool
  ctrEn : Bool
  waitStep : Bool
  waitEn : Bool
  topk : Bool
  norm : Bool
  axes : Nat
  op : Nat
  gradVa : Nat
  paramVa : Nat
  tiles : Nat
  pmapVa : Nat
  waitCtr : Nat
  waitTarget : Nat
  doneCtr : Nat
  recVa : Nat
  outVa : Nat
  deriving DecidableEq, Repr

/-- An accepted collective (R273, R277, R280, R287): its number k of the step; READY messages received and sent and levels
sent, as (shard, level); elements received by shard and level (level 0: of a gather); the peers that have its fingerprint;
`refused` that a peer answered FENCED; `fold` that its tree is the first of the step; of its tree this device's `leaf`, what
arrived by level, whether it went up and down, and the `result`. -/
structure Coll where
  num : Nat
  d : CollDesc
  started : Bool := false
  ready : List (Nat × Nat) := []
  readySent : List (Nat × Nat) := []
  sentLv : List (Nat × Nat) := []
  got : List ((Nat × Nat) × Nat) := []
  sent : Nat := 0
  relayed : Nat := 0
  greeted : List Nat := []
  refused : Bool := false
  fold : Bool := false
  leaf : Option TreeVal := none
  treeIn : List (Nat × TreeVal) := []
  treeUp : Bool := false
  treeDown : Bool := false
  result : Option TreeVal := none
  deriving DecidableEq, Repr

/-- The parameter map copied for a step (R229): regions (PARAM_VA, LENGTH) with their frozen tiles. -/
structure PMap where
  va : Nat
  regions : List (Nat × Nat × List Nat)
  deriving DecidableEq, Repr

/-- The collective engine (R292). -/
structure Col where
  ready : Bool := false
  policyHalt : Bool := false
  policyLocked : Bool := false
  skipped : Nat := 0
  sent : Nat := 0
  bytesSent : Nat := 0
  bytesRelayed : Nat := 0
  beaconsSent : Nat := 0
  unmatched : Nat := 0
  mismatched : Nat := 0
  err : BitVec 5 := 0
  deriving DecidableEq, Repr

/-! Ports -/

/-- The LCK fields of a port (R312). -/
structure NetCfg where
  pfcEn : Nat := 0
  fcMode : Nat := 0
  compatTv4 : Bool := false
  shedEn : Bool := true
  media : Bool := false
  rateSel : Nat := 0
  mac : W48 := 0
  nextHop : W48 := 0
  ipv4 : W32 := 0
  ipv6Hi : W64 := 0
  ipv6Lo : W64 := 0
  vlanEn : Bool := false
  vid : Nat := 0
  deriving DecidableEq, Repr

/-- A lane-control request awaiting its answer (R307): CODE, LANE, SEQ and how often it was sent. -/
structure LaneReq where
  code : Nat
  lane : Nat
  seq : Nat
  sends : Nat
  deriving DecidableEq, Repr

/-- What a sent frame carries over its MAC addresses and tag (R235): an EtherType, or IP and UDP. `checksum` says that the
UDP checksum is computed (else it is 0). -/
inductive NetHead where
  | ether (typ : Nat)
  | udp (v6 : Bool) (src dst : BitVec 128) (srcPort dstPort dscp ttl : Nat) (df checksum : Bool)
  deriving DecidableEq, Repr

/-- The head of a sent frame (R235, R294, R298): addresses, the tag's PCP and VID, and the length through the FCS. -/
structure FrameHead where
  dst : W48
  src : W48
  tag : Option (Nat × Nat)
  net : NetHead
  len : Nat
  deriving DecidableEq, Repr

/-- The payload of a sent message in clear: its bytes, or a message of the collective engine, whose layout the spec does not
give (log 35). -/
inductive Payload where
  | bytes (l : List Byte)
  | coll (m : CollMsg)
  deriving DecidableEq, Repr

/-- A DWT frame (R237): its head, the 40 header bytes, the payload, and the key and DIR that it is sealed under; a HELLO is
not sealed. -/
structure Frame where
  head : FrameHead
  hdr : List Byte
  under : Option (Nat × Bool)
  payload : Payload
  deriving DecidableEq, Repr

/-- A frame waiting in a transmit queue, of enclosure `encl` (0xFF: the port's own) (R302, R304). -/
structure TxFrame where
  cls : Nat
  len : Nat
  encl : Nat
  frame : Frame
  deriving DecidableEq, Repr

/-- An Ethernet port (R312). `rxLevel` and `xoffSent` are by class, `pause` the quanta a queue is
paused for, `staging` the bytes of the frame being sent that are in the staging buffer (R303), `fcHeld` that a PAUSE with a
time is in force at the peer (R306), `degraded` and `txDegraded` that the receive or the transmit direction is held at width 2 (R297), `credits` each
class's account of the port shares by enclosure (R350), `low` that the last utilisation window was below 20 % both ways (R308). -/
structure Net where
  cfg : NetCfg := {}
  locked : Bool := false
  powered : Bool := false
  retired : Bool := false
  kind : Nat := 0
  linkUp : Bool := false
  helloOk : Bool := false
  helloLast : Bool := false
  peerMac : Option W48 := none
  peerId : W64 := 0
  rate : Nat := 0
  lanes : Nat := 0
  sparePresent : Bool := false
  degraded : Bool := false
  txDegraded : Bool := false
  rxHealthy : Nat := 0xF
  txSpare : Option Nat := none
  rxSpare : Option Nat := none
  pause : Tbl Nat := []
  txq : List TxFrame := []
  credits : Tbl (Tbl Int) := []
  sending : Option TxFrame := none
  staging : Nat := 0
  rxLevel : Tbl Nat := []
  xoff : List Nat := []
  fcHeld : Bool := false
  threshold : Nat := 2
  prior : Nat := 2
  rawEntries : Nat := 0
  rawBase : Nat := 0
  rawHead : Nat := 0
  rawTail : Nat := 0
  err : BitVec 8 := 0
  counters : Tbl Nat := []
  laneReqs : List LaneReq := []
  laneSeq : Nat := 0
  low : Bool := false
  retrainDue : Bool := false
  deriving DecidableEq, Repr

/-! Security engine -/

/-- The states of an enclosure (R318). -/
inductive EnclState where | absent | awaitingKey | active | resetting | eclipse
  deriving DecidableEq, Repr

/-- An enclosure entry of the active image (R322). -/
structure EnclEntry where
  index : Nat := 0
  sharedCores : Nat := 0
  dedicatedCores : Nat := 0
  tcMask : Nat := 0
  fixedShare : Bool := false
  ctxCount : Nat := 0
  ctxBase : Nat := 0
  ctrCount : Nat := 0
  ctrBase : Nat := 0
  winCount : Nat := 0
  winBase : Nat := 0
  cconnCount : Nat := 0
  cconnBase : Nat := 0
  connCount : Nat := 0
  connBase : Nat := 0
  queueCount : Nat := 0
  queueBase : Nat := 0
  fabricWeight : Nat := 0
  brdPages : Nat := 0
  pkgPages : Nat := 0
  nearPages : List Nat := []
  portWeight : List Nat := []
  hostSlot : Nat := 0
  dwtSlot : Nat := 0
  brdSlot : Nat := 0
  pkgSlot : Nat := 0
  logSlot : Nat := 0
  raw : List Byte := []
  deriving DecidableEq, Repr

/-- A member of the cluster map (R323). -/
structure Member where
  serial : W64
  d : Nat
  p : Nat
  t : Nat
  s : Nat
  node : Nat
  kinds : Nat
  deriving DecidableEq, Repr

/-- An address entry (R324). -/
structure AddrEnt where
  serial : W64
  port : Nat
  family : Nat
  addr : BitVec 128
  deriving DecidableEq, Repr

/-- The active constellation image (R321 to R324). -/
structure Image where
  bytes : List Byte := []
  sequence : W64 := 0
  signer : BitVec 384 := 0
  entries : List EnclEntry := []
  lens : List Nat := [1, 1, 1, 1]
  members : List Member := []
  mapBytes : List Byte := []
  addrs : List AddrEnt := []
  addrBytes : List Byte := []
  deriving DecidableEq, Repr

/-- An enclosure (R316 to R337). `importPriv` numbers the import private key. -/
structure Encl where
  st : EnclState := .absent
  entry : EnclEntry := {}
  trk : Option (BitVec 256) := none
  persist : Bool := false
  epoch : W32 := 0
  pubs : Tbl (BitVec 768) := []
  pubSeq : Option W64 := none
  importPriv : Option Nat := none
  before : EnclState := .absent
  deriving DecidableEq, Repr

/-- A sealed key of the settings store (R335): what its sealing key was derived from, and its content with the last SEQ of
PUB_INSTALL (R337). -/
structure SealedKey where
  index : Nat
  entryHash : BitVec 384
  fw : BitVec 384
  trk : BitVec 256
  epoch : W32
  pubs : Tbl (BitVec 768)
  pubSeq : Option W64
  deriving DecidableEq, Repr

/-- The LCK fields recorded with an image (R329). -/
structure LckRec where
  ideRequired : Bool := true
  udpPort : Nat := 0xC301
  policyHalt : Bool := false
  nets : Tbl NetCfg := []
  deriving DecidableEq, Repr

/-- A security request that has begun and has not completed (R355): a LOAD_IMAGE whose pages are zero-filled, with the
enclosures that it affects (R326), or a KEY_ERASE whose enclosure reset drains (R336). -/
inductive SecBusy where
  | load (r : SecReq) (image : List Byte) (affected : List Nat)
  | erase (r : SecReq)
  deriving DecidableEq, Repr

/-- A descriptor of the security request ring: the ring's base and size, and its index. -/
structure ReqPlace where
  base : Nat := 0
  entries : Nat := 0
  index : Nat := 0
  deriving DecidableEq, Repr

/-- The security engine (R331, R355, R357). `place` is the descriptor of the request that runs. `busy` is the request that runs; `dak` the private scalar of the device
attestation key, `sealing` the sealing key and `reserved` the key of the reserved region (R332), as numbers. -/
structure Sec where
  ready : Bool := false
  dakOk : Bool := false
  image : Option Image := none
  encls : Tbl Encl := []
  keySlots : Tbl (Option Nat) := []
  ringEntries : Nat := 0
  ringBase : Nat := 0
  head : Nat := 0
  tail : Nat := 0
  err : BitVec 5 := 0
  tagFaults : Nat := 0
  busy : Option SecBusy := none
  place : ReqPlace := {}
  dak : Nat := 0
  sealing : Nat := 0
  reserved : Option Nat := none
  deriving DecidableEq, Repr

/-! Recovery controller -/

/-- A recovery descriptor (R378). -/
structure RcvDesc where
  tolUlp : Nat
  undoSkip : Nat
  mirrorEn : Bool
  shadow : Bool
  autoRestore : Bool
  snapMode : Nat
  localVa : Nat
  localPages : Nat
  undoVa : Nat
  fixedSteps : Nat
  undoPages : Nat
  mirrorConn : Nat
  mirrorWgen : Nat
  mirrorWindow : Nat
  lossVa : Nat
  deriving DecidableEq, Repr

/-- The schedule record of a starfix with its pages (R381), in slot `half` of the starfix area: the copies of covered pages by virtual
page, stream records, counters, ladder, window positions and allocations with their punched pages. -/
structure Starfix where
  step : W64
  s : W64
  pages : List (Nat × List (Nat × Byte))
  streams : Tbl CoreCtx
  counters : List Nat
  perm : List LadderEnt
  raise : List RaiseEnt
  winPos : List (Nat × Nat)
  dwtWins : List (Nat × DwtWin)
  conns : List (Nat × ConnDesc)
  objs : List (AllocObj × List Nat)
  half : Nat := 0
  complete : Bool := false
  committed : Bool := false
  unusable : Bool := false
  reference : Option (List Byte) := none
  deriving DecidableEq, Repr

/-- What a context's recovery holds (R378 to R385). `undo` are the pages first written since the meridian, their old contents in
the undo area in that order; `mCores`, `mCounters` and `mPerm` what the last meridian left; `stepTimes` the durations of the last
8 steps with no starfix copying, `copyTimes` of those that ended while the newest one was copying, in ticks of the time counter;
`others` are the counters of its range that a source other than its cores has raised since the meridian (R370); `copied` says
that copying has ended in this step, `toMeasure` that C is still to be measured, `mirrored` that the mirror has
acknowledged every page; `fig` the figures C, T, H and F of the last job-wide tree. -/
structure CtxRcv where
  desc : Option RcvDesc := none
  pending : Option W48 := none
  undo : List Nat := []
  protect : List Nat := []
  undoFull : Bool := false
  mCores : Tbl CoreCtx := []
  mCounters : List Nat := []
  mPerm : List LadderEnt := []
  touched : Bool := false
  others : List Nat := []
  starfixes : List Starfix := []
  copying : Option Starfix := none
  verify : Option (List Byte) := none
  verifying : Bool := false
  lastMer : Option Nat := none
  stepTimes : List Nat := []
  copyTimes : List Nat := []
  copied : Bool := false
  toMeasure : Bool := false
  mirrored : Bool := false
  costC : Option Nat := none
  fig : Option (Nat × Nat × Nat × Nat) := none
  committedStep : Option W64 := none
  deriving DecidableEq, Repr

/-- A context slot (R115 to R120, R133, R440 to R444). `before` is the state that eclipse covers (R365);
`beacons` are beacons of steps that have not ended here (R290), `early` messages of collectives that have not started here,
with their connection (R280, R283). -/
structure Ctx where
  st : CtxState := .none
  before : CtxState := .none
  desc : Desc := {}
  descVA : Nat := 0
  recipe : List W64 := []
  s : W64 := 0
  saved : Tbl CoreCtx := []
  perm : List LadderEnt := []
  raise : List RaiseEnt := []
  stats : Tbl StatSlot := []
  opened : List W32 := []
  replace : Option W48 := none
  switchOut : Bool := false
  preempt : Bool := false
  faulting : Bool := false
  held : Bool := false
  mismatch : Bool := false
  cause : Nat := 0
  flags : Nat := 0
  faultCore : Nat := 0
  faultStream : Nat := 0
  reloadStatus : Nat := 0
  rcvStatus : Nat := 0
  logSeq : W64 := 0
  descMeas : BitVec 384 := 0
  importMeas : BitVec 384 := 0
  lastIn : W64 := 0
  sealedOut : Nat := 0
  digests : List (W64 × BitVec 384) := []
  beacons : List (W64 × BitVec 384) := []
  colls : List Coll := []
  early : List (Nat × CollMsg) := []
  collNext : Nat := 0
  collOpened : Bool := false
  folded : Bool := false
  pmap : Option PMap := none
  rcv : CtxRcv := {}
  deriving DecidableEq, Repr

/-- A context that a reset of domain `dom` may have hit (R369): whether an engine fault started it, what its
streams had dispatched since the last meridian, and its counters at the fault (R370). -/
structure Suspect where
  slot : Nat
  dom : Domain
  fault : Bool
  counts : List Nat := []
  ctrs : List Nat := []
  reproduced : Option Bool := none
  deriving DecidableEq, Repr

/-- A spare fill (R376): the tier, whether the spare is a bank, the half-stack, side stack or site whose pool it comes from
(R375), and the frames of the failing region. -/
structure Fill where
  tier : Tier
  bank : Bool
  pool : Nat
  region : List Nat
  deriving DecidableEq, Repr

/-- A counted reset (R373): its domain (cores 0 to 7, ports 8 to 23, hub 24, device 25) and when. -/
structure Counted where
  dom : Nat
  tick : Nat
  deriving DecidableEq, Repr

/-- A suspect's replay that runs (R370, log 39): the cores of its mask as they stood before, and the scratch pages that hold its
writes. -/
structure Replay where
  cores : Tbl Core := []
  scratch : List Nat := []
  deriving DecidableEq, Repr

/-- The recovery controller (R390). `dayTicks` are the ticks spent in DAY since the last full hour (log 1). `mirrors` is
the copies in the mirror windows on the peers, by connection and window (log 30): it lies outside the module, so no reset
touches it. -/
structure Rcv where
  ready : Bool := false
  outOfService : Bool := false
  streamMs : Nat := 10000
  queueMs : Nat := 10000
  drainUs : Nat := 1000
  replayMs : Nat := 2000
  coresRetired : Nat := 0
  portsRetired : Nat := 0
  eclipse : List Domain := []
  counting : List Domain := []
  suspects : List Suspect := []
  replaying : Option (Domain × Nat) := none
  replay : Option Replay := none
  recentOut : List (Nat × Nat × Nat) := []
  history : List Counted := []
  failures : Nat := 0
  hours : Nat := 0
  dayTicks : Nat := 0
  fillActive : List Fill := []
  fillPending : List Fill := []
  fillDone : Nat := 0
  err : BitVec 9 := 0
  fabricRetries : Nat := 0
  mirrors : Tbl (List Starfix) := []
  deriving DecidableEq, Repr

/-! Management -/

/-- The nine settings of R412 in ID order. -/
structure Settings where
  powerCap : Nat := 1000
  priorMtbf : Nat := 50000
  underrunPrior : Nat := 2
  streamMs : Nat := 10000
  queueMs : Nat := 10000
  drainUs : Nat := 1000
  replayMs : Nat := 2000
  logSeverity : Nat := 1
  ibiEn : Nat := 1
  deriving DecidableEq, Repr

/-- The almanac's own state (R420, R427): the ageing baseline and the path-delay limits by ageing monitor (sensors 144 to 399), the
load guard bands in mV, the planned voltage of each core in µV, its 25 MHz steps, and the power table of R34, (MHz, W). The
spec gives the numbers of none of them (log 5). -/
structure Almanac where
  baseline : Tbl W32 := []
  delayLimits : Tbl W32 := []
  guardBands : List (CalUnit × Nat) := []
  voltage : Tbl Nat := []
  planSteps : Tbl Nat := []
  powerTable : List (Nat × Nat) := []
  deriving DecidableEq, Repr

/-- The committed content of the settings store (R413). `almanac` is what the almanac has kept since its first use (R420),
`highSeq` the highest SEQ, `dayResets` the 24-hour device-reset count as it was last written (R398, log 45); `laneSwaps` are
the lane swaps of ports that the repair ledger records (R296). -/
structure Store where
  settings : Settings := {}
  coresRetired : Nat := 0
  portsRetired : Nat := 0
  lost : List Nat := []
  outOfService : Bool := false
  failures : Nat := 0
  hours : Nat := 0
  rollback : Nat := 0
  opKeys : List (BitVec 768) := []
  opkeySeq : W64 := 0
  sealedKeys : List SealedKey := []
  image : Option Image := none
  lck : LckRec := {}
  startCount : Nat := 0
  almanac : Option Almanac := none
  highSeq : Nat := 0
  dayResets : Nat := 0
  laneSwaps : List (Nat × Nat) := []
  deriving DecidableEq, Repr

/-- An event-log entry (R404). `fields` are the tenant fields before sealing, `tenant` the sealed tenant
part with its tag (R347); `nvm` says that the NVM ring takes it (R403). -/
structure LogEnt where
  seq : Nat
  resets : Nat
  ticks : Nat
  sev : Nat
  source : Nat
  event : Nat
  encl : Nat := 0xFF
  core : Nat := 0xFF
  port : Nat := 0xFF
  stream : Nat := 0xFF
  slot : Nat := 0xFFFF
  detail : Nat := 0
  fields : List Nat := []
  tenant : List Byte := []
  nvm : Bool := false
  deriving DecidableEq, Repr

/-- A mailbox (R395, R428). -/
structure Mailbox where
  arg : W32 := 0
  inLen : Nat := 0
  opcode : Nat := 0
  outLen : Nat := 0
  status : Nat := 0
  done : Bool := true
  buf : Tbl Byte := []
  deriving DecidableEq, Repr

/-- A firmware slot (R416, R419). -/
structure FwSlot where
  bytes : Tbl Byte := []
  length : Nat := 0
  svn : Nat := 0
  valid : Bool := false
  committed : Bool := false
  measure : BitVec 384 := 0
  deriving DecidableEq, Repr

/-- A unit's load re-verification window (R423, R424): open, derating steps taken, the guard band in mV that its calibration
carries, and the qualifying seconds counted. -/
structure LoadWin where
  opened : Bool := false
  steps : Nat := 0
  derated : Bool := false
  guard : Nat := 0
  seconds : Nat := 0
  deriving DecidableEq, Repr

/-- The header of a bank of the settings store (R413). -/
structure BankHdr where
  seq : Nat := 0
  length : Nat := 0
  crc : BitVec 32 := 0
  commit : Bool := false
  deriving DecidableEq, Repr

/-- The management subsystem (R391 to R428). `older` is the content of the bank that does not hold the newest (R413), `storeAt`
the tick of the newest store, and `storeLog` what the next start logs of the store: 1 STORE_RECOVERED, 2 STORE_LOST. `awake` is false in NIGHT; DAY and DAWN differ in core gating only (R393).
`training` and `replanning` are the units and cores that a MAINTAIN or a start has put to work (R421, R426); `planDue` says that
the next entry to DAWN is one from power-up or from NIGHT (R421). -/
structure Mgt where
  ready : Bool := false
  awake : Bool := false
  slot : Nat := 0xFF
  i3cAddr : Nat := 0
  ordIn : Bool := false
  ordOut : Bool := false
  hotJoin : Bool := false
  working : Settings := {}
  store : Store := {}
  storeSeq : Nat := 0
  older : Store := {}
  storeAt : Option Nat := none
  storeLog : Nat := 0
  wear0 : Nat := 0
  wear1 : Nat := 0
  bank0 : BankHdr := { commit := true }
  bank1 : BankHdr := {}
  host : Mailbox := {}
  i3c : Mailbox := {}
  alert : BitVec 7 := 0
  mask : BitVec 7 := 0x7E
  err : BitVec 5 := 0
  ramLog : List LogEnt := []
  nvmLog : List LogEnt := []
  nextSeq : Nat := 0
  reserved : Nat := 0
  fwRun : Nat := 0
  fwUncommitted : Bool := false
  fwA : FwSlot := { valid := true, committed := true }
  fwB : FwSlot := {}
  sensors : Tbl W32 := []
  load : List (CalUnit × LoadWin) := []
  training : List CalUnit := []
  replanning : List Nat := []
  planDue : Bool := true
  deriving DecidableEq, Repr

/-! Power and the module -/

/-- The power manager (01 R29 to R34). `fixedClock` is the clock that R34 computed; `hotSince` is the tick since
which a sensor has been at 100 °C with clock and pacing at their floors (R462). -/
structure Power where
  cap : Nat := 1000
  clock : Nat := 1150
  pacing : Nat := 16
  samples : List W16 := []
  limiting : Bool := false
  fixedClock : Option Nat := none
  hotSince : Option Nat := none
  deriving DecidableEq, Repr

/-- The start-up position (15 R460). -/
inductive StartPhase where
  | off | standby | stagesUp | powerGood | perst | hubOut | verified | dawn | ready
  deriving DecidableEq, Repr

/-- The module's rails, pins and reference clocks (15 R448 to R464). `input` says that 54V_IN is on, `inputOut` that
INPUT_OUT_OF_RANGE is logged, `tripped` that a thermal trip holds THERM_N, `tripLog` and `powerLost` what the next start
logs. -/
structure Module where
  phase : StartPhase := .off
  standby : Bool := false
  input : Bool := false
  inputOut : Bool := false
  pwrGood : Bool := false
  alertN : Bool := true
  thermN : Bool := true
  perstN : Bool := false
  pcieClk : Bool := false
  sdClk : Tbl Bool := []
  thermalStop : Bool := false
  tripped : Bool := false
  tripLog : Bool := false
  powerLost : Bool := false
  deriving DecidableEq, Repr

/-- What the fused record of a die holds beside its kind and index (R407); its wafer number is `wafer + 1`. -/
structure DieRec where
  lot : BitVec 64 := 0
  wafer : Fin 25 := 0
  x : Byte := 0
  y : Byte := 0
  site : Byte := 0
  bin : Byte := 0
  deriving DecidableEq, Repr

/-- The 16 bytes of the record of die `k`: core dies 0 to 3, then the hub (R407, R408). -/
def DieRec.bytes (d : DieRec) (k : Nat) : List Byte :=
  leBytes 8 d.lot.toNat ++ leBytes 1 (d.wafer.val + 1) ++ [d.x, d.y, d.site, d.bin] ++ leBytes 1 (if k = 4 then 1 else 0)
    ++ leBytes 1 (if k = 4 then 0 else k) ++ leBytes 1 0

/-- The five die records. -/
def dieBytes (dies : List DieRec) : List Byte := (List.range 5).flatMap fun k => (dies.getD k {}).bytes k

/-- The device attestation key: HKDF over the fused secret and the identity records of the five dies (R332); the spec gives
neither salt nor info (log 3). -/
def dakOf (secret : BitVec 256) (dies : List DieRec) : Nat :=
  Config.hkdf384 [] (leBytes 32 secret.toNat ++ dieBytes dies) [] 48

/-- The fused data (log 5): `secret` is the fused secret of the dies that the sealing key and the device attestation key come
from, `fwKey` Ahnina's firmware key in the ROM of the hub die (R332), `certKey` the public key of the device certificate, which
Ahnina certified from the same secrets and records (R344, log 5), `almanac` the factory's almanac (R420). `chains` is a fact of the installation, which no command changes:
the chassis and ORD chain, by number, of each module that is not on chain 0, by serial number (R40, log 58). -/
structure Fuse where
  ordering : Nat := 0
  serial : W64 := 0
  production : Bool := true
  revision : Nat := 0
  vendor : Nat := 0
  dies : List DieRec := []
  year : Nat := 0
  week : Nat := 0
  voltage : Tbl Nat := []
  almanac : Almanac := {}
  secret : BitVec 256 := 0
  fwKey : BitVec 768 := 0
  chains : List (W64 × Nat) := []
  certKey : BitVec 768 := Config.p384Public (dakOf secret dies)
  deriving DecidableEq, Repr

/-- What left the device (log 12). A frame stands here once it has started; `stomped` ends the frame that its port was sending
with the ones' complement of its FCS (R304). -/
inductive Output where
  | frame (port : Nat) (f : Frame)
  | stomped (port : Nat)
  | macCtl (port : Nat) (opcode : Nat) (fields : List Nat)
  | hostWrite (addr : Nat) (bytes : List Byte)
  | cpl (slot : Nat) (addr : Nat) (record : List Byte)
  | status (slot : Nat) (addr : Nat) (words : List Nat)
  | sealed (slot : Nat) (addr : Nat) (record : List Byte)
  | msix (fn vector : Nat)
  | ibi (payload : Nat)
  | i3c (bytes : List Byte)
  deriving DecidableEq, Repr

end Sys2Proof.Machine
end

