-- ==== Sys2Proof/Machine/State.lean ====
section
/-! DEFINITION. The state of the TV-8, its reset, and the outcomes other than a next state. -/

namespace Sys2Proof.Machine

/-- The whole module (INVENTORY.md lists every field with its rule). -/
structure State where
  /-- The commands that wait, first in, first out (the block model's own queue). -/
  pending : List Instr := []
  /-- The number of free values drawn so far (the model's own counter, log 2). -/
  fresh : Nat := 0
  /-- What left the device, newest last (the model's own record, log 12). -/
  out : List Output := []
  /-- 32.768 kHz ticks since the last cold reset (R404). -/
  ticks : Nat := 0
  /-- The cold-reset count (R404). -/
  coldResets : Nat := 0
  fuse : Fuse := {}
  modl : Module := {}
  power : Power := {}
  cores : Tbl Core := []
  ctxs : Tbl Ctx := []
  pages : Tbl Page := []
  /-- The 65,536 counters (R128), in canonical form. -/
  counters : Tbl Nat := []
  tiers : Tiers := {}
  dwt : Dwt := {}
  col : Col := {}
  nets : Tbl Net := []
  sec : Sec := {}
  rcv : Rcv := {}
  mgt : Mgt := {}
  hif : Hif := {}
  deriving DecidableEq, Repr

/-- A stop of the model with no next state. No command raises one: every refusal of the device is a
status or a fault of a stream, and every command has a next state (safe: nothing follows from it). -/
inductive Fault where
  /-- Raised by no command; kept so that the outcome type has a fault. Safe. -/
  | unused
  deriving DecidableEq, Repr

/-- Why the model has no meaning for a command. -/
inductive Refusal where
  /-- The command has no meaning yet; its mnemonic. Raised by exec's refused arms. Safe. -/
  | notModelled (mnemonic : String)
  deriving DecidableEq, Repr

/-- The module after a cold reset, before the start-up sequence (log 14): every register at the
reset value of its register map, the fused and stored values as logs 5 and 15 name them. -/
def State.reset : State := {}

end Sys2Proof.Machine
end

