-- ==== Sys2Proof/Machine/Ops.lean ====
section
/-! DEFINITION. The named operations over the state: accessors, the event log and alerts, error
registers, counters, memory behind the page tables, and free values. -/

namespace Sys2Proof.Machine

/-! Accessors -/

def State.core (s : State) (n : Nat) : Core := Tbl.get {} s.cores n
def State.setCore (s : State) (n : Nat) (c : Core) : State := { s with cores := Tbl.put s.cores n c }
def State.ctx (s : State) (k : Nat) : Ctx := Tbl.get {} s.ctxs k
def State.setCtx (s : State) (k : Nat) (c : Ctx) : State := { s with ctxs := Tbl.put s.ctxs k c }
def State.page (s : State) (k : Nat) : Page := Tbl.get {} s.pages k
def State.setPage (s : State) (k : Nat) (p : Page) : State := { s with pages := Tbl.put s.pages k p }
def State.net (s : State) (n : Nat) : Net := Tbl.get {} s.nets n
def State.setNet (s : State) (n : Nat) (p : Net) : State := { s with nets := Tbl.put s.nets n p }
def State.win (s : State) (k : Nat) : DwtWin := Tbl.get {} s.dwt.wins k
def State.setWin (s : State) (k : Nat) (w : DwtWin) : State :=
  { s with dwt := { s.dwt with wins := Tbl.put s.dwt.wins k w } }
def State.conn (s : State) (k : Nat) : DwtConn := Tbl.get {} s.dwt.conns k
def State.setConn (s : State) (k : Nat) (c : DwtConn) : State :=
  { s with dwt := { s.dwt with conns := Tbl.put s.dwt.conns k c } }
def State.queue (s : State) (k : Nat) : DwtQueue := Tbl.get {} s.dwt.queues k
def State.setQueue (s : State) (k : Nat) (q : DwtQueue) : State :=
  { s with dwt := { s.dwt with queues := Tbl.put s.dwt.queues k q } }
def State.encl (s : State) (i : Nat) : Encl := Tbl.get {} s.sec.encls i
def State.setEncl (s : State) (i : Nat) (e : Encl) : State :=
  { s with sec := { s.sec with encls := Tbl.put s.sec.encls i e } }

/-- A 64-bit value that nothing constrains (log 2). -/
def State.free (s : State) : W64 := Config.freeWord s.fresh

/-- The next free value is another one. -/
def State.drawn (s : State) (n : Nat) : State := { s with fresh := s.fresh + n }

/-- Record what left the device (log 12). -/
def State.emit (s : State) (o : Output) : State := { s with out := s.out ++ [o] }

/-- Signal an MSI-X vector of a function while the link is up (R445). -/
def State.msix (s : State) (fn v : Nat) : State := if s.hif.linkUp then s.emit (.msix fn v) else s

/-- A DWT operation, a collective or host DMA of a loaded context, or a landing in its address space (R372). -/
def State.touch (s : State) (slot : Nat) : State :=
  let c := s.ctx slot
  if c.st = .none then s else s.setCtx slot { c with rcv := { c.rcv with touched := true } }

/-- The almanac as it stands: the factory's until its first use, then its own state in the settings store (R420). -/
def State.almanac (s : State) : Almanac := s.mgt.store.almanac.getD s.fuse.almanac

/-- Whether the hub runs: it has left reset (R460). -/
def State.hubOut (s : State) : Bool := match s.modl.phase with
  | .hubOut => true | .verified => true | .dawn => true | .ready => true
  | _ => false

/-! Enclosures -/

/-- The enclosure entries of the active image. -/
def State.entries (s : State) : List EnclEntry :=
  match s.sec.image with
  | some i => i.entries
  | none => []

/-- The slot number, beyond those of the device, that a replay runs under: its address space, counters and streams are apart from
those of the suspect (R370, log 39). -/
def replaySlot : Nat := Config.ctxSlots

/-- The counters of a replay stand beyond those of the device. -/
def replayCtrs : Nat := 2 ^ 32

/-- The context slot whose replay runs. -/
def State.replayed (s : State) : Option Nat := s.rcv.replaying.map Prod.snd

/-- The slot of the device that a slot number stands for. -/
def State.home (s : State) (k : Nat) : Nat := if k = replaySlot then s.replayed.getD k else k

/-- The enclosure that holds context slot `j` (R322). -/
def State.enclOfSlot (s : State) (j : Nat) : Option Nat :=
  let k := s.home j
  (s.entries.find? fun e => decide (e.ctxBase ≤ k) && decide (k < e.ctxBase + e.ctxCount)).map (·.index)

def State.enclOfConn (s : State) (k : Nat) : Option Nat :=
  (s.entries.find? fun e => decide (e.connBase ≤ k) && decide (k < e.connBase + e.connCount)).map (·.index)

def State.enclOfQueue (s : State) (k : Nat) : Option Nat :=
  (s.entries.find? fun e => decide (e.queueBase ≤ k) && decide (k < e.queueBase + e.queueCount)).map (·.index)

def State.enclOfWin (s : State) (k : Nat) : Option Nat :=
  (s.entries.find? fun e => decide (e.winBase ≤ k) && decide (k < e.winBase + e.winCount)).map (·.index)

def State.enclOfCtr (s : State) (k : Nat) : Option Nat :=
  (s.entries.find? fun e => decide (e.ctrBase ≤ k) && decide (k < e.ctrBase + e.ctrCount)).map (·.index)

/-- The entry of enclosure `i`. -/
def State.entry (s : State) (i : Nat) : EnclEntry := ((s.entries.find? fun e => decide (e.index = i))).getD {}

/-- The key in a bound slot of the security engine (R331). -/
def State.slotKey (s : State) (k : Nat) : Option Nat := Tbl.get none s.sec.keySlots k

/-! Alerts and the event log (13 R403 to R405, R428) -/

/-- The level of ALERT_N: low while an ALERT bit has its MASK bit set. -/
def State.alertPin (s : State) : State :=
  { s with modl := { s.modl with alertN := decide (s.mgt.alert &&& s.mgt.mask = 0#7) } }

/-- Set bit `k` of MGT.ALERT; PF vector 0 signals MBOX_DONE and the unmasked
bits (R445); an IBI goes out when the bit rises unmasked and IBI_EN is 1. -/
def State.raiseAlert (s : State) (k : Nat) : State :=
  if s.mgt.alert.getLsbD k then s
  else
    let s1 := { s with mgt := { s.mgt with alert := s.mgt.alert ||| BitVec.ofNat 7 (2 ^ k) } }
    let s2 := if s.mgt.mask.getLsbD k || decide (k = 0) then s1.alertPin.msix 0 0 else s1.alertPin
    if s.mgt.mask.getLsbD k && decide (s.mgt.working.ibiEn = 1) then s2.emit (.ibi s2.mgt.alert.toNat) else s2

/-- The 48 operator-visible bytes of an entry, bytes 0x00 to 0x2F (R404). -/
def LogEnt.head (e : LogEnt) : List Byte :=
  leBytes 8 e.seq ++ leBytes 8 (e.ticks + e.resets * 2 ^ 48)
    ++ leBytes 2 (e.event + e.source * 2 ^ 8 + e.sev * 2 ^ 14)
    ++ leBytes 1 e.encl ++ leBytes 1 e.core ++ leBytes 1 e.port ++ leBytes 1 e.stream ++ leBytes 2 e.slot
    ++ leBytes 8 0 ++ leBytes 16 e.detail

/-- The sealed tenant part with its tag, 48 and 16 bytes, where the entry concerns an enclosure that holds its log key
(R347, R404). -/
def State.sealTenant (s : State) (e : LogEnt) : List Byte :=
  if e.encl = 0xFF then []
  else match s.slotKey (s.entry e.encl).logSlot with
    | some key => (padTo 0#8 64 (Config.gcmSeal key e.seq e.head (Config.tenantPlain e.fields))).take 64
    | none => []

/-- Add to a ring of `n`, the newest over the oldest (R403). -/
def pushRing (n : Nat) (l : List LogEnt) (e : LogEnt) : List LogEnt := (l ++ [e]).drop (l.length + 1 - n)

/-- Write an entry: it takes SEQ and TIME, after a new reservation where its SEQ reaches the stored one
(R404), and goes to the RAM ring; ERROR and CRITICAL raise LOG_ERROR. DETAIL of an enclosure's entry is a cycle count,
which the model does not keep: a free value (log 2). -/
def State.logEv (s : State) (e : LogEnt) : State :=
  let own := decide (e.encl ≠ 0xFF)
  let e1 := { e with seq := s.mgt.nextSeq, resets := min s.coldResets 65535, ticks := s.ticks
                     detail := if own then s.free.toNat else e.detail }
  let e2 := { e1 with tenant := s.sealTenant e1, nvm := decide (s.mgt.working.logSeverity ≤ e.sev) }
  let s1 := { s with fresh := s.fresh + b2n own, mgt := { s.mgt with
      ramLog := pushRing 32768 s.mgt.ramLog e2
      nextSeq := s.mgt.nextSeq + 1
      reserved := if s.mgt.reserved ≤ s.mgt.nextSeq then s.mgt.reserved + 65536 else s.mgt.reserved } }
  if 2 ≤ e.sev then s1.raiseAlert 2 else s1

/-- An entry with no numbers of its own. -/
def ev (sev source event : Nat) : LogEnt :=
  { seq := 0, resets := 0, ticks := 0, sev := sev, source := source, event := event }

/-- An entry of source Context: CTX_SLOT and ENCL are set (R405). -/
def State.evCtx (s : State) (sev event slot : Nat) : LogEnt :=
  { ev sev 0x0A event with slot := s.home slot, encl := (s.enclOfSlot slot).getD 0xFF }

/-- Bit `k` of an error register set. -/
def setBit {n : Nat} (v : BitVec n) (k : Nat) : BitVec n := v ||| BitVec.ofNat n (2 ^ k)

/-! Error bits: each logs its bit number when it rises (R405). -/

def State.errCore (s : State) (n k : Nat) : State :=
  let c := s.core n
  if c.err.getLsbD k then s
  else (s.setCore n { c with err := setBit c.err k }).logEv { ev 2 0x07 k with core := n }

def State.errTier (s : State) (k : Nat) : State :=
  if s.tiers.err.getLsbD k then s
  else State.logEv { s with tiers := { s.tiers with err := setBit s.tiers.err k } } (ev 2 0x06 k)

def State.errNet (s : State) (n k : Nat) : State :=
  let p := s.net n
  if p.err.getLsbD k then s
  else (s.setNet n { p with err := setBit p.err k }).logEv { ev 2 0x08 k with port := n }

/-- A bit of DWT.ERR gives the connection index (R268). -/
def State.errDwt (s : State) (k : Nat) (conn : Nat := 0) : State :=
  if s.dwt.err.getLsbD k then s
  else State.logEv { s with dwt := { s.dwt with err := setBit s.dwt.err k } } { ev 2 0x04 k with detail := conn }

/-- A bit of COL.ERR gives the context slot (R292). -/
def State.errCol (s : State) (k slot : Nat) : State :=
  if s.col.err.getLsbD k then s
  else State.logEv { s with col := { s.col with err := setBit s.col.err k } } { ev 2 0x05 k with slot := slot }

/-- A bit of SEC.ERR gives the enclosure index where one applies (R357). -/
def State.errSec (s : State) (k : Nat) (encl : Nat := 0xFF) : State :=
  if s.sec.err.getLsbD k then s
  else State.logEv { s with sec := { s.sec with err := setBit s.sec.err k } } { ev 2 0x03 k with encl := encl }

/-- A bit of RCV.ERR gives the context slot and, by number, the domain (R390). -/
def State.errRcv (s : State) (k : Nat) (slot : Nat := 0xFFFF) (core : Nat := 0xFF) (port : Nat := 0xFF) : State :=
  if s.rcv.err.getLsbD k then s
  else State.logEv { s with rcv := { s.rcv with err := setBit s.rcv.err k } }
    { ev 2 0x09 k with slot := slot, core := core, port := port } |>.msix 0 19

/-- A bit of HIF.ERR gives the slot where one applies (R447). -/
def State.errHif (s : State) (k : Nat) (slot : Nat := 0xFFFF) : State :=
  if s.hif.err.getLsbD k then s
  else State.logEv { s with hif := { s.hif with err := setBit s.hif.err k } } { ev 2 0x01 k with slot := slot }
    |>.msix 0 18

/-- A bit of MGT.ERR logs its named event (R428). -/
def State.errMgt (s : State) (k : Nat) (e : LogEnt) : State :=
  if s.mgt.err.getLsbD k then s
  else State.logEv { s with mgt := { s.mgt with err := setBit s.mgt.err k } } e

/-! Counters (R128, R129, R132) -/

/-- The loaded context whose range holds device counter `k`. -/
def State.ctrOwner (s : State) (k : Nat) : Option Nat :=
  (s.ctxs.find? fun p => decide (p.2.st ≠ .none) && decide (p.2.desc.ctrBase ≤ k)
    && decide (k < p.2.desc.ctrBase + p.2.desc.ctrCount)).map Prod.fst

def State.counter (s : State) (k : Nat) : Nat := Tbl.get 0 s.counters k

/-- Add `n` to device counter `k`: it saturates and logs CTR_SATURATED; an unowned counter drops the
increment and logs CTR_UNOWNED. -/
def State.raiseCtr (s : State) (k n : Nat) : State :=
  match s.ctrOwner k with
  | none => s.logEv { ev 1 0x0A 0x44 with encl := (s.enclOfCtr k).getD 0xFF }
  | some slot =>
    let v := satAdd Config.counterMax (s.counter k) n
    let s1 := { s with counters := Tbl.write 0 s.counters k v }
    if v = Config.counterMax ∧ s.counter k < Config.counterMax then s1.logEv (s.evCtx 1 0x43 slot) else s1

/-- Counter `k` of the context's range is raised by a source other than its own cores (R370). -/
def State.markOther (s : State) (slot k : Nat) : State :=
  let c := s.ctx slot
  s.setCtx slot { c with rcv := { c.rcv with others := insertNew k c.rcv.others } }

/-- A source other than the context's cores adds `n` to counter `k` of its range; with the context unloaded the increment is dropped
and logged as CTR_UNOWNED (R132). -/
def State.raiseRel (s : State) (slot k n : Nat) : State :=
  if (s.ctx slot).st = .none then s.logEv (s.evCtx 1 0x44 slot)
  else (s.markOther slot k).raiseCtr ((s.ctx slot).desc.ctrBase + k) n

/-- In a replay a counter that another source raised keeps the value that it had at the fault (R370). -/
def Ctx.ctrFrozen (c : Ctx) (slot k : Nat) : Bool := decide (slot = replaySlot) && decide (k ∈ c.rcv.others)

/-- Set the counters of a range to 0 (R119). -/
def State.clearCtrs (s : State) (base n : Nat) : State := { s with counters := Tbl.clear s.counters base n }

/-! Page tables (R183, R184) -/

def vpages : Nat := 2 ^ 27
def addrTop : Nat := 2 ^ 48

/-- The virtual page of a context address. -/
def vpage (va : Nat) : Nat := va % addrTop / Config.pageBytes

def State.pte (s : State) (slot vp : Nat) : Option Pte := Tbl.look s.tiers.pt (slot * vpages + vp)

def State.setPte (s : State) (slot vp : Nat) (p : Pte) : State :=
  { s with tiers := { s.tiers with pt := Tbl.put s.tiers.pt (slot * vpages + vp) p } }

/-- The first frames of the package and board tiers (log 6). -/
def packageBase : Nat := Config.nearPagesPerCore * Config.cores
def boardBase : Nat := packageBase + Config.packagePages

/-- Board pages fitted by the ordering code (R1, R178). -/
def State.boardPages (s : State) : Nat :=
  if s.fuse.ordering = 0 then Config.boardPages1408 else Config.boardPages896

/-- The tier of a frame. -/
def tierOf (frame : Nat) : Tier :=
  if frame < packageBase then .near else if frame < boardBase then .package else .board

/-! Owners and keys of frames (R338, R339) -/

/-- The enclosure whose address space a frame belongs to. -/
def State.ownerOf (s : State) (f : Nat) : Option Nat :=
  ((s.tiers.pt.find? fun p => decide (p.2.frame = f) || decide (p.2.moving = some f)).map fun p => p.1 / vpages).bind s.enclOfSlot

/-- The key that a page of the package or board tier is stored under: its owner's tier key, that of the owner that it has left
until it is zero-filled, or the key of the reserved region. -/
def State.pageKey (s : State) (f : Nat) : Option Nat :=
  if tierOf f = .near then none
  else if packageBase ≤ f ∧ f < packageBase + Config.reservedPages then s.sec.reserved
  else match s.ownerOf f with
    | some k => s.slotKey (if tierOf f = .package then (s.entry k).pkgSlot else (s.entry k).brdSlot)
    | none => Tbl.look s.tiers.leftKeys f

/-- A frame is about to leave its address space: its bytes stay under the key that they have. -/
def State.leaveFrame (s : State) (f : Nat) : State :=
  match s.pageKey f with
  | some k => { s with tiers := { s.tiers with leftKeys := Tbl.put s.tiers.leftKeys f k } }
  | none => s

/-- A virtual page is unmapped; its frames leave the address space. -/
def State.dropPte (s : State) (slot vp : Nat) : State :=
  let s1 := match s.pte slot vp with
    | some p => (p.frame :: p.moving.toList).foldl State.leaveFrame s
    | none => s
  { s1 with tiers := { s1.tiers with pt := Tbl.drop s1.tiers.pt (slot * vpages + vp) } }

/-- Whether a near frame carries the tag of another enclosure than the slot's (R339). -/
def State.tagWrong (s : State) (slot f : Nat) : Bool :=
  decide (tierOf f = .near) &&
    (match Tbl.look s.tiers.tags f with
     | some e => decide (s.enclOfSlot slot ≠ some e)
     | none => false)

/-- A request of a slot's context whose tag differs: counted, flagged and logged with the enclosure that asked (R339, R357). -/
def State.tagViolation (s : State) (slot : Nat) : State :=
  State.errSec { s with sec := { s.sec with tagFaults := satAdd Config.sat32 s.sec.tagFaults 1 } } 3 ((s.enclOfSlot slot).getD 0xFF)

/-- The pages that `n` bytes from `va` touch. -/
def pagesOf (va n : Nat) : List Nat :=
  if n = 0 then []
  else (List.range ((va % Config.pageBytes + n - 1) / Config.pageBytes + 1)).map fun i =>
    (vpage va + i) % vpages

/-- The pages of a window's view (R193). -/
def SWin.viewPages (w : SWin) : Nat := if w.follow then w.srcPages else w.depth * w.slotPages

/-- The allocation object with base `va`: the newest, since an object lies only over holes of an older one (R190, R191). -/
def State.objAt (s : State) (slot base : Nat) : Option AllocObj :=
  s.tiers.objs.reverse.find? fun o => decide (o.slot = slot) && decide (o.base = base)

/-- The allocation object that a mapped virtual page belongs to: the newest whose bounds hold it, since an
object lies only over holes of an older one (R190, R191). -/
def State.objOf (s : State) (slot vp : Nat) : Option AllocObj :=
  s.tiers.objs.reverse.find? fun o => decide (o.slot = slot) && decide (vpage o.base ≤ vp)
    && decide (vp < vpage o.base + o.pages)

/-- The object with a base and a size: of two with one base the newer lies in a hole of the older, so it is the smaller. -/
def State.objBy (s : State) (slot base pages : Nat) : Option AllocObj :=
  s.tiers.objs.find? fun o => decide (o.slot = slot) && decide (o.base = base) && decide (o.pages = pages)

/-- The source allocation of a window. -/
def State.srcOf (s : State) (w : SWin) : Option AllocObj := s.objBy w.slot w.src w.srcPages

/-- The other half of a PARAM pair (R189). -/
def State.partnerOf (s : State) (o : AllocObj) : Option AllocObj := o.partner.bind fun pv => s.objBy o.slot pv o.pages

/-- The window whose view shows virtual page `vp`, by its place in the list, and the page of the view. -/
def State.viewAt (s : State) (slot vp : Nat) : Option (Nat × Nat) :=
  (s.tiers.wins.zipIdx.find? fun p =>
    decide (p.1.slot = s.home slot) && decide (vpage p.1.view ≤ vp)
      && decide (vp < vpage p.1.view + p.1.viewPages)).map
    fun p => (p.2, vp - vpage p.1.view)

/-- The entry of a page of a window's source; a hole has none, also where another allocation lies over it (R190, R191, R195). -/
def State.srcPte (s : State) (w : SWin) (vp : Nat) : Option Pte :=
  match s.srcOf w with
  | some o => if s.objOf w.slot vp = some o then s.pte w.slot vp else none
  | none => none

/-- Whether virtual page `vp` is mapped: it has an entry, or a FOLLOW view mirrors a mapped page of its source there. -/
def State.mappedPage (s : State) (slot vp : Nat) : Bool :=
  if vp = 0 then false
  else if (s.pte slot vp).isSome then true
  else match s.viewAt slot vp with
    | some (w, i) =>
      match s.tiers.wins[w]? with
      | some sw => sw.follow && (s.srcPte sw (vpage sw.src + i)).isSome
      | none => false
    | none => false

/-- Whether every page of an extent is mapped (R162). -/
def State.mapped (s : State) (slot va n : Nat) : Bool := (pagesOf va n).all (s.mappedPage slot)

/-- A frame lies in a tier that a MAINTAIN retrains: accesses to it wait for the end (R425, R426). -/
def State.trains (s : State) (f : Nat) : Bool :=
  s.mgt.training.any fun u => match u with
    | .near n => decide (tierOf f = .near) && decide (f / Config.nearPagesPerCore = n.val)
    | .package => decide (tierOf f = .package)
    | .board => decide (tierOf f = .board)
    | _ => false

/-- An access to an extent of an address space waits for a retrain. -/
def State.memTrains (s : State) (slot va n : Nat) : Bool :=
  !s.mgt.training.isEmpty && (pagesOf va n).any fun vp =>
    (s.pte slot vp).any (fun p => s.trains p.frame || p.moving.any s.trains)
      || (s.viewAt slot vp).any fun v => (s.tiers.wins[v.1]?).any fun w => w.frames.any s.trains

/-! Bytes of the tiers (R178, R180) -/

/-- The canonical form of memory: addresses strictly rising, and no entry that reads as an unlisted address does, 0 (log 6). -/
def Memory.wf (m : Tbl Byte) : Bool := Tbl.wf 0#8 m

/-- The bytes of page `frame` that are listed, by their offset. -/
def State.pageBytesOf (s : State) (frame : Nat) : List (Nat × Byte) :=
  (s.tiers.mem.filter fun p => decide (frame * Config.pageBytes ≤ p.1)
    && decide (p.1 < (frame + 1) * Config.pageBytes)).map fun p => (p.1 - frame * Config.pageBytes, p.2)

/-- Page `frame` filled with zeros; no line of it is poisoned. -/
def State.zeroFrame (s : State) (frame : Nat) : State :=
  { s with tiers := { s.tiers with
      mem := Tbl.clear s.tiers.mem (frame * Config.pageBytes) Config.pageBytes
      poison := s.tiers.poison.filter fun l =>
        decide (l < frame * 32768) || decide ((frame + 1) * 32768 ≤ l)
      latent := s.tiers.latent.filter fun e =>
        decide (e.line < frame * 32768) || decide ((frame + 1) * 32768 ≤ e.line)
      leftKeys := Tbl.drop s.tiers.leftKeys frame } }

/-- Page `frame` set to the listed bytes. -/
def State.fillFrame (s : State) (frame : Nat) (bs : List (Nat × Byte)) : State :=
  let s1 := s.zeroFrame frame
  { s1 with tiers := { s1.tiers with
      mem := bs.foldl (fun m p => Tbl.write 0#8 m (frame * Config.pageBytes + p.1) p.2) s1.tiers.mem } }

/-- Copy a page with its poison (R180, R204). -/
def State.copyFrame (s : State) (src dst : Nat) : State :=
  let s1 := s.fillFrame dst (s.pageBytesOf src)
  { s1 with tiers := { s1.tiers with
      poison := s1.tiers.poison ++ (s.tiers.poison.filter fun l =>
        decide (src * 32768 ≤ l) && decide (l < (src + 1) * 32768)).map fun l => l - src * 32768 + dst * 32768 } }

def State.physRead (s : State) (a n : Nat) : List Byte := Tbl.slice 0#8 s.tiers.mem a n

/-- The lines of a physical extent. -/
def linesOf (a n : Nat) : List Nat :=
  if n = 0 then [] else (List.range ((a + n - 1) / 64 + 1 - a / 64)).map fun i => a / 64 + i

def State.physPoisoned (s : State) (a n : Nat) : Bool := (linesOf a n).any fun l => decide (l ∈ s.tiers.poison)

/-- Write bytes at a physical address; a plain write that covers a whole line ends its poison (R180). -/
def State.physWrite (s : State) (a : Nat) (bs : List Byte) : State :=
  { s with tiers := { s.tiers with
      mem := Tbl.writeList 0#8 s.tiers.mem a bs
      poison := s.tiers.poison.filter fun l => !(decide (a ≤ l * 64) && decide (l * 64 + 64 ≤ a + bs.length))
      latent := s.tiers.latent.filter fun e => !(decide (a ≤ e.line * 64) && decide (e.line * 64 + 64 ≤ a + bs.length)) } }

/-! Errors that a read finds (R180, R181) -/

def tierNum : Tier → Nat
  | .near => 0 | .package => 1 | .board => 2

/-- `n` corrected errors in a tier. -/
def State.addCe (s : State) (t : Tier) (n : Nat) : State :=
  if n = 0 then s
  else
    let s1 := { s with tiers := { s.tiers with
      ce := Tbl.put s.tiers.ce (tierNum t) (satAdd Config.sat32 (Tbl.get 0 s.tiers.ce (tierNum t)) n) } }
    s1.errTier (2 * tierNum t)

def oneDay : Nat := 86400 * 32768

/-- An error has been found in a line; the occasions of the last 24 hours are kept (R375). -/
def State.noteHit (s : State) (line : Nat) (ue : Bool) : State :=
  let old := s.tiers.occasions.filter fun h => decide (s.ticks < h.tick + oneDay)
  { s with tiers := { s.tiers with occasions := old ++ [{ line := line, tick := s.ticks, ue := ue }] } }

/-- A corrected error in a line. -/
def State.foundCe (s : State) (line : Nat) : State := (s.noteHit line false).addCe (tierOf (line / 32768)) 1

/-- An uncorrectable error marks its line poisoned in place (R180). -/
def State.addUe (s0 : State) (line : Nat) : State :=
  let s := s0.noteHit line true
  let s1 := { s with tiers := { s.tiers with poison := insertNew line s.tiers.poison } }
  s1.errTier (2 * tierNum (tierOf (line / 32768)) + 1)

/-- A read finds an error: corrected and rewritten, or its line poisoned. -/
def State.meetErr (s : State) (e : TierErr) : State :=
  if e.ue then s.addUe e.line else s.foundCe e.line

/-- A read of a physical extent finds the errors of its lines. -/
def State.meetLines (s : State) (a n : Nat) : State :=
  let hit := fun e : TierErr => decide (0 < n) && decide (a / 64 ≤ e.line) && decide (e.line * 64 < a + n)
  (s.tiers.latent.filter hit).foldl State.meetErr
    { s with tiers := { s.tiers with latent := s.tiers.latent.filter fun e => !hit e } }

/-! Windows refreshed at a read (R197, R198) -/

/-- The generation of a source page. -/
def State.gen (s : State) (w : SWin) (vp : Nat) : Nat := ((s.srcPte w vp).map (·.gen)).getD 0

/-- A read of the part of an extent that lies in source page `vp`. -/
def State.meetPage (w : SWin) (va n : Nat) (s : State) (vp : Nat) : State :=
  match s.srcPte w vp with
  | some p =>
    let lo := max va (vp * Config.pageBytes)
    let hi := min (va + n) ((vp + 1) * Config.pageBytes)
    s.meetLines (p.frame * Config.pageBytes + lo % Config.pageBytes) (hi - lo)
  | none => s

/-- Copy the bytes of an extent of the source of window `w` to a frame at an offset; holes read as zeros (R195). -/
def State.copyIn (s0 : State) (w : SWin) (va n frame off : Nat) : State :=
  let s := (pagesOf va n).foldl (State.meetPage w va n) s0
  let bytes := (List.range n).map fun i =>
    match s.srcPte w (vpage (va + i)) with
    | some p => Tbl.get 0#8 s.tiers.mem (p.frame * Config.pageBytes + (va + i) % Config.pageBytes)
    | none => 0#8
  let bad := (List.range (n / 64)).filterMap fun i =>
    match s.srcPte w (vpage (va + 64 * i)) with
    | some p =>
      if s.physPoisoned (p.frame * Config.pageBytes + (va + 64 * i) % Config.pageBytes) 64 then
        some ((frame * Config.pageBytes + off) / 64 + i) else none
    | none => none
  let s1 := s.physWrite (frame * Config.pageBytes + off) bytes
  { s1 with tiers := { s1.tiers with poison := s1.tiers.poison ++ bad } }

/-- The source extent, within page `i` of a LIST window, of the entry its slot last took. -/
def SWin.pageExtent (w : SWin) (i : Nat) : Option (Nat × Nat) :=
  match Tbl.look w.entryIn (i / w.slotPages), w.list.isEmpty with
  | some p, false =>
    let e := w.list.getD (p % w.list.length) (0, 0)
    let lo := i % w.slotPages * Config.pageBytes
    if lo < e.2 then some (w.src + e.1 + lo, min Config.pageBytes (e.2 - lo)) else none
  | _, _ => none

/-- The pages of an extent of a source with their generations. -/
def State.gensOf (s : State) (w : SWin) (va n : Nat) : List (Nat × Nat) :=
  (pagesOf va n).map fun vp => (vp, s.gen w vp)

def State.setSwin (s : State) (w : Nat) (sw : SWin) : State :=
  { s with tiers := { s.tiers with wins := setAt s.tiers.wins w sw } }

/-- Page `i` of window `w` copied again where a generation differs (R197). -/
def State.refreshPage (s : State) (w i : Nat) : State :=
  match s.tiers.wins[w]? with
  | none => s
  | some sw =>
    let wp := Tbl.get {} sw.pages i
    if wp.srcs.all fun g => decide (s.gen sw g.1 = g.2) then s
    else
      let ext := if sw.follow then (wp.srcs.head?.map fun g => (g.1 * Config.pageBytes, Config.pageBytes))
        else sw.pageExtent i
      match ext with
      | none => s
      | some (va, n) =>
        let sw1 := { sw with pages := Tbl.put sw.pages i { srcs := s.gensOf sw va n },
                             stale := sw.stale + 1 }
        (s.setSwin w sw1).copyIn sw va n (sw.frames.getD i 0) 0

/-- Bring source page `vp` into a FOLLOW window, evicting the least recently read page where it is full
(R198). Answers the state and the window page. -/
def State.followFetch (s : State) (w vp : Nat) : State × Nat :=
  match s.tiers.wins[w]? with
  | none => (s, 0)
  | some sw =>
    let used := sw.cache.map Prod.snd
    let room := (List.range sw.frames.length).find? fun i => decide (i ∉ used)
    let i := match room with
      | some i => i
      | none => ((sw.cache.getLast?).map Prod.snd).getD 0
    let cache := if room.isSome then sw.cache else sw.cache.dropLast
    let sw1 := { sw with cache := (vp, i) :: cache,
                         pages := Tbl.put sw.pages i { srcs := [(vp, s.gen sw vp)] } }
    (((s.setSwin w sw1).copyIn sw (vp * Config.pageBytes) Config.pageBytes (sw.frames.getD i 0) 0), i)

/-- A FOLLOW read of source page `vp`: fetched where it is not resident, made the most recently read, and
checked (R198). Answers the frame that serves it. -/
def State.followRead (s : State) (w vp : Nat) : State × Nat :=
  match s.tiers.wins[w]? with
  | none => (s, 0)
  | some sw =>
    match sw.cache.find? fun p => decide (p.1 = vp) with
    | some (_, i) =>
      let sw1 := { sw with cache := (vp, i) :: sw.cache.filter fun p => decide (p.1 ≠ vp) }
      ((s.setSwin w sw1).refreshPage w i, sw.frames.getD i 0)
    | none =>
      let r := s.followFetch w vp
      match r.1.tiers.wins[w]? with
      | some sw1 =>
        (r.1.setSwin w { sw1 with filled := sw1.filled + 1
                                  ahead := if sw1.runahead = 0 then sw1.ahead else insertNew vp sw1.ahead }, sw.frames.getD r.2 0)
      | none => r

/-- Copy the source extent of window page `pg` into its frame. -/
def copyWinPage (w : SWin) (u : State) (pg : Nat) : State :=
  match w.pageExtent pg with
  | some x => u.copyIn w x.1 x.2 (w.frames.getD pg 0) 0
  | none => u

/-- A window page of a landing entry; what its extent does not cover reads as zeros (R195). -/
def landPage (w : SWin) (u : State) (pg : Nat) : State :=
  copyWinPage w (u.zeroFrame (w.frames.getD pg 0)) pg

/-- A read of page `i` of a LIST view by an engine: where its slot's entry is being copied the read comes after the page's
bytes have landed (R196); a stream's instruction waits at its head instead (`Env.viewWaits`). -/
def State.landed (s : State) (w i : Nat) (sw : SWin) : State :=
  match sw.copying with
  | some p => if i / sw.slotPages = p % sw.depth then landPage sw s i else s.refreshPage w i
  | none => s.refreshPage w i

/-- The frame that serves a read of virtual page `vp`, after the checks of a window (R196 to R198). -/
def State.readFrame (s : State) (slot vp : Nat) : State × Option Nat :=
  match s.viewAt slot vp with
  | some (w, i) =>
    match s.tiers.wins[w]? with
    | some sw =>
      if sw.follow then
        let r := s.followRead w (vpage sw.src + i)
        (r.1, some r.2)
      else (s.landed w i sw, some (sw.frames.getD i 0))
    | none => (s, none)
  | none => (s, (s.pte slot vp).map (·.frame))

/-- What a read of memory gives: the bytes, whether a poisoned line was met, and the state after. -/
structure MemRead where
  s : State
  bytes : List Byte
  bad : Bool
  deriving DecidableEq, Repr

/-- Read `n` bytes at context address `va`, page by page (`fuel` pages at most); an unmapped page reads as
poisoned, and so does one of another enclosure's tag, which gives no data (R339). -/
def State.readPages (slot : Nat) : Nat → Nat → Nat → State → MemRead
  | 0, _, _, s => ⟨s, [], false⟩
  | fuel + 1, va, n, s =>
    if n = 0 then ⟨s, [], false⟩
    else
      let off := va % Config.pageBytes
      let k := min n (Config.pageBytes - off)
      let r := s.readFrame slot (vpage va)
      match r.2 with
      | none => ⟨r.1, [], true⟩
      | some f =>
        if r.1.tagWrong slot f then ⟨r.1.tagViolation slot, [], true⟩
        else
        let a := f * Config.pageBytes + off
        let u := r.1.meetLines a k
        let m := State.readPages slot fuel ((va + k) % addrTop) (n - k) u
        ⟨m.s, u.physRead a k ++ m.bytes, u.physPoisoned a k || m.bad⟩

def State.readVA (s : State) (slot va n : Nat) : MemRead :=
  s.readPages slot (n / Config.pageBytes + 2) va n

/-- Whether the frame that serves a page of an extent carries another enclosure's tag (R339). -/
def State.tagBad (s : State) (slot va n : Nat) : Bool :=
  (pagesOf va n).any fun vp =>
    match (s.readFrame slot vp).2 with
    | some f => s.tagWrong slot f
    | none => false

/-! Undo (R380) -/

/-- A page with its poison copied over another of the same address space, whose generation rises; a page that moves is written at
both its locations (R204). -/
def State.copyPage (s : State) (slot src dst : Nat) : State :=
  match s.pte slot src, s.pte slot dst with
  | some a, some b =>
    let s1 := (s.meetLines (a.frame * Config.pageBytes) Config.pageBytes).copyFrame a.frame b.frame
    let s2 := match b.moving with
      | some f => s1.copyFrame a.frame f
      | none => s1
    s2.setPte slot dst { b with gen := (b.gen + 1) % addrTop }
  | _, _ => s

/-- The first write of the step to a protected page copies it into the undo area at UNDO_VA, while it has room. -/
def State.undoHook (s : State) (slot vp : Nat) : State :=
  let c := s.ctx slot
  if vp ∉ c.rcv.protect then s
  else
    let r := { c.rcv with protect := c.rcv.protect.filter fun p => decide (p ≠ vp) }
    match c.rcv.desc with
    | none => s.setCtx slot { c with rcv := r }
    | some d =>
      let role := ((s.objOf slot vp).map fun o => bits o.flags 11 8).getD 0
      if bit d.undoSkip role then s.setCtx slot { c with rcv := r }
      else if d.undoPages ≤ c.rcv.undo.length ∨ s.pte slot (vpage d.undoVa + c.rcv.undo.length) = none then
        s.setCtx slot { c with rcv := { r with undoFull := decide (0 < d.undoPages) || r.undoFull },
                               flags := if 0 < d.undoPages then c.flags ||| 1 else c.flags }
      else
        let s1 := s.copyPage slot vp (vpage d.undoVa + c.rcv.undo.length)
        s1.setCtx slot { s1.ctx slot with rcv := { r with undo := r.undo ++ [vp] } }

/-- Frames held by page tables, by moves under way and by FOLLOW windows, and those of retired regions. -/
def State.usedFrames (s : State) : List Nat :=
  s.tiers.pt.map (·.2.frame) ++ s.tiers.moves.map (·.dest) ++ (s.tiers.wins.map (·.frames)).flatten ++ s.tiers.lost

/-- The lowest frame from `f` on that is not in use; `n` bounds the search. -/
def nextFree (used : List Nat) : Nat → Nat → Nat
  | 0, f => f
  | n + 1, f => if f ∈ used then nextFree used n (f + 1) else f

/-- A page of a replay gets a scratch page of the package tier of its own, with the page's content (R370). -/
def State.takeScratch (s : State) (vp : Nat) : State :=
  match s.rcv.replay, s.pte replaySlot vp with
  | some r, some p =>
    if p.frame ∈ r.scratch then s
    else
      let f := nextFree s.usedFrames (s.usedFrames.length + 1) (packageBase + Config.reservedPages)
      let s1 := (s.copyFrame p.frame f).setPte replaySlot vp { p with frame := f, moving := none }
      { s1 with rcv := { s1.rcv with replay := some { r with scratch := r.scratch ++ [f] } } }
  | _, _ => s

/-- A write of a replay goes to a scratch page, and a write of another source to a page that the replay reads leaves the replay the
old content (R370). -/
def State.scratchHook (s : State) (slot vp : Nat) : State :=
  if decide (slot = replaySlot) || decide (s.replayed = some slot) then s.takeScratch vp else s

/-- Before a write lands in a page: its scratch page in a replay, the undo copy, and the page's generation rises (R197, R370, R380). -/
def State.beforeWrite (s : State) (slot vp : Nat) : State :=
  let s1 := (s.scratchHook slot vp).undoHook slot vp
  match s1.pte slot vp with
  | some p => s1.setPte slot vp { p with gen := (p.gen + 1) % addrTop }
  | none => s1

/-- Write bytes at `a` of a page's frame, and of the frame it is moving to (R204). -/
def State.writeFrames (s : State) (p : Pte) (off : Nat) (bs : List Byte) : State :=
  let s1 := s.physWrite (p.frame * Config.pageBytes + off) bs
  match p.moving with
  | some f => s1.physWrite (f * Config.pageBytes + off) bs
  | none => s1

/-- A piece of memory is put back, in the frames its page has now, where nothing has written it since. -/
def State.putBack (s : State) (o : OldMem) : State :=
  match s.pte o.slot (vpage o.va) with
  | some p =>
    if o.old = o.new then s
    else if s.physRead (p.frame * Config.pageBytes + o.va % Config.pageBytes) o.new.length = o.new then
      s.writeFrames p (o.va % Config.pageBytes) o.old
    else s
  | none => s

/-- Write bytes at context address `va`, page by page (`fuel` pages at most); an unmapped page takes nothing, nor does one of
another enclosure's tag (R339). -/
def State.writePages (slot : Nat) : Nat → Nat → List Byte → State → State
  | 0, _, _, s => s
  | fuel + 1, va, bs, s =>
    if bs.isEmpty then s
    else
      let off := va % Config.pageBytes
      let k := Config.pageBytes - off
      let s1 := match s.pte slot (vpage va) with
        | some p => if s.tagWrong slot p.frame then s.tagViolation slot
          else
            let u := s.beforeWrite slot (vpage va)
            u.writeFrames ((u.pte slot (vpage va)).getD p) off (bs.take k)
        | none => s
      State.writePages slot fuel ((va + k) % addrTop) (bs.drop k) s1

def State.writeVA (s : State) (slot va : Nat) (bs : List Byte) : State :=
  State.writePages slot (bs.length / Config.pageBytes + 2) va bs s

/-! Memory-side adds (R163, R180, R203) -/

/-- The FP32 elements of a list of bytes. -/
def fp32s : List Byte → List W32
  | a :: b :: c :: d :: t => BitVec.ofNat 32 (leNat [a, b, c, d]) :: fp32s t
  | _ => []

def fp32Bytes (l : List W32) : List Byte := (l.map fun w => leBytes 4 w.toNat).flatten

/-- Add the FP32 values `xs` to the line or part of a line at `va` (at most 64 bytes); a poisoned line takes
nothing. Answers whether the line was poisoned. -/
def State.addLine (s : State) (slot va : Nat) (xs : List W32) : State × Bool :=
  match s.pte slot (vpage va) with
  | none => (s, true)
  | some p =>
    if s.tagWrong slot p.frame then (s.tagViolation slot, true)
    else
    let a := p.frame * Config.pageBytes + va % Config.pageBytes
    let u := s.meetLines a (4 * xs.length)
    if u.physPoisoned a (4 * xs.length) then (u, true)
    else
      let old := fp32s (u.physRead a (4 * xs.length))
      let v := u.beforeWrite slot (vpage va)
      (v.writeFrames ((v.pte slot (vpage va)).getD p) (va % Config.pageBytes) (fp32Bytes (List.zipWith add32 old xs)), false)

/-- Add FP32 values from `va` on, line by line (`fuel` lines at most). -/
def State.addLines (slot : Nat) : Nat → Nat → List W32 → State → State × Bool
  | 0, _, _, s => (s, false)
  | fuel + 1, va, xs, s =>
    if xs.isEmpty then (s, false)
    else
      let k := (64 - va % 64) / 4
      let r := s.addLine slot va (xs.take k)
      let t := State.addLines slot fuel ((va + 4 * k) % addrTop) (xs.drop k) r.1
      (t.1, r.2 || t.2)

def State.addVA (s : State) (slot va : Nat) (xs : List W32) : State × Bool :=
  State.addLines slot (xs.length / 16 + 2) va xs s

/-- Whether every page of an extent lies in the package tier (R21, R163). -/
def State.inPackage (s : State) (slot va n : Nat) : Bool :=
  (pagesOf va n).all fun vp =>
    match s.pte slot vp with
    | some p => decide (tierOf p.frame = .package)
    | none => false

/-- Whether a page of an extent belongs to a view (R196). -/
def State.touchesView (s : State) (slot va n : Nat) : Bool :=
  (pagesOf va n).any fun vp => (s.viewAt slot vp).isSome

/-- Whether an extent of a LIST view lies in a slot whose entry is being copied: its reads wait (R196). -/
def State.viewBusy (s : State) (slot va n : Nat) : Bool :=
  (pagesOf va n).any fun vp =>
    match s.viewAt slot vp with
    | some (w, i) =>
      match s.tiers.wins[w]? with
      | some sw => !sw.follow && (match sw.copying with
        | some p => decide (i / sw.slotPages = p % sw.depth)
        | none => false)
      | none => false
    | none => false

end Sys2Proof.Machine
end

