-- ==== Sys2Proof/Machine/Operands.lean ====
section
/-! DEFINITION. Operand forms of the instructions: the recipe table and effective formats (R99, R101, R107,
R148), operand-store rows (R147, R156), vector registers, slots, grants, and the memory rows of MOVE. -/

namespace Sys2Proof.Machine

/-! Recipe table (R99) -/

/-- Entry of class `k` as a number. -/
def recipeEnt (r : List W64) (k : Nat) : Nat := (r.getD (k + 1) 0#64).toNat

def recRole (e : Nat) : Nat := bits e 3 0
def recFmt (e : Nat) : Fmt := (Fmt.ofCode (bits e 15 12)).getD .fp32
def recBlk (e : Nat) : Option Nat := if bit e 16 then some (16 * 2 ^ bits e 18 17) else none
def recFloor (e : Nat) : Bool := bit e 19
def recStoch (e : Nat) : Bool := bit e 20
def recBits (e : Nat) : Nat := if bit e 21 then 16 else 8
def recNonSat (e : Nat) : Bool := bit e 22
def recTop (e : Nat) : Fmt := (Fmt.ofCode (bits e 26 23)).getD .fp32
def recAutoDown (e : Nat) : Bool := bit e 28
def recAutoSlot (e : Nat) : Nat := bits e 39 32
/-- NF_POLICY = FAULT (R99). -/
def recNfFault (r : List W64) : Bool := bit ((r.getD 0 0#64).toNat) 9
/-- FP32_OVF = RECORD (R99). -/
def recOvfRecord (r : List W64) : Bool := bit ((r.getD 0 0#64).toNat) 8

/-- Layer number of a layer ID (R101). -/
def layerNum (l : W32) : Nat := l.toNat / 256

/-- The format of a class under a layer ID (R101, R107): the highest of FORMAT, the persistent entry and the step raise. -/
def Ctx.effFmt (c : Ctx) (cls : Nat) (lid : Option W32) : Fmt :=
  let f := recFmt (recipeEnt c.recipe cls)
  match lid with
  | none => f
  | some l =>
    let p := ((c.perm.find? fun e => decide (e.layerNum = layerNum l) && decide (e.cls = cls)).map (·.fmt)).getD f
    let r := ((c.raise.find? fun e => decide (e.layer = l) && decide (e.cls = cls)).map (·.fmt)).getD f
    f.higher (f.higher f p) r

/-- The effective format of a class (R101, R103, R148). -/
def Ctx.eff (c : Ctx) (cls : Nat) (lid : Option W32) : Eff :=
  (c.effFmt cls lid).rungEff (recBlk (recipeEnt c.recipe cls))

/-! What an issuing instruction sees -/

/-- The context, the core and the stream of an instruction. -/
structure Env where
  s : State
  n : Nat
  x : StrmId
  slot : Nat
  ctx : Ctx
  live : CoreCtx
  grant : Grant
  bank : Nat
  spillV : Nat
  bracket : Option Bracket
  p : Pend
  deriving DecidableEq, Repr

/-- Whether the recovery descriptor of a context asks for SHADOW_STEP (R388). -/
def Ctx.shadowed (c : Ctx) : Bool := (c.rcv.desc.map (·.shadow)).getD false

/-- Fold bytes that leave a core, with their address, into its digest. -/
def foldBytes (d : BitVec 384) (addr : Nat) (bs : List Byte) : BitVec 384 :=
  Config.sha384 (leBytes 48 d.toNat ++ leBytes 8 addr ++ bs)

/-- What an instruction sends out of a core is folded by the core and by its pair, which runs the same instruction on the
same bytes and sends nothing (R388). -/
def Env.foldOut (e : Env) (addr : Nat) (bs : List Byte) (l : CoreCtx) : CoreCtx :=
  if e.ctx.shadowed then { l with fold := foldBytes l.fold addr bs, pairFold := foldBytes l.pairFold addr bs } else l

def CoreCtx.strm (l : CoreCtx) : StrmId → Stream
  | .F => l.f | .B => l.b | .U => l.u

def CoreCtx.setStrm (l : CoreCtx) (x : StrmId) (t : Stream) : CoreCtx :=
  match x with
  | .F => { l with f := t } | .B => { l with b := t } | .U => { l with u := t }

def Desc.core (d : Desc) (n : Nat) : CoreEntry := Tbl.get {} d.entries n

def CoreEntry.grant (e : CoreEntry) : StrmId → Grant
  | .F => e.fGrant | .B => e.bGrant | .U => e.uGrant

/-- Cores of a mask, ascending. -/
def maskCores (m : Nat) : List Nat := (List.range 8).filter fun n => bit m n

/-- SPILL_K of a core entry (R63). -/
def spillK (v : Nat) : Nat := (if v = 0 then 16 else v) * 1024

/-- The layer ID that an operand of the instruction resolves (R148). -/
def Env.lid (e : Env) (lsrc : Bool) : Option W32 :=
  if lsrc then e.p.src
  else if e.p.inBr then e.bracket.map (·.layer) else none

def Env.eff (e : Env) (cls : Nat) (lsrc : Bool) : Eff := e.ctx.eff cls (e.lid lsrc)

/-- A check that gives its fault where the condition holds. -/
def failIf (b : Bool) (f : FaultCode) : Except FaultCode Unit := if b then .error f else .ok ()

/-- DCTR is checked against COUNTER_COUNT (R145). -/
def Env.chkCtr (e : Env) : Except FaultCode Unit :=
  failIf (e.p.kw.tail.en && decide (e.ctx.desc.ctrCount ≤ e.p.kw.tail.dctr.toNat)) .syncCtrRange

def Env.chkSlot (e : Env) (k : Nat) : Except FaultCode Unit :=
  failIf (!(decide (e.grant.accBase ≤ k) && decide (k < e.grant.accBase + e.grant.accCount))) .accSlotRange

def Env.chkSpill (e : Env) (k : Nat) : Except FaultCode Unit :=
  failIf (!(decide (e.grant.spillBase ≤ k) && decide (k < e.grant.spillBase + e.grant.spillCount))) .accSlotRange

def Env.chkReg (e : Env) (k : Nat) : Except FaultCode Unit :=
  failIf (!(decide (e.grant.vregBase ≤ k) && decide (k < e.grant.vregBase + e.grant.vregCount))) .vecRegRange

def Env.chkRegs (e : Env) : List Nat → Except FaultCode Unit
  | [] => .ok ()
  | k :: ks => do e.chkReg k; e.chkRegs ks

/-- A class whose ROLE is UNUSED (R100, R148). -/
def Env.chkClass (e : Env) (cls : Nat) : Except FaultCode Unit :=
  failIf (decide (recRole (recipeEnt e.ctx.recipe cls) = 0)) .numBadClass

/-- The checks of brackets that every instruction shares: what may not be replayed, and the held counters (R102). -/
def Env.heldFull (e : Env) (k : Nat) : Bool :=
  match e.bracket with
  | none => false
  | some b =>
    let flying := (e.live.strm e.x).flights.filterMap fun f => if f.inBr then f.dctr else none
    let all := (flying ++ b.held.map Prod.fst).dedup
    decide (2048 ≤ all.length) && decide (k ∉ all)

def Env.chkBracket (e : Env) (noReplay : Bool) : Except FaultCode Unit := do
  failIf (e.p.inBr && (noReplay || e.p.kw.dfr)) .layerNotReplayable
  failIf (e.p.inBr && e.p.kw.tail.en && e.heldFull e.p.kw.tail.dctr.toNat) .layerHeldFull

/-- A change of a carried slot inside a bracket (R62). -/
def Env.chkCarried (e : Env) (changes : Bool) : Except FaultCode Unit :=
  failIf (e.p.inBr && changes) .layerCarriedSlot

/-! Operand store (R147) -/

/-- Bytes of the context's grant on the core. -/
def Env.osSize (e : Env) : Nat := e.bank * Config.bankBytes

/-- Alignment and range of `rows` rows of `len` bytes at `base`, `stride` bytes apart. -/
def Env.chkOs (e : Env) (base stride rows len : Nat) : Except FaultCode Unit := do
  if rows = 0 || len = 0 then pure ()
  else
    failIf (decide (base % 64 ≠ 0)) .osAlign
    failIf (decide (e.osSize < base + (rows - 1) * stride + len)) .osRange

/-- The resolved address of an operand-store operand: X[sel] + OFF × 64 modulo 2^48 (R147). -/
def osAddr (x : W48) (off : Nat) : Nat := (x.toNat + off * 64) % addrTop

def CoreCtx.osRead (l : CoreCtx) (a n : Nat) : List Byte := Tbl.slice 0#8 l.os a n

/-- An error in a word of an operand-store extent. -/
def SramErr.inOs (a n : Nat) (x : SramErr) : Bool :=
  decide (x.mem = .os) && decide (a < x.word * 8 + 8) && decide (x.word * 8 < a + n)

/-- Whether an extent holds a poisoned or uncorrectable 8-byte word (R80). -/
def CoreCtx.osBad (l : CoreCtx) (a n : Nat) : Bool := l.errs.any fun x => x.ue && x.inOs a n

/-- Write operand-store bytes; a write that covers a whole word ends its error (log 19). -/
def CoreCtx.osWrite (l : CoreCtx) (a : Nat) (bs : List Byte) : CoreCtx :=
  { l with os := Tbl.writeList 0#8 l.os a bs
           errs := l.errs.filter fun x =>
             !(decide (x.mem = .os) && decide (a ≤ x.word * 8) && decide (x.word * 8 + 8 ≤ a + bs.length)) }

/-- Write row `r` of a list of rows at base + r·stride. -/
def CoreCtx.osWriteRows (l : CoreCtx) (base stride : Nat) (rows : List (List Byte)) : CoreCtx :=
  rows.zipIdx.foldl (fun l p => l.osWrite (base + p.2 * stride) p.1) l

/-- Read row records; a poisoned word in them is SRAM_UE (R80). -/
def Env.readRows (e : Env) (f : Eff) (base stride rows len : Nat) : Except FaultCode (List RowCodes) :=
  if (List.range rows).any fun r => e.live.osBad (base + r * stride) (f.rowBytes len) then .error (.sramUe .os)
  else .ok ((List.range rows).map fun r => f.unpackRow len (e.live.osRead (base + r * stride) (f.rowBytes len)))

/-- The old bytes of an extent, kept while the instruction may still be discarded (R105). -/
def CoreCtx.osOld (l : CoreCtx) (base stride rows len : Nat) : List (Nat × Byte) :=
  (List.range rows).flatMap fun r => (List.range len).map fun i =>
    (base + r * stride + i, Tbl.get 0#8 l.os (base + r * stride + i))

/-- The extent of an access, from its base to the last byte of its last row (R123). -/
def osExtent (base stride rows len : Nat) : List (Nat × Nat) :=
  if rows = 0 || len = 0 then [] else [(base, (rows - 1) * stride + len)]

/-! Row groups (R156) -/

/-- W of SEG (R156). -/
def segW (seg : Nat) : Nat := 64 * 2 ^ seg

/-- Elements of row `r` of a group of `count` elements. -/
def groupLen (w count r : Nat) : Nat := min w (count - r * w)

def groupRows (w count : Nat) : Nat := ceilDiv count w

/-- The longest row record of a group. -/
def groupRec (f : Eff) (w count : Nat) : Nat := f.rowBytes (min w count)

/-- Checks of a row group: alignment and range of every row. -/
def Env.chkGroup (e : Env) (f : Eff) (base stride w count : Nat) : Except FaultCode Unit := do
  if count = 0 then pure ()
  else
    failIf (decide (base % 64 ≠ 0)) .osAlign
    failIf ((List.range (groupRows w count)).any fun r =>
      decide (e.osSize < base + r * stride + f.rowBytes (groupLen w count r))) .osRange

/-- The group's elements widened to FP32 (R93, R156). -/
def Env.readGroup (e : Env) (f : Eff) (base stride w count : Nat) : Except FaultCode (List W32) :=
  if (List.range (groupRows w count)).any fun r =>
      e.live.osBad (base + r * stride) (f.rowBytes (groupLen w count r)) then .error (.sramUe .os)
  else .ok ((List.range (groupRows w count)).flatMap fun r =>
    let len := groupLen w count r
    let row := f.unpackRow len (e.live.osRead (base + r * stride) (f.rowBytes len))
    (List.range len).map (f.elem32 row))

/-- The extent of a group (R123). -/
def groupExtent (f : Eff) (base stride w count : Nat) : List (Nat × Nat) :=
  if count = 0 then []
  else
    let n := groupRows w count
    [(base, max ((n - 1) * stride + f.rowBytes (groupLen w count (n - 1)))
      (if 1 < n then (n - 2) * stride + f.rowBytes w else 0))]

/-! Vector registers -/

def vKey (r lane : Nat) : Nat := r * 1024 + lane

def CoreCtx.lane (l : CoreCtx) (r i : Nat) : W32 := Tbl.get 0#32 l.vregs (vKey r i)
def CoreCtx.lanes (l : CoreCtx) (r n : Nat) : List W32 := Tbl.slice 0#32 l.vregs (vKey r 0) n

/-- An error in a word of `n` lanes from `lane` on. -/
def SramErr.inLanes (r lane n : Nat) (x : SramErr) : Bool :=
  decide (x.mem = .vec) && decide (vKey r lane < 2 * x.word + 2) && decide (2 * x.word < vKey r lane + n)

/-- Write lanes from `lane` on; a word of two lanes that is written whole loses its error (log 19). -/
def CoreCtx.setLanes (l : CoreCtx) (r lane : Nat) (vs : List W32) : CoreCtx :=
  { l with vregs := Tbl.writeList 0#32 l.vregs (vKey r lane) vs
           errs := l.errs.filter fun x =>
             !(decide (x.mem = .vec) && decide (vKey r lane ≤ 2 * x.word) && decide (2 * x.word + 2 ≤ vKey r lane + vs.length)) }

/-- Old lanes, kept while the instruction may still be discarded (R105). -/
def CoreCtx.oldLanes (l : CoreCtx) (r lane n : Nat) : List (Nat × W32) :=
  (List.range n).map fun i => (vKey r (lane + i), l.lane r (lane + i))

/-! Slots (R56) -/

def CoreCtx.slot (l : CoreCtx) (k : Nat) : AccSlot := Tbl.get {} l.acc k
def CoreCtx.setSlot (l : CoreCtx) (k : Nat) (a : AccSlot) : CoreCtx := { l with acc := Tbl.put l.acc k a }
def CoreCtx.spillSlot (l : CoreCtx) (k : Nat) : SpillSlot := Tbl.get {} l.spill k
def CoreCtx.setSpill (l : CoreCtx) (k : Nat) (a : SpillSlot) : CoreCtx := { l with spill := Tbl.put l.spill k a }

def elemKey (i j : Nat) : Nat := i * 256 + j

/-- Element (i, j) of a slot; an EMPTY slot reads as zeros. -/
def AccSlot.elem (a : AccSlot) (i j : Nat) : W32 := Tbl.get 0#32 a.elems (elemKey i j)
def SpillSlot.pair (a : SpillSlot) (i j : Nat) : W64 := Tbl.get 0#64 a.pairs (elemKey i j)

/-- The low and high word of a pair: hi and lo (R65). -/
def pairHi (w : W64) : W32 := w.extractLsb' 0 32
def pairLo (w : W64) : W32 := w.extractLsb' 32 32
def mkPair (hi lo : W32) : W64 := lo ++ hi

/-- Words of a row of a slot (0 to 63) or spill slot (64 to 79). -/
def slotWords (k : Nat) : Nat := if k < 64 then 128 else 256

/-- An error in rows 0 to m − 1 and columns 0 to n − 1 of a slot or spill slot. -/
def SramErr.inSlot (k m n : Nat) (x : SramErr) : Bool :=
  decide (x.mem = .acc) && decide (x.slot = k) && decide (x.word < m * slotWords k)
    && decide (x.word % slotWords k * 256 < n * slotWords k)

/-- An EMPTY slot or spill slot: it reads as zeros, and no word of its memory is read (R56, R65). -/
def CoreCtx.accEmpty (l : CoreCtx) (k : Nat) : Bool :=
  if k < 64 then decide ((l.slot k).typ = .empty) else !(l.spillSlot (k - 64)).full

/-- An error that a read of rows 0 to m − 1 and columns 0 to n − 1 of a slot or spill slot finds. -/
def CoreCtx.accHit (l : CoreCtx) (k m n : Nat) (x : SramErr) : Bool := x.inSlot k m n && !l.accEmpty k

/-- Whether such a read finds a poisoned or uncorrectable word (R80). -/
def CoreCtx.accBad (l : CoreCtx) (k m n : Nat) : Bool := l.errs.any fun x => x.ue && l.accHit k m n x

/-- Rows 0 to m − 1 and columns 0 to n − 1 of a slot or spill slot are written: a word written whole loses its error
(log 19). -/
def CoreCtx.accWrote (l : CoreCtx) (k m n : Nat) : CoreCtx :=
  { l with errs := l.errs.filter fun x =>
      !(x.inSlot k m n && decide ((x.word % slotWords k + 1) * 256 ≤ n * slotWords k)) }

/-- The tile in buffer `tb` of stream `x`. -/
def CoreCtx.tile (l : CoreCtx) (x : StrmId) (tb : Nat) : Option Tile := Tbl.get none l.tiles (2 * strmTag x + tb)
def CoreCtx.setTile (l : CoreCtx) (x : StrmId) (tb : Nat) (t : Option Tile) : CoreCtx :=
  { l with tiles := Tbl.put l.tiles (2 * strmTag x + tb) t }

/-! Format classes of the array (R44) -/

/-- Kp of a format, where the array takes it. -/
def Fmt.kp : Fmt → Option Nat
  | .fp32 => some 256 | .bf16 => some 256 | .fp16 => some 256
  | .e4m3 => some 512 | .e5m2 => some 512 | .int8 => some 512
  | .e3m2 => some 1024 | .e2m3 => some 1024 | .e2m1 => some 1024 | .int4 => some 1024
  | .fp32c => none

/-- The format class of R44. -/
def Fmt.arrayClass : Fmt → Option Nat
  | .fp32 => some 3 | .bf16 => some 0 | .fp16 => some 0
  | .e4m3 => some 1 | .e5m2 => some 1 | .int8 => some 1
  | .e3m2 => some 2 | .e2m3 => some 2 | .e2m1 => some 2 | .int4 => some 2
  | .fp32c => none

/-- An unscaled integer format (R45). -/
def Eff.plainInt (e : Eff) : Bool := e.fmt.isInt && e.blk.isNone

/-! Memory rows (R162) -/

/-- The address of memory row `r`. -/
def memRow (base stride r : Nat) : Nat := (base + r * stride) % addrTop

/-- Checks of `rows` memory rows of `n` bytes: alignment and mapping. -/
def Env.chkMem (e : Env) (base stride rows n : Nat) : Except FaultCode Unit := do
  if rows = 0 || n = 0 then pure ()
  else
    failIf (decide (base % 64 ≠ 0)) .moveAlign
    failIf ((List.range rows).any fun r => !e.s.mapped e.slot (memRow base stride r) n) .moveUnmapped

def Env.chkTag (e : Env) (base stride rows n : Nat) : Except FaultCode Unit :=
  failIf ((List.range rows).any fun r => e.s.tagBad e.slot (memRow base stride r) n) .nearTag

def Env.chkView (e : Env) (base stride rows n : Nat) : Except FaultCode Unit :=
  failIf ((List.range rows).any fun r => e.s.touchesView e.slot (memRow base stride r) n) .moveViewWrite

/-- The `n` bytes at `va` as memory holds them, in one page. -/
def State.piece (s : State) (slot va n : Nat) : List Byte :=
  match s.pte slot (vpage va) with
  | some p => s.physRead (p.frame * Config.pageBytes + va % Config.pageBytes) n
  | none => []

/-- The pieces of `n` bytes that a row of `len` bytes changed in memory between the instruction and `t` (R105). -/
def Env.memOld (e : Env) (t : State) (n va len : Nat) : List OldMem :=
  (List.range (len / n)).map fun i =>
    let a := (va + i * n) % addrTop
    { slot := e.slot, va := a, old := e.s.piece e.slot a n, new := t.piece e.slot a n }

end Sys2Proof.Machine
end

