-- ==== Sys2Proof/Machine/Flags.lean ====
section
/-! DEFINITION. What a write through a class gives, the tensor statistics it records, and the numeric
outcome of an instruction (03 R91 to R97, R104, R111, R112; 07 R217 to R220). -/

namespace Sys2Proof.Machine

/-- What the results of an instruction call for: an unrepresentable non-finite value (R97), an overflow of a
class below its LADDER_TOP, or an FP32 or INT32 overflow (R104). -/
structure Numeric where
  unrep : Bool := false
  classOvf : Option Nat := none
  fp32Ovf : Bool := false
  deriving DecidableEq, Repr

/-- The rows a class write gives, with what they count. -/
structure ClassOut where
  rows : List (List Byte)
  tally : Tally
  deriving DecidableEq, Repr

/-- The step number of the drop-out generator (R119). -/
def Ctx.step (c : Ctx) : W64 := c.desc.stepBase + c.s

/-- The rounding of element `i` of a row at operand-store byte `a` (R95, R218 to R221: the key is the core's, loaded at its
switch-in). -/
def Env.rnd (e : Env) (cls : Nat) (lsrc : Bool) (width a i : Nat) : Rnd :=
  let r := recipeEnt e.ctx.recipe cls
  if recStoch r then
    let n := recBits r
    .sr n (randSlice (e.s.core e.n).key (roundWord (e.lid lsrc)) e.ctx.step (decide (n = 16))
      (roundElem (strmTag e.x) e.p.seq (8 * a + i * width) width))
  else .rne

/-- The conversion attributes of a class. -/
def recAttr (r : Nat) : ConvAttr := { floor := recFloor r, nonSat := recNonSat r }

/-- Elements that would overflow the rung below a raised class, with the same rounding bits; a class raised
to FP32 is judged with nearest even (R112, log 20). -/
def downMiss (f g : Fmt) (blk : Option Nat) (at_ : ConvAttr) (rd : Nat → Rnd) (srcs : List Src) : Nat :=
  if f = g then 0
  else (convRow ((f.rungBelow g).rungEff blk) at_ (if g = .fp32 then fun _ => .rne else rd) srcs).2.ovf

/-- Rows of values written through a class at base + r·stride. -/
def Env.classRows (e : Env) (cls : Nat) (lsrc : Bool) (base stride : Nat) (rows : List (List Src)) : ClassOut :=
  let r := recipeEnt e.ctx.recipe cls
  let f := e.eff cls lsrc
  let outs := rows.zipIdx.map fun p =>
    let rd := e.rnd cls lsrc f.fmt.width (base + p.2 * stride)
    let o := convRow f (recAttr r) rd p.1
    (o.1, { o.2 with miss := downMiss (recFmt r) f.fmt (recBlk r) (recAttr r) rd p.1 })
  { rows := outs.map Prod.fst, tally := Tally.sum (outs.map Prod.snd) }

/-- The numeric outcome of a class write (R104). -/
def Env.classNumeric (e : Env) (cls : Nat) (lsrc : Bool) (t : Tally) : Numeric :=
  let r := recipeEnt e.ctx.recipe cls
  let f := (e.eff cls lsrc).fmt
  { unrep := t.unrep
    classOvf := if 0 < t.ovf && decide (f ≠ recTop r) then some cls else none
    fp32Ovf := decide (0 < t.ovf) && decide (f = .fp32) }

/-- A slot after one more recording (R112). -/
def StatSlot.record (t : StatSlot) (a : Tally) : StatSlot :=
  { writes := satAdd Config.sat32 t.writes 1
    overflows := satAdd Config.sat32 t.overflows a.ovf
    elements := satAdd Config.sat64 t.elements a.elems
    zeros := satAdd Config.sat64 t.zeros a.zeros
    underflows := satAdd Config.sat64 t.underflows a.under
    saturations := satAdd Config.sat64 t.saturations a.sat
    nonfinite := satAdd Config.sat64 t.nonfinite a.nonfin
    maxAbs := max t.maxAbs a.maxAbs
    downMiss := satAdd Config.sat32 t.downMiss a.miss }

/-- Key of slot `k` on core `n`. -/
def statKey (n k : Nat) : Nat := n * 256 + k

/-- The slots a class write records into (R111): the named one where STATS is set, and AUTO_SLOT of a
raised class, once where they are the same. -/
def statSlots (stats : Bool) (named auto_ : Nat) (raised : Bool) : List Nat :=
  (if stats then [named] else []) ++ (if raised && !(stats && decide (named = auto_)) then [auto_] else [])

/-- Record a class write on core `n`; a write of zero elements records nothing (R111). -/
def Ctx.record (c : Ctx) (n : Nat) (slots : List Nat) (t : Tally) : Ctx :=
  if t.elems = 0 then c
  else { c with stats := slots.foldl (fun m k => Tbl.upd {} m (statKey n k) fun v => v.record t) c.stats }

/-- The recording of an instruction that wrote through a class. -/
def Env.recorded (e : Env) (cls : Nat) (lsrc : Bool) (named : Nat) (t : Tally) : State :=
  let r := recipeEnt e.ctx.recipe cls
  let raised := decide ((e.eff cls lsrc).fmt ≠ recFmt r)
  e.s.setCtx e.slot (e.ctx.record e.n (statSlots e.p.kw.stats named (recAutoSlot r) raised) t)

end Sys2Proof.Machine
end

