-- ==== Sys2Proof/Machine/Status.lean ====
section
/-! DEFINITION. The core state of a context and completion records (14 R437). -/

namespace Sys2Proof.Machine

/-- The core state of a context on core `n`: live where it is resident, else what the last switch saved. -/
def State.coreCtx (s : State) (slot n : Nat) : CoreCtx :=
  if (s.core n).resident = some slot then (s.core n).live else Tbl.get {} (s.ctx slot).saved n

def State.setCoreCtx (s : State) (slot n : Nat) (l : CoreCtx) : State :=
  if (s.core n).resident = some slot then s.setCore n { s.core n with live := l }
  else s.setCtx slot { s.ctx slot with saved := Tbl.put (s.ctx slot).saved n l }

/-- Signal a page's vector: the vectors of the PF below 64 belong to others (R445). -/
def State.pageSignal (s : State) (p : Page) : State := if p.fn ≠ 0 ∨ 64 ≤ p.vector then s.msix p.fn p.vector else s

/-! Completion records -/

/-- Whether the slot's completion ring has no room (R437). -/
def Page.full (p : Page) : Bool := decide (0 < p.ringEntries) && decide ((p.next + 1) % p.ringEntries = p.consumed)

/-- Write one completion record, clear its DB.PENDING bit and signal the vector (R437). -/
def State.writeCpl (s : State) (slot : Nat) (c : Cpl) : State :=
  let p := s.page slot
  let pend := match c.clear with
    | some i => p.pending &&& ~~~(BitVec.ofNat 32 (2 ^ i))
    | none => p.pending
  if p.ringEntries = 0 then s.setPage slot { p with pending := pend }
  else
    let wrap := decide (p.next + 1 = p.ringEntries)
    let s1 := s.setPage slot { p with pending := pend, next := (p.next + 1) % p.ringEntries,
                                      phase := if wrap then !p.phase else p.phase }
    let s2 := s1.emit (.cpl slot (p.ringBase + p.next * 16) (c.record p.phase))
    if p.cplEn then s2.pageSignal p else s2

/-- Write the held completions while the ring has room and the link is up (`fuel` at most). -/
def State.flushCpl (slot : Nat) : Nat → State → State
  | 0, s => s
  | n + 1, s =>
    let p := s.page slot
    match p.held with
    | [] => s
    | c :: cs =>
      if p.full || !s.hif.linkUp then s
      else State.flushCpl slot n ((s.setPage slot { p with held := cs }).writeCpl slot c)

/-- A completion: written at once, or held behind the earlier ones. -/
def State.addCpl (s : State) (slot : Nat) (c : Cpl) : State :=
  let p := s.page slot
  let held := p.held ++ [c]
  (s.setPage slot { p with held := held }).flushCpl slot held.length

end Sys2Proof.Machine
end

