-- ==== Sys2Proof/Machine/Streams.lean ====
section
/-! DEFINITION. How a stream's instructions are fetched, dispatched, interlocked, arbitrated, issued,
completed and stopped (04 R121 to R134, 05 R144 to R149). -/

namespace Sys2Proof.Machine

/-! Discarding and stopping (R105, R134) -/

/-- Put back an old byte where a free bit says so: a discarded write may be there in part. -/
def revertOs (k : Nat) : List (Nat × Byte) → Tbl Byte → Tbl Byte
  | [], t => t
  | (a, b) :: l, t => revertOs (k + 1) l (if (Config.freeWord k).getLsbD 0 then Tbl.write 0#8 t a b else t)

def revertV (k : Nat) : List (Nat × W32) → Tbl W32 → Tbl W32
  | [], t => t
  | (a, b) :: l, t => revertV (k + 1) l (if (Config.freeWord k).getLsbD 0 then Tbl.write 0#32 t a b else t)

/-- Memory pieces put back where free bits say so. -/
def revertMem (k : Nat) : List OldMem → State → State
  | [], s => s
  | o :: l, s => revertMem (k + 1) l (if (Config.freeWord k).getLsbD 0 then s.putBack o else s)

/-- What the discarded instructions leave: any part of their own destination extents (R105); an add has changed a line or it has
not, and a piece that another write has changed since stays (R203, log 64). -/
def discard (f : Flight) (r : State × CoreCtx) : State × CoreCtx :=
  let k0 := r.1.fresh
  let k1 := k0 + f.oldOs.length
  let k2 := k1 + f.oldV.length
  let s := revertMem k2 f.oldMem r.1
  (s.drawn (f.oldOs.length + f.oldV.length + f.oldMem.length),
    { r.2 with os := revertOs k0 f.oldOs r.2.os, vregs := revertV k1 f.oldV r.2.vregs })

def Stream.heldBefore (h : Option HeldWait) (idx : Nat) : Option HeldWait :=
  match h with
  | some w => if w.idx < idx then some w else none
  | none => none

def Handoff.keep (h : Handoff) (f : Token → Bool) : Handoff :=
  { a2e := h.a2e.filter f, e2a := h.e2a.filter f, da2e := h.da2e.filter f, de2a := h.de2a.filter f }

/-- Stop a stream at instruction `idx`: it and everything later in program order is discarded. -/
def stopAt (s : State) (l : CoreCtx) (x : StrmId) (idx : Nat) : State × CoreCtx :=
  let t := l.strm x
  let r := (t.flights.filter fun f => decide (idx < f.idx)).foldr discard (s, l)
  let t1 := { t with
    q := t.q.filter fun p => decide (p.idx < idx)
    dq := t.dq.filter fun p => decide (p.idx < idx)
    flights := t.flights.filter fun f => decide (f.idx < idx)
    spills := t.spills.filter fun d => decide (d.idx < idx)
    heldA := Stream.heldBefore t.heldA idx
    heldE := Stream.heldBefore t.heldE idx
    dheldA := Stream.heldBefore t.dheldA idx
    dheldE := Stream.heldBefore t.dheldE idx
    hand := t.hand.keep fun k => decide (k.idx < idx)
    atSync := false }
  (r.1, r.2.setStrm x t1)

/-- Raise a fault of the stream at instruction `idx`; an earlier one already raised stands (R134). -/
def raiseFault (s : State) (n : Nat) (x : StrmId) (slot idx : Nat) (code : FaultCode) : State :=
  let c := s.core n
  let t := c.live.strm x
  if (t.fault.map fun f => decide (f.idx ≤ idx)).getD false then s
  else
    let r := stopAt s c.live x idx
    let t1 := { r.2.strm x with fault := some { code := code, idx := idx }, nova := none }
    let s1 := r.1.setCore n { r.1.core n with live := r.2.setStrm x t1 }
    let s2 := s1.setCtx slot { s1.ctx slot with faulting := true }
    match code with
    | .sramUe .acc => s2.errCore n 3
    | .sramUe .os => s2.errCore n 1
    | .nearTag => s2.tagViolation slot
    | _ => s2

def Stream.anyHeld (t : Stream) : Bool :=
  t.heldA.isSome || t.heldE.isSome || t.dheldA.isSome || t.dheldE.isSome

def Stream.live (t : Stream) : Bool :=
  match t.st with
  | .running => true
  | _ => false

/-! Fetch and dispatch (R121, R142, R144) -/

/-- A context address as the sequencer adds to it (R147). -/
def pcAdd (pc : W48) (k : Int) : W48 := pc + BitVec.ofInt 48 (16 * k)

/-- The word at a program address, or the fault of its fetch (R144, R339). A word on a poisoned line cannot be fetched: that it
faults with CTRL_FETCH (R177) and not with MEM_POISONED is the model's choice (log 63). -/
def fetchWord (s : State) (slot : Nat) (pc : W48) : Except FaultCode (BitVec 128) :=
  if pc.toNat % 16 ≠ 0 || !s.mapped slot pc.toNat 16 then .error .ctrlFetch
  else if s.tagBad slot pc.toNat 16 then .error .nearTag
  else
    let r := s.readVA slot pc.toNat 16
    if r.bad then .error .ctrlFetch else .ok (BitVec.ofNat 128 (leNat r.bytes))

/-- A stream and its place: resident, and RUNNING, or FAULTED or in eclipse with work still in flight (R133, R134, R365). A
thermal stop leaves no stream of the device anything to do (R463), nor has one whose core's clock still locks (R394). -/
structure Site where
  slot : Nat
  ctx : Ctx
  core : Core
  t : Stream
  deriving DecidableEq, Repr

def site (s : State) (n : Nat) (x : StrmId) : Option Site :=
  let c := s.core n
  match c.resident, s.modl.thermalStop with
  | none, _ => none
  | some _, true => none
  | some slot, false =>
    let t := c.live.strm x
    let ctx := s.ctx slot
    if (decide (ctx.st = .running) || decide (ctx.st = .faulted) || decide (ctx.st = .eclipse)) && t.st != .absent
        && c.state != .locking then some ⟨slot, ctx, c, t⟩ else none

/-- Whether the sequencer of the stream may dispatch. -/
def Site.open_ (i : Site) : Bool :=
  i.t.live && i.t.fault.isNone && i.t.nova.isNone && !i.t.rerun && !i.ctx.faulting && !i.ctx.held
    && !i.ctx.preempt && i.ctx.st != .eclipse && i.t.limit.all (fun k => decide (i.t.dispatched < k)) && !i.t.q.any fun p => match p.kw.op with | .halt => true | _ => false

/-- Whether issue stands still: eclipse lets nothing new issue (R365), a preemption lets only what comes before a pending rewind or fault issue (R105, R134, R140), and
a fault of another stream nothing more (R134). -/
def Site.waits (i : Site) : Bool :=
  i.ctx.st == .eclipse || (i.ctx.preempt && i.t.nova.isNone && i.t.fault.isNone) || (i.ctx.faulting && i.t.fault.isNone)

/-- The stream of a core put back. -/
def State.setStream (s : State) (n : Nat) (x : StrmId) (t : Stream) : State :=
  s.setCore n { s.core n with live := (s.core n).live.setStrm x t }

/-- Whether an operation writes through a class with ROUND = 1, which takes a rounding sequence number (R220). -/
def takesSeq (c : Ctx) (o : KwOp) : Bool :=
  match o with
  | .accRead f => recStoch (recipeEnt c.recipe f.cls.toNat)
  | .alu f => decide (f.osr = 2#2) && recStoch (recipeEnt c.recipe f.cls.toNat)
  | .osmx f => decide (f.osr = 2#2) && recStoch (recipeEnt c.recipe f.cls.toNat)
  | _ => false

/-- The stream registers an operation names (R146). -/
def KwOp.xsel : KwOp → Nat × Nat × Nat
  | .loadw f => (f.bx.toNat, 0, 0)
  | .run f => (f.ax.toNat, 0, 0)
  | .accRead f => (f.dx.toNat, 0, 0)
  | .accWrite f => (f.sx.toNat, 0, 0)
  | .alu f => (f.osx.toNat, 0, 0)
  | .red f => (f.osx.toNat, 0, 0)
  | .osmx f => (f.osx.toNat, 0, 0)
  | .vdrop f => (f.ex.toNat, 0, 0)
  | .mload f => (f.mx.toNat, f.osx.toNat, 0)
  | .mstore f => (f.mx.toNat, f.osx.toNat, 0)
  | .tload f => (f.mx.toNat, f.osx.toNat, 0)
  | .gather f => (f.mx.toNat, f.osx.toNat, f.ixx.toNat)
  | .dwtq f => (f.dx.toNat, 0, 0)
  | .reduce f => (f.cx.toNat, 0, 0)
  | .collGather f => (f.cx.toNat, 0, 0)
  | .norm f => (f.cx.toNat, 0, 0)
  | _ => (0, 0, 0)

def Stream.xr (t : Stream) (k : Nat) : W48 := Tbl.get 0#48 t.xs k

/-- Entries of a side that hold a place: those dispatched and not issued, and a SYNC.WAIT at its head that is not met (R121,
R130). -/
def Stream.load (t : Stream) (access : Bool) : Nat :=
  (t.q.filter fun p => if access then p.pendA else p.pendE).length + b2n (if access then t.heldA.isSome else t.heldE.isSome)

/-- Entries of the deferred queue, with a SYNC.WAIT at a head that is not met and has left `dq` on its sides (R127, R130). -/
def Stream.dload (t : Stream) : Nat :=
  let held := ([t.dheldA, t.dheldE].filterMap fun h => h.map (·.idx)).dedup
  t.dq.length + (held.filter fun k => t.dq.all fun p => decide (p.idx ≠ k)).length

/-- Whether the queues have a place for the instruction (R121, R127). -/
def Stream.room (t : Stream) (k : Kw) : Bool :=
  if k.dfr then decide (t.dload < 1024)
  else (!k.op.sides.1 || decide (t.load true < 64)) && (!k.op.sides.2 || decide (t.load false < 64))

/-- The bracket recorded at the dispatch of LAYER.BEGIN (R175). -/
def Stream.record (t : Stream) (layer : W32) : Bracket :=
  { layer := layer, idx := t.next, pc := t.pc, xs := t.xs, loops := t.loops, srcId := t.srcId }

/-- Queue an instruction: it takes its registers, its layer ID, its loop index, its bracket and its
rounding number now (R146, R148, R168, R175, R220). -/
def Stream.enqueue (t : Stream) (ctx : Ctx) (k : Kw) : Stream :=
  let sel := k.op.xsel
  let e : Pend :=
    { idx := t.next, kw := k, pendA := k.op.sides.1, pendE := k.op.sides.2
      x1 := t.xr sel.1, x2 := t.xr sel.2.1, x3 := t.xr sel.2.2, src := t.srcId, inBr := t.opened
      loopIx := (t.loops.getLast?.map (·.index)).getD 0, seq := t.seq }
  let t1 := if k.dfr then { t with dq := t.dq ++ [e] } else { t with q := t.q ++ [e] }
  { t1 with
    pc := pcAdd t.pc 1
    next := t.next + 1
    dispatched := t.dispatched + 1
    seq := if takesSeq ctx k.op then (t.seq + 1) % 256 else t.seq }

/-- What the sequencer does itself at the dispatch of a LAYER opcode or MERIDIAN (R175, R220, R133). -/
def Stream.seqEffect (t : Stream) (before : Stream) (o : KwOp) : Stream :=
  match o with
  | .lbegin f =>
    if before.opened then { t with seq := 0 }
    else { t with seq := 0, opened := true, bracket := some (before.record f.layer) }
  | .lend => { t with opened := false, bracket := t.bracket.map fun b => if before.opened then { b with closed := some before.next } else b }
  | .srcid f => { t with seq := 0, srcId := if f.layer = 0xFFFFFFFF#32 then none else some f.layer }
  | .meridian => { t with seq := 0, st := .atMeridian }
  | _ => t

/-- A LAYER.BEGIN waits in the sequencer while an earlier bracket, closed, has not committed (log 21). -/
def Stream.beginWaits (t : Stream) (o : KwOp) : Bool :=
  match o with
  | .lbegin _ => !t.opened && t.bracket.isSome
  | _ => false

/-- Fetch and decode at the PC; `want` says which operation the command names. A fault of the fetch or the
decoding stops the stream; another operation changes nothing (log 7), nor does a fetch that waits for a retrain (R425). -/
def fetchDecode (s : State) (i : Site) (x : StrmId) (want : KwOp → Bool) : Except FaultCode (Option Kw) :=
  if s.memTrains i.slot i.t.pc.toNat 16 then .ok none
  else match fetchWord s i.slot i.t.pc with
  | .error f => .error f
  | .ok w =>
    match KwOp.read w with
    | some o => if want o then (decodeKw x w).map some else .ok none
    | none => (decodeKw x w).map some

/-- Dispatch of an instruction that a side carries out (R121). -/
def dispatch (n : Nat) (x : StrmId) (want : KwOp → Bool) (s : State) : State :=
  match site s n x with
  | none => s
  | some i =>
    if !i.open_ then s
    else match fetchDecode s i x want with
      | .error f => raiseFault s n x i.slot i.t.next f
      | .ok none => s
      | .ok (some k) =>
        if !i.t.room k || i.t.beginWaits k.op then s
        else s.setStream n x ((i.t.enqueue i.ctx k).seqEffect i.t k.op)

/-! What an instruction touches (R60, R123, R127) -/

/-- What an instruction reads and writes: slots (spill slots from 64 on), tile buffers, vector registers,
operand-store extents and memory rows. -/
structure Foot where
  sR : List Nat := []
  sW : List Nat := []
  tR : List Nat := []
  tW : List Nat := []
  vR : List Nat := []
  vW : List Nat := []
  oR : List (Nat × Nat) := []
  oW : List (Nat × Nat) := []
  mR : List (Nat × Nat) := []
  mW : List (Nat × Nat) := []
  run : Bool := false
  deriving DecidableEq, Repr

def overlap (a b : List (Nat × Nat)) : Bool :=
  a.any fun p => b.any fun q => decide (p.1 < q.1 + q.2) && decide (q.1 < p.1 + p.2)

def meets (a b : List Nat) : Bool := a.any fun k => decide (k ∈ b)

/-- The memory rows of an access. -/
def memRows (base stride rows n : Nat) : List (Nat × Nat) :=
  if n = 0 then [] else (List.range rows).map fun r => (memRow base stride r, n)

/-- Tile buffers an operation of an effective format uses. -/
def tileBufs (f : Fmt) (tb : Bool) : List Nat := if f = .fp32 then [0, 1] else [b2n tb]

/-- The registers that VEC.ALU reads (R157). -/
def AluF.reads (f : AluF) : List Nat :=
  let n := f.fn.toNat
  let a := if f.osr = 1#2 then [] else [f.va.toNat]
  let b := if (1 ≤ n ∧ n ≤ 10) then [f.vb.toNat] else []
  let d := if n = 4 ∨ n = 10 then [f.vd.toNat] else []
  a ++ b ++ d

/-- What an instruction touches. LAYER.BEGIN reads every slot and spill slot of the grant, which it marks (R62), so it waits
for earlier writers and owed spills by R60 (log 53). -/
def Env.foot (e : Env) : Foot :=
  let p := e.p
  match p.kw.op with
  | .loadw f =>
    let g := e.eff f.cls.toNat f.lsrc
    { tW := tileBufs g.fmt f.tb
      oR := osExtent (osAddr p.x1 f.off.toNat) (f.stride.toNat * 64) (if f.kl = 0#11 then 0 else f.nl.toNat)
        (g.rowBytes f.kl.toNat) }
  | .run f =>
    let g := e.eff f.cls.toNat f.lsrc
    { run := true, tR := tileBufs g.fmt f.tb
      sR := [f.slot.toNat], sW := f.slot.toNat :: if f.spill then [64 + f.spillSlot.toNat] else []
      oR := osExtent (osAddr p.x1 f.off.toNat) (f.stride.toNat * 64) (if f.k = 0#11 then 0 else f.m.toNat)
        (g.rowBytes f.k.toNat) }
  | .accRead f =>
    let g := e.eff f.cls.toNat f.lsrc
    let k := f.slot.toNat + if f.src then 64 else 0
    { sR := [k], sW := if f.clear then [k] else []
      oW := osExtent (osAddr p.x1 f.off.toNat) (f.stride.toNat * 64) (if f.n = 0#9 then 0 else f.m.toNat)
        (g.rowBytes f.n.toNat) }
  | .accWrite f =>
    let g := e.eff f.cls.toNat f.lsrc
    { sW := [f.slot.toNat]
      oR := osExtent (osAddr p.x1 f.off.toNat) (f.stride.toNat * 64) (if f.n = 0#9 then 0 else f.m.toNat)
        (g.rowBytes f.n.toNat) }
  | .rscale f => { sR := [f.slot.toNat], sW := [f.slot.toNat], vR := [f.vreg.toNat] }
  | .lbegin _ =>
    { sR := (List.range e.grant.accCount).map (e.grant.accBase + ·)
        ++ (List.range e.grant.spillCount).map fun k => 64 + (e.grant.spillBase + k) }
  | .resume f =>
    { sR := [f.slot.toNat, 64 + f.spillSlot.toNat], sW := [f.slot.toNat, 64 + f.spillSlot.toNat] }
  | .alu f =>
    let g := groupExtent (e.eff f.cls.toNat f.lsrc) (osAddr p.x1 f.off.toNat) (f.stride.toNat * 64)
      (segW f.seg.toNat) f.count.toNat
    { vR := f.reads, vW := if f.osr = 2#2 then [] else [f.vd.toNat]
      oR := if f.osr = 1#2 then g else [], oW := if f.osr = 2#2 then g else [] }
  | .red f =>
    let g := groupExtent (e.eff f.cls.toNat f.lsrc) (osAddr p.x1 f.off.toNat) (f.stride.toNat * 64)
      (segW f.seg.toNat) f.count.toNat
    { vR := if f.osr = 1#2 then [] else [f.va.toNat]
      vW := f.vd.toNat :: if f.fn = 3#6 then [f.vb.toNat] else []
      oR := if f.osr = 1#2 then g else [] }
  | .osmx f =>
    let g := groupExtent (e.eff f.cls.toNat f.lsrc) (osAddr p.x1 f.off.toNat) (f.stride.toNat * 64)
      (segW f.seg.toNat) f.count.toNat
    let st := [f.vm.toNat, f.vm.toNat + 1, f.vm.toNat + 2]
    { vR := st ++ if f.osr = 1#2 then [] else [f.va.toNat]
      vW := st ++ if f.osr = 2#2 then [] else [f.vd.toNat]
      oR := if f.osr = 1#2 then g else [], oW := if f.osr = 2#2 then g else [] }
  | .fill f => { vW := [f.vd.toNat] }
  | .vdrop f => { vR := [f.va.toNat, f.vb.toNat], vW := [f.vd.toNat] }
  | .mload f =>
    { mR := memRows p.x1.toNat (f.mstride.toNat * 64) f.rows.toNat (f.rowLen.toNat * 64)
      oW := osExtent (osAddr p.x2 f.off.toNat) (f.stride.toNat * 64) f.rows.toNat (f.rowLen.toNat * 64) }
  | .mstore f =>
    { mW := memRows p.x1.toNat (f.mstride.toNat * 64) f.rows.toNat
        (f.rowLen.toNat * 64 * if f.add = 2#2 then 2 else 1)
      oR := osExtent (osAddr p.x2 f.off.toNat) (f.stride.toNat * 64) f.rows.toNat (f.rowLen.toNat * 64) }
  | .tload f =>
    let g := e.eff f.cls.toNat f.lsrc
    let d : Eff := ⟨if g.blk.isSome then .bf16 else g.fmt, none⟩
    let cols := if f.rows = 0#11 then 0 else f.cols.toNat
    { mR := memRows p.x1.toNat (f.mstride.toNat * 64) (if f.cols = 0#11 then 0 else f.rows.toNat)
        (g.rowBytes f.cols.toNat)
      oW := osExtent (osAddr p.x2 f.off.toNat) (f.stride.toNat * 64) cols (d.rowBytes f.rows.toNat) }
  | .gather f =>
    { mR := if f.count = 0#13 then [] else [(0, addrTop)]
      oR := if f.count = 0#13 then [] else [(p.x3.toNat, 4 * f.count.toNat)]
      oW := osExtent (osAddr p.x2 f.off.toNat) (f.stride.toNat * 64) f.count.toNat (f.rowLen.toNat * 64) }
  | .dwtq f => { mR := memRows p.x1.toNat 64 f.count.toNat 64 }
  | _ => {}

/-- Whether one instruction must wait for another that comes before it and has not issued (R127): either
writes what the other touches. -/
def Foot.clash (a b : Foot) : Bool :=
  meets a.sW (b.sR ++ b.sW) || meets a.sR b.sW || meets a.tW (b.tR ++ b.tW) || meets a.tR b.tW
    || meets a.vW (b.vR ++ b.vW) || meets a.vR b.vW || overlap a.oW (b.oR ++ b.oW) || overlap a.oR b.oW
    || overlap a.mW (b.mR ++ b.mW) || overlap a.mR b.mW

/-- Whether an instruction must wait for one that has issued and not completed (R46, R60, R123): a run does
not wait for a run of the same slot. -/
def Foot.waits (a : Foot) (access : Bool) (f : Flight) : Bool :=
  (!(a.run && f.isRun) && meets (a.sR ++ a.sW) f.wSlots) || meets a.tW f.rTiles || meets (a.tR ++ a.tW) f.wTiles
    || (decide (f.onA = access) && overlap (a.oR ++ a.oW) f.osW)

/-! The environment of an instruction -/

def envOf (s : State) (n : Nat) (x : StrmId) (i : Site) (p : Pend) : Env :=
  let ce := i.ctx.desc.core n
  { s := s, n := n, x := x, slot := i.slot, ctx := i.ctx, live := i.core.live, grant := ce.grant x,
    bank := ce.bankCount, spillV := ce.spillV, bracket := if p.inBr then i.t.bracket else none, p := p }

/-- The entry at the head of a side's queue, or of the deferred queue (R121, R127). -/
def Stream.head (t : Stream) (dfr access : Bool) : Option Pend :=
  (if dfr then t.dq else t.q).find? fun p => if access then p.pendA else p.pendE

def Stream.heldOn (t : Stream) (dfr access : Bool) : Option HeldWait :=
  match dfr, access with
  | false, true => t.heldA | false, false => t.heldE
  | true, true => t.dheldA | true, false => t.dheldE

def Stream.hold (t : Stream) (dfr access : Bool) (w : HeldWait) : Stream :=
  match dfr, access with
  | false, true => { t with heldA := some w } | false, false => { t with heldE := some w }
  | true, true => { t with dheldA := some w } | true, false => { t with dheldE := some w }

def Stream.unhold (t : Stream) (dfr access : Bool) : Stream :=
  match dfr, access with
  | false, true => { t with heldA := none } | false, false => { t with heldE := none }
  | true, true => { t with dheldA := none } | true, false => { t with dheldE := none }

/-- The queue that an instruction of a side pops from, and the one it pushes to (R122). -/
def Handoff.incoming (h : Handoff) (dfr access : Bool) : List Token :=
  match dfr, access with
  | false, true => h.e2a | false, false => h.a2e
  | true, true => h.de2a | true, false => h.da2e

def Handoff.outgoing (h : Handoff) (dfr access : Bool) : List Token := h.incoming dfr (!access)

def Handoff.setIncoming (h : Handoff) (dfr access : Bool) (l : List Token) : Handoff :=
  match dfr, access with
  | false, true => { h with e2a := l } | false, false => { h with a2e := l }
  | true, true => { h with de2a := l } | true, false => { h with da2e := l }

def Handoff.setOutgoing (h : Handoff) (dfr access : Bool) (l : List Token) : Handoff :=
  h.setIncoming dfr (!access) l

/-- Token conditions of PUSH and POP (R122). -/
def tokensReady (t : Stream) (p : Pend) (access : Bool) : Bool :=
  (!p.kw.tail.pop || ((t.hand.incoming p.kw.dfr access).head?.map (·.filled)).getD false)
    && (!p.kw.tail.push || decide ((t.hand.outgoing p.kw.dfr access).length < 64))

/-- Whether every instruction before `idx` has completed: on one side of its queue, or everywhere (R130, R135, R173). -/
def Stream.doneBefore (t : Stream) (idx : Nat) (dfr : Option Bool) (access : Option Bool) : Bool :=
  let q := (if dfr = some true then [] else t.q) ++ if dfr = some false then [] else t.dq
  (q.all fun p => decide (idx ≤ p.idx)
      || (match access with | some a => !(if a then p.pendA else p.pendE) | none => false))
    && (t.flights.all fun f => decide (idx ≤ f.idx) || (dfr.map fun d => decide (f.dfr ≠ d)).getD false
      || (match access with | some a => decide (f.onA ≠ a) | none => false))
    && ((dfr = some true || ((t.heldA.isNone || access = some false) && (t.heldE.isNone || access = some true)))
      && (dfr = some false || ((t.dheldA.isNone || access = some false) && (t.dheldE.isNone || access = some true))))

/-- Behind a LAYER.END that is dispatched and has not committed, what could not be undone waits (R102, R105, log 21). -/
def Stream.behindEnd (t : Stream) (p : Pend) (access : Bool) : Bool :=
  match t.bracket.bind (·.closed) with
  | none => false
  | some k =>
    decide (k < p.idx) && (!access || p.kw.tail.en ||
      (match p.kw.op with
       | .mstore f => decide (f.add ≠ 0#2)
       | .dwtq _ => true | .inc _ => true | .reduce _ => true | .collGather _ => true | .norm _ => true
       | _ => false))
      && !(match p.kw.op with | .meridian => true | .halt => true | _ => false)

/-- A spill that a committed run owes comes before what touches its slots (R64, R67). -/
def Stream.spillOwed (t : Stream) (a : Foot) : Bool :=
  t.spills.any fun d => meets (a.sR ++ a.sW) [d.slot, 64 + d.spillSlot]

/-- The indices of a gather (R165). -/
def gatherIdx (l : CoreCtx) (base n : Nat) : List Nat :=
  (List.range n).map fun k => leNat (l.osRead (base + 4 * k) 4)

/-- The memory rows an instruction reads: of a gather, those its index list names. -/
def Env.memReads (e : Env) : List (Nat × Nat) :=
  match e.p.kw.op with
  | .gather f =>
    (gatherIdx e.live e.p.x3.toNat f.count.toNat).map fun k =>
      (memRow e.p.x1.toNat (f.mstride.toNat * 64) k, f.rowLen.toNat * 64)
  | _ => e.foot.mR

/-- Whether the reads of a LIST view touch a slot whose entry is being copied (R196). -/
def Env.viewWaits (e : Env) : Bool := e.memReads.any fun m => e.s.viewBusy e.slot m.1 m.2

/-- The queue of the device that QUEUE names within the enclosure's range (R166). -/
def State.queueOf (s : State) (slot q : Nat) : Option Nat :=
  match s.enclOfSlot slot with
  | none => none
  | some i => if q < (s.entry i).queueCount then some ((s.entry i).queueBase + q) else none

/-- MOVE.DWTQ waits until the queue has room for every entry (R166). -/
def Env.queueWaits (e : Env) : Bool :=
  match e.p.kw.op with
  | .dwtq f =>
    match e.s.queueOf e.slot f.queue.toNat with
    | some q => decide (Config.queueEntries < (e.s.queue q).entries.length + f.count.toNat)
    | none => false
  | _ => false

/-- A memory access waits for the retrain of a tier (R425). -/
def Env.trainWaits (e : Env) : Bool := (e.memReads ++ e.foot.mW).any fun m => e.s.memTrains e.slot m.1 m.2

/-- Whether every instruction of the open bracket but its LAYER.END has completed. -/
def Stream.bracketDone (t : Stream) (endIdx : Nat) : Bool :=
  (t.q.all fun p => !p.inBr || decide (p.idx = endIdx)) && (t.flights.all fun f => !f.inBr || decide (f.idx = endIdx))
    && t.spills.isEmpty
    && (t.heldA.map fun w => decide (endIdx < w.idx)).getD true
    && (t.heldE.map fun w => decide (endIdx < w.idx)).getD true

/-- An instruction of the queues in its own bracket. -/
def Env.at_ (e : Env) (t : Stream) (o : Pend) : Env := { e with p := o, bracket := if o.inBr then t.bracket else none }

/-- Whether an instruction at a head may issue: no held wait, tokens, interlocks, and the order that SYNC.INC,
MERIDIAN and HALT impose; LAYER.END issues once its bracket's instructions have completed. -/
def Env.ready (e : Env) (t : Stream) (access : Bool) : Bool :=
  let p := e.p
  let a := e.foot
  (t.heldOn p.kw.dfr access).isNone
    && tokensReady t p access
    && !t.behindEnd p access
    && !t.spillOwed a
    && !(t.flights.any fun f => decide (f.idx < p.idx) && a.waits access f)
    && !((if p.kw.dfr then t.q else t.dq).any fun o =>
        decide (o.idx < p.idx) && (if access then o.pendA else o.pendE) && a.clash (e.at_ t o).foot)
    && !e.viewWaits && !e.queueWaits && !e.trainWaits
    && (match p.kw.op with
      | .inc f =>
        if f.side = 2#2 then t.doneBefore p.idx (some p.kw.dfr) none
        else t.doneBefore p.idx (some p.kw.dfr) (some access)
      | .meridian => t.doneBefore p.idx none none
      | .halt => t.doneBefore p.idx none none
      | .lend => !p.inBr || t.bracketDone p.idx
      | _ => true)

/-! The SRAM words an instruction reads (R79, R80) -/

/-- Operand-store extents read, row by row. -/
def rowExtents (base stride rows len : Nat) : List (Nat × Nat) :=
  if len = 0 then [] else (List.range rows).map fun r => (base + r * stride, len)

/-- A zero count (R82): of MM.RUN its effective N counts (R58). -/
def Env.zero (e : Env) : Bool :=
  match e.p.kw.op with
  | .loadw f => decide (f.kl = 0#11) || decide (f.nl = 0#9)
  | .run f =>
    let tb := if (e.eff f.cls.toNat f.lsrc).fmt = .fp32 then 0 else b2n f.tb
    decide (f.m = 0#9) || decide (min f.n.toNat (((e.live.tile e.x tb).map (·.nl)).getD 0) = 0)
  | .accRead f => decide (f.m = 0#9) || decide (f.n = 0#9)
  | .accWrite f => decide (f.m = 0#9) || decide (f.n = 0#9)
  | .rscale f => decide (f.m = 0#9)
  | .alu f => decide (f.count = 0#11)
  | .red f => decide (f.count = 0#11)
  | .osmx f => decide (f.count = 0#11)
  | .fill f => decide (f.count = 0#11)
  | .vdrop f => decide (f.count = 0#11)
  | _ => false

/-- The slots and spill slots read, with how many rows and columns. -/
def Env.accReads (e : Env) : List (Nat × Nat × Nat) :=
  match e.p.kw.op with
  | .run f =>
    let tb := if (e.eff f.cls.toNat f.lsrc).fmt = .fp32 then 0 else b2n f.tb
    if e.zero || f.mode then [] else [(f.slot.toNat, f.m.toNat, min f.n.toNat (((e.live.tile e.x tb).map (·.nl)).getD 0))]
  | .accRead f => if e.zero then [] else [(f.slot.toNat + if f.src then 64 else 0, f.m.toNat, f.n.toNat)]
  | .rscale f => [(f.slot.toNat, f.m.toNat, 256)]
  | .resume f =>
    if (e.live.spillSlot f.spillSlot.toNat).full then [(f.slot.toNat, 256, 256), (64 + f.spillSlot.toNat, 256, 256)] else []
  | _ => []

/-- The rows of a row group. -/
def Env.groupReads (e : Env) (cls : BitVec 4) (lsrc : Bool) (off : Nat) (stride : Nat) (seg : Nat) (count : Nat) :
    List (Nat × Nat) :=
  (List.range (groupRows (segW seg) count)).map fun r =>
    (osAddr e.p.x1 off + r * (stride * 64), (e.eff cls.toNat lsrc).rowBytes (groupLen (segW seg) count r))

/-- The operand-store rows read. -/
def Env.osReads (e : Env) : List (Nat × Nat) :=
  match e.p.kw.op with
  | .loadw f => if e.zero then [] else
    rowExtents (osAddr e.p.x1 f.off.toNat) (f.stride.toNat * 64) f.nl.toNat ((e.eff f.cls.toNat f.lsrc).rowBytes f.kl.toNat)
  | .run f => if e.zero || decide (f.k = 0#11) then [] else
    rowExtents (osAddr e.p.x1 f.off.toNat) (f.stride.toNat * 64) f.m.toNat ((e.eff f.cls.toNat f.lsrc).rowBytes f.k.toNat)
  | .accWrite f => if e.zero then [] else
    rowExtents (osAddr e.p.x1 f.off.toNat) (f.stride.toNat * 64) f.m.toNat ((e.eff f.cls.toNat f.lsrc).rowBytes f.n.toNat)
  | .alu f => if f.osr = 1#2 then e.groupReads f.cls f.lsrc f.off.toNat f.stride.toNat f.seg.toNat f.count.toNat else []
  | .red f => if f.osr = 1#2 then e.groupReads f.cls f.lsrc f.off.toNat f.stride.toNat f.seg.toNat f.count.toNat else []
  | .osmx f => if f.osr = 1#2 then e.groupReads f.cls f.lsrc f.off.toNat f.stride.toNat f.seg.toNat f.count.toNat else []
  | .mstore f => rowExtents (osAddr e.p.x2 f.off.toNat) (f.stride.toNat * 64) f.rows.toNat (f.rowLen.toNat * 64)
  | .gather f => if f.count = 0#13 then [] else [(e.p.x3.toNat, 4 * f.count.toNat)]
  | _ => []

/-- The vector lanes read: register, first lane, how many. -/
def Env.vReads (e : Env) : List (Nat × Nat × Nat) :=
  match e.p.kw.op with
  | .rscale f => [(f.vreg.toNat, 0, f.m.toNat)]
  | .alu f => f.reads.map fun r => (r, 0, f.count.toNat)
  | .red f => if f.osr = 1#2 then [] else [(f.va.toNat, 0, f.count.toNat)]
  | .osmx f =>
    let segs := groupRows (segW f.seg.toNat) f.count.toNat
    (if f.osr = 1#2 then [] else [(f.va.toNat, 0, f.count.toNat)])
      ++ [(f.vm.toNat, f.lane.toNat, segs), (f.vm.toNat + 1, f.lane.toNat, segs)]
  | .vdrop f => if e.zero then [] else [(f.va.toNat, 0, f.count.toNat), (f.vb.toNat, 0, 1)]
  | _ => []

/-- The errors in the words that an instruction reads. -/
def Env.met (e : Env) : List SramErr :=
  e.live.errs.filter fun x =>
    (e.osReads.any fun r => x.inOs r.1 r.2) || (e.accReads.any fun r => e.live.accHit r.1 r.2.1 r.2.2 x)
      || e.vReads.any fun r => x.inLanes r.1 r.2.1 r.2.2

/-- The physical row of a word (R79): the operand store's rows of 128 bytes from the context's first bank on, then those of
the 32 accumulator and spill banks, which the model lays out slot after slot (log 54). The vector registers have none, and an
operand-store word beyond the last bank is no word. -/
def SramErr.row (bankBase : Nat) (x : SramErr) : Option Nat :=
  match x.mem with
  | .os => if bankBase * 65536 + x.word < 8388608 then some (bankBase * 4096 + x.word / 16) else none
  | .acc => some (524288 + ((if x.slot < 64 then x.slot * 32768 else 2097152 + (x.slot - 64) * 65536) + x.word) / 16)
  | .vec => none

/-- The bank of a row: 0 to 127 of the operand store, then the 32 of the accumulators. -/
def rowBank (r : Nat) : Nat := if r < 524288 then r / 4096 else 128 + (r - 524288) / 6144

/-- Rows that showed corrected errors at tick `now`, one occasion each, and rows that showed an uncorrectable one: the fourth
occasion within 24 hours marks a row, and an uncorrectable error does at once (R79). -/
def Core.noteRows (c : Core) (now : Nat) (ce ue : List Nat) : Core :=
  let hits := (c.rowHits.filter fun h => decide (now ≤ h.2 + 24 * 3600 * 32768)) ++ ce.map fun r => (r, now)
  let due := ue ++ ce.filter fun r => decide (4 ≤ (hits.filter fun h => decide (h.1 = r)).length)
  { c with rowHits := hits, rowMarks := due.foldl (fun l r => insertNew r l) c.rowMarks }

/-- Errors met by reads on core `n`: corrected ones are counted and flagged by memory (R80, R83), and their rows noted. -/
def State.noteSram (s : State) (n bankBase : Nat) (met : List SramErr) : State :=
  let ce := met.filter fun x => !x.ue
  let os := (ce.filter fun x => decide (x.mem = .os)).length
  let acc := (ce.filter fun x => decide (x.mem = .acc)).length
  let rows := fun l : List SramErr => (l.filterMap (SramErr.row bankBase)).dedup
  let c := (s.core n).noteRows s.ticks (rows ce) (rows (met.filter fun x => x.ue && !x.poisoned))
  let s1 := s.setCore n { c with osCe := satAdd Config.sat32 c.osCe os, accCe := satAdd Config.sat32 c.accCe acc }
  let s2 := if os = 0 then s1 else s1.errCore n 0
  if acc = 0 then s2 else s2.errCore n 2

/-! The core arbiter (R125 to R127) -/

/-- The shared unit of an operation; one with a zero count needs none (R82). -/
def KwOp.unit : KwOp → Option CoreUnit
  | .loadw _ => some .loader
  | .run _ => some .array
  | .accRead _ => some .accPort | .accWrite _ => some .accPort | .rscale _ => some .accPort
  | .resume _ => some .spillPath
  | .alu _ => some .vector | .red _ => some .vector | .osmx _ => some .vector
  | .fill _ => some .vector | .vdrop _ => some .vector
  | _ => none

def Env.unit (e : Env) : Option CoreUnit := if e.zero then none else e.p.kw.op.unit

def candStrm : Cand → StrmId
  | .F => .F | .B => .B | .U => .U | .deferred => .B

def candRank : Cand → Nat
  | .F => 0 | .B => 1 | .U => 2 | .deferred => 3

/-- The head of a candidate that is ready for a unit. -/
def candReady (s : State) (n : Nat) (k : Cand) (u : CoreUnit) : Bool :=
  match site s n (candStrm k) with
  | none => false
  | some i =>
    if i.t.st = .absent || i.t.st = .halted || i.t.rerun || i.waits then false
    else match u with
      | .accessB =>
        match i.t.head (decide (k = .deferred)) true with
        | some p => decide (candStrm k = .B) && decide (p.kw.op.cls = 3) && (envOf s n .B i p).ready i.t true
        | none => false
      | u =>
        match i.t.head (decide (k = .deferred)) false with
        | some p =>
          let e := envOf s n (candStrm k) i p
          decide (e.unit = some u) && e.ready i.t false
        | none => false

/-- Whether candidate `a` outranks `b` on a unit: an aged one outranks one that is not (R126). -/
def outranks (c : Core) (u : CoreUnit) (a b : Cand) : Bool :=
  let x := decide ((a, u) ∈ c.aged)
  let y := decide ((b, u) ∈ c.aged)
  if x && !y then true else if y && !x then false else decide (candRank a < candRank b)

/-- The unit grants a candidate that no ready candidate outranks. -/
def granted (s : State) (n : Nat) (k : Cand) (u : CoreUnit) : Bool :=
  [Cand.F, .B, .U, .deferred].all fun j =>
    decide (j = k) || !outranks (s.core n) u j k || !candReady s n j u

/-! Issue (R121, R149) -/

/-- What an instruction did when it issued: the state and the core state with its results, its flight, its
numeric outcome, whether it completed at once, the increment it applies, the wait it
goes on holding, and a fault that arose while it ran. -/
structure Done where
  s : State
  l : CoreCtx
  fl : Flight
  num : Numeric := {}
  fin : Bool := false
  inc : Option (Nat × Nat) := none
  wait : Option HeldWait := none
  fault : Option FaultCode := none
  deriving DecidableEq, Repr

/-- The flight of an instruction that has issued, before what it wrote is added. -/
def Env.flight (e : Env) (access : Bool) : Flight :=
  let p := e.p
  let a := e.foot
  { idx := p.idx, onA := access, dfr := p.kw.dfr, inBr := p.inBr
    dctr := if p.kw.tail.en then some p.kw.tail.dctr.toNat else none
    pushQ := p.kw.tail.push, isRun := a.run
    wSlots := (match p.kw.op with | .resume _ => [] | _ => a.sW)
    rTiles := a.tR, wTiles := a.tW, osR := a.oR, osW := a.oW
    unit := if access then none else e.unit, mem := access && decide (p.kw.op.cls = 3) }

/-- Take an instruction's side out of its queue, pop and reserve its tokens (R122). -/
def Stream.take (t : Stream) (p : Pend) (access : Bool) : Stream :=
  let both := match p.kw.op with
    | .inc _ => true | .token _ => true | .meridian => true | .halt => true
    | _ => false
  let upd := fun o : Pend =>
    if o.idx = p.idx then
      { o with pendA := o.pendA && !(access || both), pendE := o.pendE && !(!access || both) }
    else o
  let live := fun o : Pend => o.pendA || o.pendE
  let d := p.kw.dfr
  let inc := t.hand.incoming d access
  let h1 := if p.kw.tail.pop then t.hand.setIncoming d access inc.tail else t.hand
  let h2 := if p.kw.tail.push then h1.setOutgoing d access (h1.outgoing d access ++ [⟨p.idx, false⟩]) else h1
  let br := match t.bracket, inc.head? with
    | some b, some k =>
      if p.kw.tail.pop && decide (k.idx < b.idx) && decide (b.idx < p.idx) then some { b with popped := b.popped ++ [⟨d, access, k⟩] }
      else some b
    | b, _ => b
  { t with q := (t.q.map upd).filter live, dq := (t.dq.map upd).filter live, hand := h2, bracket := br }

/-- Fill the token that instruction `idx` reserved. -/
def Handoff.fill (h : Handoff) (idx : Nat) : Handoff :=
  let f := fun l : List Token => l.map fun k => if k.idx = idx then { k with filled := true } else k
  { a2e := f h.a2e, e2a := f h.e2a, da2e := f h.da2e, de2a := f h.de2a }

/-- Add to the held amount of a counter, in the order of first holding (R102). -/
def addHeld (l : List (Nat × Nat)) (k n : Nat) : List (Nat × Nat) :=
  if l.any fun p => decide (p.1 = k) then l.map fun p => if p.1 = k then (p.1, p.2 + n) else p
  else l ++ [(k, n)]

/-- A completion or an increment of relative counter `k`: held inside a bracket, else signalled (R102, R129). -/
def signal (s : State) (n : Nat) (x : StrmId) (slot : Nat) (inBr : Bool) (k amount : Nat) : State :=
  if inBr then
    let t := (s.core n).live.strm x
    match t.bracket with
    | some b => s.setStream n x { t with bracket := some { b with held := addHeld b.held k amount } }
    | none => s
  else if (s.ctx slot).ctrFrozen slot k then s
  else s.raiseCtr ((s.ctx slot).desc.ctrBase + k) amount

/-- An instruction completes: its counter and its token (R122, R129). -/
def completeFlight (s : State) (n : Nat) (x : StrmId) (slot : Nat) (f : Flight) : State :=
  let t := (s.core n).live.strm x
  let s1 := s.setStream n x { t with
    flights := t.flights.filter fun g => decide (g.idx ≠ f.idx) || decide (g.onA ≠ f.onA)
    hand := if f.pushQ then t.hand.fill f.idx else t.hand }
  match f.dctr with
  | some k => signal s1 n x slot f.inBr k 1
  | none => s1

/-- The keys of nova events of a context that are decided and not carried out, and that need a new entry of the step raise
list: each keeps a place in it. -/
def State.raisePending (s : State) (slot : Nat) : List (W32 × Nat) :=
  let c := s.ctx slot
  ((maskCores c.desc.mask).flatMap fun n =>
    [StrmId.F, .B, .U].filterMap fun x => ((s.coreCtx slot n).strm x).nova.map fun v => (v.layer, v.cls)).dedup.filter
      fun k => !c.raise.any fun q => decide (q.layer = k.1) && decide (q.cls = k.2)

/-- Whether the step raise list can take a raise: it is not full (R109), counting the entries that pending nova events will
add; a key already listed or pending needs no entry of its own. -/
def Env.raisePlace (c : Ctx) (e : Env) (layer : W32) (cls : Nat) : Bool :=
  let wait := e.s.raisePending e.slot
  decide (c.raise.length < 256) && (c.raise.any (fun q => decide (q.layer = layer) && decide (q.cls = cls))
    || decide ((layer, cls) ∈ wait) || decide (c.raise.length + wait.length < 256))

/-- The raise that an overflow calls for: of the class in the bracket's layer, below its LADDER_TOP (R104). -/
def raiseFor (c : Ctx) (e : Env) (cls : Nat) : Option NovaRec :=
  match e.bracket with
  | none => none
  | some b =>
    let r := recipeEnt c.recipe cls
    let old := c.effFmt cls (some b.layer)
    match old.successor with
    | some g =>
      if old ≠ recTop r then some { idx := e.p.idx, layer := b.layer, cls := cls, oldFmt := old, newFmt := g } else none
    | none => none

/-- The nova event of an overflow: the raise that it calls for, where the step raise list has a place for it (R109). -/
def novaFor (c : Ctx) (e : Env) (cls : Nat) : Option NovaRec :=
  (raiseFor c e cls).filter fun v => e.raisePlace c v.layer cls

/-- Put the results of an issued instruction into the state, and handle its overflows in the order of R104;
a fault of the commit raises no completion. DESIGN CHOICE (log 53): an overflowing instruction that a nova event rewinds
leaves its whole R96 result in its destination, and a fault that a later instruction has raised already stands beside the
nova event, which then drops nothing of it. -/
def finish (e : Env) (access : Bool) (d : Done) : State :=
  let t := d.l.strm e.x
  let t1 := t.take e.p access
  let fl := d.fl
  let ok := d.num.unrep && recNfFault e.ctx.recipe
  let nova := if e.p.inBr then (match d.num.classOvf with | some c => novaFor e.ctx e c | none => none) else none
  let full := e.p.inBr && nova.isNone && d.num.classOvf.any fun c => (raiseFor e.ctx e c).isSome
  let ovf := d.num.fp32Ovf && !recOvfRecord e.ctx.recipe
  let s0 := d.s.setCore e.n { d.s.core e.n with live := d.l.setStrm e.x t1 }
  if d.fault.isSome then raiseFault s0 e.n e.x e.slot e.p.idx (d.fault.getD .memPoisoned)
  else if ok then raiseFault s0 e.n e.x e.slot e.p.idx .numNonfinite
  else match nova with
    | some v =>
      let r := stopAt s0 (s0.core e.n).live e.x e.p.idx
      let t2 := { r.2.strm e.x with nova := some v }
      r.1.setCore e.n { r.1.core e.n with live := r.2.setStrm e.x t2 }
    | none =>
      let s1 := if full then s0.logEv { s0.evCtx 0 0x42 e.slot with
          fields := [e.slot, (e.bracket.map fun b => b.layer.toNat).getD 0, d.num.classOvf.getD 0] } else s0
      if ovf then raiseFault s1 e.n e.x e.slot e.p.idx .numFp32Overflow
      else
        let t3 := (s1.core e.n).live.strm e.x
        let s2 := s1.setStream e.n e.x { t3 with flights := t3.flights ++ [fl] }
        let s3 := match d.inc with
          | some (k, a) => if a = 0 then s2 else signal s2 e.n e.x e.slot e.p.inBr k a
          | none => s2
        match d.wait with
        | some w => s3.setStream e.n e.x (t3.hold e.p.kw.dfr access w)
        | none => if d.fin then completeFlight s3 e.n e.x e.slot fl else s3

/-- The candidate of an issue. -/
def candOf (x : StrmId) (dfr : Bool) : Cand :=
  if dfr then .deferred else match x with | .F => .F | .B => .B | .U => .U

/-- Whether the shared unit, or the B access engine, grants the instruction (R125, R127). -/
def grantOk (s : State) (n : Nat) (x : StrmId) (dfr access : Bool) (e : Env) : Bool :=
  if access then
    if decide (e.p.kw.op.cls = 3) && decide (x = .B) then
      !(dfr && outranks (s.core n) .accessB .B .deferred && candReady s n .B .accessB)
        && !(!dfr && outranks (s.core n) .accessB .deferred .B && candReady s n .deferred .accessB)
    else true
  else match e.unit with
    | some u => granted s n (candOf x dfr) u
    | none => true

/-- A grant resets the age count (R126). -/
def clearAge (s : State) (n : Nat) (x : StrmId) (dfr access : Bool) (e : Env) : State :=
  let u := if access then (if e.p.kw.op.cls = 3 then some CoreUnit.accessB else none) else e.unit
  match u with
  | some u => s.setCore n { s.core n with aged := (s.core n).aged.filter fun a => decide (a ≠ (candOf x dfr, u)) }
  | none => s

/-- Issue the head of a side, or of the deferred queue: `run` checks it and carries it out. -/
def issue (n : Nat) (x : StrmId) (dfr access : Bool) (want : KwOp → Bool)
    (run : Env → Except FaultCode Done) (s : State) : State :=
  match site s n x with
  | none => s
  | some i =>
    if i.t.rerun || i.waits then s
    else match i.t.head dfr access with
      | none => s
      | some p =>
        let e := envOf s n x i p
        if !want p.kw.op then s
        else if !(e.ready i.t access && grantOk s n x dfr access e) then s
        else
          let s0 := clearAge s n x dfr access e
          let e0 := { e with s := s0 }
          let base := (i.ctx.desc.core n).bankBase
          match run e0 with
          | .error f => raiseFault (match f with | .sramUe _ => s0.noteSram n base (e0.met.filter (·.ue)) | _ => s0) n x i.slot p.idx f
          | .ok d =>
            if e0.met.any fun y => y.ue && decide (y.mem = .vec) then
              raiseFault (s0.noteSram n base (e0.met.filter (·.ue))) n x i.slot p.idx (.sramUe .vec)
            else finish e0 access { d with s := d.s.noteSram n base e0.met }

/-! The context status record (14 R440), and what every command ends with: the records whose fields it changed -/

/-- Whether a head of a stream of a context is held: by a wait that is not met, a token, a full queue or an interlock (R133). A
context that is not resident issues nothing, and only its waits show. -/
def State.headHeld (s : State) (slot n : Nat) (x : StrmId) (t : Stream) : Bool :=
  let i : Site := ⟨slot, s.ctx slot, s.core n, t⟩
  t.anyHeld || (decide ((s.core n).resident = some slot)
    && [(false, true), (false, false), (true, true), (true, false)].any fun k =>
      match t.head k.1 k.2 with
      | some p => !(envOf s n x i p).ready t k.2
      | none => false)

/-- The state code of stream `x` of a context on core `n`: WAITING where its head is held, whatever holds it (R133, R440). -/
def State.strmCode (s : State) (slot n : Nat) (x : StrmId) : Nat :=
  let t := (s.coreCtx slot n).strm x
  match t.st with
  | .absent => 0
  | .running => if s.headHeld slot n x t then 2 else 1
  | .atMeridian => 3
  | .halted => 4
  | .faulted => 5

def ctxCode : CtxState → Nat
  | .none => 0 | .ready => 1 | .running => 2 | .faulted => 3 | .eclipse => 4 | .done => 5

/-- Word of the stream states, 12 bits per core (R440). -/
def State.strmWord (s : State) (slot : Nat) : Nat :=
  ((List.range 8).map fun n =>
    at_ (s.strmCode slot n .F + at_ (s.strmCode slot n .B) 4 + at_ (s.strmCode slot n .U) 8) (12 * n)).sum

/-- The fields of the status record but for UPDATES and the step number. -/
def State.statusFields (s : State) (slot : Nat) : List Nat :=
  let c := s.ctx slot
  [slot, ctxCode c.st, (s.enclOfSlot slot).getD 0xFF, s.strmWord slot, c.cause, c.faultCore, c.faultStream,
    c.flags, c.reloadStatus, c.rcvStatus, c.logSeq.toNat]

/-- The eight words of the status record (R440). -/
def State.statusWords (s : State) (slot : Nat) : List Nat :=
  let c := s.ctx slot
  let w := s.strmWord slot
  [slot + at_ (ctxCode c.st) 12 + at_ ((s.enclOfSlot slot).getD 0xFF) 16 + at_ (s.page slot).updates.toNat 32,
    w % 2 ^ 64, w / 2 ^ 64,
    c.cause + at_ c.faultCore 16 + at_ c.faultStream 20 + at_ c.flags 32,
    c.reloadStatus + at_ c.rcvStatus 16, (c.desc.stepBase + c.s).toNat, c.logSeq.toNat, 0]
/-- The record with the words given goes out, its UPDATES the next, and the slot's vector is signalled (R440). -/
def State.sendStatus (s : State) (slot : Nat) (words : List Nat) : State :=
  let p := s.page slot
  if p.statusVA = 0 then s
  else
    let n := p.updates + 1
    let ws := match words with
      | w :: l => (w % 2 ^ 32 + at_ n.toNat 32) :: l
      | [] => []
    let s1 := (s.setPage slot { p with updates := n }).emit (.status slot p.statusVA ws)
    if p.statusEn then s1.pageSignal p else s1

/-- Write the status record of a slot (R440); while the link is down the write waits (R431). -/
def State.writeStatus (s : State) (slot : Nat) : State :=
  let p := s.page slot
  if s.hif.linkUp then s.sendStatus slot (s.statusWords slot)
  else if p.statusVA = 0 then s
  else { s with hif := { s.hif with statusHeld := s.hif.statusHeld ++ [⟨slot, s.statusWords slot, p.held.length⟩] } }

/-- The slots whose status fields differ between two states. -/
def State.changedSlots (s t : State) : List Nat :=
  let ks := t.ctxs.map Prod.fst
  (ks ++ (s.ctxs.map Prod.fst).filter fun k => decide (k ∉ ks)).filter fun k => decide (s.statusFields k ≠ t.statusFields k)

def Output.isMsix : Output → Bool
  | .msix _ _ => true
  | _ => false

/-- The end of a command: the status records of every slot whose fields it changed, before the MSI-X messages that report the same
change (R440). -/
def State.settle (s t : State) : State :=
  let ks := s.changedSlots t
  if ks.isEmpty then t
  else
    let new := t.out.drop s.out.length
    let u := ks.foldl State.writeStatus { t with out := t.out.take s.out.length ++ new.filter fun o => !o.isMsix }
    { u with out := u.out ++ new.filter Output.isMsix }

/-- One Kwemin command: dispatch, or issue from the side's queue or from the deferred queue (log 7). -/
def kwemin (n : CoreId) (x : StrmId) (ph : Phase) (access : Bool) (want : KwOp → Bool)
    (run : Env → Except FaultCode Done) (s : State) : State :=
  s.settle (match ph with
    | .dispatch => dispatch n.val x want s
    | .issue => issue n.val x false access want run s
    | .issueDeferred => if x = .B then issue n.val x true access want run s else s)

end Sys2Proof.Machine
end

