-- ==== Sys2Proof/Machine/Moves.lean ====
section
/-! DEFINITION. The MOVE class (05 R162 to R166, 03 R98, 06 R201 to R203). -/

namespace Sys2Proof.Machine

/-! MOVE.LOAD (R163) -/

/-- Lay bytes into the operand store where free bits say so: any mix of old and new content (R162), byte by byte (the model's
choice, log 63). -/
def CoreCtx.mixOs (l : CoreCtx) (k : Nat) (bs : List (Nat × Byte)) : CoreCtx := { l with os := revertOs k bs l.os }

/-- Bytes with their addresses. -/
def atAddr (a : Nat) (bs : List Byte) : List (Nat × Byte) := bs.zipIdx.map fun p => (a + p.2, p.1)

/-- The rows after the one that met a poisoned word: each may be written whole, in part or not at all (R162). -/
def laterRows (slot mbase mstride obase ostride n : Nat) : Nat → Nat → State → CoreCtx → State × CoreCtx
  | 0, _, s, l => (s, l)
  | k + 1, r, s, l =>
    let m := s.readVA slot (memRow mbase mstride r) n
    if m.bad then laterRows slot mbase mstride obase ostride n k (r + 1) m.s l
    else laterRows slot mbase mstride obase ostride n k (r + 1) (m.s.drawn n)
      (l.mixOs m.s.fresh (atAddr (obase + r * ostride) m.bytes))

/-- Copy rows from memory into the operand store in ascending order, up to the first that meets a poisoned
word (R162). -/
def loadRows (slot mbase mstride obase ostride n : Nat) : Nat → Nat → State → CoreCtx → State × CoreCtx × Bool
  | 0, _, s, l => (s, l, false)
  | k + 1, r, s, l =>
    let m := s.readVA slot (memRow mbase mstride r) n
    if m.bad then
      let t := laterRows slot mbase mstride obase ostride n k (r + 1) m.s l
      (t.1, t.2, true)
    else loadRows slot mbase mstride obase ostride n k (r + 1) m.s (l.osWrite (obase + r * ostride) m.bytes)

def runLoad (f : MvF) (e : Env) : Except FaultCode Done := do
  e.chkCtr
  e.chkBracket false
  let n := f.rowLen.toNat * 64
  let rows := if n = 0 then 0 else f.rows.toNat
  let ob := osAddr e.p.x2 f.off.toNat
  let os := f.stride.toNat * 64
  let mb := e.p.x1.toNat
  let ms := f.mstride.toNat * 64
  e.chkOs ob os rows n
  e.chkMem mb ms rows n
  e.chkTag mb ms rows n
  let r := loadRows e.slot mb ms ob os n rows 0 e.s e.live
  .ok { s := r.1, l := r.2.1, fl := { e.flight true with oldOs := e.live.osOld ob os rows n }
        fault := if r.2.2 then some .memPoisoned else none }

def isMload : KwOp → Bool | .mload _ => true | _ => false

def carryLoad (e : Env) : Except FaultCode Done :=
  match e.p.kw.op with
  | .mload f => runLoad f e
  | _ => .error .insnBadOpcode

/-- MOVE.LOAD. -/
def execMoveLoad (n : CoreId) (x : StrmId) (ph : Phase) (s : State) : Host.Outcome State Fault Refusal :=
  .next (kwemin n x ph true isMload carryLoad s)

/-! MOVE.STORE (R163) -/

/-- BF16 elements widened to FP32 (R163). -/
def bf16s : List Byte → List W32
  | a :: b :: t => BitVec.ofNat 32 (leNat [a, b] * 65536) :: bf16s t
  | _ => []

/-- Write rows in ascending order; with ADD, through the adders. Answers whether an add met a poisoned line. -/
def storeRows (slot mbase mstride : Nat) (add : BitVec 2) : List (List Byte) → Nat → State → State × Bool
  | [], _, s => (s, false)
  | b :: bs, r, s =>
    let va := memRow mbase mstride r
    let o := if add = 0#2 then (s.writeVA slot va b, false)
      else if add = 1#2 then s.addVA slot va (fp32s b) else s.addVA slot va (bf16s b)
    let t := storeRows slot mbase mstride add bs (r + 1) o.1
    (t.1, o.2 || t.2)

/-- MOVE.STORE at issue. The order among its MOVE faults, MOVE_VIEW_WRITE before MOVE_NO_ADDER, is the model's choice (R149,
log 63). -/
def runStore (f : MvF) (e : Env) : Except FaultCode Done := do
  e.chkCtr
  e.chkBracket (decide (f.add ≠ 0#2))
  let n := f.rowLen.toNat * 64
  let rows := if n = 0 then 0 else f.rows.toNat
  let mn := if f.add = 2#2 then 2 * n else n
  let ob := osAddr e.p.x2 f.off.toNat
  let os := f.stride.toNat * 64
  let mb := e.p.x1.toNat
  let ms := f.mstride.toNat * 64
  e.chkOs ob os rows n
  e.chkMem mb ms rows mn
  e.chkView mb ms rows mn
  failIf (decide (f.add ≠ 0#2) && (List.range rows).any fun r => !e.s.inPackage e.slot (memRow mb ms r) mn) .moveNoAdder
  e.chkTag mb ms rows mn
  failIf ((List.range rows).any fun r => e.live.osBad (ob + r * os) n) (.sramUe .os)
  let bytes := (List.range rows).map fun r => e.live.osRead (ob + r * os) n
  let r := storeRows e.slot mb ms f.add bytes 0 e.s
  .ok { s := r.1
        l := (List.range rows).foldl (fun l i => e.foldOut (memRow mb ms i) (bytes.getD i []) l) e.live
        fl := { e.flight true with
          oldMem := (List.range rows).flatMap fun i => e.memOld r.1 (if f.add = 0#2 then 1 else 64) (memRow mb ms i) mn }
        fault := if r.2 then some .memPoisoned else none }

def isMstore : KwOp → Bool | .mstore _ => true | _ => false

def carryStore (e : Env) : Except FaultCode Done :=
  match e.p.kw.op with
  | .mstore f => runStore f e
  | _ => .error .insnBadOpcode

/-- MOVE.STORE. -/
def execMoveStore (n : CoreId) (x : StrmId) (ph : Phase) (s : State) : Host.Outcome State Fault Refusal :=
  .next (kwemin n x ph true isMstore carryStore s)

/-! MOVE.TLOAD (R98, R164) -/

/-- Read the source rows, each with whether it met a poisoned word. -/
def readRowsMem (slot base stride n : Nat) : Nat → Nat → State → State × List (List Byte × Bool)
  | 0, _, s => (s, [])
  | k + 1, r, s =>
    let m := s.readVA slot (memRow base stride r) n
    let t := readRowsMem slot base stride n k (r + 1) m.s
    (t.1, (m.bytes, m.bad) :: t.2)

/-- The destination format of a transposing move (R98). -/
def tloadDest (g : Eff) : Eff := ⟨if g.blk.isSome then .bf16 else g.fmt, none⟩

/-- Element `c` of a source row in the destination format. -/
def tloadCode (g : Eff) (row : RowCodes) (c : Nat) : Nat :=
  if g.blk.isSome then toBf16 (g.elemValue row c) else row.codes.getD c 0

/-- What a transposing move may have written when a source row met a poisoned word (R164): transposed elements of the rows
read, and the old content in place of the poisoned row's. The mix goes byte by byte, so two 4-bit elements of a byte stay
together (the model's choice, log 63). -/
def tloadMix (l : CoreCtx) (g d : Eff) (rows len ob os : Nat) (src : List (List Byte × Bool)) (cols : Nat) : List (Nat × Byte) :=
  (List.range cols).flatMap fun c =>
    let old := d.unpackRow rows (l.osRead (ob + c * os) len)
    atAddr (ob + c * os) (d.packRow (src.zipIdx.map fun p =>
      if p.1.2 then old.codes.getD p.2 0 else tloadCode g (g.unpackRow cols p.1.1) c) [])

def runTload (f : TloadF) (e : Env) : Except FaultCode Done := do
  e.chkCtr
  e.chkClass f.cls.toNat
  e.chkBracket false
  let g := e.eff f.cls.toNat f.lsrc
  let d := tloadDest g
  let none_ := decide (f.rows = 0#11) || decide (f.cols = 0#11)
  let rows := if none_ then 0 else f.rows.toNat
  let cols := if none_ then 0 else f.cols.toNat
  let n := g.rowBytes cols
  let len := d.rowBytes rows
  let ob := osAddr e.p.x2 f.off.toNat
  let os := f.stride.toNat * 64
  let mb := e.p.x1.toNat
  let ms := f.mstride.toNat * 64
  e.chkOs ob os cols len
  e.chkMem mb ms rows n
  failIf (decide (2 ≤ cols) && decide (os < len)) .numStrideShort
  e.chkTag mb ms rows n
  let r := readRowsMem e.slot mb ms n rows 0 e.s
  let src := r.2.map fun p => g.unpackRow cols p.1
  let out := (List.range cols).map fun c => d.packRow (src.map fun row => tloadCode g row c) []
  if r.2.any Prod.snd then
    .ok { s := r.1.drawn (cols * len), fl := e.flight true, fault := some .memPoisoned
          l := e.live.mixOs r.1.fresh (tloadMix e.live g d rows len ob os r.2 cols) }
  else .ok { s := r.1, l := e.live.osWriteRows ob os out
             fl := { e.flight true with oldOs := e.live.osOld ob os cols len } }

def isTload : KwOp → Bool | .tload _ => true | _ => false

def carryTload (e : Env) : Except FaultCode Done :=
  match e.p.kw.op with
  | .tload f => runTload f e
  | _ => .error .insnBadOpcode

/-- MOVE.TLOAD. -/
def execMoveTload (n : CoreId) (x : StrmId) (ph : Phase) (s : State) : Host.Outcome State Fault Refusal :=
  .next (kwemin n x ph true isTload carryTload s)

/-! MOVE.GATHER (R165, R201) -/

/-- Read the gathered rows: the bytes of each, none of a row that faults (R165). -/
def gatherRows (slot base stride n : Nat) : List Nat → State → State × List (Except FaultCode (List Byte))
  | [], s => (s, [])
  | k :: ks, s =>
    let va := memRow base stride k
    let r : State × Except FaultCode (List Byte) :=
      if !s.mapped slot va n then (s, .error .moveUnmapped)
      else if s.tagBad slot va n then (s, .error .nearTag)
      else
        let m := s.readVA slot va n
        if m.bad then (m.s, .error .memPoisoned) else (m.s, .ok m.bytes)
    let t := gatherRows slot base stride n ks r.1
    (t.1, r.2 :: t.2)

/-- The first fault of the rows, in the order of their indices although the engine sorts its requests (the model's choice,
log 63). -/
def rowFault : List (Except FaultCode (List Byte)) → Option FaultCode
  | [] => none
  | .error f :: _ => some f
  | .ok _ :: l => rowFault l

/-- The 64-byte lines that the rows read put at the destination. -/
def gatherLines (ob os : Nat) (rows : List (Except FaultCode (List Byte))) : List (Nat × List Byte) :=
  rows.zipIdx.flatMap fun p =>
    match p.1 with
    | .ok b => (chunks 64 b.length b).zipIdx.map fun c => (ob + p.2 * os + c.2 * 64, c.1)
    | .error _ => []

/-- Write each destination line from one of the rows that fall on it: the order of writes is not defined, so
a free value picks which (R165). -/
def gatherWrite (k : Nat) (cands : List (Nat × List Byte)) : List Nat → CoreCtx → CoreCtx
  | [], l => l
  | a :: as, l =>
    let cs := cands.filter fun p => decide (p.1 = a)
    let pick := cs.getD ((Config.freeWord k).toNat % cs.length) (a, [])
    gatherWrite (k + 1) cands as (l.osWrite a pick.2)

/-- MOVE.GATHER at issue. With ROW_LEN = 0 its index list is checked and read all the same, its table is not (the model's
choice, log 63). -/
def runGather (f : GatherF) (e : Env) : Except FaultCode Done := do
  e.chkCtr
  e.chkBracket false
  let n := f.rowLen.toNat * 64
  let count := f.count.toNat
  let ix := e.p.x3.toNat
  let ob := osAddr e.p.x2 f.off.toNat
  let os := f.stride.toNat * 64
  let mb := e.p.x1.toNat
  let ms := f.mstride.toNat * 64
  failIf (decide (0 < count) && (decide (ix % 4 ≠ 0) || (decide (0 < n) && decide (ob % 64 ≠ 0)))) .osAlign
  failIf (decide (0 < count) && decide (e.osSize < ix + 4 * count)) .osRange
  e.chkOs ob os count n
  failIf (decide (0 < count) && decide (0 < n) && decide (mb % 64 ≠ 0)) .moveAlign
  failIf (decide (0 < count) && e.live.osBad ix (4 * count)) (.sramUe .os)
  let r := gatherRows e.slot mb ms n (if n = 0 then [] else gatherIdx e.live ix count) e.s
  let cands := gatherLines ob os r.2
  let lines := (cands.map Prod.fst).dedup
  match rowFault r.2 with
  | some c =>
    let olds := lines.map fun a => (a, e.live.osRead a 64)
    .ok { s := r.1.drawn lines.length, l := gatherWrite r.1.fresh (cands ++ olds) lines e.live
          fl := e.flight true, fault := some c }
  | none =>
    .ok { s := r.1.drawn lines.length, l := gatherWrite r.1.fresh cands lines e.live
          fl := { e.flight true with oldOs := e.live.osOld ob os count n } }

def isGather : KwOp → Bool | .gather _ => true | _ => false

def carryGather (e : Env) : Except FaultCode Done :=
  match e.p.kw.op with
  | .gather f => runGather f e
  | _ => .error .insnBadOpcode

/-- MOVE.GATHER. -/
def execMoveGather (n : CoreId) (x : StrmId) (ph : Phase) (s : State) : Host.Outcome State Fault Refusal :=
  .next (kwemin n x ph true isGather carryGather s)

/-! Posting to a DWT queue (R166, R253, R254) -/

/-- A queue entry from its 64 bytes (R254). -/
def readQEnt (b : List Byte) : QEnt :=
  let w := fun k => leNat ((b.drop (8 * k)).take 8)
  { op := bits (w 0) 7 0, waitEn := bit (w 0) 8, fence := bit (w 0) 9, ctrEn := bit (w 0) 10, recEn := bit (w 0) 11
    conn := bits (w 0) 45 32, localVa := bits (w 1) 47 0, length := bits (w 2) 47 0
    rwgen := bits (w 3) 63 48, window := bits (w 3) 17 0, roffset := bits (w 4) 47 0
    waitCtr := bits (w 5) 63 48, waitTarget := bits (w 5) 47 0, doneCtr := bits (w 6) 63 48, recVa := bits (w 6) 47 0
    extra := w 7
    resv := decide (bits (w 0) 31 12 ≠ 0) || decide (bits (w 0) 63 46 ≠ 0) || decide (bits (w 1) 63 48 ≠ 0)
      || decide (bits (w 2) 63 48 ≠ 0) || decide (bits (w 3) 47 18 ≠ 0) || decide (bits (w 4) 63 48 ≠ 0) }

/-- The entries in a list of bytes. -/
def readQEnts (bs : List Byte) : List QEnt := (chunks 64 bs.length bs).map readQEnt

/-- Whether the queue is bound to another context (R253). -/
def State.queueForeign (s : State) (q slot : Nat) : Bool := ((s.queue q).ctx.map fun c => decide (c ≠ slot)).getD false

/-- The queue accepts entries and binds to the context that first posts (R253). -/
def State.postEntries (s : State) (q slot : Nat) (es : List QEnt) : State :=
  let k := s.queue q
  s.setQueue q { k with ctx := some slot, next := k.next + es.length
                        entries := k.entries ++ es.zipIdx.map fun p => (k.next + p.2, p.1) }

/-- MOVE.DWTQ at issue. One that reads a poisoned word posts none of its entries; that, and the order among its MOVE faults
(R149), is the model's choice (log 63). Those of a replay are discarded (R370). -/
def runDwtq (f : DwtqF) (e : Env) : Except FaultCode Done := do
  e.chkCtr
  e.chkBracket (decide (f.count ≠ 0#9))
  let n := 64 * f.count.toNat
  let va := e.p.x1.toNat
  e.chkMem va 0 (if n = 0 then 0 else 1) n
  match e.s.queueOf e.slot f.queue.toNat with
  | none => .error .moveQueueRange
  | some q =>
    failIf (e.s.queueForeign q (e.s.home e.slot)) .moveQueueRange
    e.chkTag va 0 (if n = 0 then 0 else 1) n
    if n = 0 then .ok { s := e.s, l := e.live, fl := e.flight true }
    else
      let m := e.s.readVA e.slot va n
      if m.bad then .ok { s := m.s, l := e.live, fl := e.flight true, fault := some .memPoisoned }
      else .ok { s := if e.slot = replaySlot then m.s else m.s.postEntries q e.slot (readQEnts m.bytes), l := e.foldOut q m.bytes e.live, fl := e.flight true }

def isDwtq : KwOp → Bool | .dwtq _ => true | _ => false

def carryDwtq (e : Env) : Except FaultCode Done :=
  match e.p.kw.op with
  | .dwtq f => runDwtq f e
  | _ => .error .insnBadOpcode

/-- MOVE.DWTQ. -/
def execMoveDwtq (n : CoreId) (x : StrmId) (ph : Phase) (s : State) : Host.Outcome State Fault Refusal :=
  .next (kwemin n x ph true isDwtq carryDwtq s)

end Sys2Proof.Machine
end

