-- ==== Sys2Proof/Machine/Ports.lean ====
section
/-! DEFINITION. The Ethernet ports: receiving, transmitting, flow control, sparing, lane shedding, and link
bring-up (10 R293 to R312; 01 R36 to R41; 08 R235, R239). -/

namespace Sys2Proof.Machine

/-! Counters of a port by their number of R312 -/

def Net.count (p : Net) (i n : Nat) : Net :=
  { p with counters := Tbl.put p.counters i (satAdd Config.sat64 (Tbl.get 0 p.counters i) n) }

def State.countNet (s : State) (n i k : Nat) : State := s.setNet n ((s.net n).count i k)

/-- Port kinds of the cluster map (R323). -/
def kindDirect : Nat := 1
def kindSwitched : Nat := 2
def kindStorage : Nat := 3

def Net.direct (p : Net) : Bool := decide (p.kind = kindDirect)

/-- A torus port: direct or switched. -/
def Net.torus (p : Net) : Bool := p.direct || decide (p.kind = kindSwitched)

/-! MAC Control frames and flow control sent (R302, R306) -/

/-- Send a MAC Control frame of 64 bytes: opcode and fields. -/
def macSend (n opcode : Nat) (fields : List Nat) (s : State) : State :=
  ((s.emit (.macCtl n opcode fields)).countNet n 0 1).countNet n 1 64

/-- A PAUSE or PFC frame with a time for a class. -/
def sendFc (n cls time : Nat) (s : State) : State :=
  let p := s.net n
  if p.cfg.fcMode = 1 then (macSend n 0x0001 [time] s).countNet n 3 1
  else if p.cfg.fcMode = 2 ∧ bit p.cfg.pfcEn cls then (macSend n 0x0101 [2 ^ cls, time] s).countNet n 3 1
  else s

/-- The receive buffer level of a class. -/
def setLevel (n cls level : Nat) (s : State) : State :=
  let p := s.net n
  s.setNet n { p with rxLevel := Tbl.put p.rxLevel cls level }

/-- Class `cls` holds `level` bytes: above 48 KiB the port sends XOFF once, until the class has fallen to 24 KiB. -/
def xoffAt (n cls level : Nat) (s : State) : State :=
  let s1 := setLevel n cls level s
  let p := s1.net n
  if level ≤ 49152 ∨ cls ∈ p.xoff then s1
  else sendFc n cls 0xFFFF (s1.setNet n { p with xoff := p.xoff ++ [cls], fcHeld := true })

/-- XOFF: class `cls` holds `level` bytes. -/
def execXoff (n : PortId) (cls : Fin 8) (level : Nat) (s : State) : Host.Outcome State Fault Refusal :=
  .next (xoffAt n.val cls.val level s)

/-- XOFF_REPEAT. -/
def execXoffRepeat (n : PortId) (cls : Fin 8) (s : State) : Host.Outcome State Fault Refusal :=
  let p := s.net n
  .next (if cls.val ∈ p.xoff ∧ 24576 < Tbl.get 0 p.rxLevel cls.val then sendFc n.val cls.val 0xFFFF s else s)

/-- XON: a class falls to 24 KiB or below; in PAUSE mode the frame goes out once every class has. -/
def xon (n cls level : Nat) (s : State) : State :=
  if 24576 < level then s
  else
    let s1 := setLevel n cls level s
    let p := s1.net n
    let s2 := s1.setNet n { p with xoff := p.xoff.filter fun c => decide (c ≠ cls) }
    if p.cfg.fcMode = 1 then
      if !p.fcHeld || (List.range 8).any (fun c => decide (24576 < Tbl.get 0 p.rxLevel c)) then s2
      else sendFc n cls 0 (s2.setNet n { s2.net n with fcHeld := false })
    else if cls ∈ p.xoff then sendFc n cls 0 s2
    else s2

def execXon (n : PortId) (cls : Fin 8) (level : Nat) (s : State) : Host.Outcome State Fault Refusal :=
  .next (xon n.val cls.val level s)

/-! Receiving (R298) -/

/-- What the receive checks give: the state, whether the frame was accepted, and its TRUNC mark. -/
structure RxOut where
  s : State
  ok : Bool
  trunc : Bool
  deriving DecidableEq, Repr

def broadcastMac : W48 := 0xFFFFFFFFFFFF#48
def pauseMac : W48 := 0x0180C2000001#48
def laneMac : W48 := 0x0180C200000E#48

def isMacCtl (f : RxFacts) : Bool :=
  match f.net with
  | .ether t => decide (t = 0x8808#16)
  | .ip _ _ _ _ => false

/-- The port's own IP address; 0 for none. -/
def Net.addr (p : Net) (v6 : Bool) : BitVec 128 :=
  if v6 then BitVec.ofNat 128 (p.cfg.ipv6Hi.toNat * 2 ^ 64 + p.cfg.ipv6Lo.toNat) else BitVec.ofNat 128 p.cfg.ipv4.toNat

/-- Where an accepted frame goes (R298). -/
inductive RxKind where | control | dwt | raw
  deriving DecidableEq, Repr

/-- The classification of a frame; every fragment addressed to the port goes to the window transport engine, which drops it. -/
def State.rxKind (s : State) (n : Nat) (f : RxFacts) : RxKind :=
  let p := s.net n
  match f.net with
  | .ether t => if t = 0x8808#16 then .control else if t = 0x88B5#16 ∧ p.direct = true then .dwt else .raw
  | .ip v6 dst udp fragment =>
    if (p.kind = kindSwitched ∨ p.kind = kindStorage) ∧ dst = p.addr v6 ∧ dst ≠ 0#128
        ∧ (fragment = true ∨ udp = some (BitVec.ofNat 16 s.dwt.udpPort)) then .dwt
    else .raw

/-- Check 6: the destinations that a port takes. -/
def Net.takesDst (p : Net) (f : RxFacts) : Bool :=
  decide (f.dst = p.cfg.mac) || decide (f.dst = broadcastMac) || decide (f.dst = pauseMac)
    || (decide (f.dst = laneMac) && p.direct)

/-- Check 7: a tag that the port does not take. -/
def Net.badTag (p : Net) (f : RxFacts) : Bool :=
  f.tagged && decide (f.vid ≠ 0) && !(p.cfg.vlanEn && decide (f.vid.toNat = p.cfg.vid))

/-- The class whose receive buffer a frame takes: raw frames share class 0's (R301). -/
def State.rxClass (s : State) (n : Nat) (f : RxFacts) : Nat :=
  match s.rxKind n f with
  | .raw => 0
  | _ => f.cls.val

/-- Bytes of receive buffer of a class (R303). -/
def rxBuffer : Nat := 131072

/-- The receive checks in their order, `takes` being what check 6 says of the destination. An accepted frame raises its
class's buffer level. -/
def rxChecked (takes : Bool) (n : Nat) (f : RxFacts) (s : State) : RxOut :=
  let p := s.net n
  let cls := s.rxClass n f
  let level := Tbl.get 0 p.rxLevel cls + min f.len 9216
  if !p.linkUp then ⟨s, false, false⟩
  else if f.fecBad then ⟨((s.countNet n 6 1).countNet n 17 1).errNet n 1, false, false⟩
  else if f.len < 64 then ⟨s.countNet n 8 1, false, false⟩
  else if f.stomped then ⟨s.countNet n 7 1, false, false⟩
  else if f.fcsBad then ⟨s.countNet n 6 1, false, false⟩
  else if 9216 < f.len ∧ p.cfg.compatTv4 = false then ⟨s.countNet n 9 1, false, false⟩
  else
    let trunc := decide (9216 < f.len)
    let s1 := if trunc then s.countNet n 10 1 else s
    if !takes || p.badTag f then ⟨s1.countNet n 11 1, false, trunc⟩
    else if rxBuffer < level then ⟨(s1.countNet n 12 1).errNet n 6, false, trunc⟩
    else ⟨xoffAt n cls level ((s1.countNet n 4 1).countNet n 5 f.len), true, trunc⟩

/-- The receive checks of a frame. -/
def rxFrame (n : Nat) (f : RxFacts) (s : State) : RxOut := rxChecked ((s.net n).takesDst f) n f s

/-- A PAUSE or PFC frame through the receive checks; a frame that is no MAC Control frame is none. -/
def rxControl (n : Nat) (f : RxFacts) (s : State) : RxOut :=
  let r := rxFrame n f s
  ⟨r.s, r.ok && isMacCtl f, r.trunc⟩

/-- A lane-control frame (opcode 0x0F10) through the receive checks. DEDUCED (log 57): to 01-80-C2-00-00-0E it passes check 6
on every port, since a port that is not direct discards it as RX_MAC_CTL_IGNORED (R307). -/
def rxLane (n : Nat) (f : RxFacts) (s : State) : RxOut :=
  let r := rxChecked ((s.net n).takesDst f || decide (f.dst = laneMac)) n f s
  ⟨r.s, r.ok && isMacCtl f, r.trunc⟩

/-- A frame dropped by the raw ring (R301). -/
def rawDrop (n : Nat) (s : State) : State := (s.countNet n 15 1).errNet n 0

/-- A raw frame goes into the buffer of descriptor HEAD (R300, R301). -/
def rawFrame (n buf : Nat) (frame : List Byte) (trunc : Bool) (s : State) : State :=
  let p := s.net n
  if p.rawEntries = 0 || decide (p.rawHead = p.rawTail) then rawDrop n s
  else
    let bytes := frame.take 9216
    let s1 := s.emit (.hostWrite buf bytes)
    let w := bytes.length + at_ (b2n trunc) 16 + at_ 1 31
    let s2 := s1.emit (.hostWrite (p.rawBase + 16 * p.rawHead + 8) (leBytes 8 w))
    (s2.setNet n { p with rawHead := (p.rawHead + 1) % p.rawEntries }).msix 0 (2 + n)

/-- RAW_FRAME_RECEIVED: a frame that is classified to the raw ring; `buf` is the buffer address that the host
wrote into descriptor HEAD (log 4). -/
def execRawFrameReceived (n : PortId) (f : RxFacts) (buf : W48) (frame : List Byte) (s : State) :
    Host.Outcome State Fault Refusal :=
  let r := rxFrame n.val f s
  .next (match s.rxKind n.val f with
    | .raw => if r.ok then rawFrame n.val buf.toNat frame r.trunc r.s else r.s
    | _ => r.s)

/-! Flow control received (R305) -/

/-- A MAC Control frame of a kind that the port does not take. -/
def ctlIgnored (n : Nat) (s : State) : State := s.countNet n 14 1

/-- A pause time set on the queues of a list. -/
def setPause (n : Nat) (qs : List (Nat × Nat)) (s : State) : State :=
  let p := s.net n
  s.setNet n { p with pause := qs.foldl (fun t q => Tbl.put t q.1 q.2) p.pause }

/-- PAUSE. -/
def execPause (n : PortId) (f : RxFacts) (q : W16) (s : State) : Host.Outcome State Fault Refusal :=
  let r := rxControl n.val f s
  .next (if !r.ok then r.s
    else if (s.net n.val).cfg.fcMode = 1 then
      (setPause n.val ((List.range 8).map fun c => (c, q.toNat)) r.s).countNet n.val 13 1
    else ctlIgnored n.val r.s)

/-- PFC: `en` is the frame's class vector and `times` its eight times. -/
def execPfc (n : PortId) (f : RxFacts) (en : Byte) (times : List W16) (s : State) : Host.Outcome State Fault Refusal :=
  let r := rxControl n.val f s
  let p := s.net n.val
  let qs := ((List.range 8).filter fun c => en.getLsbD c && bit p.cfg.pfcEn c).map
    fun c => (c, (times.getD c 0#16).toNat)
  .next (if !r.ok then r.s
    else if p.cfg.fcMode = 2 then (setPause n.val qs r.s).countNet n.val 13 1
    else ctlIgnored n.val r.s)

/-- PAUSE_EXPIRY. -/
def execPauseExpiry (n : PortId) (q : Fin 8) (s : State) : Host.Outcome State Fault Refusal :=
  .next (if Tbl.get 0 (s.net n.val).pause q.val = 0 then s else setPause n.val [(q.val, 0)] s)

/-! Transmitting (R302 to R304) -/

/-- Put a frame into a transmit queue. -/
def txPush (n : Nat) (t : TxFrame) (s : State) : State :=
  let p := s.net n
  s.setNet n { p with txq := p.txq ++ [t] }

/-- Bytes waiting in a port's transmit queues, and in the queue of one class. -/
def Net.backlog (p : Net) : Nat := (p.txq.map (·.len)).sum
def Net.queueBytes (p : Net) (c : Nat) : Nat := ((p.txq.filter fun t => decide (t.cls = c)).map (·.len)).sum

/-- The owner that a device's own frame bears in a queue: HELLO frames belong to no enclosure. -/
def ownFrame : Nat := 0xFF

/-- Whether a queued frame may go out: a torus port carries DWT only once its HELLO has matched (R41, R310). -/
def Net.sendable (p : Net) (t : TxFrame) : Bool := decide (t.encl = ownFrame) || !p.torus || p.helloOk

/-- The highest class with a frame that may go out and is not paused. -/
def Net.txClass (p : Net) : Option Nat :=
  [7, 6, 5, 4, 3, 2, 1, 0].find? fun c =>
    decide (Tbl.get 0 p.pause c = 0) && p.txq.any fun t => decide (t.cls = c) && p.sendable t

/-- The oldest frame of each enclosure in a queue; `seen` lists the enclosures that have one. -/
def oldestEach (c : Nat) : List TxFrame → List Nat → List TxFrame
  | [], _ => []
  | t :: l, seen => if t.cls = c ∧ t.encl ∉ seen then t :: oldestEach c l (t.encl :: seen) else oldestEach c l seen

/-- Remove the first frame of a class and enclosure. -/
def dropTx (c encl : Nat) : List TxFrame → List TxFrame
  | [] => []
  | t :: l => if t.cls = c ∧ t.encl = encl then l else t :: dropTx c encl l

/-- Bytes of the transmit staging buffer (R303). -/
def stagingBuffer : Nat := 131072

/-- An enclosure's weight on a port (R349). -/
def State.portWeight (s : State) (n encl : Nat) : Nat := (s.entry encl).portWeight.getD n 0

/-- The FIXED_SHARE enclosure that owns a slot of the port's 256 (R350). Which of them lie where is timing (log 49): the
owners' slots stand one after the other. -/
def slotOwner (n : Nat) : List EnclEntry → Nat → Option Nat
  | [], _ => none
  | e :: l, k =>
    let w := if e.fixedShare then e.portWeight.getD n 0 else 0
    if k < w then some e.index else slotOwner n l (k - w)

/-- The credits of the enclosures that have a frame waiting, each raised by its weight; the others' are forgotten. -/
def raiseCredits (w : Nat → Nat) (old : Tbl Int) (l : List TxFrame) : Tbl Int :=
  l.foldl (fun c t => Tbl.put c t.encl (Tbl.get 0 old t.encl + w t.encl)) []

/-- The frame whose enclosure has the most credit, the earliest of equals. -/
def mostCredit (c : Tbl Int) : List TxFrame → Option TxFrame
  | [] => none
  | t :: l => match mostCredit c l with
    | some u => if Tbl.get 0 c t.encl < Tbl.get 0 c u.encl then some u else some t
    | none => some t

/-- The frame of class `c` that a port starts, and the class's credits after it: the device's own frames first; in a slot that
a FIXED_SHARE enclosure owns only that enclosure's; else the others' by their weights (R302, R349, R350). DESIGN CHOICE
(log 49): the slot is a free value, and the work-conserving service is weighted round robin by credits. -/
def State.txNext (s : State) (n c : Nat) : Option (TxFrame × Tbl Int) :=
  let p := s.net n
  let l := oldestEach c (p.txq.filter p.sendable) []
  let old := Tbl.get [] p.credits c
  match l.find? fun t => decide (t.encl = ownFrame) with
  | some t => some (t, old)
  | none => match slotOwner n s.entries (s.free.toNat % 256) with
    | some e => (l.find? fun t => decide (t.encl = e)).map fun t => (t, old)
    | none =>
      let m := l.filter fun t => !(s.entry t.encl).fixedShare
      let c1 := raiseCredits (s.portWeight n) old m
      (mostCredit c1 m).map fun t =>
        (t, Tbl.put c1 t.encl (Tbl.get 0 c1 t.encl - ((m.map fun u => s.portWeight n u.encl).sum : Nat)))

/-- TX_FRAME_START: `staged` bytes of the frame are in the staging buffer. -/
def txStart (n staged : Nat) (s : State) : State :=
  let p := s.net n
  match p.linkUp, p.txClass with
  | true, some c =>
    let s1 := if s.entries.any (·.fixedShare) then s.drawn 1 else s
    match s.txNext n c with
    | some (t, credits) =>
      let held := min (min staged stagingBuffer) t.len
      if held < min (p.threshold * 1024) t.len then s
      else
        (((s1.setNet n { p with txq := dropTx c t.encl p.txq, sending := some t, staging := held, credits := Tbl.put p.credits c credits }).emit
            (.frame n t.frame)).countNet n 0 1)
          |>.countNet n 1 t.len
    | none => s1
  | _, _ => s

def execTxFrameStart (n : PortId) (staged : Nat) (s : State) : Host.Outcome State Fault Refusal :=
  .next (txStart n.val staged s)

/-- T has reached `t` KiB: 9 is flagged (R304). -/
def reachT (n t : Nat) (s : State) : State := if t = 9 then s.errNet n 7 else s

/-- An underrun of the frame being sent, which ends stomped; a frame that is staged whole cannot underrun, and so none can at
9 KiB. -/
def txUnderrun (n : Nat) (s : State) : State :=
  let p := s.net n
  if p.sending.all (fun t => decide (t.len ≤ p.staging)) || decide (9 ≤ p.threshold) then s
  else
    let s1 := ((s.setNet n { p with sending := none, staging := 0, threshold := p.threshold + 1 }).emit (.stomped n)).countNet n 2 1
    reachT n (p.threshold + 1) s1

/-- TX_UNDERRUN. -/
def execTxUnderrun (n : PortId) (s : State) : Host.Outcome State Fault Refusal := .next (txUnderrun n.val s)

/-- UNDERRUN_DECAY. -/
def execUnderrunDecay (n : PortId) (s : State) : Host.Outcome State Fault Refusal :=
  let p := s.net n.val
  .next (if p.prior < p.threshold then s.setNet n.val { p with threshold := p.threshold - 1 } else s)

/-! Lane control (R295 to R297, R307 to R309) -/

def codeShed2 : Nat := 1
def codeShed1 : Nat := 2
def codeRestore : Nat := 3
def codeSpare : Nat := 4
def codeDegrade : Nat := 5
def codeAck : Nat := 6
def codeRefuse : Nat := 7

/-- A lane-control frame: CODE, LANE and SEQ (R307). -/
def sendLane (n code lane seq : Nat) (s : State) : State := macSend n 0x0F10 [code, lane, seq] s

/-- Send a request under the next number, and await its answer. -/
def laneRequest (n code lane : Nat) (s : State) : State :=
  let p := s.net n
  let q := (p.laneSeq + 1) % 65536
  sendLane n code lane q (s.setNet n { p with laneSeq := q, laneReqs := p.laneReqs ++ [⟨code, lane, q, 1⟩] })

/-- The link of a port goes down (R311): what ends with the link. -/
def Net.fall (p : Net) : Net :=
  { p with linkUp := false, helloOk := false, helloLast := false, rate := 0, lanes := 0,
           pause := [], sending := none, staging := 0, xoff := [], fcHeld := false, rxLevel := [], laneReqs := [], low := false }

def linkFalls (n : Nat) (s : State) : State := (s.setNet n (s.net n).fall).errNet n 2

/-- Lanes in use at a rate. -/
def rateLanes (rate : Nat) : Nat := if rate = 1 then 4 else if rate = 2 then 2 else if rate = 0 then 0 else 1

/-- Received lanes of the linked rate that are healthy. -/
def Net.healthy (p : Net) : Nat := ((List.range (rateLanes p.rate)).filter fun k => bit p.rxHealthy k).length

/-- Mark a received lane unhealthy. -/
def Net.loseLane (p : Net) (k : Nat) : Net :=
  { p with rxHealthy := if bit p.rxHealthy k then p.rxHealthy - 2 ^ k else p.rxHealthy }

/-- Held at width 2 in one direction or the other (R297): each direction spares and degrades on its own (R296). -/
def Net.narrow (p : Net) : Bool := p.degraded || p.txDegraded

/-- A failed lane of a direct link goes onto the spare; without one a lane failure takes the link down. -/
def laneSpared (n lane : Nat) (s : State) : State :=
  let p := s.net n
  if !p.linkUp || decide (rateLanes p.rate ≤ lane) then s
  else if !p.direct || !p.sparePresent then linkFalls n (s.setNet n (p.loseLane lane))
  else if p.rxSpare.isSome then s
  else
    let s1 := (s.setNet n { p with rxSpare := some lane }).countNet n 19 1
    let s2 := { s1 with mgt := { s1.mgt with store := { s1.mgt.store with
      laneSwaps := s1.mgt.store.laneSwaps ++ [(n, lane)] } } }
    laneRequest n codeSpare lane (s2.errNet n 4)

/-- LANE_SPARED. -/
def execLaneSpared (n : PortId) (lane : Fin 4) (s : State) : Host.Outcome State Fault Refusal :=
  .next (laneSpared n.val lane.val s)

/-- A second failure of a direction whose spare is in use: width 2 on two healthy lanes, or the link falls. -/
def laneDegraded (n lane : Nat) (s : State) : State :=
  let p := s.net n
  if !p.linkUp || decide (rateLanes p.rate ≤ lane) then s
  else if p.direct && p.sparePresent && p.rxSpare.isNone then s
  else
    let p1 := p.loseLane lane
    if !p.direct || !p.sparePresent || decide (p1.healthy < 2) then linkFalls n (s.setNet n p1)
    else if p.degraded then s.setNet n p1
    else
      laneRequest n codeDegrade 0
        (((s.setNet n { p1 with degraded := true, lanes := 2 }).countNet n 19 1).errNet n 5)

/-- LANE_DEGRADED. -/
def execLaneDegraded (n : PortId) (lane : Fin 4) (s : State) : Host.Outcome State Fault Refusal :=
  .next (laneDegraded n.val lane.val s)

/-- Whether an enclosure of the device is FIXED_SHARE. -/
def State.fixedShare (s : State) : Bool := s.entries.any (·.fixedShare)

/-- What an end checks for itself before it sheds (R308). -/
def State.mayShed (s : State) (n : Nat) : Bool :=
  let p := s.net n
  p.direct && p.linkUp && p.cfg.shedEn && !s.fixedShare && !p.narrow

/-- UTILISATION_WINDOW_END: utilisation of both directions in percent. -/
def utilisationEnd (n tx rx : Nat) (s : State) : State :=
  let p := s.net n
  let low := decide (tx < 20) && decide (rx < 20)
  let s1 := s.setNet n { p with low := low }
  if low && s.mayShed n && p.laneReqs.isEmpty && decide (s.fuse.serial.toNat < p.peerId.toNat) then
    if p.lanes = 4 then laneRequest n codeShed2 0 s1
    else if p.lanes = 2 then laneRequest n codeShed1 0 s1
    else s1
  else s1

def execUtilisationWindowEnd (n : PortId) (tx rx : Nat) (s : State) : Host.Outcome State Fault Refusal :=
  .next (utilisationEnd n.val tx rx s)

/-- A request that is resent until the link drops (R307). -/
def LaneReq.lasting (q : LaneReq) : Bool := decide (q.code = codeSpare) || decide (q.code = codeDegrade)

/-- The width of a port changes by R308 or R309, and a new window starts; requests for a width are settled. -/
def setWidth (n lanes : Nat) (s : State) : State :=
  let p := s.net n
  (s.setNet n { p with lanes := lanes, low := false, laneReqs := p.laneReqs.filter LaneReq.lasting }).countNet n 18 1

/-- A received request to shed to `lanes`, from the width above it. -/
def shedTo (n lanes seq : Nat) (s : State) : State :=
  let p := s.net n
  if !p.direct then ctlIgnored n s
  else if s.mayShed n && p.low && decide (p.lanes = 2 * lanes) then setWidth n lanes (sendLane n codeAck 0 seq s)
  else sendLane n codeRefuse 0 seq (s.setNet n { p with low := false })

/-- SHED_TO_2. -/
def execShedTo2 (n : PortId) (f : RxFacts) (seq : W16) (s : State) : Host.Outcome State Fault Refusal :=
  let r := rxLane n.val f s
  .next (if r.ok then shedTo n.val 2 seq.toNat r.s else r.s)

/-- SHED_TO_1. -/
def execShedTo1 (n : PortId) (f : RxFacts) (seq : W16) (s : State) : Host.Outcome State Fault Refusal :=
  let r := rxLane n.val f s
  .next (if r.ok then shedTo n.val 1 seq.toNat r.s else r.s)

/-- Lanes have been shed: the width is below that of the linked rate. -/
def Net.shed (p : Net) : Bool := !p.narrow && decide (p.lanes < rateLanes p.rate)

/-- A port that has shed lanes returns to the width of its rate and asks the other end to. -/
def unshed (n : Nat) (s : State) : State :=
  let p := s.net n
  if p.direct && p.linkUp && p.shed then laneRequest n codeRestore 0 (setWidth n (rateLanes p.rate) s) else s

/-- A transmit queue with more than 16 KiB on a port that has shed lanes. -/
def restoreSend (n : Nat) (s : State) : State :=
  if (List.range 8).any fun c => decide (16384 < (s.net n).queueBytes c) then unshed n s else s

/-- A received RESTORE is never refused. -/
def restoreReceived (n seq : Nat) (s : State) : State :=
  let p := s.net n
  if !p.direct then ctlIgnored n s
  else
    let s1 := sendLane n codeAck 0 seq s
    if p.shed then setWidth n (rateLanes p.rate) s1 else s1

/-- RESTORE: sent for a backlog, or received, whose LANE field says nothing (R307). -/
def execRestore (n : PortId) (received : Bool) (f : RxFacts) (_lane : Byte) (seq : W16) (s : State) : Host.Outcome State Fault Refusal :=
  .next (if received then
      let r := rxLane n.val f s
      if r.ok then restoreReceived n.val seq.toNat r.s else r.s
    else restoreSend n.val s)

/-- A received SPARE: the named lane goes onto the spare in transmit, where the cable carries it (R295). DESIGN CHOICE
(log 57): without one the request is left unanswered. -/
def spareReceived (n lane seq : Nat) (s : State) : State :=
  let p := s.net n
  if !p.direct then ctlIgnored n s
  else if !p.sparePresent then s
  else sendLane n codeAck 0 seq (s.setNet n { p with txSpare := some lane })

/-- SPARE. -/
def execSpare (n : PortId) (f : RxFacts) (lane : Fin 4) (seq : W16) (s : State) : Host.Outcome State Fault Refusal :=
  let r := rxLane n.val f s
  .next (if r.ok then spareReceived n.val lane.val seq.toNat r.s else r.s)

/-- A received DEGRADE puts the transmit direction at width 2, lanes shed or not. -/
def degradeReceived (n seq : Nat) (s : State) : State :=
  let p := s.net n
  if !p.direct then ctlIgnored n s
  else sendLane n codeAck 0 seq (s.setNet n { p with txDegraded := true, lanes := min 2 (rateLanes p.rate) })

/-- DEGRADE. -/
def execDegrade (n : PortId) (f : RxFacts) (seq : W16) (s : State) : Host.Outcome State Fault Refusal :=
  let r := rxLane n.val f s
  .next (if r.ok then degradeReceived n.val seq.toNat r.s else r.s)

/-- The request that an answer with SEQ `seq` names, and the others. -/
def Net.reqOf (p : Net) (seq : Nat) : Option LaneReq := p.laneReqs.find? fun q => decide (q.seq = seq)
def Net.settle (p : Net) (seq : Nat) : Net := { p with laneReqs := p.laneReqs.filter fun q => decide (q.seq ≠ seq) }

/-- A received ACK makes the requested change take effect; a shed that a FIXED_SHARE enclosure now forbids does not (R308,
R353). -/
def ackReceived (n seq : Nat) (s : State) : State :=
  let p := s.net n
  if !p.direct then ctlIgnored n s
  else match p.reqOf seq with
    | some q =>
      if (q.code = codeShed2 ∨ q.code = codeShed1) ∧ s.mayShed n = true then
        setWidth n (if q.code = codeShed2 then 2 else 1) (s.setNet n (p.settle seq))
      else s.setNet n (p.settle seq)
    | none => s

/-- ACK. -/
def execAck (n : PortId) (f : RxFacts) (seq : W16) (s : State) : Host.Outcome State Fault Refusal :=
  let r := rxLane n.val f s
  .next (if r.ok then ackReceived n.val seq.toNat r.s else r.s)

/-- A received REFUSE keeps the width and starts a new window. -/
def refuseReceived (n seq : Nat) (s : State) : State :=
  let p := s.net n
  if !p.direct then ctlIgnored n s
  else match p.reqOf seq with
    | some q => if q.code = codeShed2 ∨ q.code = codeShed1 then s.setNet n { p.settle seq with low := false } else s
    | none => s

/-- REFUSE. -/
def execRefuse (n : PortId) (f : RxFacts) (seq : W16) (s : State) : Host.Outcome State Fault Refusal :=
  let r := rxLane n.val f s
  .next (if r.ok then refuseReceived n.val seq.toNat r.s else r.s)

/-- An unanswered request is resent, or abandoned after three sends; SPARE and DEGRADE go on. -/
def resendLane (n : Nat) (s : State) (q : LaneReq) : State :=
  if q.sends < 3 ∨ q.lasting = true then
    let p := s.net n
    sendLane n q.code q.lane q.seq (s.setNet n { p with laneReqs := p.laneReqs.map fun r => if r = q then { q with sends := q.sends + 1 } else r })
  else s.setNet n ((s.net n).settle q.seq)

def laneResend (n : Nat) (s : State) : State := (s.net n).laneReqs.foldl (resendLane n) s

/-- LANE_REQUEST_RESEND. -/
def execLaneRequestResend (n : PortId) (s : State) : Host.Outcome State Fault Refusal := .next (laneResend n.val s)

/-! The torus (R36, R37, R40) and HELLO (R239, R41) -/

/-- Axis and direction of a port: direction 0 toward + 1, 1 toward − 1. -/
def portAxis (n : Nat) : Nat := n / 4
def portDir (n : Nat) : Nat := n % 4 / 2

/-- The two ports of an axis direction. -/
def axisPorts (axis dir : Nat) : List Nat := [4 * axis + 2 * dir, 4 * axis + 2 * dir + 1]

def Member.coord (m : Member) (axis : Nat) : Nat :=
  match axis with
  | 0 => m.d | 1 => m.p | 2 => m.t | _ => m.s

/-- This module's entry in the cluster map. -/
def State.self (s : State) : Option Member :=
  s.sec.image.bind fun i => i.members.find? fun m => decide (m.serial = s.fuse.serial)

def State.axisLen (s : State) (axis : Nat) : Nat :=
  match s.sec.image with
  | some i => i.lens.getD axis 1
  | none => 1

/-- The neighbour of a module one place along an axis. -/
def Image.neighbour (i : Image) (m : Member) (axis dir : Nat) : Option Member :=
  let l := i.lens.getD axis 1
  let c := (m.coord axis + (if dir = 0 then 1 else l - 1)) % l
  i.members.find? fun q => (List.range 4).all fun a => decide (q.coord a = if a = axis then c else m.coord a)

def State.neighbour (s : State) (axis dir : Nat) : Option Member :=
  match s.sec.image, s.self with
  | some i, some m => i.neighbour m axis dir
  | _, _ => none

/-! Framing of DWT messages (R235, R237, R294) -/

/-- The port at the other end of a torus link (R37). -/
def portAcross (n : Nat) : Nat := n / 4 * 4 + (n + 2) % 4

/-- An IP address from its bytes in a record, the first octet the most significant. -/
def ipOf (v6 : Bool) (raw : BitVec 128) : BitVec 128 := BitVec.ofNat 128 (beNat ((leBytes 16 raw.toNat).take (if v6 then 16 else 4)))

/-- The neighbour address of a switched port (R324). -/
def State.neighbourAddr (s : State) (n : Nat) : Option AddrEnt :=
  match s.sec.image, s.neighbour (portAxis n) (portDir n) with
  | some i, some q => i.addrs.find? fun a => decide (a.serial = q.serial) && decide (a.port = portAcross n)
  | _, _ => none

/-- IP and UDP of a routed path. -/
def Net.udp (p : Net) (v6 : Bool) (dst : BitVec 128) (srcPort dstPort dscp : Nat) : NetHead :=
  .udp v6 (p.addr v6) dst srcPort dstPort dscp 64 (!v6) v6

/-- What carries DWT on a torus port: on a switched one IP and UDP to the neighbour address. DESIGN CHOICE (log 57): the
neighbour listens on the port in this device's own DWT.UDP.PORT. -/
def State.torusNet (s : State) (n srcPort dscp : Nat) : NetHead :=
  let p := s.net n
  if p.direct then .ether 0x88B5
  else match s.neighbourAddr n with
    | some a => p.udp (decide (a.family = 6)) (ipOf (decide (a.family = 6)) a.addr) srcPort s.dwt.udpPort dscp
    | none => p.udp false 0 srcPort s.dwt.udpPort dscp

/-- Bytes of the IP and UDP headers. -/
def NetHead.bytes : NetHead → Nat
  | .ether _ => 0
  | .udp v6 _ _ _ _ _ _ _ _ => if v6 then 48 else 28

/-- The head of a frame of class `cls` with `body` bytes from the DWT header to the GCM tag. -/
def State.frameHead (s : State) (n : Nat) (dst : W48) (net : NetHead) (cls body : Nat) : FrameHead :=
  let p := s.net n
  { dst := dst, src := p.cfg.mac, tag := if p.cfg.vlanEn then some (cls, p.cfg.vid) else none, net := net
    len := 14 + (if p.cfg.vlanEn then 4 else 0) + net.bytes + body + 4 }

/-- Where a DWT frame of a port goes: on a direct link to the peer's MAC address once its HELLO has matched. -/
def Net.dwtMac (p : Net) : W48 :=
  if p.direct then (if p.helloOk then p.peerMac.getD laneMac else laneMac) else p.cfg.nextHop

/-- The payload of this module's HELLO on a port (R239). DESIGN CHOICE (log 53): the endpoint ID is sent least significant
byte first; R239 gives it no byte order. -/
def State.helloBytes (s : State) (n : Nat) : List Byte :=
  let m := s.self.getD ⟨s.fuse.serial, 0, 0, 0, 0, 0, 0⟩
  leBytes 8 s.fuse.serial.toNat ++ leBytes 1 m.d ++ leBytes 1 m.p ++ leBytes 1 m.t ++ leBytes 1 m.s
    ++ leBytes 1 (portAxis n) ++ leBytes 1 (portDir n) ++ leBytes 1 n ++ leBytes 1 0

/-- The HELLO frame of a port: a header with VER and TYPE only, and no tag. -/
def State.helloFrame (s : State) (n : Nat) : TxFrame :=
  let p := s.net n
  let h := s.frameHead n (if p.direct then laneMac else p.cfg.nextHop) (s.torusNet n 49152 0) 7 56
  ⟨7, h.len, ownFrame, { head := h, hdr := beBytes 1 0x10 ++ beBytes 1 0x10 ++ beBytes 38 0, under := none, payload := .bytes (s.helloBytes n) }⟩

/-- Queue a HELLO on queue 7. -/
def sendHello (n : Nat) (s : State) : State := txPush n (s.helloFrame n) s

/-- Whether a HELLO is the one that the map requires on the port: the two ports of a direction are
interchangeable. -/
def State.helloFits (s : State) (n : Nat) (h : Hello) : Bool :=
  match s.neighbour (portAxis n) (portDir n) with
  | some q =>
    decide (h.endpoint = q.serial) && decide (h.coords.map (·.toNat) = [q.d, q.p, q.t, q.s])
      && decide (h.axis.toNat = portAxis n) && decide (h.dir.toNat = 1 - portDir n)
  | none => false

/-- A malformed DWT message is dropped and counted (R238); the event gives its connection index. -/
def dwtMalformed (cn : Nat) (s : State) : State :=
  State.errDwt { s with dwt := { s.dwt with malformed := satAdd Config.sat32 s.dwt.malformed 1 } } 0 cn

/-- A HELLO that matches makes the port carry DWT; the receiver sends once more after it. That one which comes after
LINK_MISWIRED, late or after a mismatch, does so too is the model's choice (R41, log 63). -/
def helloReceived (n : Nat) (f : RxFacts) (h : Hello) (s : State) : State :=
  let p := s.net n
  if !p.torus then s
  else if decide (h.ver ≠ 1#4) || h.resv then dwtMalformed 0 s
  else if s.helloFits n h then
    s.setNet n { p with helloOk := true, helloLast := !p.helloOk || p.helloLast, peerMac := some f.src, peerId := h.endpoint }
  else (s.setNet n { p with helloOk := false }).errNet n 3

def isFragment (f : RxFacts) : Bool :=
  match f.net with
  | .ether _ => false
  | .ip _ _ _ fragment => fragment

/-- An arriving IP fragment is dropped and counted (R235). -/
def dwtFragment (s : State) : State :=
  { s with dwt := { s.dwt with fragments := satAdd Config.sat32 s.dwt.fragments 1 } }

/-- RX_HELLO. -/
def execRxHello (n : PortId) (f : RxFacts) (h : Hello) (s : State) : Host.Outcome State Fault Refusal :=
  let r := rxFrame n.val f s
  .next (match s.rxKind n.val f with
    | .dwt =>
      if !r.ok then r.s
      else if isFragment f then dwtFragment r.s
      else if r.trunc then dwtMalformed 0 r.s
      else helloReceived n.val f h r.s
    | _ => r.s)

/-- HELLO_RESEND: until the peer's HELLO is received, and once more after that. -/
def helloResend (n : Nat) (s : State) : State :=
  let p := s.net n
  if !p.linkUp || !p.torus then s
  else if !p.helloOk then sendHello n s
  else if p.helloLast then sendHello n (s.setNet n { p with helloLast := false })
  else s

def execHelloResend (n : PortId) (s : State) : Host.Outcome State Fault Refusal := .next (helloResend n.val s)

/-- LINK_MISWIRED: 100 ms after link-up without a matching HELLO. -/
def execLinkMiswired (n : PortId) (s : State) : Host.Outcome State Fault Refusal :=
  let p := s.net n.val
  .next (if p.linkUp && p.torus && !p.helloOk then s.errNet n.val 3 else s)

/-! Link bring-up and loss (R293, R310, R311) -/

/-- Whether the port may link at a rate: 1 800, 2 400, 3 200, 4 100 Gb/s. -/
def Net.rateOk (p : Net) (rate : Nat) : Bool :=
  decide (0 < rate) &&
    (if p.cfg.rateSel = 0 then !p.cfg.media || decide (rate = 1) else decide (rate = p.cfg.rateSel))

/-- The received lanes that are healthy when the link comes up: all that were trained. DESIGN CHOICE (log 31): while the port
is held at width 2 its failed lanes go on reading unhealthy. -/
def Net.trained (p : Net) : Nat :=
  if p.degraded && decide (2 ≤ ((List.range 4).filter fun k => bit p.rxHealthy k).length) then p.rxHealthy else 0xF

def linkUp (n rate : Nat) (spare : Bool) (s : State) : State :=
  let p := s.net n
  if !p.powered || p.retired || p.linkUp || !p.rateOk rate then s
  else
    let s1 := s.setNet n { p with linkUp := true, rate := rate, lanes := if p.narrow then min 2 (rateLanes rate) else rateLanes rate,
                                  rxHealthy := p.trained, sparePresent := spare && p.direct, retrainDue := false }
    let s2 := s1.logEv { ev 0 0x08 0x40 with port := n }
    if p.torus then sendHello n s2 else s2

/-- LINK_UP. -/
def execLinkUp (n : PortId) (rate : Fin 5) (spare : Bool) (s : State) : Host.Outcome State Fault Refusal :=
  .next (linkUp n.val rate.val spare s)

/-- LINK_DOWN. -/
def execLinkDown (n : PortId) (s : State) : Host.Outcome State Fault Refusal :=
  .next (if (s.net n.val).linkUp then linkFalls n.val s else s)

/-- The port takes its link down and runs bring-up again (R311). -/
def retrainPort (n : Nat) (s : State) : State := s.setNet n { (s.net n).fall with retrainDue := false }

/-- RETRAIN. -/
def execRetrain (n : PortId) (s : State) : Host.Outcome State Fault Refusal := .next (retrainPort n.val s)

end Sys2Proof.Machine
end

