-- ==== Sys2Proof/Machine/Dwt.lean ====
section
/-! DEFINITION. The window transport engine: sending and receiving messages, queue entries and their
completion, windows, operations, handshakes and storage pull (08 R234 to R267). -/

namespace Sys2Proof.Machine

/-! Statuses of R267 -/

def winBadSize : Nat := 0x01
def winBadRange : Nat := 0x02
def winBusy : Nat := 0x03
def winNotOpen : Nat := 0x04
def winNoAdder : Nat := 0x05
def winIndexRange : Nat := 0x06
def winRevoked : Nat := 0x10
def winStaleGen : Nat := 0x11
def winClosed : Nat := 0x12
def winRange : Nat := 0x13
def winPerm : Nat := 0x14
def winConn : Nat := 0x15
def tgtPoisoned : Nat := 0x16
def dwtFenced : Nat := 0x17
def connResetReplay : Nat := 0x20
def connDown : Nat := 0x21
def connNoPeer : Nat := 0x22
def connBusy : Nat := 0x23
def connNotOpen : Nat := 0x24
def connIndexRange : Nat := 0x25
def connBadDesc : Nat := 0x26
def connStorageOnly : Nat := 0x27
def entryReserved : Nat := 0x30
def entryAlign : Nat := 0x31
def entryUnmapped : Nat := 0x32
def entryCtrRange : Nat := 0x33
def localPoisoned : Nat := 0x34
def pullNoKey : Nat := 0x40
def pullBadManifest : Nat := 0x41
def pullBadSignature : Nat := 0x42
def pullBadRange : Nat := 0x43
def pullDigestMismatch : Nat := 0x44

/-- Whether a code stands in the table; every other is reserved. -/
def nakCode (k : Nat) : Bool :=
  decide (k ≤ 0x06) || (decide (0x10 ≤ k) && decide (k ≤ 0x17)) || (decide (0x20 ≤ k) && decide (k ≤ 0x27))
    || (decide (0x30 ≤ k) && decide (k ≤ 0x34)) || (decide (0x40 ≤ k) && decide (k ≤ 0x44))

/-! Sending (R235 to R237) -/

/-- MAXSEG of a connection. -/
def ConnDesc.maxSeg (d : ConnDesc) : Nat := 8192 / 2 ^ d.mtu

/-- The ports that a connection may use (R236, R240). -/
def ConnDesc.ports (d : ConnDesc) : List Nat :=
  if d.path = 0 then axisPorts d.axis (b2n d.dir) else (List.range 16).filter fun n => bit d.portMask n

/-- A port that carries DWT of an enclosure now (R41, R310, R352). -/
def State.carries (s : State) (n encl : Nat) : Bool :=
  let p := s.net n
  p.linkUp && !p.retired && (!p.torus || p.helloOk) && decide (0 < (s.entry encl).portWeight.getD n 0)

/-- Of two ports, the one with the shorter transmit backlog (R236). -/
def State.shorter (s : State) (a : Option Nat) (n : Nat) : Option Nat :=
  match a with
  | none => some n
  | some m => if (s.net n).backlog < (s.net m).backlog then some n else some m

def State.pickPort (s : State) (c : DwtConn) : Option Nat :=
  (c.desc.ports.filter fun n => s.carries n c.encl).foldl s.shorter none

/-- What carries the messages of a connection on a port (R235); the source port follows from the connection's index. -/
def State.connNet (s : State) (cn : Nat) (c : DwtConn) (n : Nat) : NetHead :=
  let src := 49152 + cn % 16384
  if c.desc.path = 0 then s.torusNet n src c.desc.dscp
  else
    let v6 := decide (c.desc.path = 2)
    (s.net n).udp v6 (ipOf v6 c.desc.peerIp) src c.desc.udpPort c.desc.dscp

/-- The header fields of a message that its sender chooses. -/
structure Hdr where
  typ : Nat
  seq : Nat := 0
  ref : Nat := 0
  window : Nat := 0
  wgen : Nat := 0
  length : Nat := 0
  offset : Nat := 0
  status : Nat := 0
  first : Bool := false
  last : Bool := false
  deriving DecidableEq, Repr

/-- The 40 header bytes, in network byte order (R237). -/
def Hdr.bytes (h : Hdr) (dst src txn : Nat) : List Byte :=
  beBytes 1 0x10 ++ beBytes 1 h.typ ++ beBytes 2 (at_ (b2n h.first) 15 + at_ (b2n h.last) 14) ++ beBytes 2 dst ++ beBytes 2 src
    ++ beBytes 8 txn ++ beBytes 4 h.seq ++ beBytes 4 h.ref ++ beBytes 4 h.window ++ beBytes 2 h.wgen ++ beBytes 2 h.length
    ++ beBytes 6 h.offset ++ beBytes 2 h.status

/-- A pair (endpoint ID, connection index) is below another. -/
def pairLow (a i b j : Nat) : Bool := decide (a < b) || (decide (a = b) && decide (i < j))

/-- DIR of the messages that this end sends: 0 for the end whose pair is lower. -/
def State.dirBit (s : State) (cn : Nat) (c : DwtConn) : Bool :=
  !pairLow s.fuse.serial.toNat cn c.desc.peerId.toNat c.desc.peerConn

/-- The transmit queue of a message: beacons use queue 7 (R236, R302). -/
def DwtConn.queueOf (c : DwtConn) (typ : Nat) : Nat := if typ = 0x11 then 7 else c.desc.tc

/-- Queue a message of connection `cn` with `size` payload bytes, sealed under `key`, on a port that carries it; with no
such port nothing goes out. -/
def State.sendSealed (s : State) (cn txn key : Nat) (h : Hdr) (size : Nat) (payload : Payload) : State :=
  let c := s.conn cn
  match s.pickPort c with
  | none => s
  | some n =>
    let cls := c.queueOf h.typ
    let head := s.frameHead n (s.net n).dwtMac (s.connNet cn c n) cls (40 + size + 16)
    txPush n ⟨cls, head.len, c.encl, { head := head, hdr := h.bytes c.desc.peerConn cn txn, under := some (key, s.dirBit cn c), payload := payload }⟩ s

/-- Send under the connection key with the next TXN: each frame takes one. -/
def State.sendNext (s : State) (cn : Nat) (h : Hdr) (size : Nat) (payload : Payload) : State :=
  let c := s.conn cn
  (s.setConn cn { c with txn := c.txn + 1 }).sendSealed cn c.txn c.key h size payload

/-- Send a message with its payload bytes. -/
def State.sendMsg (s : State) (cn : Nat) (h : Hdr) (payload : List Byte) : State :=
  s.sendNext cn h payload.length (.bytes payload)

/-! Completion of an entry (R251, R255, R257) -/

/-- A completion record that cannot be written. -/
def QEnt.recBad (s : State) (slot : Nat) (e : QEnt) : Bool :=
  e.recEn && (decide (e.recVa % 16 ≠ 0) || !s.mapped slot e.recVa 16 || s.touchesView slot e.recVa 16)

/-- A completion counter beyond COUNTER_COUNT. -/
def QEnt.ctrBad (s : State) (slot : Nat) (e : QEnt) : Bool :=
  e.ctrEn && decide ((s.ctx slot).desc.ctrCount ≤ e.doneCtr)

/-- The 16 bytes of a completion record. -/
def recBytes (rel op status bytes : Nat) : List Byte :=
  leBytes 8 (status + at_ op 16 + at_ rel 24) ++ leBytes 8 bytes

/-- The index of a queue within its enclosure's range. -/
def State.relQueue (s : State) (slot q : Nat) : Nat := q - (s.entry ((s.enclOfSlot slot).getD 0)).queueBase

/-- What a completed entry leaves: its record, then its counter; an entry whose target is out of range loses both. -/
def State.report (s : State) (q : Nat) (t : Started) (status bytes : Nat) : State :=
  let e := t.e
  if s.ctx t.slot |>.st |> (· = .none) then
    let s1 := if e.recEn && !e.recBad s t.slot then
      s.writeVA t.slot e.recVa (recBytes (s.relQueue t.slot q) e.op status bytes) else s
    if e.ctrEn then s1.logEv (s1.evCtx 1 0x44 t.slot) else s1
  else if e.recBad s t.slot || e.ctrBad s t.slot then
    s.logEv { s.evCtx 2 0x45 t.slot with fields := [s.relQueue t.slot q, e.op, status] }
  else
    let s1 := if e.recEn then s.writeVA t.slot e.recVa (recBytes (s.relQueue t.slot q) e.op status bytes) else s
    if e.ctrEn then s1.raiseRel t.slot e.doneCtr 1 else s1

/-- Entry `num` of queue `q` completes. -/
def State.dwtComplete (s : State) (q num status bytes : Nat) : State :=
  let k := s.queue q
  match k.started.find? fun t => decide (t.num = num) with
  | none => s
  | some t => (s.setQueue q { k with started := k.started.filter fun u => decide (u.num ≠ num) }).report q t status bytes

/-! Starting an entry (R255, R256) -/

/-- The operations of R255. -/
def opKnown (op : Nat) : Bool := decide (op ∈ [0x00, 0x01, 0x02, 0x03, 0x10, 0x11, 0x20, 0x30, 0x31])

/-- Whether an entry sets a field that its operation does not use, or a reserved bit (R254). -/
def QEnt.resvBad (e : QEnt) : Bool :=
  let moves := decide (e.op ∈ [1, 2, 3, 0x20])
  let conns := moves || decide (e.op ∈ [0x30, 0x31])
  let wins := decide (e.op ∈ [0x10, 0x11])
  e.resv || !opKnown e.op
    || (!conns && decide (e.conn ≠ 0))
    || (!moves && decide (e.op ≠ 0x10) && decide (e.op ≠ 0x30) && decide (e.localVa ≠ 0))
    || (!moves && decide (e.op ≠ 0x10) && decide (e.length ≠ 0))
    || (!moves && decide (e.rwgen ≠ 0))
    || (!moves && !wins && decide (e.window ≠ 0))
    || (!moves && decide (e.op ≠ 0x10) && decide (e.roffset ≠ 0))
    || (if e.op = 0x10 then decide (bits e.extra 15 4 ≠ 0) || decide (e.extra / 2 ^ 47 ≠ 0)
        else if e.op = 0x20 then decide (e.extra / 2 ^ 56 ≠ 0)
        else decide (e.extra ≠ 0))

/-- Misaligned fields of a moving entry, or of its record. -/
def QEnt.alignBad (e : QEnt) : Bool :=
  (e.recEn && decide (e.recVa % 16 ≠ 0)) ||
    (decide (e.op ∈ [1, 2, 3, 0x20]) && (decide (e.localVa % 64 ≠ 0) || decide (e.roffset % 64 ≠ 0)
      || (decide (e.op ∈ [1, 2]) && decide (e.length % 64 ≠ 0)) || (decide (e.op = 3) && decide (e.length % 32 ≠ 0))))

/-- A counter index that an entry uses, beyond COUNTER_COUNT. -/
def QEnt.ctrRange (s : State) (slot : Nat) (e : QEnt) : Bool :=
  let n := (s.ctx slot).desc.ctrCount
  e.ctrBad s slot || (e.waitEn && decide (n ≤ e.waitCtr)) || (decide (e.op = 0x10) && bit e.extra 3 && decide (n ≤ bits e.extra 31 16))

/-- The checks that every entry shares. -/
def QEnt.common (s : State) (slot : Nat) (e : QEnt) : List (Bool × Nat) :=
  [(e.resvBad, entryReserved), (e.alignBad, entryAlign), (e.ctrRange s slot, entryCtrRange),
   (e.recBad s slot, entryUnmapped)]

/-- The front entry of a queue, where it may start (R256). -/
def State.startable (s : State) (q : Nat) : Option Started :=
  let k := s.queue q
  match k.ctx, k.entries with
  | some slot, (num, e) :: _ =>
    let d := (s.ctx slot).desc
    let waits := e.waitEn && decide (e.waitCtr < d.ctrCount) && decide (s.counter (d.ctrBase + e.waitCtr) < e.waitTarget)
    if 16 ≤ k.started.length || waits || (e.fence && !k.started.isEmpty) then none else some ⟨num, slot, e⟩
  | _, _ => none

/-- Start the front entry of a queue where its operation is `op`; an unknown operation completes with
ENTRY_RESERVED whatever command starts it. `run` answers nothing while the entry cannot start. -/
def startEntry (q op : Nat) (run : Started → State → Option State) (s : State) : State :=
  match s.startable q with
  | none => s
  | some t =>
    let k := s.queue q
    let s1 := (s.setQueue q { k with entries := k.entries.tail, started := k.started ++ [t] }).touch t.slot
    if !opKnown t.e.op then s1.dwtComplete q t.num entryReserved 0
    else if t.e.op ≠ op then s
    else match run t s1 with
      | some s2 => s2
      | none => s

/-! Windows (R245, R246, R263) -/

/-- Whether a range lies within one allocation object, wholly mapped, with no page of a view. -/
def State.winRangeOk (s : State) (slot base size : Nat) : Bool :=
  match pagesOf base size with
  | [] => false
  | p :: ps =>
    match s.objOf slot p with
    | none => false
    | some o =>
      ((p :: ps).all fun vp => decide (s.objOf slot vp = some o) && s.mappedPage slot vp) && !s.touchesView slot base size
        && decide (base + size ≤ addrTop)

/-- The 32-byte handle of a window. -/
def State.handle (s : State) (w : Nat) (d : DwtWin) : List Byte :=
  leBytes 8 s.fuse.serial.toNat ++ leBytes 8 (w + at_ d.gen 32 + at_ d.perm.toNat 48) ++ leBytes 8 d.size ++ leBytes 8 0

/-- The device index of an entry's connection, where it is in range and, unless CLOSED, the posting context's (R255). -/
def State.connOf (s : State) (slot rel : Nat) : Option Nat :=
  let en := s.entry ((s.enclOfSlot slot).getD 0)
  let cn := en.connBase + rel
  let c := s.conn cn
  if en.connCount ≤ rel then none
  else if c.st ≠ .closed ∧ c.ctx ≠ slot then none
  else some cn

/-- WIN_OPEN of an entry. -/
def winOpen (q : Nat) (t : Started) (s : State) : State :=
  let e := t.e
  let en := s.entry ((s.enclOfSlot t.slot).getD 0)
  let w := en.winBase + e.window
  let d := s.win w
  let st := firstOf (e.common s t.slot ++ [
    (bit e.extra 32 && (s.connOf t.slot (bits e.extra 46 33)).isNone, connIndexRange),
    (decide (en.winCount ≤ e.window), winIndexRange),
    (decide (d.st ≠ .closed), winBusy),
    (decide (e.length = 0), winBadSize),
    (decide (e.localVa % 64 ≠ 0) || decide (e.length % 64 ≠ 0), entryAlign),
    (!s.winRangeOk t.slot e.localVa e.length, winBadRange),
    (bit e.extra 2 && !s.inPackage t.slot e.localVa e.length, winNoAdder),
    (!s.mapped t.slot e.roffset 32 || s.touchesView t.slot e.roffset 32, entryUnmapped)])
  match st with
  | some k => s.dwtComplete q t.num k 0
  | none =>
    let g := if d.gen = 0xFFFF then 1 else d.gen + 1
    let d1 : DwtWin :=
      { st := .open_, gen := g, ctx := t.slot, base := e.localVa, size := e.length, perm := BitVec.ofNat 3 e.extra
        bind := if bit e.extra 32 then some (en.connBase + bits e.extra 46 33) else none
        notify := if bit e.extra 3 then some (bits e.extra 31 16) else none }
    (((s.setWin w d1).writeVA t.slot e.roffset (s.handle w d1))).dwtComplete q t.num 0 0

/-- WIN_REVOKE of an entry: the window becomes CLOSING and REVOKED. -/
def winRevoke (q : Nat) (t : Started) (s : State) : State :=
  let e := t.e
  let en := s.entry ((s.enclOfSlot t.slot).getD 0)
  let w := en.winBase + e.window
  let d := s.win w
  match firstOf (e.common s t.slot ++ [(decide (en.winCount ≤ e.window), winIndexRange),
    (decide (d.st ≠ .open_), winNotOpen)]) with
  | some k => s.dwtComplete q t.num k 0
  | none => s.setWin w { d with st := .closing, revoked := true, revoker := some (q, t.num), refused := 0 }

/-- The last accepted segment has landed: the window is CLOSED and the revoke completes (R263). A segment is
applied and answered in the command that brings it, so none is ever under way (log 8). -/
def revokeComplete (w : Nat) (s : State) : State :=
  let d := s.win w
  if d.st ≠ .closing then s
  else
    let s1 := s.setWin w { d with st := .closed, revoker := none }
    match d.revoker with
    | some (q, num) => s1.dwtComplete q num 0 d.refused
    | none => s1

/-! Operations (R248, R251, R252) -/

/-- Bytes that a segment covers at the target. -/
def Seg.extent (g : Seg) : Nat := if g.typ = 2 then 2 * g.length else g.length

/-- Whether two segments touch a common 64-byte line of one window and generation. -/
def Seg.overlaps (a b : Seg) : Bool :=
  decide (a.window = b.window) && decide (a.wgen = b.wgen) && decide (0 < a.extent) && decide (0 < b.extent)
    && decide (a.offset / 64 ≤ (b.offset + b.extent - 1) / 64) && decide (b.offset / 64 ≤ (a.offset + a.extent - 1) / 64)

/-- Whether a segment may change memory. -/
def Seg.writes (g : Seg) : Bool := decide (g.typ = 1) || decide (g.typ = 2)

/-- Segment `k` of an operation. -/
def DwtOp.seg (o : DwtOp) (max seq k : Nat) : Seg :=
  let a := k * max
  { seq := seq, typ := if o.q.op = 1 then 1 else if o.q.op = 3 then 2 else 3, queue := o.queue, ent := o.ent
    window := o.q.window, wgen := o.q.rwgen
    offset := o.q.roffset + (if o.q.op = 3 then 2 * a else a)
    length := min max (o.length - a), at_ := a, first := decide (k = 0), last := decide (k + 1 = o.segs)
    ref := if k = 0 then seq else o.first }

/-- Whether an operation has more to send. -/
def DwtOp.more (o : DwtOp) : Bool := decide (o.sent < o.segs) && o.nak.isNone && !o.mismatch

/-- The last SEQ before a rekey (R244). -/
def seqLimit : Nat := 0xFFFF0000

/-- Whether an operation's first segment must wait for a rekey: its SEQ values would pass the limit. -/
def DwtConn.mustRekey (c : DwtConn) (o : DwtOp) : Bool := decide (o.sent = 0) && decide (0 < c.seq) && decide (seqLimit < c.seq + o.segs - 1)

/-- Replace the operation of a queue entry. -/
def DwtConn.setOp (c : DwtConn) (o : DwtOp) : DwtConn :=
  { c with ops := c.ops.map fun p => if p.queue = o.queue ∧ p.ent = o.ent then o else p }

/-- The message of a segment, with the bytes that a WRITE or ACCUM carries. -/
def Seg.hdr (g : Seg) : Hdr :=
  { typ := g.typ, seq := g.seq, ref := g.ref, window := g.window, wgen := g.wgen, length := g.length,
    offset := g.offset, first := g.first, last := g.last }

/-- Send a segment, reading the local source of a WRITE or ACCUM; a poisoned source stops the operation. -/
def State.sendSeg (s : State) (cn : Nat) (o : DwtOp) (g : Seg) : State :=
  let c := s.conn cn
  if g.writes then
    let m := s.readVA c.ctx (o.q.localVa + g.at_) g.length
    if m.bad then m.s.setConn cn (c.setOp { o with nak := some (g.seq, localPoisoned) })
    else
      let c1 := { c.setOp { o with sent := o.sent + 1, first := g.ref } with segs := c.segs ++ [g], seq := c.seq + 1 }
      (m.s.setConn cn c1).sendMsg cn g.hdr m.bytes
  else
    let c1 := { c.setOp { o with sent := o.sent + 1, first := g.ref } with segs := c.segs ++ [g], seq := c.seq + 1 }
    (s.setConn cn c1).sendMsg cn g.hdr []

/-- Send what the connection may send, in the order the operations started (`fuel` segments at most). -/
def State.dwtSend (cn : Nat) : Nat → State → State
  | 0, s => s
  | fuel + 1, s =>
    let c := s.conn cn
    match c.ops.find? DwtOp.more with
    | none => s
    | some o =>
      let g := o.seg c.desc.maxSeg c.seq o.sent
      if c.st ≠ .open_ || decide (32768 ≤ c.segs.length) || c.mustRekey o
          || (g.writes && c.segs.any fun h => h.writes && h.overlaps g) then s
      else State.dwtSend cn fuel (s.sendSeg cn o g)

/-- Whether an operation has completed (R251, R266). -/
def DwtConn.opDone (c : DwtConn) (o : DwtOp) : Bool :=
  !o.more && !(c.segs.any fun g => decide (g.queue = o.queue) && decide (g.ent = o.ent))
    && (decide (o.q.op ≠ 0x20) || o.nak.isSome || o.mismatch || decide (ceilDiv o.length o.chunkBytes ≤ o.chunk))

/-- The status of a completed operation. -/
def DwtOp.status (o : DwtOp) : Nat :=
  if o.mismatch then pullDigestMismatch else ((o.nak.map Prod.snd).getD 0)

/-- CONN_CLOSE carried out once no operation is in flight (R241). -/
def closeConn (cn : Nat) (s : State) : State :=
  let c := s.conn cn
  match c.closer with
  | none => s
  | some (q, num) =>
    if !c.ops.isEmpty then s
    else
      let send := fun u : State => u.sendMsg cn { typ := 9 } []
      let s1 := send (send (send s))
      (s1.setConn cn {}).dwtComplete q num 0 0

/-! The handshake (R243, R244) -/

/-- The open key of an enclosure's connections. -/
def State.openKeyOf (s : State) (encl : Nat) : Nat :=
  Config.hkdf384 [] (beBytes 32 ((s.slotKey (s.entry encl).dwtSlot).getD 0)) ("DWT-OPEN-1".toUTF8.toList.map fun b => BitVec.ofNat 8 b.toNat) 32

/-- The key that a handshake derives. -/
def State.connKeyOf (s : State) (cn : Nat) (c : DwtConn) (peerR : BitVec 128) : Nat :=
  let me := s.fuse.serial.toNat
  let you := c.desc.peerId.toNat
  let low := pairLow me cn you c.desc.peerConn
  let rs := if low then beBytes 16 c.r.toNat ++ beBytes 16 peerR.toNat else beBytes 16 peerR.toNat ++ beBytes 16 c.r.toNat
  let ids := if low then beBytes 8 me ++ beBytes 2 cn ++ beBytes 8 you ++ beBytes 2 c.desc.peerConn
    else beBytes 8 you ++ beBytes 2 c.desc.peerConn ++ beBytes 8 me ++ beBytes 2 cn
  Config.hkdf384 rs (beBytes 32 ((s.slotKey (s.entry c.encl).dwtSlot).getD 0))
    (("DWT-CONN-1".toUTF8.toList.map fun b => BitVec.ofNat 8 b.toNat) ++ ids) 32

/-- Send OPEN: the own random value, the endpoint ID, and whether the peer's value is held; its TXN is a random value.
DESIGN CHOICE (log 53): the endpoint ID is sent most significant byte first; R243 gives it no byte order. -/
def sendOpen (cn : Nat) (s : State) : State :=
  let c := s.conn cn
  let body := beBytes 16 c.r.toNat ++ beBytes 8 s.fuse.serial.toNat ++ leBytes 1 (b2n c.peerR.isSome) ++ leBytes 7 0
  (s.drawn 1).sendSealed cn s.free.toNat c.openKey { typ := 7, length := 32 } body.length (.bytes body)

/-- Begin a handshake with a fresh random value. -/
def shake (cn : Nat) (s : State) : State :=
  let c := s.conn cn
  let r : BitVec 128 := (Config.freeWord s.fresh) ++ (Config.freeWord (s.fresh + 1))
  sendOpen cn ((s.drawn 2).setConn cn { c with r := r, peerR := none, shaking := true })

/-- A connection that rekeys runs its handshake once every segment in flight is answered (R244). -/
def maybeShake (cn : Nat) (s : State) : State :=
  let c := s.conn cn
  if c.st = .rekeying ∧ c.segs.isEmpty ∧ c.csegs.isEmpty ∧ c.shaking = false then shake cn s else s

/-- The queue number of the recovery controller's own operations, beyond every DWT queue (R381). -/
def rcvQueue : Nat := 8192

/-- Complete the operations of a connection that are done; the mirror has then acknowledged what the recovery controller wrote. -/
def finishOps (cn : Nat) (s : State) : State :=
  let c := s.conn cn
  let done := c.ops.filter c.opDone
  let s1 := s.setConn cn { c with ops := c.ops.filter fun o => !c.opDone o }
  let s2 := done.foldl (fun u o => u.dwtComplete o.queue o.ent o.status o.landed) s1
  if done.any fun o => decide (o.queue = rcvQueue) && decide (o.status = 0) then
    s2.setCtx c.ctx { s2.ctx c.ctx with rcv := { (s2.ctx c.ctx).rcv with mirrored := true } }
  else s2

/-- Send a collective message of a connection's queue: it takes the next SEQ, and TYPE ACCUM, WRITE or the engine's own. -/
def State.sendColl (s : State) (cn : Nat) (g : CollSeg) : State :=
  let c := s.conn cn
  let h := { g with seq := c.seq }
  (s.setConn cn { c with cq := c.cq.tail, csegs := c.csegs ++ [h], seq := c.seq + 1 }).sendNext cn
    { typ := g.typ, seq := c.seq, ref := c.seq, length := g.bytes, first := true, last := true } g.bytes (.coll g.msg)

/-- Send what the collective engine has queued on a connection (`fuel` messages at most). -/
def State.collSend (cn : Nat) : Nat → State → State
  | 0, s => s
  | fuel + 1, s =>
    let c := s.conn cn
    match c.cq with
    | [] => s
    | g :: _ => if c.st ≠ .open_ ∨ 32768 ≤ c.csegs.length ∨ seqLimit < c.seq then s else State.collSend cn fuel (s.sendColl cn g)

/-- After an answer: complete what is done, send on, complete what stopped at its source, then close or rekey. -/
def afterAnswer (cn : Nat) (s : State) : State :=
  maybeShake cn (closeConn cn (finishOps cn (State.dwtSend cn 65536 (finishOps cn s))))

/-- Every operation of a connection completes with a status, and the collective engine's messages on it go (R241, R259,
R261). -/
def failOps (cn status : Nat) (s : State) : State :=
  let c := s.conn cn
  let s1 := s.setConn cn { c with ops := [], segs := [], cq := [], csegs := [], notify := [] }
  c.ops.foldl (fun u o => u.dwtComplete o.queue o.ent status o.landed) s1

/-- The entries that wait in queues for connection `cn` are marked: they complete with CONN_DOWN as they start (R259). -/
def State.markFallen (s : State) (cn : Nat) : State :=
  let base := (s.entry (s.conn cn).encl).connBase
  let mark := fun (slot : Option Nat) (p : Nat × QEnt) =>
    if slot = some (s.conn cn).ctx ∧ base + p.2.conn = cn ∧ p.2.op ∈ [1, 2, 3, 0x20] then (p.1, { p.2 with fell := true }) else p
  { s with dwt := { s.dwt with queues := s.dwt.queues.map fun q => (q.1, { q.2 with entries := q.2.entries.map (mark q.2.ctx) }) } }

/-- A connection goes DOWN. -/
def connFalls (cn : Nat) (s : State) : State :=
  let s1 := (failOps cn connDown s).markFallen cn
  closeConn cn ((s1.setConn cn { s1.conn cn with st := .down, shaking := false, opens := false }).errDwt 3 cn)

/-- A reset of the connection: operations fail and the handshake runs again (R261). -/
def connReset (cn : Nat) (s : State) : State :=
  let s1 := failOps cn connResetReplay s
  if (s1.conn cn).closer.isSome then closeConn cn s1 else shake cn (s1.setConn cn { s1.conn cn with st := .rekeying })

/-- An authenticated OPEN (R243): with both values held the connection opens under the derived key. -/
def openReceived (cn : Nat) (b : OpenBody) (s : State) : State :=
  let c := s.conn cn
  match c.st with
  | .open_ =>
    if c.peerR = some b.r then s
    else maybeShake cn (s.setConn cn { c with st := .rekeying, shaking := false })
  | .rekeying | .opening =>
    if c.st = .rekeying ∧ c.shaking = false then s
    else
      let c1 := { c with peerR := some b.r }
      if !b.holdsYours then s.setConn cn c1
      else
        let c2 := { c1 with st := .open_, key := s.connKeyOf cn c1 b.r, seq := 0, txn := 0, high := none, bits := []
                            notify := [], shaking := false, opens := true, opener := none }
        let s1 := sendOpen cn (s.setConn cn c2)
        let s2 := match c.opener with
          | some (q, num) => s1.dwtComplete q num 0 0
          | none => s1
        State.collSend cn 65536 (finishOps cn (State.dwtSend cn 65536 s2))
  | _ => s

/-! CONN_OPEN and CONN_CLOSE (R240, R241) -/

/-- The descriptor of 64 bytes, and whether a reserved field is nonzero. -/
def readConnDesc (b : List Byte) : ConnDesc × Bool :=
  let w := fun k => leNat ((b.drop (8 * k)).take 8)
  let d : ConnDesc :=
    { dscp := bits (w 0) 21 16, storage := bit (w 0) 15, tc := bits (w 0) 14 12, mtu := bits (w 0) 11 10
      path := bits (w 0) 9 8, peerId := BitVec.ofNat 64 (w 1), dir := bit (w 2) 18, axis := bits (w 2) 17 16
      peerConn := bits (w 2) 13 0, udpPort := bits (w 3) 31 16, portMask := bits (w 3) 15 0
      peerIp := BitVec.ofNat 128 (leNat ((b.drop 32).take 16)) }
  (d, decide (w 0 / 2 ^ 22 ≠ 0) || decide (bits (w 0) 7 0 ≠ 1) || decide (d.path = 3) || decide (w 2 / 2 ^ 19 ≠ 0)
    || decide (bits (w 2) 15 14 ≠ 0) || decide (w 3 / 2 ^ 32 ≠ 0) || decide (w 6 ≠ 0) || decide (w 7 ≠ 0)
    || (decide (d.path = 1) && decide (leNat ((b.drop 36).take 12) ≠ 0)))

/-- Whether CONN_OPEN refuses a descriptor (R240, R352). -/
def State.descBad (s : State) (encl : Nat) (d : ConnDesc) (resv : Bool) : Bool :=
  let en := s.entry encl
  let ps := d.ports
  resv || !bit en.tcMask d.tc
    || (if d.path = 0 then
          d.storage || !(ps.any fun n => (s.net n).helloOk && decide ((s.net n).peerId = d.peerId))
            || ps.all fun n => decide (en.portWeight.getD n 0 = 0)
        else decide (d.portMask = 0) || (ps.any fun n => decide ((s.net n).kind ≠ kindStorage)) || decide (d.udpPort = 0))

/-- CONN_OPEN of an entry. -/
def connOpen (q : Nat) (t : Started) (s : State) : State :=
  let e := t.e
  let encl := (s.enclOfSlot t.slot).getD 0
  let cn := (s.connOf t.slot e.conn).getD 0
  let m := s.readVA t.slot e.localVa 64
  let d := readConnDesc m.bytes
  match firstOf (e.common s t.slot ++ [((s.connOf t.slot e.conn).isNone, connIndexRange),
    (decide ((s.conn cn).st ≠ .closed), connBusy), (!s.mapped t.slot e.localVa 64, entryUnmapped),
    (m.bad, localPoisoned), (s.descBad encl d.1 d.2, connBadDesc)]) with
  | some k => s.dwtComplete q t.num k 0
  | none =>
    let r : BitVec 128 := (Config.freeWord m.s.fresh) ++ (Config.freeWord (m.s.fresh + 1))
    sendOpen cn ((m.s.drawn 2).setConn cn
      { st := .opening, ctx := t.slot, encl := encl, desc := d.1, opener := some (q, t.num), r := r
        openKey := s.openKeyOf encl })

/-- CONN_CLOSE of an entry. -/
def connClose (q : Nat) (t : Started) (s : State) : State :=
  let e := t.e
  let cn := (s.connOf t.slot e.conn).getD 0
  let c := s.conn cn
  match firstOf (e.common s t.slot ++ [((s.connOf t.slot e.conn).isNone, connIndexRange),
    (decide (c.st = .closed) || decide (c.st = .opening) || c.closer.isSome, connNotOpen)]) with
  | some k => s.dwtComplete q t.num k 0
  | none => closeConn cn (s.setConn cn { c with closer := some (q, t.num) })

/-- OPEN again (R243): while the handshake runs, and on an OPEN connection until the peer has been heard under the
connection key, since it may have lost the last OPEN. DEDUCED (log 22): R243 gives the repetition no end. -/
def openResend (cn : Nat) (s : State) : State :=
  let c := s.conn cn
  if c.st = .opening ∨ (c.st = .rekeying ∧ c.shaking = true) ∨ (c.st = .open_ ∧ c.opens = true) then sendOpen cn s else s

/-- One second without an open connection (R243). -/
def connNoPeerEnd (cn : Nat) (s : State) : State :=
  let c := s.conn cn
  if c.st ≠ .opening then s
  else
    let s1 := s.setConn cn { coll := c.coll, ctx := c.ctx, encl := c.encl, desc := c.desc }
    match c.opener with
    | some (q, num) => s1.dwtComplete q num connNoPeer 0
    | none => s1

/-- The sender enters REKEYING where the next operation's SEQ values would pass the limit (R244). -/
def rekey (cn : Nat) (s : State) : State :=
  let c := s.conn cn
  let due := ((c.ops.find? DwtOp.more).map c.mustRekey).getD false || (!c.cq.isEmpty && decide (seqLimit < c.seq))
  if c.st = .open_ ∧ due = true then maybeShake cn (s.setConn cn { c with st := .rekeying, shaking := false }) else s

/-! WRITE, READ, ACCUM and PULL (R248, R255, R264, R265) -/

/-- Whether the connection takes another operation now (R248). -/
def DwtConn.full (c : DwtConn) : Bool := decide (64 ≤ c.ops.length)

/-- The checks of a moving entry after the shared ones. -/
def moveChecks (s : State) (t : Started) (cn : Nat) (span : Nat) (dest : Bool) : List (Bool × Nat) :=
  let c := s.conn cn
  [((s.connOf t.slot t.e.conn).isNone, connIndexRange),
   (t.e.fell, connDown),
   (decide (c.st ≠ .open_) && decide (c.st ≠ .rekeying), connNotOpen),
   (c.desc.storage && decide (t.e.op ∈ [1, 3]), connStorageOnly),
   (decide (0 < span) && (!s.mapped t.slot t.e.localVa span || (dest && s.touchesView t.slot t.e.localVa span)), entryUnmapped)]

/-- Put an operation on its connection and send. -/
def beginOp (cn q : Nat) (t : Started) (o : DwtOp) (s : State) : State :=
  let c := s.conn cn
  let o1 := { o with queue := q, ent := t.num }
  afterAnswer cn (s.setConn cn { c with ops := c.ops ++ [o1] })

/-- Segments of `n` bytes (R248). -/
def segCount (max n : Nat) : Nat := if n = 0 then 1 else ceilDiv n max

/-- WRITE, READ or ACCUM of an entry. -/
def dwtMove (q : Nat) (t : Started) (s : State) : Option State :=
  let e := t.e
  let cn := (s.connOf t.slot e.conn).getD 0
  match firstOf (e.common s t.slot ++ moveChecks s t cn e.length (decide (e.op = 2))) with
  | some k => some (s.dwtComplete q t.num k 0)
  | none =>
    if (s.conn cn).full then none
    else some (beginOp cn q t
      { queue := q, ent := t.num, q := e, length := e.length, segs := segCount (s.conn cn).desc.maxSeg e.length } s)

/-- A manifest (R264). -/
structure Manifest where
  chunkBytes : Nat
  len : Nat
  count : Nat
  bad : Bool
  deriving DecidableEq, Repr

def readManifest (b : List Byte) : Manifest :=
  let w := fun k => leNat ((b.drop (8 * k)).take 8)
  let sh := bits (w 0) 15 8
  let n := bits (w 2) 31 0
  { chunkBytes := 2 ^ sh, len := bits (w 1) 47 0, count := n
    bad := decide (bits (w 0) 7 0 ≠ 1) || decide (w 0 / 65536 ≠ 0) || decide (sh < 20) || decide (26 < sh)
      || decide (w 1 / addrTop ≠ 0) || decide (w 2 / 2 ^ 32 ≠ 0) || decide (n ≠ ceilDiv (bits (w 1) 47 0) (2 ^ sh))
      || decide (leNat ((b.drop 24).take 40) ≠ 0) }

/-- The first status that a PULL completes with at once (R264, R265, R266). Its LENGTH may be any where the range ends at
OBJECT_LEN, and is else a multiple of 64 (R255): judged once the manifest holds, which gives OBJECT_LEN (log 64). -/
def pullStatus (t : Started) (signer : BitVec 768) (s : State) : Option Nat :=
  let e := t.e
  let cn := (s.connOf t.slot e.conn).getD 0
  let va := bits e.extra 47 0
  let pub := Tbl.get 0 (s.encl ((s.enclOfSlot t.slot).getD 0)).pubs (bits e.extra 55 48)
  let h := s.readVA t.slot va 128
  let m := readManifest h.bytes
  let whole := 128 + 48 * m.count + 96
  let headBad := decide (va % 64 ≠ 0) || !s.mapped t.slot va 128
  let ends := decide ((e.roffset + e.length) % m.chunkBytes = 0) || decide (e.roffset + e.length = m.len)
  let span := roundUp e.length 64
  firstOf (e.common s t.slot ++ moveChecks s t cn 0 true ++ [
    (decide (pub = 0), pullNoKey),
    (headBad, pullBadManifest),
    (h.bad, localPoisoned),
    (m.bad || !s.mapped t.slot va whole, pullBadManifest),
    ((s.readVA t.slot va whole).bad, localPoisoned),
    (decide (signer ≠ pub), pullBadSignature),
    (decide (e.length % 64 ≠ 0) && decide (e.roffset + e.length ≠ m.len), entryAlign),
    (decide (0 < e.length) && (decide (e.roffset % m.chunkBytes ≠ 0) || !ends || decide (m.len < e.roffset + e.length)), pullBadRange),
    (decide (0 < span) && (!s.mapped t.slot e.localVa span || s.touchesView t.slot e.localVa span), entryUnmapped)])

/-- A PULL whose manifest holds: the bytes after its end are zeroed and its segments begin. -/
def pullBegin (q : Nat) (t : Started) (s : State) : Option State :=
  let e := t.e
  let cn := (s.connOf t.slot e.conn).getD 0
  let va := bits e.extra 47 0
  let m := readManifest (s.readVA t.slot va 128).bytes
  let r := s.readVA t.slot (va + 128) (48 * m.count)
  if e.length = 0 then some (r.s.dwtComplete q t.num 0 0)
  else if (s.conn cn).full then none
  else
    let first := e.roffset / m.chunkBytes
    let ds := ((chunks 48 m.count r.bytes).drop first).map fun b => BitVec.ofNat 384 (beNat b)
    let s1 := r.s.writeVA t.slot (e.localVa + e.length) (List.replicate (roundUp e.length 64 - e.length) 0#8)
    some (beginOp cn q t
      { queue := q, ent := t.num, q := e, length := e.length, segs := segCount (s.conn cn).desc.maxSeg e.length
        chunkBytes := m.chunkBytes, digests := ds } s1)

/-- PULL of an entry; `signer` is the key that the manifest's signature was made with (log 4). -/
def pull (q : Nat) (t : Started) (signer : BitVec 768) (s : State) : Option State :=
  match pullStatus t signer s with
  | some k => some (s.dwtComplete q t.num k 0)
  | none => pullBegin q t s

/-- Bytes of chunk `k` of a PULL. -/
def DwtOp.chunkLen (o : DwtOp) (k : Nat) : Nat := min o.chunkBytes (o.length - k * o.chunkBytes)

/-- Whether the last byte of the next chunk has landed. -/
def DwtConn.chunkLanded (c : DwtConn) (o : DwtOp) : Bool :=
  let lo := o.chunk * o.chunkBytes
  let hi := lo + o.chunkLen o.chunk
  decide (hi ≤ o.sent * c.desc.maxSeg)
    && !(c.segs.any fun g => decide (g.queue = o.queue) && decide (g.ent = o.ent) && decide (g.at_ < hi) && decide (lo < g.at_ + g.length))

/-- The security engine reads a landed chunk back, hashes it and compares (R266). -/
def chunkCheck (cn k : Nat) (s : State) : State :=
  let c := s.conn cn
  match c.ops.find? fun o => decide (o.q.op = 0x20) && decide (o.chunk = k) && !o.mismatch && o.nak.isNone
      && decide (k * o.chunkBytes < o.length) && c.chunkLanded o with
  | none => s
  | some o =>
    let n := o.chunkLen k
    let va := o.q.localVa + k * o.chunkBytes
    let m := s.readVA c.ctx va n
    if !m.bad && decide (Config.sha384 m.bytes = o.digests.getD k 0) then
      afterAnswer cn (m.s.setConn cn (c.setOp { o with chunk := k + 1, landed := o.landed + n }))
    else
      afterAnswer cn ((m.s.writeVA c.ctx va (List.replicate n 0#8)).setConn cn (c.setOp { o with mismatch := true }))

/-- An answer to segment `ref`: the segment leaves the unanswered list. -/
def DwtConn.answered (c : DwtConn) (ref : Nat) : DwtConn := { c with segs := c.segs.filter fun g => decide (g.seq ≠ ref) }

/-- An operation whose segment `ref` was refused: the refusal with the lowest SEQ gives its status (R251). -/
def DwtOp.nakAt (o : DwtOp) (ref status : Nat) : DwtOp :=
  { o with nak := match o.nak with
    | some n => if n.1 < ref then some n else some (ref, status)
    | none => some (ref, status) }

/-! Retransmission (R259) -/

/-- One retransmission more. -/
def countRetransmit (s : State) : State :=
  { s with dwt := { s.dwt with retransmits := satAdd Config.sat32 s.dwt.retransmits 1 } }

/-- RTO has run out for a message of the collective engine. -/
def retransmitColl (cn seq : Nat) (s : State) : State :=
  let c := s.conn cn
  match c.csegs.find? fun g => decide (g.seq = seq) with
  | none => s
  | some g =>
    if 8 ≤ g.tries then connFalls cn s
    else
      let c1 := { c with csegs := c.csegs.map fun h => if h.seq = seq then { h with tries := h.tries + 1 } else h }
      (countRetransmit (s.setConn cn c1)).sendNext cn
        { typ := g.typ, seq := seq, ref := seq, length := g.bytes, first := true, last := true } g.bytes (.coll g.msg)

/-- RTO has run out for segment `seq`: it is sent again, or after the eighth time the connection goes DOWN. A source
that has become poisoned stops the operation (R180). -/
def retransmit (cn seq : Nat) (s : State) : State :=
  let c := s.conn cn
  match c.segs.find? fun g => decide (g.seq = seq) with
  | none => retransmitColl cn seq s
  | some g =>
    if 8 ≤ g.tries then connFalls cn s
    else
      let c1 := { c with segs := c.segs.map fun h => if h.seq = seq then { h with tries := h.tries + 1 } else h }
      let s1 := countRetransmit (s.setConn cn c1)
      if g.writes then
        match c.ops.find? fun o => decide (o.queue = g.queue) && decide (o.ent = g.ent) with
        | some o =>
          let m := s1.readVA c.ctx (o.q.localVa + g.at_) g.length
          if m.bad then afterAnswer cn (m.s.setConn cn ((c.answered seq).setOp (o.nakAt seq localPoisoned)))
          else m.s.sendMsg cn g.hdr m.bytes
        | none => s1
      else s1.sendMsg cn g.hdr []

/-! Receiving (R238, R247, R249, R250, R260) -/

/-- An unauthenticated message is dropped without a reply (R238). -/
def authFail (cn : Nat) (s : State) : State :=
  State.errDwt { s with dwt := { s.dwt with authFail := satAdd Config.sat32 s.dwt.authFail 1 } } 1 cn

/-- What a port hands to the window transport engine: the state, and the connection of an accepted message. -/
structure DwtIn where
  s : State
  cn : Option Nat
  deriving DecidableEq, Repr

/-- The types of R238. -/
def typKnown (typ : Nat) : Bool := (decide (0 < typ) && decide (typ ≤ 9)) || decide (typ = 0x10) || decide (typ = 0x11)

/-- The form checks of R238 on a message of connection `c`. -/
def DwtConn.malformed (c : DwtConn) (m : Msg) (trunc : Bool) : Bool :=
  trunc || decide (m.ver ≠ 1#4) || m.resv || !m.frameLenOk || decide (c.desc.maxSeg < m.length.toNat)
    || (decide (m.typ = 6#8) && !nakCode m.status.toNat)

/-- The peer has been heard under the connection key. -/
def State.heard (s : State) (cn : Nat) : State :=
  let c := s.conn cn
  if c.opens then s.setConn cn { c with opens := false } else s

/-- A message of type `typ` from a port: the port's checks and its kind, then R238's form and tag checks. A torus port with
no matching HELLO carries no DWT: it is dropped (R41). A message of an unknown TYPE is malformed; one of another known TYPE
belongs to another command. The tag verifies under the key and the peer's DIR. -/
def dwtIn (n : Nat) (f : RxFacts) (m : Msg) (typ : Nat) (s : State) : DwtIn :=
  let r := rxFrame n f s
  let p := s.net n
  let cn := m.dstConn.toNat
  let c := r.s.conn cn
  match s.rxKind n f with
  | .dwt =>
    if !r.ok || (p.torus && !p.helloOk) then ⟨r.s, none⟩
    else if isFragment f then ⟨dwtFragment r.s, none⟩
    else if decide (m.typ.toNat ≠ typ) && typKnown m.typ.toNat then ⟨r.s, none⟩
    else if decide (m.typ.toNat ≠ typ) || c.malformed m r.trunc then ⟨dwtMalformed cn r.s, none⟩
    else
      let opening := decide (typ = 7)
      let up := decide (c.st = .open_) || decide (c.st = .rekeying) || (opening && decide (c.st = .opening))
      let key := if opening then c.openKey else c.key
      if up && decide (m.srcConn.toNat = c.desc.peerConn) && m.intact && decide (m.sealKey = key) && decide (m.sealDir ≠ r.s.dirBit cn c) then
        ⟨if opening then r.s else r.s.heard cn, some cn⟩
      else ⟨authFail cn r.s, none⟩
  | _ => ⟨r.s, none⟩

/-- Answer a segment with a NAK. -/
def sendNak (cn : Nat) (m : Msg) (status : Nat) (s : State) : State :=
  let s1 := { s with dwt := { s.dwt with nakSent := satAdd Config.sat32 s.dwt.nakSent 1 } }
  s1.sendMsg cn { typ := 6, ref := m.seq.toNat, status := status } []

/-- A NAKed segment of an operation with NOTIFY: the operation never raises it (R250). -/
def markNaked (cn : Nat) (m : Msg) (s : State) : State :=
  let c := s.conn cn
  let key := fun k : NotifyCount => decide (k.ref = m.ref.toNat) && decide (k.window = m.window.toNat)
  if m.typ = 3#8 then s
  else if c.notify.any key then s.setConn cn { c with notify := c.notify.map fun k => if key k then { k with naked := true } else k }
  else s.setConn cn { c with notify := c.notify ++ [{ ref := m.ref.toNat, window := m.window.toNat, naked := true }] }

/-- Check 4 of R247: the domain of the connection's context is fenced. -/
def State.connFenced (s : State) (c : DwtConn) : Bool :=
  decide ((s.ctx c.ctx).st = .eclipse) || decide ((s.encl c.encl).st = .eclipse)

/-- The window checks 4 to 11 of R247. -/
def State.winStatus (s : State) (cn : Nat) (m : Msg) : Option Nat :=
  let c := s.conn cn
  let w := m.window.toNat
  let d := s.win w
  let t := m.typ.toNat
  let extent := if t = 2 then 2 * m.length.toNat else m.length.toNat
  let permBit := if t = 1 then 1 else if t = 2 then 2 else 0
  firstOf [
    (s.connFenced c, dwtFenced),
    (decide (d.st = .closed) && !d.revoked, winClosed),
    (decide (d.st ≠ .open_), winRevoked),
    (decide (m.wgen.toNat ≠ d.gen), winStaleGen),
    (c.coll || decide (c.ctx ≠ d.ctx) || (d.bind.map fun b => decide (b ≠ cn)).getD false, winConn),
    (!d.perm.getLsbD permBit, winPerm),
    (decide (d.size < m.offset.toNat + extent), winRange),
    (decide (t = 2) && !s.inPackage d.ctx (d.base + m.offset.toNat) extent, winNoAdder)]

/-- Read for a READ_REQ and answer it. -/
def answerRead (cn : Nat) (m : Msg) (s : State) : State × Bool :=
  let d := s.win m.window.toNat
  let r := s.readVA d.ctx (d.base + m.offset.toNat) m.length.toNat
  if r.bad then (sendNak cn m tgtPoisoned r.s, false)
  else (r.s.sendMsg cn { typ := 4, ref := m.seq.toNat, length := m.length.toNat } r.bytes, true)

def answerAck (cn : Nat) (m : Msg) (s : State) : State := s.sendMsg cn { typ := 5, ref := m.seq.toNat } []

/-- One segment more of an operation has been applied; with the last one the window's NOTIFY counter rises (R250). -/
def countNotify (cn : Nat) (m : Msg) (s : State) : State :=
  let c := s.conn cn
  let d := s.win m.window.toNat
  let key := fun k : NotifyCount => decide (k.ref = m.ref.toNat) && decide (k.window = m.window.toNat)
  let old := (c.notify.find? key).getD { ref := m.ref.toNat, window := m.window.toNat }
  let new := { old with applied := old.applied + 1
                        total := if m.last then some ((m.seq - m.ref).toNat + 1) else old.total }
  let rest := c.notify.filter fun k => !key k
  if new.total = some new.applied ∧ new.naked = false then
    let s1 := s.setConn cn { c with notify := rest }
    match d.notify with
    | some k => s1.raiseRel d.ctx k 1
    | none => s1
  else s.setConn cn { c with notify := rest ++ [new] }

/-- The replay bitmap covers the 65,536 SEQ values up to H (R260). -/
def DwtConn.seen (c : DwtConn) (seq : Nat) : DwtConn :=
  match c.high with
  | some h => if h < seq then { c with high := some seq, bits := c.bits.filter fun b => decide (seq < b + 65536) } else c
  | none => { c with high := some seq }

def DwtConn.tooOld (c : DwtConn) (seq : Nat) : Bool := (c.high.map fun h => decide (seq + 65535 < h)).getD false

/-- A segment that passed R247 is applied (R249). -/
def applySeg (cn : Nat) (m : Msg) (s : State) : State :=
  let d := s.win m.window.toNat
  let va := d.base + m.offset.toNat
  let mark := fun u : State => u.setConn cn { u.conn cn with bits := m.seq.toNat :: (u.conn cn).bits }
  if m.typ = 1#8 then answerAck cn m (countNotify cn m (mark ((s.writeVA d.ctx va m.payload).touch d.ctx)))
  else if m.typ = 2#8 then
    let r := (s.touch d.ctx).addVA d.ctx va (bf16s m.payload)
    if r.2 then sendNak cn m tgtPoisoned (markNaked cn m r.1) else answerAck cn m (countNotify cn m (mark r.1))
  else
    let r := answerRead cn m s
    if r.2 then mark r.1 else r.1

/-- A refused segment: counted for a revoke under way (R263). -/
def refuseSeg (cn : Nat) (m : Msg) (k : Nat) (s : State) : State :=
  let w := m.window.toNat
  let d := s.win w
  let s1 := if k = winRevoked ∧ d.st = .closing then s.setWin w { d with refused := d.refused + 1 } else s
  sendNak cn m k (markNaked cn m s1)

/-- A segment below the replay bitmap: RESET goes out, and the connection is reset (R261). -/
def replayReset (cn : Nat) (s : State) : State :=
  let s1 := s.sendMsg cn { typ := 8 } []
  let s2 := { s1 with dwt := { s1.dwt with replayResets := satAdd Config.sat32 s1.dwt.replayResets 1 } }
  connReset cn (s2.errDwt 2 cn)

/-- An authenticated data or request segment: checks 2 to 11 of R247 and its effect. -/
def segArrives (cn : Nat) (m : Msg) (s : State) : State :=
  let c := s.conn cn
  let q := m.seq.toNat
  if c.tooOld q then replayReset cn s
  else
    let s1 := s.setConn cn (c.seen q)
    if q ∈ c.bits then (if m.typ = 3#8 then (answerRead cn m s1).1 else answerAck cn m s1)
    else if c.desc.storage then sendNak cn m connStorageOnly s1
    else match s1.winStatus cn m with
      | some k => refuseSeg cn m k s1
      | none => applySeg cn m s1

/-- An ACK, READ_RESP or NAK (R251). -/
def answerArrives (cn : Nat) (m : Msg) (s : State) : State :=
  let c := s.conn cn
  let ref := m.ref.toNat
  match c.segs.find? fun g => decide (g.seq = ref) with
  | none => s
  | some g =>
    match c.ops.find? fun o => decide (o.queue = g.queue) && decide (o.ent = g.ent) with
    | none => s.setConn cn (c.answered ref)
    | some o =>
      if m.typ = 6#8 then
        afterAnswer cn (s.setConn cn ((c.answered ref).setOp (o.nakAt ref m.status.toNat)))
      else if m.typ = 5#8 then
        if g.typ = 3 then s
        else afterAnswer cn (s.setConn cn ((c.answered ref).setOp { o with landed := o.landed + g.length }))
      else if g.typ ≠ 3 ∨ m.payload.length ≠ g.length then s
      else
        let bytes := if o.mismatch then List.replicate g.length 0#8 else m.payload
        let pulls := decide (o.q.op = 0x20)
        let s1 := (s.writeVA c.ctx (o.q.localVa + g.at_) bytes).touch c.ctx
        afterAnswer cn (s1.setConn cn ((c.answered ref).setOp
          (if pulls then o else { o with landed := o.landed + g.length })))

end Sys2Proof.Machine
end

