-- ==== Sys2Proof/Machine/Sync.lean ====
section
/-! DEFINITION. The SYNC, CTRL and LAYER classes, the completion of an instruction, and nova events
(04 R130, R131; 05 R168 to R175; 03 R102 to R109, R473). -/

namespace Sys2Proof.Machine

/-! SYNC.WAIT (R130, R168) -/

/-- The target of a wait, at most 0xFFFF_FFFF_FFFF (R130). -/
def waitTarget (f : WaitF) (steps loopIx : Nat) : Nat :=
  min Config.counterMax
    (if f.mode = 0#2 then f.t.toNat
     else if f.mode = 1#2 then f.t.toNat * (steps + 1)
     else f.t.toNat + f.u.toNat * loopIx)

/-- The value of relative counter `k` of a context. -/
def State.relCtr (s : State) (slot k : Nat) : Nat := s.counter ((s.ctx slot).desc.ctrBase + k)

/-- A relative counter index at or beyond COUNTER_COUNT (R128). -/
def Env.chkIndex (e : Env) (k : Nat) : Except FaultCode Unit :=
  failIf (decide (e.ctx.desc.ctrCount ≤ k)) .syncCtrRange

def runWait (f : WaitF) (access : Bool) (e : Env) : Except FaultCode Done := do
  e.chkIndex f.ctr.toNat
  e.chkBracket false
  let target := waitTarget f e.ctx.s.toNat e.p.loopIx
  if target ≤ e.s.relCtr e.slot f.ctr.toNat then .ok { s := e.s, l := e.live, fl := e.flight access, fin := true }
  else .ok { s := e.s, l := e.live, fl := e.flight access
             wait := some { idx := e.p.idx, ctr := f.ctr.toNat, target := target, dfr := e.p.kw.dfr,
                            push := e.p.kw.tail.push } }

/-- The side of a command as a queue. -/
def Side.acc (sd : Side) : Bool := match sd with | .access => true | .execute => false

/-- A SYNC operation on a side: 0 ACCESS, 1 EXECUTE, 2 BOTH. -/
def sideOk (f : BitVec 2) (access : Bool) : Bool := if access then f != 1#2 else f != 0#2

def isWait (access : Bool) : KwOp → Bool | .wait f => sideOk f.side access | _ => false

def carryWait (access : Bool) (e : Env) : Except FaultCode Done :=
  match e.p.kw.op with
  | .wait f => runWait f access e
  | _ => .error .insnBadOpcode

/-- SYNC.WAIT. -/
def execSyncWait (n : CoreId) (x : StrmId) (ph : Phase) (sd : Side) (s : State) : Host.Outcome State Fault Refusal :=
  .next (kwemin n x ph (Side.acc sd) (isWait (Side.acc sd)) (carryWait (Side.acc sd)) s)

/-- A held wait whose counter has reached its target is met, and fills the token it pushed. -/
def meetWait (n : Nat) (x : StrmId) (access dfr : Bool) (s : State) : State :=
  match site s n x with
  | none => s
  | some i =>
    match i.t.heldOn dfr access with
    | none => s
    | some w =>
      if s.relCtr i.slot w.ctr < w.target then s
      else
        let t := i.t.unhold dfr access
        let t1 := if w.push then { t with hand := t.hand.fill w.idx } else t
        s.setStream n x t1

/-- WAIT_MET. -/
def execWaitMet (n : CoreId) (x : StrmId) (sd : Side) (dfr : Bool) (s : State) : Host.Outcome State Fault Refusal :=
  .next (s.settle (meetWait n.val x (Side.acc sd) dfr s))

/-! SYNC.INC and SYNC.TOKEN -/

def runInc (f : IncF) (access : Bool) (e : Env) : Except FaultCode Done := do
  e.chkIndex f.ctr.toNat
  e.chkBracket false
  failIf (e.p.inBr && decide (f.amount ≠ 0#32) && e.heldFull f.ctr.toNat) .layerHeldFull
  .ok { s := e.s, l := e.foldOut f.ctr.toNat (leBytes 4 f.amount.toNat) e.live
        fl := e.flight access, fin := true, inc := some (f.ctr.toNat, f.amount.toNat) }

def isInc (access : Bool) : KwOp → Bool | .inc f => sideOk f.side access | _ => false

def carryInc (access : Bool) (e : Env) : Except FaultCode Done :=
  match e.p.kw.op with
  | .inc f => runInc f access e
  | _ => .error .insnBadOpcode

/-- SYNC.INC. -/
def execSyncInc (n : CoreId) (x : StrmId) (ph : Phase) (sd : Side) (s : State) : Host.Outcome State Fault Refusal :=
  .next (kwemin n x ph (Side.acc sd) (isInc (Side.acc sd)) (carryInc (Side.acc sd)) s)

def isToken (access : Bool) : KwOp → Bool | .token f => sideOk f.side access | _ => false

def carryToken (access : Bool) (e : Env) : Except FaultCode Done := do
  e.chkBracket false
  .ok { s := e.s, l := e.live, fl := e.flight access, fin := true }

/-- SYNC.TOKEN. -/
def execSyncToken (n : CoreId) (x : StrmId) (ph : Phase) (sd : Side) (s : State) : Host.Outcome State Fault Refusal :=
  .next (kwemin n x ph (Side.acc sd) (isToken (Side.acc sd)) (carryToken (Side.acc sd)) s)

/-! CTRL: the sequencer's own instructions (R121, R170 to R173) -/

/-- What a sequencer instruction gives: a fault, no progress yet, or the stream after it. -/
inductive SeqOut where
  | fault (c : FaultCode)
  | hold
  | go (t : Stream)
  deriving DecidableEq, Repr

/-- Run a sequencer instruction at the PC. -/
def sequencer (n : Nat) (x : StrmId) (want : KwOp → Bool) (run : State → Site → KwOp → SeqOut) (s : State) : State :=
  match site s n x with
  | none => s
  | some i =>
    if !i.open_ then s
    else match fetchDecode s i x want with
      | .error f => raiseFault s n x i.slot i.t.next f
      | .ok none => s
      | .ok (some k) =>
        match run s i k.op with
        | .fault c => raiseFault s n x i.slot i.t.next c
        | .hold => s
        | .go t => s.setStream n x { t with dispatched := i.t.dispatched + 1 }

/-- The word of CTRL.ENDL of stream `x` that a skipped loop must reach (R170). -/
def isEndlWord (x : StrmId) (w : BitVec 128) : Bool :=
  match decodeKw x w with
  | .ok k => decide (k.op = .endl) && !k.dfr
  | .error _ => false

def seqLoop (x : StrmId) (s : State) (i : Site) (o : KwOp) : SeqOut :=
  match o with
  | .loop f =>
    if f.count = 0#16 then
      if f.skip = 0#32 then .fault .insnRange
      else match fetchWord s i.slot (pcAdd i.t.pc f.skip.toNat) with
        | .error f => .fault f
        | .ok w => if isEndlWord x w then .go { i.t with pc := pcAdd i.t.pc (f.skip.toNat + 1) }
          else .fault .ctrlLoopMismatch
    else if 4 ≤ i.t.loops.length then .fault .ctrlLoopDepth
    else .go { i.t with pc := pcAdd i.t.pc 1
                        loops := i.t.loops ++ [{ start := pcAdd i.t.pc 1, count := f.count.toNat, index := 0 }] }
  | _ => .hold

def isLoop : KwOp → Bool | .loop _ => true | _ => false

/-- CTRL.LOOP. -/
def execCtrlLoop (n : CoreId) (x : StrmId) (s : State) : Host.Outcome State Fault Refusal :=
  .next (s.settle (sequencer n.val x isLoop (seqLoop x) s))

def seqEndl (_ : State) (i : Site) (_ : KwOp) : SeqOut :=
  match i.t.loops.getLast? with
  | none => .fault .ctrlLoopUnopened
  | some r =>
    if r.index + 1 < r.count then
      .go { i.t with pc := r.start, loops := i.t.loops.dropLast ++ [{ r with index := r.index + 1 }] }
    else .go { i.t with pc := pcAdd i.t.pc 1, loops := i.t.loops.dropLast }

def isEndl : KwOp → Bool | .endl => true | _ => false

/-- CTRL.ENDL. -/
def execCtrlEndl (n : CoreId) (x : StrmId) (s : State) : Host.Outcome State Fault Refusal :=
  .next (s.settle (sequencer n.val x isEndl seqEndl s))

def seqJmp (_ : State) (i : Site) (o : KwOp) : SeqOut :=
  match o with
  | .jmp f => .go { i.t with pc := pcAdd i.t.pc f.offset.toInt }
  | _ => .hold

def isJmp : KwOp → Bool | .jmp _ => true | _ => false

/-- CTRL.JMP. -/
def execCtrlJmp (n : CoreId) (x : StrmId) (s : State) : Host.Outcome State Fault Refusal :=
  .next (s.settle (sequencer n.val x isJmp seqJmp s))

/-- Whether every earlier SYNC.WAIT of the stream has been met (R131). -/
def Stream.waitsMet (t : Stream) : Bool :=
  !t.anyHeld && !((t.q ++ t.dq).any fun p => match p.kw.op with | .wait _ => true | _ => false)

def seqBrc (s : State) (i : Site) (o : KwOp) : SeqOut :=
  match o with
  | .brc f =>
    if !i.t.waitsMet then .hold
    else if i.ctx.desc.ctrCount ≤ f.ctr.toNat then .fault .syncCtrRange
    else if f.t.toNat ≤ s.relCtr i.slot f.ctr.toNat then .go { i.t with pc := pcAdd i.t.pc f.offset.toInt }
    else .go { i.t with pc := pcAdd i.t.pc 1 }
  | _ => .hold

def isBrc : KwOp → Bool | .brc _ => true | _ => false

/-- CTRL.BRC. -/
def execCtrlBrc (n : CoreId) (x : StrmId) (s : State) : Host.Outcome State Fault Refusal :=
  .next (s.settle (sequencer n.val x isBrc seqBrc s))

def seqXset (_ : State) (i : Site) (o : KwOp) : SeqOut :=
  match o with
  | .xset f => .go { i.t with pc := pcAdd i.t.pc 1, xs := Tbl.put i.t.xs f.xreg.toNat f.imm }
  | _ => .hold

def isXset : KwOp → Bool | .xset _ => true | _ => false

/-- CTRL.XSET. -/
def execCtrlXset (n : CoreId) (x : StrmId) (s : State) : Host.Outcome State Fault Refusal :=
  .next (s.settle (sequencer n.val x isXset seqXset s))

def seqXadd (_ : State) (i : Site) (o : KwOp) : SeqOut :=
  match o with
  | .xadd f => .go { i.t with pc := pcAdd i.t.pc 1
                              xs := Tbl.put i.t.xs f.xreg.toNat (i.t.xr f.xreg.toNat + f.imm) }
  | _ => .hold

def isXadd : KwOp → Bool | .xadd _ => true | _ => false

/-- CTRL.XADD. -/
def execCtrlXadd (n : CoreId) (x : StrmId) (s : State) : Host.Outcome State Fault Refusal :=
  .next (s.settle (sequencer n.val x isXadd seqXadd s))

/-- Clear statistics slots `first` on of core `n`; entries whose class names one as AUTO_SLOT get a zero
baseline (R173, R472). -/
def Ctx.clearStats (c : Ctx) (n first count : Nat) : Ctx :=
  { c with
    stats := Tbl.clear c.stats (statKey n first) count
    perm := c.perm.map fun e =>
      let a := recAutoSlot (recipeEnt c.recipe e.cls)
      if first ≤ a ∧ a < first + count then { e with baseWrites := 0, baseMiss := 0 } else e }

/-- CTRL.SCLR waits until every earlier instruction of its stream has completed (R173). -/
def sclr (n : Nat) (x : StrmId) (s : State) : State :=
  match site s n x with
  | none => s
  | some i =>
    if !i.open_ then s
    else match fetchDecode s i x (fun o => match o with | .sclr _ => true | _ => false) with
      | .error f => raiseFault s n x i.slot i.t.next f
      | .ok none => s
      | .ok (some k) =>
        match k.op with
        | .sclr f =>
          if !i.t.doneBefore i.t.next none none || !i.t.spills.isEmpty then s
          else
            let s1 := s.setCtx i.slot (i.ctx.clearStats n f.first.toNat f.count.toNat)
            s1.setStream n x ({ i.t with pc := pcAdd i.t.pc 1, dispatched := i.t.dispatched + 1 } : Stream)
        | _ => s

/-- CTRL.SCLR. -/
def execCtrlSclr (n : CoreId) (x : StrmId) (s : State) : Host.Outcome State Fault Refusal :=
  .next (s.settle (sclr n.val x s))

/-! LAYER (R62, R102, R175) -/

/-- Mark the non-EMPTY slots and spill slots of the grant as carried, and none as written (R62). -/
def markCarried (g : Grant) (l : CoreCtx) : CoreCtx :=
  let l1 := (List.range g.accCount).foldl (fun l k =>
    let a := l.slot (g.accBase + k)
    if a.typ = .empty && !a.written then l
    else l.setSlot (g.accBase + k) { a with carried := decide (a.typ ≠ .empty), written := false }) l
  (List.range g.spillCount).foldl (fun l k =>
    let a := l.spillSlot (g.spillBase + k)
    if !a.full && !a.written then l
    else l.setSpill (g.spillBase + k) { a with carried := a.full, written := false }) l1

/-- The marks end with the bracket. -/
def clearCarried (g : Grant) (l : CoreCtx) : CoreCtx :=
  let l1 := (List.range g.accCount).foldl (fun l k =>
    let a := l.slot (g.accBase + k)
    if a.carried then l.setSlot (g.accBase + k) { a with carried := false } else l) l
  (List.range g.spillCount).foldl (fun l k =>
    let a := l.spillSlot (g.spillBase + k)
    if a.carried then l.setSpill (g.spillBase + k) { a with carried := false } else l) l1

/-- LAYER.BEGIN at issue. The order among the LAYER faults is the model's choice (R149, log 63). -/
def runLbegin (f : LayerF) (e : Env) : Except FaultCode Done := do
  failIf e.p.inBr .layerNested
  failIf (decide (f.layer = 0xFFFFFFFF#32)) .layerBadId
  failIf (decide (f.layer ∈ e.ctx.opened)) .layerIdReused
  let l := markCarried e.grant e.live
  let t := l.strm e.x
  let l1 := l.setStrm e.x { t with bracket := t.bracket.map fun b => { b with begun := true } }
  .ok { s := e.s.setCtx e.slot { e.ctx with opened := e.ctx.opened ++ [f.layer] }
        l := l1, fl := e.flight false, fin := true }

def isLbegin : KwOp → Bool | .lbegin _ => true | _ => false

def carryLbegin (e : Env) : Except FaultCode Done :=
  match e.p.kw.op with
  | .lbegin f => runLbegin f e
  | _ => .error .insnBadOpcode

/-- LAYER.BEGIN. -/
def execLayerBegin (n : CoreId) (x : StrmId) (ph : Phase) (s : State) : Host.Outcome State Fault Refusal :=
  .next (kwemin n x ph false isLbegin carryLbegin s)

def isLend : KwOp → Bool | .lend => true | _ => false

/-- LAYER.END issues; it commits when the bracket's instructions have completed (INSTRUCTION_COMPLETE). -/
def carryLend (e : Env) : Except FaultCode Done := do
  failIf (!e.p.inBr) .layerUnopened
  let t := e.live.strm e.x
  let l1 := e.live.setStrm e.x { t with bracket := t.bracket.map fun b => { b with endIdx := some e.p.idx } }
  .ok { s := e.s, l := l1, fl := e.flight false }

/-- LAYER.END. -/
def execLayerEnd (n : CoreId) (x : StrmId) (ph : Phase) (s : State) : Host.Outcome State Fault Refusal :=
  .next (kwemin n x ph false isLend carryLend s)

def isSrcid : KwOp → Bool | .srcid _ => true | _ => false

/-- LAYER.SRCID issues as a no-operation. -/
def carrySrcid (e : Env) : Except FaultCode Done :=
  .ok { s := e.s, l := e.live, fl := e.flight false, fin := true }

/-- LAYER.SRCID. -/
def execLayerSrcid (n : CoreId) (x : StrmId) (ph : Phase) (s : State) : Host.Outcome State Fault Refusal :=
  .next (kwemin n x ph false isSrcid carrySrcid s)

/-! INSTRUCTION_COMPLETE (R102, R129) -/

/-- Signal the held amounts counter by counter, in the order of first holding (R102). -/
def releaseHeld (base : Nat) : List (Nat × Nat) → State → State
  | [], s => s
  | (k, n) :: l, s => releaseHeld base l (s.raiseCtr (base + k) n)

/-- The commit of a bracket. -/
def commitBracket (n : Nat) (x : StrmId) (i : Site) (b : Bracket) (idx : Nat) (s : State) : State :=
  let t := { i.t with bracket := none, flights := i.t.flights.filter fun f => decide (f.idx ≠ idx) }
  let l := (clearCarried ((i.ctx.desc.core n).grant x) i.core.live).setStrm x t
  releaseHeld i.ctx.desc.ctrBase (b.held.filter fun p => !i.ctx.ctrFrozen i.slot p.1) (s.setCore n { i.core with live := l })

def instructionComplete (n : Nat) (x : StrmId) (k : Nat) (s : State) : State :=
  match site s n x with
  | none => s
  | some i =>
    match i.t.flights.find? fun f => decide (f.idx = k) with
    | none => s
    | some f =>
      match i.t.bracket with
      | some b =>
        if b.endIdx = some k then
          if i.t.bracketDone k then commitBracket n x i b k s else s
        else if i.t.spills.any fun d => decide (d.idx = k) then s
        else completeFlight s n x i.slot f
      | none =>
        if i.t.spills.any fun d => decide (d.idx = k) then s else completeFlight s n x i.slot f

/-- INSTRUCTION_COMPLETE. -/
def execInstructionComplete (n : CoreId) (x : StrmId) (k : Nat) (s : State) : Host.Outcome State Fault Refusal :=
  .next (s.settle (instructionComplete n.val x k s))

/-! Nova events (R105 to R109, R473) -/

/-- Whether a key has a persistent entry. -/
def Ctx.hasPerm (c : Ctx) (ln cls : Nat) : Bool := c.perm.any fun e => decide (e.layerNum = ln) && decide (e.cls = cls)

/-- The keys first raised in the step that have no persistent entry, in order. -/
def Ctx.newKeys (c : Ctx) : List (Nat × Nat) :=
  (c.raise.foldl (fun l e => insertNew (layerNum e.layer, e.cls) l) []).filter fun k => !c.hasPerm k.1 k.2

/-- PERSIST_FULL of a raise, decided at its key's first raise of the step (R473). -/
def Ctx.persistFull (c : Ctx) (layer : W32) (cls : Nat) : Bool :=
  match c.raise.find? fun e => decide (layerNum e.layer = layerNum layer) && decide (e.cls = cls) with
  | some e => e.full
  | none => !c.hasPerm (layerNum layer) cls && decide (1024 ≤ c.perm.length + c.newKeys.length)

/-- Add or raise the step raise entry (R107). -/
def Ctx.addRaise (c : Ctx) (layer : W32) (cls : Nat) (f : Fmt) : Ctx :=
  if c.raise.any fun e => decide (e.layer = layer) && decide (e.cls = cls) then
    { c with raise := c.raise.map fun e => if e.layer = layer ∧ e.cls = cls then { e with fmt := f } else e }
  else { c with raise := c.raise ++ [{ layer := layer, cls := cls, fmt := f, full := c.persistFull layer cls }] }

/-- Slots and spill slots written since LAYER.BEGIN become EMPTY, and the stream's tile buffers (R62, R105). -/
def rewindSlots (g : Grant) (x : StrmId) (l : CoreCtx) : CoreCtx :=
  let l1 := (List.range g.accCount).foldl (fun l k =>
    if (l.slot (g.accBase + k)).written then l.setSlot (g.accBase + k) {} else l) l
  let l2 := (List.range g.spillCount).foldl (fun l k =>
    if (l.spillSlot (g.spillBase + k)).written then l.setSpill (g.spillBase + k) {} else l) l1
  (l2.setTile x 0 none).setTile x 1 none

/-- Tokens of one queue that instructions after LAYER.BEGIN popped. -/
def Bracket.back (b : Bracket) (dfr access : Bool) : List Token :=
  (b.popped.filter fun p => decide (p.dfr = dfr) && decide (p.access = access)).map (·.tok)

/-- Tokens of instructions before LAYER.BEGIN that none of them popped stay, each in the queue it was popped from; the others
go (R124). -/
def rewindTokens (b : Bracket) (h : Handoff) : Handoff :=
  let h1 := h.keep fun k => decide (k.idx < b.idx)
  { a2e := b.back false false ++ h1.a2e, e2a := b.back false true ++ h1.e2a
    da2e := b.back true false ++ h1.da2e, de2a := b.back true true ++ h1.de2a }

/-- Whether everything earlier than the stop of a stream has completed. -/
def Stream.drained (t : Stream) : Bool :=
  t.q.isEmpty && t.dq.isEmpty && t.flights.isEmpty && t.spills.isEmpty && !t.anyHeld

/-- The stream at the instruction after LAYER.BEGIN, with what was recorded there (R105, R175). -/
def Stream.rewind (t : Stream) (b : Bracket) : Stream :=
  { t with pc := pcAdd b.pc 1, xs := b.xs, loops := b.loops, srcId := b.srcId, seq := 0, opened := true,
           hand := rewindTokens b t.hand, nova := none, rerun := true, st := .running,
           bracket := some { b with held := [], popped := [], closed := none, endIdx := none } }

def novaEvent (n : Nat) (x : StrmId) (s : State) : State :=
  match site s n x with
  | none => s
  | some i =>
    if i.ctx.st = .eclipse then s else
    match i.t.nova, i.t.bracket with
    | some v, some b =>
      if !i.t.drained then s
      else
        let full := i.ctx.persistFull v.layer v.cls
        let l := (rewindSlots ((i.ctx.desc.core n).grant x) x i.core.live).setStrm x (i.t.rewind b)
        let s1 := (s.setCore n { i.core with live := l }).setCtx i.slot (i.ctx.addRaise v.layer v.cls v.newFmt)
        s1.logEv { s1.evCtx 0 0x41 i.slot with
          core := n, stream := strmTag x
          fields := [v.layer.toNat, v.cls, v.oldFmt.code, v.newFmt.code, b2n full] }
    | _, _ => s

/-- NOVA_EVENT. -/
def execNovaEvent (n : CoreId) (x : StrmId) (s : State) : Host.Outcome State Fault Refusal :=
  .next (s.settle (novaEvent n.val x s))

/-- 64 cycles after the rewind the stream resumes. -/
def novaRerun (n : Nat) (x : StrmId) (s : State) : State :=
  match site s n x with
  | none => s
  | some i => if i.t.rerun && i.ctx.st != .eclipse then s.setStream n x { i.t with rerun := false } else s

/-- NOVA_RERUN. -/
def execNovaRerun (n : CoreId) (x : StrmId) (s : State) : Host.Outcome State Fault Refusal :=
  .next (s.settle (novaRerun n.val x s))

/-! ARBITER_AGE_EXPIRY (R126) -/

/-- A candidate whose head is ready for a unit has waited 4,096 cycles for it (log 10). -/
def ageExpiry (n : Nat) (k : Cand) (u : CoreUnit) (s : State) : State :=
  if candReady s n k u then s.setCore n { s.core n with aged := insertNew (k, u) (s.core n).aged } else s

/-- ARBITER_AGE_EXPIRY. -/
def execArbiterAgeExpiry (n : CoreId) (k : Cand) (u : CoreUnit) (s : State) : Host.Outcome State Fault Refusal :=
  .next (ageExpiry n.val k u s)

end Sys2Proof.Machine
end

