-- ==== Sys2Proof/Machine/Tiers.lean ====
section
/-! DEFINITION. The tier manager: the tier commands, streaming windows, migration, scrub and the parameter
exchange (06 R186 to R206). -/

namespace Sys2Proof.Machine

/-- What carrying out a command gives: the state, and its status and BYTES, or nothing while it waits. -/
structure CmdOut where
  s : State
  res : Option (Nat × Nat)
  deriving DecidableEq, Repr

def CmdOut.done (s : State) (status : Nat) : CmdOut := ⟨s, some (status, 0)⟩

/-- Word `k` of a 64-byte command. -/
def entWord (e : BitVec 512) (k : Nat) : Nat := e.toNat / 2 ^ (64 * k) % 2 ^ 64

/-- The opcode of a command. -/
def entOp (e : BitVec 512) : Nat := entWord e 0 % 256

/-! Statuses of R192 by their codes of R446 -/

def tierReserved : Nat := 0x200
def allocBadAddr : Nat := 0x201
def allocOverlap : Nat := 0x202
def allocBadFlags : Nat := 0x203
def allocNoSpace : Nat := 0x204
def allocNotFound : Nat := 0x205
def allocWindowOpen : Nat := 0x206
def swinActive : Nat := 0x207
def swinNotStream : Nat := 0x208
def swinBadList : Nat := 0x209
def swinCounterRange : Nat := 0x20A
def swinLimit : Nat := 0x20B

/-! FLAGS (R188) -/

def flagRole (f : Nat) : Nat := bits f 11 8
def flagCore (f : Nat) : Nat := bits f 6 4
def flagPlace (f : Nat) : Nat := bits f 2 0
def flagBoard (f : Nat) : Bool := bit f 3
def flagExclude (f : Nat) : Bool := bit f 12

def flagsReserved (f : Nat) : Bool :=
  decide (f / 2 ^ 13 ≠ 0) || bit f 7 || decide (8 ≤ flagRole f) || decide (5 ≤ flagPlace f)

/-- A combination that R188 or R189 forbids. -/
def flagsBad (f : Nat) : Bool :=
  (decide (flagPlace f ≠ 0) && decide (flagPlace f ≠ 1) && decide (flagCore f ≠ 0))
    || (decide (flagPlace f ≠ 2) && flagBoard f)
    || (decide (flagRole f = 3) && decide (flagPlace f ≠ 0) && decide (flagPlace f ≠ 3))

/-- A range that touches page 0 or runs past 2^48 (R192). -/
def rangeBad (va pages : Nat) : Bool :=
  decide (0 < pages) && (decide (vpage va = 0) || decide (vpages < va / Config.pageBytes + pages))

def misaligned (va : Nat) : Bool := decide (va % Config.pageBytes ≠ 0)

/-! Frames in use and free (R178, R190) -/

/-- Pages of a context's save areas and ladder area, in the package tier (R141): whole pages of the sum over its cores and the
ladder area, once per context (the model's choice, log 63). -/
def savePages (d : Desc) : Nat :=
  let bytes := ((List.range 8).map fun n =>
    if bit d.mask n then
      let e := d.core n
      let gs := [e.fGrant, e.bGrant, e.uGrant]
      e.bankCount * 524288 + (gs.map (·.accCount)).sum * 262144 + (gs.map (·.spillCount)).sum * 524288
        + 6 * 131072 + (gs.map (·.vregCount)).sum * 4096 + 131072
    else 0).sum + 65536
  ceilDiv bytes Config.pageBytes

/-- The frames that a slot's enclosure holds. -/
def State.enclFrames (s : State) (encl : Nat) : List Nat :=
  let mine := fun slot => decide (s.enclOfSlot slot = some encl)
  ((s.tiers.pt.filter fun p => mine (p.1 / vpages)).map (·.2.frame)
    ++ (s.tiers.moves.filter fun m => mine m.slot).map (·.dest)
    ++ ((s.tiers.wins.filter fun w => mine w.slot).map (·.frames)).flatten).dedup

/-- Package pages of the save areas of an enclosure's loaded contexts. -/
def State.enclSaves (s : State) (encl : Nat) : Nat :=
  ((s.ctxs.filter fun p => decide (p.2.st ≠ .none) && decide (p.1 ≠ replaySlot) && decide (s.enclOfSlot p.1 = some encl)).map
    fun p => savePages p.2.desc).sum

/-- Package pages of the save areas of every loaded context. -/
def State.allSaves (s : State) : Nat :=
  ((s.ctxs.filter fun p => decide (p.2.st ≠ .none) && decide (p.1 ≠ replaySlot)).map fun p => savePages p.2.desc).sum

/-- A pool of pages: the near tier of a core, the package tier, or the board tier. -/
inductive Pool where | near (n : Nat) | package | board
  deriving DecidableEq, Repr

def Pool.base : Pool → Nat
  | .near n => n * Config.nearPagesPerCore
  | .package => packageBase
  | .board => boardBase

def Pool.size (s : State) : Pool → Nat
  | .near _ => Config.nearPagesPerCore
  | .package => Config.packagePages
  | .board => s.boardPages

def Pool.has (s : State) (p : Pool) (f : Nat) : Bool := decide (p.base ≤ f) && decide (f < p.base + p.size s)

/-- Pages of the enclosure's carve-out of a pool (R322). -/
def Pool.carve (e : EnclEntry) : Pool → Nat
  | .near n => e.nearPages.getD n 0
  | .package => e.pkgPages
  | .board => e.brdPages

/-- Pages of a pool that nothing holds or has reserved. -/
def State.poolFree (s : State) (p : Pool) : Nat :=
  p.size s - ((s.usedFrames.dedup.filter (p.has s)).length
    + (if p = .package then Config.reservedPages + s.allSaves else 0))

/-- Pages of a pool that TIER.FREEn shows: mapped in no address space and held by no window, less reserved and retired ones
(R207). -/
def State.pagesShown (s : State) (p : Pool) : Nat :=
  let held := s.tiers.pt.map (·.2.frame) ++ (s.tiers.wins.map (·.frames)).flatten ++ s.tiers.lost
  p.size s - ((held.dedup.filter (p.has s)).length + if p = .package then Config.reservedPages else 0)

/-- Pages the carve-out can still supply, `extra` of them taken already; after a region retires, no more than are
left (R205). A page of a retired region, which is leaving it or has lost its bytes, takes no room. -/
def State.poolRoom (s : State) (encl : Nat) (p : Pool) (extra : Nat) : Nat :=
  min (s.poolFree p - extra) (p.carve (s.entry encl)
    - (((s.enclFrames encl).filter fun f => p.has s f && decide (f ∉ s.tiers.lost)).length
    + (if p = .package then s.enclSaves encl else 0) + extra))

/-- The pools that a placement takes pages from, in order (R189, R190). -/
def placePools (f : Nat) : List Pool :=
  match flagPlace f with
  | 1 => [.near (flagCore f)]
  | 2 => [if flagBoard f then .board else .package]
  | 3 => [.package]
  | 4 => [.board]
  | _ => if flagRole f = 3 then [.package] else [.near (flagCore f), .package, .board]

/-- The first pool of the list with room, `taken` counting the pages taken so far by pool. -/
def pickPool (s : State) (encl : Nat) (taken : List Pool) (ps : List Pool) : Option Pool :=
  ps.find? fun p => decide (0 < s.poolRoom encl p (taken.filter fun q => decide (q = p)).length)

/-- Choose `n` pages; none where the carve-outs cannot supply them. -/
def pickPools (s : State) (encl : Nat) (ps : List Pool) : Nat → List Pool → Option (List Pool)
  | 0, taken => some taken
  | n + 1, taken =>
    match pickPool s encl taken ps with
    | none => none
    | some p => pickPools s encl ps n (taken ++ [p])

/-- A free frame of a pool. -/
def State.freeFrame (s : State) (p : Pool) : Nat :=
  let used := s.usedFrames
  nextFree used (used.length + 1) (p.base + if p = .package then Config.reservedPages else 0)

/-- Give a near page its enclosure's tag (R339). -/
def State.tagFrame (s : State) (encl frame : Nat) : State :=
  if tierOf frame = .near then { s with tiers := { s.tiers with tags := Tbl.put s.tiers.tags frame encl } } else s

/-- Map zero-filled pages from `vp` on, one of each pool (R190). -/
def mapPools (slot encl : Nat) : Nat → List Pool → State → State
  | _, [], s => s
  | vp, p :: ps, s =>
    let f := s.freeFrame p
    mapPools slot encl (vp + 1) ps (((s.zeroFrame f).tagFrame encl f).setPte slot vp { frame := f })

/-! ALLOC (R189, R190) -/

def State.anyMapped (s : State) (slot va pages : Nat) : Bool :=
  (List.range pages).any fun i => s.mappedPage slot (vpage va + i)

def tierAlloc (slot encl : Nat) (e : BitVec 512) (s : State) : CmdOut :=
  let va := entWord e 1
  let n := entWord e 2
  let f := entWord e 3
  let pv := entWord e 4
  let param := decide (flagRole f = 1)
  let st := firstOf [
    (decide (entWord e 0 / 256 ≠ 0) || decide (addrTop ≤ va) || decide (2 ^ 32 ≤ n) || flagsReserved f
      || decide (addrTop ≤ pv) || (!param && decide (pv ≠ 0)) || decide (entWord e 5 ≠ 0) || decide (entWord e 6 ≠ 0),
      tierReserved),
    (misaligned va || rangeBad va n || (param && (misaligned pv || rangeBad pv n)), allocBadAddr),
    (flagsBad f || decide (flagRole f = 2) || (param && decide (pv = 0)), allocBadFlags)]
  match st with
  | some k => .done s k
  | none =>
    if n = 0 then .done s 0
    else if s.anyMapped slot va n || (param && (s.anyMapped slot pv n
        || (decide (vpage va < vpage pv + n) && decide (vpage pv < vpage va + n)))) then .done s allocOverlap
    else match pickPools s encl (placePools f) (if param then 2 * n else n) [] with
      | none => .done s allocNoSpace
      | some ps =>
        let s1 := mapPools slot encl (vpage va) (ps.take n) s
        let s2 := if param then mapPools slot encl (vpage pv) (ps.drop n) s1 else s1
        let o1 : AllocObj := { slot := slot, base := va, pages := n, flags := f, partner := if param then some pv else none }
        let o2 : AllocObj := { slot := slot, base := pv, pages := n, flags := f - at_ 1 8 + at_ 2 8, partner := some va }
        .done { s2 with tiers := { s2.tiers with objs := s2.tiers.objs ++ if param then [o1, o2] else [o1] } } 0

/-! FREE (R191) -/

/-- Whether the slot's context is resident. -/
def State.resident (s : State) (slot : Nat) : Bool := s.cores.any fun p => decide (p.2.resident = some slot)

/-- A DWT window, open or closing, covers a page of the range (R191). -/
def State.dwtCovers (s : State) (slot va pages : Nat) : Bool :=
  s.dwt.wins.any fun p => decide (p.2.st ≠ .closed) && decide (p.2.ctx = slot) && decide (0 < p.2.size)
    && decide (p.2.base < va + pages * Config.pageBytes) && decide (va < p.2.base + p.2.size)

/-- A streaming window reads the range or maps its view there (R191). -/
def State.swinTouches (s : State) (slot va pages : Nat) : Bool :=
  s.tiers.wins.any fun w => decide (w.slot = slot) &&
    ((decide (vpage w.src < vpage va + pages) && decide (vpage va < vpage w.src + w.srcPages))
      || (decide (vpage w.view < vpage va + pages) && decide (vpage va < vpage w.view + w.viewPages)))

/-- The newest object whose bounds hold the range. -/
def State.objHolding (s : State) (slot va pages : Nat) : Option AllocObj :=
  s.tiers.objs.reverse.find? fun o => decide (o.slot = slot) && decide (vpage o.base ≤ vpage va)
    && decide (vpage va + pages ≤ vpage o.base + o.pages)

/-- Unmap the pages of an object in a range; pages of another object there are skipped. -/
def unmapRange (slot : Nat) (o : AllocObj) (va pages : Nat) (s : State) : State :=
  (List.range pages).foldl (fun u i =>
    if s.objOf slot (vpage va + i) = some o then
      let u1 := u.dropPte slot (vpage va + i)
      { u1 with tiers := { u1.tiers with moves := u1.tiers.moves.filter fun m =>
          !(decide (m.slot = slot) && decide (m.vpage = vpage va + i)) } }
    else u) s

/-- An object with no page left ends. -/
def endObj (o : AllocObj) (s : State) : State :=
  if (List.range o.pages).any fun i => decide (s.objOf o.slot (vpage o.base + i) = some o) && (s.pte o.slot (vpage o.base + i)).isSome
  then s else { s with tiers := { s.tiers with objs := s.tiers.objs.filter fun p => decide (p ≠ o) } }

/-- The range of a FREE, and the same pages of the partner (R191). -/
def State.freeBases (s : State) (slot va pages : Nat) : List Nat :=
  match s.objHolding slot va pages with
  | none => [va]
  | some o =>
    match s.partnerOf o with
    | some q => [va, q.base + (va - o.base)]
    | none => [va]

/-- The effect of a FREE, on the partner too. -/
def freeRange (slot va pages : Nat) (s : State) : State :=
  match s.objHolding slot va pages with
  | none => s
  | some o =>
    let s1 := unmapRange slot o va pages s
    match s.partnerOf o with
    | some q => endObj q (endObj o (unmapRange slot q (q.base + (va - o.base)) pages s1))
    | none => endObj o s1

def tierFree (slot : Nat) (atMeridian : Bool) (e : BitVec 512) (s : State) : CmdOut :=
  let va := entWord e 1
  let n := entWord e 2
  let st := firstOf [
    (decide (entWord e 0 / 256 ≠ 0) || decide (addrTop ≤ va) || decide (2 ^ 32 ≤ n)
      || [3, 4, 5, 6].any fun k => decide (entWord e k ≠ 0), tierReserved),
    (misaligned va || rangeBad va n, allocBadAddr),
    (decide (0 < n) && (s.objHolding slot va n).isNone, allocNotFound),
    (decide (0 < n) && (s.freeBases slot va n).any fun b => s.dwtCovers slot b n, allocWindowOpen),
    (decide (0 < n) && (s.freeBases slot va n).any fun b => s.swinTouches slot b n, swinActive)]
  match st with
  | some k => .done s k
  | none =>
    if n = 0 then .done s 0
    else if s.resident slot && !atMeridian then ⟨s, none⟩
    else .done (freeRange slot va n s) 0

/-! MIGRATE and page moves (R192, R204) -/

/-- The pool that holds a frame. -/
def poolOf (f : Nat) : Pool :=
  match tierOf f with
  | .near => .near (f / Config.nearPagesPerCore)
  | .package => .package
  | .board => .board

/-- The moves of a page that are pending or under way. -/
def State.movesAt (s : State) (slot vp : Nat) : List Move :=
  s.tiers.moves.filter fun m => decide (m.slot = slot) && decide (m.vpage = vp)

/-- Where a page comes to lie once its pending moves are done. -/
def State.goesTo (s : State) (slot vp : Nat) (p : Pte) : Nat := (((s.movesAt slot vp).getLast?).map (·.dest)).getD p.frame

/-- The page of a move that is given up stays where it is. -/
def State.stayPut (s : State) (m : Move) : State :=
  match s.pte m.slot m.vpage with
  | some p => if p.moving = some m.dest then (s.leaveFrame m.dest).setPte m.slot m.vpage { p with moving := none } else s
  | none => s

/-- Moves that are given up. -/
def cancelMoves (f : Move → Bool) (s : State) : State :=
  let t := (s.tiers.moves.filter f).foldl State.stayPut s
  { t with tiers := { t.tiers with moves := t.tiers.moves.filter fun m => !f m } }

/-- No page of the slot is moved to rebalance any longer (R190). -/
def endRebalance (slot : Nat) (s : State) : State := cancelMoves (fun m => m.rebal && decide (m.slot = slot)) s

/-- Choose a pool for each mapped page in ascending order; a page that lies in its chosen pool, or is on its way there, stays
(R192). -/
def planMoves (s : State) (slot encl : Nat) (ps : List Pool) : List Nat → List Pool → Option (List (Nat × Pool))
  | [], _ => some []
  | vp :: vps, taken =>
    match s.pte slot vp with
    | none => planMoves s slot encl ps vps taken
    | some p =>
      let here := poolOf (s.goesTo slot vp p)
      let room := fun q => decide (q = here) || decide (0 < s.poolRoom encl q (taken.filter fun t => decide (t = q)).length)
      match ps.find? room with
      | none => none
      | some q =>
        if q = here then planMoves s slot encl ps vps taken
        else (planMoves s slot encl ps vps (taken ++ [q])).map fun l => (vp, q) :: l

/-- Reserve a frame for each planned move. -/
def reserveMoves (slot : Nat) (retire : Bool) (rebal : Bool := false) : List (Nat × Pool) → State → State
  | [], s => s
  | (vp, p) :: l, s =>
    let f := s.freeFrame p
    reserveMoves slot retire rebal l { s with tiers := { s.tiers with moves := s.tiers.moves ++ [⟨slot, vp, f, retire, rebal⟩] } }

/-- The pages of an object; what another allocation has over its holes is not among them. -/
def State.ownPages (s : State) (o : AllocObj) : List Nat :=
  ((List.range o.pages).map fun i => vpage o.base + i).filter fun vp => decide (s.objOf o.slot vp = some o)

/-- The pages of an object and of its partner. -/
def State.objPages (s : State) (o : AllocObj) : List Nat :=
  match s.partnerOf o with
  | some q => s.ownPages o ++ s.ownPages q
  | none => s.ownPages o

/-- Whether a page move of the object is pending. -/
def State.movesOf (s : State) (o : AllocObj) : Bool :=
  s.tiers.moves.any fun m => decide (m.slot = o.slot) && decide (m.vpage ∈ s.objPages o)

def setPlace (f g : Nat) : Nat := f / 128 * 128 + g % 128

/-- MIGRATE: it ends whatever rebalancing of the address space is under way, and it completes when no move of its pages is
pending. -/
def tierMigrate (slot encl : Nat) (started : Bool) (e : BitVec 512) (s0 : State) : CmdOut :=
  let s := if started then s0 else endRebalance slot s0
  let va := entWord e 1
  let f := entWord e 3
  let o := s.objAt slot va
  if started then
    match o with
    | some o => if s.movesOf o then ⟨s, none⟩ else .done s 0
    | none => .done s 0
  else
    let flags := (o.map (·.flags)).getD 0
    let st := firstOf [
      (decide (entWord e 0 / 256 ≠ 0) || decide (addrTop ≤ va) || flagsReserved f
        || [2, 4, 5, 6].any fun k => decide (entWord e k ≠ 0), tierReserved),
      (misaligned va || rangeBad va 1, allocBadAddr),
      (o.isNone, allocNotFound),
      (flagsBad f || decide (flagRole f ≠ flagRole flags) || decide (flagExclude f ≠ flagExclude flags), allocBadFlags),
      (decide (flagPlace flags = 2) && decide (flagPlace f ≠ 2)
        && s.tiers.wins.any (fun w => decide (w.slot = slot)
          && (decide (s.srcOf w = o) || decide (s.srcOf w = o.bind s.partnerOf))), swinActive)]
    match st, o with
    | some k, _ => .done s0 k
    | none, none => .done s0 allocNotFound
    | none, some o =>
      match planMoves s slot encl (placePools f) (s.objPages o) [] with
      | none => .done s0 allocNoSpace
      | some l =>
        let s1 := reserveMoves slot false false l s
        let upd := fun p : AllocObj =>
          if p = o ∨ some p = s.partnerOf o then { p with flags := setPlace p.flags f } else p
        let s2 := { s1 with tiers := { s1.tiers with objs := s1.tiers.objs.map upd } }
        if s1.movesOf o then ⟨s2, none⟩ else .done s2 0

/-- A page of a LIST view that moves is the window's page too. -/
def SWin.moved (slot old new : Nat) (w : SWin) : SWin :=
  if w.slot = slot then { w with frames := w.frames.map fun f => if f = old then new else f } else w

/-- Finish the page that is moving: its mapping changes in one step (R204). What a fill brought into a page of a LIST view
meanwhile goes with it. -/
def endMove (m : Move) (s : State) : State :=
  match s.pte m.slot m.vpage with
  | some p =>
    let u := if (s.objOf m.slot m.vpage).isNone then s.copyFrame p.frame m.dest else s
    let s0 := ((u.leaveFrame p.frame).setPte m.slot m.vpage { p with frame := m.dest, moving := none }).tagFrame
      ((s.enclOfSlot m.slot).getD 0xFF) m.dest
    let s1 := { s0 with tiers := { s0.tiers with wins := s0.tiers.wins.map (SWin.moved m.slot p.frame m.dest) } }
    { s1 with tiers := { s1.tiers with moves := s1.tiers.moves.drop 1, movesDone := (s1.tiers.movesDone + 1) % 2 ^ 32 } }
  | none => { s with tiers := { s.tiers with moves := s.tiers.moves.drop 1 } }

/-- Begin the next pending page: its copy is made and writes go to both locations (R204). -/
def beginMove (s : State) : State :=
  match s.tiers.moves with
  | [] => s
  | m :: _ =>
    match s.pte m.slot m.vpage with
    | some p => ((s.meetLines (p.frame * Config.pageBytes) Config.pageBytes).copyFrame p.frame m.dest).setPte m.slot m.vpage { p with moving := some m.dest }
    | none => s

/-- The ANY pages that may be moved to rebalance: their address space has no resident context, and its enclosure holds the
slot (R190). GRAD pages stay in the package tier (R189). -/
def State.anyPages (s : State) : List (Nat × Pte) :=
  s.tiers.pt.filter fun k =>
    let slot := k.1 / vpages
    !s.resident slot && (s.enclOfSlot slot).isSome && decide (k.2.frame ∉ s.tiers.lost)
      && ((s.objOf slot (k.1 % vpages)).map fun o => decide (flagPlace o.flags = 0) && decide (flagRole o.flags ≠ 3)).getD false

/-- With nothing to move the tier manager may rebalance an ANY page (R190, R204): whether, which and where to are its own
affair, so a free value decides among the pages and the pools of their placement (log 55). -/
def rebalance (s : State) : State :=
  let ps := s.anyPages
  let w := s.free.toNat
  match ps[w / 8 % (ps.length + 1)]? with
  | none => if ps.isEmpty then s else s.drawn 1
  | some k =>
    let slot := k.1 / vpages
    let pools := ((s.objOf slot (k.1 % vpages)).map fun o => placePools o.flags).getD []
    match pools[w % 8]? with
    | none => s.drawn 1
    | some p =>
      if p = poolOf k.2.frame ∨ s.poolRoom ((s.enclOfSlot slot).getD 0xFF) p 0 = 0 then s.drawn 1
      else beginMove (reserveMoves slot false true [(k.1 % vpages, p)] (s.drawn 1))

/-- One page of migration: the page that is moving switches, and the next pending one begins. A retrain of either tier holds it
(R425), and so does a replay of its context (R370). -/
def pageMove (s : State) : State :=
  match s.tiers.moves with
  | [] => if s.replayed.isSome then s else rebalance s
  | m :: _ =>
    if decide (s.replayed = some m.slot) || s.trains m.dest || ((s.pte m.slot m.vpage).map fun p => s.trains p.frame).getD false then s
    else match s.pte m.slot m.vpage with
    | some p => if p.moving.isSome then beginMove (endMove m s) else beginMove s
    | none => beginMove (endMove m s)

/-! Streaming windows (R193 to R200) -/

/-- A layer-list entry of 16 bytes: OFFSET, LENGTH, and whether it is in order (R194). -/
def readListEnt (b : List Byte) (slotBytes srcBytes : Nat) : (Nat × Nat) × Bool :=
  let w0 := leNat (b.take 8)
  let w1 := leNat ((b.drop 8).take 8)
  ((bits w0 47 0, bits w1 31 0),
    decide (w0 < addrTop) && decide (w1 < 2 ^ 32) && decide (w0 % 64 = 0) && decide (w1 % 64 = 0)
      && decide (w1 ≤ slotBytes) && decide (w0 + w1 ≤ srcBytes))

/-- The pages of a new window: zeroed, tagged, and in LIST mode mapped at the view. -/
def takeFrames (slot encl core : Nat) (view : Option Nat) : Nat → Nat → State → State × List Nat
  | 0, _, s => (s, [])
  | n + 1, i, s =>
    let f := nextFree s.usedFrames (s.usedFrames.length + n + 1) (core * Config.nearPagesPerCore + 0)
    let s1 := (s.zeroFrame f).tagFrame encl f
    let s2 := match view with
      | some v => s1.setPte slot (v + i) { frame := f }
      | none => { s1 with tiers := { s1.tiers with moves := s1.tiers.moves ++ [{ slot := slot, vpage := 0, dest := f }] } }
    let r := takeFrames slot encl core view n (i + 1) s2
    (r.1, f :: r.2)

def tierWinCreate (slot encl : Nat) (e : BitVec 512) (s : State) : CmdOut :=
  let src := entWord e 1
  let count := entWord e 2
  let w := entWord e 3
  let view := entWord e 4
  let lva := entWord e 5
  let rva := entWord e 6
  let follow := bit w 3
  let core := bits w 2 0
  let depth := bits w 7 4 + 1
  let slotPages := bits w 15 8 + 1
  let runahead := bits w 19 16
  let fill := bits w 35 20
  let rel := bits w 51 36
  let o := s.objAt slot src
  let srcPages := (o.map (·.pages)).getD 0
  let vpgs := if follow then srcPages else depth * slotPages
  let m := s.readVA slot lva (16 * count)
  let ents := (chunks 16 m.bytes.length m.bytes).map fun b =>
    readListEnt b (slotPages * Config.pageBytes) (srcPages * Config.pageBytes)
  let en := s.entry encl
  let st := firstOf [
    (decide (entWord e 0 / 256 ≠ 0) || decide (addrTop ≤ src) || decide (2 ^ 16 ≤ count) || decide (2 ^ 52 ≤ w)
      || decide (9 ≤ runahead) || (!follow && decide (runahead ≠ 0)) || decide (addrTop ≤ view) || decide (addrTop ≤ lva)
      || decide (addrTop ≤ rva) || (follow && (decide (count ≠ 0) || decide (fill ≠ 0) || decide (rel ≠ 0))), tierReserved),
    (misaligned src || misaligned view || rangeBad view vpgs || decide (vpage view = 0) || decide (lva % 64 ≠ 0)
      || decide (rva % 64 ≠ 0) || (!follow && decide (0 < count) && !s.mapped slot lva (16 * count)), allocBadAddr),
    (o.isNone, allocNotFound),
    (s.anyMapped slot view vpgs, allocOverlap),
    ((o.map fun o => decide (flagPlace o.flags ≠ 2)).getD false, swinNotStream),
    (!follow && ents.any fun p => !p.2, swinBadList),
    (!follow && [fill, rel].any (fun k => !(decide (en.ctrBase ≤ k) && decide (k < en.ctrBase + en.ctrCount))), swinCounterRange),
    (decide (32 ≤ (s.tiers.wins.filter fun v => decide (v.core = core)).length) || decide (256 ≤ s.tiers.wins.length), swinLimit),
    (decide (s.poolRoom encl (.near core) 0 < depth * slotPages), allocNoSpace)]
  match st with
  | some k => .done s k
  | none =>
    let moves := s.tiers.moves
    let r := takeFrames slot encl core (if follow then none else some (vpage view)) (depth * slotPages) 0 m.s
    let win : SWin :=
      { slot := slot, core := core, view := view, src := src, srcPages := srcPages, follow := follow, depth := depth, slotPages := slotPages,
        runahead := runahead, list := ents.map Prod.fst, fillCtr := fill, relCtr := rel, record := rva, frames := r.2 }
    .done { r.1 with tiers := { r.1.tiers with wins := r.1.tiers.wins ++ [win], moves := moves } } 0

/-- The 64-byte record of a window (R199). -/
def SWin.recordBytes (w : SWin) : List Byte :=
  leBytes 8 w.filled ++ leBytes 8 w.stale ++ leBytes 8 w.stops ++ leBytes 8 w.fetched
    ++ leBytes 8 (if w.follow then 0 else w.pos) ++ leBytes 24 0

/-- Write the records of a slot's windows (R199). -/
def writeWinRecords (slot : Nat) (s : State) : State :=
  (s.tiers.wins.filter fun w => decide (w.slot = slot)).foldl (fun u w => u.writeVA slot w.record w.recordBytes) s

/-- End a window: its record is written, its view unmapped with the moves of its pages, its pages returned (R200). -/
def destroyWin (w : SWin) (s : State) : State :=
  let s1 := s.writeVA w.slot w.record w.recordBytes
  let s2 := if w.follow then s1
    else (List.range (w.depth * w.slotPages)).foldl (fun u i => u.dropPte w.slot (vpage w.view + i)) s1
  { s2 with tiers := { s2.tiers with
      wins := s2.tiers.wins.filter fun v => !(decide (v.slot = w.slot) && decide (v.view = w.view))
      moves := s2.tiers.moves.filter fun m => w.follow || !(decide (m.slot = w.slot) && decide (vpage w.view ≤ m.vpage)
        && decide (m.vpage < vpage w.view + w.viewPages)) } }

def tierWinDestroy (slot : Nat) (atMeridian : Bool) (e : BitVec 512) (s : State) : CmdOut :=
  let view := entWord e 1
  let w := s.tiers.wins.find? fun w => decide (w.slot = slot) && decide (w.view = view)
  let st := firstOf [
    (decide (entWord e 0 / 256 ≠ 0) || decide (addrTop ≤ view)
      || [2, 3, 4, 5, 6].any fun k => decide (entWord e k ≠ 0), tierReserved),
    (misaligned view || rangeBad view 1, allocBadAddr),
    (w.isNone, allocNotFound)]
  match st, w with
  | some k, _ => .done s k
  | none, none => .done s allocNotFound
  | none, some w => if s.resident slot && !atMeridian then ⟨s, none⟩ else .done (destroyWin w s) 0

/-- One tier command of a slot (R186, R187). `started` says that it was found in order before. -/
def tierCommand (slot encl : Nat) (atMeridian started : Bool) (e : BitVec 512) (s : State) : CmdOut :=
  match entOp e with
  | 1 => tierAlloc slot encl e s
  | 2 => tierFree slot atMeridian e s
  | 3 => tierMigrate slot encl started e s
  | 4 => tierWinCreate slot encl e s
  | 5 => tierWinDestroy slot atMeridian e s
  | _ => .done s tierReserved

/-- The window of a slot with a view base, by its place. -/
def State.winAt (s : State) (slot view : Nat) : Option (Nat × SWin) :=
  (s.tiers.wins.zipIdx.find? fun p => decide (p.1.slot = slot) && decide (p.1.view = view)).map fun p => (p.2, p.1)

/-- Begin the copy of the next entry of a LIST window, once its slot is free (R195). -/
def fillStart (slot view : Nat) (s : State) : State :=
  match s.winAt slot view with
  | none => s
  | some (k, w) =>
    if w.follow || w.list.isEmpty || w.copying.isSome || w.held then s
    else if !(decide (w.pos < w.depth) || decide (w.pos - w.depth + 1 ≤ s.counter w.relCtr)) then s
    else
      let c := w.pos % w.depth
      let w1 := { w with copying := some w.pos, entryIn := Tbl.put w.entryIn c w.pos }
      let pages := (List.range w.slotPages).foldl (fun t i =>
        let srcs := match w1.pageExtent (c * w.slotPages + i) with
          | some x => s.gensOf w x.1 x.2
          | none => []
        Tbl.put t (c * w.slotPages + i) { srcs := srcs }) w.pages
      s.setSwin k { w1 with pages := pages }

/-- WINDOW_FILL_START. -/
def execWindowFillStart (slot : SlotId) (view : W48) (s : State) : Host.Outcome State Fault Refusal :=
  .next (s.settle (fillStart slot.val view.toNat s))

/-- The last byte of the entry being copied is in its slot: FILL_CTR rises; after the last entry of a pass
filling stops until the next meridian (R195). -/
def entryLanded (slot view : Nat) (s : State) : State :=
  match s.winAt slot view with
  | none => s
  | some (k, w) =>
    match w.copying with
    | none => s
    | some p =>
      let c := p % w.depth
      let s1 := (List.range w.slotPages).foldl (fun u i => landPage w u (c * w.slotPages + i)) s
      let w1 := { w with copying := none, pos := p + 1, filled := w.filled + 1
                         held := decide ((p + 1) % w.list.length = 0) }
      ((s1.setSwin k w1).markOther slot (w.fillCtr - (s.ctx slot).desc.ctrBase)).raiseCtr w.fillCtr 1

/-- WINDOW_ENTRY_LANDED. -/
def execWindowEntryLanded (slot : SlotId) (view : W48) (s : State) : Host.Outcome State Fault Refusal :=
  .next (s.settle (entryLanded slot.val view.toNat s))

/-- Fetch pages ahead of a demand fetch until RUNAHEAD or the first that is unmapped, of another object or
beyond the source (R198). -/
def runahead (slot view first : Nat) : Nat → Nat → State → State
  | 0, _, s => s
  | n + 1, i, s =>
    match s.winAt slot view with
    | none => s
    | some (k, w) =>
      let vp := first + i
      let ok := match s.srcOf w with
        | some o => decide (s.objOf slot vp = some o) && (s.pte slot vp).isSome && decide (vp < vpage o.base + o.pages)
        | none => false
      if !ok then s.setSwin k { w with stops := w.stops + 1 }
      else if w.cache.any fun p => decide (p.1 = vp) then runahead slot view first n (i + 1) s
      else
        let r := s.followFetch k vp
        let s1 := match r.1.tiers.wins[k]? with
          | some w1 => r.1.setSwin k { w1 with fetched := w1.fetched + 1 }
          | none => r.1
        runahead slot view first n (i + 1) s1

/-- The run-ahead after the demand fetch of a page, once. -/
def aheadFetch (slot view page : Nat) (s : State) : State :=
  match s.winAt slot view with
  | some (k, w) =>
    let vp := vpage w.src + page
    if w.follow && decide (vp ∈ w.ahead) then
      runahead slot view vp w.runahead 1 (s.setSwin k { w with ahead := w.ahead.filter fun q => decide (q ≠ vp) })
    else s
  | none => s

/-- RUNAHEAD_FETCH: `page` is the source page, from 0, that a demand read fetched. -/
def execRunaheadFetch (slot : SlotId) (view : W48) (page : Nat) (s : State) : Host.Outcome State Fault Refusal :=
  .next (aheadFetch slot.val view.toNat page s)

/-! Patrol scrub (R180, R181) -/

/-- A complete patrol pass reads every line: it finds the errors that no read has met, and those of its row, the corrected
lines and the lines found uncorrectable, by physical line. -/
def patrol (corrected : List Nat) (failed : List Nat) (s : State) : State :=
  if s.tiers.intervalH = 0 then s
  else
    let s0 := s.tiers.latent.foldl State.meetErr { s with tiers := { s.tiers with latent := [] } }
    let s1 := corrected.foldl State.foundCe s0
    let s2 := failed.foldl State.addUe s1
    { s2 with tiers := { s2.tiers with passes := (s2.tiers.passes + 1) % 2 ^ 32 } }

/-- PATROL_SCRUB. -/
def execPatrolScrub (corrected : List Nat) (failed : List Nat) (s : State) : Host.Outcome State Fault Refusal :=
  .next (patrol corrected failed s)

/-! Spares (R182, R375) -/

/-- The half-stacks, side stacks or fitted sites of a tier. -/
def State.sparePools (s : State) : Tier → Nat
  | .near => 8 | .package => 8
  | .board => if s.fuse.ordering = 0 then 16 else 8

/-- The spare rows or banks of one pool. -/
def poolSpares : Tier → Bool → Nat
  | .near, true => 4 | .near, false => 512
  | .package, true => 8 | .package, false => 2048
  | .board, true => 2 | .board, false => 512

/-- The key of a pool. -/
def sparePool (t : Tier) (pool : Nat) : Nat := tierNum t * 32 + pool

/-- The spare rows or banks of a tier that are unused: the fitted ones less those taken (R207). -/
def State.sparesFree (s : State) (t : Tier) (bank : Bool) : Nat :=
  s.sparePools t * poolSpares t bank
    - ((List.range 32).map fun p => Tbl.get 0 (if bank then s.tiers.banksUsed else s.tiers.rowsUsed) (sparePool t p)).sum

/-! Retirement of a region, and displacement (R205) -/

/-- The pools further out. -/
def Pool.outward : Pool → List Pool
  | .near _ => [.package, .board]
  | .package => [.board]
  | .board => []

/-- An allocation whose page leaves its tier is displaced. -/
def displaceObj (o : AllocObj) (s : State) : State :=
  if o.displaced then s
  else
    let mark := fun p : AllocObj => if p = o then { p with displaced := true } else p
    let s1 := { s with tiers := { s.tiers with objs := s.tiers.objs.map mark } }
    let s2 := s1.logEv { ev 2 0x06 0x41 with slot := o.slot, encl := (s.enclOfSlot o.slot).getD 0xFF }
    s2.errTier 7

/-- Every line of a frame is poisoned. -/
def poisonFrame (f : Nat) (s : State) : State :=
  { s with tiers := { s.tiers with poison := s.tiers.poison ++ (List.range 32768).map fun i => f * 32768 + i } }

/-- An allocation whose pages may lie in any tier; GRAD pages lie in the package tier whatever their PLACE (R189). -/
def AllocObj.anyPlace (o : AllocObj) : Bool := decide (flagPlace o.flags = 0) && decide (flagRole o.flags ≠ 3)

/-- One page of a retired region: it moves within its tier, an ANY page also further out, a pinned one is displaced to
the next tier, a page of a LIST view with it; with no room its bytes are lost. -/
def retirePage (s : State) (k : Nat × Pte) : State :=
  let slot := k.1 / vpages
  let vp := k.1 % vpages
  let here := poolOf k.2.frame
  match s.enclOfSlot slot with
  | none => s
  | some encl =>
    let o := s.objOf slot vp
    let any := (o.map AllocObj.anyPlace).getD false
    let ps := here :: (if any then here.outward else here.outward.take 1)
    match ps.find? fun p => decide (0 < s.poolRoom encl p 0) with
    | some p =>
      let s1 := reserveMoves slot true false [(vp, p)] s
      if any || decide (p = here) then s1
      else match o with
        | some o => displaceObj o s1
        | none => s1
    | none => poisonFrame k.2.frame s

/-- A move that was to end in a retired region: a page that must leave a retired region leaves it for elsewhere, one that a MIGRATE
or a return moves goes elsewhere in the tier it was bound for, or to the next outward, and one that was rebalanced stays. -/
def retarget (s : State) (m : Move) : State :=
  match s.pte m.slot m.vpage, s.enclOfSlot m.slot with
  | some p, some encl =>
    let o := s.objOf m.slot m.vpage
    let here := poolOf m.dest
    if !(s.movesAt m.slot m.vpage).isEmpty then s
    else if p.frame ∈ s.tiers.lost then retirePage s (m.slot * vpages + m.vpage, p)
    else if m.rebal then s
    else match (here :: here.outward.take 1).find? fun q => decide (0 < s.poolRoom encl q 0) with
      | some q =>
        let s1 := reserveMoves m.slot false false [(m.vpage, q)] s
        if decide (q = here) || (o.map AllocObj.anyPlace).getD true then s1
        else match o with
          | some o => displaceObj o s1
          | none => s1
      | none => s
  | _, _ => s

/-- A FOLLOW window gives up a page of a retired region: it takes a free one in its place, which holds nothing yet. -/
def retireCache (gone : List Nat) (s : State) (k : Nat) : State :=
  match s.tiers.wins[k]? with
  | none => s
  | some w =>
    match w.follow, (List.range w.frames.length).find? fun i => decide (w.frames.getD i 0 ∈ gone) with
    | true, some i =>
      let f := s.freeFrame (.near w.core)
      let encl := (s.enclOfSlot w.slot).getD 0xFF
      if s.poolRoom encl (.near w.core) 0 = 0 then s
      else ((s.zeroFrame f).tagFrame encl f).setSwin k { w with
        frames := setAt w.frames i f, cache := w.cache.filter fun p => decide (p.2 ≠ i) }
    | _, _ => s

/-- The pages of FOLLOW windows in a retired region; those that found no room read as poisoned. -/
def retireCaches (gone : List Nat) (s : State) : State :=
  let t := gone.foldl (fun u _ => (List.range u.tiers.wins.length).foldl (retireCache gone) u) s
  (gone.filter fun f => t.tiers.wins.any fun w => w.follow && decide (f ∈ w.frames)).foldl (fun u f => poisonFrame f u) t

/-- The order of the moves: ANY pages, then other pages, GRAD pages last. -/
def State.retireRank (s : State) (k : Nat × Pte) : Nat :=
  match s.objOf (k.1 / vpages) (k.1 % vpages) with
  | some o => if o.anyPlace then 0 else if flagRole o.flags = 3 then 2 else 1
  | none => 1

/-- The tier manager retires the region of these frames. A page of it that is already on its way elsewhere goes there; a move into
it finds another end. -/
def retireRegion (region : List Nat) (s : State) : State :=
  let gone := region.filter fun f => decide (f ∉ s.tiers.lost)
  let s1 := State.logEv { s with tiers := { s.tiers with lost := s.tiers.lost ++ gone } } (ev 2 0x06 0x40)
  let into := fun m : Move => decide (m.dest ∈ gone)
  let s2 := cancelMoves into s1
  let leaves := fun m : Move => ((s2.pte m.slot m.vpage).map fun p => decide (p.frame ∈ gone)).getD false
  let s3 := { s2 with tiers := { s2.tiers with
    moves := s2.tiers.moves.map fun m => if leaves m then { m with retire := true, rebal := false } else m } }
  let hit := s3.tiers.pt.filter fun k => decide (k.2.frame ∈ gone) && (s3.movesAt (k.1 / vpages) (k.1 % vpages)).isEmpty
  let order := [0, 1, 2].flatMap fun r => hit.filter fun k => decide (s3.retireRank k = r)
  retireCaches gone ((s1.tiers.moves.filter into).foldl retarget (order.foldl retirePage s3))

/-- RETIRING: retirement moves are pending (R207). -/
def Tiers.retiring (t : Tiers) : Bool := t.moves.any (·.retire)

/-- Retirement moves of an allocation or its partner are pending. -/
def State.leaving (s : State) (o : AllocObj) : Bool :=
  s.tiers.moves.any fun m => m.retire && decide (m.slot = o.slot) && decide (m.vpage ∈ s.objPages o)

/-- A displaced allocation returns to its own tier once pages there are free, and once it has left; a displaced page may meanwhile
be the partner's (R206). -/
def displacedReturn (slot base : Nat) (s : State) : State :=
  match s.objAt slot base, s.enclOfSlot slot with
  | some o, some encl =>
    if !o.displaced || s.leaving o then s
    else match planMoves s slot encl ((placePools o.flags).take 1) (s.objPages o) [] with
      | none => s
      | some l =>
        let s1 := reserveMoves slot false false l s
        { s1 with tiers := { s1.tiers with
          objs := s1.tiers.objs.map fun p => if p = o then { p with displaced := false } else p } }
  | _, _ => s

/-- DISPLACED_RETURN. -/
def execDisplacedReturn (slot : SlotId) (base : W48) (s : State) : Host.Outcome State Fault Refusal :=
  .next (displacedReturn slot.val base.toNat s)

/-! The parameter exchange (R206) -/

/-- A page move follows its physical page through an exchange. -/
def Move.exchanged (slot vp vq : Nat) (m : Move) : Move :=
  if m.slot ≠ slot then m
  else if m.vpage = vp then { m with vpage := vq }
  else if m.vpage = vq then { m with vpage := vp }
  else m

/-- Page `i` of PARAM and of its partner exchange physical pages, with a move that is pending or under way; both generations
rise. -/
def exchangePage (slot vp vq : Nat) (s : State) : State :=
  match s.pte slot vp, s.pte slot vq with
  | some p, some q =>
    let t := (s.setPte slot vp { q with gen := (p.gen + 1) % addrTop }).setPte slot vq { p with gen := (q.gen + 1) % addrTop }
    { t with tiers := { t.tiers with moves := t.tiers.moves.map (Move.exchanged slot vp vq) } }
  | _, _ => s

def exchangeObj (o : AllocObj) (s : State) : State :=
  match flagRole o.flags, s.partnerOf o with
  | 1, some q => (s.ownPages o).foldl (fun u vp =>
      if s.objOf o.slot (vpage q.base + (vp - vpage o.base)) = some q then
        exchangePage o.slot vp (vpage q.base + (vp - vpage o.base)) u
      else u) s
  | _, _ => s

def exchangeParams (slot : Nat) (s : State) : State :=
  (s.tiers.objs.filter fun o => decide (o.slot = slot)).foldl (fun u o => exchangeObj o u) s

end Sys2Proof.Machine
end

