-- ==== Sys2Proof/Machine/Contexts.lean ====
section
/-! DEFINITION. Contexts: the descriptor and its checks, load, replacement, unload, switches, faults of a
context, measurements and the configuration digest (04 R115 to R120, R133 to R141; 03 R100, R113; 11 R342,
R343; 09 R278, R288). -/

namespace Sys2Proof.Machine

/-! The descriptor (R117) -/

/-- Word `k` of a list of bytes. -/
def wordAt (b : List Byte) (k : Nat) : Nat := leNat ((b.drop (8 * k)).take 8)

def readGrant (w : Nat) : Grant :=
  { present := bit w 48, vregBase := bits w 45 40, vregCount := bits w 38 32, spillBase := bits w 27 24
    spillCount := bits w 20 16, accBase := bits w 13 8, accCount := bits w 6 0 }

/-- A reserved bit of a grant word, or any bit of an absent stream's. -/
def grantResv (w : Nat) : Bool :=
  decide (w / 2 ^ 49 ≠ 0) || decide (bits w 47 46 ≠ 0) || bit w 39 || decide (bits w 31 28 ≠ 0)
    || decide (bits w 23 21 ≠ 0) || decide (bits w 15 14 ≠ 0) || bit w 7 || (!bit w 48 && decide (w ≠ 0))

def readEntry (b : List Byte) : CoreEntry :=
  let w := wordAt b
  { fpc := BitVec.ofNat 48 (w 0), bpc := BitVec.ofNat 48 (w 1), upc := BitVec.ofNat 48 (w 2)
    fGrant := readGrant (w 3), bGrant := readGrant (w 4), uGrant := readGrant (w 5)
    spillV := bits (w 6) 38 32, bankBase := bits (w 6) 22 16, bankCount := bits (w 6) 7 0 }

def entryResv (b : List Byte) : Bool :=
  let w := wordAt b
  [0, 1, 2].any (fun k => decide (w k / addrTop ≠ 0)) || [3, 4, 5].any (fun k => grantResv (w k))
    || decide (w 6 / 2 ^ 39 ≠ 0) || decide (bits (w 6) 31 23 ≠ 0) || decide (bits (w 6) 15 8 ≠ 0) || decide (w 7 ≠ 0)

def readDesc (h : List Byte) (es : List (List Byte)) : Desc :=
  let w := wordAt h
  let mask := bits (w 0) 15 8
  { mask := mask, recipeAddr := BitVec.ofNat 48 (w 1), statsAddr := BitVec.ofNat 48 (w 2)
    ctrCount := bits (w 3) 32 16, ctrBase := bits (w 3) 15 0, stepBase := BitVec.ofNat 64 (w 4)
    seed := BitVec.ofNat 256 (leNat ((h.drop 64).take 32))
    entries := (maskCores mask).zip (es.map readEntry) }

def headerResv (h : List Byte) : Bool :=
  let w := wordAt h
  decide (bits (w 0) 7 0 ≠ 1) || decide (w 0 / 65536 ≠ 0) || decide (w 1 / addrTop ≠ 0) || decide (w 2 / addrTop ≠ 0)
    || decide (w 3 / 2 ^ 33 ≠ 0) || [5, 6, 7, 12, 13, 14, 15].any fun k => decide (w k ≠ 0)

/-! The recipe table (R99, R100) -/

def recipeHeadResv (w : Nat) : Bool := decide (bits w 7 0 ≠ 1) || decide (w / 1024 ≠ 0)

def recipeEntResv (e : Nat) : Bool :=
  decide (e / 2 ^ 40 ≠ 0) || decide (bits e 31 29 ≠ 0) || decide (bits e 11 4 ≠ 0) || decide (8 ≤ bits e 3 0)
    || (decide (bits e 3 0 = 0) && decide (e ≠ 0))

def recipeEntFormat (e : Nat) : Bool :=
  (Fmt.ofCode (bits e 15 12)).isNone || (Fmt.ofCode (bits e 26 23)).isNone
    || (bit e 16 && decide (bits e 15 12 ∈ [0x0, 0x1, 0x2, 0xA]))

def recipeEntLadder (e : Nat) : Bool :=
  ((recFmt e).rungOf (recTop e)).isNone || (bit e 27 && decide (recTop e ≠ recFmt e))

def recipeEntRole (e : Nat) : Bool := decide (bits e 3 0 ∈ [1, 5, 6]) && !bit e 27

/-- The first status of the recipe table, cause by cause over the whole table. -/
def recipeStatus (r : List W64) : Option Nat :=
  let es := (List.range 16).map (recipeEnt r)
  firstOf [
    (recipeHeadResv (r.getD 0 0#64).toNat || es.any recipeEntResv, 0x40A),
    (es.any recipeEntFormat, 0x40B),
    (es.any recipeEntLadder, 0x40C),
    (es.any recipeEntRole, 0x40D)]

/-! The checks of R118 -/

/-- The grants of a core entry. -/
def CoreEntry.grants (e : CoreEntry) : List Grant := [e.fGrant, e.bGrant, e.uGrant]

def CoreEntry.rangeBad (e : CoreEntry) : Bool :=
  decide (128 < e.bankBase + e.bankCount) || e.grants.any fun g =>
    decide (64 < g.accBase + g.accCount) || decide (16 < g.spillBase + g.spillCount) || decide (64 < g.vregBase + g.vregCount)

/-- Two ranges meet. -/
def rangesMeet (a n b m : Nat) : Bool := decide (0 < n) && decide (0 < m) && decide (a < b + m) && decide (b < a + n)

def Grant.overlaps (g h : Grant) : Bool :=
  rangesMeet g.accBase g.accCount h.accBase h.accCount || rangesMeet g.spillBase g.spillCount h.spillBase h.spillCount
    || rangesMeet g.vregBase g.vregCount h.vregBase h.vregCount

def CoreEntry.overlapBad (e : CoreEntry) : Bool :=
  e.fGrant.overlaps e.bGrant || e.fGrant.overlaps e.uGrant || e.bGrant.overlaps e.uGrant

/-- The cores that an enclosure holds and that are not retired (R317). -/
def State.holdsCore (s : State) (encl n : Nat) : Bool :=
  let e := s.entry encl
  (bit e.sharedCores n || bit e.dedicatedCores n) && !bit s.rcv.coresRetired n

/-- Another loaded context whose counter range meets the descriptor's. -/
def State.ctrClash (s : State) (slot : Nat) (d : Desc) : Bool :=
  s.ctxs.any fun p => decide (p.1 ≠ slot) && decide (p.2.st ≠ .none) && rangesMeet p.2.desc.ctrBase p.2.desc.ctrCount d.ctrBase d.ctrCount

def State.ctrOutside (s : State) (encl : Nat) (d : Desc) : Bool :=
  let e := s.entry encl
  decide (0 < d.ctrCount) && !(decide (e.ctrBase ≤ d.ctrBase) && decide (d.ctrBase + d.ctrCount ≤ e.ctrBase + e.ctrCount))

/-- The program addresses of the streams that exist. -/
def Desc.pcs (d : Desc) : List Nat :=
  d.entries.flatMap fun p =>
    (if p.2.fGrant.present then [p.2.fpc.toNat] else []) ++ (if p.2.bGrant.present then [p.2.bpc.toNat] else [])
      ++ (if p.2.uGrant.present then [p.2.upc.toNat] else [])

def State.addrBad (s : State) (slot : Nat) (d : Desc) : Bool :=
  (d.pcs.any fun a => decide (a % 16 ≠ 0) || !s.mapped slot a 16)
    || decide (d.recipeAddr.toNat % 64 ≠ 0) || !s.mapped slot d.recipeAddr.toNat 136
    || decide (d.statsAddr.toNat % 4096 ≠ 0) || !s.mapped slot d.statsAddr.toNat 131072

/-- What reading and checking a descriptor gives. -/
structure DescOut where
  s : State
  status : Nat
  d : Desc := {}
  recipe : List W64 := []
  raw : List Byte := []
  deriving DecidableEq, Repr

/-- A descriptor as it was read: the states after its entries and after its recipe table, its words, and whether a
poisoned line was met. -/
structure DescRead where
  mid : State
  fin : State
  d : Desc
  head : List Byte
  es : List (List Byte)
  recipe : List W64
  bad : Bool
  badRecipe : Bool
  raw : List Byte
  deriving DecidableEq, Repr

/-- Read the entries of `n` cores and the recipe table, after the head `h`. -/
def readRest (slot va n : Nat) (h : MemRead) : DescRead :=
  let b := h.s.readVA slot (va + 128) (64 * n)
  let es := chunks 64 n b.bytes
  let d := readDesc h.bytes es
  let r := b.s.readVA slot d.recipeAddr.toNat 136
  { mid := b.s, fin := r.s, d := d, head := h.bytes, es := es
    recipe := (List.range 17).map fun k => BitVec.ofNat 64 (wordAt r.bytes k)
    bad := h.bad || b.bad, badRecipe := r.bad, raw := h.bytes ++ b.bytes ++ r.bytes }

/-- The first status that refuses a descriptor (R118, R120). -/
def descStatus (slot encl : Nat) (reload : Bool) (x : DescRead) (s : State) : Option Nat :=
  let d := x.d
  let old := (s.ctx slot).desc
  let own := if reload then savePages old else 0
  let ents := d.entries.map Prod.snd
  firstOf [
    (x.bad, 0xE),
    (headerResv x.head || x.es.any entryResv, 0x401),
    (reload && (decide (d.mask ≠ old.mask) || decide (d.ctrBase ≠ old.ctrBase) || decide (d.ctrCount ≠ old.ctrCount)), 0x40E),
    (decide (d.mask = 0) || ents.any (fun e => e.grants.all fun g => !g.present), 0x402),
    ((maskCores d.mask).any (fun n => !s.holdsCore encl n), 0x403),
    (ents.any CoreEntry.rangeBad, 0x404),
    (ents.any CoreEntry.overlapBad, 0x405),
    (s.ctrOutside encl d || s.ctrClash slot d, 0x406),
    (s.addrBad slot d, 0x407),
    (decide (s.poolRoom encl .package 0 + own < savePages d), 0x408),
    (ents.any (fun e => decide (64 < e.spillV)), 0x409),
    (x.badRecipe, 0xE)]

/-- Read and check a descriptor; `reload` is the replacement of a loaded context (R118, R120). -/
def checkDesc (slot encl va : Nat) (reload : Bool) (s : State) : DescOut :=
  if !s.mapped slot va 128 then { s := s, status := 0x407 }
  else
    let h := s.readVA slot va 128
    let n := (maskCores (bits (wordAt h.bytes 0) 15 8)).length
    if !h.s.mapped slot (va + 128) (64 * n) then { s := h.s, status := 0x407 }
    else
      let x := readRest slot va n h
      match descStatus slot encl reload x s with
      | some k => { s := x.mid, status := k }
      | none =>
        match recipeStatus x.recipe with
        | some k => { s := x.fin, status := k }
        | none => { s := x.fin, status := 0, d := x.d, recipe := x.recipe, raw := x.raw }

/-! Load, replacement, unload (R119, R120, R342) -/

/-- A stream at its program address. It shows RUNNING from the load on: DESIGN CHOICE (log 53), since R133 names no state for
the streams of a READY context. -/
def startStream (g : Grant) (pc : W48) : Stream := if g.present then { st := .running, pc := pc } else {}

/-- The streams of a core entry at their program addresses. -/
def startCore (e : CoreEntry) : CoreCtx :=
  { f := startStream e.fGrant e.fpc, b := startStream e.bGrant e.bpc, u := startStream e.uGrant e.upc }

/-- The core state of every core of a descriptor at load. -/
def Desc.startCores (d : Desc) : Tbl CoreCtx := d.entries.map fun p => (p.1, startCore p.2)

/-- CTX_LOAD: answers its status (R118, R119). Import measurement, LAST_IN and the sealed-record count belong to
the address space and stay. -/
def loadCtx (slot encl va : Nat) (s : State) : State × Nat :=
  let c := s.ctx slot
  if c.st ≠ .none then (s, 0x400)
  else
    let o := checkDesc slot encl va false s
    if o.status ≠ 0 then (o.s, o.status)
    else
      let c1 : Ctx :=
        { st := .ready, desc := o.d, descVA := va, recipe := o.recipe, saved := o.d.startCores
          descMeas := Config.sha384 o.raw, importMeas := c.importMeas, lastIn := c.lastIn, sealedOut := c.sealedOut
          rcv := c.rcv }
      ((o.s.setCtx slot c1).clearCtrs o.d.ctrBase o.d.ctrCount, 0)

/-- Persistent entries of classes whose ladder a new recipe table changes are dropped (R107). -/
def keepPerm (old new : List W64) (l : List LadderEnt) : List LadderEnt :=
  l.filter fun e =>
    let a := recipeEnt old e.cls
    let b := recipeEnt new e.cls
    decide (recFmt a = recFmt b) && decide (recTop a = recTop b) && decide (bits a 18 16 = bits b 18 16) && decide (recRole b ≠ 0)

/-- A replacement descriptor checked at a meridian: it takes effect, or its status is reported (R120). -/
def replaceCtx (slot encl va : Nat) (s : State) : State :=
  let o := checkDesc slot encl va true s
  let c := o.s.ctx slot
  if o.status ≠ 0 then o.s.setCtx slot { c with replace := none, reloadStatus := o.status }
  else
    let s1 := o.s.setCtx slot { c with
      replace := none, reloadStatus := 0, desc := o.d, descVA := va, recipe := o.recipe
      perm := keepPerm c.recipe o.recipe c.perm, descMeas := Config.sha384 o.raw
      saved := if s.resident slot then c.saved else o.d.startCores }
    if s.resident slot then
      (maskCores o.d.mask).foldl (fun u n => u.setCore n { u.core n with live := startCore (o.d.core n) }) s1
    else s1

/-- Collective connections of a context close when it unloads (R278). -/
def closeColl (slot : Nat) (s : State) : State :=
  { s with dwt := { s.dwt with conns := s.dwt.conns.map fun p => if p.2.coll ∧ p.2.ctx = slot then (p.1, {}) else p } }

/-- Queues bound to a context are free again, and their waiting entries go (R253). -/
def unbindQueues (slot : Nat) (s : State) : State :=
  let free := fun p : Nat × DwtQueue => if p.2.ctx = some slot then (p.1, { p.2 with ctx := none, entries := [] }) else p
  { s with dwt := { s.dwt with queues := s.dwt.queues.map free } }

/-- Take a context off its cores, and off those that shadow them, without a save (R139, R388). -/
def dropCores (slot : Nat) (s : State) : State :=
  let idle := fun c : Core => if c.state = .running then .idle else c.state
  let off := fun c : Core => { c with resident := none, live := {}, aged := [], state := idle c }
  { s with cores := s.cores.map fun p =>
      if p.2.resident = some slot then (p.1, off p.2)
      else if p.2.shadow = some slot then (p.1, { p.2 with shadow := none, state := idle p.2 })
      else p }

/-- The context leaves its slot; allocations and windows stay (R185, R246). -/
def unloadNow (slot : Nat) (s : State) : State :=
  let s1 := closeColl slot (unbindQueues slot (dropCores slot s))
  let c := s1.ctx slot
  s1.setCtx slot { importMeas := c.importMeas, lastIn := c.lastIn, sealedOut := c.sealedOut, reloadStatus := c.reloadStatus
                   rcvStatus := c.rcvStatus, logSeq := c.logSeq }

/-! Statistics and records (R112, R113, R199) -/

def StatSlot.bytes (t : StatSlot) : List Byte :=
  leBytes 4 t.writes ++ leBytes 4 t.overflows ++ leBytes 8 t.elements ++ leBytes 8 t.zeros ++ leBytes 8 t.underflows
    ++ leBytes 8 t.saturations ++ leBytes 8 t.nonfinite ++ leBytes 4 t.maxAbs ++ leBytes 4 t.downMiss ++ leBytes 8 0

/-- The part of the statistics area that a core writes: its 256 slots. -/
def Ctx.statBytes (c : Ctx) (n : Nat) : List Byte := (List.range 256).flatMap fun k => (Tbl.get {} c.stats (statKey n k)).bytes

/-- A core writes its 256 slots into its part of the statistics area. DESIGN CHOICE (log 53): core n's part is the one at
n × 16,384 (R113 does not say which part is whose). -/
def coreStats (slot : Nat) (c : Ctx) (s : State) (n : Nat) : State :=
  s.writeVA slot (c.desc.statsAddr.toNat + n * 16384) (c.statBytes n)

/-- Every core of the context writes its slots. -/
def writeStats (slot : Nat) (s : State) : State :=
  let c := s.ctx slot
  (maskCores c.desc.mask).foldl (coreStats slot c) s

/-- CTX_UNLOAD (R439). A FAULTED context that is still on its cores leaves them, which writes its statistics and window records
(R113, R199). -/
def unloadCtx (slot : Nat) (s : State) : State × Nat :=
  let c := s.ctx slot
  if c.st = .none then (s, 0x40F)
  else if s.resident slot && decide (c.st ≠ .faulted) then (s, 0x410)
  else (unloadNow slot (if s.resident slot then writeWinRecords slot (writeStats slot s) else s), 0)

/-! Spare rows of the SRAM (R79) -/

/-- Spare rows of a bank. -/
def bankSpares (b : Nat) : Nat := if b < 128 then 16 else 8

/-- One row is replaced by a spare of its bank; false where none is left. -/
def Core.replaceRow (r : Core × Bool) (row : Nat) : Core × Bool :=
  let c := r.1
  let b := rowBank row
  let used := Tbl.get 0 c.sparesUsed b
  if bankSpares b ≤ used then (c, false)
  else
    ({ c with sparesUsed := Tbl.put c.sparesUsed b (used + 1), rowHits := c.rowHits.filter fun h => decide (h.1 ≠ row)
              osSpares := if b < 128 then c.osSpares - 1 else c.osSpares
              accSpares := if b < 128 then c.accSpares else c.accSpares - 1 }, r.2)

/-- Every marked row is replaced. -/
def Core.replaceRows (c : Core) : Core × Bool := c.rowMarks.foldl Core.replaceRow ({ c with rowMarks := [] }, true)

/-! Switches (R139 to R141, R69, R278) -/

/-- Whether a core can take a context: no other resident, no self-test, not retired and not fenced. -/
def Core.takes (c : Core) : Bool :=
  c.resident.isNone && c.shadow.isNone && !c.busy && (match c.state with | .gated | .locking | .idle => true | _ => false)

/-- The collective connections of an enclosure that are in use by none. -/
def State.freeColl (s : State) (encl : Nat) : List Nat :=
  let e := s.entry encl
  ((List.range e.cconnCount).map fun k => e.cconnBase + k).filter fun cn => decide ((s.conn cn).st = .closed) && !(s.conn cn).coll

/-- The directions that need a collective connection: two for each axis longer than 1. -/
def State.collDirs (s : State) : List (Nat × Nat) :=
  ((List.range 4).filter fun a => decide (1 < s.axisLen a)).flatMap fun a => [(a, 0), (a, 1)]

/-- Open one collective connection. The index of the peer's end is not given: a free value (log 22). -/
def openCollOne (slot encl : Nat) (s : State) (d : (Nat × Nat) × Nat) : State :=
  let id := ((s.neighbour d.1.1 d.1.2).map (·.serial)).getD 0
  let peer := s.free.toNat % 16384
  let s1 := s.drawn 1
  let r : BitVec 128 := (Config.freeWord s1.fresh) ++ (Config.freeWord (s1.fresh + 1))
  sendOpen d.2 ((s1.drawn 2).setConn d.2
    { st := .opening, ctx := slot, encl := encl, coll := true, r := r, openKey := s.openKeyOf encl
      desc := { peerId := id, dir := decide (d.1.2 = 1), axis := d.1.1, peerConn := peer } })

/-- Open the collective connections of a context when it is first switched in. -/
def openColl (slot encl : Nat) (s : State) : State :=
  if (s.ctx slot).collOpened then s
  else
    let s1 := s.setCtx slot { s.ctx slot with collOpened := true }
    (s1.collDirs.zip (s1.freeColl encl)).foldl (openCollOne slot encl) s1

/-- The array clock that a core runs at (R32, R463). -/
def State.runClock (s : State) (n : Nat) : Nat :=
  if s.modl.thermalStop then 0 else min s.power.clock (s.core n).ceiling

/-- Pending spare maps take effect (R78). -/
def Core.applySpares (c : Core) : Core :=
  { c with spareMap := c.spareMap.map fun p => if p.2.pending then (p.1, { p.2 with pending := false, valid := true }) else p }

/-- The state of a context that comes in: what its streams show, RUNNING, or DONE where every stream has halted. -/
def Ctx.inState (c : Ctx) : CtxState := if c.st = .ready then .running else c.st

/-- A switch on the cores of a context, remembered for 10 ms: 328 ticks of the time counter (R369). -/
def noteSwitch (slot : Nat) (s : State) : State :=
  let old := s.rcv.recentOut.filter fun p => decide (s.ticks ≤ p.2.2 + 328)
  let new := (maskCores (s.ctx slot).desc.mask).map fun n => (n, slot, s.ticks)
  { s with rcv := { s.rcv with recentOut := old ++ new } }

/-- A core starts to run: a gated one locks its clock first, which a tick ends (R394, log 61). -/
def Core.wakes (c : Core) (mhz : Nat) : Core :=
  match c.state with
  | .gated => { c with state := .locking, clock := 0 }
  | .locking => c
  | _ => { c with state := .running, clock := mhz }

/-- The pair of core `n` under SHADOW_STEP (R388). -/
def shadowOf (n : Nat) : Nat := n ^^^ 2

/-- The pair core of core `n` runs the streams of the context on it. -/
def shadowCore (slot : Nat) (s : State) (n : Nat) : State :=
  let c := s.core (shadowOf n)
  if c.takes then s.setCore (shadowOf n) { c.wakes (s.runClock (shadowOf n)) with shadow := some slot } else s

/-- The pair cores of a resident context with SHADOW set. -/
def showShadow (slot : Nat) (s : State) : State :=
  if s.resident slot && (s.ctx slot).shadowed then
    (maskCores (s.ctx slot).desc.mask).foldl (shadowCore slot) s
  else s

/-- The context becomes resident on every core of its mask (R69, R115, R139). -/
def switchInNow (slot encl : Nat) (s00 : State) : State :=
  let s := endRebalance slot s00
  let c := s.ctx slot
  let take := fun (u : State) (n : Nat) =>
    let k := (u.core n).applySpares
    u.setCore n { k.wakes (u.runClock n) with resident := some slot, live := Tbl.get {} c.saved n, aged := [], key := c.desc.seed }
  let s1 := (maskCores c.desc.mask).foldl take (noteSwitch slot s)
  openColl slot encl (showShadow slot (s1.setCtx slot { c with st := c.inState, saved := [] }))

/-- Whether every core of the context's mask is free; one under MAINTAIN's retrain is not (R426, log 61), and in a thermal stop none
is (R463). -/
def State.coresFree (s : State) (slot : Nat) : Bool :=
  !s.modl.thermalStop && (maskCores (s.ctx slot).desc.mask).all fun n =>
    (s.core n).takes && !(s.mgt.training.any fun u => match u with | .core k => decide (k.val = n) | _ => false)

/-- A word that the save reads: in the granted banks, in a slot that is not EMPTY, or in the vector registers (R141). -/
def CoreCtx.saves (l : CoreCtx) (banks : Nat) (x : SramErr) : Bool :=
  match x.mem with
  | .os => decide (x.word < banks * 65536)
  | .acc => !l.accEmpty x.slot
  | .vec => true

/-- The save reads every word of the context's SRAM: corrected errors are counted and do not go into the save area, an
uncorrectable or poisoned word is flagged (R80) and stands in the save area as poisoned. -/
def saveReads (d : Desc) (s : State) (n : Nat) : State :=
  let l := (s.core n).live
  let met := l.errs.filter (l.saves (d.core n).bankCount)
  let bad := fun m : SramMem => met.any fun x => x.ue && decide (x.mem = m)
  let s1 := s.noteSram n (d.core n).bankBase met
  let s2 := if bad .os then s1.errCore n 1 else s1
  if bad .acc then s2.errCore n 3 else s2

/-- What the save area holds of a core's errors: the words that are poisoned there. -/
def CoreCtx.savedErrs (l : CoreCtx) : List SramErr := (l.errs.filter (·.ue)).map fun x => { x with poisoned := true }

/-- The context leaves its cores with its state saved; statistics and window records are written (R113, R140,
R199). -/
def switchOutNow (slot : Nat) (s : State) : State :=
  let s0 := noteSwitch slot (writeWinRecords slot (writeStats slot s))
  let c := s0.ctx slot
  let saved := (maskCores c.desc.mask).map fun n =>
    (n, { (s0.core n).live with errs := (s0.core n).live.savedErrs })
  let s1 := dropCores slot ((maskCores c.desc.mask).foldl (saveReads c.desc) s0)
  s1.setCtx slot { c with saved := saved, switchOut := false, preempt := false
                          st := if c.st = .running then .ready else c.st }

/-- A FAULTED context leaves its cores without a save of core state; its streams keep their states for the record. Statistics
and window records are written as at every switch (R113, R199). -/
def dropFaulted (slot : Nat) (s0 : State) : State :=
  let s := writeWinRecords slot (writeStats slot s0)
  let c := s.ctx slot
  let saved := (maskCores c.desc.mask).map fun n =>
    let l := (s.core n).live
    (n, ({ f := { st := l.f.st }, b := { st := l.b.st }, u := { st := l.u.st } } : CoreCtx))
  (dropCores slot (noteSwitch slot s)).setCtx slot { c with saved := saved, switchOut := false, preempt := false }

/-- Whether no instruction of the context is in flight on any core, and no spill is owed. -/
def State.noFlights (s : State) (slot : Nat) : Bool :=
  (maskCores (s.ctx slot).desc.mask).all fun n =>
    [StrmId.F, .B, .U].all fun x =>
      let t := (s.coreCtx slot n).strm x
      t.flights.isEmpty && t.spills.isEmpty

/-! A context becomes FAULTED (R134 steps 4 and 5) -/

/-- Cause codes of R440 and R389. -/
def causeProgram : Nat := 1
def causeDigest : Nat := 2

/-- The context is FAULTED: it dispatches nothing more, and the cause and the log entry stand in its status. -/
def faultNow (slot cause core strm : Nat) (name : String) (s : State) : State :=
  let c := s.ctx slot
  if c.st = .none ∨ c.st = .faulted then s
  else
    let s1 := s.setCtx slot { c with st := .faulted, faulting := true, cause := cause, faultCore := core,
                                     faultStream := strm, logSeq := BitVec.ofNat 64 s.mgt.nextSeq }
    s1.logEv { s1.evCtx 2 0x40 slot with
      core := core, stream := strm, fields := [Config.faultNumber name] }

/-- A cause that names no core: the entry carries none. -/
def faultWhole (slot cause : Nat) (name : String) (s : State) : State :=
  let c := s.ctx slot
  if c.st = .none ∨ c.st = .faulted then s
  else
    let s1 := s.setCtx slot { c with st := .faulted, faulting := true, cause := cause, faultCore := 0, faultStream := 0
                                     logSeq := BitVec.ofNat 64 s.mgt.nextSeq }
    s1.logEv { s1.evCtx 2 0x40 slot with fields := [Config.faultNumber name] }

/-! Measurements and the configuration digest (R288, R343) -/

def digestBytes (d : BitVec 384) : List Byte := beBytes 48 d.toNat

/-- The measurement of the running firmware slot (R419). -/
def State.fwMeasure (s : State) : BitVec 384 := if s.mgt.fwRun = 0 then s.mgt.fwA.measure else s.mgt.fwB.measure

/-- The shared section of the settings store: its stored settings (R412). -/
def State.sharedSection (s : State) : List Byte := leBytes 8 s.mgt.store.settings.priorMtbf

def recipeBytes (r : List W64) : List Byte := r.flatMap fun w => leBytes 8 w.toNat

/-- The configuration digest of a context (R288). -/
def State.cfgDigest (s : State) (slot : Nat) : BitVec 384 :=
  let image := match s.sec.image with
    | some i => i.bytes
    | none => []
  Config.sha384 (digestBytes (Config.sha384 image) ++ digestBytes s.fwMeasure
    ++ digestBytes (Config.sha384 s.sharedSection) ++ digestBytes (Config.sha384 (recipeBytes (s.ctx slot).recipe)))

end Sys2Proof.Machine
end

