-- ==== Sys2Proof/Machine/Starfix.lean ====
section
/-! DEFINITION. The recovery descriptor, step undo, starfix snapshots and restore (12 R378 to R387). -/

namespace Sys2Proof.Machine

/-! Statuses of R379 by their codes of R446 -/

def rcvBadDesc : Nat := 0x320
def rcvShadowCores : Nat := 0x321
def rcvNoStarfix : Nat := 0x322
def rcvShape : Nat := 0x323
def rcvLinkLost : Nat := 0x324

/-! The recovery descriptor (R378) -/

def readRcv (b : List Byte) : RcvDesc :=
  let w := wordAt b
  { tolUlp := bits (w 0) 47 32, undoSkip := bits (w 0) 23 16, mirrorEn := bit (w 0) 12, shadow := bit (w 0) 11
    autoRestore := bit (w 0) 10, snapMode := bits (w 0) 9 8, localVa := bits (w 1) 47 0, localPages := bits (w 2) 31 0
    undoVa := bits (w 3) 47 0, fixedSteps := bits (w 4) 63 32, undoPages := bits (w 4) 31 0, mirrorConn := bits (w 5) 13 0
    mirrorWgen := bits (w 6) 63 48, mirrorWindow := bits (w 6) 17 0, lossVa := bits (w 7) 47 0 }

def rcvResv (b : List Byte) : Bool :=
  let w := wordAt b
  decide (bits (w 0) 7 0 ≠ 1) || decide (w 0 / 2 ^ 48 ≠ 0) || decide (bits (w 0) 31 24 ≠ 0) || decide (bits (w 0) 15 13 ≠ 0)
    || decide (bits (w 0) 9 8 = 3) || decide (w 1 / addrTop ≠ 0) || decide (w 2 / 2 ^ 32 ≠ 0) || decide (w 3 / addrTop ≠ 0)
    || decide (w 5 / 2 ^ 14 ≠ 0) || decide (bits (w 6) 47 18 ≠ 0) || decide (w 7 / addrTop ≠ 0)

/-- An area of a recovery descriptor: none for a zero page count, else a whole SNAP_EXCLUDE allocation in
PACKAGE or BOARD. -/
def State.areaBad (s : State) (slot va pages : Nat) : Bool :=
  misaligned va || (decide (0 < pages) &&
    match s.objAt slot va with
    | none => true
    | some o => !(decide (o.pages = pages) && flagExclude o.flags && (decide (flagPlace o.flags = 3) || decide (flagPlace o.flags = 4))
        && (List.range pages).all fun i => decide (s.objOf slot (vpage va + i) = some o) && (s.pte slot (vpage va + i)).isSome))

/-- A shadow core that R379 refuses. -/
def State.shadowBad (s : State) (slot : Nat) : Bool :=
  let mask := (s.ctx slot).desc.mask
  let e := s.entry ((s.enclOfSlot slot).getD 0xFF)
  (maskCores mask).any fun n =>
    let m := shadowOf n
    !bit e.dedicatedCores m || bit mask m || (s.core m).resident.isSome || !((s.core m).shadow.all fun k => decide (k = slot))

/-- The status of a recovery descriptor, and the descriptor. -/
def checkRcv (slot va : Nat) (s : State) : State × Nat × RcvDesc :=
  if !s.mapped slot va 64 then (s, rcvBadDesc, readRcv [])
  else
    let r := s.readVA slot va 64
    let d := readRcv r.bytes
    let st := firstOf [
      (r.bad, 0xE),
      (rcvResv r.bytes || s.areaBad slot d.localVa d.localPages || s.areaBad slot d.undoVa d.undoPages
        || decide (d.lossVa % 64 ≠ 0) || !s.mapped slot d.lossVa 64
        || (decide (d.snapMode = 2) && decide (d.fixedSteps = 0)) || (decide (d.snapMode ≠ 2) && decide (d.fixedSteps ≠ 0)), rcvBadDesc),
      (d.shadow && s.shadowBad slot, rcvShadowCores)]
    (r.s, st.getD 0, d)

/-- No core shadows a context. -/
def State.dropShadow (s : State) (slot : Nat) : State :=
  { s with cores := s.cores.map fun p =>
      if p.2.shadow = some slot then (p.1, { p.2 with shadow := none, state := if p.2.state = .running then .idle else p.2.state })
      else p }

/-- Check a pending recovery descriptor: it is accepted, or its status is reported (R378). A new area holds no
starfix. -/
def applyRcv (slot : Nat) (s : State) : State :=
  match (s.ctx slot).rcv.pending with
  | none => s
  | some va =>
    let r := checkRcv slot va.toNat s
    let c := r.1.ctx slot
    if r.2.1 ≠ 0 then r.1.setCtx slot { c with rcvStatus := r.2.1, rcv := { c.rcv with pending := none } }
    else
      let same := (c.rcv.desc.map fun d => decide (d.localVa = r.2.2.localVa) && decide (d.localPages = r.2.2.localPages)).getD false
      let base := if same then c.rcv else { c.rcv with starfixes := [], copying := none, copyTimes := [], committedStep := none }
      showShadow slot ((r.1.setCtx slot { c with rcvStatus := 0, rcv := { base with pending := none, desc := some r.2.2 } }).dropShadow slot)

/-- RCV_SET accepted: checked at the next meridian, or at once where the context is not resident. -/
def rcvSet (slot va : Nat) (s : State) : State × Nat :=
  let c := s.ctx slot
  if c.st = .none then (s, 0x40F)
  else
    let s1 := s.setCtx slot { c with rcv := { c.rcv with pending := some (BitVec.ofNat 48 va) } }
    (if s.resident slot then s1 else applyRcv slot s1, 0)

/-! Step undo and the epoch (R380 to R384) -/

/-- The covered pages of a context's address space. -/
def State.covered (s : State) (slot : Nat) : List Nat :=
  (s.tiers.pt.filter fun p => decide (p.1 / vpages = slot)).filterMap fun p =>
    let vp := p.1 % vpages
    match s.objOf slot vp with
    | some o => if flagExclude o.flags || decide (flagRole o.flags = 2) || (s.viewAt slot vp).isSome then none else some vp
    | none => none

/-- The context's counters. -/
def State.ctrsOf (s : State) (slot : Nat) : List Nat :=
  let d := (s.ctx slot).desc
  Tbl.slice 0 s.counters d.ctrBase d.ctrCount

/-- The mean of a list of durations. -/
def meanOf (l : List Nat) : Option Nat := if l.isEmpty then none else some (l.sum / l.length)

/-- C of R384: what the steps that ended while the starfix was copying took beyond T each. -/
def CtxRcv.measureC (r : CtxRcv) : CtxRcv :=
  if !r.toMeasure || r.copying.isSome then r
  else if r.copyTimes.isEmpty then { r with costC := some 0, toMeasure := false }
  else match meanOf r.stepTimes with
    | some t => { r with costC := some (r.copyTimes.sum - r.copyTimes.length * t), copyTimes := [], toMeasure := false }
    | none => r

/-- A step has ended: its duration goes to the steps that ended while a starfix was copying, or to those with no copying; one in
which copying ended is neither (R382, R384). -/
def CtxRcv.stepEnds (r : CtxRcv) (now : Nat) : CtxRcv :=
  let r1 := match r.lastMer with
    | none => r
    | some t =>
      if r.copying.isSome then { r with copyTimes := r.copyTimes ++ [now - t] }
      else if r.copied then r
      else { r with stepTimes := (r.stepTimes ++ [now - t]).drop (r.stepTimes.length + 1 - 8) }
  { r1.measureC with lastMer := some now, copied := false }

/-- I of R383, from a measured C and T in ticks of 1 ÷ 32,768 s, H in hours and F; `size` is the cluster size. -/
def starfixInterval (c t h f size prior : Nat) : Nat :=
  if t = 0 then 1
  else max 1 (isqrt (2 * c * 32768 * 3600 * (size * prior + h) / (size * (size + f) * (t * t))))

/-- The cluster size N. -/
def State.clusterSize (s : State) : Nat :=
  match s.sec.image with
  | some i => max 1 i.lens.prod
  | none => 1

/-- Whether a starfix is due at a meridian of step number `step` (R381, R383). -/
def State.starfixDue (s : State) (slot : Nat) (step : Nat) : Bool :=
  let r := (s.ctx slot).rcv
  match r.desc with
  | none => false
  | some d =>
    if r.copying.isSome || r.starfixes.any (fun x => !x.committed && !x.unusable) then false
    else if d.snapMode = 2 then decide (step % d.fixedSteps = 0)
    else if d.snapMode = 1 then
      if r.starfixes.isEmpty then true
      else match r.committedStep, r.fig with
        | some k, some (c, t, h, f) =>
          decide (0 < c) && decide (k.toNat + starfixInterval (c - 1) t h f s.clusterSize s.mgt.store.settings.priorMtbf ≤ step)
        | _, _ => false
    else false

/-- The stream records of a context's cores. -/
def State.streamRecs (s : State) (slot : Nat) : Tbl CoreCtx :=
  (maskCores (s.ctx slot).desc.mask).map fun n => (n, s.coreCtx slot n)

/-- The slot of the starfix area that no starfix holds. -/
def CtxRcv.freeHalf (r : CtxRcv) : Nat := if r.starfixes.any fun x => decide (x.half = 0) then 1 else 0

/-- The starfix of this meridian: the schedule record and the covered pages (R381). -/
def State.takeStarfix (s : State) (slot : Nat) (step : W64) : Starfix :=
  let c := s.ctx slot
  { step := step, s := c.s, half := c.rcv.freeHalf
    pages := (s.covered slot).map fun vp => (vp, s.pageBytesOf (((s.pte slot vp).map (·.frame)).getD 0))
    streams := s.streamRecs slot, counters := s.ctrsOf slot, perm := c.perm, raise := c.raise
    winPos := (s.tiers.wins.filter fun w => decide (w.slot = slot) && !w.follow).map fun w => (w.view, w.pos)
    dwtWins := s.dwt.wins.filter fun p => decide (p.2.ctx = slot) && decide (0 < p.2.gen)
    conns := (s.dwt.conns.filter fun p => decide (p.2.ctx = slot) && !p.2.coll && (decide (p.2.st = .open_) || decide (p.2.st = .rekeying))).map
      fun p => (p.1, p.2.desc)
    objs := (s.tiers.objs.filter fun o => decide (o.slot = slot)).map fun o =>
      (o, ((List.range o.pages).map fun i => vpage o.base + i).filter fun vp => !(decide (s.objOf slot vp = some o) && (s.pte slot vp).isSome)) }

/-- The first virtual page of a slot of the starfix area. -/
def RcvDesc.slotPage (d : RcvDesc) (half : Nat) : Nat := vpage d.localVa + half * (d.localPages / 2)

/-- Pages of the schedule record. -/
def recordPages : Nat := 8

/-- A page filled with bytes from its start on. -/
def fillPage (slot vp : Nat) (bs : List Byte) (s : State) : State :=
  match s.pte slot vp with
  | none => s
  | some e => (s.fillFrame e.frame ((bs.take Config.pageBytes).zipIdx.map fun p => (p.2, p.1))).setPte slot vp { e with gen := (e.gen + 1) % addrTop }

/-- The schedule record and the covered pages are written into the starfix's slot of the starfix area. The background copier gives
each page as it stood at the meridian (R381), so the model copies them at once: STARFIX_COMPLETE says when it has done so. -/
def putStarfix (slot : Nat) (d : RcvDesc) (x : Starfix) (s : State) : State :=
  let at_ := d.slotPage x.half
  let s1 := (List.range recordPages).foldl (fun u k => fillPage slot (at_ + k) (Config.schedulePage x.step x.s k) u) s
  x.pages.zipIdx.foldl (fun u p => u.copyPage slot p.1.1 (at_ + recordPages + p.2)) s1

/-- The WRITE that mirrors a slot of the starfix area (R381). -/
def RcvDesc.mirrorEnt (d : RcvDesc) (x : Starfix) : QEnt :=
  let off := (d.slotPage x.half - vpage d.localVa) * Config.pageBytes
  { op := 1, waitEn := false, fence := false, ctrEn := false, recEn := false, conn := d.mirrorConn, localVa := d.localVa + off
    length := (x.pages.length + recordPages) * Config.pageBytes, rwgen := d.mirrorWgen, window := d.mirrorWindow, roffset := off
    waitCtr := 0, waitTarget := 0, doneCtr := 0, recVa := 0, extra := 0, resv := false }

/-- The recovery controller writes the starfix that is being copied to the mirror window, where its connection is OPEN. A write that
failed is tried again at the next meridian: DESIGN CHOICE (log 30). -/
def mirrorSend (slot : Nat) (s : State) : State :=
  let r := (s.ctx slot).rcv
  match r.desc, r.copying, s.enclOfSlot slot with
  | some d, some x, some encl =>
    let cn := (s.entry encl).connBase + d.mirrorConn
    let c := s.conn cn
    let e := d.mirrorEnt x
    if !d.mirrorEn || r.mirrored || decide (c.st ≠ .open_) || decide (c.ctx ≠ slot) || c.ops.any (fun o => decide (o.queue = rcvQueue)) then s
    else beginOp cn rcvQueue ⟨0, slot, e⟩
      { queue := rcvQueue, ent := 0, q := e, length := e.length, segs := segCount c.desc.maxSeg e.length } s
  | _, _, _ => s

/-- The LOSS record of a context. -/
def lossBytes (slot : Nat) (s : State) : State × List Byte :=
  match (s.ctx slot).rcv.desc with
  | none => (s, [])
  | some d => let r := s.readVA slot d.lossVa 64; (r.s, r.bytes)

/-- A starfix with no reference takes the LOSS record of the first meridian after it (R385). -/
def Starfix.refer (x : Starfix) (loss : List Byte) : Starfix :=
  if x.reference.isNone then { x with reference := some loss } else x

/-- The key of a mirror window of a recovery descriptor. -/
def RcvDesc.mirrorKey (d : RcvDesc) : Nat := d.mirrorConn * 2 ^ 18 + d.mirrorWindow

/-- Change the mirrored copies of a context's starfixes. -/
def State.mapMirrors (s : State) (slot : Nat) (f : List Starfix → List Starfix) : State :=
  match (s.ctx slot).rcv.desc with
  | some d =>
    if d.mirrorEn then { s with rcv := { s.rcv with mirrors := Tbl.put s.rcv.mirrors d.mirrorKey (f (Tbl.get [] s.rcv.mirrors d.mirrorKey)) } }
    else s
  | none => s

/-- Step 5 of R137: references, undo, protection, and a starfix where one is due. -/
def epoch (slot : Nat) (s : State) : State :=
  let s0 := applyRcv slot s
  let l := lossBytes slot s0
  let s1 := l.1
  let c := s1.ctx slot
  match c.rcv.desc with
  | none => s1
  | some d =>
    let step := c.desc.stepBase + c.s
    let r := c.rcv.stepEnds s.ticks
    let r1 := { r with
      starfixes := r.starfixes.map fun x => x.refer l.2, copying := r.copying.map fun x => x.refer l.2
      undo := [], undoFull := false, protect := if d.undoPages = 0 then [] else s1.covered slot
      mCores := s1.streamRecs slot, mCounters := s1.ctrsOf slot, mPerm := c.perm, touched := false, others := [] }
    let s2 := (s1.setCtx slot { c with flags := c.flags / 2 * 2, rcv := r1 }).mapMirrors slot (·.map fun x => x.refer l.2)
    if !s1.starfixDue slot step.toNat then mirrorSend slot s2
    else if d.localPages < 2 * ((s1.covered slot).length + recordPages) then s2.errRcv 0 slot
    else
      let x := s1.takeStarfix slot step
      mirrorSend slot ((putStarfix slot d x s2).setCtx slot { s2.ctx slot with
        rcv := { r1 with copying := some x, copyTimes := [], toMeasure := false, mirrored := false } })

/-- Every covered page is copied, and acknowledged by the mirror where one is enabled (R381). -/
def starfixComplete (slot : Nat) (s : State) : State :=
  let c := s.ctx slot
  match c.rcv.copying, c.rcv.desc with
  | some x, some d =>
    if d.mirrorEn && !c.rcv.mirrored then s
    else
      let y := { x with complete := true }
      let r := ({ c.rcv with copying := none, copied := true, toMeasure := true, starfixes := c.rcv.starfixes ++ [y] } : CtxRcv).measureC
      (s.setCtx slot { c with rcv := r }).mapMirrors slot fun l => l.filter (·.committed) ++ [y]
  | _, _ => s

/-- The starfix of a step commits where it is held; the older slot is freed. -/
def commitIn (step : Nat) (l : List Starfix) : List Starfix :=
  if l.any fun x => decide (x.step.toNat = step) && x.complete then
    (l.filter fun x => decide (step ≤ x.step.toNat)).map fun x => if x.step.toNat = step then { x with committed := true } else x
  else l

/-- The newest starfix of the job commits (R382). -/
def CtxRcv.commit (r : CtxRcv) (step : Nat) : CtxRcv :=
  if r.starfixes.any fun x => decide (x.step.toNat = step) && x.complete then
    { r with committedStep := some (BitVec.ofNat 64 step), starfixes := commitIn step r.starfixes }
  else r

/-! Restore (R385, R387) -/

/-- A direction of the torus that the job uses has no working port. -/
def State.linkLost (s : State) : Bool :=
  s.collDirs.any fun d => (axisPorts d.1 d.2).all fun n =>
    let p := s.net n
    !(p.linkUp && !p.retired && p.helloOk)

/-- A covered page of the starfix is unmapped, or lies in an allocation that differs from the recorded one. -/
def State.shapeBad (s : State) (slot : Nat) (x : Starfix) : Bool :=
  x.pages.any fun p =>
    match s.objOf slot p.1 with
    | none => true
    | some o => (s.pte slot p.1).isNone || !(x.objs.any fun r => decide (r.1.base = o.base) && decide (r.1.pages = o.pages) && decide (r.1.flags = o.flags))

/-- An allocation of the context that the record does not hold lies over one that it holds (R387). -/
def State.objClash (s : State) (slot : Nat) (x : Starfix) : Bool :=
  let known := fun o : AllocObj => x.objs.any fun r => decide (r.1.base = o.base) && decide (r.1.pages = o.pages) && decide (r.1.flags = o.flags)
  s.tiers.objs.any fun o => decide (o.slot = slot) && !known o && x.objs.any fun r =>
    decide (vpage r.1.base < vpage o.base + o.pages) && decide (vpage o.base < vpage r.1.base + r.1.pages)

/-- Make a recorded allocation that is not mapped, without its punched pages; none where the carve-outs cannot
supply it. -/
def makeObj (slot encl : Nat) (r : AllocObj × List Nat) (s : State) : Option State :=
  if (s.objBy slot r.1.base r.1.pages).isSome then some s
  else
    let vps := ((List.range r.1.pages).map fun i => vpage r.1.base + i).filter fun vp => decide (vp ∉ r.2)
    match pickPools s encl (placePools r.1.flags) vps.length [] with
    | none => none
    | some ps =>
      let s1 := (vps.zip ps).foldl (fun u q => mapPools slot encl q.1 [q.2] u) s
      some { s1 with tiers := { s1.tiers with objs := s1.tiers.objs ++ [{ r.1 with slot := slot, displaced := false }] } }

/-- The allocations of a mirror that the context does not hold, in order; none where one has no space. -/
def makeObjs (slot encl : Nat) : List (AllocObj × List Nat) → State → Option State
  | [], s => some s
  | r :: l, s =>
    match makeObj slot encl r s with
    | none => none
    | some s1 => makeObjs slot encl l s1

/-- Copy a page back from a mirror; its generation rises. -/
def restorePage (slot : Nat) (s : State) (p : Nat × List (Nat × Byte)) : State :=
  match s.pte slot p.1 with
  | none => s
  | some e =>
    let s1 := s.fillFrame e.frame p.2
    let s2 := match e.moving with
      | some f => s1.fillFrame f p.2
      | none => s1
    s2.setPte slot p.1 { e with gen := (e.gen + 1) % addrTop }

/-- Copy every covered page back, from the mirror or from its slot of the starfix area (R385). -/
def restorePages (slot : Nat) (mirror : Bool) (x : Starfix) (s : State) : State :=
  match mirror, (s.ctx slot).rcv.desc with
  | false, some d => x.pages.zipIdx.foldl (fun u p => u.copyPage slot (d.slotPage x.half + recordPages + p.2) p.1.1) s
  | _, _ => x.pages.foldl (restorePage slot) s

/-- A LIST window at a recorded position, its slots holding the entries that come before it. -/
def restoreWin (slot : Nat) (s : State) (r : Nat × Nat) : State :=
  match s.winAt slot r.1 with
  | none => s
  | some (k, w) =>
    let w0 := { w with pos := r.2, copying := none, held := decide (0 < r.2) && decide (r.2 % w.list.length = 0) }
    let w1 := (List.range w.depth).foldl (fun v j =>
      let p := r.2 - w.depth + j
      if p < r.2 then { v with entryIn := Tbl.put v.entryIn (p % w.depth) p } else v) w0
    let pages := (List.range (w.depth * w.slotPages)).map fun i => (i, ({ srcs := ((w1.pageExtent i).map fun x => s.gensOf w1 x.1 x.2).getD [] } : WinPage))
    (List.range (w.depth * w.slotPages)).foldl (copyWinPage w1) (s.setSwin k { w1 with pages := pages })

/-- A DWT window of the context as recorded, or CLOSED with its generation where the record has none. -/
def restoreDwtWins (slot : Nat) (x : Starfix) (s : State) : State :=
  let shut := fun d : DwtWin => { d with st := .closed, revoker := none }
  let s1 := { s with dwt := { s.dwt with wins := s.dwt.wins.map fun p => if p.2.ctx = slot then (p.1, shut p.2) else p } }
  x.dwtWins.foldl (fun u p => u.setWin p.1 (if p.2.st = .open_ then { p.2 with ctx := slot } else shut { p.2 with ctx := slot })) s1

/-- A recorded connection that the context may open: CLOSED, or its own. -/
def State.opensAfresh (s : State) (slot cn : Nat) : Bool := decide ((s.conn cn).st = .closed) || decide ((s.conn cn).ctx = slot)

/-- What is in flight on a connection that will open afresh ends, before anything is restored. -/
def endConn (slot : Nat) (s : State) (p : Nat × ConnDesc) : State :=
  if s.opensAfresh slot p.1 then failOps p.1 connDown s else s

/-- Open a recorded connection afresh. -/
def restoreConn (slot encl : Nat) (s : State) (p : Nat × ConnDesc) : State :=
  if s.opensAfresh slot p.1 then
    let r : BitVec 128 := (Config.freeWord s.fresh) ++ (Config.freeWord (s.fresh + 1))
    sendOpen p.1 ((s.drawn 2).setConn p.1
      { st := .opening, ctx := slot, encl := encl, desc := p.2, r := r, openKey := s.openKeyOf encl })
  else s

/-- The counters of the context set to recorded values. -/
def restoreCtrs (slot : Nat) (l : List Nat) (s : State) : State :=
  let d := (s.ctx slot).desc
  { s with counters := Tbl.writeList 0 (Tbl.clear s.counters d.ctrBase d.ctrCount) d.ctrBase (l.take d.ctrCount) }

/-- Carry out a restore from starfix `x`. The resumed step is the one after the meridian of the starfix. -/
def restoreFrom (slot encl : Nat) (mirror : Bool) (x : Starfix) (s : State) : State :=
  let s1 := x.conns.foldl (endConn slot) (dropCores slot (if s.resident slot then noteSwitch slot s else s))
  let s2 := restorePages slot mirror x s1
  let s3 := x.winPos.foldl (restoreWin slot) (restoreCtrs slot x.counters s2)
  let s4 := x.conns.foldl (restoreConn slot encl) (restoreDwtWins slot x s3)
  let c := s4.ctx slot
  let resume := fun t : Stream => if t.st = .atMeridian then { t with st := .running, atSync := false } else t
  let streams := x.streams.map fun p => (p.1, { p.2 with f := resume p.2.f, b := resume p.2.b, u := resume p.2.u })
  let y := { x with committed := true }
  s4.setCtx slot { c with
    st := .ready, s := x.s + 1, saved := streams, perm := x.perm, raise := [], opened := []
    faulting := false, held := false, mismatch := false, switchOut := false, preempt := false, cause := 0, faultCore := 0, faultStream := 0
    flags := if x.reference.isNone then 4 else 0
    colls := [], early := [], collNext := 0, pmap := none, folded := false
    rcv := { c.rcv with undo := [], undoFull := false, protect := s4.covered slot, mCores := streams, mCounters := x.counters,
                        mPerm := x.perm, verify := x.reference, verifying := x.reference.isSome, copying := none, touched := false, others := [],
                        lastMer := none, copyTimes := [], copied := false, toMeasure := false
                        committedStep := some x.step, starfixes := if mirror then [] else [y] } }

/-- RESTORE of a step from a source: its status (R379, R385, R387). -/
def restore (slot encl : Nat) (step : W64) (mirror : Bool) (s : State) : State × Nat :=
  let c := s.ctx slot
  let src : Option Starfix := match c.rcv.desc with
    | none => none
    | some d =>
      if mirror then
        if (s.conn ((s.entry encl).connBase + d.mirrorConn)).st ≠ .open_ then none
        else (Tbl.get [] s.rcv.mirrors d.mirrorKey).find? fun x => decide (x.step = step) && x.committed && !x.unusable
      else c.rcv.starfixes.find? fun x => decide (x.step = step) && x.committed && !x.unusable
  match src with
  | none => (s, rcvNoStarfix)
  | some x =>
    if mirror && s.objClash slot x then (s, rcvShape)
    else match (if mirror then makeObjs slot encl x.objs s else some s) with
      | none => (s, allocNoSpace)
      | some s1 =>
        if s1.shapeBad slot x then (s, rcvShape)
        else if s1.linkLost then (s, rcvLinkLost)
        else (restoreFrom slot encl mirror x s1, 0)

/-! Verification (R385) -/

/-- FP32 values in order as integers; both zeros are 0. -/
def ulpOrd (w : W32) : Int := if w.toNat < 2 ^ 31 then (w.toNat : Int) else - ((w.toNat - 2 ^ 31 : Nat) : Int)

def isNaN32 (w : W32) : Bool := decide (0x7F800000 < w.toNat % 2 ^ 31)
def isInf32 (w : W32) : Bool := decide (w.toNat % 2 ^ 31 = 0x7F800000)

/-- Whether two values lie within `tol` units in the last place. -/
def ulpNear (tol : Nat) (a b : W32) : Bool :=
  if isNaN32 a || isNaN32 b then isNaN32 a && isNaN32 b
  else if isInf32 a || isInf32 b then decide (a = b)
  else decide ((ulpOrd a - ulpOrd b).natAbs ≤ tol)

/-- Whether a LOSS record matches its reference. -/
def lossMatches (tol : Nat) (a b : List Byte) : Bool :=
  if tol = 0 then decide (a = b) else (List.zipWith (ulpNear tol) (fp32s a) (fp32s b)).all id

/-- The comparison of a verification step: nothing to verify, or whether it matched. -/
def verifyStep (slot : Nat) (s : State) : State × Option Bool :=
  let r := (s.ctx slot).rcv
  if !r.verifying then (s, none)
  else match r.desc, r.verify with
    | some d, some ref => let l := lossBytes slot s; (l.1, some (lossMatches d.tolUlp l.2 ref))
    | _, _ => (s, none)

/-- The end of a verification step; on a mismatch neither copy of the starfix is usable. -/
def endVerify (slot : Nat) (ok : Bool) (s : State) : State :=
  let c := s.ctx slot
  let mark := fun x : Starfix => if !ok && decide (some x.step = c.rcv.committedStep) then { x with unusable := true } else x
  (s.setCtx slot { c with rcv := { c.rcv with verifying := false, verify := none, starfixes := c.rcv.starfixes.map mark } }).mapMirrors slot
    (·.map mark)

/-- Put a context back at its last meridian: pages from the undo copies, counters at their meridian values (R372). -/
def rollback (slot : Nat) (s : State) : State :=
  let r := (s.ctx slot).rcv
  let base := (r.desc.map fun d => vpage d.undoVa).getD 0
  let s1 := restoreCtrs slot r.mCounters (r.undo.zipIdx.foldl (fun u p => u.copyPage slot (base + p.2) p.1) s)
  let c := s1.ctx slot
  s1.setCtx slot { c with perm := c.rcv.mPerm, raise := [], opened := [], rcv := { c.rcv with undo := [], others := [], protect := s1.covered slot } }

end Sys2Proof.Machine
end

