-- ==== Sys2Proof/Machine/Stores.lean ====
section
/-! DEFINITION. The device's own writes of the settings store, retirements and the failure history (13 R413 to R415,
12 R373, R384), and the emptying of an enclosure (11 R319, R320). -/

namespace Sys2Proof.Machine

/-! The settings store (R413 to R415) -/

/-- The bank that the next store writes: the one that does not hold the newest content. -/
def Mgt.nextBank (m : Mgt) : Nat := (m.storeSeq + 1) % 2

/-- The wear that the next store brings its bank to. -/
def Mgt.nextWear (m : Mgt) : Nat := (if m.nextBank = 0 then m.wear0 else m.wear1) + 1

/-- The header of the store with a sequence number, its commit word written. -/
def hdrOf (seq : Nat) : BankHdr := { seq := seq, length := Config.storeLength seq, crc := Config.storeCrc seq, commit := true }

/-- One committed store: the complete content, with its changes and the highest SEQ, in the other bank, then its header. -/
def commitStore (f : Store → Store) (s : State) : State :=
  let m := s.mgt
  let m1 := { m with store := { f m.store with highSeq := m.nextSeq - 1 }, storeSeq := m.storeSeq + 1, older := m.store
                     storeAt := some s.ticks }
  { s with mgt := if m.nextBank = 0 then { m1 with wear0 := satAdd Config.sat32 m.wear0 1, bank0 := hdrOf m1.storeSeq }
                  else { m1 with wear1 := satAdd Config.sat32 m.wear1 1, bank1 := hdrOf m1.storeSeq } }

/-- Whether the newest store still runs: for a time that is not given, at most 40 ms, 1,311 ticks (R413, log 62). -/
def State.storing (s : State) : Bool :=
  (s.mgt.storeAt.map fun a => decide (s.ticks < a + min 1311 (Config.storeTicks s.mgt.storeSeq))).getD false

/-- A bank whose commit word was not written, or no longer reads. -/
def Mgt.voidBank (m : Mgt) (k : Nat) : Mgt :=
  if k = 0 then { m with bank0 := { m.bank0 with commit := false } } else { m with bank1 := { m.bank1 with commit := false } }

/-- A store of the device's own records; past the rating it is logged. -/
def devStore (f : Store → Store) (s : State) : State :=
  let t := commitStore f s
  if 100000 < s.mgt.nextWear then t.logEv (ev 2 0x02 0x49) else t

/-- The recovery controller's records as the store holds them (R373, R374, R384). -/
def State.readLedger (s : State) : State :=
  let t := s.mgt.store
  { s with rcv := { s.rcv with coresRetired := t.coresRetired, portsRetired := t.portsRetired, outOfService := t.outOfService
                               failures := t.failures, hours := t.hours } }

/-- The power stages stop: a store that runs is cut off, and the older bank may fail its check too, a free value (R413, R414,
log 62). With no valid bank the device runs on factory settings, out
of service. -/
def loseStore (s : State) : State :=
  let m := s.mgt
  let w := Config.freeWord s.fresh
  let t := { s with fresh := s.fresh + 1, mgt := { m with storeAt := none } }
  let newest := m.storeSeq % 2
  if !s.storing then t
  else if !w.getLsbD 0 then
    State.readLedger { t with
      mgt := { (t.mgt.voidBank newest) with
        store := { m.older with startCount := m.store.startCount }, working := m.older.settings, storeSeq := m.storeSeq - 1, storeLog := 1 } }
  else
    State.readLedger { t with
      mgt := { ((t.mgt.voidBank 0).voidBank 1) with
        store := { outOfService := true, startCount := m.store.startCount }, working := {}, storeLog := 2 } }

/-! Retirement (R373) -/

/-- DOMAIN_RETIRED: logged for each retirement, by the error bit where that rises. -/
def logRetired (core port : Nat) (s : State) : State :=
  if s.rcv.err.getLsbD 2 then s.logEv { ev 2 0x09 2 with core := core, port := port }
  else s.errRcv 2 0xFFFF core port

/-- The loaded contexts that a core belongs to. -/
def State.usersOf (s : State) (n : Nat) : List Nat :=
  (s.ctxs.filter fun p => decide (p.2.st ≠ .none) && decide (p.1 ≠ replaySlot) && bit p.2.desc.mask n).map Prod.fst

/-- A context that uses a retired core is FAULTED, and leaves the cores it is on. -/
def retiredUser (s : State) (slot : Nat) : State :=
  let t := faultWhole slot 0x306 "DOMAIN_RETIRED" s
  if t.resident slot then dropFaulted slot t else t

/-- A core is retired. -/
def retireCore (n : Nat) (s : State) : State :=
  if bit s.rcv.coresRetired n then s
  else
    let m := s.rcv.coresRetired + 2 ^ n
    let s1 := devStore (fun t => { t with coresRetired := m }) { s with rcv := { s.rcv with coresRetired := m } }
    let s2 := (s1.usersOf n).foldl retiredUser (logRetired n 0xFF s1)
    s2.setCore n { s2.core n with live := {}, resident := none, state := .retired, clock := 0, busy := false, aged := [] }

/-- The content of replaced rows in their spares: corrected, and each uncorrectable word poisoned (R79). -/
def CoreCtx.spared (l : CoreCtx) (bankBase : Nat) (rows : List Nat) : CoreCtx :=
  { l with errs := l.errs.filterMap fun x =>
      if (x.row bankBase).any fun r => decide (r ∈ rows) then if x.ue then some { x with poisoned := true } else none
      else some x }

/-- The first operand-store bank of the context that is resident on core `n`. -/
def State.bankBaseOf (s : State) (n : Nat) : Nat :=
  ((s.core n).resident.map fun k => ((s.ctx k).desc.core n).bankBase).getD 0

/-- Marked rows of a core are replaced; a bank with no spare row left retires the core (R79). -/
def repairCore (s : State) (n : Nat) : State :=
  let c := s.core n
  if c.rowMarks.isEmpty then s
  else
    let r := c.replaceRows
    let t := s.setCore n { r.1 with live := c.live.spared (s.bankBaseOf n) c.rowMarks }
    if r.2 then t else retireCore n t

/-- With no context active on a core its marked rows are replaced at once (R79). -/
def repairIdle (s : State) : State :=
  (List.range 8).foldl (fun u n => if (u.core n).resident.isNone then repairCore u n else u) s

/-- A port is retired and powered down. -/
def retirePort (n : Nat) (s : State) : State :=
  if bit s.rcv.portsRetired n then s
  else
    let m := s.rcv.portsRetired + 2 ^ n
    let s1 := devStore (fun t => { t with portsRetired := m }) { s with rcv := { s.rcv with portsRetired := m } }
    let s2 := logRetired 0xFF n s1
    s2.setNet n { (s2.net n).fall with retired := true, powered := false, txq := [], sending := none }

/-- A counted failure joins the history (R384). -/
def countFailure (s : State) : State :=
  let n := satAdd Config.sat32 s.rcv.failures 1
  devStore (fun t => { t with failures := n }) { s with rcv := { s.rcv with failures := n } }

/-! Enclosures (R319, R320) -/

/-- Whether number `k` lies in a range. -/
def inRange (k base n : Nat) : Bool := decide (base ≤ k) && decide (k < base + n)

/-- The connections of an enclosure, collective ones included. -/
def EnclEntry.ownsConn (e : EnclEntry) (k : Nat) : Bool := inRange k e.connBase e.connCount || inRange k e.cconnBase e.cconnCount

/-- Whether an address-space key of the page tables belongs to an enclosure. -/
def EnclEntry.ownsSlot (e : EnclEntry) (k : Nat) : Bool := inRange k e.ctxBase e.ctxCount

/-- Empty: no loaded context, no mapped page, no open window, no connection, no bound queue (R319). -/
def State.enclEmpty (s : State) (e : EnclEntry) : Bool :=
  s.ctxs.all (fun p => !e.ownsSlot p.1 || decide (p.2.st = .none))
    && s.tiers.pt.all (fun p => !e.ownsSlot (p.1 / vpages))
    && s.dwt.wins.all (fun p => !inRange p.1 e.winBase e.winCount || decide (p.2.st = .closed))
    && s.dwt.conns.all (fun p => !e.ownsConn p.1 || decide (p.2.st = .closed))
    && s.dwt.queues.all (fun p => !inRange p.1 e.queueBase e.queueCount || p.2.ctx.isNone)

/-- A closed window keeps its generation (R262, R362). -/
def DwtWin.shut (w : DwtWin) : DwtWin := { gen := w.gen, revoked := w.revoked }

/-- The enclosure's contexts are unloaded, and what belongs to their address spaces starts again. -/
def unloadEncl (e : EnclEntry) (s : State) : State :=
  let slots := (s.ctxs.filter fun p => e.ownsSlot p.1).map Prod.fst
  let out := fun (u : State) (k : Nat) =>
    let v := if (u.ctx k).st = .none then u else unloadNow k u
    v.setCtx k { v.ctx k with importMeas := 0, lastIn := 0, rcv := {} }
  slots.foldl out s

/-- Allocations, streaming windows and page moves of an enclosure end, and every page they held is zero-filled. -/
def freeEncl (e : EnclEntry) (s : State) : State :=
  let mine := fun slot => e.ownsSlot slot
  let gone := (s.tiers.pt.filter fun p => mine (p.1 / vpages)).map (·.2.frame)
    ++ (s.tiers.moves.filter fun m => mine m.slot).map (·.dest) ++ ((s.tiers.wins.filter fun w => mine w.slot).map (·.frames)).flatten
  let s1 := gone.foldl State.zeroFrame s
  { s1 with tiers := { s1.tiers with
      pt := s1.tiers.pt.filter fun p => !mine (p.1 / vpages)
      objs := s1.tiers.objs.filter fun o => !mine o.slot
      wins := s1.tiers.wins.filter fun w => !mine w.slot
      moves := s1.tiers.moves.filter fun m => !mine m.slot } }

/-- DWT windows, connections and queues of an enclosure close. -/
def closeEncl (e : EnclEntry) (s : State) : State :=
  { s with dwt := { s.dwt with
      wins := s.dwt.wins.map fun p => if inRange p.1 e.winBase e.winCount then (p.1, p.2.shut) else p
      conns := s.dwt.conns.filter fun p => !e.ownsConn p.1
      queues := s.dwt.queues.filter fun p => !inRange p.1 e.queueBase e.queueCount } }

/-- The steps of an enclosure reset (R320). -/
def emptyEncl (e : EnclEntry) (s : State) : State := closeEncl e (freeEncl e (unloadEncl e s))

end Sys2Proof.Machine
end

