-- ==== Sys2Proof/Machine/Host.lean ====
section
/-! DEFINITION. The host interface: postings and their order, control commands, host DMA of sealed records, and
the pump that carries waiting commands out (14 R434 to R446). -/

namespace Sys2Proof.Machine

/-! Statuses of R446 -/

def hifReserved : Nat := 0x3
def hifSlotBusy : Nat := 0x4
def hifNoIde : Nat := 0x5
def hifHostAbort : Nat := 0x6
def hifLinkDown : Nat := 0x7
def hifFlr : Nat := 0x8
def hifRecFormat : Nat := 0x9
def hifRecAuth : Nat := 0xA
def hifRecReplay : Nat := 0xB
def hifRecUnmapped : Nat := 0xC
def hifOutShort : Nat := 0xD
def memPoisonedStatus : Nat := 0xE
def hifCtrRange : Nat := 0xF
def encAbsent : Nat := 0x20
def encNoKey : Nat := 0x22
def encBusy : Nat := 0x26
def statusFenced : Nat := 0x302
def ctxNoContext : Nat := 0x40F
def ctxResident : Nat := 0x410
def ctxNotHeld : Nat := 0x411
def dwtqRange : Nat := 0x500
def dwtqUnmapped : Nat := 0x501

/-! Pages and refusals (R430, R434, R436) -/

/-- The slot whose doorbell page a function reaches at page `page`; a VF is there while it is enabled. -/
def State.slotOf (s : State) (fn page : Nat) : Option Nat :=
  if fn = 0 then (if page < Config.ctxSlots then some page else none)
  else if s.hif.vfs < fn then none
  else match s.entries.find? fun e => decide (e.index = fn - 1) with
    | some e => if page < e.ctxCount then some (e.ctxBase + page) else none
    | none => none

/-- Whether an IDE stream is active (R432). -/
def Hif.ide (h : Hif) : Bool := h.linkIde || !h.selIde.isEmpty

/-- Whether an IDE stream covers a transaction whose addresses are not given: the link stream covers all, whether a selective one does is
a free value (R432, log 43). -/
def State.ideCovers (s : State) : Bool := s.hif.linkIde || (!s.hif.selIde.isEmpty && s.free.getLsbD 0)

/-- The refusal of a posting for IDE, for the enclosure's state or for fencing, in that order. -/
def State.early (s : State) (slot : Nat) (ide : Bool) : Option Nat :=
  let i := (s.enclOfSlot slot).getD 0xFF
  let st := (s.encl i).st
  firstOf [
    (s.hif.ideRequired && !(ide && s.hif.ide), hifNoIde),
    (decide (st = .absent) || s.rcv.outOfService, encAbsent),
    (decide (st = .awaitingKey), encNoKey),
    (decide (st = .resetting), encBusy),
    (decide (st = .eclipse) || decide ((s.ctx slot).st = .eclipse), statusFenced)]

/-! Completions -/

def Posted.cpl (x : Posted) (status bytes : Nat) : Cpl :=
  { tag := BitVec.ofNat 64 (entWord x.entry 7), bytes := bytes, control := x.control, opcode := entOp x.entry
    status := status, clear := some x.index }

/-- A record for a doorbell that posts nothing goes ahead of the slot's commands, behind earlier ones of its kind. -/
def State.busyCpl (s : State) (slot : Nat) (c : Cpl) : State :=
  let p := s.page slot
  let held := (p.held.filter fun d => d.clear.isNone) ++ [c] ++ p.held.filter fun d => d.clear.isSome
  (s.setPage slot { p with held := held }).flushCpl slot held.length

/-! Host DMA (R441 to R444) -/

/-- The 32 header bytes of a record. -/
def recHeader (version : Nat) (dir : Bool) (rseq va len : Nat) : List Byte :=
  leBytes 8 (version + at_ (b2n dir) 8) ++ leBytes 8 rseq ++ leBytes 8 va ++ leBytes 8 len

def hostHeader (r : HostRec) : List Byte := recHeader r.version.toNat r.dir r.rseq.toNat r.ctxVA.toNat r.length.toNat

/-- Whether a record's form is wrong, `rest` bytes of HOST_LEN being left for it. -/
def recBadForm (r : HostRec) (rest : Nat) : Bool :=
  decide (r.version ≠ 1#8) || !r.hdrResv || r.dir || decide (r.ctxVA.toNat % 64 ≠ 0) || decide (r.length.toNat % 64 ≠ 0)
    || decide (4194304 < r.length.toNat) || decide (rest < 48 + r.length.toNat)

/-- Whether its tag opens under the enclosure's host key for this module, enclosure and slot. -/
def recOpens (r : HostRec) (s : State) (encl slot : Nat) : Bool :=
  r.intact && decide (some r.key = s.slotKey (s.entry encl).hostSlot) && decide (r.serial = s.fuse.serial)
    && decide (r.encl = encl) && decide (r.slot = slot)

/-- The status of a record that fails a check. -/
def recFails (r : HostRec) (s : State) (encl slot rest : Nat) : Option Nat :=
  firstOf [
    (recBadForm r rest, hifRecFormat),
    (!recOpens r s encl slot, hifRecAuth),
    (decide (r.rseq ≤ (s.ctx slot).lastIn), hifRecReplay),
    (decide (0 < r.length.toNat) && (!s.mapped slot r.ctxVA.toNat r.length.toNat || s.touchesView slot r.ctxVA.toNat r.length.toNat),
      hifRecUnmapped)]

/-- A record that passes: payload, LAST_IN and the measurement. -/
def acceptRec (slot : Nat) (r : HostRec) (s : State) : State :=
  let s1 := s.writeVA slot r.ctxVA.toNat r.payload
  let c := s1.ctx slot
  let digest := Config.sha384 (hostHeader r ++ leBytes 16 r.tag.toNat)
  let n := 48 + r.length.toNat
  let s2 := s1.setCtx slot { c with lastIn := r.rseq, importMeas := Config.sha384 (digestBytes c.importMeas ++ digestBytes digest) }
  { s2 with hif := { s2.hif with inBytes := satAdd Config.sat64 s2.hif.inBytes n } }

/-- The records in turn; answers the state, the status and the bytes of the records written. -/
def takeRecs (slot encl : Nat) (abort : Bool) : List HostRec → Nat → Nat → State → State × Nat × Nat
  | [], rest, bytes, s =>
    if rest = 0 then (s, 0, bytes)
    else if abort then (s.errHif 3 slot, hifHostAbort, bytes)
    else (s.errHif 0 slot, hifRecFormat, bytes)
  | r :: rs, rest, bytes, s =>
    if rest = 0 then (s, 0, bytes)
    else match recFails r s encl slot rest with
      | some k => (s.errHif 0 slot, k, bytes)
      | none => takeRecs slot encl abort rs (rest - (48 + r.length.toNat)) (bytes + 48 + r.length.toNat) (acceptRec slot r s)

/-- DONE_CTR of a DMA command cannot be raised. -/
def State.dmaCtrBad (s : State) (slot : Nat) (e : BitVec 512) : Bool :=
  let c := s.ctx slot
  bit (entWord e 6) 0 && (decide (c.st = .none) || decide (c.desc.ctrCount ≤ bits (entWord e 6) 63 48))

/-- The counter of a DMA command that ended with HIF_OK; that of a context unloaded meanwhile is dropped (R443). -/
def dmaCount (slot : Nat) (e : BitVec 512) (status : Nat) (s : State) : State :=
  if status = 0 ∧ bit (entWord e 6) 0 = true then s.raiseRel slot (bits (entWord e 6) 63 48) 1 else s

/-- What stops a DMA command: its counter is checked as it starts. -/
def State.dmaStop (s : State) (slot : Nat) (e : BitVec 512) (started : Bool) : Option Nat :=
  firstOf [(!s.hif.linkUp, hifLinkDown), (s.hif.ideRequired && !s.ideCovers, hifNoIde), (!started && s.dmaCtrBad slot e, hifCtrRange)]

/-- A DMA command that ends with HIF_NO_IDE sets the flag. -/
def noIdeErr (slot k : Nat) (s : State) : State := if k = hifNoIde then s.errHif 1 slot else s

/-- DMA_IN; it waits for the retrain of a tier that it writes (R425). -/
def dmaIn (slot encl : Nat) (e : BitVec 512) (recs : List HostRec) (abort started : Bool) (s : State) : CmdOut :=
  match s.dmaStop slot e started with
  | some k => .done (noIdeErr slot k (s.drawn 1)) k
  | none =>
    if recs.any fun r => s.memTrains slot r.ctxVA.toNat r.length.toNat then ⟨s.drawn 1, none⟩
    else
      let r := takeRecs slot encl abort recs (bits (entWord e 2) 31 0) 0 (s.drawn 1)
      ⟨dmaCount slot e r.2.1 r.1, some (r.2.1, r.2.2)⟩

/-- The bytes of an outgoing record: header, and the payload sealed under the host key with its tag (R441). -/
def State.sealRecord (s : State) (slot encl seq va : Nat) (payload : List Byte) : List Byte :=
  let header := recHeader 1 true seq va payload.length
  let aad := header ++ beBytes 8 s.fuse.serial.toNat ++ leBytes 1 encl ++ beBytes 2 slot
  let key := (s.slotKey (s.entry encl).hostSlot).getD 0
  header ++ (padTo 0#8 (payload.length + 16) (Config.gcmSeal key (at_ 1 95 + at_ slot 64 + seq) aad payload)).take (payload.length + 16)

/-- Seal `n` more records from `va` on, `left` bytes being left; answers the status and the bytes written. -/
def sealRecs (slot encl : Nat) : Nat → Nat → Nat → Nat → Nat → State → State × Nat × Nat
  | 0, _, _, _, bytes, s => (s, 0, bytes)
  | n + 1, va, host, left, bytes, s =>
    let k := min left 4194304
    let m := s.readVA slot va k
    if m.bad then (m.s, memPoisonedStatus, bytes)
    else
      let c := m.s.ctx slot
      let seq := at_ (m.s.hif.startCount % 2 ^ 24) 40 + (c.sealedOut + 1) % 2 ^ 40
      let s1 := (m.s.setCtx slot { c with sealedOut := c.sealedOut + 1 }).emit
        (.sealed slot host (m.s.sealRecord slot encl seq va m.bytes))
      let s2 := { s1 with hif := { s1.hif with outBytes := satAdd Config.sat64 s1.hif.outBytes (k + 48) } }
      sealRecs slot encl n (va + k) (host + k + 48) (left - k) (bytes + k + 48) s2

/-- DMA_OUT; it waits for the retrain of a tier that it reads (R425). -/
def dmaOut (slot encl : Nat) (e : BitVec 512) (started : Bool) (s : State) : CmdOut :=
  match s.dmaStop slot e started with
  | some k => .done (noIdeErr slot k (s.drawn 1)) k
  | none =>
    let src := entWord e 3
    let len := entWord e 4
    let n := ceilDiv len 4194304
    if bits (entWord e 2) 31 0 < len + 48 * n then .done (s.drawn 1) hifOutShort
    else if !s.mapped slot src len then .done (s.drawn 1) hifRecUnmapped
    else if s.memTrains slot src len then ⟨s.drawn 1, none⟩
    else
      let r := sealRecs slot encl n src (entWord e 1) len 0 (s.drawn 1)
      ⟨dmaCount slot e r.2.1 r.1, some (r.2.1, r.2.2)⟩

/-! Control commands (R438, R439) -/

/-- The bits that a control command may set in words 1 to 6. -/
def ctlMask (op : Nat) : Option (List Nat) :=
  let va := 2 ^ 48 - 1
  match op with
  | 0x40 => some [va, 0, 0, 0, 0, 0]
  | 0x41 => some [va, 0, 0, 0, 0, 0]
  | 0x42 => some [0, 0, 0, 0, 0, 0]
  | 0x43 => some [0, 0, 0, 0, 0, 0]
  | 0x44 => some [0, 1, 0, 0, 0, 0]
  | 0x45 => some [0, 0, 0, 0, 0, 0]
  | 0x50 => some [va, 0x1FF1FFF, 0, 0, 0, 0]
  | 0x60 => some [va, 0, 0, 0, 0, 0]
  | 0x61 => some [2 ^ 64 - 1, 1, 0, 0, 0, 0]
  | 0x70 => some [va, 2 ^ 32 - 1, 0, 0, 0, 0xFFFF000000000001]
  | 0x71 => some [va, 2 ^ 32 - 1, va, va, 0, 0xFFFF000000000001]
  | _ => none

/-- A reserved bit set, an undefined opcode, or a field outside its range. -/
def ctlReserved (e : BitVec 512) : Bool :=
  let w := entWord e
  match ctlMask (entOp e) with
  | none => true
  | some ms =>
    decide (w 0 / 256 ≠ 0) || ms.zipIdx.any (fun p => decide (w (p.2 + 1) &&& p.1 ≠ w (p.2 + 1)))
      || (decide (entOp e = 0x50) && decide (256 < bits (w 2) 24 16))
      || (decide (entOp e ∈ [0x70, 0x71]) && decide (w 1 % 64 ≠ 0))
      || (decide (entOp e = 0x71) && (decide (w 3 % 64 ≠ 0) || decide (w 4 % 64 ≠ 0)))

/-- Streams AT_MERIDIAN resume after their MERIDIAN. -/
def Stream.resume (t : Stream) : Stream := if t.st = .atMeridian then { t with st := .running, atSync := false } else t

def CoreCtx.resume (l : CoreCtx) : CoreCtx := { l with f := l.f.resume, b := l.b.resume, u := l.u.resume }

/-- Every stream of a context resumes. -/
def resumeStreams (slot : Nat) (s : State) : State :=
  (maskCores (s.ctx slot).desc.mask).foldl (fun u n => u.setCoreCtx slot n (u.coreCtx slot n).resume) s

/-- Step 8 of R137: a replacement or a switch is carried out, else every stream resumes; a context switched out
resumes when it comes back. -/
def stepEight (slot encl : Nat) (s : State) : State :=
  let s1 := resumeStreams slot s
  let s2 := match (s.ctx slot).replace with
    | some va => replaceCtx slot encl va.toNat s1
    | none => s1
  if (s2.ctx slot).switchOut || (s2.ctx slot).preempt then switchOutNow slot s2 else s2

/-- CTX_RESUME. -/
def resumeCtx (slot encl : Nat) (s : State) : CmdOut :=
  let c := s.ctx slot
  if c.st = .none then .done s ctxNoContext
  else if !c.held then .done s ctxNotHeld
  else .done (stepEight slot encl (s.setCtx slot { c with held := false, cause := 0 })) 0

/-- Every stream of the context has halted or dispatched MERIDIAN. -/
def State.allAtMeridian (s : State) (slot : Nat) : Bool :=
  (maskCores (s.ctx slot).desc.mask).all fun n =>
    let l := s.coreCtx slot n
    [l.f, l.b, l.u].all fun t => match t.st with
      | .absent => true | .halted => true | .atMeridian => true
      | _ => false

/-- CTX_SWITCH_OUT: at once where nothing runs, else with the next meridian or the preemption. -/
def switchOut (slot : Nat) (preempt started : Bool) (s : State) : CmdOut :=
  let c := s.ctx slot
  if c.st = .none then .done s ctxNoContext
  else if !s.resident slot then .done s 0
  else if c.st = .faulted then .done (repairIdle (dropFaulted slot s)) 0
  else if c.st = .done ∨ c.held = true then .done (repairIdle (switchOutNow slot s)) 0
  else if started then ⟨s, none⟩
  else
    let now := preempt && !s.allAtMeridian slot
    ⟨s.setCtx slot { c with preempt := now, switchOut := !now }, none⟩

/-- CTX_SWITCH_IN waits for a context that can run and for its cores. -/
def switchIn (slot encl : Nat) (started : Bool) (s : State) : CmdOut :=
  let c := s.ctx slot
  if c.st = .none then .done s ctxNoContext
  else if s.resident slot then .done s (if started then 0 else ctxResident)
  else if (c.st = .ready ∨ c.st = .done) ∧ s.coresFree slot = true then .done (switchInNow slot encl s) 0
  else ⟨s, none⟩

/-- DWT_POST. -/
def dwtPost (slot : Nat) (e : BitVec 512) (s : State) : CmdOut :=
  let n := bits (entWord e 2) 24 16
  let va := entWord e 1
  if (s.ctx slot).st = .none then .done s ctxNoContext
  else match s.queueOf slot (bits (entWord e 2) 12 0) with
    | none => .done s dwtqRange
    | some q =>
      if s.queueForeign q slot then .done s dwtqRange
      else if n = 0 then .done s 0
      else if !s.mapped slot va (64 * n) then .done s dwtqUnmapped
      else if Config.queueEntries < (s.queue q).entries.length + n ∨ s.memTrains slot va (64 * n) = true then ⟨s, none⟩
      else
        let m := s.readVA slot va (64 * n)
        if m.bad then .done m.s memPoisonedStatus else .done (m.s.postEntries q slot (readQEnts m.bytes)) 0

/-- CTX_RELOAD. -/
def reloadCtx (slot va : Nat) (s : State) : CmdOut :=
  let c := s.ctx slot
  if c.st = .none then .done s ctxNoContext else .done (s.setCtx slot { c with replace := some (BitVec.ofNat 48 va) }) 0

/-- CTX_LOAD: a load onto a core whose self-test runs waits for the test to end (R78). -/
def ctxLoad (slot encl va : Nat) (s : State) : CmdOut :=
  let o := checkDesc slot encl va false s
  if decide ((s.ctx slot).st = .none) && decide (o.status = 0) && (maskCores o.d.mask).any fun n => (s.core n).busy then ⟨s, none⟩
  else
    let r := loadCtx slot encl va s
    .done r.1 r.2

/-- One control command. -/
def controlCommand (slot encl : Nat) (x : Posted) (s : State) : CmdOut :=
  let e := x.entry
  let w := entWord e
  if ctlReserved e then .done s hifReserved
  else match entOp e with
    | 0x40 => ctxLoad slot encl (w 1) s
    | 0x41 => reloadCtx slot (w 1) s
    | 0x42 => let r := unloadCtx slot s; .done (repairIdle r.1) r.2
    | 0x43 => switchIn slot encl x.started s
    | 0x44 => switchOut slot (bit (w 2) 0) x.started s
    | 0x45 => resumeCtx slot encl s
    | 0x50 => dwtPost slot e s
    | 0x60 => let r := rcvSet slot (w 1) s; .done r.1 r.2
    | 0x61 =>
      let r := restore slot encl (BitVec.ofNat 64 (w 1)) (bit (w 2) 0) s
      .done (r.1.setCtx slot { r.1.ctx slot with rcvStatus := r.2 }) r.2
    | 0x70 => dmaIn slot encl e x.recs x.abort x.started (s.touch slot)
    | _ => dmaOut slot encl e x.started (s.touch slot)

/-! The pump (R436, R437) -/

/-- Carry out the command at the head of a slot's queue; the replay of its context holds it (R370). -/
def runPosted (mer : Bool) (slot : Nat) (x : Posted) (s : State) : CmdOut :=
  match x.early with
  | some k => .done s k
  | none =>
    let encl := (s.enclOfSlot slot).getD 0xFF
    if s.replayed = some slot then ⟨s, none⟩
    else if x.control then controlCommand slot encl x s else tierCommand slot encl mer x.started x.entry s

/-- Commands of one slot in order, until one waits; a held completion holds the later ones. A status record
comes before the completion record that reports the same change. -/
def pumpSlot (mer : Bool) (slot : Nat) : Nat → State → State
  | 0, s => s
  | n + 1, s =>
    let p := s.page slot
    match p.queue with
    | [] => s
    | x :: xs =>
      if !p.held.isEmpty then s
      else
        let r := runPosted mer slot x s
        match r.res with
        | none => r.s.setPage slot { r.s.page slot with queue := { x with started := true } :: xs }
        | some (k, b) =>
          let s1 := s.settle (r.s.setPage slot { r.s.page slot with queue := xs })
          pumpSlot mer slot n (s1.addCpl slot (x.cpl k b))

/-- The slots with commands waiting. -/
def State.waiting (s : State) : List Nat := (s.pages.filter fun p => !p.2.queue.isEmpty).map Prod.fst

/-- Carry out what can be carried out on every slot, as often as a command may free another. -/
def pumpRounds (mer : Option Nat) : Nat → State → State
  | 0, s => s
  | n + 1, s => pumpRounds mer n (s.waiting.foldl (fun u k => pumpSlot (decide (mer = some k)) k 33 u) s)

def State.queued (s : State) : Nat := (s.pages.map fun p => p.2.queue.length).sum

def State.pumpAt (s : State) (mer : Option Nat) : State := pumpRounds mer (s.queued + 1) s

/-- The end of a command that may let host commands go on: marked rows of idle cores, status records, then the pump. -/
def State.close (s t : State) : State := (s.settle (repairIdle t)).pumpAt none

/-! Postings -/

/-- The entry with the opcode byte of its row. -/
def withOp (e : BitVec 512) (op : Nat) : BitVec 512 := BitVec.ofNat 512 (e.toNat / 256 * 256 + op)

/-- One doorbell write for entry `e` of a slot's page (R436). -/
def postAt (slot : Nat) (p : Post) (control : Bool) (e : BitVec 512) (recs : List HostRec) (abort : Bool) (s : State) : State :=
  let i := p.index.toNat
  if (s.page slot).pending.getLsbD i then
    s.busyCpl slot { tag := 0, bytes := 0, control := control, opcode := entOp e, status := hifSlotBusy, clear := none }
  else
    let early := s.early slot p.ide
    let x : Posted := { index := i, control := control, entry := e, fn := p.fn, early := early, recs := recs, abort := abort }
    let g := s.page slot
    let t := s.setPage slot { g with pending := setBit g.pending i, queue := g.queue ++ [x] }
    if early = some hifNoIde then t.errHif 1 slot else t

/-- A posting: the entry stored, then the doorbell (R436). -/
def post (p : Post) (control : Bool) (op : Nat) (recs : List HostRec) (abort : Bool) (s : State) : State :=
  match s.slotOf p.fn p.page with
  | none => s
  | some slot =>
    if !s.hif.ready || !s.hif.linkUp then s
    else
      let e := withOp p.entry op
      let g := s.page slot
      s.close (postAt slot p control e recs abort (s.setPage slot { g with entries := Tbl.put g.entries p.index.toNat e }))

/-- ALLOC. -/
def execAlloc (p : Post) (s : State) : Host.Outcome State Fault Refusal := .next (post p false 0x01 [] false s)
/-- FREE. -/
def execFree (p : Post) (s : State) : Host.Outcome State Fault Refusal := .next (post p false 0x02 [] false s)
/-- MIGRATE. -/
def execMigrate (p : Post) (s : State) : Host.Outcome State Fault Refusal := .next (post p false 0x03 [] false s)
/-- WIN_CREATE. -/
def execWinCreate (p : Post) (s : State) : Host.Outcome State Fault Refusal := .next (post p false 0x04 [] false s)
/-- WIN_DESTROY. -/
def execWinDestroy (p : Post) (s : State) : Host.Outcome State Fault Refusal := .next (post p false 0x05 [] false s)
/-- CTX_LOAD. -/
def execCtxLoad (p : Post) (s : State) : Host.Outcome State Fault Refusal := .next (post p true 0x40 [] false s)
/-- CTX_RELOAD. -/
def execCtxReload (p : Post) (s : State) : Host.Outcome State Fault Refusal := .next (post p true 0x41 [] false s)
/-- CTX_UNLOAD. -/
def execCtxUnload (p : Post) (s : State) : Host.Outcome State Fault Refusal := .next (post p true 0x42 [] false s)
/-- CTX_SWITCH_IN. -/
def execCtxSwitchIn (p : Post) (s : State) : Host.Outcome State Fault Refusal := .next (post p true 0x43 [] false s)
/-- CTX_SWITCH_OUT. -/
def execCtxSwitchOut (p : Post) (s : State) : Host.Outcome State Fault Refusal := .next (post p true 0x44 [] false s)
/-- CTX_RESUME. -/
def execCtxResume (p : Post) (s : State) : Host.Outcome State Fault Refusal := .next (post p true 0x45 [] false s)
/-- DWT_POST. -/
def execDwtPost (p : Post) (s : State) : Host.Outcome State Fault Refusal := .next (post p true 0x50 [] false s)
/-- RCV_SET. -/
def execRcvSet (p : Post) (s : State) : Host.Outcome State Fault Refusal := .next (post p true 0x60 [] false s)
/-- RESTORE of the recovery commands. -/
def execRestoreStarfix (p : Post) (s : State) : Host.Outcome State Fault Refusal := .next (post p true 0x61 [] false s)
/-- DMA_IN: `recs` is what the HOST_LEN bytes at HOST_VA hold; `abort` says that the host refuses the read after them. -/
def execDmaIn (p : Post) (recs : List HostRec) (abort : Bool) (s : State) : Host.Outcome State Fault Refusal :=
  .next (post p true 0x70 recs abort s)
/-- DMA_OUT. -/
def execDmaOut (p : Post) (s : State) : Host.Outcome State Fault Refusal := .next (post p true 0x71 [] false s)

/-! Rows of the tier manager and of the recovery controller that may let host commands go on -/

/-- PAGE_MIGRATION. -/
def execPageMigration (s : State) : Host.Outcome State Fault Refusal := .next (s.close (pageMove s))

/-- STARFIX_COMPLETE. -/
def execStarfixComplete (slot : SlotId) (s : State) : Host.Outcome State Fault Refusal :=
  .next (s.settle (starfixComplete slot.val s))

/-- Causes after which the device restores a context itself (R386). -/
def autoCauses : List Nat := [0x300, 0x301, 0x302, 0x303, 0x304, 0x308, 0x309]

/-- A domain that a context belongs to is in eclipse. -/
def State.ownEclipse (s : State) (slot : Nat) : Bool :=
  s.rcv.eclipse.any fun d => match d with
    | .core n => bit (s.ctx slot).desc.mask n.val
    | .port _ => false
    | .encl i => decide (s.enclOfSlot slot = some i.val)
    | .hub => true
    | .device => true

/-- AUTO_RESTORE: a FAULTED context goes back to its committed starfix once its domains are out of eclipse. -/
def autoRestore (slot : Nat) (s : State) : State :=
  let c := s.ctx slot
  let auto := (c.rcv.desc.map (·.autoRestore)).getD false
  let fenced := (maskCores c.desc.mask).any fun n => decide ((s.core n).state = .eclipse)
  match c.rcv.committedStep, s.enclOfSlot slot with
  | some step, some encl =>
    if c.st ≠ .faulted ∨ c.cause ∉ autoCauses ∨ !auto ∨ fenced ∨ s.ownEclipse slot = true ∨ s.linkLost = true then s
    else
      let r := restore slot encl step false s
      r.1.setCtx slot { r.1.ctx slot with rcvStatus := r.2 }
  | _, _ => s

def execAutoRestore (slot : SlotId) (s : State) : Host.Outcome State Fault Refusal := .next (s.close (autoRestore slot.val s))

end Sys2Proof.Machine
end

