-- ==== Sys2Proof/Machine/DwtRows.lean ====
section
/-! DEFINITION. The commands of the window transport: queue entries that start, timers, and received messages
(08 R234 to R266). -/

namespace Sys2Proof.Machine

/-! Queue entries -/

/-- An entry that only completes. -/
def dwtNop (q : Nat) (t : Started) (s : State) : Option State :=
  some (s.dwtComplete q t.num ((firstOf (t.e.common s t.slot)).getD 0) 0)

/-- NOP. -/
def execNop (q : QueueId) (s : State) : Host.Outcome State Fault Refusal :=
  .next (s.close (startEntry q.val 0x00 (dwtNop q.val) s))

/-- WRITE. -/
def execWrite (q : QueueId) (s : State) : Host.Outcome State Fault Refusal :=
  .next (s.close (startEntry q.val 0x01 (dwtMove q.val) s))

/-- READ. -/
def execRead (q : QueueId) (s : State) : Host.Outcome State Fault Refusal :=
  .next (s.close (startEntry q.val 0x02 (dwtMove q.val) s))

/-- ACCUM. -/
def execAccum (q : QueueId) (s : State) : Host.Outcome State Fault Refusal :=
  .next (s.close (startEntry q.val 0x03 (dwtMove q.val) s))

/-- WIN_OPEN. -/
def execWinOpen (q : QueueId) (s : State) : Host.Outcome State Fault Refusal :=
  .next (s.close (startEntry q.val 0x10 (fun t u => some (winOpen q.val t u)) s))

/-- WIN_REVOKE. -/
def execWinRevoke (q : QueueId) (s : State) : Host.Outcome State Fault Refusal :=
  .next (s.close (startEntry q.val 0x11 (fun t u => some (winRevoke q.val t u)) s))

/-- PULL: `signer` is the public key that the manifest's signature was made with. -/
def execPull (q : QueueId) (signer : BitVec 768) (s : State) : Host.Outcome State Fault Refusal :=
  .next (s.close (startEntry q.val 0x20 (fun t u => pull q.val t signer u) s))

/-- CONN_OPEN. -/
def execConnOpen (q : QueueId) (s : State) : Host.Outcome State Fault Refusal :=
  .next (s.close (startEntry q.val 0x30 (fun t u => some (connOpen q.val t u)) s))

/-- CONN_CLOSE. -/
def execConnClose (q : QueueId) (s : State) : Host.Outcome State Fault Refusal :=
  .next (s.close (startEntry q.val 0x31 (fun t u => some (connClose q.val t u)) s))

/-! Timers and checks -/

/-- REVOKE_COMPLETE. -/
def execRevokeComplete (w : WinId) (s : State) : Host.Outcome State Fault Refusal := .next (s.close (revokeComplete w.val s))

/-- PULL_CHUNK_CHECK. -/
def execPullChunkCheck (cn : ConnId) (k : Nat) (s : State) : Host.Outcome State Fault Refusal :=
  .next (s.close (chunkCheck cn.val k s))

/-- OPEN_RESEND. -/
def execOpenResend (cn : ConnId) (s : State) : Host.Outcome State Fault Refusal := .next (openResend cn.val s)

/-- CONN_NO_PEER. -/
def execConnNoPeer (cn : ConnId) (s : State) : Host.Outcome State Fault Refusal := .next (s.close (connNoPeerEnd cn.val s))

/-- REKEY. -/
def execRekey (cn : ConnId) (s : State) : Host.Outcome State Fault Refusal := .next (rekey cn.val s)

/-! Received messages (R238, R247) -/

/-- A message of a type that a port hands over, and what an accepted one does. -/
def received (n : PortId) (f : RxFacts) (m : Msg) (typ : Nat) (run : Nat → State → State) (s : State) : State :=
  let r := dwtIn n.val f m typ s
  s.close (match r.cn with
    | some cn => run cn r.s
    | none => r.s)

/-- A segment of an operation; on a collective connection every segment is the collective engine's (R278). -/
def dataArrives (cn : Nat) (m : Msg) (s : State) : State := if (s.conn cn).coll then s else segArrives cn m s

/-- WRITE segment received. -/
def execRxWrite (n : PortId) (f : RxFacts) (m : Msg) (s : State) : Host.Outcome State Fault Refusal :=
  .next (received n f m 1 (fun cn u => dataArrives cn m u) s)

/-- ACCUM segment received. -/
def execRxAccum (n : PortId) (f : RxFacts) (m : Msg) (s : State) : Host.Outcome State Fault Refusal :=
  .next (received n f m 2 (fun cn u => dataArrives cn m u) s)

/-- READ_REQ received. -/
def execRxReadReq (n : PortId) (f : RxFacts) (m : Msg) (s : State) : Host.Outcome State Fault Refusal :=
  .next (received n f m 3 (fun cn u => dataArrives cn m u) s)

/-- READ_RESP received. -/
def execRxReadResp (n : PortId) (f : RxFacts) (m : Msg) (s : State) : Host.Outcome State Fault Refusal :=
  .next (received n f m 4 (fun cn u => answerArrives cn m u) s)

/-- OPEN received. -/
def execRxOpen (n : PortId) (f : RxFacts) (m : Msg) (b : OpenBody) (s : State) : Host.Outcome State Fault Refusal :=
  .next (received n f m 7 (fun cn u => openReceived cn b u) s)

end Sys2Proof.Machine
end

