-- ==== Sys2Proof/Machine/Meridian.lean ====
section
/-! DEFINITION. MERIDIAN and HALT, the meridian and its ordered actions, the fault of a context, and the
switches that the device carries out by itself (04 R134 to R140; 03 R108, R472; 09 R290). -/

namespace Sys2Proof.Machine

/-! MERIDIAN and HALT (R135, R136) -/

/-- Whether a handoff queue holds a token or a reservation. -/
def Handoff.any (h : Handoff) : Bool := !h.a2e.isEmpty || !h.e2a.isEmpty || !h.da2e.isEmpty || !h.de2a.isEmpty

def isMeridian : KwOp → Bool | .meridian => true | _ => false

/-- MERIDIAN once every earlier instruction has completed: the test of the handoff queues. -/
def carryMeridian (e : Env) : Except FaultCode Done := do
  e.chkCtr
  failIf e.p.inBr .layerNotReplayable
  let t := e.live.strm e.x
  failIf t.hand.any .meridianUnbalanced
  .ok { s := e.s, l := e.live.setStrm e.x { t with atSync := true }, fl := e.flight true, fin := true }

/-- MERIDIAN. -/
def execMeridian (n : CoreId) (x : StrmId) (ph : Phase) (s : State) : Host.Outcome State Fault Refusal :=
  .next (kwemin n x ph true isMeridian carryMeridian s)

def isHalt : KwOp → Bool | .halt => true | _ => false

/-- HALT once every earlier instruction has completed. -/
def carryHalt (e : Env) : Except FaultCode Done := do
  e.chkCtr
  failIf e.p.inBr .layerOpenAtHalt
  let t := e.live.strm e.x
  .ok { s := e.s, l := e.live.setStrm e.x { t with st := .halted }, fl := e.flight true, fin := true }

/-! What a meridian waits for (R136) -/

/-- Every DWT operation and collective of the context has completed, and its DWT queues are empty; what the recovery controller
writes to a mirror is no operation of the context (R381). -/
def State.opsDone (s : State) (slot : Nat) : Bool :=
  (s.ctx slot).colls.isEmpty
    && (s.dwt.queues.all fun p => decide (p.2.ctx ≠ some slot) || (p.2.entries.isEmpty && p.2.started.isEmpty))
    && (s.dwt.conns.all fun p => decide (p.2.ctx ≠ slot) || p.2.ops.all fun o => decide (o.queue = rcvQueue))

/-- The streams of a context that exist. -/
def State.streamsOf (s : State) (slot : Nat) : List Stream :=
  (maskCores (s.ctx slot).desc.mask).flatMap fun n =>
    let l := s.coreCtx slot n
    [l.f, l.b, l.u].filter fun t => t.st != .absent

/-- A stream that has halted, or whose MERIDIAN has passed its test. -/
def Stream.arrived (t : Stream) : Bool :=
  match t.st with
  | .halted => true
  | .atMeridian => t.atSync
  | _ => false

/-- Whether every stream has halted. -/
def State.allHalted (s : State) (slot : Nat) : Bool := (s.streamsOf slot).all fun t => t.st == .halted

/-- The conditions of R136, or of the drain after the last HALT; in a thermal stop the cores keep their state (R463). -/
def State.meridianReady (s : State) (slot : Nat) : Bool :=
  let c := s.ctx slot
  !s.modl.thermalStop && decide (slot ≠ replaySlot) && c.st == .running && s.resident slot && !c.faulting && !c.held && (s.streamsOf slot).all Stream.arrived && s.noFlights slot
    && s.opsDone slot

/-! Ladder state (R108, R472) -/

/-- The sums of WRITES and DOWN_MISS of a class's AUTO_SLOT over the context's cores. -/
def Ctx.autoSums (c : Ctx) (cls : Nat) : Nat × Nat :=
  let k := recAutoSlot (recipeEnt c.recipe cls)
  let ts := (maskCores c.desc.mask).map fun n => Tbl.get {} c.stats (statKey n k)
  ((ts.map (·.writes)).sum, (ts.map (·.downMiss)).sum)

/-- Fold the raise entries of one key into its persistent entry. -/
def foldKey (c : Ctx) (key : Nat × Nat) : Ctx :=
  let es := c.raise.filter fun e => decide (layerNum e.layer = key.1) && decide (e.cls = key.2)
  let top := es.foldl (fun f e => f.higher f e.fmt) (recFmt (recipeEnt c.recipe key.2))
  let base := c.autoSums key.2
  if c.hasPerm key.1 key.2 then
    { c with perm := c.perm.map fun e =>
        if e.layerNum = key.1 ∧ e.cls = key.2 then { e with fmt := e.fmt.higher e.fmt top, baseWrites := base.1, baseMiss := base.2 } else e }
  else if es.any (·.full) then c
  else { c with perm := c.perm ++ [{ layerNum := key.1, cls := key.2, fmt := top, baseWrites := base.1, baseMiss := base.2 }] }

/-- The keys raised in the step, in the order of their first raise. -/
def Ctx.raisedKeys (c : Ctx) : List (Nat × Nat) := (c.raise.map fun e => (layerNum e.layer, e.cls)).foldl (fun l k => insertNew k l) []

/-- An entry after the step-down decision; none where it is freed. -/
def Ctx.stepDown (c : Ctx) (raised : List (Nat × Nat)) (e : LadderEnt) : Option LadderEnt :=
  let r := recipeEnt c.recipe e.cls
  let t := c.autoSums e.cls
  if decide ((e.layerNum, e.cls) ∉ raised) && recAutoDown r && decide (e.baseWrites + 64 ≤ t.1) && decide (t.2 ≤ e.baseMiss) then
    let g := (recFmt r).rungBelow e.fmt
    if g = recFmt r then none else some { e with fmt := g, baseWrites := t.1, baseMiss := t.2 }
  else some e

/-- Step 2 of R137: fold, step down, empty the raise list. -/
def foldLadder (slot : Nat) (s : State) : State :=
  let c := s.ctx slot
  let keys := c.raisedKeys
  let c1 := keys.foldl foldKey c
  s.setCtx slot { c1 with perm := c1.perm.filterMap (c1.stepDown keys), raise := [] }

/-! Core state (R137 step 3) -/

/-- What a stream keeps across a meridian: its position and its registers. -/
def Stream.atReset (t : Stream) : Stream := { t with hand := {}, q := [], dq := [], opened := false, bracket := none, dispatched := 0 }

/-- The core state emptied, stream positions kept, and the digests of the step, which its check still compares (R388). -/
def CoreCtx.emptied (l : CoreCtx) : CoreCtx :=
  { f := l.f.atReset, b := l.b.atReset, u := l.u.atReset, fold := l.fold, pairFold := l.pairFold }

def resetCores (slot : Nat) (s : State) : State :=
  (maskCores (s.ctx slot).desc.mask).foldl (fun u n =>
    if (u.core n).resident = some slot then u.setCore n { (u.core n).applySpares with live := (u.core n).live.emptied, aged := [] }
    else u) s

/-- Steps 1 to 3 of R137, with the replacement of marked rows (R79). -/
def firstThree (slot : Nat) (s : State) : State :=
  let t := resetCores slot (foldLadder slot (writeStats slot s))
  (maskCores (s.ctx slot).desc.mask).foldl repairCore t

/-- The end of a context whose streams have all halted (R135). -/
def contextDone (slot : Nat) (s : State) : State :=
  let s1 := firstThree slot s
  if (s1.ctx slot).st = .faulted then s1 else s1.setCtx slot { s1.ctx slot with st := .done }

/-- The context is done once its last stream has halted and the drain has finished. -/
def haltEnds (n : Nat) (s : State) : State :=
  match (s.core n).resident with
  | some slot => if s.allHalted slot && s.meridianReady slot then contextDone slot s else s
  | none => s

/-- HALT. -/
def execHalt (n : CoreId) (x : StrmId) (ph : Phase) (s : State) : Host.Outcome State Fault Refusal :=
  let t := kwemin n x ph true isHalt carryHalt s
  .next (t.close (haltEnds n.val t))

/-! Beacons (R288, R290) -/

/-- The payload of a beacon, most significant byte first (R11). -/
def beaconBytes (step : W64) (d : BitVec 384) : List Byte := beBytes 8 step.toNat ++ digestBytes d ++ leBytes 8 0

/-! CFG_DIGEST_MISMATCH (R291) and the comparison of beacons (R290) -/

/-- CFG_DIGEST_MISMATCH. -/
def digestMismatch (slot : Nat) (s : State) : State :=
  let s1 := if s.col.err.getLsbD 0 then s.logEv { ev 2 0x05 0 with slot := slot } else s.errCol 0 slot
  if s1.col.policyHalt then s1.setCtx slot { s1.ctx slot with mismatch := true, logSeq := BitVec.ofNat 64 s.mgt.nextSeq } else s1

/-- Compare a beacon with the own digest of its step. -/
def compareBeacon (slot : Nat) (own digest : BitVec 384) (s : State) : State :=
  if own = digest then s
  else digestMismatch slot { s with col := { s.col with mismatched := satAdd 65535 s.col.mismatched 1 } }

/-- The beacons of step `step` that came before its digest `d` was in the history. -/
def meetBeacons (slot : Nat) (step : W64) (d : BitVec 384) (s : State) : State :=
  let c := s.ctx slot
  (c.beacons.filter fun p => decide (p.1 = step)).foldl (fun u p => compareBeacon slot d p.2 u)
    (s.setCtx slot { c with beacons := c.beacons.filter fun p => decide (p.1 ≠ step) })

/-- Step 6 of R137: a beacon on every collective connection that is OPEN or REKEYING (R241); the digest joins the history of 8 steps. -/
def sendBeacons (slot : Nat) (s : State) : State :=
  let c := s.ctx slot
  let d := s.cfgDigest slot
  let cns := (s.dwt.conns.filter fun p => p.2.coll && decide (p.2.ctx = slot)
    && (decide (p.2.st = .open_) || decide (p.2.st = .rekeying))).map Prod.fst
  let s1 := meetBeacons slot c.step d (s.setCtx slot { c with digests := (c.digests ++ [(c.step, d)]).drop (c.digests.length + 1 - 8) })
  let s2 := cns.foldl (fun u cn => u.sendMsg cn { typ := 0x11, length := 64 } (beaconBytes c.step d)) s1
  { s2 with col := { s2.col with beaconsSent := satAdd Config.sat32 s2.col.beaconsSent cns.length } }

/-! The meridian (R137) -/

/-- The digests of a core and its pair differ, on some core of the context (R388). -/
def State.foldsDiffer (s : State) (slot : Nat) : Bool :=
  (maskCores (s.ctx slot).desc.mask).any fun n => decide ((s.core n).live.fold ≠ (s.core n).live.pairFold)

/-- The digests of a new step start empty. -/
def clearFolds (slot : Nat) (s : State) : State :=
  { s with cores := s.cores.map fun p =>
      if p.2.resident = some slot then (p.1, { p.2 with live := { p.2.live with fold := 0, pairFold := 0 } }) else p }

/-- What the comparisons before step 4 find: the recovery cause of a mismatch. An upset in a gap of R360, which would make a
core and its pair fold different bytes, is `shadowDiffers` (log 51). -/
def meridianCheck (slot : Nat) (shadowDiffers : Bool) (s : State) : State × Option Nat :=
  let v := verifyStep slot (clearFolds slot s)
  let shadow := (s.ctx slot).shadowed && (shadowDiffers || s.foldsDiffer slot)
  match v.2 with
  | some false => ((endVerify slot false v.1).errRcv 6 slot, some 0x307)
  | some true => if shadow then ((endVerify slot true v.1).errRcv 7 slot, some 0x308) else (endVerify slot true v.1, none)
  | none => if shadow then (v.1.errRcv 7 slot, some 0x308) else (v.1, none)

/-- A new step begins: the per-step records of the context and its windows. -/
def newStep (slot : Nat) (s : State) : State :=
  let c := s.ctx slot
  let s1 := s.setCtx slot { c with
    s := c.s + 1, opened := [], collNext := 0, pmap := none, folded := false, mismatch := false, held := c.mismatch
    cause := if c.mismatch then causeDigest else c.cause }
  { s1 with tiers := { s1.tiers with wins := s1.tiers.wins.map fun w => if w.slot = slot then { w with held := false } else w } }

/-- Steps 4 to 7. -/
def lastSteps (slot : Nat) (s : State) : State :=
  newStep slot (sendBeacons slot (epoch slot (exchangeParams slot s)))

/-- The meridian: the actions in their order, then the host commands that take effect after its last action (R191, R200). -/
def meridian (slot : Nat) (shadowDiffers : Bool) (s : State) : State :=
  if !s.meridianReady slot then s
  else if s.allHalted slot then s.close (contextDone slot s)
  else
    let a := firstThree slot (writeWinRecords slot s)
    if !a.resident slot then s.close a else
    let r := meridianCheck slot shadowDiffers a
    match r.2 with
    | some cause => s.close (faultWhole slot cause (if cause = 0x307 then "RESTORE_VERIFY_FAIL" else "SHADOW_MISMATCH") r.1)
    | none =>
      let t := lastSteps slot r.1
      let u := if (t.ctx slot).held then t else stepEight slot ((t.enclOfSlot slot).getD 0xFF) t
      ((s.settle (repairIdle u)).pumpAt (some slot)).pumpAt none

/-- MERIDIAN_TAKES_PLACE: `shadowDiffers` is what the pairs of SHADOW_STEP compare to. -/
def execMeridianTakesPlace (slot : SlotId) (shadowDiffers : Bool) (s : State) : Host.Outcome State Fault Refusal :=
  .next (meridian slot.val shadowDiffers s)

/-! CONTEXT_FAULT (R134) -/

/-- CONTEXT_FAULT: only the stream that faulted shows FAULTED, the others keep the state in which the fault found them (the model's
choice, log 63). In a replay the stream alone stops (log 39). -/
def contextFault (n : Nat) (x : StrmId) (s : State) : State :=
  match site s n x with
  | none => s
  | some i =>
    match i.t.fault with
    | none => s
    | some f =>
      if i.slot = replaySlot then s.setStream n x { i.t with st := .faulted }
      else if decide (i.ctx.st = .faulted) || decide (i.ctx.st = .eclipse) || !i.t.drained || !s.noFlights i.slot then s
      else faultNow i.slot causeProgram n (strmTag x) f.code.name (s.setStream n x { i.t with st := .faulted })

/-- CONTEXT_FAULT. -/
def execContextFault (n : CoreId) (x : StrmId) (s : State) : Host.Outcome State Fault Refusal :=
  .next (s.close (contextFault n.val x s))

/-! Switches (R139, R140) -/

/-- CONTEXT_SWITCH_IN: a waiting CTX_SWITCH_IN goes on once its cores are free. -/
def execContextSwitchIn (slot : SlotId) (s : State) : Host.Outcome State Fault Refusal :=
  .next ((pumpSlot false slot.val 33 s).pumpAt none)

/-- No stream of the context is inside a nova event. -/
def State.noNova (s : State) (slot : Nat) : Bool := (s.streamsOf slot).all fun t => t.nova.isNone && !t.rerun

/-- A preemption once issued instructions have completed and rewinds have finished. -/
def preemptiveSwitch (slot : Nat) (s : State) : State :=
  let c := s.ctx slot
  if s.modl.thermalStop || !c.preempt || !s.resident slot || !s.noFlights slot || !s.noNova slot then s
  else if s.allAtMeridian slot && !s.allHalted slot then s.setCtx slot { c with preempt := false, switchOut := true }
  else switchOutNow slot s

/-- PREEMPTIVE_SWITCH. -/
def execPreemptiveSwitch (slot : SlotId) (s : State) : Host.Outcome State Fault Refusal :=
  .next (s.close (preemptiveSwitch slot.val s))

end Sys2Proof.Machine
end

