-- ==== Sys2Proof/Machine/Collectives.lean ====
section
/-! DEFINITION. The collective engine: descriptors, the parameter map, reduce, gather, global norm, and the
configuration digest (09 R269 to R291; 07 R227 to R229; 05 R169). -/

namespace Sys2Proof.Machine

/-! Statuses of R276 -/

def collSkipped : Nat := 0x0001
def collBadDesc : Nat := 0x0100
def collBadRegion : Nat := 0x0101
def collCtrRange : Nat := 0x0102
def collNoConn : Nat := 0x0104
def collPeerMismatch : Nat := 0x0110
def collLinkDown : Nat := 0x0111
def collPoisoned : Nat := 0x0112

def tileElems : Nat := 65536
def gradTile : Nat := 262144
def paramTile : Nat := 131072

/-! The descriptor (R274) -/

def readColl (b : List Byte) : CollDesc :=
  let w := wordAt b
  { k := bits (w 0) 40 32, thin := bits (w 0) 30 24, recEn := bit (w 0) 19, ctrEn := bit (w 0) 18, waitStep := bit (w 0) 17
    waitEn := bit (w 0) 16, topk := bit (w 0) 15, norm := bit (w 0) 14, axes := bits (w 0) 13 12, op := bits (w 0) 11 8
    gradVa := bits (w 1) 47 0, paramVa := bits (w 2) 47 0, tiles := bits (w 3) 31 0, pmapVa := bits (w 4) 47 0
    waitCtr := bits (w 5) 63 48, waitTarget := bits (w 5) 47 0, doneCtr := bits (w 6) 63 48, recVa := bits (w 6) 47 0
    outVa := bits (w 7) 47 0 }

/-- COLL_BAD_DESC: the descriptor is not one of operation `op`. -/
def collDescBad (b : List Byte) (op : Nat) : Bool :=
  let w := wordAt b
  let d := readColl b
  decide (bits (w 0) 7 0 ≠ 1) || decide (w 0 / 2 ^ 41 ≠ 0) || bit (w 0) 31 || decide (bits (w 0) 23 20 ≠ 0) || decide (w 1 / addrTop ≠ 0)
    || decide (w 2 / addrTop ≠ 0) || decide (w 3 / 2 ^ 32 ≠ 0) || decide (w 4 / addrTop ≠ 0) || decide (w 7 / addrTop ≠ 0)
    || decide (d.op ≠ op) || decide (d.thin = 0) || decide (64 < d.thin) || decide (2 ≤ d.axes)
    || (decide (op = 3) && (decide (d.thin ≠ 1) || decide (d.axes ≠ 0) || decide (d.paramVa ≠ 0)))
    || (decide (op ≠ 1) && (d.topk || d.norm)) || decide (256 < d.k) || (!d.topk && decide (d.k ≠ 0))
    || (decide (op = 2) && decide (d.gradVa ≠ 0)) || (decide (op ≠ 3) && !d.norm && decide (d.outVa ≠ 0))

/-- A range wholly mapped within one allocation of a role. -/
def State.inRole (s : State) (slot va n role : Nat) : Bool :=
  match pagesOf va n with
  | [] => true
  | p :: ps =>
    match s.objOf slot p with
    | none => false
    | some o => decide (flagRole o.flags = role) && (p :: ps).all fun vp => decide (s.objOf slot vp = some o) && s.mappedPage slot vp

/-- An address that is written: mapped, and no page of a view. -/
def State.writable (s : State) (slot va n : Nat) : Bool := s.mapped slot va n && !s.touchesView slot va n

/-- COLL_BAD_REGION. -/
def State.collRegionBad (s : State) (slot : Nat) (d : CollDesc) : Bool :=
  decide (d.gradVa % gradTile ≠ 0) || decide (d.paramVa % paramTile ≠ 0) || decide (d.pmapVa % 64 ≠ 0) || decide (d.recVa % 64 ≠ 0)
    || decide (d.outVa % 64 ≠ 0)
    || (decide (d.op = 1) && !s.inRole slot d.gradVa (d.tiles * gradTile) 3)
    || (decide (d.op = 3) && !s.mapped slot d.gradVa (d.tiles * gradTile))
    || (decide (d.op ≠ 3) && !s.inRole slot d.paramVa (d.tiles * paramTile) 1)
    || (decide (d.op ≠ 3) && decide (d.pmapVa ≠ 0) && !s.mapped slot d.pmapVa 64)
    || (d.recEn && !s.writable slot d.recVa 64)
    || ((decide (d.op = 3) || d.norm) && !s.writable slot d.outVa 64)

/-- COLL_CTR_RANGE: a counter that is used, or that an unused field names, lies beyond COUNTER_COUNT. -/
def Ctx.collCtrBad (c : Ctx) (d : CollDesc) : Bool :=
  ((d.waitEn || decide (0 < d.waitCtr)) && decide (c.desc.ctrCount ≤ d.waitCtr))
    || ((d.ctrEn || decide (0 < d.doneCtr)) && decide (c.desc.ctrCount ≤ d.doneCtr))

/-- The collective connections of a context, by direction. -/
def State.collConns (s : State) (slot : Nat) : List DwtConn := (s.dwt.conns.filter fun p => p.2.coll && decide (p.2.ctx = slot)).map Prod.snd

/-- A collective connection that the handshake cannot open, or that is missing. -/
def State.collConnBad (s : State) (slot : Nat) : Bool :=
  let cs := s.collConns slot
  decide (cs.length < s.collDirs.length) || cs.any fun c => decide (c.st = .closed)

/-- A collective connection of the context is DOWN. -/
def State.collConnDown (s : State) (slot : Nat) : Bool := (s.collConns slot).any fun c => decide (c.st = .down)

def State.collConnsOpen (s : State) (slot : Nat) : Bool :=
  let cs := s.collConns slot
  decide (s.collDirs.length ≤ cs.length) && cs.all fun c => decide (c.st = .open_) || decide (c.st = .rekeying)

/-! The parameter map (R227, R229) -/

/-- A region entry, with whether a reserved bit of it is set. -/
def readRegion (b : List Byte) : (Nat × Nat × Nat) × Bool :=
  let w := wordAt b
  ((bits (w 0) 47 0, bits (w 1) 47 0, bits (w 2) 47 0),
    decide (w 0 / addrTop ≠ 0) || decide (w 1 / addrTop ≠ 0) || decide (w 2 / addrTop ≠ 0) || decide (w 3 ≠ 0))

def pmapHeadResv (b : List Byte) : Bool :=
  let w := wordAt b
  decide (bits (w 0) 7 0 ≠ 1) || decide (bits (w 0) 15 8 ≠ 0) || decide (w 0 / 2 ^ 28 ≠ 0) || (List.range 7).any fun k => decide (w (k + 1) ≠ 0)

/-- PMAP_BAD_REGION of one region. -/
def State.regionBad (s : State) (slot : Nat) (r : Nat × Nat × Nat) : Bool :=
  decide (r.1 % paramTile ≠ 0) || decide (r.2.1 % paramTile ≠ 0) || decide (r.2.2 % 64 ≠ 0) || !s.inRole slot r.1 r.2.1 1
    || (decide (r.2.2 ≠ 0) && decide (0 < r.2.1) && !s.mapped slot r.2.2 (ceilDiv r.2.1 1048576))

/-- Whether two regions share a byte. -/
def regionsTied : List (Nat × Nat × Nat) → Bool
  | [] => false
  | r :: rs => rs.any (fun q => rangesMeet r.1 r.2.1 q.1 q.2.1) || regionsTied rs

/-- The frozen tiles of a region. -/
def frozenOf (s : State) (slot : Nat) (r : Nat × Nat × Nat) : MemRead × List Nat :=
  let n := ceilDiv r.2.1 1048576
  if r.2.2 = 0 ∨ n = 0 then (⟨s, [], false⟩, [])
  else
    let m := s.readVA slot r.2.2 n
    (m, (List.range (r.2.1 / paramTile)).filter fun t => (m.bytes.getD (t / 8) 0#8).getLsbD (t % 8))

/-- What reading a map gives: a status, a poisoned line, a page of another enclosure's tag (R339), or the map. -/
inductive PMapOut where
  | bad (status : Nat)
  | poisoned
  | tagged
  | ok (s : State) (m : PMap)
  deriving DecidableEq, Repr

def readPMap (slot va : Nat) (s : State) : PMapOut :=
  let h := s.readVA slot va 64
  let n := bits (wordAt h.bytes 0) 27 16
  if s.tagBad slot va 64 then .tagged
  else if h.bad then .poisoned
  else if pmapHeadResv h.bytes then .bad 0x120
  else if !s.mapped slot (va + 64) (32 * n) then .bad 0x121
  else
    let b := h.s.readVA slot (va + 64) (32 * n)
    let es := (chunks 32 n b.bytes).map readRegion
    let rs := es.map Prod.fst
    if h.s.tagBad slot (va + 64) (32 * n) then .tagged
    else if b.bad then .poisoned
    else if es.any Prod.snd then .bad 0x120
    else if rs.any (s.regionBad slot) then .bad 0x121
    else if regionsTied rs then .bad 0x122
    else if rs.any fun r => decide (r.2.2 ≠ 0) && b.s.tagBad slot r.2.2 (ceilDiv r.2.1 1048576) then .tagged
    else if rs.any fun r => (frozenOf b.s slot r).1.bad then .poisoned
    else .ok b.s { va := va, regions := rs.map fun r => (r.1, r.2.1, (frozenOf b.s slot r).2) }

/-- Whether tile `i` of a tensor at `paramVa` is frozen (R275). -/
def Ctx.frozen (c : Ctx) (d : CollDesc) (i : Nat) : Bool :=
  if d.pmapVa = 0 then false
  else match c.pmap with
    | none => false
    | some m =>
      let a := d.paramVa + i * paramTile
      m.regions.any fun r => decide (r.1 ≤ a) && decide (a < r.1 + r.2.1) && decide ((a - r.1) / paramTile ∈ r.2.2)

/-! Acceptance (R169, R273, R276) -/

/-- Whether the stream may issue COLL: the U stream of the lowest-numbered core of the mask. -/
def Env.leads (e : Env) : Bool :=
  (match e.x with | .U => true | _ => false) && decide ((maskCores e.ctx.desc.mask).head? = some e.n)

/-- The context takes a collective, with its parameter map. -/
def acceptColl (e : Env) (d : CollDesc) (u : State) (m : Option PMap) : Done :=
  let c := u.ctx e.slot
  { s := if e.slot = replaySlot then u.setCtx e.slot { c with pmap := m } else u.setCtx e.slot { c with colls := c.colls ++ [{ num := c.collNext, d := d }], collNext := c.collNext + 1, pmap := m }
    l := e.live, fl := e.flight true }

/-- The parameter map of a collective: the step's, or read now where the step has none yet (R229, R275). -/
def takeMap (op : Nat) (e : Env) (d : CollDesc) (s : State) : Except FaultCode Done :=
  let c := s.ctx e.slot
  if op = 3 ∨ d.pmapVa = 0 then .ok (acceptColl e d s c.pmap)
  else match c.pmap with
    | some m => if m.va = d.pmapVa then .ok (acceptColl e d s c.pmap) else .error (.collRefused 0x123)
    | none =>
      match readPMap e.slot d.pmapVa s with
      | .bad k => .error (.collRefused k)
      | .poisoned => .error .memPoisoned
      | .tagged => .error .nearTag
      | .ok u m => .ok (acceptColl e d u (some m))

/-- Hand a descriptor of operation `op` to the engine. COLL_NOT_LEAD stands between the bracket and the address checks (R149, the
model's choice, log 63). -/
def runColl (op : Nat) (e : Env) : Except FaultCode Done := do
  e.chkCtr
  e.chkBracket true
  failIf (!e.leads) .collNotLead
  let va := e.p.x1.toNat
  failIf (decide (va % 64 ≠ 0)) .moveAlign
  failIf (!e.s.mapped e.slot va 64) .moveUnmapped
  e.chkTag va 0 1 64
  let r := e.s.readVA e.slot va 64
  failIf r.bad .memPoisoned
  let d := readColl r.bytes
  failIf (collDescBad r.bytes op) (.collRefused collBadDesc)
  failIf (r.s.collRegionBad e.slot d) (.collRefused collBadRegion)
  failIf (e.ctx.collCtrBad d) (.collRefused collCtrRange)
  failIf (r.s.collConnBad (r.s.home e.slot)) (.collRefused collNoConn)
  takeMap op e d r.s

def isReduce : KwOp → Bool | .reduce _ => true | _ => false
def isCollGather : KwOp → Bool | .collGather _ => true | _ => false
def isNorm : KwOp → Bool | .norm _ => true | _ => false

/-- COLL.REDUCE. -/
def execCollReduce (n : CoreId) (x : StrmId) (ph : Phase) (s : State) : Host.Outcome State Fault Refusal :=
  .next (kwemin n x ph true isReduce (runColl 1) s)

/-- COLL.GATHER. -/
def execCollGather (n : CoreId) (x : StrmId) (ph : Phase) (s : State) : Host.Outcome State Fault Refusal :=
  .next (kwemin n x ph true isCollGather (runColl 2) s)

/-- COLL.NORM. -/
def execCollNorm (n : CoreId) (x : StrmId) (ph : Phase) (s : State) : Host.Outcome State Fault Refusal :=
  .next (kwemin n x ph true isNorm (runColl 3) s)

/-! Ranks and shards (R270, R275) -/

/-- The size of the replica group. -/
def State.groupSize (s : State) (axes : Nat) : Nat := if axes = 0 then s.axisLen 0 else s.axisLen 0 * s.axisLen 3

/-- The group rank of this device. -/
def State.groupRank (s : State) (axes : Nat) : Nat :=
  match s.self with
  | some m => if axes = 0 then m.d else m.d + s.axisLen 0 * m.s
  | none => 0

/-- The job rank of coordinates (d, p, t, s). -/
def State.jobRankAt (s : State) (d p t a : Nat) : Nat := d + s.axisLen 0 * (a + s.axisLen 3 * (t + s.axisLen 2 * p))

/-- The job rank of this device. -/
def State.jobRank (s : State) : Nat :=
  match s.self with
  | some m => s.jobRankAt m.d m.p m.t m.s
  | none => 0

/-- The job rank of group rank `q` of this device's replica group. -/
def State.jobOf (s : State) (axes q : Nat) : Nat :=
  match s.self with
  | some m => if axes = 0 then s.jobRankAt q m.p m.t m.s else s.jobRankAt (q % s.axisLen 0) m.p m.t (q / s.axisLen 0)
  | none => 0

/-- The coordinate along an axis of job rank `j`. -/
def State.coordOf (s : State) (axis j : Nat) : Nat :=
  let ld := s.axisLen 0
  let ls := s.axisLen 3
  let lt := s.axisLen 2
  match axis with
  | 0 => j % ld
  | 3 => j / ld % ls
  | 2 => j / (ld * ls) % lt
  | _ => j / (ld * ls * lt)

def shardTiles (tiles g : Nat) : Nat := ceilDiv tiles g

/-- The tiles of shard `q`. -/
def shardOf (tiles g q : Nat) : List Nat :=
  let n := shardTiles tiles g
  (List.range (min ((q + 1) * n) tiles - q * n)).map fun i => q * n + i

/-- The tiles of a shard that are not frozen. -/
def liveTiles (c : Ctx) (d : CollDesc) (g q : Nat) : List Nat := (shardOf d.tiles g q).filter fun i => !c.frozen d i

/-! The reduction tree (R279, R280) -/

/-- holder(a, n, o). -/
def holder (g a n o : Nat) : Nat := min (a + o % n) (g - 1)

/-- The levels of the tree: 2, 4, … up to the least power of two that is at least G. -/
def treeLevels (g : Nat) : List Nat := ((List.range 16).map fun i => 2 ^ (i + 1)).filter fun n => decide (n < 2 * g) && decide (1 < g)

/-- The rank whose GRAD holds part(a, n, o): where the upper half is absent the one of the lower half, else the one of the
half that holder(a, n, o) lies in. DEDUCED (log 35): it is holder(a, n, o) except where the clamp to G − 1 names a rank that
no value has reached (G = 14, o = 6, ranks 8 to 15), and R279 fixes the result. `fuel` bounds the halvings. -/
def place (g : Nat) : Nat → Nat → Nat → Nat → Nat
  | 0, a, _, _ => a
  | fuel + 1, a, n, o =>
    if n ≤ 1 then a
    else if g ≤ a + n / 2 ∨ holder g a n o < a + n / 2 then place g fuel a (n / 2) o
    else place g fuel (a + n / 2) (n / 2) o

/-- Receiver and sender of the exchange of rank `r`'s block at level `n`; none where the upper half is absent. -/
def exchange (g r n o : Nat) : Option (Nat × Nat) :=
  let a := r / n * n
  let h := n / 2
  if g ≤ a + h then none
  else if holder g a n o < a + h then some (place g 16 a h o, place g 16 (a + h) h o)
  else some (place g 16 (a + h) h o, place g 16 a h o)

def Coll.gotOf (c : Coll) (o n : Nat) : Nat := ((c.got.find? fun p => decide (p.1 = (o, n))).map Prod.snd).getD 0

def Coll.addGot (c : Coll) (o n k : Nat) : Coll :=
  { c with got := (c.got.filter fun p => decide (p.1 ≠ (o, n))) ++ [((o, n), c.gotOf o n + k)] }

/-- Elements that a level brings for a shard: whole blocks in TOPK mode too. -/
def shardElems (ctx : Ctx) (d : CollDesc) (g o : Nat) : Nat := (liveTiles ctx d g o).length * tileElems

/-- Whether rank `r`'s own value for shard `o` at level `n` is final. -/
def levelFinal (ctx : Ctx) (k : Coll) (g r o : Nat) : Nat → Nat → Bool
  | 0, _ => k.started
  | fuel + 1, n =>
    if n ≤ 1 then k.started
    else levelFinal ctx k g r o fuel (n / 2) &&
      match exchange g r n o with
      | none => true
      | some (recv, _) => decide (recv ≠ r) || decide (shardElems ctx k.d g o ≤ k.gotOf o n) || (k.d.topk && decide (k.d.k = 0))

/-! Values on the wire (R279, R285) -/

/-- The BF16 of an FP32 value, to nearest even; an overflow gives ±∞. -/
def bf16Of (x : W32) : Nat := (conv .bf16 .rne true (fv x)).code

def widenBf16 (c : Nat) : W32 := BitVec.ofNat 32 (c * 65536)

/-- The rank of an element in a TOPK block: NaN, then ±∞, then magnitude. -/
def topkKey (x : W32) : Nat := if isNan32 x then 2 ^ 32 else x.toNat % 2 ^ 31

/-- The indices that TOPK sends of a block, ascending; ties go to the lower index. -/
def topkIndices (k : Nat) (xs : List W32) : List Nat :=
  let keys := xs.map topkKey
  (List.range xs.length).filter fun i =>
    let ki := keys.getD i 0
    decide (((List.range xs.length).filter fun j => decide (ki < keys.getD j 0) || (decide (keys.getD j 0 = ki) && decide (j < i))).length < k)

/-- What stays of an element that was sent. -/
def residual (x : W32) : W32 := if isFin32 x then sub32 x (widenBf16 (bf16Of x)) else 0#32

/-- Replace a collective of a context. -/
def State.setColl (s : State) (slot : Nat) (k : Coll) : State :=
  let c := s.ctx slot
  s.setCtx slot { c with colls := c.colls.map fun q => if q.num = k.num then k else q }

def State.collOf (s : State) (slot num : Nat) : Option Coll := (s.ctx slot).colls.find? fun k => decide (k.num = num)

/-- Payload bytes that this device originated. -/
def countSent (slot num bytes : Nat) (s : State) : State :=
  let s1 := { s with col := { s.col with bytesSent := satAdd Config.sat64 s.col.bytesSent bytes } }
  match s1.collOf slot num with
  | some k => s1.setColl slot { k with sent := k.sent + bytes }
  | none => s1

def countRelayed (slot num bytes : Nat) (s : State) : State :=
  let s1 := { s with col := { s.col with bytesRelayed := satAdd Config.sat64 s.col.bytesRelayed bytes } }
  match s1.collOf slot num with
  | some k => s1.setColl slot { k with relayed := k.relayed + bytes }
  | none => s1

/-! The end of a collective (R277, R281) -/

/-- The 64 bytes of a record. -/
def collRecord (s : State) (c : Ctx) (k : Coll) (status : Nat) : List Byte :=
  let g := s.groupSize k.d.axes
  let own := shardOf k.d.tiles g (s.groupRank k.d.axes)
  let shard := if k.d.op = 3 then (0, 0) else (own.length, (own.head?).getD 0)
  leBytes 8 (status + at_ k.d.op 16 + at_ (k.num % 256) 24) ++ leBytes 8 c.step.toNat ++ leBytes 8 k.sent ++ leBytes 8 k.relayed
    ++ leBytes 8 (shard.2 + at_ shard.1 32) ++ leBytes 24 0

/-- The collective leaves the engine with its record. -/
def collRecorded (slot : Nat) (k : Coll) (status : Nat) (s : State) : State :=
  let c := s.ctx slot
  let s1 := if k.d.recEn then s.writeVA slot k.d.recVa (collRecord s c k status) else s
  let c1 := s1.ctx slot
  s1.setCtx slot { c1 with colls := c1.colls.filter fun q => decide (q.num ≠ k.num) }

/-- A collective that succeeds raises its counter. -/
def collDone (slot : Nat) (k : Coll) (status : Nat) (s : State) : State :=
  let s1 := collRecorded slot k status s
  let s2 := { s1 with col := if status = 0 then { s1.col with sent := satAdd Config.sat32 s1.col.sent 1 }
      else { s1.col with skipped := satAdd Config.sat32 s1.col.skipped 1 } }
  if k.d.ctrEn then s2.raiseRel slot k.d.doneCtr 1 else s2

/-- A collective that fails after acceptance makes the context FAULTED. -/
def collFail (slot num status : Nat) (s : State) : State :=
  match s.collOf slot num with
  | none => s
  | some k =>
    let s1 := collRecorded slot k status s
    let s2 := if status = collPoisoned then s1.errCol 4 slot else if status = collLinkDown then s1.errCol 3 slot
      else if status = collPeerMismatch then s1.errCol 2 slot else s1
    faultWhole slot (if status = collLinkDown then 0x309 else causeProgram) "COLLECTIVE" s2

/-- A collective connection of the context went DOWN: every collective that it has accepted fails (R281). -/
def collsFall (slot : Nat) (s : State) : State := (s.ctx slot).colls.foldl (fun u k => collFail slot k.num collLinkDown u) s

/-! Messages of the engine (R271, R277, R278, R280) -/

/-- The fingerprint of a descriptor (R277): its fields and the step, each in its own place. -/
def fingerprint (c : Ctx) (k : Coll) : BitVec 384 :=
  BitVec.ofNat 384 (k.d.op + at_ k.d.axes 4 + at_ (b2n k.d.topk) 6 + at_ k.d.k 7 + at_ k.d.thin 16 + at_ (b2n k.d.norm) 23 + at_ k.d.tiles 24
    + at_ (k.num % 256) 56 + at_ c.step.toNat 64)

/-- The collective connection of a context toward a direction of an axis. -/
def State.collConn (s : State) (slot axis dir : Nat) : Option Nat :=
  (s.dwt.conns.find? fun p => p.2.coll && decide (p.2.ctx = slot) && decide (p.2.desc.axis = axis) && decide (b2n p.2.desc.dir = dir)).map Prod.fst

/-- The direction in which a message for job rank `dest` leaves: along D, then S, then T, then P, straight toward the
coordinate, so that no wrap link is crossed; none at the destination. -/
def State.hop (s : State) (dest : Nat) : Option (Nat × Nat) :=
  match [0, 3, 2, 1].find? fun a => decide (s.coordOf a s.jobRank ≠ s.coordOf a dest) with
  | some a => some (a, if s.coordOf a s.jobRank < s.coordOf a dest then 0 else 1)
  | none => none

/-- TYPE of a message: a reduce sends accumulate segments, a gather WRITE segments. -/
def collTyp : CollBody → Nat
  | .segment _ level _ _ _ => if level = 0 then 1 else 2
  | _ => Config.collType.toNat

/-- Payload bytes of tensor data. -/
def collBytes : CollBody → Nat
  | .segment _ _ _ _ data => 2 * data.length
  | _ => 0

/-- Put a message on the connection toward a direction, and send what may go. -/
def collPost (slot : Nat) (d : Nat × Nat) (num : Option Nat) (up : Option (Nat × Nat)) (m : CollMsg) (s : State) : State :=
  match s.collConn slot d.1 d.2 with
  | none => s
  | some cn =>
    let c := s.conn cn
    State.collSend cn 65536 (s.setConn cn { c with cq := c.cq ++ [{ typ := collTyp m.body, num := num, up := up, msg := m, bytes := collBytes m.body }] })

/-- Send a message of the own collective `num` to a peer; the first one to each peer carries the fingerprint. -/
def collTo (slot num dest : Nat) (b : CollBody) (s : State) : State :=
  match s.collOf slot num, s.hop dest with
  | some k, some d =>
    let fp := if dest ∈ k.greeted then none else some (fingerprint (s.ctx slot) k)
    let s1 := s.setColl slot { k with greeted := insertNew dest k.greeted }
    countSent slot num (collBytes b)
      (collPost slot d (some num) none { k := ⟨BitVec.ofNat 8 num, (s.ctx slot).step⟩, src := s.jobRank, dest := dest, fp := fp, body := b } s1)
  | _, _ => s

/-! Sending of a reduce (R280, R285) -/

/-- Elements of one dense segment: 8,192 payload bytes, the MAXSEG of a collective connection. -/
def segElems : Nat := 4096

/-- Send one segment of a tile in DENSE mode; answers whether a poisoned line was met. -/
def sendDense (slot num : Nat) (gradVa dest o n tile : Nat) (r : State × Bool) (i : Nat) : State × Bool :=
  if r.2 then r
  else
    let m := r.1.readVA slot (gradVa + tile * gradTile + i * (4 * segElems)) (4 * segElems)
    if m.bad then (m.s, true)
    else (collTo slot num dest (.segment o n tile (i * segElems) ((fp32s m.bytes).map fun x => BitVec.ofNat 16 (bf16Of x))) m.s, false)

/-- What a sent element of a block leaves in GRAD. -/
def leaveResidual (slot va : Nat) (xs : List W32) (s : State) (i : Nat) : State :=
  s.writeVA slot (va + 4 * i) (leBytes 4 (residual (xs.getD i 0#32)).toNat)

/-- Send the chosen elements of one block, and set them to what was not sent. -/
def sendBlock (slot num : Nat) (gradVa kk dest o n tile : Nat) (r : State × Bool) (block : Nat) : State × Bool :=
  if r.2 then r
  else
    let va := gradVa + tile * gradTile + block * 1024
    let m := r.1.readVA slot va 1024
    if m.bad then (m.s, true)
    else
      let xs := fp32s m.bytes
      let is := topkIndices kk xs
      let data := is.flatMap fun i => [BitVec.ofNat 16 (bf16Of (xs.getD i 0#32)), BitVec.ofNat 16 i]
      (collTo slot num dest (.segment o n tile (256 * block) data) (is.foldl (leaveResidual slot va xs) m.s), false)

/-- Send this rank's value of shard `o` for level `n` to job rank `dest`. -/
def sendShard (slot : Nat) (k : Coll) (g dest o n : Nat) (s : State) : State × Bool :=
  let ts := liveTiles (s.ctx slot) k.d g o
  if k.d.topk then
    if k.d.k = 0 then (s, false)
    else ts.foldl (fun r t => (List.range 256).foldl (sendBlock slot k.num k.d.gradVa k.d.k dest o n t) r) (s, false)
  else ts.foldl (fun r t => (List.range (tileElems / segElems)).foldl (sendDense slot k.num k.d.gradVa dest o n t) r) (s, false)

/-- One exchange of the tree: a READY that is due, or a value that may go. -/
def advanceOne (slot num g r : Nat) (s : State) (p : Nat × Nat) : State :=
  match s.collOf slot num with
  | none => s
  | some k =>
    let n := p.1
    let o := p.2
    let c := s.ctx slot
    match exchange g r n o with
    | none => s
    | some (recv, send) =>
      if (shardOf k.d.tiles g o).isEmpty || !levelFinal c k g r o 16 (n / 2) then s
      else if r = recv ∧ (o, n) ∉ k.readySent then
        collTo slot num (s.jobOf k.d.axes send) (.ready o n) (s.setColl slot { k with readySent := k.readySent ++ [(o, n)] })
      else if r = send ∧ (o, n) ∈ k.ready ∧ (o, n) ∉ k.sentLv then
        let t := sendShard slot k g (s.jobOf k.d.axes recv) o n (s.setColl slot { k with sentLv := k.sentLv ++ [(o, n)] })
        if t.2 then collFail slot num collPoisoned t.1 else t.1
      else s

/-- The exchanges of a reduce, level by level. -/
def exchanges (g : Nat) : List (Nat × Nat) := (treeLevels g).flatMap fun n => (List.range g).map fun o => (n, o)

/-- The least power of two that is at least `n`. -/
def powAtLeast (n : Nat) : Nat := ((List.range 17).map fun i => 2 ^ i).find? (fun m => decide (n ≤ m)) |>.getD 65536

/-- Whether the owned shard of a reduce is final. -/
def State.ownFinal (s : State) (slot : Nat) (k : Coll) : Bool :=
  let g := s.groupSize k.d.axes
  let r := s.groupRank k.d.axes
  levelFinal (s.ctx slot) k g r r 16 (powAtLeast g)

/-- +0 in every element of a tile of GRAD. -/
def zeroTile (slot va : Nat) (s : State) (t : Nat) : State :=
  s.writeVA slot (va + t * gradTile) (List.replicate gradTile 0#8)

/-- +0 in every frozen tile of the owned shard. -/
def zeroFrozen (slot : Nat) (k : Coll) (s : State) : State :=
  let c := s.ctx slot
  let own := shardOf k.d.tiles (s.groupSize k.d.axes) (s.groupRank k.d.axes)
  (own.filter (c.frozen k.d)).foldl (zeroTile slot k.d.gradVa) s

/-! The global norm (R286, R287) -/

/-- √(hi + lo), correctly rounded. -/
def normOf (hi lo : W32) : W32 :=
  match (fv hi).add (fv lo) with
  | .nan => nan32
  | .inf neg => if neg then nan32 else hi
  | .fin neg m e =>
    if m = 0 then 0#32
    else if neg then nan32
    else
      let k : Nat := if (e - 64) % 2 = 0 then 64 else 65
      let v := m * 2 ^ k
      let r := isqrt v
      round32 (.fin false (2 * r + if r * r = v then 0 else 1) ((e - (k : Int)) / 2 - 1))

/-- The sum of squares of a list of values. -/
def sumSquares (l : List W32) (a : W32 × W32) : W32 × W32 := l.foldl (fun p x => fp32cAdd p.1 p.2 (mul32 x x)) a

/-- One tile of the local norm. -/
def normTile (slot va : Nat) (r : (State × Bool) × (W32 × W32)) (t : Nat) : (State × Bool) × (W32 × W32) :=
  let m := r.1.1.readVA slot (va + t * gradTile) gradTile
  ((m.s, r.1.2 || m.bad), sumSquares (fp32s m.bytes) r.2)

/-- The device's own pair over the tiles of a list, in ascending order; answers whether a line was poisoned. -/
def localNorm (slot va : Nat) (ts : List Nat) (s : State) : (State × Bool) × (W32 × W32) :=
  ts.foldl (normTile slot va) ((s, false), (0#32, 0#32))

/-- The 64 bytes at OUT_VA. -/
def normBytes (hi lo : W32) (root : Option (BitVec 384)) : List Byte :=
  leBytes 8 (hi.toNat + at_ lo.toNat 32) ++ leBytes 8 (normOf hi lo).toNat ++
    (match root with | some d => digestBytes d | none => leBytes 48 0)

/-! The job-wide tree (R287, R289, R382) -/

/-- Whether a collective ends in a job-wide tree. -/
def CollDesc.jobWide (d : CollDesc) : Bool := decide (d.op = 3) || d.norm

/-- The levels at which job rank `r` of `size` combines: those of the blocks that it leads and whose upper half is present. -/
def ledLevels (size r : Nat) : List Nat := (treeLevels size).filter fun n => decide (r % n = 0) && decide (r + n / 2 < size)

/-- The level at which job rank `r` hands its value to the rank that leads the lower half; none for rank 0. -/
def riseLevel (r : Nat) : Option Nat := ((List.range 16).map fun i => 2 ^ (i + 1)).find? fun n => decide (r % n ≠ 0)

/-- A combine: `a` is of the lower-ranked half. -/
def joinTree (a b : TreeVal) : TreeVal :=
  let p := fp32cAdd a.hi a.lo b.hi
  let q := fp32cAdd p.1 p.2 b.lo
  { hi := q.1, lo := q.2
    digest := match a.digest, b.digest with
      | some x, some y => some (Config.sha384 (digestBytes x ++ digestBytes y))
      | _, _ => none
    newest := match a.newest, b.newest with
      | some x, some y => some (if x.toNat ≤ y.toNat then x else y)
      | _, _ => none
    c := max a.c b.c, t := max a.t b.t, h := a.h + b.h, f := a.f + b.f }

/-- The newest starfix that is complete here. -/
def CtxRcv.newest (r : CtxRcv) : Option W64 :=
  (r.starfixes.filter fun x => x.complete && !x.unusable).foldl
    (fun b x => match b with | some y => some (if y.toNat ≤ x.step.toNat then x.step else y) | none => some x.step) none

/-- What this device puts into a tree: its pair, and in the first tree of the step its digest and recovery figures. A measured C
counts as C + 1, so that the maximum tells whether any device has measured one. -/
def State.leafOf (s : State) (slot : Nat) (fold : Bool) (p : W32 × W32) : TreeVal :=
  let r := (s.ctx slot).rcv
  { hi := p.1, lo := p.2, digest := if fold then some (s.cfgDigest slot) else none
    newest := if fold then r.newest else none, c := (r.costC.map (· + 1)).getD 0, t := (meanOf r.stepTimes).getD 0, h := s.rcv.hours, f := s.rcv.failures }

/-- The leaf of a collective: once its region is ready its tiles are squared; a poisoned line fails it. -/
def takeLeaf (slot num : Nat) (s : State) : State :=
  match s.collOf slot num with
  | none => s
  | some k =>
    if !k.started || !k.d.jobWide || k.leaf.isSome || (decide (k.d.op = 1) && !s.ownFinal slot k) then s
    else
      let g := s.groupSize k.d.axes
      let ts := if k.d.op = 3 then List.range k.d.tiles else shardOf k.d.tiles g (s.groupRank k.d.axes)
      let r := localNorm slot k.d.gradVa ts (if k.d.op = 1 then zeroFrozen slot k s else s)
      if r.1.2 then collFail slot num collPoisoned r.1.1
      else match r.1.1.collOf slot num with
        | some q => r.1.1.setColl slot { q with leaf := some (r.1.1.leafOf slot k.fold r.2) }
        | none => r.1.1

/-- The value of this device's part of the tree: its leaf joined level by level with what came up; none while one is missing. -/
def Coll.treeVal (k : Coll) (levels : List Nat) : Option TreeVal :=
  levels.foldl (fun v n => match v, k.treeIn.find? fun p => decide (p.1 = n) with
    | some a, some b => some (joinTree a b.2)
    | _, _ => none) k.leaf

/-- Job ranks stand for group ranks: the tree of shard 0, whose root is rank 0 (DEDUCED, log 35). A final value goes up, or
at the root becomes the result. -/
def treeRise (slot num : Nat) (s : State) : State :=
  match s.collOf slot num with
  | none => s
  | some k =>
    let r := s.jobRank
    match k.treeVal (ledLevels s.clusterSize r) with
    | none => s
    | some v =>
      if k.treeUp then s
      else
        let s1 := s.setColl slot { k with treeUp := true, result := if r = 0 then some v else k.result }
        match riseLevel r with
        | some n => if r = 0 then s1 else collTo slot num (r - n / 2) (.up n v) s1
        | none => s1

/-- The result goes down to the ranks that handed their values to this one. -/
def treeFall (slot num : Nat) (s : State) : State :=
  match s.collOf slot num with
  | none => s
  | some k =>
    match k.result with
    | none => s
    | some v =>
      if k.treeDown then s
      else (ledLevels s.clusterSize s.jobRank).foldl (fun u n => collTo slot num (s.jobRank + n / 2) (.down v) u) (s.setColl slot { k with treeDown := true })

/-- Everything that a collective may do now. -/
def advance (slot num : Nat) (s : State) : State :=
  match s.collOf slot num with
  | none => s
  | some k =>
    if k.started = false then s
    else
      let g := s.groupSize k.d.axes
      let s1 := if k.d.op = 1 then (exchanges g).foldl (advanceOne slot num g (s.groupRank k.d.axes)) s else s
      if k.d.jobWide then treeFall slot num (treeRise slot num (takeLeaf slot num s1)) else s1

/-! Gather (R228, R283) -/

/-- The PARAM_NEXT place of a PARAM address. -/
def State.nextVa (s : State) (slot va : Nat) : Nat :=
  match s.objOf slot (vpage va) with
  | some o => (o.partner.getD o.base) + (va - o.base)
  | none => va

/-- Hops that a shard travels toward + 1 (`m` = 0) or − 1 along a ring of length `l`. -/
def ringHops (l m : Nat) : Nat := if m = 0 then ceilDiv (l - 1) 2 else (l - 1) / 2

/-- The directions along an axis in which a shard of a device there begins. -/
def ringStarts (axis l : Nat) : List (Nat × Nat) := (if 0 < ringHops l 0 then [(axis, 0)] else []) ++ (if 0 < ringHops l 1 then [(axis, 1)] else [])

/-- The passes along S that every device of the D ring makes with AXES = DS. -/
def State.passes (s : State) (axes : Nat) : List (Nat × Nat) := if axes = 0 then [] else ringStarts 3 (s.axisLen 3)

/-- Where a shard that came along `axis`, moving in direction `m` from coordinate `from_`, goes on. -/
def State.onward (s : State) (axes axis m from_ : Nat) : List (Nat × Nat) :=
  let l := s.axisLen axis
  let me := s.coordOf axis s.jobRank
  let dist := if m = 0 then (me + l - from_) % l else (from_ + l - me) % l
  (if dist < ringHops l m then [(axis, m)] else []) ++ (if axis = 0 then s.passes axes else [])

/-- One segment of a tile of a gather, toward one direction; the first of the shard carries the fingerprint. -/
def gatherPost (slot : Nat) (k : Coll) (m : CollMsg) (s : State) (d : Nat × Nat) : State :=
  collPost slot d (some k.num) none m s

/-- One segment of the owned shard of a gather. -/
def sendGatherSeg (slot : Nat) (k : Coll) (rank : Nat) (ds : List (Nat × Nat)) (tile : Nat) (a : State × Bool) (i : Nat) : State × Bool :=
  if a.2 then a
  else
    let m := a.1.readVA slot (a.1.nextVa slot (k.d.paramVa + tile * paramTile) + i * (2 * segElems)) (2 * segElems)
    if m.bad then (m.s, true)
    else
      let b := CollBody.segment rank 0 tile (i * segElems) ((chunks 2 segElems m.bytes).map fun x => BitVec.ofNat 16 (leNat x))
      let msg : CollMsg := { k := ⟨BitVec.ofNat 8 k.num, (a.1.ctx slot).step⟩, src := a.1.jobRank, dest := a.1.jobRank, fp := some (fingerprint (a.1.ctx slot) k), body := b }
      (countSent slot k.num (collBytes b * ds.length) (ds.foldl (gatherPost slot k msg) m.s), false)

/-- Send the owned shard of a gather. -/
def sendGather (slot : Nat) (k : Coll) (s : State) : State :=
  let g := s.groupSize k.d.axes
  let r := s.groupRank k.d.axes
  let ds := ringStarts 0 (s.axisLen 0) ++ s.passes k.d.axes
  if ds.isEmpty then s
  else
    let t := (liveTiles (s.ctx slot) k.d g r).foldl (fun a x => (List.range (tileElems / segElems)).foldl (sendGatherSeg slot k r ds x) a) (s, false)
    if t.2 then collFail slot k.num collPoisoned t.1 else t.1

/-- Copy a PARAM tile to PARAM_NEXT. -/
def copyTile (slot : Nat) (d : CollDesc) (s : State) (tile : Nat) : State :=
  let va := d.paramVa + tile * paramTile
  let m := s.readVA slot va paramTile
  m.s.writeVA slot (m.s.nextVa slot va) m.bytes

/-! Received messages (R278, R280, R283) -/

/-- The pairs of a TOPK segment. -/
def topkPairs : List W16 → List (Nat × Nat)
  | v :: i :: t => (v.toNat, i.toNat % 256) :: topkPairs t
  | _ => []

/-- Add one (value, index) pair into a block of GRAD. -/
def addPair (slot va : Nat) (a : State × Bool) (p : Nat × Nat) : State × Bool :=
  let t := a.1.addVA slot (va + 4 * p.2) [widenBf16 p.1]
  (t.1, a.2 || t.2)

/-- Add a segment of a reduce into GRAD; answers the elements it counts for and whether a line was poisoned. A tile that is
frozen here takes nothing (R228). -/
def addSegment (slot : Nat) (k : Coll) (tile first : Nat) (data : List W16) (s : State) : State × Nat × Bool :=
  let va := k.d.gradVa + tile * gradTile + 4 * first
  if (s.ctx slot).frozen k.d tile then (s, 0, false)
  else if k.d.topk then
    let r := (topkPairs data).foldl (addPair slot va) (s, false)
    (r.1, 256, r.2)
  else
    let t := s.addVA slot va (data.map fun w => widenBf16 w.toNat)
    (t.1, data.length, t.2)

/-- What a message that is for this device leaves: the state, and whether its add met a poisoned line. -/
structure CollIn where
  s : State
  bad : Bool := false
  deriving DecidableEq, Repr

/-- A segment of a reduce at its receiver. A poisoned line fails the collective here; the sender learns of it by its NAK. -/
def reduceSegment (slot : Nat) (k : Coll) (shard level tile first : Nat) (data : List W16) (s : State) : CollIn :=
  let t := addSegment slot k tile first data (s.touch slot)
  if t.2.2 then ⟨collFail slot k.num collPoisoned t.1, true⟩
  else match t.1.collOf slot k.num with
    | some q => ⟨advance slot k.num (t.1.setColl slot (q.addGot shard level t.2.1)), false⟩
    | none => ⟨t.1, false⟩

/-- A segment of a gather that came over connection `cn`: written, and sent on as a new message. -/
def gatherSegment (slot cn : Nat) (k : Coll) (m : CollMsg) (shard tile first : Nat) (data : List W16) (s : State) : State :=
  if shard = s.groupRank k.d.axes then s
  else
    let d := (s.conn cn).desc
    let va := s.nextVa slot (k.d.paramVa + tile * paramTile) + 2 * first
    let s1 := (s.writeVA slot va (data.flatMap fun w => leBytes 2 w.toNat)).touch slot
    let s2 := s1.setColl slot (k.addGot shard 0 data.length)
    let on := s.onward k.d.axes d.axis (1 - b2n d.dir) (s.coordOf d.axis (s.jobOf k.d.axes shard))
    countRelayed slot k.num (2 * data.length * on.length) (on.foldl (gatherPost slot k m) s2)

/-- Keep a message of a collective that has not started here. -/
def holdEarly (slot cn : Nat) (m : CollMsg) (s : State) : State :=
  let c := s.ctx slot
  s.setCtx slot { c with early := c.early ++ [(cn, m)] }

/-- The own fingerprint goes to a peer that has not had it, in a message of no other effect (log 35). -/
def sendPrint (slot num dest : Nat) (s : State) : State :=
  match s.collOf slot num with
  | some k => if dest ∈ k.greeted then s else collTo slot num dest (.ready 0 0) s
  | none => s

/-- A peer's descriptor differs: the collective fails, and the peer gets the fingerprint by which it fails there too (R277). -/
def collDiffers (slot num src : Nat) (s : State) : State := collFail slot num collPeerMismatch (sendPrint slot num src s)

/-- A message for this device: the paired descriptor of its step takes it once it has started, a gather's segment once it is
accepted; before that the message waits, and one of a later step waits for that step (R273). A fingerprint that differs, as that of
an earlier step does, fails the collective (R277). -/
def collTake (slot cn : Nat) (m : CollMsg) (s : State) : CollIn :=
  let c := s.ctx slot
  if c.step.toNat < m.k.step.toNat then ⟨holdEarly slot cn m s, false⟩
  else match c.colls.find? fun q => decide (q.num % 256 = m.k.k.toNat) with
  | none => ⟨if m.k.step = c.step then holdEarly slot cn m s else s, false⟩
  | some q =>
    if (m.fp.map fun x => decide (x ≠ fingerprint c q)).getD false || decide (m.k.step ≠ c.step) then ⟨collDiffers slot q.num m.src s, false⟩
    else match m.body with
      | .segment shard level tile first data =>
        if level = 0 then (if q.d.op = 2 then ⟨gatherSegment slot cn q m shard tile first data s, false⟩ else ⟨s, false⟩)
        else if !q.started then ⟨holdEarly slot cn m s, false⟩
        else if q.d.op = 1 then reduceSegment slot q shard level tile first data s
        else ⟨s, false⟩
      | .ready shard level =>
        if !q.started then ⟨holdEarly slot cn m s, false⟩
        else ⟨advance slot q.num (s.setColl slot { q with ready := insertNew (shard, level) q.ready }), false⟩
      | .up level v =>
        if !q.started then ⟨holdEarly slot cn m s, false⟩
        else ⟨advance slot q.num (s.setColl slot { q with treeIn := q.treeIn ++ [(level, v)] }), false⟩
      | .down v => ⟨advance slot q.num (s.setColl slot { q with result := some v }), false⟩

/-- A segment counts as a gather's: it is written at every device that it reaches. -/
def bodyGathers : CollBody → Bool
  | .segment _ level _ _ _ => decide (level = 0)
  | _ => false

/-- The SEQ of a segment that was applied or sent on joins the replay bitmap. -/
def State.markSeq (s : State) (cn seq : Nat) : State :=
  let c := s.conn cn
  s.setConn cn { c with bits := seq :: c.bits }

/-- A relayed message whose answer is still awaited. -/
def State.relaying (s : State) (slot cn seq : Nat) : Bool :=
  (s.collConns slot).any fun c => (c.cq ++ c.csegs).any fun g => decide (g.up = some (cn, seq))

/-- Forward a message for another device: it is answered once the next device has answered (log 35). -/
def relayMsg (slot cn : Nat) (m : Msg) (b : CollMsg) (s : State) : State :=
  match s.hop b.dest with
  | none => s
  | some d => countRelayed slot b.k.k.toNat (collBytes b.body) (collPost slot d none (some (cn, m.seq.toNat)) b (s.markSeq cn m.seq.toNat))

/-- A collective message on its connection: checks 2 to 4 of R247, then relayed, or taken and answered. -/
def collArrives (cn : Nat) (m : Msg) (b : CollMsg) (s : State) : State :=
  let c := s.conn cn
  let q := m.seq.toNat
  if !c.coll then s
  else if c.tooOld q then replayReset cn s
  else
    let s1 := s.setConn cn (c.seen q)
    if q ∈ c.bits then (if s1.relaying c.ctx cn q then s1 else answerAck cn m s1)
    else if s1.connFenced c then sendNak cn m dwtFenced s1
    else if b.dest ≠ s1.jobRank ∧ bodyGathers b.body = false then relayMsg c.ctx cn m b s1
    else
      let r := collTake c.ctx cn b s1
      if r.bad then sendNak cn m tgtPoisoned r.s else answerAck cn m (r.s.markSeq cn q)

/-- An answer to a message of the engine: a relay passes it back; a NAK of the own message fails the collective or, FENCED, keeps
it from completing. -/
def collAnswered (cn : Nat) (m : Msg) (s : State) : State :=
  let c := s.conn cn
  match c.csegs.find? fun g => decide (g.seq = m.ref.toNat) with
  | none => s
  | some g =>
    let s1 := s.setConn cn { c with csegs := c.csegs.filter fun h => decide (h.seq ≠ g.seq) }
    let back := fun (u : State) (p : Nat × Nat) =>
      if m.typ = 6#8 then u.sendMsg p.1 { typ := 6, ref := p.2, status := m.status.toNat } []
      else u.sendMsg p.1 { typ := 5, ref := p.2 } []
    let s2 := match g.up, g.num with
      | some p, _ => back s1 p
      | none, some num =>
        if m.typ ≠ 6#8 then s1
        else if m.status.toNat = tgtPoisoned then collFail c.ctx num collPoisoned s1
        else match s1.collOf c.ctx num with
          | some k => s1.setColl c.ctx { k with refused := true }
          | none => s1
      | none, none => s1
    maybeShake cn (State.collSend cn 65536 s2)

/-- An unanswered message is gone: its own collective never completes, and a relayed one may come again (log 35). -/
def collLose (slot : Nat) (s : State) (g : CollSeg) : State :=
  match g.up, g.num with
  | some p, _ =>
    let c := s.conn p.1
    s.setConn p.1 { c with bits := c.bits.filter fun b => decide (b ≠ p.2) }
  | none, some num =>
    (match s.collOf slot num with
      | some k => s.setColl slot { k with refused := true }
      | none => s)
  | none, none => s

/-- Two records of one message, whatever its SEQ and how often it was sent. -/
def CollSeg.same (a b : CollSeg) : Bool := decide (a.msg = b.msg) && decide (a.num = b.num) && decide (a.up = b.up)

/-- What a command on connection `cn` means for the collectives of its context: a fall or a reset loses the messages that waited or
were unanswered, and a fall fails them. -/
def collWatch (cn : Nat) (s t : State) : State :=
  let c := s.conn cn
  let d := t.conn cn
  if !c.coll then t
  else
    let u := ((c.cq ++ c.csegs).filter fun g => !(d.cq ++ d.csegs).any g.same).foldl (collLose c.ctx) t
    if d.st = .down ∧ c.st ≠ .down then collsFall c.ctx u else u

/-! COLL_START (R277, R284) -/

/-- Whether the descriptor sends in this step. -/
def Ctx.sends (c : Ctx) (d : CollDesc) : Bool := decide (d.op = 3) || decide ((c.step.toNat + 1) % d.thin = 0)

/-- Whether the wait of a descriptor is met (R130). -/
def State.collWaitMet (s : State) (slot : Nat) (d : CollDesc) : Bool :=
  let c := s.ctx slot
  let target := min Config.counterMax (if d.waitStep then d.waitTarget * (c.s.toNat + 1) else d.waitTarget)
  !d.waitEn || decide (target ≤ s.relCtr slot d.waitCtr)

/-- The messages that came before the collective started are taken now. -/
def takeEarly (slot num : Nat) (s : State) : State :=
  let c := s.ctx slot
  let mine := c.early.filter fun p => decide (p.2.k.k.toNat = num % 256) && decide (p.2.k.step.toNat ≤ c.step.toNat)
  mine.foldl (fun u p => (collTake slot p.1 p.2 u).s)
    (s.setCtx slot { c with early := c.early.filter fun p =>
      !(decide (p.2.k.k.toNat = num % 256) && decide (p.2.k.step.toNat ≤ c.step.toNat)) })

/-- The next accepted descriptor starts, or completes as a step without sending. The first that ends in a job-wide tree folds
the digest (R289). -/
def collStart (slot : Nat) (s : State) : State :=
  let c := s.ctx slot
  match c.colls.find? fun k => !k.started with
  | none => s
  | some k =>
    if s.collConnDown slot then collFail slot k.num collLinkDown s
    else if s.collConnBad slot then collFail slot k.num collNoConn s
    else if decide (c.st = .faulted) || !s.collConnsOpen slot || !s.collWaitMet slot k.d
        || decide (4 ≤ (c.colls.filter (·.started)).length) then s
    else if !c.sends k.d then
      let s1 := if k.d.op = 2 then (List.range k.d.tiles).foldl (copyTile slot k.d) s else s
      collDone slot k collSkipped s1
    else
      let fold := k.d.jobWide && !c.folded
      let q := { k with started := true, fold := fold }
      let s1 := (s.setColl slot q).touch slot
      let s2 := s1.setCtx slot { s1.ctx slot with folded := c.folded || fold }
      takeEarly slot k.num (if k.d.op = 2 then sendGather slot q s2 else advance slot k.num s2)

/-- COLL_START. -/
def execCollStart (slot : SlotId) (s : State) : Host.Outcome State Fault Refusal := .next (s.close (collStart slot.val s))

/-! The configuration digest (R289 to R291) -/

/-- One digest folded alone into the tree over `n` ranks from `a` on. -/
def foldDigest (d : BitVec 384) (size : Nat) : Nat → Nat → Nat → BitVec 384
  | 0, _, _ => d
  | fuel + 1, a, n =>
    if n ≤ 1 then d
    else if size ≤ a + n / 2 then foldDigest d size fuel a (n / 2)
    else Config.sha384 (digestBytes (foldDigest d size fuel a (n / 2)) ++ digestBytes (foldDigest d size fuel (a + n / 2) (n / 2)))

/-- The root that the device expects. -/
def State.expectedRoot (s : State) (slot : Nat) : BitVec 384 :=
  let n := s.clusterSize
  foldDigest (s.cfgDigest slot) n 17 0 (powAtLeast n)

/-! COLL_COMPLETE (R277, R281, R283) -/

/-- Every message of collective `num` has been answered. -/
def State.collAcked (s : State) (slot num : Nat) : Bool :=
  (s.collConns slot).all fun c => (c.cq ++ c.csegs).all fun g => decide (g.num ≠ some num)

/-- Whether a reduce has its owned shard final and its sends made, a gather every shard, and a job-wide tree its result; and every
segment sent has been acknowledged. -/
def State.collReady (s : State) (slot : Nat) (k : Coll) : Bool :=
  let c := s.ctx slot
  let g := s.groupSize k.d.axes
  let r := s.groupRank k.d.axes
  !k.refused && s.collAcked slot k.num && (!k.d.jobWide || k.result.isSome) &&
  if k.d.op = 1 then
    s.ownFinal slot k && (exchanges g).all fun p =>
      match exchange g r p.1 p.2 with
      | some (_, send) => decide (send ≠ r) || (shardOf k.d.tiles g p.2).isEmpty || decide ((p.2, p.1) ∈ k.sentLv)
      | none => true
  else if k.d.op = 2 then
    (List.range g).all fun q => decide (q = r) || decide (shardElems c k.d g q ≤ k.gotOf q 0)
  else true

/-- The figures that the first job-wide tree of a step brings (R382): the minimum commits. -/
def treeFigures (slot : Nat) (v : TreeVal) (s : State) : State :=
  let c := s.ctx slot
  let r := { c.rcv with fig := some (v.c, v.t, v.h, v.f) }
  match v.newest with
  | some n => (s.setCtx slot { c with rcv := r.commit n.toNat }).mapMirrors slot (commitIn n.toNat)
  | none => s.setCtx slot { c with rcv := r }

/-- The end of a job-wide tree: the result at OUT_VA, and in the first tree of the step the digest and the recovery figures. -/
def treeEnds (slot : Nat) (k : Coll) (v : TreeVal) (s : State) : State :=
  let s1 := s.writeVA slot k.d.outVa (normBytes v.hi v.lo (if k.fold then v.digest else none))
  if !k.fold then s1
  else
    let s2 := treeFigures slot v s1
    if v.digest = some (s2.expectedRoot slot) then s2 else digestMismatch slot s2

/-- A collective completes with COLL_OK: the last writes of its kind, then its record and counter. -/
def collOk (slot : Nat) (k : Coll) (s : State) : State :=
  let c := s.ctx slot
  let s1 := if k.d.op = 2 then ((List.range k.d.tiles).filter (c.frozen k.d)).foldl (copyTile slot k.d) s
    else if k.d.op = 1 ∧ k.d.norm = false then zeroFrozen slot k s
    else s
  collDone slot k 0 (match k.result with
    | some v => if k.d.jobWide then treeEnds slot k v s1 else s1
    | none => s1)

/-- The started collective that a message index k names. -/
def State.collByte (s : State) (slot : Nat) (k : Byte) : Option Coll :=
  (s.ctx slot).colls.find? fun q => q.started && decide (q.num % 256 = k.toNat)

/-- A collective that has nothing left to do ends. -/
def collEnds (slot : Nat) (k : Byte) (s : State) : State :=
  match s.collByte slot k with
  | none => s
  | some q => if s.collReady slot q then collOk slot q s else s

/-- Whether a collective ends with what the command names: COLL_OK, and the pair, digest root and newest starfix of its tree,
as this device has them (log 35). A failure ends a collective in the command that brings it. -/
def Coll.endsWith (k : Coll) (status : W16) (hi lo : W32) (root : Option (BitVec 384)) (newest : Option W64) : Bool :=
  decide (status = 0) && match k.result with
    | some v => decide (v.hi = hi) && decide (v.lo = lo) && decide (v.digest = root) && decide (v.newest = newest)
    | none => decide (hi = 0) && decide (lo = 0) && root.isNone && newest.isNone

/-- COLL_COMPLETE: what it names is what the device itself has, else it does not happen (log 9). -/
def execCollComplete (slot : SlotId) (k : Byte) (status : W16) (hi lo : W32) (root : Option (BitVec 384)) (newest : Option W64)
    (s : State) : Host.Outcome State Fault Refusal :=
  .next (s.close (match s.collByte slot.val k with
    | none => s
    | some q => if q.endsWith status hi lo root newest then collEnds slot.val k s else s))

/-- COLL_READY_RECEIVED: the message comes through a port as every message of the transport does; the spec gives it no TYPE. -/
def execCollReadyReceived (n : PortId) (f : RxFacts) (m : Msg) (b : CollMsg) (s : State) : Host.Outcome State Fault Refusal :=
  .next (match b.body with
    | .ready _ _ => received n f m m.typ.toNat (fun cn u => collWatch cn u (collArrives cn m b u)) s
    | _ => s)

/-- COLL_SEGMENT_RECEIVED: a segment, or a message of a job-wide tree. -/
def execCollSegmentReceived (n : PortId) (f : RxFacts) (m : Msg) (k : CollIdx) (src dest : Nat) (fp : Option (BitVec 384)) (body : CollBody)
    (s : State) : Host.Outcome State Fault Refusal :=
  let b : CollMsg := ⟨k, src, dest, fp, body⟩
  .next (match b.body with
    | .ready _ _ => s
    | .segment _ level _ _ _ => received n f m (if level = 0 then 1 else 2) (fun cn u => collWatch cn u (collArrives cn m b u)) s
    | _ => received n f m m.typ.toNat (fun cn u => collWatch cn u (collArrives cn m b u)) s)

/-! Beacons received (R290) -/

/-- The beacon of a step from a neighbour. One of the step under way, or of one of the 8 after the last that ended, waits until
that step's digest stands in the history; any other outside the history is unmatched. -/
def beaconReceived (cn : Nat) (step : W64) (digest : BitVec 384) (s : State) : State :=
  let slot := (s.conn cn).ctx
  let c := s.ctx slot
  match c.digests.find? fun p => decide (p.1 = step) with
  | some p => compareBeacon slot p.2 digest s
  | none =>
    if c.step.toNat ≤ step.toNat ∧ step.toNat < c.step.toNat + 8 then s.setCtx slot { c with beacons := c.beacons ++ [(step, digest)] }
    else State.errCol { s with col := { s.col with unmatched := satAdd 65535 s.col.unmatched 1 } } 1 slot

/-- RX_BEACON. -/
def execRxBeacon (n : PortId) (f : RxFacts) (m : Msg) (step : W64) (digest : BitVec 384) (s : State) : Host.Outcome State Fault Refusal :=
  .next (received n f m 0x11 (fun cn u => if (u.conn cn).coll then beaconReceived cn step digest u else u) s)

/-! Answers, resets and losses on a connection, of which the collective engine learns too (R251, R259, R261, R241) -/

/-- An ACK, READ_RESP or NAK, of a segment of an operation or of the engine's own. -/
def anyAnswer (cn : Nat) (m : Msg) (s : State) : State := if (s.conn cn).coll then collAnswered cn m s else answerArrives cn m s

/-- ACK received. -/
def execRxAck (n : PortId) (f : RxFacts) (m : Msg) (s : State) : Host.Outcome State Fault Refusal :=
  .next (received n f m 5 (fun cn u => anyAnswer cn m u) s)

/-- NAK received. -/
def execRxNak (n : PortId) (f : RxFacts) (m : Msg) (s : State) : Host.Outcome State Fault Refusal :=
  .next (received n f m 6 (fun cn u => anyAnswer cn m u) s)

/-- RESET received. -/
def execRxReset (n : PortId) (f : RxFacts) (m : Msg) (s : State) : Host.Outcome State Fault Refusal :=
  .next (received n f m 8 (fun cn u => collWatch cn u (connReset cn u)) s)

/-- CLOSE received. -/
def execRxClose (n : PortId) (f : RxFacts) (m : Msg) (s : State) : Host.Outcome State Fault Refusal :=
  .next (received n f m 9 (fun cn u => collWatch cn u (connFalls cn u)) s)

/-- RETRANSMIT. -/
def execRetransmit (cn : ConnId) (seq : W32) (s : State) : Host.Outcome State Fault Refusal :=
  .next (s.close (collWatch cn.val s (retransmit cn.val seq.toNat s)))

end Sys2Proof.Machine
end

