-- ==== Sys2Proof/Machine/ComputeCore.lean ====
section
/-! DEFINITION. The MM and ACC classes and the spill (02 R43 to R75, 05 R150 to R155). -/

namespace Sys2Proof.Machine

/-! Arithmetic of one element (R50, R54) -/

/-- The sum of the products of one group (R50, R53). -/
def groupSum : List (FV × FV) → FV
  | [] => fvZero
  | [p] => p.1.mul p.2
  | p :: ps => (p.1.mul p.2).add (groupSum ps)

/-- One element over the groups in ascending order, with whether a group sum or an addition overflowed. -/
def macF (acc : W32) : List (List (FV × FV)) → W32 × Bool
  | [] => (acc, false)
  | g :: gs =>
    let ex := groupSum g
    let sum := round32 ex
    let nxt := (fv acc).add (fv sum)
    let r := macF (round32 nxt) gs
    (r.1, r.2 || ovf32 ex || ovf32 nxt)

def int32Min : Int := -2147483648
def int32Max : Int := 2147483647

/-- Saturation of R54. -/
def satInt (v : Int) : Int := max int32Min (min int32Max v)

def groupSumI (g : List (Int × Int)) : Int := (g.map fun p => p.1 * p.2).sum

def macI (acc : Int) : List (List (Int × Int)) → Int × Bool
  | [] => (acc, false)
  | g :: gs =>
    let v := acc + groupSumI g
    let r := macI (satInt v) gs
    (r.1, r.2 || decide (satInt v ≠ v))

/-- The signed value of an integer element. -/
def Fmt.intValue (f : Fmt) (code : Nat) : Int := toSigned f.width code

/-- Element (i, j) of a run: new bits and overflow. -/
def runElem (int : Bool) (g k : Nat) (a : Eff) (row : RowCodes) (b : Eff) (col : RowCodes) (acc : W32) : W32 × Bool :=
  if int then
    let ps := (List.range k).map fun q =>
      (a.fmt.intValue (row.codes.getD q 0), b.fmt.intValue (col.codes.getD q 0))
    let r := macI (toSigned 32 acc.toNat) (chunks g k ps)
    (BitVec.ofInt 32 r.1, r.2)
  else
    macF acc (chunks g k ((List.range k).map fun q => (a.elemValue row q, b.elemValue col q)))

/-- g of GROUP (R51). -/
def groupSize (g : BitVec 2) : Nat := if g = 0#2 then 16 else if g = 1#2 then 8 else 4

/-! MM.LOADW (R43, R46, R47, R150) -/

def runLoadw (f : LoadwF) (e : Env) : Except FaultCode Done := do
  e.chkCtr
  e.chkClass f.cls.toNat
  let g := e.eff f.cls.toNat f.lsrc
  match g.fmt.kp with
  | none => .error .mmBadFormat
  | some kp =>
    failIf (decide (kp < f.kl.toNat)) .insnRange
    e.chkBracket false
    let base := osAddr e.p.x1 f.off.toNat
    let stride := f.stride.toNat * 64
    let cols := if f.kl = 0#11 then 0 else f.nl.toNat
    e.chkOs base stride cols (g.rowBytes f.kl.toNat)
    let rows ← e.readRows g base stride cols f.kl.toNat
    let tile : Tile := { eff := g, kl := f.kl.toNat, nl := f.nl.toNat, cols := rows }
    let l := e.live
    let l1 :=
      if g.fmt = .fp32 then (l.setTile e.x 0 (some tile)).setTile e.x 1 (some tile)
      else
        let other := 1 - b2n f.tb
        let l0 := if ((l.tile e.x other).map fun t => decide (t.eff.fmt = .fp32)).getD false
          then l.setTile e.x other none else l
        l0.setTile e.x (b2n f.tb) (some tile)
    .ok { s := e.s, l := l1, fl := e.flight false, fin := e.zero }

def isLoadw : KwOp → Bool | .loadw _ => true | _ => false

def carryLoadw (e : Env) : Except FaultCode Done :=
  match e.p.kw.op with
  | .loadw f => runLoadw f e
  | _ => .error .insnBadOpcode

/-- MM.LOADW. -/
def execMmLoadw (n : CoreId) (x : StrmId) (ph : Phase) (s : State) : Host.Outcome State Fault Refusal :=
  .next (kwemin n x ph false isLoadw carryLoadw s)

/-! MM.RUN (R47, R50, R57, R58, R64, R151) -/

/-- A slot after a run: the new elements, with whether one overflowed. -/
def runSlot (int ow : Bool) (g k m n : Nat) (a : Eff) (rows : List RowCodes) (t : Tile) (slot : AccSlot) :
    AccSlot × Bool :=
  let typ : SlotType := if int then .int32 else .fp32
  let old := if slot.typ = typ then slot.elems else []
  let cells := (List.range m).flatMap fun i => (List.range n).map fun j =>
    let prior := if ow then 0#32 else Tbl.get 0#32 old (elemKey i j)
    (elemKey i j, runElem int g k a (rows.getD i ⟨[], []⟩) t.eff (t.cols.getD j ⟨[], []⟩) prior)
  ({ slot with typ := typ, written := true
               elems := cells.foldl (fun els c => Tbl.write 0#32 els c.1 c.2.1) old },
    cells.any fun c => c.2.2)

/-- MM.RUN. DESIGN CHOICE (log 53): "SPILL on a run into an INT32 slot" (R65) is judged by the type the run gives the slot,
so an FP32 run in overwrite mode may spill although the slot still holds INT32 (R57). -/
def runRun (f : RunF) (e : Env) : Except FaultCode Done := do
  e.chkCtr
  e.chkSlot f.slot.toNat
  if f.spill then e.chkSpill f.spillSlot.toNat
  e.chkClass f.cls.toNat
  let a := e.eff f.cls.toNat f.lsrc
  let tile := e.live.tile e.x (if a.fmt = .fp32 then 0 else b2n f.tb)
  match a.fmt.kp with
  | none => .error .mmBadFormat
  | some kp =>
    failIf ((tile.map fun t => decide (t.eff.fmt.arrayClass ≠ a.fmt.arrayClass)).getD false) .mmBadFormat
    failIf (decide (f.group = 3#2)) .mmBadGroup
    let int := a.plainInt && (tile.map fun t => t.eff.plainInt).getD true
    let typ : SlotType := if int then .int32 else .fp32
    let slot := e.live.slot f.slot.toNat
    failIf (!f.mode && decide (slot.typ ≠ .empty) && decide (slot.typ ≠ typ)) .mmSlotType
    failIf (f.spill && int) .mmSlotType
    let t := tile.getD { eff := a, kl := 0, nl := 0, cols := [] }
    let k := min f.k.toNat t.kl
    let n := min f.n.toNat t.nl
    let works := decide (0 < f.m.toNat) && decide (0 < n)
    let count := (if f.mode then 0 else slot.k) + k
    let spills := f.spill && works && decide (spillK e.spillV ≤ count)
    let sp := e.live.spillSlot f.spillSlot.toNat
    failIf (spills && (sp.owner.map fun o => decide (o ≠ f.slot.toNat)).getD false) .accSpillBound
    failIf (decide (kp < f.k.toNat)) .insnRange
    e.chkBracket false
    e.chkCarried (slot.carried || (spills && sp.carried))
    let base := osAddr e.p.x1 f.off.toNat
    let stride := f.stride.toNat * 64
    let reads := if works && decide (0 < k) then f.m.toNat else 0
    e.chkOs base stride reads (a.rowBytes f.k.toNat)
    failIf (works && !f.mode && e.live.accBad f.slot.toNat f.m.toNat n) (.sramUe .acc)
    let rows ← e.readRows a base stride reads f.k.toNat
    let fl := e.flight false
    if !works then .ok { s := e.s, l := e.live, fl := fl, fin := true }
    else
      let r := runSlot int f.mode (groupSize f.group) k f.m.toNat n a rows t slot
      let whole := decide (slot.typ ≠ typ)
      let l1 := (e.live.setSlot f.slot.toNat { r.1 with k := min 65535 count }).accWrote f.slot.toNat
        (if whole then 256 else f.m.toNat) (if whole then 256 else n)
      let st := l1.strm e.x
      let l2 := if spills then
          l1.setStrm e.x { st with spills := st.spills ++ [⟨f.slot.toNat, f.spillSlot.toNat, e.p.idx⟩] }
        else l1
      .ok { s := e.s, l := l2, fl := fl, num := { fp32Ovf := r.2 } }

def isRun : KwOp → Bool | .run _ => true | _ => false

def carryRun (e : Env) : Except FaultCode Done :=
  match e.p.kw.op with
  | .run f => runRun f e
  | _ => .error .insnBadOpcode

/-- MM.RUN. -/
def execMmRun (n : CoreId) (x : StrmId) (ph : Phase) (s : State) : Host.Outcome State Fault Refusal :=
  .next (kwemin n x ph false isRun carryRun s)

/-! The spill (R64, R65) -/

/-- The elements that a fold over a slot and a spill slot can change. -/
def foldKeys (a : AccSlot) (p : SpillSlot) : List Nat := (a.elems.map Prod.fst ++ p.pairs.map Prod.fst).dedup

/-- fp32c_add of every element into its pair, with whether one overflowed. -/
def spillPairs (a : AccSlot) (p : SpillSlot) : Tbl W64 × Bool :=
  (foldKeys a p).foldl (fun r k =>
    let w := Tbl.get 0#64 p.pairs k
    let x := Tbl.get 0#32 a.elems k
    let q := fp32cAdd (pairHi w) (pairLo w) x
    (Tbl.write 0#64 r.1 k (mkPair q.1 q.2), r.2 || fp32cOvf (pairHi w) x q)) (p.pairs, false)

/-- The slot and the spill slot after a spill, with whether it overflowed. -/
def spillInto (slot : Nat) (a : AccSlot) (p : SpillSlot) : AccSlot × SpillSlot × Bool :=
  let r := spillPairs a p
  ({ a with elems := [], k := 0 }, { p with full := true, owner := some slot, written := true, pairs := r.1 }, r.2)

/-- The spill that a committed run owes: its overflow is the run's (R65, R104), and a poisoned or uncorrectable word that it
reads faults the stream (R80). -/
def spillNext (n : Nat) (x : StrmId) (s : State) : State :=
  match site s n x with
  | none => s
  | some i =>
    match i.t.spills with
    | [] => s
    | d :: ds =>
      let l := i.core.live
      let met := l.errs.filter fun y => l.accHit d.slot 256 256 y || l.accHit (64 + d.spillSlot) 256 256 y
      let s0 := s.noteSram n (i.ctx.desc.core n).bankBase met
      if met.any (·.ue) then raiseFault s0 n x i.slot d.idx (.sramUe .acc) else
      let r := spillInto d.slot (l.slot d.slot) (l.spillSlot d.spillSlot)
      let l1 := (((l.setSlot d.slot r.1).setSpill d.spillSlot r.2.1).accWrote d.slot 256 256).accWrote (64 + d.spillSlot) 256 256
      let s1 := s0.setCore n { s0.core n with live := l1.setStrm x { i.t with spills := ds } }
      if r.2.2 && !recOvfRecord i.ctx.recipe then raiseFault s1 n x i.slot d.idx .numFp32Overflow else s1

/-- SPILL. -/
def execSpill (n : CoreId) (x : StrmId) (s : State) : Host.Outcome State Fault Refusal :=
  .next (s.settle (spillNext n.val x s))

/-! ACC.READ (R70, R153) -/

/-- The value of element (i, j) of a source. -/
def accSrc (a : AccSlot) (i j : Nat) : Src :=
  match a.typ with
  | .int32 => .i (toSigned 32 (a.elem i j).toNat)
  | .fp32 => .f (a.elem i j)
  | .empty => .f 0#32

def accRows (l : CoreCtx) (f : AccReadF) : List (List Src) :=
  (List.range f.m.toNat).map fun i => (List.range f.n.toNat).map fun j =>
    if f.src then .p ((l.spillSlot f.slot.toNat).pair i j) else accSrc (l.slot f.slot.toNat) i j

/-- CLEAR empties the source; a spill slot loses its binding (R153). That it takes the K count of an emptied slot to 0 is the
model's choice (R56, log 63). -/
def accClear (l : CoreCtx) (f : AccReadF) : CoreCtx :=
  if !f.clear then l
  else if f.src then (l.setSpill f.slot.toNat { written := true }).accWrote (f.slot.toNat + 64) 256 256
  else (l.setSlot f.slot.toNat { written := true }).accWrote f.slot.toNat 256 256

def runAccRead (f : AccReadF) (e : Env) : Except FaultCode Done := do
  e.chkCtr
  if f.src then e.chkSpill f.slot.toNat else e.chkSlot f.slot.toNat
  e.chkClass f.cls.toNat
  let g := e.eff f.cls.toNat f.lsrc
  e.chkBracket false
  e.chkCarried (f.clear && (if f.src then (e.live.spillSlot f.slot.toNat).carried
    else (e.live.slot f.slot.toNat).carried))
  let base := osAddr e.p.x1 f.off.toNat
  let stride := f.stride.toNat * 64
  let m := if f.n = 0#9 then 0 else f.m.toNat
  let len := g.rowBytes f.n.toNat
  e.chkOs base stride m len
  failIf (decide (2 ≤ m) && decide (stride < len)) .numStrideShort
  failIf (decide (0 < m) && e.live.accBad (f.slot.toNat + if f.src then 64 else 0) m f.n.toNat) (.sramUe .acc)
  if m = 0 then .ok { s := e.s, l := accClear e.live f, fl := e.flight false, fin := true }
  else
    let o := e.classRows f.cls.toNat f.lsrc base stride (accRows e.live f)
    .ok { s := e.recorded f.cls.toNat f.lsrc f.statsSlot.toNat o.tally
          l := accClear (e.live.osWriteRows base stride o.rows) f
          fl := { e.flight false with oldOs := e.live.osOld base stride m len }
          num := e.classNumeric f.cls.toNat f.lsrc o.tally }

def isAccRead : KwOp → Bool | .accRead _ => true | _ => false

def carryAccRead (e : Env) : Except FaultCode Done :=
  match e.p.kw.op with
  | .accRead f => runAccRead f e
  | _ => .error .insnBadOpcode

/-- ACC.READ. -/
def execAccRead (n : CoreId) (x : StrmId) (ph : Phase) (s : State) : Host.Outcome State Fault Refusal :=
  .next (kwemin n x ph false isAccRead carryAccRead s)

/-! ACC.WRITE (R71, R154) -/

/-- An element as a slot of the tile's type takes it. -/
def widen (g : Eff) (row : RowCodes) (j : Nat) : W32 :=
  if g.plainInt then BitVec.ofInt 32 (g.fmt.intValue (row.codes.getD j 0)) else g.elem32 row j

/-- A write in a tile of this format gives the slot another type, and sets its other elements to +0 or 0 (R71). -/
def Eff.retypes (g : Eff) (slot : AccSlot) : Bool := decide (slot.typ ≠ if g.plainInt then .int32 else .fp32)

def accWriteSlot (g : Eff) (rows : List RowCodes) (n : Nat) (slot : AccSlot) : AccSlot :=
  let typ : SlotType := if g.plainInt then .int32 else .fp32
  let old := if slot.typ = typ then slot.elems else []
  { slot with
    typ := typ, k := 0, written := true
    elems := rows.zipIdx.foldl (fun t p =>
      (List.range n).foldl (fun t j => Tbl.write 0#32 t (elemKey p.2 j) (widen g p.1 j)) t) old }

def runAccWrite (f : AccWriteF) (e : Env) : Except FaultCode Done := do
  e.chkCtr
  e.chkSlot f.slot.toNat
  e.chkClass f.cls.toNat
  let g := e.eff f.cls.toNat f.lsrc
  failIf (decide (g.fmt = .fp32c)) .mmBadFormat
  e.chkBracket false
  let slot := e.live.slot f.slot.toNat
  e.chkCarried slot.carried
  let base := osAddr e.p.x1 f.off.toNat
  let stride := f.stride.toNat * 64
  let m := if f.n = 0#9 then 0 else f.m.toNat
  e.chkOs base stride m (g.rowBytes f.n.toNat)
  let rows ← e.readRows g base stride m f.n.toNat
  if m = 0 then .ok { s := e.s, l := e.live, fl := e.flight false, fin := true }
  else .ok { s := e.s, fl := e.flight false
             l := (e.live.setSlot f.slot.toNat (accWriteSlot g rows f.n.toNat slot)).accWrote f.slot.toNat
               (if g.retypes slot then 256 else m) (if g.retypes slot then 256 else f.n.toNat) }

def isAccWrite : KwOp → Bool | .accWrite _ => true | _ => false

def carryAccWrite (e : Env) : Except FaultCode Done :=
  match e.p.kw.op with
  | .accWrite f => runAccWrite f e
  | _ => .error .insnBadOpcode

/-- ACC.WRITE. -/
def execAccWrite (n : CoreId) (x : StrmId) (ph : Phase) (s : State) : Host.Outcome State Fault Refusal :=
  .next (kwemin n x ph false isAccWrite carryAccWrite s)

/-! ACC.RSCALE (R75, R155) -/

def rscaleSlot (l : CoreCtx) (v m : Nat) (slot : AccSlot) : AccSlot :=
  { slot with
    written := true
    elems := (List.range m).foldl (fun t i => (List.range 256).foldl (fun t j =>
      Tbl.write 0#32 t (elemKey i j) (mul32 (slot.elem i j) (l.lane v i))) t) slot.elems }

def runRscale (f : RscaleF) (e : Env) : Except FaultCode Done := do
  e.chkCtr
  e.chkSlot f.slot.toNat
  e.chkReg f.vreg.toNat
  let slot := e.live.slot f.slot.toNat
  failIf (decide (slot.typ = .int32)) .mmSlotType
  e.chkBracket false
  e.chkCarried slot.carried
  failIf (e.live.accBad f.slot.toNat f.m.toNat 256) (.sramUe .acc)
  if slot.typ = .empty || f.m = 0#9 then .ok { s := e.s, l := e.live, fl := e.flight false, fin := e.zero }
  else .ok { s := e.s, fl := e.flight false
             l := (e.live.setSlot f.slot.toNat (rscaleSlot e.live f.vreg.toNat f.m.toNat slot)).accWrote f.slot.toNat f.m.toNat 256 }

def isRscale : KwOp → Bool | .rscale _ => true | _ => false

def carryRscale (e : Env) : Except FaultCode Done :=
  match e.p.kw.op with
  | .rscale f => runRscale f e
  | _ => .error .insnBadOpcode

/-- ACC.RSCALE. -/
def execAccRscale (n : CoreId) (x : StrmId) (ph : Phase) (s : State) : Host.Outcome State Fault Refusal :=
  .next (kwemin n x ph false isRscale carryRscale s)

/-! ACC.RESUME (R66, R155) -/

/-- Every element folded with its pair: h2 of fp32c_add, with whether one overflowed. -/
def resumeElems (a : AccSlot) (p : SpillSlot) : Tbl W32 × Bool :=
  (foldKeys a p).foldl (fun r k =>
    let w := Tbl.get 0#64 p.pairs k
    let x := Tbl.get 0#32 a.elems k
    let q := fp32cAdd (pairHi w) (pairLo w) x
    (Tbl.write 0#32 r.1 k q.1, r.2 || fp32cOvf (pairHi w) x q)) (a.elems, false)

def runResume (f : ResumeF) (e : Env) : Except FaultCode Done := do
  e.chkCtr
  e.chkSlot f.slot.toNat
  e.chkSpill f.spillSlot.toNat
  let slot := e.live.slot f.slot.toNat
  let sp := e.live.spillSlot f.spillSlot.toNat
  failIf (decide (slot.typ = .int32)) .mmSlotType
  failIf ((sp.owner.map fun o => decide (o ≠ f.slot.toNat)).getD false) .accSpillBound
  e.chkBracket false
  e.chkCarried (slot.carried || sp.carried)
  failIf (sp.full && (e.live.accBad f.slot.toNat 256 256 || e.live.accBad (64 + f.spillSlot.toNat) 256 256)) (.sramUe .acc)
  if !sp.full then .ok { s := e.s, l := e.live, fl := e.flight false }
  else
    let r := resumeElems slot sp
    .ok { s := e.s, fl := e.flight false, num := { fp32Ovf := r.2 }
          l := (((e.live.setSlot f.slot.toNat { slot with typ := .fp32, written := true, elems := r.1 }).setSpill
            f.spillSlot.toNat { written := true }).accWrote f.slot.toNat 256 256).accWrote (64 + f.spillSlot.toNat) 256 256 }

def isResume : KwOp → Bool | .resume _ => true | _ => false

def carryResume (e : Env) : Except FaultCode Done :=
  match e.p.kw.op with
  | .resume f => runResume f e
  | _ => .error .insnBadOpcode

/-- ACC.RESUME. -/
def execAccResume (n : CoreId) (x : StrmId) (ph : Phase) (s : State) : Host.Outcome State Fault Refusal :=
  .next (kwemin n x ph false isResume carryResume s)

end Sys2Proof.Machine
end

