-- ==== Sys2Proof/Machine/Power.lean ====
section
/-! DEFINITION. The power manager (01 R29 to R35) and the array self-test of a core (02 R78). -/

namespace Sys2Proof.Machine

/-! Readings -/

/-- A sensor's reading as last updated (R400). -/
def State.sensor (s : State) (k : Nat) : W32 := Tbl.get 0#32 s.mgt.sensors k

/-- The hottest junction sensor, in 1/256 °C (R400, R462). -/
def State.hottest (s : State) : Int := ((List.range 48).map fun k => (s.sensor k).toInt).foldl max (s.sensor 0).toInt

/-- A junction sensor at or above 100 °C (R33). -/
def State.hot (s : State) : Bool := decide (100 * 256 ≤ s.hottest)

def Power.total (p : Power) : Nat := (p.samples.map (·.toNat)).sum

/-- The short average: the mean of the last 10 samples, in W × 16 (R30). -/
def Power.shortAvg (p : Power) : Nat := if p.samples.isEmpty then 0 else p.total / p.samples.length

/-- The short average is above the cap. -/
def Power.overCap (p : Power) : Bool := decide (16 * p.cap * p.samples.length < p.total)

/-- The short average is below the cap less 25 W. -/
def Power.wellBelow (p : Power) : Bool := decide (p.total < 16 * (p.cap - 25) * p.samples.length) || p.samples.isEmpty

/-! Clocks (R32, R34, R35) -/

/-- The ceiling of the common clock: the highest of the cores' ceilings. -/
def State.topClock (s : State) : Nat := min Config.clockTop (((List.range 8).map fun n => (s.core n).ceiling).foldl max 0)

/-- The state of a core, under an eclipse the one that it covers. -/
def Core.shown (c : Core) : CoreState := if c.state = .eclipse then c.before else c.state

/-- An ungated core runs at its clock, in eclipse too. -/
def clockCore (s : State) (n : Nat) : State :=
  match (s.core n).shown with
  | .idle => s.setCore n { s.core n with clock := s.runClock n }
  | .running => s.setCore n { s.core n with clock := s.runClock n }
  | _ => s

/-- Every ungated core runs at its clock. -/
def applyClocks (s : State) : State := (List.range 8).foldl clockCore s

/-- Clock and pacing stand below their ceilings. -/
def State.limited (s : State) : Bool :=
  decide (s.power.clock < s.power.fixedClock.getD s.topClock) || decide (s.power.pacing < 16)

/-- POWER_LIMITING is logged when limiting begins and when it ends. -/
def noteLimiting (s : State) : State :=
  if s.limited = s.power.limiting then s
  else State.logEv { s with power := { s.power with limiting := s.limited } } { ev 0 0x02 0x41 with detail := b2n s.limited }

/-- New clock and pacing take effect. -/
def setPower (clock pacing : Nat) (s : State) : State :=
  noteLimiting (applyClocks { s with power := { s.power with clock := clock, pacing := pacing } })

/-- Whether a step fits under the cap by its own entry of the power table (R34). -/
def State.stepFits (s : State) (mhz : Nat) : Bool :=
  s.almanac.powerTable.any fun p => decide (p.1 = mhz) && decide (p.2 ≤ s.power.cap)

/-- The highest step that fits, from `n` steps above the floor down. -/
def State.fixedStep (s : State) : Nat → Nat
  | 0 => Config.clockFloor
  | n + 1 =>
    let mhz := Config.clockFloor + (n + 1) * Config.clockStep
    if s.stepFits mhz then mhz else s.fixedStep n

/-- The fixed clock of R34: the highest step up to 1.15 GHz that fits. -/
def State.fixedFor (s : State) : Nat := s.fixedStep ((Config.clockTop - Config.clockFloor) / Config.clockStep)

/-- The clock is fixed while an enclosure is FIXED_SHARE, and follows load again once none is (R34, R353). That POWER_LIMITING begins
then, where the held clock stands below the ceiling, is the model's choice (R35, log 63). -/
def followShares (s : State) : State :=
  match s.fixedShare, s.power.fixedClock with
  | true, none =>
    let c := s.fixedFor
    setPower c 16 { s with power := { s.power with fixedClock := some c } }
  | false, some _ => noteLimiting { s with power := { s.power with fixedClock := none } }
  | _, _ => s

/-- A cap that was set takes effect: at a control tick (R29), under a fixed clock at once, and the clock is computed again
(R34). -/
def takeCap (s : State) : State :=
  if s.mgt.working.powerCap = s.power.cap then s
  else
    let s1 := { s with power := { s.power with cap := s.mgt.working.powerCap } }
    match s1.power.fixedClock with
    | none => s1
    | some _ =>
      let c := s1.fixedFor
      setPower c 16 { s1 with power := { s1.power with fixedClock := some c } }

/-- The cap has been changed. -/
def capSet (s : State) : State := if s.power.fixedClock.isSome then takeCap s else s

/-! Rows -/

/-- POWER_SAMPLE: a reading of the 54 V input in W × 16. -/
def execPowerSample (watts16 : W16) (s : State) : Host.Outcome State Fault Refusal :=
  .next (if !s.mgt.ready then s
    else { s with power := { s.power with samples := (s.power.samples ++ [watts16]).drop (s.power.samples.length + 1 - 10) } })

/-- Rules 1, 2, 3 and 5 of R30 with R33; under a fixed clock only temperature lowers it (R34). -/
def controlTick (s : State) : State :=
  let s1 := takeCap s
  let p := s1.power
  let lower := if p.fixedClock.isSome then s1.hot else p.overCap || s1.hot
  if !lower then s1
  else if Config.clockFloor < p.clock then setPower (max Config.clockFloor (p.clock - Config.clockStep)) p.pacing s1
  else if 8 < p.pacing then setPower p.clock (p.pacing - 1) s1
  else s1

/-- POWER_CONTROL_TICK. -/
def execPowerControlTick (s : State) : Host.Outcome State Fault Refusal := .next (if s.mgt.ready then controlTick s else s)

/-- Rule 4 of R30, its 1 ms having passed; under a fixed clock pacing alone is released (R34). -/
def powerRaise (s : State) : State :=
  let s1 := takeCap s
  let p := s1.power
  if s1.hot then s1
  else if p.fixedClock.isNone && !p.wellBelow then s1
  else if p.pacing < 16 then setPower p.clock (p.pacing + 1) s1
  else if p.fixedClock.isSome then s1
  else if p.clock < s1.topClock then setPower (min (p.clock + Config.clockStep) s1.topClock) p.pacing s1
  else s1

/-- POWER_RAISE: the tick on which the conditions have held for 1 ms. -/
def execPowerRaise (s : State) : Host.Outcome State Fault Refusal := .next (if s.mgt.ready then powerRaise s else s)

/-- R31: above the cap for 1 ms with clock and pacing at their floors. -/
def capUnmet (s : State) : State :=
  if s.power.overCap && decide (s.power.clock ≤ Config.clockFloor) && decide (s.power.pacing ≤ 8) then
    (s.logEv (ev 2 0x02 0x42)).raiseAlert 3
  else s

/-- POWER_CAP_UNMET. -/
def execPowerCapUnmet (s : State) : Host.Outcome State Fault Refusal := .next (if s.mgt.ready then capUnmet s else s)

/-! The array self-test (R77, R78, R83) -/

/-- The spare of a core. -/
def Core.spare (c : Core) (k : Nat) : SpareMap := Tbl.get {} c.spareMap k

/-- The logical column that physical column `p` serves. -/
def Core.logicalOf (c : Core) (p : Nat) : Option Nat :=
  if p < 256 then
    if (List.range 8).any fun k => ((c.spare k).valid || (c.spare k).pending) && decide ((c.spare k).logical = p) then none else some p
  else if (c.spare (p - 256)).valid || (c.spare (p - 256)).pending then some (c.spare (p - 256)).logical else none

/-- A spare that can be mapped: unused, not failed, and not failing now. -/
def Core.healthySpare (c : Core) (fails : List Nat) : Option Nat :=
  (List.range 8).find? fun k =>
    !(c.spare k).valid && !(c.spare k).pending && decide ((c.spare k).source ≠ 3) && decide (256 + k ∉ fails)

/-- A failing spare is never mapped again. -/
def Core.dropSpare (c : Core) (p : Nat) : Core :=
  if p < 256 then c else { c with spareMap := Tbl.put c.spareMap (p - 256) { source := 3 } }

/-- One logical column gets a spare; `later` says that the map waits for the next context. Answers whether one was left. -/
def Core.mapSpare (c : Core) (fails : List Nat) (later : Bool) (col : Nat) : Core × Bool :=
  match c.healthySpare fails with
  | some k => ({ c with spareMap := Tbl.put c.spareMap k { valid := !later, pending := later, source := 2, logical := col } }, true)
  | none => (c, false)

/-- Spares for a list of columns. -/
def Core.mapSpares (fails : List Nat) (later : Bool) : List Nat → Core → Core × Bool
  | [], c => (c, true)
  | col :: l, c =>
    let r := c.mapSpare fails later col
    if r.2 then Core.mapSpares fails later l r.1 else r

/-- The start of a test on request (R83). DESIGN CHOICE (log 53): a START while a test runs is ignored and logged too. -/
def selftestStart (n : Nat) (s : State) : State :=
  let c := s.core n
  if c.state = .idle ∧ c.busy = false ∧ (s.usersOf n).isEmpty = true then s.setCore n { c with busy := true }
  else s.logEv { ev 1 0x07 0x40 with core := n }

/-- SELFTEST_START. -/
def execSelftestStart (c : CoreId) (s : State) : Host.Outcome State Fault Refusal := .next (selftestStart c.val s)

/-- The end of a test: its results, spares for failing columns, or the core's retirement. At a start the core is then
gated, unless its re-plan still runs (R460). FAIL_COUNT stays at 255 beyond it: DESIGN CHOICE (log 53), the field has 8 bits for 264 columns. -/
def selftestDone (n : Nat) (fails : List Nat) (s : State) : State :=
  let c := s.core n
  if !c.busy then s
  else
    let cols := (fails.filterMap c.logicalOf).dedup
    let low := fails.foldl min 0x1FF
    let gates := decide (c.state = .idle) && !s.hif.ready && decide (n ∉ s.mgt.replanning)
    let c1 : Core := { c with busy := false, done := true, pass := cols.isEmpty, firstFail := low, failCount := min 255 fails.length
                              state := if gates then .gated else c.state, clock := if gates then 0 else c.clock }
    let r := Core.mapSpares fails s.hif.ready cols (fails.foldl Core.dropSpare c1)
    let s1 := s.setCore n r.1
    let s2 := if cols.isEmpty then s1 else s1.errCore n 4
    if r.2 then s2 else retireCore n s2

end Sys2Proof.Machine
end

