-- ==== Sys2Proof/Machine/Images.lean ====
section
/-! DEFINITION. The constellation image: its format, the checks of R325, and its application (11 R321 to R329). -/

namespace Sys2Proof.Machine

/-! Format (R321 to R324) -/

/-- `n` bytes at offset `o`, little-endian. -/
def rd (b : List Byte) (o n : Nat) : Nat := leNat ((b.drop o).take n)

/-- A section table entry: type, offset and length, and whether a reserved bit is set. -/
structure Section where
  typ : Nat
  off : Nat
  len : Nat
  resv : Bool
  deriving DecidableEq, Repr

def sectionAt (b : List Byte) (k : Nat) : Section :=
  let w := rd b (128 + 16 * k) 8
  let v := rd b (136 + 16 * k) 8
  { typ := bits w 7 0, off := bits w 63 32, len := bits v 31 0, resv := decide (bits w 31 8 ≠ 0) || decide (v / 2 ^ 32 ≠ 0) }

def sectionCount (b : List Byte) : Nat := bits (rd b 0 8) 15 8

def sections (b : List Byte) : List Section := (List.range (sectionCount b)).map (sectionAt b)

/-- The bytes of the section of a type. -/
def sectionBytes (b : List Byte) (typ : Nat) : List Byte :=
  match (sections b).find? fun x => decide (x.typ = typ) with
  | some x => (b.drop x.off).take x.len
  | none => []

/-- A field of a 128-byte enclosure entry. -/
def entField (e : List Byte) (o hi lo : Nat) : Nat := bits (rd e o 8) hi lo

/-- The enclosure entry of 128 bytes (R322). -/
def readEncl (e : List Byte) : EnclEntry :=
  let f := entField e
  { index := f 0 5 0, sharedCores := f 0 39 32, dedicatedCores := f 0 31 24, tcMask := f 0 23 16, fixedShare := bit (rd e 0 8) 8
    ctxCount := f 8 28 16, ctxBase := f 8 11 0, ctrCount := f 0x10 32 16, ctrBase := f 0x10 15 0
    winCount := f 0x18 36 18, winBase := f 0x18 17 0, cconnCount := f 0x20 57 43, cconnBase := f 0x20 42 29
    connCount := f 0x20 28 14, connBase := f 0x20 13 0, queueCount := f 0x28 26 13, queueBase := f 0x28 12 0
    fabricWeight := f 0x30 47 40, brdPages := f 0x30 39 20, pkgPages := f 0x30 19 0
    nearPages := (List.range 8).map fun n => rd e (0x38 + 2 * n) 2
    portWeight := (List.range 16).map fun n => rd e (0x48 + n) 1
    hostSlot := f 0x58 56 48, dwtSlot := f 0x58 40 32, brdSlot := f 0x58 24 16, pkgSlot := f 0x58 8 0, logSlot := f 0x60 8 0
    raw := e }

/-- A reserved bit of an enclosure entry. -/
def enclResv (e : List Byte) : Bool :=
  let w := rd e
  decide (bits (w 0 8) 63 40 ≠ 0) || decide (bits (w 0 8) 15 9 ≠ 0) || decide (bits (w 0 8) 7 6 ≠ 0)
    || decide (w 8 8 / 2 ^ 29 ≠ 0) || decide (bits (w 8 8) 15 12 ≠ 0) || decide (w 0x10 8 / 2 ^ 33 ≠ 0)
    || decide (w 0x18 8 / 2 ^ 37 ≠ 0) || decide (w 0x20 8 / 2 ^ 58 ≠ 0) || decide (w 0x28 8 / 2 ^ 27 ≠ 0)
    || decide (w 0x30 8 / 2 ^ 48 ≠ 0) || decide (bits (w 0x58 8) 63 57 ≠ 0) || decide (bits (w 0x58 8) 47 41 ≠ 0)
    || decide (bits (w 0x58 8) 31 25 ≠ 0) || decide (bits (w 0x58 8) 15 9 ≠ 0) || decide (w 0x60 8 / 2 ^ 9 ≠ 0)
    || decide (w 0x68 24 ≠ 0)

/-- A member of the cluster map (R323). -/
def readMember (m : List Byte) : Member :=
  { serial := BitVec.ofNat 64 (rd m 0 8), d := rd m 8 1, p := rd m 9 1, t := rd m 10 1, s := rd m 11 1
    node := rd m 12 2, kinds := rd m 16 4 }

def memberResv (m : List Byte) : Bool := decide (rd m 14 2 ≠ 0) || decide (rd m 20 12 ≠ 0)

/-- An address entry (R324). -/
def readAddr (a : List Byte) : AddrEnt :=
  { serial := BitVec.ofNat 64 (rd a 0 8), port := rd a 8 1, family := rd a 9 1, addr := BitVec.ofNat 128 (rd a 16 16) }

def addrResv (a : List Byte) : Bool :=
  decide (rd a 10 6 ≠ 0) || decide (rd a 9 1 ∉ [4, 6]) || (decide (rd a 9 1 = 4) && decide (rd a 20 12 ≠ 0))

/-- The fixed-size items of a section. -/
def items (size : Nat) (b : List Byte) : List (List Byte) := chunks size (b.length / size) b

/-- An image whose form has been checked. -/
def readImage (b : List Byte) : Image :=
  let map := sectionBytes b 2
  { bytes := b, sequence := BitVec.ofNat 64 (rd b 0x10 8), signer := BitVec.ofNat 384 (beNat ((b.drop 0x20).take 48))
    entries := (items 128 (sectionBytes b 1)).map readEncl, lens := (List.range 4).map fun k => rd map k 1
    members := (items 32 (map.drop 16)).map readMember, mapBytes := map
    addrs := (items 32 (sectionBytes b 3)).map readAddr, addrBytes := sectionBytes b 3 }

/-- Two sections overlap. -/
def Section.meets (a b : Section) : Bool := rangesMeet a.off a.len b.off b.len

/-- No two of a list are related. -/
def pairsFree {α : Type} (r : α → α → Bool) : List α → Bool
  | [] => true
  | a :: l => l.all (fun b => !r a b) && pairsFree r l

/-- The numbers never fall. -/
def rises : List Nat → Bool
  | a :: b :: l => decide (a ≤ b) && rises (b :: l)
  | _ => true

/-- Check 1 of R325. -/
def imageFormBad (b : List Byte) : Bool :=
  let w := rd b
  let ss := sections b
  let one := sectionBytes b 1
  let two := sectionBytes b 2
  let three := sectionBytes b 3
  decide (b.length < 560) || decide (1048576 < b.length) || decide (b.length % 8 ≠ 0) || decide (bits (w 0 8) 7 0 ≠ 1)
    || decide (sectionCount b ∉ [2, 3]) || decide (w 0 8 / 65536 ≠ 0) || decide (w 8 8 ≠ b.length) || decide (w 0x10 8 = 0)
    || decide (w 0x18 8 ≠ 0) || decide (w 0x50 48 ≠ 0)
    || ss.any (fun x => x.resv || decide (x.typ ∉ [1, 2, 3]) || decide (x.off % 64 ≠ 0) || decide (x.off < 128 + 16 * ss.length)
      || decide (b.length < x.off + x.len + 96))
    || !pairsFree (fun x y => x.meets y || decide (x.typ = y.typ)) ss
    || !([1, 2].all fun t => ss.any fun x => decide (x.typ = t))
    || decide (one.length % 128 ≠ 0) || decide (8192 < one.length) || (items 128 one).any enclResv
    || !rises ((items 128 one).map fun e => (readEncl e).index)
    || decide (two.length ≠ 16 + 32 * rd two 4 2) || decide (rd two 6 10 ≠ 0) || (items 32 (two.drop 16)).any memberResv
    || decide (three.length % 32 ≠ 0) || (items 32 three).any addrResv

/-! Checks 6 to 12 (R325) -/

/-- The kind of a member's port. -/
def Member.kind (m : Member) (n : Nat) : Nat := bits m.kinds (2 * n + 1) (2 * n)

/-- The size of the cluster. -/
def Image.size (i : Image) : Nat := i.lens.foldl (· * ·) 1

/-- A port whose kind its axis does not allow. -/
def Image.kindBad (i : Image) (m : Member) (n : Nat) : Bool :=
  if i.lens.getD (portAxis n) 1 = 1 then decide (m.kind n ∉ [0, kindStorage]) else decide (m.kind n ∉ [kindDirect, kindSwitched])

/-- The chassis and ORD chain of a module: a fact of the installation, not of the map (R40, log 58). -/
def Fuse.chainOf (f : Fuse) (serial : W64) : Nat := ((f.chains.find? fun c => decide (c.1 = serial)).map Prod.snd).getD 0

/-- Two modules of one node sit in different chassis or on different ORD chains (R40). -/
def Image.nodeSplit (i : Image) (f : Fuse) : Bool :=
  i.members.any fun m => i.members.any fun q => decide (q.node = m.node) && decide (f.chainOf q.serial ≠ f.chainOf m.serial)

/-- Check 6: the torus. -/
def Image.torusBad (i : Image) (s : State) : Bool :=
  i.lens.any (fun l => decide (l < 1) || decide (16 < l)) || decide (i.size < 8) || decide (1024 < i.size)
    || decide (i.members.length ≠ i.size)
    || i.members.any (fun m => (List.range 4).any fun a => decide (i.lens.getD a 1 ≤ m.coord a))
    || !pairsFree (fun m q => decide (m.serial = q.serial) || (List.range 4).all fun a => decide (m.coord a = q.coord a)) i.members
    || i.members.any (fun m => decide (8 < (i.members.filter fun q => decide (q.node = m.node)).length))
    || i.members.any (fun m => (List.range 16).any fun n => i.kindBad m n
      || (decide (m.kind n = kindSwitched) && !i.addrs.any fun a => decide (a.serial = m.serial) && decide (a.port = n)))
    || i.nodeSplit s.fuse

/-- Pages of a pool that carve-outs may take: fitted less reserved and retired. -/
def State.poolCap (s : State) (p : Pool) : Nat :=
  p.size s - ((s.tiers.lost.filter (p.has s)).length + if p = .package then Config.reservedPages else 0)

/-- Check 7. -/
def Image.overCapacity (i : Image) (s : State) : Bool :=
  (((List.range 8).map Pool.near) ++ [Pool.package, Pool.board]).any fun p => decide (s.poolCap p < (i.entries.map fun e => p.carve e).sum)

/-- Two entries that share a resource of ranges, or an index. -/
def EnclEntry.shares (a b : EnclEntry) : Bool :=
  decide (a.index = b.index) || rangesMeet a.ctxBase a.ctxCount b.ctxBase b.ctxCount
    || rangesMeet a.ctrBase a.ctrCount b.ctrBase b.ctrCount || rangesMeet a.winBase a.winCount b.winBase b.winCount
    || rangesMeet a.queueBase a.queueCount b.queueBase b.queueCount || rangesMeet a.connBase a.connCount b.connBase b.connCount
    || rangesMeet a.cconnBase a.cconnCount b.cconnBase b.cconnCount || rangesMeet a.connBase a.connCount b.cconnBase b.cconnCount
    || rangesMeet a.cconnBase a.cconnCount b.connBase b.connCount

/-- A range beyond the device, or an entry whose two connection ranges meet. -/
def EnclEntry.beyond (e : EnclEntry) : Bool :=
  decide (Config.ctxSlots < e.ctxBase + e.ctxCount) || decide (Config.counters < e.ctrBase + e.ctrCount)
    || decide (Config.dwtWindows < e.winBase + e.winCount) || decide (Config.dwtQueues < e.queueBase + e.queueCount)
    || decide (Config.dwtConns < e.connBase + e.connCount) || decide (Config.dwtConns < e.cconnBase + e.cconnCount)
    || rangesMeet e.connBase e.connCount e.cconnBase e.cconnCount

/-- Check 8. -/
def Image.overlap (i : Image) : Bool := i.entries.any EnclEntry.beyond || !pairsFree EnclEntry.shares i.entries

/-- A core that one of two entries dedicates and the other names. -/
def EnclEntry.coreClash (a b : EnclEntry) : Bool :=
  (List.range 8).any fun n =>
    (bit a.dedicatedCores n && (bit b.dedicatedCores n || bit b.sharedCores n)) || (bit b.dedicatedCores n && bit a.sharedCores n)

/-- Check 9. -/
def Image.coreConflict (i : Image) (s : State) : Bool :=
  !pairsFree EnclEntry.coreClash i.entries
    || i.entries.any fun e => (e.fixedShare && decide (e.sharedCores ≠ 0))
      || (List.range 8).any fun n => (bit e.dedicatedCores n && bit e.sharedCores n)
        || (bit s.rcv.coresRetired n && (bit e.dedicatedCores n || bit e.sharedCores n))

/-- The five key slots of an entry. -/
def EnclEntry.slots (e : EnclEntry) : List Nat := [e.pkgSlot, e.brdSlot, e.dwtSlot, e.hostSlot, e.logSlot]

/-- Check 10. -/
def Image.keySlotBad (i : Image) : Bool := !pairsFree (fun a b => decide (a = b)) (i.entries.flatMap EnclEntry.slots)

/-- Check 11. -/
def Image.sharesBad (i : Image) : Bool :=
  let fixed := i.entries.filter (·.fixedShare)
  i.entries.any (fun e => decide (e.fabricWeight = 0)) || decide (256 < (fixed.map (·.fabricWeight)).sum)
    || (List.range 16).any fun n => decide (256 < (fixed.map fun e => e.portWeight.getD n 0).sum)

/-- Checks 2 and 3: a registered key of that hash, and whether the signature verifies under it. -/
def State.signerKey (s : State) (i : Image) : Option (BitVec 768) :=
  s.mgt.store.opKeys.find? fun k => decide (Config.sha384 (beBytes 96 k.toNat) = i.signer)

/-- Check 4. -/
def Image.rollsBack (i : Image) (active : Option Image) : Bool :=
  match active with
  | none => false
  | some a => !(decide (a.sequence < i.sequence)
      || (decide (a.sequence = i.sequence) && decide (Config.sha384 a.bytes = Config.sha384 i.bytes)))

/-- Checks 1 to 11 in their order; `signer` is the key that the signature was made with. -/
def imageChecks (b : List Byte) (signer : Option (BitVec 768)) (active : Option Image) (s : State) : Option Nat :=
  if imageFormBad b then some 0x10
  else
    let i := readImage b
    firstOf [
      ((s.signerKey i).isNone, 0x11),
      (signer.isSome && decide (s.signerKey i ≠ signer), 0x12),
      (i.rollsBack active, 0x13),
      (!i.members.any (fun m => decide (m.serial = s.fuse.serial)), 0x14),
      (i.torusBad s, 0x15), (i.overCapacity s, 0x16), (i.overlap, 0x17), (i.coreConflict s, 0x18), (i.keySlotBad, 0x19),
      (i.sharesBad, 0x1A)]

/-! Affected enclosures (R326) -/

def Image.entryOf (i : Image) (k : Nat) : Option EnclEntry := i.entries.find? fun e => decide (e.index = k)

/-- The active image's view of an enclosure. -/
def oldEntry (active : Option Image) (k : Nat) : Option EnclEntry := active.bind fun i => i.entryOf k

/-- The enclosures that a load affects. -/
def Image.affected (i : Image) (active : Option Image) : List Nat :=
  let all := match active with
    | some a => decide (a.mapBytes ≠ i.mapBytes) || decide (a.addrBytes ≠ i.addrBytes)
    | none => true
  (List.range Config.enclosures).filter fun k =>
    let old : Option (List Byte) := (oldEntry active k).map (·.raw)
    let new : Option (List Byte) := (i.entryOf k).map (·.raw)
    decide (old ≠ new) || (all && (old.isSome || new.isSome))

/-- Check 12. -/
def State.busyEncl (s : State) (ks : List Nat) : Bool :=
  ks.any fun k => match oldEntry s.sec.image k with
    | some e => !s.enclEmpty e
    | none => false

/-! Enclosure states and keys (R318, R331, R334) -/

/-- The five slots of an entry are empty. -/
def dropKeys (e : EnclEntry) (s : State) : State :=
  { s with sec := { s.sec with keySlots := e.slots.foldl Tbl.drop s.sec.keySlots } }

/-- A new import private key, a free value of 384 bits. -/
def State.freshPriv (s : State) : Nat := ((List.range 6).map fun i => at_ (Config.freeWord (s.fresh + i)).toNat (64 * i)).sum

/-- The enclosure waits for a root key, with a new import key pair; KEY_EPOCH stays. -/
def awaitKey (e : EnclEntry) (s : State) : State :=
  let k : Encl := { st := .awaitingKey, entry := e, epoch := (s.encl e.index).epoch, importPriv := some s.freshPriv }
  (s.setEncl e.index k).drawn 6

/-- The characters of a label. -/
def label (t : String) : List Byte := t.toList.map fun c => BitVec.ofNat 8 c.toNat

def State.serialBytes (s : State) : List Byte := beBytes 8 s.fuse.serial.toNat

/-- An enclosure key of R333 as a number; `own` says that the info names the module and the enclosure. -/
def State.enclKey (s : State) (k : Nat) (trk : BitVec 256) (name : String) (own : Bool) (n : Nat) : Nat :=
  Config.hkdf384 [] (beBytes 32 trk.toNat) (label name ++ if own then s.serialBytes ++ beBytes 1 k else []) n

/-- The slots filled from the root key (R333). -/
def fillKeys (e : EnclEntry) (trk : BitVec 256) (s : State) : State :=
  let key := s.enclKey e.index trk
  let put := fun (t : Tbl (Option Nat)) (p : Nat × Nat) => Tbl.put t p.1 (some p.2)
  let keys := [(e.pkgSlot, key "TV8-PKG-1" true 64), (e.brdSlot, key "TV8-BRD-1" true 64), (e.dwtSlot, key "TV8-DWT-1" false 32),
    (e.hostSlot, key "TV8-HOST-1" true 32), (e.logSlot, key "TV8-LOG-1" true 32)]
  { s with sec := { s.sec with keySlots := keys.foldl put s.sec.keySlots } }

/-- The measurements of an enclosure's address spaces, and LAST_IN with them, start again when it enters ACTIVE
(R343, R442). -/
def zeroMeas (e : EnclEntry) (s : State) : State :=
  { s with ctxs := s.ctxs.map fun p => if e.ownsSlot p.1 then (p.1, { p.2 with importMeas := 0, lastIn := 0 }) else p }

/-- The enclosure is ACTIVE under a root key. -/
def activate (e : EnclEntry) (trk : BitVec 256) (persist : Bool) (epoch : W32) (pubs : Tbl (BitVec 768)) (pubSeq : Option W64)
    (s : State) : State :=
  let k : Encl := { st := .active, entry := e, trk := some trk, persist := persist, epoch := epoch, pubs := pubs, pubSeq := pubSeq }
  zeroMeas e (fillKeys e trk (s.setEncl e.index k))

/-- The hash of an entry that a sealing key depends on (R335). -/
def EnclEntry.hash (e : EnclEntry) : BitVec 384 := Config.sha384 e.raw

/-- The sealed key of an enclosure is deleted. -/
def unsealKey (k : Nat) (t : Store) : Store := { t with sealedKeys := t.sealedKeys.filter fun x => decide (x.index ≠ k) }

/-- The sealed key of an enclosure is kept. -/
def sealKey (x : SealedKey) (t : Store) : Store := { unsealKey x.index t with sealedKeys := (unsealKey x.index t).sealedKeys ++ [x] }

/-- What R335 keeps of an enclosure. -/
def State.sealedOf (s : State) (k : Nat) : Option SealedKey :=
  let e := s.encl k
  e.trk.map fun trk => { index := k, entryHash := e.entry.hash, fw := s.fwMeasure, trk := trk, epoch := e.epoch, pubs := e.pubs, pubSeq := e.pubSeq }

/-! Tiers at rest (R338) -/

/-- The tweak of a line: its physical address within its tier, under 0b01 for package and 0b10 for board. -/
def lineTweak (line : Nat) : Nat :=
  if line / 32768 < boardBase then line * 64 - packageBase * Config.pageBytes + 2 ^ 62
  else line * 64 - boardBase * Config.pageBytes + 2 ^ 63

/-- What the DRAM holds of a line. `Tiers.mem` is what the tier controllers decrypt it to (log 11); the near tier has no cipher
(R339), and a page that no enclosure has held since it was zero-filled has no key. -/
def State.storedLine (s : State) (line : Nat) : List Byte :=
  let b := s.physRead (line * 64) 64
  match s.pageKey (line / 32768) with
  | some key => Config.xtsSeal key (lineTweak line) b
  | none => b

/-! Applying an image (R326, R328, R329, R310) -/

/-- A port under the cluster map: its kind, and power where the map marks it and its reference clock runs. -/
def setPort (m : Option Member) (s : State) (n : Nat) : State :=
  let p := s.net n
  let kind : Nat := (m.map fun q => q.kind n).getD 0
  let on := decide (kind ≠ 0) && !p.retired && Tbl.get false s.modl.sdClk (portAxis n)
  if p.kind = kind ∧ p.powered = on then s
  else s.setNet n { p.fall with kind := kind, powered := on, txq := [], credits := [], sending := none }

def setPorts (s : State) : State := (List.range 16).foldl (setPort s.self) s

/-- The LCK fields as they stand (R329). -/
def State.lckNow (s : State) : LckRec :=
  { ideRequired := s.hif.ideRequired, udpPort := s.dwt.udpPort, policyHalt := s.col.policyHalt
    nets := (List.range 16).map fun n => (n, (s.net n).cfg) }

/-- Every load locks the port domains and the hub (R328). -/
def lockAll (s : State) : State :=
  let s1 := (List.range 16).foldl (fun u n => u.setNet n { u.net n with locked := true }) s
  { s1 with hif := { s1.hif with ideLocked := true }, dwt := { s1.dwt with udpLocked := true }, col := { s1.col with policyLocked := true } }

/-- The recorded values written back into the LCK fields (R329); where none were recorded the fields stay. -/
def writeBackPort (s : State) (n : Nat) : State :=
  s.setNet n { s.net n with cfg := (Tbl.look s.mgt.store.lck.nets n).getD (s.net n).cfg }

def writeBackHub (s : State) : State :=
  let l := s.mgt.store.lck
  { s with hif := { s.hif with ideRequired := l.ideRequired }, dwt := { s.dwt with udpPort := l.udpPort }
           col := { s.col with policyHalt := l.policyHalt } }

/-- The windows of an entry's range are CLOSED with generation 0: its image loads (R245). -/
def clearWins (e : EnclEntry) (s : State) : State :=
  { s with dwt := { s.dwt with wins := s.dwt.wins.filter fun p => !inRange p.1 e.winBase e.winCount } }

/-- An affected enclosure enters RESETTING: its key slots and publisher keys are empty (R326). -/
def enterReset (s : State) (k : Nat) : State :=
  let s1 := match oldEntry s.sec.image k with
    | some e => dropKeys e s
    | none => s
  s1.setEncl k { st := .resetting, entry := (s1.encl k).entry, epoch := (s1.encl k).epoch }

/-- Step 1 of R326: every affected enclosure is in RESETTING, and its sealed key is deleted. -/
def startLoad (ks : List Nat) (s : State) : State :=
  let s1 := ks.foldl enterReset s
  if s1.mgt.store.sealedKeys.any fun x => decide (x.index ∈ ks) then devStore (fun t => ks.foldl (fun u k => unsealKey k u) t) s1 else s1

/-- The enclosure leaves its old entry: keys, windows and near pages. -/
def leaveEncl (s : State) (k : Nat) : State :=
  match oldEntry s.sec.image k with
  | none => s
  | some e =>
    let mine := (s.tiers.tags.filter fun p => decide (p.2 = k)).map Prod.fst
    let s1 := mine.foldl State.zeroFrame (clearWins e (dropKeys e s))
    let s2 := { s1 with tiers := { s1.tiers with tags := s1.tiers.tags.filter fun p => decide (p.2 ≠ k) } }
    s2.setEncl k { epoch := (s2.encl k).epoch }

/-- Every page that no address space maps is zero-filled, but for the reserved region: what changes its owner holds nothing
(R326). -/
def zeroUnused (s : State) : State :=
  let held := fun f => decide (f ∈ s.usedFrames) || (decide (packageBase ≤ f) && decide (f < packageBase + Config.reservedPages))
  { s with tiers := { s.tiers with
      mem := s.tiers.mem.filter fun p => held (p.1 / Config.pageBytes)
      poison := s.tiers.poison.filter fun l => held (l / 32768)
      latent := s.tiers.latent.filter fun e => held (e.line / 32768)
      leftKeys := s.tiers.leftKeys.filter fun p => held p.1 } }

/-- Each affected enclosure that is present waits for its key. -/
def enterEncl (i : Image) (s : State) (k : Nat) : State :=
  match i.entryOf k with
  | some e => awaitKey e (clearWins e s)
  | none => s

/-- While an enclosure is FIXED_SHARE no port runs on shed lanes: those that do return to their width (R353, R354). -/
def unshedPorts (s : State) : State := if s.fixedShare then (List.range 16).foldl (fun u n => unshed n u) s else s

/-- Steps 2 to 6 of the load of an image that passed every check (R326): `keep` writes it to the settings store. -/
def applyImage (i : Image) (ks : List Nat) (keep : Bool) (s : State) : State :=
  let s1 := zeroUnused (ks.foldl leaveEncl s)
  let s2 := if keep then devStore (fun t => { t with image := some i, lck := s1.lckNow }) s1 else s1
  let s3 := { s2 with sec := { s2.sec with image := some i } }
  unshedPorts (followShares (lockAll (setPorts (ks.foldl (enterEncl i) s3))))

/-- No image: no enclosures, and every port down (R327, R330). -/
def dropImage (s : State) : State :=
  let ks := (s.entries.map (·.index))
  let s1 := ks.foldl leaveEncl s
  followShares (setPorts { s1 with sec := { s1.sec with image := none } })

end Sys2Proof.Machine
end

