-- ==== Sys2Proof/Machine/Security.lean ====
section
/-! DEFINITION. Security requests, reports and the module identity record (11 R330 to R356, 13 R407, R408). -/

namespace Sys2Proof.Machine

/-! Statuses of R356 -/

def secReserved : Nat := 0x1
def secBadAddr : Nat := 0x2
def secOutShort : Nat := 0x3
def imgEnclBusy : Nat := 0x1B
def encKeyPresent : Nat := 0x21
def keyBadBlob : Nat := 0x23
def keyBadAuth : Nat := 0x24
def keyStaleSeq : Nat := 0x25
def opkeyBadSignature : Nat := 0x30
def opkeyFull : Nat := 0x31
def opkeyLast : Nat := 0x32
def opkeyInUse : Nat := 0x33
def opkeyStaleSeq : Nat := 0x34
def attNoKey : Nat := 0x40
def attNoContext : Nat := 0x41

/-! Identity (R407, R408) -/

/-- The ordering code, zero-padded to 16 bytes (R1). -/
def State.orderingCode (s : State) : List Byte := padTo 0#8 16 (label (if s.fuse.ordering = 0 then "TV8-1408-AC" else "TV8-896-AC"))

/-- Pages of a pool fitted less retired (R2). -/
def State.poolLeft (s : State) (p : Pool) : Nat := p.size s - (s.tiers.lost.filter (p.has s)).length

def State.nearLeft (s : State) : Nat := ((List.range 8).map fun n => s.poolLeft (.near n)).sum

/-- The 128-byte module identity record. -/
def State.identity (s : State) : List Byte :=
  let f := s.fuse
  leBytes 8 f.serial.toNat ++ s.orderingCode
    ++ leBytes 8 (s.boardPages + at_ (s.poolLeft .board) 20 + at_ (if f.ordering = 0 then 0xFFFF else 0xFF) 40)
    ++ leBytes 4 (f.year % 65536 + at_ (f.week % 256) 16) ++ leBytes 4 0
    ++ dieBytes f.dies ++ leBytes 8 0

/-! Reports (R345) -/

def enclCode : EnclState → Nat
  | .absent => 0 | .awaitingKey => 1 | .active => 2 | .resetting => 3 | .eclipse => 4

def keyBytes (k : BitVec 768) : List Byte := beBytes 96 k.toNat

/-- The publisher slots as a report hashes them. -/
def Encl.pubBytes (e : Encl) : List Byte := (List.range 16).flatMap fun k => keyBytes (Tbl.get 0 e.pubs k)

/-- Bytes 0x000 to 0x127 of a report: what every kind states. -/
def State.reportDevice (s : State) (kind : Nat) (nonce : BitVec 384) : List Byte :=
  let image := s.sec.image
  leBytes 8 (1 + at_ kind 8 + at_ 864 16) ++ leBytes 8 s.fuse.serial.toNat ++ s.orderingCode
    ++ leBytes 8 (s.nearLeft + at_ (s.poolLeft .package) 20 + at_ (s.poolLeft .board) 40)
    ++ leBytes 8 (s.mgt.store.rollback % 2 ^ 32 + at_ (b2n s.fuse.production) 32)
    ++ digestBytes nonce ++ digestBytes s.fwMeasure
    ++ digestBytes ((image.map fun i => Config.sha384 i.bytes).getD 0) ++ digestBytes ((image.map (·.signer)).getD 0)
    ++ digestBytes (Config.sha384 s.identity) ++ leBytes 8 ((image.map (·.sequence.toNat)).getD 0)

/-- Bytes 0x128 to 0x24F: the enclosure's part. -/
def State.reportEncl (s : State) (k : Nat) : List Byte :=
  let e := s.encl k
  let sealed_ := s.mgt.store.sealedKeys.any fun x => decide (x.index = k)
  let eik : BitVec 768 := match e.st, e.importPriv with
    | .awaitingKey, some p => Config.p384Public p
    | _, _ => 0
  let kcv := match e.st, e.trk with
    | .active, some t => beBytes 16 (s.enclKey k t "TV8-KCV-1" false 16)
    | _, _ => List.replicate 16 0#8
  leBytes 8 (k + at_ (enclCode e.st) 8 + at_ (b2n sealed_) 12 + at_ e.epoch.toNat 32) ++ padTo 0#8 128 (s.entry k).raw
    ++ keyBytes eik ++ kcv ++ digestBytes (Config.sha384 e.pubBytes)

/-- Bytes 0x250 to 0x2EF: the context's part. -/
def State.reportCtx (s : State) (slot : Nat) : List Byte :=
  let c := s.ctx slot
  leBytes 8 (slot + at_ (ctxCode c.st) 12) ++ digestBytes c.descMeas ++ digestBytes c.importMeas ++ digestBytes (s.cfgDigest slot)
    ++ leBytes 8 (c.desc.stepBase + c.s).toNat

/-- The 864 bytes of a report, signed by the device attestation key. -/
def State.report864 (s : State) (kind k slot : Nat) (nonce : BitVec 384) : List Byte :=
  let body := s.reportDevice kind nonce ++ (if 2 ≤ kind then s.reportEncl k else List.replicate 296 0#8)
    ++ (if kind = 3 then s.reportCtx slot else List.replicate 160 0#8) ++ List.replicate 16 0#8
  body ++ keyBytes (Config.ecdsaSign s.sec.dak body)

/-! The request ring (R355) -/

/-- What a request does by itself: the state, its status and its output, and whether it completes later. -/
structure SecOut where
  s : State
  status : Nat := 0
  out : List Byte := []
  later : Bool := false
  deriving DecidableEq, Repr

/-- Whether the device takes a request now. -/
def State.takesReq (s : State) : Bool :=
  s.sec.ready && s.sec.busy.isNone && s.hif.linkUp && decide (0 < s.sec.ringEntries) && decide (s.sec.head ≠ s.sec.tail)

/-- The descriptor at the head of the ring as it is now. -/
def Sec.headPlace (c : Sec) : ReqPlace := ⟨c.ringBase, c.ringEntries, c.head⟩

/-- The host address of a descriptor. -/
def ReqPlace.addr (w : ReqPlace) : Nat := w.base + 64 * w.index

/-- The request of descriptor `w` completes: its output, STATUS, OUT_WRITTEN and DONE in host memory, the head and the vector.
The descriptor and the ring are those it began in (R301). -/
def finishAt (w : ReqPlace) (r : SecReq) (o : SecOut) : State :=
  let a := w.addr
  let s0 := if o.out.isEmpty then o.s else o.s.emit (.hostWrite r.outAddr.toNat o.out)
  let s1 := ((s0.emit (.hostWrite (a + 0x30) (leBytes 2 o.status))).emit (.hostWrite (a + 0x34) (leBytes 4 o.out.length))).emit
    (.hostWrite (a + 0x38) (leBytes 1 1))
  State.msix { s1 with sec := { s1.sec with head := (w.index + 1) % w.entries } } 0 1

/-- The request at the head of the ring completes. -/
def finishReq (r : SecReq) (o : SecOut) : State := finishAt o.s.sec.headPlace r o

/-- A request goes on after its row, in the descriptor that it was taken from. -/
def holdReq (b : SecBusy) (s : State) : State := { s with sec := { s.sec with busy := some b, place := s.sec.headPlace } }

/-- The end of a request, unless it completes later. -/
def endReq (r : SecReq) (o : SecOut) : State := if o.later then o.s else finishReq r o

/-- A LOAD_IMAGE that runs completes: steps 2 to 7 of R326. -/
def endLoad (s : State) : State :=
  match s.sec.busy with
  | some (.load r image ks) =>
    finishAt s.sec.place r ⟨applyImage (readImage image) ks true { s with sec := { s.sec with busy := none } }, 0, [], false⟩
  | _ => s

/-- One request: it waits for a LOAD_IMAGE before it, then the descriptor's checks in the order of R356, then its own.
`refused` is what a refusal by those checks does beside its status. -/
def secRequest (r : SecReq) (inOk : Bool) (outNeed : Nat) (serves : Bool) (own : State → SecOut) (s0 : State)
    (refused : State → State := id) : State :=
  let s := endLoad s0
  if !s.takesReq then s0
  else match firstOf [(!r.resvOk, secReserved), (!r.addrOk || decide (r.outAddr.toNat % 64 ≠ 0) || !inOk, secBadAddr), (decide (r.outLen < outNeed), secOutShort),
      (s.rcv.outOfService && !serves, encAbsent)] with
    | some k => s.close (finishReq r ⟨refused s, k, [], false⟩)
    | none => s.close (endReq r (own s))

/-- A certificate of the chain, preceded by its length. -/
def framed (c : List Byte) : List Byte := leBytes 4 c.length ++ c

/-- The chain of R344, leaf first. -/
def State.certChain (s : State) : List Byte :=
  framed (Config.deviceCert s.fuse.serial s.fuse.certKey) ++ framed Config.deviceCa ++ framed Config.rootCa

/-- GET_CERT_CHAIN (R344). -/
def execGetCertChain (r : SecReq) (s : State) : Host.Outcome State Fault Refusal :=
  .next (secRequest r (decide (r.inLen = 0)) s.certChain.length true (fun t => ⟨t, 0, t.certChain, false⟩) s)

/-- GET_REPORT (R346). -/
def getReport (r : SecReq) (kind slot : Nat) (nonce : BitVec 384) (s : State) : SecOut :=
  let k := r.encl.val
  let e := s.entry k
  match firstOf [
    (!s.sec.dakOk, attNoKey),
    (decide (2 ≤ kind) && decide ((s.encl k).st = .absent), encAbsent),
    (decide (kind = 3) && (!e.ownsSlot slot || decide ((s.ctx slot).st = .none)), attNoContext)] with
  | some c => ⟨s, c, [], false⟩
  | none => ⟨s, 0, s.report864 kind k slot nonce, false⟩

/-- GET_REPORT; KIND 0 names no report and counts as a reserved value. -/
def execGetReport (r : SecReq) (kind : BitVec 2) (slot : SlotId) (nonce : BitVec 384) (s : State) :
    Host.Outcome State Fault Refusal :=
  .next (secRequest { r with resvOk := r.resvOk && decide (kind ≠ 0) } (decide (r.inLen = 48)) 864 true
    (getReport r kind.toNat slot.val nonce) s)

/-- LOAD_IMAGE (R325, R326): `signer` is the key that the image's signature was made with. -/
def loadImage (r : SecReq) (image : List Byte) (signer : BitVec 768) (s : State) : SecOut :=
  match imageChecks image (some signer) s.sec.image s with
  | some k => ⟨s.errSec 0, k, [], false⟩
  | none =>
    let ks := (readImage image).affected s.sec.image
    if s.busyEncl ks then ⟨s.errSec 0, imgEnclBusy, [], false⟩
    else
      let t := startLoad ks s
      ⟨holdReq (.load r image ks) t, 0, [], true⟩

/-- LOAD_IMAGE: the checks and step 1; the request completes with the next tick, or before the next request (log 60). -/
def execLoadImage (r : SecReq) (image : List Byte) (signer : BitVec 768) (s : State) : Host.Outcome State Fault Refusal :=
  .next (secRequest r (decide (r.inLen = image.length)) 0 false (loadImage r image signer) s (State.errSec · 0))

/-- The status that an enclosure's state gives before a key request; `want` is the state it needs. -/
def State.enclStatus (s : State) (k : Nat) (want : EnclState) : Option Nat :=
  let st := (s.encl k).st
  firstOf [
    (decide (st = .absent), encAbsent),
    (decide (st = .resetting) || decide (st = .eclipse), encBusy),
    (decide (st = .active) && decide (want = .awaitingKey), encKeyPresent),
    (decide (st = .awaitingKey) && decide (want = .active), encNoKey)]

/-- Whether the blob opens under the enclosure's import key, and its form is right. -/
def State.blobOpens (s : State) (k : Nat) (b : ImportBlob) : Bool :=
  let e := s.encl k
  b.intact && !b.resv && decide (b.version = 1) && decide (e.importPriv.map Config.p384Public = some b.sealedTo)
    && decide (b.serial = s.fuse.serial) && decide (b.index = k)

/-- KEY_IMPORT (R334). -/
def keyImport (k : Nat) (b : ImportBlob) (s : State) : SecOut :=
  match s.enclStatus k .awaitingKey with
  | some c => ⟨s, c, [], false⟩
  | none =>
    if !s.blobOpens k b then ⟨s.errSec 2 k, keyBadBlob, [], false⟩
    else
      let s1 := activate (s.entry k) b.trk b.persist ((s.encl k).epoch + 1) [] none s
      match b.persist, s1.sealedOf k with
      | true, some x => ⟨devStore (sealKey x) s1, 0, [], false⟩
      | _, _ => ⟨s1, 0, [], false⟩

def execKeyImport (r : SecReq) (blob : ImportBlob) (s : State) : Host.Outcome State Fault Refusal :=
  .next (secRequest r (decide (r.inLen = 168)) 0 false (keyImport r.encl.val blob) s)

/-- The MAC of a request under the enclosure's request authentication key (R336, R337). -/
def State.reqMac (s : State) (k : Nat) (name : String) (rest : List Byte) : BitVec 384 :=
  let e := s.encl k
  let key := BitVec.ofNat 384 (s.enclKey k (e.trk.getD 0) "TV8-REQ-1" true 48)
  Config.hmac384 key (label name ++ s.serialBytes ++ beBytes 1 k ++ beBytes 8 e.epoch.toNat ++ rest)

/-- PUB_INSTALL (R337). -/
def pubInstall (k : Nat) (input : List Byte) (s : State) : SecOut :=
  let e := s.encl k
  let slot := rd input 0 1
  let seq := BitVec.ofNat 64 (rd input 8 8)
  let key := BitVec.ofNat 768 (beNat ((input.drop 0x10).take 96))
  let mac := BitVec.ofNat 384 (beNat ((input.drop 0x70).take 48))
  let stale := match e.pubSeq with
    | some n => decide (seq ≤ n)
    | none => false
  match s.enclStatus k .active with
  | some c => ⟨s, c, [], false⟩
  | none =>
    if rd input 1 7 ≠ 0 then ⟨s, secReserved, [], false⟩
    else if mac ≠ s.reqMac k "PUB" (input.take 0x70) then ⟨s.errSec 2 k, keyBadAuth, [], false⟩
    else if stale then ⟨s, keyStaleSeq, [], false⟩
    else if 16 ≤ slot ∨ (key ≠ 0 ∧ Config.p384Valid key = false) then ⟨s.errSec 2 k, keyBadBlob, [], false⟩
    else
      let s1 := s.setEncl k { e with pubs := Tbl.write 0 e.pubs slot key, pubSeq := some seq }
      match e.persist, s1.sealedOf k with
      | true, some x => ⟨devStore (sealKey x) s1, 0, [], false⟩
      | _, _ => ⟨s1, 0, [], false⟩

def execPubInstall (r : SecReq) (input : List Byte) (s : State) : Host.Outcome State Fault Refusal :=
  .next (secRequest r (decide (r.inLen = 160)) 0 false (pubInstall r.encl.val input) s)

/-! Operator keys (R330) -/

/-- The checks of the three requests: the signature, the sequence (a repeated OPKEY_ADD is stale, R356), the request's own. -/
def State.opkeyStatus (s : State) (seq : W64) (signer : BitVec 768) (own : List (Bool × Nat)) : Option Nat :=
  let t := s.mgt.store
  firstOf ([(!t.opKeys.isEmpty && decide (signer ∉ t.opKeys), opkeyBadSignature), (decide (seq ≤ t.opkeySeq), opkeyStaleSeq)] ++ own)

/-- A refusal for the signature sets REQ_AUTH_FAIL. -/
def opkeyRefuse (k : Nat) (s : State) : SecOut := ⟨if k = opkeyBadSignature then s.errSec 2 else s, k, [], false⟩

/-- OPKEY_ADD: a key that is held already is held once. -/
def opkeyAdd (seq : W64) (key signer : BitVec 768) (s : State) : SecOut :=
  match s.opkeyStatus seq signer [(decide (4 ≤ s.mgt.store.opKeys.length), opkeyFull)] with
  | some k => opkeyRefuse k s
  | none => ⟨devStore (fun t => { t with opKeys := insertNew key t.opKeys, opkeySeq := seq }) s, 0, [], false⟩

def execOpkeyAdd (r : SecReq) (seq : W64) (key signer : BitVec 768) (s : State) : Host.Outcome State Fault Refusal :=
  .next (secRequest r (decide (r.inLen = 200)) 0 false (opkeyAdd seq key signer) s)

/-- OPKEY_REMOVE. -/
def opkeyRemove (seq : W64) (key signer : BitVec 768) (s : State) : SecOut :=
  let inUse := match s.sec.image with
    | some i => decide (Config.sha384 (beBytes 96 key.toNat) = i.signer)
    | none => false
  match s.opkeyStatus seq signer [(decide (s.mgt.store.opKeys = [key]), opkeyLast), (inUse, opkeyInUse)] with
  | some k => opkeyRefuse k s
  | none => ⟨devStore (fun t => { t with opKeys := t.opKeys.filter fun x => decide (x ≠ key), opkeySeq := seq }) s, 0, [], false⟩

def execOpkeyRemove (r : SecReq) (seq : W64) (key signer : BitVec 768) (s : State) : Host.Outcome State Fault Refusal :=
  .next (secRequest r (decide (r.inLen = 200)) 0 false (opkeyRemove seq key signer) s)

/-- DECOMMISSION: the stored image, every sealed key, every operator key and OPKEY_SEQ go, and the device runs with no
enclosures. -/
def decommission (seq : W64) (signer : BitVec 768) (s : State) : SecOut :=
  match s.opkeyStatus seq signer [] with
  | some k => opkeyRefuse k s
  | none =>
    if s.entries.any fun e => !s.enclEmpty e then ⟨s, imgEnclBusy, [], false⟩
    else ⟨dropImage (devStore (fun t => { t with image := none, sealedKeys := [], opKeys := [], opkeySeq := 0 }) s), 0, [], false⟩

def execDecommission (r : SecReq) (seq : W64) (signer : BitVec 768) (s : State) : Host.Outcome State Fault Refusal :=
  .next (secRequest r (decide (r.inLen = 104)) 0 false (decommission seq signer) s)

/-! Power-up (R327, R335, R363) -/

/-- Whether a sealed key's derivation still holds. -/
def State.sealHolds (s : State) (x : SealedKey) : Bool :=
  match oldEntry s.sec.image x.index with
  | some e => decide (x.entryHash = e.hash) && decide (x.fw = s.fwMeasure)
  | none => false

/-- One sealed key: restored, or deleted and logged SEAL_STALE. -/
def restoreSealed (s : State) (x : SealedKey) : State :=
  if s.sealHolds x then activate (s.entry x.index) x.trk true x.epoch x.pubs x.pubSeq s
  else State.errSec (devStore (unsealKey x.index) s) 4 x.index

/-- Every frame of an enclosure's address spaces is zero-filled; its mappings stay. -/
def zeroEncl (s : State) (e : EnclEntry) : State :=
  ((s.tiers.pt.filter fun p => e.ownsSlot (p.1 / vpages)).map (·.2.frame)).foldl State.zeroFrame s

/-- Enclosures whose root key did not come back have their pages zero-filled (R363). -/
def zeroUnkeyed (s : State) : State := (s.entries.filter fun e => decide ((s.encl e.index).st ≠ .active)).foldl zeroEncl s

/-- No root key came back: every page is zero-filled, the mappings stay (R363). -/
def zeroTiers (s : State) : State := { s with tiers := { s.tiers with mem := [], poison := [], latent := [], leftKeys := [] } }

/-- The stored image is verified by checks 1 to 11 and loaded, and sealed keys are restored. -/
def loadStored (s : State) : State :=
  match s.mgt.store.image with
  | none => zeroTiers (dropImage s)
  | some i =>
    match imageChecks i.bytes none none s with
    | some _ => zeroTiers ((dropImage s).errSec 0)
    | none =>
      let s1 := applyImage i (i.entries.map (·.index)) false s
      zeroUnkeyed (s1.mgt.store.sealedKeys.foldl restoreSealed s1)

end Sys2Proof.Machine
end

