-- ==== Sys2Proof/Machine/Recovery.lean ====
section
/-! DEFINITION. The recovery controller: fencing and resets of the domains, watchdogs, engine faults and suspect
replays, escalation, and spare fills (12 R359, R362 to R377; 02 R78). -/

namespace Sys2Proof.Machine

/-! Fencing (R365) -/

/-- The loaded contexts that a domain's fencing affects. -/
def State.affected (s : State) : Domain → List Nat
  | .core n => ((s.core n.val).resident <|> (s.core n.val).shadow).toList
  | .port _ => []
  | .encl i => (s.ctxs.filter fun p => decide (p.2.st ≠ .none) && (s.entry i.val).ownsSlot p.1).map Prod.fst
  | .hub => (s.ctxs.filter fun p => decide (p.2.st ≠ .none)).map Prod.fst
  | .device => (s.ctxs.filter fun p => decide (p.2.st ≠ .none)).map Prod.fst

/-- The enclosures that a domain's fencing affects. -/
def State.affectedEncls (s : State) : Domain → List Nat
  | .encl i => [i.val]
  | .hub => s.entries.map (·.index)
  | .device => s.entries.map (·.index)
  | _ => []

/-- The cores of a domain: of an enclosure, those dedicated to it and those that run its contexts. -/
def State.domCores (s : State) : Domain → List Nat
  | .core n => [n.val]
  | .device => List.range 8
  | .encl i => (List.range 8).filter fun n =>
      bit (s.entry i.val).dedicatedCores n || ((s.core n).resident.any fun k => (s.entry i.val).ownsSlot k)
  | _ => []

def eclipseCtx (s : State) (slot : Nat) : State :=
  let c := s.ctx slot
  if c.st = .eclipse then s else s.setCtx slot { c with st := .eclipse, before := c.st }

def eclipseEncl (s : State) (i : Nat) : State :=
  let e := s.encl i
  if e.st = .absent ∨ e.st = .eclipse then s
  else s.setEncl i { e with st := .eclipse, before := if e.st = .resetting then e.before else e.st }

def eclipseCore (s : State) (n : Nat) : State :=
  let c := s.core n
  if c.state = .retired ∨ c.state = .eclipse then s else s.setCore n { c with state := .eclipse, before := c.state }

/-- A core whose eclipse ends is as before; one that has lost its context is IDLE. -/
def uncoverCore (s : State) (n : Nat) : State :=
  let c := s.core n
  if c.state ≠ .eclipse then s
  else s.setCore n { c with state := if c.before = .running ∧ c.resident = none ∧ c.shadow = none then .idle else c.before }

/-- The domain enters eclipse; `counts` says that an engine fault started its reset. -/
def fence (d : Domain) (counts : Bool) (s : State) : State :=
  let s1 := { s with rcv := { s.rcv with
    eclipse := insertNew d s.rcv.eclipse, counting := if counts then insertNew d s.rcv.counting else s.rcv.counting } }
  (s.domCores d).foldl eclipseCore ((s.affectedEncls d).foldl eclipseEncl ((s.affected d).foldl eclipseCtx s1))

/-- A context has an instruction in flight. -/
def State.inFlight (s : State) (slot : Nat) : Bool := !s.noFlights slot

/-- Slots with a doorbell page whose commands go to a domain. -/
def State.fencedPages (s : State) : Domain → List Nat
  | .encl i => (s.pages.filter fun p => (s.entry i.val).ownsSlot p.1).map Prod.fst
  | .hub => s.pages.map Prod.fst
  | .device => s.pages.map Prod.fst
  | _ => []

/-- Started DWT entries of a domain's queues. -/
def State.startedIn (s : State) (d : Domain) : Bool :=
  s.dwt.queues.any fun p => !p.2.started.isEmpty && (match d with
    | .encl i => inRange p.1 (s.entry i.val).queueBase (s.entry i.val).queueCount
    | .hub => true
    | .device => true
    | _ => false)

/-- A request that the domain has accepted and not completed. -/
def State.outstanding (s : State) (d : Domain) : Bool :=
  match d with
  | .port n => (s.net n.val).sending.isSome || !(s.net n.val).txq.isEmpty
  | _ => (s.affected d).any s.inFlight || (s.fencedPages d).any (fun k => !(s.page k).queue.isEmpty) || s.startedIn d

/-- What is still outstanding on a slot's page is answered FENCED. -/
def fencePage (s : State) (slot : Nat) : State :=
  let p := s.page slot
  p.queue.foldl (fun u x => u.addCpl slot (x.cpl statusFenced 0)) (s.setPage slot { p with queue := [] })

/-- A memory request of a stream is outstanding. -/
def State.memInFlight (s : State) (slot : Nat) : Bool :=
  (maskCores (s.ctx slot).desc.mask).any fun n => [StrmId.F, .B, .U].any fun x => ((s.coreCtx slot n).strm x).flights.any (·.mem)

/-- Step 4 of R365: postings are answered FENCED, and a stream whose memory request the hub or device held faults. -/
def answerFenced (d : Domain) (s : State) : State :=
  let s1 := (s.fencedPages d).foldl fencePage s
  match d with
  | .hub => (s1.affected d).foldl (fun u k => if u.memInFlight k then faultWhole k 0x302 "FENCED" u else u) s1
  | _ => s1

/-! The resets (R362) -/

/-- Core SRAM zeroed, pending spare maps applied, self-test started; counts of RWS registers stay. The resident
context is handled by R371. -/
def resetCore (n : Nat) (s : State) : State :=
  let c := (s.core n).applySpares
  if c.state = .retired then s
  else s.setCore n { c with live := {}, state := .idle, clock := s.runClock n, busyCycles := 0, cycles := 0, err := 0, busy := true
                            done := false, pass := false, firstFail := 0x1FF, failCount := 0, aged := [] }

/-- A port's link, sparing and degradation are cleared; counters and settings stay, unlocked. -/
def resetPort (n : Nat) (s : State) : State :=
  let p := s.net n
  s.setNet n { p.fall with sparePresent := false, degraded := false, txDegraded := false, credits := [], rxHealthy := 0xF, txSpare := none, rxSpare := none, txq := []
                           err := 0, locked := false, retrainDue := false, peerMac := none, peerId := 0 }

/-- The port relocked at once with its recorded values (R329). -/
def relockPort (n : Nat) (s : State) : State :=
  let t := writeBackPort s n
  t.setNet n { t.net n with locked := s.sec.image.isSome }

/-- Enclosure reset (R320): keys, publisher keys and KEY_EPOCH stay. The enclosure is in RESETTING while its pages are
zero-filled, until the next tick (log 60). -/
def resetEncl (i : Nat) (s : State) : State :=
  let t := (List.range 8).foldl uncoverCore (emptyEncl (s.entry i) s)
  let e := t.encl i
  if e.st = .absent then t else t.setEncl i { e with st := .resetting, before := if e.trk.isSome then .active else .awaitingKey }

/-- Zero-filling ends: every enclosure in RESETTING leaves it. -/
def endResetting (s : State) : State :=
  { s with sec := { s.sec with encls := s.sec.encls.map fun p =>
      if p.2.st = .resetting then (p.1, { p.2 with st := p.2.before }) else p } }

/-- Every moving page goes back to its one frame. -/
def dropMoves (s : State) : State :=
  let t := (s.tiers.pt.filterMap fun p => p.2.moving).foldl State.leaveFrame s
  { t with tiers := { t.tiers with moves := [], pt := t.tiers.pt.map fun p => (p.1, { p.2 with moving := none }) } }

/-! The end of a replay (R370) -/

/-- A core of a replay as it stood before; one that has been retired stays so. -/
def putCore (s : State) (p : Nat × Core) : State :=
  let k := s.core p.1
  if k.resident = some replaySlot then
    s.setCore p.1 { k with live := p.2.live, resident := p.2.resident, state := if k.state = .retired then k.state else p.2.state
                           clock := if p.2.clock = 0 then 0 else k.clock, shadow := p.2.shadow, aged := p.2.aged, key := p.2.key }
  else s

/-- A replay leaves nothing: its scratch pages are zero-filled, its address space, its counters and its streams go. -/
def dropReplay (s : State) : State :=
  match s.rcv.replay with
  | none => s
  | some r =>
    let pt := s.tiers.pt.filter fun p => decide (p.1 / vpages ≠ replaySlot)
    let s1 := r.scratch.foldl State.zeroFrame { s with tiers := { s.tiers with pt := pt } }
    let s2 := s1.clearCtrs replayCtrs (s.ctx replaySlot).desc.ctrCount
    r.cores.foldl putCore { s2 with ctxs := Tbl.drop s2.ctxs replaySlot, rcv := { s2.rcv with replay := none } }

/-- A replay that runs ends, with a result or without one when another fault arises. -/
def endReplay (res : Bool) (s : State) : State :=
  match s.rcv.replaying with
  | none => s
  | some (d, slot) =>
    let mark := fun x : Suspect => if x.dom = d ∧ x.slot = slot then { x with reproduced := some res } else x
    let t := dropReplay s
    { t with rcv := { t.rcv with replaying := none, suspects := t.rcv.suspects.map mark } }

/-- What the hub and device resets clear of the engines: connections, windows, queues, collectives, counters, page registers,
error flags and READY bits. A context opens its collective connections again at its next switch-in (log 35). RWS counts stay. -/
def clearHub (s : State) : State :=
  let t := dropMoves s
  { t with
    counters := [], pages := []
    ctxs := t.ctxs.map fun p => (p.1, { p.2 with colls := [], early := [], collOpened := false })
    tiers := { t.tiers with ready := false, err := 0, movesDone := 0 }
    dwt := { t.dwt with ready := false, err := 0, conns := [], queues := [], wins := t.dwt.wins.map fun p => (p.1, p.2.shut)
                        udpPort := 0xC301, udpLocked := false }
    col := { t.col with ready := false, err := 0, policyHalt := false, policyLocked := false }
    hif := { t.hif with ready := false, err := 0, statusHeld := [], ideRequired := true, ideLocked := false } }

/-- An image in force locks the hub's fields again with their recorded values, after a reset for an engine fault. -/
def relockHub (s : State) : State :=
  let t := writeBackHub s
  let on := s.sec.image.isSome
  { t with hif := { t.hif with ideLocked := on }, dwt := { t.dwt with udpLocked := on }, col := { t.col with policyLocked := on } }

/-- The enclosures that eclipse covered are as before. -/
def uncoverEncls (s : State) : State :=
  { s with sec := { s.sec with encls := s.sec.encls.map fun p => if p.2.st = .eclipse then (p.1, { p.2 with st := p.2.before }) else p } }

/-- Hub reset: every context FAULTED with HUB_RESET. -/
def resetHub (fault : Bool) (s : State) : State :=
  let s1 := (s.affected .hub).foldl (fun u k => faultWhole k 0x303 "HUB_RESET" u) s
  let s2 := (List.range 16).foldl (fun u n => resetPort n u) (clearHub s1)
  let s3 := uncoverEncls s2
  if fault then (List.range 16).foldl (fun u n => relockPort n u) (relockHub s3) else s3

/-- The near tier zeroed (R339, R362). -/
def zeroNear (s : State) : State :=
  { s with tiers := { s.tiers with
      mem := s.tiers.mem.filter fun p => decide (packageBase * Config.pageBytes ≤ p.1)
      poison := s.tiers.poison.filter fun l => decide (packageBase * 32768 ≤ l)
      latent := s.tiers.latent.filter fun e => decide (packageBase * 32768 ≤ e.line) } }

/-- An uncorrectable line in the reserved region, found before or by this read of it (R179, R363). -/
def State.tablesBad (s : State) : Bool :=
  (s.tiers.poison ++ (s.tiers.latent.filter (·.ue)).map (·.line)).any fun l =>
    decide (packageBase * 32768 ≤ l) && decide (l < (packageBase + Config.reservedPages) * 32768)

/-- Every tier zero-filled and every address space emptied. -/
def emptyTiers (s : State) : State :=
  { s with tiers := { s.tiers with mem := [], poison := [], latent := [], pt := [], tags := [], objs := [], wins := [], moves := [], leftKeys := [] } }

/-- A port as it stands before the image is loaded, its RWS fields kept; the prior comes from the settings store (R312). -/
def coldPort (serial : W64) (prior n : Nat) (p : Net) : Net :=
  { cfg := { mac := Config.fusedMac serial n }, retired := p.retired, threshold := p.threshold, prior := prior, counters := p.counters }

/-- A core before its self-test: what fuses, ledger, almanac and RWS fields keep. -/
def coldCore (ceiling planSteps voltage : Nat) (c : Core) (retired : Bool) : Core :=
  { state := if retired then .retired else .gated, ceiling := ceiling, planSteps := planSteps, osCe := c.osCe, accCe := c.accCe
    osSpares := c.osSpares, accSpares := c.accSpares, sparesUsed := c.sparesUsed, rowHits := c.rowHits, rowMarks := c.rowMarks
    auto := c.auto, spareMap := c.applySpares.spareMap, voltage := voltage, sincePlan := c.sincePlan }

/-- The ports and cores of a start. -/
def coldUnits (s : State) : State :=
  let nets := (List.range 16).map fun n => (n, coldPort s.fuse.serial s.mgt.store.settings.underrunPrior n (s.net n))
  let plan := fun n => Tbl.get 0 s.almanac.planSteps n
  let volt := fun n => Tbl.get (Tbl.get 0 s.fuse.voltage n) s.almanac.voltage n
  let cores := (List.range 8).map fun n =>
    (n, coldCore (Config.clockTop - 25 * plan n) (plan n) (volt n) (s.core n) (bit s.rcv.coresRetired n))
  { s with nets := nets, cores := cores }

/-- The management processor's RAM lost: numbering resumes at the stored reservation (R404). The event history of the
twilight domain and the NVM ring stay. -/
def coldMgt (m : Mgt) : Mgt :=
  { m with ready := false, awake := true, slot := 0xFF, working := m.store.settings, host := {}, i3c := {}, alert := 0, mask := 0x7E
           err := 0, ramLog := [], nextSeq := m.reserved, sensors := [], load := [], training := [], replanning := [] }

/-- What every start finds: the security engine and the recovery controller before they run, the power manager at its
reset values. -/
def coldRest (s : State) : State :=
  { s with
    sec := { tagFaults := s.sec.tagFaults, reserved := s.sec.reserved }
    rcv := { s.rcv with ready := false, eclipse := [], counting := [], suspects := [], replaying := none, replay := none, recentOut := [], err := 0 }
    mgt := coldMgt s.mgt
    power := { cap := s.mgt.store.settings.powerCap }
    hif := { inBytes := s.hif.inBytes, outBytes := s.hif.outBytes, linkCe := s.hif.linkCe, startCount := s.hif.startCount } }

/-- Device reset: every context unloaded, address spaces kept while the reserved region reads cleanly, the near tier
zeroed; the start-up sequence follows from T (R362, R363, R461). -/
def resetDevice (s : State) : State :=
  let s1 := (s.affected .device).foldl (fun u k => unloadNow k u) (endReplay false s)
  let lost := s1.tablesBad
  let s2 := if lost then emptyTiers s1 else zeroNear s1
  let s3 := coldRest (coldUnits (clearHub s2))
  let s4 := { s3 with modl := { s3.modl with phase := if s3.modl.pwrGood || s3.hubOut then .perst else s3.modl.phase, thermalStop := false } }
  (if lost then s4.errRcv 8 else s4).alertPin

/-! Escalation (R373, R374) -/

def tenMinutes : Nat := 600 * 32768

/-- The number of a domain in the history. -/
def domNum : Domain → Nat
  | .core n => n.val
  | .port n => 8 + n.val
  | .hub => 24
  | .device => 25
  | .encl _ => 26

/-- Counted resets of a domain within a span. -/
def State.countedIn (s : State) (dom span : Nat) : Nat :=
  (s.rcv.history.filter fun h => decide (h.dom = dom) && decide (s.ticks < h.tick + span)).length

/-- A counted reset joins the history, which keeps 24 hours. -/
def addCounted (dom : Nat) (s : State) : State :=
  { s with rcv := { s.rcv with history := (s.rcv.history.filter fun h => decide (s.ticks < h.tick + oneDay)) ++ [⟨dom, s.ticks⟩] } }

/-- OUT_OF_SERVICE is entered. -/
def outOfService (s : State) : State :=
  let s1 := devStore (fun t => { t with outOfService := true, dayResets := s.countedIn 25 oneDay }) { s with rcv := { s.rcv with outOfService := true } }
  s1.raiseAlert 6

/-- A counted device reset. -/
def countDevice (s : State) : State :=
  let t := countFailure (addCounted 25 s)
  if 6 ≤ t.countedIn 25 oneDay ∧ t.rcv.outOfService = false then outOfService t else t

/-- A counted reset of a domain, and what it escalates to. -/
def countReset (d : Domain) (s : State) : State :=
  let t := addCounted (domNum d) s
  let three := decide (3 ≤ t.countedIn (domNum d) tenMinutes)
  match d with
  | .core n => let u := countFailure t; if three then retireCore n.val u else u
  | .port n => if three then retirePort n.val t else t
  | .hub => let u := countFailure t; if three then countDevice (resetDevice u) else u
  | .device => countDevice s
  | .encl _ => s

/-! Suspects (R369 to R372) -/

/-- What each stream of a context has dispatched since its last meridian. -/
def State.dispatchCounts (s : State) (slot : Nat) : List Nat :=
  (maskCores (s.ctx slot).desc.mask).flatMap fun n =>
    [StrmId.F, .B, .U].map fun x => ((s.coreCtx slot n).strm x).dispatched

def State.suspect (s : State) (d : Domain) (fault : Bool) (res : Option Bool) (slot : Nat) : Suspect :=
  { slot := slot, dom := d, fault := fault, counts := s.dispatchCounts slot, ctrs := s.ctrsOf slot, reproduced := res }

/-- The suspects of a core: its resident, and what was switched in or out of it in the last 10 ms. -/
def State.coreSuspects (s : State) (n : Nat) : List Nat :=
  let recent := (s.rcv.recentOut.filter fun p => decide (p.1 = n) && decide (s.ticks ≤ p.2.2 + 328)).map (·.2.1)
  let all := (s.affected (.core (Fin.ofNat 8 n))) ++ recent
  ((s.ctxs.map Prod.fst).filter fun k => decide (k ∈ all) && decide ((s.ctx k).st ≠ .none))

/-- The contexts with an item on a hub engine. -/
def State.engineSuspects (s : State) (e : HubEngine) : List Nat :=
  (s.ctxs.filter fun p => decide (p.2.st ≠ .none) && (match e with
    | .transport => s.dwt.queues.any fun q => q.2.started.any fun t => decide (t.slot = p.1)
    | .collective => !p.2.colls.isEmpty
    | .tierManager => (s.page p.1).queue.any (fun x => !x.control) || s.tiers.moves.any fun m => decide (m.slot = p.1)
    | .security => false)).map Prod.fst

/-- The suspects of the hub where no engine is named. -/
def State.hubSuspects (s : State) : List Nat :=
  let all := [HubEngine.transport, .collective, .tierManager].flatMap s.engineSuspects
  (s.ctxs.map Prod.fst).filter fun k => decide (k ∈ all)

/-- Whether the step of a context can be undone (R370, R372, R380). -/
def Ctx.undoable (c : Ctx) : Bool :=
  match c.rcv.desc with
  | some d => decide (0 < d.undoPages) && !c.rcv.undoFull && !c.rcv.mCores.isEmpty
  | none => false

/-- A context resumes from its last meridian: pages, counters and streams as they stood there. -/
def resumeMeridian (slot : Nat) (s : State) : State :=
  let t := rollback slot s
  let put := fun (u : State) (n : Nat) => u.setCoreCtx slot n (Tbl.get {} (u.ctx slot).rcv.mCores n).resume
  let wake := fun (u : State) (n : Nat) =>
    if (u.core n).resident = some slot then u.setCore n ((u.core n).wakes (u.runClock n)) else u
  let u := (maskCores (t.ctx slot).desc.mask).foldl wake ((maskCores (t.ctx slot).desc.mask).foldl put t)
  u.setCtx slot { u.ctx slot with st := (u.ctx slot).before }

/-- A context whose resident core state the reset took: it resumes from its meridian, or it is lost. -/
def resumeLost (slot : Nat) (s : State) : State :=
  let c := s.ctx slot
  if c.st ≠ .eclipse then s
  else if c.before = .faulted then s.setCtx slot { c with st := .faulted }
  else if c.undoable && !c.rcv.touched then resumeMeridian slot s
  else faultWhole slot 0x304 "ENGINE_LOST" s

/-- A culprit is terminated. -/
def culprit (slot : Nat) (s : State) : State :=
  let s1 := s.errRcv 5 slot
  let c := s1.ctx slot
  if c.st = .faulted then
    let s2 := s1.setCtx slot { c with cause := 0x305, logSeq := BitVec.ofNat 64 s1.mgt.nextSeq }
    s2.logEv { s2.evCtx 2 0x40 slot with fields := [Config.faultNumber "CULPRIT"] }
  else faultWhole slot 0x305 "CULPRIT" s1

/-- One suspect after the replays. -/
def judge (s : State) (x : Suspect) : State :=
  if x.reproduced = some true then culprit x.slot s
  else match x.dom with
    | .core _ => resumeLost x.slot s
    | _ => s

/-- Whether a core's test still runs. -/
def State.domBusy (s : State) : Domain → Bool
  | .core n => (s.core n.val).busy
  | _ => false

/-- The core of a domain, as a log entry gives it. -/
def domCore : Domain → Nat
  | .core n => n.val
  | _ => 0xFF

/-- Once every suspect of a domain has a result: culprits are terminated, the others resume (R371). -/
def finishReplays (d : Domain) (s : State) : State :=
  let mine := s.rcv.suspects.filter fun x => decide (x.dom = d)
  if mine.isEmpty || mine.any (fun x => x.reproduced.isNone) || s.domBusy d then s
  else
    let s1 := mine.foldl judge { s with rcv := { s.rcv with suspects := s.rcv.suspects.filter fun x => decide (x.dom ≠ d) } }
    if mine.any (fun x => x.fault) && !mine.any (fun x => decide (x.reproduced = some true)) then s1.errRcv 4 (core := domCore d) else s1

/-! Starting and finishing a reset -/

/-- The domain's own reset. -/
def resetDomain (d : Domain) (fault : Bool) (s : State) : State :=
  match d with
  | .core n => resetCore n.val s
  | .port n => let t := resetPort n.val s; if fault then relockPort n.val t else t
  | .encl i => resetEncl i.val s
  | .hub => resetHub fault s
  | .device => resetDevice s

/-- The resident context of a core reset on request is an innocent suspect (R362, R371). -/
def operatorSuspects (d : Domain) (fault : Bool) (s : State) : List Suspect :=
  match d, fault with
  | .core _, false => (s.affected d).map (s.suspect d false (some false))
  | _, _ => []

/-- A KEY_ERASE whose enclosure has been reset: slots, publisher keys and the sealed key go, and the request completes
(R336). -/
def eraseEnds (k : Nat) (s : State) : State :=
  match s.sec.busy with
  | some (.erase r) =>
    if r.encl.val ≠ k then s
    else
      let e := s.entry k
      finishAt s.sec.place r ⟨awaitKey e (devStore (unsealKey k) (dropKeys e { s with sec := { s.sec with busy := none } })), 0, [], false⟩
  | _ => s

/-- Steps 4 and 5 of R365: what is outstanding is answered, and the domain resets and leaves eclipse. -/
def finishReset (d : Domain) (s : State) : State :=
  let fault := decide (d ∈ s.rcv.counting)
  let s1 := answerFenced d s
  let s2 := { s1 with rcv := { s1.rcv with suspects := s1.rcv.suspects ++ operatorSuspects d fault s1 } }
  let s3 := resetDomain d fault s2
  let s4 := { s3 with rcv := { s3.rcv with
    eclipse := s3.rcv.eclipse.filter fun x => decide (x ≠ d), counting := s3.rcv.counting.filter fun x => decide (x ≠ d) } }
  let s5 := if fault then countReset d s4 else s4
  let none_ := fault && (s5.rcv.suspects.filter fun x => decide (x.dom = d)).isEmpty
  finishReplays d (match d with
    | .core n => if none_ then s5.errRcv 4 (core := n.val) else s5
    | .hub => if none_ then s5.errRcv 4 else s5
    | .encl i => eraseEnds i.val s5
    | _ => s5)

/-- A domain that the running replay uses. -/
def State.replayIn (s : State) (d : Domain) : Bool :=
  s.replayed.any fun k => match d with
    | .core n => bit (s.ctx k).desc.mask n.val
    | .port _ => false
    | .encl i => decide (s.enclOfSlot k = some i.val)
    | .hub => true
    | .device => true

/-- A reset begins with fencing and ends at once where nothing is outstanding; else at DRAIN_EXPIRY. A replay that uses the domain
ends without a result (log 39). -/
def startReset (d : Domain) (fault : Bool) (s0 : State) : State :=
  let hit := s0.replayIn d
  let t := fence d fault (if hit then endReplay false s0 else s0)
  let u := if t.outstanding d then t else finishReset d t
  match s0.rcv.replaying with
  | some (e, _) => if hit && decide (e ≠ d) then finishReplays e u else u
  | none => u

/-- DRAIN_EXPIRY. -/
def execDrainExpiry (d : Domain) (s : State) : Host.Outcome State Fault Refusal :=
  .next (if d ∈ s.rcv.eclipse then s.close (finishReset d s) else s)

/-! KEY_ERASE (R336) -/

/-- An accepted erase begins with an enclosure reset, fenced as every reset is. -/
def keyErase (r : SecReq) (mac : BitVec 384) (s : State) : SecOut :=
  let k := r.encl.val
  match s.enclStatus k .active with
  | some c => ⟨s, c, [], false⟩
  | none =>
    if mac ≠ s.reqMac k "ERASE" [] then ⟨s.errSec 2 k, keyBadAuth, [], false⟩
    else ⟨startReset (.encl r.encl) false (holdReq (.erase r) s), 0, [], true⟩

/-- KEY_ERASE. -/
def execKeyErase (r : SecReq) (mac : BitVec 384) (s : State) : Host.Outcome State Fault Refusal :=
  .next (secRequest r (decide (r.inLen = 48)) 0 false (keyErase r mac) s)

/-! Operator resets -/

/-- A domain of the device that is in service. -/
def State.domThere (s : State) : Domain → Bool
  | .core n => !bit s.rcv.coresRetired n.val
  | .port n => !bit s.rcv.portsRetired n.val
  | .encl i => decide ((s.encl i.val).st ≠ .absent)
  | _ => true

/-- An operator's reset (R364, R390). -/
def operatorReset (d : Domain) (s : State) : State :=
  if s.rcv.ready && s.domThere d then startReset d false s else s

/-- CORE_RESET. -/
def execCoreReset (c : CoreId) (s : State) : Host.Outcome State Fault Refusal := .next (s.close (operatorReset (.core c) s))
/-- PORT_RESET. -/
def execPortReset (n : PortId) (s : State) : Host.Outcome State Fault Refusal := .next (s.close (operatorReset (.port n) s))
/-- ENCLOSURE_RESET. -/
def execEnclosureReset (i : EnclId) (s : State) : Host.Outcome State Fault Refusal := .next (s.close (operatorReset (.encl i) s))
/-- HUB_RESET. -/
def execHubReset (s : State) : Host.Outcome State Fault Refusal := .next (s.close (operatorReset .hub s))
/-- DEVICE_RESET. -/
def execDeviceReset (s : State) : Host.Outcome State Fault Refusal := .next (s.close (operatorReset .device s))

/-! Engine faults (R368 to R371) -/

/-- An engine fault of a domain with its suspects: the domain is fenced and reset, and each suspect waits for its
replay. A replay that runs ends without a result, in whichever domain the fault arises (R371); a context that is a suspect of the
domain already is recorded once. -/
def engineFault (d : Domain) (slots : List Nat) (s : State) : State :=
  if !s.domThere d then s
  else
    let s1 := endReplay false s
    let known := fun k => s1.rcv.suspects.any fun x => decide (x.dom = d) && decide (x.slot = k)
    let new := (slots.filter fun k => !known k).map (s1.suspect d true none)
    let s2 := startReset d true { s1 with rcv := { s1.rcv with suspects := s1.rcv.suspects ++ new } }
    match s.rcv.replaying with
    | some (e, _) => if e = d then s2 else finishReplays e s2
    | none => s2

/-- The engine fault of a domain where nothing else names the suspects. -/
def domainFault (d : Domain) (s : State) : State :=
  match d with
  | .core n => engineFault d ((endReplay false s).coreSuspects n.val) s
  | .port _ => engineFault d [] s
  | .hub => engineFault d (endReplay false s).hubSuspects s
  | .encl _ => s
  | .device => s

/-- ENGINE_FAULT: engines lie in cores, ports and the hub. -/
def execEngineFault (d : Domain) (s : State) : Host.Outcome State Fault Refusal := .next (s.close (domainFault d s))

/-- `n` transfers of a fabric link were retried. -/
def retried (n : Nat) (s : State) : State := { s with rcv := { s.rcv with fabricRetries := satAdd Config.sat64 s.rcv.fabricRetries n } }

/-- FABRIC_LINK_FAIL: the core domains at the core-die end, or the hub (R359). Of the 8 failed tries of the transfer 7 were
retries (log 59). -/
def execFabricLinkFail (c : CoreId) (hubToHub : Bool) (s : State) : Host.Outcome State Fault Refusal :=
  let s1 := (retried 7 s).errRcv 1 (core := if hubToHub then 0xFF else c.val)
  .next (s.close (if hubToHub then domainFault .hub s1
    else domainFault (.core (Fin.ofNat 8 (c.val / 2 * 2 + 1))) (domainFault (.core (Fin.ofNat 8 (c.val / 2 * 2))) s1)))

/-- Flights of a stream that a unit watchdog watches: MM, ACC and VEC work, on the execute side. -/
def State.unitInFlight (s : State) (n : Nat) (x : StrmId) : Bool := (((s.core n).live.strm x).flights.any fun f => f.unit.isSome)

/-- CORE_UNIT_WATCHDOG: it does not count in a thermal stop, which the instruction waits out (R463, log 61). -/
def execCoreUnitWatchdog (c : CoreId) (x : StrmId) (s : State) : Host.Outcome State Fault Refusal :=
  .next (if s.unitInFlight c.val x && !s.modl.thermalStop then s.close (domainFault (.core c) (s.errRcv 3 (core := c.val))) else s)

/-- ACCESS_REQUEST_WATCHDOG. -/
def execAccessRequestWatchdog (c : CoreId) (s : State) : Host.Outcome State Fault Refusal :=
  let asks := [StrmId.F, .B, .U].any fun x => ((s.core c.val).live.strm x).flights.any (·.mem)
  .next (if asks then s.close (domainFault (.core c) (s.errRcv 3 (core := c.val))) else s)

/-- An item that an engine of the hub has accepted and not completed. -/
def State.engineBusy (s : State) : HubEngine → Bool
  | .security => s.sec.busy.isSome
  | e => !(s.engineSuspects e).isEmpty

/-- HUB_ENGINE_WATCHDOG. -/
def execHubEngineWatchdog (e : HubEngine) (s : State) : Host.Outcome State Fault Refusal :=
  .next (if s.engineBusy e then s.close (engineFault .hub ((endReplay false s).engineSuspects e) (s.errRcv 3)) else s)

/-- A tier command that was accepted and has not completed. -/
def State.tierWaiting (s : State) (slot : Nat) : Bool := (s.page slot).queue.any fun x => !x.control && x.started

/-- TIER_COMMAND_WATCHDOG. -/
def execTierCommandWatchdog (slot : SlotId) (s : State) : Host.Outcome State Fault Refusal :=
  .next (if s.tierWaiting slot.val then s.close (engineFault .hub ((endReplay false s).engineSuspects .tierManager) (s.errRcv 3)) else s)

/-- The next suspect of a domain: the lowest slot without a result. -/
def State.nextSuspect (s : State) (d : Domain) : Option Nat :=
  (s.rcv.suspects.find? fun x => decide (x.dom = d) && x.reproduced.isNone).map (·.slot)

/-- The context that a replay runs: the suspect as its last meridian left it, its counters apart. -/
def Ctx.replayed (c : Ctx) : Ctx :=
  { c with st := .running, before := .none, desc := { c.desc with ctrBase := replayCtrs }, saved := [], perm := c.rcv.mPerm, raise := []
           opened := [], replace := none, switchOut := false, preempt := false, faulting := false, held := false, mismatch := false
           cause := 0, flags := 0, colls := [], early := [], beacons := [], collNext := 0, folded := false, pmap := none
           rcv := { others := c.rcv.others } }

/-- A stream that may dispatch as many instructions as were recorded (R369, R370). -/
def Stream.upTo (t : Stream) (k : Option Nat) : Stream := { t with limit := some (k.getD 0) }

/-- The core state of a replay at its start: empty, its streams at the positions of the meridian. -/
def CoreCtx.upTo (l : CoreCtx) (counts : List Nat) : CoreCtx :=
  { l with f := l.f.upTo counts[0]?, b := l.b.upTo counts[1]?, u := l.u.upTo counts[2]? }

/-- The address space of a replay: the suspect's pages, those written since the meridian from their undo copies. -/
def replayPages (slot : Nat) (s : State) : State :=
  let c := s.ctx slot
  let mine := s.tiers.pt.filter fun p => decide (p.1 / vpages = slot)
  let pt := mine.foldl (fun t p => Tbl.put t (replaySlot * vpages + p.1 % vpages) { p.2 with moving := none }) s.tiers.pt
  let base := (c.rcv.desc.map fun d => vpage d.undoVa).getD 0
  c.rcv.undo.zipIdx.foldl (fun u p => (u.takeScratch p.1).copyPage replaySlot (base + p.2) p.1)
    { s with tiers := { s.tiers with pt := pt } }

/-- The counters of a replay: those that another source raised as at the fault, the others as at the meridian. -/
def replayCounters (slot : Nat) (atFault : List Nat) (s : State) : State :=
  let c := s.ctx slot
  let v := fun k => if k ∈ c.rcv.others then atFault.getD k 0 else c.rcv.mCounters.getD k 0
  { s with counters := Tbl.writeList 0 s.counters replayCtrs ((List.range c.desc.ctrCount).map v) }

/-- A core of a replay starts. -/
def replayCore (slot : Nat) (counts : List Nat) (s : State) (p : Nat × Nat) : State :=
  let k := s.core p.1
  let l := (Tbl.get {} (s.ctx slot).rcv.mCores p.1).resume
  s.setCore p.1 { k.wakes (s.runClock p.1) with live := l.upTo ((counts.drop (3 * p.2)).take 3), resident := some replaySlot, shadow := none
                                                aged := [], key := (s.ctx slot).desc.seed }

/-- A replay starts on the suspect's cores. -/
def startReplay (d : Domain) (slot : Nat) (s : State) : State :=
  let cores := maskCores (s.ctx slot).desc.mask
  let x := (s.rcv.suspects.find? fun x => decide (x.dom = d) && decide (x.slot = slot)).getD (s.suspect d true none slot)
  let s1 := { s with rcv := { s.rcv with replaying := some (d, slot), replay := some { cores := cores.map fun n => (n, s.core n) } } }
  let s2 := replayCounters slot x.ctrs (replayPages slot s1)
  cores.zipIdx.foldl (replayCore slot x.counts) (s2.setCtx replaySlot (s2.ctx slot).replayed)

/-- The cores of a suspect are there for its replay: in service, not under test, and with no context on them that runs. -/
def State.replayRoom (s : State) (slot : Nat) : Bool :=
  (maskCores (s.ctx slot).desc.mask).all fun n =>
    let k := s.core n
    !k.busy && decide (k.state ≠ .eclipse) && decide (k.state ≠ .retired) && k.resident.all fun j => decide ((s.ctx j).st = .eclipse) || decide ((s.ctx j).st = .faulted)

/-- The replay of a suspect starts, once its cores are there; one whose undo copies do not cover its step cannot be replayed, nor can
one with a core that has been retired. -/
def suspectReplay (d : Domain) (slot : Nat) (s : State) : State :=
  if s.nextSuspect d ≠ some slot ∨ s.rcv.replaying.isSome = true ∨ d ∈ s.rcv.eclipse ∨ s.domBusy d = true then s
  else
    let c := s.ctx slot
    let s1 := { s with rcv := { s.rcv with replaying := some (d, slot) } }
    if c.undoable && !(maskCores c.desc.mask).any fun n => decide ((s.core n).state = .retired) then
      if s.replayRoom slot then startReplay d slot s else s
    else finishReplays d (endReplay false (s1.setCtx slot { c with flags := c.flags ||| 2 }))

/-- SUSPECT_REPLAY. -/
def execSuspectReplay (d : Domain) (slot : SlotId) (s : State) : Host.Outcome State Fault Refusal :=
  .next (s.close (suspectReplay d slot.val s))

/-- The running replay ends with a result. -/
def replayEnds (res : Bool) (s : State) : State :=
  match s.rcv.replaying with
  | none => s
  | some (d, _) => finishReplays d (endReplay res s)

/-- REPLAY_TIMEOUT. -/
def execReplayTimeout (s : State) : Host.Outcome State Fault Refusal := .next (s.close (replayEnds false s))

/-- Every stream of the replay has dispatched its recorded number of instructions, stands AT_MERIDIAN, or has stopped. -/
def State.replayOver (s : State) : Bool :=
  (s.streamsOf replaySlot).all fun t => t.arrived || t.fault.isSome || !t.live || t.limit.all fun k => decide (k ≤ t.dispatched)

/-- REPLAY_OUTCOME: the same fault has recurred on the engine, or the replay has come to its end without it. -/
def execReplayOutcome (reproduced : Bool) (s : State) : Host.Outcome State Fault Refusal :=
  .next (if reproduced || s.replayOver then s.close (replayEnds reproduced s) else s)

/-- SELFTEST_DONE: a core's test ends, and contexts that wait for it go on (R78, R371). -/
def execSelftestDone (c : CoreId) (fails : List (Fin 264)) (s : State) : Host.Outcome State Fault Refusal :=
  .next (s.close (finishReplays (.core c) (selftestDone c.val (fails.map (·.val)) s)))

/-! Hangs (R366, R367) -/

/-- A stream that a progress watchdog watches. -/
def State.hangs (s : State) (n : Nat) (x : StrmId) : Option Nat :=
  match (s.core n).resident with
  | none => none
  | some slot =>
    let c := s.ctx slot
    let t := (s.core n).live.strm x
    let on := decide (c.st = .running) && !c.held && !s.modl.thermalStop && decide (0 < s.rcv.streamMs)
      && (match t.st with | .running => true | .atMeridian => true | _ => false) && decide (slot ≠ replaySlot)
    if on then some slot else none

/-- HANG_STREAM. -/
def execHangStream (c : CoreId) (x : StrmId) (s : State) : Host.Outcome State Fault Refusal :=
  .next (match s.hangs c.val x with
    | some slot => s.close (faultNow slot 0x300 c.val (strmTag x) "HANG_STREAM" (s.errRcv 3 slot c.val))
    | none => s)

/-- The head entry of a queue, or the context's collectives, have not completed. -/
def State.queueHangs (s : State) (slot : Nat) : Option QueueId → Bool
  | some q => (s.queue q.val).started.any (fun t => decide (t.slot = slot))
      || (decide ((s.queue q.val).ctx = some slot) && !(s.queue q.val).entries.isEmpty)
  | none => !(s.ctx slot).colls.isEmpty

/-- HANG_QUEUE. -/
def execHangQueue (slot : SlotId) (queue : Option QueueId) (s : State) : Host.Outcome State Fault Refusal :=
  let c := s.ctx slot.val
  .next (if s.queueHangs slot.val queue && decide (0 < s.rcv.queueMs) && !c.held && decide (c.st ≠ .none) && decide (c.st ≠ .faulted)
    && decide (c.st ≠ .eclipse) then s.close (faultWhole slot.val 0x301 "HANG_QUEUE" (s.errRcv 3 slot.val)) else s)

/-! Spare fills (R375 to R377) -/

/-- Take a spare of a fill's kind; none where none is free. -/
def takeSpare (f : Fill) (s : State) : Option State :=
  let t := s.tiers
  let k := sparePool f.tier f.pool
  let used := if f.bank then t.banksUsed else t.rowsUsed
  if poolSpares f.tier f.bank ≤ Tbl.get 0 used k then none
  else if f.bank then some { s with tiers := { t with banksUsed := Tbl.put t.banksUsed k (Tbl.get 0 t.banksUsed k + 1) } }
  else some { s with tiers := { t with rowsUsed := Tbl.put t.rowsUsed k (Tbl.get 0 t.rowsUsed k + 1) } }

/-- No spare remains: the region retires, the retirement is recorded, and it counts as a failure (R205, R384). -/
def exhausted (f : Fill) (s : State) : State :=
  let s1 := retireRegion f.region (s.errTier 6)
  countFailure (devStore (fun t => { t with lost := s1.tiers.lost }) s1)

/-- A region needs a spare: its fill starts, or waits behind one of its tier. -/
def spareStart (f : Fill) (s : State) : State :=
  match takeSpare f s with
  | none => exhausted f s
  | some t =>
    if t.rcv.fillActive.any fun g => decide (g.tier = f.tier) then
      { t with rcv := { t.rcv with fillPending := t.rcv.fillPending ++ [f] } }
    else { t with rcv := { t.rcv with fillActive := t.rcv.fillActive ++ [f] } }

/-- The pool of a failing region (R375): a near page lies in its core's half-stack; a page of the other tiers lies in all
stacks or sites (R178), and the row does not say in which one the failure is: a free value (log 56). -/
def State.failPool (s : State) (t : Tier) (region : List Nat) : Nat :=
  match t with
  | .near => (region.headD 0 / Config.nearPagesPerCore) % 8
  | t => s.free.toNat % s.sparePools t

/-- The occasions of the last 24 hours in a region. -/
def State.hitsIn (s : State) (region : List Nat) : List RowHit :=
  s.tiers.occasions.filter fun h => decide (h.line / 32768 ∈ region) && decide (s.ticks < h.tick + oneDay)

/-- A line of a row that must be spared: one with an uncorrectable error, or with corrected errors on 4 occasions within 24 hours,
for which no spare has been taken (R375). -/
def State.rowDue (s : State) (region : List Nat) : Option Nat :=
  let hs := (s.hitsIn region).filter fun h => !h.used
  match hs.find? (·.ue) with
  | some h => some h.line
  | none => (hs.find? fun h => decide (4 ≤ (hs.filter fun k => decide (Config.rowOf k.line = Config.rowOf h.line)).length)).map (·.line)

/-- The bank of a line. -/
def bankOfLine (line : Nat) : Nat := Config.bankOf (Config.rowOf line)

/-- A line of a bank that must be spared: two of its rows with uncorrectable errors within 24 hours, or more than 8 of its rows
spared (R375). -/
def State.bankDue (s : State) (region : List Nat) : Option Nat :=
  let us := (s.hitsIn region).filter (·.ue)
  let two := us.find? fun h => us.any fun k => decide (Config.rowOf k.line ≠ Config.rowOf h.line) && decide (bankOfLine k.line = bankOfLine h.line)
  match two with
  | some h => some h.line
  | none =>
    let mine := s.tiers.spared.filter fun l => decide (l / 32768 ∈ region)
    mine.find? fun l => decide (8 < (mine.filter fun k => decide (bankOfLine k = bankOfLine l)).length)

/-- A row or bank has been spared: its occasions ask for no other spare. -/
def spareNoted (bank : Bool) (line : Nat) (s : State) : State :=
  let t := s.tiers
  if bank then
    let keep := fun l => decide (bankOfLine l ≠ bankOfLine line)
    { s with tiers := { t with occasions := t.occasions.filter fun h => keep h.line, spared := t.spared.filter keep } }
  else
    let mark := fun h : RowHit => if Config.rowOf h.line = Config.rowOf line then { h with used := true } else h
    { s with tiers := { t with occasions := t.occasions.map mark, spared := t.spared ++ [line] } }

/-- SPARE_FILL_START: `region` are the frames that the failing row or bank serves (log 4); it starts where a row or bank of the
region must be spared. -/
def execSpareFillStart (t : Tier) (bank : Bool) (region : List Nat) (s : State) : Host.Outcome State Fault Refusal :=
  .next (match (if bank then s.bankDue region else s.rowDue region) with
    | some line => s.close (spareStart ⟨t, bank, s.failPool t region, region⟩ (spareNoted bank line (s.drawn 1)))
    | none => s)

/-- The next waiting fill of a tier starts. -/
def nextFill (t : Tier) (s : State) : State :=
  match s.rcv.fillPending.find? fun f => decide (f.tier = t) with
  | none => s
  | some f => { s with rcv := { s.rcv with fillActive := s.rcv.fillActive ++ [f], fillPending := s.rcv.fillPending.erase f } }

/-- A context that maps a page with a word lost in a fill: its flag and its tenant log (R377). -/
def poisonedPage (frame : Nat) (s : State) (k : Nat × Pte) : State :=
  let slot := k.1 / vpages
  let c := s.ctx slot
  if k.2.frame ≠ frame ∨ slot = replaySlot ∨ c.st = .none then s
  else
    let t := s.setCtx slot { c with flags := c.flags ||| 8, logSeq := BitVec.ofNat 64 s.mgt.nextSeq }
    t.logEv { t.evCtx 2 0x46 slot with fields := [k.1 % vpages] }

/-- A line found uncorrectable during a fill is poisoned in the spare. -/
def fillLost (s : State) (line : Nat) : State :=
  let t := s.addUe line
  t.tiers.pt.foldl (poisonedPage (line / 32768)) t

/-- The spare itself failed: it is unusable, and the fill starts again on the next one. -/
def spareFails (f : Fill) (s : State) : State :=
  let t := s.logEv (ev 1 0x09 0x41)
  match takeSpare f t with
  | some u => u
  | none => nextFill f.tier (exhausted f { t with rcv := { t.rcv with fillActive := t.rcv.fillActive.erase f } })

/-- SPARE_FILL_DONE: the lines of the source found uncorrectable during the fill, or the failure of the spare. -/
def spareDone (t : Tier) (spareFailed : Bool) (failed : List Nat) (s : State) : State :=
  match s.rcv.fillActive.find? fun f => decide (f.tier = t) with
  | none => s
  | some f =>
    if spareFailed then spareFails f s
    else
      let u := failed.foldl fillLost s
      nextFill t { u with rcv := { u.rcv with
        fillActive := u.rcv.fillActive.erase f, fillDone := satAdd Config.sat32 u.rcv.fillDone 1 } }

/-- SPARE_FILL_DONE. -/
def execSpareFillDone (t : Tier) (spareFailed : Bool) (failed : List Nat) (s : State) : Host.Outcome State Fault Refusal :=
  .next (s.close (spareDone t spareFailed failed s))

end Sys2Proof.Machine
end

