-- ==== Sys2Proof/Machine/Management.lean ====
section
/-! DEFINITION. The management subsystem: the mailbox and its commands, settings, firmware slots, the I3C target, the
event log's NVM ring, temperature limits, the almanac and load re-verification (13 R391 to R428, 15 R462 to R464). -/

namespace Sys2Proof.Machine

/-! Statuses of R399 -/

def mgtBadOpcode : Nat := 1
def mgtBadLen : Nat := 2
def mgtBadArg : Nat := 3
def mgtAsleep : Nat := 4
def capOutOfRange : Nat := 5
def settingUnknown : Nat := 6
def settingRange : Nat := 7
def storeWorn : Nat := 8
def stateRefused : Nat := 9
def mgtNotOutOfService : Nat := 0xA
def mgtUnitBusy : Nat := 0xB
def fwBadImage : Nat := 0x10
def fwBadSignature : Nat := 0x11
def fwRollbackStatus : Nat := 0x12
def fwDeviceBusy : Nat := 0x13
def fwNothingToCommit : Nat := 0x14

/-! Power states and status (R393, R394, R428) -/

/-- A core that is not gated and not retired. -/
def Core.ungated (c : Core) : Bool := match c.state with
  | .locking => true | .idle => true | .running => true | .eclipse => true
  | _ => false

/-- MGT.STATUS.POWER_STATE: 0 NIGHT (log 40), 1 DAWN, 2 DAY. -/
def State.powerState (s : State) : Nat :=
  if !s.mgt.awake then 0 else if (List.range 8).any fun n => (s.core n).ungated then 2 else 1

/-- MGT.STATUS. -/
def State.mgtStatus (s : State) : Nat :=
  let m := s.mgt
  b2n m.ready + at_ (b2n s.storing) 1 + at_ s.powerState 2 + at_ m.fwRun 8 + at_ (b2n m.fwUncommitted) 9 + at_ m.i3cAddr 32 + at_ m.slot 40

/-! The mailbox (R395, R396, R399) -/

def State.mbox (s : State) : Mbox → Mailbox
  | .host => s.mgt.host
  | .i3c => s.mgt.i3c

def State.setMbox (s : State) (m : Mbox) (b : Mailbox) : State :=
  match m with
  | .host => { s with mgt := { s.mgt with host := b } }
  | .i3c => { s with mgt := { s.mgt with i3c := b } }

/-- Whether a mailbox is answered: by the firmware once it serves, over I3C by the twilight domain in NIGHT. -/
def State.serves (s : State) : Mbox → Bool
  | .host => s.mgt.ready && s.hif.linkUp
  | .i3c => s.modl.standby && decide (s.mgt.i3cAddr ≠ 0) && (s.mgt.ready || !s.mgt.awake)

/-- What a command does: the state, its status and output; `gone` says that the mailbox's registers went with a reset. -/
structure MbOut where
  s : State
  status : Nat := 0
  out : List Byte := []
  gone : Bool := false
  deriving DecidableEq, Repr

/-- A command as its mailbox holds it: opcode, ARG, IN_LEN, the input bytes, and whether a staged bundle's signature
verifies (log 4). -/
structure MbCmd where
  op : Nat
  arg : Nat
  len : Nat
  inp : List Byte
  sig : Bool
  deriving DecidableEq, Repr

/-- Input lengths of R397. -/
def lenOk (op len : Nat) : Bool :=
  if op = 0x0A then decide (9 ≤ len) && decide (len ≤ 4096)
  else if op = 0x04 ∨ op = 0x06 then decide (len = 8) else decide (len = 0)

/-- MAINTAIN arguments of R426. -/
def unitOk (arg : Nat) : Bool :=
  let k := bits arg 15 8
  decide (arg < 65536) && match bits arg 7 0 with
    | 1 => decide (k < 8) | 2 => decide (k < 8) | 3 => decide (k = 0) | 4 => decide (k = 0)
    | 5 => decide (k < 16) | 6 => decide (k < 8)
    | _ => false

/-- Arguments of R397 that MGT_BAD_ARG refuses. -/
def argOk (op arg : Nat) : Bool :=
  match op with
  | 0x03 => decide (arg / 65536 ≤ 1024) && (decide (arg / 65536 = 0) || decide (arg % 65536 + arg / 65536 ≤ 1024))
  | 0x04 => decide (arg ≤ 31)
  | 0x05 => true
  | 0x06 => true
  | 0x08 => true
  | 0x09 => decide (arg ≤ 2)
  | 0x0E => unitOk arg
  | 0x10 => decide (arg ≤ 254)
  | _ => decide (arg = 0)

/-- The checks before a command's own, in their order. -/
def State.mbRefuse (s : State) (c : MbCmd) : Option Nat :=
  firstOf [
    (decide (c.op = 0) || decide (0x10 < c.op), mgtBadOpcode),
    (!s.mgt.awake && decide (c.op ∉ [0x01, 0x02, 0x09]), mgtAsleep),
    (!lenOk c.op c.len, mgtBadLen),
    (!argOk c.op c.arg, mgtBadArg)]

/-- MGT.MBOX_CTRL as a mailbox shows it (R428). -/
def mboxCtrl (b : Mailbox) : Nat := at_ (b2n b.done) 1 + at_ b.status 16 + at_ b.outLen 32

/-- What a private read of the I3C mailbox returns: MGT.MBOX_CTRL, and the output once the command is done (R395). -/
def Mailbox.read (b : Mailbox) : List Byte :=
  leBytes 8 (mboxCtrl b) ++ if b.done then (List.range b.outLen).map (Tbl.get 0#8 b.buf) else []

/-- The command's registers as its mailbox shows them when it completes; NIGHT takes the host's mailbox with it. Over I3C the
controller then reads the answer (log 41). -/
def mbDone (m : Mbox) (c : MbCmd) (o : MbOut) : State :=
  if o.gone || (decide (m = .host) && !o.s.mgt.awake) then o.s
  else
    let b := o.s.mbox m
    let buf := Tbl.writeList 0#8 (Tbl.writeList 0#8 b.buf 0 (c.inp.take (min c.len 4096))) 0 o.out
    let t := o.s.setMbox m { arg := BitVec.ofNat 32 c.arg, inLen := c.len, opcode := c.op, outLen := o.out.length, status := o.status
                             done := true, buf := buf }
    if m = .host then t.raiseAlert 0 else t.emit (.i3c (t.mbox m).read)

/-- One command of a mailbox, from its GO to its DONE: `own` is what it does once the general checks pass. -/
def mbRun (m : Mbox) (c : MbCmd) (own : State → MbOut) (s : State) : State :=
  if !s.serves m then s
  else
    let o : MbOut := match s.mbRefuse c with
      | some k => ⟨s, k, [], false⟩
      | none => own s
    s.close (mbDone m c o)

/-! Sensors (R400 to R402) -/

/-- A reading: clocks, pacing, power, cap and planned voltages as they stand, the others as last updated. A droop monitor
that has seen no supply since it was armed reads a free value (log 2). -/
def State.reading (s : State) (k : Nat) : Nat :=
  if 400 ≤ k ∧ k < 408 then (s.core (k - 400)).clock
  else if 408 ≤ k ∧ k < 416 then s.power.pacing
  else if k = 416 then s.power.shortAvg
  else if k = 419 then s.power.cap
  else if 420 ≤ k ∧ k < 428 then (s.core (k - 420)).voltage
  else if 428 ≤ k then 0
  else if 48 ≤ k ∧ k < 144 then ((Tbl.look s.mgt.sensors k).map (·.toNat)).getD ((Config.freeWord (s.fresh + k)).toNat % 2 ^ 32)
  else (s.sensor k).toNat

/-- Droop monitors that were read are armed again: they have seen nothing. -/
def rearm (ks : List Nat) (s : State) : State :=
  { s with mgt := { s.mgt with sensors :=
    (ks.filter fun k => decide (48 ≤ k) && decide (k < 144)).foldl Tbl.drop s.mgt.sensors } }

def readSensors (arg : Nat) (s : State) : MbOut :=
  let ks := (List.range (arg / 65536)).map fun i => arg % 65536 + i
  ⟨(rearm ks s).drawn 144, 0, ks.flatMap fun k => leBytes 4 (s.reading k), false⟩

/-! The event log (R403, R404, R406) -/

/-- The 128 bytes of an entry. -/
def LogEnt.bytes (e : LogEnt) : List Byte :=
  e.head ++ (if e.tenant.isEmpty then List.replicate 64 0#8 else e.tenant) ++ List.replicate 16 0#8

/-- Put an entry in its place by SEQ. -/
def insertSeq (e : LogEnt) : List LogEnt → List LogEnt
  | [] => [e]
  | f :: l => if e.seq ≤ f.seq then e :: f :: l else f :: insertSeq e l

/-- The entries held in either ring, in SEQ order. -/
def Mgt.held (m : Mgt) : List LogEnt :=
  (m.nvmLog.filter fun e => !m.ramLog.any fun f => decide (f.seq = e.seq)).foldr insertSeq m.ramLog

/-- READ_LOG. -/
def readLog (n start : Nat) (s : State) : MbOut :=
  let all := s.mgt.held
  let es := (all.filter fun e => decide (start ≤ e.seq)).take n
  let next := match es.getLast? with
    | some e => e.seq + 1
    | none => start
  let oldest := match all.head? with
    | some e => e.seq
    | none => s.mgt.nextSeq
  ⟨s, 0, leBytes 8 next ++ leBytes 8 oldest ++ es.flatMap LogEnt.bytes, false⟩

/-- An entry of the RAM ring at or above the setting that held when it was logged goes into the NVM ring once, in its place by SEQ;
a full ring loses its oldest. -/
def nvmCopy (e : LogEnt) (s : State) : State :=
  if e.nvm ∧ (s.mgt.nvmLog.any fun f => decide (f.seq = e.seq)) = false then
    { s with mgt := { s.mgt with nvmLog := (insertSeq e s.mgt.nvmLog).drop (s.mgt.nvmLog.length + 1 - 8192) } }
  else s

/-- LOG_NVM_COPY. -/
def execLogNvmCopy (seq : W64) (s : State) : Host.Outcome State Fault Refusal :=
  .next (match s.mgt.ramLog.find? fun e => decide (e.seq = seq.toNat) with
    | some e => nvmCopy e s
    | none => s)

/-- Every entry that is due is copied before the device resets itself. -/
def nvmFlush (s : State) : State := s.mgt.ramLog.foldl (fun u e => nvmCopy e u) s

/-! Settings (R412 to R415) -/

def Settings.get (t : Settings) : Nat → Option Nat
  | 1 => some t.powerCap | 2 => some t.priorMtbf | 3 => some t.underrunPrior | 4 => some t.streamMs | 5 => some t.queueMs
  | 6 => some t.drainUs | 7 => some t.replayMs | 8 => some t.logSeverity | 9 => some t.ibiEn
  | _ => none

def Settings.put (t : Settings) (id v : Nat) : Settings :=
  match id with
  | 1 => { t with powerCap := v } | 2 => { t with priorMtbf := v } | 3 => { t with underrunPrior := v }
  | 4 => { t with streamMs := v } | 5 => { t with queueMs := v } | 6 => { t with drainUs := v }
  | 7 => { t with replayMs := v } | 8 => { t with logSeverity := v } | 9 => { t with ibiEn := v }
  | _ => t

/-- The range of a setting. -/
def settingBounds : Nat → Nat × Nat
  | 1 => (600, 1000) | 2 => (1, 1000000) | 3 => (2, 9) | 4 => (0, 65535) | 5 => (0, 65535) | 6 => (1, 65535) | 7 => (1, 65535)
  | 8 => (1, 3) | _ => (0, 1)

/-- A setting that acts at once: on the registers that mirror it, a power cap on a fixed clock (R34). -/
def applySetting (id v : Nat) (s : State) : State :=
  match id with
  | 1 => capSet s
  | 3 => (List.range 16).foldl (fun u n => u.setNet n { u.net n with prior := v }) s
  | 4 => { s with rcv := { s.rcv with streamMs := v } }
  | 5 => { s with rcv := { s.rcv with queueMs := v } }
  | 6 => { s with rcv := { s.rcv with drainUs := v } }
  | 7 => { s with rcv := { s.rcv with replayMs := v } }
  | _ => s

/-- A working setting takes a value. -/
def putSetting (id v : Nat) (s : State) : State :=
  applySetting id v { s with mgt := { s.mgt with working := s.mgt.working.put id v } }

def getSetting (id : Nat) (s : State) : MbOut :=
  match s.mgt.working.get id with
  | some v => ⟨s, 0, leBytes 8 v, false⟩
  | none => ⟨s, settingUnknown, [], false⟩

def setSetting (id v : Nat) (s : State) : MbOut :=
  if (s.mgt.working.get id).isNone then ⟨s, settingUnknown, [], false⟩
  else if v < (settingBounds id).1 ∨ (settingBounds id).2 < v then ⟨s, settingRange, [], false⟩
  else ⟨putSetting id v s, 0, [], false⟩

/-- STORE on request: refused past the rating. -/
def mbStore (s : State) : MbOut :=
  if 100000 < s.mgt.nextWear then ⟨s, storeWorn, [], false⟩
  else ⟨commitStore (fun t => { t with settings := s.mgt.working }) s, 0, [], false⟩

def setPowerCap (arg : Nat) (s : State) : MbOut :=
  if arg < 600 ∨ 1000 < arg then ⟨s, capOutOfRange, [], false⟩ else ⟨putSetting 1 arg s, 0, [], false⟩

/-! NIGHT and the way out of it (R394, R461, R464) -/

/-- Every die but the twilight domain loses power: contexts, tiers, links and engines. -/
def powerDown (s : State) : State :=
  let s1 := coldRest (coldUnits (clearHub (emptyTiers { s with ctxs := [] })))
  { s1 with
    dwt := { s1.dwt with wins := [] }
    rcv := { s1.rcv with fillActive := [], fillPending := [] }
    sec := { s1.sec with reserved := none }
    mgt := { s1.mgt with awake := false, planDue := true }
    modl := { s1.modl with phase := .standby, pwrGood := false, thermalStop := false } }.alertPin

/-- A tier command is pending. -/
def State.tierPending (s : State) : Bool := s.pages.any fun p => p.2.queue.any fun x => !x.control

/-- Whether SET_STATE may take the device to NIGHT. -/
def State.mayNight (s : State) : Bool :=
  !s.rcv.outOfService && s.entries.all s.enclEmpty && !s.tierPending && s.rcv.fillActive.isEmpty && s.rcv.fillPending.isEmpty

/-- A trip's hold on THERM_N ends. -/
def releaseTrip (s : State) : State :=
  if s.modl.tripped then { s with modl := { s.modl with tripped := false, thermN := true } } else s

/-- The start-up sequence from P, a warm reset. -/
def wake (s : State) : State :=
  let t := releaseTrip s
  if t.modl.phase = .standby ∧ t.modl.input = true then { t with modl := { t.modl with phase := .stagesUp } } else t

def setState (arg : Nat) (s : State) : MbOut :=
  if arg = 1 then ⟨if s.mgt.awake then releaseTrip s else wake s, 0, [], false⟩
  else if s.rcv.outOfService then ⟨s, stateRefused, [], false⟩
  else if !s.mgt.awake || decide (arg ≠ 0) then ⟨s, 0, [], false⟩
  else if s.mayNight then ⟨powerDown s, 0, [], false⟩
  else ⟨s, stateRefused, [], false⟩

/-! Firmware (R416 to R419) -/

def fwBytes : Nat := 16777216

def State.fwSlot (s : State) (k : Nat) : FwSlot := if k = 0 then s.mgt.fwA else s.mgt.fwB

def State.setFw (s : State) (k : Nat) (f : FwSlot) : State :=
  if k = 0 then { s with mgt := { s.mgt with fwA := f } } else { s with mgt := { s.mgt with fwB := f } }

/-- The slot that does not run. -/
def Mgt.idleSlot (m : Mgt) : Nat := 1 - m.fwRun

/-- FW_STAGE: a slot that is staged anew holds no checked bundle. -/
def fwStage (inp : List Byte) (s : State) : MbOut :=
  let off := leNat (inp.take 8)
  let data := inp.drop 8
  if fwBytes < off + data.length then ⟨s, fwBadImage, [], false⟩
  else
    let f := s.fwSlot s.mgt.idleSlot
    ⟨s.setFw s.mgt.idleSlot { f with bytes := Tbl.writeList 0#8 f.bytes off data, valid := false, committed := false }, 0, [], false⟩

def FwSlot.num (f : FwSlot) (off n : Nat) : Nat := leNat (Tbl.slice 0#8 f.bytes off n)

/-- The bundle length that the header gives. -/
def FwSlot.bundle (f : FwSlot) : Nat := f.num 0x0C 4

/-- An image of the list: its kind, its place inside the bundle, and its digest. -/
def FwSlot.imageOk (f : FwSlot) (i : Nat) : Bool :=
  let e := 0x10 + 64 * i
  let off := f.num (e + 8) 4
  let len := f.num (e + 12) 4
  decide (1 ≤ f.num e 8) && decide (f.num e 8 ≤ 3) && decide (256 ≤ off) && decide (off + len + 96 ≤ f.bundle)
    && decide (Config.sha384 (Tbl.slice 0#8 f.bytes off len) = BitVec.ofNat 384 (beNat (Tbl.slice 0#8 f.bytes (e + 16) 48)))

/-- The form of a staged bundle. -/
def FwSlot.wellFormed (f : FwSlot) : Bool :=
  decide (f.num 0 8 = 1) && decide (352 ≤ f.bundle) && decide (f.bundle ≤ fwBytes) && decide (f.num 0xD0 48 = 0)
    && (List.range 3).all f.imageOk && ((List.range 3).map fun i => f.num (0x10 + 64 * i) 8).Nodup

/-- SHA-384 of the image list (R419). -/
def FwSlot.listHash (f : FwSlot) : BitVec 384 := Config.sha384 (Tbl.slice 0#8 f.bytes 0x10 192)

/-- The staged bundle as its header describes it; a slot that holds a checked bundle stays. -/
def FwSlot.checked (f : FwSlot) : FwSlot :=
  if f.valid then f else { f with length := f.bundle, svn := f.num 8 4, valid := true, committed := false, measure := f.listHash }

/-- A slot as GET_FW_INFO shows it (R419). -/
def FwSlot.shown (f : FwSlot) : FwSlot := if f.valid then f else { f with svn := f.num 8 4, measure := f.listHash }

/-- FW_ACTIVATE. -/
def fwActivate (sig : Bool) (s : State) : MbOut :=
  let f := s.fwSlot s.mgt.idleSlot
  match firstOf [
    (!f.valid && !f.wellFormed, fwBadImage),
    (!sig, fwBadSignature),
    (decide (f.checked.svn < s.mgt.store.rollback), fwRollbackStatus),
    (s.ctxs.any (fun p => decide (p.2.st ≠ .none)), fwDeviceBusy)] with
  | some k => ⟨s, k, [], false⟩
  | none =>
    let s1 := nvmFlush ((s.logEv (ev 1 0x02 0x4B)).raiseAlert 1)
    let s2 := s1.setFw s1.mgt.idleSlot f.checked
    ⟨resetDevice { s2 with mgt := { s2.mgt with fwRun := s2.mgt.idleSlot, fwUncommitted := true } }, 0, [], true⟩

/-- The new firmware fails: the device resets into the previous slot. -/
def fwFallBack (s : State) : State :=
  if !s.mgt.fwUncommitted || s.mgt.ready || !s.mgt.awake || !(s.fwSlot s.mgt.idleSlot).valid then s
  else
    let s1 := resetDevice { s with mgt := { s.mgt with fwRun := s.mgt.idleSlot, fwUncommitted := false } }
    (s1.errMgt 0 (ev 2 0x02 0x4C)).raiseAlert 1

/-- FW_ROLLBACK: 60 s without MGT.STATUS.READY. -/
def execFwRollback (s : State) : Host.Outcome State Fault Refusal := .next (fwFallBack s)

/-- FW_COMMIT. -/
def fwCommit (s : State) : MbOut :=
  if !s.mgt.fwUncommitted then ⟨s, fwNothingToCommit, [], false⟩
  else
    let f := s.fwSlot s.mgt.fwRun
    let s1 := (s.setFw s.mgt.fwRun { f with committed := true })
    let s2 := devStore (fun t => { t with rollback := max t.rollback f.svn }) { s1 with mgt := { s1.mgt with fwUncommitted := false } }
    ⟨(s2.logEv (ev 0 0x02 0x4D)).raiseAlert 1, 0, [], false⟩

/-- The 64 bytes of a slot; a bundle that is staged and not checked shows the SVN and the image list that it holds. -/
def State.fwInfo (s : State) (k : Nat) : List Byte :=
  let f := (s.fwSlot k).shown
  leBytes 4 f.svn ++ leBytes 4 (b2n f.valid + at_ (b2n (decide (k = s.mgt.fwRun))) 1 + at_ (b2n f.committed) 2)
    ++ leBytes 8 s.mgt.store.rollback ++ digestBytes f.measure

/-! MAINTAIN and REINSTATE (R398, R426) -/

/-- The unit of a MAINTAIN code; code 6 is an almanac re-plan. -/
def unitOf (code k : Nat) : Option CalUnit :=
  match code with
  | 1 => some (.core (Fin.ofNat 8 k)) | 2 => some (.near (Fin.ofNat 8 k)) | 3 => some .package | 4 => some .board
  | 5 => some (.port (Fin.ofNat 16 k))
  | _ => none

/-- Whether R311 lets the device retrain a port. -/
def State.mayRetrain (s : State) (n : Nat) : Bool :=
  if (s.net n).kind = kindStorage then !s.dwt.conns.any fun p => decide (p.2.st ≠ .closed) && p.2.desc.storage && bit p.2.desc.portMask n
  else (s.net (if n % 2 = 0 then n + 1 else n - 1)).linkUp

/-- No context is on a core, nor on the one that it shadows. -/
def Core.unused (c : Core) : Bool := c.resident.isNone && c.shadow.isNone

/-- A unit in use cannot be maintained. -/
def State.unitBusy (s : State) (code k : Nat) : Bool :=
  match code with
  | 1 => !(s.core k).unused | 2 => !(s.core k).unused | 6 => !(s.core k).unused
  | 5 => !s.mayRetrain k
  | _ => false

/-- Work that holds a core ungated starts the clock of a gated one (R394, log 61). -/
def ungate (n : Nat) (s : State) : State :=
  let c := s.core n
  if c.state = .gated then s.setCore n { c with state := .locking, clock := 0 } else s

def maintain (arg : Nat) (s : State) : MbOut :=
  let code := bits arg 7 0
  let k := bits arg 15 8
  if s.unitBusy code k then ⟨s, mgtUnitBusy, [], false⟩
  else match unitOf code k with
    | some u =>
      let s1 := { s with mgt := { s.mgt with training := insertNew u s.mgt.training } }
      ⟨if code = 5 then retrainPort k s1 else if code = 1 ∨ code = 2 then ungate k s1 else s1, 0, [], false⟩
    | none => ⟨ungate k { s with mgt := { s.mgt with replanning := insertNew k s.mgt.replanning } }, 0, [], false⟩

def reinstate (s : State) : MbOut :=
  if !s.rcv.outOfService then ⟨s, mgtNotOutOfService, [], false⟩
  else
    let s1 := { s with rcv := { s.rcv with outOfService := false, history := s.rcv.history.filter fun h => decide (h.dom ≠ 25) } }
    let s2 := devStore (fun t => { t with outOfService := false, dayResets := 0 }) s1
    ⟨resetDevice (nvmFlush (s2.logEv (ev 1 0x02 0x4E))), 0, [], true⟩

/-! The command set (R397) -/

/-- What a command does once the general checks pass. -/
def mbCommand (c : MbCmd) (s : State) : MbOut :=
  match c.op with
  | 0x01 => ⟨s, 0, leBytes 8 s.mgtStatus, false⟩
  | 0x02 => ⟨s, 0, s.identity, false⟩
  | 0x03 => readSensors c.arg s
  | 0x04 => readLog c.arg (leNat (c.inp.take 8)) s
  | 0x05 => getSetting c.arg s
  | 0x06 => setSetting c.arg (leNat (c.inp.take 8)) s
  | 0x07 => mbStore s
  | 0x08 => setPowerCap c.arg s
  | 0x09 => setState c.arg s
  | 0x0A => fwStage c.inp s
  | 0x0B => fwActivate c.sig s
  | 0x0C => fwCommit s
  | 0x0D => ⟨s, 0, s.fwInfo s.mgt.fwRun ++ s.fwInfo s.mgt.idleSlot, false⟩
  | 0x0E => maintain c.arg s
  | 0x0F => reinstate s
  | _ => ⟨{ s with mgt := { s.mgt with slot := c.arg } }, 0, [], false⟩

/-- A command of a mailbox by its opcode. -/
def mailbox (m : Mbox) (c : MbCmd) (s : State) : State := mbRun m c (mbCommand c) s

/-- A command with no input. -/
def plain (op : Nat) (arg : W32) : MbCmd := { op := op, arg := arg.toNat, len := 0, inp := [], sig := false }

/-- A command with input bytes. -/
def withInput (op : Nat) (arg : W32) (inp : List Byte) : MbCmd := { op := op, arg := arg.toNat, len := inp.length, inp := inp, sig := false }

/-- GET_STATUS. -/
def execGetStatus (m : Mbox) (arg : W32) (s : State) : Host.Outcome State Fault Refusal := .next (mailbox m (plain 0x01 arg) s)
/-- GET_IDENTITY. -/
def execGetIdentity (m : Mbox) (arg : W32) (s : State) : Host.Outcome State Fault Refusal := .next (mailbox m (plain 0x02 arg) s)
/-- READ_SENSORS. -/
def execReadSensors (m : Mbox) (arg : W32) (s : State) : Host.Outcome State Fault Refusal := .next (mailbox m (plain 0x03 arg) s)
/-- READ_LOG. -/
def execReadLog (m : Mbox) (arg : W32) (inp : List Byte) (s : State) : Host.Outcome State Fault Refusal :=
  .next (mailbox m (withInput 0x04 arg inp) s)
/-- GET_SETTING. -/
def execGetSetting (m : Mbox) (arg : W32) (s : State) : Host.Outcome State Fault Refusal := .next (mailbox m (plain 0x05 arg) s)
/-- SET_SETTING. -/
def execSetSetting (m : Mbox) (arg : W32) (inp : List Byte) (s : State) : Host.Outcome State Fault Refusal :=
  .next (mailbox m (withInput 0x06 arg inp) s)
/-- STORE. -/
def execStore (m : Mbox) (arg : W32) (s : State) : Host.Outcome State Fault Refusal := .next (mailbox m (plain 0x07 arg) s)
/-- SET_POWER_CAP. -/
def execSetPowerCap (m : Mbox) (arg : W32) (s : State) : Host.Outcome State Fault Refusal := .next (mailbox m (plain 0x08 arg) s)
/-- SET_STATE. -/
def execSetState (m : Mbox) (arg : W32) (s : State) : Host.Outcome State Fault Refusal := .next (mailbox m (plain 0x09 arg) s)
/-- FW_STAGE. -/
def execFwStage (m : Mbox) (arg : W32) (inp : List Byte) (s : State) : Host.Outcome State Fault Refusal :=
  .next (mailbox m (withInput 0x0A arg inp) s)
/-- FW_ACTIVATE: `sigOk` says whether the staged bundle's signature verifies under the firmware key. -/
def execFwActivate (m : Mbox) (arg : W32) (sigOk : Bool) (s : State) : Host.Outcome State Fault Refusal :=
  .next (mailbox m { plain 0x0B arg with sig := sigOk } s)
/-- FW_COMMIT. -/
def execFwCommit (m : Mbox) (arg : W32) (s : State) : Host.Outcome State Fault Refusal := .next (mailbox m (plain 0x0C arg) s)
/-- GET_FW_INFO. -/
def execGetFwInfo (m : Mbox) (arg : W32) (s : State) : Host.Outcome State Fault Refusal := .next (mailbox m (plain 0x0D arg) s)
/-- MAINTAIN. -/
def execMaintain (m : Mbox) (arg : W32) (s : State) : Host.Outcome State Fault Refusal := .next (mailbox m (plain 0x0E arg) s)
/-- REINSTATE. -/
def execReinstate (m : Mbox) (arg : W32) (s : State) : Host.Outcome State Fault Refusal := .next (mailbox m (plain 0x0F arg) s)
/-- SET_SLOT. -/
def execSetSlot (m : Mbox) (arg : W32) (s : State) : Host.Outcome State Fault Refusal := .next (mailbox m (plain 0x10 arg) s)

/-! The I3C target (R409, R410) -/

/-- The module holds no address: ORD_OUT is low. -/
def dropAddr (s : State) : State := { s with mgt := { s.mgt with i3cAddr := 0, ordOut := false } }

/-- ORD_IN is low: the module drops its address. -/
def ordFalls (s : State) : State := { dropAddr s with mgt := { (dropAddr s).mgt with ordIn := false, hotJoin := false } }

/-- ENTDAA: a round of the controller's assignment, ORD_IN being as given. -/
def entdaa (ordIn : Bool) (addr : Nat) (s : State) : State :=
  if !s.modl.standby then s
  else if !ordIn then ordFalls s
  else if s.mgt.i3cAddr = 0 ∧ addr ≠ 0 then
    { s with mgt := { s.mgt with ordIn := true, i3cAddr := addr, ordOut := true, hotJoin := false } }
  else { s with mgt := { s.mgt with ordIn := true } }

def execEntdaa (ordIn : Bool) (addr : BitVec 7) (s : State) : Host.Outcome State Fault Refusal := .next (entdaa ordIn addr.toNat s)

/-- RSTDAA. -/
def execRstdaa (s : State) : Host.Outcome State Fault Refusal := .next (if s.modl.standby then dropAddr s else s)

/-- HOT_JOIN: ORD_IN rises while there is no address and no assignment is under way. -/
def execHotJoin (s : State) : Host.Outcome State Fault Refusal :=
  .next (if s.modl.standby && !s.mgt.ordIn then
      { s with mgt := { s.mgt with ordIn := true, hotJoin := decide (s.mgt.i3cAddr = 0) || s.mgt.hotJoin } }
    else s)

/-- ORD_IN_FALLS. -/
def execOrdInFalls (s : State) : Host.Outcome State Fault Refusal :=
  .next (if s.modl.standby then ordFalls s else s)

/-- A common command code addressed to the module is answered while it holds an address. -/
def ccc (answer : List Byte) (s : State) : State := if s.modl.standby && decide (s.mgt.i3cAddr ≠ 0) then s.emit (.i3c answer) else s

/-- The 48-bit provisioned ID. -/
def State.pid (s : State) : Nat := at_ 0x0B51 33 + s.fuse.serial.toNat % 2 ^ 32

/-- GETPID. -/
def execGetpid (s : State) : Host.Outcome State Fault Refusal := .next (ccc (beBytes 6 s.pid) s)
/-- GETBCR. -/
def execGetbcr (s : State) : Host.Outcome State Fault Refusal := .next (ccc (beBytes 1 0x06) s)
/-- GETDCR. -/
def execGetdcr (s : State) : Host.Outcome State Fault Refusal := .next (ccc (beBytes 1 0x00) s)
/-- GETSTATUS: the two status bytes are not given, a free value (log 41). -/
def execGetstatus (s : State) : Host.Outcome State Fault Refusal :=
  .next ((ccc (beBytes 2 (s.free.toNat % 65536)) s).drawn 1)

/-! Temperature (R33, R462 to R464) -/

/-- A temperature in 1/256 °C. -/
def celsius (t : Int) : Int := 256 * t

/-- THERM_N is asserted, and released once every sensor is at or below 98 °C and no trip holds it. -/
def thermPin (s : State) : State :=
  let floors := decide (s.power.clock = Config.clockFloor) && decide (s.power.pacing = 8)
  let since := if s.hot && floors then some (s.power.hotSince.getD s.ticks) else none
  let long := match since with
    | some t => decide (t + 328 ≤ s.ticks)
    | none => false
  let s1 := { s with power := { s.power with hotSince := since } }
  if celsius 103 ≤ s.hottest ∨ long = true then { s1 with modl := { s1.modl with thermN := false } }
  else if s.hottest ≤ celsius 98 ∧ s.modl.tripped = false then { s1 with modl := { s1.modl with thermN := true } }
  else s1

/-- The array clock of every core stops; its state is kept. -/
def thermalEnter (s : State) : State :=
  applyClocks ({ s with modl := { s.modl with thermalStop := true } }.logEv { ev 2 0x02 0x50 with detail := 1 })

/-- Cores restart at the floors. -/
def thermalExit (s : State) : State :=
  let s1 := { s with modl := { s.modl with thermalStop := false } }.logEv { ev 2 0x02 0x50 with detail := 0 }
  setPower Config.clockFloor 8 s1

/-- The thermal stop is entered at 105 °C and left at 100 °C. -/
def thermalStop (s : State) : State :=
  if celsius 105 ≤ s.hottest ∧ s.modl.thermalStop = false then thermalEnter s
  else if s.hottest ≤ celsius 100 ∧ s.modl.thermalStop = true then thermalExit s
  else s

/-- The thermal trip at 115 °C. -/
def thermalTrip (s : State) : State :=
  if s.hottest < celsius 115 then s
  else
    let t := powerDown (loseStore s)
    { t with modl := { t.modl with thermN := false, tripped := true, tripLog := true } }

/-- The readings that come from outside; those of clocks, pacing, power and planned voltage follow the state. -/
def takeReadings (rs : List (Nat × W32)) (s : State) : State :=
  let keep := rs.filter fun p => decide (p.1 < 400) || decide (p.1 = 417) || decide (p.1 = 418)
  let low := fun (t : Tbl W32) (p : Nat × W32) =>
    let old := Tbl.get p.2 t p.1
    if 48 ≤ p.1 ∧ p.1 < 144 ∧ old.toNat < p.2.toNat then t else Tbl.put t p.1 p.2
  { s with mgt := { s.mgt with sensors := keep.foldl low s.mgt.sensors } }

/-- The 54 V input back in its range may be logged again when it leaves. -/
def inputBack (s : State) : State :=
  let mv := (s.sensor 417).toNat
  if 40000 ≤ mv ∧ mv ≤ 60000 then { s with modl := { s.modl with inputOut := false } } else s

/-- A sensor update and the responses to the hottest junction. -/
def sensorUpdate (rs : List (Nat × W32)) (s : State) : State :=
  if !s.mgt.ready then s
  else
    let t := inputBack (takeReadings rs s)
    let s1 := if t.hot && !s.hot then t.raiseAlert 4 else t
    thermalTrip (thermalStop (thermPin s1))

/-- SENSOR_UPDATE. -/
def execSensorUpdate (readings : List (Fin 1024 × W32)) (s : State) : Host.Outcome State Fault Refusal :=
  .next (s.close (sensorUpdate (readings.map fun p => (p.1.val, p.2)) s))

/-! The almanac (R420 to R422) -/

/-- Planned and load-derated clock of a core (R32). -/
def Core.planned (c : Core) : Core := { c with ceiling := Config.clockTop - Config.clockStep * (c.planSteps + c.loadSteps) }

/-- One 25 MHz step down of the planned clock is logged for each step. -/
def logDerate (n : Nat) (s : State) : State :=
  let e : LogEnt := { ev 2 0x02 0x47 with core := n }
  if s.mgt.err.getLsbD 2 then s.logEv e else s.errMgt 2 e

/-- A core has spent 720 hours in DAY since its last re-plan (R421). -/
def Core.planOverdue (c : Core) : Bool := decide (720 * 3600 * 32768 ≤ c.sincePlan)

/-- Work that holds a core ungated (R394, R421). -/
def State.heldOn (s : State) (n : Nat) : Bool :=
  (s.core n).busy || decide (n ∈ s.mgt.replanning) || (s.core n).planOverdue
    || s.mgt.training.any fun u => decide (u = .core (Fin.ofNat 8 n)) || decide (u = .near (Fin.ofNat 8 n))

/-- At a start a core gates once its self-test and its re-plan are over (R460). -/
def gateStarted (n : Nat) (s : State) : State :=
  let c := s.core n
  if decide (c.state = .idle) && !s.hif.ready && !s.heldOn n then s.setCore n { c with state := .gated, clock := 0 } else s

/-- A core is re-planned by a start from power-up or NIGHT and by MAINTAIN, and at a quiet meridian after 720 hours in DAY (R421). -/
def State.mayReplan (s : State) (n : Nat) : Bool :=
  let c := s.core n
  s.mgt.ready && c.unused && decide (c.state ≠ .retired) && (decide (n ∈ s.mgt.replanning) || c.planOverdue)

/-- The almanac keeps what a re-plan of core `n` found (R420). -/
def Almanac.replanned (a : Almanac) (n down volt : Nat) (table : List (Nat × Nat)) : Almanac :=
  { a with planSteps := Tbl.put a.planSteps n down, voltage := Tbl.put a.voltage n volt, powerTable := table }

/-- A re-plan: `steps` counts the 5 mV steps, and once 60 mV are reached the 25 MHz steps, that timing needs. -/
def replan (n steps : Nat) (table : List (Nat × Nat)) (s : State) : State :=
  let c := s.core n
  if !s.mayReplan n then s
  else
    let down := steps - 12
    let volt := Tbl.get 0 s.fuse.voltage n + 5000 * min steps 12
    let s1 := s.setCore n { c with planSteps := down, voltage := volt, sincePlan := 0 }.planned
    let s2 := { s1 with mgt := { s1.mgt with replanning := s1.mgt.replanning.filter fun k => decide (k ≠ n) } }
    let s3 := (List.range (down - c.planSteps)).foldl (fun u _ => logDerate n u) s2
    let s4 := devStore (fun t => { t with almanac := some (s.almanac.replanned n down volt table) }) s3
    gateStarted n (applyClocks (s4.logEv { ev 0 0x02 0x46 with core := n, detail := min steps 12 }))

/-- ALMANAC_REPLAN. -/
def execAlmanacReplan (c : CoreId) (steps : Nat) (table : List (Nat × Nat)) (s : State) : Host.Outcome State Fault Refusal :=
  .next (replan c.val steps table s)

/-! Load re-verification (R423 to R425) -/

/-- The window of a unit. -/
def State.loadWin (s : State) (u : CalUnit) : LoadWin := ((s.mgt.load.find? fun p => decide (p.1 = u)).map Prod.snd).getD {}

def State.setLoadWin (s : State) (u : CalUnit) (w : LoadWin) : State :=
  { s with mgt := { s.mgt with load := (s.mgt.load.filter fun p => decide (p.1 ≠ u)) ++ [(u, w)] } }

/-- CORE or PORT of an entry about a unit. -/
def unitLog (u : CalUnit) (e : LogEnt) : LogEnt :=
  match u with
  | .core n => { e with core := n.val }
  | .near n => { e with core := n.val }
  | .port n => { e with port := n.val }
  | _ => e

/-- The domain of a unit: tier controllers lie in the hub (R362). -/
def unitDomain : CalUnit → Domain
  | .core n => .core n
  | .port n => .port n
  | _ => .hub

/-- Steps that a unit may take. -/
def unitSteps : CalUnit → Nat
  | .core _ => 4 | .port _ => 4
  | _ => 2

/-- The steps of a unit take effect. -/
def setDerate (u : CalUnit) (k : Nat) (s : State) : State :=
  match u with
  | .core n =>
    let c := s.core n.val
    applyClocks (s.setCore n.val { c with loadSteps := k, derated := decide (0 < k) }.planned)
  | .near n => { s with tiers := { s.tiers with nearDerated := Tbl.put s.tiers.nearDerated n.val k } }
  | .package => { s with tiers := { s.tiers with packageDerated := k } }
  | .board => { s with tiers := { s.tiers with boardDerated := k } }
  | .port n => s.setNet n.val { s.net n.val with retrainDue := decide (0 < k) }

/-- The load guard band that the almanac gives a calibration (R420, R423). -/
def State.guardBand (s : State) (u : CalUnit) : Nat := ((s.almanac.guardBands.find? fun p => decide (p.1 = u)).map Prod.snd).getD 0

/-- LOAD_MARGIN_LOST is logged for each unit, by the error bit where that rises (R405, R424). -/
def logMargin (u : CalUnit) (s : State) : State :=
  let e := unitLog u (ev 2 0x02 0x4F)
  if s.mgt.err.getLsbD 1 then s.logEv e else s.errMgt 1 e

/-- A calibration at a start: the unit's full setting, and a window under the almanac's guard band (R423). -/
def calibrate (u : CalUnit) (s : State) : State := setDerate u 0 (s.setLoadWin u { opened := true, guard := s.guardBand u })

/-- A margin below 15 mV in an open window: one step down and a new window, or an engine fault of the unit's domain. -/
def loadDerated (u : CalUnit) (mv : Nat) (s : State) : State :=
  let w := s.loadWin u
  if !s.mgt.ready || !w.opened || decide (15 ≤ mv) then s
  else if unitSteps u ≤ w.steps then domainFault (unitDomain u) (logMargin u s)
  else
    let s1 := setDerate u (w.steps + 1) (s.setLoadWin u { opened := true, steps := w.steps + 1, derated := true, guard := w.guard })
    (s1.logEv (unitLog u (ev 1 0x02 0x43))).raiseAlert 5

/-- LOAD_DERATED. -/
def execLoadDerated (u : CalUnit) (marginMV : Nat) (s : State) : Host.Outcome State Fault Refusal :=
  .next (s.close (loadDerated u marginMV s))

/-- A window closes after its qualifying seconds. -/
def loadVerified (u : CalUnit) (mv : Nat) (s : State) : State :=
  let w := s.loadWin u
  if !s.mgt.ready || !w.opened || decide (w.seconds < 600) || decide (mv < 15) then s
  else (s.setLoadWin u { w with opened := false }).logEv (unitLog u (ev 0 0x02 0x44))

/-- LOAD_VERIFIED. -/
def execLoadVerified (u : CalUnit) (marginMV : Nat) (s : State) : Host.Outcome State Fault Refusal := .next (loadVerified u marginMV s)

/-- Where a unit can be retrained (R425); one that MAINTAIN put to work is. -/
def State.unitQuiet (s : State) (u : CalUnit) : Bool :=
  decide (u ∈ s.mgt.training) || match u with
    | .core n => (s.core n.val).unused
    | .near n => (s.core n.val).unused
    | .port n => s.mayRetrain n.val
    | _ => (List.range 8).all fun n => (s.core n).unused

/-- A port that the device retrains itself goes through bring-up again (R311); one under MAINTAIN is in it. -/
def retrainLink (u : CalUnit) (s : State) : State :=
  match u with
  | .port n => if u ∈ s.mgt.training then s else retrainPort n.val s
  | _ => s

/-- A unit is retrained that is LOAD_DERATED, that MAINTAIN named, or a port that is marked (R425, R426, R311). -/
def State.retrains (s : State) (u : CalUnit) : Bool :=
  (s.loadWin u).derated || decide (u ∈ s.mgt.training) || match u with
    | .port n => (s.net n.val).retrainDue
    | _ => false

/-- A retrain restores the unit's setting and opens a new window. -/
def retrainDone (u : CalUnit) (s : State) : State :=
  if !s.mgt.ready || !s.retrains u || !s.unitQuiet u then s
  else
    let s1 := calibrate u (retrainLink u s)
    let s2 := { s1 with mgt := { s1.mgt with training := s1.mgt.training.filter fun x => decide (x ≠ u) } }
    s2.logEv (unitLog u (ev 0 0x02 0x45))

/-- RETRAIN_DONE. -/
def execRetrainDone (u : CalUnit) (s : State) : Host.Outcome State Fault Refusal := .next (s.close (retrainDone u s))

/-! Core gating (R394) -/

/-- A core with no resident context for 10 ms gates. -/
def coreGate (n : Nat) (s : State) : State :=
  let c := s.core n
  if decide (c.state = .idle) && c.resident.isNone && !s.heldOn n then s.setCore n { c with state := .gated, clock := 0 } else s

/-- CORE_GATE. -/
def execCoreGate (c : CoreId) (s : State) : Host.Outcome State Fault Refusal := .next (coreGate c.val s)

end Sys2Proof.Machine
end

