-- ==== Sys2Proof/Machine/Registers.lean ====
section
/-! DEFINITION. The operator registers of BAR0 and the doorbell pages of BAR2 as software reads and writes them
(01 R12 to R17, 14 R430 to R437, R447, and the register maps of R83, R207, R268, R292, R312, R357, R390, R428), the PCIe
link, function-level resets and IDE. -/

namespace Sys2Proof.Machine

/-! Access codes (R13, R14, R16) -/

/-- A write of 64 bits, or of the halves of them that it addresses. -/
structure RegWrite where
  v : Nat
  lo : Bool
  hi : Bool
  deriving DecidableEq, Repr

/-- The bits that the write addresses. -/
def RegWrite.mask (w : RegWrite) : Nat := (if w.lo then 2 ^ 32 - 1 else 0) + (if w.hi then (2 ^ 32 - 1) * 2 ^ 32 else 0)

/-- RW and RWS: a register of value `old` after the write. -/
def RegWrite.over (w : RegWrite) (old : Nat) : Nat :=
  (if w.lo then w.v % 2 ^ 32 else old % 2 ^ 32) + (if w.hi then w.v / 2 ^ 32 % 2 ^ 32 else old / 2 ^ 32) * 2 ^ 32

/-- W1C, W1S and WO: the ones written. -/
def RegWrite.ones (w : RegWrite) : Nat := w.over 0

/-- W1C bits that were written as 1 are cleared. -/
def clearOnes {n : Nat} (e : BitVec n) (w : RegWrite) : BitVec n := e &&& ~~~(BitVec.ofNat n w.ones)

/-- Whether the write touches a bit of a field map. -/
def RegWrite.touches (w : RegWrite) (fields : Nat) : Bool := decide (w.mask &&& fields ≠ 0)

/-- A write to a locked field is recorded and changes nothing (R16). -/
def lockedWrite (s : State) : State := s.logEv (ev 1 0x02 0x40)

/-- An LCK register: `fields` are its bits, `put` writes the new value. -/
def lckWrite (w : RegWrite) (fields : Nat) (locked : Bool) (old : Nat) (put : Nat → State) (s : State) : State :=
  if !w.touches fields then s else if locked then lockedWrite s else put (w.over old)

/-! Values read -/

def hifStatus (h : Hif) : Nat :=
  b2n h.ready + at_ (b2n h.linkUp) 1 + at_ (b2n h.flit) 2 + at_ h.width 3 + at_ h.speed 8 + at_ (b2n h.linkIde) 11
    + at_ h.selIde.length 12 + at_ h.vfs 16

def State.hifReg (s : State) (off : Nat) : Nat :=
  match off with
  | 0x00 => s.fuse.vendor + at_ 0x0A08 16 + at_ s.fuse.revision 40
  | 0x08 => hifStatus s.hif
  | 0x10 => b2n s.hif.ideRequired
  | 0x18 => s.hif.inBytes
  | 0x20 => s.hif.outBytes
  | 0x28 => s.hif.linkCe
  | 0x30 => s.hif.err.toNat
  | _ => 0

def mboxCmd (b : Mailbox) : Nat := b.opcode + at_ b.inLen 16 + at_ b.arg.toNat 32

def State.mgtReg (s : State) (off : Nat) : Nat :=
  let m := s.mgt
  match off with
  | 0x00 => s.mgtStatus
  | 0x08 => s.power.cap + at_ (s.power.shortAvg / 16) 32
  | 0x10 => mboxCmd m.host
  | 0x18 => mboxCtrl m.host
  | 0x20 => m.nextSeq
  | 0x28 => m.alert.toNat
  | 0x30 => m.mask.toNat
  | 0x38 => m.wear0 + at_ m.wear1 32
  | 0x40 => m.err.toNat
  | _ => if 0x1000 ≤ off ∧ off < 0x2000 then leNat (Tbl.slice 0#8 m.host.buf (off - 0x1000) 8) else 0

/-- The states of 16 enclosures. -/
def State.enclStates (s : State) (i : Nat) : Nat := ((List.range 16).map fun k => at_ (enclCode (s.encl (16 * i + k)).st) (4 * k)).sum

def State.secReg (s : State) (off : Nat) : Nat :=
  let c := s.sec
  match off with
  | 0x00 => b2n c.ready + at_ (b2n c.dakOk) 1 + at_ (b2n c.image.isSome) 2 + at_ (b2n s.fuse.production) 3
      + at_ s.mgt.store.opKeys.length 8
  | 0x08 => (c.image.map (·.sequence.toNat)).getD 0
  | 0x10 => c.ringBase + at_ c.ringEntries 48
  | 0x18 => c.tail + at_ c.head 32
  | 0x20 => s.enclStates 0
  | 0x28 => s.enclStates 1
  | 0x30 => s.enclStates 2
  | 0x38 => s.enclStates 3
  | 0x40 => (s.entries.flatMap EnclEntry.slots).length + at_ (c.keySlots.filter fun p => p.2.isSome).length 32
  | 0x48 => c.err.toNat
  | 0x50 => c.tagFaults
  | _ => 0

def State.dwtReg (s : State) (off : Nat) : Nat :=
  let d := s.dwt
  match off with
  | 0x00 => b2n d.ready
  | 0x08 => s.fuse.serial.toNat
  | 0x10 => d.udpPort
  | 0x18 => (d.wins.filter fun p => decide (p.2.st ≠ .closed)).length + at_ (d.conns.filter fun p => decide (p.2.st ≠ .closed)).length 20
      + at_ (d.queues.filter fun p => p.2.ctx.isSome).length 36
  | 0x20 => d.authFail
  | 0x28 => d.nakSent
  | 0x30 => d.replayResets
  | 0x38 => d.retransmits
  | 0x40 => d.malformed + at_ d.fragments 32
  | 0x48 => d.err.toNat
  | _ => 0

def State.colReg (s : State) (off : Nat) : Nat :=
  let c := s.col
  match off with
  | 0x00 => b2n c.ready + at_ (min 256 (s.ctxs.map fun p => (p.2.colls.filter (·.started)).length).sum) 8
  | 0x08 => b2n c.policyHalt
  | 0x10 => c.sent + at_ c.skipped 32
  | 0x18 => c.bytesSent
  | 0x20 => c.bytesRelayed
  | 0x28 => c.mismatched + at_ c.unmatched 16 + at_ c.beaconsSent 32
  | 0x30 => c.err.toNat
  | _ => 0

/-- Pages of tier `k` retired, fitted and free. -/
def State.tierCap (s : State) (k : Nat) : Nat :=
  let t := s.tiers
  let fitted := if k = 0 then packageBase else if k = 1 then Config.packagePages else s.boardPages
  fitted + at_ (t.lost.filter fun f => decide (tierNum (tierOf f) = k)).length 20 + at_ (if k = 1 then Config.reservedPages else 0) 40

def State.tierFree (s : State) (k : Nat) : Nat :=
  if k = 0 then ((List.range 8).map fun c => s.pagesShown (.near c)).sum
  else if k = 1 then s.pagesShown .package else s.pagesShown .board

def State.nearDerated (s : State) : Nat := ((List.range 8).map fun c => at_ (b2n (decide (0 < Tbl.get 0 s.tiers.nearDerated c))) c).sum

def State.tierReg (s : State) (off : Nat) : Nat :=
  let t := s.tiers
  match off with
  | 0x00 => b2n t.ready + at_ (b2n t.retiring) 1 + at_ (b2n (decide (0 < t.packageDerated))) 2
      + at_ (b2n (decide (0 < t.boardDerated))) 3 + at_ s.nearDerated 8
  | 0x08 => s.tierCap 0 | 0x10 => s.tierCap 1 | 0x18 => s.tierCap 2
  | 0x20 => s.tierFree 0 | 0x28 => s.tierFree 1 | 0x30 => s.tierFree 2
  | 0x80 => t.err.toNat
  | 0x88 => Tbl.get 0 t.ce 0 | 0x90 => Tbl.get 0 t.ce 1 | 0x98 => Tbl.get 0 t.ce 2
  | 0xA0 => s.sparesFree .near true + at_ (s.sparesFree .near false) 16
  | 0xA8 => s.sparesFree .package true + at_ (s.sparesFree .package false) 16
  | 0xB0 => s.sparesFree .board true + at_ (s.sparesFree .board false) 16
  | 0xB8 => t.moves.length + at_ t.movesDone 32
  | 0xC0 => t.wins.length
  | 0xC8 => t.intervalH + at_ t.passes 8
  | _ => if 0x40 ≤ off ∧ off < 0x80 ∧ off % 8 = 0 then s.pagesShown (.near ((off - 0x40) / 8)) else 0

def coreCode : CoreState → Nat
  | .gated => 0 | .locking => 1 | .idle => 2 | .running => 3 | .eclipse => 4 | .retired => 5

def SpareMap.word (m : SpareMap) : Nat := m.logical + at_ m.source 28 + at_ (b2n m.pending) 30 + at_ (b2n m.valid) 31

def State.coreReg (s : State) (n off : Nat) : Nat :=
  let c := s.core n
  match off with
  | 0x00 => n + at_ (n / 2) 8
  | 0x08 => coreCode c.state + at_ (b2n c.derated) 4 + at_ c.clock 16 + at_ c.ceiling 32
  | 0x10 => c.busyCycles.toNat
  | 0x18 => c.cycles.toNat
  | 0x20 => c.err.toNat
  | 0x28 => c.osCe + at_ c.accCe 32
  | 0x30 => c.accSpares + at_ c.osSpares 16
  | 0x38 => at_ (b2n c.busy) 1 + at_ (b2n c.done) 2 + at_ (b2n c.pass) 3 + at_ (b2n c.auto) 4 + at_ c.failCount 24 + at_ c.firstFail 32
  | _ => if 0x40 ≤ off ∧ off < 0x80 ∧ off % 8 = 0 then (c.spare ((off - 0x40) / 8)).word else 0

def netConfig (c : NetCfg) : Nat :=
  c.rateSel + at_ (b2n c.media) 9 + at_ (b2n c.shedEn) 10 + at_ (b2n c.compatTv4) 11 + at_ c.fcMode 12 + at_ c.pfcEn 16

def netStatus (p : Net) : Nat :=
  b2n p.linkUp + at_ (b2n p.helloOk) 1 + at_ p.rate 8 + at_ p.lanes 16 + at_ (b2n p.narrow) 19
    + at_ (b2n (p.txSpare.isSome || p.rxSpare.isSome)) 20 + at_ (b2n p.sparePresent) 21 + at_ p.kind 22
    + at_ ((List.range 8).map fun q => at_ (b2n (decide (0 < Tbl.get 0 p.pause q))) q).sum 32

def laneMap (p : Net) : Nat :=
  at_ (b2n p.rxSpare.isSome) 4 + at_ (p.rxSpare.getD 0) 5 + at_ (b2n p.txSpare.isSome) 7 + at_ (p.txSpare.getD 0) 8 + at_ p.rxHealthy 10

def State.netReg (s : State) (n off : Nat) : Nat :=
  let p := s.net n
  match off with
  | 0x00 => netStatus p
  | 0x08 => netConfig p.cfg
  | 0x18 => p.cfg.mac.toNat
  | 0x20 => p.cfg.nextHop.toNat
  | 0x28 => p.cfg.ipv4.toNat
  | 0x30 => p.cfg.ipv6Hi.toNat
  | 0x38 => p.cfg.ipv6Lo.toNat
  | 0x40 => p.cfg.vid + at_ (b2n p.cfg.vlanEn) 12
  | 0x48 => p.threshold + at_ p.prior 8
  | 0x50 => laneMap p
  | 0x58 => p.rawBase + at_ p.rawEntries 48
  | 0x60 => p.rawTail + at_ p.rawHead 32
  | 0x68 => p.err.toNat
  | _ => if 0x100 ≤ off ∧ off < 0x1A0 ∧ off % 8 = 0 then Tbl.get 0 p.counters ((off - 0x100) / 8) else 0

/-- The highest count of any one core, port or the hub in the last 10 minutes. -/
def State.worstDomain (s : State) : Nat := ((List.range 25).map fun d => s.countedIn d tenMinutes).foldl max 0

def State.rcvReg (s : State) (off : Nat) : Nat :=
  let r := s.rcv
  match off with
  | 0x00 => b2n r.ready + at_ (b2n r.outOfService) 1 + at_ (b2n r.replaying.isSome) 2 + at_ (b2n (!r.eclipse.isEmpty)) 3
      + at_ r.coresRetired 16 + at_ r.portsRetired 24
  | 0x08 => r.streamMs + at_ r.queueMs 16 + at_ r.drainUs 32 + at_ r.replayMs 48
  | 0x18 => min 65535 s.worstDomain + at_ (min 15 (s.countedIn 25 oneDay)) 32
  | 0x20 => r.hours + at_ r.failures 32
  | 0x28 => min 32767 r.fillPending.length + at_ (b2n (!r.fillActive.isEmpty)) 15
      + at_ ((r.fillActive.head?.map fun f => tierNum f.tier).getD 0) 16 + at_ r.fillDone 32
  | 0x30 => r.err.toNat
  | 0x38 => r.fabricRetries
  | _ => 0

/-- Whether BAR0 answers: the link is up and the management firmware runs (R460). -/
def State.bar0On (s : State) : Bool := s.hif.linkUp && s.mgt.ready

/-- A block of BAR0 and the offset in it (R433). -/
inductive Block where
  | hif | mgt | sec | dwt | col | tier | core (n : Nat) | net (n : Nat) | rcv | none
  deriving DecidableEq, Repr

def blockAt (a : Nat) : Block × Nat :=
  if a < 0x100000 then (.hif, a)
  else if a < 0x200000 then (.mgt, a - 0x100000)
  else if a < 0x400000 then (.sec, a - 0x200000)
  else if a < 0x600000 then (.dwt, a - 0x400000)
  else if a < 0x800000 then (.col, a - 0x600000)
  else if a < 0x1000000 then (.tier, a - 0x800000)
  else if a < 0x1700000 then (.core ((a - 0x1000000) / 0x100000), (a - 0x1000000) % 0x100000)
  else if a < 0x2000000 then (.core 7, a - 0x1700000)
  else if a < 0x23C0000 then (.net ((a - 0x2000000) / 0x40000), (a - 0x2000000) % 0x40000)
  else if a < 0x3000000 then (.net 15, a - 0x23C0000)
  else if a < 0x4000000 then (.rcv, a - 0x3000000)
  else (.none, 0)

/-- The register of BAR0 at an offset; one with no register reads zero. -/
def State.bar0Reg (s : State) (a : Nat) : Nat :=
  match blockAt a with
  | (.hif, o) => s.hifReg o
  | (.mgt, o) => s.mgtReg o
  | (.sec, o) => s.secReg o
  | (.dwt, o) => s.dwtReg o
  | (.col, o) => s.colReg o
  | (.tier, o) => s.tierReg o
  | (.core n, o) => s.coreReg n o
  | (.net n, o) => s.netReg n o
  | (.rcv, o) => s.rcvReg o
  | (.none, _) => 0

/-- The bits from the address on of a register that starts at `a / 8 * 8`: at 4 mod 8 its upper half (R13). -/
def halfOf (a v : Nat) : Nat := if a % 8 = 4 then v / 2 ^ 32 else v

/-- A read of BAR0, which changes nothing: 64 bits at a multiple of 8, the upper half at 4 mod 8 (R13). A 32-bit read of the
lower half gives its low bits. -/
def State.readBar0 (s : State) (a : Nat) : Nat := halfOf a (s.bar0Reg (a / 8 * 8))

/-! Writes of BAR0 -/

def hifWrite (off : Nat) (w : RegWrite) (s : State) : State :=
  let h := s.hif
  match off with
  | 0x10 => lckWrite w 1 h.ideLocked (b2n h.ideRequired) (fun v => { s with hif := { h with ideRequired := bit v 0 } }) s
  | 0x18 => { s with hif := { h with inBytes := w.over h.inBytes } }
  | 0x20 => { s with hif := { h with outBytes := w.over h.outBytes } }
  | 0x28 => { s with hif := { h with linkCe := w.over h.linkCe } }
  | 0x30 => { s with hif := { h with err := clearOnes h.err w } }
  | _ => s

/-- MGT.MBOX_CTRL.GO: the command that MBOX_CMD and MBOX_BUF hold; whether its bundle verifies is a free value (log 42). -/
def mboxGo (s : State) : State :=
  let b := s.mgt.host
  let c : MbCmd := { op := b.opcode, arg := b.arg.toNat, len := b.inLen, inp := Tbl.slice 0#8 b.buf 0 (min b.inLen 4096), sig := bit s.free.toNat 0 }
  mailbox .host c (s.drawn 1)

/-- TIER.SCRUB.INTERVAL_H (R207). -/
def State.setInterval (s : State) (v : Nat) : State := { s with tiers := { s.tiers with intervalH := v } }

/-- A write of a tier's corrected-error counter. -/
def ceWrite (k : Nat) (w : RegWrite) (s : State) : State :=
  { s with tiers := { s.tiers with ce := Tbl.put s.tiers.ce k (w.over (Tbl.get 0 s.tiers.ce k) % 2 ^ 32) } }

/-- Bytes of the mailbox buffer under a write. -/
def bufWrite (o : Nat) (w : RegWrite) (b : Mailbox) : Mailbox :=
  { b with buf := Tbl.writeList 0#8 b.buf o (leBytes 8 (w.over (leNat (Tbl.slice 0#8 b.buf o 8)))) }

def mgtWrite (off : Nat) (w : RegWrite) (s : State) : State :=
  let m := s.mgt
  match off with
  | 0x10 =>
    let v := w.over (mboxCmd m.host)
    { s with mgt := { m with host := { m.host with opcode := bits v 7 0, inLen := bits v 28 16, arg := BitVec.ofNat 32 (v / 2 ^ 32) } } }
  | 0x18 => if bit w.ones 0 then mboxGo s else s
  | 0x28 => { s with mgt := { m with alert := clearOnes m.alert w } }.alertPin
  | 0x30 => { s with mgt := { m with mask := BitVec.ofNat 7 (w.over m.mask.toNat) } }.alertPin
  | 0x40 => { s with mgt := { m with err := clearOnes m.err w } }
  | _ => if 0x1000 ≤ off ∧ off < 0x2000 then { s with mgt := { m with host := bufWrite (off - 0x1000) w m.host } } else s

def secWrite (off : Nat) (w : RegWrite) (s : State) : State :=
  let c := s.sec
  match off with
  | 0x10 =>
    let v := w.over (c.ringBase + at_ c.ringEntries 48)
    if 4096 < bits v 60 48 then s
    else { s with sec := { c with ringEntries := bits v 60 48, ringBase := bits v 47 0 / 64 * 64 } }
  | 0x18 =>
    let t := bits (w.over c.tail) 12 0
    if w.lo && decide (t < c.ringEntries) then { s with sec := { c with tail := t } } else s
  | 0x48 => { s with sec := { c with err := clearOnes c.err w } }
  | 0x50 => { s with sec := { c with tagFaults := w.over c.tagFaults % 2 ^ 32 } }
  | _ => s

def dwtWrite (off : Nat) (w : RegWrite) (s : State) : State :=
  let d := s.dwt
  let low := fun old => w.over old % 2 ^ 32
  match off with
  | 0x10 => lckWrite w 0xFFFF d.udpLocked d.udpPort
      (fun v => if v % 65536 = 0 then s else { s with dwt := { d with udpPort := v % 65536 } }) s
  | 0x20 => { s with dwt := { d with authFail := low d.authFail } }
  | 0x28 => { s with dwt := { d with nakSent := low d.nakSent } }
  | 0x30 => { s with dwt := { d with replayResets := low d.replayResets } }
  | 0x38 => { s with dwt := { d with retransmits := low d.retransmits } }
  | 0x40 =>
    let v := w.over (d.malformed + at_ d.fragments 32)
    { s with dwt := { d with malformed := v % 2 ^ 32, fragments := v / 2 ^ 32 } }
  | 0x48 => { s with dwt := { d with err := clearOnes d.err w } }
  | _ => s

def colWrite (off : Nat) (w : RegWrite) (s : State) : State :=
  let c := s.col
  match off with
  | 0x08 => lckWrite w 1 c.policyLocked (b2n c.policyHalt) (fun v => { s with col := { c with policyHalt := bit v 0 } }) s
  | 0x10 =>
    let v := w.over (c.sent + at_ c.skipped 32)
    { s with col := { c with sent := v % 2 ^ 32, skipped := v / 2 ^ 32 } }
  | 0x18 => { s with col := { c with bytesSent := w.over c.bytesSent } }
  | 0x20 => { s with col := { c with bytesRelayed := w.over c.bytesRelayed } }
  | 0x28 =>
    let v := w.over (c.mismatched + at_ c.unmatched 16 + at_ c.beaconsSent 32)
    { s with col := { c with mismatched := bits v 15 0, unmatched := bits v 31 16, beaconsSent := v / 2 ^ 32 } }
  | 0x30 => { s with col := { c with err := clearOnes c.err w } }
  | _ => s

def tierWrite (off : Nat) (w : RegWrite) (s : State) : State :=
  match off with
  | 0x80 => { s with tiers := { s.tiers with err := clearOnes s.tiers.err w } }
  | 0x88 => ceWrite 0 w s
  | 0x90 => ceWrite 1 w s
  | 0x98 => ceWrite 2 w s
  | 0xC8 => s.setInterval (w.over s.tiers.intervalH % 256)
  | _ => s

/-- A write of a core's register. DESIGN CHOICE (log 53): a write of SELFTEST whose START is refused still sets AUTO. -/
def coreWrite (n off : Nat) (w : RegWrite) (s : State) : State :=
  let c := s.core n
  match off with
  | 0x20 => s.setCore n { c with err := clearOnes c.err w }
  | 0x28 =>
    let v := w.over (c.osCe + at_ c.accCe 32)
    s.setCore n { c with osCe := v % 2 ^ 32, accCe := v / 2 ^ 32 }
  | 0x38 =>
    let t := if w.lo then s.setCore n { c with auto := bit w.v 4 } else s
    if bit w.ones 0 then selftestStart n t else t
  | _ => s

/-- A field of NETn.CONFIG under a write; encodings that a field lacks are ignored. -/
def setNetConfig (c : NetCfg) (v : Nat) : NetCfg :=
  { c with
    pfcEn := bits v 23 16
    fcMode := if bits v 13 12 = 3 then c.fcMode else bits v 13 12
    compatTv4 := bit v 11
    shedEn := bit v 10
    media := bit v 9
    rateSel := if 5 ≤ bits v 2 0 then c.rateSel else bits v 2 0 }

def setVlan (c : NetCfg) (v : Nat) : NetCfg :=
  if bit v 12 ∧ (bits v 11 0 = 0 ∨ bits v 11 0 = 4095) then c else { c with vlanEn := bit v 12, vid := bits v 11 0 }

/-- An LCK register of a port. -/
def netLck (n : Nat) (w : RegWrite) (fields old : Nat) (f : NetCfg → Nat → NetCfg) (s : State) : State :=
  let p := s.net n
  lckWrite w fields p.locked old (fun v => s.setNet n { p with cfg := f p.cfg v }) s

def netWrite (n off : Nat) (w : RegWrite) (s : State) : State :=
  let p := s.net n
  match off with
  | 0x08 => netLck n w 0xFF3E07 (netConfig p.cfg) setNetConfig s
  | 0x10 => if bit w.ones 0 then retrainPort n s else s
  | 0x18 => netLck n w (2 ^ 48 - 1) p.cfg.mac.toNat (fun c v => { c with mac := BitVec.ofNat 48 v }) s
  | 0x20 => netLck n w (2 ^ 48 - 1) p.cfg.nextHop.toNat (fun c v => { c with nextHop := BitVec.ofNat 48 v }) s
  | 0x28 => netLck n w (2 ^ 32 - 1) p.cfg.ipv4.toNat (fun c v => { c with ipv4 := BitVec.ofNat 32 v }) s
  | 0x30 => netLck n w (2 ^ 64 - 1) p.cfg.ipv6Hi.toNat (fun c v => { c with ipv6Hi := BitVec.ofNat 64 v }) s
  | 0x38 => netLck n w (2 ^ 64 - 1) p.cfg.ipv6Lo.toNat (fun c v => { c with ipv6Lo := BitVec.ofNat 64 v }) s
  | 0x40 => netLck n w 0x1FFF (p.cfg.vid + at_ (b2n p.cfg.vlanEn) 12) setVlan s
  | 0x48 =>
    let t := bits (w.over p.threshold) 3 0
    if w.lo && decide (2 ≤ t) && decide (t ≤ 9) then reachT n t (s.setNet n { p with threshold := t }) else s
  | 0x58 =>
    let v := w.over (p.rawBase + at_ p.rawEntries 48)
    if 4096 < bits v 60 48 then s else s.setNet n { p with rawEntries := bits v 60 48, rawBase := bits v 47 0 / 64 * 64 }
  | 0x60 =>
    let t := bits (w.over p.rawTail) 12 0
    if w.lo && decide (t < p.rawEntries) then s.setNet n { p with rawTail := t } else s
  | 0x68 => s.setNet n { p with err := clearOnes p.err w }
  | _ =>
    if 0x100 ≤ off ∧ off < 0x1A0 ∧ off % 8 = 0 then
      let k := (off - 0x100) / 8
      s.setNet n { p with counters := Tbl.put p.counters k (w.over (Tbl.get 0 p.counters k)) }
    else s

/-- The domain that RCV.RESET names (R390). -/
def resetTarget (v : Nat) : Option Domain :=
  let k := bits v 15 8
  match bits v 3 1 with
  | 1 => if k < 8 then some (.core (Fin.ofNat 8 k)) else none
  | 2 => if k < 16 then some (.port (Fin.ofNat 16 k)) else none
  | 3 => if k < 64 then some (.encl (Fin.ofNat 64 k)) else none
  | 4 => some .hub
  | 5 => some .device
  | _ => none

def rcvWrite (off : Nat) (w : RegWrite) (s : State) : State :=
  let r := s.rcv
  match off with
  | 0x08 =>
    let v := w.over (r.streamMs + at_ r.queueMs 16 + at_ r.drainUs 32 + at_ r.replayMs 48)
    { s with rcv := { r with
      streamMs := bits v 15 0, queueMs := bits v 31 16
      drainUs := if bits v 47 32 = 0 then r.drainUs else bits v 47 32
      replayMs := if bits v 63 48 = 0 then r.replayMs else bits v 63 48 } }
  | 0x10 =>
    if !bit w.ones 0 then s
    else match resetTarget w.ones with
      | some d => operatorReset d s
      | none => s.logEv (ev 1 0x09 0x40)
  | 0x30 => { s with rcv := { r with err := clearOnes r.err w } }
  | 0x38 => { s with rcv := { r with fabricRetries := w.over r.fabricRetries } }
  | _ => s

/-- A write of BAR0. -/
def bar0Write (a : Nat) (w : RegWrite) (s : State) : State :=
  if !s.bar0On then s
  else match blockAt a with
    | (.hif, o) => hifWrite o w s
    | (.mgt, o) => mgtWrite o w s
    | (.sec, o) => secWrite o w s
    | (.dwt, o) => dwtWrite o w s
    | (.col, o) => colWrite o w s
    | (.tier, o) => tierWrite o w s
    | (.core n, o) => coreWrite n o w s
    | (.net n, o) => netWrite n o w s
    | (.rcv, o) => rcvWrite o w s
    | (.none, _) => s

/-! Doorbell pages (R434 to R437) -/

/-- DB.CPL_RING: a new ring, from its start. -/
def ringWrite (slot : Nat) (w : RegWrite) (s : State) : State :=
  let p := s.page slot
  let v := w.over (p.ringBase + at_ p.ringEntries 48)
  if 4096 < bits v 60 48 then s
  else
    let t := s.setPage slot { p with ringEntries := bits v 60 48, ringBase := bits v 47 0 / 16 * 16, next := 0, consumed := 0, phase := true }
    t.flushCpl slot p.held.length

/-- DB.CPL_PTR: CONSUMED. -/
def ptrWrite (slot : Nat) (w : RegWrite) (s : State) : State :=
  let p := s.page slot
  let k := bits (w.over (at_ p.consumed 32)) 44 32
  if w.hi && decide (k < p.ringEntries) then (s.setPage slot { p with consumed := k }).flushCpl slot p.held.length else s

/-- DB.EVENTS: the page's vector is of the function that wrote it. -/
def eventsWrite (fn slot : Nat) (w : RegWrite) (s : State) : State :=
  let p := s.page slot
  let v := w.over (p.vector + at_ (b2n p.cplEn) 16 + at_ (b2n p.statusEn) 17)
  let vec := bits v 10 0
  let has := fn = 0 ∨ vec < 64
  s.setPage slot { p with cplEn := bit v 16, statusEn := bit v 17, vector := if has then vec else p.vector, fn := if w.lo && decide has then fn else p.fn }

/-- DB.ENTRYi, one 64-bit word of it. -/
def entryWrite (slot off : Nat) (w : RegWrite) (s : State) : State :=
  let p := s.page slot
  let i := off / 64
  let k := off % 64 / 8
  let e := (Tbl.get 0 p.entries i).toNat
  let old := e / 2 ^ (64 * k) % 2 ^ 64
  s.setPage slot { p with entries := Tbl.put p.entries i (BitVec.ofNat 512 (e - at_ old (64 * k) + at_ (w.over old) (64 * k))) }

/-- A record of host memory that nothing constrains: whether it opens under the slot's key, its header and its payload are free
values, from number `k` on (log 43). -/
def State.freeRec (s : State) (slot k : Nat) : HostRec :=
  let encl := (s.enclOfSlot slot).getD 0xFF
  let w := fun i => Config.freeWord (k + i)
  let len := (w 3).toNat % 2 ^ 32
  { version := (w 0).setWidth 8, dir := (w 0).getLsbD 8, hdrResv := (w 0).getLsbD 9, intact := (w 0).getLsbD 10
    rseq := w 1, ctxVA := (w 2).setWidth 48, length := BitVec.ofNat 32 len
    payload := (List.range len).map fun i => (w (6 + i)).setWidth 8
    key := (s.slotKey (s.entry encl).hostSlot).getD 0, serial := s.fuse.serial, encl := encl, slot := slot, tag := w 4 ++ w 5 }

/-- DB.DOORBELL: the entry as it stands is posted. What host memory holds for a DMA_IN posted so is a free value, and so is whether a
selective IDE stream covers the write and the read (R432, log 43). -/
def doorbell (fn slot : Nat) (v : Nat) (s : State) : State :=
  let i := bits v 4 0
  let e := Tbl.get 0 (s.page slot).entries i
  let n := bits (entWord e 2) 31 0 / 48
  let recs := if entOp e = 0x70 ∧ bit v 8 = true then (List.range n).map fun j => s.freeRec slot (s.fresh + 2 + j * 2 ^ 33) else []
  postAt slot { fn := fn, page := 0, index := BitVec.ofNat 5 i, entry := e, ide := s.ideCovers } (bit v 8) e recs
    ((Config.freeWord (s.fresh + 1)).getLsbD 0) (s.drawn (2 + recs.length * 2 ^ 33))

/-- A write of a doorbell page. -/
def pageWrite (fn slot off : Nat) (w : RegWrite) (s : State) : State :=
  let p := s.page slot
  if off < 0x800 then entryWrite slot off w s
  else match off with
    | 0x800 => if w.lo then doorbell fn slot w.ones s else s
    | 0x810 => ringWrite slot w s
    | 0x818 => ptrWrite slot w s
    | 0x820 => s.setPage slot { p with statusVA := bits (w.over p.statusVA) 47 0 / 64 * 64 }
    | 0x828 => eventsWrite fn slot w s
    | _ => s

/-- A read of a doorbell page; entries read zero. -/
def State.readPage (s : State) (slot off : Nat) : Nat :=
  let p := s.page slot
  match off with
  | 0x808 => p.pending.toNat
  | 0x810 => p.ringBase + at_ p.ringEntries 48
  | 0x818 => p.next + at_ p.consumed 32
  | 0x820 => p.statusVA
  | 0x828 => p.vector + at_ (b2n p.cplEn) 16 + at_ (b2n p.statusEn) 17
  | _ => 0

/-- Whether a page of BAR2 answers. -/
def State.bar2Slot (s : State) (fn page : Nat) : Option Nat :=
  if s.hif.ready && s.hif.linkUp then s.slotOf fn page else none

/-- A read of BAR2, by halves as one of BAR0 (R13): it changes nothing, and pages that do not answer read zero. -/
def State.readBar2 (s : State) (fn a : Nat) : Nat :=
  match s.bar2Slot fn (a / 0x10000) with
  | some slot => halfOf a (s.readPage slot (a % 0x10000 / 8 * 8))
  | none => 0

/-- A write of BAR2. -/
def bar2Write (fn a : Nat) (w : RegWrite) (s : State) : State :=
  match s.bar2Slot fn (a / 0x10000) with
  | some slot => pageWrite fn slot (a % 0x10000) w s
  | none => s

/-- REGISTER_WRITE: `lo` and `hi` say which halves of the register are written. -/
def execRegisterWrite (bar2 : Bool) (fn offset : Nat) (v : W64) (lo hi : Bool) (s : State) : Host.Outcome State Fault Refusal :=
  let w : RegWrite := ⟨v.toNat, lo, hi⟩
  let a := offset / 8 * 8
  .next (s.close (if bar2 then bar2Write fn a w s else if fn = 0 then bar0Write a w s else s))

/-- DB_CPL_RING_WRITE. -/
def execDbCplRingWrite (fn page : Nat) (v : W64) (s : State) : Host.Outcome State Fault Refusal :=
  .next (match s.bar2Slot fn page with
    | some slot => s.close (ringWrite slot ⟨v.toNat, true, true⟩ s)
    | none => s)

/-- DB_CPL_PTR_WRITE. -/
def execDbCplPtrWrite (fn page : Nat) (v : W64) (s : State) : Host.Outcome State Fault Refusal :=
  .next (match s.bar2Slot fn page with
    | some slot => s.close (ptrWrite slot ⟨v.toNat, true, true⟩ s)
    | none => s)

/-! The PCIe link (R429, R431, R432, R456) -/

/-- The link goes down: IDE keys are lost with it. -/
def dropLink (s : State) : State :=
  { s with hif := { s.hif with linkUp := false, speed := 0, width := 0, flit := false, linkIde := false, selIde := [], ideKeys := [], vfs := 0 } }

/-- PCIE_LINK_DOWN: without PERST_N. A DMA command that has started and waits is aborted (R431). -/
def execPcieLinkDown (s : State) : Host.Outcome State Fault Refusal :=
  .next (if s.hif.linkUp then
      let t := (dropLink s).errHif 2
      s.close (if s.hif.ide then t.errHif 4 else t)
    else s)

/-- A held status record follows the completions that were held before it; `s` is the state in which the link came up. -/
def flushStatus (s u : State) (h : HeldStatus) : State :=
  let gone := (s.page h.slot).held.length - (u.page h.slot).held.length
  (u.flushCpl h.slot (h.after - gone)).sendStatus h.slot h.words

/-- Held records are written, those of a slot in their order (R431). -/
def flushHeld (s : State) : State :=
  let s1 := s.hif.statusHeld.foldl (flushStatus s) { s with hif := { s.hif with statusHeld := [] } }
  (s1.pages.map Prod.fst).foldl (fun u k => u.flushCpl k (u.page k).held.length) s1

/-- PCIE_LINK_UP. A link at 64 GT/s is in Flit Mode (R429). How many VFs the host enables in configuration space, which no command
writes, is a free value (log 50). -/
def execPcieLinkUp (speed : BitVec 3) (width : BitVec 5) (flit : Bool) (s : State) : Host.Outcome State Fault Refusal :=
  .next (if s.hubOut && s.modl.pcieClk && !s.hif.linkUp && decide (speed ≠ 0) && decide (width ≠ 0) then
      let h := { s.hif with linkUp := true, speed := speed.toNat, width := width.toNat, flit := flit || decide (speed = 6)
                            vfs := s.free.toNat % 65 }
      s.close (flushHeld (State.drawn { s with hif := h } 1))
    else s)

/-- PCIE_TRAIN_RETRY: `refclk` says whether the reference is there; its absence is logged when it is found. -/
def execPcieTrainRetry (refclk : Bool) (s : State) : Host.Outcome State Fault Refusal :=
  .next (if s.hubOut && !s.hif.linkUp then
      let t := { s with modl := { s.modl with pcieClk := refclk } }
      if s.modl.pcieClk && !refclk then t.logEv { ev 2 0x02 0x54 with detail := 0 } else t
    else s)

/-- IDE_KM: keys set inside an SPDM session. -/
def execIdeKm (spdmOk link : Bool) (selective : Nat) (key : BitVec 256) (s : State) : Host.Outcome State Fault Refusal :=
  let h := s.hif
  .next (if !spdmOk || !h.linkUp then s
    else if link then { s with hif := { h with linkIde := true, ideKeys := h.ideKeys.filter (fun p => decide (p.1 ≠ 8)) ++ [(8, key)] } }
    else if selective < 8 then
      { s with hif := { h with selIde := insertNew selective h.selIde
                               ideKeys := h.ideKeys.filter (fun p => decide (p.1 ≠ selective)) ++ [(selective, key)] } }
    else s)

/-! Function-level resets (R430) -/

/-- A page's uncompleted commands end with HIF_FLR, their records written, and its registers clear; what they asked of
the context is taken back. -/
def flrPage (s : State) (slot : Nat) : State :=
  let p := s.page slot
  let s1 := p.queue.foldl (fun u x => u.addCpl slot (x.cpl hifFlr 0)) (s.setPage slot { p with queue := [] })
  let c := s1.ctx slot
  let s2 := if c.st = .none then s1 else s1.setCtx slot { c with switchOut := false, preempt := false }
  { s2 with pages := Tbl.drop s2.pages slot, hif := { s2.hif with statusHeld := s2.hif.statusHeld.filter fun h => decide (h.slot ≠ slot) } }

/-- VF_FLR: VF k + 1 serves enclosure k. -/
def execVfFlr (k : Fin 64) (s : State) : Host.Outcome State Fault Refusal :=
  .next (if s.hif.linkUp then
      s.close (((s.pages.map Prod.fst).filter fun n => (s.entry k.val).ownsSlot n).foldl flrPage s)
    else s)

/-- PF_FLR. -/
def execPfFlr (s : State) : Host.Outcome State Fault Refusal :=
  .next (if s.hif.linkUp then
      let t := (s.pages.map Prod.fst).foldl flrPage s
      s.close { t with hif := { t.hif with err := 0 } }
    else s)

end Sys2Proof.Machine
end

