-- ==== Sys2Proof/Machine/Module.lean ====
section
/-! DEFINITION. The module's rails, resets and clocks, and the start-up sequence (15 R453 to R464; 01 R15; 13 R394). -/

namespace Sys2Proof.Machine

/-! Cold and warm starts (R15, R460, R461) -/

/-- What only a cold reset clears of a core and of a port: their RWS fields (R14). The occasions of errors go with the time counter
that they are stamped by: DESIGN CHOICE (log 54). -/
def Core.coldClear (c : Core) : Core := { c with osCe := 0, accCe := 0, auto := true, rowHits := [] }
def Net.coldClear (prior : Nat) (p : Net) : Net := { p with counters := [], threshold := prior, prior := prior }

/-- RWS fields of the engines, and the counts since the last cold reset. -/
def coldCounts (s : State) : State :=
  let t := s.mgt.store.settings
  { s with
    cores := s.cores.map fun p => (p.1, p.2.coldClear)
    nets := s.nets.map fun p => (p.1, p.2.coldClear t.underrunPrior)
    tiers := { s.tiers with ce := [], passes := 0, intervalH := 24, occasions := [] }
    dwt := { s.dwt with authFail := 0, nakSent := 0, replayResets := 0, retransmits := 0, malformed := 0, fragments := 0 }
    col := { s.col with skipped := 0, sent := 0, bytesSent := 0, bytesRelayed := 0, beaconsSent := 0, unmatched := 0, mismatched := 0 }
    sec := { s.sec with tagFaults := 0 }
    hif := { s.hif with inBytes := 0, outBytes := 0, linkCe := 0 } }

/-- The recovery controller at a cold reset: the escalation counts go, the timeouts come from the store (R374, R412). -/
def coldRcv (s : State) : State :=
  let t := s.mgt.store
  { s with rcv := { s.rcv with
    history := [], fillDone := 0, fabricRetries := 0, streamMs := t.settings.streamMs, queueMs := t.settings.queueMs
    drainUs := t.settings.drainUs, replayMs := t.settings.replayMs, dayTicks := 0 } }.readLedger

/-- A cold reset: everything that power holds starts again, and so does the time counter. -/
def coldStart (s : State) : State :=
  let t := coldRcv (coldCounts (powerDown { s with tiers := { s.tiers with lost := s.mgt.store.lost } }))
  dropAddr { t with ticks := 0, coldResets := t.coldResets + 1, mgt := { t.mgt with storeAt := none }, modl := { t.modl with phase := .stagesUp, input := true } }

/-- STANDBY_GOOD: the twilight domain starts. -/
def execStandbyGood (s : State) : Host.Outcome State Fault Refusal :=
  .next (if s.modl.phase = .off then { s with modl := { s.modl with phase := .standby, standby := true } } else s)

/-- POWER_STAGES_START: 54V_IN, which was off, rises through 39 V after standby has been good for 10 ms (R15). -/
def execPowerStagesStart (s : State) : Host.Outcome State Fault Refusal :=
  .next (if s.modl.phase = .standby ∧ s.modl.input = false then coldStart s else s)

/-- PWR_GOOD goes high; the first time of a start it begins the 100 ms of R453. -/
def execPwrGood (s : State) : Host.Outcome State Fault Refusal :=
  .next (if s.modl.phase = .off ∨ s.modl.phase = .standby ∨ s.modl.pwrGood = true then s
    else { s with modl := { s.modl with pwrGood := true, phase := if s.modl.phase = .stagesUp then .powerGood else s.modl.phase } })

/-- RAIL_LEAVES_REGULATION. -/
def execRailLeavesRegulation (s : State) : Host.Outcome State Fault Refusal :=
  .next { s with modl := { s.modl with pwrGood := false } }

/-- HUB_LEAVES_RESET: time T. The reference clocks are there before it, unless REFCLK_MISSING follows (R456). -/
def execHubLeavesReset (s : State) : Host.Outcome State Fault Refusal :=
  .next (if s.modl.pwrGood && (decide (s.modl.phase = .powerGood) || decide (s.modl.phase = .perst)) then
      { s with
        mgt := { s.mgt with awake := true }
        modl := { s.modl with phase := .hubOut, perstN := true, pcieClk := true, sdClk := (List.range 4).map fun a => (a, true) } }
    else s)

/-- What the settings store met at power-up (R413, R414): an invalid newer copy, or no valid copy. -/
def logStore (s : State) : State :=
  let t := { s with mgt := { s.mgt with storeLog := 0 } }
  match s.mgt.storeLog with
  | 0 => s
  | 1 => t.errMgt 3 (ev 1 0x02 0x48)
  | _ => t.errMgt 4 (ev 3 0x02 0x4A)

/-- What the last power loss and thermal trip left to log. -/
def logPast (s0 : State) : State :=
  let s := logStore s0
  let s1 := if s.modl.powerLost then s.logEv (ev 2 0x02 0x53) else s
  let s2 := if s1.modl.tripLog then s1.logEv (ev 3 0x02 0x51) else s1
  { s2 with modl := { s2.modl with powerLost := false, tripLog := false } }

/-- FIRMWARE_VERIFIED: the management processor serves the mailbox; new firmware that fails its check gives way. -/
def execFirmwareVerified (ok : Bool) (s : State) : Host.Outcome State Fault Refusal :=
  .next (if s.modl.phase ≠ .hubOut then s
    else if ok then { s with mgt := { s.mgt with ready := true }, modl := { s.modl with phase := .verified } }
    else fwFallBack s)

/-- The device attestation key, derived at each start. -/
def Fuse.dakScalar (f : Fuse) : Nat := dakOf f.secret f.dies

/-- The key of the reserved region is drawn, once in a power-up (R332). -/
def drawReserved (s : State) : State :=
  if s.sec.reserved.isSome then s
  else { s with
    sec := { s.sec with reserved := some ((List.range 8).map fun i => at_ (Config.freeWord (s.fresh + i)).toNat (64 * i)).sum }
    fresh := s.fresh + 8 }

/-- The security engine starts: its start count rises and is stored, and the number of sealed records starts again (R444); the
device key is derived, and its public key compared with the certificate's (R344, R332). -/
def startSecurity (s : State) : State :=
  let n := s.mgt.store.startCount + 1
  let s0 := { s with
    hif := { s.hif with startCount := n }
    ctxs := s.ctxs.map fun p => (p.1, { p.2 with sealedOut := 0 })
    sec := { s.sec with dak := s.fuse.dakScalar, sealing := s.fuse.secret.toNat } }
  let s1 := drawReserved (devStore (fun t => { t with startCount := n }) s0)
  if Config.p384Public s1.sec.dak = s1.fuse.certKey then { s1 with sec := { s1.sec with dakOk := true } } else s1.errSec 1

/-- Every unit that load re-verification watches (R423). -/
def calUnits : List CalUnit :=
  (List.range 8).map (fun n => .core (Fin.ofNat 8 n)) ++ (List.range 8).map (fun n => .near (Fin.ofNat 8 n))
    ++ [.package, .board] ++ (List.range 16).map (fun n => .port (Fin.ofNat 16 n))

/-- Every core in service runs its self-test (R78). -/
def startTest (s : State) (n : Nat) : State :=
  let c := s.core n
  if c.state = .retired then s else s.setCore n { c with state := .idle, busy := true, sinceTest := 0, clock := s.runClock n }

def startTests (s : State) : State := (List.range 8).foldl startTest s

/-- The almanac re-plans every core in service at an entry to DAWN from power-up or from NIGHT (R421). -/
def startPlans (s : State) : State :=
  if !s.mgt.planDue then s
  else { s with mgt := { s.mgt with planDue := false, replanning := (List.range 8).filter fun n => decide ((s.core n).state ≠ .retired) } }

/-- DAWN_ENTRY: what the last stop left is logged, locked values written back, the stored image loaded, sealed keys restored,
every unit calibrated, self-tests and re-plans started. -/
def dawnEntry (s : State) : State :=
  let s1 := writeBackHub ((List.range 16).foldl writeBackPort (startSecurity (logPast s)))
  let s2 := loadStored s1
  startPlans (startTests (calUnits.foldl (fun u x => calibrate x u) { s2 with
    sec := { s2.sec with ready := true }
    rcv := { s2.rcv with ready := true }
    modl := { s2.modl with phase := .dawn } }))

def execDawnEntry (s : State) : Host.Outcome State Fault Refusal :=
  .next (if s.modl.phase = .verified then s.close (dawnEntry s) else s)

/-- Whether the READY bits may rise: after the self-tests and re-plans of a start (R460), or after a hub reset (R362). -/
def State.mayReady (s : State) : Bool :=
  (decide (s.modl.phase = .dawn) && !(s.cores.any fun p => p.2.busy) && s.mgt.replanning.isEmpty) || (decide (s.modl.phase = .ready) && !s.hif.ready)

/-- READY_ALL: doorbell postings are accepted. -/
def execReadyAll (s : State) : Host.Outcome State Fault Refusal :=
  .next (if s.mayReady then
      { s with
        tiers := { s.tiers with ready := true }, dwt := { s.dwt with ready := true }, col := { s.col with ready := true }
        hif := { s.hif with ready := true }, modl := { s.modl with phase := .ready } }
    else s)

/-! Resets and faults of the inputs (R453, R459) -/

/-- PERST_N_ASSERT: a device reset, not fenced and not counted; a pulse below 10 µs is ignored. A hub that runs is in reset from
then on, with PWR_GOOD low too (log 44). -/
def execPerstNAssert (micros : Nat) (s : State) : Host.Outcome State Fault Refusal :=
  .next (if micros < 10 then s
    else
      let t := { s with modl := { s.modl with perstN := false } }
      if s.modl.pwrGood || s.hubOut then resetDevice t else t)

/-- Whether the power stages run. -/
def State.stagesOn (s : State) : Bool := match s.modl.phase with
  | .off => false | .standby => false
  | _ => true

/-- INPUT_OUT_OF_RANGE: logged once, with ALERT_N (log 44). -/
def execInputOutOfRange (mv : Nat) (s : State) : Host.Outcome State Fault Refusal :=
  let out := (decide (38000 ≤ mv) && decide (mv < 40000)) || (decide (60000 < mv) && decide (mv ≤ 62000))
  .next (if !s.stagesOn || !out || s.modl.inputOut then s
    else
      let t := s.logEv { ev 1 0x02 0x52 with detail := mv }
      { t with modl := { t.modl with inputOut := true, alertN := false } })

/-- POWER_STAGES_STOP: 54V_IN below 38 V or above 62 V too long. -/
def execPowerStagesStop (mv : Nat) (s : State) : Host.Outcome State Fault Refusal :=
  .next (if 38000 ≤ mv ∧ mv ≤ 62000 then s
    else if s.stagesOn then
      let t := powerDown (loseStore s)
      { t with modl := { t.modl with input := false, powerLost := true } }
    else { s with modl := { s.modl with input := false, powerLost := s.modl.input || s.modl.powerLost } })

/-- STANDBY_LOST: the twilight domain goes too, with the escalation counts. -/
def execStandbyLost (mv : Nat) (s : State) : Host.Outcome State Fault Refusal :=
  .next (if (3135 ≤ mv ∧ mv ≤ 3465) ∨ s.modl.standby = false then s
    else
      let t := dropAddr (powerDown (if s.stagesOn then loseStore s else s))
      { t with
        ticks := 0
        rcv := { t.rcv with history := [] }
        mgt := { t.mgt with ordIn := false, hotJoin := false, i3c := {} }
        modl := {} })

/-! Reference clocks (R456) -/

/-- The ports of SDCLKa under the cluster map and the clock. -/
def clockPorts (a : Nat) (s : State) : State := (List.range 4).foldl (fun u k => setPort u.self u (4 * a + k)) s

/-- REFCLK_MISSING: links that run fall, the four ports stay down, and the absence is logged. -/
def refclkMissing (a : Nat) (s : State) : State :=
  if !s.hubOut then s
  else
    let fall := fun (u : State) (k : Nat) => if (u.net (4 * a + k)).linkUp then linkFalls (4 * a + k) u else u
    let t := (List.range 4).foldl fall s
    let u := clockPorts a { t with modl := { t.modl with sdClk := Tbl.put t.modl.sdClk a false } }
    u.logEv { ev 2 0x02 0x54 with detail := 1 + a }

def execRefclkMissing (a : Fin 4) (s : State) : Host.Outcome State Fault Refusal := .next (refclkMissing a.val s)

/-- REFCLK_CHECK: a clock that is back powers its ports again. -/
def execRefclkCheck (a : Fin 4) (ok : Bool) (s : State) : Host.Outcome State Fault Refusal :=
  .next (if s.hubOut && ok && !(Tbl.get false s.modl.sdClk a.val) then
      clockPorts a.val { s with modl := { s.modl with sdClk := Tbl.put s.modl.sdClk a.val true } }
    else s)

end Sys2Proof.Machine
end

