-- ==== Sys2Proof/Machine/Vector.lean ====
section
/-! DEFINITION. The VEC class (02 R72 to R76, 05 R156 to R161). -/

namespace Sys2Proof.Machine

/-! Functions of VEC.ALU (R157) -/

def one32 : W32 := 0x3F800000#32

/-- 1.0 or +0. -/
def flag32 (b : Bool) : W32 := if b then one32 else 0#32

/-- RCP and RSQ where the spec states no result take the free value `k` (log 17). -/
def orFree (k : Nat) (v : Option FV) : W32 :=
  match v with
  | some v => round32 v
  | none => (Config.freeWord k).setWidth 32

/-- The result of function `fn` on A, B and D; `k` numbers the free value of the lane. -/
def aluFn (fn k : Nat) (a b d : W32) : W32 :=
  match fn with
  | 0 => round32 (fv a)
  | 1 => add32 a b
  | 2 => sub32 a b
  | 3 => mul32 a b
  | 4 => fma32 a b d
  | 5 => min32 a b
  | 6 => max32 a b
  | 7 => flag32 (FV.lt (fv a) (fv b))
  | 8 => flag32 (FV.le (fv a) (fv b))
  | 9 => flag32 (FV.eq (fv a) (fv b))
  | 10 => if (fv d).isZero then round32 (fv b) else round32 (fv a)
  | 11 => if isNan32 a then nan32 else a &&& 0x7FFFFFFF#32
  | 12 => if isNan32 a then nan32 else a ^^^ 0x80000000#32
  | 16 => round32 (fvExp (fv a))
  | 17 => round32 (fvExp2 (fv a))
  | 18 => orFree k (fvRcp (fv a))
  | 19 => orFree k (fvRsq (fv a))
  | _ => 0#32

/-- FN reads B. -/
def aluUsesB (fn : Nat) : Bool := decide (1 ≤ fn) && decide (fn ≤ 10)

/-- FN reads D from VD (R157). -/
def aluUsesD (fn : Nat) : Bool := decide (fn = 4) || decide (fn = 10)

/-- Write rows of FP32 values of a group through a class: rows of at most W elements (R156). -/
def groupSrcs (w : Nat) (vs : List W32) : List (List Src) :=
  (chunks w vs.length vs).map fun row => row.map Src.f

/-- What a VEC instruction with a destination row group does (R156). -/
def Env.writeGroup (e : Env) (cls : Nat) (lsrc : Bool) (base stride w named : Nat) (vs : List W32) (l : CoreCtx) : Done :=
  let o := e.classRows cls lsrc base stride (groupSrcs w vs)
  let g := e.eff cls lsrc
  { s := e.recorded cls lsrc named o.tally
    l := l.osWriteRows base stride o.rows
    fl := { e.flight false with
      oldOs := e.live.osOld base stride (groupRows w vs.length) (groupRec g w vs.length) }
    num := e.classNumeric cls lsrc o.tally }

/-- Address checks of a group, the stride check for a destination of two or more rows included (R90, R110). -/
def Env.chkGroupOp (e : Env) (osr : BitVec 2) (g : Eff) (base stride w count : Nat) : Except FaultCode Unit := do
  if osr = 0#2 then pure ()
  else
    e.chkGroup g base stride w count
    failIf (decide (osr = 2#2) && decide (2 ≤ groupRows w count) && decide (stride < groupRec g w count)) .numStrideShort

def runAlu (f : AluF) (e : Env) : Except FaultCode Done := do
  e.chkCtr
  let fn := f.fn.toNat
  let n := f.count.toNat
  e.chkRegs ((if f.osr = 2#2 && !aluUsesD fn then [] else [f.vd.toNat]) ++ f.reads)
  if f.osr ≠ 0#2 then e.chkClass f.cls.toNat
  e.chkBracket false
  let g := e.eff f.cls.toNat f.lsrc
  let base := osAddr e.p.x1 f.off.toNat
  let stride := f.stride.toNat * 64
  let w := segW f.seg.toNat
  e.chkGroupOp f.osr g base stride w n
  if n = 0 then .ok { s := e.s, l := e.live, fl := e.flight false, fin := true }
  else
    let as ← if f.osr = 1#2 then e.readGroup g base stride w n else .ok (e.live.lanes f.va.toNat n)
    let vs := as.zipIdx.map fun p =>
      let b := if aluUsesB fn then e.live.lane f.vb.toNat (if f.bb then 0 else p.2) else 0#32
      let d := if aluUsesD fn then e.live.lane f.vd.toNat p.2 else 0#32
      aluFn fn (e.s.fresh + p.2) p.1 b d
    let s1 := if fn = 18 ∨ fn = 19 then e.s.drawn n else e.s
    if f.osr = 2#2 then
      .ok (({ e with s := s1 } : Env).writeGroup f.cls.toNat f.lsrc base stride w f.statsSlot.toNat vs e.live)
    else
      .ok { s := s1, l := e.live.setLanes f.vd.toNat 0 vs
            fl := { e.flight false with oldV := e.live.oldLanes f.vd.toNat 0 n } }

def isAlu : KwOp → Bool | .alu _ => true | _ => false

def carryAlu (e : Env) : Except FaultCode Done :=
  match e.p.kw.op with
  | .alu f => runAlu f e
  | _ => .error .insnBadOpcode

/-- VEC.ALU. -/
def execVecAlu (n : CoreId) (x : StrmId) (ph : Phase) (s : State) : Host.Outcome State Fault Refusal :=
  .next (kwemin n x ph false isAlu carryAlu s)

/-! Reductions (R73, R158) -/

/-- One level of the tree. -/
def pairUp {α : Type} (op : α → α → α) : List α → List α
  | a :: b :: t => op a b :: pairUp op t
  | l => l

/-- The tree of R73 over a list whose length is a power of two, 2^`n` at most. -/
def tree {α : Type} (op : α → α → α) : Nat → List α → List α
  | 0, l => l
  | n + 1, l => if l.length ≤ 1 then l else tree op n (pairUp op l)

def ninf32 : W32 := 0xFF800000#32

/-- A segment padded to W lanes with the identity of the reduction (R73). -/
def segment {α : Type} (d : α) (w r : Nat) (vs : List α) : List α := padTo d w ((vs.drop (r * w)).take w)

/-- A node of SUMSQC: fp32c_add twice (R158). -/
def pairAdd (p q : W32 × W32) : W32 × W32 :=
  let a := fp32cAdd p.1 p.2 q.1
  fp32cAdd a.1 a.2 q.2

/-- The result of segment `r`: the value, and the low part for SUMSQC. -/
def redSeg (fn w r : Nat) (vs : List W32) : W32 × W32 :=
  match fn with
  | 0 => ((tree add32 10 (segment 0#32 w r vs)).headD 0#32, 0#32)
  | 1 => ((tree max32 10 (segment ninf32 w r vs)).headD 0#32, 0#32)
  | 2 => ((tree add32 10 (segment 0#32 w r (vs.map fun v => mul32 v v))).headD 0#32, 0#32)
  | _ => (tree pairAdd 10 (segment (0#32, 0#32) w r (vs.map fun v => (mul32 v v, 0#32)))).headD (0#32, 0#32)

def runRed (f : RedF) (e : Env) : Except FaultCode Done := do
  e.chkCtr
  let n := f.count.toNat
  let w := segW f.seg.toNat
  let segs := groupRows w n
  e.chkRegs (f.vd.toNat :: (if f.osr = 1#2 then [] else [f.va.toNat]) ++ if f.fn = 3#6 then [f.vb.toNat] else [])
  failIf (decide (1024 < f.lane.toNat + segs) || (decide (f.fn = 3#6) && decide (f.vd = f.vb))) .vecLaneRange
  if f.osr ≠ 0#2 then e.chkClass f.cls.toNat
  e.chkBracket false
  let g := e.eff f.cls.toNat f.lsrc
  let base := osAddr e.p.x1 f.off.toNat
  let stride := f.stride.toNat * 64
  e.chkGroupOp f.osr g base stride w n
  if n = 0 then .ok { s := e.s, l := e.live, fl := e.flight false, fin := true }
  else
    let vs ← if f.osr = 1#2 then e.readGroup g base stride w n else .ok (e.live.lanes f.va.toNat n)
    let rs := (List.range segs).map fun r => redSeg f.fn.toNat w r vs
    let l1 := e.live.setLanes f.vd.toNat f.lane.toNat (rs.map Prod.fst)
    let l2 := if f.fn = 3#6 then l1.setLanes f.vb.toNat f.lane.toNat (rs.map Prod.snd) else l1
    .ok { s := e.s, l := l2
          fl := { e.flight false with
            oldV := e.live.oldLanes f.vd.toNat f.lane.toNat segs
              ++ if f.fn = 3#6 then e.live.oldLanes f.vb.toNat f.lane.toNat segs else [] } }

def isRed : KwOp → Bool | .red _ => true | _ => false

def carryRed (e : Env) : Except FaultCode Done :=
  match e.p.kw.op with
  | .red f => runRed f e
  | _ => .error .insnBadOpcode

/-- VEC.RED. -/
def execVecRed (n : CoreId) (x : StrmId) (ph : Phase) (s : State) : Host.Outcome State Fault Refusal :=
  .next (kwemin n x ph false isRed carryRed s)

/-! Online softmax (R74, R159) -/

/-- One segment: the new m and s, c, and p of its lanes. `xs` are the lanes within COUNT. -/
structure OsmxOut where
  m : W32
  s : W32
  c : W32
  ps : List W32
  deriving DecidableEq, Repr

def exp32 (a : W32) : W32 := round32 (fvExp (fv a))

def osmxSeg (w : Nat) (m s : W32) (xs : List W32) : OsmxOut :=
  let mx := (tree max32 10 (padTo ninf32 w xs)).headD ninf32
  let m2 := max32 m mx
  let neg := decide (m2 = ninf32)
  let c := if neg then one32 else exp32 (sub32 m m2)
  let ps := xs.map fun x => if neg then 0#32 else exp32 (sub32 x m2)
  { m := m2, s := fma32 s c ((tree add32 10 (padTo 0#32 w ps)).headD 0#32), c := c, ps := ps }

def runOsmx (f : OsmxF) (e : Env) : Except FaultCode Done := do
  e.chkCtr
  let n := f.count.toNat
  let w := segW f.seg.toNat
  let segs := groupRows w n
  let vm := f.vm.toNat
  let regs := (if f.osr = 2#2 then [] else [f.vd.toNat]) ++ if f.osr = 1#2 then [] else [f.va.toNat]
  failIf (decide (62 ≤ vm)) .vecRegRange
  e.chkRegs ([vm, vm + 1, vm + 2] ++ regs)
  failIf (regs.any fun r => decide (vm ≤ r) && decide (r ≤ vm + 2)) .vecRegRange
  failIf (decide (1024 < f.lane.toNat + segs)) .vecLaneRange
  if f.osr ≠ 0#2 then e.chkClass f.cls.toNat
  e.chkBracket false
  let g := e.eff f.cls.toNat f.lsrc
  let base := osAddr e.p.x1 f.off.toNat
  let stride := f.stride.toNat * 64
  e.chkGroupOp f.osr g base stride w n
  if n = 0 then .ok { s := e.s, l := e.live, fl := e.flight false, fin := true }
  else
    let xs ← if f.osr = 1#2 then e.readGroup g base stride w n else .ok (e.live.lanes f.va.toNat n)
    let ln := f.lane.toNat
    let rs := (List.range segs).map fun r =>
      osmxSeg w (e.live.lane vm (ln + r)) (e.live.lane (vm + 1) (ln + r)) ((xs.drop (r * w)).take w)
    let l1 := ((e.live.setLanes vm ln (rs.map (·.m))).setLanes (vm + 1) ln (rs.map (·.s))).setLanes (vm + 2) ln (rs.map (·.c))
    let ps := (rs.map (·.ps)).flatten
    let old := e.live.oldLanes vm ln segs ++ e.live.oldLanes (vm + 1) ln segs ++ e.live.oldLanes (vm + 2) ln segs
    if f.osr = 2#2 then
      let d := e.writeGroup f.cls.toNat f.lsrc base stride w f.statsSlot.toNat ps l1
      .ok { d with fl := { d.fl with oldV := old } }
    else
      .ok { s := e.s, l := l1.setLanes f.vd.toNat 0 ps
            fl := { e.flight false with oldV := old ++ e.live.oldLanes f.vd.toNat 0 n } }

def isOsmx : KwOp → Bool | .osmx _ => true | _ => false

def carryOsmx (e : Env) : Except FaultCode Done :=
  match e.p.kw.op with
  | .osmx f => runOsmx f e
  | _ => .error .insnBadOpcode

/-- VEC.OSMX. -/
def execVecOsmx (n : CoreId) (x : StrmId) (ph : Phase) (s : State) : Host.Outcome State Fault Refusal :=
  .next (kwemin n x ph false isOsmx carryOsmx s)

/-! VEC.FILL (R160) -/

def runFill (f : FillF) (e : Env) : Except FaultCode Done := do
  e.chkCtr
  e.chkReg f.vd.toNat
  failIf (decide (1024 < f.lane.toNat + f.count.toNat)) .vecLaneRange
  e.chkBracket false
  .ok { s := e.s, fin := e.zero, l := e.live.setLanes f.vd.toNat f.lane.toNat (List.replicate f.count.toNat f.imm)
        fl := { e.flight false with oldV := e.live.oldLanes f.vd.toNat f.lane.toNat f.count.toNat } }

def isFill : KwOp → Bool | .fill _ => true | _ => false

def carryFill (e : Env) : Except FaultCode Done :=
  match e.p.kw.op with
  | .fill f => runFill f e
  | _ => .error .insnBadOpcode

/-- VEC.FILL. -/
def execVecFill (n : CoreId) (x : StrmId) (ph : Phase) (s : State) : Host.Outcome State Fault Refusal :=
  .next (kwemin n x ph false isFill carryFill s)

/-! VEC.DROP (R161, R217 to R219) -/

/-- Lane `k` of VEC.DROP. -/
def dropLane (seed : BitVec 256) (layer : W32) (step : W64) (wide : Bool) (first thresh k : Nat) (a b : W32) : W32 :=
  if randSlice seed (layerWord layer false) step wide (first + k) < thresh then mul32 a b else 0#32

def runVdrop (f : VdropF) (e : Env) : Except FaultCode Done := do
  e.chkCtr
  e.chkRegs [f.vd.toNat, f.va.toNat, f.vb.toNat]
  e.chkBracket false
  let n := f.count.toNat
  let b := e.live.lane f.vb.toNat 0
  let vs := (e.live.lanes f.va.toNat n).zipIdx.map fun p =>
    dropLane (e.s.core e.n).key f.layer e.ctx.step f.w16 e.p.x1.toNat f.thresh.toNat p.2 p.1 b
  .ok { s := e.s, fin := e.zero, l := e.live.setLanes f.vd.toNat 0 vs
        fl := { e.flight false with oldV := e.live.oldLanes f.vd.toNat 0 n } }

def isVdrop : KwOp → Bool | .vdrop _ => true | _ => false

def carryVdrop (e : Env) : Except FaultCode Done :=
  match e.p.kw.op with
  | .vdrop f => runVdrop f e
  | _ => .error .insnBadOpcode

/-- VEC.DROP. -/
def execVecDrop (n : CoreId) (x : StrmId) (ph : Phase) (s : State) : Host.Outcome State Fault Refusal :=
  .next (kwemin n x ph false isVdrop carryVdrop s)

end Sys2Proof.Machine
end

