-- ==== Sys2Proof/Machine/Dispatch.lean ====
section
/-! DEFINITION. The meaning of each command: one arm per constructor, each a direct call. -/

namespace Sys2Proof.Machine

/-- What a command does to everything but the queue. -/
def exec (i : Instr) (s : State) : Host.Outcome State Fault Refusal :=
  match i with
  | .mmLoadw c x p => Sys2Proof.Machine.execMmLoadw c x p s
  | .mmRun c x p => Sys2Proof.Machine.execMmRun c x p s
  | .spill c x => Sys2Proof.Machine.execSpill c x s
  | .accRead c x p => Sys2Proof.Machine.execAccRead c x p s
  | .accWrite c x p => Sys2Proof.Machine.execAccWrite c x p s
  | .accRscale c x p => Sys2Proof.Machine.execAccRscale c x p s
  | .accResume c x p => Sys2Proof.Machine.execAccResume c x p s
  | .vecAlu c x p => Sys2Proof.Machine.execVecAlu c x p s
  | .vecRed c x p => Sys2Proof.Machine.execVecRed c x p s
  | .vecOsmx c x p => Sys2Proof.Machine.execVecOsmx c x p s
  | .vecFill c x p => Sys2Proof.Machine.execVecFill c x p s
  | .vecDrop c x p => Sys2Proof.Machine.execVecDrop c x p s
  | .moveLoad c x p => Sys2Proof.Machine.execMoveLoad c x p s
  | .moveStore c x p => Sys2Proof.Machine.execMoveStore c x p s
  | .moveTload c x p => Sys2Proof.Machine.execMoveTload c x p s
  | .moveGather c x p => Sys2Proof.Machine.execMoveGather c x p s
  | .moveDwtq c x p => Sys2Proof.Machine.execMoveDwtq c x p s
  | .syncWait c x p sd => Sys2Proof.Machine.execSyncWait c x p sd s
  | .waitMet c x sd dfr => Sys2Proof.Machine.execWaitMet c x sd dfr s
  | .syncInc c x p sd => Sys2Proof.Machine.execSyncInc c x p sd s
  | .syncToken c x p sd => Sys2Proof.Machine.execSyncToken c x p sd s
  | .collReduce c x p => Sys2Proof.Machine.execCollReduce c x p s
  | .collGather c x p => Sys2Proof.Machine.execCollGather c x p s
  | .collNorm c x p => Sys2Proof.Machine.execCollNorm c x p s
  | .ctrlLoop c x => Sys2Proof.Machine.execCtrlLoop c x s
  | .ctrlEndl c x => Sys2Proof.Machine.execCtrlEndl c x s
  | .ctrlJmp c x => Sys2Proof.Machine.execCtrlJmp c x s
  | .ctrlBrc c x => Sys2Proof.Machine.execCtrlBrc c x s
  | .ctrlXset c x => Sys2Proof.Machine.execCtrlXset c x s
  | .ctrlXadd c x => Sys2Proof.Machine.execCtrlXadd c x s
  | .ctrlSclr c x => Sys2Proof.Machine.execCtrlSclr c x s
  | .meridian c x p => Sys2Proof.Machine.execMeridian c x p s
  | .halt c x p => Sys2Proof.Machine.execHalt c x p s
  | .layerBegin c x p => Sys2Proof.Machine.execLayerBegin c x p s
  | .layerEnd c x p => Sys2Proof.Machine.execLayerEnd c x p s
  | .layerSrcid c x p => Sys2Proof.Machine.execLayerSrcid c x p s
  | .instructionComplete c x n => Sys2Proof.Machine.execInstructionComplete c x n s
  | .contextFault c x => Sys2Proof.Machine.execContextFault c x s
  | .novaEvent c x => Sys2Proof.Machine.execNovaEvent c x s
  | .novaRerun c x => Sys2Proof.Machine.execNovaRerun c x s
  | .arbiterAgeExpiry c cand u => Sys2Proof.Machine.execArbiterAgeExpiry c cand u s
  | .meridianTakesPlace slot shadowDiffers => Sys2Proof.Machine.execMeridianTakesPlace slot shadowDiffers s
  | .contextSwitchIn slot => Sys2Proof.Machine.execContextSwitchIn slot s
  | .preemptiveSwitch slot => Sys2Proof.Machine.execPreemptiveSwitch slot s
  | .selftestStart c => Sys2Proof.Machine.execSelftestStart c s
  | .selftestDone c fails => Sys2Proof.Machine.execSelftestDone c fails s
  | .powerSample watts16 => Sys2Proof.Machine.execPowerSample watts16 s
  | .powerControlTick => Sys2Proof.Machine.execPowerControlTick s
  | .powerRaise => Sys2Proof.Machine.execPowerRaise s
  | .powerCapUnmet => Sys2Proof.Machine.execPowerCapUnmet s
  | .setPowerCap m arg => Sys2Proof.Machine.execSetPowerCap m arg s
  | .alloc p => Sys2Proof.Machine.execAlloc p s
  | .free p => Sys2Proof.Machine.execFree p s
  | .migrate p => Sys2Proof.Machine.execMigrate p s
  | .winCreate p => Sys2Proof.Machine.execWinCreate p s
  | .winDestroy p => Sys2Proof.Machine.execWinDestroy p s
  | .windowFillStart slot view => Sys2Proof.Machine.execWindowFillStart slot view s
  | .windowEntryLanded slot view => Sys2Proof.Machine.execWindowEntryLanded slot view s
  | .runaheadFetch slot view page => Sys2Proof.Machine.execRunaheadFetch slot view page s
  | .patrolScrub corrected failed => Sys2Proof.Machine.execPatrolScrub corrected failed s
  | .pageMigration => Sys2Proof.Machine.execPageMigration s
  | .displacedReturn slot base => Sys2Proof.Machine.execDisplacedReturn slot base s
  | .nop q => Sys2Proof.Machine.execNop q s
  | .write q => Sys2Proof.Machine.execWrite q s
  | .read q => Sys2Proof.Machine.execRead q s
  | .accum q => Sys2Proof.Machine.execAccum q s
  | .winOpen q => Sys2Proof.Machine.execWinOpen q s
  | .winRevoke q => Sys2Proof.Machine.execWinRevoke q s
  | .revokeComplete w => Sys2Proof.Machine.execRevokeComplete w s
  | .pull q signer => Sys2Proof.Machine.execPull q signer s
  | .pullChunkCheck cn chunk => Sys2Proof.Machine.execPullChunkCheck cn chunk s
  | .connOpen q => Sys2Proof.Machine.execConnOpen q s
  | .connClose q => Sys2Proof.Machine.execConnClose q s
  | .openResend cn => Sys2Proof.Machine.execOpenResend cn s
  | .connNoPeer cn => Sys2Proof.Machine.execConnNoPeer cn s
  | .rekey cn => Sys2Proof.Machine.execRekey cn s
  | .retransmit cn seq => Sys2Proof.Machine.execRetransmit cn seq s
  | .rxWrite n f m => Sys2Proof.Machine.execRxWrite n f m s
  | .rxAccum n f m => Sys2Proof.Machine.execRxAccum n f m s
  | .rxReadReq n f m => Sys2Proof.Machine.execRxReadReq n f m s
  | .rxReadResp n f m => Sys2Proof.Machine.execRxReadResp n f m s
  | .rxAck n f m => Sys2Proof.Machine.execRxAck n f m s
  | .rxNak n f m => Sys2Proof.Machine.execRxNak n f m s
  | .rxOpen n f m b => Sys2Proof.Machine.execRxOpen n f m b s
  | .rxReset n f m => Sys2Proof.Machine.execRxReset n f m s
  | .rxClose n f m => Sys2Proof.Machine.execRxClose n f m s
  | .rxHello n f h => Sys2Proof.Machine.execRxHello n f h s
  | .helloResend n => Sys2Proof.Machine.execHelloResend n s
  | .linkMiswired n => Sys2Proof.Machine.execLinkMiswired n s
  | .rxBeacon n f m step digest => Sys2Proof.Machine.execRxBeacon n f m step digest s
  | .collStart slot => Sys2Proof.Machine.execCollStart slot s
  | .collReadyReceived n f m b => Sys2Proof.Machine.execCollReadyReceived n f m b s
  | .collSegmentReceived n f m k src dest fp body => Sys2Proof.Machine.execCollSegmentReceived n f m k src dest fp body s
  | .collComplete slot k status hi lo root newest => Sys2Proof.Machine.execCollComplete slot k status hi lo root newest s
  | .rawFrameReceived n f buf frame => Sys2Proof.Machine.execRawFrameReceived n f buf frame s
  | .pause n f q => Sys2Proof.Machine.execPause n f q s
  | .pfc n f en times => Sys2Proof.Machine.execPfc n f en times s
  | .pauseExpiry n q => Sys2Proof.Machine.execPauseExpiry n q s
  | .txFrameStart n staged => Sys2Proof.Machine.execTxFrameStart n staged s
  | .txUnderrun n => Sys2Proof.Machine.execTxUnderrun n s
  | .underrunDecay n => Sys2Proof.Machine.execUnderrunDecay n s
  | .xoff n cls level => Sys2Proof.Machine.execXoff n cls level s
  | .xoffRepeat n cls => Sys2Proof.Machine.execXoffRepeat n cls s
  | .xon n cls level => Sys2Proof.Machine.execXon n cls level s
  | .laneSpared n lane => Sys2Proof.Machine.execLaneSpared n lane s
  | .laneDegraded n lane => Sys2Proof.Machine.execLaneDegraded n lane s
  | .utilisationWindowEnd n txPercent rxPercent => Sys2Proof.Machine.execUtilisationWindowEnd n txPercent rxPercent s
  | .shedTo2 n f seq => Sys2Proof.Machine.execShedTo2 n f seq s
  | .shedTo1 n f seq => Sys2Proof.Machine.execShedTo1 n f seq s
  | .restore n received f lane seq => Sys2Proof.Machine.execRestore n received f lane seq s
  | .spare n f lane seq => Sys2Proof.Machine.execSpare n f lane seq s
  | .degrade n f seq => Sys2Proof.Machine.execDegrade n f seq s
  | .ack n f seq => Sys2Proof.Machine.execAck n f seq s
  | .refuse n f seq => Sys2Proof.Machine.execRefuse n f seq s
  | .laneRequestResend n => Sys2Proof.Machine.execLaneRequestResend n s
  | .linkUp n rate spare => Sys2Proof.Machine.execLinkUp n rate spare s
  | .linkDown n => Sys2Proof.Machine.execLinkDown n s
  | .retrain n => Sys2Proof.Machine.execRetrain n s
  | .getCertChain r => Sys2Proof.Machine.execGetCertChain r s
  | .getReport r kind slot nonce => Sys2Proof.Machine.execGetReport r kind slot nonce s
  | .loadImage r image signer => Sys2Proof.Machine.execLoadImage r image signer s
  | .keyImport r blob => Sys2Proof.Machine.execKeyImport r blob s
  | .keyErase r mac => Sys2Proof.Machine.execKeyErase r mac s
  | .pubInstall r input => Sys2Proof.Machine.execPubInstall r input s
  | .opkeyAdd r seq key signer => Sys2Proof.Machine.execOpkeyAdd r seq key signer s
  | .opkeyRemove r seq key signer => Sys2Proof.Machine.execOpkeyRemove r seq key signer s
  | .decommission r seq signer => Sys2Proof.Machine.execDecommission r seq signer s
  | .fabricLinkFail c hubToHub => Sys2Proof.Machine.execFabricLinkFail c hubToHub s
  | .engineFault d => Sys2Proof.Machine.execEngineFault d s
  | .drainExpiry d => Sys2Proof.Machine.execDrainExpiry d s
  | .suspectReplay d slot => Sys2Proof.Machine.execSuspectReplay d slot s
  | .replayTimeout => Sys2Proof.Machine.execReplayTimeout s
  | .replayOutcome reproduced => Sys2Proof.Machine.execReplayOutcome reproduced s
  | .coreReset c => Sys2Proof.Machine.execCoreReset c s
  | .portReset n => Sys2Proof.Machine.execPortReset n s
  | .enclosureReset d => Sys2Proof.Machine.execEnclosureReset d s
  | .hubReset => Sys2Proof.Machine.execHubReset s
  | .deviceReset => Sys2Proof.Machine.execDeviceReset s
  | .hangStream c x => Sys2Proof.Machine.execHangStream c x s
  | .hangQueue slot queue => Sys2Proof.Machine.execHangQueue slot queue s
  | .coreUnitWatchdog c x => Sys2Proof.Machine.execCoreUnitWatchdog c x s
  | .accessRequestWatchdog c => Sys2Proof.Machine.execAccessRequestWatchdog c s
  | .hubEngineWatchdog e => Sys2Proof.Machine.execHubEngineWatchdog e s
  | .tierCommandWatchdog slot => Sys2Proof.Machine.execTierCommandWatchdog slot s
  | .spareFillStart t bank region => Sys2Proof.Machine.execSpareFillStart t bank region s
  | .spareFillDone t spareFailed failed => Sys2Proof.Machine.execSpareFillDone t spareFailed failed s
  | .rcvSet p => Sys2Proof.Machine.execRcvSet p s
  | .starfixComplete slot => Sys2Proof.Machine.execStarfixComplete slot s
  | .restoreStarfix p => Sys2Proof.Machine.execRestoreStarfix p s
  | .autoRestore slot => Sys2Proof.Machine.execAutoRestore slot s
  | .getStatus m arg => Sys2Proof.Machine.execGetStatus m arg s
  | .getIdentity m arg => Sys2Proof.Machine.execGetIdentity m arg s
  | .readSensors m arg => Sys2Proof.Machine.execReadSensors m arg s
  | .readLog m arg inp => Sys2Proof.Machine.execReadLog m arg inp s
  | .getSetting m arg => Sys2Proof.Machine.execGetSetting m arg s
  | .setSetting m arg inp => Sys2Proof.Machine.execSetSetting m arg inp s
  | .store m arg => Sys2Proof.Machine.execStore m arg s
  | .setState m arg => Sys2Proof.Machine.execSetState m arg s
  | .fwStage m arg inp => Sys2Proof.Machine.execFwStage m arg inp s
  | .fwActivate m arg sigOk => Sys2Proof.Machine.execFwActivate m arg sigOk s
  | .fwRollback => Sys2Proof.Machine.execFwRollback s
  | .fwCommit m arg => Sys2Proof.Machine.execFwCommit m arg s
  | .getFwInfo m arg => Sys2Proof.Machine.execGetFwInfo m arg s
  | .maintain m arg => Sys2Proof.Machine.execMaintain m arg s
  | .reinstate m arg => Sys2Proof.Machine.execReinstate m arg s
  | .setSlot m arg => Sys2Proof.Machine.execSetSlot m arg s
  | .entdaa ordIn addr => Sys2Proof.Machine.execEntdaa ordIn addr s
  | .rstdaa => Sys2Proof.Machine.execRstdaa s
  | .hotJoin => Sys2Proof.Machine.execHotJoin s
  | .getpid => Sys2Proof.Machine.execGetpid s
  | .getbcr => Sys2Proof.Machine.execGetbcr s
  | .getdcr => Sys2Proof.Machine.execGetdcr s
  | .getstatus => Sys2Proof.Machine.execGetstatus s
  | .logNvmCopy seq => Sys2Proof.Machine.execLogNvmCopy seq s
  | .sensorUpdate readings => Sys2Proof.Machine.execSensorUpdate readings s
  | .almanacReplan c steps table => Sys2Proof.Machine.execAlmanacReplan c steps table s
  | .loadDerated u marginMV => Sys2Proof.Machine.execLoadDerated u marginMV s
  | .loadVerified u marginMV => Sys2Proof.Machine.execLoadVerified u marginMV s
  | .retrainDone u => Sys2Proof.Machine.execRetrainDone u s
  | .coreGate c => Sys2Proof.Machine.execCoreGate c s
  | .ctxLoad p => Sys2Proof.Machine.execCtxLoad p s
  | .ctxReload p => Sys2Proof.Machine.execCtxReload p s
  | .ctxUnload p => Sys2Proof.Machine.execCtxUnload p s
  | .ctxSwitchIn p => Sys2Proof.Machine.execCtxSwitchIn p s
  | .ctxSwitchOut p => Sys2Proof.Machine.execCtxSwitchOut p s
  | .ctxResume p => Sys2Proof.Machine.execCtxResume p s
  | .dwtPost p => Sys2Proof.Machine.execDwtPost p s
  | .dmaIn p recs abort => Sys2Proof.Machine.execDmaIn p recs abort s
  | .dmaOut p => Sys2Proof.Machine.execDmaOut p s
  | .dbCplRingWrite fn page v => Sys2Proof.Machine.execDbCplRingWrite fn page v s
  | .dbCplPtrWrite fn page v => Sys2Proof.Machine.execDbCplPtrWrite fn page v s
  | .pcieLinkDown => Sys2Proof.Machine.execPcieLinkDown s
  | .pcieLinkUp speed width flit => Sys2Proof.Machine.execPcieLinkUp speed width flit s
  | .pcieTrainRetry refclk => Sys2Proof.Machine.execPcieTrainRetry refclk s
  | .vfFlr k => Sys2Proof.Machine.execVfFlr k s
  | .pfFlr => Sys2Proof.Machine.execPfFlr s
  | .ideKm spdmOk link selective key => Sys2Proof.Machine.execIdeKm spdmOk link selective key s
  | .registerWrite bar2 fn offset v lo hi => Sys2Proof.Machine.execRegisterWrite bar2 fn offset v lo hi s
  | .perstNAssert micros => Sys2Proof.Machine.execPerstNAssert micros s
  | .hubLeavesReset => Sys2Proof.Machine.execHubLeavesReset s
  | .firmwareVerified ok => Sys2Proof.Machine.execFirmwareVerified ok s
  | .dawnEntry => Sys2Proof.Machine.execDawnEntry s
  | .readyAll => Sys2Proof.Machine.execReadyAll s
  | .standbyGood => Sys2Proof.Machine.execStandbyGood s
  | .powerStagesStart => Sys2Proof.Machine.execPowerStagesStart s
  | .pwrGood => Sys2Proof.Machine.execPwrGood s
  | .inputOutOfRange mv => Sys2Proof.Machine.execInputOutOfRange mv s
  | .powerStagesStop mv => Sys2Proof.Machine.execPowerStagesStop mv s
  | .standbyLost mv => Sys2Proof.Machine.execStandbyLost mv s
  | .refclkMissing a => Sys2Proof.Machine.execRefclkMissing a s
  | .refclkCheck a ok => Sys2Proof.Machine.execRefclkCheck a ok s
  | .ordInFalls => Sys2Proof.Machine.execOrdInFalls s
  | .railLeavesRegulation => Sys2Proof.Machine.execRailLeavesRegulation s

end Sys2Proof.Machine
end

