-- ==== Sys2Proof/Machine/Time.lean ====
section
/-! DEFINITION. The passing of time: one tick of the 32.768 kHz counter (13 R404), and what happens in it whatever is
commanded (02 R78 to R80 and R83, 06 R180, 10 R303 and R312, 11 R318 and R326, 12 R359 and R382, 14). -/

namespace Sys2Proof.Machine

/-- Ticks of an hour. -/
def hourTicks : Nat := 3600 * 32768

/-! Compute cores -/

/-- A core whose array clock runs counts cycles; how many in a tick is a free value (log 1). -/
def tickCycles (k : Nat) (c : Core) : Core :=
  if c.clock = 0 then c
  else { c with cycles := c.cycles + Config.freeWord k, busyCycles := c.busyCycles + Config.freeWord (k + 1) }

/-- A word of a core's SRAM may come to hold an error; whether, which word and which kind of error are free values (R79, R80,
log 54). -/
def tickSram (osWords k : Nat) (c : Core) : Core :=
  let w := Config.freeWord k
  let v := (Config.freeWord (k + 1)).toNat
  let slot := v % 80
  let x : SramErr :=
    if w.getLsbD 1 then { mem := .os, word := v / 128 % max 1 osWords, ue := w.getLsbD 3 }
    else if w.getLsbD 2 then { mem := .acc, slot := slot, word := v / 128 % (if slot < 64 then 32768 else 65536), ue := w.getLsbD 3 }
    else { mem := .vec, word := v / 128 % 32768, ue := w.getLsbD 3 }
  if w.getLsbD 0 && (c.resident.isSome || c.shadow.isSome) then { c with live := { c.live with errs := c.live.errs ++ [x] } }
  else c

/-- The clock of a core that wakes has locked (R83, R394, log 61). -/
def tickLock (s : State) (n : Nat) (c : Core) : Core :=
  if c.state = .locking then
    { c with state := if c.resident.isSome || c.shadow.isSome then .running else .idle, clock := s.runClock n }
  else c

/-- Whether no context is active on core `n` and nothing else holds it (R78). -/
def State.testable (s : State) (n : Nat) : Bool :=
  let c := s.core n
  (decide (c.state = .idle) || decide (c.state = .gated)) && c.resident.isNone && !s.heldOn n

/-- Time in operation counts toward the next array self-test, which starts at the first quiet moment after each 24 hours where
AUTO is set (R78). -/
def tickTest (s : State) (n : Nat) (c : Core) : Core :=
  if s.powerState = 0 then c
  else if c.auto && s.testable n && decide (24 * hourTicks ≤ c.sinceTest + 1) then
    { c with state := .idle, busy := true, sinceTest := 0, clock := s.runClock n }
  else { c with sinceTest := c.sinceTest + 1 }

/-- The operand-store words that the context on core `n`, or the one that it shadows, is granted (R42). -/
def State.osWordsOf (s : State) (n : Nat) : Nat :=
  let c := s.core n
  (((c.resident.or c.shadow).map fun k => ((s.ctx k).desc.core n).bankCount).getD 0) * 65536

/-- Time in DAY counts toward the next re-plan of the core (R421). -/
def tickPlan (s : State) (c : Core) : Core := if s.powerState = 2 then { c with sincePlan := c.sincePlan + 1 } else c

def tickCore (s : State) (n : Nat) (c : Core) : Core :=
  tickLock s n (tickTest s n (tickSram (s.osWordsOf n) (s.fresh + 4 * n + 2) (tickPlan s (tickCycles (s.fresh + 4 * n) c))))

/-! Tiers, ports and links -/

/-- A line of a tier may come to hold an error, which the next read or scrub meets (R180, log 54). -/
def tickTier (k : Nat) (s : State) : Tiers :=
  let w := Config.freeWord k
  if w.getLsbD 0 && s.mgt.awake then
    { s.tiers with latent := s.tiers.latent ++
        [{ line := (Config.freeWord (k + 1)).toNat % ((boardBase + s.boardPages) * 32768), ue := w.getLsbD 1 }] }
  else s.tiers

/-- The receive buffers of a port drain; a class that holds a peer back stays over 24 KiB until XON (R303, R306). -/
def tickLevel (k : Nat) (p : Net) (cls : Nat) : Nat :=
  let level := Tbl.get 0 p.rxLevel cls
  max (if p.fcHeld ∨ cls ∈ p.xoff then min level 24577 else 0) (level - (Config.freeWord (k + cls)).toNat)

/-- A port with a link drains its buffers, and its FEC corrects codewords (R303, R312). -/
def tickPort (k : Nat) (p : Net) : Net :=
  if !p.linkUp then p
  else
    let q := p.count 16 ((Config.freeWord (k + 8)).toNat % 2 ^ 32)
    { q with rxLevel := (List.range 8).foldl (fun t cls => Tbl.put t cls (tickLevel k p cls)) q.rxLevel }

/-- Everything but the requests: cores, tiers, ports, the corrected errors of the host link and the fabric's retries. -/
def tickUnits (s : State) : State :=
  { s with
    ticks := (s.ticks + 1) % 2 ^ 48
    cores := s.cores.map fun p => (p.1, tickCore s p.1 p.2)
    tiers := tickTier (s.fresh + 32) s
    hif := { s.hif with linkCe := if s.modl.pcieClk then satAdd Config.sat64 s.hif.linkCe ((Config.freeWord (s.fresh + 34)).toNat % 2 ^ 32)
                                  else s.hif.linkCe }
    rcv := { s.rcv with fabricRetries := if s.mgt.awake then
                          satAdd Config.sat64 s.rcv.fabricRetries ((Config.freeWord (s.fresh + 35)).toNat % 2 ^ 32)
                        else s.rcv.fabricRetries }
    nets := s.nets.map fun p => (p.1, tickPort (s.fresh + 36 + 9 * p.1) p.2)
    fresh := s.fresh + 180 }

/-! Requests and hours -/

/-- A LOAD_IMAGE that runs completes, and zero-filled enclosures leave RESETTING (R318, R326, log 60). -/
def tickWaits (s : State) : State :=
  if s.sec.busy.isNone && !(s.sec.encls.any fun p => decide (p.2.st = .resetting)) then s
  else s.close (endLoad (endResetting s))

/-- Time in DAY counts toward RCV.MTBF.HOURS, which is stored at each full hour. -/
def tickDay (s : State) : State :=
  if s.powerState ≠ 2 then s
  else if s.rcv.dayTicks + 1 < hourTicks then { s with rcv := { s.rcv with dayTicks := s.rcv.dayTicks + 1 } }
  else
    let h := satAdd Config.sat32 s.rcv.hours 1
    devStore (fun t => { t with hours := h }) { s with rcv := { s.rcv with dayTicks := 0, hours := h } }

/-- Cycles and busy cycles of core `n` in the second that ends. -/
def State.lastSecond (s : State) (n : Nat) : Nat × Nat :=
  let c := s.core n
  ((c.cycles - c.cyclesMark).toNat, (c.busyCycles - c.busyMark).toNat)

/-- The second counts for a unit's window: array utilisation above 70 %, of its own core, or as the mean over all cores (R423). -/
def State.qualifies (s : State) (u : CalUnit) : Bool :=
  let own := fun n => decide (7 * (s.lastSecond n).1 < 10 * (s.lastSecond n).2)
  match u with
  | .core n => own n.val
  | .near n => own n.val
  | _ =>
    let share := fun n => 1000000 * (s.lastSecond n).2 / max 1 (s.lastSecond n).1
    decide (700000 * 8 < ((List.range 8).map share).sum)

/-- At each full second the open windows count it (R423). -/
def tickSecond (s : State) : State :=
  if s.ticks % 32768 ≠ 0 then s
  else { s with
    mgt := { s.mgt with load := s.mgt.load.map fun p =>
      if p.2.opened && s.qualifies p.1 then (p.1, { p.2 with seconds := p.2.seconds + 1 }) else p }
    cores := s.cores.map fun p => (p.1, { p.2 with cyclesMark := p.2.cycles, busyMark := p.2.busyCycles }) }

/-- One tick of the 32.768 kHz counter, while the twilight domain runs. -/
def tick (s : State) : State :=
  if !s.modl.standby then s else tickDay (tickWaits (tickSecond (tickUnits s)))

end Sys2Proof.Machine
end

