-- ==== Sys2Proof/Safety.lean ====
section
/-! DEFINITION. The words the statements use: safe runs, the range of the power manager, and when an instruction may be
dispatched or may issue. -/

namespace Sys2Proof

open Sys2Proof.Machine

/-- The step from `s` answers a next state. -/
def Safe (s : State) : Prop := ∃ t, step s = .next t

/-- `n` steps from `s`, each answering a next state. -/
def SafeRun : Nat → State → Prop
  | 0, _ => True
  | n + 1, s => ∃ t, step s = .next t ∧ SafeRun n t

/-- The common clock between its floor and its top, pacing between 8 and 16 sixteenths, and pacing below 16 only with the
clock at its floor (R29, R30, R32). -/
def PowerOk (p : Power) : Prop :=
  Config.clockFloor ≤ p.clock ∧ p.clock ≤ Config.clockTop ∧ 8 ≤ p.pacing ∧ p.pacing ≤ 16
    ∧ (p.pacing < 16 → p.clock = Config.clockFloor)

/-- The phase that issues from the stream's queue, or from B's deferred queue. -/
def phaseOf (dfr : Bool) : Phase := if dfr then .issueDeferred else .issue

/-- The sequencer of stream `x` of core `n` may dispatch (R121, R133), and the word at its PC, in a tier that is not retraining
(R425), decodes to `k` (R142, R144). -/
structure AtPc (s : State) (n : Nat) (x : StrmId) (i : Site) (k : Kw) : Prop where
  here : site s n x = some i
  free : i.open_ = true
  trained : s.memTrains i.slot i.t.pc.toNat 16 = false
  word : ∃ w, fetchWord s i.slot i.t.pc = .ok w ∧ decodeKw x w = .ok k

/-- The head of the access or execute side of stream `x` of core `n`, or of B's deferred queue, is `p`, and it may issue:
no re-run, eclipse, preemption or fault stops the stream (R134, R141, R365), its tokens, interlocks and order let it (R60,
R122, R123), and its unit grants it (R125 to R127). -/
structure MayIssue (s : State) (n : Nat) (x : StrmId) (dfr access : Bool) (i : Site) (p : Pend) : Prop where
  here : site s n x = some i
  clear : (i.t.rerun || i.waits) = false
  head : i.t.head dfr access = some p
  ready : (envOf s n x i p).ready i.t access = true
  grant : grantOk s n x dfr access (envOf s n x i p) = true
  onB : dfr = true → x = .B

/-- What the issuing instruction sees: the grant has cleared its candidate's age (R126). -/
def issueEnv (s : State) (n : Nat) (x : StrmId) (dfr access : Bool) (i : Site) (p : Pend) : Env :=
  { envOf s n x i p with s := clearAge s n x dfr access (envOf s n x i p) }

/-- No vector word that the instruction reads is poisoned or holds an uncorrectable error (R80). -/
def cleanLanes (e : Env) : Bool := !(e.met.any fun y => y.ue && decide (y.mem = .vec))

/-- On stream `x` of core `n` an instruction of operation `o` may issue, and `e` is what it sees; its vector operands can be
read. -/
def Issues (s : State) (n : Nat) (x : StrmId) (dfr access : Bool) (o : KwOp) (e : Env) : Prop :=
  ∃ i p, MayIssue s n x dfr access i p ∧ p.kw.op = o ∧ e = issueEnv s n x dfr access i p ∧ cleanLanes e = true

/-- What an instruction did, with the errors in the words that it read counted and their rows noted (R79, R80). -/
def noted (d : Done) (e : Env) : Done := { d with s := d.s.noteSram e.n (e.ctx.desc.core e.n).bankBase e.met }

/-- No result of the instruction calls for a fault or a nova event (R97, R104). -/
def goesOn (e : Env) (m : Numeric) : Prop :=
  (m.unrep && recNfFault e.ctx.recipe) = false ∧ (m.fp32Ovf && !recOvfRecord e.ctx.recipe) = false
    ∧ (e.p.inBr = true → ∀ c, m.classOvf = some c → novaFor e.ctx e c = none)

/-- The instruction has left its queue for the pipelines and is in flight, with the instructions in flight before it. -/
def inFlight (e : Env) (access : Bool) (t : State) : Prop :=
  ∃ f ∈ ((t.core e.n).live.strm e.x).flights, f.idx = e.p.idx ∧ f.onA = access

/-- The command that dispatches or issues an instruction of an operation that a side carries out; a SYNC operation is issued for a side that
its SIDE names. HALT stands apart: its last issue ends the context. -/
def kwCommand (n : CoreId) (x : StrmId) (ph : Phase) (sd : Side) (o : KwOp) : Option Instr :=
  match o with
  | .loadw _ => some (.mmLoadw n x ph) | .run _ => some (.mmRun n x ph)
  | .accRead _ => some (.accRead n x ph) | .accWrite _ => some (.accWrite n x ph)
  | .rscale _ => some (.accRscale n x ph) | .resume _ => some (.accResume n x ph)
  | .alu _ => some (.vecAlu n x ph) | .red _ => some (.vecRed n x ph) | .osmx _ => some (.vecOsmx n x ph)
  | .fill _ => some (.vecFill n x ph) | .vdrop _ => some (.vecDrop n x ph)
  | .mload _ => some (.moveLoad n x ph) | .mstore _ => some (.moveStore n x ph) | .tload _ => some (.moveTload n x ph)
  | .gather _ => some (.moveGather n x ph) | .dwtq _ => some (.moveDwtq n x ph)
  | .wait f => if sideOk f.side (Side.acc sd) then some (.syncWait n x ph sd) else none
  | .inc f => if sideOk f.side (Side.acc sd) then some (.syncInc n x ph sd) else none
  | .token f => if sideOk f.side (Side.acc sd) then some (.syncToken n x ph sd) else none
  | .reduce _ => some (.collReduce n x ph) | .collGather _ => some (.collGather n x ph) | .norm _ => some (.collNorm n x ph)
  | .meridian => some (.meridian n x ph)
  | .lbegin _ => some (.layerBegin n x ph) | .lend => some (.layerEnd n x ph) | .srcid _ => some (.layerSrcid n x ph)
  | _ => none

/-- The checks and the work of the instruction at issue. -/
def kwCarry (sd : Side) (e : Env) : Except FaultCode Done :=
  match e.p.kw.op with
  | .loadw _ => carryLoadw e | .run _ => carryRun e
  | .accRead _ => carryAccRead e | .accWrite _ => carryAccWrite e | .rscale _ => carryRscale e | .resume _ => carryResume e
  | .alu _ => carryAlu e | .red _ => carryRed e | .osmx _ => carryOsmx e | .fill _ => carryFill e | .vdrop _ => carryVdrop e
  | .mload _ => carryLoad e | .mstore _ => carryStore e | .tload _ => carryTload e | .gather _ => carryGather e
  | .dwtq _ => carryDwtq e
  | .wait _ => carryWait (Side.acc sd) e | .inc _ => carryInc (Side.acc sd) e | .token _ => carryToken (Side.acc sd) e
  | .reduce _ => runColl 1 e | .collGather _ => runColl 2 e | .norm _ => runColl 3 e
  | .meridian => carryMeridian e
  | .lbegin _ => carryLbegin e | .lend => carryLend e | .srcid _ => carrySrcid e
  | _ => .error .insnBadOpcode

/-- The side that issues it: the access side for MOVE, COLL and MERIDIAN, the side named for SYNC, else the execute side (R121). -/
def kwAccess (sd : Side) (o : KwOp) : Bool :=
  match o with
  | .wait _ => Side.acc sd | .inc _ => Side.acc sd | .token _ => Side.acc sd
  | .meridian => true
  | o => o.onAccess

/-- The core state of core `n`. -/
def coreOf (t : State) (n : CoreId) : CoreCtx := (t.core n.val).live

/-! Host commands -/

/-- A posting of a command to the doorbell page of `slot` that is carried out at once: the firmware is READY and the link up, the
entry's DB.PENDING bit is clear, no command waits anywhere, no completion record is held, nothing refuses it early (R434, R436, R437),
no core without a context has a row still to be replaced (R79), and no replay of the slot's context runs (R370). -/
structure HostFree (s : State) (slot : Nat) (p : Post) : Prop where
  page : s.slotOf p.fn p.page = some slot
  up : s.hif.ready = true ∧ s.hif.linkUp = true
  clear : (s.page slot).pending.getLsbD p.index.toNat = false
  idle : s.waiting = []
  ring : (s.page slot).held = []
  early : s.early slot p.ide = none
  rows : ∀ n < 8, (s.core n).resident = none → (s.core n).rowMarks = []
  still : s.replayed ≠ some slot

/-- The command as its slot's queue takes it: the entry with its row's opcode. -/
def hostCmd (p : Post) (control : Bool) (op : Nat) (recs : List HostRec) (abort : Bool) : Posted :=
  { index := p.index.toNat, control := control, entry := withOp p.entry op, fn := p.fn, early := none, recs := recs, abort := abort }

/-- The state in which a posted command is carried out: its entry stored, its DB.PENDING bit set, the command queued. -/
def hostStart (s : State) (slot : Nat) (x : Posted) : State :=
  s.setPage slot { s.page slot with
    entries := Tbl.put (s.page slot).entries x.index x.entry, pending := setBit (s.page slot).pending x.index, queue := [x] }

/-- What follows a command that was carried out in `u`, started in `v`: status records, then its completion record with `status`
and `bytes`, which clears its DB.PENDING bit; then what waits may go on (R436, R437, R440). -/
def hostEnd (v : State) (slot : Nat) (x : Posted) (u : State) (status bytes : Nat) : State :=
  pumpRounds none 1 (pumpSlot false slot 32
    ((v.settle (u.setPage slot { u.page slot with queue := [] })).addCpl slot (x.cpl status bytes)))

/-- What follows a command that was begun and waits. -/
def hostWaits (slot : Nat) (x : Posted) (u : State) : State :=
  pumpRounds none 1 (u.setPage slot { u.page slot with queue := [{ x with started := true }] })

/-- Nothing of the machine's data outside the cores differs but for the counters: every byte of the tiers, every DWT,
collective, network, recovery and power record. -/
def dataKept (s t : State) : Prop :=
  t.tiers = s.tiers ∧ t.dwt = s.dwt ∧ t.col = s.col ∧ t.nets = s.nets ∧ t.rcv = s.rcv ∧ t.power = s.power ∧ t.fuse = s.fuse

/-- Nothing of the machine's data outside the cores differs, nor does any counter. -/
def tiersKept (s t : State) : Prop := t.counters = s.counters ∧ dataKept s t

/-- What became of an instruction that issued (R82, R129): one with a zero count has completed, and its completion is counted, or
in a bracket held, or in a replay left out of a counter that others raise (R370); any other is in flight and no counter has moved. -/
def issued (e : Env) (access zero : Bool) (s t : State) : Prop :=
  if zero = true then
    (∀ f ∈ ((t.core e.n).live.strm e.x).flights, f.idx ≠ e.p.idx ∨ f.onA ≠ access)
      ∧ t.counters = (if e.p.kw.tail.en = true ∧ e.p.inBr = false ∧ e.ctx.ctrFrozen e.slot e.p.kw.tail.dctr.toNat = false
          then (s.raiseCtr (e.ctx.desc.ctrBase + e.p.kw.tail.dctr.toNat) 1).counters else s.counters)
  else inFlight e access t ∧ t.counters = s.counters

/-- Address `a` of the tiers is one of the `n` bytes at context address `va`, in the frame of its page or in the frame that the
page is moving to (R178, R204). -/
def storedAt (s : State) (slot va n a : Nat) : Prop :=
  ∃ j < n, ∃ p, s.pte slot (vpage ((va + j) % addrTop)) = some p
    ∧ ∃ f, (f = p.frame ∨ p.moving = some f) ∧ a = f * Config.pageBytes + (va + j) % Config.pageBytes

/-- Each page of the slot's address space lies in a frame of its own, none is under a move, and no page of an allocation lies in a
frame of a window; each window holds its frames. -/
structure OwnFrames (s : State) (slot : Nat) : Prop where
  apart : ∀ a b p q, s.pte slot a = some p → s.pte slot b = some q → p.frame = q.frame → a = b
  still : ∀ a p, s.pte slot a = some p → p.moving = none
  plain : ∀ a p, s.pte slot a = some p → s.viewAt slot a = none → ∀ w ∈ s.tiers.wins, p.frame ∉ w.frames
  whole : ∀ w ∈ s.tiers.wins, w.frames.length = w.depth * w.slotPages

/-- A starfix whose pages and windows are each recorded once, none of them a page of a view, and whose page records are in order. -/
structure GoodStarfix (s : State) (slot : Nat) (x : Starfix) : Prop where
  once : (x.pages.map Prod.fst).Nodup ∧ (x.winPos.map Prod.fst).Nodup
  plain : ∀ p ∈ x.pages, s.viewAt slot p.1 = none
  bytes : ∀ p ∈ x.pages, Tbl.wf 0#8 p.2 = true ∧ ∀ q ∈ p.2, q.1 < Config.pageBytes

/-- Byte `o` of page `vp` of the slot's address space. -/
def pageByte (s : State) (slot vp o : Nat) : Option Byte :=
  (s.pte slot vp).map fun p => Tbl.get 0#8 s.tiers.mem (p.frame * Config.pageBytes + o)

/-- What a restore of the starfix of step `step` leaves (R385, R387): `y` is the committed starfix that is restored, in LOCAL or in MIRROR,
`z` the state from which its pages are restored, where a restore from MIRROR has made the allocations that were missing. The context is READY,
at the step after the starfix, with its counters, stream positions, ladder state and window positions; each page reads as its copy, in
address spaces in order and with nothing in flight on the connections that open afresh. -/
def restored (slot encl : Nat) (step : W64) (mirror : Bool) (s z : State) (y : Starfix) (u : State) : Prop :=
  (if mirror then makeObjs slot encl y.objs s else some s) = some z
    ∧ y.step = step ∧ y.committed = true ∧ y.unusable = false
    ∧ (∃ d, (s.ctx slot).rcv.desc = some d
        ∧ (if mirror then y ∈ Tbl.get [] s.rcv.mirrors d.mirrorKey else y ∈ (s.ctx slot).rcv.starfixes))
    ∧ (u.ctx slot).st = .ready ∧ (u.ctx slot).s = y.s + 1 ∧ (u.ctx slot).rcv.committedStep = some step
    ∧ (u.ctx slot).faulting = false ∧ (u.ctx slot).colls = [] ∧ (u.ctx slot).perm = y.perm
    ∧ (∀ k < (s.ctx slot).desc.ctrCount, u.counter ((s.ctx slot).desc.ctrBase + k) = y.counters.getD k 0)
    ∧ (∀ (n : Nat) (x : StrmId),
        let a := (Tbl.get {} (u.ctx slot).saved n).strm x
        let b := (Tbl.get {} y.streams n).strm x
        a.pc = b.pc ∧ a.xs = b.xs ∧ a.loops = b.loops ∧ a.srcId = b.srcId)
    ∧ (GoodStarfix z slot y → OwnFrames z slot → Memory.wf z.tiers.mem = true → (∀ p ∈ y.conns, (s.conn p.1).ops = []) →
        (∀ r ∈ y.winPos, ∀ k w, z.winAt slot r.1 = some (k, w) → ∃ v, u.tiers.wins[k]? = some v ∧ v.pos = r.2)
        ∧ (mirror = true → ∀ p ∈ y.pages, ∀ o < Config.pageBytes, (z.pte slot p.1).isSome = true →
            pageByte u slot p.1 o = some (Tbl.get 0#8 p.2 o))
        ∧ (mirror = false → ∀ d, (s.ctx slot).rcv.desc = some d →
            let at_ := fun i => d.slotPage y.half + recordPages + i
            (∀ i < y.pages.length, (z.pte slot (at_ i)).isSome = true ∧ z.viewAt slot (at_ i) = none ∧ at_ i ∉ y.pages.map Prod.fst) →
            ∀ i p, y.pages[i]? = some p → (z.pte slot p.1).isSome = true → ∀ o < Config.pageBytes,
              pageByte u slot p.1 o = pageByte z slot (at_ i) o))

/-- The operand store and vector registers of a core state. -/
def storeKept (l m : CoreCtx) : Prop := m.os = l.os ∧ m.vregs = l.vregs

/-- The accumulator slots, the spill slots and the tile buffers of a core state. -/
def arrayKept (l m : CoreCtx) : Prop := m.acc = l.acc ∧ m.spill = l.spill ∧ m.tiles = l.tiles

/-- Of the ports only port `n` differs, and of the tiers, cores, contexts, counters, windows, connections, power and recovery
nothing does. -/
def portKept (s t : State) (n : Nat) : Prop :=
  (∀ m, m ≠ n → t.net m = s.net m) ∧ t.tiers = s.tiers ∧ t.cores = s.cores ∧ t.ctxs = s.ctxs ∧ t.counters = s.counters
    ∧ t.dwt = s.dwt ∧ t.power = s.power ∧ t.rcv = s.rcv

/-- The message of connection `cn` with header fields `h`, number `txn` and payload `bs`, sealed under `key` in `cn`'s direction,
waits in its queue of port `n`, as `s` frames it there (R235 to R237, R302). -/
def queuedMsg (s u : State) (n cn txn key : Nat) (h : Hdr) (bs : List Byte) : Prop :=
  let c := s.conn cn
  let head := s.frameHead n (s.net n).dwtMac (s.connNet cn c n) (c.queueOf h.typ) (40 + bs.length + 16)
  ⟨c.queueOf h.typ, head.len, c.encl,
    { head := head, hdr := h.bytes c.desc.peerConn cn txn, under := some (key, s.dirBit cn c), payload := .bytes bs }⟩ ∈ (u.net n).txq

/-- Counter `i` of port `n` by its number of R312. -/
def portCount (s : State) (n i : Nat) : Nat := Tbl.get 0 (s.net n).counters i

/-- The device takes a security request whose descriptor is in order: READY, no other request running, link up, a ring with a request in it, reserved fields
zero, usable addresses and the right input length (R355, R356); a device out of service serves certificates and reports only. -/
structure ReqOk (s : State) (r : SecReq) (inLen outNeed : Nat) (serves : Bool) : Prop where
  takes : s.takesReq = true
  form : r.resvOk = true ∧ r.addrOk = true ∧ r.inLen = inLen
  out : outNeed ≤ r.outLen
  service : s.rcv.outOfService = false ∨ serves = true

/-- The request of descriptor `w` has completed in `t` with a status and its output, as R355 and R301 say. -/
def reqDoneAt (w : ReqPlace) (t s : State) (r : SecReq) (status : Nat) (bytes : List Byte) : Prop :=
  (bytes ≠ [] → Output.hostWrite r.outAddr.toNat bytes ∈ t.out)
    ∧ Output.hostWrite (w.addr + 0x30) (leBytes 2 status) ∈ t.out
    ∧ Output.hostWrite (w.addr + 0x34) (leBytes 4 bytes.length) ∈ t.out
    ∧ Output.hostWrite (w.addr + 0x38) (leBytes 1 1) ∈ t.out
    ∧ t.sec.head = (w.index + 1) % w.entries ∧ t.sec.tail = s.sec.tail
    ∧ (s.hif.linkUp = true → Output.msix 0 1 ∈ t.out)


/-- The completion of a request in host memory (R355): its output at OUT_ADDR, and STATUS, OUT_WRITTEN and DONE in its
descriptor; the ring's head steps on. -/
def reqDone (t : State) (s : State) (r : SecReq) (status : Nat) (bytes : List Byte) : Prop :=
  reqDoneAt s.sec.headPlace t s r status bytes

/-- What an engine fault of domain `d` leaves once its reset has begun in `u`: a replay of another domain that ran is over, and that
domain's suspects are judged where it was the last of them (R371). -/
def afterFault (d : Domain) (s u : State) : State :=
  match s.rcv.replaying with
  | some (e, _) => if e = d then u else finishReplays e u
  | none => u

/-- A block of BAR0 (R433): where it lies, and the offsets of it that a write may change, as its map gives them. -/
structure RegBlock where
  base : Nat
  size : Nat
  writes : List Nat
  deriving DecidableEq, Repr

/-- The blocks of BAR0 (R83, R207, R268, R292, R312, R357, R390, R428, R447). -/
def regBlocks : List RegBlock :=
  [⟨0x0, 0x100000, [0x10, 0x18, 0x20, 0x28, 0x30]⟩,
   ⟨0x100000, 0x100000, [0x10, 0x18, 0x28, 0x30, 0x40] ++ (List.range 512).map (0x1000 + 8 * ·)⟩,
   ⟨0x200000, 0x200000, [0x10, 0x18, 0x48, 0x50]⟩,
   ⟨0x400000, 0x200000, [0x10, 0x20, 0x28, 0x30, 0x38, 0x40, 0x48]⟩,
   ⟨0x600000, 0x200000, [0x08, 0x10, 0x18, 0x20, 0x28, 0x30]⟩,
   ⟨0x800000, 0x800000, [0x80, 0x88, 0x90, 0x98, 0xC8]⟩,
   ⟨0x3000000, 0x1000000, [0x08, 0x10, 0x30, 0x38]⟩]
  ++ (List.range 8).map (fun n => ⟨0x1000000 + n * 0x100000, if n = 7 then 0x900000 else 0x100000, [0x20, 0x28, 0x38]⟩)
  ++ (List.range 16).map (fun n => ⟨0x2000000 + n * 0x40000, if n = 15 then 0xC40000 else 0x40000,
      [0x08, 0x10, 0x18, 0x20, 0x28, 0x30, 0x38, 0x40, 0x48, 0x58, 0x60, 0x68] ++ (List.range 20).map (0x100 + 8 * ·)⟩)

/-- A mailbox command that is served and passes the general checks (R395, R399); its buffer is in canonical order. -/
structure MboxOk (s : State) (m : Mbox) (c : MbCmd) : Prop where
  serves : s.serves m = true
  accepted : s.mbRefuse c = none
  up : m = .host → s.mgt.awake = true
  buf : Tbl.rising (s.mbox m).buf = true

/-- How a mailbox shows a command that is done: its registers, the status, and the output bytes in the buffer; the host mailbox
also raises MBOX_DONE, and the controller reads the other's answer (R395, R396). -/
def mboxShows (t : State) (m : Mbox) (c : MbCmd) (status : Nat) (out : List Byte) : Prop :=
  (t.mbox m).done = true ∧ (t.mbox m).status = status ∧ (t.mbox m).opcode = c.op ∧ (t.mbox m).outLen = out.length
    ∧ Tbl.slice 0#8 (t.mbox m).buf 0 out.length = out ∧ (m = .host → t.mgt.alert.getLsbD 0 = true)
    ∧ (m = .i3c → Output.i3c (t.mbox m).read ∈ t.out)

/-- Of the machine only the mailboxes, the alert and what reports it may differ. -/
def mboxOnly (s t : State) : Prop :=
  t.cores = s.cores ∧ t.ctxs = s.ctxs ∧ t.tiers = s.tiers ∧ t.nets = s.nets ∧ t.dwt = s.dwt ∧ t.rcv = s.rcv ∧ t.power = s.power
    ∧ t.mgt.working = s.mgt.working ∧ t.mgt.store = s.mgt.store ∧ t.mgt.awake = s.mgt.awake

end Sys2Proof
end

