-- ==== Sys2Proof/Certificates/Slice0/Obligations.lean ====
section
/-! DEFINITION. The statements about the model, for the provers. -/

open Sys2Proof Sys2Proof.Machine

/-! The array and the accumulators -/

/-- R150, R151, R64, R65: MM.LOADW puts the rows it reads into the tile buffer that TB names, or into both for FP32; MM.RUN
accumulates into the slot, adds its K to the slot's count and owes a spill where the count reaches SPILL_K; the spill
empties the slot, binds the spill slot and folds every element into its pair. The operand store, the vector registers and
the tiers stay; the instruction is in flight and no counter has moved, but one with a zero count completes at once (R82). That
SPILL_K is compared with the count before it saturates is the model's reading (log 26), and that an overwriting FP32 run may
spill into a slot that holds INT32 is the model's choice (log 53). -/
def Obligations.ArrayRowsComplete : Prop :=
  (∀ (s : State) (n : CoreId) (x : StrmId) (dfr : Bool) (f : LoadwF) (e : Env) (kp : Nat) (rows : List RowCodes),
    let g := e.eff f.cls.toNat f.lsrc
    let cols := if f.kl = 0#11 then 0 else f.nl.toNat
    Issues s n.val x dfr false (.loadw f) e →
    e.chkCtr = .ok () → e.chkClass f.cls.toNat = .ok () → g.fmt.kp = some kp → f.kl.toNat ≤ kp →
    e.chkBracket false = .ok () →
    e.chkOs (osAddr e.p.x1 f.off.toNat) (f.stride.toNat * 64) cols (g.rowBytes f.kl.toNat) = .ok () →
    e.readRows g (osAddr e.p.x1 f.off.toNat) (f.stride.toNat * 64) cols f.kl.toNat = .ok rows →
    ∃ t, exec (.mmLoadw n x (phaseOf dfr)) s = .next t
      ∧ (coreOf t n).tile x (b2n f.tb) = some { eff := g, kl := f.kl.toNat, nl := f.nl.toNat, cols := rows }
      ∧ (g.fmt = .fp32 → (coreOf t n).tile x 0 = some { eff := g, kl := f.kl.toNat, nl := f.nl.toNat, cols := rows }
          ∧ (coreOf t n).tile x 1 = some { eff := g, kl := f.kl.toNat, nl := f.nl.toNat, cols := rows })
      ∧ (coreOf t n).acc = (coreOf s n).acc ∧ (coreOf t n).spill = (coreOf s n).spill
      ∧ storeKept (coreOf s n) (coreOf t n) ∧ dataKept s t ∧ issued e false e.zero s t)
  ∧ (∀ (s : State) (n : CoreId) (x : StrmId) (dfr : Bool) (f : RunF) (e : Env) (kp : Nat) (rows : List RowCodes),
    let a := e.eff f.cls.toNat f.lsrc
    let tile := e.live.tile e.x (if a.fmt = .fp32 then 0 else b2n f.tb)
    let t := tile.getD { eff := a, kl := 0, nl := 0, cols := [] }
    let int := a.plainInt && t.eff.plainInt
    let typ : SlotType := if int then .int32 else .fp32
    let slot := e.live.slot f.slot.toNat
    let sp := e.live.spillSlot f.spillSlot.toNat
    let k := min f.k.toNat t.kl
    let m := min f.n.toNat t.nl
    let works := decide (0 < f.m.toNat) && decide (0 < m)
    let count := (if f.mode then 0 else slot.k) + k
    let spills := f.spill && works && decide (spillK e.spillV ≤ count)
    let r := runSlot int f.mode (groupSize f.group) k f.m.toNat m a rows t slot
    let reads := if works && decide (0 < k) then f.m.toNat else 0
    Issues s n.val x dfr false (.run f) e →
    e.chkCtr = .ok () → e.chkSlot f.slot.toNat = .ok () → (f.spill = true → e.chkSpill f.spillSlot.toNat = .ok ()) →
    e.chkClass f.cls.toNat = .ok () → a.fmt.kp = some kp → f.k.toNat ≤ kp → t.eff.fmt.arrayClass = a.fmt.arrayClass →
    f.group ≠ 3#2 → (f.mode = true ∨ slot.typ = .empty ∨ slot.typ = typ) → (f.spill && int) = false →
    (spills = true → sp.owner = none ∨ sp.owner = some f.slot.toNat) → e.chkBracket false = .ok () →
    e.chkCarried (slot.carried || (spills && sp.carried)) = .ok () →
    e.chkOs (osAddr e.p.x1 f.off.toNat) (f.stride.toNat * 64) reads (a.rowBytes f.k.toNat) = .ok () →
    (works && !f.mode && e.live.accBad f.slot.toNat f.m.toNat m) = false →
    e.readRows a (osAddr e.p.x1 f.off.toNat) (f.stride.toNat * 64) reads f.k.toNat = .ok rows →
    goesOn e { fp32Ovf := works && r.2 } →
    ∃ u, exec (.mmRun n x (phaseOf dfr)) s = .next u
      ∧ (coreOf u n).acc = (if works then Tbl.put (coreOf s n).acc f.slot.toNat { r.1 with k := min 65535 count }
          else (coreOf s n).acc)
      ∧ ((coreOf u n).strm x).spills = ((coreOf s n).strm x).spills
          ++ (if spills then [⟨f.slot.toNat, f.spillSlot.toNat, e.p.idx⟩] else [])
      ∧ (coreOf u n).spill = (coreOf s n).spill ∧ (coreOf u n).tiles = (coreOf s n).tiles
      ∧ storeKept (coreOf s n) (coreOf u n) ∧ dataKept s u ∧ issued e false (!works) s u)
  ∧ (∀ (s : State) (n : CoreId) (x : StrmId) (i : Site) (d : SpillDue) (ds : List SpillDue),
    let r := spillInto d.slot ((coreOf s n).slot d.slot) ((coreOf s n).spillSlot d.spillSlot)
    site s n.val x = some i → i.t.spills = d :: ds →
    (coreOf s n).accBad d.slot 256 256 = false → (coreOf s n).accBad (64 + d.spillSlot) 256 256 = false →
    (r.2.2 && !recOvfRecord i.ctx.recipe) = false →
    ∃ t, exec (.spill n x) s = .next t
      ∧ (coreOf t n).acc = Tbl.put (coreOf s n).acc d.slot r.1
      ∧ (coreOf t n).spill = Tbl.put (coreOf s n).spill d.spillSlot r.2.1
      ∧ r.1.elems = [] ∧ r.1.k = 0 ∧ r.2.1.full = true ∧ r.2.1.owner = some d.slot
      ∧ ((coreOf t n).strm x).spills = ds ∧ (coreOf t n).tiles = (coreOf s n).tiles
      ∧ storeKept (coreOf s n) (coreOf t n) ∧ tiersKept s t)

/-- R153, R154, R155, R66, R75: what ACC.READ writes into the operand store through its class, and the clearing of its source;
what ACC.WRITE puts into a slot; ACC.RSCALE's product by row; ACC.RESUME's fold of a spill slot into its slot. -/
def Obligations.AccRowsComplete : Prop :=
  (∀ (s : State) (n : CoreId) (x : StrmId) (dfr : Bool) (f : AccReadF) (e : Env),
    let g := e.eff f.cls.toNat f.lsrc
    let base := osAddr e.p.x1 f.off.toNat
    let stride := f.stride.toNat * 64
    let m := if f.n = 0#9 then 0 else f.m.toNat
    let len := g.rowBytes f.n.toNat
    let o := e.classRows f.cls.toNat f.lsrc base stride (accRows e.live f)
    Issues s n.val x dfr false (.accRead f) e →
    e.chkCtr = .ok () → (if f.src then e.chkSpill f.slot.toNat else e.chkSlot f.slot.toNat) = .ok () →
    e.chkClass f.cls.toNat = .ok () → e.chkBracket false = .ok () →
    e.chkCarried (f.clear && (if f.src then (e.live.spillSlot f.slot.toNat).carried
      else (e.live.slot f.slot.toNat).carried)) = .ok () →
    e.chkOs base stride m len = .ok () → (m < 2 ∨ len ≤ stride) →
    (0 < m → e.live.accBad (f.slot.toNat + if f.src then 64 else 0) m f.n.toNat = false) →
    (0 < m → goesOn e (e.classNumeric f.cls.toNat f.lsrc o.tally)) →
    ∃ t, exec (.accRead n x (phaseOf dfr)) s = .next t
      ∧ (coreOf t n).os = (if m = 0 then (coreOf s n).os else ((coreOf s n).osWriteRows base stride o.rows).os)
      ∧ (coreOf t n).acc = (if f.clear ∧ f.src = false then Tbl.put (coreOf s n).acc f.slot.toNat { written := true }
          else (coreOf s n).acc)
      ∧ (coreOf t n).spill = (if f.clear ∧ f.src = true then Tbl.put (coreOf s n).spill f.slot.toNat { written := true }
          else (coreOf s n).spill)
      ∧ (0 < m → t.ctx e.slot = e.ctx.record e.n (statSlots e.p.kw.stats f.statsSlot.toNat
          (recAutoSlot (recipeEnt e.ctx.recipe f.cls.toNat)) (decide (g.fmt ≠ recFmt (recipeEnt e.ctx.recipe f.cls.toNat)))) o.tally)
      ∧ (coreOf t n).vregs = (coreOf s n).vregs ∧ (coreOf t n).tiles = (coreOf s n).tiles ∧ dataKept s t ∧ issued e false e.zero s t)
  ∧ (∀ (s : State) (n : CoreId) (x : StrmId) (dfr : Bool) (f : AccWriteF) (e : Env) (rows : List RowCodes),
    let g := e.eff f.cls.toNat f.lsrc
    let slot := e.live.slot f.slot.toNat
    let m := if f.n = 0#9 then 0 else f.m.toNat
    Issues s n.val x dfr false (.accWrite f) e →
    e.chkCtr = .ok () → e.chkSlot f.slot.toNat = .ok () → e.chkClass f.cls.toNat = .ok () → g.fmt ≠ .fp32c →
    e.chkBracket false = .ok () → e.chkCarried slot.carried = .ok () →
    e.chkOs (osAddr e.p.x1 f.off.toNat) (f.stride.toNat * 64) m (g.rowBytes f.n.toNat) = .ok () →
    e.readRows g (osAddr e.p.x1 f.off.toNat) (f.stride.toNat * 64) m f.n.toNat = .ok rows →
    ∃ t, exec (.accWrite n x (phaseOf dfr)) s = .next t
      ∧ (coreOf t n).acc = (if m = 0 then (coreOf s n).acc
          else Tbl.put (coreOf s n).acc f.slot.toNat (accWriteSlot g rows f.n.toNat slot))
      ∧ (coreOf t n).spill = (coreOf s n).spill ∧ (coreOf t n).tiles = (coreOf s n).tiles
      ∧ storeKept (coreOf s n) (coreOf t n) ∧ dataKept s t ∧ issued e false e.zero s t)
  ∧ (∀ (s : State) (n : CoreId) (x : StrmId) (dfr : Bool) (f : RscaleF) (e : Env),
    let slot := e.live.slot f.slot.toNat
    Issues s n.val x dfr false (.rscale f) e →
    e.chkCtr = .ok () → e.chkSlot f.slot.toNat = .ok () → e.chkReg f.vreg.toNat = .ok () → slot.typ ≠ .int32 →
    e.chkBracket false = .ok () → e.chkCarried slot.carried = .ok () → e.live.accBad f.slot.toNat f.m.toNat 256 = false →
    ∃ t, exec (.accRscale n x (phaseOf dfr)) s = .next t
      ∧ (coreOf t n).acc = (if slot.typ = .empty ∨ f.m = 0#9 then (coreOf s n).acc
          else Tbl.put (coreOf s n).acc f.slot.toNat (rscaleSlot e.live f.vreg.toNat f.m.toNat slot))
      ∧ (coreOf t n).spill = (coreOf s n).spill ∧ (coreOf t n).tiles = (coreOf s n).tiles
      ∧ storeKept (coreOf s n) (coreOf t n) ∧ dataKept s t ∧ issued e false e.zero s t)
  ∧ (∀ (s : State) (n : CoreId) (x : StrmId) (dfr : Bool) (f : ResumeF) (e : Env),
    let slot := e.live.slot f.slot.toNat
    let sp := e.live.spillSlot f.spillSlot.toNat
    let r := resumeElems slot sp
    Issues s n.val x dfr false (.resume f) e →
    e.chkCtr = .ok () → e.chkSlot f.slot.toNat = .ok () → e.chkSpill f.spillSlot.toNat = .ok () → slot.typ ≠ .int32 →
    (sp.owner = none ∨ sp.owner = some f.slot.toNat) → e.chkBracket false = .ok () →
    e.chkCarried (slot.carried || sp.carried) = .ok () →
    (sp.full = true → e.live.accBad f.slot.toNat 256 256 = false ∧ e.live.accBad (64 + f.spillSlot.toNat) 256 256 = false) →
    goesOn e { fp32Ovf := sp.full && r.2 } →
    ∃ t, exec (.accResume n x (phaseOf dfr)) s = .next t
      ∧ (coreOf t n).acc = (if sp.full then Tbl.put (coreOf s n).acc f.slot.toNat
            { slot with typ := .fp32, written := true, elems := r.1 } else (coreOf s n).acc)
      ∧ (coreOf t n).spill = (if sp.full then Tbl.put (coreOf s n).spill f.spillSlot.toNat { written := true }
          else (coreOf s n).spill)
      ∧ (coreOf t n).tiles = (coreOf s n).tiles ∧ storeKept (coreOf s n) (coreOf t n) ∧ dataKept s t ∧ issued e false e.zero s t)

/-! The vector unit -/

/-- R156, R157, R160, R161, R221: the lanes, or the row group, that VEC.ALU, VEC.FILL and VEC.DROP write, VEC.DROP with the key
that the core loaded; memory, slots and tiles stay, and one with a zero count completes at once (R82). -/
def Obligations.VectorLanes : Prop :=
  (∀ (s : State) (n : CoreId) (x : StrmId) (dfr : Bool) (f : AluF) (e : Env) (as : List W32),
    let fn := f.fn.toNat
    let c := f.count.toNat
    let g := e.eff f.cls.toNat f.lsrc
    let base := osAddr e.p.x1 f.off.toNat
    let stride := f.stride.toNat * 64
    let w := segW f.seg.toNat
    let vs := as.zipIdx.map fun p => aluFn fn (s.fresh + p.2) p.1
      (if aluUsesB fn then e.live.lane f.vb.toNat (if f.bb then 0 else p.2) else 0#32)
      (if aluUsesD fn then e.live.lane f.vd.toNat p.2 else 0#32)
    let o := e.classRows f.cls.toNat f.lsrc base stride (groupSrcs w vs)
    Issues s n.val x dfr false (.alu f) e →
    e.chkCtr = .ok () → e.chkRegs ((if f.osr = 2#2 && !aluUsesD fn then [] else [f.vd.toNat]) ++ f.reads) = .ok () →
    (f.osr ≠ 0#2 → e.chkClass f.cls.toNat = .ok ()) → e.chkBracket false = .ok () →
    e.chkGroupOp f.osr g base stride w c = .ok () →
    (if c = 0 then .ok [] else if f.osr = 1#2 then e.readGroup g base stride w c else .ok (e.live.lanes f.va.toNat c)) = .ok as →
    (f.osr = 2#2 → c ≠ 0 → goesOn e (e.classNumeric f.cls.toNat f.lsrc o.tally)) →
    ∃ t, exec (.vecAlu n x (phaseOf dfr)) s = .next t
      ∧ (f.osr ≠ 2#2 → c ≠ 0 → (coreOf t n).vregs = ((coreOf s n).setLanes f.vd.toNat 0 vs).vregs ∧ (coreOf t n).os = (coreOf s n).os)
      ∧ (f.osr = 2#2 → c ≠ 0 → (coreOf t n).os = ((coreOf s n).osWriteRows base stride o.rows).os
          ∧ (coreOf t n).vregs = (coreOf s n).vregs)
      ∧ (c = 0 → storeKept (coreOf s n) (coreOf t n))
      ∧ arrayKept (coreOf s n) (coreOf t n) ∧ dataKept s t ∧ issued e false e.zero s t)
  ∧ (∀ (s : State) (n : CoreId) (x : StrmId) (dfr : Bool) (f : FillF) (e : Env),
    Issues s n.val x dfr false (.fill f) e → e.chkCtr = .ok () → e.chkReg f.vd.toNat = .ok () →
    f.lane.toNat + f.count.toNat ≤ 1024 → e.chkBracket false = .ok () →
    ∃ t, exec (.vecFill n x (phaseOf dfr)) s = .next t
      ∧ (coreOf t n).vregs = ((coreOf s n).setLanes f.vd.toNat f.lane.toNat (List.replicate f.count.toNat f.imm)).vregs
      ∧ (coreOf t n).os = (coreOf s n).os ∧ arrayKept (coreOf s n) (coreOf t n) ∧ dataKept s t ∧ issued e false e.zero s t)
  ∧ (∀ (s : State) (n : CoreId) (x : StrmId) (dfr : Bool) (f : VdropF) (e : Env),
    Issues s n.val x dfr false (.vdrop f) e → e.chkCtr = .ok () →
    e.chkRegs [f.vd.toNat, f.va.toNat, f.vb.toNat] = .ok () → e.chkBracket false = .ok () →
    ∃ t, exec (.vecDrop n x (phaseOf dfr)) s = .next t
      ∧ (coreOf t n).vregs = ((coreOf s n).setLanes f.vd.toNat 0 (((coreOf s n).lanes f.va.toNat f.count.toNat).zipIdx.map fun p =>
          dropLane (s.core n.val).key f.layer e.ctx.step f.w16 e.p.x1.toNat f.thresh.toNat p.2 p.1 ((coreOf s n).lane f.vb.toNat 0))).vregs
      ∧ (coreOf t n).os = (coreOf s n).os ∧ arrayKept (coreOf s n) (coreOf t n) ∧ dataKept s t ∧ issued e false e.zero s t)

/-- R158, R159, R73, R74: the results of the segments that VEC.RED and VEC.OSMX write to their lanes; memory, slots and
tiles stay. -/
def Obligations.VectorReductions : Prop :=
  (∀ (s : State) (n : CoreId) (x : StrmId) (dfr : Bool) (f : RedF) (e : Env) (vs : List W32),
    let c := f.count.toNat
    let g := e.eff f.cls.toNat f.lsrc
    let base := osAddr e.p.x1 f.off.toNat
    let stride := f.stride.toNat * 64
    let w := segW f.seg.toNat
    let segs := groupRows w c
    let rs := (List.range segs).map fun r => redSeg f.fn.toNat w r vs
    let l1 := (coreOf s n).setLanes f.vd.toNat f.lane.toNat (rs.map Prod.fst)
    Issues s n.val x dfr false (.red f) e → e.chkCtr = .ok () →
    e.chkRegs (f.vd.toNat :: (if f.osr = 1#2 then [] else [f.va.toNat]) ++ if f.fn = 3#6 then [f.vb.toNat] else []) = .ok () →
    f.lane.toNat + segs ≤ 1024 → ¬(f.fn = 3#6 ∧ f.vd = f.vb) →
    (f.osr ≠ 0#2 → e.chkClass f.cls.toNat = .ok ()) → e.chkBracket false = .ok () →
    e.chkGroupOp f.osr g base stride w c = .ok () →
    (if f.osr = 1#2 then e.readGroup g base stride w c else .ok (e.live.lanes f.va.toNat c)) = .ok vs →
    ∃ t, exec (.vecRed n x (phaseOf dfr)) s = .next t
      ∧ (coreOf t n).vregs = (if c = 0 then (coreOf s n).vregs
          else if f.fn = 3#6 then (l1.setLanes f.vb.toNat f.lane.toNat (rs.map Prod.snd)).vregs else l1.vregs)
      ∧ (coreOf t n).os = (coreOf s n).os ∧ arrayKept (coreOf s n) (coreOf t n) ∧ dataKept s t ∧ issued e false e.zero s t)
  ∧ (∀ (s : State) (n : CoreId) (x : StrmId) (dfr : Bool) (f : OsmxF) (e : Env) (xs : List W32),
    let c := f.count.toNat
    let vm := f.vm.toNat
    let ln := f.lane.toNat
    let g := e.eff f.cls.toNat f.lsrc
    let base := osAddr e.p.x1 f.off.toNat
    let stride := f.stride.toNat * 64
    let w := segW f.seg.toNat
    let segs := groupRows w c
    let regs := (if f.osr = 2#2 then [] else [f.vd.toNat]) ++ if f.osr = 1#2 then [] else [f.va.toNat]
    let rs := (List.range segs).map fun r =>
      osmxSeg w (e.live.lane vm (ln + r)) (e.live.lane (vm + 1) (ln + r)) ((xs.drop (r * w)).take w)
    let l1 := (((coreOf s n).setLanes vm ln (rs.map (·.m))).setLanes (vm + 1) ln (rs.map (·.s))).setLanes (vm + 2) ln (rs.map (·.c))
    let ps := (rs.map (·.ps)).flatten
    let o := e.classRows f.cls.toNat f.lsrc base stride (groupSrcs w ps)
    Issues s n.val x dfr false (.osmx f) e → e.chkCtr = .ok () → vm < 62 → e.chkRegs ([vm, vm + 1, vm + 2] ++ regs) = .ok () →
    (∀ r ∈ regs, r < vm ∨ vm + 2 < r) → ln + segs ≤ 1024 →
    (f.osr ≠ 0#2 → e.chkClass f.cls.toNat = .ok ()) → e.chkBracket false = .ok () →
    e.chkGroupOp f.osr g base stride w c = .ok () →
    (if f.osr = 1#2 then e.readGroup g base stride w c else .ok (e.live.lanes f.va.toNat c)) = .ok xs →
    (f.osr = 2#2 → c ≠ 0 → goesOn e (e.classNumeric f.cls.toNat f.lsrc o.tally)) →
    ∃ t, exec (.vecOsmx n x (phaseOf dfr)) s = .next t
      ∧ (c ≠ 0 → (coreOf t n).vregs = (if f.osr = 2#2 then l1 else l1.setLanes f.vd.toNat 0 ps).vregs
          ∧ (coreOf t n).os = (if f.osr = 2#2 then (l1.osWriteRows base stride o.rows).os else (coreOf s n).os))
      ∧ (c = 0 → storeKept (coreOf s n) (coreOf t n))
      ∧ arrayKept (coreOf s n) (coreOf t n) ∧ dataKept s t ∧ issued e false e.zero s t)

/-! Moves -/

/-- R162, R163, R98, R164, R165, R166: what MOVE.LOAD, MOVE.TLOAD and MOVE.GATHER put into the operand store, what MOVE.STORE
puts into memory, and the entries that MOVE.DWTQ appends to its queue. Where no row lies in a view MOVE.LOAD leaves
every byte of the tiers as it is. MOVE.STORE leaves every byte outside its rows where no page it stores to still has an undo copy to
be taken in the step (R380: the first write of a step to such a page copies it into the undo area) and no replay runs of its
context (R370: a replay writes scratch pages). A replay's MOVE.DWTQ posts nothing (R370). -/
def Obligations.MovesComplete : Prop :=
  (∀ (s : State) (n : CoreId) (x : StrmId) (dfr : Bool) (f : MvF) (e : Env),
    let w := f.rowLen.toNat * 64
    let rows := if w = 0 then 0 else f.rows.toNat
    let ob := osAddr e.p.x2 f.off.toNat
    let os := f.stride.toNat * 64
    let mb := e.p.x1.toNat
    let ms := f.mstride.toNat * 64
    let r := loadRows e.slot mb ms ob os w rows 0 e.s e.live
    Issues s n.val x dfr true (.mload f) e → e.chkCtr = .ok () → e.chkBracket false = .ok () →
    e.chkOs ob os rows w = .ok () → e.chkMem mb ms rows w = .ok () → e.chkTag mb ms rows w = .ok () → r.2.2 = false →
    ∃ t, exec (.moveLoad n x (phaseOf dfr)) s = .next t
      ∧ (coreOf t n).os = r.2.1.os ∧ (coreOf t n).vregs = (coreOf s n).vregs ∧ arrayKept (coreOf s n) (coreOf t n)
      ∧ t.tiers = r.1.tiers ∧ t.counters = s.counters ∧ inFlight e true t
      ∧ ((∀ k < rows, s.touchesView e.slot (memRow mb ms k) w = false) → t.tiers.mem = s.tiers.mem ∧ t.tiers.pt = s.tiers.pt
          ∧ (s.tiers.latent = [] → t.tiers = s.tiers)))
  ∧ (∀ (s : State) (n : CoreId) (x : StrmId) (dfr : Bool) (f : MvF) (e : Env),
    let w := f.rowLen.toNat * 64
    let rows := if w = 0 then 0 else f.rows.toNat
    let mw := if f.add = 2#2 then 2 * w else w
    let ob := osAddr e.p.x2 f.off.toNat
    let os := f.stride.toNat * 64
    let mb := e.p.x1.toNat
    let ms := f.mstride.toNat * 64
    let bytes := (List.range rows).map fun k => e.live.osRead (ob + k * os) w
    let r := storeRows e.slot mb ms f.add bytes 0 e.s
    Issues s n.val x dfr true (.mstore f) e → e.chkCtr = .ok () → e.chkBracket (decide (f.add ≠ 0#2)) = .ok () →
    e.chkOs ob os rows w = .ok () → e.chkMem mb ms rows mw = .ok () → e.chkView mb ms rows mw = .ok () →
    (f.add ≠ 0#2 → ∀ k < rows, s.inPackage e.slot (memRow mb ms k) mw = true) → e.chkTag mb ms rows mw = .ok () →
    (∀ k < rows, e.live.osBad (ob + k * os) w = false) → r.2 = false →
    ∃ t, exec (.moveStore n x (phaseOf dfr)) s = .next t
      ∧ t.tiers = r.1.tiers
      ∧ (e.slot ≠ replaySlot → s.replayed ≠ some e.slot →
          (∀ k < rows, ∀ j < mw, vpage ((memRow mb ms k + j) % addrTop) ∉ (s.ctx e.slot).rcv.protect) →
          ∀ a, (∀ k < rows, ¬ storedAt s e.slot (memRow mb ms k) mw a) → Tbl.get 0#8 t.tiers.mem a = Tbl.get 0#8 s.tiers.mem a)
      ∧ storeKept (coreOf s n) (coreOf t n) ∧ arrayKept (coreOf s n) (coreOf t n) ∧ inFlight e true t)
  ∧ (∀ (s : State) (n : CoreId) (x : StrmId) (dfr : Bool) (f : TloadF) (e : Env),
    let g := e.eff f.cls.toNat f.lsrc
    let d := tloadDest g
    let none_ := decide (f.rows = 0#11) || decide (f.cols = 0#11)
    let rows := if none_ then 0 else f.rows.toNat
    let cols := if none_ then 0 else f.cols.toNat
    let w := g.rowBytes cols
    let len := d.rowBytes rows
    let ob := osAddr e.p.x2 f.off.toNat
    let os := f.stride.toNat * 64
    let mb := e.p.x1.toNat
    let ms := f.mstride.toNat * 64
    let r := readRowsMem e.slot mb ms w rows 0 e.s
    let src := r.2.map fun p => g.unpackRow cols p.1
    let out := (List.range cols).map fun c => d.packRow (src.map fun row => tloadCode g row c) []
    Issues s n.val x dfr true (.tload f) e → e.chkCtr = .ok () → e.chkClass f.cls.toNat = .ok () →
    e.chkBracket false = .ok () → e.chkOs ob os cols len = .ok () → e.chkMem mb ms rows w = .ok () →
    (cols < 2 ∨ len ≤ os) → e.chkTag mb ms rows w = .ok () → r.2.any Prod.snd = false →
    ∃ t, exec (.moveTload n x (phaseOf dfr)) s = .next t
      ∧ (coreOf t n).os = ((coreOf s n).osWriteRows ob os out).os ∧ (coreOf t n).vregs = (coreOf s n).vregs
      ∧ arrayKept (coreOf s n) (coreOf t n) ∧ t.tiers = r.1.tiers ∧ t.counters = s.counters ∧ inFlight e true t)
  ∧ (∀ (s : State) (n : CoreId) (x : StrmId) (dfr : Bool) (f : GatherF) (e : Env),
    let w := f.rowLen.toNat * 64
    let c := f.count.toNat
    let ix := e.p.x3.toNat
    let ob := osAddr e.p.x2 f.off.toNat
    let os := f.stride.toNat * 64
    let mb := e.p.x1.toNat
    let ms := f.mstride.toNat * 64
    let r := gatherRows e.slot mb ms w (if w = 0 then [] else gatherIdx e.live ix c) e.s
    let cands := gatherLines ob os r.2
    Issues s n.val x dfr true (.gather f) e → e.chkCtr = .ok () → e.chkBracket false = .ok () →
    (c = 0 ∨ (ix % 4 = 0 ∧ ix + 4 * c ≤ e.osSize ∧ e.live.osBad ix (4 * c) = false)) →
    e.chkOs ob os c w = .ok () → (c = 0 ∨ w = 0 ∨ mb % 64 = 0) → rowFault r.2 = none →
    ∃ t, exec (.moveGather n x (phaseOf dfr)) s = .next t
      ∧ (coreOf t n).os = (gatherWrite r.1.fresh cands ((cands.map Prod.fst).dedup) (coreOf s n)).os
      ∧ (coreOf t n).vregs = (coreOf s n).vregs ∧ arrayKept (coreOf s n) (coreOf t n) ∧ t.tiers = r.1.tiers ∧ inFlight e true t)
  ∧ (∀ (s : State) (n : CoreId) (x : StrmId) (dfr : Bool) (f : DwtqF) (e : Env) (q : Nat),
    let w := 64 * f.count.toNat
    let va := e.p.x1.toNat
    let m := e.s.readVA e.slot va w
    let es := if w = 0 then [] else readQEnts m.bytes
    Issues s n.val x dfr true (.dwtq f) e → e.chkCtr = .ok () → e.chkBracket (decide (f.count ≠ 0#9)) = .ok () →
    e.chkMem va 0 (if w = 0 then 0 else 1) w = .ok () → e.s.queueOf e.slot f.queue.toNat = some q →
    e.s.queueForeign q (e.s.home e.slot) = false → e.chkTag va 0 (if w = 0 then 0 else 1) w = .ok () → (w ≠ 0 → m.bad = false) →
    ∃ t, exec (.moveDwtq n x (phaseOf dfr)) s = .next t
      ∧ (w ≠ 0 → e.slot ≠ replaySlot → (t.queue q).ctx = some e.slot ∧ (t.queue q).next = (s.queue q).next + es.length
          ∧ (t.queue q).entries = (s.queue q).entries ++ es.zipIdx.map fun p => ((s.queue q).next + p.2, p.1))
      ∧ (∀ j, j ≠ q → t.queue j = s.queue j) ∧ (w = 0 ∨ e.slot = replaySlot → t.queue q = s.queue q)
      ∧ storeKept (coreOf s n) (coreOf t n) ∧ arrayKept (coreOf s n) (coreOf t n) ∧ t.counters = s.counters ∧ inFlight e true t)

/-! Dispatch, and the faults of dispatch and issue -/

/-- R121, R146, R148, R175, R220, R133: dispatch puts the decoded instruction at the end of its queue (the deferred queue for a
deferred one) with the registers it names resolved, the PC moves on by one word, and a running stream shows WAITING where a head is
held, RUNNING elsewhere; HALT likewise. -/
def Obligations.DispatchQueues : Prop :=
  (∀ (s : State) (n : CoreId) (x : StrmId) (sd : Side) (i : Site) (k : Kw) (c : Instr),
    AtPc s n.val x i k → kwCommand n x .dispatch sd k.op = some c → i.t.room k = true → i.t.beginWaits k.op = false →
    ∃ t, exec c s = .next t
      ∧ (coreOf t n).strm x = (i.t.enqueue i.ctx k).seqEffect i.t k.op
      ∧ (((coreOf t n).strm x).st = .running →
          t.strmCode i.slot n.val x = if t.headHeld i.slot n.val x ((coreOf t n).strm x) then 2 else 1)
      ∧ ((coreOf t n).strm x).pc = pcAdd i.t.pc 1 ∧ ((coreOf t n).strm x).next = i.t.next + 1
      ∧ (∃ p, p.idx = i.t.next ∧ p.kw = k ∧ p.x1 = i.t.xr k.op.xsel.1 ∧ p.inBr = i.t.opened
          ∧ (if k.dfr then ((coreOf t n).strm x).dq = i.t.dq ++ [p] ∧ ((coreOf t n).strm x).q = i.t.q
             else ((coreOf t n).strm x).q = i.t.q ++ [p] ∧ ((coreOf t n).strm x).dq = i.t.dq))
      ∧ tiersKept s t ∧ storeKept (coreOf s n) (coreOf t n) ∧ arrayKept (coreOf s n) (coreOf t n))
  ∧ (∀ (s : State) (n : CoreId) (x : StrmId) (i : Site) (k : Kw),
    AtPc s n.val x i k → k.op = .halt → i.t.room k = true →
    ∃ t, exec (.halt n x .dispatch) s = .next (t.close (haltEnds n.val t))
      ∧ ((coreOf t n).strm x).pc = pcAdd i.t.pc 1 ∧ tiersKept s t)

/-- R134, R80: an instruction that fails a check raises its fault on the stream and is discarded with everything later; one that
cannot be fetched or decoded faults at dispatch; one that reads a vector word with an uncorrectable error raises SRAM_UE. Counters
and the queues of other units stay, and memory and the core's data where nothing later was in flight. -/
def Obligations.FailedCheckFaults : Prop :=
  (∀ (s : State) (n : CoreId) (x : StrmId) (dfr : Bool) (sd : Side) (o : KwOp) (e : Env) (c : Instr) (f : FaultCode),
    Issues s n.val x dfr (kwAccess sd o) o e → kwCommand n x (phaseOf dfr) sd o = some c → kwCarry sd e = .error f →
    ((coreOf s n).strm x).fault = none →
    ∃ t, exec c s = .next t ∧ ((coreOf t n).strm x).fault = some { code := f, idx := e.p.idx }
      ∧ (t.ctx e.slot).faulting = true ∧ (∀ p ∈ ((coreOf t n).strm x).q, p.idx < e.p.idx)
      ∧ (∀ p ∈ ((coreOf t n).strm x).dq, p.idx < e.p.idx) ∧ t.counters = s.counters ∧ t.dwt = s.dwt ∧ t.col = s.col
      ∧ ((∀ g ∈ ((coreOf s n).strm x).flights, g.idx ≤ e.p.idx) →
          t.tiers = s.tiers ∧ storeKept (coreOf s n) (coreOf t n) ∧ arrayKept (coreOf s n) (coreOf t n)))
  ∧ (∀ (s : State) (n : CoreId) (x : StrmId) (dfr : Bool) (sd : Side) (i : Site) (p : Pend) (c : Instr) (d : Done),
    let e := issueEnv s n.val x dfr (kwAccess sd p.kw.op) i p
    MayIssue s n.val x dfr (kwAccess sd p.kw.op) i p → kwCommand n x (phaseOf dfr) sd p.kw.op = some c →
    cleanLanes e = false → kwCarry sd e = .ok d → ((coreOf s n).strm x).fault = none →
    ∃ t, exec c s = .next t ∧ ((coreOf t n).strm x).fault = some { code := .sramUe .vec, idx := p.idx }
      ∧ (t.ctx e.slot).faulting = true ∧ t.counters = s.counters ∧ t.dwt = s.dwt ∧ t.col = s.col)
  ∧ (∀ (s : State) (n : CoreId) (x : StrmId) (sd : Side) (o : KwOp) (i : Site) (c : Instr) (f : FaultCode),
    site s n.val x = some i → i.open_ = true → s.memTrains i.slot i.t.pc.toNat 16 = false → kwCommand n x .dispatch sd o = some c →
    (fetchWord s i.slot i.t.pc = .error f
      ∨ ∃ w, fetchWord s i.slot i.t.pc = .ok w ∧ decodeKw x w = .error f ∧ (KwOp.read w = some o ∨ KwOp.read w = none)) →
    ∃ t, exec c s = .next t ∧ ((coreOf t n).strm x).fault = some { code := f, idx := i.t.next }
      ∧ (t.ctx i.slot).faulting = true ∧ t.counters = s.counters ∧ t.dwt = s.dwt ∧ t.col = s.col)

/-! SYNC and COLL -/

/-- R130, R168: a SYNC.WAIT whose counter has its target completes, another is held; a held one is met when its counter gets there and fills
the token it pushed. SYNC.INC adds AMOUNT to its counter, in a bracket to the held amount, in a replay to none that others raise (R370);
SYNC.TOKEN moves its tokens. -/
def Obligations.SyncComplete : Prop :=
  (∀ (s : State) (n : CoreId) (x : StrmId) (dfr : Bool) (sd : Side) (f : WaitF) (e : Env),
    let target := waitTarget f e.ctx.s.toNat e.p.loopIx
    Issues s n.val x dfr (Side.acc sd) (.wait f) e → sideOk f.side (Side.acc sd) = true → e.p.kw.wf x = true →
    e.chkIndex f.ctr.toNat = .ok () → e.chkBracket false = .ok () →
    ∃ t, exec (.syncWait n x (phaseOf dfr) sd) s = .next t
      ∧ ((coreOf t n).strm x).heldOn e.p.kw.dfr (Side.acc sd) = (if target ≤ s.relCtr e.slot f.ctr.toNat then none
          else some { idx := e.p.idx, ctr := f.ctr.toNat, target := target, dfr := e.p.kw.dfr, push := e.p.kw.tail.push })
      ∧ tiersKept s t ∧ storeKept (coreOf s n) (coreOf t n) ∧ arrayKept (coreOf s n) (coreOf t n))
  ∧ (∀ (s : State) (n : CoreId) (x : StrmId) (dfr : Bool) (sd : Side) (i : Site) (w : HeldWait),
    site s n.val x = some i → i.t.heldOn dfr (Side.acc sd) = some w → w.target ≤ s.relCtr i.slot w.ctr →
    ∃ t, exec (.waitMet n x sd dfr) s = .next t ∧ ((coreOf t n).strm x).heldOn dfr (Side.acc sd) = none
      ∧ ((coreOf t n).strm x).hand = (if w.push then i.t.hand.fill w.idx else i.t.hand)
      ∧ tiersKept s t ∧ storeKept (coreOf s n) (coreOf t n) ∧ arrayKept (coreOf s n) (coreOf t n))
  ∧ (∀ (s : State) (n : CoreId) (x : StrmId) (dfr : Bool) (sd : Side) (f : IncF) (e : Env),
    Issues s n.val x dfr (Side.acc sd) (.inc f) e → sideOk f.side (Side.acc sd) = true → e.p.kw.wf x = true →
    e.chkIndex f.ctr.toNat = .ok () → e.chkBracket false = .ok () →
    (e.p.inBr && decide (f.amount ≠ 0#32) && e.heldFull f.ctr.toNat) = false →
    ∃ t, exec (.syncInc n x (phaseOf dfr) sd) s = .next t
      ∧ (e.p.inBr = false → t.counters = (if f.amount.toNat = 0 ∨ e.ctx.ctrFrozen e.slot f.ctr.toNat = true then s.counters
          else (s.raiseCtr (e.ctx.desc.ctrBase + f.ctr.toNat) f.amount.toNat).counters))
      ∧ (e.p.inBr = true → t.counters = s.counters ∧ ∀ b, ((coreOf s n).strm x).bracket = some b → f.amount.toNat ≠ 0 →
          e.p.kw.tail.pop = false →
          ((coreOf t n).strm x).bracket = some { b with held := addHeld b.held f.ctr.toNat f.amount.toNat })
      ∧ t.tiers = s.tiers ∧ t.dwt = s.dwt ∧ storeKept (coreOf s n) (coreOf t n) ∧ arrayKept (coreOf s n) (coreOf t n))
  ∧ (∀ (s : State) (n : CoreId) (x : StrmId) (dfr : Bool) (sd : Side) (f : TokenF) (e : Env),
    Issues s n.val x dfr (Side.acc sd) (.token f) e → sideOk f.side (Side.acc sd) = true → e.p.kw.wf x = true →
    e.chkBracket false = .ok () →
    ∃ t, exec (.syncToken n x (phaseOf dfr) sd) s = .next t
      ∧ ((coreOf t n).strm x).hand = (let h := (((coreOf s n).strm x).take e.p (Side.acc sd)).hand
          if e.p.kw.tail.push then h.fill e.p.idx else h)
      ∧ tiersKept s t ∧ storeKept (coreOf s n) (coreOf t n) ∧ arrayKept (coreOf s n) (coreOf t n))

/-- R169, R273, R229: a COLL instruction of the leading stream, whose descriptor is sound, hands it to the engine: the context takes one
collective more, numbered in the step, with the parameter map of the step; in a replay it is discarded (R370). -/
def Obligations.CollAccepted : Prop :=
  ∀ (s : State) (n : CoreId) (x : StrmId) (dfr : Bool) (e : Env) (o : KwOp) (op : Nat) (c : Instr),
    let va := e.p.x1.toNat
    let r := e.s.readVA e.slot va 64
    let d := readColl r.bytes
    let old := s.ctx e.slot
    ((∃ f, o = .reduce f) ∧ op = 1 ∧ c = .collReduce n x (phaseOf dfr)
      ∨ (∃ f, o = .collGather f) ∧ op = 2 ∧ c = .collGather n x (phaseOf dfr)
      ∨ (∃ f, o = .norm f) ∧ op = 3 ∧ c = .collNorm n x (phaseOf dfr)) →
    Issues s n.val x dfr true o e → e.chkCtr = .ok () → e.chkBracket true = .ok () → e.leads = true → va % 64 = 0 →
    e.s.mapped e.slot va 64 = true → e.chkTag va 0 1 64 = .ok () → r.bad = false → collDescBad r.bytes op = false → r.s.collRegionBad e.slot d = false →
    e.ctx.collCtrBad d = false → r.s.collConnBad (r.s.home e.slot) = false →
    (op = 3 ∨ d.pmapVa = 0 ∨ (∃ m, old.pmap = some m ∧ m.va = d.pmapVa)
      ∨ (old.pmap = none ∧ ∃ u m, readPMap e.slot d.pmapVa r.s = .ok u m)) →
    ∃ t, exec c s = .next t
      ∧ (t.ctx e.slot).colls = (if e.slot = replaySlot then old.colls else old.colls ++ [{ num := old.collNext, d := d }])
      ∧ (t.ctx e.slot).collNext = (if e.slot = replaySlot then old.collNext else old.collNext + 1)
      ∧ (op ≠ 3 → d.pmapVa ≠ 0 → ∃ m, (t.ctx e.slot).pmap = some m)
      ∧ (op = 3 ∨ d.pmapVa = 0 ∨ old.pmap ≠ none → (t.ctx e.slot).pmap = old.pmap)
      ∧ t.counters = s.counters ∧ storeKept (coreOf s n) (coreOf t n) ∧ arrayKept (coreOf s n) (coreOf t n) ∧ inFlight e true t

/-! The sequencer's own instructions -/

/-- R170 to R173, R131, R147: what CTRL does at dispatch to the PC, the open loops and the stream registers; CTRL.SCLR, once every earlier
instruction has completed, clears the statistics slots. Nothing else of the core and no memory changes. -/
def Obligations.CtrlComplete : Prop :=
  ∀ (s : State) (n : CoreId) (x : StrmId) (i : Site) (k : Kw), AtPc s n.val x i k →
    let after := fun (c : Instr) (pc : W48) (loops : List LoopRec) (xs : Tbl W48) =>
      ∃ t, exec c s = .next t ∧ ((coreOf t n).strm x).pc = pc ∧ ((coreOf t n).strm x).loops = loops
        ∧ ((coreOf t n).strm x).xs = xs ∧ ((coreOf t n).strm x).q = i.t.q
        ∧ ((coreOf t n).strm x).dispatched = i.t.dispatched + 1
        ∧ tiersKept s t ∧ t.ctxs = s.ctxs ∧ storeKept (coreOf s n) (coreOf t n) ∧ arrayKept (coreOf s n) (coreOf t n)
    let pc := i.t.pc
    (∀ f, k.op = .loop f → f.count ≠ 0#16 → i.t.loops.length < 4 →
      after (.ctrlLoop n x) (pcAdd pc 1) (i.t.loops ++ [{ start := pcAdd pc 1, count := f.count.toNat, index := 0 }]) i.t.xs)
    ∧ (∀ f w, k.op = .loop f → f.count = 0#16 → f.skip ≠ 0#32 → fetchWord s i.slot (pcAdd pc f.skip.toNat) = .ok w →
        isEndlWord x w = true → after (.ctrlLoop n x) (pcAdd pc (f.skip.toNat + 1)) i.t.loops i.t.xs)
    ∧ (∀ ls r, k.op = .endl → i.t.loops = ls ++ [r] → r.index + 1 < r.count →
        after (.ctrlEndl n x) r.start (ls ++ [{ r with index := r.index + 1 }]) i.t.xs)
    ∧ (∀ ls r, k.op = .endl → i.t.loops = ls ++ [r] → r.count ≤ r.index + 1 → after (.ctrlEndl n x) (pcAdd pc 1) ls i.t.xs)
    ∧ (∀ f, k.op = .jmp f → after (.ctrlJmp n x) (pcAdd pc f.offset.toInt) i.t.loops i.t.xs)
    ∧ (∀ f, k.op = .brc f → i.t.waitsMet = true → f.ctr.toNat < i.ctx.desc.ctrCount →
        after (.ctrlBrc n x) (if f.t.toNat ≤ s.relCtr i.slot f.ctr.toNat then pcAdd pc f.offset.toInt else pcAdd pc 1)
          i.t.loops i.t.xs)
    ∧ (∀ f, k.op = .xset f → after (.ctrlXset n x) (pcAdd pc 1) i.t.loops (Tbl.put i.t.xs f.xreg.toNat f.imm))
    ∧ (∀ f, k.op = .xadd f →
        after (.ctrlXadd n x) (pcAdd pc 1) i.t.loops (Tbl.put i.t.xs f.xreg.toNat (i.t.xr f.xreg.toNat + f.imm)))
    ∧ (∀ f, k.op = .sclr f → i.t.doneBefore i.t.next none none = true → i.t.spills = [] →
        ∃ t, exec (.ctrlSclr n x) s = .next t ∧ ((coreOf t n).strm x).pc = pcAdd pc 1
          ∧ t.ctx i.slot = i.ctx.clearStats n.val f.first.toNat f.count.toNat
          ∧ tiersKept s t ∧ storeKept (coreOf s n) (coreOf t n) ∧ arrayKept (coreOf s n) (coreOf t n))

/-- R135, R136, R102, R62, R175: MERIDIAN that passes the test of its handoff queues has its stream wait for the meridian; HALT halts its
stream; LAYER.BEGIN marks the slots that hold data as carried and uses its layer ID up; LAYER.END closes the bracket, which commits when its
instructions have completed; LAYER.SRCID issues as a no-operation. -/
def Obligations.BracketRowsComplete : Prop :=
  (∀ (s : State) (n : CoreId) (x : StrmId) (dfr : Bool) (e : Env),
    Issues s n.val x dfr true .meridian e → e.chkCtr = .ok () → e.p.inBr = false → ((coreOf s n).strm x).hand.any = false →
    ∃ t, exec (.meridian n x (phaseOf dfr)) s = .next t ∧ ((coreOf t n).strm x).atSync = true ∧ t.tiers = s.tiers ∧ t.dwt = s.dwt
      ∧ storeKept (coreOf s n) (coreOf t n) ∧ arrayKept (coreOf s n) (coreOf t n))
  ∧ (∀ (s : State) (n : CoreId) (x : StrmId) (dfr : Bool) (e : Env),
    Issues s n.val x dfr true .halt e → e.chkCtr = .ok () → e.p.inBr = false →
    ∃ t, exec (.halt n x (phaseOf dfr)) s = .next (t.close (haltEnds n.val t)) ∧ ((coreOf t n).strm x).st = .halted
      ∧ t.tiers = s.tiers ∧ t.dwt = s.dwt ∧ storeKept (coreOf s n) (coreOf t n) ∧ arrayKept (coreOf s n) (coreOf t n))
  ∧ (∀ (s : State) (n : CoreId) (x : StrmId) (dfr : Bool) (f : LayerF) (e : Env),
    Issues s n.val x dfr false (.lbegin f) e → e.p.kw.wf x = true → e.p.inBr = false → f.layer ≠ 0xFFFFFFFF#32 → f.layer ∉ e.ctx.opened →
    ∃ t, exec (.layerBegin n x (phaseOf dfr)) s = .next t ∧ (t.ctx e.slot).opened = e.ctx.opened ++ [f.layer]
      ∧ (coreOf t n).acc = (markCarried e.grant (coreOf s n)).acc ∧ (coreOf t n).spill = (markCarried e.grant (coreOf s n)).spill
      ∧ (∀ b, ((coreOf s n).strm x).bracket = some b → e.p.kw.tail.pop = false → ((coreOf t n).strm x).bracket = some { b with begun := true })
      ∧ tiersKept s t ∧ storeKept (coreOf s n) (coreOf t n))
  ∧ (∀ (s : State) (n : CoreId) (x : StrmId) (dfr : Bool) (e : Env) (b : Bracket),
    Issues s n.val x dfr false .lend e → e.p.kw.wf x = true → e.p.inBr = true → ((coreOf s n).strm x).bracket = some b → e.p.kw.tail.pop = false →
    ∃ t, exec (.layerEnd n x (phaseOf dfr)) s = .next t
      ∧ ((coreOf t n).strm x).bracket = some { b with endIdx := some e.p.idx } ∧ inFlight e false t
      ∧ tiersKept s t ∧ storeKept (coreOf s n) (coreOf t n) ∧ arrayKept (coreOf s n) (coreOf t n))
  ∧ (∀ (s : State) (n : CoreId) (x : StrmId) (dfr : Bool) (f : LayerF) (e : Env),
    Issues s n.val x dfr false (.srcid f) e → e.p.kw.wf x = true →
    ∃ t, exec (.layerSrcid n x (phaseOf dfr)) s = .next t ∧ t.ctxs = s.ctxs
      ∧ tiersKept s t ∧ storeKept (coreOf s n) (coreOf t n) ∧ arrayKept (coreOf s n) (coreOf t n))

/-! Completion, faults, nova events, meridians and switches -/

/-- R129, R102: an instruction in flight completes: it leaves the pipelines, fills the token it reserved, and raises its
completion counter by 1, or the held amount in a bracket; the completion of LAYER.END commits its bracket, which releases
the held amounts (in a replay none of a counter that others raise, R370). R134, R105, R107, R126: CONTEXT_FAULT ends the context in FAULTED once everything earlier has completed; a
nova event returns the stream to the instruction after its LAYER.BEGIN with the class raised one rung for the rest of the
step; 64 cycles later it runs on; a head that waited 4,096 cycles for a unit is aged. -/
def Obligations.CompletionsAndRewinds : Prop :=
  (∀ (s : State) (n : CoreId) (x : StrmId) (k : Nat) (i : Site) (f : Flight),
    site s n.val x = some i → i.t.flights.find? (fun g => decide (g.idx = k)) = some f →
    (∀ b, i.t.bracket = some b → b.endIdx ≠ some k) → (∀ d ∈ i.t.spills, d.idx ≠ k) →
    ∃ t, exec (.instructionComplete n x k) s = .next t
      ∧ ((coreOf t n).strm x).flights = i.t.flights.filter (fun g => decide (g.idx ≠ k) || decide (g.onA ≠ f.onA))
      ∧ ((coreOf t n).strm x).hand = (if f.pushQ then i.t.hand.fill k else i.t.hand)
      ∧ (f.dctr = none → t.counters = s.counters ∧ ((coreOf t n).strm x).bracket = i.t.bracket)
      ∧ (∀ c, f.dctr = some c → f.inBr = false → i.ctx.ctrFrozen i.slot c = false → t.counters = (s.raiseCtr (i.ctx.desc.ctrBase + c) 1).counters)
      ∧ (∀ c b, f.dctr = some c → f.inBr = true → i.t.bracket = some b → t.counters = s.counters
          ∧ ((coreOf t n).strm x).bracket = some { b with held := addHeld b.held c 1 })
      ∧ t.tiers = s.tiers ∧ storeKept (coreOf s n) (coreOf t n) ∧ arrayKept (coreOf s n) (coreOf t n))
  ∧ (∀ (s : State) (n : CoreId) (x : StrmId) (k : Nat) (i : Site) (f : Flight) (b : Bracket),
    site s n.val x = some i → i.t.flights.find? (fun g => decide (g.idx = k)) = some f → i.t.bracket = some b →
    b.endIdx = some k → i.t.bracketDone k = true →
    ∃ t, exec (.instructionComplete n x k) s = .next t ∧ ((coreOf t n).strm x).bracket = none
      ∧ t.counters = (releaseHeld i.ctx.desc.ctrBase (b.held.filter fun p => !i.ctx.ctrFrozen i.slot p.1) s).counters ∧ t.tiers = s.tiers
      ∧ (coreOf t n).acc = (clearCarried ((i.ctx.desc.core n).grant x) (coreOf s n)).acc ∧ storeKept (coreOf s n) (coreOf t n))
  ∧ (∀ (s : State) (n : CoreId) (x : StrmId) (i : Site) (f : FaultRec),
    site s n.val x = some i → i.t.fault = some f → i.slot ≠ replaySlot → i.ctx.st = .running → i.t.drained = true → s.noFlights i.slot = true →
    ∃ u, exec (.contextFault n x) s = .next (s.close u) ∧ (u.ctx i.slot).st = .faulted ∧ (u.ctx i.slot).cause = causeProgram
      ∧ (u.ctx i.slot).faultCore = n.val ∧ (u.ctx i.slot).faultStream = strmTag x ∧ ((coreOf u n).strm x).st = .faulted
      ∧ (u.ctx i.slot).logSeq = BitVec.ofNat 64 s.mgt.nextSeq ∧ tiersKept s u)
  ∧ (∀ (s : State) (n : CoreId) (x : StrmId) (i : Site) (v : NovaRec) (b : Bracket),
    site s n.val x = some i → i.ctx.st ≠ .eclipse → i.t.nova = some v → i.t.bracket = some b → i.t.drained = true →
    ∃ t, exec (.novaEvent n x) s = .next t ∧ (coreOf t n).strm x = i.t.rewind b ∧ ((coreOf t n).strm x).pc = pcAdd b.pc 1
      ∧ ((coreOf t n).strm x).xs = b.xs ∧ ((coreOf t n).strm x).loops = b.loops ∧ ((coreOf t n).strm x).rerun = true
      ∧ t.ctx i.slot = i.ctx.addRaise v.layer v.cls v.newFmt
      ∧ (coreOf t n).acc = (rewindSlots ((i.ctx.desc.core n).grant x) x (coreOf s n)).acc
      ∧ tiersKept s t ∧ storeKept (coreOf s n) (coreOf t n))
  ∧ (∀ (s : State) (n : CoreId) (x : StrmId) (i : Site), site s n.val x = some i → i.ctx.st ≠ .eclipse → i.t.rerun = true →
    ∃ t, exec (.novaRerun n x) s = .next t ∧ (coreOf t n).strm x = { i.t with rerun := false } ∧ t.ctxs = s.ctxs
      ∧ tiersKept s t ∧ storeKept (coreOf s n) (coreOf t n) ∧ arrayKept (coreOf s n) (coreOf t n))
  ∧ (∀ (s : State) (n : CoreId) (k : Cand) (u : CoreUnit), candReady s n.val k u = true →
    ∃ t, exec (.arbiterAgeExpiry n k u) s = .next t ∧ (k, u) ∈ (t.core n.val).aged ∧ coreOf t n = coreOf s n ∧ t.ctxs = s.ctxs
      ∧ tiersKept s t)

/-- R136, R137, R139, R140, R221: a meridian whose conditions hold and whose checks find nothing carries out its steps and the next step
begins, and host commands that wait for its last action follow; a waiting CTX_SWITCH_IN makes its context resident on every core of its
mask once they are free, with the drop-out key of its descriptor, a gated core locking its clock first; a preemption takes the context off
its cores with its core state saved, corrected errors left out. `State.close` replaces marked rows of free cores, writes the status records and
lets waiting host commands go on. -/
def Obligations.MeridianAndSwitches : Prop :=
  (∀ (s : State) (slot : SlotId) (d : Bool),
    let a := firstThree slot.val (writeWinRecords slot.val s)
    let r := meridianCheck slot.val d a
    let v := sendBeacons slot.val (epoch slot.val (exchangeParams slot.val r.1))
    s.meridianReady slot.val = true → s.allHalted slot.val = false → a.resident slot.val = true → r.2 = none →
    ∃ u, u = newStep slot.val v
      ∧ exec (.meridianTakesPlace slot d) s = .next (((s.settle (repairIdle (if (u.ctx slot.val).held then u
          else stepEight slot.val ((u.enclOfSlot slot.val).getD 0xFF) u))).pumpAt (some slot.val)).pumpAt none)
      ∧ (u.ctx slot.val).s = (v.ctx slot.val).s + 1 ∧ (u.ctx slot.val).opened = [] ∧ (u.ctx slot.val).collNext = 0)
  ∧ (∀ (s : State) (slot : SlotId) (x : Posted) (xs : List Posted),
    (s.page slot.val).queue = x :: xs → (s.page slot.val).held = [] → x.early = none → x.control = true →
    ctlReserved x.entry = false → entOp x.entry = 0x43 → ((s.ctx slot.val).st = .ready ∨ (s.ctx slot.val).st = .done) →
    s.resident slot.val = false → s.coresFree slot.val = true → s.replayed ≠ some slot.val →
    ∃ u, exec (.contextSwitchIn slot) s = .next ((pumpSlot false slot.val 32 u).pumpAt none)
      ∧ (u.ctx slot.val).st = (s.ctx slot.val).inState
      ∧ ∀ n ∈ maskCores (s.ctx slot.val).desc.mask, (u.core n).resident = some slot.val
          ∧ (u.core n).live = Tbl.get {} (s.ctx slot.val).saved n ∧ (u.core n).key = (s.ctx slot.val).desc.seed
          ∧ (u.core n).state = if (s.core n).state = .idle then .running else .locking)
  ∧ (∀ (s : State) (slot : SlotId),
    let s0 := noteSwitch slot.val (writeWinRecords slot.val (writeStats slot.val s))
    s.modl.thermalStop = false → (s.ctx slot.val).preempt = true → s.resident slot.val = true → s.noFlights slot.val = true → s.noNova slot.val = true →
    (s.allAtMeridian slot.val && !s.allHalted slot.val) = false →
    ∃ u, exec (.preemptiveSwitch slot) s = .next (s.close u) ∧ (u.ctx slot.val).preempt = false ∧ (u.ctx slot.val).switchOut = false
      ∧ (u.ctx slot.val).saved = (maskCores (s0.ctx slot.val).desc.mask).map fun n =>
          (n, { (s0.core n).live with errs := (s0.core n).live.savedErrs }))

/-! Power and the array self-test -/

/-- R30, R33, R34: with the power manager ready, a sample joins the last ten; a control tick with something to lower takes the
clock down one 25 MHz step, not below 575 MHz, then pacing by 1/16, not below 8/16; a raise gives pacing back first, then
the clock up to its ceiling. The cap taken at the tick is `takeCap` (R29). R31: with the short average above the cap and the
clock and pacing at their floors, the manager logs POWER_CAP_UNMET, raises ALERT bit 3 and holds the clock and pacing. -/
def Obligations.PowerSteps : Prop :=
  (∀ (s : State), s.mgt.ready = true →
    let u := takeCap s
    let lower := if u.power.fixedClock.isSome then u.hot else u.power.overCap || u.hot
    let raise := !u.hot && (u.power.fixedClock.isSome || u.power.wellBelow)
    (∀ w, ∃ t, exec (.powerSample w) s = .next t ∧ t.power.samples = (s.power.samples ++ [w]).drop (s.power.samples.length + 1 - 10)
        ∧ t.power.clock = s.power.clock ∧ t.power.pacing = s.power.pacing ∧ t.cores = s.cores)
    ∧ (∃ t, exec .powerControlTick s = .next t
        ∧ (lower = true → 575 < u.power.clock → t.power.clock = max 575 (u.power.clock - 25) ∧ t.power.pacing = u.power.pacing)
        ∧ (lower = true → u.power.clock ≤ 575 → 8 < u.power.pacing → t.power.clock = u.power.clock ∧ t.power.pacing = u.power.pacing - 1)
        ∧ (lower = true → u.power.clock ≤ 575 → u.power.pacing ≤ 8 → t = u)
        ∧ (lower = false → t = u) ∧ t.tiers = s.tiers ∧ t.ctxs = s.ctxs)
    ∧ (∃ t, exec .powerRaise s = .next t
        ∧ (raise = true → u.power.pacing < 16 → t.power.pacing = u.power.pacing + 1 ∧ t.power.clock = u.power.clock)
        ∧ (raise = true → 16 ≤ u.power.pacing → u.power.fixedClock = none → u.power.clock < u.topClock →
            t.power.clock = min (u.power.clock + 25) u.topClock ∧ t.power.pacing = u.power.pacing)
        ∧ (raise = false → t = u) ∧ t.tiers = s.tiers ∧ t.ctxs = s.ctxs))
  ∧ (∀ (s : State), s.mgt.ready = true → s.power.overCap = true → s.power.clock ≤ 575 → s.power.pacing ≤ 8 →
    ∃ t, exec .powerCapUnmet s = .next t ∧ t.power = s.power ∧ t.mgt.alert.getLsbD 3 = true
      ∧ (t.mgt.mask.getLsbD 3 = true → t.modl.alertN = false ∨ s.mgt.alert.getLsbD 3 = true)
      ∧ (∃ e, t.mgt.ramLog = pushRing 32768 s.mgt.ramLog e ∧ e.seq = s.mgt.nextSeq ∧ e.event = 0x42 ∧ e.source = 2)
      ∧ t.cores = s.cores ∧ t.tiers = s.tiers)

/-- R83, R78: SELFTEST.START on an idle core that no loaded context uses marks it busy; any other start is logged and leaves it. The end of a test records
PASS, FIRST_FAIL and FAIL_COUNT, and gives every failing column a spare while spares last; before the device is READY it gates an idle core
whose re-plan does not still run (R460). That a START while a test runs is ignored and logged and that FAIL_COUNT holds at 255 are the model's
choices (log 53); which contexts use a core is as log 48 says. -/
def Obligations.SelfTestRows : Prop :=
  (∀ (s : State) (n : CoreId),
    ((s.core n.val).state = .idle → (s.core n.val).busy = false → s.usersOf n.val = [] →
      ∃ t, exec (.selftestStart n) s = .next t ∧ t.core n.val = { s.core n.val with busy := true } ∧ t.tiers = s.tiers
        ∧ ∀ m, m ≠ n.val → t.core m = s.core m)
    ∧ (((s.core n.val).state ≠ .idle ∨ (s.core n.val).busy = true ∨ s.usersOf n.val ≠ []) →
      ∃ t, exec (.selftestStart n) s = .next t ∧ t.cores = s.cores ∧ t.mgt.nextSeq = s.mgt.nextSeq + 1))
  ∧ (∀ (s : State) (n : CoreId) (fails : List (Fin 264)),
    let fs := fails.map (·.val)
    let cols := (fs.filterMap (s.core n.val).logicalOf).dedup
    (s.core n.val).busy = true →
    (Core.mapSpares fs s.hif.ready cols (fs.foldl Core.dropSpare (s.core n.val))).2 = true →
    ∃ t, exec (.selftestDone n fails) s = .next (s.close (finishReplays (.core n) t)) ∧ (t.core n.val).busy = false ∧ (t.core n.val).done = true
      ∧ (t.core n.val).pass = cols.isEmpty ∧ (t.core n.val).firstFail = fs.foldl min 0x1FF
      ∧ (t.core n.val).failCount = min 255 fs.length
      ∧ (t.core n.val).state = (if (s.core n.val).state = .idle ∧ s.hif.ready = false ∧ n.val ∉ s.mgt.replanning then .gated else (s.core n.val).state)
      ∧ (t.core n.val).clock = (if (s.core n.val).state = .idle ∧ s.hif.ready = false ∧ n.val ∉ s.mgt.replanning then 0 else (s.core n.val).clock)
      ∧ (t.core n.val).spareMap = (Core.mapSpares fs s.hif.ready cols (fs.foldl Core.dropSpare (s.core n.val))).1.spareMap
      ∧ t.tiers = s.tiers ∧ ∀ m, m ≠ n.val → t.core m = s.core m)

/-! Memory tiers and streaming windows -/

/-- R187, R190, R191, R192, R195, R200: a tier command that its checks accept, posted where nothing holds it back, ends with status 0 after its effect. ALLOC adds
its object and maps its pages; FREE unmaps the range, or waits for the meridian of a resident context; MIGRATE ends what rebalances the address
space, changes the placement and queues the page moves, and waits while any of the allocation's is pending; WIN_CREATE adds the window with its frames; WIN_DESTROY ends it, or waits likewise. -/
def Obligations.TierCommandsComplete : Prop :=
  ∀ (s : State) (slot : Nat) (p : Post), HostFree s slot p →
    let x := fun op => hostCmd p false op [] false
    let v := fun op => hostStart s slot (x op)
    let encl := (s.enclOfSlot slot).getD 0xFF
    let w := fun op => entWord (x op).entry
    (let r := tierAlloc slot encl (x 1).entry (v 1)
     r.res = some (0, 0) → exec (.alloc p) s = .next (hostEnd (v 1) slot (x 1) r.s 0 0)
      ∧ (w 1 2 = 0 → r.s = v 1)
      ∧ (w 1 2 ≠ 0 → (∃ o ∈ r.s.tiers.objs, o.slot = slot ∧ o.base = w 1 1 ∧ o.pages = w 1 2 ∧ o.flags = w 1 3)
          ∧ ∀ k < w 1 2, (r.s.pte slot (vpage (w 1 1) + k)).isSome = true))
    ∧ (let r := tierFree slot false (x 2).entry (v 2)
       (r.res = some (0, 0) → exec (.free p) s = .next (hostEnd (v 2) slot (x 2) r.s 0 0)
        ∧ r.s = if w 2 2 = 0 then v 2 else freeRange slot (w 2 1) (w 2 2) (v 2))
       ∧ (r.res = none → exec (.free p) s = .next (hostWaits slot (x 2) (v 2)) ∧ s.resident slot = true))
    ∧ (let r := tierMigrate slot encl false (x 3).entry (v 3)
       let y := endRebalance slot (v 3)
       ∀ o l, y.objAt slot (w 3 1) = some o → planMoves y slot encl (placePools (w 3 3)) (y.objPages o) [] = some l →
        (r.res = none ∨ r.res = some (0, 0)) →
        let z := reserveMoves slot false false l y
        exec (.migrate p) s = .next (if z.movesOf o then hostWaits slot (x 3) r.s else hostEnd (v 3) slot (x 3) r.s 0 0)
        ∧ r.s.tiers.moves = z.tiers.moves
        ∧ r.s.tiers.objs = s.tiers.objs.map fun q =>
            if q = o ∨ some q = y.partnerOf o then { q with flags := setPlace q.flags (w 3 3) } else q)
    ∧ (let r := tierWinCreate slot encl (x 4).entry (v 4)
       r.res = some (0, 0) → exec (.winCreate p) s = .next (hostEnd (v 4) slot (x 4) r.s 0 0)
        ∧ ∃ z, r.s.tiers.wins = ((v 4).readVA slot (w 4 5) (16 * w 4 2)).s.tiers.wins ++ [z] ∧ z.slot = slot ∧ z.src = w 4 1
          ∧ z.view = w 4 4 ∧ z.follow = bit (w 4 3) 3 ∧ z.core = bits (w 4 3) 2 0 ∧ z.depth = bits (w 4 3) 7 4 + 1
          ∧ z.slotPages = bits (w 4 3) 15 8 + 1 ∧ z.frames.length = z.depth * z.slotPages ∧ z.copying = none)
    ∧ (let r := tierWinDestroy slot false (x 5).entry (v 5)
       (r.res = some (0, 0) → exec (.winDestroy p) s = .next (hostEnd (v 5) slot (x 5) r.s 0 0)
        ∧ (∃ z ∈ s.tiers.wins, z.slot = slot ∧ z.view = w 5 1 ∧ r.s = destroyWin z (v 5)))
       ∧ (r.res = none → exec (.winDestroy p) s = .next (hostWaits slot (x 5) (v 5)) ∧ s.resident slot = true))

/-- R195, R197, R198: the copy of a LIST window's next entry begins; when its last byte lands FILL_CTR rises by 1 and the window
moves to its next entry; a demand fetch of a FOLLOW window with RUNAHEAD fetches the pages after it, once. R180, R181, R204, R205:
a patrol pass counts, leaves every byte, finds every error that no read has met and marks the failed lines poisoned; a page move ends
with the page in its new frame, or begins with the copy, unless a replay or a retrain holds it (R370, R425), and with nothing to move and no
ANY page nothing moves; a displaced allocation that has left returns with the moves of its pages queued. -/
def Obligations.WindowFillsAndUpkeep : Prop :=
  (∀ (s : State) (slot : SlotId) (view : W48) (k : Nat) (w : SWin),
    s.winAt slot.val view.toNat = some (k, w) → w.follow = false → w.list ≠ [] → w.copying = none → w.held = false →
    (w.pos < w.depth ∨ w.pos - w.depth + 1 ≤ s.counter w.relCtr) →
    ∃ t z, exec (.windowFillStart slot view) s = .next t ∧ t.tiers.wins[k]? = some z ∧ z.copying = some w.pos
      ∧ z.entryIn = Tbl.put w.entryIn (w.pos % w.depth) w.pos ∧ z.pos = w.pos ∧ z.frames = w.frames ∧ t.tiers.mem = s.tiers.mem
      ∧ t.counters = s.counters ∧ t.cores = s.cores)
  ∧ (∀ (s : State) (slot : SlotId) (view : W48) (k n : Nat) (w : SWin),
    s.winAt slot.val view.toNat = some (k, w) → w.copying = some n →
    ∃ t z, exec (.windowEntryLanded slot view) s = .next t ∧ t.tiers.wins[k]? = some z ∧ z.copying = none ∧ z.pos = n + 1
      ∧ z.filled = w.filled + 1 ∧ z.held = decide ((n + 1) % w.list.length = 0)
      ∧ t.counters = (s.raiseCtr w.fillCtr 1).counters
      ∧ t.tiers.mem = ((List.range w.slotPages).foldl (fun u i => landPage w u (n % w.depth * w.slotPages + i)) s).tiers.mem
      ∧ t.cores = s.cores ∧ t.ctxs = (s.markOther slot.val (w.fillCtr - (s.ctx slot.val).desc.ctrBase)).ctxs)
  ∧ (∀ (s : State) (slot : SlotId) (view : W48) (page k : Nat) (w : SWin),
    s.winAt slot.val view.toNat = some (k, w) → w.follow = true →
    let vp := vpage w.src + page
    let v := s.setSwin k { w with ahead := w.ahead.filter fun q => decide (q ≠ vp) }
    (vp ∈ w.ahead → ∃ t, exec (.runaheadFetch slot view page) s = .next t ∧ t = runahead slot.val view.toNat vp w.runahead 1 v
      ∧ t.counters = s.counters ∧ t.cores = s.cores ∧ t.ctxs = s.ctxs)
    ∧ (vp ∉ w.ahead → exec (.runaheadFetch slot view page) s = .next s))
  ∧ (∀ (s : State) (corrected failed : List Nat), s.tiers.intervalH ≠ 0 →
    ∃ t, exec (.patrolScrub corrected failed) s = .next t ∧ t.tiers.passes = (s.tiers.passes + 1) % 2 ^ 32
      ∧ (∀ l ∈ failed, l ∈ t.tiers.poison) ∧ t.tiers.latent = [] ∧ (∀ e ∈ s.tiers.latent, e.ue = true → e.line ∈ t.tiers.poison)
      ∧ t.tiers.mem = s.tiers.mem ∧ t.tiers.pt = s.tiers.pt ∧ t.cores = s.cores ∧ t.ctxs = s.ctxs)
  ∧ (∀ s : State, s.tiers.moves = [] → exec .pageMigration s = .next (s.close (if s.replayed.isSome then s else rebalance s))
      ∧ (s.anyPages = [] → rebalance s = s))
  ∧ (∀ (s : State) (m : Move) (ms : List Move) (q : Pte), s.tiers.moves = m :: ms → s.pte m.slot m.vpage = some q →
    s.replayed ≠ some m.slot → s.trains m.dest = false → s.trains q.frame = false →
    ∃ u, exec .pageMigration s = .next (s.close u)
      ∧ (q.moving = none → u = beginMove s ∧ u.pte m.slot m.vpage = some { q with moving := some m.dest })
      ∧ (q.moving ≠ none → u = beginMove (endMove m s)
          ∧ (endMove m s).pte m.slot m.vpage = some { q with frame := m.dest, moving := none }
          ∧ (endMove m s).tiers.moves = ms ∧ (endMove m s).tiers.movesDone = (s.tiers.movesDone + 1) % 2 ^ 32))
  ∧ (∀ (s : State) (slot : SlotId) (base : W48) (o : AllocObj) (encl : Nat) (l : List (Nat × Pool)),
    s.objAt slot.val base.toNat = some o → s.enclOfSlot slot.val = some encl → o.displaced = true → s.leaving o = false →
    planMoves s slot.val encl ((placePools o.flags).take 1) (s.objPages o) [] = some l →
    ∃ t, exec (.displacedReturn slot base) s = .next t ∧ t.tiers.moves = (reserveMoves slot.val false false l s).tiers.moves
      ∧ t.tiers.objs = s.tiers.objs.map (fun q => if q = o then { q with displaced := false } else q) ∧ t.tiers.mem = s.tiers.mem)

/-! Host commands on contexts -/

/-- R118 to R120, R139, R140, R438, R439: the control commands on contexts, posted where nothing holds them back, end with status 0 after their effect. -/
def Obligations.ContextCommandsComplete : Prop :=
  ∀ (s : State) (slot : Nat) (p : Post), HostFree s slot p →
    let x := fun op => hostCmd p true op [] false
    let v := fun op => hostStart s slot (x op)
    let encl := (s.enclOfSlot slot).getD 0xFF
    let c := s.ctx slot
    let w := fun op => entWord (x op).entry
    let ok := fun op => ctlReserved (x op).entry = false
    (ok 0x40 → (loadCtx slot encl (w 0x40 1) (v 0x40)).2 = 0 →
      let o := checkDesc slot encl (w 0x40 1) false (v 0x40)
      let busy := (maskCores o.d.mask).any fun n => (s.core n).busy
      (busy = true → exec (.ctxLoad p) s = .next (hostWaits slot (x 0x40) (v 0x40)))
      ∧ (busy = false → ∃ u, exec (.ctxLoad p) s = .next (hostEnd (v 0x40) slot (x 0x40) u 0 0) ∧ o.status = 0 ∧ (u.ctx slot).st = .ready
        ∧ (u.ctx slot).desc = o.d ∧ (u.ctx slot).recipe = o.recipe ∧ (u.ctx slot).saved = o.d.startCores
        ∧ u.counters = Tbl.clear s.counters o.d.ctrBase o.d.ctrCount ∧ u.cores = s.cores))
    ∧ (ok 0x41 → c.st ≠ .none → ∃ u, exec (.ctxReload p) s = .next (hostEnd (v 0x41) slot (x 0x41) u 0 0)
        ∧ (u.ctx slot).replace = some (BitVec.ofNat 48 (w 0x41 1)) ∧ (u.ctx slot).desc = c.desc ∧ u.cores = s.cores ∧ u.tiers = s.tiers)
    ∧ (ok 0x42 → c.st ≠ .none → (s.resident slot = false ∨ c.st = .faulted) →
        ∃ u, exec (.ctxUnload p) s = .next (hostEnd (v 0x42) slot (x 0x42) u 0 0) ∧ (u.ctx slot).st = .none ∧ u.resident slot = false
        ∧ u = repairIdle (unloadNow slot (if s.resident slot then writeWinRecords slot (writeStats slot (v 0x42)) else v 0x42))
        ∧ (∀ q ∈ u.dwt.queues, q.2.ctx ≠ some slot) ∧ (s.resident slot = false → u.tiers = s.tiers) ∧ u.counters = s.counters)
    ∧ (ok 0x43 → (c.st = .ready ∨ c.st = .done) → s.resident slot = false → s.coresFree slot = true →
        ∃ u, exec (.ctxSwitchIn p) s = .next (hostEnd (v 0x43) slot (x 0x43) u 0 0) ∧ u = switchInNow slot encl (v 0x43)
        ∧ ∀ n ∈ maskCores c.desc.mask, (u.core n).resident = some slot ∧ (u.core n).live = Tbl.get {} c.saved n
            ∧ (u.core n).key = c.desc.seed ∧ (u.core n).state = (if (s.core n).state = .idle then .running else .locking))
    ∧ (ok 0x44 → c.st ≠ .none → s.resident slot = true → c.st ≠ .faulted →
        if c.st = .done ∨ c.held = true then
          ∃ u, exec (.ctxSwitchOut p) s = .next (hostEnd (v 0x44) slot (x 0x44) u 0 0) ∧ u = repairIdle (switchOutNow slot (v 0x44))
            ∧ (u.ctx slot).switchOut = false ∧ (u.ctx slot).preempt = false
        else
          ∃ u, exec (.ctxSwitchOut p) s = .next (hostWaits slot (x 0x44) u)
            ∧ (u.ctx slot).preempt = (bit (w 0x44 2) 0 && !s.allAtMeridian slot) ∧ (u.ctx slot).switchOut = !(u.ctx slot).preempt
            ∧ u.cores = s.cores)
    ∧ (ok 0x44 → c.st ≠ .none → s.resident slot = true → c.st = .faulted →
        exec (.ctxSwitchOut p) s = .next (hostEnd (v 0x44) slot (x 0x44) (repairIdle (dropFaulted slot (v 0x44))) 0 0))
    ∧ (ok 0x44 → c.st ≠ .none → s.resident slot = false → exec (.ctxSwitchOut p) s = .next (hostEnd (v 0x44) slot (x 0x44) (v 0x44) 0 0))
    ∧ (ok 0x45 → c.st ≠ .none → c.held = true → exec (.ctxResume p) s = .next (hostEnd (v 0x45) slot (x 0x45)
        (stepEight slot encl ((v 0x45).setCtx slot { c with held := false, cause := 0 })) 0 0))
    ∧ (∀ q, ok 0x50 → c.st ≠ .none → s.queueOf slot (bits (w 0x50 2) 12 0) = some q → s.queueForeign q slot = false →
        let n := bits (w 0x50 2) 24 16
        let m := (v 0x50).readVA slot (w 0x50 1) (64 * n)
        0 < n → s.mapped slot (w 0x50 1) (64 * n) = true → s.memTrains slot (w 0x50 1) (64 * n) = false → (s.queue q).entries.length + n ≤ Config.queueEntries → m.bad = false →
        ∃ u, exec (.dwtPost p) s = .next (hostEnd (v 0x50) slot (x 0x50) u 0 0) ∧ (u.queue q).ctx = some slot
          ∧ (u.queue q).entries = (s.queue q).entries ++ (readQEnts m.bytes).zipIdx.map (fun e => ((s.queue q).next + e.2, e.1))
          ∧ u.cores = s.cores ∧ u.counters = s.counters)

/-- R387, R386, R385, R441 to R444: RCV_SET hands the recovery descriptor over; a RESTORE that finds its starfix leaves the context READY
with the starfix's pages, counters, stream positions and window positions, in the step after the starfix (that it resumes there is the model's
reading, log 34); DMA_IN takes the records in turn, each raising LAST_IN to its RSEQ; DMA_OUT seals the range into records. A DMA runs once
the tiers that it accesses are not retraining (R425, log 43). -/
def Obligations.RestoreAndDmaComplete : Prop :=
  ∀ (s : State) (slot : Nat) (p : Post), HostFree s slot p →
    let x := fun op => hostCmd p true op [] false
    let v := fun op => hostStart s slot (x op)
    let encl := (s.enclOfSlot slot).getD 0xFF
    let c := s.ctx slot
    let w := fun op => entWord (x op).entry
    let ok := fun op => ctlReserved (x op).entry = false
    (ok 0x60 → c.st ≠ .none →
      let u := (v 0x60).setCtx slot { c with rcv := { c.rcv with pending := some (BitVec.ofNat 48 (w 0x60 1)) } }
      exec (.rcvSet p) s = .next (hostEnd (v 0x60) slot (x 0x60) (if s.resident slot then u else applyRcv slot u) 0 0))
    ∧ (ok 0x61 →
        let step := BitVec.ofNat 64 (w 0x61 1)
        let mirror := bit (w 0x61 2) 0
        let r := restore slot encl step mirror (v 0x61)
        r.2 = 0 →
        ∃ u z y, exec (.restoreStarfix p) s = .next (hostEnd (v 0x61) slot (x 0x61) u 0 0)
          ∧ u = r.1.setCtx slot { r.1.ctx slot with rcvStatus := 0 } ∧ restored slot encl step mirror (v 0x61) z y u
          ∧ (u.ctx slot).rcvStatus = 0)
    ∧ (∀ (recs : List HostRec) (abort : Bool),
        let y := hostCmd p true 0x70 recs abort
        let z := (hostStart s slot y).touch slot
        let r := takeRecs slot encl abort recs (bits (w 0x70 2) 31 0) 0 (z.drawn 1)
        ok 0x70 → z.dmaStop slot y.entry false = none →
        (recs.any fun q => z.memTrains slot q.ctxVA.toNat q.length.toNat) = false → r.2.1 = 0 →
        exec (.dmaIn p recs abort) s = .next (hostEnd (hostStart s slot y) slot y (dmaCount slot y.entry 0 r.1) 0 r.2.2)
        ∧ ∀ q u, ((acceptRec slot q u).ctx slot).lastIn = q.rseq)
    ∧ (let z := (v 0x71).touch slot
       let n := ceilDiv (w 0x71 4) 4194304
       let r := sealRecs slot encl n (w 0x71 3) (w 0x71 1) (w 0x71 4) 0 (z.drawn 1)
       ok 0x71 → z.dmaStop slot (x 0x71).entry false = none → s.memTrains slot (w 0x71 3) (w 0x71 4) = false → w 0x71 4 + 48 * n ≤ bits (w 0x71 2) 31 0 →
        s.mapped slot (w 0x71 3) (w 0x71 4) = true → r.2.1 = 0 →
        exec (.dmaOut p) s = .next (hostEnd (v 0x71) slot (x 0x71) (dmaCount slot (x 0x71).entry 0 r.1) 0 r.2.2)
        ∧ (r.1.ctx slot).sealedOut = c.sealedOut + n)

/-! The window transport -/

/-- R255, R256, R257, R248: the front entry of a queue leaves it and starts. NOP completes at once and raises its counter; WRITE, READ and ACCUM put their
operation on the connection, and on an open connection with nothing in flight the first segment takes the next SEQ and waits for its answer; a PULL whose
manifest holds does the same, and one of no bytes completes at once. -/
def Obligations.QueueEntriesStart : Prop :=
  ∀ (s : State) (q : QueueId) (t : Started), s.startable q.val = some t → (∀ x ∈ (s.queue q.val).started, x.num ≠ t.num) →
    let k := s.queue q.val
    let s1 := (s.setQueue q.val { k with entries := k.entries.tail, started := k.started ++ [t] }).touch t.slot
    let cn := (s1.connOf t.slot t.e.conn).getD 0
    let c := s1.conn cn
    let n := if t.e.length = 0 then 1 else ceilDiv t.e.length c.desc.maxSeg
    let o : DwtOp := { queue := q.val, ent := t.num, q := t.e, length := t.e.length, segs := n }
    firstOf (t.e.common s1 t.slot) = none →
    (t.e.op = 0 → ∃ u, exec (.nop q) s = .next (s.close u) ∧ u = s1.dwtComplete q.val t.num 0 0
      ∧ (u.queue q.val).entries = k.entries.tail ∧ (u.queue q.val).started = k.started
      ∧ ((s.ctx t.slot).st ≠ .none → t.e.ctrEn = true →
          u.counters = (s.raiseCtr ((s.ctx t.slot).desc.ctrBase + t.e.doneCtr) 1).counters)
      ∧ ((s.ctx t.slot).st ≠ .none → t.e.recEn = false → u.tiers = s.tiers))
    ∧ (∀ i, (t.e.op = 1 ∧ i = Instr.write q) ∨ (t.e.op = 2 ∧ i = Instr.read q) ∨ (t.e.op = 3 ∧ i = Instr.accum q) →
        firstOf (moveChecks s1 t cn t.e.length (decide (t.e.op = 2))) = none → c.full = false →
        ∃ u, exec i s = .next (s.close u) ∧ u = beginOp cn q.val t o s1 ∧ (u.queue q.val).entries = k.entries.tail
          ∧ (c.st = .open_ → c.ops = [] → c.segs = [] → c.mustRekey o = false →
              (t.e.op = 2 ∨ (s1.readVA c.ctx t.e.localVa (min c.desc.maxSeg t.e.length)).bad = false) → n = 1 →
              (u.conn cn).segs = [o.seg c.desc.maxSeg c.seq 0] ∧ (u.conn cn).seq = c.seq + 1 ∧ (u.conn cn).txn = c.txn + 1
                ∧ (u.conn cn).ops = [{ o with sent := 1, first := c.seq }]
                ∧ (u.queue q.val).started = k.started ++ [t]))
    ∧ (∀ signer, t.e.op = 0x20 → pullStatus t signer s1 = none →
        let r := s1.readVA t.slot (bits t.e.extra 47 0 + 128) (48 * (readManifest (s1.readVA t.slot (bits t.e.extra 47 0) 128).bytes).count)
        (t.e.length = 0 → exec (.pull q signer) s = .next (s.close (r.s.dwtComplete q.val t.num 0 0)))
        ∧ (t.e.length ≠ 0 → c.full = false → ∃ u p, exec (.pull q signer) s = .next (s.close u) ∧ u = beginOp cn q.val t p
              (r.s.writeVA t.slot (t.e.localVa + t.e.length) (List.replicate (roundUp t.e.length 64 - t.e.length) 0#8))
            ∧ p.length = t.e.length ∧ p.segs = n
            ∧ p.chunkBytes = (readManifest (s1.readVA t.slot (bits t.e.extra 47 0) 128).bytes).chunkBytes
            ∧ (u.queue q.val).entries = k.entries.tail))

/-- R245, R246, R263: WIN_OPEN takes a CLOSED window of the range with a new generation, which is never 0, writes its handle and completes; WIN_REVOKE makes
it CLOSING; once it is CLOSED the revoke completes with the number of segments it refused. -/
def Obligations.WindowRowsComplete : Prop :=
  (∀ (s : State) (q : QueueId) (t : Started), s.startable q.val = some t →
    let k := s.queue q.val
    let s1 := (s.setQueue q.val { k with entries := k.entries.tail, started := k.started ++ [t] }).touch t.slot
    let en := s.entry ((s.enclOfSlot t.slot).getD 0)
    let w := en.winBase + t.e.window
    let x := t.e.extra
    firstOf (t.e.common s1 t.slot) = none → t.e.window < en.winCount →
    (t.e.op = 0x10 → (s.win w).st = .closed → (bit x 32 = true → (s1.connOf t.slot (bits x 46 33)).isSome = true) → 0 < t.e.length →
      t.e.localVa % 64 = 0 → t.e.length % 64 = 0 → s1.winRangeOk t.slot t.e.localVa t.e.length = true →
      (bit x 2 = true → s1.inPackage t.slot t.e.localVa t.e.length = true) → s1.mapped t.slot t.e.roffset 32 = true →
      s1.touchesView t.slot t.e.roffset 32 = false →
      ∃ u, exec (.winOpen q) s = .next (s.close u) ∧ (u.win w).st = .open_
        ∧ (u.win w).gen = (if (s.win w).gen = 0xFFFF then 1 else (s.win w).gen + 1) ∧ (u.win w).gen ≠ 0
        ∧ (u.win w).ctx = t.slot ∧ (u.win w).base = t.e.localVa ∧ (u.win w).size = t.e.length
        ∧ (u.win w).perm = BitVec.ofNat 3 x
        ∧ (u.win w).bind = (if bit x 32 then some (en.connBase + bits x 46 33) else none)
        ∧ (u.win w).notify = (if bit x 3 then some (bits x 31 16) else none)
        ∧ u = ((s1.setWin w (u.win w)).writeVA t.slot t.e.roffset (s1.handle w (u.win w))).dwtComplete q.val t.num 0 0
        ∧ ∀ v, v ≠ w → u.win v = s.win v)
    ∧ (t.e.op = 0x11 → (s.win w).st = .open_ →
      ∃ u, exec (.winRevoke q) s = .next (s.close u)
        ∧ u.win w = { s.win w with st := .closing, revoked := true, revoker := some (q.val, t.num), refused := 0 }
        ∧ (u.queue q.val).started = k.started ++ [t] ∧ u.tiers = s.tiers ∧ ∀ v, v ≠ w → u.win v = s.win v))
  ∧ (∀ (s : State) (w : WinId) (q num : Nat), (s.win w.val).st = .closing → (s.win w.val).revoker = some (q, num) →
    ∃ u, exec (.revokeComplete w) s = .next (s.close u) ∧ (u.win w.val).st = .closed ∧ (u.win w.val).revoker = none
      ∧ (u.win w.val).gen = (s.win w.val).gen
      ∧ u = (s.setWin w.val { s.win w.val with st := .closed, revoker := none }).dwtComplete q num 0 (s.win w.val).refused
      ∧ ∀ v, v ≠ w.val → u.win v = s.win v)

/-- R240, R241, R243, R244, R259, R281: the life of a connection at its initiator. CONN_OPEN makes it OPENING with a free random value, and the second without an
open ends in CONN_NO_PEER; OPEN is repeated while the handshake runs and until the peer has been heard (the model's reading, log 22); CONN_CLOSE closes it once
nothing is in flight; a rekey stops new segments and begins a handshake when none is unanswered; an unanswered segment is sent again, or its operation completes
where its source has become poisoned (the model's choice of the moment, log 28), and after the eighth time the connection is DOWN, which fails every collective
of a collective connection's context. -/
def Obligations.ConnectionRowsComplete : Prop :=
  (∀ (s : State) (q : QueueId) (t : Started), s.startable q.val = some t →
    let k := s.queue q.val
    let s1 := (s.setQueue q.val { k with entries := k.entries.tail, started := k.started ++ [t] }).touch t.slot
    let encl := (s.enclOfSlot t.slot).getD 0
    firstOf (t.e.common s1 t.slot) = none → ∀ cn, s1.connOf t.slot t.e.conn = some cn →
    (t.e.op = 0x30 → (s.conn cn).st = .closed → s1.mapped t.slot t.e.localVa 64 = true →
      let m := s1.readVA t.slot t.e.localVa 64
      m.bad = false → s1.descBad encl (readConnDesc m.bytes).1 (readConnDesc m.bytes).2 = false →
      ∃ u, exec (.connOpen q) s = .next (s.close u) ∧ (u.conn cn).st = .opening ∧ (u.conn cn).ctx = t.slot
        ∧ (u.conn cn).encl = encl ∧ (u.conn cn).desc = (readConnDesc m.bytes).1 ∧ (u.conn cn).opener = some (q.val, t.num)
        ∧ (u.conn cn).peerR = none ∧ (u.conn cn).r = Config.freeWord m.s.fresh ++ Config.freeWord (m.s.fresh + 1)
        ∧ (u.conn cn).openKey = s.openKeyOf encl ∧ (u.queue q.val).started = k.started ++ [t]
        ∧ ∀ d, d ≠ cn → u.conn d = s.conn d)
    ∧ (t.e.op = 0x31 → ((s.conn cn).st = .open_ ∨ (s.conn cn).st = .rekeying ∨ (s.conn cn).st = .down) → (s.conn cn).closer = none →
      ∃ u, exec (.connClose q) s = .next (s.close u)
        ∧ ((s.conn cn).ops = [] → u.conn cn = {} ∧ (∀ x ∈ (u.queue q.val).started, x.num ≠ t.num))
        ∧ ((s.conn cn).ops ≠ [] → u.conn cn = { s.conn cn with closer := some (q.val, t.num) }
            ∧ (u.queue q.val).started = k.started ++ [t])
        ∧ ∀ d, d ≠ cn → u.conn d = s.conn d))
  ∧ (∀ (s : State) (cn : ConnId),
    let c := s.conn cn.val
    (((c.st = .opening ∨ (c.st = .rekeying ∧ c.shaking = true) ∨ (c.st = .open_ ∧ c.opens = true)) →
        ∃ u, exec (.openResend cn) s = .next u ∧ u = sendOpen cn.val s ∧ u.conn cn.val = c ∧ u.fresh = s.fresh + 1
          ∧ ∀ n, s.pickPort c = some n → queuedMsg s u n cn.val s.free.toNat c.openKey { typ := 7, length := 32 }
              (beBytes 16 c.r.toNat ++ beBytes 8 s.fuse.serial.toNat ++ leBytes 1 (b2n c.peerR.isSome) ++ leBytes 7 0))
    ∧ (∀ q num, c.st = .opening → c.opener = some (q, num) →
        ∃ u, exec (.connNoPeer cn) s = .next (s.close u) ∧ (u.conn cn.val).st = .closed ∧ (u.conn cn.val).opener = none
          ∧ u = (s.setConn cn.val { coll := c.coll, ctx := c.ctx, encl := c.encl, desc := c.desc }).dwtComplete q num 0x22 0
          ∧ ∀ d, d ≠ cn.val → u.conn d = s.conn d)
    ∧ (∀ o, c.ops.find? DwtOp.more = some o → c.st = .open_ → c.mustRekey o = true →
        ∃ u, exec (.rekey cn) s = .next u ∧ (u.conn cn.val).st = .rekeying ∧ (u.conn cn.val).ops = c.ops ∧ (u.conn cn.val).segs = c.segs
          ∧ (u.conn cn.val).shaking = (c.segs.isEmpty && c.csegs.isEmpty)
          ∧ ((u.conn cn.val).shaking = true → (u.conn cn.val).peerR = none)
          ∧ ∀ d, d ≠ cn.val → u.conn d = s.conn d)))
  ∧ (∀ (s : State) (cn : ConnId) (seq : W32) (g : Seg),
    let c := s.conn cn.val
    let c1 := { c with segs := c.segs.map fun h => if h.seq = seq.toNat then { h with tries := h.tries + 1 } else h }
    let s1 := { s.setConn cn.val c1 with dwt := { (s.setConn cn.val c1).dwt with
      retransmits := satAdd Config.sat32 s.dwt.retransmits 1 } }
    let source := fun o : DwtOp => s1.readVA c.ctx (o.q.localVa + g.at_) g.length
    let op := c.ops.find? fun o => decide (o.queue = g.queue) && decide (o.ent = g.ent)
    c.segs.find? (fun g => decide (g.seq = seq.toNat)) = some g →
    (∀ o, c.coll = false → g.tries < 8 → g.writes = true → op = some o → (source o).bad = true → c.ops = [o] → c.segs = [g] → c.closer = none → o.nak = none →
      o.mismatch = false → ∃ u, exec (.retransmit cn seq) s = .next (s.close u) ∧ (u.conn cn.val).ops = [] ∧ (u.conn cn.val).segs = []
      ∧ u.dwt.retransmits = satAdd Config.sat32 s.dwt.retransmits 1 ∧ u.cores = s.cores
      ∧ (∀ x ∈ (u.queue o.queue).started, x.num ≠ o.ent))
    ∧ (g.tries < 8 → (g.writes = true → ∀ o, op = some o → (source o).bad = false) → ∃ u, exec (.retransmit cn seq) s = .next (s.close u)
      ∧ (u.conn cn.val).segs = c.segs.map (fun h => if h.seq = seq.toNat then { h with tries := h.tries + 1 } else h)
      ∧ (u.conn cn.val).ops = c.ops ∧ (u.conn cn.val).seq = c.seq ∧ (u.conn cn.val).st = c.st
      ∧ u.dwt.retransmits = satAdd Config.sat32 s.dwt.retransmits 1 ∧ u.counters = s.counters ∧ u.cores = s.cores)
    ∧ (8 ≤ g.tries → c.closer = none → ∃ u, exec (.retransmit cn seq) s = .next (s.close u) ∧ (u.conn cn.val).st = .down
      ∧ (u.conn cn.val).ops = [] ∧ (u.conn cn.val).segs = [] ∧ (u.conn cn.val).notify = []
      ∧ u.dwt.err.getLsbD 3 = true ∧ (c.coll = false → ∀ d, d ≠ cn.val → u.conn d = s.conn d)
      ∧ (c.coll = true → c.st ≠ .down → (u.ctx c.ctx).colls = [])))
  ∧ (∀ (s : State) (cn : ConnId) (seq : W32) (h : CollSeg),
    let c := s.conn cn.val
    (∀ g ∈ c.segs, g.seq ≠ seq.toNat) → c.csegs.find? (fun g => decide (g.seq = seq.toNat)) = some h →
    (h.tries < 8 → ∃ u, exec (.retransmit cn seq) s = .next (s.close u) ∧ (u.conn cn.val).st = c.st
      ∧ (u.conn cn.val).csegs = c.csegs.map (fun g => if g.seq = seq.toNat then { g with tries := g.tries + 1 } else g)
      ∧ (u.conn cn.val).txn = c.txn + 1 ∧ u.dwt.retransmits = satAdd Config.sat32 s.dwt.retransmits 1 ∧ u.tiers = s.tiers ∧ u.ctxs = s.ctxs)
    ∧ (8 ≤ h.tries → c.closer = none → ∃ u, exec (.retransmit cn seq) s = .next (s.close u) ∧ (u.conn cn.val).st = .down
      ∧ u.dwt.err.getLsbD 3 = true ∧ (c.coll = true → c.st ≠ .down → (u.ctx c.ctx).colls = [])))

/-- R242, R247, R249, R250, R260, R263: a WRITE, ACCUM or READ_REQ segment that passes every check is applied once and answered, its bit of the replay bitmap set,
and an applied WRITE or ACCUM counts for its operation's NOTIFY: the window's counter rises with the last of them; a refused one is NAKed with the status of its
first failing check, changes no memory and keeps its operation from raising it; a storage connection refuses every one; a duplicate is answered again and not
applied, a READ_REQ with the data read again; one below the bitmap resets the connection. -/
def Obligations.SegmentsReceived : Prop :=
  ∀ (s s1 : State) (n : PortId) (f : RxFacts) (m : Msg) (cn typ : Nat) (i : Instr),
    (typ = 1 ∧ i = .rxWrite n f m) ∨ (typ = 2 ∧ i = .rxAccum n f m) ∨ (typ = 3 ∧ i = .rxReadReq n f m) →
    dwtIn n.val f m typ s = ⟨s1, some cn⟩ →
    let c := s1.conn cn
    let q := m.seq.toNat
    let s2 := s1.setConn cn (c.seen q)
    let d := s1.win m.window.toNat
    let va := d.base + m.offset.toNat
    let key := fun k : NotifyCount => decide (k.ref = m.ref.toNat) && decide (k.window = m.window.toNat)
    let old := (c.notify.find? key).getD { ref := m.ref.toNat, window := m.window.toNat }
    let total := if m.last then some ((m.seq - m.ref).toNat + 1) else old.total
    let whole := total = some (old.applied + 1) ∧ old.naked = false
    let applied := if typ = 1 then (s2.writeVA d.ctx va m.payload).touch d.ctx else ((s2.touch d.ctx).addVA d.ctx va (bf16s m.payload)).1
    (c.tooOld q = false → q ∉ c.bits → c.desc.storage = false → s2.winStatus cn m = none →
      ∃ u, exec i s = .next (s.close u)
        ∧ (typ = 1 → u.tiers = (s2.writeVA d.ctx va m.payload).tiers)
        ∧ (typ = 2 → u.tiers = ((s2.touch d.ctx).addVA d.ctx va (bf16s m.payload)).1.tiers)
        ∧ (typ = 3 → u.tiers = (s2.readVA d.ctx va m.length.toNat).s.tiers ∧ u.counters = s1.counters)
        ∧ (let bad := (typ = 2 ∧ ((s2.touch d.ctx).addVA d.ctx va (bf16s m.payload)).2 = true)
              ∨ (typ = 3 ∧ (s2.readVA d.ctx va m.length.toNat).bad = true)
           (bad → (u.conn cn).bits = (c.seen q).bits ∧ ∀ p, s2.pickPort c = some p →
              queuedMsg s2 u p cn c.txn c.key { typ := 6, ref := q, status := 0x16 } [])
           ∧ (bad → typ = 2 → u.counters = s1.counters ∧ ∃ k ∈ (u.conn cn).notify, key k = true ∧ k.naked = true)
           ∧ (¬bad → typ ≠ 3 → whole → (u.conn cn).notify = c.notify.filter (fun k => !key k)
              ∧ u.counters = (match d.notify with
                  | some k => (applied.raiseRel d.ctx k 1).counters
                  | none => s1.counters))
           ∧ (¬bad → typ ≠ 3 → ¬whole → (u.conn cn).notify = c.notify.filter (fun k => !key k)
                ++ [{ old with applied := old.applied + 1, total := total }] ∧ u.counters = s1.counters)
           ∧ (¬bad → (u.conn cn).bits = q :: (c.seen q).bits ∧ ∀ p, s2.pickPort c = some p →
              (typ ≠ 3 → queuedMsg s2 u p cn c.txn c.key { typ := 5, ref := q } [])
              ∧ (typ = 3 → queuedMsg s2 u p cn c.txn c.key { typ := 4, ref := q, length := m.length.toNat }
                  (s2.readVA d.ctx va m.length.toNat).bytes))))
    ∧ (∀ k, c.tooOld q = false → q ∉ c.bits → c.desc.storage = false → s2.winStatus cn m = some k →
      ∃ u, exec i s = .next (s.close u) ∧ u.tiers = s.tiers ∧ u.counters = s.counters ∧ (u.conn cn).bits = (c.seen q).bits
        ∧ ((u.win m.window.toNat).refused = if k = 0x10 ∧ d.st = .closing then d.refused + 1 else d.refused)
        ∧ (typ ≠ 3 → ∃ k ∈ (u.conn cn).notify, key k = true ∧ k.naked = true)
        ∧ (∀ p, s2.pickPort c = some p → queuedMsg s2 u p cn c.txn c.key { typ := 6, ref := q, status := k } []))
    ∧ (c.tooOld q = false → q ∉ c.bits → c.desc.storage = true →
      ∃ u, exec i s = .next (s.close u) ∧ u.tiers = s.tiers ∧ u.counters = s.counters ∧ (u.conn cn).bits = (c.seen q).bits
        ∧ (∀ p, s2.pickPort c = some p → queuedMsg s2 u p cn c.txn c.key { typ := 6, ref := q, status := 0x27 } []))
    ∧ (c.tooOld q = false → q ∈ c.bits → typ = 3 →
      let r := s2.readVA d.ctx va m.length.toNat
      ∃ u, exec i s = .next (s.close u) ∧ u.tiers = r.s.tiers ∧ u.counters = s.counters ∧ (u.conn cn).bits = (c.seen q).bits
        ∧ (∀ p, s2.pickPort c = some p →
            (r.bad = true → queuedMsg s2 u p cn c.txn c.key { typ := 6, ref := q, status := 0x16 } [])
            ∧ (r.bad = false → queuedMsg s2 u p cn c.txn c.key { typ := 4, ref := q, length := m.length.toNat } r.bytes)))
    ∧ (c.tooOld q = false → q ∈ c.bits → typ ≠ 3 →
      ∃ u, exec i s = .next (s.close u) ∧ u.tiers = s.tiers ∧ u.counters = s.counters ∧ (u.conn cn).bits = (c.seen q).bits
        ∧ (∀ p, s2.pickPort c = some p → queuedMsg s2 u p cn c.txn c.key { typ := 5, ref := q } []))
    ∧ (c.tooOld q = true →
      ∃ u, exec i s = .next (s.close u)
        ∧ (c.closer = none → (u.conn cn).st = .rekeying ∧ (u.conn cn).shaking = true ∧ (u.conn cn).ops = [] ∧ (u.conn cn).segs = [])
        ∧ (c.closer ≠ none → u.conn cn = {})
        ∧ u.dwt.replayResets = satAdd Config.sat32 s1.dwt.replayResets 1 ∧ u.dwt.err.getLsbD 2 = true
        ∧ (∀ p, s1.pickPort c = some p → queuedMsg s1 u p cn c.txn c.key { typ := 8 } []))

/-- R251, R255: the answer to the last segment in flight of an operation completes its entry: an ACK or the data of a READ with
DWT_OK and the bytes that landed, a NAK with its status. R243, R244, R261, R241: with both random values held an OPEN opens
the connection under the key of the two, from SEQ 0, and its own OPEN is still repeated until the peer has been heard (the model's choice, log 22);
without its own value it only records the peer's; a new OPEN on an open connection rekeys it, which is then REKEYING (the model's reading, log 29), and
one whose value it holds already changes nothing (the model's choice, log 22); RESET fails its operations and shakes hands again; CLOSE takes it DOWN. R266: a chunk of a PULL whose bytes match
its digest counts as landed, and one that does not is zeroed and ends the verification. -/
def Obligations.AnswersAndHandshakes : Prop :=
  (∀ (s s1 : State) (n : PortId) (f : RxFacts) (m : Msg) (cn typ : Nat) (i : Instr) (o : DwtOp) (g : Seg),
    (typ = 4 ∧ i = .rxReadResp n f m) ∨ (typ = 5 ∧ i = .rxAck n f m) ∨ (typ = 6 ∧ i = .rxNak n f m) →
    dwtIn n.val f m typ s = ⟨s1, some cn⟩ →
    let c := s1.conn cn
    c.coll = false → c.st = .open_ → c.closer = none → c.ops = [o] → c.segs = [g] → g.seq = m.ref.toNat → g.queue = o.queue → g.ent = o.ent →
    o.nak = none → o.mismatch = false → o.q.op ≠ 0x20 →
    let v := s1.setConn cn { c with ops := [], segs := [] }
    (typ = 5 → o.segs ≤ o.sent → g.typ ≠ 3 →
      ∃ u, exec i s = .next (s.close u) ∧ u = v.dwtComplete o.queue o.ent 0 (o.landed + g.length)
        ∧ (u.conn cn).ops = [] ∧ (u.conn cn).segs = [] ∧ ∀ x ∈ (u.queue o.queue).started, x.num ≠ o.ent)
    ∧ (typ = 6 →
      ∃ u, exec i s = .next (s.close u) ∧ u = v.dwtComplete o.queue o.ent m.status.toNat o.landed
        ∧ (u.conn cn).ops = [] ∧ (u.conn cn).segs = [] ∧ ∀ x ∈ (u.queue o.queue).started, x.num ≠ o.ent)
    ∧ (typ = 4 → o.segs ≤ o.sent → g.typ = 3 → m.payload.length = g.length →
      let w := (s1.writeVA c.ctx (o.q.localVa + g.at_) m.payload).touch c.ctx
      ∃ u, exec i s = .next (s.close u)
        ∧ u = (w.setConn cn { c with ops := [], segs := [] }).dwtComplete o.queue o.ent 0 (o.landed + g.length)
        ∧ (u.conn cn).ops = [] ∧ (u.conn cn).segs = [] ∧ ∀ x ∈ (u.queue o.queue).started, x.num ≠ o.ent))
  ∧ (∀ (s s1 : State) (n : PortId) (f : RxFacts) (m : Msg) (b : OpenBody) (cn : Nat), dwtIn n.val f m 7 s = ⟨s1, some cn⟩ →
    let c := s1.conn cn
    (c.st = .opening ∨ (c.st = .rekeying ∧ c.shaking = true) →
      (b.holdsYours = false → ∃ u, exec (.rxOpen n f m b) s = .next (s.close u) ∧ u.conn cn = { c with peerR := some b.r })
      ∧ (b.holdsYours = true → c.ops = [] → c.cq = [] → ∃ u, exec (.rxOpen n f m b) s = .next (s.close u) ∧ (u.conn cn).st = .open_
          ∧ (u.conn cn).key = s1.connKeyOf cn { c with peerR := some b.r } b.r ∧ (u.conn cn).seq = 0 ∧ (u.conn cn).bits = []
          ∧ (u.conn cn).high = none ∧ (u.conn cn).opener = none ∧ (u.conn cn).opens = true
          ∧ ∀ q num, c.opener = some (q, num) → ∀ x ∈ (u.queue q).started, x.num ≠ num))
    ∧ (c.st = .open_ → c.peerR ≠ some b.r → ∃ u, exec (.rxOpen n f m b) s = .next (s.close u) ∧ (u.conn cn).st = .rekeying
        ∧ (u.conn cn).ops = c.ops ∧ (u.conn cn).segs = c.segs ∧ (u.conn cn).shaking = (c.segs.isEmpty && c.csegs.isEmpty))
    ∧ (c.st = .open_ → c.peerR = some b.r → ∃ u, exec (.rxOpen n f m b) s = .next (s.close u) ∧ u = s1))
  ∧ (∀ (s s1 : State) (n : PortId) (f : RxFacts) (m : Msg) (cn : Nat),
    (dwtIn n.val f m 8 s = ⟨s1, some cn⟩ → (s1.conn cn).closer = none → ∃ u, exec (.rxReset n f m) s = .next (s.close u) ∧ (u.conn cn).st = .rekeying
      ∧ (u.conn cn).shaking = true ∧ (u.conn cn).ops = [] ∧ (u.conn cn).segs = [] ∧ (u.conn cn).peerR = none)
    ∧ (dwtIn n.val f m 9 s = ⟨s1, some cn⟩ → (s1.conn cn).closer = none → ∃ u, exec (.rxClose n f m) s = .next (s.close u)
      ∧ (u.conn cn).st = .down ∧ (u.conn cn).ops = [] ∧ (u.conn cn).segs = [] ∧ u.dwt.err.getLsbD 3 = true))
  ∧ (∀ (s : State) (cn : ConnId) (k : Nat) (o : DwtOp),
    let c := s.conn cn.val
    let m := s.readVA c.ctx (o.q.localVa + k * o.chunkBytes) (o.chunkLen k)
    (c.ops.find? fun o => decide (o.q.op = 0x20) && decide (o.chunk = k) && !o.mismatch && o.nak.isNone
      && decide (k * o.chunkBytes < o.length) && c.chunkLanded o) = some o →
    (m.bad = false → Config.sha384 m.bytes = o.digests.getD k 0 →
      exec (.pullChunkCheck cn k) s = .next (s.close (afterAnswer cn.val
        (m.s.setConn cn.val (c.setOp { o with chunk := k + 1, landed := o.landed + o.chunkLen k })))))
    ∧ (m.bad = true ∨ Config.sha384 m.bytes ≠ o.digests.getD k 0 →
      exec (.pullChunkCheck cn k) s = .next (s.close (afterAnswer cn.val
        ((m.s.writeVA c.ctx (o.q.localVa + k * o.chunkBytes) (List.replicate (o.chunkLen k) 0#8)).setConn cn.val
          (c.setOp { o with mismatch := true }))))))

/-! The Ethernet ports -/

/-- R300, R301: an accepted frame for the raw ring goes to the buffer of descriptor HEAD, and HEAD steps on; with no ring or no
free descriptor it is dropped, counted and flagged. R302, R303, R304, R41, R350: of the highest class that is not paused the oldest frame of an
enclosure starts once the threshold, or the whole frame, is staged, and leaves on the link; a torus port with no matching HELLO sends none but the device's own; in a
slot of a FIXED_SHARE enclosure only that one sends, and its slots alone serve it (which slot it is is a free value, the model's choice of log 49);
an underrun of a frame that is not staged whole ends it stomped and raises the threshold by 1 KiB, up to 9, and the decay lowers it again, never below the prior. -/
def Obligations.RawRingAndTransmit : Prop :=
  (∀ (s : State) (n : PortId) (f : RxFacts) (buf : W48) (frame : List Byte), s.rxKind n.val f = .raw → (rxFrame n.val f s).ok = true →
    let r := rxFrame n.val f s
    let p := s.net n.val
    (p.rawEntries ≠ 0 → p.rawHead ≠ p.rawTail →
      ∃ t, exec (.rawFrameReceived n f buf frame) s = .next t ∧ (t.net n.val).rawHead = (p.rawHead + 1) % p.rawEntries
        ∧ (t.net n.val).rawTail = p.rawTail ∧ Output.hostWrite buf.toNat (frame.take 9216) ∈ t.out
        ∧ Output.hostWrite (p.rawBase + 16 * p.rawHead + 8)
            (leBytes 8 ((frame.take 9216).length + at_ (b2n r.trunc) 16 + at_ 1 31)) ∈ t.out
        ∧ (s.hif.linkUp = true → Output.msix 0 (2 + n.val) ∈ t.out) ∧ portKept s t n.val)
    ∧ (p.rawEntries = 0 ∨ p.rawHead = p.rawTail →
      ∃ t, exec (.rawFrameReceived n f buf frame) s = .next t ∧ (t.net n.val).rawHead = p.rawHead
        ∧ portCount t n.val 15 = satAdd Config.sat64 (portCount s n.val 15) 1 ∧ (t.net n.val).err.getLsbD 0 = true ∧ portKept s t n.val))
  ∧ (∀ (s : State) (n : PortId) (staged c : Nat),
    let p := s.net n.val
    let of := fun (q : Net) (k e : Nat) => q.txq.filter fun y => decide (y.cls = k) && decide (y.encl = e)
    let owner := slotOwner n.val s.entries (s.free.toNat % 256)
    let may := fun y : TxFrame => match owner with
      | some e => y.encl = e
      | none => (s.entry y.encl).fixedShare = false
    let sent := fun (t : State) (x : TxFrame) => x.cls = c ∧ (of p c x.encl).head? = some x
      ∧ (t.net n.val).sending = some x ∧ (t.net n.val).staging = min (min staged stagingBuffer) x.len
      ∧ Output.frame n.val x.frame ∈ t.out ∧ (t.net n.val).txq.length + 1 = p.txq.length
      ∧ (∀ k e, k ≠ c ∨ e ≠ x.encl → of (t.net n.val) k e = of p k e) ∧ of (t.net n.val) c x.encl = (of p c x.encl).tail
      ∧ (x.encl = ownFrame ∨ ((p.torus = true → p.helloOk = true) ∧ may x))
      ∧ portCount t n.val 0 = satAdd Config.sat64 (portCount s n.val 0) 1
      ∧ portCount t n.val 1 = satAdd Config.sat64 (portCount s n.val 1) x.len
    p.linkUp = true → p.txClass = some c → (∀ x ∈ p.txq, x.cls = c → min (p.threshold * 1024) x.len ≤ min staged stagingBuffer) →
    Tbl.get 0 p.pause c = 0 ∧ (∀ y ∈ p.txq, c < y.cls → y.cls < 8 → p.sendable y = true → Tbl.get 0 p.pause y.cls ≠ 0)
    ∧ (s.fixedShare = false → ∃ t, ∃ x ∈ p.txq, exec (.txFrameStart n staged) s = .next t ∧ sent t x ∧ portKept s t n.val)
    ∧ (s.fixedShare = true → ((∃ y ∈ p.txq, y.cls = c ∧ (y.encl = ownFrame ∨ (p.sendable y = true ∧ may y))) →
        ∃ t, ∃ x ∈ p.txq, exec (.txFrameStart n staged) s = .next t ∧ sent t x ∧ portKept s t n.val)
      ∧ ((∀ y ∈ p.txq, y.cls = c → y.encl ≠ ownFrame ∧ (p.sendable y = true → ¬may y)) →
        ∃ t, exec (.txFrameStart n staged) s = .next t ∧ t.nets = s.nets ∧ t.out = s.out)))
  ∧ (∀ (s : State) (n : PortId) (x : TxFrame), (s.net n.val).sending = some x → (s.net n.val).staging < x.len → (s.net n.val).threshold < 9 →
    ∃ t, exec (.txUnderrun n) s = .next t ∧ (t.net n.val).sending = none ∧ Output.stomped n.val ∈ t.out ∧ (t.net n.val).threshold = (s.net n.val).threshold + 1
      ∧ (t.net n.val).threshold ≤ 9 ∧ portCount t n.val 2 = satAdd Config.sat64 (portCount s n.val 2) 1
      ∧ ((t.net n.val).threshold = 9 → (t.net n.val).err.getLsbD 7 = true) ∧ portKept s t n.val)
  ∧ (∀ (s : State) (n : PortId), (s.net n.val).prior < (s.net n.val).threshold →
    ∃ t, exec (.underrunDecay n) s = .next t ∧ (t.net n.val).threshold + 1 = (s.net n.val).threshold
      ∧ (s.net n.val).prior ≤ (t.net n.val).threshold ∧ (t.net n.val).txq = (s.net n.val).txq ∧ portKept s t n.val)

/-- R305, R306: PAUSE sets the time of every queue in mode 1, PFC those of its enabled classes in mode 2, and each counts; a frame of another mode is ignored and
counted. XOFF above 48 KiB sends the full time once, repeats while the level stays above 24 KiB, and XON sends 0. -/
def Obligations.FlowControl : Prop :=
  (∀ (s : State) (n : PortId) (f : RxFacts) (q : W16) (en : Byte) (times : List W16), (rxControl n.val f s).ok = true →
    let p := s.net n.val
    (p.cfg.fcMode = 1 → ∃ t, exec (.pause n f q) s = .next t ∧ (∀ c < 8, Tbl.get 0 (t.net n.val).pause c = q.toNat)
      ∧ portCount t n.val 13 = satAdd Config.sat64 (portCount s n.val 13) 1 ∧ (t.net n.val).txq = p.txq ∧ portKept s t n.val)
    ∧ (p.cfg.fcMode ≠ 1 → ∃ t, exec (.pause n f q) s = .next t ∧ (t.net n.val).pause = p.pause
      ∧ portCount t n.val 14 = satAdd Config.sat64 (portCount s n.val 14) 1 ∧ portKept s t n.val)
    ∧ (p.cfg.fcMode = 2 → ∃ t, exec (.pfc n f en times) s = .next t
      ∧ (∀ c < 8, Tbl.get 0 (t.net n.val).pause c =
          if en.getLsbD c && bit p.cfg.pfcEn c then (times.getD c 0#16).toNat else Tbl.get 0 p.pause c)
      ∧ portCount t n.val 13 = satAdd Config.sat64 (portCount s n.val 13) 1 ∧ (t.net n.val).txq = p.txq ∧ portKept s t n.val)
    ∧ (p.cfg.fcMode ≠ 2 → ∃ t, exec (.pfc n f en times) s = .next t ∧ (t.net n.val).pause = p.pause
      ∧ portCount t n.val 14 = satAdd Config.sat64 (portCount s n.val 14) 1 ∧ portKept s t n.val))
  ∧ (∀ (s : State) (n : PortId) (q : Fin 8), Tbl.get 0 (s.net n.val).pause q.val ≠ 0 →
    ∃ t, exec (.pauseExpiry n q) s = .next t ∧ Tbl.get 0 (t.net n.val).pause q.val = 0
      ∧ (∀ c, c ≠ q.val → Tbl.get 0 (t.net n.val).pause c = Tbl.get 0 (s.net n.val).pause c) ∧ portKept s t n.val)
  ∧ (∀ (s : State) (n : PortId) (cls : Fin 8) (level : Nat),
    let p := s.net n.val
    let sent := fun (t : State) (time : Nat) => (p.cfg.fcMode = 1 → Output.macCtl n.val 0x0001 [time] ∈ t.out)
      ∧ (p.cfg.fcMode = 2 → bit p.cfg.pfcEn cls.val = true → Output.macCtl n.val 0x0101 [2 ^ cls.val, time] ∈ t.out)
    (49152 < level → cls.val ∉ p.xoff → ∃ t, exec (.xoff n cls level) s = .next t ∧ sent t 0xFFFF
      ∧ (t.net n.val).xoff = p.xoff ++ [cls.val] ∧ Tbl.get 0 (t.net n.val).rxLevel cls.val = level ∧ portKept s t n.val)
    ∧ (level ≤ 49152 → ∃ t, exec (.xoff n cls level) s = .next t ∧ t.out = s.out ∧ (t.net n.val).xoff = p.xoff ∧ portKept s t n.val)
    ∧ (cls.val ∈ p.xoff → 24576 < Tbl.get 0 p.rxLevel cls.val → ∃ t, exec (.xoffRepeat n cls) s = .next t ∧ sent t 0xFFFF
      ∧ (t.net n.val).xoff = p.xoff ∧ portKept s t n.val)
    ∧ (level ≤ 24576 → p.cfg.fcMode ≠ 1 → cls.val ∈ p.xoff → ∃ t, exec (.xon n cls level) s = .next t ∧ sent t 0
      ∧ cls.val ∉ (t.net n.val).xoff ∧ Tbl.get 0 (t.net n.val).rxLevel cls.val = level ∧ portKept s t n.val)
    ∧ (level ≤ 24576 → p.cfg.fcMode = 1 → p.fcHeld = true → (∀ c < 8, c ≠ cls.val → Tbl.get 0 p.rxLevel c ≤ 24576) →
      ∃ t, exec (.xon n cls level) s = .next t ∧ sent t 0 ∧ cls.val ∉ (t.net n.val).xoff ∧ (t.net n.val).fcHeld = false ∧ portKept s t n.val)
    ∧ (level ≤ 24576 → p.cfg.fcMode = 1 → (∃ c < 8, c ≠ cls.val ∧ 24576 < Tbl.get 0 p.rxLevel c) →
      ∃ t, exec (.xon n cls level) s = .next t ∧ t.out = s.out ∧ cls.val ∉ (t.net n.val).xoff ∧ (t.net n.val).fcHeld = p.fcHeld
        ∧ portKept s t n.val))

/-- R295, R296, R297, R307: a failed lane goes onto the spare and asks the peer with SPARE; a second failure narrows the link to two
lanes and asks with DEGRADE, whatever the other direction is at; without a spare in the cable a lane failure takes the link down; a received SPARE or DEGRADE is
carried out and acknowledged, a SPARE that the cable cannot carry out is not (the model's choice, log 57); an unanswered request is sent
again, at most three times but for those two. R308, R309: after a window below 20 % both ways the end with the lower
endpoint ID asks to shed to the next width; the asked end acknowledges when its own window was low too and else refuses; the
acknowledgement makes the width take effect, the refusal starts a new window; RESTORE is never refused and gives back the lanes
of the linked rate. -/
def Obligations.LaneRepairAndShedding : Prop :=
  (∀ (s : State) (n : PortId) (lane : Fin 4),
    let p := s.net n.val
    p.linkUp = true → p.direct = true → lane.val < rateLanes p.rate →
    (p.sparePresent = false → ∀ i, (i = Instr.laneSpared n lane ∨ i = Instr.laneDegraded n lane) →
      ∃ t, exec i s = .next t ∧ (t.net n.val).linkUp = false ∧ (t.net n.val).err.getLsbD 2 = true ∧ portKept s t n.val)
    ∧ (p.sparePresent = true → p.rxSpare = none →
      ∃ t, exec (.laneSpared n lane) s = .next t ∧ (t.net n.val).rxSpare = some lane.val ∧ (t.net n.val).linkUp = true
        ∧ (t.net n.val).lanes = p.lanes ∧ (t.net n.val).err.getLsbD 4 = true
        ∧ portCount t n.val 19 = satAdd Config.sat64 (portCount s n.val 19) 1
        ∧ (∃ q, (t.net n.val).laneReqs = p.laneReqs ++ [q] ∧ q.code = 4 ∧ q.lane = lane.val ∧ q.sends = 1
            ∧ Output.macCtl n.val 0x0F10 [4, lane.val, q.seq] ∈ t.out)
        ∧ t.mgt.store.laneSwaps = s.mgt.store.laneSwaps ++ [(n.val, lane.val)] ∧ portKept s t n.val)
    ∧ (p.sparePresent = true → p.rxSpare ≠ none → p.degraded = false → 2 ≤ (p.loseLane lane.val).healthy →
      ∃ t, exec (.laneDegraded n lane) s = .next t ∧ (t.net n.val).degraded = true ∧ (t.net n.val).lanes = 2 ∧ (t.net n.val).linkUp = true
        ∧ (t.net n.val).err.getLsbD 5 = true
        ∧ (∃ q, (t.net n.val).laneReqs = p.laneReqs ++ [q] ∧ q.code = 5 ∧ Output.macCtl n.val 0x0F10 [5, 0, q.seq] ∈ t.out) ∧ portKept s t n.val)
    ∧ (p.sparePresent = true → p.rxSpare ≠ none → (p.loseLane lane.val).healthy < 2 →
      ∃ t, exec (.laneDegraded n lane) s = .next t ∧ (t.net n.val).linkUp = false ∧ (t.net n.val).err.getLsbD 2 = true ∧ portKept s t n.val))
  ∧ (∀ (s : State) (n : PortId) (f : RxFacts) (lane : Fin 4) (seq : W16), (rxLane n.val f s).ok = true → (s.net n.val).direct = true →
    ((s.net n.val).sparePresent = true → ∃ t, exec (.spare n f lane seq) s = .next t ∧ (t.net n.val).txSpare = some lane.val
      ∧ Output.macCtl n.val 0x0F10 [6, 0, seq.toNat] ∈ t.out ∧ (t.net n.val).lanes = (s.net n.val).lanes ∧ portKept s t n.val)
    ∧ ((s.net n.val).sparePresent = false → ∃ t, exec (.spare n f lane seq) s = .next t ∧ (t.net n.val).txSpare = (s.net n.val).txSpare
      ∧ (t.net n.val).lanes = (s.net n.val).lanes ∧ portKept s t n.val)
    ∧ (∃ t, exec (.degrade n f seq) s = .next t ∧ (t.net n.val).txDegraded = true ∧ (t.net n.val).degraded = (s.net n.val).degraded
      ∧ (t.net n.val).lanes = min 2 (rateLanes (s.net n.val).rate)
      ∧ Output.macCtl n.val 0x0F10 [6, 0, seq.toNat] ∈ t.out ∧ portKept s t n.val))
  ∧ (∀ (s : State) (n : PortId), ((s.net n.val).laneReqs.map (·.seq)).Nodup →
    let again := fun q : LaneReq => decide (q.sends < 3) || decide (q.code = 4) || decide (q.code = 5)
    let keep := (s.net n.val).laneReqs.filter again
    ∃ t, exec (.laneRequestResend n) s = .next t ∧ (t.net n.val).laneReqs = keep.map (fun q => { q with sends := q.sends + 1 })
      ∧ (∀ q ∈ keep, Output.macCtl n.val 0x0F10 [q.code, q.lane, q.seq] ∈ t.out) ∧ (keep = [] → t.out = s.out) ∧ portKept s t n.val)
  ∧ (∀ (s : State) (n : PortId) (tx rx : Nat), tx < 20 → rx < 20 → s.mayShed n.val = true → (s.net n.val).laneReqs = [] →
    s.fuse.serial.toNat < (s.net n.val).peerId.toNat → ((s.net n.val).lanes = 4 ∨ (s.net n.val).lanes = 2) →
    ∃ t q, exec (.utilisationWindowEnd n tx rx) s = .next t ∧ (t.net n.val).low = true ∧ (t.net n.val).laneReqs = [q]
      ∧ q.code = (if (s.net n.val).lanes = 4 then 1 else 2) ∧ Output.macCtl n.val 0x0F10 [q.code, 0, q.seq] ∈ t.out
      ∧ (t.net n.val).lanes = (s.net n.val).lanes ∧ portKept s t n.val)
  ∧ (∀ (s : State) (n : PortId) (f : RxFacts) (seq : W16) (w : Nat) (i : Instr),
    (w = 2 ∧ i = .shedTo2 n f seq) ∨ (w = 1 ∧ i = .shedTo1 n f seq) → (rxLane n.val f s).ok = true → (s.net n.val).direct = true →
    let r := (rxLane n.val f s).s
    (r.mayShed n.val = true → (s.net n.val).low = true → (s.net n.val).lanes = 2 * w →
      ∃ t, exec i s = .next t ∧ (t.net n.val).lanes = w ∧ (t.net n.val).low = false ∧ Output.macCtl n.val 0x0F10 [6, 0, seq.toNat] ∈ t.out
        ∧ portCount t n.val 18 = satAdd Config.sat64 (portCount s n.val 18) 1 ∧ portKept s t n.val)
    ∧ (r.mayShed n.val = false ∨ (s.net n.val).low = false ∨ (s.net n.val).lanes ≠ 2 * w →
      ∃ t, exec i s = .next t ∧ (t.net n.val).lanes = (s.net n.val).lanes ∧ (t.net n.val).low = false
        ∧ Output.macCtl n.val 0x0F10 [7, 0, seq.toNat] ∈ t.out ∧ portKept s t n.val))
  ∧ (∀ (s : State) (n : PortId) (f : RxFacts) (lane : Byte) (seq : W16),
    let p := s.net n.val
    (p.direct = true → (rxLane n.val f s).ok = true →
      ∃ t, exec (.restore n true f lane seq) s = .next t ∧ Output.macCtl n.val 0x0F10 [6, 0, seq.toNat] ∈ t.out
        ∧ (t.net n.val).lanes = (if p.shed then rateLanes p.rate else p.lanes) ∧ portKept s t n.val)
    ∧ (p.direct = true → p.linkUp = true → p.shed = true → (∃ c < 8, 16384 < p.queueBytes c) →
      ∃ t q, exec (.restore n false f lane seq) s = .next t ∧ (t.net n.val).lanes = rateLanes p.rate ∧ (t.net n.val).low = false
        ∧ (t.net n.val).laneReqs = p.laneReqs.filter LaneReq.lasting ++ [q] ∧ q.code = 3 ∧ Output.macCtl n.val 0x0F10 [3, 0, q.seq] ∈ t.out
        ∧ portKept s t n.val))
  ∧ (∀ (s : State) (n : PortId) (f : RxFacts) (seq : W16) (q : LaneReq), (rxLane n.val f s).ok = true → (s.net n.val).direct = true →
    (s.net n.val).reqOf seq.toNat = some q →
    let sheds := (q.code = 1 ∨ q.code = 2) ∧ s.mayShed n.val = true
    (∃ t, exec (.ack n f seq) s = .next t ∧ (∀ r ∈ (t.net n.val).laneReqs, r ∈ (s.net n.val).laneReqs ∧ r.seq ≠ seq.toNat)
      ∧ (sheds → (t.net n.val).lanes = (if q.code = 1 then 2 else 1)) ∧ (¬sheds → (t.net n.val).lanes = (s.net n.val).lanes) ∧ portKept s t n.val)
    ∧ (q.code = 1 ∨ q.code = 2 → ∃ t, exec (.refuse n f seq) s = .next t ∧ (t.net n.val).reqOf seq.toNat = none ∧ (t.net n.val).low = false
      ∧ (t.net n.val).lanes = (s.net n.val).lanes ∧ portKept s t n.val))

/-- R293, R310, R311, R239, R41: a powered port that is not retired links up at a rate it may use, logs LINK_UP and, in the torus, sends HELLO; the HELLO that the map
requires makes it carry DWT (a late one too, the model's choice, log 63), another flags it miswired; a port with no matching HELLO is flagged and does not carry; a link that falls flags LINK_DOWN and loses its
pauses and requests, and a retrain takes it down without the flag (R311 sets it for a link that drops: that a retrain is none is the model's reading, log 31). -/
def Obligations.LinkRows : Prop :=
  (∀ (s : State) (n : PortId) (rate : Fin 5) (spare : Bool),
    let p := s.net n.val
    p.powered = true → p.retired = false → p.linkUp = false → p.rateOk rate.val = true →
    ∃ t, exec (.linkUp n rate spare) s = .next t ∧ (t.net n.val).linkUp = true ∧ (t.net n.val).rate = rate.val
      ∧ (t.net n.val).lanes = (if p.narrow then min 2 (rateLanes rate.val) else rateLanes rate.val) ∧ (t.net n.val).sparePresent = (spare && p.direct)
      ∧ (p.degraded = false → (t.net n.val).rxHealthy = 0xF) ∧ (t.net n.val).helloOk = p.helloOk
      ∧ t.mgt.nextSeq = s.mgt.nextSeq + 1 ∧ (p.torus = true → s.helloFrame n.val ∈ (t.net n.val).txq) ∧ portKept s t n.val)
  ∧ (∀ (s : State) (n : PortId),
    let p := s.net n.val
    let down := fun t : State => (t.net n.val).linkUp = false ∧ (t.net n.val).helloOk = false ∧ (t.net n.val).lanes = 0
      ∧ (t.net n.val).pause = [] ∧ (t.net n.val).sending = none ∧ (t.net n.val).laneReqs = [] ∧ (t.net n.val).txq = p.txq ∧ portKept s t n.val
    (p.linkUp = true → ∃ t, exec (.linkDown n) s = .next t ∧ down t ∧ (t.net n.val).err.getLsbD 2 = true)
    ∧ (∃ t, exec (.retrain n) s = .next t ∧ down t ∧ (t.net n.val).err = p.err ∧ (t.net n.val).retrainDue = false)
    ∧ (p.linkUp = true → p.torus = true →
        (p.helloOk = false → ∃ t, exec (.helloResend n) s = .next t ∧ (t.net n.val).txq = p.txq ++ [s.helloFrame n.val] ∧ portKept s t n.val)
        ∧ (p.helloOk = true → p.helloLast = true → ∃ t, exec (.helloResend n) s = .next t ∧ (t.net n.val).helloLast = false
            ∧ (t.net n.val).txq = p.txq ++ [s.helloFrame n.val] ∧ portKept s t n.val)
        ∧ (p.helloOk = false → ∃ t, exec (.linkMiswired n) s = .next t ∧ (t.net n.val).err.getLsbD 3 = true ∧ (t.net n.val).helloOk = false
            ∧ (t.net n.val).linkUp = true ∧ portKept s t n.val)))
  ∧ (∀ (s : State) (n : PortId) (f : RxFacts) (h : Hello),
    let r := rxFrame n.val f s
    s.rxKind n.val f = .dwt → isFragment f = false → r.ok = true → r.trunc = false → (s.net n.val).torus = true → h.ver = 1#4 → h.resv = false →
    (s.helloFits n.val h = true → ∃ t, exec (.rxHello n f h) s = .next t ∧ (t.net n.val).helloOk = true ∧ (t.net n.val).peerId = h.endpoint
      ∧ (t.net n.val).peerMac = some f.src ∧ ((s.net n.val).helloOk = false → (t.net n.val).helloLast = true) ∧ portKept s t n.val)
    ∧ (s.helloFits n.val h = false → ∃ t, exec (.rxHello n f h) s = .next t ∧ (t.net n.val).helloOk = false
      ∧ (t.net n.val).err.getLsbD 3 = true ∧ portKept s t n.val))

/-! Collectives -/

/-- R276, R277, R281, R284: the next accepted descriptor starts when its connections are open, its wait is met and fewer than four run; on a step without
sending it completes with COLL_SKIPPED, a gather copying its PARAM tiles first; else it runs: a reduce advances its exchanges, a gather sends its owned shard, a
global norm takes its leaf, and the messages that came before it are taken; with a connection DOWN it fails. -/
def Obligations.CollectiveStarts : Prop :=
  ∀ (s : State) (slot : SlotId) (k : Coll),
    let c := s.ctx slot.val
    let fold := k.d.jobWide && !c.folded
    let run : Coll := { k with started := true, fold := fold }
    c.colls.find? (fun k => !k.started) = some k →
    (s.collConnDown slot.val = true → ∃ u, exec (.collStart slot) s = .next (s.close u) ∧ u = collFail slot.val k.num 0x111 s
      ∧ u.col.err.getLsbD 3 = true ∧ (u.ctx slot.val).st ≠ .running ∧ u.counters = s.counters)
    ∧ (s.collConnDown slot.val = false → s.collConnBad slot.val = false → c.st ≠ .faulted → s.collConnsOpen slot.val = true →
      s.collWaitMet slot.val k.d = true → (c.colls.filter (·.started)).length < 4 →
      (c.sends k.d = false → k.d.op ≠ 2 → ∃ u, exec (.collStart slot) s = .next (s.close u)
        ∧ (u.ctx slot.val).colls = c.colls.filter (fun q => decide (q.num ≠ k.num))
        ∧ u.col.skipped = satAdd Config.sat32 s.col.skipped 1 ∧ u.col.sent = s.col.sent
        ∧ (k.d.recEn = false → u.tiers = s.tiers) ∧ (k.d.ctrEn = false → u.counters = s.counters)
        ∧ (k.d.ctrEn = true → c.st ≠ .none → u.counters = (s.raiseCtr (c.desc.ctrBase + k.d.doneCtr) 1).counters))
      ∧ (c.sends k.d = false → k.d.op = 2 → ∃ u, exec (.collStart slot) s = .next (s.close u)
        ∧ u = collDone slot.val k 1 ((List.range k.d.tiles).foldl (copyTile slot.val k.d) s)
        ∧ (u.ctx slot.val).colls = c.colls.filter (fun q => decide (q.num ≠ k.num)))
      ∧ (c.sends k.d = true → ∃ u v, exec (.collStart slot) s = .next (s.close u) ∧ v.tiers = s.tiers ∧ v.counters = s.counters ∧ v.dwt = s.dwt
        ∧ (v.ctx slot.val).colls = c.colls.map (fun q => if q.num = k.num then run else q) ∧ (v.ctx slot.val).folded = (c.folded || fold)
        ∧ (k.d.op = 2 → u = takeEarly slot.val k.num (sendGather slot.val run v))
        ∧ (k.d.op ≠ 2 → u = takeEarly slot.val k.num (advance slot.val k.num v))))

/-- R247, R276, R277, R278, R280, R283, R228: a message of the collective engine that passes the checks of its connection and is for this device: a READY is recorded
and lets its exchange advance; one of a later step, or whose collective has not started, waits (the model's reading, log 35) and is acknowledged; a fingerprint or step
that differs fails the collective with COLL_PEER_MISMATCH, and the peer gets the own fingerprint (log 35); a segment of a reduce is added to GRAD, but for a frozen tile, and one that meets a poisoned line fails the collective and is
NAKed; a segment of a gather is written to PARAM_NEXT; a message for another device is sent on; one of a fenced context is NAKed.
R277, R281, R283, R287: a started collective with everything done completes with COLL_OK, where the command names what its tree has brought: it leaves the engine, counts, and
raises its counter; one that still lacks something stays. R251: the answer to a message of the engine takes it from those that are unanswered; a NAK TGT_POISONED fails its collective. -/
def Obligations.CollectiveMessagesAndEnds : Prop :=
  (∀ (s s1 : State) (n : PortId) (f : RxFacts) (m : Msg) (b : CollMsg) (cn typ : Nat) (i : Instr),
    ((∃ o l, b.body = .ready o l) ∧ typ = m.typ.toNat ∧ i = .collReadyReceived n f m b)
      ∨ ((∃ o l tile first data, b.body = .segment o l tile first data ∧ typ = (if l = 0 then 1 else 2)) ∧ i = .collSegmentReceived n f m b.k b.src b.dest b.fp b.body) →
    dwtIn n.val f m typ s = ⟨s1, some cn⟩ → (s1.conn cn).coll = true → (s1.conn cn).tooOld m.seq.toNat = false →
    m.seq.toNat ∉ (s1.conn cn).bits →
    let c := s1.conn cn
    let s2 := s1.setConn cn (c.seen m.seq.toNat)
    let slot := c.ctx
    let now := (s2.ctx slot).step
    let known := (s2.ctx slot).colls.find? fun q => decide (q.num % 256 = b.k.k.toNat)
    let acked := fun v : State => exec i s = .next (s.close (answerAck cn m (v.markSeq cn m.seq.toNat)))
    (s2.connFenced c = true → exec i s = .next (s.close (sendNak cn m 0x17 s2)))
    ∧ (s2.connFenced c = false →
      (b.dest ≠ s2.jobRank → bodyGathers b.body = false → ∃ u, exec i s = .next (s.close u) ∧ u = relayMsg slot cn m b s2
        ∧ u.tiers = s.tiers ∧ u.counters = s.counters)
      ∧ (b.dest = s2.jobRank ∨ bodyGathers b.body = true →
        (now.toNat < b.k.step.toNat ∨ (known = none ∧ b.k.step = now) →
          ∃ v, acked v ∧ (v.ctx slot).early = (s2.ctx slot).early ++ [(cn, b)] ∧ v.tiers = s.tiers ∧ (v.ctx slot).colls = (s2.ctx slot).colls)
        ∧ (∀ q, known = some q → b.k.step.toNat ≤ now.toNat → b.k.step ≠ now ∨ (∃ x, b.fp = some x ∧ x ≠ fingerprint (s2.ctx slot) q) →
          s2.collOf slot q.num = some q → ∃ v, acked v ∧ v = collFail slot q.num 0x110 (sendPrint slot q.num b.src s2)
          ∧ v.col.err.getLsbD 2 = true ∧ v.col.sent = s2.col.sent)
        ∧ (∀ q, known = some q → b.k.step = now → b.fp = none ∨ b.fp = some (fingerprint (s2.ctx slot) q) → s2.collOf slot q.num = some q →
          (∀ o l, b.body = .ready o l → q.started = true → ∃ v, acked (advance slot q.num v) ∧ v.tiers = s.tiers
            ∧ (v.ctx slot).colls = (s2.ctx slot).colls.map (fun p => if p.num = q.num then { q with ready := insertNew (o, l) q.ready } else p))
          ∧ (∀ o l tile first data, b.body = .segment o l tile first data →
            (l ≠ 0 → q.started = true → q.d.op = 1 → q.d.topk = false →
              let t := (s2.touch slot).addVA slot (q.d.gradVa + tile * 262144 + 4 * first) (data.map fun w => widenBf16 w.toNat)
              ((s2.ctx slot).frozen q.d tile = true → ∃ v, acked (advance slot q.num v) ∧ v.tiers = s.tiers)
              ∧ ((s2.ctx slot).frozen q.d tile = false → t.2 = false → ∃ v, acked (advance slot q.num v) ∧ v.tiers = t.1.tiers
                ∧ ∀ p, v.collOf slot q.num = some p → p.gotOf o l = q.gotOf o l + data.length)
              ∧ ((s2.ctx slot).frozen q.d tile = false → t.2 = true → ∃ v, exec i s = .next (s.close (sendNak cn m 0x16 v))
                ∧ v = collFail slot q.num 0x112 t.1 ∧ v.col.err.getLsbD 4 = true))
            ∧ (l = 0 → q.d.op = 2 → o ≠ s2.groupRank q.d.axes → ∃ v, acked v
              ∧ v.tiers = (s2.writeVA slot (s2.nextVa slot (q.d.paramVa + tile * 131072) + 2 * first) (data.flatMap fun w => leBytes 2 w.toNat)).tiers
              ∧ ∀ p, v.collOf slot q.num = some p → p.gotOf o 0 = q.gotOf o 0 + data.length))))))
  ∧ (∀ (s : State) (slot : SlotId) (k : Byte) (q : Coll) (status : W16) (hi lo : W32) (root : Option (BitVec 384)) (newest : Option W64),
    s.collByte slot.val k = some q →
    let c := s.ctx slot.val
    let i : Instr := .collComplete slot k status hi lo root newest
    (s.collReady slot.val q = true → q.endsWith status hi lo root newest = true → ∃ u, exec i s = .next (s.close u)
      ∧ (u.ctx slot.val).colls = c.colls.filter (fun p => decide (p.num ≠ q.num))
      ∧ u.col.sent = satAdd Config.sat32 s.col.sent 1 ∧ u.col.skipped = s.col.skipped
      ∧ (q.d.ctrEn = false → u.counters = s.counters)
      ∧ (q.d.ctrEn = true → c.st ≠ .none → u.counters = (s.raiseCtr (c.desc.ctrBase + q.d.doneCtr) 1).counters) ∧ u.dwt = s.dwt ∧ u.nets = s.nets)
    ∧ (s.collReady slot.val q = false ∨ q.endsWith status hi lo root newest = false → exec i s = .next (s.close s)))
  ∧ (∀ (s s1 : State) (n : PortId) (f : RxFacts) (m : Msg) (cn typ : Nat) (i : Instr) (g : CollSeg),
    (typ = 5 ∧ i = .rxAck n f m) ∨ (typ = 6 ∧ i = .rxNak n f m) → dwtIn n.val f m typ s = ⟨s1, some cn⟩ →
    let c := s1.conn cn
    c.coll = true → c.st = .open_ → c.cq = [] → c.csegs.find? (fun g => decide (g.seq = m.ref.toNat)) = some g → g.up = none →
    let rest := c.csegs.filter fun h => decide (h.seq ≠ g.seq)
    (typ = 5 → ∃ u, exec i s = .next (s.close u) ∧ (u.conn cn).csegs = rest ∧ u.ctxs = s1.ctxs ∧ u.tiers = s.tiers)
    ∧ (∀ num, typ = 6 → m.status = 0x16#16 → g.num = some num → ∃ u, exec i s = .next (s.close u)
      ∧ u = collFail c.ctx num 0x112 (s1.setConn cn { c with csegs := rest })))

/-- R290, R291: a beacon is compared with the digest of its step: one that matches changes nothing; one of the step under way, or of one of the 8 after the last that
ended, waits for that digest (the model's reading, log 35), any other outside the history counts as unmatched; one that differs counts, flags DIGEST_MISMATCH
and, under the policy HALT, marks the context; the device raises the mismatch under either policy. -/
def Obligations.BeaconsCompared : Prop :=
  ∀ (s s1 : State) (n : PortId) (f : RxFacts) (m : Msg) (step : W64) (digest : BitVec 384) (cn : Nat),
    dwtIn n.val f m 0x11 s = ⟨s1, some cn⟩ → (s1.conn cn).coll = true →
    let slot := (s1.conn cn).ctx
    let found := (s1.ctx slot).digests.find? fun p => decide (p.1 = step)
    let now := (s1.ctx slot).step.toNat
    (found = none → now ≤ step.toNat → step.toNat < now + 8 → ∃ u, exec (.rxBeacon n f m step digest) s = .next (s.close u)
      ∧ (u.ctx slot).beacons = (s1.ctx slot).beacons ++ [(step, digest)] ∧ u.col = s1.col ∧ u.tiers = s.tiers)
    ∧ (found = none → step.toNat < now ∨ now + 8 ≤ step.toNat → ∃ u, exec (.rxBeacon n f m step digest) s = .next (s.close u)
      ∧ u.col.unmatched = satAdd 65535 s1.col.unmatched 1 ∧ u.col.mismatched = s1.col.mismatched ∧ u.col.err.getLsbD 1 = true ∧ u.ctxs = s1.ctxs)
    ∧ (∀ p, found = some p → p.2 = digest → exec (.rxBeacon n f m step digest) s = .next (s.close s1))
    ∧ (∀ p, found = some p → p.2 ≠ digest → ∃ u, exec (.rxBeacon n f m step digest) s = .next (s.close u)
      ∧ u.col.mismatched = satAdd 65535 s1.col.mismatched 1 ∧ u.col.unmatched = s1.col.unmatched ∧ u.col.err.getLsbD 0 = true
      ∧ (s1.col.policyHalt = true → (u.ctx slot).mismatch = true) ∧ (s1.col.policyHalt = false → u.ctxs = s1.ctxs)
      ∧ u.mgt.nextSeq = s1.mgt.nextSeq + 1)

/-! The security engine -/

/-- R344, R345, R346: GET_CERT_CHAIN and GET_REPORT complete with the chain and with the signed report, and change nothing but
the ring. R330: an operator key joins or leaves the set on a request signed by a registered key under a rising sequence, the
first key with no signature; DECOMMISSION forgets the image, the sealed keys, the operator keys and the sequence, and the
device runs with no enclosures. -/
def Obligations.ReportsAndOperatorKeys : Prop :=
  (∀ (s : State) (r : SecReq), ReqOk s r 0 s.certChain.length true →
    ∃ t, exec (.getCertChain r) s = .next (s.close t) ∧ reqDone t s r 0 s.certChain
      ∧ t.sec.encls = s.sec.encls ∧ t.mgt = s.mgt ∧ t.tiers = s.tiers ∧ t.ctxs = s.ctxs)
  ∧ (∀ (s : State) (r : SecReq) (kind : BitVec 2) (slot : SlotId) (nonce : BitVec 384), ReqOk s r 48 864 true → kind ≠ 0#2 → s.sec.dakOk = true →
    (2 ≤ kind.toNat → (s.encl r.encl.val).st ≠ .absent) →
    (kind = 3#2 → (s.entry r.encl.val).ownsSlot slot.val = true ∧ (s.ctx slot.val).st ≠ .none) →
    ∃ t, exec (.getReport r kind slot nonce) s = .next (s.close t)
      ∧ reqDone t s r 0 (s.report864 kind.toNat r.encl.val slot.val nonce)
      ∧ t.sec.encls = s.sec.encls ∧ t.mgt = s.mgt ∧ t.tiers = s.tiers ∧ t.ctxs = s.ctxs)
  ∧ (∀ (s : State) (r : SecReq) (seq : W64) (key signer : BitVec 768),
    let st := s.mgt.store
    (st.opKeys = [] ∨ signer ∈ st.opKeys) → st.opkeySeq < seq →
    (ReqOk s r 200 0 false → st.opKeys.length < 4 → ∃ t, exec (.opkeyAdd r seq key signer) s = .next (s.close t) ∧ reqDone t s r 0 []
      ∧ key ∈ t.mgt.store.opKeys ∧ (∀ x ∈ st.opKeys, x ∈ t.mgt.store.opKeys) ∧ t.mgt.store.opkeySeq = seq ∧ t.mgt.store.image = st.image
      ∧ t.sec.encls = s.sec.encls)
    ∧ (ReqOk s r 200 0 false → st.opKeys ≠ [key] → (∀ i, s.sec.image = some i → Config.sha384 (beBytes 96 key.toNat) ≠ i.signer) →
      ∃ t, exec (.opkeyRemove r seq key signer) s = .next (s.close t) ∧ reqDone t s r 0 []
      ∧ t.mgt.store.opKeys = st.opKeys.filter (fun x => decide (x ≠ key)) ∧ t.mgt.store.opkeySeq = seq ∧ t.mgt.store.image = st.image
      ∧ t.sec.encls = s.sec.encls)
    ∧ (ReqOk s r 104 0 false → (∀ e ∈ s.entries, s.enclEmpty e = true) → ∃ t, exec (.decommission r seq signer) s = .next (s.close t)
      ∧ reqDone t s r 0 [] ∧ t.mgt.store.image = none ∧ t.mgt.store.sealedKeys = [] ∧ t.mgt.store.opKeys = [] ∧ t.mgt.store.opkeySeq = 0#64
      ∧ t.sec.image = none ∧ t.entries = []))

/-- R318, R325, R326, R328: an image that passes every check puts every enclosure it affects into RESETTING with empty key slots; the load then ends, with the next tick
(the model's choice, log 60): the image becomes the active and the stored one, every enclosure it affects waits for a root key with a new import key, every port domain
and the hub are locked, and the request completes. An image that fails leaves the active one, flags IMAGE_INVALID and completes with the status of its first failing
check. -/
def Obligations.ImageLoads : Prop :=
  ∀ (s : State) (r : SecReq) (image : List Byte) (signer : BitVec 768), ReqOk s r image.length 0 false →
    let i := readImage image
    let ks := i.affected s.sec.image
    (imageChecks image (some signer) s.sec.image s = none → s.busyEncl ks = false →
      ∃ u, exec (.loadImage r image signer) s = .next (s.close u) ∧ u.sec.busy = some (.load r image ks) ∧ u.sec.head = s.sec.head
        ∧ u.sec.place = s.sec.headPlace
        ∧ u.sec.image = s.sec.image ∧ u.mgt.store.image = s.mgt.store.image
        ∧ (∀ k ∈ ks, (u.encl k).st = .resetting ∧ (u.encl k).trk = none ∧ (u.encl k).pubs = [] ∧ (u.encl k).epoch = (s.encl k).epoch
            ∧ ∀ e, oldEntry s.sec.image k = some e → Tbl.rising s.sec.keySlots = true → ∀ n ∈ e.slots, u.slotKey n = none)
        ∧ u.tiers = s.tiers ∧ u.nets = s.nets)
    ∧ (∀ v : State, v.sec.busy = some (.load r image ks) → v.sec.image = s.sec.image →
      let t := endLoad v
      (v.modl.standby = true → v.pending = [] → ∃ w, step v = .next w ∧ w.sec.busy = none ∧ w.sec.image = some i)
      ∧ reqDoneAt v.sec.place t v r 0 [] ∧ t.sec.busy = none ∧ t.sec.image = some i ∧ t.mgt.store.image = some i
      ∧ (∀ k ∈ ks, ∀ e, i.entryOf k = some e → (t.encl k).st = .awaitingKey ∧ (t.encl k).trk = none ∧ (t.encl k).entry = e
          ∧ (t.encl k).epoch = (v.encl k).epoch)
      ∧ (∀ k ∈ ks, i.entryOf k = none → (oldEntry s.sec.image k).isSome = true → (t.encl k).st = .absent)
      ∧ (∀ n < 16, (t.net n).locked = true) ∧ t.hif.ideLocked = true ∧ t.dwt.udpLocked = true ∧ t.col.policyLocked = true)
    ∧ (∀ k, (imageChecks image (some signer) s.sec.image s = some k ∨
          (imageChecks image (some signer) s.sec.image s = none ∧ s.busyEncl ks = true ∧ k = 0x1B)) →
      ∃ t, exec (.loadImage r image signer) s = .next (s.close t) ∧ reqDone t s r k [] ∧ t.sec.image = s.sec.image
        ∧ t.sec.err.getLsbD 0 = true ∧ t.sec.encls = s.sec.encls ∧ t.nets = s.nets ∧ t.tiers = s.tiers)

/-- R318, R331, R334, R336, R337, R365: KEY_IMPORT makes an enclosure that waits for its key ACTIVE under the key of the blob, with the next epoch and its log key in its slot; a blob that
does not open is refused and flagged; KEY_ERASE resets it as an operator would, after its drain, and drops root key, publisher keys and sealed key; PUB_INSTALL installs the key in its slot under a rising sequence. -/
def Obligations.EnclosureKeys : Prop :=
  (∀ (s : State) (r : SecReq) (b : ImportBlob), ReqOk s r 168 0 false →
    let k := r.encl.val
    s.enclStatus k .awaitingKey = none →
    (s.blobOpens k b = true → ∃ t, exec (.keyImport r b) s = .next (s.close t) ∧ reqDone t s r 0 []
      ∧ (t.encl (s.entry k).index).st = .active ∧ (t.encl (s.entry k).index).trk = some b.trk ∧ (t.encl (s.entry k).index).persist = b.persist
      ∧ (t.encl (s.entry k).index).epoch = (s.encl k).epoch + 1 ∧ (t.encl (s.entry k).index).importPriv = none
      ∧ t.slotKey (s.entry k).logSlot = some (s.enclKey (s.entry k).index b.trk "TV8-LOG-1" true 32) ∧ t.tiers = s.tiers)
    ∧ (s.blobOpens k b = false → ∃ t, exec (.keyImport r b) s = .next (s.close t) ∧ reqDone t s r 0x23 []
      ∧ t.sec.err.getLsbD 2 = true ∧ t.sec.encls = s.sec.encls ∧ t.sec.keySlots = s.sec.keySlots))
  ∧ (∀ (s : State) (r : SecReq) (mac : BitVec 384), ReqOk s r 48 0 false →
    let k := r.encl.val
    let e := s.entry k
    s.enclStatus k .active = none →
    let d := Domain.encl r.encl
    let v := fence d false (holdReq (.erase r) s)
    let done := fun t : State => reqDone t s r 0 [] ∧ t.sec.busy = none
      ∧ (t.encl e.index).st = .awaitingKey ∧ (t.encl e.index).trk = none ∧ (t.encl e.index).pubs = []
      ∧ (∀ n ∈ e.slots, t.slotKey n = none) ∧ (∀ p ∈ t.tiers.pt, e.ownsSlot (p.1 / vpages) = false)
      ∧ (∀ x ∈ t.mgt.store.sealedKeys, x.index ≠ k) ∧ d ∉ t.rcv.eclipse
    (mac = s.reqMac k "ERASE" [] → s.replayIn d = false → d ∉ s.rcv.counting → (∀ x ∈ s.rcv.suspects, x.dom ≠ d) → Tbl.rising s.sec.keySlots = true →
      (v.outstanding d = true → exec (.keyErase r mac) s = .next (s.close v) ∧ v.sec.busy = some (.erase r) ∧ d ∈ v.rcv.eclipse
        ∧ (v.encl k).st = .eclipse ∧ (v.encl k).trk = (s.encl k).trk ∧ v.tiers = s.tiers
        ∧ ∃ t, exec (.drainExpiry d) v = .next (v.close t) ∧ done t)
      ∧ (v.outstanding d = false → ∃ t, exec (.keyErase r mac) s = .next (s.close t) ∧ done t))
    ∧ (mac ≠ s.reqMac k "ERASE" [] → ∃ t, exec (.keyErase r mac) s = .next (s.close t) ∧ reqDone t s r 0x24 []
      ∧ t.sec.err.getLsbD 2 = true ∧ t.sec.encls = s.sec.encls ∧ t.sec.keySlots = s.sec.keySlots ∧ t.tiers = s.tiers))
  ∧ (∀ (s : State) (r : SecReq) (input : List Byte), ReqOk s r 160 0 false →
    let k := r.encl.val
    let slot := rd input 0 1
    let seq := BitVec.ofNat 64 (rd input 8 8)
    let key := BitVec.ofNat 768 (beNat ((input.drop 0x10).take 96))
    s.enclStatus k .active = none → rd input 1 7 = 0 → BitVec.ofNat 384 (beNat ((input.drop 0x70).take 48)) = s.reqMac k "PUB" (input.take 0x70) →
    ((∀ n, (s.encl k).pubSeq = some n → n < seq) → slot < 16 → (key = 0 ∨ Config.p384Valid key = true) → Tbl.rising (s.encl k).pubs = true →
      ∃ t, exec (.pubInstall r input) s = .next (s.close t) ∧ reqDone t s r 0 [] ∧ Tbl.get 0 (t.encl k).pubs slot = key
        ∧ (t.encl k).pubSeq = some seq ∧ (t.encl k).st = (s.encl k).st ∧ (t.encl k).trk = (s.encl k).trk
        ∧ (∀ j, j ≠ slot → Tbl.get 0 (t.encl k).pubs j = Tbl.get 0 (s.encl k).pubs j) ∧ t.tiers = s.tiers)
    ∧ (∀ n, (s.encl k).pubSeq = some n → seq ≤ n → ∃ t, exec (.pubInstall r input) s = .next (s.close t) ∧ reqDone t s r 0x25 []
        ∧ t.sec.encls = s.sec.encls))

/-! Recovery -/

/-- R362, R364, R365, R78: an operator's reset of a core or a port, and the end of its drain. While requests are outstanding the domain stands in eclipse; once none is, a core is
IDLE with its streams cleared and its self-test running, and a port has lost its link, its sparing and its error flags and keeps its settings. Memory stays. -/
def Obligations.CoreAndPortResets : Prop :=
  (∀ (s : State) (n : CoreId), s.rcv.ready = true → bit s.rcv.coresRetired n.val = false → (s.core n.val).state ≠ .retired →
    Domain.core n ∉ s.rcv.counting → s.replayIn (.core n) = false →
    let v := fence (.core n) false s
    let fresh := fun u : State => (u.core n.val).state = .idle ∧ (u.core n.val).busy = true ∧ (u.core n.val).done = false
      ∧ (u.core n.val).live = {} ∧ (u.core n.val).err = 0 ∧ (u.core n.val).firstFail = 0x1FF ∧ Domain.core n ∉ u.rcv.eclipse
      ∧ (∀ m, m ≠ n.val → u.core m = s.core m) ∧ u.tiers = s.tiers ∧ u.counters = s.counters ∧ u.nets = s.nets
    (v.outstanding (.core n) = true → exec (.coreReset n) s = .next (s.close v) ∧ Domain.core n ∈ v.rcv.eclipse
      ∧ (v.core n.val).state = .eclipse ∧ (∀ k, (s.core n.val).resident = some k → (v.ctx k).st = .eclipse) ∧ v.tiers = s.tiers)
    ∧ (v.outstanding (.core n) = false → ∃ u, exec (.coreReset n) s = .next (s.close u) ∧ fresh u)
    ∧ (Domain.core n ∈ s.rcv.eclipse → ∃ u, exec (.drainExpiry (.core n)) s = .next (s.close u) ∧ fresh u))
  ∧ (∀ (s : State) (n : PortId), s.rcv.ready = true → bit s.rcv.portsRetired n.val = false → Domain.port n ∉ s.rcv.counting →
    (∀ x ∈ s.rcv.suspects, x.dom ≠ .port n) →
    let v := fence (.port n) false s
    let fresh := fun u : State => (u.net n.val).linkUp = false ∧ (u.net n.val).helloOk = false ∧ (u.net n.val).degraded = false
      ∧ (u.net n.val).txDegraded = false ∧ (u.net n.val).rxHealthy = 0xF
      ∧ (u.net n.val).txSpare = none ∧ (u.net n.val).rxSpare = none ∧ (u.net n.val).txq = [] ∧ (u.net n.val).err = 0
      ∧ (u.net n.val).locked = false ∧ (u.net n.val).cfg = (s.net n.val).cfg ∧ (u.net n.val).counters = (s.net n.val).counters
      ∧ Domain.port n ∉ u.rcv.eclipse ∧ (∀ m, m ≠ n.val → u.net m = s.net m) ∧ u.tiers = s.tiers ∧ u.cores = s.cores ∧ u.ctxs = s.ctxs
    (v.outstanding (.port n) = true → exec (.portReset n) s = .next (s.close v) ∧ Domain.port n ∈ v.rcv.eclipse ∧ v.nets = s.nets)
    ∧ (v.outstanding (.port n) = false → ∃ u, exec (.portReset n) s = .next (s.close u) ∧ fresh u)
    ∧ (Domain.port n ∈ s.rcv.eclipse → ∃ u, exec (.drainExpiry (.port n)) s = .next (s.close u) ∧ fresh u))

/-- R318, R320, R362 to R365, R390: ENCLOSURE_RESET, HUB_RESET and DEVICE_RESET complete. Where requests of the domain are outstanding it stands in eclipse until
its drain ends; where none is, and at the end of the drain, it resets (a replay that uses the domain ends first, log 39): an enclosure reset unloads the enclosure's contexts, unmaps its pages, ends its connections,
windows and queues, keeps its keys, and leaves it in RESETTING until the next tick (the model's choice, log 60); a hub reset faults every loaded context, loses counters, collectives, connections,
queues, doorbell pages and every link, and keeps memory and cores; a device reset unloads every context, zeroes the near tier and starts over at T. -/
def Obligations.WideResets : Prop :=
  (∀ (s : State) (i : EnclId), s.rcv.ready = true → (s.encl i.val).st ≠ .absent → Domain.encl i ∉ s.rcv.counting →
    (∀ x ∈ s.rcv.suspects, x.dom ≠ .encl i) → s.sec.busy = none → s.replayIn (.encl i) = false →
    let e := s.entry i.val
    let v := fence (.encl i) false s
    let done := fun u : State => (u.encl i.val).st = .resetting
      ∧ (u.encl i.val).before = (if (s.encl i.val).trk.isSome then .active else .awaitingKey)
      ∧ (u.encl i.val).trk = (s.encl i.val).trk ∧ (u.encl i.val).pubs = (s.encl i.val).pubs ∧ (u.encl i.val).epoch = (s.encl i.val).epoch
      ∧ (∀ k, e.ownsSlot k = true → (u.ctx k).st = .none) ∧ (∀ p ∈ u.tiers.pt, e.ownsSlot (p.1 / vpages) = false)
      ∧ (∀ p ∈ u.dwt.conns, e.ownsConn p.1 = false) ∧ (∀ p ∈ u.dwt.queues, inRange p.1 e.queueBase e.queueCount = false)
      ∧ (∀ p ∈ u.dwt.wins, inRange p.1 e.winBase e.winCount = true → p.2.st = .closed)
      ∧ Domain.encl i ∉ u.rcv.eclipse ∧ u.nets = s.nets
    (v.outstanding (.encl i) = true → exec (.enclosureReset i) s = .next (s.close v) ∧ Domain.encl i ∈ v.rcv.eclipse
      ∧ (v.encl i.val).st = .eclipse ∧ (v.encl i.val).trk = (s.encl i.val).trk ∧ v.tiers = s.tiers)
    ∧ (v.outstanding (.encl i) = false → ∃ u, exec (.enclosureReset i) s = .next (s.close u) ∧ done u)
    ∧ (Domain.encl i ∈ s.rcv.eclipse → ∃ u, exec (.drainExpiry (.encl i)) s = .next (s.close u) ∧ done u))
  ∧ (∀ (s : State), s.rcv.ready = true → Domain.hub ∉ s.rcv.counting → (∀ x ∈ s.rcv.suspects, x.dom ≠ .hub) → s.replayIn .hub = false →
    let v := fence .hub false s
    let done := fun u : State => (∀ k, (s.ctx k).st ≠ .none → (u.ctx k).st = .faulted ∧ (u.ctx k).colls = []) ∧ u.counters = [] ∧ u.pages = []
      ∧ u.dwt.conns = [] ∧ u.dwt.queues = [] ∧ (∀ p ∈ u.dwt.wins, p.2.st = .closed) ∧ u.dwt.ready = false ∧ u.col.ready = false
      ∧ u.tiers.ready = false ∧ u.hif.ready = false ∧ u.tiers.mem = s.tiers.mem ∧ (∀ n < 16, (u.net n).linkUp = false)
      ∧ Domain.hub ∉ u.rcv.eclipse ∧ u.cores = s.cores
    (v.outstanding .hub = true → exec .hubReset s = .next (s.close v) ∧ Domain.hub ∈ v.rcv.eclipse
      ∧ (∀ k, (s.ctx k).st ≠ .none → (v.ctx k).st = .eclipse) ∧ v.tiers = s.tiers ∧ v.nets = s.nets)
    ∧ (v.outstanding .hub = false → ∃ u, exec .hubReset s = .next (s.close u) ∧ done u
      ∧ ∀ k, (s.ctx k).st ≠ .none → (u.ctx k).cause = 0x303)
    ∧ (Domain.hub ∈ s.rcv.eclipse → ∃ u, exec (.drainExpiry .hub) s = .next (s.close u) ∧ done u))
  ∧ (∀ (s : State), s.rcv.ready = true → Domain.device ∉ s.rcv.counting → s.replayIn .device = false →
    let v := fence .device false s
    let done := fun u : State => (∀ k, (u.ctx k).st = .none) ∧ u.counters = [] ∧ u.dwt.conns = []
      ∧ u.mgt.ready = false ∧ u.rcv.ready = false ∧ u.hif.ready = false ∧ u.sec.ready = false ∧ u.sec.image = none
      ∧ u.mgt.store = s.mgt.store ∧ u.rcv.suspects = [] ∧ u.rcv.eclipse = []
      ∧ (∀ a < packageBase * Config.pageBytes, Tbl.get 0#8 u.tiers.mem a = 0#8)
      ∧ u.modl.phase = (if s.modl.pwrGood || s.hubOut then .perst else s.modl.phase) ∧ u.modl.thermalStop = false
    (v.outstanding .device = true → exec .deviceReset s = .next (s.close v) ∧ Domain.device ∈ v.rcv.eclipse
      ∧ (∀ k, (s.ctx k).st ≠ .none → (v.ctx k).st = .eclipse) ∧ v.tiers = s.tiers ∧ v.nets = s.nets)
    ∧ (v.outstanding .device = false → ∃ u, exec .deviceReset s = .next (s.close u) ∧ done u)
    ∧ (Domain.device ∈ s.rcv.eclipse → ∃ u, exec (.drainExpiry .device) s = .next (s.close u) ∧ done u))

/-- R359, R366, R368, R369, R373, R384: an engine fault resets its domain and counts; a core or hub reset joins the failure history; the third counted reset of a core or port within ten minutes
retires it; a replay that runs ends without a result, and the suspects of its domain are judged once the last has one (the model's reading, log 39). A fault of the fabric, a watchdog of a core or of a hub engine, and a tier command that hangs are engine faults of their domain. That a link that failed had 7
retries, its first try being none, is the model's reading (log 59). -/
def Obligations.EngineFaults : Prop :=
  (∀ (s : State) (n : CoreId), bit s.rcv.coresRetired n.val = false → (s.core n.val).state ≠ .retired →
    let s1 := endReplay false s
    ∃ v, exec (.engineFault (.core n)) s = .next (s.close (domainFault (.core n) s))
      ∧ domainFault (.core n) s = afterFault (.core n) s (startReset (.core n) true v)
      ∧ v.cores = s1.cores ∧ v.ctxs = s1.ctxs ∧ v.tiers = s1.tiers
      ∧ v.rcv.history = s.rcv.history ∧ v.rcv.failures = s.rcv.failures ∧ v.rcv.replaying = none
      ∧ ((∀ x ∈ s1.rcv.suspects, x.dom ≠ .core n) →
          v.rcv.suspects = s1.rcv.suspects ++ (s1.coreSuspects n.val).map (s1.suspect (.core n) true none))
      ∧ ((fence (.core n) true v).outstanding (.core n) = false →
          let u := startReset (.core n) true v
          (⟨n.val, s.ticks⟩ ∈ u.rcv.history) ∧ u.rcv.failures = satAdd Config.sat32 s.rcv.failures 1 ∧ Domain.core n ∉ u.rcv.counting
          ∧ ((addCounted n.val s).countedIn n.val tenMinutes < 3 → (u.core n.val).state = .idle ∧ (u.core n.val).busy = true
              ∧ (u.core n.val).live = {} ∧ u.tiers = s1.tiers)
          ∧ (3 ≤ (addCounted n.val s).countedIn n.val tenMinutes → (u.core n.val).state = .retired ∧ bit u.rcv.coresRetired n.val = true)))
  ∧ (∀ (s : State) (n : PortId), bit s.rcv.portsRetired n.val = false →
    let s1 := endReplay false s
    ∃ v, exec (.engineFault (.port n)) s = .next (s.close (domainFault (.port n) s))
      ∧ domainFault (.port n) s = afterFault (.port n) s (startReset (.port n) true v)
      ∧ v.nets = s.nets ∧ v.ctxs = s1.ctxs ∧ v.tiers = s1.tiers
      ∧ ((fence (.port n) true v).outstanding (.port n) = false →
          let u := startReset (.port n) true v
          (⟨8 + n.val, s.ticks⟩ ∈ u.rcv.history) ∧ (u.net n.val).linkUp = false
          ∧ (3 ≤ (addCounted (8 + n.val) s).countedIn (8 + n.val) tenMinutes → (u.net n.val).retired = true
              ∧ bit u.rcv.portsRetired n.val = true)))
  ∧ (∀ (s : State),
    let s1 := endReplay false s
    ∃ v, exec (.engineFault .hub) s = .next (s.close (domainFault .hub s)) ∧ domainFault .hub s = afterFault .hub s (startReset .hub true v)
      ∧ v.ctxs = s1.ctxs ∧ v.tiers = s1.tiers
      ∧ ((fence .hub true v).outstanding .hub = false → (addCounted 24 s).countedIn 24 tenMinutes < 3 → (∀ x ∈ v.rcv.suspects, x.dom ≠ .hub) →
          let u := startReset .hub true v
          (∀ k ∈ s1.affected .hub, (u.ctx k).st = .faulted) ∧ u.counters = [] ∧ u.dwt.conns = []
          ∧ u.rcv.failures = satAdd Config.sat32 s.rcv.failures 1 ∧ u.rcv.err.getLsbD 4 = true))
  ∧ (∀ (s : State) (n : CoreId) (x : StrmId) (e : HubEngine) (slot : SlotId),
    let u := s.errRcv 3 (core := n.val)
    let v := s.errRcv 3
    let w := fun hub : Bool => (retried 7 s).errRcv 1 (core := if hub then 0xFF else n.val)
    let s1 := endReplay false s
    u.rcv.err.getLsbD 3 = true ∧ v.rcv.err.getLsbD 3 = true ∧ u.cores = s.cores ∧ u.ctxs = s.ctxs ∧ v.cores = s.cores ∧ v.ctxs = s.ctxs
    ∧ (∀ hub, (w hub).rcv.err.getLsbD 1 = true ∧ (w hub).cores = s.cores ∧ (w hub).ctxs = s.ctxs
        ∧ (w hub).rcv.fabricRetries = satAdd Config.sat64 s.rcv.fabricRetries 7)
    ∧ (s.unitInFlight n.val x = true → s.modl.thermalStop = false →
        exec (.coreUnitWatchdog n x) s = .next (s.close (domainFault (.core n) u)))
    ∧ (([StrmId.F, .B, .U].any fun x => ((s.core n.val).live.strm x).flights.any (·.mem)) = true →
        exec (.accessRequestWatchdog n) s = .next (s.close (domainFault (.core n) u)))
    ∧ (s.engineBusy e = true → exec (.hubEngineWatchdog e) s = .next (s.close (engineFault .hub (s1.engineSuspects e) v)))
    ∧ (s.engineBusy e = false → exec (.hubEngineWatchdog e) s = .next s)
    ∧ (s.tierWaiting slot.val = true →
        exec (.tierCommandWatchdog slot) s = .next (s.close (engineFault .hub (s1.engineSuspects .tierManager) v)))
    ∧ exec (.fabricLinkFail n true) s = .next (s.close (domainFault .hub (w true)))
    ∧ exec (.fabricLinkFail n false) s = .next (s.close
        (domainFault (.core (Fin.ofNat 8 (n.val / 2 * 2 + 1))) (domainFault (.core (Fin.ofNat 8 (n.val / 2 * 2))) (w false)))))

/-- R369, R370, R371, R372: suspects replay one at a time, from the lowest slot: the context runs again on its cores, once they are there, from the
positions of its last meridian and for as many instructions as each stream had dispatched, with counters of its own; one that cannot be undone, or a core of which
has been retired, is marked and counts as not reproduced (the latter the model's reading, log 39). A replay ends reproduced or not; the culprit is FAULTED with cause 0x305, and once every suspect of a core has a
result an innocent one resumes from its meridian, or is lost. R366, R367, R390: a stream or a queue that makes no progress
faults its context with HANG_STREAM or HANG_QUEUE and flags the watchdog. -/
def Obligations.HangsAndReplays : Prop :=
  (∀ (s : State) (d : Domain) (slot : SlotId),
    s.nextSuspect d = some slot.val → s.rcv.replaying = none → d ∉ s.rcv.eclipse → s.domBusy d = false →
    let c := s.ctx slot.val
    let cores := maskCores c.desc.mask
    let gone := cores.any fun n => decide ((s.core n).state = .retired)
    (∀ x, s.rcv.suspects.find? (fun x => decide (x.dom = d) && decide (x.slot = slot.val)) = some x →
      c.undoable = true → gone = false → s.replayRoom slot.val = true →
      ∃ u, exec (.suspectReplay d slot) s = .next (s.close u) ∧ u.rcv.replaying = some (d, slot.val) ∧ u.rcv.suspects = s.rcv.suspects
        ∧ (u.ctx replaySlot).st = .running ∧ (u.ctx replaySlot).desc.ctrBase = replayCtrs ∧ (u.ctx slot.val).st = c.st
        ∧ (∀ p ∈ cores.zipIdx, (u.core p.1).resident = some replaySlot
            ∧ (u.core p.1).live = ((Tbl.get {} c.rcv.mCores p.1).resume).upTo ((x.counts.drop (3 * p.2)).take 3))
        ∧ (∀ k < c.desc.ctrCount, u.counter (replayCtrs + k) = if k ∈ c.rcv.others then x.ctrs.getD k 0 else c.rcv.mCounters.getD k 0)
        ∧ (∀ k < replayCtrs, u.counter k = s.counter k))
    ∧ (c.undoable = true → gone = false → s.replayRoom slot.val = false → exec (.suspectReplay d slot) s = .next (s.close s))
    ∧ (c.undoable = false ∨ gone = true → (∃ x ∈ s.rcv.suspects, x.dom = d ∧ x.slot ≠ slot.val ∧ x.reproduced = none) →
      ∃ u, exec (.suspectReplay d slot) s = .next (s.close u) ∧ u.rcv.replaying = none ∧ (u.ctx slot.val).flags = (s.ctx slot.val).flags ||| 2
      ∧ (∀ x ∈ u.rcv.suspects, x.dom = d → x.slot = slot.val → x.reproduced = some false)))
  ∧ (∀ (s : State) (d : Domain) (slot : SlotId) (x : Suspect) (res : Bool) (i : Instr),
    (res = false ∧ i = .replayTimeout) ∨ (i = .replayOutcome res ∧ (res = true ∨ s.replayOver = true)) → s.rcv.replaying = some (d, slot.val) →
    s.rcv.suspects.filter (fun y => decide (y.dom = d)) = [x] → x.slot = slot.val → s.domBusy d = false → (s.ctx slot.val).st ≠ .none →
    let left := fun u : State => s.rcv.replay.isSome = true → u.rcv.replay = none ∧ (u.ctx replaySlot).st = .none
    (res = true → ∃ u, exec i s = .next (s.close u) ∧ left u ∧ u.rcv.replaying = none ∧ (∀ y ∈ u.rcv.suspects, y.dom ≠ d)
      ∧ (u.ctx slot.val).st = .faulted ∧ (u.ctx slot.val).cause = 0x305 ∧ u.rcv.err.getLsbD 5 = true)
    ∧ (res = false → ∃ u, exec i s = .next (s.close u) ∧ left u ∧ u.rcv.replaying = none ∧ (∀ y ∈ u.rcv.suspects, y.dom ≠ d)
      ∧ (x.fault = true → u.rcv.err.getLsbD 4 = true)
      ∧ (∀ n, d = .core n → (s.ctx slot.val).st = .eclipse → (s.ctx slot.val).before ≠ .faulted →
          ((s.ctx slot.val).undoable && !(s.ctx slot.val).rcv.touched) = false →
          (u.ctx slot.val).st = .faulted ∧ (u.ctx slot.val).cause = 0x304)
      ∧ (∀ n, d = .core n → (s.ctx slot.val).st = .eclipse → (s.ctx slot.val).before ≠ .faulted →
          ((s.ctx slot.val).undoable && !(s.ctx slot.val).rcv.touched) = true →
          (u.ctx slot.val).st = (s.ctx slot.val).before ∧ (u.ctx slot.val).raise = [] ∧ (u.ctx slot.val).perm = (s.ctx slot.val).rcv.mPerm)))
  ∧ (∀ (s : State) (n : CoreId) (x : StrmId) (slot : Nat), s.hangs n.val x = some slot →
    ∃ u, exec (.hangStream n x) s = .next (s.close u) ∧ (u.ctx slot).st = .faulted ∧ (u.ctx slot).faulting = true ∧ (u.ctx slot).cause = 0x300
      ∧ (u.ctx slot).faultCore = n.val ∧ (u.ctx slot).faultStream = strmTag x ∧ u.rcv.err.getLsbD 3 = true
      ∧ u.cores = s.cores ∧ u.tiers = s.tiers ∧ u.counters = s.counters ∧ ∀ k, k ≠ slot → u.ctx k = s.ctx k)
  ∧ (∀ (s : State) (slot : SlotId) (q : Option QueueId), s.queueHangs slot.val q = true → 0 < s.rcv.queueMs → (s.ctx slot.val).held = false →
    (s.ctx slot.val).st ≠ .none → (s.ctx slot.val).st ≠ .faulted → (s.ctx slot.val).st ≠ .eclipse →
    ∃ u, exec (.hangQueue slot q) s = .next (s.close u) ∧ (u.ctx slot.val).st = .faulted ∧ (u.ctx slot.val).cause = 0x301
      ∧ u.rcv.err.getLsbD 3 = true ∧ u.cores = s.cores ∧ u.tiers = s.tiers ∧ u.dwt = s.dwt ∧ ∀ k, k ≠ slot.val → u.ctx k = s.ctx k)

/-- R182, R375, R376, R377, R205, R384: a region with a row or bank that must be spared takes a spare of its own pool, and another takes none (of the package and board
tiers the model leaves open which pool it is, and of every tier which lines share a row or bank, log 56); a tier fills one at a time; with none left it retires and
counts as a failure; a finished fill counts and marks the lines that were lost as poisoned; a spare that fails is given up
for the next one. R381, R386, R385: a starfix whose pages are copied, and acknowledged where a mirror is enabled (the mirrored copy is the model's own, log 30), joins the
complete ones, and the mirror's; a FAULTED context whose cause allows it is restored to its committed starfix by itself, its domains out of eclipse: the pages,
the counters, the step and the stream positions of that starfix (which step is resumed is the model's choice, log 34; the operations of its connections end first, log 34). -/
def Obligations.SpareFillsAndStarfixes : Prop :=
  (∀ (s : State) (t : Tier) (bank : Bool) (region : List Nat),
    let f : Fill := ⟨t, bank, s.failPool t region, region⟩
    let used := fun u : State => Tbl.get 0 (if bank then u.tiers.banksUsed else u.tiers.rowsUsed) (sparePool t f.pool)
    let due := if bank then s.bankDue region else s.rowDue region
    (due = none → exec (.spareFillStart t bank region) s = .next s)
    ∧ (∀ l, due = some l → used s < poolSpares t bank → ∃ u, exec (.spareFillStart t bank region) s = .next (s.close u) ∧ used u = used s + 1
      ∧ (∀ p, p ≠ sparePool t f.pool → Tbl.get 0 u.tiers.rowsUsed p = Tbl.get 0 s.tiers.rowsUsed p
          ∧ Tbl.get 0 u.tiers.banksUsed p = Tbl.get 0 s.tiers.banksUsed p) ∧ u.tiers.mem = s.tiers.mem
      ∧ (bank = false → u.tiers.spared = s.tiers.spared ++ [l])
      ∧ (if s.rcv.fillActive.any (fun g => decide (g.tier = t)) then u.rcv.fillPending = s.rcv.fillPending ++ [f] ∧ u.rcv.fillActive = s.rcv.fillActive
          else u.rcv.fillActive = s.rcv.fillActive ++ [f] ∧ u.rcv.fillPending = s.rcv.fillPending))
    ∧ (due ≠ none → poolSpares t bank ≤ used s → ∃ u, exec (.spareFillStart t bank region) s = .next (s.close u) ∧ (∀ g ∈ region, g ∈ u.tiers.lost)
      ∧ u.tiers.err.getLsbD 6 = true ∧ u.rcv.failures = satAdd Config.sat32 s.rcv.failures 1 ∧ u.mgt.store.lost = u.tiers.lost))
  ∧ (∀ (s : State) (t : Tier) (failed : List Nat) (f : Fill), s.rcv.fillActive.find? (fun f => decide (f.tier = t)) = some f →
    ((∀ g ∈ s.rcv.fillPending, g.tier ≠ t) → ∃ u, exec (.spareFillDone t false failed) s = .next (s.close u)
      ∧ u.rcv.fillDone = satAdd Config.sat32 s.rcv.fillDone 1 ∧ u.rcv.fillActive = s.rcv.fillActive.erase f
      ∧ (∀ l ∈ failed, l ∈ u.tiers.poison) ∧ u.tiers.mem = s.tiers.mem ∧ u.tiers.pt = s.tiers.pt ∧ u.cores = s.cores)
    ∧ (∀ u, takeSpare f (s.logEv (ev 1 0x09 0x41)) = some u → exec (.spareFillDone t true failed) s = .next (s.close u)
      ∧ u.rcv = s.rcv ∧ u.tiers.mem = s.tiers.mem ∧ u.mgt.nextSeq = s.mgt.nextSeq + 1))
  ∧ (∀ (s : State) (slot : SlotId) (x : Starfix) (d : RcvDesc),
    let c := s.ctx slot.val
    c.rcv.copying = some x → c.rcv.desc = some d →
    (d.mirrorEn = true → c.rcv.mirrored = false → exec (.starfixComplete slot) s = .next (s.settle s))
    ∧ ((d.mirrorEn = true → c.rcv.mirrored = true) → ∃ u, exec (.starfixComplete slot) s = .next (s.settle u) ∧ (u.ctx slot.val).rcv.copying = none
      ∧ (u.ctx slot.val).rcv.starfixes = c.rcv.starfixes ++ [{ x with complete := true }] ∧ (u.ctx slot.val).st = c.st
      ∧ (d.mirrorEn = true → Tbl.get [] u.rcv.mirrors d.mirrorKey
          = (Tbl.get [] s.rcv.mirrors d.mirrorKey).filter (·.committed) ++ [{ x with complete := true }])
      ∧ (d.mirrorEn = false → u.rcv = s.rcv) ∧ u.tiers = s.tiers ∧ u.cores = s.cores ∧ u.counters = s.counters))
  ∧ (∀ (s : State) (slot : SlotId) (step : W64) (encl : Nat) (d : RcvDesc),
    let c := s.ctx slot.val
    c.rcv.committedStep = some step → s.enclOfSlot slot.val = some encl → c.st = .faulted → c.cause ∈ autoCauses → c.rcv.desc = some d →
    d.autoRestore = true → (∀ n ∈ maskCores c.desc.mask, (s.core n).state ≠ .eclipse) → s.ownEclipse slot.val = false → s.linkLost = false →
    let r := restore slot.val encl step false s
    (r.2 = 0 → ∃ u y, exec (.autoRestore slot) s = .next (s.close u) ∧ u = r.1.setCtx slot.val { r.1.ctx slot.val with rcvStatus := 0 }
      ∧ restored slot.val encl step false s s y u ∧ (u.ctx slot.val).rcvStatus = 0)
    ∧ (r.2 ≠ 0 → exec (.autoRestore slot) s = .next (s.close (s.setCtx slot.val { c with rcvStatus := r.2 }))))

/-! Management -/

/-- R397, R399: a mailbox command that its general checks refuse completes with the status of the first failing check and no output, and has none of its effect. -/
def Obligations.MailboxRefusals : Prop :=
  ∀ (s : State) (m : Mbox) (arg : W32) (inp : List Byte) (sig : Bool) (i : Instr) (c : MbCmd) (k : Nat),
    (i = .getStatus m arg ∧ c = plain 0x01 arg) ∨ (i = .getIdentity m arg ∧ c = plain 0x02 arg) ∨ (i = .readSensors m arg ∧ c = plain 0x03 arg)
    ∨ (i = .readLog m arg inp ∧ c = withInput 0x04 arg inp) ∨ (i = .getSetting m arg ∧ c = plain 0x05 arg)
    ∨ (i = .setSetting m arg inp ∧ c = withInput 0x06 arg inp) ∨ (i = .store m arg ∧ c = plain 0x07 arg)
    ∨ (i = .setPowerCap m arg ∧ c = plain 0x08 arg) ∨ (i = .setState m arg ∧ c = plain 0x09 arg)
    ∨ (i = .fwStage m arg inp ∧ c = withInput 0x0A arg inp) ∨ (i = .fwActivate m arg sig ∧ c = { plain 0x0B arg with sig := sig })
    ∨ (i = .fwCommit m arg ∧ c = plain 0x0C arg) ∨ (i = .getFwInfo m arg ∧ c = plain 0x0D arg) ∨ (i = .maintain m arg ∧ c = plain 0x0E arg)
    ∨ (i = .reinstate m arg ∧ c = plain 0x0F arg) ∨ (i = .setSlot m arg ∧ c = plain 0x10 arg) →
    s.serves m = true → (m = .host → s.mgt.awake = true) → s.mbRefuse c = some k → ∃ t, exec i s = .next (s.close t) ∧ mboxShows t m c k [] ∧ mboxOnly s t

/-- R397, R400, R401, R406, R407, R412, R418: the reading commands answer with what they read and change nothing but their
mailbox; READ_SENSORS also arms the droop monitors it read again, and is refused where its range runs past the last sensor. -/
def Obligations.MailboxReads : Prop :=
  ∀ (s : State) (m : Mbox) (arg : W32) (inp : List Byte),
    (MboxOk s m (plain 0x01 arg) → ∃ t, exec (.getStatus m arg) s = .next (s.close t) ∧ mboxShows t m (plain 0x01 arg) 0 (leBytes 8 s.mgtStatus) ∧ mboxOnly s t)
    ∧ (MboxOk s m (plain 0x02 arg) → ∃ t, exec (.getIdentity m arg) s = .next (s.close t) ∧ mboxShows t m (plain 0x02 arg) 0 s.identity ∧ mboxOnly s t)
    ∧ (MboxOk s m (plain 0x03 arg) →
        let ks := (List.range (arg.toNat / 65536)).map fun i => arg.toNat % 65536 + i
        ∃ t, exec (.readSensors m arg) s = .next (s.close t) ∧ mboxShows t m (plain 0x03 arg) 0 (ks.flatMap fun k => leBytes 4 (s.reading k))
          ∧ mboxOnly s t ∧ (Tbl.rising s.mgt.sensors = true → ∀ k ∈ ks, 48 ≤ k → k < 144 → Tbl.look t.mgt.sensors k = none)
          ∧ (∀ k, (k < 48 ∨ 144 ≤ k) → Tbl.look t.mgt.sensors k = Tbl.look s.mgt.sensors k))
    ∧ (s.serves m = true → Tbl.rising (s.mbox m).buf = true → s.mgt.awake = true → arg.toNat / 65536 ≠ 0 →
        1024 < arg.toNat % 65536 + arg.toNat / 65536 → ∃ t, exec (.readSensors m arg) s = .next (s.close t)
          ∧ mboxShows t m (plain 0x03 arg) 3 [] ∧ mboxOnly s t)
    ∧ (MboxOk s m (withInput 0x04 arg inp) → ∃ t, exec (.readLog m arg inp) s = .next (s.close t)
        ∧ mboxShows t m (withInput 0x04 arg inp) 0 (readLog arg.toNat (leNat (inp.take 8)) s).out ∧ mboxOnly s t)
    ∧ (∀ v, MboxOk s m (plain 0x05 arg) → s.mgt.working.get arg.toNat = some v → ∃ t, exec (.getSetting m arg) s = .next (s.close t)
        ∧ mboxShows t m (plain 0x05 arg) 0 (leBytes 8 v) ∧ mboxOnly s t)
    ∧ (MboxOk s m (plain 0x0D arg) → ∃ t, exec (.getFwInfo m arg) s = .next (s.close t)
        ∧ mboxShows t m (plain 0x0D arg) 0 (s.fwInfo s.mgt.fwRun ++ s.fwInfo s.mgt.idleSlot) ∧ mboxOnly s t)

/-- R29, R34, R412, R413, R414, R415: a setting in its range takes the value at once and no other setting changes; a value out of range is
refused; STORE commits the working settings to the store, and is refused past the wear rating; SET_SLOT takes its number. The power cap
is 1,000 W from the factory; SET_POWER_CAP takes 600 to 1,000 W and refuses any other value; the control tick takes the cap that
was set, and under a fixed clock the cap acts at once and the clock is computed again (R34), where the rules do not say when (the model's reading, log 38); a reset gives
back the stored one. That a store counts as committed in its command is the model's reading (logs 45, 62). -/
def Obligations.SettingsRows : Prop :=
  ∀ (s : State) (m : Mbox) (arg : W32) (inp : List Byte),
    let id := arg.toNat
    let v := leNat (inp.take 8)
    let c := withInput 0x06 arg inp
    (MboxOk s m c → (s.mgt.working.get id).isSome = true → (settingBounds id).1 ≤ v → v ≤ (settingBounds id).2 →
      ∃ t, exec (.setSetting m arg inp) s = .next (s.close t) ∧ mboxShows t m c 0 [] ∧ t.mgt.working.get id = some v
        ∧ (∀ j, j ≠ id → t.mgt.working.get j = s.mgt.working.get j) ∧ t.mgt.store = s.mgt.store ∧ t.tiers = s.tiers ∧ t.ctxs = s.ctxs
        ∧ (id = 1 → s.power.fixedClock ≠ none → t.power.cap = v) ∧ (id ≠ 1 → t.power = s.power)
        ∧ (id = 3 → ∀ n < 16, (t.net n).prior = v) ∧ (id = 4 → t.rcv.streamMs = v) ∧ (id = 5 → t.rcv.queueMs = v)
        ∧ (id = 6 → t.rcv.drainUs = v) ∧ (id = 7 → t.rcv.replayMs = v))
    ∧ (MboxOk s m c → (s.mgt.working.get id).isSome = true → (v < (settingBounds id).1 ∨ (settingBounds id).2 < v) →
      ∃ t, exec (.setSetting m arg inp) s = .next (s.close t) ∧ mboxShows t m c 7 [] ∧ mboxOnly s t)
    ∧ (MboxOk s m (plain 0x08 arg) → 600 ≤ id → id ≤ 1000 → ∃ t, exec (.setPowerCap m arg) s = .next (s.close t)
        ∧ mboxShows t m (plain 0x08 arg) 0 [] ∧ t.mgt.working.powerCap = id ∧ t.mgt.store = s.mgt.store
        ∧ (s.power.fixedClock = none → t.power = s.power)
        ∧ (s.power.fixedClock ≠ none → t.power.cap = id
            ∧ (id ≠ s.power.cap → t.power.fixedClock = some { s with power := { s.power with cap := id } }.fixedFor)))
    ∧ (MboxOk s m (plain 0x08 arg) → (id < 600 ∨ 1000 < id) → ∃ t, exec (.setPowerCap m arg) s = .next (s.close t)
        ∧ mboxShows t m (plain 0x08 arg) 5 [] ∧ mboxOnly s t)
    ∧ State.reset.mgt.working.powerCap = 1000 ∧ State.reset.power.cap = 1000
    ∧ (s.mgt.ready = true → ∃ t, exec .powerControlTick s = .next t ∧ t.power.cap = s.mgt.working.powerCap)
    ∧ (∀ micros, 10 ≤ micros → s.modl.pwrGood = true → ∃ t, exec (.perstNAssert micros) s = .next t
        ∧ t.power.cap = s.mgt.store.settings.powerCap ∧ t.mgt.working.powerCap = s.mgt.store.settings.powerCap)
    ∧ (MboxOk s m (plain 0x07 arg) → s.mgt.nextWear ≤ 100000 → ∃ t, exec (.store m arg) s = .next (s.close t)
        ∧ mboxShows t m (plain 0x07 arg) 0 [] ∧ t.mgt.store = { s.mgt.store with settings := s.mgt.working, highSeq := s.mgt.nextSeq - 1 }
        ∧ t.mgt.older = s.mgt.store ∧ (if s.mgt.nextBank = 0 then t.mgt.bank0 else t.mgt.bank1) = hdrOf (s.mgt.storeSeq + 1)
        ∧ t.mgt.storeSeq = s.mgt.storeSeq + 1 ∧ t.mgt.working = s.mgt.working ∧ t.tiers = s.tiers)
    ∧ (MboxOk s m (plain 0x07 arg) → 100000 < s.mgt.nextWear → ∃ t, exec (.store m arg) s = .next (s.close t)
        ∧ mboxShows t m (plain 0x07 arg) 8 [] ∧ mboxOnly s t)
    ∧ (MboxOk s m (plain 0x10 arg) → ∃ t, exec (.setSlot m arg) s = .next (s.close t) ∧ mboxShows t m (plain 0x10 arg) 0 []
        ∧ t.mgt.slot = id ∧ mboxOnly s t)

/-- R393, R394, R426, R398, R461: SET_STATE takes an empty device to NIGHT, which loses memory and contexts, and out of it again; MAINTAIN puts an idle unit to work; REINSTATE ends OUT_OF_SERVICE with a device reset. -/
def Obligations.StateRows : Prop :=
  ∀ (s : State) (m : Mbox) (arg : W32),
    let c := plain 0x09 arg
    (MboxOk s m c → s.mgt.awake = true → arg = 0#32 → s.mayNight = true → ∃ t, exec (.setState m arg) s = .next (s.close t)
      ∧ (m = .i3c → mboxShows t m c 0 []) ∧ (m = .host → t.mgt.host = {}) ∧ t.mgt.awake = false ∧ t.mgt.ready = false ∧ t.modl.phase = .standby ∧ t.modl.pwrGood = false
      ∧ t.tiers.mem = [] ∧ t.tiers.pt = [] ∧ t.ctxs = [] ∧ t.mgt.store = s.mgt.store ∧ t.ticks = s.ticks)
    ∧ (MboxOk s m c → s.mgt.awake = true → arg = 0#32 → s.mayNight = false → ∃ t, exec (.setState m arg) s = .next (s.close t)
      ∧ mboxShows t m c 9 [] ∧ mboxOnly s t)
    ∧ (MboxOk s m c → s.mgt.awake = false → arg = 1#32 → s.modl.phase = .standby → s.modl.input = true →
      ∃ t, exec (.setState m arg) s = .next (s.close t) ∧ mboxShows t m c 0 [] ∧ t.modl.phase = .stagesUp ∧ t.modl.tripped = false ∧ mboxOnly s t)
    ∧ (MboxOk s m c → s.rcv.outOfService = true → arg ≠ 1#32 → ∃ t, exec (.setState m arg) s = .next (s.close t)
      ∧ mboxShows t m c 9 [] ∧ mboxOnly s t)
    ∧ (MboxOk s m c → s.rcv.outOfService = false → arg = 2#32 ∨ (arg = 0#32 ∧ s.mgt.awake = false) → ∃ t,
      exec (.setState m arg) s = .next (s.close t) ∧ mboxShows t m c 0 [] ∧ mboxOnly s t)
    ∧ (MboxOk s m c → s.mgt.awake = true → arg = 1#32 → ∃ t, exec (.setState m arg) s = .next (s.close t) ∧ mboxShows t m c 0 []
      ∧ t.modl.tripped = false ∧ t.modl.phase = s.modl.phase ∧ mboxOnly s t)
    ∧ (MboxOk s m (plain 0x0E arg) →
        let code := bits arg.toNat 7 0
        let k := bits arg.toNat 15 8
        (s.unitBusy code k = true → ∃ t, exec (.maintain m arg) s = .next (s.close t) ∧ mboxShows t m (plain 0x0E arg) 0xB [] ∧ mboxOnly s t)
        ∧ (∀ u, s.unitBusy code k = false → unitOf code k = some u → ∃ t, exec (.maintain m arg) s = .next (s.close t)
            ∧ mboxShows t m (plain 0x0E arg) 0 [] ∧ u ∈ t.mgt.training ∧ t.mgt.replanning = s.mgt.replanning ∧ t.tiers = s.tiers ∧ t.ctxs = s.ctxs
            ∧ (code = 1 ∨ code = 2 → (s.core k).state = .gated → (t.core k).state = .locking)
            ∧ (code = 5 → (t.net k).linkUp = false) ∧ (code ≠ 5 → t.nets = s.nets))
        ∧ (s.unitBusy code k = false → unitOf code k = none → ∃ t, exec (.maintain m arg) s = .next (s.close t)
            ∧ mboxShows t m (plain 0x0E arg) 0 [] ∧ k ∈ t.mgt.replanning ∧ t.mgt.training = s.mgt.training
            ∧ ((s.core k).state = .gated → (t.core k).state = .locking) ∧ (∀ n, n ≠ k → t.core n = s.core n)
            ∧ t.tiers = s.tiers ∧ t.ctxs = s.ctxs ∧ t.nets = s.nets))
    ∧ (MboxOk s m (plain 0x0F arg) → s.rcv.outOfService = true → ∃ t, exec (.reinstate m arg) s = .next (s.close t)
      ∧ t.rcv.outOfService = false ∧ t.mgt.store.outOfService = false ∧ t.mgt.ready = false ∧ t.rcv.ready = false ∧ t.counters = []
      ∧ t.rcv.failures = s.rcv.failures)
    ∧ (MboxOk s m (plain 0x0F arg) → s.rcv.outOfService = false → ∃ t, exec (.reinstate m arg) s = .next (s.close t)
      ∧ mboxShows t m (plain 0x0F arg) 0xA [] ∧ mboxOnly s t)

/-- R416, R417, R418: FW_STAGE writes the bundle's bytes into the slot that does not run; FW_ACTIVATE resets the device into a checked bundle, uncommitted; FW_COMMIT commits it and raises the rollback counter;
without a commit the device falls back into the previous slot. That staging ends the slot's validity, that a slot whose bundle passed its checks before may be
activated again, and when FW_ROLLBACK is taken are the model's readings (log 45). -/
def Obligations.FirmwareRows : Prop :=
  ∀ (s : State) (m : Mbox) (arg : W32) (inp : List Byte) (sig : Bool),
    let k := s.mgt.idleSlot
    let f := s.fwSlot k
    (MboxOk s m (withInput 0x0A arg inp) → leNat (inp.take 8) + (inp.drop 8).length ≤ 16777216 → Tbl.rising f.bytes = true → s.mgt.fwRun < 2 →
      ∃ t, exec (.fwStage m arg inp) s = .next (s.close t) ∧ mboxShows t m (withInput 0x0A arg inp) 0 [] ∧ (t.fwSlot k).valid = false
        ∧ Tbl.slice 0#8 (t.fwSlot k).bytes (leNat (inp.take 8)) (inp.drop 8).length = inp.drop 8
        ∧ t.fwSlot s.mgt.fwRun = s.fwSlot s.mgt.fwRun ∧ t.mgt.fwRun = s.mgt.fwRun ∧ mboxOnly s t)
    ∧ (MboxOk s m { plain 0x0B arg with sig := sig } → (f.valid = true ∨ f.wellFormed = true) → sig = true → s.mgt.store.rollback ≤ f.checked.svn →
        (∀ p ∈ s.ctxs, p.2.st = .none) → ∃ t, exec (.fwActivate m arg sig) s = .next (s.close t) ∧ t.mgt.fwRun = k ∧ t.mgt.fwUncommitted = true
          ∧ t.mgt.ready = false ∧ t.fwSlot k = f.checked ∧ t.mgt.store = s.mgt.store ∧ t.counters = [])
    ∧ (MboxOk s m { plain 0x0B arg with sig := sig } → (f.valid = true ∨ f.wellFormed = true) → sig = false →
        ∃ t, exec (.fwActivate m arg sig) s = .next (s.close t) ∧ mboxShows t m { plain 0x0B arg with sig := sig } 0x11 [] ∧ mboxOnly s t
          ∧ t.mgt.fwRun = s.mgt.fwRun)
    ∧ (MboxOk s m (plain 0x0C arg) → s.mgt.fwUncommitted = true → ∃ t, exec (.fwCommit m arg) s = .next (s.close t)
        ∧ mboxShows t m (plain 0x0C arg) 0 [] ∧ t.mgt.fwUncommitted = false ∧ (t.fwSlot s.mgt.fwRun).committed = true
        ∧ t.mgt.store = { s.mgt.store with rollback := max s.mgt.store.rollback (s.fwSlot s.mgt.fwRun).svn, highSeq := s.mgt.nextSeq - 1 } ∧ t.mgt.fwRun = s.mgt.fwRun)
    ∧ (MboxOk s m (plain 0x0C arg) → s.mgt.fwUncommitted = false → ∃ t, exec (.fwCommit m arg) s = .next (s.close t)
        ∧ mboxShows t m (plain 0x0C arg) 0x14 [] ∧ mboxOnly s t)
    ∧ (s.mgt.fwUncommitted = true → s.mgt.ready = false → s.mgt.awake = true → f.valid = true → ∃ t, exec .fwRollback s = .next t
        ∧ t.mgt.fwRun = k ∧ t.mgt.fwUncommitted = false ∧ t.mgt.err.getLsbD 0 = true ∧ t.mgt.alert.getLsbD 1 = true ∧ t.mgt.store = s.mgt.store)

/-- R409, R410, R411: dynamic address assignment with ORD_IN high, its end, the hot-join request, and the answers to the common command codes while an address is held. -/
def Obligations.TwilightBus : Prop :=
  ∀ (s : State), s.modl.standby = true →
    (∀ addr : BitVec 7, s.mgt.i3cAddr = 0 → addr ≠ 0#7 → ∃ t, exec (.entdaa true addr) s = .next t ∧ t.mgt.i3cAddr = addr.toNat
      ∧ t.mgt.ordOut = true ∧ t.mgt.ordIn = true ∧ t.mgt.hotJoin = false ∧ t.mgt.i3c = s.mgt.i3c ∧ t.cores = s.cores)
    ∧ (∀ addr : BitVec 7, s.mgt.i3cAddr ≠ 0 ∨ addr = 0#7 → ∃ t, exec (.entdaa true addr) s = .next t ∧ t.mgt.i3cAddr = s.mgt.i3cAddr
      ∧ t.mgt.ordOut = s.mgt.ordOut ∧ t.mgt.ordIn = true)
    ∧ (∀ addr : BitVec 7, ∃ t, exec (.entdaa false addr) s = .next t ∧ t.mgt.i3cAddr = 0 ∧ t.mgt.ordOut = false ∧ t.mgt.ordIn = false)
    ∧ (∃ t, exec .rstdaa s = .next t ∧ t.mgt.i3cAddr = 0 ∧ t.mgt.ordOut = false ∧ t.mgt.ordIn = s.mgt.ordIn ∧ t.mgt.store = s.mgt.store)
    ∧ (∃ t, exec .ordInFalls s = .next t ∧ t.mgt.i3cAddr = 0 ∧ t.mgt.ordOut = false ∧ t.mgt.ordIn = false ∧ t.mgt.hotJoin = false)
    ∧ (s.mgt.ordIn = false → s.mgt.i3cAddr = 0 → ∃ t, exec .hotJoin s = .next t ∧ t.mgt.ordIn = true ∧ t.mgt.hotJoin = true ∧ t.mgt.i3cAddr = 0)
    ∧ (s.mgt.i3cAddr ≠ 0 →
        (∃ t, exec .getpid s = .next t ∧ t.out = s.out ++ [Output.i3c (beBytes 6 (at_ 0x0B51 33 + s.fuse.serial.toNat % 2 ^ 32))] ∧ t.mgt = s.mgt)
        ∧ (∃ t, exec .getbcr s = .next t ∧ t.out = s.out ++ [Output.i3c [0x06#8]] ∧ t.mgt = s.mgt)
        ∧ (∃ t, exec .getdcr s = .next t ∧ t.out = s.out ++ [Output.i3c [0x00#8]] ∧ t.mgt = s.mgt)
        ∧ (∃ t bs, exec .getstatus s = .next t ∧ bs.length = 2 ∧ t.out = s.out ++ [Output.i3c bs] ∧ t.mgt = s.mgt))

/-- R403, R421, R422, R423, R424, R425, R394: an entry of the log that is due for the NVM ring is copied to the NVM ring; an almanac re-plan sets a core's
voltage and planned clock and stores its steps; a margin below 15 mV in an open window costs the unit a step and opens a new
window, at its last step it is an engine fault; a qualifying margin closes the window; a retrain gives the unit its setting
back; an idle core gates. R462, R463, R464, R400: at a sensor update the device answers the hottest junction: the alert on
rising through 100 °C, THERM_N from 103 °C to 98 °C, the thermal stop from 105 °C to 100 °C, and the thermal trip at 115 °C,
which takes the module to NIGHT. That the last step of a near, package or board unit is the hub's engine fault, and what the alert of 100 °C compares, are
the model's readings (log 47); how a step moves the planned clock beyond 60 mV likewise. -/
def Obligations.CalibrationAndThermal : Prop :=
  (∀ (s : State) (seq : W64) (e : LogEnt), s.mgt.ramLog.find? (fun e => decide (e.seq = seq.toNat)) = some e →
    e.nvm = true → (∀ f ∈ s.mgt.nvmLog, f.seq ≠ e.seq) →
    ∃ t, exec (.logNvmCopy seq) s = .next t ∧ t.mgt.nvmLog = (insertSeq e s.mgt.nvmLog).drop (s.mgt.nvmLog.length + 1 - 8192) ∧ t.mgt.ramLog = s.mgt.ramLog ∧ t.mgt.store = s.mgt.store
      ∧ t.cores = s.cores ∧ t.tiers = s.tiers)
  ∧ (∀ (s : State) (n : CoreId) (steps : Nat) (table : List (Nat × Nat)),
    (s.mayReplan n.val = false → exec (.almanacReplan n steps table) s = .next s)
    ∧ (s.mayReplan n.val = true → ∃ t, exec (.almanacReplan n steps table) s = .next t ∧ (t.core n.val).planSteps = steps - 12
      ∧ (t.core n.val).voltage = Tbl.get 0 s.fuse.voltage n.val + 5000 * min steps 12
      ∧ (t.core n.val).ceiling = Config.clockTop - Config.clockStep * (steps - 12 + (s.core n.val).loadSteps)
      ∧ t.mgt.store.almanac = some (s.almanac.replanned n.val (steps - 12) (Tbl.get 0 s.fuse.voltage n.val + 5000 * min steps 12) table)
      ∧ n.val ∉ t.mgt.replanning ∧ (t.core n.val).sincePlan = 0
      ∧ ((s.core n.val).planSteps < steps - 12 → t.mgt.err.getLsbD 2 = true) ∧ t.tiers = s.tiers))
  ∧ (∀ (s : State) (u : CalUnit) (mv : Nat), s.mgt.ready = true → (s.loadWin u).opened = true →
    (mv < 15 → (s.loadWin u).steps < unitSteps u → ∃ t, exec (.loadDerated u mv) s = .next (s.close t)
      ∧ t.loadWin u = { opened := true, steps := (s.loadWin u).steps + 1, derated := true, guard := (s.loadWin u).guard } ∧ t.mgt.alert.getLsbD 5 = true
      ∧ t.mgt.nextSeq = s.mgt.nextSeq + 1 ∧ (u = .package → t.tiers.packageDerated = (s.loadWin u).steps + 1)
      ∧ (∀ n, u = .core n → (t.core n.val).loadSteps = (s.loadWin u).steps + 1 ∧ (t.core n.val).derated = true)
      ∧ (∀ n, u = .port n → (t.net n.val).retrainDue = true))
    ∧ (mv < 15 → unitSteps u ≤ (s.loadWin u).steps → ∃ v, exec (.loadDerated u mv) s = .next (s.close (domainFault (unitDomain u) v))
      ∧ v.mgt.err.getLsbD 1 = true ∧ v.cores = s.cores ∧ v.ctxs = s.ctxs)
    ∧ ((s.loadWin u).seconds < 600 → exec (.loadVerified u mv) s = .next s)
    ∧ (15 ≤ mv → 600 ≤ (s.loadWin u).seconds → ∃ t, exec (.loadVerified u mv) s = .next t ∧ t.loadWin u = { s.loadWin u with opened := false }
      ∧ t.mgt.nextSeq = s.mgt.nextSeq + 1 ∧ t.cores = s.cores ∧ t.nets = s.nets ∧ t.tiers = s.tiers))
  ∧ (∀ (s : State) (u : CalUnit), s.mgt.ready = true → s.retrains u = true → s.unitQuiet u = true → ∃ t, exec (.retrainDone u) s = .next t
      ∧ t.loadWin u = { opened := true, guard := s.guardBand u } ∧ u ∉ t.mgt.training ∧ (u = .board → t.tiers.boardDerated = 0)
      ∧ (∀ n, u = .core n → (t.core n.val).loadSteps = 0 ∧ (t.core n.val).derated = false)
      ∧ (∀ n, u = .port n → (t.net n.val).retrainDue = false ∧ (u ∉ s.mgt.training → (t.net n.val).linkUp = false)))
  ∧ (∀ (s : State) (n : CoreId), (s.core n.val).state = .idle → (s.core n.val).resident = none → s.heldOn n.val = false →
    ∃ t, exec (.coreGate n) s = .next t ∧ t.core n.val = { s.core n.val with state := .gated, clock := 0 } ∧ t.tiers = s.tiers
      ∧ ∀ k, k ≠ n.val → t.core k = s.core k)
  ∧ (∀ (s : State) (rs : List (Fin 1024 × W32)), s.mgt.ready = true →
    let h := (takeReadings (rs.map fun p => (p.1.val, p.2)) s).hottest
    ∃ t, exec (.sensorUpdate rs) s = .next (s.close t)
      ∧ (h < 115 * 256 → 105 * 256 ≤ h → t.modl.thermalStop = true)
      ∧ (h ≤ 100 * 256 → t.modl.thermalStop = false)
      ∧ (100 * 256 < h → h < 105 * 256 → t.modl.thermalStop = s.modl.thermalStop)
      ∧ (103 * 256 ≤ h → t.modl.thermN = false)
      ∧ (h ≤ 98 * 256 → s.modl.tripped = false → t.modl.thermN = true)
      ∧ (h < 115 * 256 → 100 * 256 ≤ h → s.hottest < 100 * 256 → t.mgt.alert.getLsbD 4 = true)
      ∧ (115 * 256 ≤ h → t.modl.tripped = true ∧ t.modl.pwrGood = false ∧ t.modl.phase = .standby ∧ t.mgt.awake = false ∧ t.ctxs = []
          ∧ t.tiers.mem = [])
      ∧ (h < 115 * 256 → t.ctxs = s.ctxs ∧ t.tiers = s.tiers ∧ t.counters = s.counters ∧ t.mgt.awake = s.mgt.awake))

/-! The host interface -/

/-- R437: a write of the completion ring starts it again from its first record with PHASE 1, and one of the pointer register moves CONSUMED;
a ring of more than 4,096 records, or a pointer past the ring, changes nothing. R429, R431, R432, R456: the link comes up once the
reference is there, at 64 GT/s in Flit Mode (how many VFs are then enabled is a free value, log 50), it loses the IDE keys when it falls, and held status records then go out. R430: a function-level reset clears the
pages of its enclosure, or all pages, and touches no context, tier or key (that it drops them after their records is the model's reading, log 46). -/
def Obligations.HostRingsAndLink : Prop :=
  (∀ (s : State) (fn page slot : Nat) (v : W64), s.bar2Slot fn page = some slot → (s.page slot).held = [] →
    (bits v.toNat 60 48 ≤ 4096 → exec (.dbCplRingWrite fn page v) s = .next (s.close (s.setPage slot { s.page slot with
      ringEntries := bits v.toNat 60 48, ringBase := bits v.toNat 47 0 / 16 * 16, next := 0, consumed := 0, phase := true })))
    ∧ (4096 < bits v.toNat 60 48 → exec (.dbCplRingWrite fn page v) s = .next (s.close s))
    ∧ (bits v.toNat 44 32 < (s.page slot).ringEntries →
      exec (.dbCplPtrWrite fn page v) s = .next (s.close (s.setPage slot { s.page slot with consumed := bits v.toNat 44 32 })))
    ∧ ((s.page slot).ringEntries ≤ bits v.toNat 44 32 → exec (.dbCplPtrWrite fn page v) s = .next (s.close s)))
  ∧ (∀ (s : State), s.hif.linkUp = true → ∃ t, exec .pcieLinkDown s = .next (s.close t) ∧ t.hif.linkUp = false ∧ t.hif.selIde = []
      ∧ t.hif.linkIde = false ∧ t.hif.ideKeys = [] ∧ t.hif.err.getLsbD 2 = true ∧ (s.hif.ide = true → t.hif.err.getLsbD 4 = true)
      ∧ t.pages = s.pages ∧ t.ctxs = s.ctxs ∧ t.tiers = s.tiers ∧ t.sec.keySlots = s.sec.keySlots)
  ∧ (∀ (s : State) (speed : BitVec 3) (width : BitVec 5) (flit : Bool),
      s.hubOut = true → s.modl.pcieClk = true → s.hif.linkUp = false → speed ≠ 0 → width ≠ 0 →
      ∃ u, exec (.pcieLinkUp speed width flit) s = .next (s.close u) ∧ u.hif.linkUp = true ∧ u.hif.speed = speed.toNat
        ∧ u.hif.width = width.toNat ∧ u.hif.flit = (flit || decide (speed = 6)) ∧ u.hif.vfs ≤ 64 ∧ u.hif.statusHeld = [] ∧ u.ctxs = s.ctxs ∧ u.tiers = s.tiers)
  ∧ (∀ (s : State) (refclk : Bool), s.hubOut = true → s.hif.linkUp = false → ∃ t, exec (.pcieTrainRetry refclk) s = .next t
      ∧ t.modl = { s.modl with pcieClk := refclk } ∧ t.tiers = s.tiers ∧ t.cores = s.cores
      ∧ t.mgt.nextSeq = s.mgt.nextSeq + (if s.modl.pcieClk = true ∧ refclk = false then 1 else 0))
  ∧ (∀ (s : State) (link : Bool) (k : Nat) (key : BitVec 256), s.hif.linkUp = true → link = true ∨ k < 8 →
      ∃ t, exec (.ideKm true link k key) s = .next t ∧ t.hif.linkIde = (link || s.hif.linkIde)
        ∧ (link = false → k ∈ t.hif.selIde) ∧ ((if link then 8 else k), key) ∈ t.hif.ideKeys
        ∧ (∀ p ∈ s.hif.ideKeys, p.1 ≠ (if link then 8 else k) → p ∈ t.hif.ideKeys) ∧ t.tiers = s.tiers ∧ t.ctxs = s.ctxs)
  ∧ (∀ (s : State) (k : Fin 64), s.hif.linkUp = true → Tbl.rising s.pages = true → ∃ u, exec (.vfFlr k) s = .next (s.close u)
      ∧ (∀ slot, Tbl.get {} u.pages slot = if (s.entry k.val).ownsSlot slot then {} else Tbl.get {} s.pages slot)
      ∧ u.hif.err = s.hif.err ∧ u.hif.ideRequired = s.hif.ideRequired ∧ u.tiers = s.tiers ∧ u.sec = s.sec
      ∧ ∀ slot, (u.ctx slot).st = (s.ctx slot).st ∧ (u.ctx slot).desc = (s.ctx slot).desc)
  ∧ (∀ (s : State), s.hif.linkUp = true → Tbl.rising s.pages = true → ∃ u, exec .pfFlr s = .next (s.close u)
      ∧ u.pages = [] ∧ u.hif.err = 0 ∧ u.hif.ideRequired = s.hif.ideRequired ∧ u.hif.inBytes = s.hif.inBytes
      ∧ u.hif.outBytes = s.hif.outBytes ∧ u.hif.linkCe = s.hif.linkCe ∧ u.tiers = s.tiers ∧ u.sec = s.sec
      ∧ ∀ slot, (u.ctx slot).st = (s.ctx slot).st ∧ (u.ctx slot).desc = (s.ctx slot).desc)

/-- R13, R14, R16, R433, R435 to R437, R83, R207, R268, R292, R312, R357, R390, R428, R447: a register write reaches BAR0 through the physical
function alone, and only once the device answers, and BAR2 through the pages that the function shows. What a block's map does not give as writable changes nothing. An
RW or RWS register takes the halves written, but for a value that its field does not take; W1C bits clear where ones are written; a locked field keeps its value and the
write is recorded; W1S and WO bits act as the command that they stand for; each changes its own register only. That a refused self-test still sets AUTO, and that whether a
bundle staged from the host verifies is a free value, are the model's choices (logs 53, 42). -/
def Obligations.RegisterWrites : Prop :=
  ∀ (s : State) (fn offset : Nat) (v : W64) (lo hi : Bool),
    let a := offset / 8 * 8
    let half := fun old : Nat => (if lo then v.toNat % 2 ^ 32 else old % 2 ^ 32)
      + (if hi then v.toNat / 2 ^ 32 % 2 ^ 32 else old / 2 ^ 32) * 2 ^ 32
    let low := fun old : Nat => half old % 2 ^ 32
    let gives := fun u : State => exec (.registerWrite false 0 offset v lo hi) s = .next (s.close u)
    let page := fun u : State => exec (.registerWrite true fn offset v lo hi) s = .next (s.close u)
    let touched := fun f : Nat => ((if lo then 2 ^ 32 - 1 else 0) + (if hi then (2 ^ 32 - 1) * 2 ^ 32 else 0)) &&& f ≠ 0
    let lck := fun (fields old : Nat) (locked : Bool) (put : Nat → State) => (¬touched fields → gives s)
      ∧ (touched fields → locked = true → gives (s.logEv (ev 1 0x02 0x40))) ∧ (touched fields → locked = false → gives (put (half old)))
    let hif := s.hif
    let mgt := s.mgt
    let sec := s.sec
    let dwt := s.dwt
    let col := s.col
    let tiers := s.tiers
    let rcv := s.rcv
    (fn ≠ 0 ∨ s.bar0On = false → exec (.registerWrite false fn offset v lo hi) s = .next (s.close s))
    ∧ (0x4000000 ≤ a → gives s)
    ∧ (s.bar2Slot fn (a / 0x10000) = none → page s)
    ∧ (s.bar0On = true →
      (∀ b ∈ regBlocks, b.base ≤ a → a < b.base + b.size → a - b.base ∉ b.writes → gives s)
      ∧ (a = 0x10 → lck 1 (b2n hif.ideRequired) hif.ideLocked fun x => { s with hif := { hif with ideRequired := x.testBit 0 } })
      ∧ (a = 0x18 → gives { s with hif := { hif with inBytes := half hif.inBytes } })
      ∧ (a = 0x20 → gives { s with hif := { hif with outBytes := half hif.outBytes } })
      ∧ (a = 0x28 → gives { s with hif := { hif with linkCe := half hif.linkCe } })
      ∧ (a = 0x30 → gives { s with hif := { hif with err := hif.err &&& ~~~(BitVec.ofNat 5 (half 0)) } })
      ∧ (a = 0x100010 → let x := half (mboxCmd mgt.host)
          gives { s with mgt := { mgt with host := { mgt.host with opcode := bits x 7 0, inLen := bits x 28 16, arg := BitVec.ofNat 32 (x / 2 ^ 32) } } })
      ∧ (a = 0x100018 → (half 0).testBit 0 = false → gives s)
      ∧ (a = 0x100018 → (half 0).testBit 0 = true → ∃ sig, gives (mailbox .host ⟨mgt.host.opcode, mgt.host.arg.toNat, mgt.host.inLen,
            Tbl.slice 0#8 mgt.host.buf 0 (min mgt.host.inLen 4096), sig⟩ (s.drawn 1)))
      ∧ (a = 0x100028 → gives (State.alertPin { s with mgt := { mgt with alert := mgt.alert &&& ~~~(BitVec.ofNat _ (half 0)) } }))
      ∧ (a = 0x100030 → gives (State.alertPin { s with mgt := { mgt with mask := BitVec.ofNat 7 (half mgt.mask.toNat) } }))
      ∧ (a = 0x100040 → gives { s with mgt := { mgt with err := mgt.err &&& ~~~(BitVec.ofNat _ (half 0)) } })
      ∧ (0x101000 ≤ a → a < 0x102000 → let x := half (leNat (Tbl.slice 0#8 mgt.host.buf (a - 0x101000) 8))
          gives { s with mgt := { mgt with host := { mgt.host with buf := Tbl.writeList 0#8 mgt.host.buf (a - 0x101000) (leBytes 8 x) } } })
      ∧ (a = 0x200010 → let x := half (sec.ringBase + at_ sec.ringEntries 48)
          (4096 < bits x 60 48 → gives s)
          ∧ (bits x 60 48 ≤ 4096 → gives { s with sec := { sec with ringEntries := bits x 60 48, ringBase := bits x 47 0 / 64 * 64 } }))
      ∧ (a = 0x200018 → let x := bits (half sec.tail) 12 0
          (lo = true ∧ x < sec.ringEntries → gives { s with sec := { sec with tail := x } }) ∧ (¬(lo = true ∧ x < sec.ringEntries) → gives s))
      ∧ (a = 0x200048 → gives { s with sec := { sec with err := sec.err &&& ~~~(BitVec.ofNat _ (half 0)) } })
      ∧ (a = 0x200050 → gives { s with sec := { sec with tagFaults := low sec.tagFaults } })
      ∧ (a = 0x400010 → lck 0xFFFF dwt.udpPort dwt.udpLocked fun x => if x % 65536 = 0 then s else { s with dwt := { dwt with udpPort := x % 65536 } })
      ∧ (a = 0x400020 → gives { s with dwt := { dwt with authFail := low dwt.authFail } })
      ∧ (a = 0x400028 → gives { s with dwt := { dwt with nakSent := low dwt.nakSent } })
      ∧ (a = 0x400030 → gives { s with dwt := { dwt with replayResets := low dwt.replayResets } })
      ∧ (a = 0x400038 → gives { s with dwt := { dwt with retransmits := low dwt.retransmits } })
      ∧ (a = 0x400040 → let x := half (dwt.malformed + at_ dwt.fragments 32)
          gives { s with dwt := { dwt with malformed := x % 2 ^ 32, fragments := x / 2 ^ 32 } })
      ∧ (a = 0x400048 → gives { s with dwt := { dwt with err := dwt.err &&& ~~~(BitVec.ofNat _ (half 0)) } })
      ∧ (a = 0x600008 → lck 1 (b2n col.policyHalt) col.policyLocked fun x => { s with col := { col with policyHalt := x.testBit 0 } })
      ∧ (a = 0x600010 → let x := half (col.sent + at_ col.skipped 32)
          gives { s with col := { col with sent := x % 2 ^ 32, skipped := x / 2 ^ 32 } })
      ∧ (a = 0x600018 → gives { s with col := { col with bytesSent := half col.bytesSent } })
      ∧ (a = 0x600020 → gives { s with col := { col with bytesRelayed := half col.bytesRelayed } })
      ∧ (a = 0x600028 → let x := half (col.mismatched + at_ col.unmatched 16 + at_ col.beaconsSent 32)
          gives { s with col := { col with mismatched := bits x 15 0, unmatched := bits x 31 16, beaconsSent := x / 2 ^ 32 } })
      ∧ (a = 0x600030 → gives { s with col := { col with err := col.err &&& ~~~(BitVec.ofNat _ (half 0)) } })
      ∧ (a = 0x800080 → gives { s with tiers := { tiers with err := tiers.err &&& ~~~(BitVec.ofNat _ (half 0)) } })
      ∧ (∀ k < 3, a = 0x800088 + 8 * k → gives { s with tiers := { tiers with ce := Tbl.put tiers.ce k (low (Tbl.get 0 tiers.ce k)) } })
      ∧ (a = 0x8000C8 → gives { s with tiers := { tiers with intervalH := half tiers.intervalH % 256 } })
      ∧ (a = 0x3000008 → let x := half (rcv.streamMs + at_ rcv.queueMs 16 + at_ rcv.drainUs 32 + at_ rcv.replayMs 48)
          let drain := if bits x 47 32 = 0 then rcv.drainUs else bits x 47 32
          let replay := if bits x 63 48 = 0 then rcv.replayMs else bits x 63 48
          gives { s with rcv := { rcv with streamMs := bits x 15 0, queueMs := bits x 31 16, drainUs := drain, replayMs := replay } })
      ∧ (a = 0x3000010 → let kind := bits (half 0) 3 1
          let k := bits (half 0) 15 8
          let as_ := fun i : Instr => exec (.registerWrite false 0 offset v lo hi) s = exec i s
          ((half 0).testBit 0 = false → gives s)
          ∧ ((half 0).testBit 0 = true →
            (∀ c : CoreId, kind = 1 → k = c.val → as_ (.coreReset c)) ∧ (∀ n : PortId, kind = 2 → k = n.val → as_ (.portReset n))
            ∧ (∀ i : EnclId, kind = 3 → k = i.val → as_ (.enclosureReset i)) ∧ (kind = 4 → as_ .hubReset) ∧ (kind = 5 → as_ .deviceReset)
            ∧ (kind = 0 ∨ 5 < kind ∨ (kind = 1 ∧ 8 ≤ k) ∨ (kind = 2 ∧ 16 ≤ k) ∨ (kind = 3 ∧ 64 ≤ k) → gives (s.logEv (ev 1 0x09 0x40)))))
      ∧ (a = 0x3000030 → gives { s with rcv := { rcv with err := rcv.err &&& ~~~(BitVec.ofNat _ (half 0)) } })
      ∧ (a = 0x3000038 → gives { s with rcv := { rcv with fabricRetries := half rcv.fabricRetries } })
      ∧ (∀ n : CoreId, let c := s.core n.val
        let at_ := fun o : Nat => a = 0x1000000 + n.val * 0x100000 + o
        (at_ 0x20 → gives (s.setCore n.val { c with err := c.err &&& ~~~(BitVec.ofNat _ (half 0)) }))
        ∧ (at_ 0x28 → let x := half (c.osCe + c.accCe * 2 ^ 32)
            gives (s.setCore n.val { c with osCe := x % 2 ^ 32, accCe := x / 2 ^ 32 }))
        ∧ (at_ 0x38 → lo = false → gives s)
        ∧ (at_ 0x38 → lo = true → let t := s.setCore n.val { c with auto := v.getLsbD 4 }
            gives (if v.getLsbD 0 then selftestStart n.val t else t)))
      ∧ (∀ n : PortId, let p := s.net n.val
        let at_ := fun o : Nat => a = 0x2000000 + n.val * 0x40000 + o
        let cfg := fun c : NetCfg => s.setNet n.val { p with cfg := c }
        (at_ 0x08 → lck 0xFF3E07 (netConfig p.cfg) p.locked fun x => cfg (setNetConfig p.cfg x))
        ∧ (at_ 0x10 → (half 0).testBit 0 = false → gives s)
        ∧ (at_ 0x10 → (half 0).testBit 0 = true → ∃ u, exec (.retrain n) s = .next u ∧ gives u)
        ∧ (at_ 0x18 → lck (2 ^ 48 - 1) p.cfg.mac.toNat p.locked fun x => cfg { p.cfg with mac := BitVec.ofNat 48 x })
        ∧ (at_ 0x20 → lck (2 ^ 48 - 1) p.cfg.nextHop.toNat p.locked fun x => cfg { p.cfg with nextHop := BitVec.ofNat 48 x })
        ∧ (at_ 0x28 → lck (2 ^ 32 - 1) p.cfg.ipv4.toNat p.locked fun x => cfg { p.cfg with ipv4 := BitVec.ofNat 32 x })
        ∧ (at_ 0x30 → lck (2 ^ 64 - 1) p.cfg.ipv6Hi.toNat p.locked fun x => cfg { p.cfg with ipv6Hi := BitVec.ofNat 64 x })
        ∧ (at_ 0x38 → lck (2 ^ 64 - 1) p.cfg.ipv6Lo.toNat p.locked fun x => cfg { p.cfg with ipv6Lo := BitVec.ofNat 64 x })
        ∧ (at_ 0x40 → lck 0x1FFF (p.cfg.vid + b2n p.cfg.vlanEn * 2 ^ 12) p.locked fun x => cfg (setVlan p.cfg x))
        ∧ (at_ 0x48 → let x := bits (half p.threshold) 3 0
            (lo = true ∧ 2 ≤ x ∧ x ≤ 9 → ∃ u, gives u ∧ (u.net n.val).threshold = x ∧ (x = 9 → (u.net n.val).err.getLsbD 7 = true) ∧ portKept s u n.val)
            ∧ (¬(lo = true ∧ 2 ≤ x ∧ x ≤ 9) → gives s))
        ∧ (at_ 0x58 → let x := half (p.rawBase + p.rawEntries * 2 ^ 48)
            (4096 < bits x 60 48 → gives s)
            ∧ (bits x 60 48 ≤ 4096 → gives (s.setNet n.val { p with rawEntries := bits x 60 48, rawBase := bits x 47 0 / 64 * 64 })))
        ∧ (at_ 0x60 → let x := bits (half p.rawTail) 12 0
            (lo = true ∧ x < p.rawEntries → gives (s.setNet n.val { p with rawTail := x })) ∧ (¬(lo = true ∧ x < p.rawEntries) → gives s))
        ∧ (at_ 0x68 → gives (s.setNet n.val { p with err := p.err &&& ~~~(BitVec.ofNat _ (half 0)) }))
        ∧ (∀ k < 20, at_ (0x100 + 8 * k) → gives (s.setNet n.val { p with counters := Tbl.put p.counters k (half (Tbl.get 0 p.counters k)) }))))
    ∧ (∀ slot, s.bar2Slot fn (a / 0x10000) = some slot →
      let p := s.page slot
      let o := a % 0x10000
      (o = 0x820 → page (s.setPage slot { p with statusVA := bits (half p.statusVA) 47 0 / 64 * 64 }))
      ∧ (o = 0x800 → lo = false → page s)
      ∧ (o = 0x800 → lo = true → p.pending.getLsbD (bits v.toNat 4 0) = false → ∃ u x, page u ∧ (u.page slot).queue = p.queue ++ [x]
          ∧ x.index = bits v.toNat 4 0 ∧ x.control = v.getLsbD 8 ∧ x.fn = fn ∧ x.entry = Tbl.get 0 p.entries (bits v.toNat 4 0)
          ∧ (u.page slot).pending.getLsbD (bits v.toNat 4 0) = true ∧ u.tiers = s.tiers ∧ u.ctxs = s.ctxs)
      ∧ (o = 0x808 ∨ 0x830 ≤ o → page s))

/-! The module -/

/-- R15, R453, R454, R460: the start of a module: standby, the power stages once 54 V is back (a cold reset: the time counter starts again, the
cold-reset count rises, the tiers are empty and the settings store stays; with 54 V never gone there is none), PWR_GOOD, the hub out of reset, its firmware verified, DAWN with every core in
service under self-test and, after power-up or NIGHT, its re-plan due, every unit calibrated under the almanac's guard band, and READY. R15, R362, R453: PERST_N
low for 10 µs is a warm reset of the device, with PWR_GOOD low too (the model's choice, log 44). That HUB_LEAVES_RESET takes the reference clocks as present,
and that what was lost is logged at DAWN_ENTRY, are the model's readings (log 46). -/
def Obligations.StartUpSteps : Prop :=
  (∀ s : State, s.modl.phase = .off → exec .standbyGood s
      = .next { s with modl := { s.modl with phase := .standby, standby := true } })
  ∧ (∀ s : State, s.modl.phase = .standby → s.modl.input = true → exec .powerStagesStart s = .next s)
  ∧ (∀ s : State, s.modl.phase = .standby → s.modl.input = false → ∃ t, exec .powerStagesStart s = .next t ∧ t.ticks = 0 ∧ t.coldResets = s.coldResets + 1
      ∧ t.modl.phase = .stagesUp ∧ t.mgt.i3cAddr = 0 ∧ t.tiers.mem = [] ∧ t.tiers.ce = [] ∧ t.rcv.history = [] ∧ t.mgt.store = s.mgt.store
      ∧ t.ctxs = [] ∧ t.dwt.wins = [] ∧ t.tiers.lost = s.mgt.store.lost ∧ t.rcv.failures = s.mgt.store.failures)
  ∧ (∀ s : State, s.modl.phase = .stagesUp → s.modl.pwrGood = false → exec .pwrGood s
      = .next { s with modl := { s.modl with pwrGood := true, phase := .powerGood } })
  ∧ (∀ s : State, s.modl.pwrGood = true → s.modl.phase = .powerGood ∨ s.modl.phase = .perst → ∃ t, exec .hubLeavesReset s = .next t
      ∧ t.modl.phase = .hubOut ∧ t.mgt.awake = true ∧ t.modl.perstN = true ∧ t.modl.pcieClk = true
      ∧ (∀ a < 4, Tbl.get false t.modl.sdClk a = true) ∧ t.tiers = s.tiers ∧ t.cores = s.cores ∧ t.nets = s.nets)
  ∧ (∀ s : State, s.modl.phase = .hubOut → exec (.firmwareVerified true) s
      = .next { s with mgt := { s.mgt with ready := true }, modl := { s.modl with phase := .verified } })
  ∧ (∀ s : State, s.modl.phase = .hubOut → s.mgt.fwUncommitted = true → s.mgt.ready = false → s.mgt.awake = true →
      (s.fwSlot s.mgt.idleSlot).valid = true → s.modl.pwrGood = true →
      ∃ t, exec (.firmwareVerified false) s = .next t ∧ t.mgt.fwRun = s.mgt.idleSlot
      ∧ t.mgt.fwUncommitted = false ∧ t.modl.phase = .perst ∧ t.mgt.ready = false ∧ t.mgt.alert.getLsbD 1 = true)
  ∧ (∀ s : State, s.modl.phase = .verified → ∃ u, exec .dawnEntry s = .next (s.close u) ∧ u.modl.phase = .dawn ∧ u.sec.ready = true
      ∧ u.rcv.ready = true ∧ u.mgt.store.startCount = s.mgt.store.startCount + 1 ∧ u.hif.startCount = s.mgt.store.startCount + 1
      ∧ u.modl.powerLost = false ∧ u.modl.tripLog = false ∧ u.mgt.storeLog = 0
      ∧ (∀ c ∈ calUnits, u.loadWin c = { opened := true, guard := s.guardBand c })
      ∧ (Config.p384Public s.fuse.dakScalar = s.fuse.certKey → u.sec.dakOk = true)
      ∧ (s.mgt.planDue = true → ∀ n < 8, (u.core n).state ≠ .retired → n ∈ u.mgt.replanning)
      ∧ ∀ n < 8, (u.core n).state = .retired ∨ ((u.core n).state = .idle ∧ (u.core n).busy = true))
  ∧ (∀ s : State, s.mayReady = true → ∃ t, exec .readyAll s = .next t ∧ t.tiers.ready = true ∧ t.dwt.ready = true ∧ t.col.ready = true
      ∧ t.hif.ready = true ∧ t.modl.phase = .ready ∧ t.tiers.mem = s.tiers.mem ∧ t.cores = s.cores ∧ t.ctxs = s.ctxs)
  ∧ (∀ (s : State) (micros : Nat),
      (micros < 10 → exec (.perstNAssert micros) s = .next s)
      ∧ (10 ≤ micros → s.modl.pwrGood = true ∨ s.hubOut = true → ∃ t, exec (.perstNAssert micros) s = .next t ∧ t.modl.phase = .perst
        ∧ t.modl.perstN = false ∧ t.mgt.ready = false ∧ t.hif.ready = false ∧ t.counters = [] ∧ t.rcv.history = s.rcv.history
        ∧ t.ticks = s.ticks ∧ t.coldResets = s.coldResets ∧ t.mgt.store = s.mgt.store
        ∧ ∀ slot ∈ s.affected .device, (t.ctx slot).st = .none))

/-- R454, R456, R459: PWR_GOOD falls with a rail; an input outside its range is reported once, and one outside its limits stops the power
stages and with them the tiers (a store of the last 40 ms may be lost with them, log 62); the loss of standby loses the time counter and the management address too. A missing SerDes
reference takes its four ports down until the clock is back. -/
def Obligations.InputFaultsAndClocks : Prop :=
  (∀ s : State, exec .railLeavesRegulation s = .next { s with modl := { s.modl with pwrGood := false } })
  ∧ (∀ (s : State) (mv : Nat), s.stagesOn = true → s.modl.inputOut = false →
      (38000 ≤ mv ∧ mv < 40000) ∨ (60000 < mv ∧ mv ≤ 62000) → ∃ t, exec (.inputOutOfRange mv) s = .next t ∧ t.modl.inputOut = true
      ∧ t.modl.alertN = false ∧ t.mgt.nextSeq = s.mgt.nextSeq + 1 ∧ t.modl.phase = s.modl.phase ∧ t.tiers = s.tiers ∧ t.cores = s.cores
      ∧ exec (.inputOutOfRange mv) t = .next t)
  ∧ (∀ (s : State) (mv : Nat), s.stagesOn = true → mv < 38000 ∨ 62000 < mv → ∃ t, exec (.powerStagesStop mv) s = .next t
      ∧ t.modl.phase = .standby ∧ t.modl.pwrGood = false ∧ t.modl.powerLost = true ∧ t.mgt.awake = false ∧ t.tiers.mem = [] ∧ t.ctxs = []
      ∧ t.modl.input = false ∧ t.ticks = s.ticks ∧ ((∀ a, s.mgt.storeAt = some a → a + 1311 < s.ticks) → t.mgt.store = s.mgt.store))
  ∧ (∀ (s : State) (mv : Nat), s.stagesOn = false → mv < 38000 ∨ 62000 < mv → exec (.powerStagesStop mv) s
      = .next { s with modl := { s.modl with input := false, powerLost := s.modl.input || s.modl.powerLost } })
  ∧ (∀ (s : State) (mv : Nat), s.modl.standby = true → mv < 3135 ∨ 3465 < mv → ∃ t, exec (.standbyLost mv) s = .next t ∧ t.modl = {}
      ∧ t.ticks = 0 ∧ t.mgt.i3cAddr = 0 ∧ t.rcv.history = [] ∧ t.tiers.mem = []
      ∧ ((∀ a, s.mgt.storeAt = some a → a + 1311 < s.ticks) → t.mgt.store = s.mgt.store))
  ∧ (∀ (s : State) (a : Fin 4), s.hubOut = true → ∃ t, exec (.refclkMissing a) s = .next t ∧ Tbl.get false t.modl.sdClk a.val = false
      ∧ (∀ k < 4, (t.net (4 * a.val + k)).linkUp = false ∧ (t.net (4 * a.val + k)).powered = false)
      ∧ (∀ n, n / 4 ≠ a.val → t.net n = s.net n) ∧ t.tiers = s.tiers ∧ t.cores = s.cores)
  ∧ (∀ (s : State) (a : Fin 4), s.hubOut = true → Tbl.get false s.modl.sdClk a.val = false → ∃ t, exec (.refclkCheck a true) s = .next t
      ∧ Tbl.get false t.modl.sdClk a.val = true
      ∧ (∀ k < 4, (t.net (4 * a.val + k)).kind ≠ 0 → (t.net (4 * a.val + k)).retired = false → (t.net (4 * a.val + k)).powered = true)
      ∧ (∀ n, n / 4 ≠ a.val → t.net n = s.net n) ∧ t.tiers = s.tiers ∧ t.cores = s.cores)

/-! The machine -/

/-- A step takes the command at the front of the queue and runs it with the rest of the queue. -/
def Obligations.StepRunsHead : Prop :=
  ∀ (c : Instr) (rest : List Instr) (s : State), s.pending = c :: rest → step s = exec c { s with pending := rest }

/-- With no command waiting one tick of the 32.768 kHz counter passes while the twilight domain has its supply, and nothing without it
(the model's choice, log 1): the counter of R404 wraps at 48 bits. A LOAD_IMAGE that runs completes, an enclosure in RESETTING leaves it
(log 60), a core whose clock locks runs (log 61); cores count cycles, the open windows of the load re-verification their seconds (R423), and errors of memory, tiers and links may arise (log 54). No data,
context or link changes. -/
def Obligations.IdleTick : Prop :=
  ∀ s : State, s.pending = [] →
    (s.modl.standby = false → step s = .next s)
    ∧ (s.modl.standby = true → ∃ t, step s = .next t ∧ t.ticks = (s.ticks + 1) % 2 ^ 48 ∧ t.pending = [] ∧ t.coldResets = s.coldResets
      ∧ (∀ r image ks, s.sec.busy = some (.load r image ks) → t.sec.busy = none ∧ t.sec.image = some (readImage image))
      ∧ (s.sec.busy = none → ∀ k, (s.encl k).st = .resetting → (t.encl k).st = (s.encl k).before)
      ∧ (s.sec.busy = none → (∀ p ∈ s.sec.encls, p.2.st ≠ .resetting) →
          { t.tiers with latent := s.tiers.latent } = s.tiers ∧ t.ctxs = s.ctxs ∧ t.dwt = s.dwt ∧ t.counters = s.counters ∧ t.power = s.power
          ∧ t.modl = s.modl ∧ t.sec = s.sec ∧ t.pages = s.pages ∧ t.col = s.col ∧ { t.hif with linkCe := s.hif.linkCe } = s.hif
          ∧ (∀ n, (t.net n).cfg = (s.net n).cfg ∧ (t.net n).linkUp = (s.net n).linkUp ∧ (t.net n).txq = (s.net n).txq)
          ∧ (∀ n, (t.core n).resident = (s.core n).resident ∧ { (t.core n).live with errs := (s.core n).live.errs } = (s.core n).live
              ∧ ((s.core n).state = .locking → (t.core n).state = .running ∨ (t.core n).state = .idle)
              ∧ ((s.core n).state ≠ .locking → (t.core n).state = (s.core n).state ∨ (t.core n).busy = true))))

/-- A command's effect is on everything but the queue and what is fused into the device. -/
def Obligations.ExecKeepsQueueAndFuse : Prop :=
  ∀ (c : Instr) (s t : State), exec c s = .next t → t.pending = s.pending ∧ t.fuse = s.fuse

/-- Every command is answered by a next state, and so no run of any length stops. -/
def Obligations.EveryCommandAnswers : Prop :=
  (∀ (c : Instr) (s : State), ∃ t, exec c s = .next t) ∧ ∀ (n : Nat) (s : State), SafeRun n s

/-- What reset leaves: the registers of the maps at the reset values they give, no context, window, connection, enclosure or queued
command, the memory tiers with no byte listed in canonical form, and the clock of the power manager in its range. -/
def Obligations.ResetValues : Prop :=
  let s := State.reset
  s.pending = [] ∧ s.ticks = 0
    ∧ s.hifReg 0x08 = 0 ∧ s.hifReg 0x10 = 1 ∧ s.hifReg 0x18 = 0 ∧ s.hifReg 0x30 = 0
    ∧ s.dwtReg 0x00 = 0 ∧ s.dwtReg 0x10 = 0xC301 ∧ s.dwtReg 0x18 = 0 ∧ s.dwtReg 0x48 = 0
    ∧ s.colReg 0x00 = 0 ∧ s.colReg 0x08 = 0 ∧ s.colReg 0x30 = 0
    ∧ s.secReg 0x18 = 0 ∧ s.secReg 0x20 = 0 ∧ s.secReg 0x48 = 0
    ∧ s.tierReg 0x80 = 0 ∧ s.tierReg 0xB8 = 0
    ∧ s.rcvReg 0x08 = 10000 + at_ 10000 16 + at_ 1000 32 + at_ 2000 48 ∧ s.rcvReg 0x30 = 0 ∧ s.rcvReg 0x38 = 0
    ∧ s.mgtReg 0x28 = 0 ∧ s.mgtReg 0x40 = 0
    ∧ (∀ n : CoreId, s.coreReg n.val 0x20 = 0 ∧ s.coreReg n.val 0x28 = 0)
    ∧ (∀ n : PortId, s.netReg n.val 0x00 = 0 ∧ s.netReg n.val 0x68 = 0)
    ∧ (∀ slot, s.ctx slot = {}) ∧ (∀ w, s.win w = {}) ∧ (∀ c, s.conn c = {})
    ∧ s.tiers.mem = [] ∧ Memory.wf s.tiers.mem = true ∧ PowerOk s.power

/-- R29, R30, R32: whatever command or tick a step takes, the common clock stays between the floor and its top, pacing between 8 and 16
sixteenths, and pacing acts only with the clock at its floor. -/
def Obligations.PowerRangeKept : Prop := ∀ s t : State, PowerOk s.power → step s = .next t → PowerOk t.power

/-- Whatever command or tick a step takes, the memory of the tiers stays in canonical form: addresses rising, and no byte listed that
reads as an unlisted one. -/
def Obligations.MemoryFormKept : Prop :=
  ∀ s t : State, Memory.wf s.tiers.mem = true → step s = .next t → Memory.wf t.tiers.mem = true

/-! Formats, and the encoding of Kwemin -/

/-- R142, R144, R145: every well-formed instruction of every stream decodes from its word, with all its fields; a word that decodes is the word
of the instruction it decodes to, which is well formed; so every word has one meaning. -/
def Obligations.KweminRoundTrip : Prop :=
  (∀ (x : StrmId) (k : Kw), k.wf x = true → decodeKw x k.encode = .ok k)
  ∧ ∀ (x : StrmId) (w : BitVec 128) (k : Kw), decodeKw x w = .ok k → k.wf x = true ∧ k.encode = w

/-- R85: where a row is written, two 4-bit elements share a byte, the lower-indexed one in its low half; four 6-bit elements share three
bytes, element 4k + m in bits 6m to 6m + 5 of the 24-bit little-endian word that they are; and a read of the row gives them back. -/
def Obligations.NarrowPacking : Prop :=
  ∀ (e : Eff) (codes scales : List Nat), (∀ b, e.blk = some b → 0 < b) → (∀ c ∈ codes, c < 2 ^ e.fmt.width) →
    let bytes := e.packRow codes scales
    let byte := fun i => (bytes.getD i 0#8).toNat
    (e.fmt.width = 4 → ∀ i < codes.length, byte (i / 2) / 16 ^ (i % 2) % 16 = codes.getD i 0)
    ∧ (e.fmt.width = 6 → ∀ k m, m < 4 → 4 * k + m < codes.length →
        (byte (3 * k) + byte (3 * k + 1) * 2 ^ 8 + (if 3 * k + 2 < e.elemArea codes.length then byte (3 * k + 2) else 0) * 2 ^ 16)
          / 2 ^ (6 * m) % 2 ^ 6 = codes.getD (4 * k + m) 0)
    ∧ (e.unpackRow codes.length bytes).codes = codes

/-- R103: each format's successor on the ladder, and the block scaling of the step up, which keeps its block size for the formats 0x3 to
0x9 and drops it for BF16, FP16 and FP32. -/
def Obligations.LadderSuccessors : Prop :=
  Fmt.e2m1.successor = some .e3m2 ∧ Fmt.e2m3.successor = some .e4m3 ∧ Fmt.e3m2.successor = some .e4m3
    ∧ Fmt.e4m3.successor = some .bf16 ∧ Fmt.e5m2.successor = some .bf16 ∧ Fmt.int4.successor = some .int8
    ∧ Fmt.int8.successor = some .bf16 ∧ Fmt.fp16.successor = some .fp32 ∧ Fmt.bf16.successor = some .fp32
    ∧ Fmt.fp32.successor = none ∧ Fmt.fp32c.successor = none
    ∧ ∀ (f g : Fmt) (b : Option Nat), f.successor = some g →
        (0x3 ≤ g.code ∧ g.code ≤ 0x9 → g.rungEff b = { fmt := g, blk := b })
        ∧ (g = .bf16 ∨ g = .fp16 ∨ g = .fp32 → g.rungEff b = { fmt := g, blk := none })
end

