-- ==== Sys2Proof/Laws/Fold.lean ====
section
/-! SUPPORT. For each field of State: a fold leaves it where every step of the fold does, and a choice between two states
has it where both do. -/

namespace Sys2Proof.Machine

variable {β γ : Type}

/-- A fold keeps what every step of it keeps. -/
theorem foldl_keeps {α : Type} (g : State → α) (f : State → β → State) (l : List β) (s : State)
    (h : ∀ s x, g (f s x) = g s) : g (l.foldl f s) = g s := by
  induction l generalizing s with
  | nil => rfl
  | cons x l ih => exact (ih (f s x)).trans (h s x)

theorem foldl_fst_keeps {α : Type} (g : State → α) (f : State × γ → β → State × γ) (l : List β) (r : State × γ)
    (h : ∀ r x, g (f r x).1 = g r.1) : g (l.foldl f r).1 = g r.1 := by
  induction l generalizing r with
  | nil => rfl
  | cons x l ih => exact (ih (f r x)).trans (h r x)

theorem foldr_fst_keeps {α : Type} (g : State → α) (f : β → State × γ → State × γ) (l : List β) (r : State × γ)
    (h : ∀ x r, g (f x r).1 = g r.1) : g (l.foldr f r).1 = g r.1 := by
  induction l with
  | nil => rfl
  | cons x l ih => exact (h x _).trans ih

/-- What a bind of checks gives when it gives a value. -/
theorem ok_of_bind {ε α δ : Type} {x : Except ε α} {f : α → Except ε δ} {d : δ} (h : x >>= f = .ok d) :
    ∃ a, x = .ok a ∧ f a = .ok d := by
  cases x with
  | error e => cases h
  | ok a => exact ⟨a, rfl, h⟩

@[simp] theorem State.ite_pending (c : Prop) [Decidable c] (a b : State) :
    (if c then a else b).pending = if c then a.pending else b.pending := apply_ite State.pending c a b
@[simp] theorem State.foldl_pending (f : State → β → State) (l : List β) (s : State)
    (h : ∀ s x, (f s x).pending = s.pending) : (l.foldl f s).pending = s.pending := foldl_keeps State.pending f l s h
@[simp] theorem State.foldl_fst_pending (f : State × γ → β → State × γ) (l : List β) (r : State × γ)
    (h : ∀ r x, (f r x).1.pending = r.1.pending) : (l.foldl f r).1.pending = r.1.pending := foldl_fst_keeps State.pending f l r h
@[simp] theorem State.foldr_fst_pending (f : β → State × γ → State × γ) (l : List β) (r : State × γ)
    (h : ∀ x r, (f x r).1.pending = r.1.pending) : (l.foldr f r).1.pending = r.1.pending := foldr_fst_keeps State.pending f l r h

@[simp] theorem State.ite_fresh (c : Prop) [Decidable c] (a b : State) :
    (if c then a else b).fresh = if c then a.fresh else b.fresh := apply_ite State.fresh c a b
@[simp] theorem State.foldl_fresh (f : State → β → State) (l : List β) (s : State)
    (h : ∀ s x, (f s x).fresh = s.fresh) : (l.foldl f s).fresh = s.fresh := foldl_keeps State.fresh f l s h
@[simp] theorem State.foldl_fst_fresh (f : State × γ → β → State × γ) (l : List β) (r : State × γ)
    (h : ∀ r x, (f r x).1.fresh = r.1.fresh) : (l.foldl f r).1.fresh = r.1.fresh := foldl_fst_keeps State.fresh f l r h
@[simp] theorem State.foldr_fst_fresh (f : β → State × γ → State × γ) (l : List β) (r : State × γ)
    (h : ∀ x r, (f x r).1.fresh = r.1.fresh) : (l.foldr f r).1.fresh = r.1.fresh := foldr_fst_keeps State.fresh f l r h

@[simp] theorem State.ite_out (c : Prop) [Decidable c] (a b : State) :
    (if c then a else b).out = if c then a.out else b.out := apply_ite State.out c a b
@[simp] theorem State.foldl_out (f : State → β → State) (l : List β) (s : State)
    (h : ∀ s x, (f s x).out = s.out) : (l.foldl f s).out = s.out := foldl_keeps State.out f l s h
@[simp] theorem State.foldl_fst_out (f : State × γ → β → State × γ) (l : List β) (r : State × γ)
    (h : ∀ r x, (f r x).1.out = r.1.out) : (l.foldl f r).1.out = r.1.out := foldl_fst_keeps State.out f l r h
@[simp] theorem State.foldr_fst_out (f : β → State × γ → State × γ) (l : List β) (r : State × γ)
    (h : ∀ x r, (f x r).1.out = r.1.out) : (l.foldr f r).1.out = r.1.out := foldr_fst_keeps State.out f l r h

@[simp] theorem State.ite_ticks (c : Prop) [Decidable c] (a b : State) :
    (if c then a else b).ticks = if c then a.ticks else b.ticks := apply_ite State.ticks c a b
@[simp] theorem State.foldl_ticks (f : State → β → State) (l : List β) (s : State)
    (h : ∀ s x, (f s x).ticks = s.ticks) : (l.foldl f s).ticks = s.ticks := foldl_keeps State.ticks f l s h
@[simp] theorem State.foldl_fst_ticks (f : State × γ → β → State × γ) (l : List β) (r : State × γ)
    (h : ∀ r x, (f r x).1.ticks = r.1.ticks) : (l.foldl f r).1.ticks = r.1.ticks := foldl_fst_keeps State.ticks f l r h
@[simp] theorem State.foldr_fst_ticks (f : β → State × γ → State × γ) (l : List β) (r : State × γ)
    (h : ∀ x r, (f x r).1.ticks = r.1.ticks) : (l.foldr f r).1.ticks = r.1.ticks := foldr_fst_keeps State.ticks f l r h

@[simp] theorem State.ite_coldResets (c : Prop) [Decidable c] (a b : State) :
    (if c then a else b).coldResets = if c then a.coldResets else b.coldResets := apply_ite State.coldResets c a b
@[simp] theorem State.foldl_coldResets (f : State → β → State) (l : List β) (s : State)
    (h : ∀ s x, (f s x).coldResets = s.coldResets) : (l.foldl f s).coldResets = s.coldResets := foldl_keeps State.coldResets f l s h
@[simp] theorem State.foldl_fst_coldResets (f : State × γ → β → State × γ) (l : List β) (r : State × γ)
    (h : ∀ r x, (f r x).1.coldResets = r.1.coldResets) : (l.foldl f r).1.coldResets = r.1.coldResets := foldl_fst_keeps State.coldResets f l r h
@[simp] theorem State.foldr_fst_coldResets (f : β → State × γ → State × γ) (l : List β) (r : State × γ)
    (h : ∀ x r, (f x r).1.coldResets = r.1.coldResets) : (l.foldr f r).1.coldResets = r.1.coldResets := foldr_fst_keeps State.coldResets f l r h

@[simp] theorem State.ite_fuse (c : Prop) [Decidable c] (a b : State) :
    (if c then a else b).fuse = if c then a.fuse else b.fuse := apply_ite State.fuse c a b
@[simp] theorem State.foldl_fuse (f : State → β → State) (l : List β) (s : State)
    (h : ∀ s x, (f s x).fuse = s.fuse) : (l.foldl f s).fuse = s.fuse := foldl_keeps State.fuse f l s h
@[simp] theorem State.foldl_fst_fuse (f : State × γ → β → State × γ) (l : List β) (r : State × γ)
    (h : ∀ r x, (f r x).1.fuse = r.1.fuse) : (l.foldl f r).1.fuse = r.1.fuse := foldl_fst_keeps State.fuse f l r h
@[simp] theorem State.foldr_fst_fuse (f : β → State × γ → State × γ) (l : List β) (r : State × γ)
    (h : ∀ x r, (f x r).1.fuse = r.1.fuse) : (l.foldr f r).1.fuse = r.1.fuse := foldr_fst_keeps State.fuse f l r h

@[simp] theorem State.ite_modl (c : Prop) [Decidable c] (a b : State) :
    (if c then a else b).modl = if c then a.modl else b.modl := apply_ite State.modl c a b
@[simp] theorem State.foldl_modl (f : State → β → State) (l : List β) (s : State)
    (h : ∀ s x, (f s x).modl = s.modl) : (l.foldl f s).modl = s.modl := foldl_keeps State.modl f l s h
@[simp] theorem State.foldl_fst_modl (f : State × γ → β → State × γ) (l : List β) (r : State × γ)
    (h : ∀ r x, (f r x).1.modl = r.1.modl) : (l.foldl f r).1.modl = r.1.modl := foldl_fst_keeps State.modl f l r h
@[simp] theorem State.foldr_fst_modl (f : β → State × γ → State × γ) (l : List β) (r : State × γ)
    (h : ∀ x r, (f x r).1.modl = r.1.modl) : (l.foldr f r).1.modl = r.1.modl := foldr_fst_keeps State.modl f l r h

@[simp] theorem State.ite_power (c : Prop) [Decidable c] (a b : State) :
    (if c then a else b).power = if c then a.power else b.power := apply_ite State.power c a b
@[simp] theorem State.foldl_power (f : State → β → State) (l : List β) (s : State)
    (h : ∀ s x, (f s x).power = s.power) : (l.foldl f s).power = s.power := foldl_keeps State.power f l s h
@[simp] theorem State.foldl_fst_power (f : State × γ → β → State × γ) (l : List β) (r : State × γ)
    (h : ∀ r x, (f r x).1.power = r.1.power) : (l.foldl f r).1.power = r.1.power := foldl_fst_keeps State.power f l r h
@[simp] theorem State.foldr_fst_power (f : β → State × γ → State × γ) (l : List β) (r : State × γ)
    (h : ∀ x r, (f x r).1.power = r.1.power) : (l.foldr f r).1.power = r.1.power := foldr_fst_keeps State.power f l r h

@[simp] theorem State.ite_cores (c : Prop) [Decidable c] (a b : State) :
    (if c then a else b).cores = if c then a.cores else b.cores := apply_ite State.cores c a b
@[simp] theorem State.foldl_cores (f : State → β → State) (l : List β) (s : State)
    (h : ∀ s x, (f s x).cores = s.cores) : (l.foldl f s).cores = s.cores := foldl_keeps State.cores f l s h
@[simp] theorem State.foldl_fst_cores (f : State × γ → β → State × γ) (l : List β) (r : State × γ)
    (h : ∀ r x, (f r x).1.cores = r.1.cores) : (l.foldl f r).1.cores = r.1.cores := foldl_fst_keeps State.cores f l r h
@[simp] theorem State.foldr_fst_cores (f : β → State × γ → State × γ) (l : List β) (r : State × γ)
    (h : ∀ x r, (f x r).1.cores = r.1.cores) : (l.foldr f r).1.cores = r.1.cores := foldr_fst_keeps State.cores f l r h

@[simp] theorem State.ite_ctxs (c : Prop) [Decidable c] (a b : State) :
    (if c then a else b).ctxs = if c then a.ctxs else b.ctxs := apply_ite State.ctxs c a b
@[simp] theorem State.foldl_ctxs (f : State → β → State) (l : List β) (s : State)
    (h : ∀ s x, (f s x).ctxs = s.ctxs) : (l.foldl f s).ctxs = s.ctxs := foldl_keeps State.ctxs f l s h
@[simp] theorem State.foldl_fst_ctxs (f : State × γ → β → State × γ) (l : List β) (r : State × γ)
    (h : ∀ r x, (f r x).1.ctxs = r.1.ctxs) : (l.foldl f r).1.ctxs = r.1.ctxs := foldl_fst_keeps State.ctxs f l r h
@[simp] theorem State.foldr_fst_ctxs (f : β → State × γ → State × γ) (l : List β) (r : State × γ)
    (h : ∀ x r, (f x r).1.ctxs = r.1.ctxs) : (l.foldr f r).1.ctxs = r.1.ctxs := foldr_fst_keeps State.ctxs f l r h

@[simp] theorem State.ite_pages (c : Prop) [Decidable c] (a b : State) :
    (if c then a else b).pages = if c then a.pages else b.pages := apply_ite State.pages c a b
@[simp] theorem State.foldl_pages (f : State → β → State) (l : List β) (s : State)
    (h : ∀ s x, (f s x).pages = s.pages) : (l.foldl f s).pages = s.pages := foldl_keeps State.pages f l s h
@[simp] theorem State.foldl_fst_pages (f : State × γ → β → State × γ) (l : List β) (r : State × γ)
    (h : ∀ r x, (f r x).1.pages = r.1.pages) : (l.foldl f r).1.pages = r.1.pages := foldl_fst_keeps State.pages f l r h
@[simp] theorem State.foldr_fst_pages (f : β → State × γ → State × γ) (l : List β) (r : State × γ)
    (h : ∀ x r, (f x r).1.pages = r.1.pages) : (l.foldr f r).1.pages = r.1.pages := foldr_fst_keeps State.pages f l r h

@[simp] theorem State.ite_counters (c : Prop) [Decidable c] (a b : State) :
    (if c then a else b).counters = if c then a.counters else b.counters := apply_ite State.counters c a b
@[simp] theorem State.foldl_counters (f : State → β → State) (l : List β) (s : State)
    (h : ∀ s x, (f s x).counters = s.counters) : (l.foldl f s).counters = s.counters := foldl_keeps State.counters f l s h
@[simp] theorem State.foldl_fst_counters (f : State × γ → β → State × γ) (l : List β) (r : State × γ)
    (h : ∀ r x, (f r x).1.counters = r.1.counters) : (l.foldl f r).1.counters = r.1.counters := foldl_fst_keeps State.counters f l r h
@[simp] theorem State.foldr_fst_counters (f : β → State × γ → State × γ) (l : List β) (r : State × γ)
    (h : ∀ x r, (f x r).1.counters = r.1.counters) : (l.foldr f r).1.counters = r.1.counters := foldr_fst_keeps State.counters f l r h

@[simp] theorem State.ite_tiers (c : Prop) [Decidable c] (a b : State) :
    (if c then a else b).tiers = if c then a.tiers else b.tiers := apply_ite State.tiers c a b
@[simp] theorem State.foldl_tiers (f : State → β → State) (l : List β) (s : State)
    (h : ∀ s x, (f s x).tiers = s.tiers) : (l.foldl f s).tiers = s.tiers := foldl_keeps State.tiers f l s h
@[simp] theorem State.foldl_fst_tiers (f : State × γ → β → State × γ) (l : List β) (r : State × γ)
    (h : ∀ r x, (f r x).1.tiers = r.1.tiers) : (l.foldl f r).1.tiers = r.1.tiers := foldl_fst_keeps State.tiers f l r h
@[simp] theorem State.foldr_fst_tiers (f : β → State × γ → State × γ) (l : List β) (r : State × γ)
    (h : ∀ x r, (f x r).1.tiers = r.1.tiers) : (l.foldr f r).1.tiers = r.1.tiers := foldr_fst_keeps State.tiers f l r h

@[simp] theorem State.ite_dwt (c : Prop) [Decidable c] (a b : State) :
    (if c then a else b).dwt = if c then a.dwt else b.dwt := apply_ite State.dwt c a b
@[simp] theorem State.foldl_dwt (f : State → β → State) (l : List β) (s : State)
    (h : ∀ s x, (f s x).dwt = s.dwt) : (l.foldl f s).dwt = s.dwt := foldl_keeps State.dwt f l s h
@[simp] theorem State.foldl_fst_dwt (f : State × γ → β → State × γ) (l : List β) (r : State × γ)
    (h : ∀ r x, (f r x).1.dwt = r.1.dwt) : (l.foldl f r).1.dwt = r.1.dwt := foldl_fst_keeps State.dwt f l r h
@[simp] theorem State.foldr_fst_dwt (f : β → State × γ → State × γ) (l : List β) (r : State × γ)
    (h : ∀ x r, (f x r).1.dwt = r.1.dwt) : (l.foldr f r).1.dwt = r.1.dwt := foldr_fst_keeps State.dwt f l r h

@[simp] theorem State.ite_col (c : Prop) [Decidable c] (a b : State) :
    (if c then a else b).col = if c then a.col else b.col := apply_ite State.col c a b
@[simp] theorem State.foldl_col (f : State → β → State) (l : List β) (s : State)
    (h : ∀ s x, (f s x).col = s.col) : (l.foldl f s).col = s.col := foldl_keeps State.col f l s h
@[simp] theorem State.foldl_fst_col (f : State × γ → β → State × γ) (l : List β) (r : State × γ)
    (h : ∀ r x, (f r x).1.col = r.1.col) : (l.foldl f r).1.col = r.1.col := foldl_fst_keeps State.col f l r h
@[simp] theorem State.foldr_fst_col (f : β → State × γ → State × γ) (l : List β) (r : State × γ)
    (h : ∀ x r, (f x r).1.col = r.1.col) : (l.foldr f r).1.col = r.1.col := foldr_fst_keeps State.col f l r h

@[simp] theorem State.ite_nets (c : Prop) [Decidable c] (a b : State) :
    (if c then a else b).nets = if c then a.nets else b.nets := apply_ite State.nets c a b
@[simp] theorem State.foldl_nets (f : State → β → State) (l : List β) (s : State)
    (h : ∀ s x, (f s x).nets = s.nets) : (l.foldl f s).nets = s.nets := foldl_keeps State.nets f l s h
@[simp] theorem State.foldl_fst_nets (f : State × γ → β → State × γ) (l : List β) (r : State × γ)
    (h : ∀ r x, (f r x).1.nets = r.1.nets) : (l.foldl f r).1.nets = r.1.nets := foldl_fst_keeps State.nets f l r h
@[simp] theorem State.foldr_fst_nets (f : β → State × γ → State × γ) (l : List β) (r : State × γ)
    (h : ∀ x r, (f x r).1.nets = r.1.nets) : (l.foldr f r).1.nets = r.1.nets := foldr_fst_keeps State.nets f l r h

@[simp] theorem State.ite_sec (c : Prop) [Decidable c] (a b : State) :
    (if c then a else b).sec = if c then a.sec else b.sec := apply_ite State.sec c a b
@[simp] theorem State.foldl_sec (f : State → β → State) (l : List β) (s : State)
    (h : ∀ s x, (f s x).sec = s.sec) : (l.foldl f s).sec = s.sec := foldl_keeps State.sec f l s h
@[simp] theorem State.foldl_fst_sec (f : State × γ → β → State × γ) (l : List β) (r : State × γ)
    (h : ∀ r x, (f r x).1.sec = r.1.sec) : (l.foldl f r).1.sec = r.1.sec := foldl_fst_keeps State.sec f l r h
@[simp] theorem State.foldr_fst_sec (f : β → State × γ → State × γ) (l : List β) (r : State × γ)
    (h : ∀ x r, (f x r).1.sec = r.1.sec) : (l.foldr f r).1.sec = r.1.sec := foldr_fst_keeps State.sec f l r h

@[simp] theorem State.ite_rcv (c : Prop) [Decidable c] (a b : State) :
    (if c then a else b).rcv = if c then a.rcv else b.rcv := apply_ite State.rcv c a b
@[simp] theorem State.foldl_rcv (f : State → β → State) (l : List β) (s : State)
    (h : ∀ s x, (f s x).rcv = s.rcv) : (l.foldl f s).rcv = s.rcv := foldl_keeps State.rcv f l s h
@[simp] theorem State.foldl_fst_rcv (f : State × γ → β → State × γ) (l : List β) (r : State × γ)
    (h : ∀ r x, (f r x).1.rcv = r.1.rcv) : (l.foldl f r).1.rcv = r.1.rcv := foldl_fst_keeps State.rcv f l r h
@[simp] theorem State.foldr_fst_rcv (f : β → State × γ → State × γ) (l : List β) (r : State × γ)
    (h : ∀ x r, (f x r).1.rcv = r.1.rcv) : (l.foldr f r).1.rcv = r.1.rcv := foldr_fst_keeps State.rcv f l r h

@[simp] theorem State.ite_mgt (c : Prop) [Decidable c] (a b : State) :
    (if c then a else b).mgt = if c then a.mgt else b.mgt := apply_ite State.mgt c a b
@[simp] theorem State.foldl_mgt (f : State → β → State) (l : List β) (s : State)
    (h : ∀ s x, (f s x).mgt = s.mgt) : (l.foldl f s).mgt = s.mgt := foldl_keeps State.mgt f l s h
@[simp] theorem State.foldl_fst_mgt (f : State × γ → β → State × γ) (l : List β) (r : State × γ)
    (h : ∀ r x, (f r x).1.mgt = r.1.mgt) : (l.foldl f r).1.mgt = r.1.mgt := foldl_fst_keeps State.mgt f l r h
@[simp] theorem State.foldr_fst_mgt (f : β → State × γ → State × γ) (l : List β) (r : State × γ)
    (h : ∀ x r, (f x r).1.mgt = r.1.mgt) : (l.foldr f r).1.mgt = r.1.mgt := foldr_fst_keeps State.mgt f l r h

@[simp] theorem State.ite_hif (c : Prop) [Decidable c] (a b : State) :
    (if c then a else b).hif = if c then a.hif else b.hif := apply_ite State.hif c a b
@[simp] theorem State.foldl_hif (f : State → β → State) (l : List β) (s : State)
    (h : ∀ s x, (f s x).hif = s.hif) : (l.foldl f s).hif = s.hif := foldl_keeps State.hif f l s h
@[simp] theorem State.foldl_fst_hif (f : State × γ → β → State × γ) (l : List β) (r : State × γ)
    (h : ∀ r x, (f r x).1.hif = r.1.hif) : (l.foldl f r).1.hif = r.1.hif := foldl_fst_keeps State.hif f l r h
@[simp] theorem State.foldr_fst_hif (f : β → State × γ → State × γ) (l : List β) (r : State × γ)
    (h : ∀ x r, (f x r).1.hif = r.1.hif) : (l.foldr f r).1.hif = r.1.hif := foldr_fst_keeps State.hif f l r h

end Sys2Proof.Machine
end

