-- ==== Sys2Proof/Laws/SameOps.lean ====
section
/-! SUPPORT. What the definitions of Machine/Ops.lean leave alone. -/

namespace Sys2Proof.Machine

@[simp] theorem State.setCore_same (s : State) (n : Nat) (c : Core) :
    (State.setCore s n c).pending = s.pending ∧ (State.setCore s n c).fresh = s.fresh ∧
    (State.setCore s n c).out = s.out ∧ (State.setCore s n c).ticks = s.ticks ∧
    (State.setCore s n c).coldResets = s.coldResets ∧ (State.setCore s n c).fuse = s.fuse ∧
    (State.setCore s n c).modl = s.modl ∧ (State.setCore s n c).power = s.power ∧
    (State.setCore s n c).ctxs = s.ctxs ∧ (State.setCore s n c).pages = s.pages ∧
    (State.setCore s n c).counters = s.counters ∧ (State.setCore s n c).tiers = s.tiers ∧
    (State.setCore s n c).dwt = s.dwt ∧ (State.setCore s n c).col = s.col ∧ (State.setCore s n c).nets = s.nets ∧
    (State.setCore s n c).sec = s.sec ∧ (State.setCore s n c).rcv = s.rcv ∧ (State.setCore s n c).mgt = s.mgt ∧
    (State.setCore s n c).hif = s.hif := by
  simp [State.setCore]

@[simp] theorem State.setCtx_same (s : State) (k : Nat) (c : Ctx) :
    (State.setCtx s k c).pending = s.pending ∧ (State.setCtx s k c).fresh = s.fresh ∧
    (State.setCtx s k c).out = s.out ∧ (State.setCtx s k c).ticks = s.ticks ∧
    (State.setCtx s k c).coldResets = s.coldResets ∧ (State.setCtx s k c).fuse = s.fuse ∧
    (State.setCtx s k c).modl = s.modl ∧ (State.setCtx s k c).power = s.power ∧
    (State.setCtx s k c).cores = s.cores ∧ (State.setCtx s k c).pages = s.pages ∧
    (State.setCtx s k c).counters = s.counters ∧ (State.setCtx s k c).tiers = s.tiers ∧
    (State.setCtx s k c).dwt = s.dwt ∧ (State.setCtx s k c).col = s.col ∧ (State.setCtx s k c).nets = s.nets ∧
    (State.setCtx s k c).sec = s.sec ∧ (State.setCtx s k c).rcv = s.rcv ∧ (State.setCtx s k c).mgt = s.mgt ∧
    (State.setCtx s k c).hif = s.hif := by
  simp [State.setCtx]

@[simp] theorem State.setPage_same (s : State) (k : Nat) (p : Page) :
    (State.setPage s k p).pending = s.pending ∧ (State.setPage s k p).fresh = s.fresh ∧
    (State.setPage s k p).out = s.out ∧ (State.setPage s k p).ticks = s.ticks ∧
    (State.setPage s k p).coldResets = s.coldResets ∧ (State.setPage s k p).fuse = s.fuse ∧
    (State.setPage s k p).modl = s.modl ∧ (State.setPage s k p).power = s.power ∧
    (State.setPage s k p).cores = s.cores ∧ (State.setPage s k p).ctxs = s.ctxs ∧
    (State.setPage s k p).counters = s.counters ∧ (State.setPage s k p).tiers = s.tiers ∧
    (State.setPage s k p).dwt = s.dwt ∧ (State.setPage s k p).col = s.col ∧ (State.setPage s k p).nets = s.nets ∧
    (State.setPage s k p).sec = s.sec ∧ (State.setPage s k p).rcv = s.rcv ∧ (State.setPage s k p).mgt = s.mgt ∧
    (State.setPage s k p).hif = s.hif := by
  simp [State.setPage]

@[simp] theorem State.setNet_same (s : State) (n : Nat) (p : Net) :
    (State.setNet s n p).pending = s.pending ∧ (State.setNet s n p).fresh = s.fresh ∧
    (State.setNet s n p).out = s.out ∧ (State.setNet s n p).ticks = s.ticks ∧
    (State.setNet s n p).coldResets = s.coldResets ∧ (State.setNet s n p).fuse = s.fuse ∧
    (State.setNet s n p).modl = s.modl ∧ (State.setNet s n p).power = s.power ∧
    (State.setNet s n p).cores = s.cores ∧ (State.setNet s n p).ctxs = s.ctxs ∧
    (State.setNet s n p).pages = s.pages ∧ (State.setNet s n p).counters = s.counters ∧
    (State.setNet s n p).tiers = s.tiers ∧ (State.setNet s n p).dwt = s.dwt ∧ (State.setNet s n p).col = s.col ∧
    (State.setNet s n p).sec = s.sec ∧ (State.setNet s n p).rcv = s.rcv ∧ (State.setNet s n p).mgt = s.mgt ∧
    (State.setNet s n p).hif = s.hif := by
  simp [State.setNet]

@[simp] theorem State.setWin_same (s : State) (k : Nat) (w : DwtWin) :
    (State.setWin s k w).pending = s.pending ∧ (State.setWin s k w).fresh = s.fresh ∧
    (State.setWin s k w).out = s.out ∧ (State.setWin s k w).ticks = s.ticks ∧
    (State.setWin s k w).coldResets = s.coldResets ∧ (State.setWin s k w).fuse = s.fuse ∧
    (State.setWin s k w).modl = s.modl ∧ (State.setWin s k w).power = s.power ∧
    (State.setWin s k w).cores = s.cores ∧ (State.setWin s k w).ctxs = s.ctxs ∧
    (State.setWin s k w).pages = s.pages ∧ (State.setWin s k w).counters = s.counters ∧
    (State.setWin s k w).tiers = s.tiers ∧ (State.setWin s k w).col = s.col ∧ (State.setWin s k w).nets = s.nets ∧
    (State.setWin s k w).sec = s.sec ∧ (State.setWin s k w).rcv = s.rcv ∧ (State.setWin s k w).mgt = s.mgt ∧
    (State.setWin s k w).hif = s.hif := by
  simp [State.setWin]

@[simp] theorem State.setConn_same (s : State) (k : Nat) (c : DwtConn) :
    (State.setConn s k c).pending = s.pending ∧ (State.setConn s k c).fresh = s.fresh ∧
    (State.setConn s k c).out = s.out ∧ (State.setConn s k c).ticks = s.ticks ∧
    (State.setConn s k c).coldResets = s.coldResets ∧ (State.setConn s k c).fuse = s.fuse ∧
    (State.setConn s k c).modl = s.modl ∧ (State.setConn s k c).power = s.power ∧
    (State.setConn s k c).cores = s.cores ∧ (State.setConn s k c).ctxs = s.ctxs ∧
    (State.setConn s k c).pages = s.pages ∧ (State.setConn s k c).counters = s.counters ∧
    (State.setConn s k c).tiers = s.tiers ∧ (State.setConn s k c).col = s.col ∧
    (State.setConn s k c).nets = s.nets ∧ (State.setConn s k c).sec = s.sec ∧ (State.setConn s k c).rcv = s.rcv ∧
    (State.setConn s k c).mgt = s.mgt ∧ (State.setConn s k c).hif = s.hif := by
  simp [State.setConn]

@[simp] theorem State.setQueue_same (s : State) (k : Nat) (q : DwtQueue) :
    (State.setQueue s k q).pending = s.pending ∧ (State.setQueue s k q).fresh = s.fresh ∧
    (State.setQueue s k q).out = s.out ∧ (State.setQueue s k q).ticks = s.ticks ∧
    (State.setQueue s k q).coldResets = s.coldResets ∧ (State.setQueue s k q).fuse = s.fuse ∧
    (State.setQueue s k q).modl = s.modl ∧ (State.setQueue s k q).power = s.power ∧
    (State.setQueue s k q).cores = s.cores ∧ (State.setQueue s k q).ctxs = s.ctxs ∧
    (State.setQueue s k q).pages = s.pages ∧ (State.setQueue s k q).counters = s.counters ∧
    (State.setQueue s k q).tiers = s.tiers ∧ (State.setQueue s k q).col = s.col ∧
    (State.setQueue s k q).nets = s.nets ∧ (State.setQueue s k q).sec = s.sec ∧
    (State.setQueue s k q).rcv = s.rcv ∧ (State.setQueue s k q).mgt = s.mgt ∧ (State.setQueue s k q).hif = s.hif := by
  simp [State.setQueue]

@[simp] theorem State.setEncl_same (s : State) (i : Nat) (e : Encl) :
    (State.setEncl s i e).pending = s.pending ∧ (State.setEncl s i e).fresh = s.fresh ∧
    (State.setEncl s i e).out = s.out ∧ (State.setEncl s i e).ticks = s.ticks ∧
    (State.setEncl s i e).coldResets = s.coldResets ∧ (State.setEncl s i e).fuse = s.fuse ∧
    (State.setEncl s i e).modl = s.modl ∧ (State.setEncl s i e).power = s.power ∧
    (State.setEncl s i e).cores = s.cores ∧ (State.setEncl s i e).ctxs = s.ctxs ∧
    (State.setEncl s i e).pages = s.pages ∧ (State.setEncl s i e).counters = s.counters ∧
    (State.setEncl s i e).tiers = s.tiers ∧ (State.setEncl s i e).dwt = s.dwt ∧ (State.setEncl s i e).col = s.col ∧
    (State.setEncl s i e).nets = s.nets ∧ (State.setEncl s i e).rcv = s.rcv ∧ (State.setEncl s i e).mgt = s.mgt ∧
    (State.setEncl s i e).hif = s.hif := by
  simp [State.setEncl]

@[simp] theorem State.drawn_same (s : State) (n : Nat) :
    (State.drawn s n).pending = s.pending ∧ (State.drawn s n).out = s.out ∧ (State.drawn s n).ticks = s.ticks ∧
    (State.drawn s n).coldResets = s.coldResets ∧ (State.drawn s n).fuse = s.fuse ∧
    (State.drawn s n).modl = s.modl ∧ (State.drawn s n).power = s.power ∧ (State.drawn s n).cores = s.cores ∧
    (State.drawn s n).ctxs = s.ctxs ∧ (State.drawn s n).pages = s.pages ∧ (State.drawn s n).counters = s.counters ∧
    (State.drawn s n).tiers = s.tiers ∧ (State.drawn s n).dwt = s.dwt ∧ (State.drawn s n).col = s.col ∧
    (State.drawn s n).nets = s.nets ∧ (State.drawn s n).sec = s.sec ∧ (State.drawn s n).rcv = s.rcv ∧
    (State.drawn s n).mgt = s.mgt ∧ (State.drawn s n).hif = s.hif := by
  simp [State.drawn]

@[simp] theorem State.emit_same (s : State) (o : Output) :
    (State.emit s o).pending = s.pending ∧ (State.emit s o).fresh = s.fresh ∧ (State.emit s o).ticks = s.ticks ∧
    (State.emit s o).coldResets = s.coldResets ∧ (State.emit s o).fuse = s.fuse ∧ (State.emit s o).modl = s.modl ∧
    (State.emit s o).power = s.power ∧ (State.emit s o).cores = s.cores ∧ (State.emit s o).ctxs = s.ctxs ∧
    (State.emit s o).pages = s.pages ∧ (State.emit s o).counters = s.counters ∧ (State.emit s o).tiers = s.tiers ∧
    (State.emit s o).dwt = s.dwt ∧ (State.emit s o).col = s.col ∧ (State.emit s o).nets = s.nets ∧
    (State.emit s o).sec = s.sec ∧ (State.emit s o).rcv = s.rcv ∧ (State.emit s o).mgt = s.mgt ∧
    (State.emit s o).hif = s.hif := by
  simp [State.emit]

@[simp] theorem State.msix_same (s : State) (fn v : Nat) :
    (State.msix s fn v).pending = s.pending ∧ (State.msix s fn v).fresh = s.fresh ∧
    (State.msix s fn v).ticks = s.ticks ∧ (State.msix s fn v).coldResets = s.coldResets ∧
    (State.msix s fn v).fuse = s.fuse ∧ (State.msix s fn v).modl = s.modl ∧ (State.msix s fn v).power = s.power ∧
    (State.msix s fn v).cores = s.cores ∧ (State.msix s fn v).ctxs = s.ctxs ∧ (State.msix s fn v).pages = s.pages ∧
    (State.msix s fn v).counters = s.counters ∧ (State.msix s fn v).tiers = s.tiers ∧
    (State.msix s fn v).dwt = s.dwt ∧ (State.msix s fn v).col = s.col ∧ (State.msix s fn v).nets = s.nets ∧
    (State.msix s fn v).sec = s.sec ∧ (State.msix s fn v).rcv = s.rcv ∧ (State.msix s fn v).mgt = s.mgt ∧
    (State.msix s fn v).hif = s.hif := by
  simp [State.msix]

@[simp] theorem State.touch_same (s : State) (slot : Nat) :
    (State.touch s slot).pending = s.pending ∧ (State.touch s slot).fresh = s.fresh ∧
    (State.touch s slot).out = s.out ∧ (State.touch s slot).ticks = s.ticks ∧
    (State.touch s slot).coldResets = s.coldResets ∧ (State.touch s slot).fuse = s.fuse ∧
    (State.touch s slot).modl = s.modl ∧ (State.touch s slot).power = s.power ∧
    (State.touch s slot).cores = s.cores ∧ (State.touch s slot).pages = s.pages ∧
    (State.touch s slot).counters = s.counters ∧ (State.touch s slot).tiers = s.tiers ∧
    (State.touch s slot).dwt = s.dwt ∧ (State.touch s slot).col = s.col ∧ (State.touch s slot).nets = s.nets ∧
    (State.touch s slot).sec = s.sec ∧ (State.touch s slot).rcv = s.rcv ∧ (State.touch s slot).mgt = s.mgt ∧
    (State.touch s slot).hif = s.hif := by
  simp [State.touch]

@[simp] theorem State.alertPin_same (s : State) :
    (State.alertPin s).pending = s.pending ∧ (State.alertPin s).fresh = s.fresh ∧ (State.alertPin s).out = s.out ∧
    (State.alertPin s).ticks = s.ticks ∧ (State.alertPin s).coldResets = s.coldResets ∧
    (State.alertPin s).fuse = s.fuse ∧ (State.alertPin s).power = s.power ∧ (State.alertPin s).cores = s.cores ∧
    (State.alertPin s).ctxs = s.ctxs ∧ (State.alertPin s).pages = s.pages ∧
    (State.alertPin s).counters = s.counters ∧ (State.alertPin s).tiers = s.tiers ∧
    (State.alertPin s).dwt = s.dwt ∧ (State.alertPin s).col = s.col ∧ (State.alertPin s).nets = s.nets ∧
    (State.alertPin s).sec = s.sec ∧ (State.alertPin s).rcv = s.rcv ∧ (State.alertPin s).mgt = s.mgt ∧
    (State.alertPin s).hif = s.hif := by
  simp [State.alertPin]

@[simp] theorem State.raiseAlert_same (s : State) (k : Nat) :
    (State.raiseAlert s k).pending = s.pending ∧ (State.raiseAlert s k).fresh = s.fresh ∧
    (State.raiseAlert s k).ticks = s.ticks ∧ (State.raiseAlert s k).coldResets = s.coldResets ∧
    (State.raiseAlert s k).fuse = s.fuse ∧ (State.raiseAlert s k).power = s.power ∧
    (State.raiseAlert s k).cores = s.cores ∧ (State.raiseAlert s k).ctxs = s.ctxs ∧
    (State.raiseAlert s k).pages = s.pages ∧ (State.raiseAlert s k).counters = s.counters ∧
    (State.raiseAlert s k).tiers = s.tiers ∧ (State.raiseAlert s k).dwt = s.dwt ∧
    (State.raiseAlert s k).col = s.col ∧ (State.raiseAlert s k).nets = s.nets ∧
    (State.raiseAlert s k).sec = s.sec ∧ (State.raiseAlert s k).rcv = s.rcv ∧ (State.raiseAlert s k).hif = s.hif := by
  simp [State.raiseAlert]

@[simp] theorem State.logEv_same (s : State) (e : LogEnt) :
    (State.logEv s e).pending = s.pending ∧ (State.logEv s e).ticks = s.ticks ∧
    (State.logEv s e).coldResets = s.coldResets ∧ (State.logEv s e).fuse = s.fuse ∧
    (State.logEv s e).power = s.power ∧ (State.logEv s e).cores = s.cores ∧ (State.logEv s e).ctxs = s.ctxs ∧
    (State.logEv s e).pages = s.pages ∧ (State.logEv s e).counters = s.counters ∧
    (State.logEv s e).tiers = s.tiers ∧ (State.logEv s e).dwt = s.dwt ∧ (State.logEv s e).col = s.col ∧
    (State.logEv s e).nets = s.nets ∧ (State.logEv s e).sec = s.sec ∧ (State.logEv s e).rcv = s.rcv ∧
    (State.logEv s e).hif = s.hif := by
  simp [State.logEv]

@[simp] theorem State.errCore_same (s : State) (n k : Nat) :
    (State.errCore s n k).pending = s.pending ∧ (State.errCore s n k).ticks = s.ticks ∧
    (State.errCore s n k).coldResets = s.coldResets ∧ (State.errCore s n k).fuse = s.fuse ∧
    (State.errCore s n k).power = s.power ∧ (State.errCore s n k).ctxs = s.ctxs ∧
    (State.errCore s n k).pages = s.pages ∧ (State.errCore s n k).counters = s.counters ∧
    (State.errCore s n k).tiers = s.tiers ∧ (State.errCore s n k).dwt = s.dwt ∧ (State.errCore s n k).col = s.col ∧
    (State.errCore s n k).nets = s.nets ∧ (State.errCore s n k).sec = s.sec ∧ (State.errCore s n k).rcv = s.rcv ∧
    (State.errCore s n k).hif = s.hif := by
  simp [State.errCore]

@[simp] theorem State.errTier_same (s : State) (k : Nat) :
    (State.errTier s k).pending = s.pending ∧ (State.errTier s k).ticks = s.ticks ∧
    (State.errTier s k).coldResets = s.coldResets ∧ (State.errTier s k).fuse = s.fuse ∧
    (State.errTier s k).power = s.power ∧ (State.errTier s k).cores = s.cores ∧ (State.errTier s k).ctxs = s.ctxs ∧
    (State.errTier s k).pages = s.pages ∧ (State.errTier s k).counters = s.counters ∧
    (State.errTier s k).dwt = s.dwt ∧ (State.errTier s k).col = s.col ∧ (State.errTier s k).nets = s.nets ∧
    (State.errTier s k).sec = s.sec ∧ (State.errTier s k).rcv = s.rcv ∧ (State.errTier s k).hif = s.hif := by
  simp [State.errTier]

@[simp] theorem State.errNet_same (s : State) (n k : Nat) :
    (State.errNet s n k).pending = s.pending ∧ (State.errNet s n k).ticks = s.ticks ∧
    (State.errNet s n k).coldResets = s.coldResets ∧ (State.errNet s n k).fuse = s.fuse ∧
    (State.errNet s n k).power = s.power ∧ (State.errNet s n k).cores = s.cores ∧
    (State.errNet s n k).ctxs = s.ctxs ∧ (State.errNet s n k).pages = s.pages ∧
    (State.errNet s n k).counters = s.counters ∧ (State.errNet s n k).tiers = s.tiers ∧
    (State.errNet s n k).dwt = s.dwt ∧ (State.errNet s n k).col = s.col ∧ (State.errNet s n k).sec = s.sec ∧
    (State.errNet s n k).rcv = s.rcv ∧ (State.errNet s n k).hif = s.hif := by
  simp [State.errNet]

@[simp] theorem State.errDwt_same (s : State) (k : Nat) (conn : Nat) :
    (State.errDwt s k conn).pending = s.pending ∧ (State.errDwt s k conn).ticks = s.ticks ∧
    (State.errDwt s k conn).coldResets = s.coldResets ∧ (State.errDwt s k conn).fuse = s.fuse ∧
    (State.errDwt s k conn).power = s.power ∧ (State.errDwt s k conn).cores = s.cores ∧
    (State.errDwt s k conn).ctxs = s.ctxs ∧ (State.errDwt s k conn).pages = s.pages ∧
    (State.errDwt s k conn).counters = s.counters ∧ (State.errDwt s k conn).tiers = s.tiers ∧
    (State.errDwt s k conn).col = s.col ∧ (State.errDwt s k conn).nets = s.nets ∧
    (State.errDwt s k conn).sec = s.sec ∧ (State.errDwt s k conn).rcv = s.rcv ∧ (State.errDwt s k conn).hif = s.hif := by
  simp [State.errDwt]

@[simp] theorem State.errCol_same (s : State) (k slot : Nat) :
    (State.errCol s k slot).pending = s.pending ∧ (State.errCol s k slot).ticks = s.ticks ∧
    (State.errCol s k slot).coldResets = s.coldResets ∧ (State.errCol s k slot).fuse = s.fuse ∧
    (State.errCol s k slot).power = s.power ∧ (State.errCol s k slot).cores = s.cores ∧
    (State.errCol s k slot).ctxs = s.ctxs ∧ (State.errCol s k slot).pages = s.pages ∧
    (State.errCol s k slot).counters = s.counters ∧ (State.errCol s k slot).tiers = s.tiers ∧
    (State.errCol s k slot).dwt = s.dwt ∧ (State.errCol s k slot).nets = s.nets ∧
    (State.errCol s k slot).sec = s.sec ∧ (State.errCol s k slot).rcv = s.rcv ∧ (State.errCol s k slot).hif = s.hif := by
  simp [State.errCol]

@[simp] theorem State.errSec_same (s : State) (k : Nat) (encl : Nat) :
    (State.errSec s k encl).pending = s.pending ∧ (State.errSec s k encl).ticks = s.ticks ∧
    (State.errSec s k encl).coldResets = s.coldResets ∧ (State.errSec s k encl).fuse = s.fuse ∧
    (State.errSec s k encl).power = s.power ∧ (State.errSec s k encl).cores = s.cores ∧
    (State.errSec s k encl).ctxs = s.ctxs ∧ (State.errSec s k encl).pages = s.pages ∧
    (State.errSec s k encl).counters = s.counters ∧ (State.errSec s k encl).tiers = s.tiers ∧
    (State.errSec s k encl).dwt = s.dwt ∧ (State.errSec s k encl).col = s.col ∧
    (State.errSec s k encl).nets = s.nets ∧ (State.errSec s k encl).rcv = s.rcv ∧
    (State.errSec s k encl).hif = s.hif := by
  simp [State.errSec]

@[simp] theorem State.errRcv_same (s : State) (k : Nat) (slot : Nat) (core : Nat) (port : Nat) :
    (State.errRcv s k slot core port).pending = s.pending ∧ (State.errRcv s k slot core port).ticks = s.ticks ∧
    (State.errRcv s k slot core port).coldResets = s.coldResets ∧ (State.errRcv s k slot core port).fuse = s.fuse ∧
    (State.errRcv s k slot core port).power = s.power ∧ (State.errRcv s k slot core port).cores = s.cores ∧
    (State.errRcv s k slot core port).ctxs = s.ctxs ∧ (State.errRcv s k slot core port).pages = s.pages ∧
    (State.errRcv s k slot core port).counters = s.counters ∧ (State.errRcv s k slot core port).tiers = s.tiers ∧
    (State.errRcv s k slot core port).dwt = s.dwt ∧ (State.errRcv s k slot core port).col = s.col ∧
    (State.errRcv s k slot core port).nets = s.nets ∧ (State.errRcv s k slot core port).sec = s.sec ∧
    (State.errRcv s k slot core port).hif = s.hif := by
  simp [State.errRcv]

@[simp] theorem State.errHif_same (s : State) (k : Nat) (slot : Nat) :
    (State.errHif s k slot).pending = s.pending ∧ (State.errHif s k slot).ticks = s.ticks ∧
    (State.errHif s k slot).coldResets = s.coldResets ∧ (State.errHif s k slot).fuse = s.fuse ∧
    (State.errHif s k slot).power = s.power ∧ (State.errHif s k slot).cores = s.cores ∧
    (State.errHif s k slot).ctxs = s.ctxs ∧ (State.errHif s k slot).pages = s.pages ∧
    (State.errHif s k slot).counters = s.counters ∧ (State.errHif s k slot).tiers = s.tiers ∧
    (State.errHif s k slot).dwt = s.dwt ∧ (State.errHif s k slot).col = s.col ∧
    (State.errHif s k slot).nets = s.nets ∧ (State.errHif s k slot).sec = s.sec ∧
    (State.errHif s k slot).rcv = s.rcv := by
  simp [State.errHif]

@[simp] theorem State.errMgt_same (s : State) (k : Nat) (e : LogEnt) :
    (State.errMgt s k e).pending = s.pending ∧ (State.errMgt s k e).ticks = s.ticks ∧
    (State.errMgt s k e).coldResets = s.coldResets ∧ (State.errMgt s k e).fuse = s.fuse ∧
    (State.errMgt s k e).power = s.power ∧ (State.errMgt s k e).cores = s.cores ∧
    (State.errMgt s k e).ctxs = s.ctxs ∧ (State.errMgt s k e).pages = s.pages ∧
    (State.errMgt s k e).counters = s.counters ∧ (State.errMgt s k e).tiers = s.tiers ∧
    (State.errMgt s k e).dwt = s.dwt ∧ (State.errMgt s k e).col = s.col ∧ (State.errMgt s k e).nets = s.nets ∧
    (State.errMgt s k e).sec = s.sec ∧ (State.errMgt s k e).rcv = s.rcv ∧ (State.errMgt s k e).hif = s.hif := by
  simp [State.errMgt]

@[simp] theorem State.raiseCtr_same (s : State) (k n : Nat) :
    (State.raiseCtr s k n).pending = s.pending ∧ (State.raiseCtr s k n).ticks = s.ticks ∧
    (State.raiseCtr s k n).coldResets = s.coldResets ∧ (State.raiseCtr s k n).fuse = s.fuse ∧
    (State.raiseCtr s k n).power = s.power ∧ (State.raiseCtr s k n).cores = s.cores ∧
    (State.raiseCtr s k n).ctxs = s.ctxs ∧ (State.raiseCtr s k n).pages = s.pages ∧
    (State.raiseCtr s k n).tiers = s.tiers ∧ (State.raiseCtr s k n).dwt = s.dwt ∧
    (State.raiseCtr s k n).col = s.col ∧ (State.raiseCtr s k n).nets = s.nets ∧
    (State.raiseCtr s k n).sec = s.sec ∧ (State.raiseCtr s k n).rcv = s.rcv ∧ (State.raiseCtr s k n).hif = s.hif := by
  unfold State.raiseCtr
  (repeat' split) <;> simp

@[simp] theorem State.markOther_same (s : State) (slot k : Nat) :
    (State.markOther s slot k).pending = s.pending ∧ (State.markOther s slot k).fresh = s.fresh ∧
    (State.markOther s slot k).out = s.out ∧ (State.markOther s slot k).ticks = s.ticks ∧
    (State.markOther s slot k).coldResets = s.coldResets ∧ (State.markOther s slot k).fuse = s.fuse ∧
    (State.markOther s slot k).modl = s.modl ∧ (State.markOther s slot k).power = s.power ∧
    (State.markOther s slot k).cores = s.cores ∧ (State.markOther s slot k).pages = s.pages ∧
    (State.markOther s slot k).counters = s.counters ∧ (State.markOther s slot k).tiers = s.tiers ∧
    (State.markOther s slot k).dwt = s.dwt ∧ (State.markOther s slot k).col = s.col ∧
    (State.markOther s slot k).nets = s.nets ∧ (State.markOther s slot k).sec = s.sec ∧
    (State.markOther s slot k).rcv = s.rcv ∧ (State.markOther s slot k).mgt = s.mgt ∧
    (State.markOther s slot k).hif = s.hif := by
  simp [State.markOther]

@[simp] theorem State.raiseRel_same (s : State) (slot k n : Nat) :
    (State.raiseRel s slot k n).pending = s.pending ∧ (State.raiseRel s slot k n).ticks = s.ticks ∧
    (State.raiseRel s slot k n).coldResets = s.coldResets ∧ (State.raiseRel s slot k n).fuse = s.fuse ∧
    (State.raiseRel s slot k n).power = s.power ∧ (State.raiseRel s slot k n).cores = s.cores ∧
    (State.raiseRel s slot k n).pages = s.pages ∧ (State.raiseRel s slot k n).tiers = s.tiers ∧
    (State.raiseRel s slot k n).dwt = s.dwt ∧ (State.raiseRel s slot k n).col = s.col ∧
    (State.raiseRel s slot k n).nets = s.nets ∧ (State.raiseRel s slot k n).sec = s.sec ∧
    (State.raiseRel s slot k n).rcv = s.rcv ∧ (State.raiseRel s slot k n).hif = s.hif := by
  simp [State.raiseRel]

@[simp] theorem State.clearCtrs_same (s : State) (base n : Nat) :
    (State.clearCtrs s base n).pending = s.pending ∧ (State.clearCtrs s base n).fresh = s.fresh ∧
    (State.clearCtrs s base n).out = s.out ∧ (State.clearCtrs s base n).ticks = s.ticks ∧
    (State.clearCtrs s base n).coldResets = s.coldResets ∧ (State.clearCtrs s base n).fuse = s.fuse ∧
    (State.clearCtrs s base n).modl = s.modl ∧ (State.clearCtrs s base n).power = s.power ∧
    (State.clearCtrs s base n).cores = s.cores ∧ (State.clearCtrs s base n).ctxs = s.ctxs ∧
    (State.clearCtrs s base n).pages = s.pages ∧ (State.clearCtrs s base n).tiers = s.tiers ∧
    (State.clearCtrs s base n).dwt = s.dwt ∧ (State.clearCtrs s base n).col = s.col ∧
    (State.clearCtrs s base n).nets = s.nets ∧ (State.clearCtrs s base n).sec = s.sec ∧
    (State.clearCtrs s base n).rcv = s.rcv ∧ (State.clearCtrs s base n).mgt = s.mgt ∧
    (State.clearCtrs s base n).hif = s.hif := by
  simp [State.clearCtrs]

@[simp] theorem State.setPte_same (s : State) (slot vp : Nat) (p : Pte) :
    (State.setPte s slot vp p).pending = s.pending ∧ (State.setPte s slot vp p).fresh = s.fresh ∧
    (State.setPte s slot vp p).out = s.out ∧ (State.setPte s slot vp p).ticks = s.ticks ∧
    (State.setPte s slot vp p).coldResets = s.coldResets ∧ (State.setPte s slot vp p).fuse = s.fuse ∧
    (State.setPte s slot vp p).modl = s.modl ∧ (State.setPte s slot vp p).power = s.power ∧
    (State.setPte s slot vp p).cores = s.cores ∧ (State.setPte s slot vp p).ctxs = s.ctxs ∧
    (State.setPte s slot vp p).pages = s.pages ∧ (State.setPte s slot vp p).counters = s.counters ∧
    (State.setPte s slot vp p).dwt = s.dwt ∧ (State.setPte s slot vp p).col = s.col ∧
    (State.setPte s slot vp p).nets = s.nets ∧ (State.setPte s slot vp p).sec = s.sec ∧
    (State.setPte s slot vp p).rcv = s.rcv ∧ (State.setPte s slot vp p).mgt = s.mgt ∧
    (State.setPte s slot vp p).hif = s.hif := by
  simp [State.setPte]

@[simp] theorem State.leaveFrame_same (s : State) (f : Nat) :
    (State.leaveFrame s f).pending = s.pending ∧ (State.leaveFrame s f).fresh = s.fresh ∧
    (State.leaveFrame s f).out = s.out ∧ (State.leaveFrame s f).ticks = s.ticks ∧
    (State.leaveFrame s f).coldResets = s.coldResets ∧ (State.leaveFrame s f).fuse = s.fuse ∧
    (State.leaveFrame s f).modl = s.modl ∧ (State.leaveFrame s f).power = s.power ∧
    (State.leaveFrame s f).cores = s.cores ∧ (State.leaveFrame s f).ctxs = s.ctxs ∧
    (State.leaveFrame s f).pages = s.pages ∧ (State.leaveFrame s f).counters = s.counters ∧
    (State.leaveFrame s f).dwt = s.dwt ∧ (State.leaveFrame s f).col = s.col ∧
    (State.leaveFrame s f).nets = s.nets ∧ (State.leaveFrame s f).sec = s.sec ∧
    (State.leaveFrame s f).rcv = s.rcv ∧ (State.leaveFrame s f).mgt = s.mgt ∧ (State.leaveFrame s f).hif = s.hif := by
  unfold State.leaveFrame
  (repeat' split) <;> simp

@[simp] theorem State.dropPte_same (s : State) (slot vp : Nat) :
    (State.dropPte s slot vp).pending = s.pending ∧ (State.dropPte s slot vp).fresh = s.fresh ∧
    (State.dropPte s slot vp).out = s.out ∧ (State.dropPte s slot vp).ticks = s.ticks ∧
    (State.dropPte s slot vp).coldResets = s.coldResets ∧ (State.dropPte s slot vp).fuse = s.fuse ∧
    (State.dropPte s slot vp).modl = s.modl ∧ (State.dropPte s slot vp).power = s.power ∧
    (State.dropPte s slot vp).cores = s.cores ∧ (State.dropPte s slot vp).ctxs = s.ctxs ∧
    (State.dropPte s slot vp).pages = s.pages ∧ (State.dropPte s slot vp).counters = s.counters ∧
    (State.dropPte s slot vp).dwt = s.dwt ∧ (State.dropPte s slot vp).col = s.col ∧
    (State.dropPte s slot vp).nets = s.nets ∧ (State.dropPte s slot vp).sec = s.sec ∧
    (State.dropPte s slot vp).rcv = s.rcv ∧ (State.dropPte s slot vp).mgt = s.mgt ∧
    (State.dropPte s slot vp).hif = s.hif := by
  unfold State.dropPte
  dsimp only
  (repeat' split) <;> simp [-Option.foldl_toList, -List.foldl_cons]

@[simp] theorem State.tagViolation_same (s : State) (slot : Nat) :
    (State.tagViolation s slot).pending = s.pending ∧ (State.tagViolation s slot).ticks = s.ticks ∧
    (State.tagViolation s slot).coldResets = s.coldResets ∧ (State.tagViolation s slot).fuse = s.fuse ∧
    (State.tagViolation s slot).power = s.power ∧ (State.tagViolation s slot).cores = s.cores ∧
    (State.tagViolation s slot).ctxs = s.ctxs ∧ (State.tagViolation s slot).pages = s.pages ∧
    (State.tagViolation s slot).counters = s.counters ∧ (State.tagViolation s slot).tiers = s.tiers ∧
    (State.tagViolation s slot).dwt = s.dwt ∧ (State.tagViolation s slot).col = s.col ∧
    (State.tagViolation s slot).nets = s.nets ∧ (State.tagViolation s slot).rcv = s.rcv ∧
    (State.tagViolation s slot).hif = s.hif := by
  simp [State.tagViolation]

@[simp] theorem State.zeroFrame_same (s : State) (frame : Nat) :
    (State.zeroFrame s frame).pending = s.pending ∧ (State.zeroFrame s frame).fresh = s.fresh ∧
    (State.zeroFrame s frame).out = s.out ∧ (State.zeroFrame s frame).ticks = s.ticks ∧
    (State.zeroFrame s frame).coldResets = s.coldResets ∧ (State.zeroFrame s frame).fuse = s.fuse ∧
    (State.zeroFrame s frame).modl = s.modl ∧ (State.zeroFrame s frame).power = s.power ∧
    (State.zeroFrame s frame).cores = s.cores ∧ (State.zeroFrame s frame).ctxs = s.ctxs ∧
    (State.zeroFrame s frame).pages = s.pages ∧ (State.zeroFrame s frame).counters = s.counters ∧
    (State.zeroFrame s frame).dwt = s.dwt ∧ (State.zeroFrame s frame).col = s.col ∧
    (State.zeroFrame s frame).nets = s.nets ∧ (State.zeroFrame s frame).sec = s.sec ∧
    (State.zeroFrame s frame).rcv = s.rcv ∧ (State.zeroFrame s frame).mgt = s.mgt ∧
    (State.zeroFrame s frame).hif = s.hif := by
  simp [State.zeroFrame]

@[simp] theorem State.fillFrame_same (s : State) (frame : Nat) (bs : List (Nat × Byte)) :
    (State.fillFrame s frame bs).pending = s.pending ∧ (State.fillFrame s frame bs).fresh = s.fresh ∧
    (State.fillFrame s frame bs).out = s.out ∧ (State.fillFrame s frame bs).ticks = s.ticks ∧
    (State.fillFrame s frame bs).coldResets = s.coldResets ∧ (State.fillFrame s frame bs).fuse = s.fuse ∧
    (State.fillFrame s frame bs).modl = s.modl ∧ (State.fillFrame s frame bs).power = s.power ∧
    (State.fillFrame s frame bs).cores = s.cores ∧ (State.fillFrame s frame bs).ctxs = s.ctxs ∧
    (State.fillFrame s frame bs).pages = s.pages ∧ (State.fillFrame s frame bs).counters = s.counters ∧
    (State.fillFrame s frame bs).dwt = s.dwt ∧ (State.fillFrame s frame bs).col = s.col ∧
    (State.fillFrame s frame bs).nets = s.nets ∧ (State.fillFrame s frame bs).sec = s.sec ∧
    (State.fillFrame s frame bs).rcv = s.rcv ∧ (State.fillFrame s frame bs).mgt = s.mgt ∧
    (State.fillFrame s frame bs).hif = s.hif := by
  simp [State.fillFrame]

@[simp] theorem State.copyFrame_same (s : State) (src dst : Nat) :
    (State.copyFrame s src dst).pending = s.pending ∧ (State.copyFrame s src dst).fresh = s.fresh ∧
    (State.copyFrame s src dst).out = s.out ∧ (State.copyFrame s src dst).ticks = s.ticks ∧
    (State.copyFrame s src dst).coldResets = s.coldResets ∧ (State.copyFrame s src dst).fuse = s.fuse ∧
    (State.copyFrame s src dst).modl = s.modl ∧ (State.copyFrame s src dst).power = s.power ∧
    (State.copyFrame s src dst).cores = s.cores ∧ (State.copyFrame s src dst).ctxs = s.ctxs ∧
    (State.copyFrame s src dst).pages = s.pages ∧ (State.copyFrame s src dst).counters = s.counters ∧
    (State.copyFrame s src dst).dwt = s.dwt ∧ (State.copyFrame s src dst).col = s.col ∧
    (State.copyFrame s src dst).nets = s.nets ∧ (State.copyFrame s src dst).sec = s.sec ∧
    (State.copyFrame s src dst).rcv = s.rcv ∧ (State.copyFrame s src dst).mgt = s.mgt ∧
    (State.copyFrame s src dst).hif = s.hif := by
  simp [State.copyFrame]

@[simp] theorem State.physWrite_same (s : State) (a : Nat) (bs : List Byte) :
    (State.physWrite s a bs).pending = s.pending ∧ (State.physWrite s a bs).fresh = s.fresh ∧
    (State.physWrite s a bs).out = s.out ∧ (State.physWrite s a bs).ticks = s.ticks ∧
    (State.physWrite s a bs).coldResets = s.coldResets ∧ (State.physWrite s a bs).fuse = s.fuse ∧
    (State.physWrite s a bs).modl = s.modl ∧ (State.physWrite s a bs).power = s.power ∧
    (State.physWrite s a bs).cores = s.cores ∧ (State.physWrite s a bs).ctxs = s.ctxs ∧
    (State.physWrite s a bs).pages = s.pages ∧ (State.physWrite s a bs).counters = s.counters ∧
    (State.physWrite s a bs).dwt = s.dwt ∧ (State.physWrite s a bs).col = s.col ∧
    (State.physWrite s a bs).nets = s.nets ∧ (State.physWrite s a bs).sec = s.sec ∧
    (State.physWrite s a bs).rcv = s.rcv ∧ (State.physWrite s a bs).mgt = s.mgt ∧
    (State.physWrite s a bs).hif = s.hif := by
  simp [State.physWrite]

@[simp] theorem State.addCe_same (s : State) (t : Tier) (n : Nat) :
    (State.addCe s t n).pending = s.pending ∧ (State.addCe s t n).ticks = s.ticks ∧
    (State.addCe s t n).coldResets = s.coldResets ∧ (State.addCe s t n).fuse = s.fuse ∧
    (State.addCe s t n).power = s.power ∧ (State.addCe s t n).cores = s.cores ∧ (State.addCe s t n).ctxs = s.ctxs ∧
    (State.addCe s t n).pages = s.pages ∧ (State.addCe s t n).counters = s.counters ∧
    (State.addCe s t n).dwt = s.dwt ∧ (State.addCe s t n).col = s.col ∧ (State.addCe s t n).nets = s.nets ∧
    (State.addCe s t n).sec = s.sec ∧ (State.addCe s t n).rcv = s.rcv ∧ (State.addCe s t n).hif = s.hif := by
  simp [State.addCe]

@[simp] theorem State.noteHit_same (s : State) (line : Nat) (ue : Bool) :
    (State.noteHit s line ue).pending = s.pending ∧ (State.noteHit s line ue).fresh = s.fresh ∧
    (State.noteHit s line ue).out = s.out ∧ (State.noteHit s line ue).ticks = s.ticks ∧
    (State.noteHit s line ue).coldResets = s.coldResets ∧ (State.noteHit s line ue).fuse = s.fuse ∧
    (State.noteHit s line ue).modl = s.modl ∧ (State.noteHit s line ue).power = s.power ∧
    (State.noteHit s line ue).cores = s.cores ∧ (State.noteHit s line ue).ctxs = s.ctxs ∧
    (State.noteHit s line ue).pages = s.pages ∧ (State.noteHit s line ue).counters = s.counters ∧
    (State.noteHit s line ue).dwt = s.dwt ∧ (State.noteHit s line ue).col = s.col ∧
    (State.noteHit s line ue).nets = s.nets ∧ (State.noteHit s line ue).sec = s.sec ∧
    (State.noteHit s line ue).rcv = s.rcv ∧ (State.noteHit s line ue).mgt = s.mgt ∧
    (State.noteHit s line ue).hif = s.hif := by
  simp [State.noteHit]

@[simp] theorem State.foundCe_same (s : State) (line : Nat) :
    (State.foundCe s line).pending = s.pending ∧ (State.foundCe s line).ticks = s.ticks ∧
    (State.foundCe s line).coldResets = s.coldResets ∧ (State.foundCe s line).fuse = s.fuse ∧
    (State.foundCe s line).power = s.power ∧ (State.foundCe s line).cores = s.cores ∧
    (State.foundCe s line).ctxs = s.ctxs ∧ (State.foundCe s line).pages = s.pages ∧
    (State.foundCe s line).counters = s.counters ∧ (State.foundCe s line).dwt = s.dwt ∧
    (State.foundCe s line).col = s.col ∧ (State.foundCe s line).nets = s.nets ∧
    (State.foundCe s line).sec = s.sec ∧ (State.foundCe s line).rcv = s.rcv ∧ (State.foundCe s line).hif = s.hif := by
  simp [State.foundCe]

@[simp] theorem State.addUe_same (s0 : State) (line : Nat) :
    (State.addUe s0 line).pending = s0.pending ∧ (State.addUe s0 line).ticks = s0.ticks ∧
    (State.addUe s0 line).coldResets = s0.coldResets ∧ (State.addUe s0 line).fuse = s0.fuse ∧
    (State.addUe s0 line).power = s0.power ∧ (State.addUe s0 line).cores = s0.cores ∧
    (State.addUe s0 line).ctxs = s0.ctxs ∧ (State.addUe s0 line).pages = s0.pages ∧
    (State.addUe s0 line).counters = s0.counters ∧ (State.addUe s0 line).dwt = s0.dwt ∧
    (State.addUe s0 line).col = s0.col ∧ (State.addUe s0 line).nets = s0.nets ∧
    (State.addUe s0 line).sec = s0.sec ∧ (State.addUe s0 line).rcv = s0.rcv ∧ (State.addUe s0 line).hif = s0.hif := by
  simp [State.addUe]

@[simp] theorem State.meetErr_same (s : State) (e : TierErr) :
    (State.meetErr s e).pending = s.pending ∧ (State.meetErr s e).ticks = s.ticks ∧
    (State.meetErr s e).coldResets = s.coldResets ∧ (State.meetErr s e).fuse = s.fuse ∧
    (State.meetErr s e).power = s.power ∧ (State.meetErr s e).cores = s.cores ∧ (State.meetErr s e).ctxs = s.ctxs ∧
    (State.meetErr s e).pages = s.pages ∧ (State.meetErr s e).counters = s.counters ∧
    (State.meetErr s e).dwt = s.dwt ∧ (State.meetErr s e).col = s.col ∧ (State.meetErr s e).nets = s.nets ∧
    (State.meetErr s e).sec = s.sec ∧ (State.meetErr s e).rcv = s.rcv ∧ (State.meetErr s e).hif = s.hif := by
  simp [State.meetErr]

@[simp] theorem State.meetLines_same (s : State) (a n : Nat) :
    (State.meetLines s a n).pending = s.pending ∧ (State.meetLines s a n).ticks = s.ticks ∧
    (State.meetLines s a n).coldResets = s.coldResets ∧ (State.meetLines s a n).fuse = s.fuse ∧
    (State.meetLines s a n).power = s.power ∧ (State.meetLines s a n).cores = s.cores ∧
    (State.meetLines s a n).ctxs = s.ctxs ∧ (State.meetLines s a n).pages = s.pages ∧
    (State.meetLines s a n).counters = s.counters ∧ (State.meetLines s a n).dwt = s.dwt ∧
    (State.meetLines s a n).col = s.col ∧ (State.meetLines s a n).nets = s.nets ∧
    (State.meetLines s a n).sec = s.sec ∧ (State.meetLines s a n).rcv = s.rcv ∧ (State.meetLines s a n).hif = s.hif := by
  simp [State.meetLines]

@[simp] theorem State.meetPage_same (w : SWin) (va n : Nat) (s : State) (vp : Nat) :
    (State.meetPage w va n s vp).pending = s.pending ∧ (State.meetPage w va n s vp).ticks = s.ticks ∧
    (State.meetPage w va n s vp).coldResets = s.coldResets ∧ (State.meetPage w va n s vp).fuse = s.fuse ∧
    (State.meetPage w va n s vp).power = s.power ∧ (State.meetPage w va n s vp).cores = s.cores ∧
    (State.meetPage w va n s vp).ctxs = s.ctxs ∧ (State.meetPage w va n s vp).pages = s.pages ∧
    (State.meetPage w va n s vp).counters = s.counters ∧ (State.meetPage w va n s vp).dwt = s.dwt ∧
    (State.meetPage w va n s vp).col = s.col ∧ (State.meetPage w va n s vp).nets = s.nets ∧
    (State.meetPage w va n s vp).sec = s.sec ∧ (State.meetPage w va n s vp).rcv = s.rcv ∧
    (State.meetPage w va n s vp).hif = s.hif := by
  unfold State.meetPage
  (repeat' split) <;> simp

@[simp] theorem State.copyIn_same (s0 : State) (w : SWin) (va n frame off : Nat) :
    (State.copyIn s0 w va n frame off).pending = s0.pending ∧ (State.copyIn s0 w va n frame off).ticks = s0.ticks ∧
    (State.copyIn s0 w va n frame off).coldResets = s0.coldResets ∧
    (State.copyIn s0 w va n frame off).fuse = s0.fuse ∧ (State.copyIn s0 w va n frame off).power = s0.power ∧
    (State.copyIn s0 w va n frame off).cores = s0.cores ∧ (State.copyIn s0 w va n frame off).ctxs = s0.ctxs ∧
    (State.copyIn s0 w va n frame off).pages = s0.pages ∧
    (State.copyIn s0 w va n frame off).counters = s0.counters ∧ (State.copyIn s0 w va n frame off).dwt = s0.dwt ∧
    (State.copyIn s0 w va n frame off).col = s0.col ∧ (State.copyIn s0 w va n frame off).nets = s0.nets ∧
    (State.copyIn s0 w va n frame off).sec = s0.sec ∧ (State.copyIn s0 w va n frame off).rcv = s0.rcv ∧
    (State.copyIn s0 w va n frame off).hif = s0.hif := by
  simp [State.copyIn]

@[simp] theorem State.setSwin_same (s : State) (w : Nat) (sw : SWin) :
    (State.setSwin s w sw).pending = s.pending ∧ (State.setSwin s w sw).fresh = s.fresh ∧
    (State.setSwin s w sw).out = s.out ∧ (State.setSwin s w sw).ticks = s.ticks ∧
    (State.setSwin s w sw).coldResets = s.coldResets ∧ (State.setSwin s w sw).fuse = s.fuse ∧
    (State.setSwin s w sw).modl = s.modl ∧ (State.setSwin s w sw).power = s.power ∧
    (State.setSwin s w sw).cores = s.cores ∧ (State.setSwin s w sw).ctxs = s.ctxs ∧
    (State.setSwin s w sw).pages = s.pages ∧ (State.setSwin s w sw).counters = s.counters ∧
    (State.setSwin s w sw).dwt = s.dwt ∧ (State.setSwin s w sw).col = s.col ∧
    (State.setSwin s w sw).nets = s.nets ∧ (State.setSwin s w sw).sec = s.sec ∧
    (State.setSwin s w sw).rcv = s.rcv ∧ (State.setSwin s w sw).mgt = s.mgt ∧ (State.setSwin s w sw).hif = s.hif := by
  simp [State.setSwin]

@[simp] theorem State.refreshPage_same (s : State) (w i : Nat) :
    (State.refreshPage s w i).pending = s.pending ∧ (State.refreshPage s w i).ticks = s.ticks ∧
    (State.refreshPage s w i).coldResets = s.coldResets ∧ (State.refreshPage s w i).fuse = s.fuse ∧
    (State.refreshPage s w i).power = s.power ∧ (State.refreshPage s w i).cores = s.cores ∧
    (State.refreshPage s w i).ctxs = s.ctxs ∧ (State.refreshPage s w i).pages = s.pages ∧
    (State.refreshPage s w i).counters = s.counters ∧ (State.refreshPage s w i).dwt = s.dwt ∧
    (State.refreshPage s w i).col = s.col ∧ (State.refreshPage s w i).nets = s.nets ∧
    (State.refreshPage s w i).sec = s.sec ∧ (State.refreshPage s w i).rcv = s.rcv ∧
    (State.refreshPage s w i).hif = s.hif := by
  unfold State.refreshPage
  dsimp only
  (repeat' split) <;> simp_all

@[simp] theorem State.followFetch_same (s : State) (w vp : Nat) :
    (State.followFetch s w vp).1.pending = s.pending ∧ (State.followFetch s w vp).1.ticks = s.ticks ∧
    (State.followFetch s w vp).1.coldResets = s.coldResets ∧ (State.followFetch s w vp).1.fuse = s.fuse ∧
    (State.followFetch s w vp).1.power = s.power ∧ (State.followFetch s w vp).1.cores = s.cores ∧
    (State.followFetch s w vp).1.ctxs = s.ctxs ∧ (State.followFetch s w vp).1.pages = s.pages ∧
    (State.followFetch s w vp).1.counters = s.counters ∧ (State.followFetch s w vp).1.dwt = s.dwt ∧
    (State.followFetch s w vp).1.col = s.col ∧ (State.followFetch s w vp).1.nets = s.nets ∧
    (State.followFetch s w vp).1.sec = s.sec ∧ (State.followFetch s w vp).1.rcv = s.rcv ∧
    (State.followFetch s w vp).1.hif = s.hif := by
  unfold State.followFetch
  (repeat' split) <;> simp

@[simp] theorem State.followRead_same (s : State) (w vp : Nat) :
    (State.followRead s w vp).1.pending = s.pending ∧ (State.followRead s w vp).1.ticks = s.ticks ∧
    (State.followRead s w vp).1.coldResets = s.coldResets ∧ (State.followRead s w vp).1.fuse = s.fuse ∧
    (State.followRead s w vp).1.power = s.power ∧ (State.followRead s w vp).1.cores = s.cores ∧
    (State.followRead s w vp).1.ctxs = s.ctxs ∧ (State.followRead s w vp).1.pages = s.pages ∧
    (State.followRead s w vp).1.counters = s.counters ∧ (State.followRead s w vp).1.dwt = s.dwt ∧
    (State.followRead s w vp).1.col = s.col ∧ (State.followRead s w vp).1.nets = s.nets ∧
    (State.followRead s w vp).1.sec = s.sec ∧ (State.followRead s w vp).1.rcv = s.rcv ∧
    (State.followRead s w vp).1.hif = s.hif := by
  unfold State.followRead
  dsimp only
  (repeat' split) <;> simp_all

@[simp] theorem copyWinPage_same (w : SWin) (u : State) (pg : Nat) :
    (copyWinPage w u pg).pending = u.pending ∧ (copyWinPage w u pg).ticks = u.ticks ∧
    (copyWinPage w u pg).coldResets = u.coldResets ∧ (copyWinPage w u pg).fuse = u.fuse ∧
    (copyWinPage w u pg).power = u.power ∧ (copyWinPage w u pg).cores = u.cores ∧
    (copyWinPage w u pg).ctxs = u.ctxs ∧ (copyWinPage w u pg).pages = u.pages ∧
    (copyWinPage w u pg).counters = u.counters ∧ (copyWinPage w u pg).dwt = u.dwt ∧
    (copyWinPage w u pg).col = u.col ∧ (copyWinPage w u pg).nets = u.nets ∧ (copyWinPage w u pg).sec = u.sec ∧
    (copyWinPage w u pg).rcv = u.rcv ∧ (copyWinPage w u pg).hif = u.hif := by
  unfold copyWinPage
  (repeat' split) <;> simp

@[simp] theorem landPage_same (w : SWin) (u : State) (pg : Nat) :
    (landPage w u pg).pending = u.pending ∧ (landPage w u pg).ticks = u.ticks ∧
    (landPage w u pg).coldResets = u.coldResets ∧ (landPage w u pg).fuse = u.fuse ∧
    (landPage w u pg).power = u.power ∧ (landPage w u pg).cores = u.cores ∧ (landPage w u pg).ctxs = u.ctxs ∧
    (landPage w u pg).pages = u.pages ∧ (landPage w u pg).counters = u.counters ∧ (landPage w u pg).dwt = u.dwt ∧
    (landPage w u pg).col = u.col ∧ (landPage w u pg).nets = u.nets ∧ (landPage w u pg).sec = u.sec ∧
    (landPage w u pg).rcv = u.rcv ∧ (landPage w u pg).hif = u.hif := by
  simp [landPage]

@[simp] theorem State.landed_same (s : State) (w i : Nat) (sw : SWin) :
    (State.landed s w i sw).pending = s.pending ∧ (State.landed s w i sw).ticks = s.ticks ∧
    (State.landed s w i sw).coldResets = s.coldResets ∧ (State.landed s w i sw).fuse = s.fuse ∧
    (State.landed s w i sw).power = s.power ∧ (State.landed s w i sw).cores = s.cores ∧
    (State.landed s w i sw).ctxs = s.ctxs ∧ (State.landed s w i sw).pages = s.pages ∧
    (State.landed s w i sw).counters = s.counters ∧ (State.landed s w i sw).dwt = s.dwt ∧
    (State.landed s w i sw).col = s.col ∧ (State.landed s w i sw).nets = s.nets ∧
    (State.landed s w i sw).sec = s.sec ∧ (State.landed s w i sw).rcv = s.rcv ∧ (State.landed s w i sw).hif = s.hif := by
  unfold State.landed
  (repeat' split) <;> simp

@[simp] theorem State.readFrame_same (s : State) (slot vp : Nat) :
    (State.readFrame s slot vp).1.pending = s.pending ∧ (State.readFrame s slot vp).1.ticks = s.ticks ∧
    (State.readFrame s slot vp).1.coldResets = s.coldResets ∧ (State.readFrame s slot vp).1.fuse = s.fuse ∧
    (State.readFrame s slot vp).1.power = s.power ∧ (State.readFrame s slot vp).1.cores = s.cores ∧
    (State.readFrame s slot vp).1.ctxs = s.ctxs ∧ (State.readFrame s slot vp).1.pages = s.pages ∧
    (State.readFrame s slot vp).1.counters = s.counters ∧ (State.readFrame s slot vp).1.dwt = s.dwt ∧
    (State.readFrame s slot vp).1.col = s.col ∧ (State.readFrame s slot vp).1.nets = s.nets ∧
    (State.readFrame s slot vp).1.sec = s.sec ∧ (State.readFrame s slot vp).1.rcv = s.rcv ∧
    (State.readFrame s slot vp).1.hif = s.hif := by
  unfold State.readFrame
  (repeat' split) <;> simp

@[simp] theorem State.readPages_same (slot : Nat) (a1 : Nat) (a2 : Nat) (a3 : Nat) (s : State) :
    (State.readPages slot a1 a2 a3 s).s.pending = s.pending ∧ (State.readPages slot a1 a2 a3 s).s.ticks = s.ticks ∧
    (State.readPages slot a1 a2 a3 s).s.coldResets = s.coldResets ∧
    (State.readPages slot a1 a2 a3 s).s.fuse = s.fuse ∧ (State.readPages slot a1 a2 a3 s).s.power = s.power ∧
    (State.readPages slot a1 a2 a3 s).s.cores = s.cores ∧ (State.readPages slot a1 a2 a3 s).s.ctxs = s.ctxs ∧
    (State.readPages slot a1 a2 a3 s).s.pages = s.pages ∧
    (State.readPages slot a1 a2 a3 s).s.counters = s.counters ∧ (State.readPages slot a1 a2 a3 s).s.dwt = s.dwt ∧
    (State.readPages slot a1 a2 a3 s).s.col = s.col ∧ (State.readPages slot a1 a2 a3 s).s.nets = s.nets ∧
    (State.readPages slot a1 a2 a3 s).s.rcv = s.rcv ∧ (State.readPages slot a1 a2 a3 s).s.hif = s.hif := by
  induction a1 generalizing a2 a3 s with
  | zero => simp [State.readPages]
  | succ n ih =>
    simp only [State.readPages]
    (repeat' split) <;> simp [ih]

@[simp] theorem State.readVA_same (s : State) (slot va n : Nat) :
    (State.readVA s slot va n).s.pending = s.pending ∧ (State.readVA s slot va n).s.ticks = s.ticks ∧
    (State.readVA s slot va n).s.coldResets = s.coldResets ∧ (State.readVA s slot va n).s.fuse = s.fuse ∧
    (State.readVA s slot va n).s.power = s.power ∧ (State.readVA s slot va n).s.cores = s.cores ∧
    (State.readVA s slot va n).s.ctxs = s.ctxs ∧ (State.readVA s slot va n).s.pages = s.pages ∧
    (State.readVA s slot va n).s.counters = s.counters ∧ (State.readVA s slot va n).s.dwt = s.dwt ∧
    (State.readVA s slot va n).s.col = s.col ∧ (State.readVA s slot va n).s.nets = s.nets ∧
    (State.readVA s slot va n).s.rcv = s.rcv ∧ (State.readVA s slot va n).s.hif = s.hif := by
  simp [State.readVA]

@[simp] theorem State.copyPage_same (s : State) (slot src dst : Nat) :
    (State.copyPage s slot src dst).pending = s.pending ∧ (State.copyPage s slot src dst).ticks = s.ticks ∧
    (State.copyPage s slot src dst).coldResets = s.coldResets ∧ (State.copyPage s slot src dst).fuse = s.fuse ∧
    (State.copyPage s slot src dst).power = s.power ∧ (State.copyPage s slot src dst).cores = s.cores ∧
    (State.copyPage s slot src dst).ctxs = s.ctxs ∧ (State.copyPage s slot src dst).pages = s.pages ∧
    (State.copyPage s slot src dst).counters = s.counters ∧ (State.copyPage s slot src dst).dwt = s.dwt ∧
    (State.copyPage s slot src dst).col = s.col ∧ (State.copyPage s slot src dst).nets = s.nets ∧
    (State.copyPage s slot src dst).sec = s.sec ∧ (State.copyPage s slot src dst).rcv = s.rcv ∧
    (State.copyPage s slot src dst).hif = s.hif := by
  unfold State.copyPage
  (repeat' split) <;> simp

@[simp] theorem State.undoHook_same (s : State) (slot vp : Nat) :
    (State.undoHook s slot vp).pending = s.pending ∧ (State.undoHook s slot vp).ticks = s.ticks ∧
    (State.undoHook s slot vp).coldResets = s.coldResets ∧ (State.undoHook s slot vp).fuse = s.fuse ∧
    (State.undoHook s slot vp).power = s.power ∧ (State.undoHook s slot vp).cores = s.cores ∧
    (State.undoHook s slot vp).pages = s.pages ∧ (State.undoHook s slot vp).counters = s.counters ∧
    (State.undoHook s slot vp).dwt = s.dwt ∧ (State.undoHook s slot vp).col = s.col ∧
    (State.undoHook s slot vp).nets = s.nets ∧ (State.undoHook s slot vp).sec = s.sec ∧
    (State.undoHook s slot vp).hif = s.hif := by
  unfold State.undoHook
  dsimp only
  (repeat' split) <;> simp_all

@[simp] theorem State.takeScratch_same (s : State) (vp : Nat) :
    (State.takeScratch s vp).pending = s.pending ∧ (State.takeScratch s vp).fresh = s.fresh ∧
    (State.takeScratch s vp).out = s.out ∧ (State.takeScratch s vp).ticks = s.ticks ∧
    (State.takeScratch s vp).coldResets = s.coldResets ∧ (State.takeScratch s vp).fuse = s.fuse ∧
    (State.takeScratch s vp).modl = s.modl ∧ (State.takeScratch s vp).power = s.power ∧
    (State.takeScratch s vp).cores = s.cores ∧ (State.takeScratch s vp).ctxs = s.ctxs ∧
    (State.takeScratch s vp).pages = s.pages ∧ (State.takeScratch s vp).counters = s.counters ∧
    (State.takeScratch s vp).dwt = s.dwt ∧ (State.takeScratch s vp).col = s.col ∧
    (State.takeScratch s vp).nets = s.nets ∧ (State.takeScratch s vp).sec = s.sec ∧
    (State.takeScratch s vp).mgt = s.mgt ∧ (State.takeScratch s vp).hif = s.hif := by
  unfold State.takeScratch
  (repeat' split) <;> simp

@[simp] theorem State.scratchHook_same (s : State) (slot vp : Nat) :
    (State.scratchHook s slot vp).pending = s.pending ∧ (State.scratchHook s slot vp).fresh = s.fresh ∧
    (State.scratchHook s slot vp).out = s.out ∧ (State.scratchHook s slot vp).ticks = s.ticks ∧
    (State.scratchHook s slot vp).coldResets = s.coldResets ∧ (State.scratchHook s slot vp).fuse = s.fuse ∧
    (State.scratchHook s slot vp).modl = s.modl ∧ (State.scratchHook s slot vp).power = s.power ∧
    (State.scratchHook s slot vp).cores = s.cores ∧ (State.scratchHook s slot vp).ctxs = s.ctxs ∧
    (State.scratchHook s slot vp).pages = s.pages ∧ (State.scratchHook s slot vp).counters = s.counters ∧
    (State.scratchHook s slot vp).dwt = s.dwt ∧ (State.scratchHook s slot vp).col = s.col ∧
    (State.scratchHook s slot vp).nets = s.nets ∧ (State.scratchHook s slot vp).sec = s.sec ∧
    (State.scratchHook s slot vp).mgt = s.mgt ∧ (State.scratchHook s slot vp).hif = s.hif := by
  simp [State.scratchHook]

@[simp] theorem State.beforeWrite_same (s : State) (slot vp : Nat) :
    (State.beforeWrite s slot vp).pending = s.pending ∧ (State.beforeWrite s slot vp).ticks = s.ticks ∧
    (State.beforeWrite s slot vp).coldResets = s.coldResets ∧ (State.beforeWrite s slot vp).fuse = s.fuse ∧
    (State.beforeWrite s slot vp).power = s.power ∧ (State.beforeWrite s slot vp).cores = s.cores ∧
    (State.beforeWrite s slot vp).pages = s.pages ∧ (State.beforeWrite s slot vp).counters = s.counters ∧
    (State.beforeWrite s slot vp).dwt = s.dwt ∧ (State.beforeWrite s slot vp).col = s.col ∧
    (State.beforeWrite s slot vp).nets = s.nets ∧ (State.beforeWrite s slot vp).sec = s.sec ∧
    (State.beforeWrite s slot vp).hif = s.hif := by
  unfold State.beforeWrite
  dsimp only
  (repeat' split) <;> simp_all

@[simp] theorem State.writeFrames_same (s : State) (p : Pte) (off : Nat) (bs : List Byte) :
    (State.writeFrames s p off bs).pending = s.pending ∧ (State.writeFrames s p off bs).fresh = s.fresh ∧
    (State.writeFrames s p off bs).out = s.out ∧ (State.writeFrames s p off bs).ticks = s.ticks ∧
    (State.writeFrames s p off bs).coldResets = s.coldResets ∧ (State.writeFrames s p off bs).fuse = s.fuse ∧
    (State.writeFrames s p off bs).modl = s.modl ∧ (State.writeFrames s p off bs).power = s.power ∧
    (State.writeFrames s p off bs).cores = s.cores ∧ (State.writeFrames s p off bs).ctxs = s.ctxs ∧
    (State.writeFrames s p off bs).pages = s.pages ∧ (State.writeFrames s p off bs).counters = s.counters ∧
    (State.writeFrames s p off bs).dwt = s.dwt ∧ (State.writeFrames s p off bs).col = s.col ∧
    (State.writeFrames s p off bs).nets = s.nets ∧ (State.writeFrames s p off bs).sec = s.sec ∧
    (State.writeFrames s p off bs).rcv = s.rcv ∧ (State.writeFrames s p off bs).mgt = s.mgt ∧
    (State.writeFrames s p off bs).hif = s.hif := by
  unfold State.writeFrames
  (repeat' split) <;> simp

@[simp] theorem State.putBack_same (s : State) (o : OldMem) :
    (State.putBack s o).pending = s.pending ∧ (State.putBack s o).fresh = s.fresh ∧
    (State.putBack s o).out = s.out ∧ (State.putBack s o).ticks = s.ticks ∧
    (State.putBack s o).coldResets = s.coldResets ∧ (State.putBack s o).fuse = s.fuse ∧
    (State.putBack s o).modl = s.modl ∧ (State.putBack s o).power = s.power ∧ (State.putBack s o).cores = s.cores ∧
    (State.putBack s o).ctxs = s.ctxs ∧ (State.putBack s o).pages = s.pages ∧
    (State.putBack s o).counters = s.counters ∧ (State.putBack s o).dwt = s.dwt ∧ (State.putBack s o).col = s.col ∧
    (State.putBack s o).nets = s.nets ∧ (State.putBack s o).sec = s.sec ∧ (State.putBack s o).rcv = s.rcv ∧
    (State.putBack s o).mgt = s.mgt ∧ (State.putBack s o).hif = s.hif := by
  unfold State.putBack
  (repeat' split) <;> simp

@[simp] theorem State.writePages_same (slot : Nat) (a1 : Nat) (a2 : Nat) (a3 : List Byte) (s : State) :
    (State.writePages slot a1 a2 a3 s).pending = s.pending ∧ (State.writePages slot a1 a2 a3 s).ticks = s.ticks ∧
    (State.writePages slot a1 a2 a3 s).coldResets = s.coldResets ∧
    (State.writePages slot a1 a2 a3 s).fuse = s.fuse ∧ (State.writePages slot a1 a2 a3 s).power = s.power ∧
    (State.writePages slot a1 a2 a3 s).cores = s.cores ∧ (State.writePages slot a1 a2 a3 s).pages = s.pages ∧
    (State.writePages slot a1 a2 a3 s).counters = s.counters ∧ (State.writePages slot a1 a2 a3 s).dwt = s.dwt ∧
    (State.writePages slot a1 a2 a3 s).col = s.col ∧ (State.writePages slot a1 a2 a3 s).nets = s.nets ∧
    (State.writePages slot a1 a2 a3 s).hif = s.hif := by
  induction a1 generalizing a2 a3 s with
  | zero => simp [State.writePages]
  | succ n ih =>
    simp only [State.writePages]
    (repeat' split) <;> simp [ih]

@[simp] theorem State.writeVA_same (s : State) (slot va : Nat) (bs : List Byte) :
    (State.writeVA s slot va bs).pending = s.pending ∧ (State.writeVA s slot va bs).ticks = s.ticks ∧
    (State.writeVA s slot va bs).coldResets = s.coldResets ∧ (State.writeVA s slot va bs).fuse = s.fuse ∧
    (State.writeVA s slot va bs).power = s.power ∧ (State.writeVA s slot va bs).cores = s.cores ∧
    (State.writeVA s slot va bs).pages = s.pages ∧ (State.writeVA s slot va bs).counters = s.counters ∧
    (State.writeVA s slot va bs).dwt = s.dwt ∧ (State.writeVA s slot va bs).col = s.col ∧
    (State.writeVA s slot va bs).nets = s.nets ∧ (State.writeVA s slot va bs).hif = s.hif := by
  simp [State.writeVA]

@[simp] theorem State.addLine_same (s : State) (slot va : Nat) (xs : List W32) :
    (State.addLine s slot va xs).1.pending = s.pending ∧ (State.addLine s slot va xs).1.ticks = s.ticks ∧
    (State.addLine s slot va xs).1.coldResets = s.coldResets ∧ (State.addLine s slot va xs).1.fuse = s.fuse ∧
    (State.addLine s slot va xs).1.power = s.power ∧ (State.addLine s slot va xs).1.cores = s.cores ∧
    (State.addLine s slot va xs).1.pages = s.pages ∧ (State.addLine s slot va xs).1.counters = s.counters ∧
    (State.addLine s slot va xs).1.dwt = s.dwt ∧ (State.addLine s slot va xs).1.col = s.col ∧
    (State.addLine s slot va xs).1.nets = s.nets ∧ (State.addLine s slot va xs).1.hif = s.hif := by
  unfold State.addLine
  dsimp only
  (repeat' split) <;> simp_all

@[simp] theorem State.addLines_same (slot : Nat) (a1 : Nat) (a2 : Nat) (a3 : List W32) (s : State) :
    (State.addLines slot a1 a2 a3 s).1.pending = s.pending ∧ (State.addLines slot a1 a2 a3 s).1.ticks = s.ticks ∧
    (State.addLines slot a1 a2 a3 s).1.coldResets = s.coldResets ∧
    (State.addLines slot a1 a2 a3 s).1.fuse = s.fuse ∧ (State.addLines slot a1 a2 a3 s).1.power = s.power ∧
    (State.addLines slot a1 a2 a3 s).1.cores = s.cores ∧ (State.addLines slot a1 a2 a3 s).1.pages = s.pages ∧
    (State.addLines slot a1 a2 a3 s).1.counters = s.counters ∧ (State.addLines slot a1 a2 a3 s).1.dwt = s.dwt ∧
    (State.addLines slot a1 a2 a3 s).1.col = s.col ∧ (State.addLines slot a1 a2 a3 s).1.nets = s.nets ∧
    (State.addLines slot a1 a2 a3 s).1.hif = s.hif := by
  induction a1 generalizing a2 a3 s with
  | zero => simp [State.addLines]
  | succ n ih =>
    simp only [State.addLines]
    (repeat' split) <;> simp [ih]

@[simp] theorem State.addVA_same (s : State) (slot va : Nat) (xs : List W32) :
    (State.addVA s slot va xs).1.pending = s.pending ∧ (State.addVA s slot va xs).1.ticks = s.ticks ∧
    (State.addVA s slot va xs).1.coldResets = s.coldResets ∧ (State.addVA s slot va xs).1.fuse = s.fuse ∧
    (State.addVA s slot va xs).1.power = s.power ∧ (State.addVA s slot va xs).1.cores = s.cores ∧
    (State.addVA s slot va xs).1.pages = s.pages ∧ (State.addVA s slot va xs).1.counters = s.counters ∧
    (State.addVA s slot va xs).1.dwt = s.dwt ∧ (State.addVA s slot va xs).1.col = s.col ∧
    (State.addVA s slot va xs).1.nets = s.nets ∧ (State.addVA s slot va xs).1.hif = s.hif := by
  simp [State.addVA]

end Sys2Proof.Machine
end

