-- ==== Sys2Proof/Laws/SameFlags.lean ====
section
/-! SUPPORT. What the definitions of Machine/Flags.lean leave alone. -/

namespace Sys2Proof.Machine

@[simp] theorem Env.recorded_same (e : Env) (cls : Nat) (lsrc : Bool) (named : Nat) (t : Tally) :
    (Env.recorded e cls lsrc named t).pending = e.s.pending ∧ (Env.recorded e cls lsrc named t).fresh = e.s.fresh ∧
    (Env.recorded e cls lsrc named t).out = e.s.out ∧ (Env.recorded e cls lsrc named t).ticks = e.s.ticks ∧
    (Env.recorded e cls lsrc named t).coldResets = e.s.coldResets ∧
    (Env.recorded e cls lsrc named t).fuse = e.s.fuse ∧ (Env.recorded e cls lsrc named t).modl = e.s.modl ∧
    (Env.recorded e cls lsrc named t).power = e.s.power ∧ (Env.recorded e cls lsrc named t).cores = e.s.cores ∧
    (Env.recorded e cls lsrc named t).pages = e.s.pages ∧
    (Env.recorded e cls lsrc named t).counters = e.s.counters ∧
    (Env.recorded e cls lsrc named t).tiers = e.s.tiers ∧ (Env.recorded e cls lsrc named t).dwt = e.s.dwt ∧
    (Env.recorded e cls lsrc named t).col = e.s.col ∧ (Env.recorded e cls lsrc named t).nets = e.s.nets ∧
    (Env.recorded e cls lsrc named t).sec = e.s.sec ∧ (Env.recorded e cls lsrc named t).rcv = e.s.rcv ∧
    (Env.recorded e cls lsrc named t).mgt = e.s.mgt ∧ (Env.recorded e cls lsrc named t).hif = e.s.hif := by
  simp [Env.recorded]

end Sys2Proof.Machine
end

