-- ==== Sys2Proof/Laws/SameStatus.lean ====
section
/-! SUPPORT. What the definitions of Machine/Status.lean leave alone. -/

namespace Sys2Proof.Machine

@[simp] theorem State.setCoreCtx_same (s : State) (slot n : Nat) (l : CoreCtx) :
    (State.setCoreCtx s slot n l).pending = s.pending ∧ (State.setCoreCtx s slot n l).fresh = s.fresh ∧
    (State.setCoreCtx s slot n l).out = s.out ∧ (State.setCoreCtx s slot n l).ticks = s.ticks ∧
    (State.setCoreCtx s slot n l).coldResets = s.coldResets ∧ (State.setCoreCtx s slot n l).fuse = s.fuse ∧
    (State.setCoreCtx s slot n l).modl = s.modl ∧ (State.setCoreCtx s slot n l).power = s.power ∧
    (State.setCoreCtx s slot n l).pages = s.pages ∧ (State.setCoreCtx s slot n l).counters = s.counters ∧
    (State.setCoreCtx s slot n l).tiers = s.tiers ∧ (State.setCoreCtx s slot n l).dwt = s.dwt ∧
    (State.setCoreCtx s slot n l).col = s.col ∧ (State.setCoreCtx s slot n l).nets = s.nets ∧
    (State.setCoreCtx s slot n l).sec = s.sec ∧ (State.setCoreCtx s slot n l).rcv = s.rcv ∧
    (State.setCoreCtx s slot n l).mgt = s.mgt ∧ (State.setCoreCtx s slot n l).hif = s.hif := by
  simp [State.setCoreCtx]

@[simp] theorem State.pageSignal_same (s : State) (p : Page) :
    (State.pageSignal s p).pending = s.pending ∧ (State.pageSignal s p).fresh = s.fresh ∧
    (State.pageSignal s p).ticks = s.ticks ∧ (State.pageSignal s p).coldResets = s.coldResets ∧
    (State.pageSignal s p).fuse = s.fuse ∧ (State.pageSignal s p).modl = s.modl ∧
    (State.pageSignal s p).power = s.power ∧ (State.pageSignal s p).cores = s.cores ∧
    (State.pageSignal s p).ctxs = s.ctxs ∧ (State.pageSignal s p).pages = s.pages ∧
    (State.pageSignal s p).counters = s.counters ∧ (State.pageSignal s p).tiers = s.tiers ∧
    (State.pageSignal s p).dwt = s.dwt ∧ (State.pageSignal s p).col = s.col ∧
    (State.pageSignal s p).nets = s.nets ∧ (State.pageSignal s p).sec = s.sec ∧
    (State.pageSignal s p).rcv = s.rcv ∧ (State.pageSignal s p).mgt = s.mgt ∧ (State.pageSignal s p).hif = s.hif := by
  simp [State.pageSignal]

@[simp] theorem State.writeCpl_same (s : State) (slot : Nat) (c : Cpl) :
    (State.writeCpl s slot c).pending = s.pending ∧ (State.writeCpl s slot c).fresh = s.fresh ∧
    (State.writeCpl s slot c).ticks = s.ticks ∧ (State.writeCpl s slot c).coldResets = s.coldResets ∧
    (State.writeCpl s slot c).fuse = s.fuse ∧ (State.writeCpl s slot c).modl = s.modl ∧
    (State.writeCpl s slot c).power = s.power ∧ (State.writeCpl s slot c).cores = s.cores ∧
    (State.writeCpl s slot c).ctxs = s.ctxs ∧ (State.writeCpl s slot c).counters = s.counters ∧
    (State.writeCpl s slot c).tiers = s.tiers ∧ (State.writeCpl s slot c).dwt = s.dwt ∧
    (State.writeCpl s slot c).col = s.col ∧ (State.writeCpl s slot c).nets = s.nets ∧
    (State.writeCpl s slot c).sec = s.sec ∧ (State.writeCpl s slot c).rcv = s.rcv ∧
    (State.writeCpl s slot c).mgt = s.mgt ∧ (State.writeCpl s slot c).hif = s.hif := by
  simp [State.writeCpl]

@[simp] theorem State.flushCpl_same (slot : Nat) (a1 : Nat) (s : State) :
    (State.flushCpl slot a1 s).pending = s.pending ∧ (State.flushCpl slot a1 s).fresh = s.fresh ∧
    (State.flushCpl slot a1 s).ticks = s.ticks ∧ (State.flushCpl slot a1 s).coldResets = s.coldResets ∧
    (State.flushCpl slot a1 s).fuse = s.fuse ∧ (State.flushCpl slot a1 s).modl = s.modl ∧
    (State.flushCpl slot a1 s).power = s.power ∧ (State.flushCpl slot a1 s).cores = s.cores ∧
    (State.flushCpl slot a1 s).ctxs = s.ctxs ∧ (State.flushCpl slot a1 s).counters = s.counters ∧
    (State.flushCpl slot a1 s).tiers = s.tiers ∧ (State.flushCpl slot a1 s).dwt = s.dwt ∧
    (State.flushCpl slot a1 s).col = s.col ∧ (State.flushCpl slot a1 s).nets = s.nets ∧
    (State.flushCpl slot a1 s).sec = s.sec ∧ (State.flushCpl slot a1 s).rcv = s.rcv ∧
    (State.flushCpl slot a1 s).mgt = s.mgt ∧ (State.flushCpl slot a1 s).hif = s.hif := by
  induction a1 generalizing s with
  | zero => simp [State.flushCpl]
  | succ n ih =>
    simp only [State.flushCpl]
    (repeat' split) <;> simp [ih]

@[simp] theorem State.addCpl_same (s : State) (slot : Nat) (c : Cpl) :
    (State.addCpl s slot c).pending = s.pending ∧ (State.addCpl s slot c).fresh = s.fresh ∧
    (State.addCpl s slot c).ticks = s.ticks ∧ (State.addCpl s slot c).coldResets = s.coldResets ∧
    (State.addCpl s slot c).fuse = s.fuse ∧ (State.addCpl s slot c).modl = s.modl ∧
    (State.addCpl s slot c).power = s.power ∧ (State.addCpl s slot c).cores = s.cores ∧
    (State.addCpl s slot c).ctxs = s.ctxs ∧ (State.addCpl s slot c).counters = s.counters ∧
    (State.addCpl s slot c).tiers = s.tiers ∧ (State.addCpl s slot c).dwt = s.dwt ∧
    (State.addCpl s slot c).col = s.col ∧ (State.addCpl s slot c).nets = s.nets ∧
    (State.addCpl s slot c).sec = s.sec ∧ (State.addCpl s slot c).rcv = s.rcv ∧
    (State.addCpl s slot c).mgt = s.mgt ∧ (State.addCpl s slot c).hif = s.hif := by
  simp [State.addCpl]

end Sys2Proof.Machine
end

