-- ==== Sys2Proof/Laws/SameStreams.lean ====
section
/-! SUPPORT. What the definitions of Machine/Streams.lean leave alone. -/

namespace Sys2Proof.Machine

@[simp] theorem revertMem_same (k : Nat) (l : List OldMem) (s : State) :
    (revertMem k l s).pending = s.pending ∧ (revertMem k l s).fresh = s.fresh ∧ (revertMem k l s).out = s.out ∧
    (revertMem k l s).ticks = s.ticks ∧ (revertMem k l s).coldResets = s.coldResets ∧
    (revertMem k l s).fuse = s.fuse ∧ (revertMem k l s).modl = s.modl ∧ (revertMem k l s).power = s.power ∧
    (revertMem k l s).cores = s.cores ∧ (revertMem k l s).ctxs = s.ctxs ∧ (revertMem k l s).pages = s.pages ∧
    (revertMem k l s).counters = s.counters ∧ (revertMem k l s).dwt = s.dwt ∧ (revertMem k l s).col = s.col ∧
    (revertMem k l s).nets = s.nets ∧ (revertMem k l s).sec = s.sec ∧ (revertMem k l s).rcv = s.rcv ∧
    (revertMem k l s).mgt = s.mgt ∧ (revertMem k l s).hif = s.hif := by
  induction l generalizing k s with
  | nil => simp [revertMem]
  | cons x l ih =>
    simp only [revertMem]
    (repeat' split) <;> simp [ih]

@[simp] theorem discard_same (f : Flight) (r : State × CoreCtx) :
    (discard f r).1.pending = r.1.pending ∧ (discard f r).1.out = r.1.out ∧ (discard f r).1.ticks = r.1.ticks ∧
    (discard f r).1.coldResets = r.1.coldResets ∧ (discard f r).1.fuse = r.1.fuse ∧
    (discard f r).1.modl = r.1.modl ∧ (discard f r).1.power = r.1.power ∧ (discard f r).1.cores = r.1.cores ∧
    (discard f r).1.ctxs = r.1.ctxs ∧ (discard f r).1.pages = r.1.pages ∧ (discard f r).1.counters = r.1.counters ∧
    (discard f r).1.dwt = r.1.dwt ∧ (discard f r).1.col = r.1.col ∧ (discard f r).1.nets = r.1.nets ∧
    (discard f r).1.sec = r.1.sec ∧ (discard f r).1.rcv = r.1.rcv ∧ (discard f r).1.mgt = r.1.mgt ∧
    (discard f r).1.hif = r.1.hif := by
  simp [discard]

@[simp] theorem stopAt_same (s : State) (l : CoreCtx) (x : StrmId) (idx : Nat) :
    (stopAt s l x idx).1.pending = s.pending ∧ (stopAt s l x idx).1.out = s.out ∧
    (stopAt s l x idx).1.ticks = s.ticks ∧ (stopAt s l x idx).1.coldResets = s.coldResets ∧
    (stopAt s l x idx).1.fuse = s.fuse ∧ (stopAt s l x idx).1.modl = s.modl ∧
    (stopAt s l x idx).1.power = s.power ∧ (stopAt s l x idx).1.cores = s.cores ∧
    (stopAt s l x idx).1.ctxs = s.ctxs ∧ (stopAt s l x idx).1.pages = s.pages ∧
    (stopAt s l x idx).1.counters = s.counters ∧ (stopAt s l x idx).1.dwt = s.dwt ∧
    (stopAt s l x idx).1.col = s.col ∧ (stopAt s l x idx).1.nets = s.nets ∧ (stopAt s l x idx).1.sec = s.sec ∧
    (stopAt s l x idx).1.rcv = s.rcv ∧ (stopAt s l x idx).1.mgt = s.mgt ∧ (stopAt s l x idx).1.hif = s.hif := by
  simp [stopAt]

@[simp] theorem raiseFault_same (s : State) (n : Nat) (x : StrmId) (slot idx : Nat) (code : FaultCode) :
    (raiseFault s n x slot idx code).pending = s.pending ∧ (raiseFault s n x slot idx code).ticks = s.ticks ∧
    (raiseFault s n x slot idx code).coldResets = s.coldResets ∧ (raiseFault s n x slot idx code).fuse = s.fuse ∧
    (raiseFault s n x slot idx code).power = s.power ∧ (raiseFault s n x slot idx code).pages = s.pages ∧
    (raiseFault s n x slot idx code).counters = s.counters ∧ (raiseFault s n x slot idx code).dwt = s.dwt ∧
    (raiseFault s n x slot idx code).col = s.col ∧ (raiseFault s n x slot idx code).nets = s.nets ∧
    (raiseFault s n x slot idx code).rcv = s.rcv ∧ (raiseFault s n x slot idx code).hif = s.hif := by
  unfold raiseFault
  (repeat' split) <;> simp

@[simp] theorem State.setStream_same (s : State) (n : Nat) (x : StrmId) (t : Stream) :
    (State.setStream s n x t).pending = s.pending ∧ (State.setStream s n x t).fresh = s.fresh ∧
    (State.setStream s n x t).out = s.out ∧ (State.setStream s n x t).ticks = s.ticks ∧
    (State.setStream s n x t).coldResets = s.coldResets ∧ (State.setStream s n x t).fuse = s.fuse ∧
    (State.setStream s n x t).modl = s.modl ∧ (State.setStream s n x t).power = s.power ∧
    (State.setStream s n x t).ctxs = s.ctxs ∧ (State.setStream s n x t).pages = s.pages ∧
    (State.setStream s n x t).counters = s.counters ∧ (State.setStream s n x t).tiers = s.tiers ∧
    (State.setStream s n x t).dwt = s.dwt ∧ (State.setStream s n x t).col = s.col ∧
    (State.setStream s n x t).nets = s.nets ∧ (State.setStream s n x t).sec = s.sec ∧
    (State.setStream s n x t).rcv = s.rcv ∧ (State.setStream s n x t).mgt = s.mgt ∧
    (State.setStream s n x t).hif = s.hif := by
  simp [State.setStream]

@[simp] theorem dispatch_same (n : Nat) (x : StrmId) (want : KwOp → Bool) (s : State) :
    (dispatch n x want s).pending = s.pending ∧ (dispatch n x want s).ticks = s.ticks ∧
    (dispatch n x want s).coldResets = s.coldResets ∧ (dispatch n x want s).fuse = s.fuse ∧
    (dispatch n x want s).power = s.power ∧ (dispatch n x want s).pages = s.pages ∧
    (dispatch n x want s).counters = s.counters ∧ (dispatch n x want s).dwt = s.dwt ∧
    (dispatch n x want s).col = s.col ∧ (dispatch n x want s).nets = s.nets ∧ (dispatch n x want s).rcv = s.rcv ∧
    (dispatch n x want s).hif = s.hif := by
  unfold dispatch
  (repeat' split) <;> simp

@[simp] theorem State.noteSram_same (s : State) (n bankBase : Nat) (met : List SramErr) :
    (State.noteSram s n bankBase met).pending = s.pending ∧ (State.noteSram s n bankBase met).ticks = s.ticks ∧
    (State.noteSram s n bankBase met).coldResets = s.coldResets ∧ (State.noteSram s n bankBase met).fuse = s.fuse ∧
    (State.noteSram s n bankBase met).power = s.power ∧ (State.noteSram s n bankBase met).ctxs = s.ctxs ∧
    (State.noteSram s n bankBase met).pages = s.pages ∧ (State.noteSram s n bankBase met).counters = s.counters ∧
    (State.noteSram s n bankBase met).tiers = s.tiers ∧ (State.noteSram s n bankBase met).dwt = s.dwt ∧
    (State.noteSram s n bankBase met).col = s.col ∧ (State.noteSram s n bankBase met).nets = s.nets ∧
    (State.noteSram s n bankBase met).sec = s.sec ∧ (State.noteSram s n bankBase met).rcv = s.rcv ∧
    (State.noteSram s n bankBase met).hif = s.hif := by
  simp [State.noteSram]

@[simp] theorem signal_same (s : State) (n : Nat) (x : StrmId) (slot : Nat) (inBr : Bool) (k amount : Nat) :
    (signal s n x slot inBr k amount).pending = s.pending ∧ (signal s n x slot inBr k amount).ticks = s.ticks ∧
    (signal s n x slot inBr k amount).coldResets = s.coldResets ∧ (signal s n x slot inBr k amount).fuse = s.fuse ∧
    (signal s n x slot inBr k amount).power = s.power ∧ (signal s n x slot inBr k amount).ctxs = s.ctxs ∧
    (signal s n x slot inBr k amount).pages = s.pages ∧ (signal s n x slot inBr k amount).tiers = s.tiers ∧
    (signal s n x slot inBr k amount).dwt = s.dwt ∧ (signal s n x slot inBr k amount).col = s.col ∧
    (signal s n x slot inBr k amount).nets = s.nets ∧ (signal s n x slot inBr k amount).sec = s.sec ∧
    (signal s n x slot inBr k amount).rcv = s.rcv ∧ (signal s n x slot inBr k amount).hif = s.hif := by
  unfold signal
  dsimp only
  (repeat' split) <;> simp_all

@[simp] theorem completeFlight_same (s : State) (n : Nat) (x : StrmId) (slot : Nat) (f : Flight) :
    (completeFlight s n x slot f).pending = s.pending ∧ (completeFlight s n x slot f).ticks = s.ticks ∧
    (completeFlight s n x slot f).coldResets = s.coldResets ∧ (completeFlight s n x slot f).fuse = s.fuse ∧
    (completeFlight s n x slot f).power = s.power ∧ (completeFlight s n x slot f).ctxs = s.ctxs ∧
    (completeFlight s n x slot f).pages = s.pages ∧ (completeFlight s n x slot f).tiers = s.tiers ∧
    (completeFlight s n x slot f).dwt = s.dwt ∧ (completeFlight s n x slot f).col = s.col ∧
    (completeFlight s n x slot f).nets = s.nets ∧ (completeFlight s n x slot f).sec = s.sec ∧
    (completeFlight s n x slot f).rcv = s.rcv ∧ (completeFlight s n x slot f).hif = s.hif := by
  unfold completeFlight
  (repeat' split) <;> simp

@[simp] theorem finish_same (e : Env) (access : Bool) (d : Done) :
    (finish e access d).pending = d.s.pending ∧ (finish e access d).ticks = d.s.ticks ∧
    (finish e access d).coldResets = d.s.coldResets ∧ (finish e access d).fuse = d.s.fuse ∧
    (finish e access d).power = d.s.power ∧ (finish e access d).pages = d.s.pages ∧
    (finish e access d).dwt = d.s.dwt ∧ (finish e access d).col = d.s.col ∧ (finish e access d).nets = d.s.nets ∧
    (finish e access d).rcv = d.s.rcv ∧ (finish e access d).hif = d.s.hif := by
  unfold finish
  dsimp only
  (repeat' split) <;> simp_all

@[simp] theorem clearAge_same (s : State) (n : Nat) (x : StrmId) (dfr access : Bool) (e : Env) :
    (clearAge s n x dfr access e).pending = s.pending ∧ (clearAge s n x dfr access e).fresh = s.fresh ∧
    (clearAge s n x dfr access e).out = s.out ∧ (clearAge s n x dfr access e).ticks = s.ticks ∧
    (clearAge s n x dfr access e).coldResets = s.coldResets ∧ (clearAge s n x dfr access e).fuse = s.fuse ∧
    (clearAge s n x dfr access e).modl = s.modl ∧ (clearAge s n x dfr access e).power = s.power ∧
    (clearAge s n x dfr access e).ctxs = s.ctxs ∧ (clearAge s n x dfr access e).pages = s.pages ∧
    (clearAge s n x dfr access e).counters = s.counters ∧ (clearAge s n x dfr access e).tiers = s.tiers ∧
    (clearAge s n x dfr access e).dwt = s.dwt ∧ (clearAge s n x dfr access e).col = s.col ∧
    (clearAge s n x dfr access e).nets = s.nets ∧ (clearAge s n x dfr access e).sec = s.sec ∧
    (clearAge s n x dfr access e).rcv = s.rcv ∧ (clearAge s n x dfr access e).mgt = s.mgt ∧
    (clearAge s n x dfr access e).hif = s.hif := by
  unfold clearAge
  dsimp only
  (repeat' split) <;> simp_all

/-- The issue of an instruction keeps of these what the instruction keeps. -/
theorem issue_same (n : Nat) (x : StrmId) (dfr access : Bool) (want : KwOp → Bool)
    (run : Env → Except FaultCode Done) (s : State)
    (hr : ∀ e d, run e = .ok d → d.s.pending = e.s.pending ∧ d.s.ticks = e.s.ticks ∧ d.s.coldResets = e.s.coldResets ∧ d.s.fuse = e.s.fuse ∧ d.s.power = e.s.power) :
    (issue n x dfr access want run s).pending = s.pending ∧ (issue n x dfr access want run s).ticks = s.ticks ∧ (issue n x dfr access want run s).coldResets = s.coldResets ∧ (issue n x dfr access want run s).fuse = s.fuse ∧ (issue n x dfr access want run s).power = s.power := by
  unfold issue
  dsimp only
  (repeat' split) <;> simp
  have h := hr _ _ ‹run _ = Except.ok _›
  simpa using h

@[simp] theorem State.sendStatus_same (s : State) (slot : Nat) (words : List Nat) :
    (State.sendStatus s slot words).pending = s.pending ∧ (State.sendStatus s slot words).fresh = s.fresh ∧
    (State.sendStatus s slot words).ticks = s.ticks ∧ (State.sendStatus s slot words).coldResets = s.coldResets ∧
    (State.sendStatus s slot words).fuse = s.fuse ∧ (State.sendStatus s slot words).modl = s.modl ∧
    (State.sendStatus s slot words).power = s.power ∧ (State.sendStatus s slot words).cores = s.cores ∧
    (State.sendStatus s slot words).ctxs = s.ctxs ∧ (State.sendStatus s slot words).counters = s.counters ∧
    (State.sendStatus s slot words).tiers = s.tiers ∧ (State.sendStatus s slot words).dwt = s.dwt ∧
    (State.sendStatus s slot words).col = s.col ∧ (State.sendStatus s slot words).nets = s.nets ∧
    (State.sendStatus s slot words).sec = s.sec ∧ (State.sendStatus s slot words).rcv = s.rcv ∧
    (State.sendStatus s slot words).mgt = s.mgt ∧ (State.sendStatus s slot words).hif = s.hif := by
  simp [State.sendStatus]

@[simp] theorem State.writeStatus_same (s : State) (slot : Nat) :
    (State.writeStatus s slot).pending = s.pending ∧ (State.writeStatus s slot).fresh = s.fresh ∧
    (State.writeStatus s slot).ticks = s.ticks ∧ (State.writeStatus s slot).coldResets = s.coldResets ∧
    (State.writeStatus s slot).fuse = s.fuse ∧ (State.writeStatus s slot).modl = s.modl ∧
    (State.writeStatus s slot).power = s.power ∧ (State.writeStatus s slot).cores = s.cores ∧
    (State.writeStatus s slot).ctxs = s.ctxs ∧ (State.writeStatus s slot).counters = s.counters ∧
    (State.writeStatus s slot).tiers = s.tiers ∧ (State.writeStatus s slot).dwt = s.dwt ∧
    (State.writeStatus s slot).col = s.col ∧ (State.writeStatus s slot).nets = s.nets ∧
    (State.writeStatus s slot).sec = s.sec ∧ (State.writeStatus s slot).rcv = s.rcv ∧
    (State.writeStatus s slot).mgt = s.mgt := by
  simp [State.writeStatus]

@[simp] theorem State.settle_same (s t : State) :
    (State.settle s t).pending = t.pending ∧ (State.settle s t).fresh = t.fresh ∧
    (State.settle s t).ticks = t.ticks ∧ (State.settle s t).coldResets = t.coldResets ∧
    (State.settle s t).fuse = t.fuse ∧ (State.settle s t).modl = t.modl ∧ (State.settle s t).power = t.power ∧
    (State.settle s t).cores = t.cores ∧ (State.settle s t).ctxs = t.ctxs ∧
    (State.settle s t).counters = t.counters ∧ (State.settle s t).tiers = t.tiers ∧
    (State.settle s t).dwt = t.dwt ∧ (State.settle s t).col = t.col ∧ (State.settle s t).nets = t.nets ∧
    (State.settle s t).sec = t.sec ∧ (State.settle s t).rcv = t.rcv ∧ (State.settle s t).mgt = t.mgt := by
  simp [State.settle]

theorem kwemin_same (n : CoreId) (x : StrmId) (ph : Phase) (access : Bool) (want : KwOp → Bool)
    (run : Env → Except FaultCode Done) (s : State)
    (hr : ∀ e d, run e = .ok d → d.s.pending = e.s.pending ∧ d.s.ticks = e.s.ticks ∧ d.s.coldResets = e.s.coldResets ∧ d.s.fuse = e.s.fuse ∧ d.s.power = e.s.power) :
    (kwemin n x ph access want run s).pending = s.pending ∧ (kwemin n x ph access want run s).ticks = s.ticks ∧ (kwemin n x ph access want run s).coldResets = s.coldResets ∧ (kwemin n x ph access want run s).fuse = s.fuse ∧ (kwemin n x ph access want run s).power = s.power := by
  unfold kwemin
  split
  · simp
  · simpa using issue_same n.val x false access want run s hr
  · split
    · simpa using issue_same n.val x true access want run s hr
    · simp

end Sys2Proof.Machine
end

