-- ==== Sys2Proof/Laws/SameComputeCore.lean ====
section
/-! SUPPORT. What the definitions of Machine/ComputeCore.lean leave alone. -/

namespace Sys2Proof.Machine

theorem runLoadw_same (f : LoadwF) (e : Env) {d : Done} (h : runLoadw f e = .ok d) :
    d.s.pending = e.s.pending ∧ d.s.fresh = e.s.fresh ∧ d.s.out = e.s.out ∧ d.s.ticks = e.s.ticks ∧
    d.s.coldResets = e.s.coldResets ∧ d.s.fuse = e.s.fuse ∧ d.s.modl = e.s.modl ∧ d.s.power = e.s.power ∧
    d.s.cores = e.s.cores ∧ d.s.ctxs = e.s.ctxs ∧ d.s.pages = e.s.pages ∧ d.s.counters = e.s.counters ∧
    d.s.tiers = e.s.tiers ∧ d.s.dwt = e.s.dwt ∧ d.s.col = e.s.col ∧ d.s.nets = e.s.nets ∧ d.s.sec = e.s.sec ∧
    d.s.rcv = e.s.rcv ∧ d.s.mgt = e.s.mgt ∧ d.s.hif = e.s.hif := by
  simp only [runLoadw, bind, Except.bind, pure, Except.pure, failIf] at h
  (repeat' split at h) <;> simp_all <;> (try subst h) <;> simp_all

theorem carryLoadw_same (e : Env) {d : Done} (h : carryLoadw e = .ok d) :
    d.s.pending = e.s.pending ∧ d.s.fresh = e.s.fresh ∧ d.s.out = e.s.out ∧ d.s.ticks = e.s.ticks ∧
    d.s.coldResets = e.s.coldResets ∧ d.s.fuse = e.s.fuse ∧ d.s.modl = e.s.modl ∧ d.s.power = e.s.power ∧
    d.s.cores = e.s.cores ∧ d.s.ctxs = e.s.ctxs ∧ d.s.pages = e.s.pages ∧ d.s.counters = e.s.counters ∧
    d.s.tiers = e.s.tiers ∧ d.s.dwt = e.s.dwt ∧ d.s.col = e.s.col ∧ d.s.nets = e.s.nets ∧ d.s.sec = e.s.sec ∧
    d.s.rcv = e.s.rcv ∧ d.s.mgt = e.s.mgt ∧ d.s.hif = e.s.hif := by
  simp only [carryLoadw] at h
  split at h
  · first | exact runLoadw_same _ _ h | exact runLoadw_same _ _ _ h
  · cases h

theorem runRun_same (f : RunF) (e : Env) {d : Done} (h : runRun f e = .ok d) :
    d.s.pending = e.s.pending ∧ d.s.fresh = e.s.fresh ∧ d.s.out = e.s.out ∧ d.s.ticks = e.s.ticks ∧
    d.s.coldResets = e.s.coldResets ∧ d.s.fuse = e.s.fuse ∧ d.s.modl = e.s.modl ∧ d.s.power = e.s.power ∧
    d.s.cores = e.s.cores ∧ d.s.ctxs = e.s.ctxs ∧ d.s.pages = e.s.pages ∧ d.s.counters = e.s.counters ∧
    d.s.tiers = e.s.tiers ∧ d.s.dwt = e.s.dwt ∧ d.s.col = e.s.col ∧ d.s.nets = e.s.nets ∧ d.s.sec = e.s.sec ∧
    d.s.rcv = e.s.rcv ∧ d.s.mgt = e.s.mgt ∧ d.s.hif = e.s.hif := by
  unfold runRun at h
  dsimp only at h
  repeat' first | (obtain ⟨_, -, h⟩ := ok_of_bind h) | split at h
  all_goals first | (cases h; done) | (injection h with h; subst h; simp)

theorem carryRun_same (e : Env) {d : Done} (h : carryRun e = .ok d) :
    d.s.pending = e.s.pending ∧ d.s.fresh = e.s.fresh ∧ d.s.out = e.s.out ∧ d.s.ticks = e.s.ticks ∧
    d.s.coldResets = e.s.coldResets ∧ d.s.fuse = e.s.fuse ∧ d.s.modl = e.s.modl ∧ d.s.power = e.s.power ∧
    d.s.cores = e.s.cores ∧ d.s.ctxs = e.s.ctxs ∧ d.s.pages = e.s.pages ∧ d.s.counters = e.s.counters ∧
    d.s.tiers = e.s.tiers ∧ d.s.dwt = e.s.dwt ∧ d.s.col = e.s.col ∧ d.s.nets = e.s.nets ∧ d.s.sec = e.s.sec ∧
    d.s.rcv = e.s.rcv ∧ d.s.mgt = e.s.mgt ∧ d.s.hif = e.s.hif := by
  simp only [carryRun] at h
  split at h
  · first | exact runRun_same _ _ h | exact runRun_same _ _ _ h
  · cases h

@[simp] theorem spillNext_same (n : Nat) (x : StrmId) (s : State) :
    (spillNext n x s).pending = s.pending ∧ (spillNext n x s).ticks = s.ticks ∧
    (spillNext n x s).coldResets = s.coldResets ∧ (spillNext n x s).fuse = s.fuse ∧
    (spillNext n x s).power = s.power ∧ (spillNext n x s).pages = s.pages ∧
    (spillNext n x s).counters = s.counters ∧ (spillNext n x s).dwt = s.dwt ∧ (spillNext n x s).col = s.col ∧
    (spillNext n x s).nets = s.nets ∧ (spillNext n x s).rcv = s.rcv ∧ (spillNext n x s).hif = s.hif := by
  unfold spillNext
  (repeat' split) <;> simp

theorem runAccRead_same (f : AccReadF) (e : Env) {d : Done} (h : runAccRead f e = .ok d) :
    d.s.pending = e.s.pending ∧ d.s.fresh = e.s.fresh ∧ d.s.out = e.s.out ∧ d.s.ticks = e.s.ticks ∧
    d.s.coldResets = e.s.coldResets ∧ d.s.fuse = e.s.fuse ∧ d.s.modl = e.s.modl ∧ d.s.power = e.s.power ∧
    d.s.cores = e.s.cores ∧ d.s.pages = e.s.pages ∧ d.s.counters = e.s.counters ∧ d.s.tiers = e.s.tiers ∧
    d.s.dwt = e.s.dwt ∧ d.s.col = e.s.col ∧ d.s.nets = e.s.nets ∧ d.s.sec = e.s.sec ∧ d.s.rcv = e.s.rcv ∧
    d.s.mgt = e.s.mgt ∧ d.s.hif = e.s.hif := by
  simp only [runAccRead, bind, Except.bind, pure, Except.pure, failIf] at h
  (repeat' split at h) <;> simp_all <;> (try subst h) <;> simp_all

theorem carryAccRead_same (e : Env) {d : Done} (h : carryAccRead e = .ok d) :
    d.s.pending = e.s.pending ∧ d.s.fresh = e.s.fresh ∧ d.s.out = e.s.out ∧ d.s.ticks = e.s.ticks ∧
    d.s.coldResets = e.s.coldResets ∧ d.s.fuse = e.s.fuse ∧ d.s.modl = e.s.modl ∧ d.s.power = e.s.power ∧
    d.s.cores = e.s.cores ∧ d.s.pages = e.s.pages ∧ d.s.counters = e.s.counters ∧ d.s.tiers = e.s.tiers ∧
    d.s.dwt = e.s.dwt ∧ d.s.col = e.s.col ∧ d.s.nets = e.s.nets ∧ d.s.sec = e.s.sec ∧ d.s.rcv = e.s.rcv ∧
    d.s.mgt = e.s.mgt ∧ d.s.hif = e.s.hif := by
  simp only [carryAccRead] at h
  split at h
  · first | exact runAccRead_same _ _ h | exact runAccRead_same _ _ _ h
  · cases h

theorem runAccWrite_same (f : AccWriteF) (e : Env) {d : Done} (h : runAccWrite f e = .ok d) :
    d.s.pending = e.s.pending ∧ d.s.fresh = e.s.fresh ∧ d.s.out = e.s.out ∧ d.s.ticks = e.s.ticks ∧
    d.s.coldResets = e.s.coldResets ∧ d.s.fuse = e.s.fuse ∧ d.s.modl = e.s.modl ∧ d.s.power = e.s.power ∧
    d.s.cores = e.s.cores ∧ d.s.ctxs = e.s.ctxs ∧ d.s.pages = e.s.pages ∧ d.s.counters = e.s.counters ∧
    d.s.tiers = e.s.tiers ∧ d.s.dwt = e.s.dwt ∧ d.s.col = e.s.col ∧ d.s.nets = e.s.nets ∧ d.s.sec = e.s.sec ∧
    d.s.rcv = e.s.rcv ∧ d.s.mgt = e.s.mgt ∧ d.s.hif = e.s.hif := by
  simp only [runAccWrite, bind, Except.bind, pure, Except.pure, failIf] at h
  (repeat' split at h) <;> simp_all <;> (try subst h) <;> simp_all

theorem carryAccWrite_same (e : Env) {d : Done} (h : carryAccWrite e = .ok d) :
    d.s.pending = e.s.pending ∧ d.s.fresh = e.s.fresh ∧ d.s.out = e.s.out ∧ d.s.ticks = e.s.ticks ∧
    d.s.coldResets = e.s.coldResets ∧ d.s.fuse = e.s.fuse ∧ d.s.modl = e.s.modl ∧ d.s.power = e.s.power ∧
    d.s.cores = e.s.cores ∧ d.s.ctxs = e.s.ctxs ∧ d.s.pages = e.s.pages ∧ d.s.counters = e.s.counters ∧
    d.s.tiers = e.s.tiers ∧ d.s.dwt = e.s.dwt ∧ d.s.col = e.s.col ∧ d.s.nets = e.s.nets ∧ d.s.sec = e.s.sec ∧
    d.s.rcv = e.s.rcv ∧ d.s.mgt = e.s.mgt ∧ d.s.hif = e.s.hif := by
  simp only [carryAccWrite] at h
  split at h
  · first | exact runAccWrite_same _ _ h | exact runAccWrite_same _ _ _ h
  · cases h

theorem runRscale_same (f : RscaleF) (e : Env) {d : Done} (h : runRscale f e = .ok d) :
    d.s.pending = e.s.pending ∧ d.s.fresh = e.s.fresh ∧ d.s.out = e.s.out ∧ d.s.ticks = e.s.ticks ∧
    d.s.coldResets = e.s.coldResets ∧ d.s.fuse = e.s.fuse ∧ d.s.modl = e.s.modl ∧ d.s.power = e.s.power ∧
    d.s.cores = e.s.cores ∧ d.s.ctxs = e.s.ctxs ∧ d.s.pages = e.s.pages ∧ d.s.counters = e.s.counters ∧
    d.s.tiers = e.s.tiers ∧ d.s.dwt = e.s.dwt ∧ d.s.col = e.s.col ∧ d.s.nets = e.s.nets ∧ d.s.sec = e.s.sec ∧
    d.s.rcv = e.s.rcv ∧ d.s.mgt = e.s.mgt ∧ d.s.hif = e.s.hif := by
  simp only [runRscale, bind, Except.bind, pure, Except.pure, failIf] at h
  (repeat' split at h) <;> simp_all <;> (try subst h) <;> simp_all

theorem carryRscale_same (e : Env) {d : Done} (h : carryRscale e = .ok d) :
    d.s.pending = e.s.pending ∧ d.s.fresh = e.s.fresh ∧ d.s.out = e.s.out ∧ d.s.ticks = e.s.ticks ∧
    d.s.coldResets = e.s.coldResets ∧ d.s.fuse = e.s.fuse ∧ d.s.modl = e.s.modl ∧ d.s.power = e.s.power ∧
    d.s.cores = e.s.cores ∧ d.s.ctxs = e.s.ctxs ∧ d.s.pages = e.s.pages ∧ d.s.counters = e.s.counters ∧
    d.s.tiers = e.s.tiers ∧ d.s.dwt = e.s.dwt ∧ d.s.col = e.s.col ∧ d.s.nets = e.s.nets ∧ d.s.sec = e.s.sec ∧
    d.s.rcv = e.s.rcv ∧ d.s.mgt = e.s.mgt ∧ d.s.hif = e.s.hif := by
  simp only [carryRscale] at h
  split at h
  · first | exact runRscale_same _ _ h | exact runRscale_same _ _ _ h
  · cases h

theorem runResume_same (f : ResumeF) (e : Env) {d : Done} (h : runResume f e = .ok d) :
    d.s.pending = e.s.pending ∧ d.s.fresh = e.s.fresh ∧ d.s.out = e.s.out ∧ d.s.ticks = e.s.ticks ∧
    d.s.coldResets = e.s.coldResets ∧ d.s.fuse = e.s.fuse ∧ d.s.modl = e.s.modl ∧ d.s.power = e.s.power ∧
    d.s.cores = e.s.cores ∧ d.s.ctxs = e.s.ctxs ∧ d.s.pages = e.s.pages ∧ d.s.counters = e.s.counters ∧
    d.s.tiers = e.s.tiers ∧ d.s.dwt = e.s.dwt ∧ d.s.col = e.s.col ∧ d.s.nets = e.s.nets ∧ d.s.sec = e.s.sec ∧
    d.s.rcv = e.s.rcv ∧ d.s.mgt = e.s.mgt ∧ d.s.hif = e.s.hif := by
  simp only [runResume, bind, Except.bind, pure, Except.pure, failIf] at h
  (repeat' split at h) <;> simp_all <;> (try subst h) <;> simp_all

theorem carryResume_same (e : Env) {d : Done} (h : carryResume e = .ok d) :
    d.s.pending = e.s.pending ∧ d.s.fresh = e.s.fresh ∧ d.s.out = e.s.out ∧ d.s.ticks = e.s.ticks ∧
    d.s.coldResets = e.s.coldResets ∧ d.s.fuse = e.s.fuse ∧ d.s.modl = e.s.modl ∧ d.s.power = e.s.power ∧
    d.s.cores = e.s.cores ∧ d.s.ctxs = e.s.ctxs ∧ d.s.pages = e.s.pages ∧ d.s.counters = e.s.counters ∧
    d.s.tiers = e.s.tiers ∧ d.s.dwt = e.s.dwt ∧ d.s.col = e.s.col ∧ d.s.nets = e.s.nets ∧ d.s.sec = e.s.sec ∧
    d.s.rcv = e.s.rcv ∧ d.s.mgt = e.s.mgt ∧ d.s.hif = e.s.hif := by
  simp only [carryResume] at h
  split at h
  · first | exact runResume_same _ _ h | exact runResume_same _ _ _ h
  · cases h

end Sys2Proof.Machine
end

