-- ==== Sys2Proof/Laws/SameVector.lean ====
section
/-! SUPPORT. What the definitions of Machine/Vector.lean leave alone. -/

namespace Sys2Proof.Machine

@[simp] theorem Env.writeGroup_same (e : Env) (cls : Nat) (lsrc : Bool) (base stride w named : Nat) (vs : List W32) (l : CoreCtx) :
    (Env.writeGroup e cls lsrc base stride w named vs l).s.pending = e.s.pending ∧
    (Env.writeGroup e cls lsrc base stride w named vs l).s.fresh = e.s.fresh ∧
    (Env.writeGroup e cls lsrc base stride w named vs l).s.out = e.s.out ∧
    (Env.writeGroup e cls lsrc base stride w named vs l).s.ticks = e.s.ticks ∧
    (Env.writeGroup e cls lsrc base stride w named vs l).s.coldResets = e.s.coldResets ∧
    (Env.writeGroup e cls lsrc base stride w named vs l).s.fuse = e.s.fuse ∧
    (Env.writeGroup e cls lsrc base stride w named vs l).s.modl = e.s.modl ∧
    (Env.writeGroup e cls lsrc base stride w named vs l).s.power = e.s.power ∧
    (Env.writeGroup e cls lsrc base stride w named vs l).s.cores = e.s.cores ∧
    (Env.writeGroup e cls lsrc base stride w named vs l).s.pages = e.s.pages ∧
    (Env.writeGroup e cls lsrc base stride w named vs l).s.counters = e.s.counters ∧
    (Env.writeGroup e cls lsrc base stride w named vs l).s.tiers = e.s.tiers ∧
    (Env.writeGroup e cls lsrc base stride w named vs l).s.dwt = e.s.dwt ∧
    (Env.writeGroup e cls lsrc base stride w named vs l).s.col = e.s.col ∧
    (Env.writeGroup e cls lsrc base stride w named vs l).s.nets = e.s.nets ∧
    (Env.writeGroup e cls lsrc base stride w named vs l).s.sec = e.s.sec ∧
    (Env.writeGroup e cls lsrc base stride w named vs l).s.rcv = e.s.rcv ∧
    (Env.writeGroup e cls lsrc base stride w named vs l).s.mgt = e.s.mgt ∧
    (Env.writeGroup e cls lsrc base stride w named vs l).s.hif = e.s.hif := by
  simp [Env.writeGroup]

theorem runAlu_same (f : AluF) (e : Env) {d : Done} (h : runAlu f e = .ok d) :
    d.s.pending = e.s.pending ∧ d.s.out = e.s.out ∧ d.s.ticks = e.s.ticks ∧ d.s.coldResets = e.s.coldResets ∧
    d.s.fuse = e.s.fuse ∧ d.s.modl = e.s.modl ∧ d.s.power = e.s.power ∧ d.s.cores = e.s.cores ∧
    d.s.pages = e.s.pages ∧ d.s.counters = e.s.counters ∧ d.s.tiers = e.s.tiers ∧ d.s.dwt = e.s.dwt ∧
    d.s.col = e.s.col ∧ d.s.nets = e.s.nets ∧ d.s.sec = e.s.sec ∧ d.s.rcv = e.s.rcv ∧ d.s.mgt = e.s.mgt ∧
    d.s.hif = e.s.hif := by
  simp only [runAlu, bind, Except.bind, pure, Except.pure, failIf] at h
  (repeat' split at h) <;> simp_all <;> (try subst h) <;> simp_all

theorem carryAlu_same (e : Env) {d : Done} (h : carryAlu e = .ok d) :
    d.s.pending = e.s.pending ∧ d.s.out = e.s.out ∧ d.s.ticks = e.s.ticks ∧ d.s.coldResets = e.s.coldResets ∧
    d.s.fuse = e.s.fuse ∧ d.s.modl = e.s.modl ∧ d.s.power = e.s.power ∧ d.s.cores = e.s.cores ∧
    d.s.pages = e.s.pages ∧ d.s.counters = e.s.counters ∧ d.s.tiers = e.s.tiers ∧ d.s.dwt = e.s.dwt ∧
    d.s.col = e.s.col ∧ d.s.nets = e.s.nets ∧ d.s.sec = e.s.sec ∧ d.s.rcv = e.s.rcv ∧ d.s.mgt = e.s.mgt ∧
    d.s.hif = e.s.hif := by
  simp only [carryAlu] at h
  split at h
  · first | exact runAlu_same _ _ h | exact runAlu_same _ _ _ h
  · cases h

theorem runRed_same (f : RedF) (e : Env) {d : Done} (h : runRed f e = .ok d) :
    d.s.pending = e.s.pending ∧ d.s.fresh = e.s.fresh ∧ d.s.out = e.s.out ∧ d.s.ticks = e.s.ticks ∧
    d.s.coldResets = e.s.coldResets ∧ d.s.fuse = e.s.fuse ∧ d.s.modl = e.s.modl ∧ d.s.power = e.s.power ∧
    d.s.cores = e.s.cores ∧ d.s.ctxs = e.s.ctxs ∧ d.s.pages = e.s.pages ∧ d.s.counters = e.s.counters ∧
    d.s.tiers = e.s.tiers ∧ d.s.dwt = e.s.dwt ∧ d.s.col = e.s.col ∧ d.s.nets = e.s.nets ∧ d.s.sec = e.s.sec ∧
    d.s.rcv = e.s.rcv ∧ d.s.mgt = e.s.mgt ∧ d.s.hif = e.s.hif := by
  simp only [runRed, bind, Except.bind, pure, Except.pure, failIf] at h
  (repeat' split at h) <;> simp_all <;> (try subst h) <;> simp_all

theorem carryRed_same (e : Env) {d : Done} (h : carryRed e = .ok d) :
    d.s.pending = e.s.pending ∧ d.s.fresh = e.s.fresh ∧ d.s.out = e.s.out ∧ d.s.ticks = e.s.ticks ∧
    d.s.coldResets = e.s.coldResets ∧ d.s.fuse = e.s.fuse ∧ d.s.modl = e.s.modl ∧ d.s.power = e.s.power ∧
    d.s.cores = e.s.cores ∧ d.s.ctxs = e.s.ctxs ∧ d.s.pages = e.s.pages ∧ d.s.counters = e.s.counters ∧
    d.s.tiers = e.s.tiers ∧ d.s.dwt = e.s.dwt ∧ d.s.col = e.s.col ∧ d.s.nets = e.s.nets ∧ d.s.sec = e.s.sec ∧
    d.s.rcv = e.s.rcv ∧ d.s.mgt = e.s.mgt ∧ d.s.hif = e.s.hif := by
  simp only [carryRed] at h
  split at h
  · first | exact runRed_same _ _ h | exact runRed_same _ _ _ h
  · cases h

theorem runOsmx_same (f : OsmxF) (e : Env) {d : Done} (h : runOsmx f e = .ok d) :
    d.s.pending = e.s.pending ∧ d.s.fresh = e.s.fresh ∧ d.s.out = e.s.out ∧ d.s.ticks = e.s.ticks ∧
    d.s.coldResets = e.s.coldResets ∧ d.s.fuse = e.s.fuse ∧ d.s.modl = e.s.modl ∧ d.s.power = e.s.power ∧
    d.s.cores = e.s.cores ∧ d.s.pages = e.s.pages ∧ d.s.counters = e.s.counters ∧ d.s.tiers = e.s.tiers ∧
    d.s.dwt = e.s.dwt ∧ d.s.col = e.s.col ∧ d.s.nets = e.s.nets ∧ d.s.sec = e.s.sec ∧ d.s.rcv = e.s.rcv ∧
    d.s.mgt = e.s.mgt ∧ d.s.hif = e.s.hif := by
  simp only [runOsmx, bind, Except.bind, pure, Except.pure, failIf] at h
  (repeat' split at h) <;> simp_all <;> (try subst h) <;> simp_all

theorem carryOsmx_same (e : Env) {d : Done} (h : carryOsmx e = .ok d) :
    d.s.pending = e.s.pending ∧ d.s.fresh = e.s.fresh ∧ d.s.out = e.s.out ∧ d.s.ticks = e.s.ticks ∧
    d.s.coldResets = e.s.coldResets ∧ d.s.fuse = e.s.fuse ∧ d.s.modl = e.s.modl ∧ d.s.power = e.s.power ∧
    d.s.cores = e.s.cores ∧ d.s.pages = e.s.pages ∧ d.s.counters = e.s.counters ∧ d.s.tiers = e.s.tiers ∧
    d.s.dwt = e.s.dwt ∧ d.s.col = e.s.col ∧ d.s.nets = e.s.nets ∧ d.s.sec = e.s.sec ∧ d.s.rcv = e.s.rcv ∧
    d.s.mgt = e.s.mgt ∧ d.s.hif = e.s.hif := by
  simp only [carryOsmx] at h
  split at h
  · first | exact runOsmx_same _ _ h | exact runOsmx_same _ _ _ h
  · cases h

theorem runFill_same (f : FillF) (e : Env) {d : Done} (h : runFill f e = .ok d) :
    d.s.pending = e.s.pending ∧ d.s.fresh = e.s.fresh ∧ d.s.out = e.s.out ∧ d.s.ticks = e.s.ticks ∧
    d.s.coldResets = e.s.coldResets ∧ d.s.fuse = e.s.fuse ∧ d.s.modl = e.s.modl ∧ d.s.power = e.s.power ∧
    d.s.cores = e.s.cores ∧ d.s.ctxs = e.s.ctxs ∧ d.s.pages = e.s.pages ∧ d.s.counters = e.s.counters ∧
    d.s.tiers = e.s.tiers ∧ d.s.dwt = e.s.dwt ∧ d.s.col = e.s.col ∧ d.s.nets = e.s.nets ∧ d.s.sec = e.s.sec ∧
    d.s.rcv = e.s.rcv ∧ d.s.mgt = e.s.mgt ∧ d.s.hif = e.s.hif := by
  simp only [runFill, bind, Except.bind, pure, Except.pure, failIf] at h
  (repeat' split at h) <;> simp_all <;> (try subst h) <;> simp_all

theorem carryFill_same (e : Env) {d : Done} (h : carryFill e = .ok d) :
    d.s.pending = e.s.pending ∧ d.s.fresh = e.s.fresh ∧ d.s.out = e.s.out ∧ d.s.ticks = e.s.ticks ∧
    d.s.coldResets = e.s.coldResets ∧ d.s.fuse = e.s.fuse ∧ d.s.modl = e.s.modl ∧ d.s.power = e.s.power ∧
    d.s.cores = e.s.cores ∧ d.s.ctxs = e.s.ctxs ∧ d.s.pages = e.s.pages ∧ d.s.counters = e.s.counters ∧
    d.s.tiers = e.s.tiers ∧ d.s.dwt = e.s.dwt ∧ d.s.col = e.s.col ∧ d.s.nets = e.s.nets ∧ d.s.sec = e.s.sec ∧
    d.s.rcv = e.s.rcv ∧ d.s.mgt = e.s.mgt ∧ d.s.hif = e.s.hif := by
  simp only [carryFill] at h
  split at h
  · first | exact runFill_same _ _ h | exact runFill_same _ _ _ h
  · cases h

theorem runVdrop_same (f : VdropF) (e : Env) {d : Done} (h : runVdrop f e = .ok d) :
    d.s.pending = e.s.pending ∧ d.s.fresh = e.s.fresh ∧ d.s.out = e.s.out ∧ d.s.ticks = e.s.ticks ∧
    d.s.coldResets = e.s.coldResets ∧ d.s.fuse = e.s.fuse ∧ d.s.modl = e.s.modl ∧ d.s.power = e.s.power ∧
    d.s.cores = e.s.cores ∧ d.s.ctxs = e.s.ctxs ∧ d.s.pages = e.s.pages ∧ d.s.counters = e.s.counters ∧
    d.s.tiers = e.s.tiers ∧ d.s.dwt = e.s.dwt ∧ d.s.col = e.s.col ∧ d.s.nets = e.s.nets ∧ d.s.sec = e.s.sec ∧
    d.s.rcv = e.s.rcv ∧ d.s.mgt = e.s.mgt ∧ d.s.hif = e.s.hif := by
  simp only [runVdrop, bind, Except.bind, pure, Except.pure, failIf] at h
  (repeat' split at h) <;> simp_all <;> (try subst h) <;> simp_all

theorem carryVdrop_same (e : Env) {d : Done} (h : carryVdrop e = .ok d) :
    d.s.pending = e.s.pending ∧ d.s.fresh = e.s.fresh ∧ d.s.out = e.s.out ∧ d.s.ticks = e.s.ticks ∧
    d.s.coldResets = e.s.coldResets ∧ d.s.fuse = e.s.fuse ∧ d.s.modl = e.s.modl ∧ d.s.power = e.s.power ∧
    d.s.cores = e.s.cores ∧ d.s.ctxs = e.s.ctxs ∧ d.s.pages = e.s.pages ∧ d.s.counters = e.s.counters ∧
    d.s.tiers = e.s.tiers ∧ d.s.dwt = e.s.dwt ∧ d.s.col = e.s.col ∧ d.s.nets = e.s.nets ∧ d.s.sec = e.s.sec ∧
    d.s.rcv = e.s.rcv ∧ d.s.mgt = e.s.mgt ∧ d.s.hif = e.s.hif := by
  simp only [carryVdrop] at h
  split at h
  · first | exact runVdrop_same _ _ h | exact runVdrop_same _ _ _ h
  · cases h

end Sys2Proof.Machine
end

