-- ==== Sys2Proof/Laws/SameMoves.lean ====
section
/-! SUPPORT. What the definitions of Machine/Moves.lean leave alone. -/

namespace Sys2Proof.Machine

@[simp] theorem laterRows_same (slot mbase mstride obase ostride n : Nat) (a1 : Nat) (a2 : Nat) (s : State) (a4 : CoreCtx) :
    (laterRows slot mbase mstride obase ostride n a1 a2 s a4).1.pending = s.pending ∧
    (laterRows slot mbase mstride obase ostride n a1 a2 s a4).1.ticks = s.ticks ∧
    (laterRows slot mbase mstride obase ostride n a1 a2 s a4).1.coldResets = s.coldResets ∧
    (laterRows slot mbase mstride obase ostride n a1 a2 s a4).1.fuse = s.fuse ∧
    (laterRows slot mbase mstride obase ostride n a1 a2 s a4).1.power = s.power ∧
    (laterRows slot mbase mstride obase ostride n a1 a2 s a4).1.cores = s.cores ∧
    (laterRows slot mbase mstride obase ostride n a1 a2 s a4).1.ctxs = s.ctxs ∧
    (laterRows slot mbase mstride obase ostride n a1 a2 s a4).1.pages = s.pages ∧
    (laterRows slot mbase mstride obase ostride n a1 a2 s a4).1.counters = s.counters ∧
    (laterRows slot mbase mstride obase ostride n a1 a2 s a4).1.dwt = s.dwt ∧
    (laterRows slot mbase mstride obase ostride n a1 a2 s a4).1.col = s.col ∧
    (laterRows slot mbase mstride obase ostride n a1 a2 s a4).1.nets = s.nets ∧
    (laterRows slot mbase mstride obase ostride n a1 a2 s a4).1.rcv = s.rcv ∧
    (laterRows slot mbase mstride obase ostride n a1 a2 s a4).1.hif = s.hif := by
  induction a1 generalizing a2 s a4 with
  | zero => simp [laterRows]
  | succ n ih =>
    simp only [laterRows]
    (repeat' split) <;> simp [ih]

@[simp] theorem loadRows_same (slot mbase mstride obase ostride n : Nat) (a1 : Nat) (a2 : Nat) (s : State) (a4 : CoreCtx) :
    (loadRows slot mbase mstride obase ostride n a1 a2 s a4).1.pending = s.pending ∧
    (loadRows slot mbase mstride obase ostride n a1 a2 s a4).1.ticks = s.ticks ∧
    (loadRows slot mbase mstride obase ostride n a1 a2 s a4).1.coldResets = s.coldResets ∧
    (loadRows slot mbase mstride obase ostride n a1 a2 s a4).1.fuse = s.fuse ∧
    (loadRows slot mbase mstride obase ostride n a1 a2 s a4).1.power = s.power ∧
    (loadRows slot mbase mstride obase ostride n a1 a2 s a4).1.cores = s.cores ∧
    (loadRows slot mbase mstride obase ostride n a1 a2 s a4).1.ctxs = s.ctxs ∧
    (loadRows slot mbase mstride obase ostride n a1 a2 s a4).1.pages = s.pages ∧
    (loadRows slot mbase mstride obase ostride n a1 a2 s a4).1.counters = s.counters ∧
    (loadRows slot mbase mstride obase ostride n a1 a2 s a4).1.dwt = s.dwt ∧
    (loadRows slot mbase mstride obase ostride n a1 a2 s a4).1.col = s.col ∧
    (loadRows slot mbase mstride obase ostride n a1 a2 s a4).1.nets = s.nets ∧
    (loadRows slot mbase mstride obase ostride n a1 a2 s a4).1.rcv = s.rcv ∧
    (loadRows slot mbase mstride obase ostride n a1 a2 s a4).1.hif = s.hif := by
  induction a1 generalizing a2 s a4 with
  | zero => simp [loadRows]
  | succ n ih =>
    simp only [loadRows]
    (repeat' split) <;> simp [ih]

theorem runLoad_same (f : MvF) (e : Env) {d : Done} (h : runLoad f e = .ok d) :
    d.s.pending = e.s.pending ∧ d.s.ticks = e.s.ticks ∧ d.s.coldResets = e.s.coldResets ∧ d.s.fuse = e.s.fuse ∧
    d.s.power = e.s.power ∧ d.s.cores = e.s.cores ∧ d.s.ctxs = e.s.ctxs ∧ d.s.pages = e.s.pages ∧
    d.s.counters = e.s.counters ∧ d.s.dwt = e.s.dwt ∧ d.s.col = e.s.col ∧ d.s.nets = e.s.nets ∧ d.s.rcv = e.s.rcv ∧
    d.s.hif = e.s.hif := by
  simp only [runLoad, bind, Except.bind, pure, Except.pure, failIf] at h
  (repeat' split at h) <;> simp_all <;> (try subst h) <;> simp_all

theorem carryLoad_same (e : Env) {d : Done} (h : carryLoad e = .ok d) :
    d.s.pending = e.s.pending ∧ d.s.ticks = e.s.ticks ∧ d.s.coldResets = e.s.coldResets ∧ d.s.fuse = e.s.fuse ∧
    d.s.power = e.s.power ∧ d.s.cores = e.s.cores ∧ d.s.ctxs = e.s.ctxs ∧ d.s.pages = e.s.pages ∧
    d.s.counters = e.s.counters ∧ d.s.dwt = e.s.dwt ∧ d.s.col = e.s.col ∧ d.s.nets = e.s.nets ∧ d.s.rcv = e.s.rcv ∧
    d.s.hif = e.s.hif := by
  simp only [carryLoad] at h
  split at h
  · first | exact runLoad_same _ _ h | exact runLoad_same _ _ _ h
  · cases h

@[simp] theorem storeRows_same (slot mbase mstride : Nat) (add : BitVec 2) (a1 : List (List Byte)) (a2 : Nat) (s : State) :
    (storeRows slot mbase mstride add a1 a2 s).1.pending = s.pending ∧
    (storeRows slot mbase mstride add a1 a2 s).1.ticks = s.ticks ∧
    (storeRows slot mbase mstride add a1 a2 s).1.coldResets = s.coldResets ∧
    (storeRows slot mbase mstride add a1 a2 s).1.fuse = s.fuse ∧
    (storeRows slot mbase mstride add a1 a2 s).1.power = s.power ∧
    (storeRows slot mbase mstride add a1 a2 s).1.cores = s.cores ∧
    (storeRows slot mbase mstride add a1 a2 s).1.pages = s.pages ∧
    (storeRows slot mbase mstride add a1 a2 s).1.counters = s.counters ∧
    (storeRows slot mbase mstride add a1 a2 s).1.dwt = s.dwt ∧
    (storeRows slot mbase mstride add a1 a2 s).1.col = s.col ∧
    (storeRows slot mbase mstride add a1 a2 s).1.nets = s.nets ∧
    (storeRows slot mbase mstride add a1 a2 s).1.hif = s.hif := by
  induction a1 generalizing a2 s with
  | nil => simp [storeRows]
  | cons x l ih =>
    simp only [storeRows]
    (repeat' split) <;> simp [ih]

theorem runStore_same (f : MvF) (e : Env) {d : Done} (h : runStore f e = .ok d) :
    d.s.pending = e.s.pending ∧ d.s.ticks = e.s.ticks ∧ d.s.coldResets = e.s.coldResets ∧ d.s.fuse = e.s.fuse ∧
    d.s.power = e.s.power ∧ d.s.cores = e.s.cores ∧ d.s.pages = e.s.pages ∧ d.s.counters = e.s.counters ∧
    d.s.dwt = e.s.dwt ∧ d.s.col = e.s.col ∧ d.s.nets = e.s.nets ∧ d.s.hif = e.s.hif := by
  simp only [runStore, bind, Except.bind, pure, Except.pure, failIf] at h
  (repeat' split at h) <;> simp_all <;> (try subst h) <;> simp_all

theorem carryStore_same (e : Env) {d : Done} (h : carryStore e = .ok d) :
    d.s.pending = e.s.pending ∧ d.s.ticks = e.s.ticks ∧ d.s.coldResets = e.s.coldResets ∧ d.s.fuse = e.s.fuse ∧
    d.s.power = e.s.power ∧ d.s.cores = e.s.cores ∧ d.s.pages = e.s.pages ∧ d.s.counters = e.s.counters ∧
    d.s.dwt = e.s.dwt ∧ d.s.col = e.s.col ∧ d.s.nets = e.s.nets ∧ d.s.hif = e.s.hif := by
  simp only [carryStore] at h
  split at h
  · first | exact runStore_same _ _ h | exact runStore_same _ _ _ h
  · cases h

@[simp] theorem readRowsMem_same (slot base stride n : Nat) (a1 : Nat) (a2 : Nat) (s : State) :
    (readRowsMem slot base stride n a1 a2 s).1.pending = s.pending ∧
    (readRowsMem slot base stride n a1 a2 s).1.ticks = s.ticks ∧
    (readRowsMem slot base stride n a1 a2 s).1.coldResets = s.coldResets ∧
    (readRowsMem slot base stride n a1 a2 s).1.fuse = s.fuse ∧
    (readRowsMem slot base stride n a1 a2 s).1.power = s.power ∧
    (readRowsMem slot base stride n a1 a2 s).1.cores = s.cores ∧
    (readRowsMem slot base stride n a1 a2 s).1.ctxs = s.ctxs ∧
    (readRowsMem slot base stride n a1 a2 s).1.pages = s.pages ∧
    (readRowsMem slot base stride n a1 a2 s).1.counters = s.counters ∧
    (readRowsMem slot base stride n a1 a2 s).1.dwt = s.dwt ∧
    (readRowsMem slot base stride n a1 a2 s).1.col = s.col ∧
    (readRowsMem slot base stride n a1 a2 s).1.nets = s.nets ∧
    (readRowsMem slot base stride n a1 a2 s).1.rcv = s.rcv ∧ (readRowsMem slot base stride n a1 a2 s).1.hif = s.hif := by
  induction a1 generalizing a2 s with
  | zero => simp [readRowsMem]
  | succ n ih =>
    simp only [readRowsMem]
    (repeat' split) <;> simp [ih]

theorem runTload_same (f : TloadF) (e : Env) {d : Done} (h : runTload f e = .ok d) :
    d.s.pending = e.s.pending ∧ d.s.ticks = e.s.ticks ∧ d.s.coldResets = e.s.coldResets ∧ d.s.fuse = e.s.fuse ∧
    d.s.power = e.s.power ∧ d.s.cores = e.s.cores ∧ d.s.ctxs = e.s.ctxs ∧ d.s.pages = e.s.pages ∧
    d.s.counters = e.s.counters ∧ d.s.dwt = e.s.dwt ∧ d.s.col = e.s.col ∧ d.s.nets = e.s.nets ∧ d.s.rcv = e.s.rcv ∧
    d.s.hif = e.s.hif := by
  simp only [runTload, bind, Except.bind, pure, Except.pure, failIf] at h
  (repeat' split at h) <;> simp_all <;> (try subst h) <;> simp_all

theorem carryTload_same (e : Env) {d : Done} (h : carryTload e = .ok d) :
    d.s.pending = e.s.pending ∧ d.s.ticks = e.s.ticks ∧ d.s.coldResets = e.s.coldResets ∧ d.s.fuse = e.s.fuse ∧
    d.s.power = e.s.power ∧ d.s.cores = e.s.cores ∧ d.s.ctxs = e.s.ctxs ∧ d.s.pages = e.s.pages ∧
    d.s.counters = e.s.counters ∧ d.s.dwt = e.s.dwt ∧ d.s.col = e.s.col ∧ d.s.nets = e.s.nets ∧ d.s.rcv = e.s.rcv ∧
    d.s.hif = e.s.hif := by
  simp only [carryTload] at h
  split at h
  · first | exact runTload_same _ _ h | exact runTload_same _ _ _ h
  · cases h

@[simp] theorem gatherRows_same (slot base stride n : Nat) (a1 : List Nat) (s : State) :
    (gatherRows slot base stride n a1 s).1.pending = s.pending ∧
    (gatherRows slot base stride n a1 s).1.ticks = s.ticks ∧
    (gatherRows slot base stride n a1 s).1.coldResets = s.coldResets ∧
    (gatherRows slot base stride n a1 s).1.fuse = s.fuse ∧ (gatherRows slot base stride n a1 s).1.power = s.power ∧
    (gatherRows slot base stride n a1 s).1.cores = s.cores ∧ (gatherRows slot base stride n a1 s).1.ctxs = s.ctxs ∧
    (gatherRows slot base stride n a1 s).1.pages = s.pages ∧
    (gatherRows slot base stride n a1 s).1.counters = s.counters ∧
    (gatherRows slot base stride n a1 s).1.dwt = s.dwt ∧ (gatherRows slot base stride n a1 s).1.col = s.col ∧
    (gatherRows slot base stride n a1 s).1.nets = s.nets ∧ (gatherRows slot base stride n a1 s).1.rcv = s.rcv ∧
    (gatherRows slot base stride n a1 s).1.hif = s.hif := by
  induction a1 generalizing s with
  | nil => simp [gatherRows]
  | cons x l ih =>
    simp only [gatherRows]
    (repeat' split) <;> simp [ih]

theorem runGather_same (f : GatherF) (e : Env) {d : Done} (h : runGather f e = .ok d) :
    d.s.pending = e.s.pending ∧ d.s.ticks = e.s.ticks ∧ d.s.coldResets = e.s.coldResets ∧ d.s.fuse = e.s.fuse ∧
    d.s.power = e.s.power ∧ d.s.cores = e.s.cores ∧ d.s.ctxs = e.s.ctxs ∧ d.s.pages = e.s.pages ∧
    d.s.counters = e.s.counters ∧ d.s.dwt = e.s.dwt ∧ d.s.col = e.s.col ∧ d.s.nets = e.s.nets ∧ d.s.rcv = e.s.rcv ∧
    d.s.hif = e.s.hif := by
  simp only [runGather, bind, Except.bind, pure, Except.pure, failIf] at h
  (repeat' split at h) <;> simp_all <;> (try subst h) <;> simp_all

theorem carryGather_same (e : Env) {d : Done} (h : carryGather e = .ok d) :
    d.s.pending = e.s.pending ∧ d.s.ticks = e.s.ticks ∧ d.s.coldResets = e.s.coldResets ∧ d.s.fuse = e.s.fuse ∧
    d.s.power = e.s.power ∧ d.s.cores = e.s.cores ∧ d.s.ctxs = e.s.ctxs ∧ d.s.pages = e.s.pages ∧
    d.s.counters = e.s.counters ∧ d.s.dwt = e.s.dwt ∧ d.s.col = e.s.col ∧ d.s.nets = e.s.nets ∧ d.s.rcv = e.s.rcv ∧
    d.s.hif = e.s.hif := by
  simp only [carryGather] at h
  split at h
  · first | exact runGather_same _ _ h | exact runGather_same _ _ _ h
  · cases h

@[simp] theorem State.postEntries_same (s : State) (q slot : Nat) (es : List QEnt) :
    (State.postEntries s q slot es).pending = s.pending ∧ (State.postEntries s q slot es).fresh = s.fresh ∧
    (State.postEntries s q slot es).out = s.out ∧ (State.postEntries s q slot es).ticks = s.ticks ∧
    (State.postEntries s q slot es).coldResets = s.coldResets ∧ (State.postEntries s q slot es).fuse = s.fuse ∧
    (State.postEntries s q slot es).modl = s.modl ∧ (State.postEntries s q slot es).power = s.power ∧
    (State.postEntries s q slot es).cores = s.cores ∧ (State.postEntries s q slot es).ctxs = s.ctxs ∧
    (State.postEntries s q slot es).pages = s.pages ∧ (State.postEntries s q slot es).counters = s.counters ∧
    (State.postEntries s q slot es).tiers = s.tiers ∧ (State.postEntries s q slot es).col = s.col ∧
    (State.postEntries s q slot es).nets = s.nets ∧ (State.postEntries s q slot es).sec = s.sec ∧
    (State.postEntries s q slot es).rcv = s.rcv ∧ (State.postEntries s q slot es).mgt = s.mgt ∧
    (State.postEntries s q slot es).hif = s.hif := by
  simp [State.postEntries]

theorem runDwtq_same (f : DwtqF) (e : Env) {d : Done} (h : runDwtq f e = .ok d) :
    d.s.pending = e.s.pending ∧ d.s.ticks = e.s.ticks ∧ d.s.coldResets = e.s.coldResets ∧ d.s.fuse = e.s.fuse ∧
    d.s.power = e.s.power ∧ d.s.cores = e.s.cores ∧ d.s.ctxs = e.s.ctxs ∧ d.s.pages = e.s.pages ∧
    d.s.counters = e.s.counters ∧ d.s.col = e.s.col ∧ d.s.nets = e.s.nets ∧ d.s.rcv = e.s.rcv ∧ d.s.hif = e.s.hif := by
  simp only [runDwtq, bind, Except.bind, pure, Except.pure, failIf] at h
  (repeat' split at h) <;> simp_all <;> (try subst h) <;> simp_all

theorem carryDwtq_same (e : Env) {d : Done} (h : carryDwtq e = .ok d) :
    d.s.pending = e.s.pending ∧ d.s.ticks = e.s.ticks ∧ d.s.coldResets = e.s.coldResets ∧ d.s.fuse = e.s.fuse ∧
    d.s.power = e.s.power ∧ d.s.cores = e.s.cores ∧ d.s.ctxs = e.s.ctxs ∧ d.s.pages = e.s.pages ∧
    d.s.counters = e.s.counters ∧ d.s.col = e.s.col ∧ d.s.nets = e.s.nets ∧ d.s.rcv = e.s.rcv ∧ d.s.hif = e.s.hif := by
  simp only [carryDwtq] at h
  split at h
  · first | exact runDwtq_same _ _ h | exact runDwtq_same _ _ _ h
  · cases h

end Sys2Proof.Machine
end

