-- ==== Sys2Proof/Laws/SameSync.lean ====
section
/-! SUPPORT. What the definitions of Machine/Sync.lean leave alone. -/

namespace Sys2Proof.Machine

theorem runWait_same (f : WaitF) (access : Bool) (e : Env) {d : Done} (h : runWait f access e = .ok d) :
    d.s.pending = e.s.pending ∧ d.s.fresh = e.s.fresh ∧ d.s.out = e.s.out ∧ d.s.ticks = e.s.ticks ∧
    d.s.coldResets = e.s.coldResets ∧ d.s.fuse = e.s.fuse ∧ d.s.modl = e.s.modl ∧ d.s.power = e.s.power ∧
    d.s.cores = e.s.cores ∧ d.s.ctxs = e.s.ctxs ∧ d.s.pages = e.s.pages ∧ d.s.counters = e.s.counters ∧
    d.s.tiers = e.s.tiers ∧ d.s.dwt = e.s.dwt ∧ d.s.col = e.s.col ∧ d.s.nets = e.s.nets ∧ d.s.sec = e.s.sec ∧
    d.s.rcv = e.s.rcv ∧ d.s.mgt = e.s.mgt ∧ d.s.hif = e.s.hif := by
  simp only [runWait, bind, Except.bind, pure, Except.pure, failIf] at h
  (repeat' split at h) <;> simp_all <;> (try subst h) <;> simp_all

theorem carryWait_same (access : Bool) (e : Env) {d : Done} (h : carryWait access e = .ok d) :
    d.s.pending = e.s.pending ∧ d.s.fresh = e.s.fresh ∧ d.s.out = e.s.out ∧ d.s.ticks = e.s.ticks ∧
    d.s.coldResets = e.s.coldResets ∧ d.s.fuse = e.s.fuse ∧ d.s.modl = e.s.modl ∧ d.s.power = e.s.power ∧
    d.s.cores = e.s.cores ∧ d.s.ctxs = e.s.ctxs ∧ d.s.pages = e.s.pages ∧ d.s.counters = e.s.counters ∧
    d.s.tiers = e.s.tiers ∧ d.s.dwt = e.s.dwt ∧ d.s.col = e.s.col ∧ d.s.nets = e.s.nets ∧ d.s.sec = e.s.sec ∧
    d.s.rcv = e.s.rcv ∧ d.s.mgt = e.s.mgt ∧ d.s.hif = e.s.hif := by
  simp only [carryWait] at h
  split at h
  · first | exact runWait_same _ _ h | exact runWait_same _ _ _ h
  · cases h

@[simp] theorem meetWait_same (n : Nat) (x : StrmId) (access dfr : Bool) (s : State) :
    (meetWait n x access dfr s).pending = s.pending ∧ (meetWait n x access dfr s).fresh = s.fresh ∧
    (meetWait n x access dfr s).out = s.out ∧ (meetWait n x access dfr s).ticks = s.ticks ∧
    (meetWait n x access dfr s).coldResets = s.coldResets ∧ (meetWait n x access dfr s).fuse = s.fuse ∧
    (meetWait n x access dfr s).modl = s.modl ∧ (meetWait n x access dfr s).power = s.power ∧
    (meetWait n x access dfr s).ctxs = s.ctxs ∧ (meetWait n x access dfr s).pages = s.pages ∧
    (meetWait n x access dfr s).counters = s.counters ∧ (meetWait n x access dfr s).tiers = s.tiers ∧
    (meetWait n x access dfr s).dwt = s.dwt ∧ (meetWait n x access dfr s).col = s.col ∧
    (meetWait n x access dfr s).nets = s.nets ∧ (meetWait n x access dfr s).sec = s.sec ∧
    (meetWait n x access dfr s).rcv = s.rcv ∧ (meetWait n x access dfr s).mgt = s.mgt ∧
    (meetWait n x access dfr s).hif = s.hif := by
  unfold meetWait
  (repeat' split) <;> simp

theorem runInc_same (f : IncF) (access : Bool) (e : Env) {d : Done} (h : runInc f access e = .ok d) :
    d.s.pending = e.s.pending ∧ d.s.fresh = e.s.fresh ∧ d.s.out = e.s.out ∧ d.s.ticks = e.s.ticks ∧
    d.s.coldResets = e.s.coldResets ∧ d.s.fuse = e.s.fuse ∧ d.s.modl = e.s.modl ∧ d.s.power = e.s.power ∧
    d.s.cores = e.s.cores ∧ d.s.ctxs = e.s.ctxs ∧ d.s.pages = e.s.pages ∧ d.s.counters = e.s.counters ∧
    d.s.tiers = e.s.tiers ∧ d.s.dwt = e.s.dwt ∧ d.s.col = e.s.col ∧ d.s.nets = e.s.nets ∧ d.s.sec = e.s.sec ∧
    d.s.rcv = e.s.rcv ∧ d.s.mgt = e.s.mgt ∧ d.s.hif = e.s.hif := by
  simp only [runInc, bind, Except.bind, pure, Except.pure, failIf] at h
  (repeat' split at h) <;> simp_all <;> (try subst h) <;> simp_all

theorem carryInc_same (access : Bool) (e : Env) {d : Done} (h : carryInc access e = .ok d) :
    d.s.pending = e.s.pending ∧ d.s.fresh = e.s.fresh ∧ d.s.out = e.s.out ∧ d.s.ticks = e.s.ticks ∧
    d.s.coldResets = e.s.coldResets ∧ d.s.fuse = e.s.fuse ∧ d.s.modl = e.s.modl ∧ d.s.power = e.s.power ∧
    d.s.cores = e.s.cores ∧ d.s.ctxs = e.s.ctxs ∧ d.s.pages = e.s.pages ∧ d.s.counters = e.s.counters ∧
    d.s.tiers = e.s.tiers ∧ d.s.dwt = e.s.dwt ∧ d.s.col = e.s.col ∧ d.s.nets = e.s.nets ∧ d.s.sec = e.s.sec ∧
    d.s.rcv = e.s.rcv ∧ d.s.mgt = e.s.mgt ∧ d.s.hif = e.s.hif := by
  simp only [carryInc] at h
  split at h
  · first | exact runInc_same _ _ h | exact runInc_same _ _ _ h
  · cases h

theorem carryToken_same (access : Bool) (e : Env) {d : Done} (h : carryToken access e = .ok d) :
    d.s.pending = e.s.pending ∧ d.s.fresh = e.s.fresh ∧ d.s.out = e.s.out ∧ d.s.ticks = e.s.ticks ∧
    d.s.coldResets = e.s.coldResets ∧ d.s.fuse = e.s.fuse ∧ d.s.modl = e.s.modl ∧ d.s.power = e.s.power ∧
    d.s.cores = e.s.cores ∧ d.s.ctxs = e.s.ctxs ∧ d.s.pages = e.s.pages ∧ d.s.counters = e.s.counters ∧
    d.s.tiers = e.s.tiers ∧ d.s.dwt = e.s.dwt ∧ d.s.col = e.s.col ∧ d.s.nets = e.s.nets ∧ d.s.sec = e.s.sec ∧
    d.s.rcv = e.s.rcv ∧ d.s.mgt = e.s.mgt ∧ d.s.hif = e.s.hif := by
  simp only [carryToken, bind, Except.bind, pure, Except.pure, failIf] at h
  (repeat' split at h) <;> simp_all <;> (try subst h) <;> simp_all

@[simp] theorem sequencer_same (n : Nat) (x : StrmId) (want : KwOp → Bool) (run : State → Site → KwOp → SeqOut) (s : State) :
    (sequencer n x want run s).pending = s.pending ∧ (sequencer n x want run s).ticks = s.ticks ∧
    (sequencer n x want run s).coldResets = s.coldResets ∧ (sequencer n x want run s).fuse = s.fuse ∧
    (sequencer n x want run s).power = s.power ∧ (sequencer n x want run s).pages = s.pages ∧
    (sequencer n x want run s).counters = s.counters ∧ (sequencer n x want run s).dwt = s.dwt ∧
    (sequencer n x want run s).col = s.col ∧ (sequencer n x want run s).nets = s.nets ∧
    (sequencer n x want run s).rcv = s.rcv ∧ (sequencer n x want run s).hif = s.hif := by
  unfold sequencer
  (repeat' split) <;> simp

@[simp] theorem sclr_same (n : Nat) (x : StrmId) (s : State) :
    (sclr n x s).pending = s.pending ∧ (sclr n x s).ticks = s.ticks ∧ (sclr n x s).coldResets = s.coldResets ∧
    (sclr n x s).fuse = s.fuse ∧ (sclr n x s).power = s.power ∧ (sclr n x s).pages = s.pages ∧
    (sclr n x s).counters = s.counters ∧ (sclr n x s).dwt = s.dwt ∧ (sclr n x s).col = s.col ∧
    (sclr n x s).nets = s.nets ∧ (sclr n x s).rcv = s.rcv ∧ (sclr n x s).hif = s.hif := by
  unfold sclr
  (repeat' split) <;> simp

theorem runLbegin_same (f : LayerF) (e : Env) {d : Done} (h : runLbegin f e = .ok d) :
    d.s.pending = e.s.pending ∧ d.s.fresh = e.s.fresh ∧ d.s.out = e.s.out ∧ d.s.ticks = e.s.ticks ∧
    d.s.coldResets = e.s.coldResets ∧ d.s.fuse = e.s.fuse ∧ d.s.modl = e.s.modl ∧ d.s.power = e.s.power ∧
    d.s.cores = e.s.cores ∧ d.s.pages = e.s.pages ∧ d.s.counters = e.s.counters ∧ d.s.tiers = e.s.tiers ∧
    d.s.dwt = e.s.dwt ∧ d.s.col = e.s.col ∧ d.s.nets = e.s.nets ∧ d.s.sec = e.s.sec ∧ d.s.rcv = e.s.rcv ∧
    d.s.mgt = e.s.mgt ∧ d.s.hif = e.s.hif := by
  simp only [runLbegin, bind, Except.bind, pure, Except.pure, failIf] at h
  (repeat' split at h) <;> simp_all <;> (try subst h) <;> simp_all

theorem carryLbegin_same (e : Env) {d : Done} (h : carryLbegin e = .ok d) :
    d.s.pending = e.s.pending ∧ d.s.fresh = e.s.fresh ∧ d.s.out = e.s.out ∧ d.s.ticks = e.s.ticks ∧
    d.s.coldResets = e.s.coldResets ∧ d.s.fuse = e.s.fuse ∧ d.s.modl = e.s.modl ∧ d.s.power = e.s.power ∧
    d.s.cores = e.s.cores ∧ d.s.pages = e.s.pages ∧ d.s.counters = e.s.counters ∧ d.s.tiers = e.s.tiers ∧
    d.s.dwt = e.s.dwt ∧ d.s.col = e.s.col ∧ d.s.nets = e.s.nets ∧ d.s.sec = e.s.sec ∧ d.s.rcv = e.s.rcv ∧
    d.s.mgt = e.s.mgt ∧ d.s.hif = e.s.hif := by
  simp only [carryLbegin] at h
  split at h
  · first | exact runLbegin_same _ _ h | exact runLbegin_same _ _ _ h
  · cases h

theorem carryLend_same (e : Env) {d : Done} (h : carryLend e = .ok d) :
    d.s.pending = e.s.pending ∧ d.s.fresh = e.s.fresh ∧ d.s.out = e.s.out ∧ d.s.ticks = e.s.ticks ∧
    d.s.coldResets = e.s.coldResets ∧ d.s.fuse = e.s.fuse ∧ d.s.modl = e.s.modl ∧ d.s.power = e.s.power ∧
    d.s.cores = e.s.cores ∧ d.s.ctxs = e.s.ctxs ∧ d.s.pages = e.s.pages ∧ d.s.counters = e.s.counters ∧
    d.s.tiers = e.s.tiers ∧ d.s.dwt = e.s.dwt ∧ d.s.col = e.s.col ∧ d.s.nets = e.s.nets ∧ d.s.sec = e.s.sec ∧
    d.s.rcv = e.s.rcv ∧ d.s.mgt = e.s.mgt ∧ d.s.hif = e.s.hif := by
  simp only [carryLend, bind, Except.bind, pure, Except.pure, failIf] at h
  (repeat' split at h) <;> simp_all <;> (try subst h) <;> simp_all

theorem carrySrcid_same (e : Env) {d : Done} (h : carrySrcid e = .ok d) :
    d.s.pending = e.s.pending ∧ d.s.fresh = e.s.fresh ∧ d.s.out = e.s.out ∧ d.s.ticks = e.s.ticks ∧
    d.s.coldResets = e.s.coldResets ∧ d.s.fuse = e.s.fuse ∧ d.s.modl = e.s.modl ∧ d.s.power = e.s.power ∧
    d.s.cores = e.s.cores ∧ d.s.ctxs = e.s.ctxs ∧ d.s.pages = e.s.pages ∧ d.s.counters = e.s.counters ∧
    d.s.tiers = e.s.tiers ∧ d.s.dwt = e.s.dwt ∧ d.s.col = e.s.col ∧ d.s.nets = e.s.nets ∧ d.s.sec = e.s.sec ∧
    d.s.rcv = e.s.rcv ∧ d.s.mgt = e.s.mgt ∧ d.s.hif = e.s.hif := by
  simp only [carrySrcid, bind, Except.bind, pure, Except.pure, failIf] at h
  (repeat' split at h) <;> simp_all <;> (try subst h) <;> simp_all

@[simp] theorem releaseHeld_same (base : Nat) (a1 : List (Nat × Nat)) (s : State) :
    (releaseHeld base a1 s).pending = s.pending ∧ (releaseHeld base a1 s).ticks = s.ticks ∧
    (releaseHeld base a1 s).coldResets = s.coldResets ∧ (releaseHeld base a1 s).fuse = s.fuse ∧
    (releaseHeld base a1 s).power = s.power ∧ (releaseHeld base a1 s).cores = s.cores ∧
    (releaseHeld base a1 s).ctxs = s.ctxs ∧ (releaseHeld base a1 s).pages = s.pages ∧
    (releaseHeld base a1 s).tiers = s.tiers ∧ (releaseHeld base a1 s).dwt = s.dwt ∧
    (releaseHeld base a1 s).col = s.col ∧ (releaseHeld base a1 s).nets = s.nets ∧
    (releaseHeld base a1 s).sec = s.sec ∧ (releaseHeld base a1 s).rcv = s.rcv ∧ (releaseHeld base a1 s).hif = s.hif := by
  induction a1 generalizing s with
  | nil => simp [releaseHeld]
  | cons x l ih =>
    simp only [releaseHeld]
    (repeat' split) <;> simp [ih]

@[simp] theorem commitBracket_same (n : Nat) (x : StrmId) (i : Site) (b : Bracket) (idx : Nat) (s : State) :
    (commitBracket n x i b idx s).pending = s.pending ∧ (commitBracket n x i b idx s).ticks = s.ticks ∧
    (commitBracket n x i b idx s).coldResets = s.coldResets ∧ (commitBracket n x i b idx s).fuse = s.fuse ∧
    (commitBracket n x i b idx s).power = s.power ∧ (commitBracket n x i b idx s).ctxs = s.ctxs ∧
    (commitBracket n x i b idx s).pages = s.pages ∧ (commitBracket n x i b idx s).tiers = s.tiers ∧
    (commitBracket n x i b idx s).dwt = s.dwt ∧ (commitBracket n x i b idx s).col = s.col ∧
    (commitBracket n x i b idx s).nets = s.nets ∧ (commitBracket n x i b idx s).sec = s.sec ∧
    (commitBracket n x i b idx s).rcv = s.rcv ∧ (commitBracket n x i b idx s).hif = s.hif := by
  simp [commitBracket]

@[simp] theorem instructionComplete_same (n : Nat) (x : StrmId) (k : Nat) (s : State) :
    (instructionComplete n x k s).pending = s.pending ∧ (instructionComplete n x k s).ticks = s.ticks ∧
    (instructionComplete n x k s).coldResets = s.coldResets ∧ (instructionComplete n x k s).fuse = s.fuse ∧
    (instructionComplete n x k s).power = s.power ∧ (instructionComplete n x k s).ctxs = s.ctxs ∧
    (instructionComplete n x k s).pages = s.pages ∧ (instructionComplete n x k s).tiers = s.tiers ∧
    (instructionComplete n x k s).dwt = s.dwt ∧ (instructionComplete n x k s).col = s.col ∧
    (instructionComplete n x k s).nets = s.nets ∧ (instructionComplete n x k s).sec = s.sec ∧
    (instructionComplete n x k s).rcv = s.rcv ∧ (instructionComplete n x k s).hif = s.hif := by
  unfold instructionComplete
  (repeat' split) <;> simp

@[simp] theorem novaEvent_same (n : Nat) (x : StrmId) (s : State) :
    (novaEvent n x s).pending = s.pending ∧ (novaEvent n x s).ticks = s.ticks ∧
    (novaEvent n x s).coldResets = s.coldResets ∧ (novaEvent n x s).fuse = s.fuse ∧
    (novaEvent n x s).power = s.power ∧ (novaEvent n x s).pages = s.pages ∧
    (novaEvent n x s).counters = s.counters ∧ (novaEvent n x s).tiers = s.tiers ∧ (novaEvent n x s).dwt = s.dwt ∧
    (novaEvent n x s).col = s.col ∧ (novaEvent n x s).nets = s.nets ∧ (novaEvent n x s).sec = s.sec ∧
    (novaEvent n x s).rcv = s.rcv ∧ (novaEvent n x s).hif = s.hif := by
  unfold novaEvent
  (repeat' split) <;> simp

@[simp] theorem novaRerun_same (n : Nat) (x : StrmId) (s : State) :
    (novaRerun n x s).pending = s.pending ∧ (novaRerun n x s).fresh = s.fresh ∧ (novaRerun n x s).out = s.out ∧
    (novaRerun n x s).ticks = s.ticks ∧ (novaRerun n x s).coldResets = s.coldResets ∧
    (novaRerun n x s).fuse = s.fuse ∧ (novaRerun n x s).modl = s.modl ∧ (novaRerun n x s).power = s.power ∧
    (novaRerun n x s).ctxs = s.ctxs ∧ (novaRerun n x s).pages = s.pages ∧ (novaRerun n x s).counters = s.counters ∧
    (novaRerun n x s).tiers = s.tiers ∧ (novaRerun n x s).dwt = s.dwt ∧ (novaRerun n x s).col = s.col ∧
    (novaRerun n x s).nets = s.nets ∧ (novaRerun n x s).sec = s.sec ∧ (novaRerun n x s).rcv = s.rcv ∧
    (novaRerun n x s).mgt = s.mgt ∧ (novaRerun n x s).hif = s.hif := by
  unfold novaRerun
  (repeat' split) <;> simp

@[simp] theorem ageExpiry_same (n : Nat) (k : Cand) (u : CoreUnit) (s : State) :
    (ageExpiry n k u s).pending = s.pending ∧ (ageExpiry n k u s).fresh = s.fresh ∧
    (ageExpiry n k u s).out = s.out ∧ (ageExpiry n k u s).ticks = s.ticks ∧
    (ageExpiry n k u s).coldResets = s.coldResets ∧ (ageExpiry n k u s).fuse = s.fuse ∧
    (ageExpiry n k u s).modl = s.modl ∧ (ageExpiry n k u s).power = s.power ∧ (ageExpiry n k u s).ctxs = s.ctxs ∧
    (ageExpiry n k u s).pages = s.pages ∧ (ageExpiry n k u s).counters = s.counters ∧
    (ageExpiry n k u s).tiers = s.tiers ∧ (ageExpiry n k u s).dwt = s.dwt ∧ (ageExpiry n k u s).col = s.col ∧
    (ageExpiry n k u s).nets = s.nets ∧ (ageExpiry n k u s).sec = s.sec ∧ (ageExpiry n k u s).rcv = s.rcv ∧
    (ageExpiry n k u s).mgt = s.mgt ∧ (ageExpiry n k u s).hif = s.hif := by
  simp [ageExpiry]

end Sys2Proof.Machine
end

