-- ==== Sys2Proof/Laws/Table.lean ====
section
/-! SUPPORT. Laws of the sparse tables: a read after a write, and the canonical form, which every writing
operation keeps. -/

namespace Sys2Proof.Machine

variable {α : Type}

@[simp] theorem Tbl.get_put_same (d : α) (t : Tbl α) (k : Nat) (v : α) : Tbl.get d (Tbl.put t k v) k = v := by
  induction t with
  | nil => simp [Tbl.put, Tbl.get]
  | cons p t ih =>
    obtain ⟨a, w⟩ := p
    simp only [Tbl.put]
    split
    · simp [Tbl.get]
    · split
      · simp_all [Tbl.get]
      · have : a ≠ k := by omega
        simp [Tbl.get, this, ih]

theorem Tbl.get_put_other (d : α) (t : Tbl α) {k j : Nat} (v : α) (h : j ≠ k) :
    Tbl.get d (Tbl.put t k v) j = Tbl.get d t j := by
  induction t with
  | nil => simp [Tbl.put, Tbl.get, Ne.symm h]
  | cons p t ih =>
    obtain ⟨a, w⟩ := p
    simp only [Tbl.put]
    split
    · simp [Tbl.get, Ne.symm h]
    · split
      · subst_vars; simp [Tbl.get, Ne.symm h]
      · simp only [Tbl.get, ih]

theorem Tbl.get_put (d : α) (t : Tbl α) (k j : Nat) (v : α) :
    Tbl.get d (Tbl.put t k v) j = if j = k then v else Tbl.get d t j := by
  split
  · subst_vars; simp
  · exact Tbl.get_put_other d t v ‹_›

@[simp] theorem Tbl.look_put_same (t : Tbl α) (k : Nat) (v : α) : Tbl.look (Tbl.put t k v) k = some v := by
  induction t with
  | nil => simp [Tbl.put, Tbl.look]
  | cons p t ih =>
    obtain ⟨a, w⟩ := p
    simp only [Tbl.put]
    split
    · simp [Tbl.look]
    · split
      · simp_all [Tbl.look]
      · have : a ≠ k := by omega
        simp [Tbl.look, this, ih]

theorem Tbl.look_put_other (t : Tbl α) {k j : Nat} (v : α) (h : j ≠ k) :
    Tbl.look (Tbl.put t k v) j = Tbl.look t j := by
  induction t with
  | nil => simp [Tbl.put, Tbl.look, Ne.symm h]
  | cons p t ih =>
    obtain ⟨a, w⟩ := p
    simp only [Tbl.put]
    split
    · simp [Tbl.look, Ne.symm h]
    · split
      · subst_vars; simp [Tbl.look, Ne.symm h]
      · simp only [Tbl.look, ih]

theorem Tbl.get_drop_other (d : α) (t : Tbl α) {k j : Nat} (h : j ≠ k) :
    Tbl.get d (Tbl.drop t k) j = Tbl.get d t j := by
  induction t with
  | nil => rfl
  | cons p t ih =>
    obtain ⟨a, w⟩ := p
    simp only [Tbl.drop]
    split
    · subst_vars; simp [Tbl.get, Ne.symm h]
    · simp only [Tbl.get, ih]

/-- Writing one key leaves every other key alone. -/
theorem Tbl.get_write_other [DecidableEq α] (d : α) (t : Tbl α) {k j : Nat} (v : α) (h : j ≠ k) :
    Tbl.get d (Tbl.write d t k v) j = Tbl.get d t j := by
  unfold Tbl.write
  split
  · exact Tbl.get_drop_other d t h
  · exact Tbl.get_put_other d t v h

/-! Keys above a bound -/

theorem Tbl.above_iff (k : Nat) (t : Tbl α) : Tbl.above k t = true ↔ ∀ p ∈ t, k < p.1 := by
  simp [Tbl.above]

theorem Tbl.above_mono {k j : Nat} {t : Tbl α} (h : k ≤ j) (ha : Tbl.above j t = true) : Tbl.above k t = true := by
  rw [Tbl.above_iff] at *
  exact fun p hp => lt_of_le_of_lt h (ha p hp)

theorem Tbl.get_above (d : α) {k : Nat} {t : Tbl α} (h : Tbl.above k t = true) : Tbl.get d t k = d := by
  induction t with
  | nil => rfl
  | cons p t ih =>
    obtain ⟨a, w⟩ := p
    rw [Tbl.above_iff] at h
    have h1 : k < a := h (a, w) (by simp)
    have h2 : Tbl.above k t = true := (Tbl.above_iff k t).2 fun q hq => h q (by simp [hq])
    have h3 : a ≠ k := by omega
    simp [Tbl.get, h3, ih h2]

theorem Tbl.mem_put {t : Tbl α} {k : Nat} {v : α} {p : Nat × α} (h : p ∈ Tbl.put t k v) : p = (k, v) ∨ p ∈ t := by
  induction t with
  | nil => simp [Tbl.put] at h; exact Or.inl h
  | cons q t ih =>
    obtain ⟨a, w⟩ := q
    simp only [Tbl.put] at h
    split at h
    · simp at h; rcases h with h | h | h <;> simp [h]
    · split at h
      · simp at h; rcases h with h | h <;> simp_all
      · simp at h
        rcases h with h | h
        · simp [h]
        · rcases ih h with h | h <;> simp [h]

theorem Tbl.mem_drop {t : Tbl α} {k : Nat} {p : Nat × α} (h : p ∈ Tbl.drop t k) : p ∈ t := by
  induction t with
  | nil => simp [Tbl.drop] at h
  | cons q t ih =>
    obtain ⟨a, w⟩ := q
    simp only [Tbl.drop] at h
    split at h
    · simp [h]
    · simp at h
      rcases h with h | h
      · simp [h]
      · simp [ih h]

theorem Tbl.rising_put {t : Tbl α} (k : Nat) (v : α) (h : Tbl.rising t = true) : Tbl.rising (Tbl.put t k v) = true := by
  induction t with
  | nil => simp [Tbl.put, Tbl.rising, Tbl.above]
  | cons q t ih =>
    obtain ⟨a, w⟩ := q
    simp only [Tbl.rising, Bool.and_eq_true] at h
    simp only [Tbl.put]
    split
    · rename_i hka
      simp only [Tbl.rising, Bool.and_eq_true, h, and_self, and_true]
      rw [Tbl.above_iff]
      intro p hp
      simp at hp
      rcases hp with hp | hp
      · simp [hp, hka]
      · have := (Tbl.above_iff a t).1 h.1 p hp
        omega
    · split
      · simp [Tbl.rising, h]
      · simp only [Tbl.rising, Bool.and_eq_true, ih h.2, and_true]
        rw [Tbl.above_iff]
        intro p hp
        rcases Tbl.mem_put hp with hp | hp
        · subst hp; simp; omega
        · exact (Tbl.above_iff a t).1 h.1 p hp

theorem Tbl.rising_drop {t : Tbl α} (k : Nat) (h : Tbl.rising t = true) : Tbl.rising (Tbl.drop t k) = true := by
  induction t with
  | nil => rfl
  | cons q t ih =>
    obtain ⟨a, w⟩ := q
    simp only [Tbl.rising, Bool.and_eq_true] at h
    simp only [Tbl.drop]
    split
    · exact h.2
    · simp only [Tbl.rising, Bool.and_eq_true, ih h.2, and_true]
      rw [Tbl.above_iff]
      exact fun p hp => (Tbl.above_iff a t).1 h.1 p (Tbl.mem_drop hp)

theorem Tbl.rising_filter {t : Tbl α} (f : Nat × α → Bool) (h : Tbl.rising t = true) :
    Tbl.rising (t.filter f) = true := by
  induction t with
  | nil => rfl
  | cons q t ih =>
    simp only [Tbl.rising, Bool.and_eq_true] at h
    simp only [List.filter]
    split
    · simp only [Tbl.rising, Bool.and_eq_true, ih h.2, and_true]
      rw [Tbl.above_iff]
      exact fun p hp => (Tbl.above_iff _ t).1 h.1 p (List.mem_of_mem_filter hp)
    · exact ih h.2

theorem Tbl.get_drop_same (d : α) {t : Tbl α} (k : Nat) (h : Tbl.rising t = true) :
    Tbl.get d (Tbl.drop t k) k = d := by
  induction t with
  | nil => rfl
  | cons q t ih =>
    obtain ⟨a, w⟩ := q
    simp only [Tbl.rising, Bool.and_eq_true] at h
    simp only [Tbl.drop]
    split
    · subst_vars; exact Tbl.get_above d h.1
    · simp only [Tbl.get]
      split
      · contradiction
      · exact ih h.2

/-! The canonical form -/

theorem Tbl.wf_iff [DecidableEq α] (d : α) (t : Tbl α) :
    Tbl.wf d t = true ↔ Tbl.rising t = true ∧ ∀ p ∈ t, p.2 ≠ d := by
  simp [Tbl.wf]

@[simp] theorem Tbl.wf_nil [DecidableEq α] (d : α) : Tbl.wf d ([] : Tbl α) = true := rfl

/-- A write keeps the canonical form. -/
theorem Tbl.wf_write [DecidableEq α] {d : α} {t : Tbl α} (k : Nat) (v : α) (h : Tbl.wf d t = true) :
    Tbl.wf d (Tbl.write d t k v) = true := by
  rw [Tbl.wf_iff] at *
  unfold Tbl.write
  split
  · exact ⟨Tbl.rising_drop k h.1, fun p hp => h.2 p (Tbl.mem_drop hp)⟩
  · refine ⟨Tbl.rising_put k v h.1, fun p hp => ?_⟩
    rcases Tbl.mem_put hp with hp | hp
    · subst hp; assumption
    · exact h.2 p hp

theorem Tbl.wf_writeList [DecidableEq α] {d : α} (vs : List α) {t : Tbl α} (k : Nat) (h : Tbl.wf d t = true) :
    Tbl.wf d (Tbl.writeList d t k vs) = true := by
  induction vs generalizing t k with
  | nil => exact h
  | cons v vs ih => exact ih (k + 1) (Tbl.wf_write k v h)

theorem Tbl.wf_filter [DecidableEq α] {d : α} {t : Tbl α} (f : Nat × α → Bool) (h : Tbl.wf d t = true) :
    Tbl.wf d (t.filter f) = true := by
  rw [Tbl.wf_iff] at *
  exact ⟨Tbl.rising_filter f h.1, fun p hp => h.2 p (List.mem_of_mem_filter hp)⟩

theorem Tbl.wf_clear [DecidableEq α] {d : α} {t : Tbl α} (k n : Nat) (h : Tbl.wf d t = true) :
    Tbl.wf d (Tbl.clear t k n) = true := Tbl.wf_filter _ h

theorem Tbl.wf_foldl_write [DecidableEq α] {β : Type} {d : α} (f : β → Nat) (g : β → α) (l : List β) {t : Tbl α}
    (h : Tbl.wf d t = true) : Tbl.wf d (l.foldl (fun m p => Tbl.write d m (f p) (g p)) t) = true := by
  induction l generalizing t with
  | nil => exact h
  | cons b l ih => exact ih (Tbl.wf_write _ _ h)

/-- A read after a write of the same key, in a table in canonical form. -/
theorem Tbl.get_write_same [DecidableEq α] {d : α} {t : Tbl α} (k : Nat) (v : α) (h : Tbl.wf d t = true) :
    Tbl.get d (Tbl.write d t k v) k = v := by
  unfold Tbl.write
  split
  · subst_vars; exact Tbl.get_drop_same _ k ((Tbl.wf_iff _ t).1 h).1
  · simp

/-- What a run of writes leaves outside the written keys. -/
theorem Tbl.get_writeList_other [DecidableEq α] (d : α) (vs : List α) (t : Tbl α) {k j : Nat}
    (h : j < k ∨ k + vs.length ≤ j) : Tbl.get d (Tbl.writeList d t k vs) j = Tbl.get d t j := by
  induction vs generalizing t k with
  | nil => rfl
  | cons v vs ih =>
    simp only [List.length_cons] at h
    simp only [Tbl.writeList]
    rw [ih (t := Tbl.write d t k v) (k := k + 1) (by omega)]
    exact Tbl.get_write_other d t v (by omega)

/-- What a run of writes leaves at a written key. -/
theorem Tbl.get_writeList_same [DecidableEq α] {d : α} (vs : List α) {t : Tbl α} {k : Nat} (i : Nat)
    (h : Tbl.wf d t = true) (hi : i < vs.length) : Tbl.get d (Tbl.writeList d t k vs) (k + i) = vs[i] := by
  induction vs generalizing t k i with
  | nil => simp at hi
  | cons v vs ih =>
    simp only [Tbl.writeList]
    cases i with
    | zero =>
      rw [Tbl.get_writeList_other d vs (Tbl.write d t k v) (k := k + 1) (by omega)]
      simp only [Nat.add_zero, List.getElem_cons_zero]
      exact Tbl.get_write_same k v h
    | succ i =>
      have := ih (t := Tbl.write d t k v) (k := k + 1) i (Tbl.wf_write k v h) (by simpa using hi)
      simpa [Nat.add_assoc, Nat.add_comm 1 i] using this

end Sys2Proof.Machine
end

