-- ==== Sys2Proof/Laws/State.lean ====
section
/-! SUPPORT. What reading one piece of the state gives after another, or the same, was written. -/

namespace Sys2Proof.Machine

@[simp] theorem State.core_setCore_self (s : State) (k : Nat) (v : Core) : (s.setCore k v).core k = v := Tbl.get_put_same _ _ _ _

theorem State.core_setCore_ne (s : State) {k j : Nat} (v : Core) (h : j ≠ k) : (s.setCore k v).core j = s.core j :=
  Tbl.get_put_other _ _ _ h

@[simp] theorem State.ctx_setCtx_self (s : State) (k : Nat) (v : Ctx) : (s.setCtx k v).ctx k = v := Tbl.get_put_same _ _ _ _

theorem State.ctx_setCtx_ne (s : State) {k j : Nat} (v : Ctx) (h : j ≠ k) : (s.setCtx k v).ctx j = s.ctx j :=
  Tbl.get_put_other _ _ _ h

@[simp] theorem State.page_setPage_self (s : State) (k : Nat) (v : Page) : (s.setPage k v).page k = v := Tbl.get_put_same _ _ _ _

theorem State.page_setPage_ne (s : State) {k j : Nat} (v : Page) (h : j ≠ k) : (s.setPage k v).page j = s.page j :=
  Tbl.get_put_other _ _ _ h

@[simp] theorem State.net_setNet_self (s : State) (k : Nat) (v : Net) : (s.setNet k v).net k = v := Tbl.get_put_same _ _ _ _

theorem State.net_setNet_ne (s : State) {k j : Nat} (v : Net) (h : j ≠ k) : (s.setNet k v).net j = s.net j :=
  Tbl.get_put_other _ _ _ h

@[simp] theorem State.win_setWin_self (s : State) (k : Nat) (v : DwtWin) : (s.setWin k v).win k = v := Tbl.get_put_same _ _ _ _

theorem State.win_setWin_ne (s : State) {k j : Nat} (v : DwtWin) (h : j ≠ k) : (s.setWin k v).win j = s.win j :=
  Tbl.get_put_other _ _ _ h

@[simp] theorem State.conn_setConn_self (s : State) (k : Nat) (v : DwtConn) : (s.setConn k v).conn k = v := Tbl.get_put_same _ _ _ _

theorem State.conn_setConn_ne (s : State) {k j : Nat} (v : DwtConn) (h : j ≠ k) : (s.setConn k v).conn j = s.conn j :=
  Tbl.get_put_other _ _ _ h

@[simp] theorem State.queue_setQueue_self (s : State) (k : Nat) (v : DwtQueue) : (s.setQueue k v).queue k = v := Tbl.get_put_same _ _ _ _

theorem State.queue_setQueue_ne (s : State) {k j : Nat} (v : DwtQueue) (h : j ≠ k) : (s.setQueue k v).queue j = s.queue j :=
  Tbl.get_put_other _ _ _ h

@[simp] theorem State.encl_setEncl_self (s : State) (k : Nat) (v : Encl) : (s.setEncl k v).encl k = v := Tbl.get_put_same _ _ _ _

theorem State.encl_setEncl_ne (s : State) {k j : Nat} (v : Encl) (h : j ≠ k) : (s.setEncl k v).encl j = s.encl j :=
  Tbl.get_put_other _ _ _ h

@[simp] theorem State.ctx_setCore (s : State) (k j : Nat) (v : Core) : (s.setCore k v).ctx j = s.ctx j := rfl
@[simp] theorem State.page_setCore (s : State) (k j : Nat) (v : Core) : (s.setCore k v).page j = s.page j := rfl
@[simp] theorem State.net_setCore (s : State) (k j : Nat) (v : Core) : (s.setCore k v).net j = s.net j := rfl
@[simp] theorem State.win_setCore (s : State) (k j : Nat) (v : Core) : (s.setCore k v).win j = s.win j := rfl
@[simp] theorem State.conn_setCore (s : State) (k j : Nat) (v : Core) : (s.setCore k v).conn j = s.conn j := rfl
@[simp] theorem State.queue_setCore (s : State) (k j : Nat) (v : Core) : (s.setCore k v).queue j = s.queue j := rfl
@[simp] theorem State.encl_setCore (s : State) (k j : Nat) (v : Core) : (s.setCore k v).encl j = s.encl j := rfl
@[simp] theorem State.core_setCtx (s : State) (k j : Nat) (v : Ctx) : (s.setCtx k v).core j = s.core j := rfl
@[simp] theorem State.page_setCtx (s : State) (k j : Nat) (v : Ctx) : (s.setCtx k v).page j = s.page j := rfl
@[simp] theorem State.net_setCtx (s : State) (k j : Nat) (v : Ctx) : (s.setCtx k v).net j = s.net j := rfl
@[simp] theorem State.win_setCtx (s : State) (k j : Nat) (v : Ctx) : (s.setCtx k v).win j = s.win j := rfl
@[simp] theorem State.conn_setCtx (s : State) (k j : Nat) (v : Ctx) : (s.setCtx k v).conn j = s.conn j := rfl
@[simp] theorem State.queue_setCtx (s : State) (k j : Nat) (v : Ctx) : (s.setCtx k v).queue j = s.queue j := rfl
@[simp] theorem State.encl_setCtx (s : State) (k j : Nat) (v : Ctx) : (s.setCtx k v).encl j = s.encl j := rfl
@[simp] theorem State.core_setPage (s : State) (k j : Nat) (v : Page) : (s.setPage k v).core j = s.core j := rfl
@[simp] theorem State.ctx_setPage (s : State) (k j : Nat) (v : Page) : (s.setPage k v).ctx j = s.ctx j := rfl
@[simp] theorem State.net_setPage (s : State) (k j : Nat) (v : Page) : (s.setPage k v).net j = s.net j := rfl
@[simp] theorem State.win_setPage (s : State) (k j : Nat) (v : Page) : (s.setPage k v).win j = s.win j := rfl
@[simp] theorem State.conn_setPage (s : State) (k j : Nat) (v : Page) : (s.setPage k v).conn j = s.conn j := rfl
@[simp] theorem State.queue_setPage (s : State) (k j : Nat) (v : Page) : (s.setPage k v).queue j = s.queue j := rfl
@[simp] theorem State.encl_setPage (s : State) (k j : Nat) (v : Page) : (s.setPage k v).encl j = s.encl j := rfl
@[simp] theorem State.core_setNet (s : State) (k j : Nat) (v : Net) : (s.setNet k v).core j = s.core j := rfl
@[simp] theorem State.ctx_setNet (s : State) (k j : Nat) (v : Net) : (s.setNet k v).ctx j = s.ctx j := rfl
@[simp] theorem State.page_setNet (s : State) (k j : Nat) (v : Net) : (s.setNet k v).page j = s.page j := rfl
@[simp] theorem State.win_setNet (s : State) (k j : Nat) (v : Net) : (s.setNet k v).win j = s.win j := rfl
@[simp] theorem State.conn_setNet (s : State) (k j : Nat) (v : Net) : (s.setNet k v).conn j = s.conn j := rfl
@[simp] theorem State.queue_setNet (s : State) (k j : Nat) (v : Net) : (s.setNet k v).queue j = s.queue j := rfl
@[simp] theorem State.encl_setNet (s : State) (k j : Nat) (v : Net) : (s.setNet k v).encl j = s.encl j := rfl
@[simp] theorem State.core_setWin (s : State) (k j : Nat) (v : DwtWin) : (s.setWin k v).core j = s.core j := rfl
@[simp] theorem State.ctx_setWin (s : State) (k j : Nat) (v : DwtWin) : (s.setWin k v).ctx j = s.ctx j := rfl
@[simp] theorem State.page_setWin (s : State) (k j : Nat) (v : DwtWin) : (s.setWin k v).page j = s.page j := rfl
@[simp] theorem State.net_setWin (s : State) (k j : Nat) (v : DwtWin) : (s.setWin k v).net j = s.net j := rfl
@[simp] theorem State.conn_setWin (s : State) (k j : Nat) (v : DwtWin) : (s.setWin k v).conn j = s.conn j := rfl
@[simp] theorem State.queue_setWin (s : State) (k j : Nat) (v : DwtWin) : (s.setWin k v).queue j = s.queue j := rfl
@[simp] theorem State.encl_setWin (s : State) (k j : Nat) (v : DwtWin) : (s.setWin k v).encl j = s.encl j := rfl
@[simp] theorem State.core_setConn (s : State) (k j : Nat) (v : DwtConn) : (s.setConn k v).core j = s.core j := rfl
@[simp] theorem State.ctx_setConn (s : State) (k j : Nat) (v : DwtConn) : (s.setConn k v).ctx j = s.ctx j := rfl
@[simp] theorem State.page_setConn (s : State) (k j : Nat) (v : DwtConn) : (s.setConn k v).page j = s.page j := rfl
@[simp] theorem State.net_setConn (s : State) (k j : Nat) (v : DwtConn) : (s.setConn k v).net j = s.net j := rfl
@[simp] theorem State.win_setConn (s : State) (k j : Nat) (v : DwtConn) : (s.setConn k v).win j = s.win j := rfl
@[simp] theorem State.queue_setConn (s : State) (k j : Nat) (v : DwtConn) : (s.setConn k v).queue j = s.queue j := rfl
@[simp] theorem State.encl_setConn (s : State) (k j : Nat) (v : DwtConn) : (s.setConn k v).encl j = s.encl j := rfl
@[simp] theorem State.core_setQueue (s : State) (k j : Nat) (v : DwtQueue) : (s.setQueue k v).core j = s.core j := rfl
@[simp] theorem State.ctx_setQueue (s : State) (k j : Nat) (v : DwtQueue) : (s.setQueue k v).ctx j = s.ctx j := rfl
@[simp] theorem State.page_setQueue (s : State) (k j : Nat) (v : DwtQueue) : (s.setQueue k v).page j = s.page j := rfl
@[simp] theorem State.net_setQueue (s : State) (k j : Nat) (v : DwtQueue) : (s.setQueue k v).net j = s.net j := rfl
@[simp] theorem State.win_setQueue (s : State) (k j : Nat) (v : DwtQueue) : (s.setQueue k v).win j = s.win j := rfl
@[simp] theorem State.conn_setQueue (s : State) (k j : Nat) (v : DwtQueue) : (s.setQueue k v).conn j = s.conn j := rfl
@[simp] theorem State.encl_setQueue (s : State) (k j : Nat) (v : DwtQueue) : (s.setQueue k v).encl j = s.encl j := rfl
@[simp] theorem State.core_setEncl (s : State) (k j : Nat) (v : Encl) : (s.setEncl k v).core j = s.core j := rfl
@[simp] theorem State.ctx_setEncl (s : State) (k j : Nat) (v : Encl) : (s.setEncl k v).ctx j = s.ctx j := rfl
@[simp] theorem State.page_setEncl (s : State) (k j : Nat) (v : Encl) : (s.setEncl k v).page j = s.page j := rfl
@[simp] theorem State.net_setEncl (s : State) (k j : Nat) (v : Encl) : (s.setEncl k v).net j = s.net j := rfl
@[simp] theorem State.win_setEncl (s : State) (k j : Nat) (v : Encl) : (s.setEncl k v).win j = s.win j := rfl
@[simp] theorem State.conn_setEncl (s : State) (k j : Nat) (v : Encl) : (s.setEncl k v).conn j = s.conn j := rfl
@[simp] theorem State.queue_setEncl (s : State) (k j : Nat) (v : Encl) : (s.setEncl k v).queue j = s.queue j := rfl

@[simp] theorem State.emit_out (s : State) (x : Output) : (s.emit x).out = s.out ++ [x] := rfl
@[simp] theorem State.core_emit (s : State) (x : Output) (j : Nat) : (s.emit x).core j = s.core j := rfl
@[simp] theorem State.core_drawn (s : State) (n j : Nat) : (s.drawn n).core j = s.core j := rfl
@[simp] theorem State.ctx_emit (s : State) (x : Output) (j : Nat) : (s.emit x).ctx j = s.ctx j := rfl
@[simp] theorem State.ctx_drawn (s : State) (n j : Nat) : (s.drawn n).ctx j = s.ctx j := rfl
@[simp] theorem State.page_emit (s : State) (x : Output) (j : Nat) : (s.emit x).page j = s.page j := rfl
@[simp] theorem State.page_drawn (s : State) (n j : Nat) : (s.drawn n).page j = s.page j := rfl
@[simp] theorem State.net_emit (s : State) (x : Output) (j : Nat) : (s.emit x).net j = s.net j := rfl
@[simp] theorem State.net_drawn (s : State) (n j : Nat) : (s.drawn n).net j = s.net j := rfl
@[simp] theorem State.win_emit (s : State) (x : Output) (j : Nat) : (s.emit x).win j = s.win j := rfl
@[simp] theorem State.win_drawn (s : State) (n j : Nat) : (s.drawn n).win j = s.win j := rfl
@[simp] theorem State.conn_emit (s : State) (x : Output) (j : Nat) : (s.emit x).conn j = s.conn j := rfl
@[simp] theorem State.conn_drawn (s : State) (n j : Nat) : (s.drawn n).conn j = s.conn j := rfl
@[simp] theorem State.queue_emit (s : State) (x : Output) (j : Nat) : (s.emit x).queue j = s.queue j := rfl
@[simp] theorem State.queue_drawn (s : State) (n j : Nat) : (s.drawn n).queue j = s.queue j := rfl
@[simp] theorem State.encl_emit (s : State) (x : Output) (j : Nat) : (s.emit x).encl j = s.encl j := rfl
@[simp] theorem State.encl_drawn (s : State) (n j : Nat) : (s.drawn n).encl j = s.encl j := rfl

end Sys2Proof.Machine
end

