-- ==== Sys2Proof/Laws/Issue.lean ====
section
/-! SUPPORT. What dispatching and issuing an instruction comes to, once its checks have passed. -/

namespace Sys2Proof.Machine

@[simp] theorem CoreCtx.strm_setStrm_self (l : CoreCtx) (x : StrmId) (t : Stream) : (l.setStrm x t).strm x = t := by
  cases x <;> rfl

theorem CoreCtx.strm_setStrm_ne (l : CoreCtx) {x y : StrmId} (t : Stream) (h : y ≠ x) : (l.setStrm x t).strm y = l.strm y := by
  cases x <;> cases y <;> first | rfl | exact absurd rfl h

@[simp] theorem CoreCtx.setStrm_setStrm (l : CoreCtx) (x : StrmId) (t u : Stream) : (l.setStrm x t).setStrm x u = l.setStrm x u := by
  cases x <;> rfl

@[simp] theorem State.settle_core (s t : State) (n : Nat) : (s.settle t).core n = t.core n := by
  simp [State.core]

@[simp] theorem State.settle_ctx (s t : State) (n : Nat) : (s.settle t).ctx n = t.ctx n := by
  simp [State.ctx]

@[simp] theorem State.setStream_core_self (s : State) (n : Nat) (x : StrmId) (t : Stream) :
    (s.setStream n x t).core n = { s.core n with live := (s.core n).live.setStrm x t } := by
  simp [State.setStream]

theorem decodeKw_read {x : StrmId} {w : BitVec 128} {k : Kw} (h : decodeKw x w = .ok k) : KwOp.read w = some k.op := by
  unfold decodeKw at h
  split at h
  · cases h
  split at h
  · cases h
  rename_i o ho
  dsimp only at h
  (repeat' split at h) <;> first | (cases h; done) | (injection h with h; subst h; exact ho)

/-- Dispatch at a PC whose word decodes to a wanted instruction with a place in its queues. -/
theorem dispatch_at (n : Nat) (x : StrmId) (want : KwOp → Bool) (s : State) {i : Site} {k : Kw} (h : AtPc s n x i k)
    (hw : want k.op = true) (hr : i.t.room k = true) (hb : i.t.beginWaits k.op = false) :
    dispatch n x want s = s.setStream n x ((i.t.enqueue i.ctx k).seqEffect i.t k.op) := by
  obtain ⟨w, h1, h2⟩ := h.word
  have h3 : fetchDecode s i x want = .ok (some k) := by
    simp [fetchDecode, h.trained, h1, decodeKw_read h2, hw, h2, Except.map]
  unfold dispatch
  simp only [h.here, h.free, Bool.not_true, Bool.false_eq_true, if_false, h3, hr, hb, Bool.or_self]

/-- Issue of an instruction whose checks pass. -/
theorem kwemin_issues (n : CoreId) (x : StrmId) (dfr access : Bool) (want : KwOp → Bool)
    (run : Env → Except FaultCode Done) (s : State) {i : Site} {p : Pend} {d : Done}
    (h : MayIssue s n.val x dfr access i p) (hw : want p.kw.op = true)
    (hl : cleanLanes (issueEnv s n.val x dfr access i p) = true) (hr : run (issueEnv s n.val x dfr access i p) = .ok d) :
    kwemin n x (phaseOf dfr) access want run s
      = s.settle (finish (issueEnv s n.val x dfr access i p) access (noted d (issueEnv s n.val x dfr access i p))) := by
  have key : issue n.val x dfr access want run s
      = finish (issueEnv s n.val x dfr access i p) access (noted d (issueEnv s n.val x dfr access i p)) := by
    unfold issue
    simp only [h.here, h.clear, h.head, hw, h.ready, h.grant, Bool.not_true, Bool.and_self, Bool.false_eq_true, if_false]
    have hc : ((issueEnv s n.val x dfr access i p).met.any fun y => y.ue && decide (y.mem = .vec)) = false := by
      simpa [cleanLanes] using hl
    unfold issueEnv at hr hc ⊢
    simp only [hr, hc, Bool.false_eq_true, if_false]
    rfl
  unfold kwemin
  cases dfr with
  | false => simp only [phaseOf, Bool.false_eq_true, if_false]; rw [key]
  | true => simp only [phaseOf, if_true, h.onB rfl]; rw [← h.onB rfl, key]

theorem logIf_keeps (b : Bool) (u : State) (v : LogEnt) (n : Nat) :
    (if b = true then u.logEv v else u).core n = u.core n ∧ (if b = true then u.logEv v else u).ctxs = u.ctxs
      ∧ (if b = true then u.logEv v else u).tiers = u.tiers ∧ (if b = true then u.logEv v else u).counters = u.counters := by
  cases b <;> simp [State.core]

/-- What a plain issue leaves: the instruction's results, with its entry in flight. -/
theorem finish_plain (e : Env) (access : Bool) (d : Done) (h : goesOn e d.num) (hf : d.fault = none) (h1 : d.fin = false)
    (h2 : d.inc = none) (h3 : d.wait = none) :
    ((finish e access d).core e.n).live = d.l.setStrm e.x
        { (d.l.strm e.x).take e.p access with flights := ((d.l.strm e.x).take e.p access).flights ++ [d.fl] }
      ∧ (finish e access d).ctxs = d.s.ctxs ∧ (finish e access d).tiers = d.s.tiers
      ∧ (finish e access d).counters = d.s.counters := by
  obtain ⟨g1, g2, g3⟩ := h
  have hn : (if e.p.inBr then (match d.num.classOvf with | some c => novaFor e.ctx e c | none => none) else none) = none := by
    split
    · next hb =>
      cases hc : d.num.classOvf with
      | none => rfl
      | some c => exact g3 hb c hc
    · rfl
  unfold finish
  dsimp only
  simp only [hf, Option.isSome_none, Bool.false_eq_true, if_false, g1, g2, h1, h2, h3]
  split
  · next v hv => exact nomatch (hn.symm.trans hv)
  · refine ⟨?_, (logIf_keeps _ _ _ e.n).2.1, (logIf_keeps _ _ _ e.n).2.2.1, (logIf_keeps _ _ _ e.n).2.2.2⟩
    rw [State.setStream_core_self, (logIf_keeps _ _ _ _).1, State.core_setCore_self]
    simp only [CoreCtx.setStrm_setStrm, CoreCtx.strm_setStrm_self]

theorem site_facts {s : State} {n : Nat} {x : StrmId} {i : Site} (h : site s n x = some i) :
    i.core = s.core n ∧ i.t = (s.core n).live.strm x ∧ i.ctx = s.ctx i.slot ∧ (s.core n).resident = some i.slot := by
  unfold site at h
  dsimp only at h
  split at h
  · cases h
  · cases h
  · split at h
    · injection h with h; subst h; simp_all
    · cases h

theorem clearAge_core (s : State) (n : Nat) (x : StrmId) (dfr access : Bool) (e : Env) (m : Nat) :
    ((clearAge s n x dfr access e).core m).live = (s.core m).live ∧ ((clearAge s n x dfr access e).core m).key = (s.core m).key := by
  unfold clearAge
  dsimp only
  split
  · by_cases h : m = n
    · subst h; simp
    · rw [State.core_setCore_ne _ _ h]; simp
  · simp

theorem errCore_live (s : State) (n k m : Nat) : ((s.errCore n k).core m).live = (s.core m).live := by
  unfold State.errCore
  dsimp only
  split
  · rfl
  · show (((s.setCore n _).logEv _).core m).live = _
    have h : ∀ (u : State) (v : LogEnt), (u.logEv v).core m = u.core m := fun u v => by simp [State.core]
    rw [h]
    by_cases h : m = n
    · subst h; simp
    · rw [State.core_setCore_ne _ _ h]

theorem noteSram_live (s : State) (n base : Nat) (met : List SramErr) (m : Nat) :
    ((s.noteSram n base met).core m).live = (s.core m).live := by
  have key : ∀ c : Core, c.live = (s.core n).live → ((s.setCore n c).core m).live = (s.core m).live := by
    intro c hc
    by_cases h : m = n
    · subst h; rw [State.core_setCore_self, hc]
    · rw [State.core_setCore_ne _ _ h]
  unfold State.noteSram
  dsimp only
  (repeat' split) <;> (try simp only [errCore_live]) <;> exact key _ rfl

theorem CoreCtx.setStrm_keeps (l : CoreCtx) (x : StrmId) (u : Stream) : (l.setStrm x u).acc = l.acc ∧ (l.setStrm x u).spill = l.spill
   ∧ (l.setStrm x u).os = l.os ∧ (l.setStrm x u).vregs = l.vregs ∧ (l.setStrm x u).tiles = l.tiles := by
  cases x <;> simp [CoreCtx.setStrm]

end Sys2Proof.Machine

namespace Sys2Proof

open Sys2Proof.Machine

/-- What an issuing instruction sees is the state, but for its candidate's age. -/
theorem Issues.sees {s : State} {n : Nat} {x : StrmId} {dfr access : Bool} {o : KwOp} {e : Env}
    (h : Issues s n x dfr access o e) :
    e.n = n ∧ e.x = x ∧ e.p.kw.op = o ∧ e.live = (s.core n).live ∧ e.ctx = s.ctx e.slot
      ∧ (s.core n).resident = some e.slot ∧ e.s.tiers = s.tiers ∧ e.s.counters = s.counters ∧ e.s.ctxs = s.ctxs
      ∧ e.s.dwt = s.dwt ∧ e.s.pages = s.pages ∧ e.s.fresh = s.fresh ∧ e.s.sec = s.sec ∧ e.s.col = s.col
      ∧ (e.s.core n).live = (s.core n).live := by
  obtain ⟨i, p, hm, ho, rfl, -⟩ := h
  obtain ⟨h1, h2, h3, h4⟩ := site_facts hm.here
  refine ⟨rfl, rfl, ho, ?_, h3, h4, ?_, ?_, ?_, ?_, ?_, ?_, ?_, ?_, ?_⟩
  · simp [issueEnv, envOf, h1]
  all_goals first
    | exact (clearAge_core _ _ _ _ _ _ _).1
    | (unfold issueEnv clearAge; dsimp only; split <;> rfl)

theorem Issues.next {s : State} {n : CoreId} {x : StrmId} {dfr access : Bool} {o : KwOp} {e : Env}
    (h : Issues s n.val x dfr access o e) {want : KwOp → Bool} {run : Env → Except FaultCode Done} {d : Done}
    (hw : want o = true) (hr : run e = .ok d) :
    kwemin n x (phaseOf dfr) access want run s = s.settle (finish e access (noted d e)) := by
  obtain ⟨i, p, hm, ho, rfl, hl⟩ := h
  exact kwemin_issues n x dfr access want run s hm (by rw [ho]; exact hw) hl hr

theorem Issues.kept {s : State} {n : Nat} {x : StrmId} {dfr access : Bool} {o : KwOp} {e : Env}
    (h : Issues s n x dfr access o e) : tiersKept s e.s := by
  obtain ⟨i, p, hm, ho, rfl, -⟩ := h
  unfold tiersKept dataKept issueEnv clearAge
  dsimp only
  split <;> exact ⟨rfl, rfl, rfl, rfl, rfl, rfl, rfl, rfl⟩

theorem tiersKept.trans {s t u : State} (h : tiersKept s t) (k : tiersKept t u) : tiersKept s u := by
  obtain ⟨h1, h2, h3, h4, h5, h6, h7, h8⟩ := h
  obtain ⟨k1, k2, k3, k4, k5, k6, k7, k8⟩ := k
  exact ⟨k1.trans h1, k2.trans h2, k3.trans h3, k4.trans h4, k5.trans h5, k6.trans h6, k7.trans h7, k8.trans h8⟩

theorem noted_kept (d : Done) (e : Env) : tiersKept d.s (noted d e).s ∧ (noted d e).s.ctxs = d.s.ctxs := by
  unfold tiersKept dataKept noted; simp

/-- What the next state holds after a plain issue. -/
theorem Issues.plain {s : State} {n : CoreId} {x : StrmId} {dfr access : Bool} {o : KwOp} {e : Env}
    (h : Issues s n.val x dfr access o e) {want : KwOp → Bool} {run : Env → Except FaultCode Done} {d : Done}
    (hr : run e = .ok d) (hw : want o = true) (hg : goesOn e d.num) (hf : d.fault = none) (h1 : d.fin = false)
    (h2 : d.inc = none) (h3 : d.wait = none) (h4 : d.fl.idx = e.p.idx) (h5 : d.fl.onA = access) :
    ∃ t, kwemin n x (phaseOf dfr) access want run s = t ∧ inFlight e access t ∧ tiersKept d.s t ∧ t.ctxs = d.s.ctxs
      ∧ (coreOf t n).acc = d.l.acc ∧ (coreOf t n).spill = d.l.spill ∧ (coreOf t n).os = d.l.os
      ∧ (coreOf t n).vregs = d.l.vregs ∧ (coreOf t n).tiles = d.l.tiles
      ∧ ((coreOf t n).strm x).spills = (d.l.strm x).spills := by
  obtain ⟨k1, k2, k3, k4⟩ := finish_plain e access (noted d e) hg hf h1 h2 h3
  obtain ⟨e1, e2, -⟩ := h.sees
  subst e2
  have hc : coreOf (s.settle (finish e access (noted d e))) n = ((finish e access (noted d e)).core e.n).live := by
    unfold coreOf
    rw [State.settle_core, e1]
  rw [k1] at hc
  obtain ⟨m1, m2⟩ := noted_kept d e
  have keep := CoreCtx.setStrm_keeps
  refine ⟨_, h.next hw hr, ?_, ?_, ?_, ?_, ?_, ?_, ?_, ?_, ?_⟩
  · refine ⟨d.fl, ?_, h4, h5⟩
    rw [e1]
    change d.fl ∈ ((coreOf _ n).strm e.x).flights
    rw [hc, CoreCtx.strm_setStrm_self]
    simp [noted]
  · refine m1.trans ⟨?_, ?_, ?_, ?_, ?_, ?_, ?_, ?_⟩ <;> simp [k3, k4]
  · simp [k2, m2]
  · rw [hc]; exact (keep _ _ _).1
  · rw [hc]; exact (keep _ _ _).2.1
  · rw [hc]; exact (keep _ _ _).2.2.1
  · rw [hc]; exact (keep _ _ _).2.2.2.1
  · rw [hc]; exact (keep _ _ _).2.2.2.2
  · rw [hc, CoreCtx.strm_setStrm_self]
    rfl

end Sys2Proof
end

