-- ==== Sys2Proof/Laws/Memory.lean ====
section
/-! SUPPORT. Memory keeps its canonical form through every write, and what a write of bytes leaves. -/

namespace Sys2Proof.Machine

variable {β γ : Type}

@[simp] theorem Memory.wf_nil : Memory.wf [] = true := rfl

@[simp] theorem Memory.wf_write {m : Tbl Byte} (a : Nat) (b : Byte) (h : Memory.wf m = true) :
    Memory.wf (Tbl.write 0#8 m a b) = true := Tbl.wf_write a b h

@[simp] theorem Memory.wf_writeList {m : Tbl Byte} (a : Nat) (bs : List Byte) (h : Memory.wf m = true) :
    Memory.wf (Tbl.writeList 0#8 m a bs) = true := Tbl.wf_writeList bs a h

@[simp] theorem Memory.wf_clear {m : Tbl Byte} (a n : Nat) (h : Memory.wf m = true) :
    Memory.wf (Tbl.clear m a n) = true := Tbl.wf_clear a n h

@[simp] theorem Memory.wf_filter {m : Tbl Byte} (f : Nat × Byte → Bool) (h : Memory.wf m = true) :
    Memory.wf (m.filter f) = true := Tbl.wf_filter f h

@[simp] theorem Memory.wf_foldl {m : Tbl Byte} (f : β → Nat) (g : β → Byte) (l : List β) (h : Memory.wf m = true) :
    Memory.wf (l.foldl (fun m p => Tbl.write 0#8 m (f p) (g p)) m) = true := Tbl.wf_foldl_write f g l h

/-- A fold keeps the canonical form where every step of it does. -/
@[simp] theorem Memory.wf_fold (f : State → β → State) (l : List β) (s : State) (hs : Memory.wf s.tiers.mem = true)
    (h : ∀ s x, Memory.wf s.tiers.mem = true → Memory.wf (f s x).tiers.mem = true) :
    Memory.wf (l.foldl f s).tiers.mem = true := by
  induction l generalizing s with
  | nil => exact hs
  | cons x l ih => exact ih (f s x) (h s x hs)

@[simp] theorem Memory.wf_fold_fst (f : State × γ → β → State × γ) (l : List β) (r : State × γ)
    (hs : Memory.wf r.1.tiers.mem = true)
    (h : ∀ r x, Memory.wf r.1.tiers.mem = true → Memory.wf (f r x).1.tiers.mem = true) :
    Memory.wf (l.foldl f r).1.tiers.mem = true := by
  induction l generalizing r with
  | nil => exact hs
  | cons x l ih => exact ih (f r x) (h r x hs)

@[simp] theorem Memory.wf_foldr_fst (f : β → State × γ → State × γ) (l : List β) (r : State × γ)
    (hs : Memory.wf r.1.tiers.mem = true)
    (h : ∀ x r, Memory.wf r.1.tiers.mem = true → Memory.wf (f x r).1.tiers.mem = true) :
    Memory.wf (l.foldr f r).1.tiers.mem = true := by
  induction l with
  | nil => exact hs
  | cons x l ih => exact h x _ ih

@[simp] theorem Memory.wf_ite (c : Prop) [Decidable c] (a b : State) (ha : Memory.wf a.tiers.mem = true)
    (hb : Memory.wf b.tiers.mem = true) : Memory.wf (if c then a else b).tiers.mem = true := by
  split <;> assumption

end Sys2Proof.Machine
end

