-- ==== Sys2Proof/Laws/MemOps.lean ====
section
/-! SUPPORT. Memory keeps its canonical form through the definitions of Machine/Ops.lean. -/

namespace Sys2Proof.Machine

@[simp] theorem State.errTier_mem (s : State) (k : Nat)
    (hm : Memory.wf s.tiers.mem = true) :
    Memory.wf (State.errTier s k).tiers.mem = true := by
  simp (maxDischargeDepth := 12) [-State.ite_tiers, State.errTier, hm]

@[simp] theorem State.setPte_mem (s : State) (slot vp : Nat) (p : Pte)
    (hm : Memory.wf s.tiers.mem = true) :
    Memory.wf (State.setPte s slot vp p).tiers.mem = true := by
  simp (maxDischargeDepth := 12) [-State.ite_tiers, State.setPte, hm]

@[simp] theorem State.leaveFrame_mem (s : State) (f : Nat)
    (hm : Memory.wf s.tiers.mem = true) :
    Memory.wf (State.leaveFrame s f).tiers.mem = true := by
  unfold State.leaveFrame
  (repeat' split) <;> simp (maxDischargeDepth := 12) [-State.ite_tiers, hm]

@[simp] theorem State.dropPte_mem (s : State) (slot vp : Nat) (hm : Memory.wf s.tiers.mem = true) :
    Memory.wf (State.dropPte s slot vp).tiers.mem = true := by
  unfold State.dropPte
  dsimp only
  split
  · exact Memory.wf_fold _ _ _ hm fun u f hu => State.leaveFrame_mem u f hu
  · exact hm

@[simp] theorem State.zeroFrame_mem (s : State) (frame : Nat)
    (hm : Memory.wf s.tiers.mem = true) :
    Memory.wf (State.zeroFrame s frame).tiers.mem = true := by
  simp (maxDischargeDepth := 12) [-State.ite_tiers, State.zeroFrame, hm]

@[simp] theorem State.fillFrame_mem (s : State) (frame : Nat) (bs : List (Nat × Byte))
    (hm : Memory.wf s.tiers.mem = true) :
    Memory.wf (State.fillFrame s frame bs).tiers.mem = true := by
  simp (maxDischargeDepth := 12) [-State.ite_tiers, State.fillFrame, hm]

@[simp] theorem State.copyFrame_mem (s : State) (src dst : Nat)
    (hm : Memory.wf s.tiers.mem = true) :
    Memory.wf (State.copyFrame s src dst).tiers.mem = true := by
  simp (maxDischargeDepth := 12) [-State.ite_tiers, State.copyFrame, hm]

@[simp] theorem State.physWrite_mem (s : State) (a : Nat) (bs : List Byte)
    (hm : Memory.wf s.tiers.mem = true) :
    Memory.wf (State.physWrite s a bs).tiers.mem = true := by
  simp (maxDischargeDepth := 12) [-State.ite_tiers, State.physWrite, hm]

@[simp] theorem State.addCe_mem (s : State) (t : Tier) (n : Nat)
    (hm : Memory.wf s.tiers.mem = true) :
    Memory.wf (State.addCe s t n).tiers.mem = true := by
  simp (maxDischargeDepth := 12) [-State.ite_tiers, State.addCe, hm]

@[simp] theorem State.noteHit_mem (s : State) (line : Nat) (ue : Bool)
    (hm : Memory.wf s.tiers.mem = true) :
    Memory.wf (State.noteHit s line ue).tiers.mem = true := by
  simp (maxDischargeDepth := 12) [-State.ite_tiers, State.noteHit, hm]

@[simp] theorem State.foundCe_mem (s : State) (line : Nat)
    (hm : Memory.wf s.tiers.mem = true) :
    Memory.wf (State.foundCe s line).tiers.mem = true := by
  simp (maxDischargeDepth := 12) [-State.ite_tiers, State.foundCe, hm]

@[simp] theorem State.addUe_mem (s0 : State) (line : Nat)
    (hm : Memory.wf s0.tiers.mem = true) :
    Memory.wf (State.addUe s0 line).tiers.mem = true := by
  simp (maxDischargeDepth := 12) [-State.ite_tiers, State.addUe, hm]

@[simp] theorem State.meetErr_mem (s : State) (e : TierErr)
    (hm : Memory.wf s.tiers.mem = true) :
    Memory.wf (State.meetErr s e).tiers.mem = true := by
  simp (maxDischargeDepth := 12) [-State.ite_tiers, State.meetErr, hm]

@[simp] theorem State.meetLines_mem (s : State) (a n : Nat)
    (hm : Memory.wf s.tiers.mem = true) :
    Memory.wf (State.meetLines s a n).tiers.mem = true := by
  simp +contextual (maxDischargeDepth := 12) [-State.ite_tiers, State.meetLines, hm]

@[simp] theorem State.meetPage_mem (w : SWin) (va n : Nat) (s : State) (vp : Nat)
    (hm : Memory.wf s.tiers.mem = true) :
    Memory.wf (State.meetPage w va n s vp).tiers.mem = true := by
  unfold State.meetPage
  (repeat' split) <;> simp (maxDischargeDepth := 12) [-State.ite_tiers, hm]

@[simp] theorem State.copyIn_mem (s0 : State) (w : SWin) (va n frame off : Nat)
    (hm : Memory.wf s0.tiers.mem = true) :
    Memory.wf (State.copyIn s0 w va n frame off).tiers.mem = true := by
  simp +contextual (maxDischargeDepth := 12) [-State.ite_tiers, State.copyIn, hm]

@[simp] theorem State.setSwin_mem (s : State) (w : Nat) (sw : SWin)
    (hm : Memory.wf s.tiers.mem = true) :
    Memory.wf (State.setSwin s w sw).tiers.mem = true := by
  simp (maxDischargeDepth := 12) [-State.ite_tiers, State.setSwin, hm]

@[simp] theorem State.refreshPage_mem (s : State) (w i : Nat)
    (hm : Memory.wf s.tiers.mem = true) :
    Memory.wf (State.refreshPage s w i).tiers.mem = true := by
  unfold State.refreshPage
  dsimp only
  (repeat' split) <;> simp (maxDischargeDepth := 12) [-State.ite_tiers, hm]

@[simp] theorem State.followFetch_mem (s : State) (w vp : Nat)
    (hm : Memory.wf s.tiers.mem = true) :
    Memory.wf (State.followFetch s w vp).1.tiers.mem = true := by
  unfold State.followFetch
  (repeat' split) <;> simp (maxDischargeDepth := 12) [-State.ite_tiers, hm]

@[simp] theorem State.followRead_mem (s : State) (w vp : Nat)
    (hm : Memory.wf s.tiers.mem = true) :
    Memory.wf (State.followRead s w vp).1.tiers.mem = true := by
  unfold State.followRead
  dsimp only
  (repeat' split) <;> simp (maxDischargeDepth := 12) [-State.ite_tiers, hm]

@[simp] theorem copyWinPage_mem (w : SWin) (u : State) (pg : Nat)
    (hm : Memory.wf u.tiers.mem = true) :
    Memory.wf (copyWinPage w u pg).tiers.mem = true := by
  unfold copyWinPage
  (repeat' split) <;> simp (maxDischargeDepth := 12) [-State.ite_tiers, hm]

@[simp] theorem landPage_mem (w : SWin) (u : State) (pg : Nat)
    (hm : Memory.wf u.tiers.mem = true) :
    Memory.wf (landPage w u pg).tiers.mem = true := by
  simp (maxDischargeDepth := 12) [-State.ite_tiers, landPage, hm]

@[simp] theorem State.landed_mem (s : State) (w i : Nat) (sw : SWin)
    (hm : Memory.wf s.tiers.mem = true) :
    Memory.wf (State.landed s w i sw).tiers.mem = true := by
  unfold State.landed
  (repeat' split) <;> simp (maxDischargeDepth := 12) [-State.ite_tiers, hm]

@[simp] theorem State.readFrame_mem (s : State) (slot vp : Nat)
    (hm : Memory.wf s.tiers.mem = true) :
    Memory.wf (State.readFrame s slot vp).1.tiers.mem = true := by
  unfold State.readFrame
  (repeat' split) <;> simp (maxDischargeDepth := 12) [-State.ite_tiers, hm]

@[simp] theorem State.readPages_mem (slot : Nat) (a1 : Nat) (a2 : Nat) (a3 : Nat) (s : State)
    (hm : Memory.wf s.tiers.mem = true) :
    Memory.wf (State.readPages slot a1 a2 a3 s).s.tiers.mem = true := by
  induction a1 generalizing a2 a3 s with
  | zero => simp (maxDischargeDepth := 12) [-State.ite_tiers, State.readPages, hm]
  | succ n ih =>
    simp only [State.readPages]
    (repeat' split) <;> simp (maxDischargeDepth := 12) [-State.ite_tiers, ih, hm]

@[simp] theorem State.readVA_mem (s : State) (slot va n : Nat)
    (hm : Memory.wf s.tiers.mem = true) :
    Memory.wf (State.readVA s slot va n).s.tiers.mem = true := by
  simp (maxDischargeDepth := 12) [-State.ite_tiers, State.readVA, hm]

@[simp] theorem State.copyPage_mem (s : State) (slot src dst : Nat)
    (hm : Memory.wf s.tiers.mem = true) :
    Memory.wf (State.copyPage s slot src dst).tiers.mem = true := by
  unfold State.copyPage
  (repeat' split) <;> simp (maxDischargeDepth := 12) [-State.ite_tiers, hm]

@[simp] theorem State.undoHook_mem (s : State) (slot vp : Nat)
    (hm : Memory.wf s.tiers.mem = true) :
    Memory.wf (State.undoHook s slot vp).tiers.mem = true := by
  unfold State.undoHook
  dsimp only
  (repeat' split) <;> simp (maxDischargeDepth := 12) [-State.ite_tiers, hm]

@[simp] theorem State.takeScratch_mem (s : State) (vp : Nat)
    (hm : Memory.wf s.tiers.mem = true) :
    Memory.wf (State.takeScratch s vp).tiers.mem = true := by
  unfold State.takeScratch
  (repeat' split) <;> simp (maxDischargeDepth := 12) [-State.ite_tiers, hm]

@[simp] theorem State.scratchHook_mem (s : State) (slot vp : Nat)
    (hm : Memory.wf s.tiers.mem = true) :
    Memory.wf (State.scratchHook s slot vp).tiers.mem = true := by
  simp (maxDischargeDepth := 12) [-State.ite_tiers, State.scratchHook, hm]

@[simp] theorem State.beforeWrite_mem (s : State) (slot vp : Nat)
    (hm : Memory.wf s.tiers.mem = true) :
    Memory.wf (State.beforeWrite s slot vp).tiers.mem = true := by
  unfold State.beforeWrite
  dsimp only
  (repeat' split) <;> simp (maxDischargeDepth := 12) [-State.ite_tiers, hm]

@[simp] theorem State.writeFrames_mem (s : State) (p : Pte) (off : Nat) (bs : List Byte)
    (hm : Memory.wf s.tiers.mem = true) :
    Memory.wf (State.writeFrames s p off bs).tiers.mem = true := by
  unfold State.writeFrames
  (repeat' split) <;> simp (maxDischargeDepth := 12) [-State.ite_tiers, hm]

@[simp] theorem State.putBack_mem (s : State) (o : OldMem)
    (hm : Memory.wf s.tiers.mem = true) :
    Memory.wf (State.putBack s o).tiers.mem = true := by
  unfold State.putBack
  (repeat' split) <;> simp (maxDischargeDepth := 12) [-State.ite_tiers, hm]

@[simp] theorem State.writePages_mem (slot : Nat) (a1 : Nat) (a2 : Nat) (a3 : List Byte) (s : State)
    (hm : Memory.wf s.tiers.mem = true) :
    Memory.wf (State.writePages slot a1 a2 a3 s).tiers.mem = true := by
  induction a1 generalizing a2 a3 s with
  | zero => simp (maxDischargeDepth := 12) [-State.ite_tiers, State.writePages, hm]
  | succ n ih =>
    simp only [State.writePages]
    (repeat' split) <;> simp (maxDischargeDepth := 12) [-State.ite_tiers, ih, hm]

@[simp] theorem State.writeVA_mem (s : State) (slot va : Nat) (bs : List Byte)
    (hm : Memory.wf s.tiers.mem = true) :
    Memory.wf (State.writeVA s slot va bs).tiers.mem = true := by
  simp (maxDischargeDepth := 12) [-State.ite_tiers, State.writeVA, hm]

@[simp] theorem State.addLine_mem (s : State) (slot va : Nat) (xs : List W32)
    (hm : Memory.wf s.tiers.mem = true) :
    Memory.wf (State.addLine s slot va xs).1.tiers.mem = true := by
  unfold State.addLine
  dsimp only
  (repeat' split) <;> simp (maxDischargeDepth := 12) [-State.ite_tiers, hm]

@[simp] theorem State.addLines_mem (slot : Nat) (a1 : Nat) (a2 : Nat) (a3 : List W32) (s : State)
    (hm : Memory.wf s.tiers.mem = true) :
    Memory.wf (State.addLines slot a1 a2 a3 s).1.tiers.mem = true := by
  induction a1 generalizing a2 a3 s with
  | zero => simp (maxDischargeDepth := 12) [-State.ite_tiers, State.addLines, hm]
  | succ n ih =>
    simp only [State.addLines]
    (repeat' split) <;> simp (maxDischargeDepth := 12) [-State.ite_tiers, ih, hm]

@[simp] theorem State.addVA_mem (s : State) (slot va : Nat) (xs : List W32)
    (hm : Memory.wf s.tiers.mem = true) :
    Memory.wf (State.addVA s slot va xs).1.tiers.mem = true := by
  simp (maxDischargeDepth := 12) [-State.ite_tiers, State.addVA, hm]

end Sys2Proof.Machine
end

