-- ==== Sys2Proof/Laws/MemStreams.lean ====
section
/-! SUPPORT. Memory keeps its canonical form through the definitions of Machine/Streams.lean. -/

namespace Sys2Proof.Machine

@[simp] theorem revertMem_mem (k : Nat) (l : List OldMem) (s : State) (hm : Memory.wf s.tiers.mem = true) :
    Memory.wf (revertMem k l s).tiers.mem = true := by
  induction l generalizing k s with
  | nil => exact hm
  | cons o l ih =>
    apply ih
    split
    · exact State.putBack_mem _ _ hm
    · exact hm

@[simp] theorem discard_mem (f : Flight) (r : State × CoreCtx)
    (hm : Memory.wf r.1.tiers.mem = true) :
    Memory.wf (discard f r).1.tiers.mem = true := by
  simp (maxDischargeDepth := 12) [-State.ite_tiers, discard, hm]

@[simp] theorem stopAt_mem (s : State) (l : CoreCtx) (x : StrmId) (idx : Nat)
    (hm : Memory.wf s.tiers.mem = true) :
    Memory.wf (stopAt s l x idx).1.tiers.mem = true := by
  simp +contextual (maxDischargeDepth := 12) [-State.ite_tiers, stopAt, hm]

@[simp] theorem raiseFault_mem (s : State) (n : Nat) (x : StrmId) (slot idx : Nat) (code : FaultCode)
    (hm : Memory.wf s.tiers.mem = true) :
    Memory.wf (raiseFault s n x slot idx code).tiers.mem = true := by
  unfold raiseFault
  (repeat' split) <;> simp (maxDischargeDepth := 12) [-State.ite_tiers, hm]

@[simp] theorem dispatch_mem (n : Nat) (x : StrmId) (want : KwOp → Bool) (s : State)
    (hm : Memory.wf s.tiers.mem = true) :
    Memory.wf (dispatch n x want s).tiers.mem = true := by
  unfold dispatch
  (repeat' split) <;> simp (maxDischargeDepth := 12) [-State.ite_tiers, hm]

@[simp] theorem finish_mem (e : Env) (access : Bool) (d : Done)
    (hm : Memory.wf d.s.tiers.mem = true) :
    Memory.wf (finish e access d).tiers.mem = true := by
  unfold finish
  dsimp only
  (repeat' split) <;> simp (maxDischargeDepth := 12) [-State.ite_tiers, hm]

theorem issue_mem (n : Nat) (x : StrmId) (dfr access : Bool) (want : KwOp → Bool)
    (run : Env → Except FaultCode Done) (s : State) (hm : Memory.wf s.tiers.mem = true)
    (hr : ∀ e d, run e = .ok d → Memory.wf e.s.tiers.mem = true → Memory.wf d.s.tiers.mem = true) :
    Memory.wf (issue n x dfr access want run s).tiers.mem = true := by
  unfold issue
  dsimp only
  (repeat' split) <;> try simp (maxDischargeDepth := 12) [hm]
  have h := hr _ _ ‹run _ = Except.ok _› (by simpa using hm)
  exact finish_mem _ _ _ (by simpa using h)

theorem kwemin_mem (n : CoreId) (x : StrmId) (ph : Phase) (access : Bool) (want : KwOp → Bool)
    (run : Env → Except FaultCode Done) (s : State) (hm : Memory.wf s.tiers.mem = true)
    (hr : ∀ e d, run e = .ok d → Memory.wf e.s.tiers.mem = true → Memory.wf d.s.tiers.mem = true) :
    Memory.wf (kwemin n x ph access want run s).tiers.mem = true := by
  unfold kwemin
  split
  · simp (maxDischargeDepth := 12) [hm]
  · simpa using issue_mem n.val x false access want run s hm hr
  · split
    · simpa using issue_mem n.val x true access want run s hm hr
    · simp (maxDischargeDepth := 12) [hm]

end Sys2Proof.Machine
end

