-- ==== Sys2Proof/Laws/MemComputeCore.lean ====
section
/-! SUPPORT. Memory keeps its canonical form through the definitions of Machine/ComputeCore.lean. -/

namespace Sys2Proof.Machine

@[simp] theorem spillNext_mem (n : Nat) (x : StrmId) (s : State)
    (hm : Memory.wf s.tiers.mem = true) :
    Memory.wf (spillNext n x s).tiers.mem = true := by
  unfold spillNext
  (repeat' split) <;> simp (maxDischargeDepth := 12) [-State.ite_tiers, hm]

end Sys2Proof.Machine
end

