-- ==== Sys2Proof/Laws/MemMoves.lean ====
section
/-! SUPPORT. Memory keeps its canonical form through the definitions of Machine/Moves.lean. -/

namespace Sys2Proof.Machine

@[simp] theorem laterRows_mem (slot mbase mstride obase ostride n : Nat) (a1 : Nat) (a2 : Nat) (s : State) (a4 : CoreCtx)
    (hm : Memory.wf s.tiers.mem = true) :
    Memory.wf (laterRows slot mbase mstride obase ostride n a1 a2 s a4).1.tiers.mem = true := by
  induction a1 generalizing a2 s a4 with
  | zero => simp (maxDischargeDepth := 12) [-State.ite_tiers, laterRows, hm]
  | succ n ih =>
    simp only [laterRows]
    (repeat' split) <;> simp (maxDischargeDepth := 12) [-State.ite_tiers, ih, hm]

@[simp] theorem loadRows_mem (slot mbase mstride obase ostride n : Nat) (a1 : Nat) (a2 : Nat) (s : State) (a4 : CoreCtx)
    (hm : Memory.wf s.tiers.mem = true) :
    Memory.wf (loadRows slot mbase mstride obase ostride n a1 a2 s a4).1.tiers.mem = true := by
  induction a1 generalizing a2 s a4 with
  | zero => simp (maxDischargeDepth := 12) [-State.ite_tiers, loadRows, hm]
  | succ n ih =>
    simp only [loadRows]
    (repeat' split) <;> simp (maxDischargeDepth := 12) [-State.ite_tiers, ih, hm]

theorem runLoad_mem (f : MvF) (e : Env) {d : Done} (h : runLoad f e = .ok d)
    (hm : Memory.wf e.s.tiers.mem = true) :
    Memory.wf d.s.tiers.mem = true := by
  simp only [runLoad, bind, Except.bind, pure, Except.pure, failIf] at h
  (repeat' split at h) <;> simp_all <;> (try subst h) <;> simp_all

theorem carryLoad_mem (e : Env) {d : Done} (h : carryLoad e = .ok d)
    (hm : Memory.wf e.s.tiers.mem = true) :
    Memory.wf d.s.tiers.mem = true := by
  simp only [carryLoad] at h
  split at h
  · first | exact runLoad_mem _ _ h hm | exact runLoad_mem _ _ _ h hm
  · cases h

@[simp] theorem storeRows_mem (slot mbase mstride : Nat) (add : BitVec 2) (a1 : List (List Byte)) (a2 : Nat) (s : State)
    (hm : Memory.wf s.tiers.mem = true) :
    Memory.wf (storeRows slot mbase mstride add a1 a2 s).1.tiers.mem = true := by
  induction a1 generalizing a2 s with
  | nil => simp (maxDischargeDepth := 12) [-State.ite_tiers, storeRows, hm]
  | cons x l ih =>
    simp only [storeRows]
    (repeat' split) <;> simp (maxDischargeDepth := 12) [-State.ite_tiers, ih, hm]

theorem runStore_mem (f : MvF) (e : Env) {d : Done} (h : runStore f e = .ok d)
    (hm : Memory.wf e.s.tiers.mem = true) :
    Memory.wf d.s.tiers.mem = true := by
  simp only [runStore, bind, Except.bind, pure, Except.pure, failIf] at h
  (repeat' split at h) <;> simp_all <;> (try subst h) <;> simp_all

theorem carryStore_mem (e : Env) {d : Done} (h : carryStore e = .ok d)
    (hm : Memory.wf e.s.tiers.mem = true) :
    Memory.wf d.s.tiers.mem = true := by
  simp only [carryStore] at h
  split at h
  · first | exact runStore_mem _ _ h hm | exact runStore_mem _ _ _ h hm
  · cases h

@[simp] theorem readRowsMem_mem (slot base stride n : Nat) (a1 : Nat) (a2 : Nat) (s : State)
    (hm : Memory.wf s.tiers.mem = true) :
    Memory.wf (readRowsMem slot base stride n a1 a2 s).1.tiers.mem = true := by
  induction a1 generalizing a2 s with
  | zero => simp (maxDischargeDepth := 12) [-State.ite_tiers, readRowsMem, hm]
  | succ n ih =>
    simp only [readRowsMem]
    (repeat' split) <;> simp (maxDischargeDepth := 12) [-State.ite_tiers, ih, hm]

theorem runTload_mem (f : TloadF) (e : Env) {d : Done} (h : runTload f e = .ok d)
    (hm : Memory.wf e.s.tiers.mem = true) :
    Memory.wf d.s.tiers.mem = true := by
  simp only [runTload, bind, Except.bind, pure, Except.pure, failIf] at h
  (repeat' split at h) <;> simp_all <;> (try subst h) <;> simp_all

theorem carryTload_mem (e : Env) {d : Done} (h : carryTload e = .ok d)
    (hm : Memory.wf e.s.tiers.mem = true) :
    Memory.wf d.s.tiers.mem = true := by
  simp only [carryTload] at h
  split at h
  · first | exact runTload_mem _ _ h hm | exact runTload_mem _ _ _ h hm
  · cases h

@[simp] theorem gatherRows_mem (slot base stride n : Nat) (a1 : List Nat) (s : State)
    (hm : Memory.wf s.tiers.mem = true) :
    Memory.wf (gatherRows slot base stride n a1 s).1.tiers.mem = true := by
  induction a1 generalizing s with
  | nil => simp (maxDischargeDepth := 12) [-State.ite_tiers, gatherRows, hm]
  | cons x l ih =>
    simp only [gatherRows]
    (repeat' split) <;> simp (maxDischargeDepth := 12) [-State.ite_tiers, ih, hm]

theorem runGather_mem (f : GatherF) (e : Env) {d : Done} (h : runGather f e = .ok d)
    (hm : Memory.wf e.s.tiers.mem = true) :
    Memory.wf d.s.tiers.mem = true := by
  simp only [runGather, bind, Except.bind, pure, Except.pure, failIf] at h
  (repeat' split at h) <;> simp_all <;> (try subst h) <;> simp_all

theorem carryGather_mem (e : Env) {d : Done} (h : carryGather e = .ok d)
    (hm : Memory.wf e.s.tiers.mem = true) :
    Memory.wf d.s.tiers.mem = true := by
  simp only [carryGather] at h
  split at h
  · first | exact runGather_mem _ _ h hm | exact runGather_mem _ _ _ h hm
  · cases h

theorem runDwtq_mem (f : DwtqF) (e : Env) {d : Done} (h : runDwtq f e = .ok d)
    (hm : Memory.wf e.s.tiers.mem = true) :
    Memory.wf d.s.tiers.mem = true := by
  simp only [runDwtq, bind, Except.bind, pure, Except.pure, failIf] at h
  (repeat' split at h) <;> simp_all <;> (try subst h) <;> simp_all

theorem carryDwtq_mem (e : Env) {d : Done} (h : carryDwtq e = .ok d)
    (hm : Memory.wf e.s.tiers.mem = true) :
    Memory.wf d.s.tiers.mem = true := by
  simp only [carryDwtq] at h
  split at h
  · first | exact runDwtq_mem _ _ h hm | exact runDwtq_mem _ _ _ h hm
  · cases h

end Sys2Proof.Machine
end

