-- ==== Sys2Proof/Laws/MemSync.lean ====
section
/-! SUPPORT. Memory keeps its canonical form through the definitions of Machine/Sync.lean. -/

namespace Sys2Proof.Machine

@[simp] theorem sequencer_mem (n : Nat) (x : StrmId) (want : KwOp → Bool) (run : State → Site → KwOp → SeqOut) (s : State)
    (hm : Memory.wf s.tiers.mem = true) :
    Memory.wf (sequencer n x want run s).tiers.mem = true := by
  unfold sequencer
  (repeat' split) <;> simp (maxDischargeDepth := 12) [-State.ite_tiers, hm]

@[simp] theorem sclr_mem (n : Nat) (x : StrmId) (s : State)
    (hm : Memory.wf s.tiers.mem = true) :
    Memory.wf (sclr n x s).tiers.mem = true := by
  unfold sclr
  (repeat' split) <;> simp (maxDischargeDepth := 12) [-State.ite_tiers, hm]

end Sys2Proof.Machine
end

