-- ==== Sys2Proof/Laws/SameTiers.lean ====
section
/-! SUPPORT. What the definitions of Machine/Tiers.lean leave alone. -/

namespace Sys2Proof.Machine

@[simp] theorem CmdOut.done_same (s : State) (status : Nat) :
    (CmdOut.done s status).s.pending = s.pending ∧ (CmdOut.done s status).s.fresh = s.fresh ∧
    (CmdOut.done s status).s.out = s.out ∧ (CmdOut.done s status).s.ticks = s.ticks ∧
    (CmdOut.done s status).s.coldResets = s.coldResets ∧ (CmdOut.done s status).s.fuse = s.fuse ∧
    (CmdOut.done s status).s.modl = s.modl ∧ (CmdOut.done s status).s.power = s.power ∧
    (CmdOut.done s status).s.cores = s.cores ∧ (CmdOut.done s status).s.ctxs = s.ctxs ∧
    (CmdOut.done s status).s.pages = s.pages ∧ (CmdOut.done s status).s.counters = s.counters ∧
    (CmdOut.done s status).s.tiers = s.tiers ∧ (CmdOut.done s status).s.dwt = s.dwt ∧
    (CmdOut.done s status).s.col = s.col ∧ (CmdOut.done s status).s.nets = s.nets ∧
    (CmdOut.done s status).s.sec = s.sec ∧ (CmdOut.done s status).s.rcv = s.rcv ∧
    (CmdOut.done s status).s.mgt = s.mgt ∧ (CmdOut.done s status).s.hif = s.hif := by
  simp [CmdOut.done]

@[simp] theorem State.tagFrame_same (s : State) (encl frame : Nat) :
    (State.tagFrame s encl frame).pending = s.pending ∧ (State.tagFrame s encl frame).fresh = s.fresh ∧
    (State.tagFrame s encl frame).out = s.out ∧ (State.tagFrame s encl frame).ticks = s.ticks ∧
    (State.tagFrame s encl frame).coldResets = s.coldResets ∧ (State.tagFrame s encl frame).fuse = s.fuse ∧
    (State.tagFrame s encl frame).modl = s.modl ∧ (State.tagFrame s encl frame).power = s.power ∧
    (State.tagFrame s encl frame).cores = s.cores ∧ (State.tagFrame s encl frame).ctxs = s.ctxs ∧
    (State.tagFrame s encl frame).pages = s.pages ∧ (State.tagFrame s encl frame).counters = s.counters ∧
    (State.tagFrame s encl frame).dwt = s.dwt ∧ (State.tagFrame s encl frame).col = s.col ∧
    (State.tagFrame s encl frame).nets = s.nets ∧ (State.tagFrame s encl frame).sec = s.sec ∧
    (State.tagFrame s encl frame).rcv = s.rcv ∧ (State.tagFrame s encl frame).mgt = s.mgt ∧
    (State.tagFrame s encl frame).hif = s.hif := by
  simp [State.tagFrame]

@[simp] theorem mapPools_same (slot encl : Nat) (a1 : Nat) (a2 : List Pool) (s : State) :
    (mapPools slot encl a1 a2 s).pending = s.pending ∧ (mapPools slot encl a1 a2 s).fresh = s.fresh ∧
    (mapPools slot encl a1 a2 s).out = s.out ∧ (mapPools slot encl a1 a2 s).ticks = s.ticks ∧
    (mapPools slot encl a1 a2 s).coldResets = s.coldResets ∧ (mapPools slot encl a1 a2 s).fuse = s.fuse ∧
    (mapPools slot encl a1 a2 s).modl = s.modl ∧ (mapPools slot encl a1 a2 s).power = s.power ∧
    (mapPools slot encl a1 a2 s).cores = s.cores ∧ (mapPools slot encl a1 a2 s).ctxs = s.ctxs ∧
    (mapPools slot encl a1 a2 s).pages = s.pages ∧ (mapPools slot encl a1 a2 s).counters = s.counters ∧
    (mapPools slot encl a1 a2 s).dwt = s.dwt ∧ (mapPools slot encl a1 a2 s).col = s.col ∧
    (mapPools slot encl a1 a2 s).nets = s.nets ∧ (mapPools slot encl a1 a2 s).sec = s.sec ∧
    (mapPools slot encl a1 a2 s).rcv = s.rcv ∧ (mapPools slot encl a1 a2 s).mgt = s.mgt ∧
    (mapPools slot encl a1 a2 s).hif = s.hif := by
  induction a2 generalizing a1 s with
  | nil => simp [mapPools]
  | cons x l ih =>
    simp only [mapPools]
    (repeat' split) <;> simp [ih]

@[simp] theorem tierAlloc_same (slot encl : Nat) (e : BitVec 512) (s : State) :
    (tierAlloc slot encl e s).s.pending = s.pending ∧ (tierAlloc slot encl e s).s.fresh = s.fresh ∧
    (tierAlloc slot encl e s).s.out = s.out ∧ (tierAlloc slot encl e s).s.ticks = s.ticks ∧
    (tierAlloc slot encl e s).s.coldResets = s.coldResets ∧ (tierAlloc slot encl e s).s.fuse = s.fuse ∧
    (tierAlloc slot encl e s).s.modl = s.modl ∧ (tierAlloc slot encl e s).s.power = s.power ∧
    (tierAlloc slot encl e s).s.cores = s.cores ∧ (tierAlloc slot encl e s).s.ctxs = s.ctxs ∧
    (tierAlloc slot encl e s).s.pages = s.pages ∧ (tierAlloc slot encl e s).s.counters = s.counters ∧
    (tierAlloc slot encl e s).s.dwt = s.dwt ∧ (tierAlloc slot encl e s).s.col = s.col ∧
    (tierAlloc slot encl e s).s.nets = s.nets ∧ (tierAlloc slot encl e s).s.sec = s.sec ∧
    (tierAlloc slot encl e s).s.rcv = s.rcv ∧ (tierAlloc slot encl e s).s.mgt = s.mgt ∧
    (tierAlloc slot encl e s).s.hif = s.hif := by
  unfold tierAlloc
  dsimp only
  (repeat' split) <;> simp_all

@[simp] theorem unmapRange_same (slot : Nat) (o : AllocObj) (va pages : Nat) (s : State) :
    (unmapRange slot o va pages s).pending = s.pending ∧ (unmapRange slot o va pages s).fresh = s.fresh ∧
    (unmapRange slot o va pages s).out = s.out ∧ (unmapRange slot o va pages s).ticks = s.ticks ∧
    (unmapRange slot o va pages s).coldResets = s.coldResets ∧ (unmapRange slot o va pages s).fuse = s.fuse ∧
    (unmapRange slot o va pages s).modl = s.modl ∧ (unmapRange slot o va pages s).power = s.power ∧
    (unmapRange slot o va pages s).cores = s.cores ∧ (unmapRange slot o va pages s).ctxs = s.ctxs ∧
    (unmapRange slot o va pages s).pages = s.pages ∧ (unmapRange slot o va pages s).counters = s.counters ∧
    (unmapRange slot o va pages s).dwt = s.dwt ∧ (unmapRange slot o va pages s).col = s.col ∧
    (unmapRange slot o va pages s).nets = s.nets ∧ (unmapRange slot o va pages s).sec = s.sec ∧
    (unmapRange slot o va pages s).rcv = s.rcv ∧ (unmapRange slot o va pages s).mgt = s.mgt ∧
    (unmapRange slot o va pages s).hif = s.hif := by
  simp [unmapRange]

@[simp] theorem endObj_same (o : AllocObj) (s : State) :
    (endObj o s).pending = s.pending ∧ (endObj o s).fresh = s.fresh ∧ (endObj o s).out = s.out ∧
    (endObj o s).ticks = s.ticks ∧ (endObj o s).coldResets = s.coldResets ∧ (endObj o s).fuse = s.fuse ∧
    (endObj o s).modl = s.modl ∧ (endObj o s).power = s.power ∧ (endObj o s).cores = s.cores ∧
    (endObj o s).ctxs = s.ctxs ∧ (endObj o s).pages = s.pages ∧ (endObj o s).counters = s.counters ∧
    (endObj o s).dwt = s.dwt ∧ (endObj o s).col = s.col ∧ (endObj o s).nets = s.nets ∧ (endObj o s).sec = s.sec ∧
    (endObj o s).rcv = s.rcv ∧ (endObj o s).mgt = s.mgt ∧ (endObj o s).hif = s.hif := by
  simp [endObj]

@[simp] theorem freeRange_same (slot va pages : Nat) (s : State) :
    (freeRange slot va pages s).pending = s.pending ∧ (freeRange slot va pages s).fresh = s.fresh ∧
    (freeRange slot va pages s).out = s.out ∧ (freeRange slot va pages s).ticks = s.ticks ∧
    (freeRange slot va pages s).coldResets = s.coldResets ∧ (freeRange slot va pages s).fuse = s.fuse ∧
    (freeRange slot va pages s).modl = s.modl ∧ (freeRange slot va pages s).power = s.power ∧
    (freeRange slot va pages s).cores = s.cores ∧ (freeRange slot va pages s).ctxs = s.ctxs ∧
    (freeRange slot va pages s).pages = s.pages ∧ (freeRange slot va pages s).counters = s.counters ∧
    (freeRange slot va pages s).dwt = s.dwt ∧ (freeRange slot va pages s).col = s.col ∧
    (freeRange slot va pages s).nets = s.nets ∧ (freeRange slot va pages s).sec = s.sec ∧
    (freeRange slot va pages s).rcv = s.rcv ∧ (freeRange slot va pages s).mgt = s.mgt ∧
    (freeRange slot va pages s).hif = s.hif := by
  unfold freeRange
  (repeat' split) <;> simp

@[simp] theorem tierFree_same (slot : Nat) (atMeridian : Bool) (e : BitVec 512) (s : State) :
    (tierFree slot atMeridian e s).s.pending = s.pending ∧ (tierFree slot atMeridian e s).s.fresh = s.fresh ∧
    (tierFree slot atMeridian e s).s.out = s.out ∧ (tierFree slot atMeridian e s).s.ticks = s.ticks ∧
    (tierFree slot atMeridian e s).s.coldResets = s.coldResets ∧ (tierFree slot atMeridian e s).s.fuse = s.fuse ∧
    (tierFree slot atMeridian e s).s.modl = s.modl ∧ (tierFree slot atMeridian e s).s.power = s.power ∧
    (tierFree slot atMeridian e s).s.cores = s.cores ∧ (tierFree slot atMeridian e s).s.ctxs = s.ctxs ∧
    (tierFree slot atMeridian e s).s.pages = s.pages ∧ (tierFree slot atMeridian e s).s.counters = s.counters ∧
    (tierFree slot atMeridian e s).s.dwt = s.dwt ∧ (tierFree slot atMeridian e s).s.col = s.col ∧
    (tierFree slot atMeridian e s).s.nets = s.nets ∧ (tierFree slot atMeridian e s).s.sec = s.sec ∧
    (tierFree slot atMeridian e s).s.rcv = s.rcv ∧ (tierFree slot atMeridian e s).s.mgt = s.mgt ∧
    (tierFree slot atMeridian e s).s.hif = s.hif := by
  unfold tierFree
  dsimp only
  (repeat' split) <;> simp_all

@[simp] theorem State.stayPut_same (s : State) (m : Move) :
    (State.stayPut s m).pending = s.pending ∧ (State.stayPut s m).fresh = s.fresh ∧
    (State.stayPut s m).out = s.out ∧ (State.stayPut s m).ticks = s.ticks ∧
    (State.stayPut s m).coldResets = s.coldResets ∧ (State.stayPut s m).fuse = s.fuse ∧
    (State.stayPut s m).modl = s.modl ∧ (State.stayPut s m).power = s.power ∧ (State.stayPut s m).cores = s.cores ∧
    (State.stayPut s m).ctxs = s.ctxs ∧ (State.stayPut s m).pages = s.pages ∧
    (State.stayPut s m).counters = s.counters ∧ (State.stayPut s m).dwt = s.dwt ∧ (State.stayPut s m).col = s.col ∧
    (State.stayPut s m).nets = s.nets ∧ (State.stayPut s m).sec = s.sec ∧ (State.stayPut s m).rcv = s.rcv ∧
    (State.stayPut s m).mgt = s.mgt ∧ (State.stayPut s m).hif = s.hif := by
  unfold State.stayPut
  (repeat' split) <;> simp

@[simp] theorem cancelMoves_same (f : Move → Bool) (s : State) :
    (cancelMoves f s).pending = s.pending ∧ (cancelMoves f s).fresh = s.fresh ∧ (cancelMoves f s).out = s.out ∧
    (cancelMoves f s).ticks = s.ticks ∧ (cancelMoves f s).coldResets = s.coldResets ∧
    (cancelMoves f s).fuse = s.fuse ∧ (cancelMoves f s).modl = s.modl ∧ (cancelMoves f s).power = s.power ∧
    (cancelMoves f s).cores = s.cores ∧ (cancelMoves f s).ctxs = s.ctxs ∧ (cancelMoves f s).pages = s.pages ∧
    (cancelMoves f s).counters = s.counters ∧ (cancelMoves f s).dwt = s.dwt ∧ (cancelMoves f s).col = s.col ∧
    (cancelMoves f s).nets = s.nets ∧ (cancelMoves f s).sec = s.sec ∧ (cancelMoves f s).rcv = s.rcv ∧
    (cancelMoves f s).mgt = s.mgt ∧ (cancelMoves f s).hif = s.hif := by
  simp [cancelMoves]

@[simp] theorem endRebalance_same (slot : Nat) (s : State) :
    (endRebalance slot s).pending = s.pending ∧ (endRebalance slot s).fresh = s.fresh ∧
    (endRebalance slot s).out = s.out ∧ (endRebalance slot s).ticks = s.ticks ∧
    (endRebalance slot s).coldResets = s.coldResets ∧ (endRebalance slot s).fuse = s.fuse ∧
    (endRebalance slot s).modl = s.modl ∧ (endRebalance slot s).power = s.power ∧
    (endRebalance slot s).cores = s.cores ∧ (endRebalance slot s).ctxs = s.ctxs ∧
    (endRebalance slot s).pages = s.pages ∧ (endRebalance slot s).counters = s.counters ∧
    (endRebalance slot s).dwt = s.dwt ∧ (endRebalance slot s).col = s.col ∧ (endRebalance slot s).nets = s.nets ∧
    (endRebalance slot s).sec = s.sec ∧ (endRebalance slot s).rcv = s.rcv ∧ (endRebalance slot s).mgt = s.mgt ∧
    (endRebalance slot s).hif = s.hif := by
  simp [endRebalance]

@[simp] theorem reserveMoves_same (slot : Nat) (retire : Bool) (rebal : Bool) (a1 : List (Nat × Pool)) (s : State) :
    (reserveMoves slot retire rebal a1 s).pending = s.pending ∧
    (reserveMoves slot retire rebal a1 s).fresh = s.fresh ∧ (reserveMoves slot retire rebal a1 s).out = s.out ∧
    (reserveMoves slot retire rebal a1 s).ticks = s.ticks ∧
    (reserveMoves slot retire rebal a1 s).coldResets = s.coldResets ∧
    (reserveMoves slot retire rebal a1 s).fuse = s.fuse ∧ (reserveMoves slot retire rebal a1 s).modl = s.modl ∧
    (reserveMoves slot retire rebal a1 s).power = s.power ∧ (reserveMoves slot retire rebal a1 s).cores = s.cores ∧
    (reserveMoves slot retire rebal a1 s).ctxs = s.ctxs ∧ (reserveMoves slot retire rebal a1 s).pages = s.pages ∧
    (reserveMoves slot retire rebal a1 s).counters = s.counters ∧
    (reserveMoves slot retire rebal a1 s).dwt = s.dwt ∧ (reserveMoves slot retire rebal a1 s).col = s.col ∧
    (reserveMoves slot retire rebal a1 s).nets = s.nets ∧ (reserveMoves slot retire rebal a1 s).sec = s.sec ∧
    (reserveMoves slot retire rebal a1 s).rcv = s.rcv ∧ (reserveMoves slot retire rebal a1 s).mgt = s.mgt ∧
    (reserveMoves slot retire rebal a1 s).hif = s.hif := by
  induction a1 generalizing s with
  | nil => simp [reserveMoves]
  | cons x l ih =>
    simp only [reserveMoves]
    (repeat' split) <;> simp [ih]

@[simp] theorem tierMigrate_same (slot encl : Nat) (started : Bool) (e : BitVec 512) (s0 : State) :
    (tierMigrate slot encl started e s0).s.pending = s0.pending ∧
    (tierMigrate slot encl started e s0).s.fresh = s0.fresh ∧ (tierMigrate slot encl started e s0).s.out = s0.out ∧
    (tierMigrate slot encl started e s0).s.ticks = s0.ticks ∧
    (tierMigrate slot encl started e s0).s.coldResets = s0.coldResets ∧
    (tierMigrate slot encl started e s0).s.fuse = s0.fuse ∧ (tierMigrate slot encl started e s0).s.modl = s0.modl ∧
    (tierMigrate slot encl started e s0).s.power = s0.power ∧
    (tierMigrate slot encl started e s0).s.cores = s0.cores ∧
    (tierMigrate slot encl started e s0).s.ctxs = s0.ctxs ∧
    (tierMigrate slot encl started e s0).s.pages = s0.pages ∧
    (tierMigrate slot encl started e s0).s.counters = s0.counters ∧
    (tierMigrate slot encl started e s0).s.dwt = s0.dwt ∧ (tierMigrate slot encl started e s0).s.col = s0.col ∧
    (tierMigrate slot encl started e s0).s.nets = s0.nets ∧ (tierMigrate slot encl started e s0).s.sec = s0.sec ∧
    (tierMigrate slot encl started e s0).s.rcv = s0.rcv ∧ (tierMigrate slot encl started e s0).s.mgt = s0.mgt ∧
    (tierMigrate slot encl started e s0).s.hif = s0.hif := by
  unfold tierMigrate
  dsimp only
  (repeat' split) <;> simp_all

@[simp] theorem endMove_same (m : Move) (s : State) :
    (endMove m s).pending = s.pending ∧ (endMove m s).fresh = s.fresh ∧ (endMove m s).out = s.out ∧
    (endMove m s).ticks = s.ticks ∧ (endMove m s).coldResets = s.coldResets ∧ (endMove m s).fuse = s.fuse ∧
    (endMove m s).modl = s.modl ∧ (endMove m s).power = s.power ∧ (endMove m s).cores = s.cores ∧
    (endMove m s).ctxs = s.ctxs ∧ (endMove m s).pages = s.pages ∧ (endMove m s).counters = s.counters ∧
    (endMove m s).dwt = s.dwt ∧ (endMove m s).col = s.col ∧ (endMove m s).nets = s.nets ∧
    (endMove m s).sec = s.sec ∧ (endMove m s).rcv = s.rcv ∧ (endMove m s).mgt = s.mgt ∧ (endMove m s).hif = s.hif := by
  unfold endMove
  (repeat' split) <;> simp

@[simp] theorem beginMove_same (s : State) :
    (beginMove s).pending = s.pending ∧ (beginMove s).ticks = s.ticks ∧ (beginMove s).coldResets = s.coldResets ∧
    (beginMove s).fuse = s.fuse ∧ (beginMove s).power = s.power ∧ (beginMove s).cores = s.cores ∧
    (beginMove s).ctxs = s.ctxs ∧ (beginMove s).pages = s.pages ∧ (beginMove s).counters = s.counters ∧
    (beginMove s).dwt = s.dwt ∧ (beginMove s).col = s.col ∧ (beginMove s).nets = s.nets ∧
    (beginMove s).sec = s.sec ∧ (beginMove s).rcv = s.rcv ∧ (beginMove s).hif = s.hif := by
  unfold beginMove
  (repeat' split) <;> simp

@[simp] theorem rebalance_same (s : State) :
    (rebalance s).pending = s.pending ∧ (rebalance s).ticks = s.ticks ∧ (rebalance s).coldResets = s.coldResets ∧
    (rebalance s).fuse = s.fuse ∧ (rebalance s).power = s.power ∧ (rebalance s).cores = s.cores ∧
    (rebalance s).ctxs = s.ctxs ∧ (rebalance s).pages = s.pages ∧ (rebalance s).counters = s.counters ∧
    (rebalance s).dwt = s.dwt ∧ (rebalance s).col = s.col ∧ (rebalance s).nets = s.nets ∧
    (rebalance s).sec = s.sec ∧ (rebalance s).rcv = s.rcv ∧ (rebalance s).hif = s.hif := by
  unfold rebalance
  dsimp only
  (repeat' split) <;> simp

@[simp] theorem pageMove_same (s : State) :
    (pageMove s).pending = s.pending ∧ (pageMove s).ticks = s.ticks ∧ (pageMove s).coldResets = s.coldResets ∧
    (pageMove s).fuse = s.fuse ∧ (pageMove s).power = s.power ∧ (pageMove s).cores = s.cores ∧
    (pageMove s).ctxs = s.ctxs ∧ (pageMove s).pages = s.pages ∧ (pageMove s).counters = s.counters ∧
    (pageMove s).dwt = s.dwt ∧ (pageMove s).col = s.col ∧ (pageMove s).nets = s.nets ∧ (pageMove s).sec = s.sec ∧
    (pageMove s).rcv = s.rcv ∧ (pageMove s).hif = s.hif := by
  unfold pageMove
  (repeat' split) <;> simp

@[simp] theorem takeFrames_same (slot encl core : Nat) (view : Option Nat) (a1 : Nat) (a2 : Nat) (s : State) :
    (takeFrames slot encl core view a1 a2 s).1.pending = s.pending ∧
    (takeFrames slot encl core view a1 a2 s).1.fresh = s.fresh ∧
    (takeFrames slot encl core view a1 a2 s).1.out = s.out ∧
    (takeFrames slot encl core view a1 a2 s).1.ticks = s.ticks ∧
    (takeFrames slot encl core view a1 a2 s).1.coldResets = s.coldResets ∧
    (takeFrames slot encl core view a1 a2 s).1.fuse = s.fuse ∧
    (takeFrames slot encl core view a1 a2 s).1.modl = s.modl ∧
    (takeFrames slot encl core view a1 a2 s).1.power = s.power ∧
    (takeFrames slot encl core view a1 a2 s).1.cores = s.cores ∧
    (takeFrames slot encl core view a1 a2 s).1.ctxs = s.ctxs ∧
    (takeFrames slot encl core view a1 a2 s).1.pages = s.pages ∧
    (takeFrames slot encl core view a1 a2 s).1.counters = s.counters ∧
    (takeFrames slot encl core view a1 a2 s).1.dwt = s.dwt ∧
    (takeFrames slot encl core view a1 a2 s).1.col = s.col ∧
    (takeFrames slot encl core view a1 a2 s).1.nets = s.nets ∧
    (takeFrames slot encl core view a1 a2 s).1.sec = s.sec ∧
    (takeFrames slot encl core view a1 a2 s).1.rcv = s.rcv ∧
    (takeFrames slot encl core view a1 a2 s).1.mgt = s.mgt ∧ (takeFrames slot encl core view a1 a2 s).1.hif = s.hif := by
  induction a1 generalizing a2 s with
  | zero => simp [takeFrames]
  | succ n ih =>
    simp only [takeFrames]
    (repeat' split) <;> simp [ih]

@[simp] theorem tierWinCreate_same (slot encl : Nat) (e : BitVec 512) (s : State) :
    (tierWinCreate slot encl e s).s.pending = s.pending ∧ (tierWinCreate slot encl e s).s.ticks = s.ticks ∧
    (tierWinCreate slot encl e s).s.coldResets = s.coldResets ∧ (tierWinCreate slot encl e s).s.fuse = s.fuse ∧
    (tierWinCreate slot encl e s).s.power = s.power ∧ (tierWinCreate slot encl e s).s.cores = s.cores ∧
    (tierWinCreate slot encl e s).s.ctxs = s.ctxs ∧ (tierWinCreate slot encl e s).s.pages = s.pages ∧
    (tierWinCreate slot encl e s).s.counters = s.counters ∧ (tierWinCreate slot encl e s).s.dwt = s.dwt ∧
    (tierWinCreate slot encl e s).s.col = s.col ∧ (tierWinCreate slot encl e s).s.nets = s.nets ∧
    (tierWinCreate slot encl e s).s.rcv = s.rcv ∧ (tierWinCreate slot encl e s).s.hif = s.hif := by
  unfold tierWinCreate
  dsimp only
  (repeat' split) <;> simp_all

@[simp] theorem writeWinRecords_same (slot : Nat) (s : State) :
    (writeWinRecords slot s).pending = s.pending ∧ (writeWinRecords slot s).ticks = s.ticks ∧
    (writeWinRecords slot s).coldResets = s.coldResets ∧ (writeWinRecords slot s).fuse = s.fuse ∧
    (writeWinRecords slot s).power = s.power ∧ (writeWinRecords slot s).cores = s.cores ∧
    (writeWinRecords slot s).pages = s.pages ∧ (writeWinRecords slot s).counters = s.counters ∧
    (writeWinRecords slot s).dwt = s.dwt ∧ (writeWinRecords slot s).col = s.col ∧
    (writeWinRecords slot s).nets = s.nets ∧ (writeWinRecords slot s).hif = s.hif := by
  simp [writeWinRecords]

@[simp] theorem destroyWin_same (w : SWin) (s : State) :
    (destroyWin w s).pending = s.pending ∧ (destroyWin w s).ticks = s.ticks ∧
    (destroyWin w s).coldResets = s.coldResets ∧ (destroyWin w s).fuse = s.fuse ∧
    (destroyWin w s).power = s.power ∧ (destroyWin w s).cores = s.cores ∧ (destroyWin w s).pages = s.pages ∧
    (destroyWin w s).counters = s.counters ∧ (destroyWin w s).dwt = s.dwt ∧ (destroyWin w s).col = s.col ∧
    (destroyWin w s).nets = s.nets ∧ (destroyWin w s).hif = s.hif := by
  simp [destroyWin]

@[simp] theorem tierWinDestroy_same (slot : Nat) (atMeridian : Bool) (e : BitVec 512) (s : State) :
    (tierWinDestroy slot atMeridian e s).s.pending = s.pending ∧
    (tierWinDestroy slot atMeridian e s).s.ticks = s.ticks ∧
    (tierWinDestroy slot atMeridian e s).s.coldResets = s.coldResets ∧
    (tierWinDestroy slot atMeridian e s).s.fuse = s.fuse ∧ (tierWinDestroy slot atMeridian e s).s.power = s.power ∧
    (tierWinDestroy slot atMeridian e s).s.cores = s.cores ∧
    (tierWinDestroy slot atMeridian e s).s.pages = s.pages ∧
    (tierWinDestroy slot atMeridian e s).s.counters = s.counters ∧
    (tierWinDestroy slot atMeridian e s).s.dwt = s.dwt ∧ (tierWinDestroy slot atMeridian e s).s.col = s.col ∧
    (tierWinDestroy slot atMeridian e s).s.nets = s.nets ∧ (tierWinDestroy slot atMeridian e s).s.hif = s.hif := by
  unfold tierWinDestroy
  dsimp only
  (repeat' split) <;> simp_all

@[simp] theorem tierCommand_same (slot encl : Nat) (atMeridian started : Bool) (e : BitVec 512) (s : State) :
    (tierCommand slot encl atMeridian started e s).s.pending = s.pending ∧
    (tierCommand slot encl atMeridian started e s).s.ticks = s.ticks ∧
    (tierCommand slot encl atMeridian started e s).s.coldResets = s.coldResets ∧
    (tierCommand slot encl atMeridian started e s).s.fuse = s.fuse ∧
    (tierCommand slot encl atMeridian started e s).s.power = s.power ∧
    (tierCommand slot encl atMeridian started e s).s.cores = s.cores ∧
    (tierCommand slot encl atMeridian started e s).s.pages = s.pages ∧
    (tierCommand slot encl atMeridian started e s).s.counters = s.counters ∧
    (tierCommand slot encl atMeridian started e s).s.dwt = s.dwt ∧
    (tierCommand slot encl atMeridian started e s).s.col = s.col ∧
    (tierCommand slot encl atMeridian started e s).s.nets = s.nets ∧
    (tierCommand slot encl atMeridian started e s).s.hif = s.hif := by
  unfold tierCommand
  (repeat' split) <;> simp

@[simp] theorem fillStart_same (slot view : Nat) (s : State) :
    (fillStart slot view s).pending = s.pending ∧ (fillStart slot view s).fresh = s.fresh ∧
    (fillStart slot view s).out = s.out ∧ (fillStart slot view s).ticks = s.ticks ∧
    (fillStart slot view s).coldResets = s.coldResets ∧ (fillStart slot view s).fuse = s.fuse ∧
    (fillStart slot view s).modl = s.modl ∧ (fillStart slot view s).power = s.power ∧
    (fillStart slot view s).cores = s.cores ∧ (fillStart slot view s).ctxs = s.ctxs ∧
    (fillStart slot view s).pages = s.pages ∧ (fillStart slot view s).counters = s.counters ∧
    (fillStart slot view s).dwt = s.dwt ∧ (fillStart slot view s).col = s.col ∧
    (fillStart slot view s).nets = s.nets ∧ (fillStart slot view s).sec = s.sec ∧
    (fillStart slot view s).rcv = s.rcv ∧ (fillStart slot view s).mgt = s.mgt ∧ (fillStart slot view s).hif = s.hif := by
  unfold fillStart
  (repeat' split) <;> simp

@[simp] theorem entryLanded_same (slot view : Nat) (s : State) :
    (entryLanded slot view s).pending = s.pending ∧ (entryLanded slot view s).ticks = s.ticks ∧
    (entryLanded slot view s).coldResets = s.coldResets ∧ (entryLanded slot view s).fuse = s.fuse ∧
    (entryLanded slot view s).power = s.power ∧ (entryLanded slot view s).cores = s.cores ∧
    (entryLanded slot view s).pages = s.pages ∧ (entryLanded slot view s).dwt = s.dwt ∧
    (entryLanded slot view s).col = s.col ∧ (entryLanded slot view s).nets = s.nets ∧
    (entryLanded slot view s).sec = s.sec ∧ (entryLanded slot view s).rcv = s.rcv ∧
    (entryLanded slot view s).hif = s.hif := by
  unfold entryLanded
  (repeat' split) <;> simp

@[simp] theorem runahead_same (slot view first : Nat) (a1 : Nat) (a2 : Nat) (s : State) :
    (runahead slot view first a1 a2 s).pending = s.pending ∧ (runahead slot view first a1 a2 s).ticks = s.ticks ∧
    (runahead slot view first a1 a2 s).coldResets = s.coldResets ∧
    (runahead slot view first a1 a2 s).fuse = s.fuse ∧ (runahead slot view first a1 a2 s).power = s.power ∧
    (runahead slot view first a1 a2 s).cores = s.cores ∧ (runahead slot view first a1 a2 s).ctxs = s.ctxs ∧
    (runahead slot view first a1 a2 s).pages = s.pages ∧ (runahead slot view first a1 a2 s).counters = s.counters ∧
    (runahead slot view first a1 a2 s).dwt = s.dwt ∧ (runahead slot view first a1 a2 s).col = s.col ∧
    (runahead slot view first a1 a2 s).nets = s.nets ∧ (runahead slot view first a1 a2 s).sec = s.sec ∧
    (runahead slot view first a1 a2 s).rcv = s.rcv ∧ (runahead slot view first a1 a2 s).hif = s.hif := by
  induction a1 generalizing a2 s with
  | zero => simp [runahead]
  | succ n ih =>
    simp only [runahead]
    (repeat' split) <;> simp [ih]

@[simp] theorem aheadFetch_same (slot view page : Nat) (s : State) :
    (aheadFetch slot view page s).pending = s.pending ∧ (aheadFetch slot view page s).ticks = s.ticks ∧
    (aheadFetch slot view page s).coldResets = s.coldResets ∧ (aheadFetch slot view page s).fuse = s.fuse ∧
    (aheadFetch slot view page s).power = s.power ∧ (aheadFetch slot view page s).cores = s.cores ∧
    (aheadFetch slot view page s).ctxs = s.ctxs ∧ (aheadFetch slot view page s).pages = s.pages ∧
    (aheadFetch slot view page s).counters = s.counters ∧ (aheadFetch slot view page s).dwt = s.dwt ∧
    (aheadFetch slot view page s).col = s.col ∧ (aheadFetch slot view page s).nets = s.nets ∧
    (aheadFetch slot view page s).sec = s.sec ∧ (aheadFetch slot view page s).rcv = s.rcv ∧
    (aheadFetch slot view page s).hif = s.hif := by
  unfold aheadFetch
  (repeat' split) <;> simp

@[simp] theorem patrol_same (corrected : List Nat) (failed : List Nat) (s : State) :
    (patrol corrected failed s).pending = s.pending ∧ (patrol corrected failed s).ticks = s.ticks ∧
    (patrol corrected failed s).coldResets = s.coldResets ∧ (patrol corrected failed s).fuse = s.fuse ∧
    (patrol corrected failed s).power = s.power ∧ (patrol corrected failed s).cores = s.cores ∧
    (patrol corrected failed s).ctxs = s.ctxs ∧ (patrol corrected failed s).pages = s.pages ∧
    (patrol corrected failed s).counters = s.counters ∧ (patrol corrected failed s).dwt = s.dwt ∧
    (patrol corrected failed s).col = s.col ∧ (patrol corrected failed s).nets = s.nets ∧
    (patrol corrected failed s).sec = s.sec ∧ (patrol corrected failed s).rcv = s.rcv ∧
    (patrol corrected failed s).hif = s.hif := by
  simp [patrol]

@[simp] theorem displaceObj_same (o : AllocObj) (s : State) :
    (displaceObj o s).pending = s.pending ∧ (displaceObj o s).ticks = s.ticks ∧
    (displaceObj o s).coldResets = s.coldResets ∧ (displaceObj o s).fuse = s.fuse ∧
    (displaceObj o s).power = s.power ∧ (displaceObj o s).cores = s.cores ∧ (displaceObj o s).ctxs = s.ctxs ∧
    (displaceObj o s).pages = s.pages ∧ (displaceObj o s).counters = s.counters ∧ (displaceObj o s).dwt = s.dwt ∧
    (displaceObj o s).col = s.col ∧ (displaceObj o s).nets = s.nets ∧ (displaceObj o s).sec = s.sec ∧
    (displaceObj o s).rcv = s.rcv ∧ (displaceObj o s).hif = s.hif := by
  simp [displaceObj]

@[simp] theorem poisonFrame_same (f : Nat) (s : State) :
    (poisonFrame f s).pending = s.pending ∧ (poisonFrame f s).fresh = s.fresh ∧ (poisonFrame f s).out = s.out ∧
    (poisonFrame f s).ticks = s.ticks ∧ (poisonFrame f s).coldResets = s.coldResets ∧
    (poisonFrame f s).fuse = s.fuse ∧ (poisonFrame f s).modl = s.modl ∧ (poisonFrame f s).power = s.power ∧
    (poisonFrame f s).cores = s.cores ∧ (poisonFrame f s).ctxs = s.ctxs ∧ (poisonFrame f s).pages = s.pages ∧
    (poisonFrame f s).counters = s.counters ∧ (poisonFrame f s).dwt = s.dwt ∧ (poisonFrame f s).col = s.col ∧
    (poisonFrame f s).nets = s.nets ∧ (poisonFrame f s).sec = s.sec ∧ (poisonFrame f s).rcv = s.rcv ∧
    (poisonFrame f s).mgt = s.mgt ∧ (poisonFrame f s).hif = s.hif := by
  simp [poisonFrame]

@[simp] theorem retirePage_same (s : State) (k : Nat × Pte) :
    (retirePage s k).pending = s.pending ∧ (retirePage s k).ticks = s.ticks ∧
    (retirePage s k).coldResets = s.coldResets ∧ (retirePage s k).fuse = s.fuse ∧
    (retirePage s k).power = s.power ∧ (retirePage s k).cores = s.cores ∧ (retirePage s k).ctxs = s.ctxs ∧
    (retirePage s k).pages = s.pages ∧ (retirePage s k).counters = s.counters ∧ (retirePage s k).dwt = s.dwt ∧
    (retirePage s k).col = s.col ∧ (retirePage s k).nets = s.nets ∧ (retirePage s k).sec = s.sec ∧
    (retirePage s k).rcv = s.rcv ∧ (retirePage s k).hif = s.hif := by
  unfold retirePage
  dsimp only
  (repeat' split) <;> simp_all

@[simp] theorem retarget_same (s : State) (m : Move) :
    (retarget s m).pending = s.pending ∧ (retarget s m).ticks = s.ticks ∧
    (retarget s m).coldResets = s.coldResets ∧ (retarget s m).fuse = s.fuse ∧ (retarget s m).power = s.power ∧
    (retarget s m).cores = s.cores ∧ (retarget s m).ctxs = s.ctxs ∧ (retarget s m).pages = s.pages ∧
    (retarget s m).counters = s.counters ∧ (retarget s m).dwt = s.dwt ∧ (retarget s m).col = s.col ∧
    (retarget s m).nets = s.nets ∧ (retarget s m).sec = s.sec ∧ (retarget s m).rcv = s.rcv ∧
    (retarget s m).hif = s.hif := by
  unfold retarget
  dsimp only
  (repeat' split) <;> simp

@[simp] theorem retireCache_same (gone : List Nat) (s : State) (k : Nat) :
    (retireCache gone s k).pending = s.pending ∧ (retireCache gone s k).fresh = s.fresh ∧
    (retireCache gone s k).out = s.out ∧ (retireCache gone s k).ticks = s.ticks ∧
    (retireCache gone s k).coldResets = s.coldResets ∧ (retireCache gone s k).fuse = s.fuse ∧
    (retireCache gone s k).modl = s.modl ∧ (retireCache gone s k).power = s.power ∧
    (retireCache gone s k).cores = s.cores ∧ (retireCache gone s k).ctxs = s.ctxs ∧
    (retireCache gone s k).pages = s.pages ∧ (retireCache gone s k).counters = s.counters ∧
    (retireCache gone s k).dwt = s.dwt ∧ (retireCache gone s k).col = s.col ∧
    (retireCache gone s k).nets = s.nets ∧ (retireCache gone s k).sec = s.sec ∧
    (retireCache gone s k).rcv = s.rcv ∧ (retireCache gone s k).mgt = s.mgt ∧ (retireCache gone s k).hif = s.hif := by
  unfold retireCache
  (repeat' split) <;> simp

@[simp] theorem retireCaches_same (gone : List Nat) (s : State) :
    (retireCaches gone s).pending = s.pending ∧ (retireCaches gone s).fresh = s.fresh ∧
    (retireCaches gone s).out = s.out ∧ (retireCaches gone s).ticks = s.ticks ∧
    (retireCaches gone s).coldResets = s.coldResets ∧ (retireCaches gone s).fuse = s.fuse ∧
    (retireCaches gone s).modl = s.modl ∧ (retireCaches gone s).power = s.power ∧
    (retireCaches gone s).cores = s.cores ∧ (retireCaches gone s).ctxs = s.ctxs ∧
    (retireCaches gone s).pages = s.pages ∧ (retireCaches gone s).counters = s.counters ∧
    (retireCaches gone s).dwt = s.dwt ∧ (retireCaches gone s).col = s.col ∧ (retireCaches gone s).nets = s.nets ∧
    (retireCaches gone s).sec = s.sec ∧ (retireCaches gone s).rcv = s.rcv ∧ (retireCaches gone s).mgt = s.mgt ∧
    (retireCaches gone s).hif = s.hif := by
  simp [retireCaches]

@[simp] theorem retireRegion_same (region : List Nat) (s : State) :
    (retireRegion region s).pending = s.pending ∧ (retireRegion region s).ticks = s.ticks ∧
    (retireRegion region s).coldResets = s.coldResets ∧ (retireRegion region s).fuse = s.fuse ∧
    (retireRegion region s).power = s.power ∧ (retireRegion region s).cores = s.cores ∧
    (retireRegion region s).ctxs = s.ctxs ∧ (retireRegion region s).pages = s.pages ∧
    (retireRegion region s).counters = s.counters ∧ (retireRegion region s).dwt = s.dwt ∧
    (retireRegion region s).col = s.col ∧ (retireRegion region s).nets = s.nets ∧
    (retireRegion region s).sec = s.sec ∧ (retireRegion region s).rcv = s.rcv ∧ (retireRegion region s).hif = s.hif := by
  simp [retireRegion]

@[simp] theorem displacedReturn_same (slot base : Nat) (s : State) :
    (displacedReturn slot base s).pending = s.pending ∧ (displacedReturn slot base s).fresh = s.fresh ∧
    (displacedReturn slot base s).out = s.out ∧ (displacedReturn slot base s).ticks = s.ticks ∧
    (displacedReturn slot base s).coldResets = s.coldResets ∧ (displacedReturn slot base s).fuse = s.fuse ∧
    (displacedReturn slot base s).modl = s.modl ∧ (displacedReturn slot base s).power = s.power ∧
    (displacedReturn slot base s).cores = s.cores ∧ (displacedReturn slot base s).ctxs = s.ctxs ∧
    (displacedReturn slot base s).pages = s.pages ∧ (displacedReturn slot base s).counters = s.counters ∧
    (displacedReturn slot base s).dwt = s.dwt ∧ (displacedReturn slot base s).col = s.col ∧
    (displacedReturn slot base s).nets = s.nets ∧ (displacedReturn slot base s).sec = s.sec ∧
    (displacedReturn slot base s).rcv = s.rcv ∧ (displacedReturn slot base s).mgt = s.mgt ∧
    (displacedReturn slot base s).hif = s.hif := by
  unfold displacedReturn
  (repeat' split) <;> simp

@[simp] theorem exchangePage_same (slot vp vq : Nat) (s : State) :
    (exchangePage slot vp vq s).pending = s.pending ∧ (exchangePage slot vp vq s).fresh = s.fresh ∧
    (exchangePage slot vp vq s).out = s.out ∧ (exchangePage slot vp vq s).ticks = s.ticks ∧
    (exchangePage slot vp vq s).coldResets = s.coldResets ∧ (exchangePage slot vp vq s).fuse = s.fuse ∧
    (exchangePage slot vp vq s).modl = s.modl ∧ (exchangePage slot vp vq s).power = s.power ∧
    (exchangePage slot vp vq s).cores = s.cores ∧ (exchangePage slot vp vq s).ctxs = s.ctxs ∧
    (exchangePage slot vp vq s).pages = s.pages ∧ (exchangePage slot vp vq s).counters = s.counters ∧
    (exchangePage slot vp vq s).dwt = s.dwt ∧ (exchangePage slot vp vq s).col = s.col ∧
    (exchangePage slot vp vq s).nets = s.nets ∧ (exchangePage slot vp vq s).sec = s.sec ∧
    (exchangePage slot vp vq s).rcv = s.rcv ∧ (exchangePage slot vp vq s).mgt = s.mgt ∧
    (exchangePage slot vp vq s).hif = s.hif := by
  unfold exchangePage
  (repeat' split) <;> simp

@[simp] theorem exchangeObj_same (o : AllocObj) (s : State) :
    (exchangeObj o s).pending = s.pending ∧ (exchangeObj o s).fresh = s.fresh ∧ (exchangeObj o s).out = s.out ∧
    (exchangeObj o s).ticks = s.ticks ∧ (exchangeObj o s).coldResets = s.coldResets ∧
    (exchangeObj o s).fuse = s.fuse ∧ (exchangeObj o s).modl = s.modl ∧ (exchangeObj o s).power = s.power ∧
    (exchangeObj o s).cores = s.cores ∧ (exchangeObj o s).ctxs = s.ctxs ∧ (exchangeObj o s).pages = s.pages ∧
    (exchangeObj o s).counters = s.counters ∧ (exchangeObj o s).dwt = s.dwt ∧ (exchangeObj o s).col = s.col ∧
    (exchangeObj o s).nets = s.nets ∧ (exchangeObj o s).sec = s.sec ∧ (exchangeObj o s).rcv = s.rcv ∧
    (exchangeObj o s).mgt = s.mgt ∧ (exchangeObj o s).hif = s.hif := by
  unfold exchangeObj
  (repeat' split) <;> simp

@[simp] theorem exchangeParams_same (slot : Nat) (s : State) :
    (exchangeParams slot s).pending = s.pending ∧ (exchangeParams slot s).fresh = s.fresh ∧
    (exchangeParams slot s).out = s.out ∧ (exchangeParams slot s).ticks = s.ticks ∧
    (exchangeParams slot s).coldResets = s.coldResets ∧ (exchangeParams slot s).fuse = s.fuse ∧
    (exchangeParams slot s).modl = s.modl ∧ (exchangeParams slot s).power = s.power ∧
    (exchangeParams slot s).cores = s.cores ∧ (exchangeParams slot s).ctxs = s.ctxs ∧
    (exchangeParams slot s).pages = s.pages ∧ (exchangeParams slot s).counters = s.counters ∧
    (exchangeParams slot s).dwt = s.dwt ∧ (exchangeParams slot s).col = s.col ∧
    (exchangeParams slot s).nets = s.nets ∧ (exchangeParams slot s).sec = s.sec ∧
    (exchangeParams slot s).rcv = s.rcv ∧ (exchangeParams slot s).mgt = s.mgt ∧ (exchangeParams slot s).hif = s.hif := by
  simp [exchangeParams]

end Sys2Proof.Machine
end

