-- ==== Sys2Proof/Laws/MemTiers.lean ====
section
/-! SUPPORT. Memory keeps its canonical form through the definitions of Machine/Tiers.lean. -/

namespace Sys2Proof.Machine

@[simp] theorem State.tagFrame_mem (s : State) (encl frame : Nat)
    (hm : Memory.wf s.tiers.mem = true) :
    Memory.wf (State.tagFrame s encl frame).tiers.mem = true := by
  simp (maxDischargeDepth := 12) [-State.ite_tiers, State.tagFrame, hm]

@[simp] theorem mapPools_mem (slot encl : Nat) (vp : Nat) (l : List Pool) (s : State) (hm : Memory.wf s.tiers.mem = true) :
    Memory.wf (mapPools slot encl vp l s).tiers.mem = true := by
  induction l generalizing vp s with
  | nil => simp [mapPools, hm]
  | cons p l ih =>
    unfold mapPools
    dsimp only
    apply ih
    simp (maxDischargeDepth := 12) [hm]

@[simp] theorem tierAlloc_mem (slot encl : Nat) (e : BitVec 512) (s : State)
    (hm : Memory.wf s.tiers.mem = true) :
    Memory.wf (tierAlloc slot encl e s).s.tiers.mem = true := by
  unfold tierAlloc
  dsimp only
  (repeat' split) <;> simp (maxDischargeDepth := 12) [-State.ite_tiers, hm]

@[simp] theorem unmapRange_mem (slot : Nat) (o : AllocObj) (va pages : Nat) (s : State)
    (hm : Memory.wf s.tiers.mem = true) :
    Memory.wf (unmapRange slot o va pages s).tiers.mem = true := by
  simp +contextual (maxDischargeDepth := 12) [-State.ite_tiers, unmapRange, hm]

@[simp] theorem endObj_mem (o : AllocObj) (s : State)
    (hm : Memory.wf s.tiers.mem = true) :
    Memory.wf (endObj o s).tiers.mem = true := by
  simp (maxDischargeDepth := 12) [-State.ite_tiers, endObj, hm]

@[simp] theorem freeRange_mem (slot va pages : Nat) (s : State)
    (hm : Memory.wf s.tiers.mem = true) :
    Memory.wf (freeRange slot va pages s).tiers.mem = true := by
  unfold freeRange
  (repeat' split) <;> simp (maxDischargeDepth := 12) [-State.ite_tiers, hm]

@[simp] theorem tierFree_mem (slot : Nat) (atMeridian : Bool) (e : BitVec 512) (s : State)
    (hm : Memory.wf s.tiers.mem = true) :
    Memory.wf (tierFree slot atMeridian e s).s.tiers.mem = true := by
  unfold tierFree
  dsimp only
  (repeat' split) <;> simp (maxDischargeDepth := 12) [-State.ite_tiers, hm]

@[simp] theorem State.stayPut_mem (s : State) (m : Move)
    (hm : Memory.wf s.tiers.mem = true) :
    Memory.wf (State.stayPut s m).tiers.mem = true := by
  unfold State.stayPut
  (repeat' split) <;> simp (maxDischargeDepth := 12) [-State.ite_tiers, hm]

@[simp] theorem cancelMoves_mem (f : Move → Bool) (s : State)
    (hm : Memory.wf s.tiers.mem = true) :
    Memory.wf (cancelMoves f s).tiers.mem = true := by
  simp +contextual (maxDischargeDepth := 12) [-State.ite_tiers, cancelMoves, hm]

@[simp] theorem endRebalance_mem (slot : Nat) (s : State)
    (hm : Memory.wf s.tiers.mem = true) :
    Memory.wf (endRebalance slot s).tiers.mem = true := by
  simp (maxDischargeDepth := 12) [-State.ite_tiers, endRebalance, hm]

@[simp] theorem reserveMoves_mem (slot : Nat) (retire : Bool) (rebal : Bool) (a1 : List (Nat × Pool)) (s : State)
    (hm : Memory.wf s.tiers.mem = true) :
    Memory.wf (reserveMoves slot retire rebal a1 s).tiers.mem = true := by
  induction a1 generalizing s with
  | nil => simp (maxDischargeDepth := 12) [-State.ite_tiers, reserveMoves, hm]
  | cons x l ih =>
    simp only [reserveMoves]
    (repeat' split) <;> simp (maxDischargeDepth := 12) [-State.ite_tiers, ih, hm]

@[simp] theorem tierMigrate_mem (slot encl : Nat) (started : Bool) (e : BitVec 512) (s0 : State)
    (hm : Memory.wf s0.tiers.mem = true) :
    Memory.wf (tierMigrate slot encl started e s0).s.tiers.mem = true := by
  unfold tierMigrate
  dsimp only
  (repeat' split) <;> simp (maxDischargeDepth := 12) [-State.ite_tiers, hm]

@[simp] theorem endMove_mem (m : Move) (s : State)
    (hm : Memory.wf s.tiers.mem = true) :
    Memory.wf (endMove m s).tiers.mem = true := by
  unfold endMove
  (repeat' split) <;> simp (maxDischargeDepth := 12) [-State.ite_tiers, hm]

@[simp] theorem beginMove_mem (s : State)
    (hm : Memory.wf s.tiers.mem = true) :
    Memory.wf (beginMove s).tiers.mem = true := by
  unfold beginMove
  (repeat' split) <;> simp (maxDischargeDepth := 12) [-State.ite_tiers, hm]

@[simp] theorem rebalance_mem (s : State)
    (hm : Memory.wf s.tiers.mem = true) :
    Memory.wf (rebalance s).tiers.mem = true := by
  unfold rebalance
  dsimp only
  (repeat' split) <;> simp (maxDischargeDepth := 12) [-State.ite_tiers, hm]

@[simp] theorem pageMove_mem (s : State)
    (hm : Memory.wf s.tiers.mem = true) :
    Memory.wf (pageMove s).tiers.mem = true := by
  unfold pageMove
  (repeat' split) <;> simp (maxDischargeDepth := 12) [-State.ite_tiers, hm]

@[simp] theorem takeFrames_mem (slot encl core : Nat) (view : Option Nat) (a1 a2 : Nat) (s : State)
    (hm : Memory.wf s.tiers.mem = true) : Memory.wf (takeFrames slot encl core view a1 a2 s).1.tiers.mem = true := by
  induction a1 generalizing a2 s with
  | zero => simp [takeFrames, hm]
  | succ n ih =>
    unfold takeFrames
    dsimp only
    apply ih
    split <;> simp (maxDischargeDepth := 12) [hm]

@[simp] theorem tierWinCreate_mem (slot encl : Nat) (e : BitVec 512) (s : State)
    (hm : Memory.wf s.tiers.mem = true) :
    Memory.wf (tierWinCreate slot encl e s).s.tiers.mem = true := by
  unfold tierWinCreate
  dsimp only
  (repeat' split) <;> simp (maxDischargeDepth := 12) [-State.ite_tiers, hm]

@[simp] theorem writeWinRecords_mem (slot : Nat) (s : State)
    (hm : Memory.wf s.tiers.mem = true) :
    Memory.wf (writeWinRecords slot s).tiers.mem = true := by
  simp +contextual (maxDischargeDepth := 12) [-State.ite_tiers, writeWinRecords, hm]

@[simp] theorem destroyWin_mem (w : SWin) (s : State)
    (hm : Memory.wf s.tiers.mem = true) :
    Memory.wf (destroyWin w s).tiers.mem = true := by
  simp +contextual (maxDischargeDepth := 12) [-State.ite_tiers, destroyWin, hm]

@[simp] theorem tierWinDestroy_mem (slot : Nat) (atMeridian : Bool) (e : BitVec 512) (s : State)
    (hm : Memory.wf s.tiers.mem = true) :
    Memory.wf (tierWinDestroy slot atMeridian e s).s.tiers.mem = true := by
  unfold tierWinDestroy
  dsimp only
  (repeat' split) <;> simp (maxDischargeDepth := 12) [-State.ite_tiers, hm]

@[simp] theorem tierCommand_mem (slot encl : Nat) (atMeridian started : Bool) (e : BitVec 512) (s : State)
    (hm : Memory.wf s.tiers.mem = true) :
    Memory.wf (tierCommand slot encl atMeridian started e s).s.tiers.mem = true := by
  unfold tierCommand
  (repeat' split) <;> simp (maxDischargeDepth := 12) [-State.ite_tiers, hm]

@[simp] theorem fillStart_mem (slot view : Nat) (s : State)
    (hm : Memory.wf s.tiers.mem = true) :
    Memory.wf (fillStart slot view s).tiers.mem = true := by
  unfold fillStart
  (repeat' split) <;> simp (maxDischargeDepth := 12) [-State.ite_tiers, hm]

@[simp] theorem entryLanded_mem (slot view : Nat) (s : State)
    (hm : Memory.wf s.tiers.mem = true) :
    Memory.wf (entryLanded slot view s).tiers.mem = true := by
  unfold entryLanded
  dsimp only
  (repeat' split) <;> simp +contextual (maxDischargeDepth := 12) [-State.ite_tiers, hm]

@[simp] theorem runahead_mem (slot view first : Nat) (a1 a2 : Nat) (s : State) (hm : Memory.wf s.tiers.mem = true) :
    Memory.wf (runahead slot view first a1 a2 s).tiers.mem = true := by
  induction a1 generalizing a2 s with
  | zero => simp [runahead, hm]
  | succ n ih =>
    unfold runahead
    dsimp only
    (repeat' split) <;> first | exact hm | exact ih _ _ hm | exact ih _ _ (by simp (maxDischargeDepth := 12) [hm]) | simp (maxDischargeDepth := 12) [hm]

@[simp] theorem aheadFetch_mem (slot view page : Nat) (s : State)
    (hm : Memory.wf s.tiers.mem = true) :
    Memory.wf (aheadFetch slot view page s).tiers.mem = true := by
  unfold aheadFetch
  (repeat' split) <;> simp (maxDischargeDepth := 12) [-State.ite_tiers, hm]

@[simp] theorem patrol_mem (corrected : List Nat) (failed : List Nat) (s : State)
    (hm : Memory.wf s.tiers.mem = true) :
    Memory.wf (patrol corrected failed s).tiers.mem = true := by
  simp +contextual (maxDischargeDepth := 12) [-State.ite_tiers, patrol, hm]

@[simp] theorem displaceObj_mem (o : AllocObj) (s : State)
    (hm : Memory.wf s.tiers.mem = true) :
    Memory.wf (displaceObj o s).tiers.mem = true := by
  simp (maxDischargeDepth := 12) [-State.ite_tiers, displaceObj, hm]

@[simp] theorem poisonFrame_mem (f : Nat) (s : State)
    (hm : Memory.wf s.tiers.mem = true) :
    Memory.wf (poisonFrame f s).tiers.mem = true := by
  simp (maxDischargeDepth := 12) [-State.ite_tiers, poisonFrame, hm]

@[simp] theorem retirePage_mem (s : State) (k : Nat × Pte)
    (hm : Memory.wf s.tiers.mem = true) :
    Memory.wf (retirePage s k).tiers.mem = true := by
  unfold retirePage
  dsimp only
  (repeat' split) <;> simp (maxDischargeDepth := 12) [-State.ite_tiers, hm]

@[simp] theorem retarget_mem (s : State) (m : Move)
    (hm : Memory.wf s.tiers.mem = true) :
    Memory.wf (retarget s m).tiers.mem = true := by
  unfold retarget
  dsimp only
  (repeat' split) <;> simp (maxDischargeDepth := 12) [-State.ite_tiers, hm]

@[simp] theorem retireCache_mem (gone : List Nat) (s : State) (k : Nat)
    (hm : Memory.wf s.tiers.mem = true) :
    Memory.wf (retireCache gone s k).tiers.mem = true := by
  unfold retireCache
  (repeat' split) <;> simp (maxDischargeDepth := 12) [-State.ite_tiers, hm]

@[simp] theorem retireCaches_mem (gone : List Nat) (s : State) (hm : Memory.wf s.tiers.mem = true) :
    Memory.wf (retireCaches gone s).tiers.mem = true := by
  unfold retireCaches
  dsimp only
  refine Memory.wf_fold _ _ _ ?_ fun u f hu => poisonFrame_mem _ _ hu
  exact Memory.wf_fold _ _ _ hm fun u _ hu => Memory.wf_fold _ _ _ hu fun v k hv => retireCache_mem _ _ _ hv

@[simp] theorem retireRegion_mem (region : List Nat) (s : State)
    (hm : Memory.wf s.tiers.mem = true) :
    Memory.wf (retireRegion region s).tiers.mem = true := by
  simp +contextual (maxDischargeDepth := 12) [-State.ite_tiers, retireRegion, hm]

@[simp] theorem displacedReturn_mem (slot base : Nat) (s : State)
    (hm : Memory.wf s.tiers.mem = true) :
    Memory.wf (displacedReturn slot base s).tiers.mem = true := by
  unfold displacedReturn
  (repeat' split) <;> simp (maxDischargeDepth := 12) [-State.ite_tiers, hm]

@[simp] theorem exchangePage_mem (slot vp vq : Nat) (s : State)
    (hm : Memory.wf s.tiers.mem = true) :
    Memory.wf (exchangePage slot vp vq s).tiers.mem = true := by
  unfold exchangePage
  (repeat' split) <;> simp (maxDischargeDepth := 12) [-State.ite_tiers, hm]

@[simp] theorem exchangeObj_mem (o : AllocObj) (s : State) (hm : Memory.wf s.tiers.mem = true) :
    Memory.wf (exchangeObj o s).tiers.mem = true := by
  unfold exchangeObj
  split
  · refine Memory.wf_fold _ _ _ hm fun u vp hu => ?_
    split
    · exact exchangePage_mem _ _ _ _ hu
    · exact hu
  · exact hm

@[simp] theorem exchangeParams_mem (slot : Nat) (s : State) (hm : Memory.wf s.tiers.mem = true) :
    Memory.wf (exchangeParams slot s).tiers.mem = true :=
  Memory.wf_fold _ _ _ hm fun _ _ hu => exchangeObj_mem _ _ hu

end Sys2Proof.Machine
end

