-- ==== Sys2Proof/Laws/SamePorts.lean ====
section
/-! SUPPORT. What the definitions of Machine/Ports.lean leave alone. -/

namespace Sys2Proof.Machine

@[simp] theorem State.countNet_same (s : State) (n i k : Nat) :
    (State.countNet s n i k).pending = s.pending ∧ (State.countNet s n i k).fresh = s.fresh ∧
    (State.countNet s n i k).out = s.out ∧ (State.countNet s n i k).ticks = s.ticks ∧
    (State.countNet s n i k).coldResets = s.coldResets ∧ (State.countNet s n i k).fuse = s.fuse ∧
    (State.countNet s n i k).modl = s.modl ∧ (State.countNet s n i k).power = s.power ∧
    (State.countNet s n i k).cores = s.cores ∧ (State.countNet s n i k).ctxs = s.ctxs ∧
    (State.countNet s n i k).pages = s.pages ∧ (State.countNet s n i k).counters = s.counters ∧
    (State.countNet s n i k).tiers = s.tiers ∧ (State.countNet s n i k).dwt = s.dwt ∧
    (State.countNet s n i k).col = s.col ∧ (State.countNet s n i k).sec = s.sec ∧
    (State.countNet s n i k).rcv = s.rcv ∧ (State.countNet s n i k).mgt = s.mgt ∧
    (State.countNet s n i k).hif = s.hif := by
  simp [State.countNet]

@[simp] theorem macSend_same (n opcode : Nat) (fields : List Nat) (s : State) :
    (macSend n opcode fields s).pending = s.pending ∧ (macSend n opcode fields s).fresh = s.fresh ∧
    (macSend n opcode fields s).ticks = s.ticks ∧ (macSend n opcode fields s).coldResets = s.coldResets ∧
    (macSend n opcode fields s).fuse = s.fuse ∧ (macSend n opcode fields s).modl = s.modl ∧
    (macSend n opcode fields s).power = s.power ∧ (macSend n opcode fields s).cores = s.cores ∧
    (macSend n opcode fields s).ctxs = s.ctxs ∧ (macSend n opcode fields s).pages = s.pages ∧
    (macSend n opcode fields s).counters = s.counters ∧ (macSend n opcode fields s).tiers = s.tiers ∧
    (macSend n opcode fields s).dwt = s.dwt ∧ (macSend n opcode fields s).col = s.col ∧
    (macSend n opcode fields s).sec = s.sec ∧ (macSend n opcode fields s).rcv = s.rcv ∧
    (macSend n opcode fields s).mgt = s.mgt ∧ (macSend n opcode fields s).hif = s.hif := by
  simp [macSend]

@[simp] theorem sendFc_same (n cls time : Nat) (s : State) :
    (sendFc n cls time s).pending = s.pending ∧ (sendFc n cls time s).fresh = s.fresh ∧
    (sendFc n cls time s).ticks = s.ticks ∧ (sendFc n cls time s).coldResets = s.coldResets ∧
    (sendFc n cls time s).fuse = s.fuse ∧ (sendFc n cls time s).modl = s.modl ∧
    (sendFc n cls time s).power = s.power ∧ (sendFc n cls time s).cores = s.cores ∧
    (sendFc n cls time s).ctxs = s.ctxs ∧ (sendFc n cls time s).pages = s.pages ∧
    (sendFc n cls time s).counters = s.counters ∧ (sendFc n cls time s).tiers = s.tiers ∧
    (sendFc n cls time s).dwt = s.dwt ∧ (sendFc n cls time s).col = s.col ∧ (sendFc n cls time s).sec = s.sec ∧
    (sendFc n cls time s).rcv = s.rcv ∧ (sendFc n cls time s).mgt = s.mgt ∧ (sendFc n cls time s).hif = s.hif := by
  simp [sendFc]

@[simp] theorem setLevel_same (n cls level : Nat) (s : State) :
    (setLevel n cls level s).pending = s.pending ∧ (setLevel n cls level s).fresh = s.fresh ∧
    (setLevel n cls level s).out = s.out ∧ (setLevel n cls level s).ticks = s.ticks ∧
    (setLevel n cls level s).coldResets = s.coldResets ∧ (setLevel n cls level s).fuse = s.fuse ∧
    (setLevel n cls level s).modl = s.modl ∧ (setLevel n cls level s).power = s.power ∧
    (setLevel n cls level s).cores = s.cores ∧ (setLevel n cls level s).ctxs = s.ctxs ∧
    (setLevel n cls level s).pages = s.pages ∧ (setLevel n cls level s).counters = s.counters ∧
    (setLevel n cls level s).tiers = s.tiers ∧ (setLevel n cls level s).dwt = s.dwt ∧
    (setLevel n cls level s).col = s.col ∧ (setLevel n cls level s).sec = s.sec ∧
    (setLevel n cls level s).rcv = s.rcv ∧ (setLevel n cls level s).mgt = s.mgt ∧
    (setLevel n cls level s).hif = s.hif := by
  simp [setLevel]

@[simp] theorem xoffAt_same (n cls level : Nat) (s : State) :
    (xoffAt n cls level s).pending = s.pending ∧ (xoffAt n cls level s).fresh = s.fresh ∧
    (xoffAt n cls level s).ticks = s.ticks ∧ (xoffAt n cls level s).coldResets = s.coldResets ∧
    (xoffAt n cls level s).fuse = s.fuse ∧ (xoffAt n cls level s).modl = s.modl ∧
    (xoffAt n cls level s).power = s.power ∧ (xoffAt n cls level s).cores = s.cores ∧
    (xoffAt n cls level s).ctxs = s.ctxs ∧ (xoffAt n cls level s).pages = s.pages ∧
    (xoffAt n cls level s).counters = s.counters ∧ (xoffAt n cls level s).tiers = s.tiers ∧
    (xoffAt n cls level s).dwt = s.dwt ∧ (xoffAt n cls level s).col = s.col ∧ (xoffAt n cls level s).sec = s.sec ∧
    (xoffAt n cls level s).rcv = s.rcv ∧ (xoffAt n cls level s).mgt = s.mgt ∧ (xoffAt n cls level s).hif = s.hif := by
  simp [xoffAt]

@[simp] theorem xon_same (n cls level : Nat) (s : State) :
    (xon n cls level s).pending = s.pending ∧ (xon n cls level s).fresh = s.fresh ∧
    (xon n cls level s).ticks = s.ticks ∧ (xon n cls level s).coldResets = s.coldResets ∧
    (xon n cls level s).fuse = s.fuse ∧ (xon n cls level s).modl = s.modl ∧ (xon n cls level s).power = s.power ∧
    (xon n cls level s).cores = s.cores ∧ (xon n cls level s).ctxs = s.ctxs ∧ (xon n cls level s).pages = s.pages ∧
    (xon n cls level s).counters = s.counters ∧ (xon n cls level s).tiers = s.tiers ∧
    (xon n cls level s).dwt = s.dwt ∧ (xon n cls level s).col = s.col ∧ (xon n cls level s).sec = s.sec ∧
    (xon n cls level s).rcv = s.rcv ∧ (xon n cls level s).mgt = s.mgt ∧ (xon n cls level s).hif = s.hif := by
  simp [xon]

@[simp] theorem rxChecked_same (takes : Bool) (n : Nat) (f : RxFacts) (s : State) :
    (rxChecked takes n f s).s.pending = s.pending ∧ (rxChecked takes n f s).s.ticks = s.ticks ∧
    (rxChecked takes n f s).s.coldResets = s.coldResets ∧ (rxChecked takes n f s).s.fuse = s.fuse ∧
    (rxChecked takes n f s).s.power = s.power ∧ (rxChecked takes n f s).s.cores = s.cores ∧
    (rxChecked takes n f s).s.ctxs = s.ctxs ∧ (rxChecked takes n f s).s.pages = s.pages ∧
    (rxChecked takes n f s).s.counters = s.counters ∧ (rxChecked takes n f s).s.tiers = s.tiers ∧
    (rxChecked takes n f s).s.dwt = s.dwt ∧ (rxChecked takes n f s).s.col = s.col ∧
    (rxChecked takes n f s).s.sec = s.sec ∧ (rxChecked takes n f s).s.rcv = s.rcv ∧
    (rxChecked takes n f s).s.hif = s.hif := by
  unfold rxChecked
  dsimp only
  (repeat' split) <;> simp

@[simp] theorem rxFrame_same (n : Nat) (f : RxFacts) (s : State) :
    (rxFrame n f s).s.pending = s.pending ∧ (rxFrame n f s).s.ticks = s.ticks ∧
    (rxFrame n f s).s.coldResets = s.coldResets ∧ (rxFrame n f s).s.fuse = s.fuse ∧
    (rxFrame n f s).s.power = s.power ∧ (rxFrame n f s).s.cores = s.cores ∧ (rxFrame n f s).s.ctxs = s.ctxs ∧
    (rxFrame n f s).s.pages = s.pages ∧ (rxFrame n f s).s.counters = s.counters ∧
    (rxFrame n f s).s.tiers = s.tiers ∧ (rxFrame n f s).s.dwt = s.dwt ∧ (rxFrame n f s).s.col = s.col ∧
    (rxFrame n f s).s.sec = s.sec ∧ (rxFrame n f s).s.rcv = s.rcv ∧ (rxFrame n f s).s.hif = s.hif := by
  fun_cases rxFrame <;> simp_all

@[simp] theorem rxControl_same (n : Nat) (f : RxFacts) (s : State) :
    (rxControl n f s).s.pending = s.pending ∧ (rxControl n f s).s.ticks = s.ticks ∧
    (rxControl n f s).s.coldResets = s.coldResets ∧ (rxControl n f s).s.fuse = s.fuse ∧
    (rxControl n f s).s.power = s.power ∧ (rxControl n f s).s.cores = s.cores ∧ (rxControl n f s).s.ctxs = s.ctxs ∧
    (rxControl n f s).s.pages = s.pages ∧ (rxControl n f s).s.counters = s.counters ∧
    (rxControl n f s).s.tiers = s.tiers ∧ (rxControl n f s).s.dwt = s.dwt ∧ (rxControl n f s).s.col = s.col ∧
    (rxControl n f s).s.sec = s.sec ∧ (rxControl n f s).s.rcv = s.rcv ∧ (rxControl n f s).s.hif = s.hif := by
  simp [rxControl]

@[simp] theorem rxLane_same (n : Nat) (f : RxFacts) (s : State) :
    (rxLane n f s).s.pending = s.pending ∧ (rxLane n f s).s.ticks = s.ticks ∧
    (rxLane n f s).s.coldResets = s.coldResets ∧ (rxLane n f s).s.fuse = s.fuse ∧
    (rxLane n f s).s.power = s.power ∧ (rxLane n f s).s.cores = s.cores ∧ (rxLane n f s).s.ctxs = s.ctxs ∧
    (rxLane n f s).s.pages = s.pages ∧ (rxLane n f s).s.counters = s.counters ∧ (rxLane n f s).s.tiers = s.tiers ∧
    (rxLane n f s).s.dwt = s.dwt ∧ (rxLane n f s).s.col = s.col ∧ (rxLane n f s).s.sec = s.sec ∧
    (rxLane n f s).s.rcv = s.rcv ∧ (rxLane n f s).s.hif = s.hif := by
  simp [rxLane]

@[simp] theorem rawDrop_same (n : Nat) (s : State) :
    (rawDrop n s).pending = s.pending ∧ (rawDrop n s).ticks = s.ticks ∧ (rawDrop n s).coldResets = s.coldResets ∧
    (rawDrop n s).fuse = s.fuse ∧ (rawDrop n s).power = s.power ∧ (rawDrop n s).cores = s.cores ∧
    (rawDrop n s).ctxs = s.ctxs ∧ (rawDrop n s).pages = s.pages ∧ (rawDrop n s).counters = s.counters ∧
    (rawDrop n s).tiers = s.tiers ∧ (rawDrop n s).dwt = s.dwt ∧ (rawDrop n s).col = s.col ∧
    (rawDrop n s).sec = s.sec ∧ (rawDrop n s).rcv = s.rcv ∧ (rawDrop n s).hif = s.hif := by
  simp [rawDrop]

@[simp] theorem rawFrame_same (n buf : Nat) (frame : List Byte) (trunc : Bool) (s : State) :
    (rawFrame n buf frame trunc s).pending = s.pending ∧ (rawFrame n buf frame trunc s).ticks = s.ticks ∧
    (rawFrame n buf frame trunc s).coldResets = s.coldResets ∧ (rawFrame n buf frame trunc s).fuse = s.fuse ∧
    (rawFrame n buf frame trunc s).power = s.power ∧ (rawFrame n buf frame trunc s).cores = s.cores ∧
    (rawFrame n buf frame trunc s).ctxs = s.ctxs ∧ (rawFrame n buf frame trunc s).pages = s.pages ∧
    (rawFrame n buf frame trunc s).counters = s.counters ∧ (rawFrame n buf frame trunc s).tiers = s.tiers ∧
    (rawFrame n buf frame trunc s).dwt = s.dwt ∧ (rawFrame n buf frame trunc s).col = s.col ∧
    (rawFrame n buf frame trunc s).sec = s.sec ∧ (rawFrame n buf frame trunc s).rcv = s.rcv ∧
    (rawFrame n buf frame trunc s).hif = s.hif := by
  simp [rawFrame]

@[simp] theorem ctlIgnored_same (n : Nat) (s : State) :
    (ctlIgnored n s).pending = s.pending ∧ (ctlIgnored n s).fresh = s.fresh ∧ (ctlIgnored n s).out = s.out ∧
    (ctlIgnored n s).ticks = s.ticks ∧ (ctlIgnored n s).coldResets = s.coldResets ∧
    (ctlIgnored n s).fuse = s.fuse ∧ (ctlIgnored n s).modl = s.modl ∧ (ctlIgnored n s).power = s.power ∧
    (ctlIgnored n s).cores = s.cores ∧ (ctlIgnored n s).ctxs = s.ctxs ∧ (ctlIgnored n s).pages = s.pages ∧
    (ctlIgnored n s).counters = s.counters ∧ (ctlIgnored n s).tiers = s.tiers ∧ (ctlIgnored n s).dwt = s.dwt ∧
    (ctlIgnored n s).col = s.col ∧ (ctlIgnored n s).sec = s.sec ∧ (ctlIgnored n s).rcv = s.rcv ∧
    (ctlIgnored n s).mgt = s.mgt ∧ (ctlIgnored n s).hif = s.hif := by
  simp [ctlIgnored]

@[simp] theorem setPause_same (n : Nat) (qs : List (Nat × Nat)) (s : State) :
    (setPause n qs s).pending = s.pending ∧ (setPause n qs s).fresh = s.fresh ∧ (setPause n qs s).out = s.out ∧
    (setPause n qs s).ticks = s.ticks ∧ (setPause n qs s).coldResets = s.coldResets ∧
    (setPause n qs s).fuse = s.fuse ∧ (setPause n qs s).modl = s.modl ∧ (setPause n qs s).power = s.power ∧
    (setPause n qs s).cores = s.cores ∧ (setPause n qs s).ctxs = s.ctxs ∧ (setPause n qs s).pages = s.pages ∧
    (setPause n qs s).counters = s.counters ∧ (setPause n qs s).tiers = s.tiers ∧ (setPause n qs s).dwt = s.dwt ∧
    (setPause n qs s).col = s.col ∧ (setPause n qs s).sec = s.sec ∧ (setPause n qs s).rcv = s.rcv ∧
    (setPause n qs s).mgt = s.mgt ∧ (setPause n qs s).hif = s.hif := by
  simp [setPause]

@[simp] theorem txPush_same (n : Nat) (t : TxFrame) (s : State) :
    (txPush n t s).pending = s.pending ∧ (txPush n t s).fresh = s.fresh ∧ (txPush n t s).out = s.out ∧
    (txPush n t s).ticks = s.ticks ∧ (txPush n t s).coldResets = s.coldResets ∧ (txPush n t s).fuse = s.fuse ∧
    (txPush n t s).modl = s.modl ∧ (txPush n t s).power = s.power ∧ (txPush n t s).cores = s.cores ∧
    (txPush n t s).ctxs = s.ctxs ∧ (txPush n t s).pages = s.pages ∧ (txPush n t s).counters = s.counters ∧
    (txPush n t s).tiers = s.tiers ∧ (txPush n t s).dwt = s.dwt ∧ (txPush n t s).col = s.col ∧
    (txPush n t s).sec = s.sec ∧ (txPush n t s).rcv = s.rcv ∧ (txPush n t s).mgt = s.mgt ∧
    (txPush n t s).hif = s.hif := by
  simp [txPush]

@[simp] theorem txStart_same (n staged : Nat) (s : State) :
    (txStart n staged s).pending = s.pending ∧ (txStart n staged s).ticks = s.ticks ∧
    (txStart n staged s).coldResets = s.coldResets ∧ (txStart n staged s).fuse = s.fuse ∧
    (txStart n staged s).modl = s.modl ∧ (txStart n staged s).power = s.power ∧
    (txStart n staged s).cores = s.cores ∧ (txStart n staged s).ctxs = s.ctxs ∧
    (txStart n staged s).pages = s.pages ∧ (txStart n staged s).counters = s.counters ∧
    (txStart n staged s).tiers = s.tiers ∧ (txStart n staged s).dwt = s.dwt ∧ (txStart n staged s).col = s.col ∧
    (txStart n staged s).sec = s.sec ∧ (txStart n staged s).rcv = s.rcv ∧ (txStart n staged s).mgt = s.mgt ∧
    (txStart n staged s).hif = s.hif := by
  unfold txStart
  dsimp only
  (repeat' split) <;> simp_all

@[simp] theorem reachT_same (n t : Nat) (s : State) :
    (reachT n t s).pending = s.pending ∧ (reachT n t s).ticks = s.ticks ∧
    (reachT n t s).coldResets = s.coldResets ∧ (reachT n t s).fuse = s.fuse ∧ (reachT n t s).power = s.power ∧
    (reachT n t s).cores = s.cores ∧ (reachT n t s).ctxs = s.ctxs ∧ (reachT n t s).pages = s.pages ∧
    (reachT n t s).counters = s.counters ∧ (reachT n t s).tiers = s.tiers ∧ (reachT n t s).dwt = s.dwt ∧
    (reachT n t s).col = s.col ∧ (reachT n t s).sec = s.sec ∧ (reachT n t s).rcv = s.rcv ∧
    (reachT n t s).hif = s.hif := by
  simp [reachT]

@[simp] theorem txUnderrun_same (n : Nat) (s : State) :
    (txUnderrun n s).pending = s.pending ∧ (txUnderrun n s).ticks = s.ticks ∧
    (txUnderrun n s).coldResets = s.coldResets ∧ (txUnderrun n s).fuse = s.fuse ∧
    (txUnderrun n s).power = s.power ∧ (txUnderrun n s).cores = s.cores ∧ (txUnderrun n s).ctxs = s.ctxs ∧
    (txUnderrun n s).pages = s.pages ∧ (txUnderrun n s).counters = s.counters ∧ (txUnderrun n s).tiers = s.tiers ∧
    (txUnderrun n s).dwt = s.dwt ∧ (txUnderrun n s).col = s.col ∧ (txUnderrun n s).sec = s.sec ∧
    (txUnderrun n s).rcv = s.rcv ∧ (txUnderrun n s).hif = s.hif := by
  simp [txUnderrun]

@[simp] theorem sendLane_same (n code lane seq : Nat) (s : State) :
    (sendLane n code lane seq s).pending = s.pending ∧ (sendLane n code lane seq s).fresh = s.fresh ∧
    (sendLane n code lane seq s).ticks = s.ticks ∧ (sendLane n code lane seq s).coldResets = s.coldResets ∧
    (sendLane n code lane seq s).fuse = s.fuse ∧ (sendLane n code lane seq s).modl = s.modl ∧
    (sendLane n code lane seq s).power = s.power ∧ (sendLane n code lane seq s).cores = s.cores ∧
    (sendLane n code lane seq s).ctxs = s.ctxs ∧ (sendLane n code lane seq s).pages = s.pages ∧
    (sendLane n code lane seq s).counters = s.counters ∧ (sendLane n code lane seq s).tiers = s.tiers ∧
    (sendLane n code lane seq s).dwt = s.dwt ∧ (sendLane n code lane seq s).col = s.col ∧
    (sendLane n code lane seq s).sec = s.sec ∧ (sendLane n code lane seq s).rcv = s.rcv ∧
    (sendLane n code lane seq s).mgt = s.mgt ∧ (sendLane n code lane seq s).hif = s.hif := by
  simp [sendLane]

@[simp] theorem laneRequest_same (n code lane : Nat) (s : State) :
    (laneRequest n code lane s).pending = s.pending ∧ (laneRequest n code lane s).fresh = s.fresh ∧
    (laneRequest n code lane s).ticks = s.ticks ∧ (laneRequest n code lane s).coldResets = s.coldResets ∧
    (laneRequest n code lane s).fuse = s.fuse ∧ (laneRequest n code lane s).modl = s.modl ∧
    (laneRequest n code lane s).power = s.power ∧ (laneRequest n code lane s).cores = s.cores ∧
    (laneRequest n code lane s).ctxs = s.ctxs ∧ (laneRequest n code lane s).pages = s.pages ∧
    (laneRequest n code lane s).counters = s.counters ∧ (laneRequest n code lane s).tiers = s.tiers ∧
    (laneRequest n code lane s).dwt = s.dwt ∧ (laneRequest n code lane s).col = s.col ∧
    (laneRequest n code lane s).sec = s.sec ∧ (laneRequest n code lane s).rcv = s.rcv ∧
    (laneRequest n code lane s).mgt = s.mgt ∧ (laneRequest n code lane s).hif = s.hif := by
  simp [laneRequest]

@[simp] theorem linkFalls_same (n : Nat) (s : State) :
    (linkFalls n s).pending = s.pending ∧ (linkFalls n s).ticks = s.ticks ∧
    (linkFalls n s).coldResets = s.coldResets ∧ (linkFalls n s).fuse = s.fuse ∧ (linkFalls n s).power = s.power ∧
    (linkFalls n s).cores = s.cores ∧ (linkFalls n s).ctxs = s.ctxs ∧ (linkFalls n s).pages = s.pages ∧
    (linkFalls n s).counters = s.counters ∧ (linkFalls n s).tiers = s.tiers ∧ (linkFalls n s).dwt = s.dwt ∧
    (linkFalls n s).col = s.col ∧ (linkFalls n s).sec = s.sec ∧ (linkFalls n s).rcv = s.rcv ∧
    (linkFalls n s).hif = s.hif := by
  simp [linkFalls]

@[simp] theorem laneSpared_same (n lane : Nat) (s : State) :
    (laneSpared n lane s).pending = s.pending ∧ (laneSpared n lane s).ticks = s.ticks ∧
    (laneSpared n lane s).coldResets = s.coldResets ∧ (laneSpared n lane s).fuse = s.fuse ∧
    (laneSpared n lane s).power = s.power ∧ (laneSpared n lane s).cores = s.cores ∧
    (laneSpared n lane s).ctxs = s.ctxs ∧ (laneSpared n lane s).pages = s.pages ∧
    (laneSpared n lane s).counters = s.counters ∧ (laneSpared n lane s).tiers = s.tiers ∧
    (laneSpared n lane s).dwt = s.dwt ∧ (laneSpared n lane s).col = s.col ∧ (laneSpared n lane s).sec = s.sec ∧
    (laneSpared n lane s).rcv = s.rcv ∧ (laneSpared n lane s).hif = s.hif := by
  simp [laneSpared]

@[simp] theorem laneDegraded_same (n lane : Nat) (s : State) :
    (laneDegraded n lane s).pending = s.pending ∧ (laneDegraded n lane s).ticks = s.ticks ∧
    (laneDegraded n lane s).coldResets = s.coldResets ∧ (laneDegraded n lane s).fuse = s.fuse ∧
    (laneDegraded n lane s).power = s.power ∧ (laneDegraded n lane s).cores = s.cores ∧
    (laneDegraded n lane s).ctxs = s.ctxs ∧ (laneDegraded n lane s).pages = s.pages ∧
    (laneDegraded n lane s).counters = s.counters ∧ (laneDegraded n lane s).tiers = s.tiers ∧
    (laneDegraded n lane s).dwt = s.dwt ∧ (laneDegraded n lane s).col = s.col ∧
    (laneDegraded n lane s).sec = s.sec ∧ (laneDegraded n lane s).rcv = s.rcv ∧ (laneDegraded n lane s).hif = s.hif := by
  simp [laneDegraded]

@[simp] theorem utilisationEnd_same (n tx rx : Nat) (s : State) :
    (utilisationEnd n tx rx s).pending = s.pending ∧ (utilisationEnd n tx rx s).fresh = s.fresh ∧
    (utilisationEnd n tx rx s).ticks = s.ticks ∧ (utilisationEnd n tx rx s).coldResets = s.coldResets ∧
    (utilisationEnd n tx rx s).fuse = s.fuse ∧ (utilisationEnd n tx rx s).modl = s.modl ∧
    (utilisationEnd n tx rx s).power = s.power ∧ (utilisationEnd n tx rx s).cores = s.cores ∧
    (utilisationEnd n tx rx s).ctxs = s.ctxs ∧ (utilisationEnd n tx rx s).pages = s.pages ∧
    (utilisationEnd n tx rx s).counters = s.counters ∧ (utilisationEnd n tx rx s).tiers = s.tiers ∧
    (utilisationEnd n tx rx s).dwt = s.dwt ∧ (utilisationEnd n tx rx s).col = s.col ∧
    (utilisationEnd n tx rx s).sec = s.sec ∧ (utilisationEnd n tx rx s).rcv = s.rcv ∧
    (utilisationEnd n tx rx s).mgt = s.mgt ∧ (utilisationEnd n tx rx s).hif = s.hif := by
  simp [utilisationEnd]

@[simp] theorem setWidth_same (n lanes : Nat) (s : State) :
    (setWidth n lanes s).pending = s.pending ∧ (setWidth n lanes s).fresh = s.fresh ∧
    (setWidth n lanes s).out = s.out ∧ (setWidth n lanes s).ticks = s.ticks ∧
    (setWidth n lanes s).coldResets = s.coldResets ∧ (setWidth n lanes s).fuse = s.fuse ∧
    (setWidth n lanes s).modl = s.modl ∧ (setWidth n lanes s).power = s.power ∧
    (setWidth n lanes s).cores = s.cores ∧ (setWidth n lanes s).ctxs = s.ctxs ∧
    (setWidth n lanes s).pages = s.pages ∧ (setWidth n lanes s).counters = s.counters ∧
    (setWidth n lanes s).tiers = s.tiers ∧ (setWidth n lanes s).dwt = s.dwt ∧ (setWidth n lanes s).col = s.col ∧
    (setWidth n lanes s).sec = s.sec ∧ (setWidth n lanes s).rcv = s.rcv ∧ (setWidth n lanes s).mgt = s.mgt ∧
    (setWidth n lanes s).hif = s.hif := by
  simp [setWidth]

@[simp] theorem shedTo_same (n lanes seq : Nat) (s : State) :
    (shedTo n lanes seq s).pending = s.pending ∧ (shedTo n lanes seq s).fresh = s.fresh ∧
    (shedTo n lanes seq s).ticks = s.ticks ∧ (shedTo n lanes seq s).coldResets = s.coldResets ∧
    (shedTo n lanes seq s).fuse = s.fuse ∧ (shedTo n lanes seq s).modl = s.modl ∧
    (shedTo n lanes seq s).power = s.power ∧ (shedTo n lanes seq s).cores = s.cores ∧
    (shedTo n lanes seq s).ctxs = s.ctxs ∧ (shedTo n lanes seq s).pages = s.pages ∧
    (shedTo n lanes seq s).counters = s.counters ∧ (shedTo n lanes seq s).tiers = s.tiers ∧
    (shedTo n lanes seq s).dwt = s.dwt ∧ (shedTo n lanes seq s).col = s.col ∧ (shedTo n lanes seq s).sec = s.sec ∧
    (shedTo n lanes seq s).rcv = s.rcv ∧ (shedTo n lanes seq s).mgt = s.mgt ∧ (shedTo n lanes seq s).hif = s.hif := by
  simp [shedTo]

@[simp] theorem unshed_same (n : Nat) (s : State) :
    (unshed n s).pending = s.pending ∧ (unshed n s).fresh = s.fresh ∧ (unshed n s).ticks = s.ticks ∧
    (unshed n s).coldResets = s.coldResets ∧ (unshed n s).fuse = s.fuse ∧ (unshed n s).modl = s.modl ∧
    (unshed n s).power = s.power ∧ (unshed n s).cores = s.cores ∧ (unshed n s).ctxs = s.ctxs ∧
    (unshed n s).pages = s.pages ∧ (unshed n s).counters = s.counters ∧ (unshed n s).tiers = s.tiers ∧
    (unshed n s).dwt = s.dwt ∧ (unshed n s).col = s.col ∧ (unshed n s).sec = s.sec ∧ (unshed n s).rcv = s.rcv ∧
    (unshed n s).mgt = s.mgt ∧ (unshed n s).hif = s.hif := by
  simp [unshed]

@[simp] theorem restoreSend_same (n : Nat) (s : State) :
    (restoreSend n s).pending = s.pending ∧ (restoreSend n s).fresh = s.fresh ∧ (restoreSend n s).ticks = s.ticks ∧
    (restoreSend n s).coldResets = s.coldResets ∧ (restoreSend n s).fuse = s.fuse ∧
    (restoreSend n s).modl = s.modl ∧ (restoreSend n s).power = s.power ∧ (restoreSend n s).cores = s.cores ∧
    (restoreSend n s).ctxs = s.ctxs ∧ (restoreSend n s).pages = s.pages ∧ (restoreSend n s).counters = s.counters ∧
    (restoreSend n s).tiers = s.tiers ∧ (restoreSend n s).dwt = s.dwt ∧ (restoreSend n s).col = s.col ∧
    (restoreSend n s).sec = s.sec ∧ (restoreSend n s).rcv = s.rcv ∧ (restoreSend n s).mgt = s.mgt ∧
    (restoreSend n s).hif = s.hif := by
  simp [restoreSend]

@[simp] theorem restoreReceived_same (n seq : Nat) (s : State) :
    (restoreReceived n seq s).pending = s.pending ∧ (restoreReceived n seq s).fresh = s.fresh ∧
    (restoreReceived n seq s).ticks = s.ticks ∧ (restoreReceived n seq s).coldResets = s.coldResets ∧
    (restoreReceived n seq s).fuse = s.fuse ∧ (restoreReceived n seq s).modl = s.modl ∧
    (restoreReceived n seq s).power = s.power ∧ (restoreReceived n seq s).cores = s.cores ∧
    (restoreReceived n seq s).ctxs = s.ctxs ∧ (restoreReceived n seq s).pages = s.pages ∧
    (restoreReceived n seq s).counters = s.counters ∧ (restoreReceived n seq s).tiers = s.tiers ∧
    (restoreReceived n seq s).dwt = s.dwt ∧ (restoreReceived n seq s).col = s.col ∧
    (restoreReceived n seq s).sec = s.sec ∧ (restoreReceived n seq s).rcv = s.rcv ∧
    (restoreReceived n seq s).mgt = s.mgt ∧ (restoreReceived n seq s).hif = s.hif := by
  simp [restoreReceived]

@[simp] theorem spareReceived_same (n lane seq : Nat) (s : State) :
    (spareReceived n lane seq s).pending = s.pending ∧ (spareReceived n lane seq s).fresh = s.fresh ∧
    (spareReceived n lane seq s).ticks = s.ticks ∧ (spareReceived n lane seq s).coldResets = s.coldResets ∧
    (spareReceived n lane seq s).fuse = s.fuse ∧ (spareReceived n lane seq s).modl = s.modl ∧
    (spareReceived n lane seq s).power = s.power ∧ (spareReceived n lane seq s).cores = s.cores ∧
    (spareReceived n lane seq s).ctxs = s.ctxs ∧ (spareReceived n lane seq s).pages = s.pages ∧
    (spareReceived n lane seq s).counters = s.counters ∧ (spareReceived n lane seq s).tiers = s.tiers ∧
    (spareReceived n lane seq s).dwt = s.dwt ∧ (spareReceived n lane seq s).col = s.col ∧
    (spareReceived n lane seq s).sec = s.sec ∧ (spareReceived n lane seq s).rcv = s.rcv ∧
    (spareReceived n lane seq s).mgt = s.mgt ∧ (spareReceived n lane seq s).hif = s.hif := by
  simp [spareReceived]

@[simp] theorem degradeReceived_same (n seq : Nat) (s : State) :
    (degradeReceived n seq s).pending = s.pending ∧ (degradeReceived n seq s).fresh = s.fresh ∧
    (degradeReceived n seq s).ticks = s.ticks ∧ (degradeReceived n seq s).coldResets = s.coldResets ∧
    (degradeReceived n seq s).fuse = s.fuse ∧ (degradeReceived n seq s).modl = s.modl ∧
    (degradeReceived n seq s).power = s.power ∧ (degradeReceived n seq s).cores = s.cores ∧
    (degradeReceived n seq s).ctxs = s.ctxs ∧ (degradeReceived n seq s).pages = s.pages ∧
    (degradeReceived n seq s).counters = s.counters ∧ (degradeReceived n seq s).tiers = s.tiers ∧
    (degradeReceived n seq s).dwt = s.dwt ∧ (degradeReceived n seq s).col = s.col ∧
    (degradeReceived n seq s).sec = s.sec ∧ (degradeReceived n seq s).rcv = s.rcv ∧
    (degradeReceived n seq s).mgt = s.mgt ∧ (degradeReceived n seq s).hif = s.hif := by
  simp [degradeReceived]

@[simp] theorem ackReceived_same (n seq : Nat) (s : State) :
    (ackReceived n seq s).pending = s.pending ∧ (ackReceived n seq s).fresh = s.fresh ∧
    (ackReceived n seq s).ticks = s.ticks ∧ (ackReceived n seq s).coldResets = s.coldResets ∧
    (ackReceived n seq s).fuse = s.fuse ∧ (ackReceived n seq s).modl = s.modl ∧
    (ackReceived n seq s).power = s.power ∧ (ackReceived n seq s).cores = s.cores ∧
    (ackReceived n seq s).ctxs = s.ctxs ∧ (ackReceived n seq s).counters = s.counters ∧
    (ackReceived n seq s).tiers = s.tiers ∧ (ackReceived n seq s).dwt = s.dwt ∧ (ackReceived n seq s).col = s.col ∧
    (ackReceived n seq s).sec = s.sec ∧ (ackReceived n seq s).rcv = s.rcv ∧ (ackReceived n seq s).mgt = s.mgt := by
  unfold ackReceived
  dsimp only
  (repeat' split) <;> simp_all

@[simp] theorem refuseReceived_same (n seq : Nat) (s : State) :
    (refuseReceived n seq s).pending = s.pending ∧ (refuseReceived n seq s).fresh = s.fresh ∧
    (refuseReceived n seq s).ticks = s.ticks ∧ (refuseReceived n seq s).coldResets = s.coldResets ∧
    (refuseReceived n seq s).fuse = s.fuse ∧ (refuseReceived n seq s).modl = s.modl ∧
    (refuseReceived n seq s).power = s.power ∧ (refuseReceived n seq s).cores = s.cores ∧
    (refuseReceived n seq s).ctxs = s.ctxs ∧ (refuseReceived n seq s).counters = s.counters ∧
    (refuseReceived n seq s).tiers = s.tiers ∧ (refuseReceived n seq s).dwt = s.dwt ∧
    (refuseReceived n seq s).col = s.col ∧ (refuseReceived n seq s).sec = s.sec ∧
    (refuseReceived n seq s).rcv = s.rcv ∧ (refuseReceived n seq s).mgt = s.mgt := by
  unfold refuseReceived
  dsimp only
  (repeat' split) <;> simp_all

@[simp] theorem resendLane_same (n : Nat) (s : State) (q : LaneReq) :
    (resendLane n s q).pending = s.pending ∧ (resendLane n s q).fresh = s.fresh ∧
    (resendLane n s q).ticks = s.ticks ∧ (resendLane n s q).coldResets = s.coldResets ∧
    (resendLane n s q).fuse = s.fuse ∧ (resendLane n s q).modl = s.modl ∧ (resendLane n s q).power = s.power ∧
    (resendLane n s q).cores = s.cores ∧ (resendLane n s q).ctxs = s.ctxs ∧
    (resendLane n s q).counters = s.counters ∧ (resendLane n s q).tiers = s.tiers ∧
    (resendLane n s q).dwt = s.dwt ∧ (resendLane n s q).col = s.col ∧ (resendLane n s q).sec = s.sec ∧
    (resendLane n s q).rcv = s.rcv ∧ (resendLane n s q).mgt = s.mgt := by
  simp [resendLane]

@[simp] theorem laneResend_same (n : Nat) (s : State) :
    (laneResend n s).pending = s.pending ∧ (laneResend n s).fresh = s.fresh ∧ (laneResend n s).ticks = s.ticks ∧
    (laneResend n s).coldResets = s.coldResets ∧ (laneResend n s).fuse = s.fuse ∧ (laneResend n s).modl = s.modl ∧
    (laneResend n s).power = s.power ∧ (laneResend n s).cores = s.cores ∧ (laneResend n s).ctxs = s.ctxs ∧
    (laneResend n s).counters = s.counters ∧ (laneResend n s).tiers = s.tiers ∧ (laneResend n s).dwt = s.dwt ∧
    (laneResend n s).col = s.col ∧ (laneResend n s).sec = s.sec ∧ (laneResend n s).rcv = s.rcv ∧
    (laneResend n s).mgt = s.mgt := by
  fun_cases laneResend <;> simp_all

@[simp] theorem sendHello_same (n : Nat) (s : State) :
    (sendHello n s).pending = s.pending ∧ (sendHello n s).fresh = s.fresh ∧ (sendHello n s).out = s.out ∧
    (sendHello n s).ticks = s.ticks ∧ (sendHello n s).coldResets = s.coldResets ∧ (sendHello n s).fuse = s.fuse ∧
    (sendHello n s).modl = s.modl ∧ (sendHello n s).power = s.power ∧ (sendHello n s).cores = s.cores ∧
    (sendHello n s).ctxs = s.ctxs ∧ (sendHello n s).pages = s.pages ∧ (sendHello n s).counters = s.counters ∧
    (sendHello n s).tiers = s.tiers ∧ (sendHello n s).dwt = s.dwt ∧ (sendHello n s).col = s.col ∧
    (sendHello n s).sec = s.sec ∧ (sendHello n s).rcv = s.rcv ∧ (sendHello n s).mgt = s.mgt ∧
    (sendHello n s).hif = s.hif := by
  simp [sendHello]

@[simp] theorem dwtMalformed_same (cn : Nat) (s : State) :
    (dwtMalformed cn s).pending = s.pending ∧ (dwtMalformed cn s).ticks = s.ticks ∧
    (dwtMalformed cn s).coldResets = s.coldResets ∧ (dwtMalformed cn s).fuse = s.fuse ∧
    (dwtMalformed cn s).power = s.power ∧ (dwtMalformed cn s).cores = s.cores ∧ (dwtMalformed cn s).ctxs = s.ctxs ∧
    (dwtMalformed cn s).pages = s.pages ∧ (dwtMalformed cn s).counters = s.counters ∧
    (dwtMalformed cn s).tiers = s.tiers ∧ (dwtMalformed cn s).col = s.col ∧ (dwtMalformed cn s).nets = s.nets ∧
    (dwtMalformed cn s).sec = s.sec ∧ (dwtMalformed cn s).rcv = s.rcv ∧ (dwtMalformed cn s).hif = s.hif := by
  simp [dwtMalformed]

@[simp] theorem helloReceived_same (n : Nat) (f : RxFacts) (h : Hello) (s : State) :
    (helloReceived n f h s).pending = s.pending ∧ (helloReceived n f h s).ticks = s.ticks ∧
    (helloReceived n f h s).coldResets = s.coldResets ∧ (helloReceived n f h s).fuse = s.fuse ∧
    (helloReceived n f h s).power = s.power ∧ (helloReceived n f h s).cores = s.cores ∧
    (helloReceived n f h s).ctxs = s.ctxs ∧ (helloReceived n f h s).pages = s.pages ∧
    (helloReceived n f h s).counters = s.counters ∧ (helloReceived n f h s).tiers = s.tiers ∧
    (helloReceived n f h s).col = s.col ∧ (helloReceived n f h s).sec = s.sec ∧
    (helloReceived n f h s).rcv = s.rcv ∧ (helloReceived n f h s).hif = s.hif := by
  simp [helloReceived]

@[simp] theorem dwtFragment_same (s : State) :
    (dwtFragment s).pending = s.pending ∧ (dwtFragment s).fresh = s.fresh ∧ (dwtFragment s).out = s.out ∧
    (dwtFragment s).ticks = s.ticks ∧ (dwtFragment s).coldResets = s.coldResets ∧ (dwtFragment s).fuse = s.fuse ∧
    (dwtFragment s).modl = s.modl ∧ (dwtFragment s).power = s.power ∧ (dwtFragment s).cores = s.cores ∧
    (dwtFragment s).ctxs = s.ctxs ∧ (dwtFragment s).pages = s.pages ∧ (dwtFragment s).counters = s.counters ∧
    (dwtFragment s).tiers = s.tiers ∧ (dwtFragment s).col = s.col ∧ (dwtFragment s).nets = s.nets ∧
    (dwtFragment s).sec = s.sec ∧ (dwtFragment s).rcv = s.rcv ∧ (dwtFragment s).mgt = s.mgt ∧
    (dwtFragment s).hif = s.hif := by
  simp [dwtFragment]

@[simp] theorem helloResend_same (n : Nat) (s : State) :
    (helloResend n s).pending = s.pending ∧ (helloResend n s).fresh = s.fresh ∧ (helloResend n s).out = s.out ∧
    (helloResend n s).ticks = s.ticks ∧ (helloResend n s).coldResets = s.coldResets ∧
    (helloResend n s).fuse = s.fuse ∧ (helloResend n s).modl = s.modl ∧ (helloResend n s).power = s.power ∧
    (helloResend n s).cores = s.cores ∧ (helloResend n s).ctxs = s.ctxs ∧ (helloResend n s).pages = s.pages ∧
    (helloResend n s).counters = s.counters ∧ (helloResend n s).tiers = s.tiers ∧ (helloResend n s).dwt = s.dwt ∧
    (helloResend n s).col = s.col ∧ (helloResend n s).sec = s.sec ∧ (helloResend n s).rcv = s.rcv ∧
    (helloResend n s).mgt = s.mgt ∧ (helloResend n s).hif = s.hif := by
  simp [helloResend]

@[simp] theorem linkUp_same (n rate : Nat) (spare : Bool) (s : State) :
    (linkUp n rate spare s).pending = s.pending ∧ (linkUp n rate spare s).ticks = s.ticks ∧
    (linkUp n rate spare s).coldResets = s.coldResets ∧ (linkUp n rate spare s).fuse = s.fuse ∧
    (linkUp n rate spare s).power = s.power ∧ (linkUp n rate spare s).cores = s.cores ∧
    (linkUp n rate spare s).ctxs = s.ctxs ∧ (linkUp n rate spare s).pages = s.pages ∧
    (linkUp n rate spare s).counters = s.counters ∧ (linkUp n rate spare s).tiers = s.tiers ∧
    (linkUp n rate spare s).dwt = s.dwt ∧ (linkUp n rate spare s).col = s.col ∧
    (linkUp n rate spare s).sec = s.sec ∧ (linkUp n rate spare s).rcv = s.rcv ∧ (linkUp n rate spare s).hif = s.hif := by
  simp [linkUp]

@[simp] theorem retrainPort_same (n : Nat) (s : State) :
    (retrainPort n s).pending = s.pending ∧ (retrainPort n s).fresh = s.fresh ∧ (retrainPort n s).out = s.out ∧
    (retrainPort n s).ticks = s.ticks ∧ (retrainPort n s).coldResets = s.coldResets ∧
    (retrainPort n s).fuse = s.fuse ∧ (retrainPort n s).modl = s.modl ∧ (retrainPort n s).power = s.power ∧
    (retrainPort n s).cores = s.cores ∧ (retrainPort n s).ctxs = s.ctxs ∧ (retrainPort n s).pages = s.pages ∧
    (retrainPort n s).counters = s.counters ∧ (retrainPort n s).tiers = s.tiers ∧ (retrainPort n s).dwt = s.dwt ∧
    (retrainPort n s).col = s.col ∧ (retrainPort n s).sec = s.sec ∧ (retrainPort n s).rcv = s.rcv ∧
    (retrainPort n s).mgt = s.mgt ∧ (retrainPort n s).hif = s.hif := by
  simp [retrainPort]

end Sys2Proof.Machine
end

