-- ==== Sys2Proof/Laws/SameDwt.lean ====
section
/-! SUPPORT. What the definitions of Machine/Dwt.lean leave alone. -/

namespace Sys2Proof.Machine

@[simp] theorem State.sendSealed_same (s : State) (cn txn key : Nat) (h : Hdr) (size : Nat) (payload : Payload) :
    (State.sendSealed s cn txn key h size payload).pending = s.pending ∧
    (State.sendSealed s cn txn key h size payload).fresh = s.fresh ∧
    (State.sendSealed s cn txn key h size payload).out = s.out ∧
    (State.sendSealed s cn txn key h size payload).ticks = s.ticks ∧
    (State.sendSealed s cn txn key h size payload).coldResets = s.coldResets ∧
    (State.sendSealed s cn txn key h size payload).fuse = s.fuse ∧
    (State.sendSealed s cn txn key h size payload).modl = s.modl ∧
    (State.sendSealed s cn txn key h size payload).power = s.power ∧
    (State.sendSealed s cn txn key h size payload).cores = s.cores ∧
    (State.sendSealed s cn txn key h size payload).ctxs = s.ctxs ∧
    (State.sendSealed s cn txn key h size payload).pages = s.pages ∧
    (State.sendSealed s cn txn key h size payload).counters = s.counters ∧
    (State.sendSealed s cn txn key h size payload).tiers = s.tiers ∧
    (State.sendSealed s cn txn key h size payload).dwt = s.dwt ∧
    (State.sendSealed s cn txn key h size payload).col = s.col ∧
    (State.sendSealed s cn txn key h size payload).sec = s.sec ∧
    (State.sendSealed s cn txn key h size payload).rcv = s.rcv ∧
    (State.sendSealed s cn txn key h size payload).mgt = s.mgt ∧
    (State.sendSealed s cn txn key h size payload).hif = s.hif := by
  unfold State.sendSealed
  dsimp only
  (repeat' split) <;> simp

@[simp] theorem State.sendNext_same (s : State) (cn : Nat) (h : Hdr) (size : Nat) (payload : Payload) :
    (State.sendNext s cn h size payload).pending = s.pending ∧
    (State.sendNext s cn h size payload).fresh = s.fresh ∧ (State.sendNext s cn h size payload).out = s.out ∧
    (State.sendNext s cn h size payload).ticks = s.ticks ∧
    (State.sendNext s cn h size payload).coldResets = s.coldResets ∧
    (State.sendNext s cn h size payload).fuse = s.fuse ∧ (State.sendNext s cn h size payload).modl = s.modl ∧
    (State.sendNext s cn h size payload).power = s.power ∧ (State.sendNext s cn h size payload).cores = s.cores ∧
    (State.sendNext s cn h size payload).ctxs = s.ctxs ∧ (State.sendNext s cn h size payload).pages = s.pages ∧
    (State.sendNext s cn h size payload).counters = s.counters ∧
    (State.sendNext s cn h size payload).tiers = s.tiers ∧ (State.sendNext s cn h size payload).col = s.col ∧
    (State.sendNext s cn h size payload).sec = s.sec ∧ (State.sendNext s cn h size payload).rcv = s.rcv ∧
    (State.sendNext s cn h size payload).mgt = s.mgt ∧ (State.sendNext s cn h size payload).hif = s.hif := by
  simp [State.sendNext]

@[simp] theorem State.sendMsg_same (s : State) (cn : Nat) (h : Hdr) (payload : List Byte) :
    (State.sendMsg s cn h payload).pending = s.pending ∧ (State.sendMsg s cn h payload).fresh = s.fresh ∧
    (State.sendMsg s cn h payload).out = s.out ∧ (State.sendMsg s cn h payload).ticks = s.ticks ∧
    (State.sendMsg s cn h payload).coldResets = s.coldResets ∧ (State.sendMsg s cn h payload).fuse = s.fuse ∧
    (State.sendMsg s cn h payload).modl = s.modl ∧ (State.sendMsg s cn h payload).power = s.power ∧
    (State.sendMsg s cn h payload).cores = s.cores ∧ (State.sendMsg s cn h payload).ctxs = s.ctxs ∧
    (State.sendMsg s cn h payload).pages = s.pages ∧ (State.sendMsg s cn h payload).counters = s.counters ∧
    (State.sendMsg s cn h payload).tiers = s.tiers ∧ (State.sendMsg s cn h payload).col = s.col ∧
    (State.sendMsg s cn h payload).sec = s.sec ∧ (State.sendMsg s cn h payload).rcv = s.rcv ∧
    (State.sendMsg s cn h payload).mgt = s.mgt ∧ (State.sendMsg s cn h payload).hif = s.hif := by
  simp [State.sendMsg]

@[simp] theorem State.report_same (s : State) (q : Nat) (t : Started) (status bytes : Nat) :
    (State.report s q t status bytes).pending = s.pending ∧ (State.report s q t status bytes).ticks = s.ticks ∧
    (State.report s q t status bytes).coldResets = s.coldResets ∧ (State.report s q t status bytes).fuse = s.fuse ∧
    (State.report s q t status bytes).power = s.power ∧ (State.report s q t status bytes).cores = s.cores ∧
    (State.report s q t status bytes).pages = s.pages ∧ (State.report s q t status bytes).dwt = s.dwt ∧
    (State.report s q t status bytes).col = s.col ∧ (State.report s q t status bytes).nets = s.nets ∧
    (State.report s q t status bytes).hif = s.hif := by
  simp [State.report]

@[simp] theorem State.dwtComplete_same (s : State) (q num status bytes : Nat) :
    (State.dwtComplete s q num status bytes).pending = s.pending ∧
    (State.dwtComplete s q num status bytes).ticks = s.ticks ∧
    (State.dwtComplete s q num status bytes).coldResets = s.coldResets ∧
    (State.dwtComplete s q num status bytes).fuse = s.fuse ∧
    (State.dwtComplete s q num status bytes).power = s.power ∧
    (State.dwtComplete s q num status bytes).cores = s.cores ∧
    (State.dwtComplete s q num status bytes).pages = s.pages ∧
    (State.dwtComplete s q num status bytes).col = s.col ∧ (State.dwtComplete s q num status bytes).nets = s.nets ∧
    (State.dwtComplete s q num status bytes).hif = s.hif := by
  unfold State.dwtComplete
  dsimp only
  (repeat' split) <;> simp_all

/-- The start of an entry keeps of these what its operation keeps. -/
theorem startEntry_same (q op : Nat) (run : Started → State → Option State) (s : State)
    (hr : ∀ t u v, run t u = some v → v.pending = u.pending ∧ v.ticks = u.ticks ∧ v.coldResets = u.coldResets ∧ v.fuse = u.fuse ∧ v.power = u.power) :
    (startEntry q op run s).pending = s.pending ∧ (startEntry q op run s).ticks = s.ticks ∧ (startEntry q op run s).coldResets = s.coldResets ∧ (startEntry q op run s).fuse = s.fuse ∧ (startEntry q op run s).power = s.power := by
  unfold startEntry
  dsimp only
  (repeat' split) <;> try simp
  have h := hr _ _ _ ‹run _ _ = some _›
  simpa using h

@[simp] theorem winOpen_same (q : Nat) (t : Started) (s : State) :
    (winOpen q t s).pending = s.pending ∧ (winOpen q t s).ticks = s.ticks ∧
    (winOpen q t s).coldResets = s.coldResets ∧ (winOpen q t s).fuse = s.fuse ∧ (winOpen q t s).power = s.power ∧
    (winOpen q t s).cores = s.cores ∧ (winOpen q t s).pages = s.pages ∧ (winOpen q t s).col = s.col ∧
    (winOpen q t s).nets = s.nets ∧ (winOpen q t s).hif = s.hif := by
  unfold winOpen
  dsimp only
  (repeat' split) <;> simp_all

@[simp] theorem winRevoke_same (q : Nat) (t : Started) (s : State) :
    (winRevoke q t s).pending = s.pending ∧ (winRevoke q t s).ticks = s.ticks ∧
    (winRevoke q t s).coldResets = s.coldResets ∧ (winRevoke q t s).fuse = s.fuse ∧
    (winRevoke q t s).power = s.power ∧ (winRevoke q t s).cores = s.cores ∧ (winRevoke q t s).pages = s.pages ∧
    (winRevoke q t s).col = s.col ∧ (winRevoke q t s).nets = s.nets ∧ (winRevoke q t s).hif = s.hif := by
  unfold winRevoke
  dsimp only
  (repeat' split) <;> simp_all

@[simp] theorem revokeComplete_same (w : Nat) (s : State) :
    (revokeComplete w s).pending = s.pending ∧ (revokeComplete w s).ticks = s.ticks ∧
    (revokeComplete w s).coldResets = s.coldResets ∧ (revokeComplete w s).fuse = s.fuse ∧
    (revokeComplete w s).power = s.power ∧ (revokeComplete w s).cores = s.cores ∧
    (revokeComplete w s).pages = s.pages ∧ (revokeComplete w s).col = s.col ∧ (revokeComplete w s).nets = s.nets ∧
    (revokeComplete w s).hif = s.hif := by
  unfold revokeComplete
  dsimp only
  (repeat' split) <;> simp_all

@[simp] theorem State.sendSeg_same (s : State) (cn : Nat) (o : DwtOp) (g : Seg) :
    (State.sendSeg s cn o g).pending = s.pending ∧ (State.sendSeg s cn o g).ticks = s.ticks ∧
    (State.sendSeg s cn o g).coldResets = s.coldResets ∧ (State.sendSeg s cn o g).fuse = s.fuse ∧
    (State.sendSeg s cn o g).power = s.power ∧ (State.sendSeg s cn o g).cores = s.cores ∧
    (State.sendSeg s cn o g).ctxs = s.ctxs ∧ (State.sendSeg s cn o g).pages = s.pages ∧
    (State.sendSeg s cn o g).counters = s.counters ∧ (State.sendSeg s cn o g).col = s.col ∧
    (State.sendSeg s cn o g).rcv = s.rcv ∧ (State.sendSeg s cn o g).hif = s.hif := by
  simp [State.sendSeg]

@[simp] theorem State.dwtSend_same (cn : Nat) (a1 : Nat) (s : State) :
    (State.dwtSend cn a1 s).pending = s.pending ∧ (State.dwtSend cn a1 s).ticks = s.ticks ∧
    (State.dwtSend cn a1 s).coldResets = s.coldResets ∧ (State.dwtSend cn a1 s).fuse = s.fuse ∧
    (State.dwtSend cn a1 s).power = s.power ∧ (State.dwtSend cn a1 s).cores = s.cores ∧
    (State.dwtSend cn a1 s).ctxs = s.ctxs ∧ (State.dwtSend cn a1 s).pages = s.pages ∧
    (State.dwtSend cn a1 s).counters = s.counters ∧ (State.dwtSend cn a1 s).col = s.col ∧
    (State.dwtSend cn a1 s).rcv = s.rcv ∧ (State.dwtSend cn a1 s).hif = s.hif := by
  induction a1 generalizing s with
  | zero => simp [State.dwtSend]
  | succ n ih =>
    simp only [State.dwtSend]
    (repeat' split) <;> simp [ih]

@[simp] theorem closeConn_same (cn : Nat) (s : State) :
    (closeConn cn s).pending = s.pending ∧ (closeConn cn s).ticks = s.ticks ∧
    (closeConn cn s).coldResets = s.coldResets ∧ (closeConn cn s).fuse = s.fuse ∧
    (closeConn cn s).power = s.power ∧ (closeConn cn s).cores = s.cores ∧ (closeConn cn s).pages = s.pages ∧
    (closeConn cn s).col = s.col ∧ (closeConn cn s).hif = s.hif := by
  unfold closeConn
  dsimp only
  (repeat' split) <;> simp_all

@[simp] theorem sendOpen_same (cn : Nat) (s : State) :
    (sendOpen cn s).pending = s.pending ∧ (sendOpen cn s).out = s.out ∧ (sendOpen cn s).ticks = s.ticks ∧
    (sendOpen cn s).coldResets = s.coldResets ∧ (sendOpen cn s).fuse = s.fuse ∧ (sendOpen cn s).modl = s.modl ∧
    (sendOpen cn s).power = s.power ∧ (sendOpen cn s).cores = s.cores ∧ (sendOpen cn s).ctxs = s.ctxs ∧
    (sendOpen cn s).pages = s.pages ∧ (sendOpen cn s).counters = s.counters ∧ (sendOpen cn s).tiers = s.tiers ∧
    (sendOpen cn s).dwt = s.dwt ∧ (sendOpen cn s).col = s.col ∧ (sendOpen cn s).sec = s.sec ∧
    (sendOpen cn s).rcv = s.rcv ∧ (sendOpen cn s).mgt = s.mgt ∧ (sendOpen cn s).hif = s.hif := by
  simp [sendOpen]

@[simp] theorem shake_same (cn : Nat) (s : State) :
    (shake cn s).pending = s.pending ∧ (shake cn s).out = s.out ∧ (shake cn s).ticks = s.ticks ∧
    (shake cn s).coldResets = s.coldResets ∧ (shake cn s).fuse = s.fuse ∧ (shake cn s).modl = s.modl ∧
    (shake cn s).power = s.power ∧ (shake cn s).cores = s.cores ∧ (shake cn s).ctxs = s.ctxs ∧
    (shake cn s).pages = s.pages ∧ (shake cn s).counters = s.counters ∧ (shake cn s).tiers = s.tiers ∧
    (shake cn s).col = s.col ∧ (shake cn s).sec = s.sec ∧ (shake cn s).rcv = s.rcv ∧ (shake cn s).mgt = s.mgt ∧
    (shake cn s).hif = s.hif := by
  simp [shake]

@[simp] theorem maybeShake_same (cn : Nat) (s : State) :
    (maybeShake cn s).pending = s.pending ∧ (maybeShake cn s).out = s.out ∧ (maybeShake cn s).ticks = s.ticks ∧
    (maybeShake cn s).coldResets = s.coldResets ∧ (maybeShake cn s).fuse = s.fuse ∧
    (maybeShake cn s).modl = s.modl ∧ (maybeShake cn s).power = s.power ∧ (maybeShake cn s).cores = s.cores ∧
    (maybeShake cn s).ctxs = s.ctxs ∧ (maybeShake cn s).pages = s.pages ∧ (maybeShake cn s).counters = s.counters ∧
    (maybeShake cn s).tiers = s.tiers ∧ (maybeShake cn s).col = s.col ∧ (maybeShake cn s).sec = s.sec ∧
    (maybeShake cn s).rcv = s.rcv ∧ (maybeShake cn s).mgt = s.mgt ∧ (maybeShake cn s).hif = s.hif := by
  simp [maybeShake]

@[simp] theorem finishOps_same (cn : Nat) (s : State) :
    (finishOps cn s).pending = s.pending ∧ (finishOps cn s).ticks = s.ticks ∧
    (finishOps cn s).coldResets = s.coldResets ∧ (finishOps cn s).fuse = s.fuse ∧
    (finishOps cn s).power = s.power ∧ (finishOps cn s).cores = s.cores ∧ (finishOps cn s).pages = s.pages ∧
    (finishOps cn s).col = s.col ∧ (finishOps cn s).nets = s.nets ∧ (finishOps cn s).hif = s.hif := by
  simp [finishOps]

@[simp] theorem State.sendColl_same (s : State) (cn : Nat) (g : CollSeg) :
    (State.sendColl s cn g).pending = s.pending ∧ (State.sendColl s cn g).fresh = s.fresh ∧
    (State.sendColl s cn g).out = s.out ∧ (State.sendColl s cn g).ticks = s.ticks ∧
    (State.sendColl s cn g).coldResets = s.coldResets ∧ (State.sendColl s cn g).fuse = s.fuse ∧
    (State.sendColl s cn g).modl = s.modl ∧ (State.sendColl s cn g).power = s.power ∧
    (State.sendColl s cn g).cores = s.cores ∧ (State.sendColl s cn g).ctxs = s.ctxs ∧
    (State.sendColl s cn g).pages = s.pages ∧ (State.sendColl s cn g).counters = s.counters ∧
    (State.sendColl s cn g).tiers = s.tiers ∧ (State.sendColl s cn g).col = s.col ∧
    (State.sendColl s cn g).sec = s.sec ∧ (State.sendColl s cn g).rcv = s.rcv ∧
    (State.sendColl s cn g).mgt = s.mgt ∧ (State.sendColl s cn g).hif = s.hif := by
  simp [State.sendColl]

@[simp] theorem State.collSend_same (cn : Nat) (a1 : Nat) (s : State) :
    (State.collSend cn a1 s).pending = s.pending ∧ (State.collSend cn a1 s).fresh = s.fresh ∧
    (State.collSend cn a1 s).out = s.out ∧ (State.collSend cn a1 s).ticks = s.ticks ∧
    (State.collSend cn a1 s).coldResets = s.coldResets ∧ (State.collSend cn a1 s).fuse = s.fuse ∧
    (State.collSend cn a1 s).modl = s.modl ∧ (State.collSend cn a1 s).power = s.power ∧
    (State.collSend cn a1 s).cores = s.cores ∧ (State.collSend cn a1 s).ctxs = s.ctxs ∧
    (State.collSend cn a1 s).pages = s.pages ∧ (State.collSend cn a1 s).counters = s.counters ∧
    (State.collSend cn a1 s).tiers = s.tiers ∧ (State.collSend cn a1 s).col = s.col ∧
    (State.collSend cn a1 s).sec = s.sec ∧ (State.collSend cn a1 s).rcv = s.rcv ∧
    (State.collSend cn a1 s).mgt = s.mgt ∧ (State.collSend cn a1 s).hif = s.hif := by
  induction a1 generalizing s with
  | zero => simp [State.collSend]
  | succ n ih =>
    simp only [State.collSend]
    (repeat' split) <;> simp [ih]

@[simp] theorem afterAnswer_same (cn : Nat) (s : State) :
    (afterAnswer cn s).pending = s.pending ∧ (afterAnswer cn s).ticks = s.ticks ∧
    (afterAnswer cn s).coldResets = s.coldResets ∧ (afterAnswer cn s).fuse = s.fuse ∧
    (afterAnswer cn s).power = s.power ∧ (afterAnswer cn s).cores = s.cores ∧ (afterAnswer cn s).pages = s.pages ∧
    (afterAnswer cn s).col = s.col ∧ (afterAnswer cn s).hif = s.hif := by
  simp [afterAnswer]

@[simp] theorem failOps_same (cn status : Nat) (s : State) :
    (failOps cn status s).pending = s.pending ∧ (failOps cn status s).ticks = s.ticks ∧
    (failOps cn status s).coldResets = s.coldResets ∧ (failOps cn status s).fuse = s.fuse ∧
    (failOps cn status s).power = s.power ∧ (failOps cn status s).cores = s.cores ∧
    (failOps cn status s).pages = s.pages ∧ (failOps cn status s).col = s.col ∧
    (failOps cn status s).nets = s.nets ∧ (failOps cn status s).hif = s.hif := by
  simp [failOps]

@[simp] theorem State.markFallen_same (s : State) (cn : Nat) :
    (State.markFallen s cn).pending = s.pending ∧ (State.markFallen s cn).fresh = s.fresh ∧
    (State.markFallen s cn).out = s.out ∧ (State.markFallen s cn).ticks = s.ticks ∧
    (State.markFallen s cn).coldResets = s.coldResets ∧ (State.markFallen s cn).fuse = s.fuse ∧
    (State.markFallen s cn).modl = s.modl ∧ (State.markFallen s cn).power = s.power ∧
    (State.markFallen s cn).cores = s.cores ∧ (State.markFallen s cn).ctxs = s.ctxs ∧
    (State.markFallen s cn).pages = s.pages ∧ (State.markFallen s cn).counters = s.counters ∧
    (State.markFallen s cn).tiers = s.tiers ∧ (State.markFallen s cn).col = s.col ∧
    (State.markFallen s cn).nets = s.nets ∧ (State.markFallen s cn).sec = s.sec ∧
    (State.markFallen s cn).rcv = s.rcv ∧ (State.markFallen s cn).mgt = s.mgt ∧ (State.markFallen s cn).hif = s.hif := by
  simp [State.markFallen]

@[simp] theorem connFalls_same (cn : Nat) (s : State) :
    (connFalls cn s).pending = s.pending ∧ (connFalls cn s).ticks = s.ticks ∧
    (connFalls cn s).coldResets = s.coldResets ∧ (connFalls cn s).fuse = s.fuse ∧
    (connFalls cn s).power = s.power ∧ (connFalls cn s).cores = s.cores ∧ (connFalls cn s).pages = s.pages ∧
    (connFalls cn s).col = s.col ∧ (connFalls cn s).hif = s.hif := by
  simp [connFalls]

@[simp] theorem connReset_same (cn : Nat) (s : State) :
    (connReset cn s).pending = s.pending ∧ (connReset cn s).ticks = s.ticks ∧
    (connReset cn s).coldResets = s.coldResets ∧ (connReset cn s).fuse = s.fuse ∧
    (connReset cn s).power = s.power ∧ (connReset cn s).cores = s.cores ∧ (connReset cn s).pages = s.pages ∧
    (connReset cn s).col = s.col ∧ (connReset cn s).hif = s.hif := by
  simp [connReset]

@[simp] theorem openReceived_same (cn : Nat) (b : OpenBody) (s : State) :
    (openReceived cn b s).pending = s.pending ∧ (openReceived cn b s).ticks = s.ticks ∧
    (openReceived cn b s).coldResets = s.coldResets ∧ (openReceived cn b s).fuse = s.fuse ∧
    (openReceived cn b s).power = s.power ∧ (openReceived cn b s).cores = s.cores ∧
    (openReceived cn b s).pages = s.pages ∧ (openReceived cn b s).col = s.col ∧ (openReceived cn b s).hif = s.hif := by
  unfold openReceived
  dsimp only
  (repeat' split) <;> simp_all

@[simp] theorem connOpen_same (q : Nat) (t : Started) (s : State) :
    (connOpen q t s).pending = s.pending ∧ (connOpen q t s).ticks = s.ticks ∧
    (connOpen q t s).coldResets = s.coldResets ∧ (connOpen q t s).fuse = s.fuse ∧
    (connOpen q t s).power = s.power ∧ (connOpen q t s).cores = s.cores ∧ (connOpen q t s).pages = s.pages ∧
    (connOpen q t s).col = s.col ∧ (connOpen q t s).hif = s.hif := by
  unfold connOpen
  dsimp only
  (repeat' split) <;> simp_all

@[simp] theorem connClose_same (q : Nat) (t : Started) (s : State) :
    (connClose q t s).pending = s.pending ∧ (connClose q t s).ticks = s.ticks ∧
    (connClose q t s).coldResets = s.coldResets ∧ (connClose q t s).fuse = s.fuse ∧
    (connClose q t s).power = s.power ∧ (connClose q t s).cores = s.cores ∧ (connClose q t s).pages = s.pages ∧
    (connClose q t s).col = s.col ∧ (connClose q t s).hif = s.hif := by
  unfold connClose
  dsimp only
  (repeat' split) <;> simp_all

@[simp] theorem openResend_same (cn : Nat) (s : State) :
    (openResend cn s).pending = s.pending ∧ (openResend cn s).out = s.out ∧ (openResend cn s).ticks = s.ticks ∧
    (openResend cn s).coldResets = s.coldResets ∧ (openResend cn s).fuse = s.fuse ∧
    (openResend cn s).modl = s.modl ∧ (openResend cn s).power = s.power ∧ (openResend cn s).cores = s.cores ∧
    (openResend cn s).ctxs = s.ctxs ∧ (openResend cn s).pages = s.pages ∧ (openResend cn s).counters = s.counters ∧
    (openResend cn s).tiers = s.tiers ∧ (openResend cn s).dwt = s.dwt ∧ (openResend cn s).col = s.col ∧
    (openResend cn s).sec = s.sec ∧ (openResend cn s).rcv = s.rcv ∧ (openResend cn s).mgt = s.mgt ∧
    (openResend cn s).hif = s.hif := by
  simp [openResend]

@[simp] theorem connNoPeerEnd_same (cn : Nat) (s : State) :
    (connNoPeerEnd cn s).pending = s.pending ∧ (connNoPeerEnd cn s).ticks = s.ticks ∧
    (connNoPeerEnd cn s).coldResets = s.coldResets ∧ (connNoPeerEnd cn s).fuse = s.fuse ∧
    (connNoPeerEnd cn s).power = s.power ∧ (connNoPeerEnd cn s).cores = s.cores ∧
    (connNoPeerEnd cn s).pages = s.pages ∧ (connNoPeerEnd cn s).col = s.col ∧ (connNoPeerEnd cn s).nets = s.nets ∧
    (connNoPeerEnd cn s).hif = s.hif := by
  unfold connNoPeerEnd
  dsimp only
  (repeat' split) <;> simp_all

@[simp] theorem rekey_same (cn : Nat) (s : State) :
    (rekey cn s).pending = s.pending ∧ (rekey cn s).out = s.out ∧ (rekey cn s).ticks = s.ticks ∧
    (rekey cn s).coldResets = s.coldResets ∧ (rekey cn s).fuse = s.fuse ∧ (rekey cn s).modl = s.modl ∧
    (rekey cn s).power = s.power ∧ (rekey cn s).cores = s.cores ∧ (rekey cn s).ctxs = s.ctxs ∧
    (rekey cn s).pages = s.pages ∧ (rekey cn s).counters = s.counters ∧ (rekey cn s).tiers = s.tiers ∧
    (rekey cn s).col = s.col ∧ (rekey cn s).sec = s.sec ∧ (rekey cn s).rcv = s.rcv ∧ (rekey cn s).mgt = s.mgt ∧
    (rekey cn s).hif = s.hif := by
  unfold rekey
  dsimp only
  (repeat' split) <;> simp_all

@[simp] theorem beginOp_same (cn q : Nat) (t : Started) (o : DwtOp) (s : State) :
    (beginOp cn q t o s).pending = s.pending ∧ (beginOp cn q t o s).ticks = s.ticks ∧
    (beginOp cn q t o s).coldResets = s.coldResets ∧ (beginOp cn q t o s).fuse = s.fuse ∧
    (beginOp cn q t o s).power = s.power ∧ (beginOp cn q t o s).cores = s.cores ∧
    (beginOp cn q t o s).pages = s.pages ∧ (beginOp cn q t o s).col = s.col ∧ (beginOp cn q t o s).hif = s.hif := by
  simp [beginOp]

theorem dwtMove_same (q : Nat) (t : Started) (s : State) {z : State} (h : dwtMove q t s = some z) :
    z.pending = s.pending ∧ z.ticks = s.ticks ∧ z.coldResets = s.coldResets ∧ z.fuse = s.fuse ∧ z.power = s.power ∧
    z.cores = s.cores ∧ z.pages = s.pages ∧ z.col = s.col ∧ z.hif = s.hif := by
  unfold dwtMove at h
  dsimp only at h
  split at h
  · injection h with h
    subst h
    simp
  · split at h
    · cases h
    · injection h with h
      subst h
      simp

theorem pullBegin_same (q : Nat) (t : Started) (s : State) {v : State} (h : pullBegin q t s = some v) :
    v.pending = s.pending ∧ v.ticks = s.ticks ∧ v.coldResets = s.coldResets ∧ v.fuse = s.fuse ∧ v.power = s.power ∧
    v.cores = s.cores ∧ v.pages = s.pages ∧ v.col = s.col ∧ v.hif = s.hif := by
  unfold pullBegin at h
  simp only [] at h
  split at h
  · simp only [Option.some.injEq] at h
    rw [← h]; simp
  · split at h
    · simp at h
    · simp only [Option.some.injEq] at h
      rw [← h]; simp

theorem pull_same (q : Nat) (t : Started) (signer : BitVec 768) (s : State) {v : State} (h : pull q t signer s = some v) :
    v.pending = s.pending ∧ v.ticks = s.ticks ∧ v.coldResets = s.coldResets ∧ v.fuse = s.fuse ∧ v.power = s.power ∧
    v.cores = s.cores ∧ v.pages = s.pages ∧ v.col = s.col ∧ v.hif = s.hif := by
  unfold pull at h
  split at h
  · simp only [Option.some.injEq] at h
    rw [← h]; simp
  · simpa using pullBegin_same _ _ _ h

@[simp] theorem chunkCheck_same (cn k : Nat) (s : State) :
    (chunkCheck cn k s).pending = s.pending ∧ (chunkCheck cn k s).ticks = s.ticks ∧
    (chunkCheck cn k s).coldResets = s.coldResets ∧ (chunkCheck cn k s).fuse = s.fuse ∧
    (chunkCheck cn k s).power = s.power ∧ (chunkCheck cn k s).cores = s.cores ∧
    (chunkCheck cn k s).pages = s.pages ∧ (chunkCheck cn k s).col = s.col ∧ (chunkCheck cn k s).hif = s.hif := by
  unfold chunkCheck
  dsimp only
  (repeat' split) <;> simp_all

@[simp] theorem countRetransmit_same (s : State) :
    (countRetransmit s).pending = s.pending ∧ (countRetransmit s).fresh = s.fresh ∧
    (countRetransmit s).out = s.out ∧ (countRetransmit s).ticks = s.ticks ∧
    (countRetransmit s).coldResets = s.coldResets ∧ (countRetransmit s).fuse = s.fuse ∧
    (countRetransmit s).modl = s.modl ∧ (countRetransmit s).power = s.power ∧ (countRetransmit s).cores = s.cores ∧
    (countRetransmit s).ctxs = s.ctxs ∧ (countRetransmit s).pages = s.pages ∧
    (countRetransmit s).counters = s.counters ∧ (countRetransmit s).tiers = s.tiers ∧
    (countRetransmit s).col = s.col ∧ (countRetransmit s).nets = s.nets ∧ (countRetransmit s).sec = s.sec ∧
    (countRetransmit s).rcv = s.rcv ∧ (countRetransmit s).mgt = s.mgt ∧ (countRetransmit s).hif = s.hif := by
  simp [countRetransmit]

@[simp] theorem retransmitColl_same (cn seq : Nat) (s : State) :
    (retransmitColl cn seq s).pending = s.pending ∧ (retransmitColl cn seq s).ticks = s.ticks ∧
    (retransmitColl cn seq s).coldResets = s.coldResets ∧ (retransmitColl cn seq s).fuse = s.fuse ∧
    (retransmitColl cn seq s).power = s.power ∧ (retransmitColl cn seq s).cores = s.cores ∧
    (retransmitColl cn seq s).pages = s.pages ∧ (retransmitColl cn seq s).col = s.col ∧
    (retransmitColl cn seq s).hif = s.hif := by
  unfold retransmitColl
  dsimp only
  (repeat' split) <;> simp

@[simp] theorem retransmit_same (cn seq : Nat) (s : State) :
    (retransmit cn seq s).pending = s.pending ∧ (retransmit cn seq s).ticks = s.ticks ∧
    (retransmit cn seq s).coldResets = s.coldResets ∧ (retransmit cn seq s).fuse = s.fuse ∧
    (retransmit cn seq s).power = s.power ∧ (retransmit cn seq s).cores = s.cores ∧
    (retransmit cn seq s).pages = s.pages ∧ (retransmit cn seq s).col = s.col ∧ (retransmit cn seq s).hif = s.hif := by
  unfold retransmit
  dsimp only
  (repeat' split) <;> simp_all

@[simp] theorem authFail_same (cn : Nat) (s : State) :
    (authFail cn s).pending = s.pending ∧ (authFail cn s).ticks = s.ticks ∧
    (authFail cn s).coldResets = s.coldResets ∧ (authFail cn s).fuse = s.fuse ∧ (authFail cn s).power = s.power ∧
    (authFail cn s).cores = s.cores ∧ (authFail cn s).ctxs = s.ctxs ∧ (authFail cn s).pages = s.pages ∧
    (authFail cn s).counters = s.counters ∧ (authFail cn s).tiers = s.tiers ∧ (authFail cn s).col = s.col ∧
    (authFail cn s).nets = s.nets ∧ (authFail cn s).sec = s.sec ∧ (authFail cn s).rcv = s.rcv ∧
    (authFail cn s).hif = s.hif := by
  simp [authFail]

@[simp] theorem State.heard_same (s : State) (cn : Nat) :
    (State.heard s cn).pending = s.pending ∧ (State.heard s cn).fresh = s.fresh ∧ (State.heard s cn).out = s.out ∧
    (State.heard s cn).ticks = s.ticks ∧ (State.heard s cn).coldResets = s.coldResets ∧
    (State.heard s cn).fuse = s.fuse ∧ (State.heard s cn).modl = s.modl ∧ (State.heard s cn).power = s.power ∧
    (State.heard s cn).cores = s.cores ∧ (State.heard s cn).ctxs = s.ctxs ∧ (State.heard s cn).pages = s.pages ∧
    (State.heard s cn).counters = s.counters ∧ (State.heard s cn).tiers = s.tiers ∧
    (State.heard s cn).col = s.col ∧ (State.heard s cn).nets = s.nets ∧ (State.heard s cn).sec = s.sec ∧
    (State.heard s cn).rcv = s.rcv ∧ (State.heard s cn).mgt = s.mgt ∧ (State.heard s cn).hif = s.hif := by
  simp [State.heard]

@[simp] theorem dwtIn_same (n : Nat) (f : RxFacts) (m : Msg) (typ : Nat) (s : State) :
    (dwtIn n f m typ s).s.pending = s.pending ∧ (dwtIn n f m typ s).s.ticks = s.ticks ∧
    (dwtIn n f m typ s).s.coldResets = s.coldResets ∧ (dwtIn n f m typ s).s.fuse = s.fuse ∧
    (dwtIn n f m typ s).s.power = s.power ∧ (dwtIn n f m typ s).s.cores = s.cores ∧
    (dwtIn n f m typ s).s.ctxs = s.ctxs ∧ (dwtIn n f m typ s).s.pages = s.pages ∧
    (dwtIn n f m typ s).s.counters = s.counters ∧ (dwtIn n f m typ s).s.tiers = s.tiers ∧
    (dwtIn n f m typ s).s.col = s.col ∧ (dwtIn n f m typ s).s.sec = s.sec ∧ (dwtIn n f m typ s).s.rcv = s.rcv ∧
    (dwtIn n f m typ s).s.hif = s.hif := by
  unfold dwtIn
  dsimp only
  (repeat' split) <;> simp_all

@[simp] theorem sendNak_same (cn : Nat) (m : Msg) (status : Nat) (s : State) :
    (sendNak cn m status s).pending = s.pending ∧ (sendNak cn m status s).fresh = s.fresh ∧
    (sendNak cn m status s).out = s.out ∧ (sendNak cn m status s).ticks = s.ticks ∧
    (sendNak cn m status s).coldResets = s.coldResets ∧ (sendNak cn m status s).fuse = s.fuse ∧
    (sendNak cn m status s).modl = s.modl ∧ (sendNak cn m status s).power = s.power ∧
    (sendNak cn m status s).cores = s.cores ∧ (sendNak cn m status s).ctxs = s.ctxs ∧
    (sendNak cn m status s).pages = s.pages ∧ (sendNak cn m status s).counters = s.counters ∧
    (sendNak cn m status s).tiers = s.tiers ∧ (sendNak cn m status s).col = s.col ∧
    (sendNak cn m status s).sec = s.sec ∧ (sendNak cn m status s).rcv = s.rcv ∧
    (sendNak cn m status s).mgt = s.mgt ∧ (sendNak cn m status s).hif = s.hif := by
  simp [sendNak]

@[simp] theorem markNaked_same (cn : Nat) (m : Msg) (s : State) :
    (markNaked cn m s).pending = s.pending ∧ (markNaked cn m s).fresh = s.fresh ∧ (markNaked cn m s).out = s.out ∧
    (markNaked cn m s).ticks = s.ticks ∧ (markNaked cn m s).coldResets = s.coldResets ∧
    (markNaked cn m s).fuse = s.fuse ∧ (markNaked cn m s).modl = s.modl ∧ (markNaked cn m s).power = s.power ∧
    (markNaked cn m s).cores = s.cores ∧ (markNaked cn m s).ctxs = s.ctxs ∧ (markNaked cn m s).pages = s.pages ∧
    (markNaked cn m s).counters = s.counters ∧ (markNaked cn m s).tiers = s.tiers ∧
    (markNaked cn m s).col = s.col ∧ (markNaked cn m s).nets = s.nets ∧ (markNaked cn m s).sec = s.sec ∧
    (markNaked cn m s).rcv = s.rcv ∧ (markNaked cn m s).mgt = s.mgt ∧ (markNaked cn m s).hif = s.hif := by
  simp [markNaked]

@[simp] theorem answerRead_same (cn : Nat) (m : Msg) (s : State) :
    (answerRead cn m s).1.pending = s.pending ∧ (answerRead cn m s).1.ticks = s.ticks ∧
    (answerRead cn m s).1.coldResets = s.coldResets ∧ (answerRead cn m s).1.fuse = s.fuse ∧
    (answerRead cn m s).1.power = s.power ∧ (answerRead cn m s).1.cores = s.cores ∧
    (answerRead cn m s).1.ctxs = s.ctxs ∧ (answerRead cn m s).1.pages = s.pages ∧
    (answerRead cn m s).1.counters = s.counters ∧ (answerRead cn m s).1.col = s.col ∧
    (answerRead cn m s).1.rcv = s.rcv ∧ (answerRead cn m s).1.hif = s.hif := by
  unfold answerRead
  dsimp only
  (repeat' split) <;> simp_all

@[simp] theorem answerAck_same (cn : Nat) (m : Msg) (s : State) :
    (answerAck cn m s).pending = s.pending ∧ (answerAck cn m s).fresh = s.fresh ∧ (answerAck cn m s).out = s.out ∧
    (answerAck cn m s).ticks = s.ticks ∧ (answerAck cn m s).coldResets = s.coldResets ∧
    (answerAck cn m s).fuse = s.fuse ∧ (answerAck cn m s).modl = s.modl ∧ (answerAck cn m s).power = s.power ∧
    (answerAck cn m s).cores = s.cores ∧ (answerAck cn m s).ctxs = s.ctxs ∧ (answerAck cn m s).pages = s.pages ∧
    (answerAck cn m s).counters = s.counters ∧ (answerAck cn m s).tiers = s.tiers ∧
    (answerAck cn m s).col = s.col ∧ (answerAck cn m s).sec = s.sec ∧ (answerAck cn m s).rcv = s.rcv ∧
    (answerAck cn m s).mgt = s.mgt ∧ (answerAck cn m s).hif = s.hif := by
  simp [answerAck]

@[simp] theorem countNotify_same (cn : Nat) (m : Msg) (s : State) :
    (countNotify cn m s).pending = s.pending ∧ (countNotify cn m s).ticks = s.ticks ∧
    (countNotify cn m s).coldResets = s.coldResets ∧ (countNotify cn m s).fuse = s.fuse ∧
    (countNotify cn m s).power = s.power ∧ (countNotify cn m s).cores = s.cores ∧
    (countNotify cn m s).pages = s.pages ∧ (countNotify cn m s).tiers = s.tiers ∧
    (countNotify cn m s).col = s.col ∧ (countNotify cn m s).nets = s.nets ∧ (countNotify cn m s).sec = s.sec ∧
    (countNotify cn m s).rcv = s.rcv ∧ (countNotify cn m s).hif = s.hif := by
  unfold countNotify
  dsimp only
  (repeat' split) <;> simp_all

@[simp] theorem applySeg_same (cn : Nat) (m : Msg) (s : State) :
    (applySeg cn m s).pending = s.pending ∧ (applySeg cn m s).ticks = s.ticks ∧
    (applySeg cn m s).coldResets = s.coldResets ∧ (applySeg cn m s).fuse = s.fuse ∧
    (applySeg cn m s).power = s.power ∧ (applySeg cn m s).cores = s.cores ∧ (applySeg cn m s).pages = s.pages ∧
    (applySeg cn m s).col = s.col ∧ (applySeg cn m s).hif = s.hif := by
  simp [applySeg]

@[simp] theorem refuseSeg_same (cn : Nat) (m : Msg) (k : Nat) (s : State) :
    (refuseSeg cn m k s).pending = s.pending ∧ (refuseSeg cn m k s).fresh = s.fresh ∧
    (refuseSeg cn m k s).out = s.out ∧ (refuseSeg cn m k s).ticks = s.ticks ∧
    (refuseSeg cn m k s).coldResets = s.coldResets ∧ (refuseSeg cn m k s).fuse = s.fuse ∧
    (refuseSeg cn m k s).modl = s.modl ∧ (refuseSeg cn m k s).power = s.power ∧
    (refuseSeg cn m k s).cores = s.cores ∧ (refuseSeg cn m k s).ctxs = s.ctxs ∧
    (refuseSeg cn m k s).pages = s.pages ∧ (refuseSeg cn m k s).counters = s.counters ∧
    (refuseSeg cn m k s).tiers = s.tiers ∧ (refuseSeg cn m k s).col = s.col ∧ (refuseSeg cn m k s).sec = s.sec ∧
    (refuseSeg cn m k s).rcv = s.rcv ∧ (refuseSeg cn m k s).mgt = s.mgt ∧ (refuseSeg cn m k s).hif = s.hif := by
  simp [refuseSeg]

@[simp] theorem replayReset_same (cn : Nat) (s : State) :
    (replayReset cn s).pending = s.pending ∧ (replayReset cn s).ticks = s.ticks ∧
    (replayReset cn s).coldResets = s.coldResets ∧ (replayReset cn s).fuse = s.fuse ∧
    (replayReset cn s).power = s.power ∧ (replayReset cn s).cores = s.cores ∧ (replayReset cn s).pages = s.pages ∧
    (replayReset cn s).col = s.col ∧ (replayReset cn s).hif = s.hif := by
  simp [replayReset]

@[simp] theorem segArrives_same (cn : Nat) (m : Msg) (s : State) :
    (segArrives cn m s).pending = s.pending ∧ (segArrives cn m s).ticks = s.ticks ∧
    (segArrives cn m s).coldResets = s.coldResets ∧ (segArrives cn m s).fuse = s.fuse ∧
    (segArrives cn m s).power = s.power ∧ (segArrives cn m s).cores = s.cores ∧
    (segArrives cn m s).pages = s.pages ∧ (segArrives cn m s).col = s.col ∧ (segArrives cn m s).hif = s.hif := by
  unfold segArrives
  dsimp only
  (repeat' split) <;> simp_all

@[simp] theorem answerArrives_same (cn : Nat) (m : Msg) (s : State) :
    (answerArrives cn m s).pending = s.pending ∧ (answerArrives cn m s).ticks = s.ticks ∧
    (answerArrives cn m s).coldResets = s.coldResets ∧ (answerArrives cn m s).fuse = s.fuse ∧
    (answerArrives cn m s).power = s.power ∧ (answerArrives cn m s).cores = s.cores ∧
    (answerArrives cn m s).pages = s.pages ∧ (answerArrives cn m s).col = s.col ∧ (answerArrives cn m s).hif = s.hif := by
  unfold answerArrives
  dsimp only
  (repeat' split) <;> simp_all

end Sys2Proof.Machine
end

