-- ==== Sys2Proof/Laws/MemDwt.lean ====
section
/-! SUPPORT. Memory keeps its canonical form through the definitions of Machine/Dwt.lean. -/

namespace Sys2Proof.Machine

@[simp] theorem State.report_mem (s : State) (q : Nat) (t : Started) (status bytes : Nat)
    (hm : Memory.wf s.tiers.mem = true) :
    Memory.wf (State.report s q t status bytes).tiers.mem = true := by
  simp (maxDischargeDepth := 12) [-State.ite_tiers, State.report, hm]

@[simp] theorem State.dwtComplete_mem (s : State) (q num status bytes : Nat)
    (hm : Memory.wf s.tiers.mem = true) :
    Memory.wf (State.dwtComplete s q num status bytes).tiers.mem = true := by
  unfold State.dwtComplete
  dsimp only
  (repeat' split) <;> simp (maxDischargeDepth := 12) [-State.ite_tiers, hm]

theorem startEntry_mem (q op : Nat) (run : Started → State → Option State) (s : State) (hm : Memory.wf s.tiers.mem = true)
    (hr : ∀ t u v, run t u = some v → Memory.wf u.tiers.mem = true → Memory.wf v.tiers.mem = true) : Memory.wf (startEntry q op run s).tiers.mem = true := by
  unfold startEntry
  dsimp only
  (repeat' split) <;> try simp (maxDischargeDepth := 12) [hm]
  exact hr _ _ _ ‹run _ _ = some _› (by simp (maxDischargeDepth := 12) [hm])

@[simp] theorem winOpen_mem (q : Nat) (t : Started) (s : State)
    (hm : Memory.wf s.tiers.mem = true) :
    Memory.wf (winOpen q t s).tiers.mem = true := by
  unfold winOpen
  dsimp only
  (repeat' split) <;> simp (maxDischargeDepth := 12) [-State.ite_tiers, hm]

@[simp] theorem winRevoke_mem (q : Nat) (t : Started) (s : State)
    (hm : Memory.wf s.tiers.mem = true) :
    Memory.wf (winRevoke q t s).tiers.mem = true := by
  unfold winRevoke
  dsimp only
  (repeat' split) <;> simp (maxDischargeDepth := 12) [-State.ite_tiers, hm]

@[simp] theorem revokeComplete_mem (w : Nat) (s : State)
    (hm : Memory.wf s.tiers.mem = true) :
    Memory.wf (revokeComplete w s).tiers.mem = true := by
  unfold revokeComplete
  dsimp only
  (repeat' split) <;> simp (maxDischargeDepth := 12) [-State.ite_tiers, hm]

@[simp] theorem State.sendSeg_mem (s : State) (cn : Nat) (o : DwtOp) (g : Seg)
    (hm : Memory.wf s.tiers.mem = true) :
    Memory.wf (State.sendSeg s cn o g).tiers.mem = true := by
  simp (maxDischargeDepth := 12) [-State.ite_tiers, State.sendSeg, hm]

@[simp] theorem State.dwtSend_mem (cn : Nat) (a1 : Nat) (s : State)
    (hm : Memory.wf s.tiers.mem = true) :
    Memory.wf (State.dwtSend cn a1 s).tiers.mem = true := by
  induction a1 generalizing s with
  | zero => simp (maxDischargeDepth := 12) [-State.ite_tiers, State.dwtSend, hm]
  | succ n ih =>
    simp only [State.dwtSend]
    (repeat' split) <;> simp (maxDischargeDepth := 12) [-State.ite_tiers, ih, hm]

@[simp] theorem closeConn_mem (cn : Nat) (s : State)
    (hm : Memory.wf s.tiers.mem = true) :
    Memory.wf (closeConn cn s).tiers.mem = true := by
  unfold closeConn
  dsimp only
  (repeat' split) <;> simp (maxDischargeDepth := 12) [-State.ite_tiers, hm]

@[simp] theorem finishOps_mem (cn : Nat) (s : State)
    (hm : Memory.wf s.tiers.mem = true) :
    Memory.wf (finishOps cn s).tiers.mem = true := by
  simp +contextual (maxDischargeDepth := 12) [-State.ite_tiers, finishOps, hm]

@[simp] theorem afterAnswer_mem (cn : Nat) (s : State)
    (hm : Memory.wf s.tiers.mem = true) :
    Memory.wf (afterAnswer cn s).tiers.mem = true := by
  simp +contextual (maxDischargeDepth := 12) [-State.ite_tiers, afterAnswer, hm]

@[simp] theorem failOps_mem (cn status : Nat) (s : State)
    (hm : Memory.wf s.tiers.mem = true) :
    Memory.wf (failOps cn status s).tiers.mem = true := by
  simp +contextual (maxDischargeDepth := 12) [-State.ite_tiers, failOps, hm]

@[simp] theorem connFalls_mem (cn : Nat) (s : State)
    (hm : Memory.wf s.tiers.mem = true) :
    Memory.wf (connFalls cn s).tiers.mem = true := by
  simp (maxDischargeDepth := 12) [-State.ite_tiers, connFalls, hm]

@[simp] theorem connReset_mem (cn : Nat) (s : State)
    (hm : Memory.wf s.tiers.mem = true) :
    Memory.wf (connReset cn s).tiers.mem = true := by
  simp (maxDischargeDepth := 12) [-State.ite_tiers, connReset, hm]

@[simp] theorem openReceived_mem (cn : Nat) (b : OpenBody) (s : State)
    (hm : Memory.wf s.tiers.mem = true) :
    Memory.wf (openReceived cn b s).tiers.mem = true := by
  unfold openReceived
  dsimp only
  (repeat' split) <;> simp (maxDischargeDepth := 12) [-State.ite_tiers, hm]

@[simp] theorem connOpen_mem (q : Nat) (t : Started) (s : State)
    (hm : Memory.wf s.tiers.mem = true) :
    Memory.wf (connOpen q t s).tiers.mem = true := by
  unfold connOpen
  dsimp only
  (repeat' split) <;> simp (maxDischargeDepth := 12) [-State.ite_tiers, hm]

@[simp] theorem connClose_mem (q : Nat) (t : Started) (s : State)
    (hm : Memory.wf s.tiers.mem = true) :
    Memory.wf (connClose q t s).tiers.mem = true := by
  unfold connClose
  dsimp only
  (repeat' split) <;> simp (maxDischargeDepth := 12) [-State.ite_tiers, hm]

@[simp] theorem connNoPeerEnd_mem (cn : Nat) (s : State)
    (hm : Memory.wf s.tiers.mem = true) :
    Memory.wf (connNoPeerEnd cn s).tiers.mem = true := by
  unfold connNoPeerEnd
  dsimp only
  (repeat' split) <;> simp (maxDischargeDepth := 12) [-State.ite_tiers, hm]

@[simp] theorem beginOp_mem (cn q : Nat) (t : Started) (o : DwtOp) (s : State)
    (hm : Memory.wf s.tiers.mem = true) :
    Memory.wf (beginOp cn q t o s).tiers.mem = true := by
  simp (maxDischargeDepth := 12) [-State.ite_tiers, beginOp, hm]

theorem dwtMove_mem (q : Nat) (t : Started) (s : State) {z : State} (h : dwtMove q t s = some z) (hm : Memory.wf s.tiers.mem = true) :
    Memory.wf z.tiers.mem = true := by
  unfold dwtMove at h
  dsimp only at h
  split at h
  · injection h with h
    subst h
    exact State.dwtComplete_mem _ _ _ _ _ hm
  · split at h
    · cases h
    · rw [← Option.some.inj h]
      exact beginOp_mem _ _ _ _ _ hm

theorem pullBegin_mem (q : Nat) (t : Started) (s : State) {v : State} (h : pullBegin q t s = some v) (hm : Memory.wf s.tiers.mem = true) :
    Memory.wf v.tiers.mem = true := by
  unfold pullBegin at h
  simp only [] at h
  split at h
  · simp only [Option.some.injEq] at h
    rw [← h]; simp (maxDischargeDepth := 12) [hm]
  · split at h
    · simp at h
    · simp only [Option.some.injEq] at h
      rw [← h]; simp (maxDischargeDepth := 12) [hm]

theorem pull_mem (q : Nat) (t : Started) (signer : BitVec 768) (s : State) {v : State} (h : pull q t signer s = some v)
    (hm : Memory.wf s.tiers.mem = true) : Memory.wf v.tiers.mem = true := by
  unfold pull at h
  split at h
  · simp only [Option.some.injEq] at h
    rw [← h]; simp (maxDischargeDepth := 12) [hm]
  · exact pullBegin_mem _ _ _ h hm

@[simp] theorem chunkCheck_mem (cn k : Nat) (s : State)
    (hm : Memory.wf s.tiers.mem = true) :
    Memory.wf (chunkCheck cn k s).tiers.mem = true := by
  unfold chunkCheck
  dsimp only
  (repeat' split) <;> simp (maxDischargeDepth := 12) [-State.ite_tiers, hm]

@[simp] theorem retransmitColl_mem (cn seq : Nat) (s : State)
    (hm : Memory.wf s.tiers.mem = true) :
    Memory.wf (retransmitColl cn seq s).tiers.mem = true := by
  unfold retransmitColl
  dsimp only
  (repeat' split) <;> simp (maxDischargeDepth := 12) [-State.ite_tiers, hm]

@[simp] theorem retransmit_mem (cn seq : Nat) (s : State)
    (hm : Memory.wf s.tiers.mem = true) :
    Memory.wf (retransmit cn seq s).tiers.mem = true := by
  unfold retransmit
  dsimp only
  (repeat' split) <;> simp (maxDischargeDepth := 12) [-State.ite_tiers, hm]

@[simp] theorem answerRead_mem (cn : Nat) (m : Msg) (s : State)
    (hm : Memory.wf s.tiers.mem = true) :
    Memory.wf (answerRead cn m s).1.tiers.mem = true := by
  unfold answerRead
  dsimp only
  (repeat' split) <;> simp (maxDischargeDepth := 12) [-State.ite_tiers, hm]

@[simp] theorem applySeg_mem (cn : Nat) (m : Msg) (s : State)
    (hm : Memory.wf s.tiers.mem = true) :
    Memory.wf (applySeg cn m s).tiers.mem = true := by
  simp (maxDischargeDepth := 12) [-State.ite_tiers, applySeg, hm]

@[simp] theorem replayReset_mem (cn : Nat) (s : State)
    (hm : Memory.wf s.tiers.mem = true) :
    Memory.wf (replayReset cn s).tiers.mem = true := by
  simp (maxDischargeDepth := 12) [-State.ite_tiers, replayReset, hm]

@[simp] theorem segArrives_mem (cn : Nat) (m : Msg) (s : State)
    (hm : Memory.wf s.tiers.mem = true) :
    Memory.wf (segArrives cn m s).tiers.mem = true := by
  unfold segArrives
  dsimp only
  (repeat' split) <;> simp (maxDischargeDepth := 12) [-State.ite_tiers, hm]

@[simp] theorem answerArrives_mem (cn : Nat) (m : Msg) (s : State)
    (hm : Memory.wf s.tiers.mem = true) :
    Memory.wf (answerArrives cn m s).tiers.mem = true := by
  unfold answerArrives
  dsimp only
  (repeat' split) <;> simp (maxDischargeDepth := 12) [-State.ite_tiers, hm]

end Sys2Proof.Machine
end

