-- ==== Sys2Proof/Laws/SameContexts.lean ====
section
/-! SUPPORT. What the definitions of Machine/Contexts.lean leave alone. -/

namespace Sys2Proof.Machine

@[simp] theorem readRest_same (slot va n : Nat) (h : MemRead) :
    (readRest slot va n h).mid.pending = h.s.pending ∧ (readRest slot va n h).mid.ticks = h.s.ticks ∧
    (readRest slot va n h).mid.coldResets = h.s.coldResets ∧ (readRest slot va n h).mid.fuse = h.s.fuse ∧
    (readRest slot va n h).mid.power = h.s.power ∧ (readRest slot va n h).mid.cores = h.s.cores ∧
    (readRest slot va n h).mid.ctxs = h.s.ctxs ∧ (readRest slot va n h).mid.pages = h.s.pages ∧
    (readRest slot va n h).mid.counters = h.s.counters ∧ (readRest slot va n h).mid.dwt = h.s.dwt ∧
    (readRest slot va n h).mid.col = h.s.col ∧ (readRest slot va n h).mid.nets = h.s.nets ∧ (readRest slot va n h).mid.rcv = h.s.rcv ∧
    (readRest slot va n h).mid.hif = h.s.hif ∧
    (readRest slot va n h).fin.pending = h.s.pending ∧ (readRest slot va n h).fin.ticks = h.s.ticks ∧
    (readRest slot va n h).fin.coldResets = h.s.coldResets ∧ (readRest slot va n h).fin.fuse = h.s.fuse ∧
    (readRest slot va n h).fin.power = h.s.power ∧ (readRest slot va n h).fin.cores = h.s.cores ∧
    (readRest slot va n h).fin.ctxs = h.s.ctxs ∧ (readRest slot va n h).fin.pages = h.s.pages ∧
    (readRest slot va n h).fin.counters = h.s.counters ∧ (readRest slot va n h).fin.dwt = h.s.dwt ∧
    (readRest slot va n h).fin.col = h.s.col ∧ (readRest slot va n h).fin.nets = h.s.nets ∧ (readRest slot va n h).fin.rcv = h.s.rcv ∧
    (readRest slot va n h).fin.hif = h.s.hif := by
  simp [readRest]

@[simp] theorem checkDesc_same (slot encl va : Nat) (reload : Bool) (s : State) :
    (checkDesc slot encl va reload s).s.pending = s.pending ∧ (checkDesc slot encl va reload s).s.ticks = s.ticks ∧
    (checkDesc slot encl va reload s).s.coldResets = s.coldResets ∧
    (checkDesc slot encl va reload s).s.fuse = s.fuse ∧ (checkDesc slot encl va reload s).s.power = s.power ∧
    (checkDesc slot encl va reload s).s.cores = s.cores ∧ (checkDesc slot encl va reload s).s.ctxs = s.ctxs ∧
    (checkDesc slot encl va reload s).s.pages = s.pages ∧
    (checkDesc slot encl va reload s).s.counters = s.counters ∧ (checkDesc slot encl va reload s).s.dwt = s.dwt ∧
    (checkDesc slot encl va reload s).s.col = s.col ∧ (checkDesc slot encl va reload s).s.nets = s.nets ∧
    (checkDesc slot encl va reload s).s.rcv = s.rcv ∧ (checkDesc slot encl va reload s).s.hif = s.hif := by
  unfold checkDesc
  dsimp only
  (repeat' split) <;> simp

@[simp] theorem loadCtx_same (slot encl va : Nat) (s : State) :
    (loadCtx slot encl va s).1.pending = s.pending ∧ (loadCtx slot encl va s).1.ticks = s.ticks ∧
    (loadCtx slot encl va s).1.coldResets = s.coldResets ∧ (loadCtx slot encl va s).1.fuse = s.fuse ∧
    (loadCtx slot encl va s).1.power = s.power ∧ (loadCtx slot encl va s).1.cores = s.cores ∧
    (loadCtx slot encl va s).1.pages = s.pages ∧ (loadCtx slot encl va s).1.dwt = s.dwt ∧
    (loadCtx slot encl va s).1.col = s.col ∧ (loadCtx slot encl va s).1.nets = s.nets ∧
    (loadCtx slot encl va s).1.rcv = s.rcv ∧ (loadCtx slot encl va s).1.hif = s.hif := by
  unfold loadCtx
  dsimp only
  (repeat' split) <;> simp

@[simp] theorem replaceCtx_same (slot encl va : Nat) (s : State) :
    (replaceCtx slot encl va s).pending = s.pending ∧ (replaceCtx slot encl va s).ticks = s.ticks ∧
    (replaceCtx slot encl va s).coldResets = s.coldResets ∧ (replaceCtx slot encl va s).fuse = s.fuse ∧
    (replaceCtx slot encl va s).power = s.power ∧ (replaceCtx slot encl va s).pages = s.pages ∧
    (replaceCtx slot encl va s).counters = s.counters ∧ (replaceCtx slot encl va s).dwt = s.dwt ∧
    (replaceCtx slot encl va s).col = s.col ∧ (replaceCtx slot encl va s).nets = s.nets ∧
    (replaceCtx slot encl va s).rcv = s.rcv ∧ (replaceCtx slot encl va s).hif = s.hif := by
  simp [replaceCtx]

@[simp] theorem closeColl_same (slot : Nat) (s : State) :
    (closeColl slot s).pending = s.pending ∧ (closeColl slot s).fresh = s.fresh ∧ (closeColl slot s).out = s.out ∧
    (closeColl slot s).ticks = s.ticks ∧ (closeColl slot s).coldResets = s.coldResets ∧
    (closeColl slot s).fuse = s.fuse ∧ (closeColl slot s).modl = s.modl ∧ (closeColl slot s).power = s.power ∧
    (closeColl slot s).cores = s.cores ∧ (closeColl slot s).ctxs = s.ctxs ∧ (closeColl slot s).pages = s.pages ∧
    (closeColl slot s).counters = s.counters ∧ (closeColl slot s).tiers = s.tiers ∧
    (closeColl slot s).col = s.col ∧ (closeColl slot s).nets = s.nets ∧ (closeColl slot s).sec = s.sec ∧
    (closeColl slot s).rcv = s.rcv ∧ (closeColl slot s).mgt = s.mgt ∧ (closeColl slot s).hif = s.hif := by
  simp [closeColl]

@[simp] theorem unbindQueues_same (slot : Nat) (s : State) :
    (unbindQueues slot s).pending = s.pending ∧ (unbindQueues slot s).fresh = s.fresh ∧
    (unbindQueues slot s).out = s.out ∧ (unbindQueues slot s).ticks = s.ticks ∧
    (unbindQueues slot s).coldResets = s.coldResets ∧ (unbindQueues slot s).fuse = s.fuse ∧
    (unbindQueues slot s).modl = s.modl ∧ (unbindQueues slot s).power = s.power ∧
    (unbindQueues slot s).cores = s.cores ∧ (unbindQueues slot s).ctxs = s.ctxs ∧
    (unbindQueues slot s).pages = s.pages ∧ (unbindQueues slot s).counters = s.counters ∧
    (unbindQueues slot s).tiers = s.tiers ∧ (unbindQueues slot s).col = s.col ∧
    (unbindQueues slot s).nets = s.nets ∧ (unbindQueues slot s).sec = s.sec ∧ (unbindQueues slot s).rcv = s.rcv ∧
    (unbindQueues slot s).mgt = s.mgt ∧ (unbindQueues slot s).hif = s.hif := by
  simp [unbindQueues]

@[simp] theorem dropCores_same (slot : Nat) (s : State) :
    (dropCores slot s).pending = s.pending ∧ (dropCores slot s).fresh = s.fresh ∧ (dropCores slot s).out = s.out ∧
    (dropCores slot s).ticks = s.ticks ∧ (dropCores slot s).coldResets = s.coldResets ∧
    (dropCores slot s).fuse = s.fuse ∧ (dropCores slot s).modl = s.modl ∧ (dropCores slot s).power = s.power ∧
    (dropCores slot s).ctxs = s.ctxs ∧ (dropCores slot s).pages = s.pages ∧
    (dropCores slot s).counters = s.counters ∧ (dropCores slot s).tiers = s.tiers ∧
    (dropCores slot s).dwt = s.dwt ∧ (dropCores slot s).col = s.col ∧ (dropCores slot s).nets = s.nets ∧
    (dropCores slot s).sec = s.sec ∧ (dropCores slot s).rcv = s.rcv ∧ (dropCores slot s).mgt = s.mgt ∧
    (dropCores slot s).hif = s.hif := by
  simp [dropCores]

@[simp] theorem unloadNow_same (slot : Nat) (s : State) :
    (unloadNow slot s).pending = s.pending ∧ (unloadNow slot s).fresh = s.fresh ∧ (unloadNow slot s).out = s.out ∧
    (unloadNow slot s).ticks = s.ticks ∧ (unloadNow slot s).coldResets = s.coldResets ∧
    (unloadNow slot s).fuse = s.fuse ∧ (unloadNow slot s).modl = s.modl ∧ (unloadNow slot s).power = s.power ∧
    (unloadNow slot s).pages = s.pages ∧ (unloadNow slot s).counters = s.counters ∧
    (unloadNow slot s).tiers = s.tiers ∧ (unloadNow slot s).col = s.col ∧ (unloadNow slot s).nets = s.nets ∧
    (unloadNow slot s).sec = s.sec ∧ (unloadNow slot s).rcv = s.rcv ∧ (unloadNow slot s).mgt = s.mgt ∧
    (unloadNow slot s).hif = s.hif := by
  simp [unloadNow]

@[simp] theorem coreStats_same (slot : Nat) (c : Ctx) (s : State) (n : Nat) :
    (coreStats slot c s n).pending = s.pending ∧ (coreStats slot c s n).ticks = s.ticks ∧
    (coreStats slot c s n).coldResets = s.coldResets ∧ (coreStats slot c s n).fuse = s.fuse ∧
    (coreStats slot c s n).power = s.power ∧ (coreStats slot c s n).cores = s.cores ∧
    (coreStats slot c s n).pages = s.pages ∧ (coreStats slot c s n).counters = s.counters ∧
    (coreStats slot c s n).dwt = s.dwt ∧ (coreStats slot c s n).col = s.col ∧
    (coreStats slot c s n).nets = s.nets ∧ (coreStats slot c s n).hif = s.hif := by
  simp [coreStats]

@[simp] theorem writeStats_same (slot : Nat) (s : State) :
    (writeStats slot s).pending = s.pending ∧ (writeStats slot s).ticks = s.ticks ∧
    (writeStats slot s).coldResets = s.coldResets ∧ (writeStats slot s).fuse = s.fuse ∧
    (writeStats slot s).power = s.power ∧ (writeStats slot s).cores = s.cores ∧
    (writeStats slot s).pages = s.pages ∧ (writeStats slot s).counters = s.counters ∧
    (writeStats slot s).dwt = s.dwt ∧ (writeStats slot s).col = s.col ∧ (writeStats slot s).nets = s.nets ∧
    (writeStats slot s).hif = s.hif := by
  simp only [writeStats, State.foldl_pending, State.foldl_ticks, State.foldl_coldResets, State.foldl_fuse, State.foldl_power, State.foldl_cores, State.foldl_pages, State.foldl_counters, State.foldl_dwt, State.foldl_col, State.foldl_nets, State.foldl_hif, coreStats_same, implies_true, and_self]

@[simp] theorem unloadCtx_same (slot : Nat) (s : State) :
    (unloadCtx slot s).1.pending = s.pending ∧ (unloadCtx slot s).1.ticks = s.ticks ∧
    (unloadCtx slot s).1.coldResets = s.coldResets ∧ (unloadCtx slot s).1.fuse = s.fuse ∧
    (unloadCtx slot s).1.power = s.power ∧ (unloadCtx slot s).1.pages = s.pages ∧
    (unloadCtx slot s).1.counters = s.counters ∧ (unloadCtx slot s).1.col = s.col ∧
    (unloadCtx slot s).1.nets = s.nets ∧ (unloadCtx slot s).1.hif = s.hif := by
  unfold unloadCtx
  dsimp only
  (repeat' split) <;> simp

@[simp] theorem openCollOne_same (slot encl : Nat) (s : State) (d : (Nat × Nat) × Nat) :
    (openCollOne slot encl s d).pending = s.pending ∧ (openCollOne slot encl s d).out = s.out ∧
    (openCollOne slot encl s d).ticks = s.ticks ∧ (openCollOne slot encl s d).coldResets = s.coldResets ∧
    (openCollOne slot encl s d).fuse = s.fuse ∧ (openCollOne slot encl s d).modl = s.modl ∧
    (openCollOne slot encl s d).power = s.power ∧ (openCollOne slot encl s d).cores = s.cores ∧
    (openCollOne slot encl s d).ctxs = s.ctxs ∧ (openCollOne slot encl s d).pages = s.pages ∧
    (openCollOne slot encl s d).counters = s.counters ∧ (openCollOne slot encl s d).tiers = s.tiers ∧
    (openCollOne slot encl s d).col = s.col ∧ (openCollOne slot encl s d).sec = s.sec ∧
    (openCollOne slot encl s d).rcv = s.rcv ∧ (openCollOne slot encl s d).mgt = s.mgt ∧
    (openCollOne slot encl s d).hif = s.hif := by
  simp [openCollOne]

@[simp] theorem openColl_same (slot encl : Nat) (s : State) :
    (openColl slot encl s).pending = s.pending ∧ (openColl slot encl s).out = s.out ∧
    (openColl slot encl s).ticks = s.ticks ∧ (openColl slot encl s).coldResets = s.coldResets ∧
    (openColl slot encl s).fuse = s.fuse ∧ (openColl slot encl s).modl = s.modl ∧
    (openColl slot encl s).power = s.power ∧ (openColl slot encl s).cores = s.cores ∧
    (openColl slot encl s).pages = s.pages ∧ (openColl slot encl s).counters = s.counters ∧
    (openColl slot encl s).tiers = s.tiers ∧ (openColl slot encl s).col = s.col ∧
    (openColl slot encl s).sec = s.sec ∧ (openColl slot encl s).rcv = s.rcv ∧ (openColl slot encl s).mgt = s.mgt ∧
    (openColl slot encl s).hif = s.hif := by
  simp [openColl]

@[simp] theorem noteSwitch_same (slot : Nat) (s : State) :
    (noteSwitch slot s).pending = s.pending ∧ (noteSwitch slot s).fresh = s.fresh ∧
    (noteSwitch slot s).out = s.out ∧ (noteSwitch slot s).ticks = s.ticks ∧
    (noteSwitch slot s).coldResets = s.coldResets ∧ (noteSwitch slot s).fuse = s.fuse ∧
    (noteSwitch slot s).modl = s.modl ∧ (noteSwitch slot s).power = s.power ∧ (noteSwitch slot s).cores = s.cores ∧
    (noteSwitch slot s).ctxs = s.ctxs ∧ (noteSwitch slot s).pages = s.pages ∧
    (noteSwitch slot s).counters = s.counters ∧ (noteSwitch slot s).tiers = s.tiers ∧
    (noteSwitch slot s).dwt = s.dwt ∧ (noteSwitch slot s).col = s.col ∧ (noteSwitch slot s).nets = s.nets ∧
    (noteSwitch slot s).sec = s.sec ∧ (noteSwitch slot s).mgt = s.mgt ∧ (noteSwitch slot s).hif = s.hif := by
  simp [noteSwitch]

@[simp] theorem shadowCore_same (slot : Nat) (s : State) (n : Nat) :
    (shadowCore slot s n).pending = s.pending ∧ (shadowCore slot s n).fresh = s.fresh ∧
    (shadowCore slot s n).out = s.out ∧ (shadowCore slot s n).ticks = s.ticks ∧
    (shadowCore slot s n).coldResets = s.coldResets ∧ (shadowCore slot s n).fuse = s.fuse ∧
    (shadowCore slot s n).modl = s.modl ∧ (shadowCore slot s n).power = s.power ∧
    (shadowCore slot s n).ctxs = s.ctxs ∧ (shadowCore slot s n).pages = s.pages ∧
    (shadowCore slot s n).counters = s.counters ∧ (shadowCore slot s n).tiers = s.tiers ∧
    (shadowCore slot s n).dwt = s.dwt ∧ (shadowCore slot s n).col = s.col ∧ (shadowCore slot s n).nets = s.nets ∧
    (shadowCore slot s n).sec = s.sec ∧ (shadowCore slot s n).rcv = s.rcv ∧ (shadowCore slot s n).mgt = s.mgt ∧
    (shadowCore slot s n).hif = s.hif := by
  simp [shadowCore]

@[simp] theorem showShadow_same (slot : Nat) (s : State) :
    (showShadow slot s).pending = s.pending ∧ (showShadow slot s).fresh = s.fresh ∧
    (showShadow slot s).out = s.out ∧ (showShadow slot s).ticks = s.ticks ∧
    (showShadow slot s).coldResets = s.coldResets ∧ (showShadow slot s).fuse = s.fuse ∧
    (showShadow slot s).modl = s.modl ∧ (showShadow slot s).power = s.power ∧ (showShadow slot s).ctxs = s.ctxs ∧
    (showShadow slot s).pages = s.pages ∧ (showShadow slot s).counters = s.counters ∧
    (showShadow slot s).tiers = s.tiers ∧ (showShadow slot s).dwt = s.dwt ∧ (showShadow slot s).col = s.col ∧
    (showShadow slot s).nets = s.nets ∧ (showShadow slot s).sec = s.sec ∧ (showShadow slot s).rcv = s.rcv ∧
    (showShadow slot s).mgt = s.mgt ∧ (showShadow slot s).hif = s.hif := by
  simp [showShadow]

@[simp] theorem switchInNow_same (slot encl : Nat) (s00 : State) :
    (switchInNow slot encl s00).pending = s00.pending ∧ (switchInNow slot encl s00).out = s00.out ∧
    (switchInNow slot encl s00).ticks = s00.ticks ∧ (switchInNow slot encl s00).coldResets = s00.coldResets ∧
    (switchInNow slot encl s00).fuse = s00.fuse ∧ (switchInNow slot encl s00).modl = s00.modl ∧
    (switchInNow slot encl s00).power = s00.power ∧ (switchInNow slot encl s00).pages = s00.pages ∧
    (switchInNow slot encl s00).counters = s00.counters ∧ (switchInNow slot encl s00).col = s00.col ∧
    (switchInNow slot encl s00).sec = s00.sec ∧ (switchInNow slot encl s00).mgt = s00.mgt ∧
    (switchInNow slot encl s00).hif = s00.hif := by
  simp [switchInNow]

@[simp] theorem saveReads_same (d : Desc) (s : State) (n : Nat) :
    (saveReads d s n).pending = s.pending ∧ (saveReads d s n).ticks = s.ticks ∧
    (saveReads d s n).coldResets = s.coldResets ∧ (saveReads d s n).fuse = s.fuse ∧
    (saveReads d s n).power = s.power ∧ (saveReads d s n).ctxs = s.ctxs ∧ (saveReads d s n).pages = s.pages ∧
    (saveReads d s n).counters = s.counters ∧ (saveReads d s n).tiers = s.tiers ∧ (saveReads d s n).dwt = s.dwt ∧
    (saveReads d s n).col = s.col ∧ (saveReads d s n).nets = s.nets ∧ (saveReads d s n).sec = s.sec ∧
    (saveReads d s n).rcv = s.rcv ∧ (saveReads d s n).hif = s.hif := by
  simp [saveReads]

@[simp] theorem switchOutNow_same (slot : Nat) (s : State) :
    (switchOutNow slot s).pending = s.pending ∧ (switchOutNow slot s).ticks = s.ticks ∧
    (switchOutNow slot s).coldResets = s.coldResets ∧ (switchOutNow slot s).fuse = s.fuse ∧
    (switchOutNow slot s).power = s.power ∧ (switchOutNow slot s).pages = s.pages ∧
    (switchOutNow slot s).counters = s.counters ∧ (switchOutNow slot s).dwt = s.dwt ∧
    (switchOutNow slot s).col = s.col ∧ (switchOutNow slot s).nets = s.nets ∧ (switchOutNow slot s).hif = s.hif := by
  simp [switchOutNow]

@[simp] theorem dropFaulted_same (slot : Nat) (s0 : State) :
    (dropFaulted slot s0).pending = s0.pending ∧ (dropFaulted slot s0).ticks = s0.ticks ∧
    (dropFaulted slot s0).coldResets = s0.coldResets ∧ (dropFaulted slot s0).fuse = s0.fuse ∧
    (dropFaulted slot s0).power = s0.power ∧ (dropFaulted slot s0).pages = s0.pages ∧
    (dropFaulted slot s0).counters = s0.counters ∧ (dropFaulted slot s0).dwt = s0.dwt ∧
    (dropFaulted slot s0).col = s0.col ∧ (dropFaulted slot s0).nets = s0.nets ∧ (dropFaulted slot s0).hif = s0.hif := by
  simp [dropFaulted]

@[simp] theorem faultNow_same (slot cause core strm : Nat) (name : String) (s : State) :
    (faultNow slot cause core strm name s).pending = s.pending ∧
    (faultNow slot cause core strm name s).ticks = s.ticks ∧
    (faultNow slot cause core strm name s).coldResets = s.coldResets ∧
    (faultNow slot cause core strm name s).fuse = s.fuse ∧ (faultNow slot cause core strm name s).power = s.power ∧
    (faultNow slot cause core strm name s).cores = s.cores ∧
    (faultNow slot cause core strm name s).pages = s.pages ∧
    (faultNow slot cause core strm name s).counters = s.counters ∧
    (faultNow slot cause core strm name s).tiers = s.tiers ∧ (faultNow slot cause core strm name s).dwt = s.dwt ∧
    (faultNow slot cause core strm name s).col = s.col ∧ (faultNow slot cause core strm name s).nets = s.nets ∧
    (faultNow slot cause core strm name s).sec = s.sec ∧ (faultNow slot cause core strm name s).rcv = s.rcv ∧
    (faultNow slot cause core strm name s).hif = s.hif := by
  simp [faultNow]

@[simp] theorem faultWhole_same (slot cause : Nat) (name : String) (s : State) :
    (faultWhole slot cause name s).pending = s.pending ∧ (faultWhole slot cause name s).ticks = s.ticks ∧
    (faultWhole slot cause name s).coldResets = s.coldResets ∧ (faultWhole slot cause name s).fuse = s.fuse ∧
    (faultWhole slot cause name s).power = s.power ∧ (faultWhole slot cause name s).cores = s.cores ∧
    (faultWhole slot cause name s).pages = s.pages ∧ (faultWhole slot cause name s).counters = s.counters ∧
    (faultWhole slot cause name s).tiers = s.tiers ∧ (faultWhole slot cause name s).dwt = s.dwt ∧
    (faultWhole slot cause name s).col = s.col ∧ (faultWhole slot cause name s).nets = s.nets ∧
    (faultWhole slot cause name s).sec = s.sec ∧ (faultWhole slot cause name s).rcv = s.rcv ∧
    (faultWhole slot cause name s).hif = s.hif := by
  simp [faultWhole]

end Sys2Proof.Machine
end

