-- ==== Sys2Proof/Laws/MemContexts.lean ====
section
/-! SUPPORT. Memory keeps its canonical form through the definitions of Machine/Contexts.lean. -/

namespace Sys2Proof.Machine

@[simp] theorem readRest_mem (slot va n : Nat) (h : MemRead) (hm : Memory.wf h.s.tiers.mem = true) :
    Memory.wf (readRest slot va n h).mid.tiers.mem = true ∧ Memory.wf (readRest slot va n h).fin.tiers.mem = true := by
  constructor <;> simp (maxDischargeDepth := 12) [readRest, hm]

@[simp] theorem checkDesc_mem (slot encl va : Nat) (reload : Bool) (s : State)
    (hm : Memory.wf s.tiers.mem = true) :
    Memory.wf (checkDesc slot encl va reload s).s.tiers.mem = true := by
  unfold checkDesc
  dsimp only
  (repeat' split) <;> simp (maxDischargeDepth := 12) [-State.ite_tiers, hm]

@[simp] theorem loadCtx_mem (slot encl va : Nat) (s : State)
    (hm : Memory.wf s.tiers.mem = true) :
    Memory.wf (loadCtx slot encl va s).1.tiers.mem = true := by
  unfold loadCtx
  dsimp only
  (repeat' split) <;> simp (maxDischargeDepth := 12) [-State.ite_tiers, hm]

@[simp] theorem replaceCtx_mem (slot encl va : Nat) (s : State)
    (hm : Memory.wf s.tiers.mem = true) :
    Memory.wf (replaceCtx slot encl va s).tiers.mem = true := by
  simp (maxDischargeDepth := 12) [-State.ite_tiers, replaceCtx, hm]

@[simp] theorem coreStats_mem (slot : Nat) (c : Ctx) (s : State) (n : Nat)
    (hm : Memory.wf s.tiers.mem = true) :
    Memory.wf (coreStats slot c s n).tiers.mem = true := by
  simp (maxDischargeDepth := 12) [-State.ite_tiers, coreStats, hm]

@[simp] theorem writeStats_mem (slot : Nat) (s : State)
    (hm : Memory.wf s.tiers.mem = true) :
    Memory.wf (writeStats slot s).tiers.mem = true := by
  simp +contextual (maxDischargeDepth := 12) [-State.ite_tiers, writeStats, hm]

@[simp] theorem unloadCtx_mem (slot : Nat) (s : State)
    (hm : Memory.wf s.tiers.mem = true) :
    Memory.wf (unloadCtx slot s).1.tiers.mem = true := by
  unfold unloadCtx
  dsimp only
  (repeat' split) <;> simp (maxDischargeDepth := 12) [-State.ite_tiers, hm]

@[simp] theorem switchInNow_mem (slot encl : Nat) (s00 : State)
    (hm : Memory.wf s00.tiers.mem = true) :
    Memory.wf (switchInNow slot encl s00).tiers.mem = true := by
  simp (maxDischargeDepth := 12) [-State.ite_tiers, switchInNow, hm]

@[simp] theorem switchOutNow_mem (slot : Nat) (s : State)
    (hm : Memory.wf s.tiers.mem = true) :
    Memory.wf (switchOutNow slot s).tiers.mem = true := by
  simp (maxDischargeDepth := 12) [-State.ite_tiers, switchOutNow, hm]

@[simp] theorem dropFaulted_mem (slot : Nat) (s0 : State)
    (hm : Memory.wf s0.tiers.mem = true) :
    Memory.wf (dropFaulted slot s0).tiers.mem = true := by
  simp (maxDischargeDepth := 12) [-State.ite_tiers, dropFaulted, hm]

end Sys2Proof.Machine
end

