-- ==== Sys2Proof/Laws/SameStores.lean ====
section
/-! SUPPORT. What the definitions of Machine/Stores.lean leave alone. -/

namespace Sys2Proof.Machine

@[simp] theorem commitStore_same (f : Store → Store) (s : State) :
    (commitStore f s).pending = s.pending ∧ (commitStore f s).fresh = s.fresh ∧ (commitStore f s).out = s.out ∧
    (commitStore f s).ticks = s.ticks ∧ (commitStore f s).coldResets = s.coldResets ∧
    (commitStore f s).fuse = s.fuse ∧ (commitStore f s).modl = s.modl ∧ (commitStore f s).power = s.power ∧
    (commitStore f s).cores = s.cores ∧ (commitStore f s).ctxs = s.ctxs ∧ (commitStore f s).pages = s.pages ∧
    (commitStore f s).counters = s.counters ∧ (commitStore f s).tiers = s.tiers ∧ (commitStore f s).dwt = s.dwt ∧
    (commitStore f s).col = s.col ∧ (commitStore f s).nets = s.nets ∧ (commitStore f s).sec = s.sec ∧
    (commitStore f s).rcv = s.rcv ∧ (commitStore f s).hif = s.hif := by
  simp [commitStore]

@[simp] theorem devStore_same (f : Store → Store) (s : State) :
    (devStore f s).pending = s.pending ∧ (devStore f s).ticks = s.ticks ∧
    (devStore f s).coldResets = s.coldResets ∧ (devStore f s).fuse = s.fuse ∧ (devStore f s).power = s.power ∧
    (devStore f s).cores = s.cores ∧ (devStore f s).ctxs = s.ctxs ∧ (devStore f s).pages = s.pages ∧
    (devStore f s).counters = s.counters ∧ (devStore f s).tiers = s.tiers ∧ (devStore f s).dwt = s.dwt ∧
    (devStore f s).col = s.col ∧ (devStore f s).nets = s.nets ∧ (devStore f s).sec = s.sec ∧
    (devStore f s).rcv = s.rcv ∧ (devStore f s).hif = s.hif := by
  simp [devStore]

@[simp] theorem State.readLedger_same (s : State) :
    (State.readLedger s).pending = s.pending ∧ (State.readLedger s).fresh = s.fresh ∧
    (State.readLedger s).out = s.out ∧ (State.readLedger s).ticks = s.ticks ∧
    (State.readLedger s).coldResets = s.coldResets ∧ (State.readLedger s).fuse = s.fuse ∧
    (State.readLedger s).modl = s.modl ∧ (State.readLedger s).power = s.power ∧
    (State.readLedger s).cores = s.cores ∧ (State.readLedger s).ctxs = s.ctxs ∧
    (State.readLedger s).pages = s.pages ∧ (State.readLedger s).counters = s.counters ∧
    (State.readLedger s).tiers = s.tiers ∧ (State.readLedger s).dwt = s.dwt ∧ (State.readLedger s).col = s.col ∧
    (State.readLedger s).nets = s.nets ∧ (State.readLedger s).sec = s.sec ∧ (State.readLedger s).mgt = s.mgt ∧
    (State.readLedger s).hif = s.hif := by
  simp [State.readLedger]

@[simp] theorem loseStore_same (s : State) :
    (loseStore s).pending = s.pending ∧ (loseStore s).out = s.out ∧ (loseStore s).ticks = s.ticks ∧
    (loseStore s).coldResets = s.coldResets ∧ (loseStore s).fuse = s.fuse ∧ (loseStore s).modl = s.modl ∧
    (loseStore s).power = s.power ∧ (loseStore s).cores = s.cores ∧ (loseStore s).ctxs = s.ctxs ∧
    (loseStore s).pages = s.pages ∧ (loseStore s).counters = s.counters ∧ (loseStore s).tiers = s.tiers ∧
    (loseStore s).dwt = s.dwt ∧ (loseStore s).col = s.col ∧ (loseStore s).nets = s.nets ∧
    (loseStore s).sec = s.sec ∧ (loseStore s).hif = s.hif := by
  simp [loseStore]

@[simp] theorem logRetired_same (core port : Nat) (s : State) :
    (logRetired core port s).pending = s.pending ∧ (logRetired core port s).ticks = s.ticks ∧
    (logRetired core port s).coldResets = s.coldResets ∧ (logRetired core port s).fuse = s.fuse ∧
    (logRetired core port s).power = s.power ∧ (logRetired core port s).cores = s.cores ∧
    (logRetired core port s).ctxs = s.ctxs ∧ (logRetired core port s).pages = s.pages ∧
    (logRetired core port s).counters = s.counters ∧ (logRetired core port s).tiers = s.tiers ∧
    (logRetired core port s).dwt = s.dwt ∧ (logRetired core port s).col = s.col ∧
    (logRetired core port s).nets = s.nets ∧ (logRetired core port s).sec = s.sec ∧
    (logRetired core port s).hif = s.hif := by
  simp [logRetired]

@[simp] theorem retiredUser_same (s : State) (slot : Nat) :
    (retiredUser s slot).pending = s.pending ∧ (retiredUser s slot).ticks = s.ticks ∧
    (retiredUser s slot).coldResets = s.coldResets ∧ (retiredUser s slot).fuse = s.fuse ∧
    (retiredUser s slot).power = s.power ∧ (retiredUser s slot).pages = s.pages ∧
    (retiredUser s slot).counters = s.counters ∧ (retiredUser s slot).dwt = s.dwt ∧
    (retiredUser s slot).col = s.col ∧ (retiredUser s slot).nets = s.nets ∧ (retiredUser s slot).hif = s.hif := by
  simp [retiredUser]

@[simp] theorem retireCore_same (n : Nat) (s : State) :
    (retireCore n s).pending = s.pending ∧ (retireCore n s).ticks = s.ticks ∧
    (retireCore n s).coldResets = s.coldResets ∧ (retireCore n s).fuse = s.fuse ∧
    (retireCore n s).power = s.power ∧ (retireCore n s).pages = s.pages ∧ (retireCore n s).counters = s.counters ∧
    (retireCore n s).dwt = s.dwt ∧ (retireCore n s).col = s.col ∧ (retireCore n s).nets = s.nets ∧
    (retireCore n s).hif = s.hif := by
  simp [retireCore]

@[simp] theorem repairCore_same (s : State) (n : Nat) :
    (repairCore s n).pending = s.pending ∧ (repairCore s n).ticks = s.ticks ∧
    (repairCore s n).coldResets = s.coldResets ∧ (repairCore s n).fuse = s.fuse ∧
    (repairCore s n).power = s.power ∧ (repairCore s n).pages = s.pages ∧ (repairCore s n).counters = s.counters ∧
    (repairCore s n).dwt = s.dwt ∧ (repairCore s n).col = s.col ∧ (repairCore s n).nets = s.nets ∧
    (repairCore s n).hif = s.hif := by
  simp [repairCore]

@[simp] theorem repairIdle_same (s : State) :
    (repairIdle s).pending = s.pending ∧ (repairIdle s).ticks = s.ticks ∧
    (repairIdle s).coldResets = s.coldResets ∧ (repairIdle s).fuse = s.fuse ∧ (repairIdle s).power = s.power ∧
    (repairIdle s).pages = s.pages ∧ (repairIdle s).counters = s.counters ∧ (repairIdle s).dwt = s.dwt ∧
    (repairIdle s).col = s.col ∧ (repairIdle s).nets = s.nets ∧ (repairIdle s).hif = s.hif := by
  simp [repairIdle]

@[simp] theorem retirePort_same (n : Nat) (s : State) :
    (retirePort n s).pending = s.pending ∧ (retirePort n s).ticks = s.ticks ∧
    (retirePort n s).coldResets = s.coldResets ∧ (retirePort n s).fuse = s.fuse ∧
    (retirePort n s).power = s.power ∧ (retirePort n s).cores = s.cores ∧ (retirePort n s).ctxs = s.ctxs ∧
    (retirePort n s).pages = s.pages ∧ (retirePort n s).counters = s.counters ∧ (retirePort n s).tiers = s.tiers ∧
    (retirePort n s).dwt = s.dwt ∧ (retirePort n s).col = s.col ∧ (retirePort n s).sec = s.sec ∧
    (retirePort n s).hif = s.hif := by
  simp [retirePort]

@[simp] theorem countFailure_same (s : State) :
    (countFailure s).pending = s.pending ∧ (countFailure s).ticks = s.ticks ∧
    (countFailure s).coldResets = s.coldResets ∧ (countFailure s).fuse = s.fuse ∧
    (countFailure s).power = s.power ∧ (countFailure s).cores = s.cores ∧ (countFailure s).ctxs = s.ctxs ∧
    (countFailure s).pages = s.pages ∧ (countFailure s).counters = s.counters ∧ (countFailure s).tiers = s.tiers ∧
    (countFailure s).dwt = s.dwt ∧ (countFailure s).col = s.col ∧ (countFailure s).nets = s.nets ∧
    (countFailure s).sec = s.sec ∧ (countFailure s).hif = s.hif := by
  simp [countFailure]

@[simp] theorem unloadEncl_same (e : EnclEntry) (s : State) :
    (unloadEncl e s).pending = s.pending ∧ (unloadEncl e s).fresh = s.fresh ∧ (unloadEncl e s).out = s.out ∧
    (unloadEncl e s).ticks = s.ticks ∧ (unloadEncl e s).coldResets = s.coldResets ∧
    (unloadEncl e s).fuse = s.fuse ∧ (unloadEncl e s).modl = s.modl ∧ (unloadEncl e s).power = s.power ∧
    (unloadEncl e s).pages = s.pages ∧ (unloadEncl e s).counters = s.counters ∧ (unloadEncl e s).tiers = s.tiers ∧
    (unloadEncl e s).col = s.col ∧ (unloadEncl e s).nets = s.nets ∧ (unloadEncl e s).sec = s.sec ∧
    (unloadEncl e s).rcv = s.rcv ∧ (unloadEncl e s).mgt = s.mgt ∧ (unloadEncl e s).hif = s.hif := by
  simp [unloadEncl]

@[simp] theorem freeEncl_same (e : EnclEntry) (s : State) :
    (freeEncl e s).pending = s.pending ∧ (freeEncl e s).fresh = s.fresh ∧ (freeEncl e s).out = s.out ∧
    (freeEncl e s).ticks = s.ticks ∧ (freeEncl e s).coldResets = s.coldResets ∧ (freeEncl e s).fuse = s.fuse ∧
    (freeEncl e s).modl = s.modl ∧ (freeEncl e s).power = s.power ∧ (freeEncl e s).cores = s.cores ∧
    (freeEncl e s).ctxs = s.ctxs ∧ (freeEncl e s).pages = s.pages ∧ (freeEncl e s).counters = s.counters ∧
    (freeEncl e s).dwt = s.dwt ∧ (freeEncl e s).col = s.col ∧ (freeEncl e s).nets = s.nets ∧
    (freeEncl e s).sec = s.sec ∧ (freeEncl e s).rcv = s.rcv ∧ (freeEncl e s).mgt = s.mgt ∧
    (freeEncl e s).hif = s.hif := by
  simp [freeEncl]

@[simp] theorem closeEncl_same (e : EnclEntry) (s : State) :
    (closeEncl e s).pending = s.pending ∧ (closeEncl e s).fresh = s.fresh ∧ (closeEncl e s).out = s.out ∧
    (closeEncl e s).ticks = s.ticks ∧ (closeEncl e s).coldResets = s.coldResets ∧ (closeEncl e s).fuse = s.fuse ∧
    (closeEncl e s).modl = s.modl ∧ (closeEncl e s).power = s.power ∧ (closeEncl e s).cores = s.cores ∧
    (closeEncl e s).ctxs = s.ctxs ∧ (closeEncl e s).pages = s.pages ∧ (closeEncl e s).counters = s.counters ∧
    (closeEncl e s).tiers = s.tiers ∧ (closeEncl e s).col = s.col ∧ (closeEncl e s).nets = s.nets ∧
    (closeEncl e s).sec = s.sec ∧ (closeEncl e s).rcv = s.rcv ∧ (closeEncl e s).mgt = s.mgt ∧
    (closeEncl e s).hif = s.hif := by
  simp [closeEncl]

@[simp] theorem emptyEncl_same (e : EnclEntry) (s : State) :
    (emptyEncl e s).pending = s.pending ∧ (emptyEncl e s).fresh = s.fresh ∧ (emptyEncl e s).out = s.out ∧
    (emptyEncl e s).ticks = s.ticks ∧ (emptyEncl e s).coldResets = s.coldResets ∧ (emptyEncl e s).fuse = s.fuse ∧
    (emptyEncl e s).modl = s.modl ∧ (emptyEncl e s).power = s.power ∧ (emptyEncl e s).pages = s.pages ∧
    (emptyEncl e s).counters = s.counters ∧ (emptyEncl e s).col = s.col ∧ (emptyEncl e s).nets = s.nets ∧
    (emptyEncl e s).sec = s.sec ∧ (emptyEncl e s).rcv = s.rcv ∧ (emptyEncl e s).mgt = s.mgt ∧
    (emptyEncl e s).hif = s.hif := by
  simp [emptyEncl]

end Sys2Proof.Machine
end

