-- ==== Sys2Proof/Laws/MemStores.lean ====
section
/-! SUPPORT. Memory keeps its canonical form through the definitions of Machine/Stores.lean. -/

namespace Sys2Proof.Machine

@[simp] theorem retiredUser_mem (s : State) (slot : Nat)
    (hm : Memory.wf s.tiers.mem = true) :
    Memory.wf (retiredUser s slot).tiers.mem = true := by
  simp (maxDischargeDepth := 12) [-State.ite_tiers, retiredUser, hm]

@[simp] theorem retireCore_mem (n : Nat) (s : State)
    (hm : Memory.wf s.tiers.mem = true) :
    Memory.wf (retireCore n s).tiers.mem = true := by
  simp +contextual (maxDischargeDepth := 12) [-State.ite_tiers, retireCore, hm]

@[simp] theorem repairCore_mem (s : State) (n : Nat)
    (hm : Memory.wf s.tiers.mem = true) :
    Memory.wf (repairCore s n).tiers.mem = true := by
  simp (maxDischargeDepth := 12) [-State.ite_tiers, repairCore, hm]

@[simp] theorem repairIdle_mem (s : State)
    (hm : Memory.wf s.tiers.mem = true) :
    Memory.wf (repairIdle s).tiers.mem = true := by
  simp +contextual (maxDischargeDepth := 12) [-State.ite_tiers, repairIdle, hm]

@[simp] theorem freeEncl_mem (e : EnclEntry) (s : State)
    (hm : Memory.wf s.tiers.mem = true) :
    Memory.wf (freeEncl e s).tiers.mem = true := by
  simp +contextual (maxDischargeDepth := 12) [-State.ite_tiers, freeEncl, hm]

@[simp] theorem emptyEncl_mem (e : EnclEntry) (s : State)
    (hm : Memory.wf s.tiers.mem = true) :
    Memory.wf (emptyEncl e s).tiers.mem = true := by
  simp (maxDischargeDepth := 12) [-State.ite_tiers, emptyEncl, hm]

end Sys2Proof.Machine
end

