-- ==== Sys2Proof/Laws/SamePower.lean ====
section
/-! SUPPORT. What the definitions of Machine/Power.lean leave alone. -/

namespace Sys2Proof.Machine

@[simp] theorem clockCore_same (s : State) (n : Nat) :
    (clockCore s n).pending = s.pending ∧ (clockCore s n).fresh = s.fresh ∧ (clockCore s n).out = s.out ∧
    (clockCore s n).ticks = s.ticks ∧ (clockCore s n).coldResets = s.coldResets ∧ (clockCore s n).fuse = s.fuse ∧
    (clockCore s n).modl = s.modl ∧ (clockCore s n).power = s.power ∧ (clockCore s n).ctxs = s.ctxs ∧
    (clockCore s n).pages = s.pages ∧ (clockCore s n).counters = s.counters ∧ (clockCore s n).tiers = s.tiers ∧
    (clockCore s n).dwt = s.dwt ∧ (clockCore s n).col = s.col ∧ (clockCore s n).nets = s.nets ∧
    (clockCore s n).sec = s.sec ∧ (clockCore s n).rcv = s.rcv ∧ (clockCore s n).mgt = s.mgt ∧
    (clockCore s n).hif = s.hif := by
  unfold clockCore
  (repeat' split) <;> simp

@[simp] theorem applyClocks_same (s : State) :
    (applyClocks s).pending = s.pending ∧ (applyClocks s).fresh = s.fresh ∧ (applyClocks s).out = s.out ∧
    (applyClocks s).ticks = s.ticks ∧ (applyClocks s).coldResets = s.coldResets ∧ (applyClocks s).fuse = s.fuse ∧
    (applyClocks s).modl = s.modl ∧ (applyClocks s).power = s.power ∧ (applyClocks s).ctxs = s.ctxs ∧
    (applyClocks s).pages = s.pages ∧ (applyClocks s).counters = s.counters ∧ (applyClocks s).tiers = s.tiers ∧
    (applyClocks s).dwt = s.dwt ∧ (applyClocks s).col = s.col ∧ (applyClocks s).nets = s.nets ∧
    (applyClocks s).sec = s.sec ∧ (applyClocks s).rcv = s.rcv ∧ (applyClocks s).mgt = s.mgt ∧
    (applyClocks s).hif = s.hif := by
  simp only [applyClocks, State.foldl_pending, State.foldl_fresh, State.foldl_out, State.foldl_ticks, State.foldl_coldResets, State.foldl_fuse, State.foldl_modl, State.foldl_power, State.foldl_ctxs, State.foldl_pages, State.foldl_counters, State.foldl_tiers, State.foldl_dwt, State.foldl_col, State.foldl_nets, State.foldl_sec, State.foldl_rcv, State.foldl_mgt, State.foldl_hif, clockCore_same, implies_true, and_self]

@[simp] theorem noteLimiting_same (s : State) :
    (noteLimiting s).pending = s.pending ∧ (noteLimiting s).ticks = s.ticks ∧
    (noteLimiting s).coldResets = s.coldResets ∧ (noteLimiting s).fuse = s.fuse ∧
    (noteLimiting s).cores = s.cores ∧ (noteLimiting s).ctxs = s.ctxs ∧ (noteLimiting s).pages = s.pages ∧
    (noteLimiting s).counters = s.counters ∧ (noteLimiting s).tiers = s.tiers ∧ (noteLimiting s).dwt = s.dwt ∧
    (noteLimiting s).col = s.col ∧ (noteLimiting s).nets = s.nets ∧ (noteLimiting s).sec = s.sec ∧
    (noteLimiting s).rcv = s.rcv ∧ (noteLimiting s).hif = s.hif := by
  simp [noteLimiting]

@[simp] theorem setPower_same (clock pacing : Nat) (s : State) :
    (setPower clock pacing s).pending = s.pending ∧ (setPower clock pacing s).ticks = s.ticks ∧
    (setPower clock pacing s).coldResets = s.coldResets ∧ (setPower clock pacing s).fuse = s.fuse ∧
    (setPower clock pacing s).ctxs = s.ctxs ∧ (setPower clock pacing s).pages = s.pages ∧
    (setPower clock pacing s).counters = s.counters ∧ (setPower clock pacing s).tiers = s.tiers ∧
    (setPower clock pacing s).dwt = s.dwt ∧ (setPower clock pacing s).col = s.col ∧
    (setPower clock pacing s).nets = s.nets ∧ (setPower clock pacing s).sec = s.sec ∧
    (setPower clock pacing s).rcv = s.rcv ∧ (setPower clock pacing s).hif = s.hif := by
  simp [setPower]

@[simp] theorem followShares_same (s : State) :
    (followShares s).pending = s.pending ∧ (followShares s).ticks = s.ticks ∧
    (followShares s).coldResets = s.coldResets ∧ (followShares s).fuse = s.fuse ∧ (followShares s).ctxs = s.ctxs ∧
    (followShares s).pages = s.pages ∧ (followShares s).counters = s.counters ∧ (followShares s).tiers = s.tiers ∧
    (followShares s).dwt = s.dwt ∧ (followShares s).col = s.col ∧ (followShares s).nets = s.nets ∧
    (followShares s).sec = s.sec ∧ (followShares s).rcv = s.rcv ∧ (followShares s).hif = s.hif := by
  unfold followShares
  (repeat' split) <;> simp

@[simp] theorem takeCap_same (s : State) :
    (takeCap s).pending = s.pending ∧ (takeCap s).ticks = s.ticks ∧ (takeCap s).coldResets = s.coldResets ∧
    (takeCap s).fuse = s.fuse ∧ (takeCap s).ctxs = s.ctxs ∧ (takeCap s).pages = s.pages ∧
    (takeCap s).counters = s.counters ∧ (takeCap s).tiers = s.tiers ∧ (takeCap s).dwt = s.dwt ∧
    (takeCap s).col = s.col ∧ (takeCap s).nets = s.nets ∧ (takeCap s).sec = s.sec ∧ (takeCap s).rcv = s.rcv ∧
    (takeCap s).hif = s.hif := by
  unfold takeCap
  dsimp only
  (repeat' split) <;> simp

@[simp] theorem capSet_same (s : State) :
    (capSet s).pending = s.pending ∧ (capSet s).ticks = s.ticks ∧ (capSet s).coldResets = s.coldResets ∧
    (capSet s).fuse = s.fuse ∧ (capSet s).ctxs = s.ctxs ∧ (capSet s).pages = s.pages ∧
    (capSet s).counters = s.counters ∧ (capSet s).tiers = s.tiers ∧ (capSet s).dwt = s.dwt ∧
    (capSet s).col = s.col ∧ (capSet s).nets = s.nets ∧ (capSet s).sec = s.sec ∧ (capSet s).rcv = s.rcv ∧
    (capSet s).hif = s.hif := by
  simp [capSet]

@[simp] theorem controlTick_same (s : State) :
    (controlTick s).pending = s.pending ∧ (controlTick s).ticks = s.ticks ∧
    (controlTick s).coldResets = s.coldResets ∧ (controlTick s).fuse = s.fuse ∧ (controlTick s).ctxs = s.ctxs ∧
    (controlTick s).pages = s.pages ∧ (controlTick s).counters = s.counters ∧ (controlTick s).tiers = s.tiers ∧
    (controlTick s).dwt = s.dwt ∧ (controlTick s).col = s.col ∧ (controlTick s).nets = s.nets ∧
    (controlTick s).sec = s.sec ∧ (controlTick s).rcv = s.rcv ∧ (controlTick s).hif = s.hif := by
  simp [controlTick]

@[simp] theorem powerRaise_same (s : State) :
    (powerRaise s).pending = s.pending ∧ (powerRaise s).ticks = s.ticks ∧
    (powerRaise s).coldResets = s.coldResets ∧ (powerRaise s).fuse = s.fuse ∧ (powerRaise s).ctxs = s.ctxs ∧
    (powerRaise s).pages = s.pages ∧ (powerRaise s).counters = s.counters ∧ (powerRaise s).tiers = s.tiers ∧
    (powerRaise s).dwt = s.dwt ∧ (powerRaise s).col = s.col ∧ (powerRaise s).nets = s.nets ∧
    (powerRaise s).sec = s.sec ∧ (powerRaise s).rcv = s.rcv ∧ (powerRaise s).hif = s.hif := by
  simp [powerRaise]

@[simp] theorem capUnmet_same (s : State) :
    (capUnmet s).pending = s.pending ∧ (capUnmet s).ticks = s.ticks ∧ (capUnmet s).coldResets = s.coldResets ∧
    (capUnmet s).fuse = s.fuse ∧ (capUnmet s).power = s.power ∧ (capUnmet s).cores = s.cores ∧
    (capUnmet s).ctxs = s.ctxs ∧ (capUnmet s).pages = s.pages ∧ (capUnmet s).counters = s.counters ∧
    (capUnmet s).tiers = s.tiers ∧ (capUnmet s).dwt = s.dwt ∧ (capUnmet s).col = s.col ∧
    (capUnmet s).nets = s.nets ∧ (capUnmet s).sec = s.sec ∧ (capUnmet s).rcv = s.rcv ∧ (capUnmet s).hif = s.hif := by
  simp [capUnmet]

@[simp] theorem selftestStart_same (n : Nat) (s : State) :
    (selftestStart n s).pending = s.pending ∧ (selftestStart n s).ticks = s.ticks ∧
    (selftestStart n s).coldResets = s.coldResets ∧ (selftestStart n s).fuse = s.fuse ∧
    (selftestStart n s).power = s.power ∧ (selftestStart n s).ctxs = s.ctxs ∧ (selftestStart n s).pages = s.pages ∧
    (selftestStart n s).counters = s.counters ∧ (selftestStart n s).tiers = s.tiers ∧
    (selftestStart n s).dwt = s.dwt ∧ (selftestStart n s).col = s.col ∧ (selftestStart n s).nets = s.nets ∧
    (selftestStart n s).sec = s.sec ∧ (selftestStart n s).rcv = s.rcv ∧ (selftestStart n s).hif = s.hif := by
  simp [selftestStart]

@[simp] theorem selftestDone_same (n : Nat) (fails : List Nat) (s : State) :
    (selftestDone n fails s).pending = s.pending ∧ (selftestDone n fails s).ticks = s.ticks ∧
    (selftestDone n fails s).coldResets = s.coldResets ∧ (selftestDone n fails s).fuse = s.fuse ∧
    (selftestDone n fails s).power = s.power ∧ (selftestDone n fails s).pages = s.pages ∧
    (selftestDone n fails s).counters = s.counters ∧ (selftestDone n fails s).dwt = s.dwt ∧
    (selftestDone n fails s).col = s.col ∧ (selftestDone n fails s).nets = s.nets ∧
    (selftestDone n fails s).hif = s.hif := by
  simp [selftestDone]

end Sys2Proof.Machine
end

