-- ==== Sys2Proof/Laws/MemPower.lean ====
section
/-! SUPPORT. Memory keeps its canonical form through the definitions of Machine/Power.lean. -/

namespace Sys2Proof.Machine

@[simp] theorem selftestDone_mem (n : Nat) (fails : List Nat) (s : State)
    (hm : Memory.wf s.tiers.mem = true) :
    Memory.wf (selftestDone n fails s).tiers.mem = true := by
  simp (maxDischargeDepth := 12) [-State.ite_tiers, selftestDone, hm]

end Sys2Proof.Machine
end

