-- ==== Sys2Proof/Laws/SameImages.lean ====
section
/-! SUPPORT. What the definitions of Machine/Images.lean leave alone. -/

namespace Sys2Proof.Machine

@[simp] theorem dropKeys_same (e : EnclEntry) (s : State) :
    (dropKeys e s).pending = s.pending ∧ (dropKeys e s).fresh = s.fresh ∧ (dropKeys e s).out = s.out ∧
    (dropKeys e s).ticks = s.ticks ∧ (dropKeys e s).coldResets = s.coldResets ∧ (dropKeys e s).fuse = s.fuse ∧
    (dropKeys e s).modl = s.modl ∧ (dropKeys e s).power = s.power ∧ (dropKeys e s).cores = s.cores ∧
    (dropKeys e s).ctxs = s.ctxs ∧ (dropKeys e s).pages = s.pages ∧ (dropKeys e s).counters = s.counters ∧
    (dropKeys e s).tiers = s.tiers ∧ (dropKeys e s).dwt = s.dwt ∧ (dropKeys e s).col = s.col ∧
    (dropKeys e s).nets = s.nets ∧ (dropKeys e s).rcv = s.rcv ∧ (dropKeys e s).mgt = s.mgt ∧
    (dropKeys e s).hif = s.hif := by
  simp [dropKeys]

@[simp] theorem awaitKey_same (e : EnclEntry) (s : State) :
    (awaitKey e s).pending = s.pending ∧ (awaitKey e s).out = s.out ∧ (awaitKey e s).ticks = s.ticks ∧
    (awaitKey e s).coldResets = s.coldResets ∧ (awaitKey e s).fuse = s.fuse ∧ (awaitKey e s).modl = s.modl ∧
    (awaitKey e s).power = s.power ∧ (awaitKey e s).cores = s.cores ∧ (awaitKey e s).ctxs = s.ctxs ∧
    (awaitKey e s).pages = s.pages ∧ (awaitKey e s).counters = s.counters ∧ (awaitKey e s).tiers = s.tiers ∧
    (awaitKey e s).dwt = s.dwt ∧ (awaitKey e s).col = s.col ∧ (awaitKey e s).nets = s.nets ∧
    (awaitKey e s).rcv = s.rcv ∧ (awaitKey e s).mgt = s.mgt ∧ (awaitKey e s).hif = s.hif := by
  simp [awaitKey]

@[simp] theorem fillKeys_same (e : EnclEntry) (trk : BitVec 256) (s : State) :
    (fillKeys e trk s).pending = s.pending ∧ (fillKeys e trk s).fresh = s.fresh ∧ (fillKeys e trk s).out = s.out ∧
    (fillKeys e trk s).ticks = s.ticks ∧ (fillKeys e trk s).coldResets = s.coldResets ∧
    (fillKeys e trk s).fuse = s.fuse ∧ (fillKeys e trk s).modl = s.modl ∧ (fillKeys e trk s).power = s.power ∧
    (fillKeys e trk s).cores = s.cores ∧ (fillKeys e trk s).ctxs = s.ctxs ∧ (fillKeys e trk s).pages = s.pages ∧
    (fillKeys e trk s).counters = s.counters ∧ (fillKeys e trk s).tiers = s.tiers ∧
    (fillKeys e trk s).dwt = s.dwt ∧ (fillKeys e trk s).col = s.col ∧ (fillKeys e trk s).nets = s.nets ∧
    (fillKeys e trk s).rcv = s.rcv ∧ (fillKeys e trk s).mgt = s.mgt ∧ (fillKeys e trk s).hif = s.hif := by
  simp [fillKeys]

@[simp] theorem zeroMeas_same (e : EnclEntry) (s : State) :
    (zeroMeas e s).pending = s.pending ∧ (zeroMeas e s).fresh = s.fresh ∧ (zeroMeas e s).out = s.out ∧
    (zeroMeas e s).ticks = s.ticks ∧ (zeroMeas e s).coldResets = s.coldResets ∧ (zeroMeas e s).fuse = s.fuse ∧
    (zeroMeas e s).modl = s.modl ∧ (zeroMeas e s).power = s.power ∧ (zeroMeas e s).cores = s.cores ∧
    (zeroMeas e s).pages = s.pages ∧ (zeroMeas e s).counters = s.counters ∧ (zeroMeas e s).tiers = s.tiers ∧
    (zeroMeas e s).dwt = s.dwt ∧ (zeroMeas e s).col = s.col ∧ (zeroMeas e s).nets = s.nets ∧
    (zeroMeas e s).sec = s.sec ∧ (zeroMeas e s).rcv = s.rcv ∧ (zeroMeas e s).mgt = s.mgt ∧
    (zeroMeas e s).hif = s.hif := by
  simp [zeroMeas]

@[simp] theorem activate_same (e : EnclEntry) (trk : BitVec 256) (persist : Bool) (epoch : W32) (pubs : Tbl (BitVec 768)) (pubSeq : Option W64) (s : State) :
    (activate e trk persist epoch pubs pubSeq s).pending = s.pending ∧
    (activate e trk persist epoch pubs pubSeq s).fresh = s.fresh ∧
    (activate e trk persist epoch pubs pubSeq s).out = s.out ∧
    (activate e trk persist epoch pubs pubSeq s).ticks = s.ticks ∧
    (activate e trk persist epoch pubs pubSeq s).coldResets = s.coldResets ∧
    (activate e trk persist epoch pubs pubSeq s).fuse = s.fuse ∧
    (activate e trk persist epoch pubs pubSeq s).modl = s.modl ∧
    (activate e trk persist epoch pubs pubSeq s).power = s.power ∧
    (activate e trk persist epoch pubs pubSeq s).cores = s.cores ∧
    (activate e trk persist epoch pubs pubSeq s).pages = s.pages ∧
    (activate e trk persist epoch pubs pubSeq s).counters = s.counters ∧
    (activate e trk persist epoch pubs pubSeq s).tiers = s.tiers ∧
    (activate e trk persist epoch pubs pubSeq s).dwt = s.dwt ∧
    (activate e trk persist epoch pubs pubSeq s).col = s.col ∧
    (activate e trk persist epoch pubs pubSeq s).nets = s.nets ∧
    (activate e trk persist epoch pubs pubSeq s).rcv = s.rcv ∧
    (activate e trk persist epoch pubs pubSeq s).mgt = s.mgt ∧
    (activate e trk persist epoch pubs pubSeq s).hif = s.hif := by
  simp [activate]

@[simp] theorem setPort_same (m : Option Member) (s : State) (n : Nat) :
    (setPort m s n).pending = s.pending ∧ (setPort m s n).fresh = s.fresh ∧ (setPort m s n).out = s.out ∧
    (setPort m s n).ticks = s.ticks ∧ (setPort m s n).coldResets = s.coldResets ∧ (setPort m s n).fuse = s.fuse ∧
    (setPort m s n).modl = s.modl ∧ (setPort m s n).power = s.power ∧ (setPort m s n).cores = s.cores ∧
    (setPort m s n).ctxs = s.ctxs ∧ (setPort m s n).pages = s.pages ∧ (setPort m s n).counters = s.counters ∧
    (setPort m s n).tiers = s.tiers ∧ (setPort m s n).dwt = s.dwt ∧ (setPort m s n).col = s.col ∧
    (setPort m s n).sec = s.sec ∧ (setPort m s n).rcv = s.rcv ∧ (setPort m s n).mgt = s.mgt ∧
    (setPort m s n).hif = s.hif := by
  simp [setPort]

@[simp] theorem setPorts_same (s : State) :
    (setPorts s).pending = s.pending ∧ (setPorts s).fresh = s.fresh ∧ (setPorts s).out = s.out ∧
    (setPorts s).ticks = s.ticks ∧ (setPorts s).coldResets = s.coldResets ∧ (setPorts s).fuse = s.fuse ∧
    (setPorts s).modl = s.modl ∧ (setPorts s).power = s.power ∧ (setPorts s).cores = s.cores ∧
    (setPorts s).ctxs = s.ctxs ∧ (setPorts s).pages = s.pages ∧ (setPorts s).counters = s.counters ∧
    (setPorts s).tiers = s.tiers ∧ (setPorts s).dwt = s.dwt ∧ (setPorts s).col = s.col ∧ (setPorts s).sec = s.sec ∧
    (setPorts s).rcv = s.rcv ∧ (setPorts s).mgt = s.mgt ∧ (setPorts s).hif = s.hif := by
  simp [setPorts]

@[simp] theorem lockAll_same (s : State) :
    (lockAll s).pending = s.pending ∧ (lockAll s).fresh = s.fresh ∧ (lockAll s).out = s.out ∧
    (lockAll s).ticks = s.ticks ∧ (lockAll s).coldResets = s.coldResets ∧ (lockAll s).fuse = s.fuse ∧
    (lockAll s).modl = s.modl ∧ (lockAll s).power = s.power ∧ (lockAll s).cores = s.cores ∧
    (lockAll s).ctxs = s.ctxs ∧ (lockAll s).pages = s.pages ∧ (lockAll s).counters = s.counters ∧
    (lockAll s).tiers = s.tiers ∧ (lockAll s).sec = s.sec ∧ (lockAll s).rcv = s.rcv ∧ (lockAll s).mgt = s.mgt := by
  simp [lockAll]

@[simp] theorem writeBackPort_same (s : State) (n : Nat) :
    (writeBackPort s n).pending = s.pending ∧ (writeBackPort s n).fresh = s.fresh ∧
    (writeBackPort s n).out = s.out ∧ (writeBackPort s n).ticks = s.ticks ∧
    (writeBackPort s n).coldResets = s.coldResets ∧ (writeBackPort s n).fuse = s.fuse ∧
    (writeBackPort s n).modl = s.modl ∧ (writeBackPort s n).power = s.power ∧ (writeBackPort s n).cores = s.cores ∧
    (writeBackPort s n).ctxs = s.ctxs ∧ (writeBackPort s n).pages = s.pages ∧
    (writeBackPort s n).counters = s.counters ∧ (writeBackPort s n).tiers = s.tiers ∧
    (writeBackPort s n).dwt = s.dwt ∧ (writeBackPort s n).col = s.col ∧ (writeBackPort s n).sec = s.sec ∧
    (writeBackPort s n).rcv = s.rcv ∧ (writeBackPort s n).mgt = s.mgt ∧ (writeBackPort s n).hif = s.hif := by
  simp [writeBackPort]

@[simp] theorem writeBackHub_same (s : State) :
    (writeBackHub s).pending = s.pending ∧ (writeBackHub s).fresh = s.fresh ∧ (writeBackHub s).out = s.out ∧
    (writeBackHub s).ticks = s.ticks ∧ (writeBackHub s).coldResets = s.coldResets ∧
    (writeBackHub s).fuse = s.fuse ∧ (writeBackHub s).modl = s.modl ∧ (writeBackHub s).power = s.power ∧
    (writeBackHub s).cores = s.cores ∧ (writeBackHub s).ctxs = s.ctxs ∧ (writeBackHub s).pages = s.pages ∧
    (writeBackHub s).counters = s.counters ∧ (writeBackHub s).tiers = s.tiers ∧ (writeBackHub s).nets = s.nets ∧
    (writeBackHub s).sec = s.sec ∧ (writeBackHub s).rcv = s.rcv ∧ (writeBackHub s).mgt = s.mgt := by
  simp [writeBackHub]

@[simp] theorem clearWins_same (e : EnclEntry) (s : State) :
    (clearWins e s).pending = s.pending ∧ (clearWins e s).fresh = s.fresh ∧ (clearWins e s).out = s.out ∧
    (clearWins e s).ticks = s.ticks ∧ (clearWins e s).coldResets = s.coldResets ∧ (clearWins e s).fuse = s.fuse ∧
    (clearWins e s).modl = s.modl ∧ (clearWins e s).power = s.power ∧ (clearWins e s).cores = s.cores ∧
    (clearWins e s).ctxs = s.ctxs ∧ (clearWins e s).pages = s.pages ∧ (clearWins e s).counters = s.counters ∧
    (clearWins e s).tiers = s.tiers ∧ (clearWins e s).col = s.col ∧ (clearWins e s).nets = s.nets ∧
    (clearWins e s).sec = s.sec ∧ (clearWins e s).rcv = s.rcv ∧ (clearWins e s).mgt = s.mgt ∧
    (clearWins e s).hif = s.hif := by
  simp [clearWins]

@[simp] theorem enterReset_same (s : State) (k : Nat) :
    (enterReset s k).pending = s.pending ∧ (enterReset s k).fresh = s.fresh ∧ (enterReset s k).out = s.out ∧
    (enterReset s k).ticks = s.ticks ∧ (enterReset s k).coldResets = s.coldResets ∧
    (enterReset s k).fuse = s.fuse ∧ (enterReset s k).modl = s.modl ∧ (enterReset s k).power = s.power ∧
    (enterReset s k).cores = s.cores ∧ (enterReset s k).ctxs = s.ctxs ∧ (enterReset s k).pages = s.pages ∧
    (enterReset s k).counters = s.counters ∧ (enterReset s k).tiers = s.tiers ∧ (enterReset s k).dwt = s.dwt ∧
    (enterReset s k).col = s.col ∧ (enterReset s k).nets = s.nets ∧ (enterReset s k).rcv = s.rcv ∧
    (enterReset s k).mgt = s.mgt ∧ (enterReset s k).hif = s.hif := by
  unfold enterReset
  (repeat' split) <;> simp

@[simp] theorem startLoad_same (ks : List Nat) (s : State) :
    (startLoad ks s).pending = s.pending ∧ (startLoad ks s).ticks = s.ticks ∧
    (startLoad ks s).coldResets = s.coldResets ∧ (startLoad ks s).fuse = s.fuse ∧
    (startLoad ks s).power = s.power ∧ (startLoad ks s).cores = s.cores ∧ (startLoad ks s).ctxs = s.ctxs ∧
    (startLoad ks s).pages = s.pages ∧ (startLoad ks s).counters = s.counters ∧ (startLoad ks s).tiers = s.tiers ∧
    (startLoad ks s).dwt = s.dwt ∧ (startLoad ks s).col = s.col ∧ (startLoad ks s).nets = s.nets ∧
    (startLoad ks s).rcv = s.rcv ∧ (startLoad ks s).hif = s.hif := by
  simp [startLoad]

@[simp] theorem leaveEncl_same (s : State) (k : Nat) :
    (leaveEncl s k).pending = s.pending ∧ (leaveEncl s k).fresh = s.fresh ∧ (leaveEncl s k).out = s.out ∧
    (leaveEncl s k).ticks = s.ticks ∧ (leaveEncl s k).coldResets = s.coldResets ∧ (leaveEncl s k).fuse = s.fuse ∧
    (leaveEncl s k).modl = s.modl ∧ (leaveEncl s k).power = s.power ∧ (leaveEncl s k).cores = s.cores ∧
    (leaveEncl s k).ctxs = s.ctxs ∧ (leaveEncl s k).pages = s.pages ∧ (leaveEncl s k).counters = s.counters ∧
    (leaveEncl s k).col = s.col ∧ (leaveEncl s k).nets = s.nets ∧ (leaveEncl s k).rcv = s.rcv ∧
    (leaveEncl s k).mgt = s.mgt ∧ (leaveEncl s k).hif = s.hif := by
  unfold leaveEncl
  (repeat' split) <;> simp

@[simp] theorem zeroUnused_same (s : State) :
    (zeroUnused s).pending = s.pending ∧ (zeroUnused s).fresh = s.fresh ∧ (zeroUnused s).out = s.out ∧
    (zeroUnused s).ticks = s.ticks ∧ (zeroUnused s).coldResets = s.coldResets ∧ (zeroUnused s).fuse = s.fuse ∧
    (zeroUnused s).modl = s.modl ∧ (zeroUnused s).power = s.power ∧ (zeroUnused s).cores = s.cores ∧
    (zeroUnused s).ctxs = s.ctxs ∧ (zeroUnused s).pages = s.pages ∧ (zeroUnused s).counters = s.counters ∧
    (zeroUnused s).dwt = s.dwt ∧ (zeroUnused s).col = s.col ∧ (zeroUnused s).nets = s.nets ∧
    (zeroUnused s).sec = s.sec ∧ (zeroUnused s).rcv = s.rcv ∧ (zeroUnused s).mgt = s.mgt ∧
    (zeroUnused s).hif = s.hif := by
  simp [zeroUnused]

@[simp] theorem enterEncl_same (i : Image) (s : State) (k : Nat) :
    (enterEncl i s k).pending = s.pending ∧ (enterEncl i s k).out = s.out ∧ (enterEncl i s k).ticks = s.ticks ∧
    (enterEncl i s k).coldResets = s.coldResets ∧ (enterEncl i s k).fuse = s.fuse ∧
    (enterEncl i s k).modl = s.modl ∧ (enterEncl i s k).power = s.power ∧ (enterEncl i s k).cores = s.cores ∧
    (enterEncl i s k).ctxs = s.ctxs ∧ (enterEncl i s k).pages = s.pages ∧ (enterEncl i s k).counters = s.counters ∧
    (enterEncl i s k).tiers = s.tiers ∧ (enterEncl i s k).col = s.col ∧ (enterEncl i s k).nets = s.nets ∧
    (enterEncl i s k).rcv = s.rcv ∧ (enterEncl i s k).mgt = s.mgt ∧ (enterEncl i s k).hif = s.hif := by
  unfold enterEncl
  (repeat' split) <;> simp

@[simp] theorem unshedPorts_same (s : State) :
    (unshedPorts s).pending = s.pending ∧ (unshedPorts s).fresh = s.fresh ∧ (unshedPorts s).ticks = s.ticks ∧
    (unshedPorts s).coldResets = s.coldResets ∧ (unshedPorts s).fuse = s.fuse ∧ (unshedPorts s).modl = s.modl ∧
    (unshedPorts s).power = s.power ∧ (unshedPorts s).cores = s.cores ∧ (unshedPorts s).ctxs = s.ctxs ∧
    (unshedPorts s).pages = s.pages ∧ (unshedPorts s).counters = s.counters ∧ (unshedPorts s).tiers = s.tiers ∧
    (unshedPorts s).dwt = s.dwt ∧ (unshedPorts s).col = s.col ∧ (unshedPorts s).sec = s.sec ∧
    (unshedPorts s).rcv = s.rcv ∧ (unshedPorts s).mgt = s.mgt ∧ (unshedPorts s).hif = s.hif := by
  simp [unshedPorts]

@[simp] theorem applyImage_same (i : Image) (ks : List Nat) (keep : Bool) (s : State) :
    (applyImage i ks keep s).pending = s.pending ∧ (applyImage i ks keep s).ticks = s.ticks ∧
    (applyImage i ks keep s).coldResets = s.coldResets ∧ (applyImage i ks keep s).fuse = s.fuse ∧
    (applyImage i ks keep s).ctxs = s.ctxs ∧ (applyImage i ks keep s).pages = s.pages ∧
    (applyImage i ks keep s).counters = s.counters ∧ (applyImage i ks keep s).rcv = s.rcv := by
  simp [applyImage]

@[simp] theorem dropImage_same (s : State) :
    (dropImage s).pending = s.pending ∧ (dropImage s).ticks = s.ticks ∧ (dropImage s).coldResets = s.coldResets ∧
    (dropImage s).fuse = s.fuse ∧ (dropImage s).ctxs = s.ctxs ∧ (dropImage s).pages = s.pages ∧
    (dropImage s).counters = s.counters ∧ (dropImage s).col = s.col ∧ (dropImage s).rcv = s.rcv ∧
    (dropImage s).hif = s.hif := by
  simp [dropImage]

end Sys2Proof.Machine
end

