-- ==== Sys2Proof/Laws/MemImages.lean ====
section
/-! SUPPORT. Memory keeps its canonical form through the definitions of Machine/Images.lean. -/

namespace Sys2Proof.Machine

@[simp] theorem leaveEncl_mem (s : State) (k : Nat)
    (hm : Memory.wf s.tiers.mem = true) :
    Memory.wf (leaveEncl s k).tiers.mem = true := by
  unfold leaveEncl
  dsimp only
  (repeat' split) <;> simp +contextual (maxDischargeDepth := 12) [-State.ite_tiers, hm]

@[simp] theorem zeroUnused_mem (s : State)
    (hm : Memory.wf s.tiers.mem = true) :
    Memory.wf (zeroUnused s).tiers.mem = true := by
  simp (maxDischargeDepth := 12) [-State.ite_tiers, zeroUnused, hm]

@[simp] theorem applyImage_mem (i : Image) (ks : List Nat) (keep : Bool) (s : State)
    (hm : Memory.wf s.tiers.mem = true) :
    Memory.wf (applyImage i ks keep s).tiers.mem = true := by
  simp +contextual (maxDischargeDepth := 12) [-State.ite_tiers, applyImage, hm]

@[simp] theorem dropImage_mem (s : State)
    (hm : Memory.wf s.tiers.mem = true) :
    Memory.wf (dropImage s).tiers.mem = true := by
  simp +contextual (maxDischargeDepth := 12) [-State.ite_tiers, dropImage, hm]

end Sys2Proof.Machine
end

