-- ==== Sys2Proof/Laws/SameStarfix.lean ====
section
/-! SUPPORT. What the definitions of Machine/Starfix.lean leave alone. -/

namespace Sys2Proof.Machine

@[simp] theorem checkRcv_same (slot va : Nat) (s : State) :
    (checkRcv slot va s).1.pending = s.pending ∧ (checkRcv slot va s).1.ticks = s.ticks ∧
    (checkRcv slot va s).1.coldResets = s.coldResets ∧ (checkRcv slot va s).1.fuse = s.fuse ∧
    (checkRcv slot va s).1.power = s.power ∧ (checkRcv slot va s).1.cores = s.cores ∧
    (checkRcv slot va s).1.ctxs = s.ctxs ∧ (checkRcv slot va s).1.pages = s.pages ∧
    (checkRcv slot va s).1.counters = s.counters ∧ (checkRcv slot va s).1.dwt = s.dwt ∧
    (checkRcv slot va s).1.col = s.col ∧ (checkRcv slot va s).1.nets = s.nets ∧
    (checkRcv slot va s).1.rcv = s.rcv ∧ (checkRcv slot va s).1.hif = s.hif := by
  unfold checkRcv
  (repeat' split) <;> simp

@[simp] theorem State.dropShadow_same (s : State) (slot : Nat) :
    (State.dropShadow s slot).pending = s.pending ∧ (State.dropShadow s slot).fresh = s.fresh ∧
    (State.dropShadow s slot).out = s.out ∧ (State.dropShadow s slot).ticks = s.ticks ∧
    (State.dropShadow s slot).coldResets = s.coldResets ∧ (State.dropShadow s slot).fuse = s.fuse ∧
    (State.dropShadow s slot).modl = s.modl ∧ (State.dropShadow s slot).power = s.power ∧
    (State.dropShadow s slot).ctxs = s.ctxs ∧ (State.dropShadow s slot).pages = s.pages ∧
    (State.dropShadow s slot).counters = s.counters ∧ (State.dropShadow s slot).tiers = s.tiers ∧
    (State.dropShadow s slot).dwt = s.dwt ∧ (State.dropShadow s slot).col = s.col ∧
    (State.dropShadow s slot).nets = s.nets ∧ (State.dropShadow s slot).sec = s.sec ∧
    (State.dropShadow s slot).rcv = s.rcv ∧ (State.dropShadow s slot).mgt = s.mgt ∧
    (State.dropShadow s slot).hif = s.hif := by
  simp [State.dropShadow]

@[simp] theorem applyRcv_same (slot : Nat) (s : State) :
    (applyRcv slot s).pending = s.pending ∧ (applyRcv slot s).ticks = s.ticks ∧
    (applyRcv slot s).coldResets = s.coldResets ∧ (applyRcv slot s).fuse = s.fuse ∧
    (applyRcv slot s).power = s.power ∧ (applyRcv slot s).pages = s.pages ∧
    (applyRcv slot s).counters = s.counters ∧ (applyRcv slot s).dwt = s.dwt ∧ (applyRcv slot s).col = s.col ∧
    (applyRcv slot s).nets = s.nets ∧ (applyRcv slot s).rcv = s.rcv ∧ (applyRcv slot s).hif = s.hif := by
  unfold applyRcv
  (repeat' split) <;> simp

@[simp] theorem rcvSet_same (slot va : Nat) (s : State) :
    (rcvSet slot va s).1.pending = s.pending ∧ (rcvSet slot va s).1.ticks = s.ticks ∧
    (rcvSet slot va s).1.coldResets = s.coldResets ∧ (rcvSet slot va s).1.fuse = s.fuse ∧
    (rcvSet slot va s).1.power = s.power ∧ (rcvSet slot va s).1.pages = s.pages ∧
    (rcvSet slot va s).1.counters = s.counters ∧ (rcvSet slot va s).1.dwt = s.dwt ∧
    (rcvSet slot va s).1.col = s.col ∧ (rcvSet slot va s).1.nets = s.nets ∧ (rcvSet slot va s).1.rcv = s.rcv ∧
    (rcvSet slot va s).1.hif = s.hif := by
  unfold rcvSet
  dsimp only
  (repeat' split) <;> simp

@[simp] theorem fillPage_same (slot vp : Nat) (bs : List Byte) (s : State) :
    (fillPage slot vp bs s).pending = s.pending ∧ (fillPage slot vp bs s).fresh = s.fresh ∧
    (fillPage slot vp bs s).out = s.out ∧ (fillPage slot vp bs s).ticks = s.ticks ∧
    (fillPage slot vp bs s).coldResets = s.coldResets ∧ (fillPage slot vp bs s).fuse = s.fuse ∧
    (fillPage slot vp bs s).modl = s.modl ∧ (fillPage slot vp bs s).power = s.power ∧
    (fillPage slot vp bs s).cores = s.cores ∧ (fillPage slot vp bs s).ctxs = s.ctxs ∧
    (fillPage slot vp bs s).pages = s.pages ∧ (fillPage slot vp bs s).counters = s.counters ∧
    (fillPage slot vp bs s).dwt = s.dwt ∧ (fillPage slot vp bs s).col = s.col ∧
    (fillPage slot vp bs s).nets = s.nets ∧ (fillPage slot vp bs s).sec = s.sec ∧
    (fillPage slot vp bs s).rcv = s.rcv ∧ (fillPage slot vp bs s).mgt = s.mgt ∧ (fillPage slot vp bs s).hif = s.hif := by
  unfold fillPage
  (repeat' split) <;> simp

@[simp] theorem putStarfix_same (slot : Nat) (d : RcvDesc) (x : Starfix) (s : State) :
    (putStarfix slot d x s).pending = s.pending ∧ (putStarfix slot d x s).ticks = s.ticks ∧
    (putStarfix slot d x s).coldResets = s.coldResets ∧ (putStarfix slot d x s).fuse = s.fuse ∧
    (putStarfix slot d x s).power = s.power ∧ (putStarfix slot d x s).cores = s.cores ∧
    (putStarfix slot d x s).ctxs = s.ctxs ∧ (putStarfix slot d x s).pages = s.pages ∧
    (putStarfix slot d x s).counters = s.counters ∧ (putStarfix slot d x s).dwt = s.dwt ∧
    (putStarfix slot d x s).col = s.col ∧ (putStarfix slot d x s).nets = s.nets ∧
    (putStarfix slot d x s).sec = s.sec ∧ (putStarfix slot d x s).rcv = s.rcv ∧ (putStarfix slot d x s).hif = s.hif := by
  simp [putStarfix]

@[simp] theorem mirrorSend_same (slot : Nat) (s : State) :
    (mirrorSend slot s).pending = s.pending ∧ (mirrorSend slot s).ticks = s.ticks ∧
    (mirrorSend slot s).coldResets = s.coldResets ∧ (mirrorSend slot s).fuse = s.fuse ∧
    (mirrorSend slot s).power = s.power ∧ (mirrorSend slot s).cores = s.cores ∧
    (mirrorSend slot s).pages = s.pages ∧ (mirrorSend slot s).col = s.col ∧ (mirrorSend slot s).hif = s.hif := by
  unfold mirrorSend
  dsimp only
  (repeat' split) <;> simp

@[simp] theorem lossBytes_same (slot : Nat) (s : State) :
    (lossBytes slot s).1.pending = s.pending ∧ (lossBytes slot s).1.ticks = s.ticks ∧
    (lossBytes slot s).1.coldResets = s.coldResets ∧ (lossBytes slot s).1.fuse = s.fuse ∧
    (lossBytes slot s).1.power = s.power ∧ (lossBytes slot s).1.cores = s.cores ∧
    (lossBytes slot s).1.ctxs = s.ctxs ∧ (lossBytes slot s).1.pages = s.pages ∧
    (lossBytes slot s).1.counters = s.counters ∧ (lossBytes slot s).1.dwt = s.dwt ∧
    (lossBytes slot s).1.col = s.col ∧ (lossBytes slot s).1.nets = s.nets ∧ (lossBytes slot s).1.rcv = s.rcv ∧
    (lossBytes slot s).1.hif = s.hif := by
  unfold lossBytes
  (repeat' split) <;> simp

@[simp] theorem State.mapMirrors_same (s : State) (slot : Nat) (f : List Starfix → List Starfix) :
    (State.mapMirrors s slot f).pending = s.pending ∧ (State.mapMirrors s slot f).fresh = s.fresh ∧
    (State.mapMirrors s slot f).out = s.out ∧ (State.mapMirrors s slot f).ticks = s.ticks ∧
    (State.mapMirrors s slot f).coldResets = s.coldResets ∧ (State.mapMirrors s slot f).fuse = s.fuse ∧
    (State.mapMirrors s slot f).modl = s.modl ∧ (State.mapMirrors s slot f).power = s.power ∧
    (State.mapMirrors s slot f).cores = s.cores ∧ (State.mapMirrors s slot f).ctxs = s.ctxs ∧
    (State.mapMirrors s slot f).pages = s.pages ∧ (State.mapMirrors s slot f).counters = s.counters ∧
    (State.mapMirrors s slot f).tiers = s.tiers ∧ (State.mapMirrors s slot f).dwt = s.dwt ∧
    (State.mapMirrors s slot f).col = s.col ∧ (State.mapMirrors s slot f).nets = s.nets ∧
    (State.mapMirrors s slot f).sec = s.sec ∧ (State.mapMirrors s slot f).mgt = s.mgt ∧
    (State.mapMirrors s slot f).hif = s.hif := by
  unfold State.mapMirrors
  (repeat' split) <;> simp

@[simp] theorem epoch_same (slot : Nat) (s : State) :
    (epoch slot s).pending = s.pending ∧ (epoch slot s).ticks = s.ticks ∧
    (epoch slot s).coldResets = s.coldResets ∧ (epoch slot s).fuse = s.fuse ∧ (epoch slot s).power = s.power ∧
    (epoch slot s).pages = s.pages ∧ (epoch slot s).col = s.col ∧ (epoch slot s).hif = s.hif := by
  unfold epoch
  dsimp only
  (repeat' split) <;> simp

@[simp] theorem starfixComplete_same (slot : Nat) (s : State) :
    (starfixComplete slot s).pending = s.pending ∧ (starfixComplete slot s).fresh = s.fresh ∧
    (starfixComplete slot s).out = s.out ∧ (starfixComplete slot s).ticks = s.ticks ∧
    (starfixComplete slot s).coldResets = s.coldResets ∧ (starfixComplete slot s).fuse = s.fuse ∧
    (starfixComplete slot s).modl = s.modl ∧ (starfixComplete slot s).power = s.power ∧
    (starfixComplete slot s).cores = s.cores ∧ (starfixComplete slot s).pages = s.pages ∧
    (starfixComplete slot s).counters = s.counters ∧ (starfixComplete slot s).tiers = s.tiers ∧
    (starfixComplete slot s).dwt = s.dwt ∧ (starfixComplete slot s).col = s.col ∧
    (starfixComplete slot s).nets = s.nets ∧ (starfixComplete slot s).sec = s.sec ∧
    (starfixComplete slot s).mgt = s.mgt ∧ (starfixComplete slot s).hif = s.hif := by
  unfold starfixComplete
  dsimp only
  (repeat' split) <;> simp

theorem makeObj_same (slot encl : Nat) (r : AllocObj × List Nat) (s : State) {z : State} (h : makeObj slot encl r s = some z) :
    z.pending = s.pending ∧ z.fresh = s.fresh ∧ z.out = s.out ∧ z.ticks = s.ticks ∧ z.coldResets = s.coldResets ∧
    z.fuse = s.fuse ∧ z.modl = s.modl ∧ z.power = s.power ∧ z.cores = s.cores ∧ z.ctxs = s.ctxs ∧
    z.pages = s.pages ∧ z.counters = s.counters ∧ z.dwt = s.dwt ∧ z.col = s.col ∧ z.nets = s.nets ∧ z.sec = s.sec ∧
    z.rcv = s.rcv ∧ z.mgt = s.mgt ∧ z.hif = s.hif := by
  unfold makeObj at h
  dsimp only at h
  (repeat' split at h) <;> first | (cases h; done) | (injection h with h; subst h; simp)

theorem makeObjs_same (slot encl : Nat) (l : List (AllocObj × List Nat)) (s : State) {z : State}
    (h : makeObjs slot encl l s = some z) :
    z.pending = s.pending ∧ z.fresh = s.fresh ∧ z.out = s.out ∧ z.ticks = s.ticks ∧ z.coldResets = s.coldResets ∧
    z.fuse = s.fuse ∧ z.modl = s.modl ∧ z.power = s.power ∧ z.cores = s.cores ∧ z.ctxs = s.ctxs ∧
    z.pages = s.pages ∧ z.counters = s.counters ∧ z.dwt = s.dwt ∧ z.col = s.col ∧ z.nets = s.nets ∧ z.sec = s.sec ∧
    z.rcv = s.rcv ∧ z.mgt = s.mgt ∧ z.hif = s.hif := by
  induction l generalizing s with
  | nil => simp only [makeObjs, Option.some.injEq] at h; subst h; simp
  | cons r l ih =>
    simp only [makeObjs] at h
    split at h
    · cases h
    · simpa [makeObj_same _ _ _ _ ‹makeObj _ _ _ _ = some _›] using ih _ h

@[simp] theorem restorePage_same (slot : Nat) (s : State) (p : Nat × List (Nat × Byte)) :
    (restorePage slot s p).pending = s.pending ∧ (restorePage slot s p).fresh = s.fresh ∧
    (restorePage slot s p).out = s.out ∧ (restorePage slot s p).ticks = s.ticks ∧
    (restorePage slot s p).coldResets = s.coldResets ∧ (restorePage slot s p).fuse = s.fuse ∧
    (restorePage slot s p).modl = s.modl ∧ (restorePage slot s p).power = s.power ∧
    (restorePage slot s p).cores = s.cores ∧ (restorePage slot s p).ctxs = s.ctxs ∧
    (restorePage slot s p).pages = s.pages ∧ (restorePage slot s p).counters = s.counters ∧
    (restorePage slot s p).dwt = s.dwt ∧ (restorePage slot s p).col = s.col ∧
    (restorePage slot s p).nets = s.nets ∧ (restorePage slot s p).sec = s.sec ∧
    (restorePage slot s p).rcv = s.rcv ∧ (restorePage slot s p).mgt = s.mgt ∧ (restorePage slot s p).hif = s.hif := by
  unfold restorePage
  (repeat' split) <;> simp

@[simp] theorem restorePages_same (slot : Nat) (mirror : Bool) (x : Starfix) (s : State) :
    (restorePages slot mirror x s).pending = s.pending ∧ (restorePages slot mirror x s).ticks = s.ticks ∧
    (restorePages slot mirror x s).coldResets = s.coldResets ∧ (restorePages slot mirror x s).fuse = s.fuse ∧
    (restorePages slot mirror x s).power = s.power ∧ (restorePages slot mirror x s).cores = s.cores ∧
    (restorePages slot mirror x s).ctxs = s.ctxs ∧ (restorePages slot mirror x s).pages = s.pages ∧
    (restorePages slot mirror x s).counters = s.counters ∧ (restorePages slot mirror x s).dwt = s.dwt ∧
    (restorePages slot mirror x s).col = s.col ∧ (restorePages slot mirror x s).nets = s.nets ∧
    (restorePages slot mirror x s).sec = s.sec ∧ (restorePages slot mirror x s).rcv = s.rcv ∧
    (restorePages slot mirror x s).hif = s.hif := by
  unfold restorePages
  (repeat' split) <;> simp

@[simp] theorem restoreWin_same (slot : Nat) (s : State) (r : Nat × Nat) :
    (restoreWin slot s r).pending = s.pending ∧ (restoreWin slot s r).ticks = s.ticks ∧
    (restoreWin slot s r).coldResets = s.coldResets ∧ (restoreWin slot s r).fuse = s.fuse ∧
    (restoreWin slot s r).power = s.power ∧ (restoreWin slot s r).cores = s.cores ∧
    (restoreWin slot s r).ctxs = s.ctxs ∧ (restoreWin slot s r).pages = s.pages ∧
    (restoreWin slot s r).counters = s.counters ∧ (restoreWin slot s r).dwt = s.dwt ∧
    (restoreWin slot s r).col = s.col ∧ (restoreWin slot s r).nets = s.nets ∧ (restoreWin slot s r).sec = s.sec ∧
    (restoreWin slot s r).rcv = s.rcv ∧ (restoreWin slot s r).hif = s.hif := by
  unfold restoreWin
  (repeat' split) <;> simp

@[simp] theorem restoreDwtWins_same (slot : Nat) (x : Starfix) (s : State) :
    (restoreDwtWins slot x s).pending = s.pending ∧ (restoreDwtWins slot x s).fresh = s.fresh ∧
    (restoreDwtWins slot x s).out = s.out ∧ (restoreDwtWins slot x s).ticks = s.ticks ∧
    (restoreDwtWins slot x s).coldResets = s.coldResets ∧ (restoreDwtWins slot x s).fuse = s.fuse ∧
    (restoreDwtWins slot x s).modl = s.modl ∧ (restoreDwtWins slot x s).power = s.power ∧
    (restoreDwtWins slot x s).cores = s.cores ∧ (restoreDwtWins slot x s).ctxs = s.ctxs ∧
    (restoreDwtWins slot x s).pages = s.pages ∧ (restoreDwtWins slot x s).counters = s.counters ∧
    (restoreDwtWins slot x s).tiers = s.tiers ∧ (restoreDwtWins slot x s).col = s.col ∧
    (restoreDwtWins slot x s).nets = s.nets ∧ (restoreDwtWins slot x s).sec = s.sec ∧
    (restoreDwtWins slot x s).rcv = s.rcv ∧ (restoreDwtWins slot x s).mgt = s.mgt ∧
    (restoreDwtWins slot x s).hif = s.hif := by
  simp [restoreDwtWins]

@[simp] theorem endConn_same (slot : Nat) (s : State) (p : Nat × ConnDesc) :
    (endConn slot s p).pending = s.pending ∧ (endConn slot s p).ticks = s.ticks ∧
    (endConn slot s p).coldResets = s.coldResets ∧ (endConn slot s p).fuse = s.fuse ∧
    (endConn slot s p).power = s.power ∧ (endConn slot s p).cores = s.cores ∧ (endConn slot s p).pages = s.pages ∧
    (endConn slot s p).col = s.col ∧ (endConn slot s p).nets = s.nets ∧ (endConn slot s p).hif = s.hif := by
  simp [endConn]

@[simp] theorem restoreConn_same (slot encl : Nat) (s : State) (p : Nat × ConnDesc) :
    (restoreConn slot encl s p).pending = s.pending ∧ (restoreConn slot encl s p).out = s.out ∧
    (restoreConn slot encl s p).ticks = s.ticks ∧ (restoreConn slot encl s p).coldResets = s.coldResets ∧
    (restoreConn slot encl s p).fuse = s.fuse ∧ (restoreConn slot encl s p).modl = s.modl ∧
    (restoreConn slot encl s p).power = s.power ∧ (restoreConn slot encl s p).cores = s.cores ∧
    (restoreConn slot encl s p).ctxs = s.ctxs ∧ (restoreConn slot encl s p).pages = s.pages ∧
    (restoreConn slot encl s p).counters = s.counters ∧ (restoreConn slot encl s p).tiers = s.tiers ∧
    (restoreConn slot encl s p).col = s.col ∧ (restoreConn slot encl s p).sec = s.sec ∧
    (restoreConn slot encl s p).rcv = s.rcv ∧ (restoreConn slot encl s p).mgt = s.mgt ∧
    (restoreConn slot encl s p).hif = s.hif := by
  simp [restoreConn]

@[simp] theorem restoreCtrs_same (slot : Nat) (l : List Nat) (s : State) :
    (restoreCtrs slot l s).pending = s.pending ∧ (restoreCtrs slot l s).fresh = s.fresh ∧
    (restoreCtrs slot l s).out = s.out ∧ (restoreCtrs slot l s).ticks = s.ticks ∧
    (restoreCtrs slot l s).coldResets = s.coldResets ∧ (restoreCtrs slot l s).fuse = s.fuse ∧
    (restoreCtrs slot l s).modl = s.modl ∧ (restoreCtrs slot l s).power = s.power ∧
    (restoreCtrs slot l s).cores = s.cores ∧ (restoreCtrs slot l s).ctxs = s.ctxs ∧
    (restoreCtrs slot l s).pages = s.pages ∧ (restoreCtrs slot l s).tiers = s.tiers ∧
    (restoreCtrs slot l s).dwt = s.dwt ∧ (restoreCtrs slot l s).col = s.col ∧
    (restoreCtrs slot l s).nets = s.nets ∧ (restoreCtrs slot l s).sec = s.sec ∧
    (restoreCtrs slot l s).rcv = s.rcv ∧ (restoreCtrs slot l s).mgt = s.mgt ∧ (restoreCtrs slot l s).hif = s.hif := by
  simp [restoreCtrs]

@[simp] theorem restoreFrom_same (slot encl : Nat) (mirror : Bool) (x : Starfix) (s : State) :
    (restoreFrom slot encl mirror x s).pending = s.pending ∧ (restoreFrom slot encl mirror x s).ticks = s.ticks ∧
    (restoreFrom slot encl mirror x s).coldResets = s.coldResets ∧
    (restoreFrom slot encl mirror x s).fuse = s.fuse ∧ (restoreFrom slot encl mirror x s).power = s.power ∧
    (restoreFrom slot encl mirror x s).pages = s.pages ∧ (restoreFrom slot encl mirror x s).col = s.col ∧
    (restoreFrom slot encl mirror x s).hif = s.hif := by
  simp [restoreFrom]

@[simp] theorem restore_same (slot encl : Nat) (step : W64) (mirror : Bool) (s : State) :
    (restore slot encl step mirror s).1.pending = s.pending ∧ (restore slot encl step mirror s).1.ticks = s.ticks ∧
    (restore slot encl step mirror s).1.coldResets = s.coldResets ∧
    (restore slot encl step mirror s).1.fuse = s.fuse ∧ (restore slot encl step mirror s).1.power = s.power ∧
    (restore slot encl step mirror s).1.pages = s.pages ∧ (restore slot encl step mirror s).1.col = s.col ∧
    (restore slot encl step mirror s).1.hif = s.hif := by
  unfold restore
  dsimp only
  split
  · simp
  · split
    · simp
    · split
      · simp
      · rename_i x _ _ s1 h
        have h1 : s1.pending = s.pending ∧ s1.ticks = s.ticks ∧ s1.coldResets = s.coldResets ∧ s1.fuse = s.fuse ∧ s1.power = s.power ∧ s1.pages = s.pages ∧ s1.col = s.col ∧ s1.hif = s.hif := by
          split at h
          · simp [makeObjs_same _ _ _ _ h]
          · simp only [Option.some.injEq] at h; subst h; simp
        (repeat' split) <;> simp [h1]

@[simp] theorem verifyStep_same (slot : Nat) (s : State) :
    (verifyStep slot s).1.pending = s.pending ∧ (verifyStep slot s).1.ticks = s.ticks ∧
    (verifyStep slot s).1.coldResets = s.coldResets ∧ (verifyStep slot s).1.fuse = s.fuse ∧
    (verifyStep slot s).1.power = s.power ∧ (verifyStep slot s).1.cores = s.cores ∧
    (verifyStep slot s).1.ctxs = s.ctxs ∧ (verifyStep slot s).1.pages = s.pages ∧
    (verifyStep slot s).1.counters = s.counters ∧ (verifyStep slot s).1.dwt = s.dwt ∧
    (verifyStep slot s).1.col = s.col ∧ (verifyStep slot s).1.nets = s.nets ∧ (verifyStep slot s).1.rcv = s.rcv ∧
    (verifyStep slot s).1.hif = s.hif := by
  unfold verifyStep
  dsimp only
  (repeat' split) <;> simp

@[simp] theorem endVerify_same (slot : Nat) (ok : Bool) (s : State) :
    (endVerify slot ok s).pending = s.pending ∧ (endVerify slot ok s).fresh = s.fresh ∧
    (endVerify slot ok s).out = s.out ∧ (endVerify slot ok s).ticks = s.ticks ∧
    (endVerify slot ok s).coldResets = s.coldResets ∧ (endVerify slot ok s).fuse = s.fuse ∧
    (endVerify slot ok s).modl = s.modl ∧ (endVerify slot ok s).power = s.power ∧
    (endVerify slot ok s).cores = s.cores ∧ (endVerify slot ok s).pages = s.pages ∧
    (endVerify slot ok s).counters = s.counters ∧ (endVerify slot ok s).tiers = s.tiers ∧
    (endVerify slot ok s).dwt = s.dwt ∧ (endVerify slot ok s).col = s.col ∧ (endVerify slot ok s).nets = s.nets ∧
    (endVerify slot ok s).sec = s.sec ∧ (endVerify slot ok s).mgt = s.mgt ∧ (endVerify slot ok s).hif = s.hif := by
  simp [endVerify]

@[simp] theorem rollback_same (slot : Nat) (s : State) :
    (rollback slot s).pending = s.pending ∧ (rollback slot s).ticks = s.ticks ∧
    (rollback slot s).coldResets = s.coldResets ∧ (rollback slot s).fuse = s.fuse ∧
    (rollback slot s).power = s.power ∧ (rollback slot s).cores = s.cores ∧ (rollback slot s).pages = s.pages ∧
    (rollback slot s).dwt = s.dwt ∧ (rollback slot s).col = s.col ∧ (rollback slot s).nets = s.nets ∧
    (rollback slot s).sec = s.sec ∧ (rollback slot s).rcv = s.rcv ∧ (rollback slot s).hif = s.hif := by
  simp [rollback]

end Sys2Proof.Machine
end

