-- ==== Sys2Proof/Laws/MemStarfix.lean ====
section
/-! SUPPORT. Memory keeps its canonical form through the definitions of Machine/Starfix.lean. -/

namespace Sys2Proof.Machine

@[simp] theorem checkRcv_mem (slot va : Nat) (s : State)
    (hm : Memory.wf s.tiers.mem = true) :
    Memory.wf (checkRcv slot va s).1.tiers.mem = true := by
  unfold checkRcv
  (repeat' split) <;> simp (maxDischargeDepth := 12) [-State.ite_tiers, hm]

@[simp] theorem applyRcv_mem (slot : Nat) (s : State)
    (hm : Memory.wf s.tiers.mem = true) :
    Memory.wf (applyRcv slot s).tiers.mem = true := by
  unfold applyRcv
  (repeat' split) <;> simp (maxDischargeDepth := 12) [-State.ite_tiers, hm]

@[simp] theorem rcvSet_mem (slot va : Nat) (s : State)
    (hm : Memory.wf s.tiers.mem = true) :
    Memory.wf (rcvSet slot va s).1.tiers.mem = true := by
  unfold rcvSet
  dsimp only
  (repeat' split) <;> simp (maxDischargeDepth := 12) [-State.ite_tiers, hm]

@[simp] theorem fillPage_mem (slot vp : Nat) (bs : List Byte) (s : State)
    (hm : Memory.wf s.tiers.mem = true) :
    Memory.wf (fillPage slot vp bs s).tiers.mem = true := by
  unfold fillPage
  (repeat' split) <;> simp (maxDischargeDepth := 12) [-State.ite_tiers, hm]

@[simp] theorem putStarfix_mem (slot : Nat) (d : RcvDesc) (x : Starfix) (s : State) (hm : Memory.wf s.tiers.mem = true) :
    Memory.wf (putStarfix slot d x s).tiers.mem = true := by
  unfold putStarfix
  exact Memory.wf_fold _ _ _ (Memory.wf_fold _ _ _ hm fun u k hu => fillPage_mem _ _ _ _ hu) fun u p hu => State.copyPage_mem _ _ _ _ hu

@[simp] theorem mirrorSend_mem (slot : Nat) (s : State)
    (hm : Memory.wf s.tiers.mem = true) :
    Memory.wf (mirrorSend slot s).tiers.mem = true := by
  unfold mirrorSend
  dsimp only
  (repeat' split) <;> simp (maxDischargeDepth := 12) [-State.ite_tiers, hm]

@[simp] theorem lossBytes_mem (slot : Nat) (s : State)
    (hm : Memory.wf s.tiers.mem = true) :
    Memory.wf (lossBytes slot s).1.tiers.mem = true := by
  unfold lossBytes
  (repeat' split) <;> simp (maxDischargeDepth := 12) [-State.ite_tiers, hm]

@[simp] theorem epoch_mem (slot : Nat) (s : State)
    (hm : Memory.wf s.tiers.mem = true) :
    Memory.wf (epoch slot s).tiers.mem = true := by
  unfold epoch
  dsimp only
  (repeat' split) <;> simp (maxDischargeDepth := 12) [-State.ite_tiers, hm]

theorem makeObj_mem (slot encl : Nat) (r : AllocObj × List Nat) (s : State) {z : State} (h : makeObj slot encl r s = some z)
    (hm : Memory.wf s.tiers.mem = true) :
    Memory.wf z.tiers.mem = true := by
  unfold makeObj at h
  dsimp only at h
  (repeat' split at h) <;> first | (cases h; done) | (injection h with h; subst h; simp +contextual (maxDischargeDepth := 12) [-State.ite_tiers, hm])

theorem makeObjs_mem (slot encl : Nat) (l : List (AllocObj × List Nat)) (s : State) {z : State}
    (h : makeObjs slot encl l s = some z) (hm : Memory.wf s.tiers.mem = true) : Memory.wf z.tiers.mem = true := by
  induction l generalizing s with
  | nil => simp only [makeObjs, Option.some.injEq] at h; subst h; exact hm
  | cons r l ih =>
    simp only [makeObjs] at h
    split at h
    · cases h
    · exact ih _ h (makeObj_mem _ _ _ _ ‹makeObj _ _ _ _ = some _› hm)

@[simp] theorem restorePage_mem (slot : Nat) (s : State) (p : Nat × List (Nat × Byte))
    (hm : Memory.wf s.tiers.mem = true) :
    Memory.wf (restorePage slot s p).tiers.mem = true := by
  unfold restorePage
  (repeat' split) <;> simp (maxDischargeDepth := 12) [-State.ite_tiers, hm]

@[simp] theorem restorePages_mem (slot : Nat) (mirror : Bool) (x : Starfix) (s : State) (hm : Memory.wf s.tiers.mem = true) :
    Memory.wf (restorePages slot mirror x s).tiers.mem = true := by
  unfold restorePages
  split
  · exact Memory.wf_fold _ _ _ hm fun u p hu => State.copyPage_mem _ _ _ _ hu
  · exact Memory.wf_fold _ _ _ hm fun u p hu => restorePage_mem _ _ _ hu

@[simp] theorem restoreWin_mem (slot : Nat) (s : State) (r : Nat × Nat)
    (hm : Memory.wf s.tiers.mem = true) :
    Memory.wf (restoreWin slot s r).tiers.mem = true := by
  unfold restoreWin
  dsimp only
  (repeat' split) <;> simp +contextual (maxDischargeDepth := 12) [-State.ite_tiers, hm]

@[simp] theorem endConn_mem (slot : Nat) (s : State) (p : Nat × ConnDesc)
    (hm : Memory.wf s.tiers.mem = true) :
    Memory.wf (endConn slot s p).tiers.mem = true := by
  simp (maxDischargeDepth := 12) [-State.ite_tiers, endConn, hm]

@[simp] theorem restoreFrom_mem (slot encl : Nat) (mirror : Bool) (x : Starfix) (s : State)
    (hm : Memory.wf s.tiers.mem = true) :
    Memory.wf (restoreFrom slot encl mirror x s).tiers.mem = true := by
  simp +contextual (maxDischargeDepth := 12) [-State.ite_tiers, restoreFrom, hm]

@[simp] theorem restore_mem (slot encl : Nat) (step : W64) (mirror : Bool) (s : State) (hm : Memory.wf s.tiers.mem = true) :
    Memory.wf (restore slot encl step mirror s).1.tiers.mem = true := by
  have key : ∀ (l : List (AllocObj × List Nat)) (z : State),
      (if mirror = true then makeObjs slot encl l s else some s) = some z → Memory.wf z.tiers.mem = true := by
    intro l z h
    split at h
    · exact makeObjs_mem _ _ _ _ h hm
    · simp only [Option.some.injEq] at h; subst h; exact hm
  unfold restore
  dsimp only
  (repeat' split) <;> first
    | exact hm
    | exact key _ _ ‹(if mirror = true then makeObjs slot encl _ s else some s) = some _›
    | exact restoreFrom_mem _ _ _ _ _ (key _ _ ‹(if mirror = true then makeObjs slot encl _ s else some s) = some _›)

@[simp] theorem verifyStep_mem (slot : Nat) (s : State)
    (hm : Memory.wf s.tiers.mem = true) :
    Memory.wf (verifyStep slot s).1.tiers.mem = true := by
  unfold verifyStep
  dsimp only
  (repeat' split) <;> simp (maxDischargeDepth := 12) [-State.ite_tiers, hm]

@[simp] theorem rollback_mem (slot : Nat) (s : State)
    (hm : Memory.wf s.tiers.mem = true) :
    Memory.wf (rollback slot s).tiers.mem = true := by
  simp +contextual (maxDischargeDepth := 12) [-State.ite_tiers, rollback, hm]

end Sys2Proof.Machine
end

