-- ==== Sys2Proof/Laws/SameHost.lean ====
section
/-! SUPPORT. What the definitions of Machine/Host.lean leave alone. -/

namespace Sys2Proof.Machine

@[simp] theorem State.busyCpl_same (s : State) (slot : Nat) (c : Cpl) :
    (State.busyCpl s slot c).pending = s.pending ∧ (State.busyCpl s slot c).fresh = s.fresh ∧
    (State.busyCpl s slot c).ticks = s.ticks ∧ (State.busyCpl s slot c).coldResets = s.coldResets ∧
    (State.busyCpl s slot c).fuse = s.fuse ∧ (State.busyCpl s slot c).modl = s.modl ∧
    (State.busyCpl s slot c).power = s.power ∧ (State.busyCpl s slot c).cores = s.cores ∧
    (State.busyCpl s slot c).ctxs = s.ctxs ∧ (State.busyCpl s slot c).counters = s.counters ∧
    (State.busyCpl s slot c).tiers = s.tiers ∧ (State.busyCpl s slot c).dwt = s.dwt ∧
    (State.busyCpl s slot c).col = s.col ∧ (State.busyCpl s slot c).nets = s.nets ∧
    (State.busyCpl s slot c).sec = s.sec ∧ (State.busyCpl s slot c).rcv = s.rcv ∧
    (State.busyCpl s slot c).mgt = s.mgt ∧ (State.busyCpl s slot c).hif = s.hif := by
  simp [State.busyCpl]

@[simp] theorem acceptRec_same (slot : Nat) (r : HostRec) (s : State) :
    (acceptRec slot r s).pending = s.pending ∧ (acceptRec slot r s).ticks = s.ticks ∧
    (acceptRec slot r s).coldResets = s.coldResets ∧ (acceptRec slot r s).fuse = s.fuse ∧
    (acceptRec slot r s).power = s.power ∧ (acceptRec slot r s).cores = s.cores ∧
    (acceptRec slot r s).pages = s.pages ∧ (acceptRec slot r s).counters = s.counters ∧
    (acceptRec slot r s).dwt = s.dwt ∧ (acceptRec slot r s).col = s.col ∧ (acceptRec slot r s).nets = s.nets := by
  simp [acceptRec]

@[simp] theorem takeRecs_same (slot encl : Nat) (abort : Bool) (l : List HostRec) (left got : Nat) (s : State) :
    (takeRecs slot encl abort l left got s).1.pending = s.pending ∧
    (takeRecs slot encl abort l left got s).1.ticks = s.ticks ∧
    (takeRecs slot encl abort l left got s).1.coldResets = s.coldResets ∧
    (takeRecs slot encl abort l left got s).1.fuse = s.fuse ∧
    (takeRecs slot encl abort l left got s).1.power = s.power ∧
    (takeRecs slot encl abort l left got s).1.cores = s.cores ∧
    (takeRecs slot encl abort l left got s).1.pages = s.pages ∧
    (takeRecs slot encl abort l left got s).1.counters = s.counters ∧
    (takeRecs slot encl abort l left got s).1.dwt = s.dwt ∧ (takeRecs slot encl abort l left got s).1.col = s.col ∧
    (takeRecs slot encl abort l left got s).1.nets = s.nets := by
  induction l generalizing left got s with
  | nil => unfold takeRecs; (repeat' split) <;> simp
  | cons r l ih =>
    unfold takeRecs
    (repeat' split) <;> simp [ih]

@[simp] theorem dmaCount_same (slot : Nat) (e : BitVec 512) (status : Nat) (s : State) :
    (dmaCount slot e status s).pending = s.pending ∧ (dmaCount slot e status s).ticks = s.ticks ∧
    (dmaCount slot e status s).coldResets = s.coldResets ∧ (dmaCount slot e status s).fuse = s.fuse ∧
    (dmaCount slot e status s).power = s.power ∧ (dmaCount slot e status s).cores = s.cores ∧
    (dmaCount slot e status s).pages = s.pages ∧ (dmaCount slot e status s).tiers = s.tiers ∧
    (dmaCount slot e status s).dwt = s.dwt ∧ (dmaCount slot e status s).col = s.col ∧
    (dmaCount slot e status s).nets = s.nets ∧ (dmaCount slot e status s).sec = s.sec ∧
    (dmaCount slot e status s).rcv = s.rcv ∧ (dmaCount slot e status s).hif = s.hif := by
  simp [dmaCount]

@[simp] theorem noIdeErr_same (slot k : Nat) (s : State) :
    (noIdeErr slot k s).pending = s.pending ∧ (noIdeErr slot k s).ticks = s.ticks ∧
    (noIdeErr slot k s).coldResets = s.coldResets ∧ (noIdeErr slot k s).fuse = s.fuse ∧
    (noIdeErr slot k s).power = s.power ∧ (noIdeErr slot k s).cores = s.cores ∧ (noIdeErr slot k s).ctxs = s.ctxs ∧
    (noIdeErr slot k s).pages = s.pages ∧ (noIdeErr slot k s).counters = s.counters ∧
    (noIdeErr slot k s).tiers = s.tiers ∧ (noIdeErr slot k s).dwt = s.dwt ∧ (noIdeErr slot k s).col = s.col ∧
    (noIdeErr slot k s).nets = s.nets ∧ (noIdeErr slot k s).sec = s.sec ∧ (noIdeErr slot k s).rcv = s.rcv := by
  simp [noIdeErr]

@[simp] theorem dmaIn_same (slot encl : Nat) (e : BitVec 512) (recs : List HostRec) (abort started : Bool) (s : State) :
    (dmaIn slot encl e recs abort started s).s.pending = s.pending ∧
    (dmaIn slot encl e recs abort started s).s.ticks = s.ticks ∧
    (dmaIn slot encl e recs abort started s).s.coldResets = s.coldResets ∧
    (dmaIn slot encl e recs abort started s).s.fuse = s.fuse ∧
    (dmaIn slot encl e recs abort started s).s.power = s.power ∧
    (dmaIn slot encl e recs abort started s).s.cores = s.cores ∧
    (dmaIn slot encl e recs abort started s).s.pages = s.pages ∧
    (dmaIn slot encl e recs abort started s).s.dwt = s.dwt ∧
    (dmaIn slot encl e recs abort started s).s.col = s.col ∧
    (dmaIn slot encl e recs abort started s).s.nets = s.nets := by
  unfold dmaIn
  (repeat' split) <;> simp

@[simp] theorem sealRecs_same (slot encl : Nat) (a1 : Nat) (a2 : Nat) (a3 : Nat) (a4 : Nat) (a5 : Nat) (s : State) :
    (sealRecs slot encl a1 a2 a3 a4 a5 s).1.pending = s.pending ∧
    (sealRecs slot encl a1 a2 a3 a4 a5 s).1.ticks = s.ticks ∧
    (sealRecs slot encl a1 a2 a3 a4 a5 s).1.coldResets = s.coldResets ∧
    (sealRecs slot encl a1 a2 a3 a4 a5 s).1.fuse = s.fuse ∧
    (sealRecs slot encl a1 a2 a3 a4 a5 s).1.power = s.power ∧
    (sealRecs slot encl a1 a2 a3 a4 a5 s).1.cores = s.cores ∧
    (sealRecs slot encl a1 a2 a3 a4 a5 s).1.pages = s.pages ∧
    (sealRecs slot encl a1 a2 a3 a4 a5 s).1.counters = s.counters ∧
    (sealRecs slot encl a1 a2 a3 a4 a5 s).1.dwt = s.dwt ∧ (sealRecs slot encl a1 a2 a3 a4 a5 s).1.col = s.col ∧
    (sealRecs slot encl a1 a2 a3 a4 a5 s).1.nets = s.nets ∧ (sealRecs slot encl a1 a2 a3 a4 a5 s).1.rcv = s.rcv := by
  induction a1 generalizing a2 a3 a4 a5 s with
  | zero => simp [sealRecs]
  | succ n ih =>
    simp only [sealRecs]
    (repeat' split) <;> simp [ih]

@[simp] theorem dmaOut_same (slot encl : Nat) (e : BitVec 512) (started : Bool) (s : State) :
    (dmaOut slot encl e started s).s.pending = s.pending ∧ (dmaOut slot encl e started s).s.ticks = s.ticks ∧
    (dmaOut slot encl e started s).s.coldResets = s.coldResets ∧ (dmaOut slot encl e started s).s.fuse = s.fuse ∧
    (dmaOut slot encl e started s).s.power = s.power ∧ (dmaOut slot encl e started s).s.cores = s.cores ∧
    (dmaOut slot encl e started s).s.pages = s.pages ∧ (dmaOut slot encl e started s).s.dwt = s.dwt ∧
    (dmaOut slot encl e started s).s.col = s.col ∧ (dmaOut slot encl e started s).s.nets = s.nets ∧
    (dmaOut slot encl e started s).s.rcv = s.rcv := by
  unfold dmaOut
  dsimp only
  (repeat' split) <;> simp

@[simp] theorem resumeStreams_same (slot : Nat) (s : State) :
    (resumeStreams slot s).pending = s.pending ∧ (resumeStreams slot s).fresh = s.fresh ∧
    (resumeStreams slot s).out = s.out ∧ (resumeStreams slot s).ticks = s.ticks ∧
    (resumeStreams slot s).coldResets = s.coldResets ∧ (resumeStreams slot s).fuse = s.fuse ∧
    (resumeStreams slot s).modl = s.modl ∧ (resumeStreams slot s).power = s.power ∧
    (resumeStreams slot s).pages = s.pages ∧ (resumeStreams slot s).counters = s.counters ∧
    (resumeStreams slot s).tiers = s.tiers ∧ (resumeStreams slot s).dwt = s.dwt ∧
    (resumeStreams slot s).col = s.col ∧ (resumeStreams slot s).nets = s.nets ∧
    (resumeStreams slot s).sec = s.sec ∧ (resumeStreams slot s).rcv = s.rcv ∧ (resumeStreams slot s).mgt = s.mgt ∧
    (resumeStreams slot s).hif = s.hif := by
  simp [resumeStreams]

@[simp] theorem stepEight_same (slot encl : Nat) (s : State) :
    (stepEight slot encl s).pending = s.pending ∧ (stepEight slot encl s).ticks = s.ticks ∧
    (stepEight slot encl s).coldResets = s.coldResets ∧ (stepEight slot encl s).fuse = s.fuse ∧
    (stepEight slot encl s).power = s.power ∧ (stepEight slot encl s).pages = s.pages ∧
    (stepEight slot encl s).counters = s.counters ∧ (stepEight slot encl s).dwt = s.dwt ∧
    (stepEight slot encl s).col = s.col ∧ (stepEight slot encl s).nets = s.nets ∧
    (stepEight slot encl s).hif = s.hif := by
  unfold stepEight
  (repeat' split) <;> simp

@[simp] theorem resumeCtx_same (slot encl : Nat) (s : State) :
    (resumeCtx slot encl s).s.pending = s.pending ∧ (resumeCtx slot encl s).s.ticks = s.ticks ∧
    (resumeCtx slot encl s).s.coldResets = s.coldResets ∧ (resumeCtx slot encl s).s.fuse = s.fuse ∧
    (resumeCtx slot encl s).s.power = s.power ∧ (resumeCtx slot encl s).s.pages = s.pages ∧
    (resumeCtx slot encl s).s.counters = s.counters ∧ (resumeCtx slot encl s).s.dwt = s.dwt ∧
    (resumeCtx slot encl s).s.col = s.col ∧ (resumeCtx slot encl s).s.nets = s.nets ∧
    (resumeCtx slot encl s).s.hif = s.hif := by
  unfold resumeCtx
  dsimp only
  (repeat' split) <;> simp

@[simp] theorem switchOut_same (slot : Nat) (preempt started : Bool) (s : State) :
    (switchOut slot preempt started s).s.pending = s.pending ∧
    (switchOut slot preempt started s).s.ticks = s.ticks ∧
    (switchOut slot preempt started s).s.coldResets = s.coldResets ∧
    (switchOut slot preempt started s).s.fuse = s.fuse ∧ (switchOut slot preempt started s).s.power = s.power ∧
    (switchOut slot preempt started s).s.pages = s.pages ∧
    (switchOut slot preempt started s).s.counters = s.counters ∧ (switchOut slot preempt started s).s.dwt = s.dwt ∧
    (switchOut slot preempt started s).s.col = s.col ∧ (switchOut slot preempt started s).s.nets = s.nets ∧
    (switchOut slot preempt started s).s.hif = s.hif := by
  unfold switchOut
  dsimp only
  (repeat' split) <;> simp

@[simp] theorem switchIn_same (slot encl : Nat) (started : Bool) (s : State) :
    (switchIn slot encl started s).s.pending = s.pending ∧ (switchIn slot encl started s).s.out = s.out ∧
    (switchIn slot encl started s).s.ticks = s.ticks ∧ (switchIn slot encl started s).s.coldResets = s.coldResets ∧
    (switchIn slot encl started s).s.fuse = s.fuse ∧ (switchIn slot encl started s).s.modl = s.modl ∧
    (switchIn slot encl started s).s.power = s.power ∧ (switchIn slot encl started s).s.pages = s.pages ∧
    (switchIn slot encl started s).s.counters = s.counters ∧ (switchIn slot encl started s).s.col = s.col ∧
    (switchIn slot encl started s).s.sec = s.sec ∧ (switchIn slot encl started s).s.mgt = s.mgt ∧
    (switchIn slot encl started s).s.hif = s.hif := by
  unfold switchIn
  dsimp only
  (repeat' split) <;> simp

@[simp] theorem dwtPost_same (slot : Nat) (e : BitVec 512) (s : State) :
    (dwtPost slot e s).s.pending = s.pending ∧ (dwtPost slot e s).s.ticks = s.ticks ∧
    (dwtPost slot e s).s.coldResets = s.coldResets ∧ (dwtPost slot e s).s.fuse = s.fuse ∧
    (dwtPost slot e s).s.power = s.power ∧ (dwtPost slot e s).s.cores = s.cores ∧
    (dwtPost slot e s).s.ctxs = s.ctxs ∧ (dwtPost slot e s).s.pages = s.pages ∧
    (dwtPost slot e s).s.counters = s.counters ∧ (dwtPost slot e s).s.col = s.col ∧
    (dwtPost slot e s).s.nets = s.nets ∧ (dwtPost slot e s).s.rcv = s.rcv ∧ (dwtPost slot e s).s.hif = s.hif := by
  unfold dwtPost
  dsimp only
  (repeat' split) <;> simp

@[simp] theorem reloadCtx_same (slot va : Nat) (s : State) :
    (reloadCtx slot va s).s.pending = s.pending ∧ (reloadCtx slot va s).s.fresh = s.fresh ∧
    (reloadCtx slot va s).s.out = s.out ∧ (reloadCtx slot va s).s.ticks = s.ticks ∧
    (reloadCtx slot va s).s.coldResets = s.coldResets ∧ (reloadCtx slot va s).s.fuse = s.fuse ∧
    (reloadCtx slot va s).s.modl = s.modl ∧ (reloadCtx slot va s).s.power = s.power ∧
    (reloadCtx slot va s).s.cores = s.cores ∧ (reloadCtx slot va s).s.pages = s.pages ∧
    (reloadCtx slot va s).s.counters = s.counters ∧ (reloadCtx slot va s).s.tiers = s.tiers ∧
    (reloadCtx slot va s).s.dwt = s.dwt ∧ (reloadCtx slot va s).s.col = s.col ∧
    (reloadCtx slot va s).s.nets = s.nets ∧ (reloadCtx slot va s).s.sec = s.sec ∧
    (reloadCtx slot va s).s.rcv = s.rcv ∧ (reloadCtx slot va s).s.mgt = s.mgt ∧ (reloadCtx slot va s).s.hif = s.hif := by
  unfold reloadCtx
  dsimp only
  (repeat' split) <;> simp

@[simp] theorem ctxLoad_same (slot encl va : Nat) (s : State) :
    (ctxLoad slot encl va s).s.pending = s.pending ∧ (ctxLoad slot encl va s).s.ticks = s.ticks ∧
    (ctxLoad slot encl va s).s.coldResets = s.coldResets ∧ (ctxLoad slot encl va s).s.fuse = s.fuse ∧
    (ctxLoad slot encl va s).s.power = s.power ∧ (ctxLoad slot encl va s).s.cores = s.cores ∧
    (ctxLoad slot encl va s).s.pages = s.pages ∧ (ctxLoad slot encl va s).s.dwt = s.dwt ∧
    (ctxLoad slot encl va s).s.col = s.col ∧ (ctxLoad slot encl va s).s.nets = s.nets ∧
    (ctxLoad slot encl va s).s.rcv = s.rcv ∧ (ctxLoad slot encl va s).s.hif = s.hif := by
  unfold ctxLoad
  dsimp only
  (repeat' split) <;> simp

@[simp] theorem controlCommand_same (slot encl : Nat) (x : Posted) (s : State) :
    (controlCommand slot encl x s).s.pending = s.pending ∧ (controlCommand slot encl x s).s.ticks = s.ticks ∧
    (controlCommand slot encl x s).s.coldResets = s.coldResets ∧ (controlCommand slot encl x s).s.fuse = s.fuse ∧
    (controlCommand slot encl x s).s.power = s.power ∧ (controlCommand slot encl x s).s.pages = s.pages ∧
    (controlCommand slot encl x s).s.col = s.col := by
  unfold controlCommand
  dsimp only
  (repeat' split) <;> simp

@[simp] theorem runPosted_same (mer : Bool) (slot : Nat) (x : Posted) (s : State) :
    (runPosted mer slot x s).s.pending = s.pending ∧ (runPosted mer slot x s).s.ticks = s.ticks ∧
    (runPosted mer slot x s).s.coldResets = s.coldResets ∧ (runPosted mer slot x s).s.fuse = s.fuse ∧
    (runPosted mer slot x s).s.power = s.power ∧ (runPosted mer slot x s).s.pages = s.pages ∧
    (runPosted mer slot x s).s.col = s.col := by
  unfold runPosted
  (repeat' split) <;> simp

@[simp] theorem pumpSlot_same (mer : Bool) (slot : Nat) (a1 : Nat) (s : State) :
    (pumpSlot mer slot a1 s).pending = s.pending ∧ (pumpSlot mer slot a1 s).ticks = s.ticks ∧
    (pumpSlot mer slot a1 s).coldResets = s.coldResets ∧ (pumpSlot mer slot a1 s).fuse = s.fuse ∧
    (pumpSlot mer slot a1 s).power = s.power ∧ (pumpSlot mer slot a1 s).col = s.col := by
  induction a1 generalizing s with
  | zero => simp [pumpSlot]
  | succ n ih =>
    simp only [pumpSlot]
    (repeat' split) <;> simp [ih]

@[simp] theorem pumpRounds_same (mer : Option Nat) (a1 : Nat) (s : State) :
    (pumpRounds mer a1 s).pending = s.pending ∧ (pumpRounds mer a1 s).ticks = s.ticks ∧
    (pumpRounds mer a1 s).coldResets = s.coldResets ∧ (pumpRounds mer a1 s).fuse = s.fuse ∧
    (pumpRounds mer a1 s).power = s.power ∧ (pumpRounds mer a1 s).col = s.col := by
  induction a1 generalizing s with
  | zero => simp [pumpRounds]
  | succ n ih =>
    simp only [pumpRounds]
    (repeat' split) <;> simp [ih]

@[simp] theorem State.pumpAt_same (s : State) (mer : Option Nat) :
    (State.pumpAt s mer).pending = s.pending ∧ (State.pumpAt s mer).ticks = s.ticks ∧
    (State.pumpAt s mer).coldResets = s.coldResets ∧ (State.pumpAt s mer).fuse = s.fuse ∧
    (State.pumpAt s mer).power = s.power ∧ (State.pumpAt s mer).col = s.col := by
  simp [State.pumpAt]

@[simp] theorem State.close_same (s t : State) :
    (State.close s t).pending = t.pending ∧ (State.close s t).ticks = t.ticks ∧
    (State.close s t).coldResets = t.coldResets ∧ (State.close s t).fuse = t.fuse ∧
    (State.close s t).power = t.power ∧ (State.close s t).col = t.col := by
  simp [State.close]

@[simp] theorem postAt_same (slot : Nat) (p : Post) (control : Bool) (e : BitVec 512) (recs : List HostRec) (abort : Bool) (s : State) :
    (postAt slot p control e recs abort s).pending = s.pending ∧
    (postAt slot p control e recs abort s).ticks = s.ticks ∧
    (postAt slot p control e recs abort s).coldResets = s.coldResets ∧
    (postAt slot p control e recs abort s).fuse = s.fuse ∧ (postAt slot p control e recs abort s).power = s.power ∧
    (postAt slot p control e recs abort s).cores = s.cores ∧ (postAt slot p control e recs abort s).ctxs = s.ctxs ∧
    (postAt slot p control e recs abort s).counters = s.counters ∧
    (postAt slot p control e recs abort s).tiers = s.tiers ∧ (postAt slot p control e recs abort s).dwt = s.dwt ∧
    (postAt slot p control e recs abort s).col = s.col ∧ (postAt slot p control e recs abort s).nets = s.nets ∧
    (postAt slot p control e recs abort s).sec = s.sec ∧ (postAt slot p control e recs abort s).rcv = s.rcv := by
  simp [postAt]

@[simp] theorem post_same (p : Post) (control : Bool) (op : Nat) (recs : List HostRec) (abort : Bool) (s : State) :
    (post p control op recs abort s).pending = s.pending ∧ (post p control op recs abort s).ticks = s.ticks ∧
    (post p control op recs abort s).coldResets = s.coldResets ∧ (post p control op recs abort s).fuse = s.fuse ∧
    (post p control op recs abort s).power = s.power ∧ (post p control op recs abort s).col = s.col := by
  unfold post
  (repeat' split) <;> simp

@[simp] theorem autoRestore_same (slot : Nat) (s : State) :
    (autoRestore slot s).pending = s.pending ∧ (autoRestore slot s).ticks = s.ticks ∧
    (autoRestore slot s).coldResets = s.coldResets ∧ (autoRestore slot s).fuse = s.fuse ∧
    (autoRestore slot s).power = s.power ∧ (autoRestore slot s).pages = s.pages ∧
    (autoRestore slot s).col = s.col ∧ (autoRestore slot s).hif = s.hif := by
  unfold autoRestore
  dsimp only
  (repeat' split) <;> simp

end Sys2Proof.Machine
end

