-- ==== Sys2Proof/Laws/MemHost.lean ====
section
/-! SUPPORT. Memory keeps its canonical form through the definitions of Machine/Host.lean. -/

namespace Sys2Proof.Machine

@[simp] theorem acceptRec_mem (slot : Nat) (r : HostRec) (s : State)
    (hm : Memory.wf s.tiers.mem = true) :
    Memory.wf (acceptRec slot r s).tiers.mem = true := by
  simp (maxDischargeDepth := 12) [-State.ite_tiers, acceptRec, hm]

@[simp] theorem takeRecs_mem (slot encl : Nat) (abort : Bool) (l : List HostRec) (left got : Nat) (s : State)
    (hm : Memory.wf s.tiers.mem = true) : Memory.wf (takeRecs slot encl abort l left got s).1.tiers.mem = true := by
  induction l generalizing left got s with
  | nil => unfold takeRecs; (repeat' split) <;> simp (maxDischargeDepth := 12) [hm]
  | cons r l ih =>
    unfold takeRecs
    (repeat' split) <;> first | (simp (maxDischargeDepth := 12) [hm]; done) | exact ih _ _ _ (by simp (maxDischargeDepth := 12) [hm])

@[simp] theorem dmaIn_mem (slot encl : Nat) (e : BitVec 512) (recs : List HostRec) (abort started : Bool) (s : State)
    (hm : Memory.wf s.tiers.mem = true) :
    Memory.wf (dmaIn slot encl e recs abort started s).s.tiers.mem = true := by
  unfold dmaIn
  (repeat' split) <;> simp (maxDischargeDepth := 12) [-State.ite_tiers, hm]

@[simp] theorem sealRecs_mem (slot encl : Nat) (a1 : Nat) (a2 : Nat) (a3 : Nat) (a4 : Nat) (a5 : Nat) (s : State)
    (hm : Memory.wf s.tiers.mem = true) :
    Memory.wf (sealRecs slot encl a1 a2 a3 a4 a5 s).1.tiers.mem = true := by
  induction a1 generalizing a2 a3 a4 a5 s with
  | zero => simp (maxDischargeDepth := 12) [-State.ite_tiers, sealRecs, hm]
  | succ n ih =>
    simp only [sealRecs]
    (repeat' split) <;> simp (maxDischargeDepth := 12) [-State.ite_tiers, ih, hm]

@[simp] theorem dmaOut_mem (slot encl : Nat) (e : BitVec 512) (started : Bool) (s : State)
    (hm : Memory.wf s.tiers.mem = true) :
    Memory.wf (dmaOut slot encl e started s).s.tiers.mem = true := by
  unfold dmaOut
  dsimp only
  (repeat' split) <;> simp (maxDischargeDepth := 12) [-State.ite_tiers, hm]

@[simp] theorem stepEight_mem (slot encl : Nat) (s : State)
    (hm : Memory.wf s.tiers.mem = true) :
    Memory.wf (stepEight slot encl s).tiers.mem = true := by
  unfold stepEight
  (repeat' split) <;> simp (maxDischargeDepth := 12) [-State.ite_tiers, hm]

@[simp] theorem resumeCtx_mem (slot encl : Nat) (s : State)
    (hm : Memory.wf s.tiers.mem = true) :
    Memory.wf (resumeCtx slot encl s).s.tiers.mem = true := by
  unfold resumeCtx
  dsimp only
  (repeat' split) <;> simp (maxDischargeDepth := 12) [-State.ite_tiers, hm]

@[simp] theorem switchOut_mem (slot : Nat) (preempt started : Bool) (s : State)
    (hm : Memory.wf s.tiers.mem = true) :
    Memory.wf (switchOut slot preempt started s).s.tiers.mem = true := by
  unfold switchOut
  dsimp only
  (repeat' split) <;> simp (maxDischargeDepth := 12) [-State.ite_tiers, hm]

@[simp] theorem switchIn_mem (slot encl : Nat) (started : Bool) (s : State)
    (hm : Memory.wf s.tiers.mem = true) :
    Memory.wf (switchIn slot encl started s).s.tiers.mem = true := by
  unfold switchIn
  dsimp only
  (repeat' split) <;> simp (maxDischargeDepth := 12) [-State.ite_tiers, hm]

@[simp] theorem dwtPost_mem (slot : Nat) (e : BitVec 512) (s : State)
    (hm : Memory.wf s.tiers.mem = true) :
    Memory.wf (dwtPost slot e s).s.tiers.mem = true := by
  unfold dwtPost
  dsimp only
  (repeat' split) <;> simp (maxDischargeDepth := 12) [-State.ite_tiers, hm]

@[simp] theorem ctxLoad_mem (slot encl va : Nat) (s : State)
    (hm : Memory.wf s.tiers.mem = true) :
    Memory.wf (ctxLoad slot encl va s).s.tiers.mem = true := by
  unfold ctxLoad
  dsimp only
  (repeat' split) <;> simp (maxDischargeDepth := 12) [-State.ite_tiers, hm]

@[simp] theorem controlCommand_mem (slot encl : Nat) (x : Posted) (s : State)
    (hm : Memory.wf s.tiers.mem = true) :
    Memory.wf (controlCommand slot encl x s).s.tiers.mem = true := by
  unfold controlCommand
  dsimp only
  (repeat' split) <;> simp (maxDischargeDepth := 12) [-State.ite_tiers, hm]

@[simp] theorem runPosted_mem (mer : Bool) (slot : Nat) (x : Posted) (s : State)
    (hm : Memory.wf s.tiers.mem = true) :
    Memory.wf (runPosted mer slot x s).s.tiers.mem = true := by
  unfold runPosted
  (repeat' split) <;> simp (maxDischargeDepth := 12) [-State.ite_tiers, hm]

@[simp] theorem pumpSlot_mem (mer : Bool) (slot : Nat) (a1 : Nat) (s : State)
    (hm : Memory.wf s.tiers.mem = true) :
    Memory.wf (pumpSlot mer slot a1 s).tiers.mem = true := by
  induction a1 generalizing s with
  | zero => simp (maxDischargeDepth := 12) [-State.ite_tiers, pumpSlot, hm]
  | succ n ih =>
    simp only [pumpSlot]
    (repeat' split) <;> simp (maxDischargeDepth := 12) [-State.ite_tiers, ih, hm]

@[simp] theorem pumpRounds_mem (mer : Option Nat) (n : Nat) (s : State) (hm : Memory.wf s.tiers.mem = true) :
    Memory.wf (pumpRounds mer n s).tiers.mem = true := by
  induction n generalizing s with
  | zero => exact hm
  | succ n ih =>
    exact ih _ (Memory.wf_fold _ _ _ hm fun u k hu => pumpSlot_mem _ _ _ _ hu)

@[simp] theorem State.pumpAt_mem (s : State) (mer : Option Nat)
    (hm : Memory.wf s.tiers.mem = true) :
    Memory.wf (State.pumpAt s mer).tiers.mem = true := by
  simp (maxDischargeDepth := 12) [-State.ite_tiers, State.pumpAt, hm]

@[simp] theorem State.close_mem (s t : State)
    (hm : Memory.wf t.tiers.mem = true) :
    Memory.wf (State.close s t).tiers.mem = true := by
  simp (maxDischargeDepth := 12) [-State.ite_tiers, State.close, hm]

@[simp] theorem post_mem (p : Post) (control : Bool) (op : Nat) (recs : List HostRec) (abort : Bool) (s : State)
    (hm : Memory.wf s.tiers.mem = true) :
    Memory.wf (post p control op recs abort s).tiers.mem = true := by
  unfold post
  (repeat' split) <;> simp (maxDischargeDepth := 12) [-State.ite_tiers, hm]

@[simp] theorem autoRestore_mem (slot : Nat) (s : State)
    (hm : Memory.wf s.tiers.mem = true) :
    Memory.wf (autoRestore slot s).tiers.mem = true := by
  unfold autoRestore
  dsimp only
  (repeat' split) <;> simp (maxDischargeDepth := 12) [-State.ite_tiers, hm]

end Sys2Proof.Machine
end

