-- ==== Sys2Proof/Laws/SameSecurity.lean ====
section
/-! SUPPORT. What the definitions of Machine/Security.lean leave alone. -/

namespace Sys2Proof.Machine

@[simp] theorem finishAt_same (w : ReqPlace) (r : SecReq) (o : SecOut) :
    (finishAt w r o).pending = o.s.pending ∧ (finishAt w r o).fresh = o.s.fresh ∧
    (finishAt w r o).ticks = o.s.ticks ∧ (finishAt w r o).coldResets = o.s.coldResets ∧
    (finishAt w r o).fuse = o.s.fuse ∧ (finishAt w r o).modl = o.s.modl ∧ (finishAt w r o).power = o.s.power ∧
    (finishAt w r o).cores = o.s.cores ∧ (finishAt w r o).ctxs = o.s.ctxs ∧ (finishAt w r o).pages = o.s.pages ∧
    (finishAt w r o).counters = o.s.counters ∧ (finishAt w r o).tiers = o.s.tiers ∧
    (finishAt w r o).dwt = o.s.dwt ∧ (finishAt w r o).col = o.s.col ∧ (finishAt w r o).nets = o.s.nets ∧
    (finishAt w r o).rcv = o.s.rcv ∧ (finishAt w r o).mgt = o.s.mgt ∧ (finishAt w r o).hif = o.s.hif := by
  simp [finishAt]

@[simp] theorem finishReq_same (r : SecReq) (o : SecOut) :
    (finishReq r o).pending = o.s.pending ∧ (finishReq r o).fresh = o.s.fresh ∧ (finishReq r o).ticks = o.s.ticks ∧
    (finishReq r o).coldResets = o.s.coldResets ∧ (finishReq r o).fuse = o.s.fuse ∧
    (finishReq r o).modl = o.s.modl ∧ (finishReq r o).power = o.s.power ∧ (finishReq r o).cores = o.s.cores ∧
    (finishReq r o).ctxs = o.s.ctxs ∧ (finishReq r o).pages = o.s.pages ∧ (finishReq r o).counters = o.s.counters ∧
    (finishReq r o).tiers = o.s.tiers ∧ (finishReq r o).dwt = o.s.dwt ∧ (finishReq r o).col = o.s.col ∧
    (finishReq r o).nets = o.s.nets ∧ (finishReq r o).rcv = o.s.rcv ∧ (finishReq r o).mgt = o.s.mgt ∧
    (finishReq r o).hif = o.s.hif := by
  simp [finishReq]

@[simp] theorem holdReq_same (b : SecBusy) (s : State) :
    (holdReq b s).pending = s.pending ∧ (holdReq b s).fresh = s.fresh ∧ (holdReq b s).out = s.out ∧
    (holdReq b s).ticks = s.ticks ∧ (holdReq b s).coldResets = s.coldResets ∧ (holdReq b s).fuse = s.fuse ∧
    (holdReq b s).modl = s.modl ∧ (holdReq b s).power = s.power ∧ (holdReq b s).cores = s.cores ∧
    (holdReq b s).ctxs = s.ctxs ∧ (holdReq b s).pages = s.pages ∧ (holdReq b s).counters = s.counters ∧
    (holdReq b s).tiers = s.tiers ∧ (holdReq b s).dwt = s.dwt ∧ (holdReq b s).col = s.col ∧
    (holdReq b s).nets = s.nets ∧ (holdReq b s).rcv = s.rcv ∧ (holdReq b s).mgt = s.mgt ∧ (holdReq b s).hif = s.hif := by
  simp [holdReq]

@[simp] theorem endReq_same (r : SecReq) (o : SecOut) :
    (endReq r o).pending = o.s.pending ∧ (endReq r o).fresh = o.s.fresh ∧ (endReq r o).ticks = o.s.ticks ∧
    (endReq r o).coldResets = o.s.coldResets ∧ (endReq r o).fuse = o.s.fuse ∧ (endReq r o).modl = o.s.modl ∧
    (endReq r o).power = o.s.power ∧ (endReq r o).cores = o.s.cores ∧ (endReq r o).ctxs = o.s.ctxs ∧
    (endReq r o).pages = o.s.pages ∧ (endReq r o).counters = o.s.counters ∧ (endReq r o).tiers = o.s.tiers ∧
    (endReq r o).dwt = o.s.dwt ∧ (endReq r o).col = o.s.col ∧ (endReq r o).nets = o.s.nets ∧
    (endReq r o).rcv = o.s.rcv ∧ (endReq r o).mgt = o.s.mgt ∧ (endReq r o).hif = o.s.hif := by
  simp [endReq]

@[simp] theorem endLoad_same (s : State) :
    (endLoad s).pending = s.pending ∧ (endLoad s).ticks = s.ticks ∧ (endLoad s).coldResets = s.coldResets ∧
    (endLoad s).fuse = s.fuse ∧ (endLoad s).ctxs = s.ctxs ∧ (endLoad s).pages = s.pages ∧
    (endLoad s).counters = s.counters ∧ (endLoad s).rcv = s.rcv := by
  unfold endLoad
  (repeat' split) <;> simp

/-- A request keeps of these what its own part and what a refusal does keep. -/
theorem secRequest_same (r : SecReq) (inOk : Bool) (outNeed : Nat) (serves : Bool) (own : State → SecOut) (s : State)
    (refused : State → State) (h : ∀ u, (own u).s.pending = u.pending ∧ (own u).s.ticks = u.ticks ∧ (own u).s.coldResets = u.coldResets ∧ (own u).s.fuse = u.fuse)
    (hr : ∀ u, (refused u).pending = u.pending ∧ (refused u).ticks = u.ticks ∧ (refused u).coldResets = u.coldResets ∧ (refused u).fuse = u.fuse) :
    (secRequest r inOk outNeed serves own s refused).pending = s.pending ∧
    (secRequest r inOk outNeed serves own s refused).ticks = s.ticks ∧
    (secRequest r inOk outNeed serves own s refused).coldResets = s.coldResets ∧
    (secRequest r inOk outNeed serves own s refused).fuse = s.fuse := by
  unfold secRequest
  dsimp only
  (repeat' split) <;> simp [h, hr]

@[simp] theorem getReport_same (r : SecReq) (kind slot : Nat) (nonce : BitVec 384) (s : State) :
    (getReport r kind slot nonce s).s.pending = s.pending ∧ (getReport r kind slot nonce s).s.fresh = s.fresh ∧
    (getReport r kind slot nonce s).s.out = s.out ∧ (getReport r kind slot nonce s).s.ticks = s.ticks ∧
    (getReport r kind slot nonce s).s.coldResets = s.coldResets ∧ (getReport r kind slot nonce s).s.fuse = s.fuse ∧
    (getReport r kind slot nonce s).s.modl = s.modl ∧ (getReport r kind slot nonce s).s.power = s.power ∧
    (getReport r kind slot nonce s).s.cores = s.cores ∧ (getReport r kind slot nonce s).s.ctxs = s.ctxs ∧
    (getReport r kind slot nonce s).s.pages = s.pages ∧ (getReport r kind slot nonce s).s.counters = s.counters ∧
    (getReport r kind slot nonce s).s.tiers = s.tiers ∧ (getReport r kind slot nonce s).s.dwt = s.dwt ∧
    (getReport r kind slot nonce s).s.col = s.col ∧ (getReport r kind slot nonce s).s.nets = s.nets ∧
    (getReport r kind slot nonce s).s.sec = s.sec ∧ (getReport r kind slot nonce s).s.rcv = s.rcv ∧
    (getReport r kind slot nonce s).s.mgt = s.mgt ∧ (getReport r kind slot nonce s).s.hif = s.hif := by
  unfold getReport
  dsimp only
  (repeat' split) <;> simp

@[simp] theorem loadImage_same (r : SecReq) (image : List Byte) (signer : BitVec 768) (s : State) :
    (loadImage r image signer s).s.pending = s.pending ∧ (loadImage r image signer s).s.ticks = s.ticks ∧
    (loadImage r image signer s).s.coldResets = s.coldResets ∧ (loadImage r image signer s).s.fuse = s.fuse ∧
    (loadImage r image signer s).s.power = s.power ∧ (loadImage r image signer s).s.cores = s.cores ∧
    (loadImage r image signer s).s.ctxs = s.ctxs ∧ (loadImage r image signer s).s.pages = s.pages ∧
    (loadImage r image signer s).s.counters = s.counters ∧ (loadImage r image signer s).s.tiers = s.tiers ∧
    (loadImage r image signer s).s.dwt = s.dwt ∧ (loadImage r image signer s).s.col = s.col ∧
    (loadImage r image signer s).s.nets = s.nets ∧ (loadImage r image signer s).s.rcv = s.rcv ∧
    (loadImage r image signer s).s.hif = s.hif := by
  unfold loadImage
  dsimp only
  (repeat' split) <;> simp

@[simp] theorem keyImport_same (k : Nat) (b : ImportBlob) (s : State) :
    (keyImport k b s).s.pending = s.pending ∧ (keyImport k b s).s.ticks = s.ticks ∧
    (keyImport k b s).s.coldResets = s.coldResets ∧ (keyImport k b s).s.fuse = s.fuse ∧
    (keyImport k b s).s.power = s.power ∧ (keyImport k b s).s.cores = s.cores ∧
    (keyImport k b s).s.pages = s.pages ∧ (keyImport k b s).s.counters = s.counters ∧
    (keyImport k b s).s.tiers = s.tiers ∧ (keyImport k b s).s.dwt = s.dwt ∧ (keyImport k b s).s.col = s.col ∧
    (keyImport k b s).s.nets = s.nets ∧ (keyImport k b s).s.rcv = s.rcv ∧ (keyImport k b s).s.hif = s.hif := by
  unfold keyImport
  dsimp only
  (repeat' split) <;> simp

@[simp] theorem pubInstall_same (k : Nat) (input : List Byte) (s : State) :
    (pubInstall k input s).s.pending = s.pending ∧ (pubInstall k input s).s.ticks = s.ticks ∧
    (pubInstall k input s).s.coldResets = s.coldResets ∧ (pubInstall k input s).s.fuse = s.fuse ∧
    (pubInstall k input s).s.power = s.power ∧ (pubInstall k input s).s.cores = s.cores ∧
    (pubInstall k input s).s.ctxs = s.ctxs ∧ (pubInstall k input s).s.pages = s.pages ∧
    (pubInstall k input s).s.counters = s.counters ∧ (pubInstall k input s).s.tiers = s.tiers ∧
    (pubInstall k input s).s.dwt = s.dwt ∧ (pubInstall k input s).s.col = s.col ∧
    (pubInstall k input s).s.nets = s.nets ∧ (pubInstall k input s).s.rcv = s.rcv ∧
    (pubInstall k input s).s.hif = s.hif := by
  unfold pubInstall
  dsimp only
  (repeat' split) <;> simp

@[simp] theorem opkeyRefuse_same (k : Nat) (s : State) :
    (opkeyRefuse k s).s.pending = s.pending ∧ (opkeyRefuse k s).s.ticks = s.ticks ∧
    (opkeyRefuse k s).s.coldResets = s.coldResets ∧ (opkeyRefuse k s).s.fuse = s.fuse ∧
    (opkeyRefuse k s).s.power = s.power ∧ (opkeyRefuse k s).s.cores = s.cores ∧ (opkeyRefuse k s).s.ctxs = s.ctxs ∧
    (opkeyRefuse k s).s.pages = s.pages ∧ (opkeyRefuse k s).s.counters = s.counters ∧
    (opkeyRefuse k s).s.tiers = s.tiers ∧ (opkeyRefuse k s).s.dwt = s.dwt ∧ (opkeyRefuse k s).s.col = s.col ∧
    (opkeyRefuse k s).s.nets = s.nets ∧ (opkeyRefuse k s).s.rcv = s.rcv ∧ (opkeyRefuse k s).s.hif = s.hif := by
  simp [opkeyRefuse]

@[simp] theorem opkeyAdd_same (seq : W64) (key signer : BitVec 768) (s : State) :
    (opkeyAdd seq key signer s).s.pending = s.pending ∧ (opkeyAdd seq key signer s).s.ticks = s.ticks ∧
    (opkeyAdd seq key signer s).s.coldResets = s.coldResets ∧ (opkeyAdd seq key signer s).s.fuse = s.fuse ∧
    (opkeyAdd seq key signer s).s.power = s.power ∧ (opkeyAdd seq key signer s).s.cores = s.cores ∧
    (opkeyAdd seq key signer s).s.ctxs = s.ctxs ∧ (opkeyAdd seq key signer s).s.pages = s.pages ∧
    (opkeyAdd seq key signer s).s.counters = s.counters ∧ (opkeyAdd seq key signer s).s.tiers = s.tiers ∧
    (opkeyAdd seq key signer s).s.dwt = s.dwt ∧ (opkeyAdd seq key signer s).s.col = s.col ∧
    (opkeyAdd seq key signer s).s.nets = s.nets ∧ (opkeyAdd seq key signer s).s.rcv = s.rcv ∧
    (opkeyAdd seq key signer s).s.hif = s.hif := by
  unfold opkeyAdd
  (repeat' split) <;> simp

@[simp] theorem opkeyRemove_same (seq : W64) (key signer : BitVec 768) (s : State) :
    (opkeyRemove seq key signer s).s.pending = s.pending ∧ (opkeyRemove seq key signer s).s.ticks = s.ticks ∧
    (opkeyRemove seq key signer s).s.coldResets = s.coldResets ∧ (opkeyRemove seq key signer s).s.fuse = s.fuse ∧
    (opkeyRemove seq key signer s).s.power = s.power ∧ (opkeyRemove seq key signer s).s.cores = s.cores ∧
    (opkeyRemove seq key signer s).s.ctxs = s.ctxs ∧ (opkeyRemove seq key signer s).s.pages = s.pages ∧
    (opkeyRemove seq key signer s).s.counters = s.counters ∧ (opkeyRemove seq key signer s).s.tiers = s.tiers ∧
    (opkeyRemove seq key signer s).s.dwt = s.dwt ∧ (opkeyRemove seq key signer s).s.col = s.col ∧
    (opkeyRemove seq key signer s).s.nets = s.nets ∧ (opkeyRemove seq key signer s).s.rcv = s.rcv ∧
    (opkeyRemove seq key signer s).s.hif = s.hif := by
  unfold opkeyRemove
  dsimp only
  (repeat' split) <;> simp

@[simp] theorem decommission_same (seq : W64) (signer : BitVec 768) (s : State) :
    (decommission seq signer s).s.pending = s.pending ∧ (decommission seq signer s).s.ticks = s.ticks ∧
    (decommission seq signer s).s.coldResets = s.coldResets ∧ (decommission seq signer s).s.fuse = s.fuse ∧
    (decommission seq signer s).s.ctxs = s.ctxs ∧ (decommission seq signer s).s.pages = s.pages ∧
    (decommission seq signer s).s.counters = s.counters ∧ (decommission seq signer s).s.col = s.col ∧
    (decommission seq signer s).s.rcv = s.rcv ∧ (decommission seq signer s).s.hif = s.hif := by
  unfold decommission
  (repeat' split) <;> simp

@[simp] theorem restoreSealed_same (s : State) (x : SealedKey) :
    (restoreSealed s x).pending = s.pending ∧ (restoreSealed s x).ticks = s.ticks ∧
    (restoreSealed s x).coldResets = s.coldResets ∧ (restoreSealed s x).fuse = s.fuse ∧
    (restoreSealed s x).power = s.power ∧ (restoreSealed s x).cores = s.cores ∧
    (restoreSealed s x).pages = s.pages ∧ (restoreSealed s x).counters = s.counters ∧
    (restoreSealed s x).tiers = s.tiers ∧ (restoreSealed s x).dwt = s.dwt ∧ (restoreSealed s x).col = s.col ∧
    (restoreSealed s x).nets = s.nets ∧ (restoreSealed s x).rcv = s.rcv ∧ (restoreSealed s x).hif = s.hif := by
  simp [restoreSealed]

@[simp] theorem zeroEncl_same (s : State) (e : EnclEntry) :
    (zeroEncl s e).pending = s.pending ∧ (zeroEncl s e).fresh = s.fresh ∧ (zeroEncl s e).out = s.out ∧
    (zeroEncl s e).ticks = s.ticks ∧ (zeroEncl s e).coldResets = s.coldResets ∧ (zeroEncl s e).fuse = s.fuse ∧
    (zeroEncl s e).modl = s.modl ∧ (zeroEncl s e).power = s.power ∧ (zeroEncl s e).cores = s.cores ∧
    (zeroEncl s e).ctxs = s.ctxs ∧ (zeroEncl s e).pages = s.pages ∧ (zeroEncl s e).counters = s.counters ∧
    (zeroEncl s e).dwt = s.dwt ∧ (zeroEncl s e).col = s.col ∧ (zeroEncl s e).nets = s.nets ∧
    (zeroEncl s e).sec = s.sec ∧ (zeroEncl s e).rcv = s.rcv ∧ (zeroEncl s e).mgt = s.mgt ∧
    (zeroEncl s e).hif = s.hif := by
  simp [zeroEncl]

@[simp] theorem zeroUnkeyed_same (s : State) :
    (zeroUnkeyed s).pending = s.pending ∧ (zeroUnkeyed s).fresh = s.fresh ∧ (zeroUnkeyed s).out = s.out ∧
    (zeroUnkeyed s).ticks = s.ticks ∧ (zeroUnkeyed s).coldResets = s.coldResets ∧ (zeroUnkeyed s).fuse = s.fuse ∧
    (zeroUnkeyed s).modl = s.modl ∧ (zeroUnkeyed s).power = s.power ∧ (zeroUnkeyed s).cores = s.cores ∧
    (zeroUnkeyed s).ctxs = s.ctxs ∧ (zeroUnkeyed s).pages = s.pages ∧ (zeroUnkeyed s).counters = s.counters ∧
    (zeroUnkeyed s).dwt = s.dwt ∧ (zeroUnkeyed s).col = s.col ∧ (zeroUnkeyed s).nets = s.nets ∧
    (zeroUnkeyed s).sec = s.sec ∧ (zeroUnkeyed s).rcv = s.rcv ∧ (zeroUnkeyed s).mgt = s.mgt ∧
    (zeroUnkeyed s).hif = s.hif := by
  simp [zeroUnkeyed]

@[simp] theorem zeroTiers_same (s : State) :
    (zeroTiers s).pending = s.pending ∧ (zeroTiers s).fresh = s.fresh ∧ (zeroTiers s).out = s.out ∧
    (zeroTiers s).ticks = s.ticks ∧ (zeroTiers s).coldResets = s.coldResets ∧ (zeroTiers s).fuse = s.fuse ∧
    (zeroTiers s).modl = s.modl ∧ (zeroTiers s).power = s.power ∧ (zeroTiers s).cores = s.cores ∧
    (zeroTiers s).ctxs = s.ctxs ∧ (zeroTiers s).pages = s.pages ∧ (zeroTiers s).counters = s.counters ∧
    (zeroTiers s).dwt = s.dwt ∧ (zeroTiers s).col = s.col ∧ (zeroTiers s).nets = s.nets ∧
    (zeroTiers s).sec = s.sec ∧ (zeroTiers s).rcv = s.rcv ∧ (zeroTiers s).mgt = s.mgt ∧ (zeroTiers s).hif = s.hif := by
  simp [zeroTiers]

@[simp] theorem loadStored_same (s : State) :
    (loadStored s).pending = s.pending ∧ (loadStored s).ticks = s.ticks ∧
    (loadStored s).coldResets = s.coldResets ∧ (loadStored s).fuse = s.fuse ∧ (loadStored s).pages = s.pages ∧
    (loadStored s).counters = s.counters ∧ (loadStored s).rcv = s.rcv := by
  unfold loadStored
  (repeat' split) <;> simp

end Sys2Proof.Machine
end

