-- ==== Sys2Proof/Laws/MemSecurity.lean ====
section
/-! SUPPORT. Memory keeps its canonical form through the definitions of Machine/Security.lean. -/

namespace Sys2Proof.Machine

@[simp] theorem endLoad_mem (s : State)
    (hm : Memory.wf s.tiers.mem = true) :
    Memory.wf (endLoad s).tiers.mem = true := by
  unfold endLoad
  (repeat' split) <;> simp (maxDischargeDepth := 12) [-State.ite_tiers, hm]

theorem secRequest_mem (r : SecReq) (inOk : Bool) (outNeed : Nat) (serves : Bool) (own : State → SecOut) (s : State)
    (refused : State → State) (hm : Memory.wf s.tiers.mem = true) (h : ∀ u, Memory.wf u.tiers.mem = true → Memory.wf (own u).s.tiers.mem = true)
    (hr : ∀ u, Memory.wf u.tiers.mem = true → Memory.wf (refused u).tiers.mem = true) : Memory.wf (secRequest r inOk outNeed serves own s refused).tiers.mem = true := by
  unfold secRequest
  dsimp only
  (repeat' split) <;> simp (maxDischargeDepth := 12) [h, hr, hm]

@[simp] theorem decommission_mem (seq : W64) (signer : BitVec 768) (s : State)
    (hm : Memory.wf s.tiers.mem = true) :
    Memory.wf (decommission seq signer s).s.tiers.mem = true := by
  unfold decommission
  (repeat' split) <;> simp (maxDischargeDepth := 12) [-State.ite_tiers, hm]

@[simp] theorem zeroEncl_mem (s : State) (e : EnclEntry)
    (hm : Memory.wf s.tiers.mem = true) :
    Memory.wf (zeroEncl s e).tiers.mem = true := by
  simp +contextual (maxDischargeDepth := 12) [-State.ite_tiers, zeroEncl, hm]

@[simp] theorem zeroUnkeyed_mem (s : State)
    (hm : Memory.wf s.tiers.mem = true) :
    Memory.wf (zeroUnkeyed s).tiers.mem = true := by
  simp +contextual (maxDischargeDepth := 12) [-State.ite_tiers, zeroUnkeyed, hm]

@[simp] theorem zeroTiers_mem (s : State)
    (hm : Memory.wf s.tiers.mem = true) :
    Memory.wf (zeroTiers s).tiers.mem = true := by
  simp (maxDischargeDepth := 12) [-State.ite_tiers, zeroTiers, hm]

@[simp] theorem loadStored_mem (s : State)
    (hm : Memory.wf s.tiers.mem = true) :
    Memory.wf (loadStored s).tiers.mem = true := by
  unfold loadStored
  (repeat' split) <;> simp (maxDischargeDepth := 12) [-State.ite_tiers, hm]

end Sys2Proof.Machine
end

