-- ==== Sys2Proof/Laws/SameDwtRows.lean ====
section
/-! SUPPORT. What the definitions of Machine/DwtRows.lean leave alone. -/

namespace Sys2Proof.Machine

theorem dwtNop_same (q : Nat) (t : Started) (s : State) {z : State} (h : dwtNop q t s = some z) :
    z.pending = s.pending ∧ z.ticks = s.ticks ∧ z.coldResets = s.coldResets ∧ z.fuse = s.fuse ∧ z.power = s.power ∧
    z.cores = s.cores ∧ z.pages = s.pages ∧ z.col = s.col ∧ z.nets = s.nets ∧ z.hif = s.hif := by
  simp only [dwtNop] at h
  (repeat' split at h) <;> simp_all <;> (try subst h) <;> simp_all

/-- A message keeps of these what its own effect keeps. -/
theorem received_same (n : PortId) (f : RxFacts) (m : Msg) (typ : Nat) (run : Nat → State → State) (s : State)
    (h : ∀ cn u, (run cn u).pending = u.pending ∧ (run cn u).ticks = u.ticks ∧ (run cn u).coldResets = u.coldResets ∧ (run cn u).fuse = u.fuse ∧ (run cn u).power = u.power) :
    (received n f m typ run s).pending = s.pending ∧ (received n f m typ run s).ticks = s.ticks ∧
    (received n f m typ run s).coldResets = s.coldResets ∧ (received n f m typ run s).fuse = s.fuse ∧
    (received n f m typ run s).power = s.power := by
  unfold received
  dsimp only
  split <;> simp [h]

@[simp] theorem dataArrives_same (cn : Nat) (m : Msg) (s : State) :
    (dataArrives cn m s).pending = s.pending ∧ (dataArrives cn m s).ticks = s.ticks ∧
    (dataArrives cn m s).coldResets = s.coldResets ∧ (dataArrives cn m s).fuse = s.fuse ∧
    (dataArrives cn m s).power = s.power ∧ (dataArrives cn m s).cores = s.cores ∧
    (dataArrives cn m s).pages = s.pages ∧ (dataArrives cn m s).col = s.col ∧ (dataArrives cn m s).hif = s.hif := by
  simp [dataArrives]

end Sys2Proof.Machine
end

