-- ==== Sys2Proof/Laws/MemDwtRows.lean ====
section
/-! SUPPORT. Memory keeps its canonical form through the definitions of Machine/DwtRows.lean. -/

namespace Sys2Proof.Machine

theorem dwtNop_mem (q : Nat) (t : Started) (s : State) {z : State} (h : dwtNop q t s = some z)
    (hm : Memory.wf s.tiers.mem = true) :
    Memory.wf z.tiers.mem = true := by
  unfold dwtNop at h
  (repeat' split at h) <;> first | (cases h; done) | (injection h with h; subst h; simp (maxDischargeDepth := 12) [-State.ite_tiers, hm])

theorem received_mem (n : PortId) (f : RxFacts) (m : Msg) (typ : Nat) (run : Nat → State → State) (s : State)
    (hm : Memory.wf s.tiers.mem = true) (h : ∀ cn u, Memory.wf u.tiers.mem = true → Memory.wf (run cn u).tiers.mem = true) : Memory.wf (received n f m typ run s).tiers.mem = true := by
  unfold received
  dsimp only
  split <;> simp (maxDischargeDepth := 12) [h, hm]

@[simp] theorem dataArrives_mem (cn : Nat) (m : Msg) (s : State)
    (hm : Memory.wf s.tiers.mem = true) :
    Memory.wf (dataArrives cn m s).tiers.mem = true := by
  simp (maxDischargeDepth := 12) [-State.ite_tiers, dataArrives, hm]

end Sys2Proof.Machine
end

