-- ==== Sys2Proof/Laws/SameMeridian.lean ====
section
/-! SUPPORT. What the definitions of Machine/Meridian.lean leave alone. -/

namespace Sys2Proof.Machine

theorem carryMeridian_same (e : Env) {d : Done} (h : carryMeridian e = .ok d) :
    d.s.pending = e.s.pending ∧ d.s.fresh = e.s.fresh ∧ d.s.out = e.s.out ∧ d.s.ticks = e.s.ticks ∧
    d.s.coldResets = e.s.coldResets ∧ d.s.fuse = e.s.fuse ∧ d.s.modl = e.s.modl ∧ d.s.power = e.s.power ∧
    d.s.cores = e.s.cores ∧ d.s.ctxs = e.s.ctxs ∧ d.s.pages = e.s.pages ∧ d.s.counters = e.s.counters ∧
    d.s.tiers = e.s.tiers ∧ d.s.dwt = e.s.dwt ∧ d.s.col = e.s.col ∧ d.s.nets = e.s.nets ∧ d.s.sec = e.s.sec ∧
    d.s.rcv = e.s.rcv ∧ d.s.mgt = e.s.mgt ∧ d.s.hif = e.s.hif := by
  simp only [carryMeridian, bind, Except.bind, pure, Except.pure, failIf] at h
  (repeat' split at h) <;> simp_all <;> (try subst h) <;> simp_all

theorem carryHalt_same (e : Env) {d : Done} (h : carryHalt e = .ok d) :
    d.s.pending = e.s.pending ∧ d.s.fresh = e.s.fresh ∧ d.s.out = e.s.out ∧ d.s.ticks = e.s.ticks ∧
    d.s.coldResets = e.s.coldResets ∧ d.s.fuse = e.s.fuse ∧ d.s.modl = e.s.modl ∧ d.s.power = e.s.power ∧
    d.s.cores = e.s.cores ∧ d.s.ctxs = e.s.ctxs ∧ d.s.pages = e.s.pages ∧ d.s.counters = e.s.counters ∧
    d.s.tiers = e.s.tiers ∧ d.s.dwt = e.s.dwt ∧ d.s.col = e.s.col ∧ d.s.nets = e.s.nets ∧ d.s.sec = e.s.sec ∧
    d.s.rcv = e.s.rcv ∧ d.s.mgt = e.s.mgt ∧ d.s.hif = e.s.hif := by
  simp only [carryHalt, bind, Except.bind, pure, Except.pure, failIf] at h
  (repeat' split at h) <;> simp_all <;> (try subst h) <;> simp_all

@[simp] theorem foldLadder_same (slot : Nat) (s : State) :
    (foldLadder slot s).pending = s.pending ∧ (foldLadder slot s).fresh = s.fresh ∧
    (foldLadder slot s).out = s.out ∧ (foldLadder slot s).ticks = s.ticks ∧
    (foldLadder slot s).coldResets = s.coldResets ∧ (foldLadder slot s).fuse = s.fuse ∧
    (foldLadder slot s).modl = s.modl ∧ (foldLadder slot s).power = s.power ∧ (foldLadder slot s).cores = s.cores ∧
    (foldLadder slot s).pages = s.pages ∧ (foldLadder slot s).counters = s.counters ∧
    (foldLadder slot s).tiers = s.tiers ∧ (foldLadder slot s).dwt = s.dwt ∧ (foldLadder slot s).col = s.col ∧
    (foldLadder slot s).nets = s.nets ∧ (foldLadder slot s).sec = s.sec ∧ (foldLadder slot s).rcv = s.rcv ∧
    (foldLadder slot s).mgt = s.mgt ∧ (foldLadder slot s).hif = s.hif := by
  simp [foldLadder]

@[simp] theorem resetCores_same (slot : Nat) (s : State) :
    (resetCores slot s).pending = s.pending ∧ (resetCores slot s).fresh = s.fresh ∧
    (resetCores slot s).out = s.out ∧ (resetCores slot s).ticks = s.ticks ∧
    (resetCores slot s).coldResets = s.coldResets ∧ (resetCores slot s).fuse = s.fuse ∧
    (resetCores slot s).modl = s.modl ∧ (resetCores slot s).power = s.power ∧ (resetCores slot s).ctxs = s.ctxs ∧
    (resetCores slot s).pages = s.pages ∧ (resetCores slot s).counters = s.counters ∧
    (resetCores slot s).tiers = s.tiers ∧ (resetCores slot s).dwt = s.dwt ∧ (resetCores slot s).col = s.col ∧
    (resetCores slot s).nets = s.nets ∧ (resetCores slot s).sec = s.sec ∧ (resetCores slot s).rcv = s.rcv ∧
    (resetCores slot s).mgt = s.mgt ∧ (resetCores slot s).hif = s.hif := by
  simp [resetCores]

@[simp] theorem firstThree_same (slot : Nat) (s : State) :
    (firstThree slot s).pending = s.pending ∧ (firstThree slot s).ticks = s.ticks ∧
    (firstThree slot s).coldResets = s.coldResets ∧ (firstThree slot s).fuse = s.fuse ∧
    (firstThree slot s).power = s.power ∧ (firstThree slot s).pages = s.pages ∧
    (firstThree slot s).counters = s.counters ∧ (firstThree slot s).dwt = s.dwt ∧ (firstThree slot s).col = s.col ∧
    (firstThree slot s).nets = s.nets ∧ (firstThree slot s).hif = s.hif := by
  simp [firstThree]

@[simp] theorem contextDone_same (slot : Nat) (s : State) :
    (contextDone slot s).pending = s.pending ∧ (contextDone slot s).ticks = s.ticks ∧
    (contextDone slot s).coldResets = s.coldResets ∧ (contextDone slot s).fuse = s.fuse ∧
    (contextDone slot s).power = s.power ∧ (contextDone slot s).pages = s.pages ∧
    (contextDone slot s).counters = s.counters ∧ (contextDone slot s).dwt = s.dwt ∧
    (contextDone slot s).col = s.col ∧ (contextDone slot s).nets = s.nets ∧ (contextDone slot s).hif = s.hif := by
  simp [contextDone]

@[simp] theorem haltEnds_same (n : Nat) (s : State) :
    (haltEnds n s).pending = s.pending ∧ (haltEnds n s).ticks = s.ticks ∧
    (haltEnds n s).coldResets = s.coldResets ∧ (haltEnds n s).fuse = s.fuse ∧ (haltEnds n s).power = s.power ∧
    (haltEnds n s).pages = s.pages ∧ (haltEnds n s).counters = s.counters ∧ (haltEnds n s).dwt = s.dwt ∧
    (haltEnds n s).col = s.col ∧ (haltEnds n s).nets = s.nets ∧ (haltEnds n s).hif = s.hif := by
  unfold haltEnds
  (repeat' split) <;> simp

@[simp] theorem digestMismatch_same (slot : Nat) (s : State) :
    (digestMismatch slot s).pending = s.pending ∧ (digestMismatch slot s).ticks = s.ticks ∧
    (digestMismatch slot s).coldResets = s.coldResets ∧ (digestMismatch slot s).fuse = s.fuse ∧
    (digestMismatch slot s).power = s.power ∧ (digestMismatch slot s).cores = s.cores ∧
    (digestMismatch slot s).pages = s.pages ∧ (digestMismatch slot s).counters = s.counters ∧
    (digestMismatch slot s).tiers = s.tiers ∧ (digestMismatch slot s).dwt = s.dwt ∧
    (digestMismatch slot s).nets = s.nets ∧ (digestMismatch slot s).sec = s.sec ∧
    (digestMismatch slot s).rcv = s.rcv ∧ (digestMismatch slot s).hif = s.hif := by
  simp [digestMismatch]

@[simp] theorem compareBeacon_same (slot : Nat) (own digest : BitVec 384) (s : State) :
    (compareBeacon slot own digest s).pending = s.pending ∧ (compareBeacon slot own digest s).ticks = s.ticks ∧
    (compareBeacon slot own digest s).coldResets = s.coldResets ∧ (compareBeacon slot own digest s).fuse = s.fuse ∧
    (compareBeacon slot own digest s).power = s.power ∧ (compareBeacon slot own digest s).cores = s.cores ∧
    (compareBeacon slot own digest s).pages = s.pages ∧ (compareBeacon slot own digest s).counters = s.counters ∧
    (compareBeacon slot own digest s).tiers = s.tiers ∧ (compareBeacon slot own digest s).dwt = s.dwt ∧
    (compareBeacon slot own digest s).nets = s.nets ∧ (compareBeacon slot own digest s).sec = s.sec ∧
    (compareBeacon slot own digest s).rcv = s.rcv ∧ (compareBeacon slot own digest s).hif = s.hif := by
  simp [compareBeacon]

@[simp] theorem meetBeacons_same (slot : Nat) (step : W64) (d : BitVec 384) (s : State) :
    (meetBeacons slot step d s).pending = s.pending ∧ (meetBeacons slot step d s).ticks = s.ticks ∧
    (meetBeacons slot step d s).coldResets = s.coldResets ∧ (meetBeacons slot step d s).fuse = s.fuse ∧
    (meetBeacons slot step d s).power = s.power ∧ (meetBeacons slot step d s).cores = s.cores ∧
    (meetBeacons slot step d s).pages = s.pages ∧ (meetBeacons slot step d s).counters = s.counters ∧
    (meetBeacons slot step d s).tiers = s.tiers ∧ (meetBeacons slot step d s).dwt = s.dwt ∧
    (meetBeacons slot step d s).nets = s.nets ∧ (meetBeacons slot step d s).sec = s.sec ∧
    (meetBeacons slot step d s).rcv = s.rcv ∧ (meetBeacons slot step d s).hif = s.hif := by
  simp [meetBeacons]

@[simp] theorem sendBeacons_same (slot : Nat) (s : State) :
    (sendBeacons slot s).pending = s.pending ∧ (sendBeacons slot s).ticks = s.ticks ∧
    (sendBeacons slot s).coldResets = s.coldResets ∧ (sendBeacons slot s).fuse = s.fuse ∧
    (sendBeacons slot s).power = s.power ∧ (sendBeacons slot s).cores = s.cores ∧
    (sendBeacons slot s).pages = s.pages ∧ (sendBeacons slot s).counters = s.counters ∧
    (sendBeacons slot s).tiers = s.tiers ∧ (sendBeacons slot s).sec = s.sec ∧ (sendBeacons slot s).rcv = s.rcv ∧
    (sendBeacons slot s).hif = s.hif := by
  simp [sendBeacons]

@[simp] theorem clearFolds_same (slot : Nat) (s : State) :
    (clearFolds slot s).pending = s.pending ∧ (clearFolds slot s).fresh = s.fresh ∧
    (clearFolds slot s).out = s.out ∧ (clearFolds slot s).ticks = s.ticks ∧
    (clearFolds slot s).coldResets = s.coldResets ∧ (clearFolds slot s).fuse = s.fuse ∧
    (clearFolds slot s).modl = s.modl ∧ (clearFolds slot s).power = s.power ∧ (clearFolds slot s).ctxs = s.ctxs ∧
    (clearFolds slot s).pages = s.pages ∧ (clearFolds slot s).counters = s.counters ∧
    (clearFolds slot s).tiers = s.tiers ∧ (clearFolds slot s).dwt = s.dwt ∧ (clearFolds slot s).col = s.col ∧
    (clearFolds slot s).nets = s.nets ∧ (clearFolds slot s).sec = s.sec ∧ (clearFolds slot s).rcv = s.rcv ∧
    (clearFolds slot s).mgt = s.mgt ∧ (clearFolds slot s).hif = s.hif := by
  simp [clearFolds]

@[simp] theorem meridianCheck_same (slot : Nat) (shadowDiffers : Bool) (s : State) :
    (meridianCheck slot shadowDiffers s).1.pending = s.pending ∧
    (meridianCheck slot shadowDiffers s).1.ticks = s.ticks ∧
    (meridianCheck slot shadowDiffers s).1.coldResets = s.coldResets ∧
    (meridianCheck slot shadowDiffers s).1.fuse = s.fuse ∧ (meridianCheck slot shadowDiffers s).1.power = s.power ∧
    (meridianCheck slot shadowDiffers s).1.pages = s.pages ∧
    (meridianCheck slot shadowDiffers s).1.counters = s.counters ∧
    (meridianCheck slot shadowDiffers s).1.dwt = s.dwt ∧ (meridianCheck slot shadowDiffers s).1.col = s.col ∧
    (meridianCheck slot shadowDiffers s).1.nets = s.nets ∧ (meridianCheck slot shadowDiffers s).1.hif = s.hif := by
  unfold meridianCheck
  dsimp only
  (repeat' split) <;> simp

@[simp] theorem newStep_same (slot : Nat) (s : State) :
    (newStep slot s).pending = s.pending ∧ (newStep slot s).fresh = s.fresh ∧ (newStep slot s).out = s.out ∧
    (newStep slot s).ticks = s.ticks ∧ (newStep slot s).coldResets = s.coldResets ∧
    (newStep slot s).fuse = s.fuse ∧ (newStep slot s).modl = s.modl ∧ (newStep slot s).power = s.power ∧
    (newStep slot s).cores = s.cores ∧ (newStep slot s).pages = s.pages ∧ (newStep slot s).counters = s.counters ∧
    (newStep slot s).dwt = s.dwt ∧ (newStep slot s).col = s.col ∧ (newStep slot s).nets = s.nets ∧
    (newStep slot s).sec = s.sec ∧ (newStep slot s).rcv = s.rcv ∧ (newStep slot s).mgt = s.mgt ∧
    (newStep slot s).hif = s.hif := by
  simp [newStep]

@[simp] theorem lastSteps_same (slot : Nat) (s : State) :
    (lastSteps slot s).pending = s.pending ∧ (lastSteps slot s).ticks = s.ticks ∧
    (lastSteps slot s).coldResets = s.coldResets ∧ (lastSteps slot s).fuse = s.fuse ∧
    (lastSteps slot s).power = s.power ∧ (lastSteps slot s).pages = s.pages ∧ (lastSteps slot s).hif = s.hif := by
  simp [lastSteps]

@[simp] theorem meridian_same (slot : Nat) (shadowDiffers : Bool) (s : State) :
    (meridian slot shadowDiffers s).pending = s.pending ∧ (meridian slot shadowDiffers s).ticks = s.ticks ∧
    (meridian slot shadowDiffers s).coldResets = s.coldResets ∧ (meridian slot shadowDiffers s).fuse = s.fuse ∧
    (meridian slot shadowDiffers s).power = s.power := by
  unfold meridian
  dsimp only
  (repeat' split) <;> simp

@[simp] theorem contextFault_same (n : Nat) (x : StrmId) (s : State) :
    (contextFault n x s).pending = s.pending ∧ (contextFault n x s).ticks = s.ticks ∧
    (contextFault n x s).coldResets = s.coldResets ∧ (contextFault n x s).fuse = s.fuse ∧
    (contextFault n x s).power = s.power ∧ (contextFault n x s).pages = s.pages ∧
    (contextFault n x s).counters = s.counters ∧ (contextFault n x s).tiers = s.tiers ∧
    (contextFault n x s).dwt = s.dwt ∧ (contextFault n x s).col = s.col ∧ (contextFault n x s).nets = s.nets ∧
    (contextFault n x s).sec = s.sec ∧ (contextFault n x s).rcv = s.rcv ∧ (contextFault n x s).hif = s.hif := by
  unfold contextFault
  (repeat' split) <;> simp

@[simp] theorem preemptiveSwitch_same (slot : Nat) (s : State) :
    (preemptiveSwitch slot s).pending = s.pending ∧ (preemptiveSwitch slot s).ticks = s.ticks ∧
    (preemptiveSwitch slot s).coldResets = s.coldResets ∧ (preemptiveSwitch slot s).fuse = s.fuse ∧
    (preemptiveSwitch slot s).power = s.power ∧ (preemptiveSwitch slot s).pages = s.pages ∧
    (preemptiveSwitch slot s).counters = s.counters ∧ (preemptiveSwitch slot s).dwt = s.dwt ∧
    (preemptiveSwitch slot s).col = s.col ∧ (preemptiveSwitch slot s).nets = s.nets ∧
    (preemptiveSwitch slot s).hif = s.hif := by
  simp [preemptiveSwitch]

end Sys2Proof.Machine
end

