-- ==== Sys2Proof/Laws/MemMeridian.lean ====
section
/-! SUPPORT. Memory keeps its canonical form through the definitions of Machine/Meridian.lean. -/

namespace Sys2Proof.Machine

@[simp] theorem firstThree_mem (slot : Nat) (s : State)
    (hm : Memory.wf s.tiers.mem = true) :
    Memory.wf (firstThree slot s).tiers.mem = true := by
  simp +contextual (maxDischargeDepth := 12) [-State.ite_tiers, firstThree, hm]

@[simp] theorem contextDone_mem (slot : Nat) (s : State)
    (hm : Memory.wf s.tiers.mem = true) :
    Memory.wf (contextDone slot s).tiers.mem = true := by
  simp (maxDischargeDepth := 12) [-State.ite_tiers, contextDone, hm]

@[simp] theorem haltEnds_mem (n : Nat) (s : State)
    (hm : Memory.wf s.tiers.mem = true) :
    Memory.wf (haltEnds n s).tiers.mem = true := by
  unfold haltEnds
  (repeat' split) <;> simp (maxDischargeDepth := 12) [-State.ite_tiers, hm]

@[simp] theorem meridianCheck_mem (slot : Nat) (shadowDiffers : Bool) (s : State)
    (hm : Memory.wf s.tiers.mem = true) :
    Memory.wf (meridianCheck slot shadowDiffers s).1.tiers.mem = true := by
  unfold meridianCheck
  dsimp only
  (repeat' split) <;> simp (maxDischargeDepth := 12) [-State.ite_tiers, hm]

@[simp] theorem newStep_mem (slot : Nat) (s : State)
    (hm : Memory.wf s.tiers.mem = true) :
    Memory.wf (newStep slot s).tiers.mem = true := by
  simp (maxDischargeDepth := 12) [-State.ite_tiers, newStep, hm]

@[simp] theorem lastSteps_mem (slot : Nat) (s : State)
    (hm : Memory.wf s.tiers.mem = true) :
    Memory.wf (lastSteps slot s).tiers.mem = true := by
  simp (maxDischargeDepth := 12) [-State.ite_tiers, lastSteps, hm]

@[simp] theorem meridian_mem (slot : Nat) (shadowDiffers : Bool) (s : State)
    (hm : Memory.wf s.tiers.mem = true) :
    Memory.wf (meridian slot shadowDiffers s).tiers.mem = true := by
  unfold meridian
  dsimp only
  (repeat' split) <;> simp (maxDischargeDepth := 12) [-State.ite_tiers, hm]

@[simp] theorem preemptiveSwitch_mem (slot : Nat) (s : State)
    (hm : Memory.wf s.tiers.mem = true) :
    Memory.wf (preemptiveSwitch slot s).tiers.mem = true := by
  simp (maxDischargeDepth := 12) [-State.ite_tiers, preemptiveSwitch, hm]

end Sys2Proof.Machine
end

