-- ==== Sys2Proof/Laws/SameCollectives.lean ====
section
/-! SUPPORT. What the definitions of Machine/Collectives.lean leave alone. -/

namespace Sys2Proof.Machine

@[simp] theorem acceptColl_same (e : Env) (d : CollDesc) (u : State) (m : Option PMap) :
    (acceptColl e d u m).s.pending = u.pending ∧ (acceptColl e d u m).s.fresh = u.fresh ∧
    (acceptColl e d u m).s.out = u.out ∧ (acceptColl e d u m).s.ticks = u.ticks ∧
    (acceptColl e d u m).s.coldResets = u.coldResets ∧ (acceptColl e d u m).s.fuse = u.fuse ∧
    (acceptColl e d u m).s.modl = u.modl ∧ (acceptColl e d u m).s.power = u.power ∧
    (acceptColl e d u m).s.cores = u.cores ∧ (acceptColl e d u m).s.pages = u.pages ∧
    (acceptColl e d u m).s.counters = u.counters ∧ (acceptColl e d u m).s.tiers = u.tiers ∧
    (acceptColl e d u m).s.dwt = u.dwt ∧ (acceptColl e d u m).s.col = u.col ∧
    (acceptColl e d u m).s.nets = u.nets ∧ (acceptColl e d u m).s.sec = u.sec ∧
    (acceptColl e d u m).s.rcv = u.rcv ∧ (acceptColl e d u m).s.mgt = u.mgt ∧ (acceptColl e d u m).s.hif = u.hif := by
  simp [acceptColl]

/-- A check that refuses has not refused where a map was read. -/
theorem PMapOut.ite_ok {c : Prop} [Decidable c] {x y r : PMapOut} (hx : x ≠ r) (h : (if c then x else y) = r) : y = r := by
  split at h
  · exact absurd h hx
  · exact h

theorem readPMap_same (slot va : Nat) (s : State) {u : State} {m : PMap} (h : readPMap slot va s = .ok u m) :
    u.pending = s.pending ∧ u.ticks = s.ticks ∧ u.coldResets = s.coldResets ∧ u.fuse = s.fuse ∧ u.power = s.power ∧
    u.cores = s.cores ∧ u.pages = s.pages ∧ u.counters = s.counters ∧ u.dwt = s.dwt ∧ u.col = s.col ∧
    u.nets = s.nets ∧ u.rcv = s.rcv ∧ u.hif = s.hif := by
  unfold readPMap at h
  dsimp only at h
  repeat (replace h := PMapOut.ite_ok (by simp) h)
  injection h with h _; subst h; simp

theorem takeMap_same (op : Nat) (e : Env) (d : CollDesc) (s : State) {z : Done} (h : takeMap op e d s = .ok z) :
    z.s.pending = s.pending ∧ z.s.ticks = s.ticks ∧ z.s.coldResets = s.coldResets ∧ z.s.fuse = s.fuse ∧
    z.s.power = s.power ∧ z.s.cores = s.cores ∧ z.s.pages = s.pages ∧ z.s.counters = s.counters ∧ z.s.dwt = s.dwt ∧
    z.s.col = s.col ∧ z.s.nets = s.nets ∧ z.s.rcv = s.rcv ∧ z.s.hif = s.hif := by
  unfold takeMap at h
  dsimp only at h
  (repeat' split at h) <;> first | (cases h; done) | (injection h with h; subst h; first | (simpa using readPMap_same _ _ _ ‹readPMap _ _ _ = _›) | simp)

theorem runColl_same (op : Nat) (e : Env) {d : Done} (h : runColl op e = .ok d) :
    d.s.pending = e.s.pending ∧ d.s.ticks = e.s.ticks ∧ d.s.coldResets = e.s.coldResets ∧ d.s.fuse = e.s.fuse ∧
    d.s.power = e.s.power ∧ d.s.cores = e.s.cores ∧ d.s.pages = e.s.pages ∧ d.s.counters = e.s.counters ∧
    d.s.dwt = e.s.dwt ∧ d.s.col = e.s.col ∧ d.s.nets = e.s.nets ∧ d.s.rcv = e.s.rcv ∧
    d.s.hif = e.s.hif := by
  unfold runColl at h
  dsimp only at h
  repeat' (obtain ⟨_, -, h⟩ := ok_of_bind h)
  simpa using takeMap_same _ _ _ _ h

@[simp] theorem State.setColl_same (s : State) (slot : Nat) (k : Coll) :
    (State.setColl s slot k).pending = s.pending ∧ (State.setColl s slot k).fresh = s.fresh ∧
    (State.setColl s slot k).out = s.out ∧ (State.setColl s slot k).ticks = s.ticks ∧
    (State.setColl s slot k).coldResets = s.coldResets ∧ (State.setColl s slot k).fuse = s.fuse ∧
    (State.setColl s slot k).modl = s.modl ∧ (State.setColl s slot k).power = s.power ∧
    (State.setColl s slot k).cores = s.cores ∧ (State.setColl s slot k).pages = s.pages ∧
    (State.setColl s slot k).counters = s.counters ∧ (State.setColl s slot k).tiers = s.tiers ∧
    (State.setColl s slot k).dwt = s.dwt ∧ (State.setColl s slot k).col = s.col ∧
    (State.setColl s slot k).nets = s.nets ∧ (State.setColl s slot k).sec = s.sec ∧
    (State.setColl s slot k).rcv = s.rcv ∧ (State.setColl s slot k).mgt = s.mgt ∧
    (State.setColl s slot k).hif = s.hif := by
  simp [State.setColl]

@[simp] theorem countSent_same (slot num bytes : Nat) (s : State) :
    (countSent slot num bytes s).pending = s.pending ∧ (countSent slot num bytes s).fresh = s.fresh ∧
    (countSent slot num bytes s).out = s.out ∧ (countSent slot num bytes s).ticks = s.ticks ∧
    (countSent slot num bytes s).coldResets = s.coldResets ∧ (countSent slot num bytes s).fuse = s.fuse ∧
    (countSent slot num bytes s).modl = s.modl ∧ (countSent slot num bytes s).power = s.power ∧
    (countSent slot num bytes s).cores = s.cores ∧ (countSent slot num bytes s).pages = s.pages ∧
    (countSent slot num bytes s).counters = s.counters ∧ (countSent slot num bytes s).tiers = s.tiers ∧
    (countSent slot num bytes s).dwt = s.dwt ∧ (countSent slot num bytes s).nets = s.nets ∧
    (countSent slot num bytes s).sec = s.sec ∧ (countSent slot num bytes s).rcv = s.rcv ∧
    (countSent slot num bytes s).mgt = s.mgt ∧ (countSent slot num bytes s).hif = s.hif := by
  unfold countSent
  dsimp only
  (repeat' split) <;> simp

@[simp] theorem countRelayed_same (slot num bytes : Nat) (s : State) :
    (countRelayed slot num bytes s).pending = s.pending ∧ (countRelayed slot num bytes s).fresh = s.fresh ∧
    (countRelayed slot num bytes s).out = s.out ∧ (countRelayed slot num bytes s).ticks = s.ticks ∧
    (countRelayed slot num bytes s).coldResets = s.coldResets ∧ (countRelayed slot num bytes s).fuse = s.fuse ∧
    (countRelayed slot num bytes s).modl = s.modl ∧ (countRelayed slot num bytes s).power = s.power ∧
    (countRelayed slot num bytes s).cores = s.cores ∧ (countRelayed slot num bytes s).pages = s.pages ∧
    (countRelayed slot num bytes s).counters = s.counters ∧ (countRelayed slot num bytes s).tiers = s.tiers ∧
    (countRelayed slot num bytes s).dwt = s.dwt ∧ (countRelayed slot num bytes s).nets = s.nets ∧
    (countRelayed slot num bytes s).sec = s.sec ∧ (countRelayed slot num bytes s).rcv = s.rcv ∧
    (countRelayed slot num bytes s).mgt = s.mgt ∧ (countRelayed slot num bytes s).hif = s.hif := by
  unfold countRelayed
  dsimp only
  (repeat' split) <;> simp

@[simp] theorem collRecorded_same (slot : Nat) (k : Coll) (status : Nat) (s : State) :
    (collRecorded slot k status s).pending = s.pending ∧ (collRecorded slot k status s).ticks = s.ticks ∧
    (collRecorded slot k status s).coldResets = s.coldResets ∧ (collRecorded slot k status s).fuse = s.fuse ∧
    (collRecorded slot k status s).power = s.power ∧ (collRecorded slot k status s).cores = s.cores ∧
    (collRecorded slot k status s).pages = s.pages ∧ (collRecorded slot k status s).counters = s.counters ∧
    (collRecorded slot k status s).dwt = s.dwt ∧ (collRecorded slot k status s).col = s.col ∧
    (collRecorded slot k status s).nets = s.nets ∧ (collRecorded slot k status s).hif = s.hif := by
  simp [collRecorded]

@[simp] theorem collDone_same (slot : Nat) (k : Coll) (status : Nat) (s : State) :
    (collDone slot k status s).pending = s.pending ∧ (collDone slot k status s).ticks = s.ticks ∧
    (collDone slot k status s).coldResets = s.coldResets ∧ (collDone slot k status s).fuse = s.fuse ∧
    (collDone slot k status s).power = s.power ∧ (collDone slot k status s).cores = s.cores ∧
    (collDone slot k status s).pages = s.pages ∧ (collDone slot k status s).dwt = s.dwt ∧
    (collDone slot k status s).nets = s.nets ∧ (collDone slot k status s).hif = s.hif := by
  simp [collDone]

@[simp] theorem collFail_same (slot num status : Nat) (s : State) :
    (collFail slot num status s).pending = s.pending ∧ (collFail slot num status s).ticks = s.ticks ∧
    (collFail slot num status s).coldResets = s.coldResets ∧ (collFail slot num status s).fuse = s.fuse ∧
    (collFail slot num status s).power = s.power ∧ (collFail slot num status s).cores = s.cores ∧
    (collFail slot num status s).pages = s.pages ∧ (collFail slot num status s).counters = s.counters ∧
    (collFail slot num status s).dwt = s.dwt ∧ (collFail slot num status s).nets = s.nets ∧
    (collFail slot num status s).hif = s.hif := by
  unfold collFail
  (repeat' split) <;> simp

@[simp] theorem collsFall_same (slot : Nat) (s : State) :
    (collsFall slot s).pending = s.pending ∧ (collsFall slot s).ticks = s.ticks ∧
    (collsFall slot s).coldResets = s.coldResets ∧ (collsFall slot s).fuse = s.fuse ∧
    (collsFall slot s).power = s.power ∧ (collsFall slot s).cores = s.cores ∧ (collsFall slot s).pages = s.pages ∧
    (collsFall slot s).counters = s.counters ∧ (collsFall slot s).dwt = s.dwt ∧ (collsFall slot s).nets = s.nets ∧
    (collsFall slot s).hif = s.hif := by
  simp [collsFall]

@[simp] theorem collPost_same (slot : Nat) (d : Nat × Nat) (num : Option Nat) (up : Option (Nat × Nat)) (m : CollMsg) (s : State) :
    (collPost slot d num up m s).pending = s.pending ∧ (collPost slot d num up m s).fresh = s.fresh ∧
    (collPost slot d num up m s).out = s.out ∧ (collPost slot d num up m s).ticks = s.ticks ∧
    (collPost slot d num up m s).coldResets = s.coldResets ∧ (collPost slot d num up m s).fuse = s.fuse ∧
    (collPost slot d num up m s).modl = s.modl ∧ (collPost slot d num up m s).power = s.power ∧
    (collPost slot d num up m s).cores = s.cores ∧ (collPost slot d num up m s).ctxs = s.ctxs ∧
    (collPost slot d num up m s).pages = s.pages ∧ (collPost slot d num up m s).counters = s.counters ∧
    (collPost slot d num up m s).tiers = s.tiers ∧ (collPost slot d num up m s).col = s.col ∧
    (collPost slot d num up m s).sec = s.sec ∧ (collPost slot d num up m s).rcv = s.rcv ∧
    (collPost slot d num up m s).mgt = s.mgt ∧ (collPost slot d num up m s).hif = s.hif := by
  unfold collPost
  (repeat' split) <;> simp

@[simp] theorem collTo_same (slot num dest : Nat) (b : CollBody) (s : State) :
    (collTo slot num dest b s).pending = s.pending ∧ (collTo slot num dest b s).fresh = s.fresh ∧
    (collTo slot num dest b s).out = s.out ∧ (collTo slot num dest b s).ticks = s.ticks ∧
    (collTo slot num dest b s).coldResets = s.coldResets ∧ (collTo slot num dest b s).fuse = s.fuse ∧
    (collTo slot num dest b s).modl = s.modl ∧ (collTo slot num dest b s).power = s.power ∧
    (collTo slot num dest b s).cores = s.cores ∧ (collTo slot num dest b s).pages = s.pages ∧
    (collTo slot num dest b s).counters = s.counters ∧ (collTo slot num dest b s).tiers = s.tiers ∧
    (collTo slot num dest b s).sec = s.sec ∧ (collTo slot num dest b s).rcv = s.rcv ∧
    (collTo slot num dest b s).mgt = s.mgt ∧ (collTo slot num dest b s).hif = s.hif := by
  unfold collTo
  (repeat' split) <;> simp

@[simp] theorem sendDense_same (slot num : Nat) (gradVa dest o n tile : Nat) (r : State × Bool) (i : Nat) :
    (sendDense slot num gradVa dest o n tile r i).1.pending = r.1.pending ∧
    (sendDense slot num gradVa dest o n tile r i).1.ticks = r.1.ticks ∧
    (sendDense slot num gradVa dest o n tile r i).1.coldResets = r.1.coldResets ∧
    (sendDense slot num gradVa dest o n tile r i).1.fuse = r.1.fuse ∧
    (sendDense slot num gradVa dest o n tile r i).1.power = r.1.power ∧
    (sendDense slot num gradVa dest o n tile r i).1.cores = r.1.cores ∧
    (sendDense slot num gradVa dest o n tile r i).1.pages = r.1.pages ∧
    (sendDense slot num gradVa dest o n tile r i).1.counters = r.1.counters ∧
    (sendDense slot num gradVa dest o n tile r i).1.rcv = r.1.rcv ∧
    (sendDense slot num gradVa dest o n tile r i).1.hif = r.1.hif := by
  unfold sendDense
  dsimp only
  (repeat' split) <;> simp

@[simp] theorem leaveResidual_same (slot va : Nat) (xs : List W32) (s : State) (i : Nat) :
    (leaveResidual slot va xs s i).pending = s.pending ∧ (leaveResidual slot va xs s i).ticks = s.ticks ∧
    (leaveResidual slot va xs s i).coldResets = s.coldResets ∧ (leaveResidual slot va xs s i).fuse = s.fuse ∧
    (leaveResidual slot va xs s i).power = s.power ∧ (leaveResidual slot va xs s i).cores = s.cores ∧
    (leaveResidual slot va xs s i).pages = s.pages ∧ (leaveResidual slot va xs s i).counters = s.counters ∧
    (leaveResidual slot va xs s i).dwt = s.dwt ∧ (leaveResidual slot va xs s i).col = s.col ∧
    (leaveResidual slot va xs s i).nets = s.nets ∧ (leaveResidual slot va xs s i).hif = s.hif := by
  simp [leaveResidual]

@[simp] theorem sendBlock_same (slot num : Nat) (gradVa kk dest o n tile : Nat) (r : State × Bool) (block : Nat) :
    (sendBlock slot num gradVa kk dest o n tile r block).1.pending = r.1.pending ∧
    (sendBlock slot num gradVa kk dest o n tile r block).1.ticks = r.1.ticks ∧
    (sendBlock slot num gradVa kk dest o n tile r block).1.coldResets = r.1.coldResets ∧
    (sendBlock slot num gradVa kk dest o n tile r block).1.fuse = r.1.fuse ∧
    (sendBlock slot num gradVa kk dest o n tile r block).1.power = r.1.power ∧
    (sendBlock slot num gradVa kk dest o n tile r block).1.cores = r.1.cores ∧
    (sendBlock slot num gradVa kk dest o n tile r block).1.pages = r.1.pages ∧
    (sendBlock slot num gradVa kk dest o n tile r block).1.counters = r.1.counters ∧
    (sendBlock slot num gradVa kk dest o n tile r block).1.hif = r.1.hif := by
  unfold sendBlock
  dsimp only
  (repeat' split) <;> simp

@[simp] theorem sendShard_same (slot : Nat) (k : Coll) (g dest o n : Nat) (s : State) :
    (sendShard slot k g dest o n s).1.pending = s.pending ∧ (sendShard slot k g dest o n s).1.ticks = s.ticks ∧
    (sendShard slot k g dest o n s).1.coldResets = s.coldResets ∧ (sendShard slot k g dest o n s).1.fuse = s.fuse ∧
    (sendShard slot k g dest o n s).1.power = s.power ∧ (sendShard slot k g dest o n s).1.cores = s.cores ∧
    (sendShard slot k g dest o n s).1.pages = s.pages ∧ (sendShard slot k g dest o n s).1.counters = s.counters ∧
    (sendShard slot k g dest o n s).1.hif = s.hif := by
  unfold sendShard
  (repeat' split) <;> simp

@[simp] theorem advanceOne_same (slot num g r : Nat) (s : State) (p : Nat × Nat) :
    (advanceOne slot num g r s p).pending = s.pending ∧ (advanceOne slot num g r s p).ticks = s.ticks ∧
    (advanceOne slot num g r s p).coldResets = s.coldResets ∧ (advanceOne slot num g r s p).fuse = s.fuse ∧
    (advanceOne slot num g r s p).power = s.power ∧ (advanceOne slot num g r s p).cores = s.cores ∧
    (advanceOne slot num g r s p).pages = s.pages ∧ (advanceOne slot num g r s p).counters = s.counters ∧
    (advanceOne slot num g r s p).hif = s.hif := by
  unfold advanceOne
  dsimp only
  (repeat' split) <;> simp

@[simp] theorem zeroTile_same (slot va : Nat) (s : State) (t : Nat) :
    (zeroTile slot va s t).pending = s.pending ∧ (zeroTile slot va s t).ticks = s.ticks ∧
    (zeroTile slot va s t).coldResets = s.coldResets ∧ (zeroTile slot va s t).fuse = s.fuse ∧
    (zeroTile slot va s t).power = s.power ∧ (zeroTile slot va s t).cores = s.cores ∧
    (zeroTile slot va s t).pages = s.pages ∧ (zeroTile slot va s t).counters = s.counters ∧
    (zeroTile slot va s t).dwt = s.dwt ∧ (zeroTile slot va s t).col = s.col ∧
    (zeroTile slot va s t).nets = s.nets ∧ (zeroTile slot va s t).hif = s.hif := by
  simp [zeroTile]

@[simp] theorem zeroFrozen_same (slot : Nat) (k : Coll) (s : State) :
    (zeroFrozen slot k s).pending = s.pending ∧ (zeroFrozen slot k s).ticks = s.ticks ∧
    (zeroFrozen slot k s).coldResets = s.coldResets ∧ (zeroFrozen slot k s).fuse = s.fuse ∧
    (zeroFrozen slot k s).power = s.power ∧ (zeroFrozen slot k s).cores = s.cores ∧
    (zeroFrozen slot k s).pages = s.pages ∧ (zeroFrozen slot k s).counters = s.counters ∧
    (zeroFrozen slot k s).dwt = s.dwt ∧ (zeroFrozen slot k s).col = s.col ∧ (zeroFrozen slot k s).nets = s.nets ∧
    (zeroFrozen slot k s).hif = s.hif := by
  simp [zeroFrozen]

@[simp] theorem normTile_same (slot va : Nat) (r : (State × Bool) × (W32 × W32)) (t : Nat) :
    (normTile slot va r t).1.1.pending = r.1.1.pending ∧ (normTile slot va r t).1.1.ticks = r.1.1.ticks ∧
    (normTile slot va r t).1.1.coldResets = r.1.1.coldResets ∧ (normTile slot va r t).1.1.fuse = r.1.1.fuse ∧
    (normTile slot va r t).1.1.power = r.1.1.power ∧ (normTile slot va r t).1.1.cores = r.1.1.cores ∧
    (normTile slot va r t).1.1.ctxs = r.1.1.ctxs ∧ (normTile slot va r t).1.1.pages = r.1.1.pages ∧
    (normTile slot va r t).1.1.counters = r.1.1.counters ∧ (normTile slot va r t).1.1.dwt = r.1.1.dwt ∧
    (normTile slot va r t).1.1.col = r.1.1.col ∧ (normTile slot va r t).1.1.nets = r.1.1.nets ∧ (normTile slot va r t).1.1.rcv = r.1.1.rcv ∧
    (normTile slot va r t).1.1.hif = r.1.1.hif := by
  simp [normTile]

@[simp] theorem localNorm_same (slot va : Nat) (ts : List Nat) (s : State) :
    (localNorm slot va ts s).1.1.pending = s.pending ∧ (localNorm slot va ts s).1.1.ticks = s.ticks ∧
    (localNorm slot va ts s).1.1.coldResets = s.coldResets ∧ (localNorm slot va ts s).1.1.fuse = s.fuse ∧
    (localNorm slot va ts s).1.1.power = s.power ∧ (localNorm slot va ts s).1.1.cores = s.cores ∧
    (localNorm slot va ts s).1.1.ctxs = s.ctxs ∧ (localNorm slot va ts s).1.1.pages = s.pages ∧
    (localNorm slot va ts s).1.1.counters = s.counters ∧ (localNorm slot va ts s).1.1.dwt = s.dwt ∧
    (localNorm slot va ts s).1.1.col = s.col ∧ (localNorm slot va ts s).1.1.nets = s.nets ∧ (localNorm slot va ts s).1.1.rcv = s.rcv ∧
    (localNorm slot va ts s).1.1.hif = s.hif := by
  suffices h : ∀ r : (State × Bool) × (W32 × W32), (ts.foldl (normTile slot va) r).1.1.pending = r.1.1.pending ∧ (ts.foldl (normTile slot va) r).1.1.ticks = r.1.1.ticks ∧ (ts.foldl (normTile slot va) r).1.1.coldResets = r.1.1.coldResets ∧ (ts.foldl (normTile slot va) r).1.1.fuse = r.1.1.fuse ∧ (ts.foldl (normTile slot va) r).1.1.power = r.1.1.power ∧ (ts.foldl (normTile slot va) r).1.1.cores = r.1.1.cores ∧ (ts.foldl (normTile slot va) r).1.1.ctxs = r.1.1.ctxs ∧ (ts.foldl (normTile slot va) r).1.1.pages = r.1.1.pages ∧ (ts.foldl (normTile slot va) r).1.1.counters = r.1.1.counters ∧ (ts.foldl (normTile slot va) r).1.1.dwt = r.1.1.dwt ∧ (ts.foldl (normTile slot va) r).1.1.col = r.1.1.col ∧ (ts.foldl (normTile slot va) r).1.1.nets = r.1.1.nets ∧ (ts.foldl (normTile slot va) r).1.1.rcv = r.1.1.rcv ∧ (ts.foldl (normTile slot va) r).1.1.hif = r.1.1.hif from
    h ((s, false), (0#32, 0#32))
  induction ts with
  | nil => simp
  | cons t ts ih =>
    intro r
    simpa using ih (normTile slot va r t)

@[simp] theorem takeLeaf_same (slot num : Nat) (s : State) :
    (takeLeaf slot num s).pending = s.pending ∧ (takeLeaf slot num s).ticks = s.ticks ∧
    (takeLeaf slot num s).coldResets = s.coldResets ∧ (takeLeaf slot num s).fuse = s.fuse ∧
    (takeLeaf slot num s).power = s.power ∧ (takeLeaf slot num s).cores = s.cores ∧
    (takeLeaf slot num s).pages = s.pages ∧ (takeLeaf slot num s).counters = s.counters ∧
    (takeLeaf slot num s).dwt = s.dwt ∧ (takeLeaf slot num s).nets = s.nets ∧ (takeLeaf slot num s).hif = s.hif := by
  unfold takeLeaf
  dsimp only
  (repeat' split) <;> simp

@[simp] theorem treeRise_same (slot num : Nat) (s : State) :
    (treeRise slot num s).pending = s.pending ∧ (treeRise slot num s).fresh = s.fresh ∧
    (treeRise slot num s).out = s.out ∧ (treeRise slot num s).ticks = s.ticks ∧
    (treeRise slot num s).coldResets = s.coldResets ∧ (treeRise slot num s).fuse = s.fuse ∧
    (treeRise slot num s).modl = s.modl ∧ (treeRise slot num s).power = s.power ∧
    (treeRise slot num s).cores = s.cores ∧ (treeRise slot num s).pages = s.pages ∧
    (treeRise slot num s).counters = s.counters ∧ (treeRise slot num s).tiers = s.tiers ∧
    (treeRise slot num s).sec = s.sec ∧ (treeRise slot num s).rcv = s.rcv ∧ (treeRise slot num s).mgt = s.mgt ∧
    (treeRise slot num s).hif = s.hif := by
  unfold treeRise
  dsimp only
  (repeat' split) <;> simp

@[simp] theorem treeFall_same (slot num : Nat) (s : State) :
    (treeFall slot num s).pending = s.pending ∧ (treeFall slot num s).fresh = s.fresh ∧
    (treeFall slot num s).out = s.out ∧ (treeFall slot num s).ticks = s.ticks ∧
    (treeFall slot num s).coldResets = s.coldResets ∧ (treeFall slot num s).fuse = s.fuse ∧
    (treeFall slot num s).modl = s.modl ∧ (treeFall slot num s).power = s.power ∧
    (treeFall slot num s).cores = s.cores ∧ (treeFall slot num s).pages = s.pages ∧
    (treeFall slot num s).counters = s.counters ∧ (treeFall slot num s).tiers = s.tiers ∧
    (treeFall slot num s).sec = s.sec ∧ (treeFall slot num s).rcv = s.rcv ∧ (treeFall slot num s).mgt = s.mgt ∧
    (treeFall slot num s).hif = s.hif := by
  unfold treeFall
  (repeat' split) <;> simp

@[simp] theorem advance_same (slot num : Nat) (s : State) :
    (advance slot num s).pending = s.pending ∧ (advance slot num s).ticks = s.ticks ∧
    (advance slot num s).coldResets = s.coldResets ∧ (advance slot num s).fuse = s.fuse ∧
    (advance slot num s).power = s.power ∧ (advance slot num s).cores = s.cores ∧
    (advance slot num s).pages = s.pages ∧ (advance slot num s).counters = s.counters ∧
    (advance slot num s).hif = s.hif := by
  unfold advance
  (repeat' split) <;> simp

@[simp] theorem gatherPost_same (slot : Nat) (k : Coll) (m : CollMsg) (s : State) (d : Nat × Nat) :
    (gatherPost slot k m s d).pending = s.pending ∧ (gatherPost slot k m s d).fresh = s.fresh ∧
    (gatherPost slot k m s d).out = s.out ∧ (gatherPost slot k m s d).ticks = s.ticks ∧
    (gatherPost slot k m s d).coldResets = s.coldResets ∧ (gatherPost slot k m s d).fuse = s.fuse ∧
    (gatherPost slot k m s d).modl = s.modl ∧ (gatherPost slot k m s d).power = s.power ∧
    (gatherPost slot k m s d).cores = s.cores ∧ (gatherPost slot k m s d).ctxs = s.ctxs ∧
    (gatherPost slot k m s d).pages = s.pages ∧ (gatherPost slot k m s d).counters = s.counters ∧
    (gatherPost slot k m s d).tiers = s.tiers ∧ (gatherPost slot k m s d).col = s.col ∧
    (gatherPost slot k m s d).sec = s.sec ∧ (gatherPost slot k m s d).rcv = s.rcv ∧
    (gatherPost slot k m s d).mgt = s.mgt ∧ (gatherPost slot k m s d).hif = s.hif := by
  simp [gatherPost]

@[simp] theorem sendGatherSeg_same (slot : Nat) (k : Coll) (rank : Nat) (ds : List (Nat × Nat)) (tile : Nat) (a : State × Bool) (i : Nat) :
    (sendGatherSeg slot k rank ds tile a i).1.pending = a.1.pending ∧
    (sendGatherSeg slot k rank ds tile a i).1.ticks = a.1.ticks ∧
    (sendGatherSeg slot k rank ds tile a i).1.coldResets = a.1.coldResets ∧
    (sendGatherSeg slot k rank ds tile a i).1.fuse = a.1.fuse ∧
    (sendGatherSeg slot k rank ds tile a i).1.power = a.1.power ∧
    (sendGatherSeg slot k rank ds tile a i).1.cores = a.1.cores ∧
    (sendGatherSeg slot k rank ds tile a i).1.pages = a.1.pages ∧
    (sendGatherSeg slot k rank ds tile a i).1.counters = a.1.counters ∧
    (sendGatherSeg slot k rank ds tile a i).1.rcv = a.1.rcv ∧
    (sendGatherSeg slot k rank ds tile a i).1.hif = a.1.hif := by
  unfold sendGatherSeg
  dsimp only
  (repeat' split) <;> simp

@[simp] theorem sendGather_same (slot : Nat) (k : Coll) (s : State) :
    (sendGather slot k s).pending = s.pending ∧ (sendGather slot k s).ticks = s.ticks ∧
    (sendGather slot k s).coldResets = s.coldResets ∧ (sendGather slot k s).fuse = s.fuse ∧
    (sendGather slot k s).power = s.power ∧ (sendGather slot k s).cores = s.cores ∧
    (sendGather slot k s).pages = s.pages ∧ (sendGather slot k s).counters = s.counters ∧
    (sendGather slot k s).hif = s.hif := by
  simp [sendGather]

@[simp] theorem copyTile_same (slot : Nat) (d : CollDesc) (s : State) (tile : Nat) :
    (copyTile slot d s tile).pending = s.pending ∧ (copyTile slot d s tile).ticks = s.ticks ∧
    (copyTile slot d s tile).coldResets = s.coldResets ∧ (copyTile slot d s tile).fuse = s.fuse ∧
    (copyTile slot d s tile).power = s.power ∧ (copyTile slot d s tile).cores = s.cores ∧
    (copyTile slot d s tile).pages = s.pages ∧ (copyTile slot d s tile).counters = s.counters ∧
    (copyTile slot d s tile).dwt = s.dwt ∧ (copyTile slot d s tile).col = s.col ∧
    (copyTile slot d s tile).nets = s.nets ∧ (copyTile slot d s tile).hif = s.hif := by
  simp [copyTile]

@[simp] theorem addPair_same (slot va : Nat) (a : State × Bool) (p : Nat × Nat) :
    (addPair slot va a p).1.pending = a.1.pending ∧ (addPair slot va a p).1.ticks = a.1.ticks ∧
    (addPair slot va a p).1.coldResets = a.1.coldResets ∧ (addPair slot va a p).1.fuse = a.1.fuse ∧
    (addPair slot va a p).1.power = a.1.power ∧ (addPair slot va a p).1.cores = a.1.cores ∧
    (addPair slot va a p).1.pages = a.1.pages ∧ (addPair slot va a p).1.counters = a.1.counters ∧
    (addPair slot va a p).1.dwt = a.1.dwt ∧ (addPair slot va a p).1.col = a.1.col ∧
    (addPair slot va a p).1.nets = a.1.nets ∧ (addPair slot va a p).1.hif = a.1.hif := by
  simp [addPair]

@[simp] theorem addSegment_same (slot : Nat) (k : Coll) (tile first : Nat) (data : List W16) (s : State) :
    (addSegment slot k tile first data s).1.pending = s.pending ∧
    (addSegment slot k tile first data s).1.ticks = s.ticks ∧
    (addSegment slot k tile first data s).1.coldResets = s.coldResets ∧
    (addSegment slot k tile first data s).1.fuse = s.fuse ∧
    (addSegment slot k tile first data s).1.power = s.power ∧
    (addSegment slot k tile first data s).1.cores = s.cores ∧
    (addSegment slot k tile first data s).1.pages = s.pages ∧
    (addSegment slot k tile first data s).1.counters = s.counters ∧
    (addSegment slot k tile first data s).1.dwt = s.dwt ∧ (addSegment slot k tile first data s).1.col = s.col ∧
    (addSegment slot k tile first data s).1.nets = s.nets ∧ (addSegment slot k tile first data s).1.hif = s.hif := by
  unfold addSegment
  (repeat' split) <;> simp

@[simp] theorem reduceSegment_same (slot : Nat) (k : Coll) (shard level tile first : Nat) (data : List W16) (s : State) :
    (reduceSegment slot k shard level tile first data s).s.pending = s.pending ∧
    (reduceSegment slot k shard level tile first data s).s.ticks = s.ticks ∧
    (reduceSegment slot k shard level tile first data s).s.coldResets = s.coldResets ∧
    (reduceSegment slot k shard level tile first data s).s.fuse = s.fuse ∧
    (reduceSegment slot k shard level tile first data s).s.power = s.power ∧
    (reduceSegment slot k shard level tile first data s).s.cores = s.cores ∧
    (reduceSegment slot k shard level tile first data s).s.pages = s.pages ∧
    (reduceSegment slot k shard level tile first data s).s.counters = s.counters ∧
    (reduceSegment slot k shard level tile first data s).s.hif = s.hif := by
  unfold reduceSegment
  dsimp only
  (repeat' split) <;> simp

@[simp] theorem gatherSegment_same (slot cn : Nat) (k : Coll) (m : CollMsg) (shard tile first : Nat) (data : List W16) (s : State) :
    (gatherSegment slot cn k m shard tile first data s).pending = s.pending ∧
    (gatherSegment slot cn k m shard tile first data s).ticks = s.ticks ∧
    (gatherSegment slot cn k m shard tile first data s).coldResets = s.coldResets ∧
    (gatherSegment slot cn k m shard tile first data s).fuse = s.fuse ∧
    (gatherSegment slot cn k m shard tile first data s).power = s.power ∧
    (gatherSegment slot cn k m shard tile first data s).cores = s.cores ∧
    (gatherSegment slot cn k m shard tile first data s).pages = s.pages ∧
    (gatherSegment slot cn k m shard tile first data s).counters = s.counters ∧
    (gatherSegment slot cn k m shard tile first data s).hif = s.hif := by
  simp [gatherSegment]

@[simp] theorem holdEarly_same (slot cn : Nat) (m : CollMsg) (s : State) :
    (holdEarly slot cn m s).pending = s.pending ∧ (holdEarly slot cn m s).fresh = s.fresh ∧
    (holdEarly slot cn m s).out = s.out ∧ (holdEarly slot cn m s).ticks = s.ticks ∧
    (holdEarly slot cn m s).coldResets = s.coldResets ∧ (holdEarly slot cn m s).fuse = s.fuse ∧
    (holdEarly slot cn m s).modl = s.modl ∧ (holdEarly slot cn m s).power = s.power ∧
    (holdEarly slot cn m s).cores = s.cores ∧ (holdEarly slot cn m s).pages = s.pages ∧
    (holdEarly slot cn m s).counters = s.counters ∧ (holdEarly slot cn m s).tiers = s.tiers ∧
    (holdEarly slot cn m s).dwt = s.dwt ∧ (holdEarly slot cn m s).col = s.col ∧
    (holdEarly slot cn m s).nets = s.nets ∧ (holdEarly slot cn m s).sec = s.sec ∧
    (holdEarly slot cn m s).rcv = s.rcv ∧ (holdEarly slot cn m s).mgt = s.mgt ∧ (holdEarly slot cn m s).hif = s.hif := by
  simp [holdEarly]

@[simp] theorem sendPrint_same (slot num dest : Nat) (s : State) :
    (sendPrint slot num dest s).pending = s.pending ∧ (sendPrint slot num dest s).fresh = s.fresh ∧
    (sendPrint slot num dest s).out = s.out ∧ (sendPrint slot num dest s).ticks = s.ticks ∧
    (sendPrint slot num dest s).coldResets = s.coldResets ∧ (sendPrint slot num dest s).fuse = s.fuse ∧
    (sendPrint slot num dest s).modl = s.modl ∧ (sendPrint slot num dest s).power = s.power ∧
    (sendPrint slot num dest s).cores = s.cores ∧ (sendPrint slot num dest s).pages = s.pages ∧
    (sendPrint slot num dest s).counters = s.counters ∧ (sendPrint slot num dest s).tiers = s.tiers ∧
    (sendPrint slot num dest s).sec = s.sec ∧ (sendPrint slot num dest s).rcv = s.rcv ∧
    (sendPrint slot num dest s).mgt = s.mgt ∧ (sendPrint slot num dest s).hif = s.hif := by
  unfold sendPrint
  (repeat' split) <;> simp

@[simp] theorem collDiffers_same (slot num src : Nat) (s : State) :
    (collDiffers slot num src s).pending = s.pending ∧ (collDiffers slot num src s).ticks = s.ticks ∧
    (collDiffers slot num src s).coldResets = s.coldResets ∧ (collDiffers slot num src s).fuse = s.fuse ∧
    (collDiffers slot num src s).power = s.power ∧ (collDiffers slot num src s).cores = s.cores ∧
    (collDiffers slot num src s).pages = s.pages ∧ (collDiffers slot num src s).counters = s.counters ∧
    (collDiffers slot num src s).hif = s.hif := by
  simp [collDiffers]

@[simp] theorem collTake_same (slot cn : Nat) (m : CollMsg) (s : State) :
    (collTake slot cn m s).s.pending = s.pending ∧ (collTake slot cn m s).s.ticks = s.ticks ∧
    (collTake slot cn m s).s.coldResets = s.coldResets ∧ (collTake slot cn m s).s.fuse = s.fuse ∧
    (collTake slot cn m s).s.power = s.power ∧ (collTake slot cn m s).s.cores = s.cores ∧
    (collTake slot cn m s).s.pages = s.pages ∧ (collTake slot cn m s).s.counters = s.counters ∧
    (collTake slot cn m s).s.hif = s.hif := by
  unfold collTake
  dsimp only
  (repeat' split) <;> simp

@[simp] theorem State.markSeq_same (s : State) (cn seq : Nat) :
    (State.markSeq s cn seq).pending = s.pending ∧ (State.markSeq s cn seq).fresh = s.fresh ∧
    (State.markSeq s cn seq).out = s.out ∧ (State.markSeq s cn seq).ticks = s.ticks ∧
    (State.markSeq s cn seq).coldResets = s.coldResets ∧ (State.markSeq s cn seq).fuse = s.fuse ∧
    (State.markSeq s cn seq).modl = s.modl ∧ (State.markSeq s cn seq).power = s.power ∧
    (State.markSeq s cn seq).cores = s.cores ∧ (State.markSeq s cn seq).ctxs = s.ctxs ∧
    (State.markSeq s cn seq).pages = s.pages ∧ (State.markSeq s cn seq).counters = s.counters ∧
    (State.markSeq s cn seq).tiers = s.tiers ∧ (State.markSeq s cn seq).col = s.col ∧
    (State.markSeq s cn seq).nets = s.nets ∧ (State.markSeq s cn seq).sec = s.sec ∧
    (State.markSeq s cn seq).rcv = s.rcv ∧ (State.markSeq s cn seq).mgt = s.mgt ∧
    (State.markSeq s cn seq).hif = s.hif := by
  simp [State.markSeq]

@[simp] theorem relayMsg_same (slot cn : Nat) (m : Msg) (b : CollMsg) (s : State) :
    (relayMsg slot cn m b s).pending = s.pending ∧ (relayMsg slot cn m b s).fresh = s.fresh ∧
    (relayMsg slot cn m b s).out = s.out ∧ (relayMsg slot cn m b s).ticks = s.ticks ∧
    (relayMsg slot cn m b s).coldResets = s.coldResets ∧ (relayMsg slot cn m b s).fuse = s.fuse ∧
    (relayMsg slot cn m b s).modl = s.modl ∧ (relayMsg slot cn m b s).power = s.power ∧
    (relayMsg slot cn m b s).cores = s.cores ∧ (relayMsg slot cn m b s).pages = s.pages ∧
    (relayMsg slot cn m b s).counters = s.counters ∧ (relayMsg slot cn m b s).tiers = s.tiers ∧
    (relayMsg slot cn m b s).sec = s.sec ∧ (relayMsg slot cn m b s).rcv = s.rcv ∧
    (relayMsg slot cn m b s).mgt = s.mgt ∧ (relayMsg slot cn m b s).hif = s.hif := by
  unfold relayMsg
  (repeat' split) <;> simp

@[simp] theorem collArrives_same (cn : Nat) (m : Msg) (b : CollMsg) (s : State) :
    (collArrives cn m b s).pending = s.pending ∧ (collArrives cn m b s).ticks = s.ticks ∧
    (collArrives cn m b s).coldResets = s.coldResets ∧ (collArrives cn m b s).fuse = s.fuse ∧
    (collArrives cn m b s).power = s.power ∧ (collArrives cn m b s).cores = s.cores ∧
    (collArrives cn m b s).pages = s.pages ∧ (collArrives cn m b s).hif = s.hif := by
  simp [collArrives]

@[simp] theorem collAnswered_same (cn : Nat) (m : Msg) (s : State) :
    (collAnswered cn m s).pending = s.pending ∧ (collAnswered cn m s).ticks = s.ticks ∧
    (collAnswered cn m s).coldResets = s.coldResets ∧ (collAnswered cn m s).fuse = s.fuse ∧
    (collAnswered cn m s).power = s.power ∧ (collAnswered cn m s).cores = s.cores ∧
    (collAnswered cn m s).pages = s.pages ∧ (collAnswered cn m s).counters = s.counters ∧
    (collAnswered cn m s).hif = s.hif := by
  unfold collAnswered
  dsimp only
  (repeat' split) <;> simp

@[simp] theorem collLose_same (slot : Nat) (s : State) (g : CollSeg) :
    (collLose slot s g).pending = s.pending ∧ (collLose slot s g).fresh = s.fresh ∧
    (collLose slot s g).out = s.out ∧ (collLose slot s g).ticks = s.ticks ∧
    (collLose slot s g).coldResets = s.coldResets ∧ (collLose slot s g).fuse = s.fuse ∧
    (collLose slot s g).modl = s.modl ∧ (collLose slot s g).power = s.power ∧ (collLose slot s g).cores = s.cores ∧
    (collLose slot s g).pages = s.pages ∧ (collLose slot s g).counters = s.counters ∧
    (collLose slot s g).tiers = s.tiers ∧ (collLose slot s g).col = s.col ∧ (collLose slot s g).nets = s.nets ∧
    (collLose slot s g).sec = s.sec ∧ (collLose slot s g).rcv = s.rcv ∧ (collLose slot s g).mgt = s.mgt ∧
    (collLose slot s g).hif = s.hif := by
  unfold collLose
  (repeat' split) <;> simp

@[simp] theorem collWatch_same (cn : Nat) (s t : State) :
    (collWatch cn s t).pending = t.pending ∧ (collWatch cn s t).ticks = t.ticks ∧
    (collWatch cn s t).coldResets = t.coldResets ∧ (collWatch cn s t).fuse = t.fuse ∧
    (collWatch cn s t).power = t.power ∧ (collWatch cn s t).cores = t.cores ∧ (collWatch cn s t).pages = t.pages ∧
    (collWatch cn s t).counters = t.counters ∧ (collWatch cn s t).nets = t.nets ∧ (collWatch cn s t).hif = t.hif := by
  simp [collWatch]

@[simp] theorem takeEarly_same (slot num : Nat) (s : State) :
    (takeEarly slot num s).pending = s.pending ∧ (takeEarly slot num s).ticks = s.ticks ∧
    (takeEarly slot num s).coldResets = s.coldResets ∧ (takeEarly slot num s).fuse = s.fuse ∧
    (takeEarly slot num s).power = s.power ∧ (takeEarly slot num s).cores = s.cores ∧
    (takeEarly slot num s).pages = s.pages ∧ (takeEarly slot num s).counters = s.counters ∧
    (takeEarly slot num s).hif = s.hif := by
  simp [takeEarly]

@[simp] theorem collStart_same (slot : Nat) (s : State) :
    (collStart slot s).pending = s.pending ∧ (collStart slot s).ticks = s.ticks ∧
    (collStart slot s).coldResets = s.coldResets ∧ (collStart slot s).fuse = s.fuse ∧
    (collStart slot s).power = s.power ∧ (collStart slot s).cores = s.cores ∧ (collStart slot s).pages = s.pages ∧
    (collStart slot s).hif = s.hif := by
  unfold collStart
  dsimp only
  (repeat' split) <;> simp

@[simp] theorem treeFigures_same (slot : Nat) (v : TreeVal) (s : State) :
    (treeFigures slot v s).pending = s.pending ∧ (treeFigures slot v s).fresh = s.fresh ∧
    (treeFigures slot v s).out = s.out ∧ (treeFigures slot v s).ticks = s.ticks ∧
    (treeFigures slot v s).coldResets = s.coldResets ∧ (treeFigures slot v s).fuse = s.fuse ∧
    (treeFigures slot v s).modl = s.modl ∧ (treeFigures slot v s).power = s.power ∧
    (treeFigures slot v s).cores = s.cores ∧ (treeFigures slot v s).pages = s.pages ∧
    (treeFigures slot v s).counters = s.counters ∧ (treeFigures slot v s).tiers = s.tiers ∧
    (treeFigures slot v s).dwt = s.dwt ∧ (treeFigures slot v s).col = s.col ∧
    (treeFigures slot v s).nets = s.nets ∧ (treeFigures slot v s).sec = s.sec ∧
    (treeFigures slot v s).mgt = s.mgt ∧ (treeFigures slot v s).hif = s.hif := by
  unfold treeFigures
  (repeat' split) <;> simp

@[simp] theorem treeEnds_same (slot : Nat) (k : Coll) (v : TreeVal) (s : State) :
    (treeEnds slot k v s).pending = s.pending ∧ (treeEnds slot k v s).ticks = s.ticks ∧
    (treeEnds slot k v s).coldResets = s.coldResets ∧ (treeEnds slot k v s).fuse = s.fuse ∧
    (treeEnds slot k v s).power = s.power ∧ (treeEnds slot k v s).cores = s.cores ∧
    (treeEnds slot k v s).pages = s.pages ∧ (treeEnds slot k v s).counters = s.counters ∧
    (treeEnds slot k v s).dwt = s.dwt ∧ (treeEnds slot k v s).nets = s.nets ∧ (treeEnds slot k v s).hif = s.hif := by
  unfold treeEnds
  dsimp only
  (repeat' split) <;> simp

@[simp] theorem collOk_same (slot : Nat) (k : Coll) (s : State) :
    (collOk slot k s).pending = s.pending ∧ (collOk slot k s).ticks = s.ticks ∧
    (collOk slot k s).coldResets = s.coldResets ∧ (collOk slot k s).fuse = s.fuse ∧
    (collOk slot k s).power = s.power ∧ (collOk slot k s).cores = s.cores ∧ (collOk slot k s).pages = s.pages ∧
    (collOk slot k s).dwt = s.dwt ∧ (collOk slot k s).nets = s.nets ∧ (collOk slot k s).hif = s.hif := by
  unfold collOk
  (repeat' split) <;> simp

@[simp] theorem collEnds_same (slot : Nat) (k : Byte) (s : State) :
    (collEnds slot k s).pending = s.pending ∧ (collEnds slot k s).ticks = s.ticks ∧
    (collEnds slot k s).coldResets = s.coldResets ∧ (collEnds slot k s).fuse = s.fuse ∧
    (collEnds slot k s).power = s.power ∧ (collEnds slot k s).cores = s.cores ∧
    (collEnds slot k s).pages = s.pages ∧ (collEnds slot k s).dwt = s.dwt ∧ (collEnds slot k s).nets = s.nets ∧
    (collEnds slot k s).hif = s.hif := by
  unfold collEnds
  (repeat' split) <;> simp

@[simp] theorem beaconReceived_same (cn : Nat) (step : W64) (digest : BitVec 384) (s : State) :
    (beaconReceived cn step digest s).pending = s.pending ∧ (beaconReceived cn step digest s).ticks = s.ticks ∧
    (beaconReceived cn step digest s).coldResets = s.coldResets ∧ (beaconReceived cn step digest s).fuse = s.fuse ∧
    (beaconReceived cn step digest s).power = s.power ∧ (beaconReceived cn step digest s).cores = s.cores ∧
    (beaconReceived cn step digest s).pages = s.pages ∧ (beaconReceived cn step digest s).counters = s.counters ∧
    (beaconReceived cn step digest s).tiers = s.tiers ∧ (beaconReceived cn step digest s).dwt = s.dwt ∧
    (beaconReceived cn step digest s).nets = s.nets ∧ (beaconReceived cn step digest s).sec = s.sec ∧
    (beaconReceived cn step digest s).rcv = s.rcv ∧ (beaconReceived cn step digest s).hif = s.hif := by
  unfold beaconReceived
  dsimp only
  (repeat' split) <;> simp

@[simp] theorem anyAnswer_same (cn : Nat) (m : Msg) (s : State) :
    (anyAnswer cn m s).pending = s.pending ∧ (anyAnswer cn m s).ticks = s.ticks ∧
    (anyAnswer cn m s).coldResets = s.coldResets ∧ (anyAnswer cn m s).fuse = s.fuse ∧
    (anyAnswer cn m s).power = s.power ∧ (anyAnswer cn m s).cores = s.cores ∧ (anyAnswer cn m s).pages = s.pages ∧
    (anyAnswer cn m s).hif = s.hif := by
  simp [anyAnswer]

end Sys2Proof.Machine
end

