-- ==== Sys2Proof/Laws/MemCollectives.lean ====
section
/-! SUPPORT. Memory keeps its canonical form through the definitions of Machine/Collectives.lean. -/

namespace Sys2Proof.Machine

theorem readPMap_mem (slot va : Nat) (s : State) {u : State} {m : PMap} (h : readPMap slot va s = .ok u m)
    (hm : Memory.wf s.tiers.mem = true) : Memory.wf u.tiers.mem = true := by
  unfold readPMap at h
  dsimp only at h
  repeat (replace h := PMapOut.ite_ok (by simp) h)
  injection h with h _; subst h; simp (maxDischargeDepth := 12) [hm]

theorem takeMap_mem (op : Nat) (e : Env) (d : CollDesc) (s : State) {z : Done} (h : takeMap op e d s = .ok z) (hm : Memory.wf s.tiers.mem = true) :
    Memory.wf z.s.tiers.mem = true := by
  unfold takeMap at h
  dsimp only at h
  (repeat' split at h) <;> first
    | (cases h; done)
    | (injection h with h; subst h; first
        | (have q := readPMap_mem _ _ _ ‹readPMap _ _ _ = _› hm; simp (maxDischargeDepth := 12) [acceptColl, q]; done)
        | simp (maxDischargeDepth := 12) [acceptColl, hm])

theorem runColl_mem (op : Nat) (e : Env) {d : Done} (h : runColl op e = .ok d) (hm : Memory.wf e.s.tiers.mem = true) : Memory.wf d.s.tiers.mem = true := by
  unfold runColl at h
  dsimp only at h
  repeat' (obtain ⟨_, -, h⟩ := ok_of_bind h)
  exact takeMap_mem _ _ _ _ h (by simp (maxDischargeDepth := 12) [hm])

@[simp] theorem collRecorded_mem (slot : Nat) (k : Coll) (status : Nat) (s : State)
    (hm : Memory.wf s.tiers.mem = true) :
    Memory.wf (collRecorded slot k status s).tiers.mem = true := by
  simp (maxDischargeDepth := 12) [-State.ite_tiers, collRecorded, hm]

@[simp] theorem collDone_mem (slot : Nat) (k : Coll) (status : Nat) (s : State)
    (hm : Memory.wf s.tiers.mem = true) :
    Memory.wf (collDone slot k status s).tiers.mem = true := by
  simp (maxDischargeDepth := 12) [-State.ite_tiers, collDone, hm]

@[simp] theorem collFail_mem (slot num status : Nat) (s : State)
    (hm : Memory.wf s.tiers.mem = true) :
    Memory.wf (collFail slot num status s).tiers.mem = true := by
  unfold collFail
  (repeat' split) <;> simp (maxDischargeDepth := 12) [-State.ite_tiers, hm]

@[simp] theorem collsFall_mem (slot : Nat) (s : State)
    (hm : Memory.wf s.tiers.mem = true) :
    Memory.wf (collsFall slot s).tiers.mem = true := by
  simp +contextual (maxDischargeDepth := 12) [-State.ite_tiers, collsFall, hm]

@[simp] theorem sendDense_mem (slot num : Nat) (gradVa dest o n tile : Nat) (r : State × Bool) (i : Nat)
    (hm : Memory.wf r.1.tiers.mem = true) :
    Memory.wf (sendDense slot num gradVa dest o n tile r i).1.tiers.mem = true := by
  unfold sendDense
  dsimp only
  (repeat' split) <;> simp (maxDischargeDepth := 12) [-State.ite_tiers, hm]

@[simp] theorem leaveResidual_mem (slot va : Nat) (xs : List W32) (s : State) (i : Nat)
    (hm : Memory.wf s.tiers.mem = true) :
    Memory.wf (leaveResidual slot va xs s i).tiers.mem = true := by
  simp (maxDischargeDepth := 12) [-State.ite_tiers, leaveResidual, hm]

@[simp] theorem sendBlock_mem (slot num : Nat) (gradVa kk dest o n tile : Nat) (r : State × Bool) (block : Nat)
    (hm : Memory.wf r.1.tiers.mem = true) :
    Memory.wf (sendBlock slot num gradVa kk dest o n tile r block).1.tiers.mem = true := by
  unfold sendBlock
  dsimp only
  (repeat' split) <;> simp +contextual (maxDischargeDepth := 12) [-State.ite_tiers, hm]

@[simp] theorem sendShard_mem (slot : Nat) (k : Coll) (g dest o n : Nat) (s : State)
    (hm : Memory.wf s.tiers.mem = true) :
    Memory.wf (sendShard slot k g dest o n s).1.tiers.mem = true := by
  unfold sendShard
  dsimp only
  (repeat' split) <;> simp +contextual (maxDischargeDepth := 12) [-State.ite_tiers, hm]

@[simp] theorem advanceOne_mem (slot num g r : Nat) (s : State) (p : Nat × Nat)
    (hm : Memory.wf s.tiers.mem = true) :
    Memory.wf (advanceOne slot num g r s p).tiers.mem = true := by
  unfold advanceOne
  dsimp only
  (repeat' split) <;> simp (maxDischargeDepth := 12) [-State.ite_tiers, hm]

@[simp] theorem zeroTile_mem (slot va : Nat) (s : State) (t : Nat)
    (hm : Memory.wf s.tiers.mem = true) :
    Memory.wf (zeroTile slot va s t).tiers.mem = true := by
  simp (maxDischargeDepth := 12) [-State.ite_tiers, zeroTile, hm]

@[simp] theorem zeroFrozen_mem (slot : Nat) (k : Coll) (s : State)
    (hm : Memory.wf s.tiers.mem = true) :
    Memory.wf (zeroFrozen slot k s).tiers.mem = true := by
  simp +contextual (maxDischargeDepth := 12) [-State.ite_tiers, zeroFrozen, hm]

@[simp] theorem normTile_mem (slot va : Nat) (r : (State × Bool) × (W32 × W32)) (t : Nat) (hm : Memory.wf r.1.1.tiers.mem = true) :
    Memory.wf (normTile slot va r t).1.1.tiers.mem = true := by
  simp (maxDischargeDepth := 12) [normTile, hm]

@[simp] theorem localNorm_mem (slot va : Nat) (ts : List Nat) (s : State) (hm : Memory.wf s.tiers.mem = true) :
    Memory.wf (localNorm slot va ts s).1.1.tiers.mem = true := by
  suffices h : ∀ r : (State × Bool) × (W32 × W32), Memory.wf r.1.1.tiers.mem = true → Memory.wf (ts.foldl (normTile slot va) r).1.1.tiers.mem = true from
    h ((s, false), (0#32, 0#32)) hm
  induction ts with
  | nil => exact fun r hr => hr
  | cons t ts ih => exact fun r hr => ih (normTile slot va r t) (normTile_mem slot va r t hr)

@[simp] theorem takeLeaf_mem (slot num : Nat) (s : State)
    (hm : Memory.wf s.tiers.mem = true) :
    Memory.wf (takeLeaf slot num s).tiers.mem = true := by
  unfold takeLeaf
  dsimp only
  (repeat' split) <;> simp (maxDischargeDepth := 12) [-State.ite_tiers, hm]

@[simp] theorem advance_mem (slot num : Nat) (s : State)
    (hm : Memory.wf s.tiers.mem = true) :
    Memory.wf (advance slot num s).tiers.mem = true := by
  unfold advance
  dsimp only
  (repeat' split) <;> simp +contextual (maxDischargeDepth := 12) [-State.ite_tiers, hm]

@[simp] theorem sendGatherSeg_mem (slot : Nat) (k : Coll) (rank : Nat) (ds : List (Nat × Nat)) (tile : Nat) (a : State × Bool) (i : Nat)
    (hm : Memory.wf a.1.tiers.mem = true) :
    Memory.wf (sendGatherSeg slot k rank ds tile a i).1.tiers.mem = true := by
  unfold sendGatherSeg
  dsimp only
  (repeat' split) <;> simp (maxDischargeDepth := 12) [-State.ite_tiers, hm]

@[simp] theorem sendGather_mem (slot : Nat) (k : Coll) (s : State)
    (hm : Memory.wf s.tiers.mem = true) :
    Memory.wf (sendGather slot k s).tiers.mem = true := by
  simp +contextual (maxDischargeDepth := 12) [-State.ite_tiers, sendGather, hm]

@[simp] theorem copyTile_mem (slot : Nat) (d : CollDesc) (s : State) (tile : Nat)
    (hm : Memory.wf s.tiers.mem = true) :
    Memory.wf (copyTile slot d s tile).tiers.mem = true := by
  simp (maxDischargeDepth := 12) [-State.ite_tiers, copyTile, hm]

@[simp] theorem addPair_mem (slot va : Nat) (a : State × Bool) (p : Nat × Nat)
    (hm : Memory.wf a.1.tiers.mem = true) :
    Memory.wf (addPair slot va a p).1.tiers.mem = true := by
  simp (maxDischargeDepth := 12) [-State.ite_tiers, addPair, hm]

@[simp] theorem addSegment_mem (slot : Nat) (k : Coll) (tile first : Nat) (data : List W16) (s : State)
    (hm : Memory.wf s.tiers.mem = true) :
    Memory.wf (addSegment slot k tile first data s).1.tiers.mem = true := by
  unfold addSegment
  dsimp only
  (repeat' split) <;> simp +contextual (maxDischargeDepth := 12) [-State.ite_tiers, hm]

@[simp] theorem reduceSegment_mem (slot : Nat) (k : Coll) (shard level tile first : Nat) (data : List W16) (s : State)
    (hm : Memory.wf s.tiers.mem = true) :
    Memory.wf (reduceSegment slot k shard level tile first data s).s.tiers.mem = true := by
  unfold reduceSegment
  dsimp only
  (repeat' split) <;> simp (maxDischargeDepth := 12) [-State.ite_tiers, hm]

@[simp] theorem gatherSegment_mem (slot cn : Nat) (k : Coll) (m : CollMsg) (shard tile first : Nat) (data : List W16) (s : State)
    (hm : Memory.wf s.tiers.mem = true) :
    Memory.wf (gatherSegment slot cn k m shard tile first data s).tiers.mem = true := by
  simp (maxDischargeDepth := 12) [-State.ite_tiers, gatherSegment, hm]

@[simp] theorem collDiffers_mem (slot num src : Nat) (s : State)
    (hm : Memory.wf s.tiers.mem = true) :
    Memory.wf (collDiffers slot num src s).tiers.mem = true := by
  simp (maxDischargeDepth := 12) [-State.ite_tiers, collDiffers, hm]

@[simp] theorem collTake_mem (slot cn : Nat) (m : CollMsg) (s : State)
    (hm : Memory.wf s.tiers.mem = true) :
    Memory.wf (collTake slot cn m s).s.tiers.mem = true := by
  unfold collTake
  dsimp only
  (repeat' split) <;> simp (maxDischargeDepth := 12) [-State.ite_tiers, hm]

@[simp] theorem collArrives_mem (cn : Nat) (m : Msg) (b : CollMsg) (s : State)
    (hm : Memory.wf s.tiers.mem = true) :
    Memory.wf (collArrives cn m b s).tiers.mem = true := by
  simp (maxDischargeDepth := 12) [-State.ite_tiers, collArrives, hm]

@[simp] theorem collAnswered_mem (cn : Nat) (m : Msg) (s : State)
    (hm : Memory.wf s.tiers.mem = true) :
    Memory.wf (collAnswered cn m s).tiers.mem = true := by
  unfold collAnswered
  dsimp only
  (repeat' split) <;> simp (maxDischargeDepth := 12) [-State.ite_tiers, hm]

@[simp] theorem collWatch_mem (cn : Nat) (s t : State)
    (hm : Memory.wf t.tiers.mem = true) :
    Memory.wf (collWatch cn s t).tiers.mem = true := by
  simp (maxDischargeDepth := 12) [-State.ite_tiers, collWatch, hm]

@[simp] theorem takeEarly_mem (slot num : Nat) (s : State)
    (hm : Memory.wf s.tiers.mem = true) :
    Memory.wf (takeEarly slot num s).tiers.mem = true := by
  simp +contextual (maxDischargeDepth := 12) [-State.ite_tiers, takeEarly, hm]

@[simp] theorem collStart_mem (slot : Nat) (s : State)
    (hm : Memory.wf s.tiers.mem = true) :
    Memory.wf (collStart slot s).tiers.mem = true := by
  unfold collStart
  dsimp only
  (repeat' split) <;> simp +contextual (maxDischargeDepth := 12) [-State.ite_tiers, hm]

@[simp] theorem treeEnds_mem (slot : Nat) (k : Coll) (v : TreeVal) (s : State)
    (hm : Memory.wf s.tiers.mem = true) :
    Memory.wf (treeEnds slot k v s).tiers.mem = true := by
  unfold treeEnds
  dsimp only
  (repeat' split) <;> simp (maxDischargeDepth := 12) [-State.ite_tiers, hm]

@[simp] theorem collOk_mem (slot : Nat) (k : Coll) (s : State)
    (hm : Memory.wf s.tiers.mem = true) :
    Memory.wf (collOk slot k s).tiers.mem = true := by
  unfold collOk
  dsimp only
  (repeat' split) <;> simp +contextual (maxDischargeDepth := 12) [-State.ite_tiers, hm]

@[simp] theorem collEnds_mem (slot : Nat) (k : Byte) (s : State)
    (hm : Memory.wf s.tiers.mem = true) :
    Memory.wf (collEnds slot k s).tiers.mem = true := by
  unfold collEnds
  (repeat' split) <;> simp (maxDischargeDepth := 12) [-State.ite_tiers, hm]

@[simp] theorem anyAnswer_mem (cn : Nat) (m : Msg) (s : State)
    (hm : Memory.wf s.tiers.mem = true) :
    Memory.wf (anyAnswer cn m s).tiers.mem = true := by
  simp (maxDischargeDepth := 12) [-State.ite_tiers, anyAnswer, hm]

end Sys2Proof.Machine
end

