-- ==== Sys2Proof/Laws/SameRecovery.lean ====
section
/-! SUPPORT. What the definitions of Machine/Recovery.lean leave alone. -/

namespace Sys2Proof.Machine

@[simp] theorem eclipseCtx_same (s : State) (slot : Nat) :
    (eclipseCtx s slot).pending = s.pending ∧ (eclipseCtx s slot).fresh = s.fresh ∧
    (eclipseCtx s slot).out = s.out ∧ (eclipseCtx s slot).ticks = s.ticks ∧
    (eclipseCtx s slot).coldResets = s.coldResets ∧ (eclipseCtx s slot).fuse = s.fuse ∧
    (eclipseCtx s slot).modl = s.modl ∧ (eclipseCtx s slot).power = s.power ∧ (eclipseCtx s slot).cores = s.cores ∧
    (eclipseCtx s slot).pages = s.pages ∧ (eclipseCtx s slot).counters = s.counters ∧
    (eclipseCtx s slot).tiers = s.tiers ∧ (eclipseCtx s slot).dwt = s.dwt ∧ (eclipseCtx s slot).col = s.col ∧
    (eclipseCtx s slot).nets = s.nets ∧ (eclipseCtx s slot).sec = s.sec ∧ (eclipseCtx s slot).rcv = s.rcv ∧
    (eclipseCtx s slot).mgt = s.mgt ∧ (eclipseCtx s slot).hif = s.hif := by
  simp [eclipseCtx]

@[simp] theorem eclipseEncl_same (s : State) (i : Nat) :
    (eclipseEncl s i).pending = s.pending ∧ (eclipseEncl s i).fresh = s.fresh ∧ (eclipseEncl s i).out = s.out ∧
    (eclipseEncl s i).ticks = s.ticks ∧ (eclipseEncl s i).coldResets = s.coldResets ∧
    (eclipseEncl s i).fuse = s.fuse ∧ (eclipseEncl s i).modl = s.modl ∧ (eclipseEncl s i).power = s.power ∧
    (eclipseEncl s i).cores = s.cores ∧ (eclipseEncl s i).ctxs = s.ctxs ∧ (eclipseEncl s i).pages = s.pages ∧
    (eclipseEncl s i).counters = s.counters ∧ (eclipseEncl s i).tiers = s.tiers ∧ (eclipseEncl s i).dwt = s.dwt ∧
    (eclipseEncl s i).col = s.col ∧ (eclipseEncl s i).nets = s.nets ∧ (eclipseEncl s i).rcv = s.rcv ∧
    (eclipseEncl s i).mgt = s.mgt ∧ (eclipseEncl s i).hif = s.hif := by
  simp [eclipseEncl]

@[simp] theorem eclipseCore_same (s : State) (n : Nat) :
    (eclipseCore s n).pending = s.pending ∧ (eclipseCore s n).fresh = s.fresh ∧ (eclipseCore s n).out = s.out ∧
    (eclipseCore s n).ticks = s.ticks ∧ (eclipseCore s n).coldResets = s.coldResets ∧
    (eclipseCore s n).fuse = s.fuse ∧ (eclipseCore s n).modl = s.modl ∧ (eclipseCore s n).power = s.power ∧
    (eclipseCore s n).ctxs = s.ctxs ∧ (eclipseCore s n).pages = s.pages ∧ (eclipseCore s n).counters = s.counters ∧
    (eclipseCore s n).tiers = s.tiers ∧ (eclipseCore s n).dwt = s.dwt ∧ (eclipseCore s n).col = s.col ∧
    (eclipseCore s n).nets = s.nets ∧ (eclipseCore s n).sec = s.sec ∧ (eclipseCore s n).rcv = s.rcv ∧
    (eclipseCore s n).mgt = s.mgt ∧ (eclipseCore s n).hif = s.hif := by
  simp [eclipseCore]

@[simp] theorem uncoverCore_same (s : State) (n : Nat) :
    (uncoverCore s n).pending = s.pending ∧ (uncoverCore s n).fresh = s.fresh ∧ (uncoverCore s n).out = s.out ∧
    (uncoverCore s n).ticks = s.ticks ∧ (uncoverCore s n).coldResets = s.coldResets ∧
    (uncoverCore s n).fuse = s.fuse ∧ (uncoverCore s n).modl = s.modl ∧ (uncoverCore s n).power = s.power ∧
    (uncoverCore s n).ctxs = s.ctxs ∧ (uncoverCore s n).pages = s.pages ∧ (uncoverCore s n).counters = s.counters ∧
    (uncoverCore s n).tiers = s.tiers ∧ (uncoverCore s n).dwt = s.dwt ∧ (uncoverCore s n).col = s.col ∧
    (uncoverCore s n).nets = s.nets ∧ (uncoverCore s n).sec = s.sec ∧ (uncoverCore s n).rcv = s.rcv ∧
    (uncoverCore s n).mgt = s.mgt ∧ (uncoverCore s n).hif = s.hif := by
  simp [uncoverCore]

@[simp] theorem fence_same (d : Domain) (counts : Bool) (s : State) :
    (fence d counts s).pending = s.pending ∧ (fence d counts s).fresh = s.fresh ∧ (fence d counts s).out = s.out ∧
    (fence d counts s).ticks = s.ticks ∧ (fence d counts s).coldResets = s.coldResets ∧
    (fence d counts s).fuse = s.fuse ∧ (fence d counts s).modl = s.modl ∧ (fence d counts s).power = s.power ∧
    (fence d counts s).pages = s.pages ∧ (fence d counts s).counters = s.counters ∧
    (fence d counts s).tiers = s.tiers ∧ (fence d counts s).dwt = s.dwt ∧ (fence d counts s).col = s.col ∧
    (fence d counts s).nets = s.nets ∧ (fence d counts s).mgt = s.mgt ∧ (fence d counts s).hif = s.hif := by
  simp [fence]

@[simp] theorem fencePage_same (s : State) (slot : Nat) :
    (fencePage s slot).pending = s.pending ∧ (fencePage s slot).fresh = s.fresh ∧
    (fencePage s slot).ticks = s.ticks ∧ (fencePage s slot).coldResets = s.coldResets ∧
    (fencePage s slot).fuse = s.fuse ∧ (fencePage s slot).modl = s.modl ∧ (fencePage s slot).power = s.power ∧
    (fencePage s slot).cores = s.cores ∧ (fencePage s slot).ctxs = s.ctxs ∧
    (fencePage s slot).counters = s.counters ∧ (fencePage s slot).tiers = s.tiers ∧
    (fencePage s slot).dwt = s.dwt ∧ (fencePage s slot).col = s.col ∧ (fencePage s slot).nets = s.nets ∧
    (fencePage s slot).sec = s.sec ∧ (fencePage s slot).rcv = s.rcv ∧ (fencePage s slot).mgt = s.mgt ∧
    (fencePage s slot).hif = s.hif := by
  simp [fencePage]

@[simp] theorem answerFenced_same (d : Domain) (s : State) :
    (answerFenced d s).pending = s.pending ∧ (answerFenced d s).ticks = s.ticks ∧
    (answerFenced d s).coldResets = s.coldResets ∧ (answerFenced d s).fuse = s.fuse ∧
    (answerFenced d s).power = s.power ∧ (answerFenced d s).cores = s.cores ∧
    (answerFenced d s).counters = s.counters ∧ (answerFenced d s).tiers = s.tiers ∧
    (answerFenced d s).dwt = s.dwt ∧ (answerFenced d s).col = s.col ∧ (answerFenced d s).nets = s.nets ∧
    (answerFenced d s).sec = s.sec ∧ (answerFenced d s).rcv = s.rcv ∧ (answerFenced d s).hif = s.hif := by
  unfold answerFenced
  (repeat' split) <;> simp

@[simp] theorem resetCore_same (n : Nat) (s : State) :
    (resetCore n s).pending = s.pending ∧ (resetCore n s).fresh = s.fresh ∧ (resetCore n s).out = s.out ∧
    (resetCore n s).ticks = s.ticks ∧ (resetCore n s).coldResets = s.coldResets ∧ (resetCore n s).fuse = s.fuse ∧
    (resetCore n s).modl = s.modl ∧ (resetCore n s).power = s.power ∧ (resetCore n s).ctxs = s.ctxs ∧
    (resetCore n s).pages = s.pages ∧ (resetCore n s).counters = s.counters ∧ (resetCore n s).tiers = s.tiers ∧
    (resetCore n s).dwt = s.dwt ∧ (resetCore n s).col = s.col ∧ (resetCore n s).nets = s.nets ∧
    (resetCore n s).sec = s.sec ∧ (resetCore n s).rcv = s.rcv ∧ (resetCore n s).mgt = s.mgt ∧
    (resetCore n s).hif = s.hif := by
  simp [resetCore]

@[simp] theorem resetPort_same (n : Nat) (s : State) :
    (resetPort n s).pending = s.pending ∧ (resetPort n s).fresh = s.fresh ∧ (resetPort n s).out = s.out ∧
    (resetPort n s).ticks = s.ticks ∧ (resetPort n s).coldResets = s.coldResets ∧ (resetPort n s).fuse = s.fuse ∧
    (resetPort n s).modl = s.modl ∧ (resetPort n s).power = s.power ∧ (resetPort n s).cores = s.cores ∧
    (resetPort n s).ctxs = s.ctxs ∧ (resetPort n s).pages = s.pages ∧ (resetPort n s).counters = s.counters ∧
    (resetPort n s).tiers = s.tiers ∧ (resetPort n s).dwt = s.dwt ∧ (resetPort n s).col = s.col ∧
    (resetPort n s).sec = s.sec ∧ (resetPort n s).rcv = s.rcv ∧ (resetPort n s).mgt = s.mgt ∧
    (resetPort n s).hif = s.hif := by
  simp [resetPort]

@[simp] theorem relockPort_same (n : Nat) (s : State) :
    (relockPort n s).pending = s.pending ∧ (relockPort n s).fresh = s.fresh ∧ (relockPort n s).out = s.out ∧
    (relockPort n s).ticks = s.ticks ∧ (relockPort n s).coldResets = s.coldResets ∧
    (relockPort n s).fuse = s.fuse ∧ (relockPort n s).modl = s.modl ∧ (relockPort n s).power = s.power ∧
    (relockPort n s).cores = s.cores ∧ (relockPort n s).ctxs = s.ctxs ∧ (relockPort n s).pages = s.pages ∧
    (relockPort n s).counters = s.counters ∧ (relockPort n s).tiers = s.tiers ∧ (relockPort n s).dwt = s.dwt ∧
    (relockPort n s).col = s.col ∧ (relockPort n s).sec = s.sec ∧ (relockPort n s).rcv = s.rcv ∧
    (relockPort n s).mgt = s.mgt ∧ (relockPort n s).hif = s.hif := by
  simp [relockPort]

@[simp] theorem resetEncl_same (i : Nat) (s : State) :
    (resetEncl i s).pending = s.pending ∧ (resetEncl i s).fresh = s.fresh ∧ (resetEncl i s).out = s.out ∧
    (resetEncl i s).ticks = s.ticks ∧ (resetEncl i s).coldResets = s.coldResets ∧ (resetEncl i s).fuse = s.fuse ∧
    (resetEncl i s).modl = s.modl ∧ (resetEncl i s).power = s.power ∧ (resetEncl i s).pages = s.pages ∧
    (resetEncl i s).counters = s.counters ∧ (resetEncl i s).col = s.col ∧ (resetEncl i s).nets = s.nets ∧
    (resetEncl i s).rcv = s.rcv ∧ (resetEncl i s).mgt = s.mgt ∧ (resetEncl i s).hif = s.hif := by
  simp [resetEncl]

@[simp] theorem endResetting_same (s : State) :
    (endResetting s).pending = s.pending ∧ (endResetting s).fresh = s.fresh ∧ (endResetting s).out = s.out ∧
    (endResetting s).ticks = s.ticks ∧ (endResetting s).coldResets = s.coldResets ∧
    (endResetting s).fuse = s.fuse ∧ (endResetting s).modl = s.modl ∧ (endResetting s).power = s.power ∧
    (endResetting s).cores = s.cores ∧ (endResetting s).ctxs = s.ctxs ∧ (endResetting s).pages = s.pages ∧
    (endResetting s).counters = s.counters ∧ (endResetting s).tiers = s.tiers ∧ (endResetting s).dwt = s.dwt ∧
    (endResetting s).col = s.col ∧ (endResetting s).nets = s.nets ∧ (endResetting s).rcv = s.rcv ∧
    (endResetting s).mgt = s.mgt ∧ (endResetting s).hif = s.hif := by
  simp [endResetting]

@[simp] theorem dropMoves_same (s : State) :
    (dropMoves s).pending = s.pending ∧ (dropMoves s).fresh = s.fresh ∧ (dropMoves s).out = s.out ∧
    (dropMoves s).ticks = s.ticks ∧ (dropMoves s).coldResets = s.coldResets ∧ (dropMoves s).fuse = s.fuse ∧
    (dropMoves s).modl = s.modl ∧ (dropMoves s).power = s.power ∧ (dropMoves s).cores = s.cores ∧
    (dropMoves s).ctxs = s.ctxs ∧ (dropMoves s).pages = s.pages ∧ (dropMoves s).counters = s.counters ∧
    (dropMoves s).dwt = s.dwt ∧ (dropMoves s).col = s.col ∧ (dropMoves s).nets = s.nets ∧
    (dropMoves s).sec = s.sec ∧ (dropMoves s).rcv = s.rcv ∧ (dropMoves s).mgt = s.mgt ∧ (dropMoves s).hif = s.hif := by
  simp [dropMoves]

@[simp] theorem putCore_same (s : State) (p : Nat × Core) :
    (putCore s p).pending = s.pending ∧ (putCore s p).fresh = s.fresh ∧ (putCore s p).out = s.out ∧
    (putCore s p).ticks = s.ticks ∧ (putCore s p).coldResets = s.coldResets ∧ (putCore s p).fuse = s.fuse ∧
    (putCore s p).modl = s.modl ∧ (putCore s p).power = s.power ∧ (putCore s p).ctxs = s.ctxs ∧
    (putCore s p).pages = s.pages ∧ (putCore s p).counters = s.counters ∧ (putCore s p).tiers = s.tiers ∧
    (putCore s p).dwt = s.dwt ∧ (putCore s p).col = s.col ∧ (putCore s p).nets = s.nets ∧
    (putCore s p).sec = s.sec ∧ (putCore s p).rcv = s.rcv ∧ (putCore s p).mgt = s.mgt ∧ (putCore s p).hif = s.hif := by
  simp [putCore]

@[simp] theorem dropReplay_same (s : State) :
    (dropReplay s).pending = s.pending ∧ (dropReplay s).fresh = s.fresh ∧ (dropReplay s).out = s.out ∧
    (dropReplay s).ticks = s.ticks ∧ (dropReplay s).coldResets = s.coldResets ∧ (dropReplay s).fuse = s.fuse ∧
    (dropReplay s).modl = s.modl ∧ (dropReplay s).power = s.power ∧ (dropReplay s).pages = s.pages ∧
    (dropReplay s).dwt = s.dwt ∧ (dropReplay s).col = s.col ∧ (dropReplay s).nets = s.nets ∧
    (dropReplay s).sec = s.sec ∧ (dropReplay s).mgt = s.mgt ∧ (dropReplay s).hif = s.hif := by
  unfold dropReplay
  (repeat' split) <;> simp

@[simp] theorem endReplay_same (res : Bool) (s : State) :
    (endReplay res s).pending = s.pending ∧ (endReplay res s).fresh = s.fresh ∧ (endReplay res s).out = s.out ∧
    (endReplay res s).ticks = s.ticks ∧ (endReplay res s).coldResets = s.coldResets ∧
    (endReplay res s).fuse = s.fuse ∧ (endReplay res s).modl = s.modl ∧ (endReplay res s).power = s.power ∧
    (endReplay res s).pages = s.pages ∧ (endReplay res s).dwt = s.dwt ∧ (endReplay res s).col = s.col ∧
    (endReplay res s).nets = s.nets ∧ (endReplay res s).sec = s.sec ∧ (endReplay res s).mgt = s.mgt ∧
    (endReplay res s).hif = s.hif := by
  unfold endReplay
  (repeat' split) <;> simp

@[simp] theorem clearHub_same (s : State) :
    (clearHub s).pending = s.pending ∧ (clearHub s).fresh = s.fresh ∧ (clearHub s).out = s.out ∧
    (clearHub s).ticks = s.ticks ∧ (clearHub s).coldResets = s.coldResets ∧ (clearHub s).fuse = s.fuse ∧
    (clearHub s).modl = s.modl ∧ (clearHub s).power = s.power ∧ (clearHub s).cores = s.cores ∧
    (clearHub s).nets = s.nets ∧ (clearHub s).sec = s.sec ∧ (clearHub s).rcv = s.rcv ∧ (clearHub s).mgt = s.mgt := by
  simp [clearHub]

@[simp] theorem relockHub_same (s : State) :
    (relockHub s).pending = s.pending ∧ (relockHub s).fresh = s.fresh ∧ (relockHub s).out = s.out ∧
    (relockHub s).ticks = s.ticks ∧ (relockHub s).coldResets = s.coldResets ∧ (relockHub s).fuse = s.fuse ∧
    (relockHub s).modl = s.modl ∧ (relockHub s).power = s.power ∧ (relockHub s).cores = s.cores ∧
    (relockHub s).ctxs = s.ctxs ∧ (relockHub s).pages = s.pages ∧ (relockHub s).counters = s.counters ∧
    (relockHub s).tiers = s.tiers ∧ (relockHub s).nets = s.nets ∧ (relockHub s).sec = s.sec ∧
    (relockHub s).rcv = s.rcv ∧ (relockHub s).mgt = s.mgt := by
  simp [relockHub]

@[simp] theorem uncoverEncls_same (s : State) :
    (uncoverEncls s).pending = s.pending ∧ (uncoverEncls s).fresh = s.fresh ∧ (uncoverEncls s).out = s.out ∧
    (uncoverEncls s).ticks = s.ticks ∧ (uncoverEncls s).coldResets = s.coldResets ∧
    (uncoverEncls s).fuse = s.fuse ∧ (uncoverEncls s).modl = s.modl ∧ (uncoverEncls s).power = s.power ∧
    (uncoverEncls s).cores = s.cores ∧ (uncoverEncls s).ctxs = s.ctxs ∧ (uncoverEncls s).pages = s.pages ∧
    (uncoverEncls s).counters = s.counters ∧ (uncoverEncls s).tiers = s.tiers ∧ (uncoverEncls s).dwt = s.dwt ∧
    (uncoverEncls s).col = s.col ∧ (uncoverEncls s).nets = s.nets ∧ (uncoverEncls s).rcv = s.rcv ∧
    (uncoverEncls s).mgt = s.mgt ∧ (uncoverEncls s).hif = s.hif := by
  simp [uncoverEncls]

@[simp] theorem resetHub_same (fault : Bool) (s : State) :
    (resetHub fault s).pending = s.pending ∧ (resetHub fault s).ticks = s.ticks ∧
    (resetHub fault s).coldResets = s.coldResets ∧ (resetHub fault s).fuse = s.fuse ∧
    (resetHub fault s).power = s.power ∧ (resetHub fault s).cores = s.cores ∧ (resetHub fault s).rcv = s.rcv := by
  simp [resetHub]

@[simp] theorem zeroNear_same (s : State) :
    (zeroNear s).pending = s.pending ∧ (zeroNear s).fresh = s.fresh ∧ (zeroNear s).out = s.out ∧
    (zeroNear s).ticks = s.ticks ∧ (zeroNear s).coldResets = s.coldResets ∧ (zeroNear s).fuse = s.fuse ∧
    (zeroNear s).modl = s.modl ∧ (zeroNear s).power = s.power ∧ (zeroNear s).cores = s.cores ∧
    (zeroNear s).ctxs = s.ctxs ∧ (zeroNear s).pages = s.pages ∧ (zeroNear s).counters = s.counters ∧
    (zeroNear s).dwt = s.dwt ∧ (zeroNear s).col = s.col ∧ (zeroNear s).nets = s.nets ∧ (zeroNear s).sec = s.sec ∧
    (zeroNear s).rcv = s.rcv ∧ (zeroNear s).mgt = s.mgt ∧ (zeroNear s).hif = s.hif := by
  simp [zeroNear]

@[simp] theorem emptyTiers_same (s : State) :
    (emptyTiers s).pending = s.pending ∧ (emptyTiers s).fresh = s.fresh ∧ (emptyTiers s).out = s.out ∧
    (emptyTiers s).ticks = s.ticks ∧ (emptyTiers s).coldResets = s.coldResets ∧ (emptyTiers s).fuse = s.fuse ∧
    (emptyTiers s).modl = s.modl ∧ (emptyTiers s).power = s.power ∧ (emptyTiers s).cores = s.cores ∧
    (emptyTiers s).ctxs = s.ctxs ∧ (emptyTiers s).pages = s.pages ∧ (emptyTiers s).counters = s.counters ∧
    (emptyTiers s).dwt = s.dwt ∧ (emptyTiers s).col = s.col ∧ (emptyTiers s).nets = s.nets ∧
    (emptyTiers s).sec = s.sec ∧ (emptyTiers s).rcv = s.rcv ∧ (emptyTiers s).mgt = s.mgt ∧
    (emptyTiers s).hif = s.hif := by
  simp [emptyTiers]

@[simp] theorem coldUnits_same (s : State) :
    (coldUnits s).pending = s.pending ∧ (coldUnits s).fresh = s.fresh ∧ (coldUnits s).out = s.out ∧
    (coldUnits s).ticks = s.ticks ∧ (coldUnits s).coldResets = s.coldResets ∧ (coldUnits s).fuse = s.fuse ∧
    (coldUnits s).modl = s.modl ∧ (coldUnits s).power = s.power ∧ (coldUnits s).ctxs = s.ctxs ∧
    (coldUnits s).pages = s.pages ∧ (coldUnits s).counters = s.counters ∧ (coldUnits s).tiers = s.tiers ∧
    (coldUnits s).dwt = s.dwt ∧ (coldUnits s).col = s.col ∧ (coldUnits s).sec = s.sec ∧ (coldUnits s).rcv = s.rcv ∧
    (coldUnits s).mgt = s.mgt ∧ (coldUnits s).hif = s.hif := by
  simp [coldUnits]

@[simp] theorem coldRest_same (s : State) :
    (coldRest s).pending = s.pending ∧ (coldRest s).fresh = s.fresh ∧ (coldRest s).out = s.out ∧
    (coldRest s).ticks = s.ticks ∧ (coldRest s).coldResets = s.coldResets ∧ (coldRest s).fuse = s.fuse ∧
    (coldRest s).modl = s.modl ∧ (coldRest s).cores = s.cores ∧ (coldRest s).ctxs = s.ctxs ∧
    (coldRest s).pages = s.pages ∧ (coldRest s).counters = s.counters ∧ (coldRest s).tiers = s.tiers ∧
    (coldRest s).dwt = s.dwt ∧ (coldRest s).col = s.col ∧ (coldRest s).nets = s.nets := by
  simp [coldRest]

@[simp] theorem resetDevice_same (s : State) :
    (resetDevice s).pending = s.pending ∧ (resetDevice s).ticks = s.ticks ∧
    (resetDevice s).coldResets = s.coldResets ∧ (resetDevice s).fuse = s.fuse := by
  simp [resetDevice]

@[simp] theorem addCounted_same (dom : Nat) (s : State) :
    (addCounted dom s).pending = s.pending ∧ (addCounted dom s).fresh = s.fresh ∧ (addCounted dom s).out = s.out ∧
    (addCounted dom s).ticks = s.ticks ∧ (addCounted dom s).coldResets = s.coldResets ∧
    (addCounted dom s).fuse = s.fuse ∧ (addCounted dom s).modl = s.modl ∧ (addCounted dom s).power = s.power ∧
    (addCounted dom s).cores = s.cores ∧ (addCounted dom s).ctxs = s.ctxs ∧ (addCounted dom s).pages = s.pages ∧
    (addCounted dom s).counters = s.counters ∧ (addCounted dom s).tiers = s.tiers ∧
    (addCounted dom s).dwt = s.dwt ∧ (addCounted dom s).col = s.col ∧ (addCounted dom s).nets = s.nets ∧
    (addCounted dom s).sec = s.sec ∧ (addCounted dom s).mgt = s.mgt ∧ (addCounted dom s).hif = s.hif := by
  simp [addCounted]

@[simp] theorem outOfService_same (s : State) :
    (outOfService s).pending = s.pending ∧ (outOfService s).ticks = s.ticks ∧
    (outOfService s).coldResets = s.coldResets ∧ (outOfService s).fuse = s.fuse ∧
    (outOfService s).power = s.power ∧ (outOfService s).cores = s.cores ∧ (outOfService s).ctxs = s.ctxs ∧
    (outOfService s).pages = s.pages ∧ (outOfService s).counters = s.counters ∧ (outOfService s).tiers = s.tiers ∧
    (outOfService s).dwt = s.dwt ∧ (outOfService s).col = s.col ∧ (outOfService s).nets = s.nets ∧
    (outOfService s).sec = s.sec ∧ (outOfService s).hif = s.hif := by
  simp [outOfService]

@[simp] theorem countDevice_same (s : State) :
    (countDevice s).pending = s.pending ∧ (countDevice s).ticks = s.ticks ∧
    (countDevice s).coldResets = s.coldResets ∧ (countDevice s).fuse = s.fuse ∧ (countDevice s).power = s.power ∧
    (countDevice s).cores = s.cores ∧ (countDevice s).ctxs = s.ctxs ∧ (countDevice s).pages = s.pages ∧
    (countDevice s).counters = s.counters ∧ (countDevice s).tiers = s.tiers ∧ (countDevice s).dwt = s.dwt ∧
    (countDevice s).col = s.col ∧ (countDevice s).nets = s.nets ∧ (countDevice s).sec = s.sec ∧
    (countDevice s).hif = s.hif := by
  simp [countDevice]

@[simp] theorem countReset_same (d : Domain) (s : State) :
    (countReset d s).pending = s.pending ∧ (countReset d s).ticks = s.ticks ∧
    (countReset d s).coldResets = s.coldResets ∧ (countReset d s).fuse = s.fuse := by
  unfold countReset
  (repeat' split) <;> simp

@[simp] theorem resumeMeridian_same (slot : Nat) (s : State) :
    (resumeMeridian slot s).pending = s.pending ∧ (resumeMeridian slot s).ticks = s.ticks ∧
    (resumeMeridian slot s).coldResets = s.coldResets ∧ (resumeMeridian slot s).fuse = s.fuse ∧
    (resumeMeridian slot s).power = s.power ∧ (resumeMeridian slot s).pages = s.pages ∧
    (resumeMeridian slot s).dwt = s.dwt ∧ (resumeMeridian slot s).col = s.col ∧
    (resumeMeridian slot s).nets = s.nets ∧ (resumeMeridian slot s).sec = s.sec ∧
    (resumeMeridian slot s).rcv = s.rcv ∧ (resumeMeridian slot s).hif = s.hif := by
  simp [resumeMeridian]

@[simp] theorem resumeLost_same (slot : Nat) (s : State) :
    (resumeLost slot s).pending = s.pending ∧ (resumeLost slot s).ticks = s.ticks ∧
    (resumeLost slot s).coldResets = s.coldResets ∧ (resumeLost slot s).fuse = s.fuse ∧
    (resumeLost slot s).power = s.power ∧ (resumeLost slot s).pages = s.pages ∧ (resumeLost slot s).dwt = s.dwt ∧
    (resumeLost slot s).col = s.col ∧ (resumeLost slot s).nets = s.nets ∧ (resumeLost slot s).sec = s.sec ∧
    (resumeLost slot s).rcv = s.rcv ∧ (resumeLost slot s).hif = s.hif := by
  simp [resumeLost]

@[simp] theorem culprit_same (slot : Nat) (s : State) :
    (culprit slot s).pending = s.pending ∧ (culprit slot s).ticks = s.ticks ∧
    (culprit slot s).coldResets = s.coldResets ∧ (culprit slot s).fuse = s.fuse ∧
    (culprit slot s).power = s.power ∧ (culprit slot s).cores = s.cores ∧ (culprit slot s).pages = s.pages ∧
    (culprit slot s).counters = s.counters ∧ (culprit slot s).tiers = s.tiers ∧ (culprit slot s).dwt = s.dwt ∧
    (culprit slot s).col = s.col ∧ (culprit slot s).nets = s.nets ∧ (culprit slot s).sec = s.sec ∧
    (culprit slot s).hif = s.hif := by
  simp [culprit]

@[simp] theorem judge_same (s : State) (x : Suspect) :
    (judge s x).pending = s.pending ∧ (judge s x).ticks = s.ticks ∧ (judge s x).coldResets = s.coldResets ∧
    (judge s x).fuse = s.fuse ∧ (judge s x).power = s.power ∧ (judge s x).pages = s.pages ∧
    (judge s x).dwt = s.dwt ∧ (judge s x).col = s.col ∧ (judge s x).nets = s.nets ∧ (judge s x).sec = s.sec ∧
    (judge s x).hif = s.hif := by
  unfold judge
  (repeat' split) <;> simp

@[simp] theorem finishReplays_same (d : Domain) (s : State) :
    (finishReplays d s).pending = s.pending ∧ (finishReplays d s).ticks = s.ticks ∧
    (finishReplays d s).coldResets = s.coldResets ∧ (finishReplays d s).fuse = s.fuse ∧
    (finishReplays d s).power = s.power ∧ (finishReplays d s).pages = s.pages ∧ (finishReplays d s).dwt = s.dwt ∧
    (finishReplays d s).col = s.col ∧ (finishReplays d s).nets = s.nets ∧ (finishReplays d s).sec = s.sec ∧
    (finishReplays d s).hif = s.hif := by
  simp [finishReplays]

@[simp] theorem resetDomain_same (d : Domain) (fault : Bool) (s : State) :
    (resetDomain d fault s).pending = s.pending ∧ (resetDomain d fault s).ticks = s.ticks ∧
    (resetDomain d fault s).coldResets = s.coldResets ∧ (resetDomain d fault s).fuse = s.fuse := by
  unfold resetDomain
  (repeat' split) <;> simp

@[simp] theorem eraseEnds_same (k : Nat) (s : State) :
    (eraseEnds k s).pending = s.pending ∧ (eraseEnds k s).ticks = s.ticks ∧
    (eraseEnds k s).coldResets = s.coldResets ∧ (eraseEnds k s).fuse = s.fuse ∧ (eraseEnds k s).power = s.power ∧
    (eraseEnds k s).cores = s.cores ∧ (eraseEnds k s).ctxs = s.ctxs ∧ (eraseEnds k s).pages = s.pages ∧
    (eraseEnds k s).counters = s.counters ∧ (eraseEnds k s).tiers = s.tiers ∧ (eraseEnds k s).dwt = s.dwt ∧
    (eraseEnds k s).col = s.col ∧ (eraseEnds k s).nets = s.nets ∧ (eraseEnds k s).rcv = s.rcv ∧
    (eraseEnds k s).hif = s.hif := by
  unfold eraseEnds
  (repeat' split) <;> simp

@[simp] theorem finishReset_same (d : Domain) (s : State) :
    (finishReset d s).pending = s.pending ∧ (finishReset d s).ticks = s.ticks ∧
    (finishReset d s).coldResets = s.coldResets ∧ (finishReset d s).fuse = s.fuse := by
  unfold finishReset
  (repeat' split) <;> simp

@[simp] theorem startReset_same (d : Domain) (fault : Bool) (s0 : State) :
    (startReset d fault s0).pending = s0.pending ∧ (startReset d fault s0).ticks = s0.ticks ∧
    (startReset d fault s0).coldResets = s0.coldResets ∧ (startReset d fault s0).fuse = s0.fuse := by
  unfold startReset
  (repeat' split) <;> simp

@[simp] theorem keyErase_same (r : SecReq) (mac : BitVec 384) (s : State) :
    (keyErase r mac s).s.pending = s.pending ∧ (keyErase r mac s).s.ticks = s.ticks ∧
    (keyErase r mac s).s.coldResets = s.coldResets ∧ (keyErase r mac s).s.fuse = s.fuse := by
  unfold keyErase
  dsimp only
  (repeat' split) <;> simp

@[simp] theorem operatorReset_same (d : Domain) (s : State) :
    (operatorReset d s).pending = s.pending ∧ (operatorReset d s).ticks = s.ticks ∧
    (operatorReset d s).coldResets = s.coldResets ∧ (operatorReset d s).fuse = s.fuse := by
  simp [operatorReset]

@[simp] theorem engineFault_same (d : Domain) (slots : List Nat) (s : State) :
    (engineFault d slots s).pending = s.pending ∧ (engineFault d slots s).ticks = s.ticks ∧
    (engineFault d slots s).coldResets = s.coldResets ∧ (engineFault d slots s).fuse = s.fuse := by
  unfold engineFault
  (repeat' split) <;> simp

@[simp] theorem domainFault_same (d : Domain) (s : State) :
    (domainFault d s).pending = s.pending ∧ (domainFault d s).ticks = s.ticks ∧
    (domainFault d s).coldResets = s.coldResets ∧ (domainFault d s).fuse = s.fuse := by
  unfold domainFault
  (repeat' split) <;> simp

@[simp] theorem retried_same (n : Nat) (s : State) :
    (retried n s).pending = s.pending ∧ (retried n s).fresh = s.fresh ∧ (retried n s).out = s.out ∧
    (retried n s).ticks = s.ticks ∧ (retried n s).coldResets = s.coldResets ∧ (retried n s).fuse = s.fuse ∧
    (retried n s).modl = s.modl ∧ (retried n s).power = s.power ∧ (retried n s).cores = s.cores ∧
    (retried n s).ctxs = s.ctxs ∧ (retried n s).pages = s.pages ∧ (retried n s).counters = s.counters ∧
    (retried n s).tiers = s.tiers ∧ (retried n s).dwt = s.dwt ∧ (retried n s).col = s.col ∧
    (retried n s).nets = s.nets ∧ (retried n s).sec = s.sec ∧ (retried n s).mgt = s.mgt ∧ (retried n s).hif = s.hif := by
  simp [retried]

@[simp] theorem replayPages_same (slot : Nat) (s : State) :
    (replayPages slot s).pending = s.pending ∧ (replayPages slot s).ticks = s.ticks ∧
    (replayPages slot s).coldResets = s.coldResets ∧ (replayPages slot s).fuse = s.fuse ∧
    (replayPages slot s).power = s.power ∧ (replayPages slot s).cores = s.cores ∧
    (replayPages slot s).ctxs = s.ctxs ∧ (replayPages slot s).pages = s.pages ∧
    (replayPages slot s).counters = s.counters ∧ (replayPages slot s).dwt = s.dwt ∧
    (replayPages slot s).col = s.col ∧ (replayPages slot s).nets = s.nets ∧ (replayPages slot s).sec = s.sec ∧
    (replayPages slot s).hif = s.hif := by
  simp [replayPages]

@[simp] theorem replayCounters_same (slot : Nat) (atFault : List Nat) (s : State) :
    (replayCounters slot atFault s).pending = s.pending ∧ (replayCounters slot atFault s).fresh = s.fresh ∧
    (replayCounters slot atFault s).out = s.out ∧ (replayCounters slot atFault s).ticks = s.ticks ∧
    (replayCounters slot atFault s).coldResets = s.coldResets ∧ (replayCounters slot atFault s).fuse = s.fuse ∧
    (replayCounters slot atFault s).modl = s.modl ∧ (replayCounters slot atFault s).power = s.power ∧
    (replayCounters slot atFault s).cores = s.cores ∧ (replayCounters slot atFault s).ctxs = s.ctxs ∧
    (replayCounters slot atFault s).pages = s.pages ∧ (replayCounters slot atFault s).tiers = s.tiers ∧
    (replayCounters slot atFault s).dwt = s.dwt ∧ (replayCounters slot atFault s).col = s.col ∧
    (replayCounters slot atFault s).nets = s.nets ∧ (replayCounters slot atFault s).sec = s.sec ∧
    (replayCounters slot atFault s).rcv = s.rcv ∧ (replayCounters slot atFault s).mgt = s.mgt ∧
    (replayCounters slot atFault s).hif = s.hif := by
  simp [replayCounters]

@[simp] theorem replayCore_same (slot : Nat) (counts : List Nat) (s : State) (p : Nat × Nat) :
    (replayCore slot counts s p).pending = s.pending ∧ (replayCore slot counts s p).fresh = s.fresh ∧
    (replayCore slot counts s p).out = s.out ∧ (replayCore slot counts s p).ticks = s.ticks ∧
    (replayCore slot counts s p).coldResets = s.coldResets ∧ (replayCore slot counts s p).fuse = s.fuse ∧
    (replayCore slot counts s p).modl = s.modl ∧ (replayCore slot counts s p).power = s.power ∧
    (replayCore slot counts s p).ctxs = s.ctxs ∧ (replayCore slot counts s p).pages = s.pages ∧
    (replayCore slot counts s p).counters = s.counters ∧ (replayCore slot counts s p).tiers = s.tiers ∧
    (replayCore slot counts s p).dwt = s.dwt ∧ (replayCore slot counts s p).col = s.col ∧
    (replayCore slot counts s p).nets = s.nets ∧ (replayCore slot counts s p).sec = s.sec ∧
    (replayCore slot counts s p).rcv = s.rcv ∧ (replayCore slot counts s p).mgt = s.mgt ∧
    (replayCore slot counts s p).hif = s.hif := by
  simp [replayCore]

@[simp] theorem startReplay_same (d : Domain) (slot : Nat) (s : State) :
    (startReplay d slot s).pending = s.pending ∧ (startReplay d slot s).ticks = s.ticks ∧
    (startReplay d slot s).coldResets = s.coldResets ∧ (startReplay d slot s).fuse = s.fuse ∧
    (startReplay d slot s).power = s.power ∧ (startReplay d slot s).pages = s.pages ∧
    (startReplay d slot s).dwt = s.dwt ∧ (startReplay d slot s).col = s.col ∧
    (startReplay d slot s).nets = s.nets ∧ (startReplay d slot s).hif = s.hif := by
  simp [startReplay]

@[simp] theorem suspectReplay_same (d : Domain) (slot : Nat) (s : State) :
    (suspectReplay d slot s).pending = s.pending ∧ (suspectReplay d slot s).ticks = s.ticks ∧
    (suspectReplay d slot s).coldResets = s.coldResets ∧ (suspectReplay d slot s).fuse = s.fuse ∧
    (suspectReplay d slot s).power = s.power ∧ (suspectReplay d slot s).pages = s.pages ∧
    (suspectReplay d slot s).dwt = s.dwt ∧ (suspectReplay d slot s).col = s.col ∧
    (suspectReplay d slot s).nets = s.nets ∧ (suspectReplay d slot s).hif = s.hif := by
  simp [suspectReplay]

@[simp] theorem replayEnds_same (res : Bool) (s : State) :
    (replayEnds res s).pending = s.pending ∧ (replayEnds res s).ticks = s.ticks ∧
    (replayEnds res s).coldResets = s.coldResets ∧ (replayEnds res s).fuse = s.fuse ∧
    (replayEnds res s).power = s.power ∧ (replayEnds res s).pages = s.pages ∧ (replayEnds res s).dwt = s.dwt ∧
    (replayEnds res s).col = s.col ∧ (replayEnds res s).nets = s.nets ∧ (replayEnds res s).sec = s.sec ∧
    (replayEnds res s).hif = s.hif := by
  unfold replayEnds
  (repeat' split) <;> simp

theorem takeSpare_same (f : Fill) (s : State) {z : State} (h : takeSpare f s = some z) :
    z.pending = s.pending ∧ z.fresh = s.fresh ∧ z.out = s.out ∧ z.ticks = s.ticks ∧ z.coldResets = s.coldResets ∧
    z.fuse = s.fuse ∧ z.modl = s.modl ∧ z.power = s.power ∧ z.cores = s.cores ∧ z.ctxs = s.ctxs ∧
    z.pages = s.pages ∧ z.counters = s.counters ∧ z.dwt = s.dwt ∧ z.col = s.col ∧ z.nets = s.nets ∧ z.sec = s.sec ∧
    z.rcv = s.rcv ∧ z.mgt = s.mgt ∧ z.hif = s.hif := by
  simp only [takeSpare] at h
  (repeat' split at h) <;> simp_all <;> (try subst h) <;> simp_all

@[simp] theorem exhausted_same (f : Fill) (s : State) :
    (exhausted f s).pending = s.pending ∧ (exhausted f s).ticks = s.ticks ∧
    (exhausted f s).coldResets = s.coldResets ∧ (exhausted f s).fuse = s.fuse ∧ (exhausted f s).power = s.power ∧
    (exhausted f s).cores = s.cores ∧ (exhausted f s).ctxs = s.ctxs ∧ (exhausted f s).pages = s.pages ∧
    (exhausted f s).counters = s.counters ∧ (exhausted f s).dwt = s.dwt ∧ (exhausted f s).col = s.col ∧
    (exhausted f s).nets = s.nets ∧ (exhausted f s).sec = s.sec ∧ (exhausted f s).hif = s.hif := by
  simp [exhausted]

@[simp] theorem spareStart_same (f : Fill) (s : State) :
    (spareStart f s).pending = s.pending ∧ (spareStart f s).ticks = s.ticks ∧
    (spareStart f s).coldResets = s.coldResets ∧ (spareStart f s).fuse = s.fuse ∧
    (spareStart f s).power = s.power ∧ (spareStart f s).cores = s.cores ∧ (spareStart f s).ctxs = s.ctxs ∧
    (spareStart f s).pages = s.pages ∧ (spareStart f s).counters = s.counters ∧ (spareStart f s).dwt = s.dwt ∧
    (spareStart f s).col = s.col ∧ (spareStart f s).nets = s.nets ∧ (spareStart f s).sec = s.sec ∧
    (spareStart f s).hif = s.hif := by
  unfold spareStart
  dsimp only
  (repeat' split) <;> first | (simp; done) | (simp [takeSpare_same _ _ ‹takeSpare _ _ = some _›])

@[simp] theorem spareNoted_same (bank : Bool) (line : Nat) (s : State) :
    (spareNoted bank line s).pending = s.pending ∧ (spareNoted bank line s).fresh = s.fresh ∧
    (spareNoted bank line s).out = s.out ∧ (spareNoted bank line s).ticks = s.ticks ∧
    (spareNoted bank line s).coldResets = s.coldResets ∧ (spareNoted bank line s).fuse = s.fuse ∧
    (spareNoted bank line s).modl = s.modl ∧ (spareNoted bank line s).power = s.power ∧
    (spareNoted bank line s).cores = s.cores ∧ (spareNoted bank line s).ctxs = s.ctxs ∧
    (spareNoted bank line s).pages = s.pages ∧ (spareNoted bank line s).counters = s.counters ∧
    (spareNoted bank line s).dwt = s.dwt ∧ (spareNoted bank line s).col = s.col ∧
    (spareNoted bank line s).nets = s.nets ∧ (spareNoted bank line s).sec = s.sec ∧
    (spareNoted bank line s).rcv = s.rcv ∧ (spareNoted bank line s).mgt = s.mgt ∧
    (spareNoted bank line s).hif = s.hif := by
  simp [spareNoted]

@[simp] theorem nextFill_same (t : Tier) (s : State) :
    (nextFill t s).pending = s.pending ∧ (nextFill t s).fresh = s.fresh ∧ (nextFill t s).out = s.out ∧
    (nextFill t s).ticks = s.ticks ∧ (nextFill t s).coldResets = s.coldResets ∧ (nextFill t s).fuse = s.fuse ∧
    (nextFill t s).modl = s.modl ∧ (nextFill t s).power = s.power ∧ (nextFill t s).cores = s.cores ∧
    (nextFill t s).ctxs = s.ctxs ∧ (nextFill t s).pages = s.pages ∧ (nextFill t s).counters = s.counters ∧
    (nextFill t s).tiers = s.tiers ∧ (nextFill t s).dwt = s.dwt ∧ (nextFill t s).col = s.col ∧
    (nextFill t s).nets = s.nets ∧ (nextFill t s).sec = s.sec ∧ (nextFill t s).mgt = s.mgt ∧
    (nextFill t s).hif = s.hif := by
  unfold nextFill
  (repeat' split) <;> simp

@[simp] theorem poisonedPage_same (frame : Nat) (s : State) (k : Nat × Pte) :
    (poisonedPage frame s k).pending = s.pending ∧ (poisonedPage frame s k).ticks = s.ticks ∧
    (poisonedPage frame s k).coldResets = s.coldResets ∧ (poisonedPage frame s k).fuse = s.fuse ∧
    (poisonedPage frame s k).power = s.power ∧ (poisonedPage frame s k).cores = s.cores ∧
    (poisonedPage frame s k).pages = s.pages ∧ (poisonedPage frame s k).counters = s.counters ∧
    (poisonedPage frame s k).tiers = s.tiers ∧ (poisonedPage frame s k).dwt = s.dwt ∧
    (poisonedPage frame s k).col = s.col ∧ (poisonedPage frame s k).nets = s.nets ∧
    (poisonedPage frame s k).sec = s.sec ∧ (poisonedPage frame s k).rcv = s.rcv ∧
    (poisonedPage frame s k).hif = s.hif := by
  simp [poisonedPage]

@[simp] theorem fillLost_same (s : State) (line : Nat) :
    (fillLost s line).pending = s.pending ∧ (fillLost s line).ticks = s.ticks ∧
    (fillLost s line).coldResets = s.coldResets ∧ (fillLost s line).fuse = s.fuse ∧
    (fillLost s line).power = s.power ∧ (fillLost s line).cores = s.cores ∧ (fillLost s line).pages = s.pages ∧
    (fillLost s line).counters = s.counters ∧ (fillLost s line).dwt = s.dwt ∧ (fillLost s line).col = s.col ∧
    (fillLost s line).nets = s.nets ∧ (fillLost s line).sec = s.sec ∧ (fillLost s line).rcv = s.rcv ∧
    (fillLost s line).hif = s.hif := by
  simp [fillLost]

@[simp] theorem spareFails_same (f : Fill) (s : State) :
    (spareFails f s).pending = s.pending ∧ (spareFails f s).ticks = s.ticks ∧
    (spareFails f s).coldResets = s.coldResets ∧ (spareFails f s).fuse = s.fuse ∧
    (spareFails f s).power = s.power ∧ (spareFails f s).cores = s.cores ∧ (spareFails f s).ctxs = s.ctxs ∧
    (spareFails f s).pages = s.pages ∧ (spareFails f s).counters = s.counters ∧ (spareFails f s).dwt = s.dwt ∧
    (spareFails f s).col = s.col ∧ (spareFails f s).nets = s.nets ∧ (spareFails f s).sec = s.sec ∧
    (spareFails f s).hif = s.hif := by
  unfold spareFails
  dsimp only
  (repeat' split) <;> first | (simp; done) | (simp [takeSpare_same _ _ ‹takeSpare _ _ = some _›])

@[simp] theorem spareDone_same (t : Tier) (spareFailed : Bool) (failed : List Nat) (s : State) :
    (spareDone t spareFailed failed s).pending = s.pending ∧ (spareDone t spareFailed failed s).ticks = s.ticks ∧
    (spareDone t spareFailed failed s).coldResets = s.coldResets ∧
    (spareDone t spareFailed failed s).fuse = s.fuse ∧ (spareDone t spareFailed failed s).power = s.power ∧
    (spareDone t spareFailed failed s).cores = s.cores ∧ (spareDone t spareFailed failed s).pages = s.pages ∧
    (spareDone t spareFailed failed s).counters = s.counters ∧ (spareDone t spareFailed failed s).dwt = s.dwt ∧
    (spareDone t spareFailed failed s).col = s.col ∧ (spareDone t spareFailed failed s).nets = s.nets ∧
    (spareDone t spareFailed failed s).sec = s.sec ∧ (spareDone t spareFailed failed s).hif = s.hif := by
  unfold spareDone
  (repeat' split) <;> simp

end Sys2Proof.Machine
end

