-- ==== Sys2Proof/Laws/MemRecovery.lean ====
section
/-! SUPPORT. Memory keeps its canonical form through the definitions of Machine/Recovery.lean. -/

namespace Sys2Proof.Machine

@[simp] theorem resetEncl_mem (i : Nat) (s : State)
    (hm : Memory.wf s.tiers.mem = true) :
    Memory.wf (resetEncl i s).tiers.mem = true := by
  simp (maxDischargeDepth := 12) [-State.ite_tiers, resetEncl, hm]

@[simp] theorem dropMoves_mem (s : State)
    (hm : Memory.wf s.tiers.mem = true) :
    Memory.wf (dropMoves s).tiers.mem = true := by
  simp +contextual (maxDischargeDepth := 12) [-State.ite_tiers, dropMoves, hm]

@[simp] theorem dropReplay_mem (s : State)
    (hm : Memory.wf s.tiers.mem = true) :
    Memory.wf (dropReplay s).tiers.mem = true := by
  unfold dropReplay
  dsimp only
  (repeat' split) <;> simp +contextual (maxDischargeDepth := 12) [-State.ite_tiers, hm]

@[simp] theorem endReplay_mem (res : Bool) (s : State)
    (hm : Memory.wf s.tiers.mem = true) :
    Memory.wf (endReplay res s).tiers.mem = true := by
  unfold endReplay
  (repeat' split) <;> simp (maxDischargeDepth := 12) [-State.ite_tiers, hm]

@[simp] theorem clearHub_mem (s : State)
    (hm : Memory.wf s.tiers.mem = true) :
    Memory.wf (clearHub s).tiers.mem = true := by
  simp (maxDischargeDepth := 12) [-State.ite_tiers, clearHub, hm]

@[simp] theorem resetHub_mem (fault : Bool) (s : State)
    (hm : Memory.wf s.tiers.mem = true) :
    Memory.wf (resetHub fault s).tiers.mem = true := by
  simp (maxDischargeDepth := 12) [-State.ite_tiers, resetHub, hm]

@[simp] theorem zeroNear_mem (s : State)
    (hm : Memory.wf s.tiers.mem = true) :
    Memory.wf (zeroNear s).tiers.mem = true := by
  simp (maxDischargeDepth := 12) [-State.ite_tiers, zeroNear, hm]

@[simp] theorem emptyTiers_mem (s : State)
    (hm : Memory.wf s.tiers.mem = true) :
    Memory.wf (emptyTiers s).tiers.mem = true := by
  simp (maxDischargeDepth := 12) [-State.ite_tiers, emptyTiers, hm]

@[simp] theorem resetDevice_mem (s : State)
    (hm : Memory.wf s.tiers.mem = true) :
    Memory.wf (resetDevice s).tiers.mem = true := by
  simp (maxDischargeDepth := 12) [-State.ite_tiers, resetDevice, hm]

@[simp] theorem countReset_mem (d : Domain) (s : State)
    (hm : Memory.wf s.tiers.mem = true) :
    Memory.wf (countReset d s).tiers.mem = true := by
  unfold countReset
  (repeat' split) <;> simp (maxDischargeDepth := 12) [-State.ite_tiers, hm]

@[simp] theorem resumeMeridian_mem (slot : Nat) (s : State)
    (hm : Memory.wf s.tiers.mem = true) :
    Memory.wf (resumeMeridian slot s).tiers.mem = true := by
  simp +contextual (maxDischargeDepth := 12) [-State.ite_tiers, resumeMeridian, hm]

@[simp] theorem resumeLost_mem (slot : Nat) (s : State)
    (hm : Memory.wf s.tiers.mem = true) :
    Memory.wf (resumeLost slot s).tiers.mem = true := by
  simp (maxDischargeDepth := 12) [-State.ite_tiers, resumeLost, hm]

@[simp] theorem judge_mem (s : State) (x : Suspect)
    (hm : Memory.wf s.tiers.mem = true) :
    Memory.wf (judge s x).tiers.mem = true := by
  unfold judge
  (repeat' split) <;> simp (maxDischargeDepth := 12) [-State.ite_tiers, hm]

@[simp] theorem finishReplays_mem (d : Domain) (s : State)
    (hm : Memory.wf s.tiers.mem = true) :
    Memory.wf (finishReplays d s).tiers.mem = true := by
  simp +contextual (maxDischargeDepth := 12) [-State.ite_tiers, finishReplays, hm]

@[simp] theorem resetDomain_mem (d : Domain) (fault : Bool) (s : State)
    (hm : Memory.wf s.tiers.mem = true) :
    Memory.wf (resetDomain d fault s).tiers.mem = true := by
  unfold resetDomain
  (repeat' split) <;> simp (maxDischargeDepth := 12) [-State.ite_tiers, hm]

@[simp] theorem finishReset_mem (d : Domain) (s : State)
    (hm : Memory.wf s.tiers.mem = true) :
    Memory.wf (finishReset d s).tiers.mem = true := by
  unfold finishReset
  (repeat' split) <;> simp (maxDischargeDepth := 12) [-State.ite_tiers, hm]

@[simp] theorem startReset_mem (d : Domain) (fault : Bool) (s0 : State)
    (hm : Memory.wf s0.tiers.mem = true) :
    Memory.wf (startReset d fault s0).tiers.mem = true := by
  unfold startReset
  (repeat' split) <;> simp (maxDischargeDepth := 12) [-State.ite_tiers, hm]

@[simp] theorem keyErase_mem (r : SecReq) (mac : BitVec 384) (s : State)
    (hm : Memory.wf s.tiers.mem = true) :
    Memory.wf (keyErase r mac s).s.tiers.mem = true := by
  unfold keyErase
  dsimp only
  (repeat' split) <;> simp (maxDischargeDepth := 12) [-State.ite_tiers, hm]

@[simp] theorem operatorReset_mem (d : Domain) (s : State)
    (hm : Memory.wf s.tiers.mem = true) :
    Memory.wf (operatorReset d s).tiers.mem = true := by
  simp (maxDischargeDepth := 12) [-State.ite_tiers, operatorReset, hm]

@[simp] theorem engineFault_mem (d : Domain) (slots : List Nat) (s : State)
    (hm : Memory.wf s.tiers.mem = true) :
    Memory.wf (engineFault d slots s).tiers.mem = true := by
  unfold engineFault
  (repeat' split) <;> simp (maxDischargeDepth := 12) [-State.ite_tiers, hm]

@[simp] theorem domainFault_mem (d : Domain) (s : State)
    (hm : Memory.wf s.tiers.mem = true) :
    Memory.wf (domainFault d s).tiers.mem = true := by
  unfold domainFault
  (repeat' split) <;> simp (maxDischargeDepth := 12) [-State.ite_tiers, hm]

@[simp] theorem replayPages_mem (slot : Nat) (s : State)
    (hm : Memory.wf s.tiers.mem = true) :
    Memory.wf (replayPages slot s).tiers.mem = true := by
  simp +contextual (maxDischargeDepth := 12) [-State.ite_tiers, replayPages, hm]

@[simp] theorem startReplay_mem (d : Domain) (slot : Nat) (s : State)
    (hm : Memory.wf s.tiers.mem = true) :
    Memory.wf (startReplay d slot s).tiers.mem = true := by
  simp (maxDischargeDepth := 12) [-State.ite_tiers, startReplay, hm]

@[simp] theorem suspectReplay_mem (d : Domain) (slot : Nat) (s : State)
    (hm : Memory.wf s.tiers.mem = true) :
    Memory.wf (suspectReplay d slot s).tiers.mem = true := by
  simp (maxDischargeDepth := 12) [-State.ite_tiers, suspectReplay, hm]

@[simp] theorem replayEnds_mem (res : Bool) (s : State)
    (hm : Memory.wf s.tiers.mem = true) :
    Memory.wf (replayEnds res s).tiers.mem = true := by
  unfold replayEnds
  (repeat' split) <;> simp (maxDischargeDepth := 12) [-State.ite_tiers, hm]

theorem takeSpare_mem (f : Fill) (s : State) {z : State} (h : takeSpare f s = some z)
    (hm : Memory.wf s.tiers.mem = true) :
    Memory.wf z.tiers.mem = true := by
  unfold takeSpare at h
  dsimp only at h
  (repeat' split at h) <;> first | (cases h; done) | (injection h with h; subst h; simp (maxDischargeDepth := 12) [-State.ite_tiers, hm])

@[simp] theorem exhausted_mem (f : Fill) (s : State)
    (hm : Memory.wf s.tiers.mem = true) :
    Memory.wf (exhausted f s).tiers.mem = true := by
  simp (maxDischargeDepth := 12) [-State.ite_tiers, exhausted, hm]

@[simp] theorem spareStart_mem (f : Fill) (s : State) (hm : Memory.wf s.tiers.mem = true) : Memory.wf (spareStart f s).tiers.mem = true := by
  unfold spareStart
  dsimp only
  (repeat' split) <;> first
    | (have q := takeSpare_mem _ _ ‹takeSpare _ _ = some _› (by simp (maxDischargeDepth := 12) [hm]); simp (maxDischargeDepth := 12) [q]; done)
    | simp (maxDischargeDepth := 12) [hm]

@[simp] theorem spareNoted_mem (bank : Bool) (line : Nat) (s : State)
    (hm : Memory.wf s.tiers.mem = true) :
    Memory.wf (spareNoted bank line s).tiers.mem = true := by
  simp (maxDischargeDepth := 12) [-State.ite_tiers, spareNoted, hm]

@[simp] theorem fillLost_mem (s : State) (line : Nat)
    (hm : Memory.wf s.tiers.mem = true) :
    Memory.wf (fillLost s line).tiers.mem = true := by
  simp (maxDischargeDepth := 12) [-State.ite_tiers, fillLost, hm]

@[simp] theorem spareFails_mem (f : Fill) (s : State) (hm : Memory.wf s.tiers.mem = true) : Memory.wf (spareFails f s).tiers.mem = true := by
  unfold spareFails
  dsimp only
  (repeat' split) <;> first
    | (have q := takeSpare_mem _ _ ‹takeSpare _ _ = some _› (by simp (maxDischargeDepth := 12) [hm]); simp (maxDischargeDepth := 12) [q]; done)
    | simp (maxDischargeDepth := 12) [hm]

@[simp] theorem spareDone_mem (t : Tier) (spareFailed : Bool) (failed : List Nat) (s : State)
    (hm : Memory.wf s.tiers.mem = true) :
    Memory.wf (spareDone t spareFailed failed s).tiers.mem = true := by
  unfold spareDone
  dsimp only
  (repeat' split) <;> simp +contextual (maxDischargeDepth := 12) [-State.ite_tiers, hm]

end Sys2Proof.Machine
end

