-- ==== Sys2Proof/Laws/SameManagement.lean ====
section
/-! SUPPORT. What the definitions of Machine/Management.lean leave alone. -/

namespace Sys2Proof.Machine

@[simp] theorem State.setMbox_same (s : State) (m : Mbox) (b : Mailbox) :
    (State.setMbox s m b).pending = s.pending ∧ (State.setMbox s m b).fresh = s.fresh ∧
    (State.setMbox s m b).out = s.out ∧ (State.setMbox s m b).ticks = s.ticks ∧
    (State.setMbox s m b).coldResets = s.coldResets ∧ (State.setMbox s m b).fuse = s.fuse ∧
    (State.setMbox s m b).modl = s.modl ∧ (State.setMbox s m b).power = s.power ∧
    (State.setMbox s m b).cores = s.cores ∧ (State.setMbox s m b).ctxs = s.ctxs ∧
    (State.setMbox s m b).pages = s.pages ∧ (State.setMbox s m b).counters = s.counters ∧
    (State.setMbox s m b).tiers = s.tiers ∧ (State.setMbox s m b).dwt = s.dwt ∧ (State.setMbox s m b).col = s.col ∧
    (State.setMbox s m b).nets = s.nets ∧ (State.setMbox s m b).sec = s.sec ∧ (State.setMbox s m b).rcv = s.rcv ∧
    (State.setMbox s m b).hif = s.hif := by
  unfold State.setMbox
  (repeat' split) <;> simp

@[simp] theorem mbDone_same (m : Mbox) (c : MbCmd) (o : MbOut) :
    (mbDone m c o).pending = o.s.pending ∧ (mbDone m c o).fresh = o.s.fresh ∧ (mbDone m c o).ticks = o.s.ticks ∧
    (mbDone m c o).coldResets = o.s.coldResets ∧ (mbDone m c o).fuse = o.s.fuse ∧
    (mbDone m c o).power = o.s.power ∧ (mbDone m c o).cores = o.s.cores ∧ (mbDone m c o).ctxs = o.s.ctxs ∧
    (mbDone m c o).pages = o.s.pages ∧ (mbDone m c o).counters = o.s.counters ∧ (mbDone m c o).tiers = o.s.tiers ∧
    (mbDone m c o).dwt = o.s.dwt ∧ (mbDone m c o).col = o.s.col ∧ (mbDone m c o).nets = o.s.nets ∧
    (mbDone m c o).sec = o.s.sec ∧ (mbDone m c o).rcv = o.s.rcv ∧ (mbDone m c o).hif = o.s.hif := by
  simp [mbDone]

/-- A mailbox command keeps of these what its own part keeps. -/
theorem mbRun_same (m : Mbox) (c : MbCmd) (own : State → MbOut) (s : State) (h : ∀ u, (own u).s.pending = u.pending ∧ (own u).s.ticks = u.ticks ∧ (own u).s.coldResets = u.coldResets ∧ (own u).s.fuse = u.fuse) :
    (mbRun m c own s).pending = s.pending ∧ (mbRun m c own s).ticks = s.ticks ∧
    (mbRun m c own s).coldResets = s.coldResets ∧ (mbRun m c own s).fuse = s.fuse := by
  unfold mbRun
  dsimp only
  split
  · simp
  · split <;> simp [h]

@[simp] theorem rearm_same (ks : List Nat) (s : State) :
    (rearm ks s).pending = s.pending ∧ (rearm ks s).fresh = s.fresh ∧ (rearm ks s).out = s.out ∧
    (rearm ks s).ticks = s.ticks ∧ (rearm ks s).coldResets = s.coldResets ∧ (rearm ks s).fuse = s.fuse ∧
    (rearm ks s).modl = s.modl ∧ (rearm ks s).power = s.power ∧ (rearm ks s).cores = s.cores ∧
    (rearm ks s).ctxs = s.ctxs ∧ (rearm ks s).pages = s.pages ∧ (rearm ks s).counters = s.counters ∧
    (rearm ks s).tiers = s.tiers ∧ (rearm ks s).dwt = s.dwt ∧ (rearm ks s).col = s.col ∧
    (rearm ks s).nets = s.nets ∧ (rearm ks s).sec = s.sec ∧ (rearm ks s).rcv = s.rcv ∧ (rearm ks s).hif = s.hif := by
  simp [rearm]

@[simp] theorem readSensors_same (arg : Nat) (s : State) :
    (readSensors arg s).s.pending = s.pending ∧ (readSensors arg s).s.out = s.out ∧
    (readSensors arg s).s.ticks = s.ticks ∧ (readSensors arg s).s.coldResets = s.coldResets ∧
    (readSensors arg s).s.fuse = s.fuse ∧ (readSensors arg s).s.modl = s.modl ∧
    (readSensors arg s).s.power = s.power ∧ (readSensors arg s).s.cores = s.cores ∧
    (readSensors arg s).s.ctxs = s.ctxs ∧ (readSensors arg s).s.pages = s.pages ∧
    (readSensors arg s).s.counters = s.counters ∧ (readSensors arg s).s.tiers = s.tiers ∧
    (readSensors arg s).s.dwt = s.dwt ∧ (readSensors arg s).s.col = s.col ∧ (readSensors arg s).s.nets = s.nets ∧
    (readSensors arg s).s.sec = s.sec ∧ (readSensors arg s).s.rcv = s.rcv ∧ (readSensors arg s).s.hif = s.hif := by
  simp [readSensors]

@[simp] theorem readLog_same (n start : Nat) (s : State) :
    (readLog n start s).s.pending = s.pending ∧ (readLog n start s).s.fresh = s.fresh ∧
    (readLog n start s).s.out = s.out ∧ (readLog n start s).s.ticks = s.ticks ∧
    (readLog n start s).s.coldResets = s.coldResets ∧ (readLog n start s).s.fuse = s.fuse ∧
    (readLog n start s).s.modl = s.modl ∧ (readLog n start s).s.power = s.power ∧
    (readLog n start s).s.cores = s.cores ∧ (readLog n start s).s.ctxs = s.ctxs ∧
    (readLog n start s).s.pages = s.pages ∧ (readLog n start s).s.counters = s.counters ∧
    (readLog n start s).s.tiers = s.tiers ∧ (readLog n start s).s.dwt = s.dwt ∧ (readLog n start s).s.col = s.col ∧
    (readLog n start s).s.nets = s.nets ∧ (readLog n start s).s.sec = s.sec ∧ (readLog n start s).s.rcv = s.rcv ∧
    (readLog n start s).s.mgt = s.mgt ∧ (readLog n start s).s.hif = s.hif := by
  simp [readLog]

@[simp] theorem nvmCopy_same (e : LogEnt) (s : State) :
    (nvmCopy e s).pending = s.pending ∧ (nvmCopy e s).fresh = s.fresh ∧ (nvmCopy e s).out = s.out ∧
    (nvmCopy e s).ticks = s.ticks ∧ (nvmCopy e s).coldResets = s.coldResets ∧ (nvmCopy e s).fuse = s.fuse ∧
    (nvmCopy e s).modl = s.modl ∧ (nvmCopy e s).power = s.power ∧ (nvmCopy e s).cores = s.cores ∧
    (nvmCopy e s).ctxs = s.ctxs ∧ (nvmCopy e s).pages = s.pages ∧ (nvmCopy e s).counters = s.counters ∧
    (nvmCopy e s).tiers = s.tiers ∧ (nvmCopy e s).dwt = s.dwt ∧ (nvmCopy e s).col = s.col ∧
    (nvmCopy e s).nets = s.nets ∧ (nvmCopy e s).sec = s.sec ∧ (nvmCopy e s).rcv = s.rcv ∧ (nvmCopy e s).hif = s.hif := by
  simp [nvmCopy]

@[simp] theorem nvmFlush_same (s : State) :
    (nvmFlush s).pending = s.pending ∧ (nvmFlush s).fresh = s.fresh ∧ (nvmFlush s).out = s.out ∧
    (nvmFlush s).ticks = s.ticks ∧ (nvmFlush s).coldResets = s.coldResets ∧ (nvmFlush s).fuse = s.fuse ∧
    (nvmFlush s).modl = s.modl ∧ (nvmFlush s).power = s.power ∧ (nvmFlush s).cores = s.cores ∧
    (nvmFlush s).ctxs = s.ctxs ∧ (nvmFlush s).pages = s.pages ∧ (nvmFlush s).counters = s.counters ∧
    (nvmFlush s).tiers = s.tiers ∧ (nvmFlush s).dwt = s.dwt ∧ (nvmFlush s).col = s.col ∧
    (nvmFlush s).nets = s.nets ∧ (nvmFlush s).sec = s.sec ∧ (nvmFlush s).rcv = s.rcv ∧ (nvmFlush s).hif = s.hif := by
  simp [nvmFlush]

@[simp] theorem applySetting_same (id v : Nat) (s : State) :
    (applySetting id v s).pending = s.pending ∧ (applySetting id v s).ticks = s.ticks ∧
    (applySetting id v s).coldResets = s.coldResets ∧ (applySetting id v s).fuse = s.fuse ∧
    (applySetting id v s).ctxs = s.ctxs ∧ (applySetting id v s).pages = s.pages ∧
    (applySetting id v s).counters = s.counters ∧ (applySetting id v s).tiers = s.tiers ∧
    (applySetting id v s).dwt = s.dwt ∧ (applySetting id v s).col = s.col ∧ (applySetting id v s).sec = s.sec ∧
    (applySetting id v s).hif = s.hif := by
  unfold applySetting
  (repeat' split) <;> simp

@[simp] theorem putSetting_same (id v : Nat) (s : State) :
    (putSetting id v s).pending = s.pending ∧ (putSetting id v s).ticks = s.ticks ∧
    (putSetting id v s).coldResets = s.coldResets ∧ (putSetting id v s).fuse = s.fuse ∧
    (putSetting id v s).ctxs = s.ctxs ∧ (putSetting id v s).pages = s.pages ∧
    (putSetting id v s).counters = s.counters ∧ (putSetting id v s).tiers = s.tiers ∧
    (putSetting id v s).dwt = s.dwt ∧ (putSetting id v s).col = s.col ∧ (putSetting id v s).sec = s.sec ∧
    (putSetting id v s).hif = s.hif := by
  simp [putSetting]

@[simp] theorem getSetting_same (id : Nat) (s : State) :
    (getSetting id s).s.pending = s.pending ∧ (getSetting id s).s.fresh = s.fresh ∧
    (getSetting id s).s.out = s.out ∧ (getSetting id s).s.ticks = s.ticks ∧
    (getSetting id s).s.coldResets = s.coldResets ∧ (getSetting id s).s.fuse = s.fuse ∧
    (getSetting id s).s.modl = s.modl ∧ (getSetting id s).s.power = s.power ∧ (getSetting id s).s.cores = s.cores ∧
    (getSetting id s).s.ctxs = s.ctxs ∧ (getSetting id s).s.pages = s.pages ∧
    (getSetting id s).s.counters = s.counters ∧ (getSetting id s).s.tiers = s.tiers ∧
    (getSetting id s).s.dwt = s.dwt ∧ (getSetting id s).s.col = s.col ∧ (getSetting id s).s.nets = s.nets ∧
    (getSetting id s).s.sec = s.sec ∧ (getSetting id s).s.rcv = s.rcv ∧ (getSetting id s).s.mgt = s.mgt ∧
    (getSetting id s).s.hif = s.hif := by
  unfold getSetting
  (repeat' split) <;> simp

@[simp] theorem setSetting_same (id v : Nat) (s : State) :
    (setSetting id v s).s.pending = s.pending ∧ (setSetting id v s).s.ticks = s.ticks ∧
    (setSetting id v s).s.coldResets = s.coldResets ∧ (setSetting id v s).s.fuse = s.fuse ∧
    (setSetting id v s).s.ctxs = s.ctxs ∧ (setSetting id v s).s.pages = s.pages ∧
    (setSetting id v s).s.counters = s.counters ∧ (setSetting id v s).s.tiers = s.tiers ∧
    (setSetting id v s).s.dwt = s.dwt ∧ (setSetting id v s).s.col = s.col ∧ (setSetting id v s).s.sec = s.sec ∧
    (setSetting id v s).s.hif = s.hif := by
  unfold setSetting
  (repeat' split) <;> simp

@[simp] theorem mbStore_same (s : State) :
    (mbStore s).s.pending = s.pending ∧ (mbStore s).s.fresh = s.fresh ∧ (mbStore s).s.out = s.out ∧
    (mbStore s).s.ticks = s.ticks ∧ (mbStore s).s.coldResets = s.coldResets ∧ (mbStore s).s.fuse = s.fuse ∧
    (mbStore s).s.modl = s.modl ∧ (mbStore s).s.power = s.power ∧ (mbStore s).s.cores = s.cores ∧
    (mbStore s).s.ctxs = s.ctxs ∧ (mbStore s).s.pages = s.pages ∧ (mbStore s).s.counters = s.counters ∧
    (mbStore s).s.tiers = s.tiers ∧ (mbStore s).s.dwt = s.dwt ∧ (mbStore s).s.col = s.col ∧
    (mbStore s).s.nets = s.nets ∧ (mbStore s).s.sec = s.sec ∧ (mbStore s).s.rcv = s.rcv ∧ (mbStore s).s.hif = s.hif := by
  unfold mbStore
  (repeat' split) <;> simp

@[simp] theorem setPowerCap_same (arg : Nat) (s : State) :
    (setPowerCap arg s).s.pending = s.pending ∧ (setPowerCap arg s).s.ticks = s.ticks ∧
    (setPowerCap arg s).s.coldResets = s.coldResets ∧ (setPowerCap arg s).s.fuse = s.fuse ∧
    (setPowerCap arg s).s.ctxs = s.ctxs ∧ (setPowerCap arg s).s.pages = s.pages ∧
    (setPowerCap arg s).s.counters = s.counters ∧ (setPowerCap arg s).s.tiers = s.tiers ∧
    (setPowerCap arg s).s.dwt = s.dwt ∧ (setPowerCap arg s).s.col = s.col ∧ (setPowerCap arg s).s.sec = s.sec ∧
    (setPowerCap arg s).s.hif = s.hif := by
  unfold setPowerCap
  (repeat' split) <;> simp

@[simp] theorem powerDown_same (s : State) :
    (powerDown s).pending = s.pending ∧ (powerDown s).fresh = s.fresh ∧ (powerDown s).out = s.out ∧
    (powerDown s).ticks = s.ticks ∧ (powerDown s).coldResets = s.coldResets ∧ (powerDown s).fuse = s.fuse := by
  simp [powerDown]

@[simp] theorem releaseTrip_same (s : State) :
    (releaseTrip s).pending = s.pending ∧ (releaseTrip s).fresh = s.fresh ∧ (releaseTrip s).out = s.out ∧
    (releaseTrip s).ticks = s.ticks ∧ (releaseTrip s).coldResets = s.coldResets ∧ (releaseTrip s).fuse = s.fuse ∧
    (releaseTrip s).power = s.power ∧ (releaseTrip s).cores = s.cores ∧ (releaseTrip s).ctxs = s.ctxs ∧
    (releaseTrip s).pages = s.pages ∧ (releaseTrip s).counters = s.counters ∧ (releaseTrip s).tiers = s.tiers ∧
    (releaseTrip s).dwt = s.dwt ∧ (releaseTrip s).col = s.col ∧ (releaseTrip s).nets = s.nets ∧
    (releaseTrip s).sec = s.sec ∧ (releaseTrip s).rcv = s.rcv ∧ (releaseTrip s).mgt = s.mgt ∧
    (releaseTrip s).hif = s.hif := by
  simp [releaseTrip]

@[simp] theorem wake_same (s : State) :
    (wake s).pending = s.pending ∧ (wake s).fresh = s.fresh ∧ (wake s).out = s.out ∧ (wake s).ticks = s.ticks ∧
    (wake s).coldResets = s.coldResets ∧ (wake s).fuse = s.fuse ∧ (wake s).power = s.power ∧
    (wake s).cores = s.cores ∧ (wake s).ctxs = s.ctxs ∧ (wake s).pages = s.pages ∧ (wake s).counters = s.counters ∧
    (wake s).tiers = s.tiers ∧ (wake s).dwt = s.dwt ∧ (wake s).col = s.col ∧ (wake s).nets = s.nets ∧
    (wake s).sec = s.sec ∧ (wake s).rcv = s.rcv ∧ (wake s).mgt = s.mgt ∧ (wake s).hif = s.hif := by
  simp [wake]

@[simp] theorem setState_same (arg : Nat) (s : State) :
    (setState arg s).s.pending = s.pending ∧ (setState arg s).s.fresh = s.fresh ∧ (setState arg s).s.out = s.out ∧
    (setState arg s).s.ticks = s.ticks ∧ (setState arg s).s.coldResets = s.coldResets ∧
    (setState arg s).s.fuse = s.fuse := by
  unfold setState
  (repeat' split) <;> simp

@[simp] theorem State.setFw_same (s : State) (k : Nat) (f : FwSlot) :
    (State.setFw s k f).pending = s.pending ∧ (State.setFw s k f).fresh = s.fresh ∧
    (State.setFw s k f).out = s.out ∧ (State.setFw s k f).ticks = s.ticks ∧
    (State.setFw s k f).coldResets = s.coldResets ∧ (State.setFw s k f).fuse = s.fuse ∧
    (State.setFw s k f).modl = s.modl ∧ (State.setFw s k f).power = s.power ∧ (State.setFw s k f).cores = s.cores ∧
    (State.setFw s k f).ctxs = s.ctxs ∧ (State.setFw s k f).pages = s.pages ∧
    (State.setFw s k f).counters = s.counters ∧ (State.setFw s k f).tiers = s.tiers ∧
    (State.setFw s k f).dwt = s.dwt ∧ (State.setFw s k f).col = s.col ∧ (State.setFw s k f).nets = s.nets ∧
    (State.setFw s k f).sec = s.sec ∧ (State.setFw s k f).rcv = s.rcv ∧ (State.setFw s k f).hif = s.hif := by
  simp [State.setFw]

@[simp] theorem fwStage_same (inp : List Byte) (s : State) :
    (fwStage inp s).s.pending = s.pending ∧ (fwStage inp s).s.fresh = s.fresh ∧ (fwStage inp s).s.out = s.out ∧
    (fwStage inp s).s.ticks = s.ticks ∧ (fwStage inp s).s.coldResets = s.coldResets ∧
    (fwStage inp s).s.fuse = s.fuse ∧ (fwStage inp s).s.modl = s.modl ∧ (fwStage inp s).s.power = s.power ∧
    (fwStage inp s).s.cores = s.cores ∧ (fwStage inp s).s.ctxs = s.ctxs ∧ (fwStage inp s).s.pages = s.pages ∧
    (fwStage inp s).s.counters = s.counters ∧ (fwStage inp s).s.tiers = s.tiers ∧ (fwStage inp s).s.dwt = s.dwt ∧
    (fwStage inp s).s.col = s.col ∧ (fwStage inp s).s.nets = s.nets ∧ (fwStage inp s).s.sec = s.sec ∧
    (fwStage inp s).s.rcv = s.rcv ∧ (fwStage inp s).s.hif = s.hif := by
  unfold fwStage
  dsimp only
  (repeat' split) <;> simp

@[simp] theorem fwActivate_same (sig : Bool) (s : State) :
    (fwActivate sig s).s.pending = s.pending ∧ (fwActivate sig s).s.ticks = s.ticks ∧
    (fwActivate sig s).s.coldResets = s.coldResets ∧ (fwActivate sig s).s.fuse = s.fuse := by
  unfold fwActivate
  dsimp only
  (repeat' split) <;> simp

@[simp] theorem fwFallBack_same (s : State) :
    (fwFallBack s).pending = s.pending ∧ (fwFallBack s).ticks = s.ticks ∧
    (fwFallBack s).coldResets = s.coldResets ∧ (fwFallBack s).fuse = s.fuse := by
  simp [fwFallBack]

@[simp] theorem fwCommit_same (s : State) :
    (fwCommit s).s.pending = s.pending ∧ (fwCommit s).s.ticks = s.ticks ∧
    (fwCommit s).s.coldResets = s.coldResets ∧ (fwCommit s).s.fuse = s.fuse ∧ (fwCommit s).s.power = s.power ∧
    (fwCommit s).s.cores = s.cores ∧ (fwCommit s).s.pages = s.pages ∧ (fwCommit s).s.dwt = s.dwt ∧
    (fwCommit s).s.col = s.col ∧ (fwCommit s).s.nets = s.nets ∧ (fwCommit s).s.sec = s.sec ∧
    (fwCommit s).s.rcv = s.rcv ∧ (fwCommit s).s.hif = s.hif := by
  unfold fwCommit
  (repeat' split) <;> simp

@[simp] theorem ungate_same (n : Nat) (s : State) :
    (ungate n s).pending = s.pending ∧ (ungate n s).fresh = s.fresh ∧ (ungate n s).out = s.out ∧
    (ungate n s).ticks = s.ticks ∧ (ungate n s).coldResets = s.coldResets ∧ (ungate n s).fuse = s.fuse ∧
    (ungate n s).modl = s.modl ∧ (ungate n s).power = s.power ∧ (ungate n s).ctxs = s.ctxs ∧
    (ungate n s).pages = s.pages ∧ (ungate n s).counters = s.counters ∧ (ungate n s).tiers = s.tiers ∧
    (ungate n s).dwt = s.dwt ∧ (ungate n s).col = s.col ∧ (ungate n s).nets = s.nets ∧ (ungate n s).sec = s.sec ∧
    (ungate n s).rcv = s.rcv ∧ (ungate n s).mgt = s.mgt ∧ (ungate n s).hif = s.hif := by
  simp [ungate]

@[simp] theorem maintain_same (arg : Nat) (s : State) :
    (maintain arg s).s.pending = s.pending ∧ (maintain arg s).s.fresh = s.fresh ∧ (maintain arg s).s.out = s.out ∧
    (maintain arg s).s.ticks = s.ticks ∧ (maintain arg s).s.coldResets = s.coldResets ∧
    (maintain arg s).s.fuse = s.fuse ∧ (maintain arg s).s.modl = s.modl ∧ (maintain arg s).s.power = s.power ∧
    (maintain arg s).s.ctxs = s.ctxs ∧ (maintain arg s).s.pages = s.pages ∧
    (maintain arg s).s.counters = s.counters ∧ (maintain arg s).s.tiers = s.tiers ∧
    (maintain arg s).s.dwt = s.dwt ∧ (maintain arg s).s.col = s.col ∧ (maintain arg s).s.sec = s.sec ∧
    (maintain arg s).s.rcv = s.rcv ∧ (maintain arg s).s.hif = s.hif := by
  unfold maintain
  dsimp only
  (repeat' split) <;> simp

@[simp] theorem reinstate_same (s : State) :
    (reinstate s).s.pending = s.pending ∧ (reinstate s).s.ticks = s.ticks ∧
    (reinstate s).s.coldResets = s.coldResets ∧ (reinstate s).s.fuse = s.fuse := by
  unfold reinstate
  (repeat' split) <;> simp

@[simp] theorem mbCommand_same (c : MbCmd) (s : State) :
    (mbCommand c s).s.pending = s.pending ∧ (mbCommand c s).s.ticks = s.ticks ∧
    (mbCommand c s).s.coldResets = s.coldResets ∧ (mbCommand c s).s.fuse = s.fuse := by
  unfold mbCommand
  (repeat' split) <;> simp

@[simp] theorem mailbox_same (m : Mbox) (c : MbCmd) (s : State) :
    (mailbox m c s).pending = s.pending ∧ (mailbox m c s).ticks = s.ticks ∧
    (mailbox m c s).coldResets = s.coldResets ∧ (mailbox m c s).fuse = s.fuse := by
  unfold mailbox
  exact mbRun_same m c (mbCommand c) s (by simp)

@[simp] theorem dropAddr_same (s : State) :
    (dropAddr s).pending = s.pending ∧ (dropAddr s).fresh = s.fresh ∧ (dropAddr s).out = s.out ∧
    (dropAddr s).ticks = s.ticks ∧ (dropAddr s).coldResets = s.coldResets ∧ (dropAddr s).fuse = s.fuse ∧
    (dropAddr s).modl = s.modl ∧ (dropAddr s).power = s.power ∧ (dropAddr s).cores = s.cores ∧
    (dropAddr s).ctxs = s.ctxs ∧ (dropAddr s).pages = s.pages ∧ (dropAddr s).counters = s.counters ∧
    (dropAddr s).tiers = s.tiers ∧ (dropAddr s).dwt = s.dwt ∧ (dropAddr s).col = s.col ∧
    (dropAddr s).nets = s.nets ∧ (dropAddr s).sec = s.sec ∧ (dropAddr s).rcv = s.rcv ∧ (dropAddr s).hif = s.hif := by
  simp [dropAddr]

@[simp] theorem ordFalls_same (s : State) :
    (ordFalls s).pending = s.pending ∧ (ordFalls s).fresh = s.fresh ∧ (ordFalls s).out = s.out ∧
    (ordFalls s).ticks = s.ticks ∧ (ordFalls s).coldResets = s.coldResets ∧ (ordFalls s).fuse = s.fuse ∧
    (ordFalls s).modl = s.modl ∧ (ordFalls s).power = s.power ∧ (ordFalls s).cores = s.cores ∧
    (ordFalls s).ctxs = s.ctxs ∧ (ordFalls s).pages = s.pages ∧ (ordFalls s).counters = s.counters ∧
    (ordFalls s).tiers = s.tiers ∧ (ordFalls s).dwt = s.dwt ∧ (ordFalls s).col = s.col ∧
    (ordFalls s).nets = s.nets ∧ (ordFalls s).sec = s.sec ∧ (ordFalls s).rcv = s.rcv ∧ (ordFalls s).hif = s.hif := by
  simp [ordFalls]

@[simp] theorem entdaa_same (ordIn : Bool) (addr : Nat) (s : State) :
    (entdaa ordIn addr s).pending = s.pending ∧ (entdaa ordIn addr s).fresh = s.fresh ∧
    (entdaa ordIn addr s).out = s.out ∧ (entdaa ordIn addr s).ticks = s.ticks ∧
    (entdaa ordIn addr s).coldResets = s.coldResets ∧ (entdaa ordIn addr s).fuse = s.fuse ∧
    (entdaa ordIn addr s).modl = s.modl ∧ (entdaa ordIn addr s).power = s.power ∧
    (entdaa ordIn addr s).cores = s.cores ∧ (entdaa ordIn addr s).ctxs = s.ctxs ∧
    (entdaa ordIn addr s).pages = s.pages ∧ (entdaa ordIn addr s).counters = s.counters ∧
    (entdaa ordIn addr s).tiers = s.tiers ∧ (entdaa ordIn addr s).dwt = s.dwt ∧ (entdaa ordIn addr s).col = s.col ∧
    (entdaa ordIn addr s).nets = s.nets ∧ (entdaa ordIn addr s).sec = s.sec ∧ (entdaa ordIn addr s).rcv = s.rcv ∧
    (entdaa ordIn addr s).hif = s.hif := by
  simp [entdaa]

@[simp] theorem ccc_same (answer : List Byte) (s : State) :
    (ccc answer s).pending = s.pending ∧ (ccc answer s).fresh = s.fresh ∧ (ccc answer s).ticks = s.ticks ∧
    (ccc answer s).coldResets = s.coldResets ∧ (ccc answer s).fuse = s.fuse ∧ (ccc answer s).modl = s.modl ∧
    (ccc answer s).power = s.power ∧ (ccc answer s).cores = s.cores ∧ (ccc answer s).ctxs = s.ctxs ∧
    (ccc answer s).pages = s.pages ∧ (ccc answer s).counters = s.counters ∧ (ccc answer s).tiers = s.tiers ∧
    (ccc answer s).dwt = s.dwt ∧ (ccc answer s).col = s.col ∧ (ccc answer s).nets = s.nets ∧
    (ccc answer s).sec = s.sec ∧ (ccc answer s).rcv = s.rcv ∧ (ccc answer s).mgt = s.mgt ∧
    (ccc answer s).hif = s.hif := by
  simp [ccc]

@[simp] theorem thermPin_same (s : State) :
    (thermPin s).pending = s.pending ∧ (thermPin s).fresh = s.fresh ∧ (thermPin s).out = s.out ∧
    (thermPin s).ticks = s.ticks ∧ (thermPin s).coldResets = s.coldResets ∧ (thermPin s).fuse = s.fuse ∧
    (thermPin s).cores = s.cores ∧ (thermPin s).ctxs = s.ctxs ∧ (thermPin s).pages = s.pages ∧
    (thermPin s).counters = s.counters ∧ (thermPin s).tiers = s.tiers ∧ (thermPin s).dwt = s.dwt ∧
    (thermPin s).col = s.col ∧ (thermPin s).nets = s.nets ∧ (thermPin s).sec = s.sec ∧ (thermPin s).rcv = s.rcv ∧
    (thermPin s).mgt = s.mgt ∧ (thermPin s).hif = s.hif := by
  simp [thermPin]

@[simp] theorem thermalEnter_same (s : State) :
    (thermalEnter s).pending = s.pending ∧ (thermalEnter s).ticks = s.ticks ∧
    (thermalEnter s).coldResets = s.coldResets ∧ (thermalEnter s).fuse = s.fuse ∧
    (thermalEnter s).power = s.power ∧ (thermalEnter s).ctxs = s.ctxs ∧ (thermalEnter s).pages = s.pages ∧
    (thermalEnter s).counters = s.counters ∧ (thermalEnter s).tiers = s.tiers ∧ (thermalEnter s).dwt = s.dwt ∧
    (thermalEnter s).col = s.col ∧ (thermalEnter s).nets = s.nets ∧ (thermalEnter s).sec = s.sec ∧
    (thermalEnter s).rcv = s.rcv ∧ (thermalEnter s).hif = s.hif := by
  simp [thermalEnter]

@[simp] theorem thermalExit_same (s : State) :
    (thermalExit s).pending = s.pending ∧ (thermalExit s).ticks = s.ticks ∧
    (thermalExit s).coldResets = s.coldResets ∧ (thermalExit s).fuse = s.fuse ∧ (thermalExit s).ctxs = s.ctxs ∧
    (thermalExit s).pages = s.pages ∧ (thermalExit s).counters = s.counters ∧ (thermalExit s).tiers = s.tiers ∧
    (thermalExit s).dwt = s.dwt ∧ (thermalExit s).col = s.col ∧ (thermalExit s).nets = s.nets ∧
    (thermalExit s).sec = s.sec ∧ (thermalExit s).rcv = s.rcv ∧ (thermalExit s).hif = s.hif := by
  simp [thermalExit]

@[simp] theorem thermalStop_same (s : State) :
    (thermalStop s).pending = s.pending ∧ (thermalStop s).ticks = s.ticks ∧
    (thermalStop s).coldResets = s.coldResets ∧ (thermalStop s).fuse = s.fuse ∧ (thermalStop s).ctxs = s.ctxs ∧
    (thermalStop s).pages = s.pages ∧ (thermalStop s).counters = s.counters ∧ (thermalStop s).tiers = s.tiers ∧
    (thermalStop s).dwt = s.dwt ∧ (thermalStop s).col = s.col ∧ (thermalStop s).nets = s.nets ∧
    (thermalStop s).sec = s.sec ∧ (thermalStop s).rcv = s.rcv ∧ (thermalStop s).hif = s.hif := by
  simp [thermalStop]

@[simp] theorem thermalTrip_same (s : State) :
    (thermalTrip s).pending = s.pending ∧ (thermalTrip s).out = s.out ∧ (thermalTrip s).ticks = s.ticks ∧
    (thermalTrip s).coldResets = s.coldResets ∧ (thermalTrip s).fuse = s.fuse := by
  simp [thermalTrip]

@[simp] theorem takeReadings_same (rs : List (Nat × W32)) (s : State) :
    (takeReadings rs s).pending = s.pending ∧ (takeReadings rs s).fresh = s.fresh ∧
    (takeReadings rs s).out = s.out ∧ (takeReadings rs s).ticks = s.ticks ∧
    (takeReadings rs s).coldResets = s.coldResets ∧ (takeReadings rs s).fuse = s.fuse ∧
    (takeReadings rs s).modl = s.modl ∧ (takeReadings rs s).power = s.power ∧ (takeReadings rs s).cores = s.cores ∧
    (takeReadings rs s).ctxs = s.ctxs ∧ (takeReadings rs s).pages = s.pages ∧
    (takeReadings rs s).counters = s.counters ∧ (takeReadings rs s).tiers = s.tiers ∧
    (takeReadings rs s).dwt = s.dwt ∧ (takeReadings rs s).col = s.col ∧ (takeReadings rs s).nets = s.nets ∧
    (takeReadings rs s).sec = s.sec ∧ (takeReadings rs s).rcv = s.rcv ∧ (takeReadings rs s).hif = s.hif := by
  simp [takeReadings]

@[simp] theorem inputBack_same (s : State) :
    (inputBack s).pending = s.pending ∧ (inputBack s).fresh = s.fresh ∧ (inputBack s).out = s.out ∧
    (inputBack s).ticks = s.ticks ∧ (inputBack s).coldResets = s.coldResets ∧ (inputBack s).fuse = s.fuse ∧
    (inputBack s).power = s.power ∧ (inputBack s).cores = s.cores ∧ (inputBack s).ctxs = s.ctxs ∧
    (inputBack s).pages = s.pages ∧ (inputBack s).counters = s.counters ∧ (inputBack s).tiers = s.tiers ∧
    (inputBack s).dwt = s.dwt ∧ (inputBack s).col = s.col ∧ (inputBack s).nets = s.nets ∧
    (inputBack s).sec = s.sec ∧ (inputBack s).rcv = s.rcv ∧ (inputBack s).mgt = s.mgt ∧ (inputBack s).hif = s.hif := by
  simp [inputBack]

@[simp] theorem sensorUpdate_same (rs : List (Nat × W32)) (s : State) :
    (sensorUpdate rs s).pending = s.pending ∧ (sensorUpdate rs s).ticks = s.ticks ∧
    (sensorUpdate rs s).coldResets = s.coldResets ∧ (sensorUpdate rs s).fuse = s.fuse := by
  simp [sensorUpdate]

@[simp] theorem logDerate_same (n : Nat) (s : State) :
    (logDerate n s).pending = s.pending ∧ (logDerate n s).ticks = s.ticks ∧
    (logDerate n s).coldResets = s.coldResets ∧ (logDerate n s).fuse = s.fuse ∧ (logDerate n s).power = s.power ∧
    (logDerate n s).cores = s.cores ∧ (logDerate n s).ctxs = s.ctxs ∧ (logDerate n s).pages = s.pages ∧
    (logDerate n s).counters = s.counters ∧ (logDerate n s).tiers = s.tiers ∧ (logDerate n s).dwt = s.dwt ∧
    (logDerate n s).col = s.col ∧ (logDerate n s).nets = s.nets ∧ (logDerate n s).sec = s.sec ∧
    (logDerate n s).rcv = s.rcv ∧ (logDerate n s).hif = s.hif := by
  simp [logDerate]

@[simp] theorem gateStarted_same (n : Nat) (s : State) :
    (gateStarted n s).pending = s.pending ∧ (gateStarted n s).fresh = s.fresh ∧ (gateStarted n s).out = s.out ∧
    (gateStarted n s).ticks = s.ticks ∧ (gateStarted n s).coldResets = s.coldResets ∧
    (gateStarted n s).fuse = s.fuse ∧ (gateStarted n s).modl = s.modl ∧ (gateStarted n s).power = s.power ∧
    (gateStarted n s).ctxs = s.ctxs ∧ (gateStarted n s).pages = s.pages ∧ (gateStarted n s).counters = s.counters ∧
    (gateStarted n s).tiers = s.tiers ∧ (gateStarted n s).dwt = s.dwt ∧ (gateStarted n s).col = s.col ∧
    (gateStarted n s).nets = s.nets ∧ (gateStarted n s).sec = s.sec ∧ (gateStarted n s).rcv = s.rcv ∧
    (gateStarted n s).mgt = s.mgt ∧ (gateStarted n s).hif = s.hif := by
  simp [gateStarted]

@[simp] theorem replan_same (n steps : Nat) (table : List (Nat × Nat)) (s : State) :
    (replan n steps table s).pending = s.pending ∧ (replan n steps table s).ticks = s.ticks ∧
    (replan n steps table s).coldResets = s.coldResets ∧ (replan n steps table s).fuse = s.fuse ∧
    (replan n steps table s).power = s.power ∧ (replan n steps table s).ctxs = s.ctxs ∧
    (replan n steps table s).pages = s.pages ∧ (replan n steps table s).counters = s.counters ∧
    (replan n steps table s).tiers = s.tiers ∧ (replan n steps table s).dwt = s.dwt ∧
    (replan n steps table s).col = s.col ∧ (replan n steps table s).nets = s.nets ∧
    (replan n steps table s).sec = s.sec ∧ (replan n steps table s).rcv = s.rcv ∧
    (replan n steps table s).hif = s.hif := by
  simp [replan]

@[simp] theorem State.setLoadWin_same (s : State) (u : CalUnit) (w : LoadWin) :
    (State.setLoadWin s u w).pending = s.pending ∧ (State.setLoadWin s u w).fresh = s.fresh ∧
    (State.setLoadWin s u w).out = s.out ∧ (State.setLoadWin s u w).ticks = s.ticks ∧
    (State.setLoadWin s u w).coldResets = s.coldResets ∧ (State.setLoadWin s u w).fuse = s.fuse ∧
    (State.setLoadWin s u w).modl = s.modl ∧ (State.setLoadWin s u w).power = s.power ∧
    (State.setLoadWin s u w).cores = s.cores ∧ (State.setLoadWin s u w).ctxs = s.ctxs ∧
    (State.setLoadWin s u w).pages = s.pages ∧ (State.setLoadWin s u w).counters = s.counters ∧
    (State.setLoadWin s u w).tiers = s.tiers ∧ (State.setLoadWin s u w).dwt = s.dwt ∧
    (State.setLoadWin s u w).col = s.col ∧ (State.setLoadWin s u w).nets = s.nets ∧
    (State.setLoadWin s u w).sec = s.sec ∧ (State.setLoadWin s u w).rcv = s.rcv ∧
    (State.setLoadWin s u w).hif = s.hif := by
  simp [State.setLoadWin]

@[simp] theorem setDerate_same (u : CalUnit) (k : Nat) (s : State) :
    (setDerate u k s).pending = s.pending ∧ (setDerate u k s).fresh = s.fresh ∧ (setDerate u k s).out = s.out ∧
    (setDerate u k s).ticks = s.ticks ∧ (setDerate u k s).coldResets = s.coldResets ∧
    (setDerate u k s).fuse = s.fuse ∧ (setDerate u k s).modl = s.modl ∧ (setDerate u k s).power = s.power ∧
    (setDerate u k s).ctxs = s.ctxs ∧ (setDerate u k s).pages = s.pages ∧ (setDerate u k s).counters = s.counters ∧
    (setDerate u k s).dwt = s.dwt ∧ (setDerate u k s).col = s.col ∧ (setDerate u k s).sec = s.sec ∧
    (setDerate u k s).rcv = s.rcv ∧ (setDerate u k s).mgt = s.mgt ∧ (setDerate u k s).hif = s.hif := by
  unfold setDerate
  (repeat' split) <;> simp

@[simp] theorem logMargin_same (u : CalUnit) (s : State) :
    (logMargin u s).pending = s.pending ∧ (logMargin u s).ticks = s.ticks ∧
    (logMargin u s).coldResets = s.coldResets ∧ (logMargin u s).fuse = s.fuse ∧ (logMargin u s).power = s.power ∧
    (logMargin u s).cores = s.cores ∧ (logMargin u s).ctxs = s.ctxs ∧ (logMargin u s).pages = s.pages ∧
    (logMargin u s).counters = s.counters ∧ (logMargin u s).tiers = s.tiers ∧ (logMargin u s).dwt = s.dwt ∧
    (logMargin u s).col = s.col ∧ (logMargin u s).nets = s.nets ∧ (logMargin u s).sec = s.sec ∧
    (logMargin u s).rcv = s.rcv ∧ (logMargin u s).hif = s.hif := by
  simp [logMargin]

@[simp] theorem calibrate_same (u : CalUnit) (s : State) :
    (calibrate u s).pending = s.pending ∧ (calibrate u s).fresh = s.fresh ∧ (calibrate u s).out = s.out ∧
    (calibrate u s).ticks = s.ticks ∧ (calibrate u s).coldResets = s.coldResets ∧ (calibrate u s).fuse = s.fuse ∧
    (calibrate u s).modl = s.modl ∧ (calibrate u s).power = s.power ∧ (calibrate u s).ctxs = s.ctxs ∧
    (calibrate u s).pages = s.pages ∧ (calibrate u s).counters = s.counters ∧ (calibrate u s).dwt = s.dwt ∧
    (calibrate u s).col = s.col ∧ (calibrate u s).sec = s.sec ∧ (calibrate u s).rcv = s.rcv ∧
    (calibrate u s).hif = s.hif := by
  simp [calibrate]

@[simp] theorem loadDerated_same (u : CalUnit) (mv : Nat) (s : State) :
    (loadDerated u mv s).pending = s.pending ∧ (loadDerated u mv s).ticks = s.ticks ∧
    (loadDerated u mv s).coldResets = s.coldResets ∧ (loadDerated u mv s).fuse = s.fuse := by
  simp [loadDerated]

@[simp] theorem loadVerified_same (u : CalUnit) (mv : Nat) (s : State) :
    (loadVerified u mv s).pending = s.pending ∧ (loadVerified u mv s).ticks = s.ticks ∧
    (loadVerified u mv s).coldResets = s.coldResets ∧ (loadVerified u mv s).fuse = s.fuse ∧
    (loadVerified u mv s).power = s.power ∧ (loadVerified u mv s).cores = s.cores ∧
    (loadVerified u mv s).ctxs = s.ctxs ∧ (loadVerified u mv s).pages = s.pages ∧
    (loadVerified u mv s).counters = s.counters ∧ (loadVerified u mv s).tiers = s.tiers ∧
    (loadVerified u mv s).dwt = s.dwt ∧ (loadVerified u mv s).col = s.col ∧ (loadVerified u mv s).nets = s.nets ∧
    (loadVerified u mv s).sec = s.sec ∧ (loadVerified u mv s).rcv = s.rcv ∧ (loadVerified u mv s).hif = s.hif := by
  simp [loadVerified]

@[simp] theorem retrainLink_same (u : CalUnit) (s : State) :
    (retrainLink u s).pending = s.pending ∧ (retrainLink u s).fresh = s.fresh ∧ (retrainLink u s).out = s.out ∧
    (retrainLink u s).ticks = s.ticks ∧ (retrainLink u s).coldResets = s.coldResets ∧
    (retrainLink u s).fuse = s.fuse ∧ (retrainLink u s).modl = s.modl ∧ (retrainLink u s).power = s.power ∧
    (retrainLink u s).cores = s.cores ∧ (retrainLink u s).ctxs = s.ctxs ∧ (retrainLink u s).pages = s.pages ∧
    (retrainLink u s).counters = s.counters ∧ (retrainLink u s).tiers = s.tiers ∧ (retrainLink u s).dwt = s.dwt ∧
    (retrainLink u s).col = s.col ∧ (retrainLink u s).sec = s.sec ∧ (retrainLink u s).rcv = s.rcv ∧
    (retrainLink u s).mgt = s.mgt ∧ (retrainLink u s).hif = s.hif := by
  unfold retrainLink
  (repeat' split) <;> simp

@[simp] theorem retrainDone_same (u : CalUnit) (s : State) :
    (retrainDone u s).pending = s.pending ∧ (retrainDone u s).ticks = s.ticks ∧
    (retrainDone u s).coldResets = s.coldResets ∧ (retrainDone u s).fuse = s.fuse ∧
    (retrainDone u s).power = s.power ∧ (retrainDone u s).ctxs = s.ctxs ∧ (retrainDone u s).pages = s.pages ∧
    (retrainDone u s).counters = s.counters ∧ (retrainDone u s).dwt = s.dwt ∧ (retrainDone u s).col = s.col ∧
    (retrainDone u s).sec = s.sec ∧ (retrainDone u s).rcv = s.rcv ∧ (retrainDone u s).hif = s.hif := by
  simp [retrainDone]

@[simp] theorem coreGate_same (n : Nat) (s : State) :
    (coreGate n s).pending = s.pending ∧ (coreGate n s).fresh = s.fresh ∧ (coreGate n s).out = s.out ∧
    (coreGate n s).ticks = s.ticks ∧ (coreGate n s).coldResets = s.coldResets ∧ (coreGate n s).fuse = s.fuse ∧
    (coreGate n s).modl = s.modl ∧ (coreGate n s).power = s.power ∧ (coreGate n s).ctxs = s.ctxs ∧
    (coreGate n s).pages = s.pages ∧ (coreGate n s).counters = s.counters ∧ (coreGate n s).tiers = s.tiers ∧
    (coreGate n s).dwt = s.dwt ∧ (coreGate n s).col = s.col ∧ (coreGate n s).nets = s.nets ∧
    (coreGate n s).sec = s.sec ∧ (coreGate n s).rcv = s.rcv ∧ (coreGate n s).mgt = s.mgt ∧
    (coreGate n s).hif = s.hif := by
  simp [coreGate]

end Sys2Proof.Machine
end

