-- ==== Sys2Proof/Laws/MemManagement.lean ====
section
/-! SUPPORT. Memory keeps its canonical form through the definitions of Machine/Management.lean. -/

namespace Sys2Proof.Machine

theorem mbRun_mem (m : Mbox) (c : MbCmd) (own : State → MbOut) (s : State) (hm : Memory.wf s.tiers.mem = true)
    (h : ∀ u, Memory.wf u.tiers.mem = true → Memory.wf (own u).s.tiers.mem = true) : Memory.wf (mbRun m c own s).tiers.mem = true := by
  unfold mbRun
  dsimp only
  split
  · exact hm
  · split <;> simp (maxDischargeDepth := 12) [h, hm]

@[simp] theorem powerDown_mem (s : State)
    (hm : Memory.wf s.tiers.mem = true) :
    Memory.wf (powerDown s).tiers.mem = true := by
  simp (maxDischargeDepth := 12) [-State.ite_tiers, powerDown, hm]

@[simp] theorem setState_mem (arg : Nat) (s : State)
    (hm : Memory.wf s.tiers.mem = true) :
    Memory.wf (setState arg s).s.tiers.mem = true := by
  unfold setState
  (repeat' split) <;> simp (maxDischargeDepth := 12) [-State.ite_tiers, hm]

@[simp] theorem fwActivate_mem (sig : Bool) (s : State)
    (hm : Memory.wf s.tiers.mem = true) :
    Memory.wf (fwActivate sig s).s.tiers.mem = true := by
  unfold fwActivate
  dsimp only
  (repeat' split) <;> simp (maxDischargeDepth := 12) [-State.ite_tiers, hm]

@[simp] theorem fwFallBack_mem (s : State)
    (hm : Memory.wf s.tiers.mem = true) :
    Memory.wf (fwFallBack s).tiers.mem = true := by
  simp (maxDischargeDepth := 12) [-State.ite_tiers, fwFallBack, hm]

@[simp] theorem fwCommit_mem (s : State)
    (hm : Memory.wf s.tiers.mem = true) :
    Memory.wf (fwCommit s).s.tiers.mem = true := by
  unfold fwCommit
  (repeat' split) <;> simp (maxDischargeDepth := 12) [-State.ite_tiers, hm]

@[simp] theorem reinstate_mem (s : State)
    (hm : Memory.wf s.tiers.mem = true) :
    Memory.wf (reinstate s).s.tiers.mem = true := by
  unfold reinstate
  (repeat' split) <;> simp (maxDischargeDepth := 12) [-State.ite_tiers, hm]

@[simp] theorem mbCommand_mem (c : MbCmd) (s : State)
    (hm : Memory.wf s.tiers.mem = true) :
    Memory.wf (mbCommand c s).s.tiers.mem = true := by
  unfold mbCommand
  (repeat' split) <;> simp (maxDischargeDepth := 12) [-State.ite_tiers, hm]

@[simp] theorem mailbox_mem (m : Mbox) (c : MbCmd) (s : State) (hm : Memory.wf s.tiers.mem = true) : Memory.wf (mailbox m c s).tiers.mem = true := by
  unfold mailbox
  exact mbRun_mem m c (mbCommand c) s hm (fun u hu => mbCommand_mem c u hu)

@[simp] theorem thermalTrip_mem (s : State)
    (hm : Memory.wf s.tiers.mem = true) :
    Memory.wf (thermalTrip s).tiers.mem = true := by
  simp (maxDischargeDepth := 12) [-State.ite_tiers, thermalTrip, hm]

@[simp] theorem sensorUpdate_mem (rs : List (Nat × W32)) (s : State)
    (hm : Memory.wf s.tiers.mem = true) :
    Memory.wf (sensorUpdate rs s).tiers.mem = true := by
  simp (maxDischargeDepth := 12) [-State.ite_tiers, sensorUpdate, hm]

@[simp] theorem setDerate_mem (u : CalUnit) (k : Nat) (s : State)
    (hm : Memory.wf s.tiers.mem = true) :
    Memory.wf (setDerate u k s).tiers.mem = true := by
  unfold setDerate
  (repeat' split) <;> simp (maxDischargeDepth := 12) [-State.ite_tiers, hm]

@[simp] theorem calibrate_mem (u : CalUnit) (s : State)
    (hm : Memory.wf s.tiers.mem = true) :
    Memory.wf (calibrate u s).tiers.mem = true := by
  simp (maxDischargeDepth := 12) [-State.ite_tiers, calibrate, hm]

@[simp] theorem loadDerated_mem (u : CalUnit) (mv : Nat) (s : State)
    (hm : Memory.wf s.tiers.mem = true) :
    Memory.wf (loadDerated u mv s).tiers.mem = true := by
  simp (maxDischargeDepth := 12) [-State.ite_tiers, loadDerated, hm]

@[simp] theorem retrainDone_mem (u : CalUnit) (s : State)
    (hm : Memory.wf s.tiers.mem = true) :
    Memory.wf (retrainDone u s).tiers.mem = true := by
  simp (maxDischargeDepth := 12) [-State.ite_tiers, retrainDone, hm]

end Sys2Proof.Machine
end

