-- ==== Sys2Proof/Laws/SameRegisters.lean ====
section
/-! SUPPORT. What the definitions of Machine/Registers.lean leave alone. -/

namespace Sys2Proof.Machine

@[simp] theorem lockedWrite_same (s : State) :
    (lockedWrite s).pending = s.pending ∧ (lockedWrite s).ticks = s.ticks ∧
    (lockedWrite s).coldResets = s.coldResets ∧ (lockedWrite s).fuse = s.fuse ∧ (lockedWrite s).power = s.power ∧
    (lockedWrite s).cores = s.cores ∧ (lockedWrite s).ctxs = s.ctxs ∧ (lockedWrite s).pages = s.pages ∧
    (lockedWrite s).counters = s.counters ∧ (lockedWrite s).tiers = s.tiers ∧ (lockedWrite s).dwt = s.dwt ∧
    (lockedWrite s).col = s.col ∧ (lockedWrite s).nets = s.nets ∧ (lockedWrite s).sec = s.sec ∧
    (lockedWrite s).rcv = s.rcv ∧ (lockedWrite s).hif = s.hif := by
  simp [lockedWrite]

theorem lckWrite_keeps {α : Type} (g : State → α) (w : RegWrite) (fields : Nat) (locked : Bool) (old : Nat)
    (put : Nat → State) (s : State) (hl : g (lockedWrite s) = g s)
    (h : ∀ v, g (put v) = g s) : g (lckWrite w fields locked old put s) = g s := by
  unfold lckWrite
  split
  · rfl
  · split
    · exact hl
    · exact h _

@[simp] theorem lckWrite_pending (w : RegWrite) (fields : Nat) (locked : Bool) (old : Nat) (put : Nat → State) (s : State)
    (h : ∀ v, (put v).pending = s.pending) : (lckWrite w fields locked old put s).pending = s.pending :=
  lckWrite_keeps State.pending w fields locked old put s (by simp) h

@[simp] theorem lckWrite_ticks (w : RegWrite) (fields : Nat) (locked : Bool) (old : Nat) (put : Nat → State) (s : State)
    (h : ∀ v, (put v).ticks = s.ticks) : (lckWrite w fields locked old put s).ticks = s.ticks :=
  lckWrite_keeps State.ticks w fields locked old put s (by simp) h

@[simp] theorem lckWrite_coldResets (w : RegWrite) (fields : Nat) (locked : Bool) (old : Nat) (put : Nat → State) (s : State)
    (h : ∀ v, (put v).coldResets = s.coldResets) : (lckWrite w fields locked old put s).coldResets = s.coldResets :=
  lckWrite_keeps State.coldResets w fields locked old put s (by simp) h

@[simp] theorem lckWrite_fuse (w : RegWrite) (fields : Nat) (locked : Bool) (old : Nat) (put : Nat → State) (s : State)
    (h : ∀ v, (put v).fuse = s.fuse) : (lckWrite w fields locked old put s).fuse = s.fuse :=
  lckWrite_keeps State.fuse w fields locked old put s (by simp) h

@[simp] theorem lckWrite_power (w : RegWrite) (fields : Nat) (locked : Bool) (old : Nat) (put : Nat → State) (s : State)
    (h : ∀ v, (put v).power = s.power) : (lckWrite w fields locked old put s).power = s.power :=
  lckWrite_keeps State.power w fields locked old put s (by simp) h

@[simp] theorem lckWrite_cores (w : RegWrite) (fields : Nat) (locked : Bool) (old : Nat) (put : Nat → State) (s : State)
    (h : ∀ v, (put v).cores = s.cores) : (lckWrite w fields locked old put s).cores = s.cores :=
  lckWrite_keeps State.cores w fields locked old put s (by simp) h

@[simp] theorem lckWrite_ctxs (w : RegWrite) (fields : Nat) (locked : Bool) (old : Nat) (put : Nat → State) (s : State)
    (h : ∀ v, (put v).ctxs = s.ctxs) : (lckWrite w fields locked old put s).ctxs = s.ctxs :=
  lckWrite_keeps State.ctxs w fields locked old put s (by simp) h

@[simp] theorem lckWrite_pages (w : RegWrite) (fields : Nat) (locked : Bool) (old : Nat) (put : Nat → State) (s : State)
    (h : ∀ v, (put v).pages = s.pages) : (lckWrite w fields locked old put s).pages = s.pages :=
  lckWrite_keeps State.pages w fields locked old put s (by simp) h

@[simp] theorem lckWrite_counters (w : RegWrite) (fields : Nat) (locked : Bool) (old : Nat) (put : Nat → State) (s : State)
    (h : ∀ v, (put v).counters = s.counters) : (lckWrite w fields locked old put s).counters = s.counters :=
  lckWrite_keeps State.counters w fields locked old put s (by simp) h

@[simp] theorem lckWrite_tiers (w : RegWrite) (fields : Nat) (locked : Bool) (old : Nat) (put : Nat → State) (s : State)
    (h : ∀ v, (put v).tiers = s.tiers) : (lckWrite w fields locked old put s).tiers = s.tiers :=
  lckWrite_keeps State.tiers w fields locked old put s (by simp) h

@[simp] theorem lckWrite_dwt (w : RegWrite) (fields : Nat) (locked : Bool) (old : Nat) (put : Nat → State) (s : State)
    (h : ∀ v, (put v).dwt = s.dwt) : (lckWrite w fields locked old put s).dwt = s.dwt :=
  lckWrite_keeps State.dwt w fields locked old put s (by simp) h

@[simp] theorem lckWrite_col (w : RegWrite) (fields : Nat) (locked : Bool) (old : Nat) (put : Nat → State) (s : State)
    (h : ∀ v, (put v).col = s.col) : (lckWrite w fields locked old put s).col = s.col :=
  lckWrite_keeps State.col w fields locked old put s (by simp) h

@[simp] theorem lckWrite_nets (w : RegWrite) (fields : Nat) (locked : Bool) (old : Nat) (put : Nat → State) (s : State)
    (h : ∀ v, (put v).nets = s.nets) : (lckWrite w fields locked old put s).nets = s.nets :=
  lckWrite_keeps State.nets w fields locked old put s (by simp) h

@[simp] theorem lckWrite_sec (w : RegWrite) (fields : Nat) (locked : Bool) (old : Nat) (put : Nat → State) (s : State)
    (h : ∀ v, (put v).sec = s.sec) : (lckWrite w fields locked old put s).sec = s.sec :=
  lckWrite_keeps State.sec w fields locked old put s (by simp) h

@[simp] theorem lckWrite_rcv (w : RegWrite) (fields : Nat) (locked : Bool) (old : Nat) (put : Nat → State) (s : State)
    (h : ∀ v, (put v).rcv = s.rcv) : (lckWrite w fields locked old put s).rcv = s.rcv :=
  lckWrite_keeps State.rcv w fields locked old put s (by simp) h

@[simp] theorem lckWrite_hif (w : RegWrite) (fields : Nat) (locked : Bool) (old : Nat) (put : Nat → State) (s : State)
    (h : ∀ v, (put v).hif = s.hif) : (lckWrite w fields locked old put s).hif = s.hif :=
  lckWrite_keeps State.hif w fields locked old put s (by simp) h

@[simp] theorem hifWrite_same (off : Nat) (w : RegWrite) (s : State) :
    (hifWrite off w s).pending = s.pending ∧ (hifWrite off w s).ticks = s.ticks ∧
    (hifWrite off w s).coldResets = s.coldResets ∧ (hifWrite off w s).fuse = s.fuse ∧
    (hifWrite off w s).power = s.power ∧ (hifWrite off w s).cores = s.cores ∧ (hifWrite off w s).ctxs = s.ctxs ∧
    (hifWrite off w s).pages = s.pages ∧ (hifWrite off w s).counters = s.counters ∧
    (hifWrite off w s).tiers = s.tiers ∧ (hifWrite off w s).dwt = s.dwt ∧ (hifWrite off w s).col = s.col ∧
    (hifWrite off w s).nets = s.nets ∧ (hifWrite off w s).sec = s.sec ∧ (hifWrite off w s).rcv = s.rcv := by
  unfold hifWrite
  (repeat' split) <;> simp

@[simp] theorem mboxGo_same (s : State) :
    (mboxGo s).pending = s.pending ∧ (mboxGo s).ticks = s.ticks ∧ (mboxGo s).coldResets = s.coldResets ∧
    (mboxGo s).fuse = s.fuse := by
  simp [mboxGo]

@[simp] theorem State.setInterval_same (s : State) (v : Nat) :
    (State.setInterval s v).pending = s.pending ∧ (State.setInterval s v).fresh = s.fresh ∧
    (State.setInterval s v).out = s.out ∧ (State.setInterval s v).ticks = s.ticks ∧
    (State.setInterval s v).coldResets = s.coldResets ∧ (State.setInterval s v).fuse = s.fuse ∧
    (State.setInterval s v).modl = s.modl ∧ (State.setInterval s v).power = s.power ∧
    (State.setInterval s v).cores = s.cores ∧ (State.setInterval s v).ctxs = s.ctxs ∧
    (State.setInterval s v).pages = s.pages ∧ (State.setInterval s v).counters = s.counters ∧
    (State.setInterval s v).dwt = s.dwt ∧ (State.setInterval s v).col = s.col ∧
    (State.setInterval s v).nets = s.nets ∧ (State.setInterval s v).sec = s.sec ∧
    (State.setInterval s v).rcv = s.rcv ∧ (State.setInterval s v).mgt = s.mgt ∧ (State.setInterval s v).hif = s.hif := by
  simp [State.setInterval]

@[simp] theorem ceWrite_same (k : Nat) (w : RegWrite) (s : State) :
    (ceWrite k w s).pending = s.pending ∧ (ceWrite k w s).fresh = s.fresh ∧ (ceWrite k w s).out = s.out ∧
    (ceWrite k w s).ticks = s.ticks ∧ (ceWrite k w s).coldResets = s.coldResets ∧ (ceWrite k w s).fuse = s.fuse ∧
    (ceWrite k w s).modl = s.modl ∧ (ceWrite k w s).power = s.power ∧ (ceWrite k w s).cores = s.cores ∧
    (ceWrite k w s).ctxs = s.ctxs ∧ (ceWrite k w s).pages = s.pages ∧ (ceWrite k w s).counters = s.counters ∧
    (ceWrite k w s).dwt = s.dwt ∧ (ceWrite k w s).col = s.col ∧ (ceWrite k w s).nets = s.nets ∧
    (ceWrite k w s).sec = s.sec ∧ (ceWrite k w s).rcv = s.rcv ∧ (ceWrite k w s).mgt = s.mgt ∧
    (ceWrite k w s).hif = s.hif := by
  simp [ceWrite]

@[simp] theorem mgtWrite_same (off : Nat) (w : RegWrite) (s : State) :
    (mgtWrite off w s).pending = s.pending ∧ (mgtWrite off w s).ticks = s.ticks ∧
    (mgtWrite off w s).coldResets = s.coldResets ∧ (mgtWrite off w s).fuse = s.fuse := by
  unfold mgtWrite
  (repeat' split) <;> simp

@[simp] theorem secWrite_same (off : Nat) (w : RegWrite) (s : State) :
    (secWrite off w s).pending = s.pending ∧ (secWrite off w s).fresh = s.fresh ∧ (secWrite off w s).out = s.out ∧
    (secWrite off w s).ticks = s.ticks ∧ (secWrite off w s).coldResets = s.coldResets ∧
    (secWrite off w s).fuse = s.fuse ∧ (secWrite off w s).modl = s.modl ∧ (secWrite off w s).power = s.power ∧
    (secWrite off w s).cores = s.cores ∧ (secWrite off w s).ctxs = s.ctxs ∧ (secWrite off w s).pages = s.pages ∧
    (secWrite off w s).counters = s.counters ∧ (secWrite off w s).tiers = s.tiers ∧
    (secWrite off w s).dwt = s.dwt ∧ (secWrite off w s).col = s.col ∧ (secWrite off w s).nets = s.nets ∧
    (secWrite off w s).rcv = s.rcv ∧ (secWrite off w s).mgt = s.mgt ∧ (secWrite off w s).hif = s.hif := by
  unfold secWrite
  dsimp only
  (repeat' split) <;> simp

@[simp] theorem dwtWrite_same (off : Nat) (w : RegWrite) (s : State) :
    (dwtWrite off w s).pending = s.pending ∧ (dwtWrite off w s).ticks = s.ticks ∧
    (dwtWrite off w s).coldResets = s.coldResets ∧ (dwtWrite off w s).fuse = s.fuse ∧
    (dwtWrite off w s).power = s.power ∧ (dwtWrite off w s).cores = s.cores ∧ (dwtWrite off w s).ctxs = s.ctxs ∧
    (dwtWrite off w s).pages = s.pages ∧ (dwtWrite off w s).counters = s.counters ∧
    (dwtWrite off w s).tiers = s.tiers ∧ (dwtWrite off w s).col = s.col ∧ (dwtWrite off w s).nets = s.nets ∧
    (dwtWrite off w s).sec = s.sec ∧ (dwtWrite off w s).rcv = s.rcv ∧ (dwtWrite off w s).hif = s.hif := by
  unfold dwtWrite
  (repeat' split) <;> simp

@[simp] theorem colWrite_same (off : Nat) (w : RegWrite) (s : State) :
    (colWrite off w s).pending = s.pending ∧ (colWrite off w s).ticks = s.ticks ∧
    (colWrite off w s).coldResets = s.coldResets ∧ (colWrite off w s).fuse = s.fuse ∧
    (colWrite off w s).power = s.power ∧ (colWrite off w s).cores = s.cores ∧ (colWrite off w s).ctxs = s.ctxs ∧
    (colWrite off w s).pages = s.pages ∧ (colWrite off w s).counters = s.counters ∧
    (colWrite off w s).tiers = s.tiers ∧ (colWrite off w s).dwt = s.dwt ∧ (colWrite off w s).nets = s.nets ∧
    (colWrite off w s).sec = s.sec ∧ (colWrite off w s).rcv = s.rcv ∧ (colWrite off w s).hif = s.hif := by
  unfold colWrite
  (repeat' split) <;> simp

@[simp] theorem tierWrite_same (off : Nat) (w : RegWrite) (s : State) :
    (tierWrite off w s).pending = s.pending ∧ (tierWrite off w s).fresh = s.fresh ∧
    (tierWrite off w s).out = s.out ∧ (tierWrite off w s).ticks = s.ticks ∧
    (tierWrite off w s).coldResets = s.coldResets ∧ (tierWrite off w s).fuse = s.fuse ∧
    (tierWrite off w s).modl = s.modl ∧ (tierWrite off w s).power = s.power ∧ (tierWrite off w s).cores = s.cores ∧
    (tierWrite off w s).ctxs = s.ctxs ∧ (tierWrite off w s).pages = s.pages ∧
    (tierWrite off w s).counters = s.counters ∧ (tierWrite off w s).dwt = s.dwt ∧ (tierWrite off w s).col = s.col ∧
    (tierWrite off w s).nets = s.nets ∧ (tierWrite off w s).sec = s.sec ∧ (tierWrite off w s).rcv = s.rcv ∧
    (tierWrite off w s).mgt = s.mgt ∧ (tierWrite off w s).hif = s.hif := by
  unfold tierWrite
  (repeat' split) <;> simp

@[simp] theorem coreWrite_same (n off : Nat) (w : RegWrite) (s : State) :
    (coreWrite n off w s).pending = s.pending ∧ (coreWrite n off w s).ticks = s.ticks ∧
    (coreWrite n off w s).coldResets = s.coldResets ∧ (coreWrite n off w s).fuse = s.fuse ∧
    (coreWrite n off w s).power = s.power ∧ (coreWrite n off w s).ctxs = s.ctxs ∧
    (coreWrite n off w s).pages = s.pages ∧ (coreWrite n off w s).counters = s.counters ∧
    (coreWrite n off w s).tiers = s.tiers ∧ (coreWrite n off w s).dwt = s.dwt ∧ (coreWrite n off w s).col = s.col ∧
    (coreWrite n off w s).nets = s.nets ∧ (coreWrite n off w s).sec = s.sec ∧ (coreWrite n off w s).rcv = s.rcv ∧
    (coreWrite n off w s).hif = s.hif := by
  unfold coreWrite
  (repeat' split) <;> simp

@[simp] theorem netLck_same (n : Nat) (w : RegWrite) (fields old : Nat) (f : NetCfg → Nat → NetCfg) (s : State) :
    (netLck n w fields old f s).pending = s.pending ∧ (netLck n w fields old f s).ticks = s.ticks ∧
    (netLck n w fields old f s).coldResets = s.coldResets ∧ (netLck n w fields old f s).fuse = s.fuse ∧
    (netLck n w fields old f s).power = s.power ∧ (netLck n w fields old f s).cores = s.cores ∧
    (netLck n w fields old f s).ctxs = s.ctxs ∧ (netLck n w fields old f s).pages = s.pages ∧
    (netLck n w fields old f s).counters = s.counters ∧ (netLck n w fields old f s).tiers = s.tiers ∧
    (netLck n w fields old f s).dwt = s.dwt ∧ (netLck n w fields old f s).col = s.col ∧
    (netLck n w fields old f s).sec = s.sec ∧ (netLck n w fields old f s).rcv = s.rcv ∧
    (netLck n w fields old f s).hif = s.hif := by
  simp [netLck]

@[simp] theorem netWrite_same (n off : Nat) (w : RegWrite) (s : State) :
    (netWrite n off w s).pending = s.pending ∧ (netWrite n off w s).ticks = s.ticks ∧
    (netWrite n off w s).coldResets = s.coldResets ∧ (netWrite n off w s).fuse = s.fuse ∧
    (netWrite n off w s).power = s.power ∧ (netWrite n off w s).cores = s.cores ∧
    (netWrite n off w s).ctxs = s.ctxs ∧ (netWrite n off w s).pages = s.pages ∧
    (netWrite n off w s).counters = s.counters ∧ (netWrite n off w s).tiers = s.tiers ∧
    (netWrite n off w s).dwt = s.dwt ∧ (netWrite n off w s).col = s.col ∧ (netWrite n off w s).sec = s.sec ∧
    (netWrite n off w s).rcv = s.rcv ∧ (netWrite n off w s).hif = s.hif := by
  unfold netWrite
  dsimp only
  (repeat' split) <;> simp

@[simp] theorem rcvWrite_same (off : Nat) (w : RegWrite) (s : State) :
    (rcvWrite off w s).pending = s.pending ∧ (rcvWrite off w s).ticks = s.ticks ∧
    (rcvWrite off w s).coldResets = s.coldResets ∧ (rcvWrite off w s).fuse = s.fuse := by
  unfold rcvWrite
  (repeat' split) <;> simp

@[simp] theorem bar0Write_same (a : Nat) (w : RegWrite) (s : State) :
    (bar0Write a w s).pending = s.pending ∧ (bar0Write a w s).ticks = s.ticks ∧
    (bar0Write a w s).coldResets = s.coldResets ∧ (bar0Write a w s).fuse = s.fuse := by
  unfold bar0Write
  (repeat' split) <;> simp

@[simp] theorem ringWrite_same (slot : Nat) (w : RegWrite) (s : State) :
    (ringWrite slot w s).pending = s.pending ∧ (ringWrite slot w s).fresh = s.fresh ∧
    (ringWrite slot w s).ticks = s.ticks ∧ (ringWrite slot w s).coldResets = s.coldResets ∧
    (ringWrite slot w s).fuse = s.fuse ∧ (ringWrite slot w s).modl = s.modl ∧
    (ringWrite slot w s).power = s.power ∧ (ringWrite slot w s).cores = s.cores ∧
    (ringWrite slot w s).ctxs = s.ctxs ∧ (ringWrite slot w s).counters = s.counters ∧
    (ringWrite slot w s).tiers = s.tiers ∧ (ringWrite slot w s).dwt = s.dwt ∧ (ringWrite slot w s).col = s.col ∧
    (ringWrite slot w s).nets = s.nets ∧ (ringWrite slot w s).sec = s.sec ∧ (ringWrite slot w s).rcv = s.rcv ∧
    (ringWrite slot w s).mgt = s.mgt ∧ (ringWrite slot w s).hif = s.hif := by
  simp [ringWrite]

@[simp] theorem ptrWrite_same (slot : Nat) (w : RegWrite) (s : State) :
    (ptrWrite slot w s).pending = s.pending ∧ (ptrWrite slot w s).fresh = s.fresh ∧
    (ptrWrite slot w s).ticks = s.ticks ∧ (ptrWrite slot w s).coldResets = s.coldResets ∧
    (ptrWrite slot w s).fuse = s.fuse ∧ (ptrWrite slot w s).modl = s.modl ∧ (ptrWrite slot w s).power = s.power ∧
    (ptrWrite slot w s).cores = s.cores ∧ (ptrWrite slot w s).ctxs = s.ctxs ∧
    (ptrWrite slot w s).counters = s.counters ∧ (ptrWrite slot w s).tiers = s.tiers ∧
    (ptrWrite slot w s).dwt = s.dwt ∧ (ptrWrite slot w s).col = s.col ∧ (ptrWrite slot w s).nets = s.nets ∧
    (ptrWrite slot w s).sec = s.sec ∧ (ptrWrite slot w s).rcv = s.rcv ∧ (ptrWrite slot w s).mgt = s.mgt ∧
    (ptrWrite slot w s).hif = s.hif := by
  simp [ptrWrite]

@[simp] theorem eventsWrite_same (fn slot : Nat) (w : RegWrite) (s : State) :
    (eventsWrite fn slot w s).pending = s.pending ∧ (eventsWrite fn slot w s).fresh = s.fresh ∧
    (eventsWrite fn slot w s).out = s.out ∧ (eventsWrite fn slot w s).ticks = s.ticks ∧
    (eventsWrite fn slot w s).coldResets = s.coldResets ∧ (eventsWrite fn slot w s).fuse = s.fuse ∧
    (eventsWrite fn slot w s).modl = s.modl ∧ (eventsWrite fn slot w s).power = s.power ∧
    (eventsWrite fn slot w s).cores = s.cores ∧ (eventsWrite fn slot w s).ctxs = s.ctxs ∧
    (eventsWrite fn slot w s).counters = s.counters ∧ (eventsWrite fn slot w s).tiers = s.tiers ∧
    (eventsWrite fn slot w s).dwt = s.dwt ∧ (eventsWrite fn slot w s).col = s.col ∧
    (eventsWrite fn slot w s).nets = s.nets ∧ (eventsWrite fn slot w s).sec = s.sec ∧
    (eventsWrite fn slot w s).rcv = s.rcv ∧ (eventsWrite fn slot w s).mgt = s.mgt ∧
    (eventsWrite fn slot w s).hif = s.hif := by
  simp [eventsWrite]

@[simp] theorem entryWrite_same (slot off : Nat) (w : RegWrite) (s : State) :
    (entryWrite slot off w s).pending = s.pending ∧ (entryWrite slot off w s).fresh = s.fresh ∧
    (entryWrite slot off w s).out = s.out ∧ (entryWrite slot off w s).ticks = s.ticks ∧
    (entryWrite slot off w s).coldResets = s.coldResets ∧ (entryWrite slot off w s).fuse = s.fuse ∧
    (entryWrite slot off w s).modl = s.modl ∧ (entryWrite slot off w s).power = s.power ∧
    (entryWrite slot off w s).cores = s.cores ∧ (entryWrite slot off w s).ctxs = s.ctxs ∧
    (entryWrite slot off w s).counters = s.counters ∧ (entryWrite slot off w s).tiers = s.tiers ∧
    (entryWrite slot off w s).dwt = s.dwt ∧ (entryWrite slot off w s).col = s.col ∧
    (entryWrite slot off w s).nets = s.nets ∧ (entryWrite slot off w s).sec = s.sec ∧
    (entryWrite slot off w s).rcv = s.rcv ∧ (entryWrite slot off w s).mgt = s.mgt ∧
    (entryWrite slot off w s).hif = s.hif := by
  simp [entryWrite]

@[simp] theorem doorbell_same (fn slot : Nat) (v : Nat) (s : State) :
    (doorbell fn slot v s).pending = s.pending ∧ (doorbell fn slot v s).ticks = s.ticks ∧
    (doorbell fn slot v s).coldResets = s.coldResets ∧ (doorbell fn slot v s).fuse = s.fuse ∧
    (doorbell fn slot v s).power = s.power ∧ (doorbell fn slot v s).cores = s.cores ∧
    (doorbell fn slot v s).ctxs = s.ctxs ∧ (doorbell fn slot v s).counters = s.counters ∧
    (doorbell fn slot v s).tiers = s.tiers ∧ (doorbell fn slot v s).dwt = s.dwt ∧
    (doorbell fn slot v s).col = s.col ∧ (doorbell fn slot v s).nets = s.nets ∧
    (doorbell fn slot v s).sec = s.sec ∧ (doorbell fn slot v s).rcv = s.rcv := by
  simp [doorbell]

@[simp] theorem pageWrite_same (fn slot off : Nat) (w : RegWrite) (s : State) :
    (pageWrite fn slot off w s).pending = s.pending ∧ (pageWrite fn slot off w s).ticks = s.ticks ∧
    (pageWrite fn slot off w s).coldResets = s.coldResets ∧ (pageWrite fn slot off w s).fuse = s.fuse ∧
    (pageWrite fn slot off w s).power = s.power ∧ (pageWrite fn slot off w s).cores = s.cores ∧
    (pageWrite fn slot off w s).ctxs = s.ctxs ∧ (pageWrite fn slot off w s).counters = s.counters ∧
    (pageWrite fn slot off w s).tiers = s.tiers ∧ (pageWrite fn slot off w s).dwt = s.dwt ∧
    (pageWrite fn slot off w s).col = s.col ∧ (pageWrite fn slot off w s).nets = s.nets ∧
    (pageWrite fn slot off w s).sec = s.sec ∧ (pageWrite fn slot off w s).rcv = s.rcv := by
  unfold pageWrite
  dsimp only
  (repeat' split) <;> simp

@[simp] theorem bar2Write_same (fn a : Nat) (w : RegWrite) (s : State) :
    (bar2Write fn a w s).pending = s.pending ∧ (bar2Write fn a w s).ticks = s.ticks ∧
    (bar2Write fn a w s).coldResets = s.coldResets ∧ (bar2Write fn a w s).fuse = s.fuse ∧
    (bar2Write fn a w s).power = s.power ∧ (bar2Write fn a w s).cores = s.cores ∧
    (bar2Write fn a w s).ctxs = s.ctxs ∧ (bar2Write fn a w s).counters = s.counters ∧
    (bar2Write fn a w s).tiers = s.tiers ∧ (bar2Write fn a w s).dwt = s.dwt ∧ (bar2Write fn a w s).col = s.col ∧
    (bar2Write fn a w s).nets = s.nets ∧ (bar2Write fn a w s).sec = s.sec ∧ (bar2Write fn a w s).rcv = s.rcv := by
  unfold bar2Write
  (repeat' split) <;> simp

@[simp] theorem dropLink_same (s : State) :
    (dropLink s).pending = s.pending ∧ (dropLink s).ticks = s.ticks ∧ (dropLink s).coldResets = s.coldResets ∧
    (dropLink s).fuse = s.fuse ∧ (dropLink s).power = s.power ∧ (dropLink s).cores = s.cores ∧
    (dropLink s).ctxs = s.ctxs ∧ (dropLink s).pages = s.pages ∧ (dropLink s).counters = s.counters ∧
    (dropLink s).tiers = s.tiers ∧ (dropLink s).dwt = s.dwt ∧ (dropLink s).col = s.col ∧ (dropLink s).sec = s.sec ∧
    (dropLink s).rcv = s.rcv := by
  simp [dropLink]

@[simp] theorem flushStatus_same (s u : State) (h : HeldStatus) :
    (flushStatus s u h).pending = u.pending ∧ (flushStatus s u h).fresh = u.fresh ∧
    (flushStatus s u h).ticks = u.ticks ∧ (flushStatus s u h).coldResets = u.coldResets ∧
    (flushStatus s u h).fuse = u.fuse ∧ (flushStatus s u h).modl = u.modl ∧ (flushStatus s u h).power = u.power ∧
    (flushStatus s u h).cores = u.cores ∧ (flushStatus s u h).ctxs = u.ctxs ∧
    (flushStatus s u h).counters = u.counters ∧ (flushStatus s u h).tiers = u.tiers ∧
    (flushStatus s u h).dwt = u.dwt ∧ (flushStatus s u h).col = u.col ∧ (flushStatus s u h).nets = u.nets ∧
    (flushStatus s u h).sec = u.sec ∧ (flushStatus s u h).rcv = u.rcv ∧ (flushStatus s u h).mgt = u.mgt ∧
    (flushStatus s u h).hif = u.hif := by
  simp [flushStatus]

@[simp] theorem flushHeld_same (s : State) :
    (flushHeld s).pending = s.pending ∧ (flushHeld s).fresh = s.fresh ∧ (flushHeld s).ticks = s.ticks ∧
    (flushHeld s).coldResets = s.coldResets ∧ (flushHeld s).fuse = s.fuse ∧ (flushHeld s).modl = s.modl ∧
    (flushHeld s).power = s.power ∧ (flushHeld s).cores = s.cores ∧ (flushHeld s).ctxs = s.ctxs ∧
    (flushHeld s).counters = s.counters ∧ (flushHeld s).tiers = s.tiers ∧ (flushHeld s).dwt = s.dwt ∧
    (flushHeld s).col = s.col ∧ (flushHeld s).nets = s.nets ∧ (flushHeld s).sec = s.sec ∧
    (flushHeld s).rcv = s.rcv ∧ (flushHeld s).mgt = s.mgt := by
  simp [flushHeld]

@[simp] theorem flrPage_same (s : State) (slot : Nat) :
    (flrPage s slot).pending = s.pending ∧ (flrPage s slot).ticks = s.ticks ∧
    (flrPage s slot).coldResets = s.coldResets ∧ (flrPage s slot).fuse = s.fuse ∧
    (flrPage s slot).power = s.power ∧ (flrPage s slot).counters = s.counters ∧ (flrPage s slot).dwt = s.dwt ∧
    (flrPage s slot).col = s.col ∧ (flrPage s slot).nets = s.nets := by
  simp [flrPage]

end Sys2Proof.Machine
end

