-- ==== Sys2Proof/Laws/MemRegisters.lean ====
section
/-! SUPPORT. Memory keeps its canonical form through the definitions of Machine/Registers.lean. -/

namespace Sys2Proof.Machine

@[simp] theorem lckWrite_mem (w : RegWrite) (fields : Nat) (locked : Bool) (old : Nat) (put : Nat → State) (s : State)
    (hm : Memory.wf s.tiers.mem = true) (h : ∀ v, Memory.wf (put v).tiers.mem = true) : Memory.wf (lckWrite w fields locked old put s).tiers.mem = true := by
  unfold lckWrite
  (repeat' split) <;> simp (maxDischargeDepth := 12) [h, hm]

@[simp] theorem mboxGo_mem (s : State)
    (hm : Memory.wf s.tiers.mem = true) :
    Memory.wf (mboxGo s).tiers.mem = true := by
  simp (maxDischargeDepth := 12) [-State.ite_tiers, mboxGo, hm]

@[simp] theorem State.setInterval_mem (s : State) (v : Nat)
    (hm : Memory.wf s.tiers.mem = true) :
    Memory.wf (State.setInterval s v).tiers.mem = true := by
  simp (maxDischargeDepth := 12) [-State.ite_tiers, State.setInterval, hm]

@[simp] theorem ceWrite_mem (k : Nat) (w : RegWrite) (s : State)
    (hm : Memory.wf s.tiers.mem = true) :
    Memory.wf (ceWrite k w s).tiers.mem = true := by
  simp (maxDischargeDepth := 12) [-State.ite_tiers, ceWrite, hm]

@[simp] theorem mgtWrite_mem (off : Nat) (w : RegWrite) (s : State)
    (hm : Memory.wf s.tiers.mem = true) :
    Memory.wf (mgtWrite off w s).tiers.mem = true := by
  unfold mgtWrite
  (repeat' split) <;> simp (maxDischargeDepth := 12) [-State.ite_tiers, hm]

@[simp] theorem tierWrite_mem (off : Nat) (w : RegWrite) (s : State)
    (hm : Memory.wf s.tiers.mem = true) :
    Memory.wf (tierWrite off w s).tiers.mem = true := by
  unfold tierWrite
  (repeat' split) <;> simp (maxDischargeDepth := 12) [-State.ite_tiers, hm]

@[simp] theorem rcvWrite_mem (off : Nat) (w : RegWrite) (s : State)
    (hm : Memory.wf s.tiers.mem = true) :
    Memory.wf (rcvWrite off w s).tiers.mem = true := by
  unfold rcvWrite
  (repeat' split) <;> simp (maxDischargeDepth := 12) [-State.ite_tiers, hm]

@[simp] theorem bar0Write_mem (a : Nat) (w : RegWrite) (s : State)
    (hm : Memory.wf s.tiers.mem = true) :
    Memory.wf (bar0Write a w s).tiers.mem = true := by
  unfold bar0Write
  (repeat' split) <;> simp (maxDischargeDepth := 12) [-State.ite_tiers, hm]

@[simp] theorem flrPage_mem (s : State) (slot : Nat)
    (hm : Memory.wf s.tiers.mem = true) :
    Memory.wf (flrPage s slot).tiers.mem = true := by
  simp (maxDischargeDepth := 12) [-State.ite_tiers, flrPage, hm]

end Sys2Proof.Machine
end

