-- ==== Sys2Proof/Laws/SameModule.lean ====
section
/-! SUPPORT. What the definitions of Machine/Module.lean leave alone. -/

namespace Sys2Proof.Machine

@[simp] theorem coldCounts_same (s : State) :
    (coldCounts s).pending = s.pending ∧ (coldCounts s).ticks = s.ticks ∧
    (coldCounts s).coldResets = s.coldResets ∧ (coldCounts s).fuse = s.fuse ∧ (coldCounts s).power = s.power ∧
    (coldCounts s).ctxs = s.ctxs ∧ (coldCounts s).pages = s.pages ∧ (coldCounts s).counters = s.counters ∧
    (coldCounts s).rcv = s.rcv := by
  simp [coldCounts]

@[simp] theorem coldRcv_same (s : State) :
    (coldRcv s).pending = s.pending ∧ (coldRcv s).fresh = s.fresh ∧ (coldRcv s).out = s.out ∧
    (coldRcv s).ticks = s.ticks ∧ (coldRcv s).coldResets = s.coldResets ∧ (coldRcv s).fuse = s.fuse ∧
    (coldRcv s).modl = s.modl ∧ (coldRcv s).power = s.power ∧ (coldRcv s).cores = s.cores ∧
    (coldRcv s).ctxs = s.ctxs ∧ (coldRcv s).pages = s.pages ∧ (coldRcv s).counters = s.counters ∧
    (coldRcv s).tiers = s.tiers ∧ (coldRcv s).dwt = s.dwt ∧ (coldRcv s).col = s.col ∧ (coldRcv s).nets = s.nets ∧
    (coldRcv s).sec = s.sec ∧ (coldRcv s).mgt = s.mgt ∧ (coldRcv s).hif = s.hif := by
  simp [coldRcv]

@[simp] theorem coldStart_same (s : State) :
    (coldStart s).pending = s.pending ∧ (coldStart s).fuse = s.fuse := by
  simp [coldStart]

@[simp] theorem logStore_same (s : State) :
    (logStore s).pending = s.pending ∧ (logStore s).ticks = s.ticks ∧ (logStore s).coldResets = s.coldResets ∧
    (logStore s).fuse = s.fuse ∧ (logStore s).power = s.power ∧ (logStore s).cores = s.cores ∧
    (logStore s).ctxs = s.ctxs ∧ (logStore s).pages = s.pages ∧ (logStore s).counters = s.counters ∧
    (logStore s).tiers = s.tiers ∧ (logStore s).dwt = s.dwt ∧ (logStore s).col = s.col ∧
    (logStore s).nets = s.nets ∧ (logStore s).sec = s.sec ∧ (logStore s).rcv = s.rcv ∧ (logStore s).hif = s.hif := by
  unfold logStore
  (repeat' split) <;> simp

@[simp] theorem logPast_same (s0 : State) :
    (logPast s0).pending = s0.pending ∧ (logPast s0).ticks = s0.ticks ∧ (logPast s0).coldResets = s0.coldResets ∧
    (logPast s0).fuse = s0.fuse ∧ (logPast s0).power = s0.power ∧ (logPast s0).cores = s0.cores ∧
    (logPast s0).ctxs = s0.ctxs ∧ (logPast s0).pages = s0.pages ∧ (logPast s0).counters = s0.counters ∧
    (logPast s0).tiers = s0.tiers ∧ (logPast s0).dwt = s0.dwt ∧ (logPast s0).col = s0.col ∧
    (logPast s0).nets = s0.nets ∧ (logPast s0).sec = s0.sec ∧ (logPast s0).rcv = s0.rcv ∧ (logPast s0).hif = s0.hif := by
  simp [logPast]

@[simp] theorem drawReserved_same (s : State) :
    (drawReserved s).pending = s.pending ∧ (drawReserved s).out = s.out ∧ (drawReserved s).ticks = s.ticks ∧
    (drawReserved s).coldResets = s.coldResets ∧ (drawReserved s).fuse = s.fuse ∧ (drawReserved s).modl = s.modl ∧
    (drawReserved s).power = s.power ∧ (drawReserved s).cores = s.cores ∧ (drawReserved s).ctxs = s.ctxs ∧
    (drawReserved s).pages = s.pages ∧ (drawReserved s).counters = s.counters ∧ (drawReserved s).tiers = s.tiers ∧
    (drawReserved s).dwt = s.dwt ∧ (drawReserved s).col = s.col ∧ (drawReserved s).nets = s.nets ∧
    (drawReserved s).rcv = s.rcv ∧ (drawReserved s).mgt = s.mgt ∧ (drawReserved s).hif = s.hif := by
  simp [drawReserved]

@[simp] theorem startSecurity_same (s : State) :
    (startSecurity s).pending = s.pending ∧ (startSecurity s).ticks = s.ticks ∧
    (startSecurity s).coldResets = s.coldResets ∧ (startSecurity s).fuse = s.fuse ∧
    (startSecurity s).power = s.power ∧ (startSecurity s).cores = s.cores ∧ (startSecurity s).pages = s.pages ∧
    (startSecurity s).counters = s.counters ∧ (startSecurity s).tiers = s.tiers ∧ (startSecurity s).dwt = s.dwt ∧
    (startSecurity s).col = s.col ∧ (startSecurity s).nets = s.nets ∧ (startSecurity s).rcv = s.rcv := by
  simp [startSecurity]

@[simp] theorem startTest_same (s : State) (n : Nat) :
    (startTest s n).pending = s.pending ∧ (startTest s n).fresh = s.fresh ∧ (startTest s n).out = s.out ∧
    (startTest s n).ticks = s.ticks ∧ (startTest s n).coldResets = s.coldResets ∧ (startTest s n).fuse = s.fuse ∧
    (startTest s n).modl = s.modl ∧ (startTest s n).power = s.power ∧ (startTest s n).ctxs = s.ctxs ∧
    (startTest s n).pages = s.pages ∧ (startTest s n).counters = s.counters ∧ (startTest s n).tiers = s.tiers ∧
    (startTest s n).dwt = s.dwt ∧ (startTest s n).col = s.col ∧ (startTest s n).nets = s.nets ∧
    (startTest s n).sec = s.sec ∧ (startTest s n).rcv = s.rcv ∧ (startTest s n).mgt = s.mgt ∧
    (startTest s n).hif = s.hif := by
  simp [startTest]

@[simp] theorem startTests_same (s : State) :
    (startTests s).pending = s.pending ∧ (startTests s).fresh = s.fresh ∧ (startTests s).out = s.out ∧
    (startTests s).ticks = s.ticks ∧ (startTests s).coldResets = s.coldResets ∧ (startTests s).fuse = s.fuse ∧
    (startTests s).modl = s.modl ∧ (startTests s).power = s.power ∧ (startTests s).ctxs = s.ctxs ∧
    (startTests s).pages = s.pages ∧ (startTests s).counters = s.counters ∧ (startTests s).tiers = s.tiers ∧
    (startTests s).dwt = s.dwt ∧ (startTests s).col = s.col ∧ (startTests s).nets = s.nets ∧
    (startTests s).sec = s.sec ∧ (startTests s).rcv = s.rcv ∧ (startTests s).mgt = s.mgt ∧
    (startTests s).hif = s.hif := by
  simp [startTests]

@[simp] theorem startPlans_same (s : State) :
    (startPlans s).pending = s.pending ∧ (startPlans s).fresh = s.fresh ∧ (startPlans s).out = s.out ∧
    (startPlans s).ticks = s.ticks ∧ (startPlans s).coldResets = s.coldResets ∧ (startPlans s).fuse = s.fuse ∧
    (startPlans s).modl = s.modl ∧ (startPlans s).power = s.power ∧ (startPlans s).cores = s.cores ∧
    (startPlans s).ctxs = s.ctxs ∧ (startPlans s).pages = s.pages ∧ (startPlans s).counters = s.counters ∧
    (startPlans s).tiers = s.tiers ∧ (startPlans s).dwt = s.dwt ∧ (startPlans s).col = s.col ∧
    (startPlans s).nets = s.nets ∧ (startPlans s).sec = s.sec ∧ (startPlans s).rcv = s.rcv ∧
    (startPlans s).hif = s.hif := by
  simp [startPlans]

@[simp] theorem dawnEntry_same (s : State) :
    (dawnEntry s).pending = s.pending ∧ (dawnEntry s).ticks = s.ticks ∧ (dawnEntry s).coldResets = s.coldResets ∧
    (dawnEntry s).fuse = s.fuse ∧ (dawnEntry s).pages = s.pages ∧ (dawnEntry s).counters = s.counters := by
  simp [dawnEntry]

@[simp] theorem clockPorts_same (a : Nat) (s : State) :
    (clockPorts a s).pending = s.pending ∧ (clockPorts a s).fresh = s.fresh ∧ (clockPorts a s).out = s.out ∧
    (clockPorts a s).ticks = s.ticks ∧ (clockPorts a s).coldResets = s.coldResets ∧
    (clockPorts a s).fuse = s.fuse ∧ (clockPorts a s).modl = s.modl ∧ (clockPorts a s).power = s.power ∧
    (clockPorts a s).cores = s.cores ∧ (clockPorts a s).ctxs = s.ctxs ∧ (clockPorts a s).pages = s.pages ∧
    (clockPorts a s).counters = s.counters ∧ (clockPorts a s).tiers = s.tiers ∧ (clockPorts a s).dwt = s.dwt ∧
    (clockPorts a s).col = s.col ∧ (clockPorts a s).sec = s.sec ∧ (clockPorts a s).rcv = s.rcv ∧
    (clockPorts a s).mgt = s.mgt ∧ (clockPorts a s).hif = s.hif := by
  simp [clockPorts]

@[simp] theorem refclkMissing_same (a : Nat) (s : State) :
    (refclkMissing a s).pending = s.pending ∧ (refclkMissing a s).ticks = s.ticks ∧
    (refclkMissing a s).coldResets = s.coldResets ∧ (refclkMissing a s).fuse = s.fuse ∧
    (refclkMissing a s).power = s.power ∧ (refclkMissing a s).cores = s.cores ∧ (refclkMissing a s).ctxs = s.ctxs ∧
    (refclkMissing a s).pages = s.pages ∧ (refclkMissing a s).counters = s.counters ∧
    (refclkMissing a s).tiers = s.tiers ∧ (refclkMissing a s).dwt = s.dwt ∧ (refclkMissing a s).col = s.col ∧
    (refclkMissing a s).sec = s.sec ∧ (refclkMissing a s).rcv = s.rcv ∧ (refclkMissing a s).hif = s.hif := by
  simp [refclkMissing]

end Sys2Proof.Machine
end

