-- ==== Sys2Proof/Laws/MemModule.lean ====
section
/-! SUPPORT. Memory keeps its canonical form through the definitions of Machine/Module.lean. -/

namespace Sys2Proof.Machine

@[simp] theorem coldCounts_mem (s : State)
    (hm : Memory.wf s.tiers.mem = true) :
    Memory.wf (coldCounts s).tiers.mem = true := by
  simp (maxDischargeDepth := 12) [-State.ite_tiers, coldCounts, hm]

@[simp] theorem coldStart_mem (s : State)
    (hm : Memory.wf s.tiers.mem = true) :
    Memory.wf (coldStart s).tiers.mem = true := by
  simp (maxDischargeDepth := 12) [-State.ite_tiers, coldStart, hm]

@[simp] theorem dawnEntry_mem (s : State)
    (hm : Memory.wf s.tiers.mem = true) :
    Memory.wf (dawnEntry s).tiers.mem = true := by
  simp +contextual (maxDischargeDepth := 12) [-State.ite_tiers, dawnEntry, hm]

end Sys2Proof.Machine
end

