-- ==== Sys2Proof/Laws/SameTime.lean ====
section
/-! SUPPORT. What the definitions of Machine/Time.lean leave alone. -/

namespace Sys2Proof.Machine

@[simp] theorem tickUnits_same (s : State) :
    (tickUnits s).pending = s.pending ∧ (tickUnits s).out = s.out ∧ (tickUnits s).coldResets = s.coldResets ∧
    (tickUnits s).fuse = s.fuse ∧ (tickUnits s).modl = s.modl ∧ (tickUnits s).power = s.power ∧
    (tickUnits s).ctxs = s.ctxs ∧ (tickUnits s).pages = s.pages ∧ (tickUnits s).counters = s.counters ∧
    (tickUnits s).dwt = s.dwt ∧ (tickUnits s).col = s.col ∧ (tickUnits s).sec = s.sec ∧ (tickUnits s).mgt = s.mgt := by
  simp [tickUnits]

@[simp] theorem tickWaits_same (s : State) :
    (tickWaits s).pending = s.pending ∧ (tickWaits s).ticks = s.ticks ∧ (tickWaits s).coldResets = s.coldResets ∧
    (tickWaits s).fuse = s.fuse := by
  simp [tickWaits]

@[simp] theorem tickDay_same (s : State) :
    (tickDay s).pending = s.pending ∧ (tickDay s).ticks = s.ticks ∧ (tickDay s).coldResets = s.coldResets ∧
    (tickDay s).fuse = s.fuse ∧ (tickDay s).power = s.power ∧ (tickDay s).cores = s.cores ∧
    (tickDay s).ctxs = s.ctxs ∧ (tickDay s).pages = s.pages ∧ (tickDay s).counters = s.counters ∧
    (tickDay s).tiers = s.tiers ∧ (tickDay s).dwt = s.dwt ∧ (tickDay s).col = s.col ∧ (tickDay s).nets = s.nets ∧
    (tickDay s).sec = s.sec ∧ (tickDay s).hif = s.hif := by
  simp [tickDay]

@[simp] theorem tickSecond_same (s : State) :
    (tickSecond s).pending = s.pending ∧ (tickSecond s).fresh = s.fresh ∧ (tickSecond s).out = s.out ∧
    (tickSecond s).ticks = s.ticks ∧ (tickSecond s).coldResets = s.coldResets ∧ (tickSecond s).fuse = s.fuse ∧
    (tickSecond s).modl = s.modl ∧ (tickSecond s).power = s.power ∧ (tickSecond s).ctxs = s.ctxs ∧
    (tickSecond s).pages = s.pages ∧ (tickSecond s).counters = s.counters ∧ (tickSecond s).tiers = s.tiers ∧
    (tickSecond s).dwt = s.dwt ∧ (tickSecond s).col = s.col ∧ (tickSecond s).nets = s.nets ∧
    (tickSecond s).sec = s.sec ∧ (tickSecond s).rcv = s.rcv ∧ (tickSecond s).hif = s.hif := by
  simp [tickSecond]

@[simp] theorem tick_same (s : State) :
    (tick s).pending = s.pending ∧ (tick s).coldResets = s.coldResets ∧ (tick s).fuse = s.fuse := by
  simp [tick]

end Sys2Proof.Machine
end

