-- ==== Sys2Proof/Laws/MemTime.lean ====
section
/-! SUPPORT. Memory keeps its canonical form through the definitions of Machine/Time.lean. -/

namespace Sys2Proof.Machine

@[simp] theorem tickUnits_mem (s : State) (hm : Memory.wf s.tiers.mem = true) : Memory.wf (tickUnits s).tiers.mem = true := by
  unfold tickUnits tickTier
  dsimp only
  split <;> exact hm

@[simp] theorem tickWaits_mem (s : State)
    (hm : Memory.wf s.tiers.mem = true) :
    Memory.wf (tickWaits s).tiers.mem = true := by
  simp (maxDischargeDepth := 12) [-State.ite_tiers, tickWaits, hm]

@[simp] theorem tick_mem (s : State)
    (hm : Memory.wf s.tiers.mem = true) :
    Memory.wf (tick s).tiers.mem = true := by
  simp (maxDischargeDepth := 12) [-State.ite_tiers, tick, hm]

end Sys2Proof.Machine
end

