-- ==== Sys2Proof/Laws/PowPower.lean ====
section
/-! SUPPORT. The clock and pacing stay in their ranges through the definitions of Machine/Power.lean. -/

namespace Sys2Proof.Machine

theorem noteLimiting_clock (s : State) : (noteLimiting s).power.clock = s.power.clock ∧
    (noteLimiting s).power.pacing = s.power.pacing := by
  unfold noteLimiting
  split <;> simp

@[simp] theorem noteLimiting_pow (s : State) (hm : PowerOk s.power) : PowerOk (noteLimiting s).power := by
  obtain ⟨h1, h2⟩ := noteLimiting_clock s
  simpa only [PowerOk, h1, h2] using hm

theorem setPower_clock (clock pacing : Nat) (s : State) : (setPower clock pacing s).power.clock = clock ∧
    (setPower clock pacing s).power.pacing = pacing := by
  unfold setPower
  constructor
  · rw [(noteLimiting_clock _).1]; simp
  · rw [(noteLimiting_clock _).2]; simp

theorem setPower_pow (clock pacing : Nat) (s : State)
    (h : Config.clockFloor ≤ clock ∧ clock ≤ Config.clockTop ∧ 8 ≤ pacing ∧ pacing ≤ 16 ∧ (pacing < 16 → clock = Config.clockFloor)) :
    PowerOk (setPower clock pacing s).power := by
  obtain ⟨h1, h2⟩ := setPower_clock clock pacing s
  simpa only [PowerOk, h1, h2] using h

theorem topClock_le (s : State) : s.topClock ≤ Config.clockTop := Nat.min_le_left _ _

theorem fixedStep_range (s : State) (n : Nat) :
    Config.clockFloor ≤ s.fixedStep n ∧ s.fixedStep n ≤ Config.clockFloor + n * Config.clockStep := by
  induction n with
  | zero => simp [State.fixedStep]
  | succ n ih =>
    simp only [State.fixedStep]
    split
    · exact ⟨Nat.le_add_right _ _, Nat.le_refl _⟩
    · refine ⟨ih.1, Nat.le_trans ih.2 ?_⟩
      simp only [Config.clockStep]
      omega

theorem fixedFor_range (s : State) : Config.clockFloor ≤ s.fixedFor ∧ s.fixedFor ≤ Config.clockTop :=
  fixedStep_range s ((Config.clockTop - Config.clockFloor) / Config.clockStep)

@[simp] theorem followShares_pow (s : State) (hm : PowerOk s.power) : PowerOk (followShares s).power := by
  unfold followShares
  have hf := fixedFor_range s
  split
  · exact setPower_pow _ _ _ ⟨hf.1, hf.2, by decide, by decide, by omega⟩
  · exact noteLimiting_pow _ hm
  · exact hm

@[simp] theorem takeCap_pow (s : State) (hm : PowerOk s.power) : PowerOk (takeCap s).power := by
  unfold takeCap
  split
  · exact hm
  · dsimp only
    split
    · exact hm
    · have hf := fixedFor_range { s with power := { s.power with cap := s.mgt.working.powerCap } }
      exact setPower_pow _ _ _ ⟨hf.1, hf.2, by decide, by decide, by omega⟩

@[simp] theorem capSet_pow (s : State)
    (hm : PowerOk s.power) :
    PowerOk (capSet s).power := by
  unfold capSet
  (repeat' split) <;> simp (maxDischargeDepth := 12) [-State.ite_power, hm]

theorem lowered_range (c st : Nat) (h2 : c ≤ Config.clockTop) :
    Config.clockFloor ≤ max Config.clockFloor (c - st) ∧ max Config.clockFloor (c - st) ≤ Config.clockTop := by
  have : Config.clockFloor ≤ Config.clockTop := by decide
  generalize Config.clockFloor = f at *
  generalize Config.clockTop = t at *
  omega

@[simp] theorem controlTick_pow (s : State) (hm : PowerOk s.power) : PowerOk (controlTick s).power := by
  have h := takeCap_pow s hm
  unfold controlTick
  generalize takeCap s = u at h
  dsimp only
  have hh := h
  obtain ⟨h1, h2, h3, h4, h5⟩ := hh
  generalize (if u.power.fixedClock.isSome = true then u.hot else u.power.overCap || u.hot) = lw
  cases lw
  · exact h
  · simp only [Bool.not_true, Bool.false_eq_true, if_false]
    by_cases hc : Config.clockFloor < u.power.clock
    · rw [if_pos hc]
      have hr := lowered_range u.power.clock Config.clockStep h2
      exact setPower_pow _ _ _ ⟨hr.1, hr.2, h3, h4, fun hp => absurd (h5 hp) (Nat.ne_of_gt hc)⟩
    · rw [if_neg hc]
      by_cases hp : 8 < u.power.pacing
      · rw [if_pos hp]
        exact setPower_pow _ _ _ ⟨h1, h2, Nat.le_sub_one_of_lt hp, Nat.le_trans (Nat.sub_le _ _) h4,
          fun _ => Nat.le_antisymm (Nat.le_of_not_lt hc) h1⟩
      · rw [if_neg hp]
        exact h

@[simp] theorem powerRaise_pow (s : State) (hm : PowerOk s.power) : PowerOk (powerRaise s).power := by
  have h := takeCap_pow s hm
  unfold powerRaise
  generalize takeCap s = u at h
  have ht := topClock_le u
  dsimp only
  have hh := h
  obtain ⟨h1, h2, h3, h4, h5⟩ := hh
  split
  · exact h
  split
  · exact h
  split
  · next hp =>
    refine setPower_pow _ _ _ ⟨h1, h2, by omega, by omega, fun _ => h5 hp⟩
  split
  · exact h
  split
  · next hp _ hc =>
    refine setPower_pow _ _ _ ⟨?_, ?_, h3, h4, fun hq => absurd hq hp⟩
    · exact Nat.le_min.mpr ⟨Nat.le_trans h1 (Nat.le_add_right _ _), Nat.le_trans h1 (Nat.le_of_lt hc)⟩
    · exact Nat.le_trans (Nat.min_le_right _ _) ht
  · exact h

end Sys2Proof.Machine
end

