-- ==== Sys2Proof/Laws/PowImages.lean ====
section
/-! SUPPORT. The clock and pacing stay in their ranges through the definitions of Machine/Images.lean. -/

namespace Sys2Proof.Machine

@[simp] theorem applyImage_pow (i : Image) (ks : List Nat) (keep : Bool) (s : State)
    (hm : PowerOk s.power) :
    PowerOk (applyImage i ks keep s).power := by
  unfold applyImage
  (repeat' split) <;> simp (maxDischargeDepth := 12) [-State.ite_power, hm]

@[simp] theorem dropImage_pow (s : State)
    (hm : PowerOk s.power) :
    PowerOk (dropImage s).power := by
  simp (maxDischargeDepth := 12) [-State.ite_power, dropImage, hm]

end Sys2Proof.Machine
end

