-- ==== Sys2Proof/Laws/PowSecurity.lean ====
section
/-! SUPPORT. The clock and pacing stay in their ranges through the definitions of Machine/Security.lean. -/

namespace Sys2Proof.Machine

@[simp] theorem endLoad_pow (s : State)
    (hm : PowerOk s.power) :
    PowerOk (endLoad s).power := by
  unfold endLoad
  (repeat' split) <;> simp (maxDischargeDepth := 12) [-State.ite_power, hm]

theorem secRequest_pow (r : SecReq) (inOk : Bool) (outNeed : Nat) (serves : Bool) (own : State → SecOut) (s : State)
    (refused : State → State) (hm : PowerOk s.power) (h : ∀ u, PowerOk u.power → PowerOk (own u).s.power)
    (hr : ∀ u, PowerOk u.power → PowerOk (refused u).power) : PowerOk (secRequest r inOk outNeed serves own s refused).power := by
  unfold secRequest
  dsimp only
  (repeat' split) <;> simp (maxDischargeDepth := 12) [-State.ite_power, h, hr, hm]

@[simp] theorem decommission_pow (seq : W64) (signer : BitVec 768) (s : State)
    (hm : PowerOk s.power) :
    PowerOk (decommission seq signer s).s.power := by
  unfold decommission
  (repeat' split) <;> simp (maxDischargeDepth := 12) [-State.ite_power, hm]

@[simp] theorem loadStored_pow (s : State)
    (hm : PowerOk s.power) :
    PowerOk (loadStored s).power := by
  unfold loadStored
  (repeat' split) <;> simp (maxDischargeDepth := 12) [-State.ite_power, hm]

end Sys2Proof.Machine
end

