-- ==== Sys2Proof/Laws/PowRecovery.lean ====
section
/-! SUPPORT. The clock and pacing stay in their ranges through the definitions of Machine/Recovery.lean. -/

namespace Sys2Proof.Machine

theorem powerOk_cold (c : Nat) : PowerOk { cap := c } := by
  unfold PowerOk Config.clockFloor Config.clockTop
  dsimp only
  omega

@[simp] theorem coldRest_pow (s : State) (hm : PowerOk s.power) : PowerOk (coldRest s).power :=
  powerOk_cold s.mgt.store.settings.powerCap

@[simp] theorem resetDevice_pow (s : State)
    (hm : PowerOk s.power) :
    PowerOk (resetDevice s).power := by
  unfold resetDevice
  dsimp only
  (repeat' split) <;> simp (maxDischargeDepth := 12) [-State.ite_power, hm]

@[simp] theorem countReset_pow (d : Domain) (s : State)
    (hm : PowerOk s.power) :
    PowerOk (countReset d s).power := by
  unfold countReset
  dsimp only
  (repeat' split) <;> simp (maxDischargeDepth := 12) [-State.ite_power, hm]

@[simp] theorem resetDomain_pow (d : Domain) (fault : Bool) (s : State)
    (hm : PowerOk s.power) :
    PowerOk (resetDomain d fault s).power := by
  unfold resetDomain
  (repeat' split) <;> simp (maxDischargeDepth := 12) [-State.ite_power, hm]

@[simp] theorem finishReset_pow (d : Domain) (s : State)
    (hm : PowerOk s.power) :
    PowerOk (finishReset d s).power := by
  unfold finishReset
  dsimp only
  (repeat' split) <;> simp (maxDischargeDepth := 12) [-State.ite_power, hm]

@[simp] theorem startReset_pow (d : Domain) (fault : Bool) (s0 : State)
    (hm : PowerOk s0.power) :
    PowerOk (startReset d fault s0).power := by
  unfold startReset
  dsimp only
  (repeat' split) <;> simp (maxDischargeDepth := 12) [-State.ite_power, hm]

@[simp] theorem keyErase_pow (r : SecReq) (mac : BitVec 384) (s : State)
    (hm : PowerOk s.power) :
    PowerOk (keyErase r mac s).s.power := by
  unfold keyErase
  dsimp only
  (repeat' split) <;> simp (maxDischargeDepth := 12) [-State.ite_power, hm]

@[simp] theorem operatorReset_pow (d : Domain) (s : State)
    (hm : PowerOk s.power) :
    PowerOk (operatorReset d s).power := by
  unfold operatorReset
  (repeat' split) <;> simp (maxDischargeDepth := 12) [-State.ite_power, hm]

@[simp] theorem engineFault_pow (d : Domain) (slots : List Nat) (s : State)
    (hm : PowerOk s.power) :
    PowerOk (engineFault d slots s).power := by
  unfold engineFault
  (repeat' split) <;> simp (maxDischargeDepth := 12) [-State.ite_power, hm]

@[simp] theorem domainFault_pow (d : Domain) (s : State)
    (hm : PowerOk s.power) :
    PowerOk (domainFault d s).power := by
  unfold domainFault
  (repeat' split) <;> simp (maxDischargeDepth := 12) [-State.ite_power, hm]

end Sys2Proof.Machine
end

