-- ==== Sys2Proof/Laws/PowManagement.lean ====
section
/-! SUPPORT. The clock and pacing stay in their ranges through the definitions of Machine/Management.lean. -/

namespace Sys2Proof.Machine

@[simp] theorem applySetting_pow (id v : Nat) (s : State)
    (hm : PowerOk s.power) :
    PowerOk (applySetting id v s).power := by
  unfold applySetting
  (repeat' split) <;> simp (maxDischargeDepth := 12) [-State.ite_power, hm]

@[simp] theorem putSetting_pow (id v : Nat) (s : State)
    (hm : PowerOk s.power) :
    PowerOk (putSetting id v s).power := by
  simp (maxDischargeDepth := 12) [-State.ite_power, putSetting, hm]

@[simp] theorem setSetting_pow (id v : Nat) (s : State)
    (hm : PowerOk s.power) :
    PowerOk (setSetting id v s).s.power := by
  unfold setSetting
  (repeat' split) <;> simp (maxDischargeDepth := 12) [-State.ite_power, hm]

@[simp] theorem setPowerCap_pow (arg : Nat) (s : State)
    (hm : PowerOk s.power) :
    PowerOk (setPowerCap arg s).s.power := by
  unfold setPowerCap
  (repeat' split) <;> simp (maxDischargeDepth := 12) [-State.ite_power, hm]

@[simp] theorem powerDown_pow (s : State)
    (hm : PowerOk s.power) :
    PowerOk (powerDown s).power := by
  simp (maxDischargeDepth := 12) [-State.ite_power, powerDown, hm]

@[simp] theorem setState_pow (arg : Nat) (s : State)
    (hm : PowerOk s.power) :
    PowerOk (setState arg s).s.power := by
  unfold setState
  (repeat' split) <;> simp (maxDischargeDepth := 12) [-State.ite_power, hm]

@[simp] theorem fwActivate_pow (sig : Bool) (s : State)
    (hm : PowerOk s.power) :
    PowerOk (fwActivate sig s).s.power := by
  unfold fwActivate
  dsimp only
  (repeat' split) <;> simp (maxDischargeDepth := 12) [-State.ite_power, hm]

@[simp] theorem fwFallBack_pow (s : State)
    (hm : PowerOk s.power) :
    PowerOk (fwFallBack s).power := by
  unfold fwFallBack
  (repeat' split) <;> simp (maxDischargeDepth := 12) [-State.ite_power, hm]

@[simp] theorem reinstate_pow (s : State)
    (hm : PowerOk s.power) :
    PowerOk (reinstate s).s.power := by
  unfold reinstate
  (repeat' split) <;> simp (maxDischargeDepth := 12) [-State.ite_power, hm]

@[simp] theorem mbCommand_pow (c : MbCmd) (s : State)
    (hm : PowerOk s.power) :
    PowerOk (mbCommand c s).s.power := by
  unfold mbCommand
  (repeat' split) <;> simp (maxDischargeDepth := 12) [-State.ite_power, hm]

theorem mbRun_pow (m : Mbox) (c : MbCmd) (run : State → MbOut) (s : State) (hm : PowerOk s.power)
    (h : ∀ u, PowerOk u.power → PowerOk (run u).s.power) : PowerOk (mbRun m c run s).power := by
  unfold mbRun
  dsimp only
  split
  · exact hm
  · split <;> simp (maxDischargeDepth := 12) [h, hm]

@[simp] theorem mailbox_pow (m : Mbox) (c : MbCmd) (s : State) (hm : PowerOk s.power) : PowerOk (mailbox m c s).power := by
  unfold mailbox
  exact mbRun_pow m c (mbCommand c) s hm (fun u hu => mbCommand_pow c u hu)

theorem thermPin_clock (s : State) : (thermPin s).power.clock = s.power.clock ∧ (thermPin s).power.pacing = s.power.pacing := by
  unfold thermPin
  dsimp only
  (repeat' split) <;> exact ⟨rfl, rfl⟩

@[simp] theorem thermPin_pow (s : State) (hm : PowerOk s.power) : PowerOk (thermPin s).power := by
  obtain ⟨h1, h2⟩ := thermPin_clock s
  simpa only [PowerOk, h1, h2] using hm

@[simp] theorem thermalExit_pow (s : State) : PowerOk (thermalExit s).power :=
  setPower_pow _ _ _ ⟨Nat.le_refl _, by decide, by decide, by decide, fun _ => rfl⟩

@[simp] theorem thermalStop_pow (s : State)
    (hm : PowerOk s.power) :
    PowerOk (thermalStop s).power := by
  unfold thermalStop
  (repeat' split) <;> simp (maxDischargeDepth := 12) [-State.ite_power, hm]

@[simp] theorem thermalTrip_pow (s : State)
    (hm : PowerOk s.power) :
    PowerOk (thermalTrip s).power := by
  unfold thermalTrip
  (repeat' split) <;> simp (maxDischargeDepth := 12) [-State.ite_power, hm]

@[simp] theorem sensorUpdate_pow (rs : List (Nat × W32)) (s : State)
    (hm : PowerOk s.power) :
    PowerOk (sensorUpdate rs s).power := by
  unfold sensorUpdate
  dsimp only
  (repeat' split) <;> simp (maxDischargeDepth := 12) [-State.ite_power, hm]

@[simp] theorem loadDerated_pow (u : CalUnit) (mv : Nat) (s : State)
    (hm : PowerOk s.power) :
    PowerOk (loadDerated u mv s).power := by
  unfold loadDerated
  dsimp only
  (repeat' split) <;> simp (maxDischargeDepth := 12) [-State.ite_power, hm]

end Sys2Proof.Machine
end

