-- ==== Sys2Proof/Laws/PowRegisters.lean ====
section
/-! SUPPORT. The clock and pacing stay in their ranges through the definitions of Machine/Registers.lean. -/

namespace Sys2Proof.Machine

@[simp] theorem mboxGo_pow (s : State)
    (hm : PowerOk s.power) :
    PowerOk (mboxGo s).power := by
  simp (maxDischargeDepth := 12) [-State.ite_power, mboxGo, hm]

@[simp] theorem mgtWrite_pow (off : Nat) (w : RegWrite) (s : State)
    (hm : PowerOk s.power) :
    PowerOk (mgtWrite off w s).power := by
  unfold mgtWrite
  (repeat' split) <;> simp (maxDischargeDepth := 12) [-State.ite_power, hm]

@[simp] theorem rcvWrite_pow (off : Nat) (w : RegWrite) (s : State)
    (hm : PowerOk s.power) :
    PowerOk (rcvWrite off w s).power := by
  unfold rcvWrite
  (repeat' split) <;> simp (maxDischargeDepth := 12) [-State.ite_power, hm]

@[simp] theorem bar0Write_pow (a : Nat) (w : RegWrite) (s : State)
    (hm : PowerOk s.power) :
    PowerOk (bar0Write a w s).power := by
  unfold bar0Write
  (repeat' split) <;> simp (maxDischargeDepth := 12) [-State.ite_power, hm]

end Sys2Proof.Machine
end

