-- ==== Sys2Proof/Laws/PowModule.lean ====
section
/-! SUPPORT. The clock and pacing stay in their ranges through the definitions of Machine/Module.lean. -/

namespace Sys2Proof.Machine

@[simp] theorem coldStart_pow (s : State)
    (hm : PowerOk s.power) :
    PowerOk (coldStart s).power := by
  simp (maxDischargeDepth := 12) [-State.ite_power, coldStart, hm]

@[simp] theorem dawnEntry_pow (s : State)
    (hm : PowerOk s.power) :
    PowerOk (dawnEntry s).power := by
  simp (maxDischargeDepth := 12) [-State.ite_power, dawnEntry, hm]

end Sys2Proof.Machine
end

