-- ==== Sys2Proof/Laws/PowTime.lean ====
section
/-! SUPPORT. The clock and pacing stay in their ranges through the definitions of Machine/Time.lean. -/

namespace Sys2Proof.Machine

@[simp] theorem tickWaits_pow (s : State)
    (hm : PowerOk s.power) :
    PowerOk (tickWaits s).power := by
  unfold tickWaits
  (repeat' split) <;> simp (maxDischargeDepth := 12) [-State.ite_power, hm]

@[simp] theorem tick_pow (s : State)
    (hm : PowerOk s.power) :
    PowerOk (tick s).power := by
  unfold tick
  (repeat' split) <;> simp (maxDischargeDepth := 12) [-State.ite_power, hm]

end Sys2Proof.Machine
end

