-- ==== Sys2Proof/Laws/Pump.lean ====
section
/-! SUPPORT. What a posted host command comes to that nothing holds back. -/

namespace Sys2Proof.Machine

theorem Tbl.put_put {α : Type} (t : Tbl α) (k : Nat) (v w : α) : Tbl.put (Tbl.put t k v) k w = Tbl.put t k w := by
  induction t with
  | nil => simp [Tbl.put]
  | cons p t ih =>
    obtain ⟨j, u⟩ := p
    simp only [Tbl.put]
    split
    · simp [Tbl.put]
    split
    · next h => subst h; simp [Tbl.put]
    · next h1 h2 => simp [Tbl.put, h1, h2, ih]

@[simp] theorem State.setPage_setPage (s : State) (k : Nat) (v w : Page) : (s.setPage k v).setPage k w = s.setPage k w := by
  simp [State.setPage, Tbl.put_put]

/-- The slots with commands waiting, once one slot without any takes one. -/
theorem waiting_put (t : Tbl Page) (k : Nat) (v : Page) (h : ∀ p ∈ t, p.2.queue = []) (hv : v.queue.isEmpty = false) :
    (Tbl.put t k v).filter (fun p => !p.2.queue.isEmpty) = [(k, v)] := by
  induction t with
  | nil => simp [Tbl.put, hv]
  | cons p t ih =>
    obtain ⟨j, w⟩ := p
    have hw : w.queue = [] := h (j, w) (List.mem_cons_self ..)
    have ht : ∀ p ∈ t, p.2.queue = [] := fun p hp => h p (List.mem_cons_of_mem _ hp)
    have hf : t.filter (fun p => !p.2.queue.isEmpty) = [] := by
      rw [List.filter_eq_nil_iff]; intro p hp; simp [ht p hp]
    simp only [Tbl.put]
    split
    · simp [hv, hw, hf]
    split
    · next e => subst e; simp [hv, hf]
    · simp [hw, ih ht]

theorem queued_put (t : Tbl Page) (k : Nat) (v : Page) (h : ∀ p ∈ t, p.2.queue = []) :
    ((Tbl.put t k v).map fun p => p.2.queue.length).sum = v.queue.length := by
  induction t with
  | nil => simp [Tbl.put]
  | cons p t ih =>
    obtain ⟨j, w⟩ := p
    have hw : w.queue = [] := h (j, w) (List.mem_cons_self ..)
    have ht : ∀ p ∈ t, p.2.queue = [] := fun p hp => h p (List.mem_cons_of_mem _ hp)
    have hf : (t.map fun p => p.2.queue.length).sum = 0 := by
      rw [List.sum_eq_zero]; intro x hx; simp only [List.mem_map] at hx
      obtain ⟨p, hp, rfl⟩ := hx; simp [ht p hp]
    simp only [Tbl.put]
    split
    · simp [hw, hf]
    split
    · next e => subst e; simp [hf]
    · simp [hw, ih ht]

theorem page_queue_nil {t : Tbl Page} {k : Nat} (h : ∀ p ∈ t, p.2.queue = []) : (Tbl.get {} t k).queue = [] := by
  induction t with
  | nil => rfl
  | cons p t ih =>
    obtain ⟨j, w⟩ := p
    simp only [Tbl.get]
    split
    · exact h (j, w) (List.mem_cons_self ..)
    · exact ih fun p hp => h p (List.mem_cons_of_mem _ hp)

theorem State.queues_nil {s : State} (h : s.waiting = []) : ∀ p ∈ s.pages, p.2.queue = [] := by
  intro p hp
  simp only [State.waiting, List.map_eq_nil_iff, List.filter_eq_nil_iff] at h
  have := h p hp
  simpa using this

/-- With no marked row on a core without a context nothing is repaired. -/
theorem repairIdle_of_clean {s : State} (h : ∀ n < 8, (s.core n).resident = none → (s.core n).rowMarks = []) : repairIdle s = s := by
  have key : ∀ l : List Nat, (∀ n ∈ l, n < 8) →
      l.foldl (fun u n => if (u.core n).resident.isNone then repairCore u n else u) s = s := by
    intro l
    induction l with
    | nil => exact fun _ => rfl
    | cons n l ih =>
      intro hl
      have hn : (if (s.core n).resident.isNone then repairCore s n else s) = s := by
        split
        · next h1 =>
          unfold repairCore
          simp [h n (hl n (List.mem_cons_self ..)) (by simpa using h1)]
        · rfl
      rw [List.foldl_cons, hn]
      exact ih fun m hm => hl m (List.mem_cons_of_mem _ hm)
  exact key _ fun n hn => List.mem_range.mp hn

/-- A command that changes no field of a status record writes none. -/
theorem State.settle_of_same {s t : State} (h : ∀ k, s.statusFields k = t.statusFields k) : s.settle t = t := by
  simp [State.settle, State.changedSlots, h]

theorem State.statusFields_setPage (s : State) (k j : Nat) (p : Page) : (s.setPage k p).statusFields j = s.statusFields j := rfl

theorem post_eq (s : State) (slot : Nat) (p : Post) (control : Bool) (op : Nat) (recs : List HostRec) (abort : Bool)
    (h : HostFree s slot p) :
    post p control op recs abort s
      = pumpRounds none 1 (pumpSlot false slot 33 (hostStart s slot (hostCmd p control op recs abort))) := by
  obtain ⟨h1, ⟨h2, h3⟩, h4, h5, h6, h7, h8⟩ := h
  have hq := State.queues_nil h5
  have hpq : (s.page slot).queue = [] := page_queue_nil hq
  have he : ∀ q : Page, (s.setPage slot q).early slot p.ide = none := fun q => h7
  have hpost : postAt slot p control (withOp p.entry op) recs abort
      (s.setPage slot { s.page slot with entries := Tbl.put (s.page slot).entries p.index.toNat (withOp p.entry op) })
      = hostStart s slot (hostCmd p control op recs abort) := by
    unfold postAt
    simp only [State.page_setPage_self, h4, Bool.false_eq_true, if_false, he, State.setPage_setPage, hpq, List.nil_append]
    rfl
  unfold post
  simp only [h1, h2, h3, Bool.not_true, Bool.or_self, Bool.false_eq_true, if_false]
  rw [hpost]
  have hc : repairIdle (hostStart s slot (hostCmd p control op recs abort)) = hostStart s slot (hostCmd p control op recs abort) :=
    repairIdle_of_clean fun n hn hr => h8 n hn hr
  unfold State.close State.pumpAt
  rw [hc]
  have hs : s.settle (hostStart s slot (hostCmd p control op recs abort)) = hostStart s slot (hostCmd p control op recs abort) :=
    State.settle_of_same fun _ => rfl
  rw [hs]
  have hw : (hostStart s slot (hostCmd p control op recs abort)).waiting = [slot] := by
    unfold State.waiting hostStart State.setPage
    rw [waiting_put _ _ _ hq (by rfl)]
    rfl
  have hn : (hostStart s slot (hostCmd p control op recs abort)).queued = 1 := by
    unfold State.queued hostStart State.setPage
    rw [queued_put _ _ _ hq]
    rfl
  rw [hn]
  show pumpRounds none 1 _ = _
  rw [hw]
  rfl

/-- A posted command that nothing holds back is carried out at once, with its completion. -/
theorem post_done (s : State) (slot : Nat) (p : Post) (control : Bool) (op : Nat) (recs : List HostRec) (abort : Bool)
    (h : HostFree s slot p) {u : State} {k b : Nat}
    (hr : runPosted false slot (hostCmd p control op recs abort) (hostStart s slot (hostCmd p control op recs abort)) = ⟨u, some (k, b)⟩) :
    post p control op recs abort s
      = hostEnd (hostStart s slot (hostCmd p control op recs abort)) slot (hostCmd p control op recs abort) u k b := by
  rw [post_eq s slot p control op recs abort h]
  have hq : ((hostStart s slot (hostCmd p control op recs abort)).page slot).queue = [hostCmd p control op recs abort] := by
    simp [hostStart]
  have hh : ((hostStart s slot (hostCmd p control op recs abort)).page slot).held = [] := by
    simp [hostStart, h.ring]
  unfold pumpSlot
  simp only [hq, hh, List.isEmpty_nil, Bool.not_true, Bool.false_eq_true, if_false, hr]
  rfl

/-- A posted command that is begun and waits. -/
theorem post_waits (s : State) (slot : Nat) (p : Post) (control : Bool) (op : Nat) (recs : List HostRec) (abort : Bool)
    (h : HostFree s slot p) {u : State}
    (hr : runPosted false slot (hostCmd p control op recs abort) (hostStart s slot (hostCmd p control op recs abort)) = ⟨u, none⟩) :
    post p control op recs abort s = hostWaits slot (hostCmd p control op recs abort) u := by
  rw [post_eq s slot p control op recs abort h]
  have hq : ((hostStart s slot (hostCmd p control op recs abort)).page slot).queue = [hostCmd p control op recs abort] := by
    simp [hostStart]
  have hh : ((hostStart s slot (hostCmd p control op recs abort)).page slot).held = [] := by
    simp [hostStart, h.ring]
  unfold pumpSlot
  simp only [hq, hh, List.isEmpty_nil, Bool.not_true, Bool.false_eq_true, if_false, hr]
  rfl

end Sys2Proof.Machine
end

