-- ==== Sys2Proof/WellFormed.lean ====
section
/-! DEFINITION. Which commands the spec's ranges admit: operands that a Lean type does not already
bound. Every command of `exec` has a meaning whether or not it is well formed. -/

namespace Sys2Proof

/-- A doorbell posting: the PF is function 0, a VF is 1 to 64, and a page is one of 4,096 (R430, R434). -/
def Post.wf (p : Post) : Bool := decide (p.fn ≤ 64) && decide (p.page < 4096)

/-- A message's payload agrees with its LENGTH, except in a READ_REQ (R237, R238). -/
def Msg.wf (m : Msg) : Bool :=
  decide (m.payload.length = m.length.toNat) || (m.typ == 0x03#8 && m.payload.isEmpty)

/-- A posting page of a page register write (R434). -/
def pageWf (fn page : Nat) : Bool := decide (fn ≤ 64) && decide (page < 4096)

/-- The operand ranges of a command. -/
def Instr.wf : Instr → Bool
  | .alloc p => p.wf
  | .free p => p.wf
  | .migrate p => p.wf
  | .winCreate p => p.wf
  | .winDestroy p => p.wf
  | .rcvSet p => p.wf
  | .restoreStarfix p => p.wf
  | .ctxLoad p => p.wf
  | .ctxReload p => p.wf
  | .ctxUnload p => p.wf
  | .ctxSwitchIn p => p.wf
  | .ctxSwitchOut p => p.wf
  | .ctxResume p => p.wf
  | .dwtPost p => p.wf
  | .dmaIn p _ _ => p.wf
  | .dmaOut p => p.wf
  | .dbCplRingWrite fn page _ => pageWf fn page
  | .dbCplPtrWrite fn page _ => pageWf fn page
  | .rxWrite _ _ m => m.wf
  | .rxAccum _ _ m => m.wf
  | .rxReadResp _ _ m => m.wf
  | .pfc _ _ _ times => decide (times.length = 8)
  | .retransmit _ _ => true
  | .pcieLinkUp speed width flit =>
    decide (1 ≤ speed.toNat) && decide (speed.toNat ≤ 6) && (flit || decide (speed.toNat ≠ 6))
      && (width == 1#5 || width == 4#5 || width == 8#5 || width == 16#5)
  | .registerWrite bar2 fn offset _ _ _ =>
    decide (fn ≤ 64) && decide (offset % 8 = 0)
      && decide (offset < if bar2 then 0x10000000 else 0x4000000) && (bar2 || decide (fn = 0))
  | .utilisationWindowEnd _ tx rx => decide (tx ≤ 100) && decide (rx ≤ 100)
  | .logNvmCopy _ => true
  | .powerStagesStop mv => decide (mv ≤ 65535)
  | _ => true

end Sys2Proof
end

