-- ==== Sys2Proof/Tests/Slice0.lean ====
section
/-! SUPPORT. Tests: ill-formed commands that WellFormed refuses, words of Kwemin, and for every statement of the
certificate states and operands that meet its hypotheses. -/

namespace Sys2Proof.Tests

set_option Elab.async false

open Sys2Proof Sys2Proof.Machine

/-! States -/

/-- A grant of four slots, one spill slot and eight vector registers. -/
def grant : Grant := { present := true, vregCount := 8, spillCount := 1, accCount := 4 }

/-- A RUNNING context on core 0: four counters, one bank, class 0 BF16, class 1 FP32. -/
def ctx : Ctx :=
  { st := .running
    desc := { mask := 1, ctrCount := 4, entries := [(0, { fGrant := grant, bGrant := grant, bankCount := 1 })] }
    recipe := [0, 0x1001, 0x0001] }

/-- An enclosure with two context slots and a few of everything else. -/
def encl0 : EnclEntry :=
  { index := 0, dedicatedCores := 1, tcMask := 0xFF, ctxCount := 2, ctrCount := 8, winCount := 4, cconnCount := 4, connCount := 4, connBase := 4
    queueCount := 2, brdPages := 4, pkgPages := 4, portWeight := List.replicate 16 1, hostSlot := 0, dwtSlot := 1, brdSlot := 2, pkgSlot := 3
    logSlot := 4 }

/-- The context resident on core 0 with the state `l` there; its page 1 is mapped to the package tier. -/
def on (l : CoreCtx) : State :=
  { cores := [(0, { live := l, resident := some 0, state := .running, clock := 1150 })]
    ctxs := [(0, ctx)]
    tiers := { pt := [(1, { frame := 49152 })] }
    sec := { image := some { entries := [encl0] }, encls := [(0, { st := .active, entry := encl0 })] } }

def kw (o : KwOp) : Kw := { stats := false, dfr := false, tag := 0, tail := {}, op := o }

def pend (k : Kw) (x1 x2 : W48 := 0) (inBr := false) : Pend :=
  { idx := 0, kw := k, pendA := k.op.sides.1, pendE := k.op.sides.2, x1 := x1, x2 := x2, x3 := 0, src := none, inBr := inBr
    loopIx := 0, seq := 0 }

/-- Stream F with one instruction that waits for its unit. -/
def wait1 (o : KwOp) (x1 x2 : W48 := 0) : Stream := { st := .running, pc := 0x200010, next := 1, q := [pend (kw o) x1 x2] }

def run (o : KwOp) (x1 x2 : W48 := 0) (l : CoreCtx := {}) : State := on { l with f := wait1 o x1 x2 }

/-- What the head of F, or of B's deferred queue, sees where it may issue. -/
def head? (s : State) (x : StrmId) (dfr access : Bool) : Option (Pend × Env) :=
  match site s 0 x with
  | none => none
  | some i =>
    if (i.t.rerun || i.waits) || (dfr && decide (x ≠ .B)) then none
    else match i.t.head dfr access with
      | none => none
      | some p =>
        if (envOf s 0 x i p).ready i.t access && grantOk s 0 x dfr access (envOf s 0 x i p) && cleanLanes (issueEnv s 0 x dfr access i p)
        then some (p, issueEnv s 0 x dfr access i p)
        else none

theorem issues_of {s : State} {x : StrmId} {dfr access : Bool} {p : Pend} {e : Env}
    (h : head? s x dfr access = some (p, e)) : Issues s 0 x dfr access p.kw.op e := by
  unfold head? at h
  split at h <;> try contradiction
  rename_i i hi
  split at h <;> try contradiction
  rename_i hc
  split at h <;> try contradiction
  rename_i q hq
  split at h <;> try contradiction
  rename_i hr
  simp only [Option.some.injEq, Prod.mk.injEq] at h
  obtain ⟨rfl, rfl⟩ := h
  simp only [Bool.or_eq_true, Bool.and_eq_true, decide_eq_true_eq, not_or, not_and] at hc hr
  exact ⟨i, q, ⟨hi, by simpa using hc.1, hq, hr.1.1, hr.1.2, fun h => by simpa using hc.2 h⟩, rfl, rfl, hr.2⟩

/-- The bytes of words at the frame of page 1. -/
def code (ks : List Kw) : Tbl Byte :=
  ((ks.flatMap fun k => leBytes 16 k.encode.toNat).zipIdx.filter fun p => decide (p.1 ≠ 0#8)).map fun p => (49152 * 2097152 + p.2, p.1)

/-- Stream F at a program at address 0x200000. -/
def prog (ks : List Kw) (t : Stream := {}) : State :=
  let s := on { f := { t with st := .running, pc := 0x200000 } }
  { s with tiers := { s.tiers with mem := code ks } }

theorem at_of {s : State} {i : Site} {k : Kw} (h : site s 0 .F = some i) (ho : (i.open_ && !s.memTrains i.slot i.t.pc.toNat 16) = true)
    (hw : (fetchWord s i.slot i.t.pc >>= decodeKw .F) = .ok k) : AtPc s 0 .F i k := by
  simp only [Bool.and_eq_true, Bool.not_eq_true'] at ho
  cases hf : fetchWord s i.slot i.t.pc with
  | error c => simp [hf, bind, Except.bind] at hw
  | ok w => exact ⟨h, ho.1, ho.2, w, hf, by simpa [hf, bind, Except.bind] using hw⟩

theorem goes {e : Env} {m : Numeric} (h1 : (m.unrep && recNfFault e.ctx.recipe) = false)
    (h2 : (m.fp32Ovf && !recOvfRecord e.ctx.recipe) = false) (h3 : e.p.inBr = false) : goesOn e m :=
  ⟨h1, h2, fun h => absurd h (by simp [h3])⟩

theorem no_some {α : Type} {p : α → Prop} {o : Option α} (h : o.isNone = true) : ∀ b, o = some b → p b := by
  intro b hb; simp [hb] at h

/-! The array and the accumulators -/

def loadwF : LoadwF := { kl := 2, nl := 1, tb := false, cls := 0, lsrc := false, bx := 0, off := 0, stride := 0 }

theorem test_loadw_meets : ∃ e rows, Issues (run (.loadw loadwF)) 0 .F false false (.loadw loadwF) e
    ∧ e.readRows (e.eff 0 false) 0 0 1 2 = .ok rows ∧ e.chkCtr = .ok ()
    ∧ e.chkClass 0 = .ok () ∧ (e.eff 0 false).fmt.kp = some 256 ∧ e.chkBracket false = .ok ()
    ∧ e.chkOs 0 0 1 ((e.eff 0 false).rowBytes 2) = .ok () :=
  ⟨_, _, issues_of (p := pend (kw (.loadw loadwF))) rfl, rfl, by decide⟩

def tile : Tile := { eff := ⟨.bf16, none⟩, kl := 2, nl := 1, cols := [⟨[0x3F80, 0x4000], []⟩] }

def runF : RunF :=
  { slot := 0, tb := false, mode := false, group := 0, spill := true, spillSlot := 0, m := 1, k := 2, n := 1, cls := 0
    lsrc := false, ax := 0, off := 0, stride := 0 }

/-- A slot two short of SPILL_K, so that the run owes a spill. -/
def runL : CoreCtx := { tiles := [(0, some tile)], acc := [(0, { typ := .fp32, k := 16382 })] }

theorem test_run_meets : ∃ e rows, Issues (run (.run runF) 0 0 runL) 0 .F false false (.run runF) e
    ∧ e.readRows (e.eff 0 false) 0 0 1 2 = .ok rows
    ∧ goesOn e { fp32Ovf := (runSlot false false (groupSize 0) 2 1 1 (e.eff 0 false) rows tile (e.live.slot 0)).2 } ∧ e.chkCtr = .ok ()
    ∧ e.chkSlot 0 = .ok () ∧ e.chkSpill 0 = .ok () ∧ e.chkClass 0 = .ok () ∧ (e.eff 0 false).fmt.kp = some 256
    ∧ (e.live.tile e.x 0).map (fun t => decide (t.eff.fmt.arrayClass = (e.eff 0 false).fmt.arrayClass)) = some true
    ∧ spillK e.spillV ≤ (e.live.slot 0).k + 2 ∧ (e.live.spillSlot 0).owner = none ∧ e.chkBracket false = .ok ()
    ∧ e.chkCarried ((e.live.slot 0).carried || (e.live.spillSlot 0).carried) = .ok ()
    ∧ e.chkOs 0 0 1 ((e.eff 0 false).rowBytes 2) = .ok () ∧ e.live.accBad 0 1 1 = false :=
  ⟨_, _, issues_of (p := pend (kw (.run runF))) rfl, rfl, goes (by decide) (by decide) rfl, by decide⟩

/-- A run with no rows: it needs no unit. -/
theorem test_zero_count_meets : ∃ e, Issues (run (.run { runF with m := 0 }) 0 0 runL) 0 .F false false (.run { runF with m := 0 }) e
    ∧ e.zero = true ∧ e.chkCtr = .ok () ∧ e.chkSlot 0 = .ok () ∧ e.chkBracket false = .ok () :=
  ⟨_, issues_of (p := pend (kw (.run { runF with m := 0 }))) rfl, by decide⟩

theorem test_spill_meets : ∃ i, site (on { f := { st := .running, spills := [⟨0, 0, 0⟩] } }) 0 .F = some i ∧ i.t.spills = [⟨0, 0, 0⟩]
    ∧ (coreOf (on { f := { st := .running, spills := [⟨0, 0, 0⟩] } }) 0).accBad 0 256 256 = false
    ∧ (coreOf (on { f := { st := .running, spills := [⟨0, 0, 0⟩] } }) 0).accBad 64 256 256 = false
    ∧ ((spillInto 0 ((coreOf (on { f := { st := .running, spills := [⟨0, 0, 0⟩] } }) 0).slot 0) {}).2.2 && true) = false :=
  ⟨_, rfl, by decide⟩

def accReadF : AccReadF :=
  { slot := 0, src := false, clear := true, m := 1, n := 1, cls := 0, lsrc := false, statsSlot := 0, dx := 0, off := 0, stride := 0 }

def accL : CoreCtx := { acc := [(0, { typ := .fp32, elems := [(0, 0x3F800000)] })], spill := [(0, { full := true, owner := some 0 })] }

theorem test_acc_read_meets : ∃ e, Issues (run (.accRead accReadF) 0 0 accL) 0 .F false false (.accRead accReadF) e
    ∧ goesOn e (e.classNumeric 0 false (e.classRows 0 false 0 0 (accRows e.live accReadF)).tally) ∧ e.chkCtr = .ok ()
    ∧ e.chkSlot 0 = .ok () ∧ e.chkClass 0 = .ok () ∧ e.chkBracket false = .ok () ∧ e.chkCarried (e.live.slot 0).carried = .ok ()
    ∧ e.chkOs 0 0 1 ((e.eff 0 false).rowBytes 1) = .ok () ∧ e.live.accBad 0 1 1 = false :=
  ⟨_, issues_of (p := pend (kw (.accRead accReadF))) rfl, goes (by decide) (by decide) rfl, by decide⟩

def accWriteF : AccWriteF := { slot := 3, m := 1, n := 1, cls := 0, lsrc := false, sx := 0, off := 0, stride := 0 }

theorem test_acc_write_meets : ∃ e rows, Issues (run (.accWrite accWriteF)) 0 .F false false (.accWrite accWriteF) e
    ∧ e.readRows (e.eff 0 false) 0 0 1 1 = .ok rows ∧ e.chkCtr = .ok ()
    ∧ e.chkSlot 3 = .ok () ∧ e.chkClass 0 = .ok () ∧ (e.eff 0 false).fmt ≠ .fp32c ∧ e.chkBracket false = .ok ()
    ∧ e.chkCarried (e.live.slot 3).carried = .ok () ∧ e.chkOs 0 0 1 ((e.eff 0 false).rowBytes 1) = .ok () :=
  ⟨_, _, issues_of (p := pend (kw (.accWrite accWriteF))) rfl, rfl, by decide⟩

def rscaleF : RscaleF := { slot := 0, m := 1, vreg := 7 }

theorem test_rscale_meets : ∃ e, Issues (run (.rscale rscaleF) 0 0 accL) 0 .F false false (.rscale rscaleF) e ∧ e.chkCtr = .ok ()
    ∧ e.chkSlot 0 = .ok () ∧ e.chkReg 7 = .ok () ∧ (e.live.slot 0).typ ≠ .int32 ∧ e.chkBracket false = .ok ()
    ∧ e.chkCarried (e.live.slot 0).carried = .ok () ∧ e.live.accBad 0 1 256 = false :=
  ⟨_, issues_of (p := pend (kw (.rscale rscaleF))) rfl, by decide⟩

theorem test_resume_meets : ∃ e, Issues (run (.resume ⟨0, 0⟩) 0 0 accL) 0 .F false false (.resume ⟨0, 0⟩) e
    ∧ goesOn e { fp32Ovf := (e.live.spillSlot 0).full && (resumeElems (e.live.slot 0) (e.live.spillSlot 0)).2 } ∧ e.chkCtr = .ok ()
    ∧ e.chkSlot 0 = .ok () ∧ e.chkSpill 0 = .ok () ∧ (e.live.slot 0).typ ≠ .int32 ∧ (e.live.spillSlot 0).owner = some 0
    ∧ e.chkBracket false = .ok () ∧ e.chkCarried ((e.live.slot 0).carried || (e.live.spillSlot 0).carried) = .ok ()
    ∧ e.live.accBad 0 256 256 = false ∧ e.live.accBad 64 256 256 = false :=
  ⟨_, issues_of (p := pend (kw (.resume ⟨0, 0⟩))) rfl, goes (by decide) (by decide) rfl, by decide⟩

/-! The vector unit -/

def aluF : AluF :=
  { fn := 0, count := 2, osr := 2, cls := 0, statsSlot := 0, lsrc := false, bb := false, seg := 0, vd := 0, va := 0, vb := 7
    osx := 0, stride := 0, off := 0 }

theorem test_alu_meets : ∃ e, Issues (run (.alu aluF)) 0 .F false false (.alu aluF) e
    ∧ goesOn e (e.classNumeric 0 false (e.classRows 0 false 0 0 (groupSrcs (segW 0)
        ((e.live.lanes 0 2).zipIdx.map fun p => aluFn 0 (0 + p.2) p.1 (e.live.lane 7 p.2) 0))).tally) ∧ e.chkCtr = .ok ()
    ∧ e.chkRegs ((if (2#2 : BitVec 2) = 2#2 && !aluUsesD 0 then [] else [0]) ++ aluF.reads) = .ok () ∧ e.chkClass 0 = .ok ()
    ∧ e.chkBracket false = .ok () ∧ e.chkGroupOp 2#2 (e.eff 0 false) 0 0 (segW 0) 2 = .ok () :=
  ⟨_, issues_of (p := pend (kw (.alu aluF))) rfl, goes (by decide) (by decide) rfl, by decide⟩

theorem test_alu_row_group_meets : ∃ e as, Issues (run (.alu { aluF with osr := 1 })) 0 .F false false (.alu { aluF with osr := 1 }) e
    ∧ e.chkRegs ([0] ++ ({ aluF with osr := 1 } : AluF).reads) = .ok () ∧ e.chkGroupOp 1#2 (e.eff 0 false) 0 0 (segW 0) 2 = .ok ()
    ∧ e.readGroup (e.eff 0 false) 0 0 (segW 0) 2 = .ok as :=
  ⟨_, _, issues_of (p := pend (kw (.alu { aluF with osr := 1 }))) rfl, by decide, by decide, rfl⟩

def fillF : FillF := { count := 1, lane := 1023, vd := 7, imm := 0x7FC00001 }

theorem test_fill_meets : ∃ e, Issues (run (.fill fillF)) 0 .F false false (.fill fillF) e ∧ e.chkCtr = .ok () ∧ e.chkReg 7 = .ok ()
    ∧ 1023 + 1 ≤ 1024 ∧ e.chkBracket false = .ok () :=
  ⟨_, issues_of (p := pend (kw (.fill fillF))) rfl, by decide⟩

def vdropF : VdropF := { count := 2, vd := 0, va := 1, vb := 2, ex := 0, w16 := false, thresh := 256, layer := 0x100 }

theorem test_drop_meets : ∃ e, Issues (run (.vdrop vdropF)) 0 .F false false (.vdrop vdropF) e ∧ e.chkCtr = .ok ()
    ∧ e.chkRegs [0, 1, 2] = .ok () ∧ e.chkBracket false = .ok () :=
  ⟨_, issues_of (p := pend (kw (.vdrop vdropF))) rfl, by decide⟩

def redF : RedF :=
  { fn := 3, count := 2, osr := 0, cls := 0, lane := 1023, seg := 0, vd := 0, va := 1, vb := 2, osx := 0, stride := 0, off := 0, lsrc := false }

theorem test_red_meets : ∃ e vs, Issues (run (.red redF)) 0 .F false false (.red redF) e ∧ e.live.lanes 1 2 = vs ∧ e.chkCtr = .ok ()
    ∧ e.chkRegs (0 :: [1] ++ [2]) = .ok () ∧ 1023 + groupRows (segW 0) 2 ≤ 1024 ∧ ¬(redF.fn = 3#6 ∧ redF.vd = redF.vb)
    ∧ e.chkBracket false = .ok () ∧ e.chkGroupOp 0#2 (e.eff 0 false) 0 0 (segW 0) 2 = .ok () :=
  ⟨_, _, issues_of (p := pend (kw (.red redF))) rfl, rfl, by decide⟩

def osmxF : OsmxF :=
  { count := 2, osr := 0, cls := 0, statsSlot := 0, lsrc := false, seg := 0, vd := 6, va := 7, vm := 3, lane := 1023, osx := 0, stride := 0
    off := 0 }

theorem test_osmx_meets : ∃ e, Issues (run (.osmx osmxF)) 0 .F false false (.osmx osmxF) e ∧ e.chkCtr = .ok ()
    ∧ e.chkRegs ([3, 4, 5] ++ [6, 7]) = .ok () ∧ (∀ r ∈ [6, 7], r < 3 ∨ 3 + 2 < r) ∧ 1023 + groupRows (segW 0) 2 ≤ 1024
    ∧ e.chkBracket false = .ok () ∧ e.chkGroupOp 0#2 (e.eff 0 false) 0 0 (segW 0) 2 = .ok () :=
  ⟨_, issues_of (p := pend (kw (.osmx osmxF))) rfl, by decide⟩

/-! Moves -/

def mvF : MvF := { mx := 0, mstride := 0, osx := 0, off := 0, stride := 0, rows := 1, rowLen := 1, add := 0 }

theorem test_move_load_meets : ∃ e, Issues (run (.mload mvF) 0x200000) 0 .F false true (.mload mvF) e ∧ e.chkCtr = .ok ()
    ∧ e.chkBracket false = .ok () ∧ e.chkOs 0 0 1 64 = .ok () ∧ e.chkMem 0x200000 0 1 64 = .ok () ∧ e.chkTag 0x200000 0 1 64 = .ok ()
    ∧ (loadRows e.slot 0x200000 0 0 0 64 1 0 e.s e.live).2.2 = false
    ∧ ∀ k < 1, (run (.mload mvF) 0x200000).touchesView e.slot (memRow 0x200000 0 k) 64 = false :=
  ⟨_, issues_of (p := pend (kw (.mload mvF)) 0x200000) rfl, by decide⟩

theorem test_move_store_meets : ∃ e, Issues (run (.mstore { mvF with add := 2 }) 0x200000) 0 .F false true (.mstore { mvF with add := 2 }) e
    ∧ e.chkCtr = .ok () ∧ e.chkBracket true = .ok () ∧ e.chkOs 0 0 1 64 = .ok () ∧ e.chkMem 0x200000 0 1 128 = .ok ()
    ∧ e.chkView 0x200000 0 1 128 = .ok () ∧ (∀ k < 1, (run (.mstore mvF)).inPackage e.slot (memRow 0x200000 0 k) 128 = true)
    ∧ e.chkTag 0x200000 0 1 128 = .ok () ∧ (∀ k < 1, e.live.osBad (0 + k * 0) 64 = false)
    ∧ (storeRows e.slot 0x200000 0 2#2 [e.live.osRead 0 64] 0 e.s).2 = false ∧ e.slot ≠ replaySlot ∧ (run (.mstore mvF)).replayed ≠ some e.slot
    ∧ (∀ j < 128, vpage ((memRow 0x200000 0 0 + j) % addrTop) ∉ ((run (.mstore mvF)).ctx e.slot).rcv.protect) :=
  ⟨_, issues_of (p := pend (kw (.mstore { mvF with add := 2 })) 0x200000) rfl, by decide⟩

def tloadF : TloadF := { mx := 0, mstride := 0, osx := 0, off := 0, stride := 0, rows := 1, cols := 1, cls := 0, lsrc := false }

theorem test_move_tload_meets : ∃ e, Issues (run (.tload tloadF) 0x200000) 0 .F false true (.tload tloadF) e ∧ e.chkCtr = .ok ()
    ∧ e.chkClass 0 = .ok () ∧ e.chkBracket false = .ok () ∧ e.chkOs 0 0 1 ((tloadDest (e.eff 0 false)).rowBytes 1) = .ok ()
    ∧ e.chkMem 0x200000 0 1 ((e.eff 0 false).rowBytes 1) = .ok () ∧ e.chkTag 0x200000 0 1 ((e.eff 0 false).rowBytes 1) = .ok ()
    ∧ (readRowsMem e.slot 0x200000 0 ((e.eff 0 false).rowBytes 1) 1 0 e.s).2.any Prod.snd = false :=
  ⟨_, issues_of (p := pend (kw (.tload tloadF)) 0x200000) rfl, by decide⟩

def gatherF : GatherF := { mx := 0, mstride := 1, ixx := 0, osx := 0, off := 1, stride := 1, count := 1, rowLen := 1 }

theorem test_move_gather_meets : ∃ e, Issues (run (.gather gatherF) 0x200000) 0 .F false true (.gather gatherF) e ∧ e.chkCtr = .ok ()
    ∧ e.chkBracket false = .ok () ∧ 0 + 4 * 1 ≤ e.osSize ∧ e.live.osBad 0 4 = false ∧ e.chkOs 64 64 1 64 = .ok ()
    ∧ rowFault (gatherRows e.slot 0x200000 64 64 (gatherIdx e.live 0 1) e.s).2 = none :=
  ⟨_, issues_of (p := pend (kw (.gather gatherF)) 0x200000) rfl, by decide⟩

theorem test_move_dwtq_meets : ∃ e, Issues (run (.dwtq ⟨0, 1, 1⟩) 0x200000) 0 .F false true (.dwtq ⟨0, 1, 1⟩) e ∧ e.chkCtr = .ok ()
    ∧ e.chkBracket true = .ok () ∧ e.chkMem 0x200000 0 1 64 = .ok () ∧ e.s.queueOf e.slot 1 = some 1
    ∧ e.s.queueForeign 1 (e.s.home e.slot) = false ∧ e.chkTag 0x200000 0 1 64 = .ok () ∧ e.slot ≠ replaySlot ∧ (e.s.readVA e.slot 0x200000 64).bad = false :=
  ⟨_, issues_of (p := pend (kw (.dwtq ⟨0, 1, 1⟩)) 0x200000) rfl, by decide⟩

/-! Dispatch, faults, SYNC and COLL -/

theorem test_dispatch_meets : ∃ i, AtPc (prog [kw (.fill fillF)]) 0 .F i (kw (.fill fillF)) ∧ i.t.room (kw (.fill fillF)) = true
    ∧ i.t.beginWaits (.fill fillF) = false ∧ kwCommand 0 .F .dispatch .execute (.fill fillF) = some (.vecFill 0 .F .dispatch) :=
  ⟨_, at_of rfl (by decide) (by decide), by decide, by decide, rfl⟩

theorem test_dispatch_halt_meets : ∃ i, AtPc (prog [kw .halt]) 0 .F i (kw .halt) ∧ i.t.room (kw .halt) = true :=
  ⟨_, at_of rfl (by decide) (by decide), by decide⟩

/-- A fill of a register outside the grant. -/
theorem test_failed_check_meets : ∃ e, Issues (run (.fill { fillF with vd := 8 })) 0 .F false false (.fill { fillF with vd := 8 }) e
    ∧ kwCarry .execute e = .error .vecRegRange ∧ ((coreOf (run (.fill { fillF with vd := 8 })) 0).strm .F).fault = none :=
  ⟨_, issues_of (p := pend (kw (.fill { fillF with vd := 8 }))) rfl, rfl, by decide⟩

/-- An ALU instruction that passes its checks and reads a vector word with an uncorrectable error. -/
theorem test_sram_error_meets : ∃ i p d, MayIssue (run (.alu aluF) 0 0 { errs := [{ mem := .vec, word := 0, ue := true }] }) 0 .F false false i p
    ∧ p.kw.op = .alu aluF ∧ kwCommand 0 .F .issue .execute (.alu aluF) = some (.vecAlu 0 .F .issue)
    ∧ cleanLanes (issueEnv (run (.alu aluF) 0 0 { errs := [{ mem := .vec, word := 0, ue := true }] }) 0 .F false false i p) = false
    ∧ kwCarry .execute (issueEnv (run (.alu aluF) 0 0 { errs := [{ mem := .vec, word := 0, ue := true }] }) 0 .F false false i p) = .ok d :=
  ⟨_, _, _, ⟨rfl, rfl, rfl, by decide, by decide, by decide⟩, rfl, rfl, by decide, rfl⟩

/-- A stream at an unmapped PC, and one at a word with the tag of another stream. -/
theorem test_dispatch_faults_meet :
    (∃ i, site (on { f := { st := .running } }) 0 .F = some i ∧ i.open_ = true
        ∧ (on { f := { st := .running } }).memTrains i.slot i.t.pc.toNat 16 = false ∧ fetchWord (on { f := { st := .running } }) i.slot i.t.pc = .error .ctrlFetch)
    ∧ (∃ i w, site (prog [{ kw (.fill fillF) with tag := 1 }]) 0 .F = some i ∧ i.open_ = true
        ∧ (prog [{ kw (.fill fillF) with tag := 1 }]).memTrains i.slot i.t.pc.toNat 16 = false ∧ fetchWord (prog [{ kw (.fill fillF) with tag := 1 }]) i.slot i.t.pc = .ok w ∧ decodeKw .F w = .error .streamTag
        ∧ KwOp.read w = some (.fill fillF)) :=
  ⟨⟨_, rfl, by decide⟩, ⟨_, _, rfl, by decide, by decide, rfl, by decide⟩⟩

def waitF (t : BitVec 48) : WaitF := { t := t, u := 0, mode := 0, side := 1, ctr := 3 }

theorem test_wait_meets : (∃ e, Issues (run (.wait (waitF 0))) 0 .F false false (.wait (waitF 0)) e ∧ sideOk 1#2 false = true
      ∧ e.p.kw.wf .F = true ∧ e.chkIndex 3 = .ok () ∧ e.chkBracket false = .ok ())
    ∧ (∃ e, Issues (run (.wait (waitF 1))) 0 .F false false (.wait (waitF 1)) e ∧ e.p.kw.wf .F = true ∧ e.chkIndex 3 = .ok ()) :=
  ⟨⟨_, issues_of (p := pend (kw (.wait (waitF 0)))) rfl, by decide⟩,
    ⟨_, issues_of (p := pend (kw (.wait (waitF 1)))) rfl, by decide⟩⟩

theorem test_wait_met_meets : ∃ i, site (on { f := { st := .running, heldE := some ⟨0, 3, 0, false, true⟩ } }) 0 .F = some i
    ∧ i.t.heldOn false false = some ⟨0, 3, 0, false, true⟩ ∧ 0 ≤ (on {}).relCtr i.slot 3 := ⟨_, rfl, rfl, by decide⟩

theorem test_inc_meets : ∃ e, Issues (run (.inc ⟨1, 0, 3⟩)) 0 .F false true (.inc ⟨1, 0, 3⟩) e ∧ sideOk 0#2 true = true
    ∧ e.p.kw.wf .F = true ∧ e.chkIndex 3 = .ok () ∧ e.chkBracket false = .ok () ∧ e.p.inBr = false :=
  ⟨_, issues_of (p := pend (kw (.inc ⟨1, 0, 3⟩))) rfl, by decide⟩

def bracket0 : Bracket := { layer := 0x100, idx := 0, pc := 0x200000, xs := [], loops := [], srcId := none, begun := true }

/-- Stream F inside a bracket, with one instruction at its head. -/
def inBracket (o : KwOp) : State := on { f := { st := .running, next := 1, opened := true, bracket := some bracket0, q := [pend (kw o) 0 0 true] } }

theorem test_inc_in_bracket_meets : ∃ e, Issues (inBracket (.inc ⟨1, 0, 3⟩)) 0 .F false true (.inc ⟨1, 0, 3⟩) e ∧ e.p.kw.wf .F = true
    ∧ e.chkIndex 3 = .ok () ∧ e.chkBracket false = .ok () ∧ e.p.inBr = true ∧ e.heldFull 3 = false
    ∧ ((coreOf (inBracket (.inc ⟨1, 0, 3⟩)) 0).strm .F).bracket = some bracket0 ∧ e.p.kw.tail.pop = false :=
  ⟨_, issues_of (p := pend (kw (.inc ⟨1, 0, 3⟩)) 0 0 true) rfl, by decide⟩

theorem test_token_meets : ∃ e, Issues (run (.token ⟨0⟩)) 0 .F false true (.token ⟨0⟩) e ∧ sideOk 0#2 true = true ∧ e.p.kw.wf .F = true
    ∧ e.chkBracket false = .ok () := ⟨_, issues_of (p := pend (kw (.token ⟨0⟩))) rfl, by decide⟩

/-- Stream U of the leading core at a COLL instruction, its descriptor at 0x200000: no tiles, THIN 1, the norm's result at 0x200040. -/
def coll (o : KwOp) (op out : Nat) : State :=
  let s := on { u := { st := .running, pc := 0x200010, next := 1, q := [pend { kw o with tag := 2 } 0x200000] } }
  { s with tiers := { s.tiers with mem := [(49152 * 2097152, 1), (49152 * 2097152 + 1, BitVec.ofNat 8 op), (49152 * 2097152 + 3, 1)]
        ++ if out = 0 then [] else [(49152 * 2097152 + 56, 0x40), (49152 * 2097152 + 58, 0x20)] } }

/-- What the statement of COLL asks of the descriptor. -/
def collOk (s : State) (e : Env) (op : Nat) : Bool :=
  let r := e.s.readVA e.slot 0x200000 64
  let d := readColl r.bytes
  decide (e.chkCtr = .ok ()) && decide (e.chkBracket true = .ok ()) && e.leads && decide (e.p.x1.toNat % 64 = 0) && e.s.mapped e.slot 0x200000 64
    && decide (e.chkTag 0x200000 0 1 64 = .ok ()) && !r.bad && !collDescBad r.bytes op && !r.s.collRegionBad e.slot d && !e.ctx.collCtrBad d && !r.s.collConnBad (r.s.home e.slot)
    && (decide (op = 3) || decide (d.pmapVa = 0)) && decide ((s.ctx e.slot).collNext = 0)

theorem test_coll_meets : (∃ e, Issues (coll (.reduce ⟨0⟩) 1 0) 0 .U false true (.reduce ⟨0⟩) e ∧ collOk (coll (.reduce ⟨0⟩) 1 0) e 1 = true)
    ∧ (∃ e, Issues (coll (.collGather ⟨0⟩) 2 0) 0 .U false true (.collGather ⟨0⟩) e ∧ collOk (coll (.collGather ⟨0⟩) 2 0) e 2 = true)
    ∧ (∃ e, Issues (coll (.norm ⟨0⟩) 3 1) 0 .U false true (.norm ⟨0⟩) e ∧ collOk (coll (.norm ⟨0⟩) 3 1) e 3 = true) :=
  ⟨⟨_, issues_of (p := pend { kw (.reduce ⟨0⟩) with tag := 2 } 0x200000) rfl, by decide⟩,
    ⟨_, issues_of (p := pend { kw (.collGather ⟨0⟩) with tag := 2 } 0x200000) rfl, by decide⟩,
    ⟨_, issues_of (p := pend { kw (.norm ⟨0⟩) with tag := 2 } 0x200000) rfl, by decide⟩⟩

/-! Control, brackets and completion -/

theorem test_ctrl_meets :
    (∃ i, AtPc (prog [kw (.loop ⟨0, 1⟩)] { loops := List.replicate 3 ⟨0, 1, 0⟩ }) 0 .F i (kw (.loop ⟨0, 1⟩)) ∧ i.t.loops.length < 4)
    ∧ (∃ i w, AtPc (prog [kw (.loop ⟨1, 0⟩), kw .endl]) 0 .F i (kw (.loop ⟨1, 0⟩))
        ∧ fetchWord (prog [kw (.loop ⟨1, 0⟩), kw .endl]) i.slot (pcAdd i.t.pc 1) = .ok w ∧ isEndlWord .F w = true)
    ∧ (∃ i, AtPc (prog [kw .endl] { loops := [⟨0x200000, 2, 0⟩] }) 0 .F i (kw .endl) ∧ i.t.loops = [] ++ [⟨0x200000, 2, 0⟩])
    ∧ (∃ i, AtPc (prog [kw .endl] { loops := [⟨0x200000, 2, 1⟩] }) 0 .F i (kw .endl) ∧ i.t.loops = [] ++ [⟨0x200000, 2, 1⟩])
    ∧ (∃ i, AtPc (prog [kw (.jmp ⟨0xFFFFFFFF⟩)]) 0 .F i (kw (.jmp ⟨0xFFFFFFFF⟩)))
    ∧ (∃ i, AtPc (prog [kw (.brc ⟨4, 1, 3⟩)]) 0 .F i (kw (.brc ⟨4, 1, 3⟩)) ∧ i.t.waitsMet = true ∧ 3 < i.ctx.desc.ctrCount)
    ∧ (∃ i, AtPc (prog [kw (.xset ⟨5, 15⟩)]) 0 .F i (kw (.xset ⟨5, 15⟩)))
    ∧ (∃ i, AtPc (prog [kw (.xadd ⟨0xFFFFFFFFFFFF, 1⟩)]) 0 .F i (kw (.xadd ⟨0xFFFFFFFFFFFF, 1⟩)))
    ∧ (∃ i, AtPc (prog [kw (.sclr ⟨256, 0⟩)]) 0 .F i (kw (.sclr ⟨256, 0⟩)) ∧ i.t.doneBefore i.t.next none none = true ∧ i.t.spills = []) :=
  ⟨⟨_, at_of rfl (by decide) (by decide), by decide⟩, ⟨_, _, at_of rfl (by decide) (by decide), rfl, by decide⟩,
    ⟨_, at_of rfl (by decide) (by decide), rfl⟩, ⟨_, at_of rfl (by decide) (by decide), rfl⟩, ⟨_, at_of rfl (by decide) (by decide)⟩,
    ⟨_, at_of rfl (by decide) (by decide), by decide⟩, ⟨_, at_of rfl (by decide) (by decide)⟩,
    ⟨_, at_of rfl (by decide) (by decide)⟩, ⟨_, at_of rfl (by decide) (by decide), by decide, rfl⟩⟩

theorem test_bracket_rows_meet :
    (∃ e, Issues (run .meridian) 0 .F false true .meridian e ∧ e.chkCtr = .ok () ∧ e.p.inBr = false
        ∧ ((coreOf (run .meridian) 0).strm .F).hand.any = false)
    ∧ (∃ e, Issues (run .halt) 0 .F false true .halt e ∧ e.chkCtr = .ok () ∧ e.p.inBr = false)
    ∧ (∃ e, Issues (run (.lbegin ⟨0x100⟩)) 0 .F false false (.lbegin ⟨0x100⟩) e ∧ e.p.kw.wf .F = true ∧ e.p.inBr = false
        ∧ (0x100#32 : W32) ≠ 0xFFFFFFFF#32 ∧ 0x100#32 ∉ e.ctx.opened)
    ∧ (∃ e, Issues (inBracket .lend) 0 .F false false .lend e ∧ e.p.kw.wf .F = true ∧ e.p.inBr = true
        ∧ ((coreOf (inBracket .lend) 0).strm .F).bracket = some bracket0 ∧ e.p.kw.tail.pop = false)
    ∧ (∃ e, Issues (run (.srcid ⟨0x100⟩)) 0 .F false false (.srcid ⟨0x100⟩) e ∧ e.p.kw.wf .F = true) :=
  ⟨⟨_, issues_of (p := pend (kw .meridian)) rfl, by decide⟩,
    ⟨_, issues_of (p := pend (kw .halt)) rfl, by decide⟩,
    ⟨_, issues_of (p := pend (kw (.lbegin ⟨0x100⟩))) rfl, by decide⟩,
    ⟨_, issues_of (p := pend (kw .lend) 0 0 true) rfl, by decide⟩,
    ⟨_, issues_of (p := pend (kw (.srcid ⟨0x100⟩))) rfl, by decide⟩⟩

def flight0 : Flight := { idx := 0, onA := false, dfr := false, inBr := true, dctr := some 3 }

/-- Stream F with one instruction in flight inside a bracket that its LAYER.END may close. -/
def flying (endIdx : Option Nat) : State :=
  on { f := { st := .running, next := 2, opened := true, bracket := some { bracket0 with endIdx := endIdx, held := [(3, 2)] }, flights := [flight0] } }

theorem test_completion_meets :
    (∃ i, site (flying none) 0 .F = some i ∧ i.t.flights.find? (fun g => decide (g.idx = 0)) = some flight0
        ∧ (∀ b, i.t.bracket = some b → b.endIdx ≠ some 0) ∧ ∀ d ∈ i.t.spills, d.idx ≠ 0)
    ∧ (∃ i, site (on { f := { st := .running, flights := [{ flight0 with inBr := false }] } }) 0 .F = some i
        ∧ i.t.flights.find? (fun g => decide (g.idx = 0)) = some { flight0 with inBr := false } ∧ i.ctx.ctrFrozen i.slot 3 = false
        ∧ (∀ b, i.t.bracket = some b → b.endIdx ≠ some 0) ∧ ∀ d ∈ i.t.spills, d.idx ≠ 0)
    ∧ (∃ i b, site (flying (some 0)) 0 .F = some i ∧ i.t.flights.find? (fun g => decide (g.idx = 0)) = some flight0
        ∧ i.t.bracket = some b ∧ b.endIdx = some 0 ∧ i.t.bracketDone 0 = true) :=
  ⟨⟨_, rfl, rfl, fun b h => by cases h; decide, by decide⟩, ⟨_, rfl, rfl, by decide, no_some rfl, by decide⟩, ⟨_, _, rfl, rfl, rfl, rfl, by decide⟩⟩

theorem test_stops_meet :
    (∃ i, site (on { f := { st := .running, fault := some ⟨.vecRegRange, 0⟩ } }) 0 .F = some i ∧ i.t.fault = some ⟨.vecRegRange, 0⟩
        ∧ i.slot ≠ replaySlot ∧ i.ctx.st = .running ∧ i.t.drained = true ∧ (on { f := { st := .running } }).noFlights i.slot = true)
    ∧ (∃ i, site (on { f := { st := .running, bracket := some bracket0, nova := some ⟨1, 0x100, 0, .bf16, .fp32⟩ } }) 0 .F = some i
        ∧ i.ctx.st ≠ .eclipse ∧ i.t.nova = some ⟨1, 0x100, 0, .bf16, .fp32⟩ ∧ i.t.bracket = some bracket0 ∧ i.t.drained = true)
    ∧ (∃ i, site (on { f := { st := .running, rerun := true } }) 0 .F = some i ∧ i.ctx.st ≠ .eclipse ∧ i.t.rerun = true)
    ∧ candReady (run (.fill fillF)) 0 .F .vector = true :=
  ⟨⟨_, rfl, rfl, by decide⟩, ⟨_, rfl, by decide, rfl, rfl, by decide⟩, ⟨_, rfl, by decide, rfl⟩, by decide⟩

/-! Meridians, switches, power, self-test -/

/-- A context whose one stream waits at its meridian. -/
def atMer : State := on { f := { st := .atMeridian, atSync := true } }

theorem test_meridian_meets : atMer.meridianReady 0 = true ∧ atMer.allHalted 0 = false
    ∧ (firstThree 0 (writeWinRecords 0 atMer)).resident 0 = true
    ∧ (meridianCheck 0 true (firstThree 0 (writeWinRecords 0 atMer))).2 = none := by decide +kernel

def posted (control : Bool) (op : Nat) : Posted :=
  { index := 0, control := control, entry := BitVec.ofNat 512 op, fn := 0, early := none }

/-- A READY context with CTX_SWITCH_IN at the front of its page's queue, its core free. -/
def switching : State :=
  { on {} with
    cores := [(0, { state := .idle })]
    ctxs := [(0, { ctx with st := .ready })]
    pages := [(0, { queue := [posted true 0x43] })] }

theorem test_switches_meet :
    ((switching.page 0).held = [] ∧ ctlReserved (posted true 0x43).entry = false ∧ entOp (posted true 0x43).entry = 0x43
        ∧ (switching.ctx 0).st = .ready ∧ switching.resident 0 = false ∧ switching.coresFree 0 = true
        ∧ switching.replayed ≠ some 0)
    ∧ (let s := { on {} with ctxs := [(0, { ctx with preempt := true })] }
       s.modl.thermalStop = false ∧ (s.ctx 0).preempt = true ∧ s.resident 0 = true ∧ s.noFlights 0 = true ∧ s.noNova 0 = true
        ∧ (s.allAtMeridian 0 && !s.allHalted 0) = false) := by decide +kernel

/-- The power manager of a device that serves its mailbox. -/
def powered (p : Power) : State := { mgt := { ready := true }, power := p }

theorem test_power_meets : (powered {}).mgt.ready = true
    ∧ (let s := powered { clock := 575, pacing := 8, samples := List.replicate 10 0xFFFF }
       s.mgt.ready = true ∧ s.power.overCap = true ∧ s.power.clock ≤ 575 ∧ s.power.pacing ≤ 8) := by decide

theorem test_selftest_meets :
    (let s : State := { cores := [(7, { state := .idle })] }
     (s.core 7).state = .idle ∧ (s.core 7).busy = false ∧ s.usersOf 7 = [])
    ∧ (State.reset.core 7).state ≠ .idle
    ∧ (let s : State := { cores := [(7, { state := .idle, busy := true })] }
       (s.core 7).busy = true
        ∧ (Core.mapSpares [255] false ([255].filterMap (s.core 7).logicalOf).dedup ([255].foldl Core.dropSpare (s.core 7))).2 = true) := by decide

/-! Host commands -/

/-- A device that takes doorbells, its context 0 resident on core 0. -/
def hostS : State := { on {} with hif := { ready := true, linkUp := true, ideRequired := false } }

/-- The same with the context in another state, and resident or not. -/
def hostC (c : Ctx) (resident : Bool) : State :=
  { hostS with ctxs := [(0, c)], cores := [(0, { resident := if resident then some 0 else none, state := if resident then .running else .idle })] }

def post (ws : List Nat) : Post := { fn := 0, page := 0, index := 0, entry := BitVec.ofNat 512 (packBits 64 ws), ide := false }

/-- What HostFree asks. -/
def free (s : State) (p : Post) : Bool :=
  decide (s.slotOf p.fn p.page = some 0) && s.hif.ready && s.hif.linkUp && !(s.page 0).pending.getLsbD p.index.toNat
    && decide (s.waiting = []) && decide ((s.page 0).held = []) && decide (s.early 0 p.ide = none)
    && (List.range 8).all (fun n => (s.core n).resident.isSome || (s.core n).rowMarks.isEmpty) && decide (s.replayed ≠ some 0)

theorem free_of {s : State} {p : Post} (h : free s p = true) : HostFree s 0 p := by
  simp only [free, Bool.and_eq_true, decide_eq_true_eq, Bool.not_eq_true'] at h
  obtain ⟨⟨⟨⟨⟨⟨⟨⟨h1, h2⟩, h3⟩, h4⟩, h5⟩, h6⟩, h7⟩, h8⟩, h9⟩ := h
  refine ⟨h1, ⟨h2, h3⟩, h4, h5, h6, h7, fun n hn hr => ?_, h9⟩
  simpa [hr] using List.all_eq_true.mp h8 n (List.mem_range.mpr hn)

/-- The entry that a posting of operation `op` hands over, and the state that it starts in. -/
def entOf (control : Bool) (op : Nat) (ws : List Nat) : BitVec 512 := (hostCmd (post ws) control op [] false).entry
def startOf (s : State) (control : Bool) (op : Nat) (ws : List Nat) : State := hostStart s 0 (hostCmd (post ws) control op [] false)

/-- The page of the context as one allocation, and a window on it. -/
def obj1 : AllocObj := { slot := 0, base := 0x200000, pages := 1, flags := 0x002 }
def win1 : SWin :=
  { slot := 0, core := 0, view := 0x800000, src := 0x200000, srcPages := 1, follow := false, depth := 1, slotPages := 1, runahead := 0, list := [(0, 2097152)]
    fillCtr := 0, relCtr := 1, record := 0, frames := [0] }

def withTiers (s : State) (objs : List AllocObj) (wins : List SWin) : State := { s with tiers := { s.tiers with objs := objs, wins := wins } }

theorem test_alloc_meets : HostFree hostS 0 (post [0, 0x400000, 1, 0])
    ∧ (tierAlloc 0 0 (entOf false 1 [0, 0x400000, 1, 0]) (startOf hostS false 1 [0, 0x400000, 1, 0])).res = some (0, 0) :=
  ⟨free_of (by decide +kernel), by decide +kernel⟩

theorem test_free_meets :
    (let s := withTiers (hostC { ctx with st := .ready } false) [obj1] []
     HostFree s 0 (post [0, 0x200000, 1]) ∧ (tierFree 0 false (entOf false 2 [0, 0x200000, 1]) (startOf s false 2 [0, 0x200000, 1])).res = some (0, 0))
    ∧ (let s := withTiers hostS [obj1] []
       HostFree s 0 (post [0, 0x200000, 1]) ∧ (tierFree 0 false (entOf false 2 [0, 0x200000, 1]) (startOf s false 2 [0, 0x200000, 1])).res = none) :=
  ⟨⟨free_of (by decide +kernel), by decide +kernel⟩, ⟨free_of (by decide +kernel), by decide +kernel⟩⟩

theorem test_migrate_meets :
    let s := withTiers hostS [obj1] []
    let ws := [0, 0x200000, 0, 0x004]
    HostFree s 0 (post ws) ∧ (endRebalance 0 (startOf s false 3 ws)).objAt 0 0x200000 = some obj1
      ∧ planMoves (endRebalance 0 (startOf s false 3 ws)) 0 0 (placePools 0x004) ((endRebalance 0 (startOf s false 3 ws)).objPages obj1) [] = some [(1, .board)]
      ∧ (tierMigrate 0 0 false (entOf false 3 ws) (startOf s false 3 ws)).res = none :=
  ⟨free_of (by decide +kernel), by decide +kernel⟩

theorem test_win_create_meets :
    let s := { withTiers hostS [obj1] [] with sec := { image := some { entries := [{ encl0 with nearPages := [1] }] }
                                                       encls := [(0, { st := .active, entry := { encl0 with nearPages := [1] } })] } }
    let ws := [0, 0x200000, 0, 0, 0x800000]
    HostFree s 0 (post ws) ∧ (tierWinCreate 0 0 (entOf false 4 ws) (startOf s false 4 ws)).res = some (0, 0) :=
  ⟨free_of (by decide +kernel), by decide +kernel⟩

theorem test_win_destroy_meets :
    (let s := withTiers (hostC { ctx with st := .ready } false) [obj1] [win1]
     HostFree s 0 (post [0, 0x800000]) ∧ (tierWinDestroy 0 false (entOf false 5 [0, 0x800000]) (startOf s false 5 [0, 0x800000])).res = some (0, 0))
    ∧ (let s := withTiers hostS [obj1] [win1]
       HostFree s 0 (post [0, 0x800000]) ∧ (tierWinDestroy 0 false (entOf false 5 [0, 0x800000]) (startOf s false 5 [0, 0x800000])).res = none) :=
  ⟨⟨free_of (by decide +kernel), by decide +kernel⟩, ⟨free_of (by decide +kernel), by decide +kernel⟩⟩

theorem test_window_upkeep_meets :
    (let s := withTiers hostS [obj1] [win1]
     s.winAt 0 0x800000 = some (0, win1) ∧ win1.follow = false ∧ win1.list ≠ [] ∧ win1.copying = none ∧ win1.held = false ∧ win1.pos < win1.depth)
    ∧ (withTiers hostS [obj1] [{ win1 with copying := some 0 }]).winAt 0 0x800000 = some (0, { win1 with copying := some 0 })
    ∧ (∀ l ∈ [[1], []], let w := { win1 with follow := true, runahead := 8, cache := [(1, 0)], ahead := l }
        (withTiers hostS [obj1] [w]).winAt 0 0x800000 = some (0, w) ∧ decide (vpage w.src + 0 ∈ w.ahead) = !l.isEmpty)
    ∧ (let s := { hostS with tiers := { hostS.tiers with latent := [⟨5, true⟩] } }
       s.tiers.intervalH ≠ 0 ∧ ∃ e ∈ s.tiers.latent, e.ue = true)
    ∧ hostS.tiers.moves = [] ∧ hostS.anyPages = [] ∧ hostS.replayed = none
    ∧ (∀ moving ∈ [none, some 49153], let m : Move := { slot := 0, vpage := 1, dest := 49153 }
        let s := { hostS with tiers := { hostS.tiers with moves := [m], pt := [(1, { frame := 49152, moving := moving })] } }
        s.tiers.moves = [m] ∧ s.pte 0 1 = some { frame := 49152, moving := moving } ∧ s.trains 49153 = false ∧ s.trains 49152 = false)
    ∧ (let o := { obj1 with displaced := true }
       let s := withTiers hostS [o] []
       s.objAt 0 0x200000 = some o ∧ s.enclOfSlot 0 = some 0 ∧ o.displaced = true ∧ s.leaving o = false
        ∧ planMoves s 0 0 ((placePools o.flags).take 1) (s.objPages o) [] = some []) := by
  decide +kernel

/-- The bytes of 64-bit words at offsets of page 1. -/
def memAt (ws : List (Nat × Nat)) : Tbl Byte :=
  ws.flatMap fun p => ((leBytes 8 p.2).zipIdx.filter fun b => decide (b.1 ≠ 0#8)).map fun b => (49152 * 2097152 + p.1 + b.2, b.1)

/-- A descriptor of one core with stream F, its recipe table after it. -/
def descS : State :=
  let s := hostC {} false
  { s with tiers := { s.tiers with mem := memAt [(0, 0x101), (8, 0x200100), (16, 0x201000), (128, 0x200000), (152, 2 ^ 48), (256, 1)] } }

theorem test_ctx_load_meets : ∀ b : Bool, let s := descS.setCore 0 { descS.core 0 with busy := b }
    HostFree s 0 (post [0, 0x200000]) ∧ ctlReserved (entOf true 0x40 [0, 0x200000]) = false
      ∧ (loadCtx 0 0 0x200000 (startOf s true 0x40 [0, 0x200000])).2 = 0
      ∧ ((maskCores (checkDesc 0 0 0x200000 false (startOf s true 0x40 [0, 0x200000])).d.mask).any fun n => (s.core n).busy) = b
  | true => ⟨free_of (by decide +kernel), by decide +kernel⟩
  | false => ⟨free_of (by decide +kernel), by decide +kernel⟩

theorem test_ctx_commands_meet :
    (HostFree hostS 0 (post [0, 0x200000]) ∧ ctlReserved (entOf true 0x41 [0, 0x200000]) = false ∧ (hostS.ctx 0).st ≠ .none)
    ∧ (let s := hostC { ctx with st := .ready } false
       HostFree s 0 (post [0]) ∧ ctlReserved (entOf true 0x42 [0]) = false ∧ ctlReserved (entOf true 0x43 [0]) = false
        ∧ ctlReserved (entOf true 0x44 [0]) = false ∧ (s.ctx 0).st = .ready ∧ s.resident 0 = false ∧ s.coresFree 0 = true)
    ∧ (HostFree hostS 0 (post [0, 0, 1]) ∧ ctlReserved (entOf true 0x44 [0, 0, 1]) = false ∧ hostS.resident 0 = true
        ∧ (hostS.ctx 0).st ≠ .done ∧ (hostS.ctx 0).held = false)
    ∧ (let s := hostC { ctx with st := .done } true
       HostFree s 0 (post [0]) ∧ (s.ctx 0).st = .done ∧ s.resident 0 = true)
    ∧ (let s := hostC { ctx with st := .faulted } true
       HostFree s 0 (post [0]) ∧ (s.ctx 0).st = .faulted ∧ s.resident 0 = true)
    ∧ (let s := hostC { ctx with held := true } true
       HostFree s 0 (post [0]) ∧ ctlReserved (entOf true 0x45 [0]) = false ∧ (s.ctx 0).st ≠ .none ∧ (s.ctx 0).held = true) :=
  ⟨⟨free_of (by decide +kernel), by decide +kernel⟩,
    ⟨free_of (by decide +kernel), by decide +kernel⟩,
    ⟨free_of (by decide +kernel), by decide +kernel⟩,
    ⟨free_of (by decide +kernel), by decide +kernel⟩, ⟨free_of (by decide +kernel), by decide +kernel⟩,
    ⟨free_of (by decide +kernel), by decide +kernel⟩⟩

theorem test_dwt_post_meets :
    let ws := [0, 0x200000, 1 * 65536 + 1]
    HostFree hostS 0 (post ws) ∧ ctlReserved (entOf true 0x50 ws) = false ∧ hostS.queueOf 0 1 = some 1 ∧ hostS.queueForeign 1 0 = false
      ∧ hostS.mapped 0 0x200000 64 = true ∧ hostS.memTrains 0 0x200000 64 = false ∧ (hostS.queue 1).entries.length + 1 ≤ Config.queueEntries
      ∧ ((startOf hostS true 0x50 ws).readVA 0 0x200000 64).bad = false :=
  ⟨free_of (by decide +kernel), by decide +kernel⟩

/-- A committed starfix of step 7 that holds page 1. -/
def star1 : Starfix :=
  { step := 7, s := 7, pages := [(1, [])], streams := [], counters := [], perm := [], raise := [], winPos := [], dwtWins := [], conns := []
    objs := [(obj1, [])], complete := true, committed := true }

def starD : RcvDesc :=
  { tolUlp := 0, undoSkip := 0, mirrorEn := false, shadow := false, autoRestore := true, snapMode := 0, localVa := 0x400000, localPages := 18
    undoVa := 0, fixedSteps := 1, undoPages := 0, mirrorConn := 0, mirrorWgen := 0, mirrorWindow := 0, lossVa := 0 }

/-- A context with that starfix in LOCAL, whose copy of the page is page 10, and in MIRROR. -/
def starS : State :=
  let s := hostC { ctx with st := .faulted, cause := 0x308, rcv := { desc := some starD, starfixes := [star1], committedStep := some 7 } } false
  { s with
    tiers := { s.tiers with objs := [obj1], pt := [(1, { frame := 49152 }), (10, { frame := 49153 })] }
    dwt := { conns := [(4, { st := .open_ })] }, rcv := { mirrors := [(0, [star1])] } }

theorem look_mem {α : Type} {k : Nat} {v : α} : ∀ {t : Tbl α}, Tbl.look t k = some v → (k, v) ∈ t
  | [], h => by simp [Tbl.look] at h
  | (a, w) :: t, h => by
    simp only [Tbl.look] at h
    split at h
    · simp_all
    · exact List.mem_cons_of_mem _ (look_mem h)

theorem own_of {s : State} {slot : Nat} (hw : s.tiers.wins = [])
    (hp : ∀ p ∈ s.tiers.pt, p.2.moving = none ∧ ∀ q ∈ s.tiers.pt, p.2.frame = q.2.frame → p.1 = q.1) : OwnFrames s slot where
  apart a b p q h g e := by have := (hp _ (look_mem h)).2 _ (look_mem g) e; simp only at this; omega
  still a p h := (hp _ (look_mem h)).1
  plain _ _ _ _ w hm := by simp [hw] at hm
  whole w hm := by simp [hw] at hm

/-- What a restore of the starfix asks, of the state that it starts in. -/
theorem test_starfix_good : ∀ s ∈ [starS, startOf starS true 0x61 [0, 7], startOf starS true 0x61 [0, 7, 1]],
    GoodStarfix s 0 star1 ∧ OwnFrames s 0 ∧ Memory.wf s.tiers.mem = true ∧ makeObjs 0 0 star1.objs s = some s
      ∧ (starD.slotPage star1.half + recordPages + 0 = 10 ∧ (s.pte 0 10).isSome = true ∧ s.viewAt 0 10 = none ∧ 10 ∉ star1.pages.map Prod.fst
        ∧ (s.pte 0 1).isSome = true) := by
  intro s hs
  simp only [List.mem_cons, List.not_mem_nil, or_false] at hs
  rcases hs with rfl | rfl | rfl <;>
    exact ⟨⟨by decide +kernel, by decide +kernel, by decide +kernel⟩, own_of rfl (by decide +kernel), rfl, rfl, by decide +kernel⟩

theorem test_restore_and_dma_meet :
    (HostFree hostS 0 (post [0, 0x200000]) ∧ ctlReserved (entOf true 0x60 [0, 0x200000]) = false)
    ∧ (HostFree starS 0 (post [0, 7]) ∧ ctlReserved (entOf true 0x61 [0, 7]) = false
        ∧ (restore 0 0 7 false (startOf starS true 0x61 [0, 7])).2 = 0)
    ∧ (HostFree starS 0 (post [0, 7, 1]) ∧ ctlReserved (entOf true 0x61 [0, 7, 1]) = false
        ∧ (restore 0 0 7 true (startOf starS true 0x61 [0, 7, 1])).2 = 0)
    ∧ (HostFree hostS 0 (post [0]) ∧ ctlReserved (entOf true 0x70 [0]) = false
        ∧ ((startOf hostS true 0x70 [0]).touch 0).dmaStop 0 (entOf true 0x70 [0]) false = none
        ∧ (takeRecs 0 0 false [] 0 0 (((startOf hostS true 0x70 [0]).touch 0).drawn 1)).2.1 = 0)
    ∧ (let ws := [0, 0x1000, 112, 0x200000, 64]
       HostFree hostS 0 (post ws) ∧ ctlReserved (entOf true 0x71 ws) = false
        ∧ ((startOf hostS true 0x71 ws).touch 0).dmaStop 0 (entOf true 0x71 ws) false = none ∧ hostS.memTrains 0 0x200000 64 = false ∧ 64 + 48 * ceilDiv 64 4194304 ≤ 112
        ∧ hostS.mapped 0 0x200000 64 = true
        ∧ (sealRecs 0 0 1 0x200000 0x1000 64 0 (((startOf hostS true 0x71 ws).touch 0).drawn 1)).2.1 = 0) :=
  ⟨⟨free_of (by decide +kernel), by decide +kernel⟩, ⟨free_of (by decide +kernel), by decide +kernel⟩,
    ⟨free_of (by decide +kernel), by decide +kernel⟩, ⟨free_of (by decide +kernel), by decide +kernel⟩,
    ⟨free_of (by decide +kernel), by decide +kernel⟩⟩

/-! The window transport -/

def qent (op : Nat) : QEnt :=
  { op := op, waitEn := false, fence := false, ctrEn := false, recEn := false, conn := 0, localVa := 0, length := 0, rwgen := 0, window := 0
    roffset := 0, waitCtr := 0, waitTarget := 0, doneCtr := 0, recVa := 0, extra := 0, resv := false }

/-- An OPEN connection 4 of context 0. -/
def conn0 : DwtConn := { st := .open_, peerR := some 1 }

/-- Queue 0 of context 0 with one entry, connection 4, window 0 and memory `mem`. -/
def dwtS (e : QEnt) (c : DwtConn := conn0) (w : DwtWin := {}) (mem : Tbl Byte := []) : State :=
  { hostS with
    dwt := { queues := [(0, { ctx := some 0, next := 1, entries := [(0, e)] })], conns := [(4, c)], wins := [(0, w)] }
    tiers := { hostS.tiers with mem := mem, objs := [obj1] }
    sec := { image := some { entries := [encl0] }, encls := [(0, { st := .active, entry := encl0, pubs := [(0, 1)] })] } }

/-- The state once the entry has started. -/
def begun (s : State) (e : QEnt) : State :=
  (s.setQueue 0 { s.queue 0 with entries := (s.queue 0).entries.tail, started := (s.queue 0).started ++ [⟨0, 0, e⟩] }).touch 0

/-- What every statement of a starting entry asks. -/
def starts (s : State) (e : QEnt) : Bool :=
  decide (s.startable 0 = some ⟨0, 0, e⟩) && ((s.queue 0).started.all fun x => decide (x.num ≠ 0)) && decide (firstOf (e.common (begun s e) 0) = none)

def moveEnt (op : Nat) : QEnt := { qent op with localVa := 0x200000, length := 64 }

/-- A pull of 64 bytes to 0x200400 under the manifest at 0x200000. -/
def pullEnt (n : Nat) : QEnt := { qent 0x20 with localVa := 0x200400, length := n, extra := 0x200000 }
def manifest : Tbl Byte := memAt [(0, 1 + 20 * 256), (8, 64), (16, 1)]

theorem test_queue_entries_meet :
    starts (dwtS { qent 0 with ctrEn := true, doneCtr := 3 }) { qent 0 with ctrEn := true, doneCtr := 3 } = true
    ∧ (∀ op ∈ [1, 2, 3], starts (dwtS (moveEnt op)) (moveEnt op) = true
        ∧ firstOf (moveChecks (begun (dwtS (moveEnt op)) (moveEnt op)) ⟨0, 0, moveEnt op⟩ 4 64 (decide (op = 2))) = none
        ∧ (dwtS (moveEnt op)).connOf 0 0 = some 4 ∧ ((dwtS (moveEnt op)).conn 4).full = false ∧ conn0.ops = [] ∧ conn0.segs = []
        ∧ ceilDiv 64 conn0.desc.maxSeg = 1 ∧ ((begun (dwtS (moveEnt op)) (moveEnt op)).readVA 0 0x200000 64).bad = false)
    ∧ (∀ n ∈ [0, 64], starts (dwtS (pullEnt n) conn0 {} manifest) (pullEnt n) = true
        ∧ pullStatus ⟨0, 0, pullEnt n⟩ 1 (begun (dwtS (pullEnt n) conn0 {} manifest) (pullEnt n)) = none) := by
  decide +kernel

def winEnt : QEnt := { qent 0x10 with localVa := 0x200000, length := 64, roffset := 0x200100, extra := 0xF }

theorem test_window_rows_meet :
    (let s := dwtS winEnt
     starts s winEnt = true ∧ winEnt.window < encl0.winCount ∧ (s.win 0).st = .closed ∧ bit winEnt.extra 32 = false
      ∧ (begun s winEnt).winRangeOk 0 0x200000 64 = true ∧ (begun s winEnt).inPackage 0 0x200000 64 = true
      ∧ (begun s winEnt).mapped 0 0x200100 32 = true ∧ (begun s winEnt).touchesView 0 0x200100 32 = false)
    ∧ (let s := dwtS (qent 0x11) conn0 { st := .open_ }
       starts s (qent 0x11) = true ∧ (s.win 0).st = .open_)
    ∧ (let s := dwtS (qent 0) conn0 { st := .closing, revoked := true, revoker := some (0, 5) }
       (s.win 0).st = .closing ∧ (s.win 0).revoker = some (0, 5)) := by
  decide +kernel

/-- A connection descriptor for the direct neighbour with endpoint ID 2 behind port 0. -/
def connMem : Tbl Byte := memAt [(0, 1), (8, 2)]
def openS : State :=
  let e : QEnt := { qent 0x30 with localVa := 0x200000 }
  { dwtS e {} {} connMem with nets := [(0, { kind := kindDirect, linkUp := true, helloOk := true, peerId := 2 })] }

theorem test_connection_rows_meet :
    (starts openS { qent 0x30 with localVa := 0x200000 } = true ∧ openS.connOf 0 0 = some 4 ∧ (openS.conn 4).st = .closed
      ∧ (let m := (begun openS { qent 0x30 with localVa := 0x200000 }).readVA 0 0x200000 64
         m.bad = false ∧ (begun openS { qent 0x30 with localVa := 0x200000 }).descBad 0 (readConnDesc m.bytes).1 (readConnDesc m.bytes).2 = false))
    ∧ (∀ c ∈ [conn0, { conn0 with ops := [{ queue := 0, ent := 5, q := moveEnt 1, length := 64, segs := 1 }] }],
        let s := dwtS (qent 0x31) c
        starts s (qent 0x31) = true ∧ s.connOf 0 0 = some 4 ∧ (s.conn 4).st = .open_ ∧ (s.conn 4).closer = none)
    ∧ (let c := (dwtS (qent 0) { st := .opening, opener := some (0, 5) }).conn 4
       c.st = .opening ∧ c.opener = some (0, 5))
    ∧ (let c := (dwtS (qent 0) { conn0 with opens := true }).conn 4
       c.st = .open_ ∧ c.opens = true)
    ∧ (∀ k ∈ [7, 8], let m : CollMsg := { k := ⟨7, 0⟩, src := 0, dest := 1, fp := none, body := .ready 0 2 }
        let h : CollSeg := { seq := 9, typ := 0, num := some 7, bytes := 0, tries := k, msg := m }
        let c := (dwtS (qent 0) { conn0 with coll := true, csegs := [h] }).conn 4
        (∀ g ∈ c.segs, g.seq ≠ 9) ∧ c.csegs.find? (fun g => decide (g.seq = 9)) = some h)
    ∧ (let o : DwtOp := { queue := 0, ent := 5, q := moveEnt 1, length := 64, segs := 1 }
       let c := { conn0 with seq := 0xFFFF0001, ops := [o] }
       c.ops.find? DwtOp.more = some o ∧ c.mustRekey o = true)
    ∧ (∀ k ∈ [7, 8], let g : Seg := { seq := 9, typ := 1, queue := 0, ent := 5, window := 0, wgen := 0, offset := 0, length := 64, at_ := 0
                                      first := true, last := true, ref := 0, tries := k }
        ((dwtS (qent 0) { conn0 with segs := [g] }).conn 4).segs.find? (fun g => decide (g.seq = 9)) = some g)
    ∧ (let o : DwtOp := { queue := 0, ent := 5, q := moveEnt 1, length := 64, segs := 1, sent := 1 }
       let g : Seg := { seq := 9, typ := 1, queue := 0, ent := 5, window := 0, wgen := 0, offset := 0, length := 64, at_ := 0
                        first := true, last := true, ref := 0 }
       let s := dwtS (qent 0) { conn0 with ops := [o], segs := [{ g with tries := 1 }] }
       let read := fun l => ({ s with tiers := { s.tiers with poison := l } }.readVA 0 (0x200000 + g.at_) 64).bad
       g.writes = true ∧ (s.conn 4).closer = none ∧ o.nak = none ∧ o.mismatch = false
        ∧ (([o] : List DwtOp).find? fun o => decide (o.queue = g.queue) && decide (o.ent = g.ent)) = some o
        ∧ read [49152 * 32768] = true ∧ read [] = false) := by
  decide +kernel

/-- A segment whose source is poisoned: sent again it completes its operation with LOCAL_POISONED; a connection reset with a
CONN_CLOSE waiting closes the connection (R241, R255, R261). -/
theorem test_poisoned_source_completes :
    let o : DwtOp := { queue := 0, ent := 5, q := moveEnt 1, length := 64, segs := 1, sent := 1 }
    let g : Seg := { seq := 9, typ := 1, queue := 0, ent := 5, window := 0, wgen := 0, offset := 0, length := 64, at_ := 0
                     first := true, last := true, ref := 0 }
    let s := dwtS (qent 0) { conn0 with ops := [o], segs := [g] }
    ((retransmit 4 9 { s with tiers := { s.tiers with poison := [49152 * 32768] } }).conn 4).ops = []
    ∧ ((connReset 4 (s.setConn 4 { conn0 with ops := [o], segs := [g], closer := some (0, 6) })).conn 4).st = .closed := by
  decide +kernel

def rx : RxFacts := { len := 64, fecBad := false, stomped := false, fcsBad := false, dst := 0, src := 1, tagged := false, vid := 0, cls := 0
                      net := .ether 0x88B5 }

/-- A frame for the raw ring, and a MAC Control frame. -/
def rxR : RxFacts := { rx with net := .ether 0x0800 }
def rxC : RxFacts := { rx with net := .ether 0x8808 }

/-- A message for connection 4. -/
def msg (typ : Nat) : Msg :=
  { ver := 1, typ := BitVec.ofNat 8 typ, resv := false, first := true, last := true, dstConn := 4, srcConn := 0, txn := 0, seq := 65536, ref := 9
    window := 0, wgen := 1, length := 64, offset := 0, status := 0x10, payload := List.replicate 64 1, sealKey := 0, sealDir := false, intact := true, frameLenOk := true }

/-- A device whose direct port 0 is up, with connection 4 and window 0 of 64 bytes. -/
def rxS (c : DwtConn) : State :=
  { dwtS (qent 0) c { st := .open_, gen := 1, base := 0x200000, size := 64, perm := 7 } with
    nets := [(0, { kind := kindDirect, linkUp := true, helloOk := true, lanes := 4 })] }

/-- Whether the message reaches connection 4. -/
def arrives (s : State) (m : Msg) : Bool := decide ((dwtIn 0 rx m m.typ.toNat s).cn = some 4)

theorem arrives_some {s : State} {m : Msg} (h : arrives s m = true) : ∃ s1, dwtIn 0 rx m m.typ.toNat s = ⟨s1, some 4⟩ := by
  simp only [arrives, decide_eq_true_eq] at h
  exact ⟨(dwtIn 0 rx m m.typ.toNat s).s, by rw [← h]⟩

/-- WRITE, ACCUM and READ_REQ accepted, refused for a stale generation or by a storage connection, repeated (the bitmap's oldest number), and
too old; a segment that is its operation's only one, and one of many. -/
theorem test_segments_meet :
    (∀ t ∈ [1, 2, 3], let m := if t = 2 then { msg t with length := 32 } else msg t
      let c := { conn0 with high := some 131071, bits := [131071] }
      let s1 := (dwtIn 0 rx m t (rxS c)).s
      arrives (rxS c) m = true ∧ (s1.conn 4).tooOld 65536 = false ∧ 65536 ∉ (s1.conn 4).bits ∧ (s1.conn 4).desc.storage = false
        ∧ (s1.setConn 4 ((s1.conn 4).seen 65536)).winStatus 4 m = none)
    ∧ (let m := { msg 1 with wgen := 2 }
       let s1 := (dwtIn 0 rx m 1 (rxS conn0)).s
       arrives (rxS conn0) m = true ∧ ((s1.setConn 4 ((s1.conn 4).seen 65536)).winStatus 4 m).isSome = true)
    ∧ (∀ ref ∈ [65536, 9], let m : Msg := { msg 1 with ref := BitVec.ofNat 32 ref }
        arrives (rxS conn0) m = true ∧ conn0.notify = [] ∧ decide (m.seq - m.ref = 0) = decide (ref = 65536))
    ∧ (let c := { conn0 with desc := { conn0.desc with storage := true } }
       arrives (rxS c) (msg 1) = true ∧ ((dwtIn 0 rx (msg 1) 1 (rxS c)).s.conn 4).desc.storage = true
        ∧ ((dwtIn 0 rx (msg 1) 1 (rxS c)).s.conn 4).tooOld 65536 = false ∧ 65536 ∉ ((dwtIn 0 rx (msg 1) 1 (rxS c)).s.conn 4).bits)
    ∧ (∀ t ∈ [1, 2, 3], let c := { conn0 with high := some 131071, bits := [131071, 65536] }
       arrives (rxS c) (msg t) = true ∧ ((dwtIn 0 rx (msg t) t (rxS c)).s.conn 4).tooOld 65536 = false
        ∧ 65536 ∈ ((dwtIn 0 rx (msg t) t (rxS c)).s.conn 4).bits)
    ∧ (let c := { conn0 with high := some 131072, bits := [131072] }
       arrives (rxS c) (msg 1) = true ∧ ((dwtIn 0 rx (msg 1) 1 (rxS c)).s.conn 4).tooOld 65536 = true) := by
  decide +kernel

def op1 (q : QEnt) : DwtOp := { queue := 0, ent := 5, q := q, length := 64, segs := 1, sent := 1 }
def seg1 (typ : Nat) : Seg :=
  { seq := 9, typ := typ, queue := 0, ent := 5, window := 0, wgen := 0, offset := 0, length := 64, at_ := 0, first := true, last := true, ref := 0 }

theorem test_answers_meet :
    (∀ p ∈ [(5, 1), (6, 1), (4, 3)],
      let s := rxS { conn0 with ops := [op1 (moveEnt 1)], segs := [seg1 p.2] }
      arrives s (msg p.1) = true ∧ (let c := (dwtIn 0 rx (msg p.1) p.1 s).s.conn 4
        c.st = .open_ ∧ c.closer = none ∧ c.ops = [op1 (moveEnt 1)] ∧ c.segs = [seg1 p.2] ∧ (seg1 p.2).seq = (msg p.1).ref.toNat))
    ∧ (∀ c ∈ [{ conn0 with st := .opening, opener := some (0, 5) }, conn0], arrives (rxS c) (msg 7) = true)
    ∧ conn0.peerR ≠ some 2 ∧ conn0.peerR = some 1
    ∧ arrives (rxS conn0) (msg 8) = true ∧ arrives (rxS conn0) (msg 9) = true := by
  decide +kernel

/-- A landed chunk of 64 bytes, its digest the one that the manifest gave; and one whose line is poisoned. -/
theorem test_chunk_meets :
    (let o := { op1 { moveEnt 0x20 with localVa := 0x200000 } with chunkBytes := 64, digests := [Config.sha384 (List.replicate 64 0#8)] }
     let s := dwtS (qent 0) { conn0 with ops := [o] }
     (((s.conn 4).ops.find? fun o => decide (o.q.op = 0x20) && decide (o.chunk = 0) && !o.mismatch && o.nak.isNone
        && decide (0 * o.chunkBytes < o.length) && (s.conn 4).chunkLanded o) = some o)
      ∧ (s.readVA 0 0x200000 64).bad = false ∧ Config.sha384 (s.readVA 0 0x200000 64).bytes = o.digests.getD 0 0)
    ∧ (let s := dwtS (qent 0)
       ({ s with tiers := { s.tiers with poison := [49152 * 32768] } }.readVA 0 0x200000 64).bad = true) := by
  exact ⟨⟨rfl, by decide +kernel, rfl⟩, by decide +kernel⟩

/-! The Ethernet ports -/

def net (p : Net) : State := { nets := [(0, p)] }
def up0 : Net := { linkUp := true, kind := kindDirect, sparePresent := true, lanes := 4, rate := 1, peerId := 2, powered := true, helloOk := true }

/-- A frame of `len` bytes of enclosure 0 in queue `cls`. -/
def txf (cls len : Nat) : TxFrame :=
  { cls := cls, len := len, encl := 0
    frame := { head := { dst := 0, src := 1, tag := none, net := .ether 0x88B5, len := len }, hdr := [], under := none, payload := .bytes [] } }

/-- No slot of a port belongs to enclosures that have no FIXED_SHARE weight on it. -/
theorem no_owner (n : Nat) : ∀ (l : List EnclEntry) (k : Nat), (∀ e ∈ l, e.portWeight.getD n 0 = 0) → slotOwner n l k = none
  | [], _, _ => rfl
  | e :: l, k, h => by
    have h0 := h e (by simp)
    simp only [slotOwner, h0, ite_self, Nat.not_lt_zero, ↓reduceIte, Nat.sub_zero]
    exact no_owner n l k fun x hx => h x (by simp [hx])

/-- Port 0 with frames waiting, of an enclosure with FIXED_SHARE that has no weight on it. -/
def shared (p : Net) : State :=
  { net p with sec := { image := some { entries := [{ encl0 with fixedShare := true, portWeight := List.replicate 16 0 }] } } }

/-- Under FIXED_SHARE: a frame of the device's own may go, and one of an enclosure that owns no slot may not. -/
theorem test_fixed_share_meets :
    (∀ l ∈ [[{ txf 7 64 with encl := ownFrame }], [txf 7 64]], let p := { up0 with txq := l }
      (shared p).fixedShare = true ∧ p.linkUp = true ∧ p.txClass = some 7 ∧ (∀ x ∈ p.txq, x.cls = 7 → min (p.threshold * 1024) x.len ≤ min 64 stagingBuffer))
    ∧ (∀ k, slotOwner 0 (shared up0).entries k = none) ∧ ((shared up0).entry (txf 7 64).encl).fixedShare = true ∧ (txf 7 64).encl ≠ ownFrame :=
  ⟨by decide +kernel, fun k => no_owner 0 _ k (by decide +kernel), by decide +kernel, by decide +kernel⟩

theorem test_ring_and_transmit_meet :
    (let s := net { up0 with rawEntries := 4096, rawHead := 4095 }
     s.rxKind 0 rxR = .raw ∧ (rxFrame 0 rxR s).ok = true ∧ (s.net 0).rawEntries ≠ 0 ∧ (s.net 0).rawHead ≠ (s.net 0).rawTail)
    ∧ ((rxFrame 0 rxR (net up0)).ok = true ∧ up0.rawEntries = 0)
    ∧ (let p := { up0 with pause := [(7, 1)], txq := [txf 7 64, txf 0 64, txf 5 3000] }
       p.linkUp = true ∧ p.txClass = some 5 ∧ (net p).fixedShare = false ∧ ∀ x ∈ p.txq, x.cls = 5 → min (p.threshold * 1024) x.len ≤ min 2048 stagingBuffer)
    ∧ (let p := (net { up0 with sending := some (txf 0 64), threshold := 8 }).net 0
       p.sending = some (txf 0 64) ∧ p.staging < (txf 0 64).len ∧ p.threshold < 9)
    ∧ ((net { up0 with threshold := 3 }).net 0).prior < ((net { up0 with threshold := 3 }).net 0).threshold := by
  decide +kernel

theorem test_flow_control_meets :
    (∀ k ∈ [0, 1, 2], (rxControl 0 rxC (net { up0 with cfg := { fcMode := k, pfcEn := 0xFF } })).ok = true)
    ∧ Tbl.get 0 ((net { up0 with pause := [(7, 1)] }).net 0).pause 7 ≠ 0
    ∧ (49152 < 49153 ∧ 7 ∉ up0.xoff) ∧ 49152 ≤ 49152
    ∧ (let p := { up0 with xoff := [7], rxLevel := [(7, 24577)], cfg := { fcMode := 2, pfcEn := 0xFF } }
       7 ∈ p.xoff ∧ 24576 < Tbl.get 0 p.rxLevel 7 ∧ p.cfg.fcMode ≠ 1)
    ∧ (∀ l ∈ [24576, 24577], let p := { up0 with fcHeld := true, xoff := [0], rxLevel := [(1, l)], cfg := { fcMode := 1 } }
        p.cfg.fcMode = 1 ∧ p.fcHeld = true
          ∧ ((∀ c < 8, c ≠ 0 → Tbl.get 0 p.rxLevel c ≤ 24576) ∨ ∃ c < 8, c ≠ 0 ∧ 24576 < Tbl.get 0 p.rxLevel c)) := by
  decide +kernel

theorem test_lanes_meet :
    (up0.linkUp = true ∧ up0.direct = true ∧ up0.sparePresent = true ∧ 1 < rateLanes up0.rate ∧ up0.rxSpare = none ∧ up0.degraded = false
        ∧ ({ up0 with sparePresent := false } : Net).sparePresent = false)
    ∧ (let p := { up0 with rxSpare := some 0 }
       p.rxSpare ≠ none ∧ p.degraded = false ∧ 2 ≤ (p.loseLane 1).healthy)
    ∧ (let p := { up0 with rxSpare := some 0, rxHealthy := 3 }
       p.rxSpare ≠ none ∧ (p.loseLane 1).healthy < 2)
    ∧ (rxLane 0 rxC (net up0)).ok = true
    ∧ (let l : List LaneReq := [⟨4, 0, 7, 3⟩, ⟨1, 0, 8, 3⟩, ⟨1, 0, 9, 2⟩]
       (((net { up0 with laneReqs := l }).net 0).laneReqs.map (·.seq)).Nodup
        ∧ l.filter (fun q => decide (q.sends < 3) || decide (q.code = 4) || decide (q.code = 5)) = [⟨4, 0, 7, 3⟩, ⟨1, 0, 9, 2⟩]
        ∧ (∀ q ∈ l, ((net { up0 with laneReqs := l }).net 0).reqOf q.seq = some q))
    ∧ (∀ w ∈ [4, 2], let s := net { up0 with lanes := w }
        s.mayShed 0 = true ∧ (s.net 0).laneReqs = [] ∧ s.fuse.serial.toNat < (s.net 0).peerId.toNat)
    ∧ (∀ w ∈ [2, 1], let s := net { up0 with lanes := 2 * w, low := true }
        (rxLane 0 rxC s).s.mayShed 0 = true ∧ (s.net 0).low = true ∧ (s.net 0).lanes = 2 * w)
    ∧ up0.low = false ∧ (net { up0 with degraded := true }).mayShed 0 = false
    ∧ (let p := { up0 with lanes := 1, txq := [txf 0 9000, txf 0 9000] }
       p.shed = true ∧ ∃ c < 8, 16384 < p.queueBytes c) := by
  decide +kernel

/-- The map of two modules along the first axis; this one has coordinate 0. -/
def torus2 : Image :=
  { entries := [encl0], lens := [2, 1, 1, 1]
    members := [{ serial := 0, d := 0, p := 0, t := 0, s := 0, node := 0, kinds := 0 }, { serial := 2, d := 1, p := 0, t := 0, s := 0, node := 0, kinds := 0 }] }

def hello : Hello := { ver := 1, resv := false, endpoint := 2, coords := [1, 0, 0, 0], axis := 0, dir := 1, port := 0 }

theorem test_link_rows_meet :
    (let p := { up0 with linkUp := false }
     p.powered = true ∧ p.retired = false ∧ p.linkUp = false ∧ p.rateOk 1 = true ∧ p.degraded = false)
    ∧ (up0.linkUp = true ∧ up0.torus = true ∧ up0.helloOk = true ∧ ({ up0 with helloLast := true } : Net).helloLast = true
        ∧ ({ up0 with helloOk := false } : Net).helloOk = false)
    ∧ (let s := { net up0 with sec := { image := some torus2 } }
       s.rxKind 0 rx = .dwt ∧ isFragment rx = false ∧ (rxFrame 0 rx s).ok = true ∧ (rxFrame 0 rx s).trunc = false ∧ s.helloFits 0 hello = true ∧ s.helloFits 0 { hello with endpoint := 3 } = false) := by
  decide +kernel

/-! Collectives -/

theorem other (x : BitVec 384) : ∃ y, y ≠ x := by
  by_cases h : 0#384 = x
  · exact ⟨1#384, fun g => absurd (h.trans g.symm) (by decide)⟩
  · exact ⟨0#384, h⟩

/-- A collective of operation `op` over one tile, sent on every `thin`-th step. -/
def cdesc (op thin : Nat) : CollDesc :=
  { k := 0, thin := thin, recEn := false, ctrEn := false, waitStep := false, waitEn := false, topk := false, norm := false, axes := 0, op := op
    gradVa := 0x200000, paramVa := 0x200000, tiles := 1, pmapVa := 0, waitCtr := 0, waitTarget := 0, doneCtr := 0, recVa := 0, outVa := 0 }

/-- Context 0 with one collective, on the first of two modules along the first axis where `two`. -/
def collS (k : Coll) (two : Bool := false) : State :=
  { on {} with
    ctxs := [(0, { ctx with colls := [k], digests := [(4, 9)] })]
    sec := { image := some (if two then torus2 else { entries := [encl0] }), encls := [(0, { st := .active, entry := encl0 })] }
    col := { policyHalt := true } }

/-- Collective 7 of operation `op`, started. -/
def coll7 (op : Nat) : Coll := { num := 7, d := cdesc op 1, started := true }

theorem test_collective_starts_meet :
    (∀ p ∈ [(1, 1, true), (1, 2, false), (2, 1, true), (2, 2, false), (3, 2, true)],
      let k : Coll := { num := 7, d := cdesc p.1 p.2.1 }
      let s := collS k
      let c := s.ctx 0
      c.colls.find? (fun k => !k.started) = some k ∧ s.collConnDown 0 = false ∧ s.collConnBad 0 = false ∧ c.st ≠ .faulted
        ∧ s.collConnsOpen 0 = true ∧ s.collWaitMet 0 k.d = true ∧ (c.colls.filter (·.started)).length < 4 ∧ c.sends k.d = p.2.2)
    ∧ (let s := { collS { num := 7, d := cdesc 1 1 } with dwt := { conns := [(4, { coll := true, st := .down })] } }
       s.collConnDown 0 = true) := by
  decide +kernel

/-- The first of the two modules of `torus2`, its collective connection 4 and the context `c`. -/
def collR (c : Ctx) (poison : List Nat := []) : State :=
  let s := rxS { conn0 with coll := true }
  { s with ctxs := [(0, c)], sec := { s.sec with image := some torus2 }, tiers := { s.tiers with poison := poison } }

/-- Connection 4 has taken the message's SEQ. -/
def seen4 (s : State) (m : Msg) : State :=
  let v := (dwtIn 0 rx m m.typ.toNat s).s
  v.setConn 4 ((v.conn 4).seen m.seq.toNat)

def cmsg (dest : Nat) (fp : Option (BitVec 384)) (body : CollBody) : CollMsg := { k := ⟨7, 0⟩, src := 1, dest := dest, fp := fp, body := body }

/-- What every message of the engine asks; `fenced` as given. -/
def takesColl (s : State) (m : Msg) (fenced : Bool) : Bool :=
  let c := (dwtIn 0 rx m m.typ.toNat s).s.conn 4
  arrives s m && c.coll && !c.tooOld m.seq.toNat && decide (m.seq.toNat ∉ c.bits) && ((seen4 s m).connFenced c == fenced)
    && decide (c.ctx = 0)

/-- Tile 0 of the parameters at 0x200000, frozen. -/
def frozen0 : Ctx := { ctx with colls := [{ coll7 1 with d := { cdesc 1 1 with pmapVa := 0x200000 } }]
                                pmap := some { va := 0x200000, regions := [(0x200000, 131072, [0])] } }

/-- A READY (of a TYPE that no other message has) and segments of a reduce and of a gather: of no known collective, of one that runs,
for a frozen tile, onto a poisoned line, for the neighbour, and of a fenced context. -/
theorem test_collective_messages_meet :
    (∀ m ∈ [msg 0x12, msg 1, msg 2], takesColl (collR ctx) m false = true ∧ takesColl (collR { ctx with colls := [coll7 1] }) m false = true
        ∧ takesColl (collR { ctx with st := .eclipse }) m true = true ∧ (seen4 (collR ctx) m).jobRank = 0
        ∧ ((seen4 (collR ctx) m).ctx 0).colls.find? (fun q => decide (q.num % 256 = 7)) = none)
    ∧ (∀ op ∈ [1, 2], let v := seen4 (collR { ctx with colls := [coll7 op] }) (msg op)
        (v.ctx 0).colls.find? (fun q => decide (q.num % 256 = 7)) = some (coll7 op) ∧ v.collOf 0 7 = some (coll7 op)
          ∧ v.groupRank 0 = 0 ∧ (v.ctx 0).frozen (cdesc op 1) 0 = false)
    ∧ (∀ l ∈ [[], [49152 * 32768]], let v := seen4 (collR { ctx with colls := [coll7 1] } l) (msg 2)
        ((v.touch 0).addVA 0 0x200000 [widenBf16 0x3F80]).2 = !l.isEmpty)
    ∧ (let v := seen4 (collR frozen0) (msg 2)
       (v.ctx 0).frozen { cdesc 1 1 with pmapVa := 0x200000 } 0 = true ∧ takesColl (collR frozen0) (msg 2) false = true)
    ∧ (cmsg 1 none (.ready 0 2)).dest ≠ (seen4 (collR ctx) (msg 1)).jobRank ∧ bodyGathers (.ready 0 2) = false
    ∧ bodyGathers (.segment 1 2 0 0 []) = false ∧ bodyGathers (.segment 1 0 0 0 []) = true
    ∧ ∃ fp : BitVec 384, fp ≠ fingerprint ((seen4 (collR { ctx with colls := [coll7 1] }) (msg 1)).ctx 0) (coll7 1) :=
  ⟨by decide +kernel, by decide +kernel, by decide +kernel, by decide +kernel, by decide +kernel, rfl, rfl, rfl, other _⟩

theorem test_collective_ends_meet :
    (∀ op ∈ [1, 2, 3], let q : Coll := { coll7 op with result := some { hi := 0, lo := 0, digest := none, newest := none, c := 0, t := 0, h := 0, f := 0 } }
      (collS q).collByte 0 7 = some q ∧ (collS q).collReady 0 q = true ∧ q.endsWith 0 0 0 none none = true
       ∧ q.endsWith 0 1 0 none none = false)
    ∧ (collS (coll7 3)).collByte 0 7 = some (coll7 3) ∧ (collS (coll7 3)).collReady 0 (coll7 3) = false
    ∧ (let g : CollSeg := { seq := 9, typ := 2, num := some 7, msg := cmsg 1 none (.segment 1 2 0 0 [0x3F80]), bytes := 2 }
       let s := { rxS { conn0 with coll := true, csegs := [g] } with ctxs := [(0, { ctx with colls := [coll7 1] })] }
       ∀ m ∈ [msg 5, { msg 6 with status := 0x16 }], let c := (dwtIn 0 rx m m.typ.toNat s).s.conn 4
        arrives s m = true ∧ c.coll = true ∧ c.st = .open_ ∧ c.cq = [] ∧ c.csegs.find? (fun g => decide (g.seq = m.ref.toNat)) = some g
          ∧ g.up = none ∧ g.num = some 7) := by
  decide +kernel

/-- Beacons of a step whose digest is held, of one that comes within the next eight, and of one outside. -/
theorem test_beacon_meets :
    let s := collR { ctx with digests := [(4, 9)] }
    let v := (dwtIn 0 rx (msg 0x11) 0x11 s).s
    arrives s (msg 0x11) = true ∧ (v.conn 4).coll = true ∧ (v.conn 4).ctx = 0 ∧ (v.ctx 0).step.toNat = 0
    ∧ (∀ x ∈ [0, 7, 8], (v.ctx 0).digests.find? (fun q => decide (q.1 = BitVec.ofNat 64 x)) = none)
    ∧ (v.ctx 0).digests.find? (fun q => decide (q.1 = 4#64)) = some (4, 9) := by
  decide +kernel

/-! The security engine -/

theorem le_round : ∀ (n v : Nat), leNat (leBytes n v) = v % 256 ^ n
  | 0, v => by simp [leNat, leBytes, Nat.mod_one]
  | n + 1, v => by
    rw [leBytes, leNat, le_round, BitVec.toNat_ofNat, show 256 ^ (n + 1) = 256 * 256 ^ n by ring, Nat.mod_mul]

theorem be_round (h : BitVec 384) : BitVec.ofNat 384 (beNat (beBytes 48 h.toNat)) = h := by
  rw [beNat, beBytes, List.reverse_reverse, le_round, Nat.mod_eq_of_lt (by have := h.isLt; omega)]
  simp

/-- A security engine with one request in its ring, and a module with serial number 3. -/
def secS (sec : Sec) (st : Store := {}) : State :=
  { sec := { sec with ready := true, ringEntries := 4, head := 3, tail := 0 }, hif := { linkUp := true }, fuse := { serial := 3 }
    mgt := { store := st } }

def req (inLen outLen : Nat) : SecReq := { encl := 0, resvOk := true, addrOk := true, inLen := inLen, outAddr := 0x1000, outLen := outLen, tag := 0 }

theorem req_ok {s : State} {inLen outLen : Nat} {serves : Bool} (h : s.takesReq = true) (g : s.rcv.outOfService = false ∨ serves = true) :
    ReqOk s (req inLen outLen) inLen outLen serves := ⟨h, ⟨rfl, rfl, rfl⟩, Nat.le_refl _, g⟩

theorem test_reports_meet :
    ReqOk (secS {}) (req 0 (secS {}).certChain.length) 0 (secS {}).certChain.length true
    ∧ (let s := { secS { dakOk := true, image := some { entries := [encl0] }, encls := [(0, { st := .active, entry := encl0 })] } with ctxs := [(0, ctx)] }
       ReqOk s (req 48 864) 48 864 true ∧ (3 : BitVec 2) ≠ 0 ∧ s.sec.dakOk = true ∧ (s.encl 0).st ≠ .absent
        ∧ (s.entry 0).ownsSlot 0 = true ∧ (s.ctx 0).st ≠ .none) :=
  ⟨req_ok rfl (.inl rfl), req_ok rfl (.inl rfl), by decide, rfl, by decide⟩

theorem test_operator_keys_meet :
    (let s := secS {}
     s.mgt.store.opKeys = [] ∧ s.mgt.store.opkeySeq < 1 ∧ ReqOk s (req 200 0) 200 0 false ∧ s.mgt.store.opKeys.length < 4
        ∧ s.mgt.store.opKeys ≠ [5] ∧ s.sec.image = none ∧ ReqOk s (req 104 0) 104 0 false ∧ s.entries = [])
    ∧ (let s := secS {} { opKeys := [5, 6, 7], opkeySeq := 1 }
       (7 : BitVec 768) ∈ s.mgt.store.opKeys ∧ s.mgt.store.opkeySeq < 2 ∧ s.mgt.store.opKeys.length < 4
        ∧ ReqOk s (req 200 0) 200 0 false) :=
  ⟨⟨rfl, by decide, req_ok rfl (.inl rfl), by decide, by decide, rfl, req_ok rfl (.inl rfl), rfl⟩,
    by simp [secS], by decide, by decide, req_ok rfl (.inl rfl)⟩

/-- An image of a ring of eight modules along the first axis and one enclosure, signed for the operator key whose hash is `h`. -/
def image0 (h : BitVec 384) : List Byte :=
  let member := fun k => leBytes 8 k ++ leBytes 8 k ++ leBytes 8 0x55 ++ leBytes 8 0
  let entry := List.replicate 48 0#8 ++ leBytes 8 (at_ 1 40) ++ List.replicate 32 0 ++ leBytes 8 (1 + at_ 2 16 + at_ 3 32 + at_ 4 48)
    ++ List.replicate 32 0
  leBytes 8 0x201 ++ leBytes 8 688 ++ leBytes 8 1 ++ leBytes 8 0 ++ (beBytes 48 h.toNat ++ (List.replicate 48 0
    ++ leBytes 8 (1 + at_ 192 32) ++ leBytes 8 128 ++ leBytes 8 (2 + at_ 320 32) ++ leBytes 8 272 ++ List.replicate 32 0
    ++ entry ++ [8, 1, 1, 1, 8, 0] ++ List.replicate 10 0 ++ (List.range 8).flatMap member ++ List.replicate 96 0))

def keyed (k : BitVec 768) : State := secS {} { opKeys := [k] }
def hashOf (k : BitVec 768) : BitVec 384 := Config.sha384 (beBytes 96 k.toNat)
def loadS : State := keyed 5
def hash5 : BitVec 384 := hashOf 5

theorem image0_signer (h : BitVec 384) : (readImage (image0 h)).signer = h := by
  have : ((image0 h).drop 0x20).take 48 = beBytes 48 h.toNat := rfl
  rw [readImage, this, be_round]

theorem find_self (f : BitVec 768 → BitVec 384) (k : BitVec 768) : [k].find? (fun x => decide (f x = f k)) = some k := by simp

/-- The checks of an image but those of its signature. -/
def otherChecks (b : List Byte) (active : Option Image) (s : State) : Bool :=
  let i := readImage b
  !imageFormBad b && [(i.rollsBack active), !(i.members.any fun m => decide (m.serial = s.fuse.serial)), i.torusBad s, i.overCapacity s,
    i.overlap, i.coreConflict s, i.keySlotBad, i.sharesBad].all (fun c => !c)

theorem checks_none {b : List Byte} {k : BitVec 768} {active : Option Image} {s : State} (h : s.signerKey (readImage b) = some k)
    (g : otherChecks b active s = true) : imageChecks b (some k) active s = none := by
  simp only [otherChecks, List.all_cons, List.all_nil, Bool.and_true, Bool.and_eq_true, Bool.not_eq_true'] at g
  simp only [imageChecks, h, g]
  simp [firstOf]

theorem keyed_signer (k : BitVec 768) : (keyed k).signerKey (readImage (image0 (hashOf k))) = some k := by
  show List.find? (fun x => decide (Config.sha384 (beBytes 96 x.toNat) = _)) [k] = some k
  rw [image0_signer]
  exact find_self hashOf k

theorem test_image_meets :
    (imageChecks (image0 hash5) (some 5) loadS.sec.image loadS = none
      ∧ ReqOk loadS (req (image0 hash5).length 0) (image0 hash5).length 0 false
      ∧ (readImage (image0 hash5)).affected loadS.sec.image = [0] ∧ loadS.busyEncl [0] = false
      ∧ ((readImage (image0 hash5)).entryOf 0).isSome = true)
    ∧ imageChecks [] (some 5) loadS.sec.image loadS = some 0x10
    ∧ (let s := secS { image := some { entries := [encl0] }, encls := [(0, { st := .active, entry := encl0 })] }
       ({ s with ctxs := [(0, ctx)] } : State).busyEncl [0] = true)
    ∧ (let v := { loadS with sec := { loadS.sec with busy := some (.load (req 0 0) [] [0]) }, modl := { standby := true } }
       v.sec.busy = some (.load (req 0 0) [] [0]) ∧ v.sec.image = loadS.sec.image ∧ v.modl.standby = true ∧ v.pending = []) := by
  refine ⟨⟨?_, req_ok rfl (.inl rfl), by decide +kernel⟩, by decide +kernel⟩
  exact checks_none (keyed_signer 5) (by decide +kernel)

/-- The context on core 0, with the recovery unit `r` ready. -/
def rcvS (r : Rcv) (c : Ctx := ctx) : State :=
  { on {} with rcv := { r with ready := true }, ctxs := [(0, c)] }

/-- The same with an instruction in flight on core 0. -/
def flyS (r : Rcv := {}) (f : Flight := flight0) : State :=
  { rcvS r with cores := [(0, { (rcvS r).core 0 with live := { f := { st := .running, flights := [f] } } })] }

/-- Enclosure 0 with its root key or waiting for it. -/
def keyS (e : Encl) : State := secS { image := some { entries := [encl0] }, encls := [(0, { e with entry := encl0 })] }

def blob (to_ : BitVec 768) : ImportBlob :=
  { version := 1, persist := true, resv := false, tenant := 0, sealedTo := to_, serial := 3, index := 0, trk := 1, intact := true }

/-- A PUB_INSTALL request for slot 15 with sequence number 7 and the MAC `mac`. -/
def pubIn (mac : BitVec 384) : List Byte :=
  (15 :: List.replicate 7 0 ++ leBytes 8 7 ++ List.replicate 96 0) ++ beBytes 48 mac.toNat

theorem pubIn_mac (mac : BitVec 384) : BitVec.ofNat 384 (beNat (((pubIn mac).drop 0x70).take 48)) = mac := by
  have : ((pubIn mac).drop 0x70).take 48 = beBytes 48 mac.toNat := rfl
  rw [this, be_round]

theorem test_enclosure_keys_meet :
    (let s := keyS { st := .awaitingKey, importPriv := some 5 }
     ReqOk s (req 168 0) 168 0 false ∧ s.enclStatus 0 .awaitingKey = none ∧ s.blobOpens 0 (blob (Config.p384Public 5)) = true
        ∧ s.blobOpens 0 { blob 0 with intact := false } = false)
    ∧ (let s := keyS { st := .active, trk := some 1 }
       ReqOk s (req 48 0) 48 0 false ∧ s.enclStatus 0 .active = none ∧ Tbl.rising s.sec.keySlots = true
        ∧ s.replayIn (.encl 0) = false ∧ Domain.encl 0 ∉ s.rcv.counting ∧ (∀ x ∈ s.rcv.suspects, x.dom ≠ .encl 0)
        ∧ (∀ b ∈ [true, false], let u := if b then { s with ctxs := (flyS {}).ctxs, cores := (flyS {}).cores } else s
            (fence (.encl 0) false (holdReq (.erase (req 48 0)) u)).outstanding (.encl 0) = b)
        ∧ ∃ mac, mac ≠ s.reqMac 0 "ERASE" [])
    ∧ (∀ n ∈ [6, 7], let s := keyS { st := .active, trk := some 1, pubSeq := some n }
       let mac := s.reqMac 0 "PUB" ((pubIn 0).take 0x70)
       ReqOk s (req 160 0) 160 0 false ∧ s.enclStatus 0 .active = none ∧ rd (pubIn mac) 1 7 = 0
        ∧ BitVec.ofNat 384 (beNat (((pubIn mac).drop 0x70).take 48)) = s.reqMac 0 "PUB" ((pubIn mac).take 0x70)
        ∧ rd (pubIn mac) 0 1 < 16 ∧ BitVec.ofNat 768 (beNat (((pubIn mac).drop 0x10).take 96)) = 0 ∧ Tbl.rising (s.encl 0).pubs = true
        ∧ BitVec.ofNat 64 (rd (pubIn mac) 8 8) = 7) := by
  refine ⟨⟨req_ok rfl (.inl rfl), by decide, by simp [State.blobOpens, keyS, secS, blob, State.encl, Tbl.get], by decide⟩,
    ⟨req_ok rfl (.inl rfl), by decide, by decide, by decide, by decide, by decide, by decide +kernel, other _⟩, ?_⟩
  intro n hn
  simp only [List.mem_cons, List.not_mem_nil, or_false] at hn
  rcases hn with rfl | rfl <;>
    exact ⟨req_ok rfl (.inl rfl), by decide, rfl, pubIn_mac _, by decide +kernel⟩

/-! Recovery -/

theorem test_core_and_port_resets_meet :
    (∀ n : CoreId, let s := rcvS {}
      s.rcv.ready = true ∧ bit s.rcv.coresRetired n.val = false ∧ (s.core n.val).state ≠ .retired ∧ Domain.core n ∉ s.rcv.counting
        ∧ s.replayIn (.core n) = false)
    ∧ (fence (.core 0) false (rcvS {})).outstanding (.core 0) = false
    ∧ (fence (.core 0) false (flyS {})).outstanding (.core 0) = true
    ∧ (.core 0 : Domain) ∈ (rcvS { eclipse := [.core 0] }).rcv.eclipse
    ∧ (∀ n : PortId, let s := rcvS { suspects := [⟨0, .hub, true, [], [], none⟩] }
      s.rcv.ready = true ∧ bit s.rcv.portsRetired n.val = false ∧ Domain.port n ∉ s.rcv.counting ∧ (∀ x ∈ s.rcv.suspects, x.dom ≠ .port n)
        ∧ (fence (.port n) false s).outstanding (.port n) = false)
    ∧ (let s := { rcvS {} with nets := [(0, { sending := some (txf 0 64) })] }
       (fence (.port 0) false s).outstanding (.port 0) = true)
    ∧ (.port 0 : Domain) ∈ (rcvS { eclipse := [.port 0] }).rcv.eclipse := by
  decide +kernel

/-- The wide domains with nothing outstanding, with an instruction in flight, and in eclipse. -/
theorem test_wide_resets_meet :
    ∀ d ∈ [Domain.encl 0, .hub, .device], ∀ l ∈ [[], [d]], ∀ fly ∈ [true, false],
      let r : Rcv := { suspects := [⟨0, .core 0, true, [], [], none⟩], eclipse := l }
      let s := if fly then flyS r else rcvS r
      s.rcv.ready = true ∧ (s.encl 0).st ≠ .absent ∧ d ∉ s.rcv.counting ∧ (∀ x ∈ s.rcv.suspects, x.dom ≠ d) ∧ s.sec.busy = none
        ∧ s.replayIn d = false ∧ (fence d false s).outstanding d = fly ∧ s.rcv.eclipse = l ∧ s.affected d = [0] ∧ (s.entry 0).ownsSlot 0 = true := by
  decide +kernel

/-- Two counted resets of a domain within ten minutes. -/
def twice (d : Nat) : List Counted := [⟨d, 0⟩, ⟨d, 0⟩]

theorem test_engine_faults_meet :
    (∀ h ∈ [([], true), (twice 0, false)], let s := rcvS { history := h.1 }
      let v := { s with rcv := { s.rcv with suspects := (s.coreSuspects 0).map (s.suspect (.core 0) true none) } }
      bit s.rcv.coresRetired 0 = false ∧ (s.core 0).state ≠ .retired ∧ s.rcv.replaying = none ∧ (∀ x ∈ s.rcv.suspects, x.dom ≠ .core 0)
        ∧ s.coreSuspects 0 = [0] ∧ (fence (.core 0) true v).outstanding (.core 0) = false
        ∧ decide ((addCounted 0 s).countedIn 0 tenMinutes < 3) = h.2)
    ∧ (∀ h ∈ [([], true), (twice 8, false)], let s := rcvS { history := h.1 }
      bit s.rcv.portsRetired 0 = false ∧ (fence (.port 0) true s).outstanding (.port 0) = false
        ∧ decide ((addCounted 8 s).countedIn 8 tenMinutes < 3) = h.2)
    ∧ (let s := rcvS {}
       (endReplay false s).hubSuspects = [] ∧ (fence .hub true s).outstanding .hub = false ∧ (addCounted 24 s).countedIn 24 tenMinutes < 3 ∧ (∀ x ∈ s.rcv.suspects, x.dom ≠ .hub))
    ∧ (flyS {} { flight0 with unit := some .vector }).unitInFlight 0 .F = true ∧ (flyS {}).modl.thermalStop = false ∧ (flyS {}).unitInFlight 0 .F = false
    ∧ (((flyS {} { flight0 with mem := true }).core 0).live.strm .F).flights.any (·.mem) = true
    ∧ (∀ b ∈ [true, false], let s := rcvS {}
        ({ s with sec := { s.sec with busy := if b then some (.erase (req 0 0)) else none } } : State).engineBusy .security = b)
    ∧ (let s := { rcvS {} with pages := [(0, { queue := [{ posted false 0x01 with started := true }] })] }
       s.tierWaiting 0 = true) := by
  decide +kernel

def undoD : RcvDesc :=
  { tolUlp := 0, undoSkip := 0, mirrorEn := true, shadow := false, autoRestore := true, snapMode := 0, localVa := 0, localPages := 0, undoVa := 0
    fixedSteps := 0, undoPages := 1, mirrorConn := 4, mirrorWgen := 0, mirrorWindow := 0, lossVa := 0 }

/-- A suspect in eclipse that can be undone or not. -/
def suspectC (undo : Bool) : Ctx :=
  { ctx with st := .eclipse, before := .running, rcv := { desc := if undo then some undoD else none, mCores := [(0, {})], touched := true } }

theorem test_suspects_meet :
    (∀ u ∈ [true, false], let s := rcvS { suspects := [⟨0, .core 0, true, [], [], none⟩, ⟨1, .core 0, true, [], [], none⟩] } (suspectC u)
      s.nextSuspect (.core 0) = some 0 ∧ s.rcv.replaying = none ∧ Domain.core 0 ∉ s.rcv.eclipse ∧ s.domBusy (.core 0) = false
        ∧ (s.ctx 0).undoable = u ∧ (s.rcv.suspects.any fun x => decide (x.dom = .core 0) && decide (x.slot ≠ 0) && x.reproduced.isNone) = true)
    ∧ (∀ u ∈ [true, false], let x : Suspect := ⟨0, .core 0, true, [], [], none⟩
      let s := rcvS { suspects := [x], replaying := some (.core 0, 0) } (suspectC u)
      s.rcv.replaying = some (.core 0, 0) ∧ s.rcv.suspects.filter (fun y => decide (y.dom = .core 0)) = [x] ∧ s.domBusy (.core 0) = false
        ∧ (s.ctx 0).st = .eclipse ∧ (s.ctx 0).before ≠ .faulted ∧ ((s.ctx 0).undoable && !(s.ctx 0).rcv.touched) = false)
    ∧ (let c := suspectC true
       ({ c with rcv := { c.rcv with touched := false } } : Ctx).undoable = true) := by
  decide +kernel

/-- A suspect whose replay may start, one whose core is not there, and one whose core has been retired; a replay with no stream left to run. -/
theorem test_replays_meet :
    (∀ room ∈ [true, false], let x : Suspect := ⟨0, .hub, true, [], [], none⟩
      let s := rcvS { suspects := [x] } (suspectC true)
      let u := if room then s else { s with cores := [(0, { s.core 0 with state := .eclipse })] }
      u.nextSuspect .hub = some 0 ∧ u.rcv.replaying = none ∧ u.domBusy .hub = false ∧ (u.ctx 0).undoable = true ∧ u.replayRoom 0 = room
        ∧ ((maskCores (u.ctx 0).desc.mask).any fun n => decide ((u.core n).state = .retired)) = false
        ∧ u.rcv.suspects.find? (fun x => decide (x.dom = .hub) && decide (x.slot = 0)) = some x)
    ∧ (let s := { rcvS {} (suspectC true) with cores := [(0, { state := .retired })] }
       ((maskCores (s.ctx 0).desc.mask).any fun n => decide ((s.core n).state = .retired)) = true)
    ∧ (rcvS { replaying := some (.core 0, 0) } (suspectC true)).replayOver = true := by
  decide +kernel

theorem test_hangs_meet :
    (let s := on { f := { st := .running } }
     s.hangs 0 .F = some 0)
    ∧ (let s := dwtS (qent 0)
       (s.queueHangs 0 (some 0) = true ∧ 0 < s.rcv.queueMs ∧ (s.ctx 0).held = false ∧ (s.ctx 0).st = .running))
    ∧ (collS { num := 7, d := cdesc 1 1 }).queueHangs 0 none = true := by
  decide +kernel

/-- A row of near frame 3 with an uncorrectable error; its bank with nine spared rows; each pool with a spare left and without. -/
def rowS (used : Nat) (busy : List Fill) : State :=
  { tiers := { rowsUsed := [(0, used)], occasions := [{ line := 98304, tick := 0, ue := true }] }, rcv := { fillActive := busy } }
def bankS (used : Nat) : State := { tiers := { banksUsed := [(0, used)], spared := List.replicate 9 98304 } }

theorem test_fills_meet :
    (∀ n ∈ [511, 512], ∀ busy ∈ [[], [⟨Tier.near, true, 0, [3]⟩]], let s := rowS n busy
      s.rowDue [3] = some 98304
        ∧ decide (Tbl.get 0 s.tiers.rowsUsed (sparePool .near (s.failPool .near [3])) < poolSpares .near false) = decide (n = 511))
    ∧ (∀ n ∈ [3, 4], decide (Tbl.get 0 (bankS n).tiers.banksUsed (sparePool .near ((bankS n).failPool .near [3])) < poolSpares .near true) = decide (n = 3))
    ∧ (rowS 0 []).rowDue [4] = none
    ∧ (let f : Fill := ⟨.board, true, 1, [3]⟩
       let s : State := { tiers := { banksUsed := [(sparePool .board 1, 1)] }, rcv := { fillActive := [f], fillPending := [⟨.package, true, 0, [4]⟩] } }
       s.rcv.fillActive.find? (fun f => decide (f.tier = .board)) = some f ∧ (∀ g ∈ s.rcv.fillPending, g.tier ≠ .board)
        ∧ (takeSpare f (s.logEv (ev 1 0x09 0x41))).isSome = true) := by
  decide +kernel

theorem test_bank_due_meets (n : Nat) : (bankS n).bankDue [3] = some 98304 := by
  simp [State.bankDue, State.hitsIn, bankS, List.replicate]

def fix0 : Starfix :=
  { step := 5, s := 5, pages := [], streams := [], counters := [], perm := [], raise := [], winPos := [], dwtWins := [], conns := [], objs := [] }

theorem test_starfixes_meet :
    (∀ m ∈ [true, false], let s := rcvS {} { ctx with rcv := { copying := some fix0, desc := some { undoD with mirrorEn := m } } }
      (s.ctx 0).rcv.copying = some fix0 ∧ (s.ctx 0).rcv.desc = some { undoD with mirrorEn := m })
    ∧ (∀ m ∈ [true, false], ((rcvS {} { ctx with rcv := { copying := some fix0, mirrored := m } }).ctx 0).rcv.mirrored = m)
    ∧ (let s := starS
       (s.ctx 0).rcv.committedStep = some 7 ∧ s.enclOfSlot 0 = some 0 ∧ (s.ctx 0).st = .faulted ∧ (s.ctx 0).cause ∈ autoCauses
        ∧ (s.ctx 0).rcv.desc = some starD ∧ starD.autoRestore = true ∧ (∀ n ∈ maskCores (s.ctx 0).desc.mask, (s.core n).state ≠ .eclipse)
        ∧ s.ownEclipse 0 = false ∧ s.linkLost = false ∧ (restore 0 0 7 false s).2 = 0)
    ∧ (restore 0 0 7 false { starS with ctxs := [(0, { starS.ctx 0 with rcv := { (starS.ctx 0).rcv with starfixes := [] } })] }).2 ≠ 0 := by
  decide +kernel

/-! Management -/

/-- A device READY in DAY, or in NIGHT with an I3C address. -/
def mgtS (m : Mgt := {}) : State :=
  { on {} with mgt := { m with ready := true, awake := true }, hif := { linkUp := true }, modl := { standby := true, input := true, pwrGood := true, phase := .ready } }
def nightS : State := { mgt := { i3cAddr := 9 }, modl := { standby := true, input := true, phase := .standby } }

/-- The device of `mgtS` with no context. -/
def emptyS (m : Mgt := {}) : State := { mgtS m with ctxs := [], cores := [], tiers := {}, nets := [(1, { linkUp := true })] }

/-- What MboxOk asks. -/
def takes (s : State) (m : Mbox) (c : MbCmd) : Bool := s.serves m && decide (s.mbRefuse c = none) && (decide (m ≠ .host) || s.mgt.awake)
    && Tbl.rising (s.mbox m).buf

theorem takes_ok {s : State} {m : Mbox} {c : MbCmd} (h : takes s m c = true) : MboxOk s m c := by
  simp only [takes, Bool.and_eq_true, decide_eq_true_eq] at h
  simp only [Bool.or_eq_true, decide_eq_true_eq] at h
  exact ⟨h.1.1.1, h.1.1.2, fun e => h.1.2.resolve_left fun g => g e, h.2⟩

/-- Each command refused: asleep, with a wrong input length, with a wrong argument. -/
theorem test_mailbox_refusals_meet :
    (∀ op ∈ [3, 5, 7, 8, 11, 12, 13, 14, 15, 16], nightS.serves .i3c = true ∧ (nightS.mbRefuse (plain op 0)).isSome = true)
    ∧ (∀ op ∈ [4, 6, 10], (mgtS).serves .host = true ∧ ((mgtS).mbRefuse (withInput op 0 [])).isSome = true)
    ∧ (∀ op ∈ [1, 2, 9], (nightS.mbRefuse (plain op 3)).isSome = true) := by
  decide +kernel

theorem test_mailbox_reads_meet :
    (∀ c ∈ [plain 1 0, plain 2 0, plain 3 0x00200030, withInput 4 8 (List.replicate 8 0), plain 5 1, plain 0xD 0],
      ∀ m ∈ [Mbox.host, Mbox.i3c], takes (mgtS { i3cAddr := 9 }) m c = true)
    ∧ (mgtS).mgt.working.get 1 = some 1000 ∧ Tbl.rising (mgtS).mgt.sensors = true
    ∧ (let s := mgtS
       s.serves .host = true ∧ Tbl.rising (s.mbox .host).buf = true ∧ s.mgt.awake = true ∧ (0x000103FF#32).toNat / 65536 ≠ 0
        ∧ 1024 < (0x000203FF#32).toNat % 65536 + (0x000203FF#32).toNat / 65536) := by
  decide +kernel

theorem test_settings_meet :
    (∀ id ∈ [1, 2, 3, 4, 5, 6, 7, 8, 9], takes mgtS .host (withInput 6 (BitVec.ofNat 32 id) (leBytes 8 1)) = true
        ∧ ((mgtS).mgt.working.get id).isSome = true ∧ (settingBounds id).1 ≤ (settingBounds id).2)
    ∧ leNat ((leBytes 8 0xFFFFFF).take 8) = 0xFFFFFF ∧ (∀ id ∈ [1, 2, 3, 4, 5, 6, 7, 8, 9], (settingBounds id).2 < 0xFFFFFF)
    ∧ (∀ w ∈ [600, 1000, 599, 1001], takes mgtS .host (plain 8 (BitVec.ofNat 32 w)) = true)
    ∧ (let s := { mgtS with power := { fixedClock := some 1150 } }
       takes s .host (plain 8 600) = true ∧ s.power.fixedClock ≠ none ∧ 600 ≠ s.power.cap)
    ∧ (takes mgtS .host (plain 7 0) = true ∧ (mgtS).mgt.nextWear ≤ 100000)
    ∧ (let s := mgtS { wear0 := 100000, wear1 := 100000 }
       takes s .host (plain 7 0) = true ∧ 100000 < s.mgt.nextWear)
    ∧ takes mgtS .host (plain 0x10 7) = true := by
  decide +kernel

theorem test_state_rows_meet :
    (takes (emptyS) .host (plain 9 0) = true ∧ (emptyS).mgt.awake = true ∧ (emptyS).mayNight = true)
    ∧ (mgtS).mayNight = false ∧ takes mgtS .host (plain 9 1) = true ∧ (∀ a ∈ [0, 2], takes nightS .i3c (plain 9 (BitVec.ofNat 32 a)) = true)
    ∧ (takes nightS .i3c (plain 9 1) = true ∧ nightS.mgt.awake = false ∧ nightS.modl.phase = .standby ∧ nightS.modl.input = true)
    ∧ (∀ code ∈ [1, 2, 3, 4, 5, 6], takes (emptyS) .host (plain 0xE (BitVec.ofNat 32 code)) = true ∧ (emptyS).unitBusy (bits code 7 0) 0 = false)
    ∧ (mgtS).unitBusy 1 0 = true ∧ unitOf 6 0 = none ∧ unitOf 5 0 = some (.port 0)
    ∧ (let s := { emptyS with rcv := { outOfService := true } }
       takes s .host (plain 0xF 0) = true ∧ (∀ a ∈ [0, 2], takes s .host (plain 9 (BitVec.ofNat 32 a)) = true) ∧ s.rcv.outOfService = true) ∧ takes (emptyS) .host (plain 0xF 0) = true := by
  decide +kernel

theorem test_firmware_meets :
    (takes (emptyS) .host (withInput 0xA 0 (leBytes 8 16777208 ++ List.replicate 8 1)) = true
        ∧ leNat ((leBytes 8 16777208 ++ List.replicate 8 1).take 8) + 8 ≤ 16777216 ∧ Tbl.rising ((emptyS).fwSlot 1).bytes = true ∧ (emptyS).mgt.fwRun < 2)
    ∧ (let s := emptyS { fwB := { valid := true, svn := 2 } }
       ∀ sig ∈ [true, false], takes s .host { plain 0xB 0 with sig := sig } = true ∧ (s.fwSlot s.mgt.idleSlot).valid = true
        ∧ s.mgt.store.rollback ≤ (s.fwSlot s.mgt.idleSlot).checked.svn ∧ s.ctxs = [])
    ∧ (∀ u ∈ [true, false], takes (emptyS { fwUncommitted := u }) .host (plain 0xC 0) = true ∧ (emptyS { fwUncommitted := u }).mgt.fwUncommitted = u) := by
  decide +kernel

theorem test_twilight_meets :
    ((mgtS).modl.standby = true ∧ (mgtS).mgt.i3cAddr = 0 ∧ (9 : BitVec 7) ≠ 0 ∧ (mgtS).mgt.ordIn = false) ∧ nightS.mgt.i3cAddr ≠ 0 := by
  decide

theorem test_calibration_meets :
    (let e : LogEnt := { seq := 7, resets := 1, ticks := 0, sev := 2, source := 9, event := 0x41, nvm := true }
     let s := mgtS { ramLog := [e] }
     s.mgt.ramLog.find? (fun e => decide (e.seq = 7)) = some e ∧ e.nvm = true ∧ ∀ f ∈ s.mgt.nvmLog, f.seq ≠ e.seq)
    ∧ (emptyS { replanning := [0] }).mayReplan 0 = true ∧ (emptyS).mayReplan 0 = false ∧ ((emptyS).core 0).planSteps < 14 - 12
    ∧ (∀ u ∈ [CalUnit.core 0, .near 0, .package, .board, .port 0], ∀ k ∈ [0, unitSteps u], ∀ sec ∈ [599, 600],
        let s := emptyS { load := [(u, { opened := true, steps := k, derated := true, seconds := sec })] }
        s.mgt.ready = true ∧ (s.loadWin u).seconds = sec ∧ (s.loadWin u).opened = true ∧ (s.loadWin u).steps = k ∧ s.unitQuiet u = true ∧ s.retrains u = true)
    ∧ (emptyS { training := [.port 0] }).retrains (.port 0) = true
    ∧ (let s := { emptyS with cores := [(0, { state := .idle })] }
       (s.core 0).state = .idle ∧ (s.core 0).resident = none ∧ s.heldOn 0 = false) := by
  decide +kernel

/-- The hottest reading at each bound of the thermal rules. -/
theorem test_thermal_meets :
    ∀ t ∈ [98, 100, 103, 105, 115],
      ((takeReadings [(0, BitVec.ofNat 32 (t * 256))] emptyS).hottest = t * 256) ∧ (emptyS).mgt.ready = true ∧ (emptyS).hottest < 100 * 256 := by
  decide +kernel

/-! The host interface and the module -/

/-- The rings of a page at the limits of the two rows, the link down and up, with IDE and without. -/
theorem test_host_rings_meet :
    (hostS.bar2Slot 0 0 = some 0 ∧ (hostS.page 0).held = [] ∧ ({ hostS with hif := { hostS.hif with vfs := 1 } } : State).bar2Slot 1 0 = some 0
        ∧ bits (BitVec.ofNat 64 (at_ 4096 48)).toNat 60 48 ≤ 4096 ∧ 4096 < bits (BitVec.ofNat 64 (at_ 4097 48)).toNat 60 48)
    ∧ (let s := { hostS with pages := [(0, { ringEntries := 4 })] }
       bits (BitVec.ofNat 64 (at_ 3 32)).toNat 44 32 < (s.page 0).ringEntries ∧ (s.page 0).ringEntries ≤ bits (BitVec.ofNat 64 (at_ 4 32)).toNat 44 32)
    ∧ ({ hostS with hif := { hostS.hif with linkIde := true } } : State).hif.ide = true
    ∧ (let s : State := { modl := { phase := .hubOut, pcieClk := true } }
       s.hubOut = true ∧ s.modl.pcieClk = true ∧ s.hif.linkUp = false)
    ∧ (hostS.hif.linkUp = true ∧ Tbl.rising hostS.pages = true) := by
  decide +kernel

/-- The registers of the two BARs, a locked field, and the functions that see nothing. -/
theorem test_register_writes_meet :
    (mgtS).bar0On = true ∧ (mgtS).hif.ideLocked = false ∧ ({ mgtS with hif := { (mgtS).hif with ideLocked := true } } : State).hif.ideLocked = true
    ∧ hostS.bar2Slot 0 (0x1FF0820 / 8 * 8 / 0x10000) = some 511 ∧ 0x1FF0820 / 8 * 8 % 0x10000 = 0x820 ∧ hostS.bar2Slot 2 0 = none
    ∧ 0x2000000 + 15 * 0x40000 + 0x68 < 0x4000000 ∧ (0x2000000 + 15 * 0x40000 + 0x68) / 8 * 8 = 0x2000000 + 15 * 0x40000 + 0x68
    ∧ 0x4000000 ≤ 0x4000000 / 8 * 8 ∧ (hostS.page 511).pending.getLsbD 31 = false := by
  decide +kernel

/-- A read-only register. -/
theorem test_read_only_meets : ∃ b ∈ regBlocks, b.base ≤ 0x400008 ∧ 0x400008 < b.base + b.size ∧ 0x400008 - b.base ∉ b.writes :=
  ⟨⟨0x400000, 0x200000, [0x10, 0x20, 0x28, 0x30, 0x38, 0x40, 0x48]⟩, by simp [regBlocks], by decide⟩

def startS (p : StartPhase) (pg := true) : State := { mgtS with ctxs := [(0, ctx)], modl := { phase := p, standby := true, pwrGood := pg } }

/-- A module in a phase of its start. -/
theorem test_start_up_meets :
    State.reset.modl.phase = .off
    ∧ (∀ b ∈ [true, false], let s : State := { modl := { phase := .standby, standby := true, input := b } }
        s.modl.phase = .standby ∧ s.modl.input = b)
    ∧ ((startS .stagesUp false).modl.phase = .stagesUp ∧ (startS .stagesUp false).modl.pwrGood = false)
    ∧ (∀ p ∈ [StartPhase.powerGood, .perst], (startS p).modl.pwrGood = true ∧ (startS p).modl.phase = p)
    ∧ (startS .hubOut).modl.phase = .hubOut
    ∧ (let s : State := { modl := { phase := .hubOut, pwrGood := true }, mgt := { awake := true, fwUncommitted := true, fwRun := 1 } }
       s.modl.phase = .hubOut ∧ s.mgt.fwUncommitted = true ∧ s.mgt.ready = false ∧ s.mgt.awake = true ∧ (s.fwSlot s.mgt.idleSlot).valid = true
        ∧ s.modl.pwrGood = true)
    ∧ ((startS .verified).modl.phase = .verified ∧ ({ startS .verified with mgt := { planDue := true } } : State).mgt.planDue = true) ∧ (startS .dawn).mayReady = true
    ∧ (startS .ready).affected .device = [0] ∧ (startS .standby false).hubOut = false ∧ (startS .ready false).hubOut = true := by
  decide +kernel

/-- A device whose key is the one that its certificate names. -/
theorem test_certificate_meets : Config.p384Public (startS .verified).fuse.dakScalar = (startS .verified).fuse.certKey := rfl

theorem test_input_and_clocks_meet :
    (∀ mv ∈ [38000, 39999, 60001, 62000], (startS .ready).stagesOn = true ∧ (startS .ready).modl.inputOut = false
      ∧ ((38000 ≤ mv ∧ mv < 40000) ∨ (60000 < mv ∧ mv ≤ 62000)))
    ∧ (∀ mv ∈ [37999, 62001], mv < 38000 ∨ 62000 < mv) ∧ (startS .standby).stagesOn = false
    ∧ (∀ a, (mgtS { storeAt := some 5 }).mgt.storeAt = some a → a + 1311 < 1317) ∧ (∀ mv ∈ [3134, 3466], (startS .ready).modl.standby = true ∧ (mv < 3135 ∨ 3465 < mv))
    ∧ (startS .ready).hubOut = true ∧ Tbl.get false (startS .ready).modl.sdClk 3 = false := by
  decide

/-! The machine -/


theorem test_invariants_meet :
    (PowerOk State.reset.power ∧ PowerOk { clock := 575, pacing := 8 }) ∧ Memory.wf State.reset.tiers.mem = true
    ∧ Memory.wf [(3, 1#8), (7, 2#8)] = true ∧ Memory.wf [(7, 1#8), (3, 2#8)] = false ∧ Memory.wf [(3, 0#8)] = false :=
  ⟨by simp only [PowerOk]; decide, by decide⟩

/-! Words of Kwemin -/

/-- The worked example of R151's section, its bytes as the spec prints them. -/
theorem test_word_run :
    decodeKw .F (BitVec.ofNat 128 (leNat [0x02, 0x00, 0x00, 0xE0, 0x80, 0x00, 0x00, 0x42, 0x00, 0x02, 0x04, 0x20, 0xC0, 0xA2, 0x14, 0x00]))
      = .ok { stats := false, dfr := false, tag := 0, tail := { dctr := 0x14, en := true, push := false, pop := true }
              op := .run { slot := 5, tb := true, mode := false, group := 0, spill := false, spillSlot := 0, m := 256, k := 256, n := 256
                           cls := 2, lsrc := false, ax := 2, off := 8, stride := 224 } } := by decide +kernel

/-- A word from its fields, the highest bits first, each with its width. -/
def word (fs : List (Nat × Nat)) : BitVec 128 := BitVec.ofNat 128 (fs.foldl (fun a f => a * 2 ^ f.1 + f.2) 0)

/-- The tail with DCTR 9, DCTR_EN 1, PUSH 1, POP 0; and no tail. -/
def tail9 : List (Nat × Nat) := [(16, 9), (1, 1), (1, 1), (1, 0)]
def tail0 : List (Nat × Nat) := [(16, 0), (1, 0), (1, 0), (1, 0)]

/-- Bits 23 to 0: reserved, STATS, DEFER, TAG, CLASS, OPCODE. -/
def low (stats dfr tag cls op : Nat) : List (Nat × Nat) := [(6, 0), (1, stats), (1, dfr), (4, tag), (4, cls), (8, op)]

theorem test_words :
    (decodeKw .U (word (tail9 ++ [(11, 1024), (10, 1023), (6, 63), (32, 0x7FC00001), (26, 0)] ++ low 0 0 2 2 4)) = .ok
      { stats := false, dfr := false, tag := 2, tail := { dctr := 9, en := true, push := true, pop := false }
        op := .fill { count := 1024, lane := 1023, vd := 63, imm := 0x7FC00001 } })
    ∧ (decodeKw .B (word (tail0 ++ [(4, 15), (20, 0xABCDE), (4, 3), (15, 0x7FFF), (12, 0x123), (12, 0xFFF), (11, 0x7FF), (2, 2), (5, 0)]
        ++ low 0 1 1 3 2)) = .ok
      { stats := false, dfr := true, tag := 1, tail := {}
        op := .mstore { mx := 15, mstride := 0xABCDE, osx := 3, off := 0x7FFF, stride := 0x123, rows := 0xFFF, rowLen := 0x7FF, add := 2 } })
    ∧ (decodeKw .F (word ([(17, 0), (1, 1), (1, 0), (1, 0), (48, 0x123456789ABC), (16, 0xDEF0), (2, 2), (2, 1), (16, 0x3FF)] ++ low 0 0 0 4 1)) = .ok
      { stats := false, dfr := false, tag := 0, tail := { push := true }
        op := .wait { t := 0x123456789ABC, u := 0xDEF0, mode := 2, side := 1, ctr := 0x3FF } })
    ∧ (decodeKw .F (word ([(17, 0), (1, 0), (1, 1), (1, 0), (32, 0), (32, 0xFFFFFFFE), (2, 0), (2, 0), (16, 7)] ++ low 0 0 0 4 2)) = .ok
      { stats := false, dfr := false, tag := 0, tail := { pop := true }, op := .inc { amount := 0xFFFFFFFE, side := 0, ctr := 7 } })
    ∧ (decodeKw .U (word (tail0 ++ [(4, 7), (81, 0)] ++ low 0 0 2 5 3)) = .ok
      { stats := false, dfr := false, tag := 2, tail := {}, op := .norm { cx := 7 } })
    ∧ (decodeKw .F (word ([(56, 0), (32, 0x80000001), (16, 0x1234)] ++ low 0 0 0 6 1)) = .ok
      { stats := false, dfr := false, tag := 0, tail := {}, op := .loop { skip := 0x80000001, count := 0x1234 } })
    ∧ (decodeKw .F (word ([(52, 0), (48, 0xFFFFFFFFFFC0), (4, 9)] ++ low 0 0 0 6 6)) = .ok
      { stats := false, dfr := false, tag := 0, tail := {}, op := .xadd { imm := 0xFFFFFFFFFFC0, xreg := 9 } })
    ∧ (decodeKw .B (word ([(72, 0), (32, 0xFFFFFFFF)] ++ low 0 0 1 7 1)) = .ok
      { stats := false, dfr := false, tag := 1, tail := {}, op := .lbegin { layer := 0xFFFFFFFF } })
    ∧ (decodeKw .F (word ([(104, 0)] ++ low 0 0 0 6 8)) = .ok { stats := false, dfr := false, tag := 0, tail := {}, op := .meridian }) := by
  decide +kernel

/-- The faults of R144, in the table's order, on words that also hold the faults after their own. -/
theorem test_word_faults :
    decodeKw .F (word ([(104, 1)] ++ [(6, 1), (1, 0), (1, 1), (4, 1), (4, 8), (8, 0)])) = .error .insnBadClass
    ∧ decodeKw .F (word ([(104, 1)] ++ [(6, 1), (1, 0), (1, 1), (4, 1), (4, 6), (8, 0)])) = .error .insnBadOpcode
    ∧ decodeKw .F 0 = .error .insnBadOpcode
    ∧ decodeKw .F (word ([(104, 1)] ++ [(6, 1), (1, 0), (1, 1), (4, 1), (4, 6), (8, 8)])) = .error .streamTag
    ∧ decodeKw .F (word ([(104, 1)] ++ [(6, 1), (1, 0), (1, 1), (4, 0), (4, 6), (8, 8)])) = .error .deferBad
    ∧ decodeKw .F (word ([(17, 0), (1, 1), (1, 0), (65, 1), (2, 0), (2, 2), (16, 0)] ++ low 0 0 0 4 3)) = .error .syncBadSide
    ∧ decodeKw .F (word (tail0 ++ [(11, 1025), (10, 0), (6, 0), (32, 0), (26, 1)] ++ low 0 0 0 2 4)) = .error .insnReserved
    ∧ decodeKw .F (word (tail0 ++ [(11, 1025), (10, 0), (6, 0), (32, 0), (26, 0)] ++ low 0 0 0 2 4)) = .error .insnRange := by
  decide +kernel

/-- Each condition of a well-formed instruction, refused on one that breaks it alone. -/
theorem test_ill_formed_words_refused :
    (kw (.fill fillF)).wf .F = true ∧ (kw (.fill fillF)).wf .B = false ∧ ({ kw (.fill fillF) with dfr := true } : Kw).wf .F = false
    ∧ ({ kw (.fill fillF) with tail := { dctr := 1 } } : Kw).wf .F = false ∧ ({ kw .meridian with tail := { en := true } } : Kw).wf .F = false
    ∧ ({ kw .meridian with tail := { push := true } } : Kw).wf .F = false ∧ ({ kw (.token ⟨2⟩) with tail := { pop := true } } : Kw).wf .F = false
    ∧ (kw (.token ⟨3⟩)).wf .F = false ∧ (kw (.fill { fillF with count := 1025 })).wf .F = false := by
  decide +kernel

/-- Each check of the commands' operands, refused on a command that breaks it alone. -/
theorem test_ill_formed_commands_refused :
    (Instr.alloc (post [0])).wf = true ∧ (Instr.alloc { post [0] with fn := 65 }).wf = false ∧ (Instr.dmaOut { post [0] with page := 4096 }).wf = false
    ∧ (Instr.dbCplRingWrite 0 4096 0).wf = false ∧ (Instr.dbCplPtrWrite 65 0 0).wf = false
    ∧ (Instr.rxWrite 0 rx (msg 1)).wf = true ∧ (Instr.rxWrite 0 rx { msg 1 with length := 32 }).wf = false
    ∧ (Instr.pfc 0 rx 1 [0]).wf = false ∧ (Instr.pcieLinkUp 0 4 false).wf = false ∧ (Instr.pcieLinkUp 6 3 false).wf = false
    ∧ (Instr.registerWrite false 0 4 0 true true).wf = false ∧ (Instr.registerWrite false 0 0x4000000 0 true true).wf = false
    ∧ (Instr.registerWrite false 1 0 0 true true).wf = false ∧ (Instr.registerWrite true 65 0 0 true true).wf = false
    ∧ (Instr.utilisationWindowEnd 0 101 0).wf = false ∧ (Instr.utilisationWindowEnd 0 0 101).wf = false ∧ (Instr.powerStagesStop 65536).wf = false := by
  decide +kernel

theorem test_round_trip_meets :
    (kw (.fill fillF)).wf .F = true ∧ (kw (.meridian)).wf .F = true ∧ decodeKw .F (kw (.fill fillF)).encode = .ok (kw (.fill fillF)) := by
  decide +kernel

theorem test_packing_meets :
    (∀ b, (⟨.e2m1, some 32⟩ : Eff).blk = some b → 0 < b) ∧ (∀ c ∈ [1, 2, 15], c < 2 ^ Fmt.e2m1.width)
    ∧ Fmt.e2m1.width = 4 ∧ Fmt.e3m2.width = 6 ∧ (∀ c ∈ [1, 2, 3, 4, 63], c < 2 ^ Fmt.e3m2.width) := by
  refine ⟨?_, by decide⟩
  intro b h
  cases h
  decide

theorem test_steps_meet :
    ({ State.reset with pending := [.standbyGood, .hubReset] } : State).pending = .standbyGood :: [.hubReset] ∧ State.reset.pending = []
    ∧ State.reset.modl.standby = false ∧ nightS.pending = [] ∧ nightS.modl.standby = true
    ∧ (let s := { nightS with sec := { encls := [(0, { st := .resetting, before := .active })] } }
       s.sec.busy = none ∧ (s.encl 0).st = .resetting)
    ∧ (let s := { nightS with cores := [(0, { state := .locking })] }
       s.sec.busy = none ∧ (∀ p ∈ s.sec.encls, p.2.st ≠ .resetting) ∧ (s.core 0).state = .locking) := by
  decide

end Sys2Proof.Tests
end

section
/-! The bytes of a row record (R85, R90): what a number's little-endian bytes and a row's packed codes are, that the element area
holds every element, and so where each narrow element stands in the bytes and that a read gives the codes back. -/

namespace Sys2Proof.Machine

/-! Little-endian bytes -/

@[simp] theorem length_leBytes (n v : Nat) : (leBytes n v).length = n := by
  induction n generalizing v with
  | zero => rfl
  | succ n ih => simp [leBytes, ih]

theorem leBytes_getD_toNat {n i : Nat} (hi : i < n) (v : Nat) :
    ((leBytes n v).getD i 0#8).toNat = v / 256 ^ i % 256 := by
  induction n generalizing i v with
  | zero => omega
  | succ n ih =>
    cases i with
    | zero => simp [leBytes]
    | succ i =>
      rw [leBytes, List.getD_cons_succ, ih (by omega), Nat.div_div_eq_div_mul, Nat.pow_succ']

theorem leNat_leBytes_of_lt {n v : Nat} (hv : v < 256 ^ n) : leNat (leBytes n v) = v := by
  induction n generalizing v with
  | zero => simp_all [leBytes, leNat]
  | succ n ih =>
    have hdiv : v / 256 < 256 ^ n := Nat.div_lt_of_lt_mul (by rwa [← Nat.pow_succ'])
    rw [leBytes, leNat, ih hdiv, BitVec.toNat_ofNat]
    omega

/-! Packed codes -/

theorem packBits_lt (w : Nat) (codes : List Nat) : packBits w codes < 2 ^ (w * codes.length) := by
  induction codes with
  | nil => simp [packBits]
  | cons c cs ih =>
    have hc : c % 2 ^ w < 2 ^ w := Nat.mod_lt _ (Nat.two_pow_pos w)
    calc packBits w (c :: cs) < 2 ^ w * (packBits w cs + 1) := by rw [packBits]; linarith
      _ ≤ 2 ^ w * 2 ^ (w * cs.length) := Nat.mul_le_mul_left _ ih
      _ = 2 ^ (w * (c :: cs).length) := by rw [← Nat.pow_add, List.length_cons, Nat.mul_succ, Nat.add_comm]

theorem packBits_cons_mod {w c : Nat} (hc : c < 2 ^ w) (cs : List Nat) : packBits w (c :: cs) % 2 ^ w = c := by
  rw [packBits, Nat.add_mul_mod_self_left, Nat.mod_mod, Nat.mod_eq_of_lt hc]

theorem packBits_cons_div (w c : Nat) (cs : List Nat) : packBits w (c :: cs) / 2 ^ w = packBits w cs := by
  rw [packBits, Nat.add_mul_div_left _ _ (Nat.two_pow_pos w), Nat.div_eq_of_lt (Nat.mod_lt _ (Nat.two_pow_pos w)), Nat.zero_add]

theorem packBits_elem {w : Nat} {codes : List Nat} (hc : ∀ c ∈ codes, c < 2 ^ w) (i : Nat) :
    packBits w codes / 2 ^ (w * i) % 2 ^ w = codes.getD i 0 := by
  induction codes generalizing i with
  | nil => simp [packBits]
  | cons c cs ih =>
    obtain ⟨hhead, htail⟩ := List.forall_mem_cons.mp hc
    cases i with
    | zero => simpa using packBits_cons_mod hhead cs
    | succ i =>
      rw [Nat.mul_succ, Nat.add_comm, Nat.pow_add, ← Nat.div_div_eq_div_mul, packBits_cons_div, ih htail, List.getD_cons_succ]

theorem unpackBits_packBits {w : Nat} {codes : List Nat} (hc : ∀ c ∈ codes, c < 2 ^ w) :
    unpackBits w codes.length (packBits w codes) = codes := by
  induction codes with
  | nil => rfl
  | cons c cs ih =>
    obtain ⟨hhead, htail⟩ := List.forall_mem_cons.mp hc
    rw [List.length_cons, unpackBits, packBits_cons_mod hhead, packBits_cons_div, ih htail]

/-! The element area -/

theorem le_ceilDiv_mul (n : Nat) {d : Nat} (hd : 0 < d) : n ≤ ceilDiv n d * d := by
  have := Nat.lt_div_mul_add hd (a := n + d - 1)
  rw [ceilDiv]
  omega

theorem le_roundUp (n : Nat) {d : Nat} (hd : 0 < d) : n ≤ roundUp n d := le_ceilDiv_mul n hd

theorem Eff.le_areaElems {e : Eff} (hb : ∀ b, e.blk = some b → 0 < b) (len : Nat) : len ≤ e.areaElems len := by
  rw [Eff.areaElems]
  split
  case h_1 b h => exact le_roundUp len (hb b h)
  case h_2 => exact le_rfl

/-- The element area has room for every element of the row. -/
theorem Eff.bits_le_elemArea {e : Eff} (hb : ∀ b, e.blk = some b → 0 < b) (len : Nat) :
    e.fmt.width * len ≤ 8 * e.elemArea len :=
  calc e.fmt.width * len ≤ e.areaElems len * e.fmt.width := by
        rw [Nat.mul_comm]; exact Nat.mul_le_mul_right _ (Eff.le_areaElems hb len)
    _ ≤ ceilDiv (e.areaElems len * e.fmt.width) 8 * 8 := le_ceilDiv_mul _ (by decide)
    _ ≤ 8 * e.elemArea len := by
        rw [Nat.mul_comm]; exact Nat.mul_le_mul_left 8 (le_roundUp _ (by decide))

/-! Elements in a row record -/

theorem Eff.packRow_take_elemArea (e : Eff) (codes scales : List Nat) :
    (e.packRow codes scales).take (e.elemArea codes.length) = leBytes (e.elemArea codes.length) (packBits e.fmt.width codes) := by
  rw [Eff.packRow, List.take_left' (length_leBytes ..)]

theorem Eff.packRow_byte {e : Eff} {codes : List Nat} {i : Nat} (hi : i < e.elemArea codes.length) (scales : List Nat) :
    ((e.packRow codes scales).getD i 0#8).toNat = packBits e.fmt.width codes / 256 ^ i % 256 := by
  rw [Eff.packRow, List.getD_append _ _ _ _ (by rwa [length_leBytes]), leBytes_getD_toNat hi]

/-- The 6 bits of element `m` of a 24-bit word depend only on the bytes of the word that they reach into. -/
theorem sixBits_of_threeBytes {q b₀ b₁ b₂ m : Nat} (hm : m < 4) (h₀ : b₀ = q % 256)
    (h₁ : 8 < 6 * m + 6 → b₁ = q / 256 % 256) (h₂ : 16 < 6 * m + 6 → b₂ = q / 256 ^ 2 % 256) :
    (b₀ + b₁ * 2 ^ 8 + b₂ * 2 ^ 16) / 2 ^ (6 * m) % 2 ^ 6 = q / 2 ^ (6 * m) % 2 ^ 6 := by
  interval_cases m <;> omega

section
variable {e : Eff} {codes : List Nat} (hb : ∀ b, e.blk = some b → 0 < b) (hc : ∀ c ∈ codes, c < 2 ^ e.fmt.width)
include hb hc

theorem Eff.packRow_fourBit (hw : e.fmt.width = 4) (scales : List Nat) {i : Nat} (hi : i < codes.length) :
    ((e.packRow codes scales).getD (i / 2) 0#8).toNat / 16 ^ (i % 2) % 16 = codes.getD i 0 := by
  have hroom := Eff.bits_le_elemArea hb codes.length
  have helem := packBits_elem hc i
  rw [hw] at hroom helem
  rw [Eff.packRow_byte (by omega), hw, ← helem]
  obtain ⟨k, rfl | rfl⟩ := Nat.even_or_odd' i
  · have hpow : 2 ^ (4 * (2 * k)) = 256 ^ k := by rw [show 4 * (2 * k) = 8 * k by ring, Nat.pow_mul]
    have hk : 2 * k / 2 = k := by omega
    have hpar : 2 * k % 2 = 0 := by omega
    rw [hpow, hk, hpar]
    omega
  · have hpow : 2 ^ (4 * (2 * k + 1)) = 256 ^ k * 16 := by rw [show 4 * (2 * k + 1) = 8 * k + 4 by ring, Nat.pow_add, Nat.pow_mul]
    have hk : (2 * k + 1) / 2 = k := by omega
    have hpar : (2 * k + 1) % 2 = 1 := by omega
    rw [hpow, hk, hpar, ← Nat.div_div_eq_div_mul]
    omega

/-- Bytes past the element area hold no bit of an element, so the last word of the area may lack its upper bytes. -/
theorem Eff.packRow_sixBit (hw : e.fmt.width = 6) (scales : List Nat) {k m : Nat} (hm : m < 4) (hi : 4 * k + m < codes.length) :
    let byte := fun i => ((e.packRow codes scales).getD i 0#8).toNat
    (byte (3 * k) + byte (3 * k + 1) * 2 ^ 8 + (if 3 * k + 2 < e.elemArea codes.length then byte (3 * k + 2) else 0) * 2 ^ 16)
      / 2 ^ (6 * m) % 2 ^ 6 = codes.getD (4 * k + m) 0 := by
  intro byte
  have hroom := Eff.bits_le_elemArea hb codes.length
  have helem := packBits_elem hc (4 * k + m)
  have hbyte : ∀ j, 3 * k + j < e.elemArea codes.length →
      byte (3 * k + j) = packBits 6 codes / 256 ^ (3 * k) / 256 ^ j % 256 := by
    intro j hj
    rw [Nat.div_div_eq_div_mul, ← Nat.pow_add, ← hw]
    exact Eff.packRow_byte hj scales
  rw [hw] at hroom helem
  have hpow : 2 ^ (6 * (4 * k + m)) = 256 ^ (3 * k) * 2 ^ (6 * m) := by
    rw [show 6 * (4 * k + m) = 8 * (3 * k) + 6 * m by ring, Nat.pow_add, Nat.pow_mul 2 8]
  rw [← helem, hpow, ← Nat.div_div_eq_div_mul]
  refine sixBits_of_threeBytes hm ?_ ?_ ?_
  · simpa using hbyte 0 (by omega)
  · intro h
    simpa using hbyte 1 (by omega)
  · intro h
    rw [if_pos (by omega)]
    exact hbyte 2 (by omega)

theorem Eff.unpackRow_packRow_codes (scales : List Nat) : (e.unpackRow codes.length (e.packRow codes scales)).codes = codes := by
  have hfits : packBits e.fmt.width codes < 256 ^ e.elemArea codes.length :=
    calc packBits e.fmt.width codes < 2 ^ (e.fmt.width * codes.length) := packBits_lt ..
      _ ≤ 2 ^ (8 * e.elemArea codes.length) := Nat.pow_le_pow_right (by decide) (Eff.bits_le_elemArea hb _)
      _ = 256 ^ e.elemArea codes.length := Nat.pow_mul ..
  rw [Eff.unpackRow, Eff.packRow_take_elemArea, leNat_leBytes_of_lt hfits, unpackBits_packBits hc]

end

/-- Settles O59: the element area holds the codes' packed bits as little-endian bytes, and has room for all of them. -/
theorem narrowPacking : Obligations.NarrowPacking := by
  intro e codes scales hb hc
  exact ⟨fun hw _ hi => Eff.packRow_fourBit hb hc hw scales hi,
    fun hw _ _ hm hi => Eff.packRow_sixBit hb hc hw scales hm hi,
    Eff.unpackRow_packRow_codes hb hc scales⟩

end Sys2Proof.Machine
end

section
/-! The ladder of formats (R103): which formats keep block scaling as rungs. -/

namespace Sys2Proof.Machine

/-- R89: the formats that may be block-scaled are 0x3 to 0x9. -/
theorem Fmt.scalable_iff_code (g : Fmt) : g.scalable = true ↔ 0x3 ≤ g.code ∧ g.code ≤ 0x9 := by
  cases g <;> decide

theorem Fmt.rungEff_of_scalable {g : Fmt} (h : g.scalable = true) (b : Option Nat) : g.rungEff b = { fmt := g, blk := b } := by
  rw [Fmt.rungEff, if_pos h]

theorem Fmt.rungEff_of_not_scalable {g : Fmt} (h : g.scalable = false) (b : Option Nat) : g.rungEff b = { fmt := g, blk := none } := by
  rw [Fmt.rungEff, h, if_neg Bool.false_ne_true]

/-- Settles O60: the table of successors by the definition, and the scaling of a rung by whether its format is scalable. -/
theorem ladderSuccessors : Obligations.LadderSuccessors := by
  refine ⟨rfl, rfl, rfl, rfl, rfl, rfl, rfl, rfl, rfl, rfl, rfl, ?_⟩
  intro _ g b _
  constructor
  · intro hcode
    exact Fmt.rungEff_of_scalable ((Fmt.scalable_iff_code g).mpr hcode) b
  · rintro (rfl | rfl | rfl) <;> exact Fmt.rungEff_of_not_scalable rfl b

end Sys2Proof.Machine
end

section
/-! What a read of a sparse table gives after a key is dropped or a run of values is written, in a table whose keys rise (its entries
may equal the default). -/

namespace Sys2Proof.Machine

variable {α : Type}

theorem Tbl.look_above {k : Nat} {t : Tbl α} (h : Tbl.above k t = true) : Tbl.look t k = none := by
  induction t with
  | nil => rfl
  | cons p t ih =>
    rw [Tbl.above_iff] at h
    have hne : p.1 ≠ k := (h p List.mem_cons_self).ne'
    have htail : Tbl.above k t = true := (Tbl.above_iff k t).2 fun q hq => h q (List.mem_cons_of_mem p hq)
    rw [Tbl.look, if_neg hne, ih htail]

theorem Tbl.look_drop_other (t : Tbl α) {k j : Nat} (h : j ≠ k) : Tbl.look (Tbl.drop t k) j = Tbl.look t j := by
  induction t with
  | nil => rfl
  | cons p t ih =>
    rw [Tbl.drop]
    split
    next hk => rw [Tbl.look, if_neg (hk ▸ h.symm)]
    next => rw [Tbl.look, Tbl.look, ih]

theorem Tbl.look_drop_same {t : Tbl α} (k : Nat) (h : Tbl.rising t = true) : Tbl.look (Tbl.drop t k) k = none := by
  induction t with
  | nil => rfl
  | cons p t ih =>
    rw [Tbl.rising, Bool.and_eq_true] at h
    obtain ⟨habove, hrising⟩ := h
    rw [Tbl.drop]
    split
    next hk => exact Tbl.look_above (hk ▸ habove)
    next hk => rw [Tbl.look, if_neg hk, ih hrising]

theorem Tbl.look_dropAll_of_notMem (ks : List Nat) (t : Tbl α) {j : Nat} (h : j ∉ ks) :
    Tbl.look (ks.foldl Tbl.drop t) j = Tbl.look t j := by
  induction ks generalizing t with
  | nil => rfl
  | cons k ks ih =>
    rw [List.mem_cons, not_or] at h
    rw [List.foldl_cons, ih _ h.2, Tbl.look_drop_other t h.1]

theorem Tbl.look_dropAll_of_mem {ks : List Nat} {t : Tbl α} {j : Nat} (ht : Tbl.rising t = true) (h : j ∈ ks) :
    Tbl.look (ks.foldl Tbl.drop t) j = none := by
  induction ks generalizing t with
  | nil => cases h
  | cons k ks ih =>
    rw [List.foldl_cons]
    by_cases hks : j ∈ ks
    · exact ih (Tbl.rising_drop k ht) hks
    · obtain rfl : j = k := (List.mem_cons.1 h).resolve_right hks
      rw [Tbl.look_dropAll_of_notMem ks _ hks, Tbl.look_drop_same j ht]

theorem Tbl.slice_succ (d : α) (t : Tbl α) (k n : Nat) : Tbl.slice d t k (n + 1) = Tbl.get d t k :: Tbl.slice d t (k + 1) n := by
  simp [Tbl.slice, List.range_succ_eq_map, Function.comp_def, Nat.add_comm, Nat.add_left_comm]

variable [DecidableEq α]

theorem Tbl.rising_write (d : α) {t : Tbl α} (k : Nat) (v : α) (h : Tbl.rising t = true) : Tbl.rising (Tbl.write d t k v) = true := by
  unfold Tbl.write
  split
  · exact Tbl.rising_drop k h
  · exact Tbl.rising_put k v h

theorem Tbl.rising_writeList (d : α) (vs : List α) {t : Tbl α} (k : Nat) (h : Tbl.rising t = true) :
    Tbl.rising (Tbl.writeList d t k vs) = true := by
  induction vs generalizing t k with
  | nil => exact h
  | cons v vs ih => exact ih (k + 1) (Tbl.rising_write d k v h)

theorem Tbl.get_write_self (d : α) {t : Tbl α} (k : Nat) (v : α) (h : Tbl.rising t = true) : Tbl.get d (Tbl.write d t k v) k = v := by
  unfold Tbl.write
  split
  next hv => rw [Tbl.get_drop_same d k h, hv]
  next => exact Tbl.get_put_same d t k v

theorem Tbl.slice_writeList (d : α) (vs : List α) {t : Tbl α} (k : Nat) (h : Tbl.rising t = true) :
    Tbl.slice d (Tbl.writeList d t k vs) k vs.length = vs := by
  induction vs generalizing t k with
  | nil => rfl
  | cons v vs ih =>
    rw [List.length_cons, Tbl.slice_succ, Tbl.writeList, ih (k + 1) (Tbl.rising_write d k v h),
      Tbl.get_writeList_other d vs _ (.inl k.lt_succ_self), Tbl.get_write_self d k v h]

end Sys2Proof.Machine
end

section
/-! A mailbox command that is done (R395, R396, R399): what its mailbox shows, and what of the machine stays. -/

namespace Sys2Proof.Machine

/-! The alert -/

/-- Of the management part a raised alert changes its own register alone. -/
theorem State.raiseAlert_mgt (s : State) (k : Nat) :
    (s.raiseAlert k).mgt = { s.mgt with alert := (s.raiseAlert k).mgt.alert } := by
  unfold State.raiseAlert State.msix State.alertPin State.emit
  dsimp only
  (repeat' split) <;> rfl

theorem State.raiseAlert_bit (s : State) {k : Nat} (hk : k < 7) : (s.raiseAlert k).mgt.alert.getLsbD k = true := by
  unfold State.raiseAlert
  split
  next hset => exact hset
  next =>
    have hbit : (s.mgt.alert ||| BitVec.ofNat 7 (2 ^ k)).getLsbD k = true := by
      rw [BitVec.getLsbD_or, BitVec.getLsbD_ofNat, Nat.testBit_two_pow_self, decide_eq_true hk, Bool.and_self, Bool.or_true]
    unfold State.msix State.alertPin State.emit
    dsimp only
    (repeat' split) <;> exact hbit

@[simp] theorem State.mbox_raiseAlert (s : State) (k : Nat) (m : Mbox) : (s.raiseAlert k).mbox m = s.mbox m := by
  cases m <;> rw [State.mbox, State.raiseAlert_mgt, State.mbox]

@[simp] theorem State.mbox_emit (s : State) (x : Output) (m : Mbox) : (s.emit x).mbox m = s.mbox m := by
  cases m <;> rfl

/-! The mailboxes -/

@[simp] theorem State.mbox_setMbox_self (s : State) (m : Mbox) (b : Mailbox) : (s.setMbox m b).mbox m = b := by
  cases m <;> rfl

/-- What of the management part is neither a mailbox nor the alert register. -/
def Mgt.sansMbox (g : Mgt) : Mgt := { g with host := {}, i3c := {}, alert := 0 }

theorem Mgt.fields_of_sansMbox {g h : Mgt} (e : g.sansMbox = h.sansMbox) :
    g.working = h.working ∧ g.store = h.store ∧ g.awake = h.awake ∧ g.sensors = h.sensors :=
  ⟨(congrArg Mgt.working e :), (congrArg Mgt.store e :), (congrArg Mgt.awake e :), (congrArg Mgt.sensors e :)⟩

@[simp] theorem State.raiseAlert_sansMbox (s : State) (k : Nat) : (s.raiseAlert k).mgt.sansMbox = s.mgt.sansMbox := by
  rw [State.raiseAlert_mgt]
  rfl

@[simp] theorem State.setMbox_sansMbox (s : State) (m : Mbox) (b : Mailbox) : (s.setMbox m b).mgt.sansMbox = s.mgt.sansMbox := by
  cases m <;> rfl

@[simp] theorem State.emit_sansMbox (s : State) (x : Output) : (s.emit x).mgt.sansMbox = s.mgt.sansMbox := rfl

/-! The end of a command -/

@[simp] theorem mbDone_sansMbox (m : Mbox) (c : MbCmd) (o : MbOut) : (mbDone m c o).mgt.sansMbox = o.s.mgt.sansMbox := by
  unfold mbDone
  dsimp only
  (repeat' split) <;> simp

theorem mbDone_sensors (m : Mbox) (c : MbCmd) (o : MbOut) : (mbDone m c o).mgt.sensors = o.s.mgt.sensors := by
  obtain ⟨-, -, -, hsensors⟩ := Mgt.fields_of_sansMbox (mbDone_sansMbox m c o)
  exact hsensors

/-- The end of a command touches the mailboxes, the alert and what reports it alone. -/
theorem mbDone_mboxOnly {s : State} {o : MbOut} (h : mboxOnly s o.s) (m : Mbox) (c : MbCmd) : mboxOnly s (mbDone m c o) := by
  obtain ⟨hworking, hstore, hawake, -⟩ := Mgt.fields_of_sansMbox (mbDone_sansMbox m c o)
  simpa only [mboxOnly, mbDone_same, hworking, hstore, hawake] using h

theorem mboxOnly_refl (s : State) : mboxOnly s s := ⟨rfl, rfl, rfl, rfl, rfl, rfl, rfl, rfl, rfl, rfl⟩

/-- A command that leaves the device up shows its status and its output. -/
theorem mbDone_shows {m : Mbox} {c : MbCmd} {o : MbOut} (hgone : o.gone = false) (hup : m = .host → o.s.mgt.awake = true)
    (hbuf : Tbl.rising (o.s.mbox m).buf = true) : mboxShows (mbDone m c o) m c o.status o.out := by
  have hslice := Tbl.slice_writeList 0#8 o.out 0 (Tbl.rising_writeList 0#8 (c.inp.take (min c.len 4096)) 0 hbuf)
  cases m with
  | host => simp [mbDone, mboxShows, hgone, hup, hslice, State.raiseAlert_bit, -BitVec.getLsbD_eq_getElem]
  | i3c => simp [mbDone, mboxShows, hgone, hslice]

/-! From GO to DONE -/

theorem mailbox_of_accepted {s : State} {m : Mbox} {c : MbCmd} (h : MboxOk s m c) :
    mailbox m c s = s.close (mbDone m c (mbCommand c s)) := by
  simp [mailbox, mbRun, h.serves, h.accepted]

theorem mailbox_of_refused {s : State} {m : Mbox} {c : MbCmd} {k : Nat} (hserves : s.serves m = true) (h : s.mbRefuse c = some k) :
    mailbox m c s = s.close (mbDone m c { s := s, status := k }) := by
  simp [mailbox, mbRun, hserves, h]

/-- A command that only reads answers with its output, and the rest of the machine stays. -/
theorem mailbox_answers {s : State} {m : Mbox} {c : MbCmd} {out : List Byte} (h : MboxOk s m c)
    (hout : mbCommand c s = { s := s, out := out }) :
    ∃ t, mailbox m c s = s.close t ∧ mboxShows t m c 0 out ∧ mboxOnly s t :=
  ⟨_, hout ▸ mailbox_of_accepted h, mbDone_shows rfl h.up h.buf, mbDone_mboxOnly (mboxOnly_refl s) m c⟩

/-- A refused command shows its status with no output, and the rest of the machine stays. -/
theorem mailbox_refuses {s : State} {m : Mbox} {c : MbCmd} {k : Nat} (hserves : s.serves m = true)
    (hup : m = .host → s.mgt.awake = true) (hbuf : Tbl.rising (s.mbox m).buf = true) (h : s.mbRefuse c = some k) :
    ∃ t, mailbox m c s = s.close t ∧ mboxShows t m c k [] ∧ mboxOnly s t :=
  ⟨_, mailbox_of_refused hserves h, mbDone_shows rfl hup hbuf, mbDone_mboxOnly (mboxOnly_refl s) m c⟩

end Sys2Proof.Machine
end

section
/-! READ_SENSORS (R400 to R402) and the other reading commands (R397, R406, R412, R419). -/

namespace Sys2Proof.Machine

/-- The sensors of a READ_SENSORS argument, in order: count of them from the first. -/
def sensorRange (arg : Nat) : List Nat := (List.range (arg / 65536)).map fun i => arg % 65536 + i

theorem readSensors_out (arg : Nat) (s : State) :
    (readSensors arg s).out = (sensorRange arg).flatMap fun k => leBytes 4 (s.reading k) := rfl

theorem readSensors_sensors (arg : Nat) (s : State) : (readSensors arg s).s.mgt.sensors
    = ((sensorRange arg).filter fun k => decide (48 ≤ k) && decide (k < 144)).foldl Tbl.drop s.mgt.sensors := rfl

theorem readSensors_mboxOnly (arg : Nat) (s : State) : mboxOnly s (readSensors arg s).s := ⟨rfl, rfl, rfl, rfl, rfl, rfl, rfl, rfl, rfl, rfl⟩

theorem readSensors_mbox (arg : Nat) (s : State) (m : Mbox) : (readSensors arg s).s.mbox m = s.mbox m := by
  cases m <;> rfl

/-- R401: a droop monitor that was read has seen nothing. -/
theorem readSensors_rearms {arg k : Nat} {s : State} (ht : Tbl.rising s.mgt.sensors = true) (hk : k ∈ sensorRange arg)
    (hlo : 48 ≤ k) (hhi : k < 144) : Tbl.look (readSensors arg s).s.mgt.sensors k = none := by
  rw [readSensors_sensors]
  exact Tbl.look_dropAll_of_mem ht (List.mem_filter.2 ⟨hk, by simp [hlo, hhi]⟩)

theorem readSensors_keeps_others (arg : Nat) {k : Nat} (s : State) (hk : k < 48 ∨ 144 ≤ k) :
    Tbl.look (readSensors arg s).s.mgt.sensors k = Tbl.look s.mgt.sensors k := by
  rw [readSensors_sensors]
  refine Tbl.look_dropAll_of_notMem _ _ fun hmem => ?_
  have hdroop := (List.mem_filter.1 hmem).2
  rw [Bool.and_eq_true, decide_eq_true_eq, decide_eq_true_eq] at hdroop
  omega

/-- R402: a range that runs past sensor 1,023 fails the check on ARG, and no earlier check. -/
theorem mbRefuse_sensorsPastLast {s : State} {arg : W32} (hup : s.mgt.awake = true) (hcount : arg.toNat / 65536 ≠ 0)
    (hpast : 1024 < arg.toNat % 65536 + arg.toNat / 65536) : s.mbRefuse (plain 0x03 arg) = some mgtBadArg := by
  have harg : argOk 0x03 arg.toNat = false := by simp [argOk, hcount, hpast]
  simp [State.mbRefuse, firstOf, plain, lenOk, harg, hup]

theorem mailbox_readSensors {s : State} {m : Mbox} {arg : W32} (h : MboxOk s m (plain 0x03 arg)) :
    ∃ t, mailbox m (plain 0x03 arg) s = s.close t
      ∧ mboxShows t m (plain 0x03 arg) 0 ((sensorRange arg.toNat).flatMap fun k => leBytes 4 (s.reading k)) ∧ mboxOnly s t
      ∧ (Tbl.rising s.mgt.sensors = true → ∀ k ∈ sensorRange arg.toNat, 48 ≤ k → k < 144 → Tbl.look t.mgt.sensors k = none)
      ∧ (∀ k, (k < 48 ∨ 144 ≤ k) → Tbl.look t.mgt.sensors k = Tbl.look s.mgt.sensors k) := by
  refine ⟨_, mailbox_of_accepted h, ?shows, ?only, ?rearmed, ?others⟩
  case shows =>
    have hbuf : Tbl.rising ((readSensors arg.toNat s).s.mbox m).buf = true := (readSensors_mbox arg.toNat s m).symm ▸ h.buf
    exact mbDone_shows (o := readSensors arg.toNat s) rfl h.up hbuf
  case only => exact mbDone_mboxOnly (readSensors_mboxOnly arg.toNat s) m _
  case rearmed =>
    intro ht k hk hlo hhi
    rw [mbDone_sensors]
    exact readSensors_rearms ht hk hlo hhi
  case others =>
    intro k hk
    rw [mbDone_sensors]
    exact readSensors_keeps_others arg.toNat s hk

theorem getSetting_of_known {s : State} {id v : Nat} (h : s.mgt.working.get id = some v) :
    getSetting id s = { s := s, out := leBytes 8 v } := by
  rw [getSetting, h]

/-- What a command of the mailboxes answers is the machine's next state. -/
theorem exec_of_mailbox {s : State} {i : Instr} {u : State} {P : State → Prop} (hexec : exec i s = .next u)
    (h : ∃ t, u = s.close t ∧ P t) : ∃ t, exec i s = .next (s.close t) ∧ P t := by
  obtain ⟨t, hclose, ht⟩ := h
  exact ⟨t, hexec.trans (congrArg _ hclose), ht⟩

/-- Settles O41: each command is run to its answer by `mailbox_answers`, READ_SENSORS by `mailbox_readSensors`, and past the last
sensor by `mailbox_refuses`. -/
theorem mailboxReads : Obligations.MailboxReads := by
  intro s m arg inp
  refine ⟨?status, ?identity, ?sensors, ?pastLast, ?log, ?setting, ?firmware⟩
  case status => exact fun h => exec_of_mailbox rfl (mailbox_answers h rfl)
  case identity => exact fun h => exec_of_mailbox rfl (mailbox_answers h rfl)
  case sensors => exact fun h => exec_of_mailbox rfl (mailbox_readSensors h)
  case pastLast =>
    intro hserves hbuf hup hcount hpast
    exact exec_of_mailbox rfl (mailbox_refuses hserves (fun _ => hup) hbuf (mbRefuse_sensorsPastLast hup hcount hpast))
  case log => exact fun h => exec_of_mailbox rfl (mailbox_answers h rfl)
  case setting => exact fun _ h hv => exec_of_mailbox rfl (mailbox_answers h (getSetting_of_known hv))
  case firmware => exact fun h => exec_of_mailbox rfl (mailbox_answers h rfl)

end Sys2Proof.Machine
end

section
/-! What every command keeps: the queue of waiting commands, what is fused, the canonical form of memory and the range of the power
manager. The commands that run a part of their own inside a shared frame (issue, a queue entry, a received message, a security
request) are settled once for the frame. -/

namespace Sys2Proof.Machine

open Sys2Proof

/-- What an effect inside a command keeps. -/
structure EffectKeeps (s t : State) : Prop where
  pending : t.pending = s.pending
  ticks : t.ticks = s.ticks
  coldResets : t.coldResets = s.coldResets
  fuse : t.fuse = s.fuse
  mem : Memory.wf s.tiers.mem = true → Memory.wf t.tiers.mem = true
  power : PowerOk s.power → PowerOk t.power

/-- What a whole command keeps: the time counter and the count of cold resets are the module's to change. -/
structure StepKeeps (s t : State) : Prop where
  pending : t.pending = s.pending
  fuse : t.fuse = s.fuse
  mem : Memory.wf s.tiers.mem = true → Memory.wf t.tiers.mem = true
  power : PowerOk s.power → PowerOk t.power

theorem EffectKeeps.step {s t : State} (h : EffectKeeps s t) : StepKeeps s t := ⟨h.pending, h.fuse, h.mem, h.power⟩

theorem StepKeeps.refl (s : State) : StepKeeps s s := ⟨rfl, rfl, id, id⟩

theorem StepKeeps.ite {s a b : State} {c : Prop} [Decidable c] (ha : StepKeeps s a) (hb : StepKeeps s b) :
    StepKeeps s (if c then a else b) := by
  split
  · exact ha
  · exact hb

/-- `State.close` lets waiting host commands go on; none of them touches what a step keeps. -/
theorem StepKeeps.close {s t : State} (u : State) (h : StepKeeps s t) : StepKeeps s (u.close t) :=
  ⟨by simp [h.pending], by simp [h.fuse], fun hm => by simp [h.mem hm], fun hp => by simp [h.power hp]⟩

theorem EffectKeeps.refl (s : State) : EffectKeeps s s := ⟨rfl, rfl, rfl, rfl, id, id⟩

/-- What leaves the power manager alone keeps its range. -/
theorem EffectKeeps.of_same {s t : State}
    (h : t.pending = s.pending ∧ t.ticks = s.ticks ∧ t.coldResets = s.coldResets ∧ t.fuse = s.fuse ∧ t.power = s.power)
    (hm : Memory.wf s.tiers.mem = true → Memory.wf t.tiers.mem = true) : EffectKeeps s t ∧ t.power = s.power := by
  obtain ⟨hp, ht, hc, hf, hw⟩ := h
  exact ⟨⟨hp, ht, hc, hf, hm, fun h => by rwa [hw]⟩, hw⟩

/-! Instructions of Kwemin -/

/-- The instruction's own part at issue keeps the power manager and what an effect keeps. -/
def CarryKeeps (run : Env → Except FaultCode Done) : Prop :=
  ∀ e d, run e = .ok d → EffectKeeps e.s d.s ∧ d.s.power = e.s.power

theorem kwemin_keeps {n : CoreId} {x : StrmId} {ph : Phase} {access : Bool} {want : KwOp → Bool} {run : Env → Except FaultCode Done}
    (s : State) (hr : CarryKeeps run) : StepKeeps s (kwemin n x ph access want run s) := by
  obtain ⟨hp, -, -, hf, hw⟩ := kwemin_same n x ph access want run s fun e d h =>
    have ⟨k, hw⟩ := hr e d h
    ⟨k.pending, k.ticks, k.coldResets, k.fuse, hw⟩
  exact ⟨hp, hf, fun hm => kwemin_mem n x ph access want run s hm fun e d h => (hr e d h).1.mem, fun h => by rwa [hw]⟩

theorem carryLoadw_keeps : CarryKeeps carryLoadw := fun e d h => by
  have hs := carryLoadw_same e h
  exact EffectKeeps.of_same (by simp [hs]) (by simp [hs])

theorem carryRun_keeps : CarryKeeps carryRun := fun e d h => by
  have hs := carryRun_same e h
  exact EffectKeeps.of_same (by simp [hs]) (by simp [hs])

theorem carryAccRead_keeps : CarryKeeps carryAccRead := fun e d h => by
  have hs := carryAccRead_same e h
  exact EffectKeeps.of_same (by simp [hs]) (by simp [hs])

theorem carryAccWrite_keeps : CarryKeeps carryAccWrite := fun e d h => by
  have hs := carryAccWrite_same e h
  exact EffectKeeps.of_same (by simp [hs]) (by simp [hs])

theorem carryRscale_keeps : CarryKeeps carryRscale := fun e d h => by
  have hs := carryRscale_same e h
  exact EffectKeeps.of_same (by simp [hs]) (by simp [hs])

theorem carryResume_keeps : CarryKeeps carryResume := fun e d h => by
  have hs := carryResume_same e h
  exact EffectKeeps.of_same (by simp [hs]) (by simp [hs])

theorem carryAlu_keeps : CarryKeeps carryAlu := fun e d h => by
  have hs := carryAlu_same e h
  exact EffectKeeps.of_same (by simp [hs]) (by simp [hs])

theorem carryRed_keeps : CarryKeeps carryRed := fun e d h => by
  have hs := carryRed_same e h
  exact EffectKeeps.of_same (by simp [hs]) (by simp [hs])

theorem carryOsmx_keeps : CarryKeeps carryOsmx := fun e d h => by
  have hs := carryOsmx_same e h
  exact EffectKeeps.of_same (by simp [hs]) (by simp [hs])

theorem carryFill_keeps : CarryKeeps carryFill := fun e d h => by
  have hs := carryFill_same e h
  exact EffectKeeps.of_same (by simp [hs]) (by simp [hs])

theorem carryVdrop_keeps : CarryKeeps carryVdrop := fun e d h => by
  have hs := carryVdrop_same e h
  exact EffectKeeps.of_same (by simp [hs]) (by simp [hs])

theorem carryLoad_keeps : CarryKeeps carryLoad := fun e d h => by
  have hs := carryLoad_same e h
  exact EffectKeeps.of_same (by simp [hs]) (carryLoad_mem e h)

theorem carryStore_keeps : CarryKeeps carryStore := fun e d h => by
  have hs := carryStore_same e h
  exact EffectKeeps.of_same (by simp [hs]) (carryStore_mem e h)

theorem carryTload_keeps : CarryKeeps carryTload := fun e d h => by
  have hs := carryTload_same e h
  exact EffectKeeps.of_same (by simp [hs]) (carryTload_mem e h)

theorem carryGather_keeps : CarryKeeps carryGather := fun e d h => by
  have hs := carryGather_same e h
  exact EffectKeeps.of_same (by simp [hs]) (carryGather_mem e h)

theorem carryDwtq_keeps : CarryKeeps carryDwtq := fun e d h => by
  have hs := carryDwtq_same e h
  exact EffectKeeps.of_same (by simp [hs]) (carryDwtq_mem e h)

theorem carryWait_keeps (access : Bool) : CarryKeeps (carryWait access) := fun e d h => by
  have hs := carryWait_same access e h
  exact EffectKeeps.of_same (by simp [hs]) (by simp [hs])

theorem carryInc_keeps (access : Bool) : CarryKeeps (carryInc access) := fun e d h => by
  have hs := carryInc_same access e h
  exact EffectKeeps.of_same (by simp [hs]) (by simp [hs])

theorem carryToken_keeps (access : Bool) : CarryKeeps (carryToken access) := fun e d h => by
  have hs := carryToken_same access e h
  exact EffectKeeps.of_same (by simp [hs]) (by simp [hs])

theorem runColl_keeps (op : Nat) : CarryKeeps (runColl op) := fun e d h => by
  have hs := runColl_same op e h
  exact EffectKeeps.of_same (by simp [hs]) (runColl_mem op e h)

theorem carryMeridian_keeps : CarryKeeps carryMeridian := fun e d h => by
  have hs := carryMeridian_same e h
  exact EffectKeeps.of_same (by simp [hs]) (by simp [hs])

theorem carryHalt_keeps : CarryKeeps carryHalt := fun e d h => by
  have hs := carryHalt_same e h
  exact EffectKeeps.of_same (by simp [hs]) (by simp [hs])

theorem carryLbegin_keeps : CarryKeeps carryLbegin := fun e d h => by
  have hs := carryLbegin_same e h
  exact EffectKeeps.of_same (by simp [hs]) (by simp [hs])

theorem carryLend_keeps : CarryKeeps carryLend := fun e d h => by
  have hs := carryLend_same e h
  exact EffectKeeps.of_same (by simp [hs]) (by simp [hs])

theorem carrySrcid_keeps : CarryKeeps carrySrcid := fun e d h => by
  have hs := carrySrcid_same e h
  exact EffectKeeps.of_same (by simp [hs]) (by simp [hs])

/-! Queue entries, received messages and security requests -/

/-- The operation of a queue entry that starts keeps the power manager and what an effect keeps. -/
def EntryKeeps (run : Started → State → Option State) : Prop :=
  ∀ t u v, run t u = some v → EffectKeeps u v ∧ v.power = u.power

theorem startEntry_keeps {q op : Nat} {run : Started → State → Option State} (s : State) (hr : EntryKeeps run) :
    StepKeeps s (s.close (startEntry q op run s)) := by
  obtain ⟨hp, -, -, hf, hw⟩ := startEntry_same q op run s fun t u v h =>
    have ⟨k, hw⟩ := hr t u v h
    ⟨k.pending, k.ticks, k.coldResets, k.fuse, hw⟩
  exact .close s ⟨hp, hf, fun hm => startEntry_mem q op run s hm fun t u v h => (hr t u v h).1.mem, fun h => by rwa [hw]⟩

theorem EntryKeeps.some {f : Started → State → State} (h : ∀ t u, EffectKeeps u (f t u) ∧ (f t u).power = u.power) :
    EntryKeeps fun t u => some (f t u) := by
  rintro t u v ⟨⟩
  exact h t u

theorem dwtNop_keeps (q : Nat) : EntryKeeps (dwtNop q) := fun t u v h => by
  have hs := dwtNop_same q t u h
  exact EffectKeeps.of_same (by simp [hs]) (dwtNop_mem q t u h)

theorem dwtMove_keeps (q : Nat) : EntryKeeps (dwtMove q) := fun t u v h => by
  have hs := dwtMove_same q t u h
  exact EffectKeeps.of_same (by simp [hs]) (dwtMove_mem q t u h)

theorem pull_keeps (q : Nat) (signer : BitVec 768) : EntryKeeps fun t u => pull q t signer u := fun t u v h => by
  have hs := pull_same q t signer u h
  exact EffectKeeps.of_same (by simp [hs]) (pull_mem q t signer u h)

/-- What a received message does keeps the power manager and what an effect keeps. -/
def MessageKeeps (run : Nat → State → State) : Prop := ∀ cn u, EffectKeeps u (run cn u) ∧ (run cn u).power = u.power

theorem received_keeps {n : PortId} {f : RxFacts} {m : Msg} {typ : Nat} {run : Nat → State → State} (s : State) (hr : MessageKeeps run) :
    StepKeeps s (received n f m typ run s) := by
  obtain ⟨hp, -, -, hf, hw⟩ := received_same n f m typ run s fun cn u =>
    have ⟨k, hw⟩ := hr cn u
    ⟨k.pending, k.ticks, k.coldResets, k.fuse, hw⟩
  exact ⟨hp, hf, fun hm => received_mem n f m typ run s hm fun cn u => (hr cn u).1.mem, fun h => by rwa [hw]⟩

theorem collMessage_keeps (m : Msg) (b : CollMsg) : MessageKeeps fun cn u => collWatch cn u (collArrives cn m b u) := fun cn u =>
  EffectKeeps.of_same (by simp) fun hm => collWatch_mem cn u _ (collArrives_mem cn m b u hm)

/-- What a security request does itself keeps what an effect keeps. -/
def RequestKeeps (own : State → SecOut) : Prop := ∀ u, EffectKeeps u (own u).s

theorem secRequest_keeps {r : SecReq} {inOk : Bool} {outNeed : Nat} {serves : Bool} {own : State → SecOut} (s : State)
    {refused : State → State} (hr : RequestKeeps own) (hn : ∀ u, EffectKeeps u (refused u)) :
    StepKeeps s (secRequest r inOk outNeed serves own s refused) := by
  obtain ⟨hp, -, -, hf⟩ := secRequest_same r inOk outNeed serves own s refused
    (fun u => ⟨(hr u).pending, (hr u).ticks, (hr u).coldResets, (hr u).fuse⟩)
    (fun u => ⟨(hn u).pending, (hn u).ticks, (hn u).coldResets, (hn u).fuse⟩)
  exact ⟨hp, hf, fun hm => secRequest_mem r inOk outNeed serves own s refused hm (fun u => (hr u).mem) (fun u => (hn u).mem),
    fun hw => secRequest_pow r inOk outNeed serves own s refused hw (fun u => (hr u).power) (fun u => (hn u).power)⟩

/-! Every command -/

theorem execHalt_keeps (n : CoreId) (x : StrmId) (ph : Phase) (s : State) :
    ∃ t, exec (.halt n x ph) s = .next t ∧ StepKeeps s t := by
  have h := kwemin_keeps (n := n) (x := x) (ph := ph) (access := true) (want := isHalt) s carryHalt_keeps
  refine ⟨_, rfl, .close _ ?_⟩
  exact ⟨by simp [h.pending], by simp [h.fuse], fun hm => by simp [h.mem hm], fun hp => by simp [h.power hp]⟩

theorem flrPages_keeps (l : List Nat) (s : State) : StepKeeps s (l.foldl flrPage s) :=
  ⟨by simp, by simp, fun hm => Memory.wf_fold _ l s hm flrPage_mem, fun hp => by simp [hp]⟩

theorem exec_keeps (i : Instr) (s : State) : ∃ t, exec i s = .next t ∧ StepKeeps s t := by
  cases i
  case mmLoadw => exact ⟨_, rfl, kwemin_keeps s carryLoadw_keeps⟩
  case mmRun => exact ⟨_, rfl, kwemin_keeps s carryRun_keeps⟩
  case accRead => exact ⟨_, rfl, kwemin_keeps s carryAccRead_keeps⟩
  case accWrite => exact ⟨_, rfl, kwemin_keeps s carryAccWrite_keeps⟩
  case accRscale => exact ⟨_, rfl, kwemin_keeps s carryRscale_keeps⟩
  case accResume => exact ⟨_, rfl, kwemin_keeps s carryResume_keeps⟩
  case vecAlu => exact ⟨_, rfl, kwemin_keeps s carryAlu_keeps⟩
  case vecRed => exact ⟨_, rfl, kwemin_keeps s carryRed_keeps⟩
  case vecOsmx => exact ⟨_, rfl, kwemin_keeps s carryOsmx_keeps⟩
  case vecFill => exact ⟨_, rfl, kwemin_keeps s carryFill_keeps⟩
  case vecDrop => exact ⟨_, rfl, kwemin_keeps s carryVdrop_keeps⟩
  case moveLoad => exact ⟨_, rfl, kwemin_keeps s carryLoad_keeps⟩
  case moveStore => exact ⟨_, rfl, kwemin_keeps s carryStore_keeps⟩
  case moveTload => exact ⟨_, rfl, kwemin_keeps s carryTload_keeps⟩
  case moveGather => exact ⟨_, rfl, kwemin_keeps s carryGather_keeps⟩
  case moveDwtq => exact ⟨_, rfl, kwemin_keeps s carryDwtq_keeps⟩
  case syncWait => exact ⟨_, rfl, kwemin_keeps s (carryWait_keeps _)⟩
  case syncInc => exact ⟨_, rfl, kwemin_keeps s (carryInc_keeps _)⟩
  case syncToken => exact ⟨_, rfl, kwemin_keeps s (carryToken_keeps _)⟩
  case collReduce | collGather | collNorm => exact ⟨_, rfl, kwemin_keeps s (runColl_keeps _)⟩
  case meridian => exact ⟨_, rfl, kwemin_keeps s carryMeridian_keeps⟩
  case halt n x p => exact execHalt_keeps n x p s
  case layerBegin => exact ⟨_, rfl, kwemin_keeps s carryLbegin_keeps⟩
  case layerEnd => exact ⟨_, rfl, kwemin_keeps s carryLend_keeps⟩
  case layerSrcid => exact ⟨_, rfl, kwemin_keeps s carrySrcid_keeps⟩
  case nop => exact ⟨_, rfl, startEntry_keeps s (dwtNop_keeps _)⟩
  case write | read | accum => exact ⟨_, rfl, startEntry_keeps s (dwtMove_keeps _)⟩
  case pull => exact ⟨_, rfl, startEntry_keeps s (pull_keeps _ _)⟩
  case winOpen | winRevoke | connOpen | connClose =>
    exact ⟨_, rfl, startEntry_keeps s (.some fun t u => EffectKeeps.of_same (by simp) fun hm => by simp [hm])⟩
  case rxWrite | rxAccum | rxReadReq | rxReadResp | rxAck | rxNak | rxOpen | rxReset | rxClose | rxBeacon =>
    exact ⟨_, rfl, received_keeps s fun cn u => EffectKeeps.of_same (by simp) fun hm => by simp [hm]⟩
  case getCertChain => exact ⟨_, rfl, secRequest_keeps s (fun u => .refl u) .refl⟩
  case getReport | keyImport | keyErase | pubInstall | opkeyAdd | opkeyRemove | decommission =>
    exact ⟨_, rfl, secRequest_keeps s (fun u => ⟨by simp, by simp, by simp, by simp, fun hm => by simp [hm], fun hp => by simp [hp]⟩) .refl⟩
  case loadImage =>
    exact ⟨_, rfl, secRequest_keeps s (fun u => ⟨by simp, by simp, by simp, by simp, fun hm => by simp [hm], fun hp => by simp [hp]⟩)
      fun u => (EffectKeeps.of_same (by simp) fun hm => by simp [hm]).1⟩
  case collReadyReceived n f m b =>
    obtain ⟨k, src, dest, fp, body⟩ := b
    cases body
    case ready o l => exact ⟨_, rfl, received_keeps s (collMessage_keeps _ _)⟩
    all_goals exact ⟨_, rfl, .refl s⟩
  case collSegmentReceived n f m k src dest fp body =>
    cases body
    case ready o l => exact ⟨_, rfl, .refl s⟩
    all_goals exact ⟨_, rfl, received_keeps s (collMessage_keeps _ _)⟩
  case powerSample =>
    refine ⟨_, rfl, .ite (.refl s) ⟨rfl, rfl, fun hm => by exact hm, fun hp => ?_⟩⟩
    obtain ⟨hfloor, htop, hlow, hhigh, hpaced⟩ := hp
    exact ⟨hfloor, htop, hlow, hhigh, hpaced⟩
  case powerControlTick | powerRaise | powerStagesStart =>
    exact ⟨_, rfl, .ite ⟨by simp, by simp, fun hm => by simp [hm], fun hp => by simp [hp]⟩ (.refl s)⟩
  case coreUnitWatchdog | accessRequestWatchdog | hubEngineWatchdog | tierCommandWatchdog | drainExpiry | dawnEntry |
      replayOutcome | hangQueue | pcieLinkUp =>
    exact ⟨_, rfl, .ite (.close s ⟨by simp, by simp, fun hm => by simp [hm], fun hp => by simp [hp]⟩) (.refl s)⟩
  case pcieLinkDown =>
    exact ⟨_, rfl, .ite (.close s (.ite ⟨by simp, by simp, fun hm => by simp [hm], fun hp => by simp [hp]⟩
      ⟨by simp, by simp, fun hm => by simp [hm], fun hp => by simp [hp]⟩)) (.refl s)⟩
  case vfFlr => exact ⟨_, rfl, .ite (.close s (flrPages_keeps _ s)) (.refl s)⟩
  case pfFlr =>
    have h := flrPages_keeps (s.pages.map Prod.fst) s
    exact ⟨_, rfl, .ite (.close s ⟨h.pending, h.fuse, h.mem, h.power⟩) (.refl s)⟩
  case fabricLinkFail =>
    exact ⟨_, rfl, .close s (.ite ⟨by simp, by simp, fun hm => by simp [hm], fun hp => by simp [hp]⟩
      ⟨by simp, by simp, fun hm => by simp [hm], fun hp => by simp [hp]⟩)⟩
  case firmwareVerified =>
    exact ⟨_, rfl, .ite (.refl s) (.ite ⟨rfl, rfl, id, id⟩ ⟨by simp, by simp, fun hm => by simp [hm], fun hp => by simp [hp]⟩)⟩
  case powerStagesStop | perstNAssert =>
    exact ⟨_, rfl, .ite (.refl s) (.ite ⟨by simp, by simp, fun hm => by simp [hm], fun hp => by simp [hp]⟩ ⟨rfl, rfl, id, id⟩)⟩
  case standbyLost => exact ⟨_, rfl, .ite (.refl s) ⟨by simp, by simp, fun hm => by simp [hm], fun hp => by simp [hp]⟩⟩
  case readyAll => exact ⟨_, rfl, .ite ⟨rfl, rfl, id, id⟩ (.refl s)⟩
  case registerWrite =>
    exact ⟨_, rfl, .close s (.ite ⟨by simp, by simp, fun hm => by simp [hm], fun hp => by simp [hp]⟩ (.ite ⟨by simp, by simp, fun hm => by simp [hm], fun hp => by simp [hp]⟩ (.refl s)))⟩
  case retransmit | selftestDone | spareFillDone =>
    exact ⟨_, rfl, .close s ⟨by simp, by simp, fun hm => by simp [hm], fun hp => by simp [hp]⟩⟩
  case rxHello =>
    refine ⟨_, rfl, ?_⟩
    split
    · exact .ite ⟨by simp, by simp, fun hm =>
    by simp [hm], fun hp => by simp [hp]⟩ (.ite ⟨by simp, by simp, fun hm => by simp [hm], fun hp => by simp [hp]⟩ (.ite ⟨by simp, by simp, fun hm => by simp [hm], fun hp => by simp [hp]⟩
      ⟨by simp, by simp, fun hm => by simp [hm], fun hp => by simp [hp]⟩))
    · exact ⟨by simp, by simp, fun hm => by simp [hm], fun hp => by simp [hp]⟩
  case rawFrameReceived =>
    refine ⟨_, rfl, ?_⟩
    split
    · exact .ite ⟨by simp, by simp, fun hm =>
    by simp [hm], fun hp => by simp [hp]⟩ ⟨by simp, by simp, fun hm => by simp [hm], fun hp => by simp [hp]⟩
    · exact ⟨by simp, by simp, fun hm => by simp [hm], fun hp => by simp [hp]⟩
  case collComplete =>
    refine ⟨_, rfl, .close s ?_⟩
    split
    · exact .refl s
    · exact .ite ⟨by simp, by simp, fun hm => by simp [hm], fun hp => by simp [hp]⟩ (.refl s)
  case hangStream | spareFillStart | dbCplRingWrite | dbCplPtrWrite =>
    refine ⟨_, rfl, ?_⟩
    split
    · exact .close s ⟨by simp, by simp, fun hm => by simp [hm], fun hp => by simp [hp]⟩
    · exact .refl s
  case logNvmCopy =>
    refine ⟨_, rfl, ?_⟩
    split
    · exact ⟨by simp, by simp, fun hm => by simp [hm], fun hp => by simp [hp]⟩
    · exact .refl s
  all_goals exact ⟨_, rfl, ⟨by simp, by simp, fun hm => by simp [hm], fun hp => by simp [hp]⟩⟩

theorem exec_next_keeps {i : Instr} {s t : State} (h : exec i s = .next t) : StepKeeps s t := by
  obtain ⟨u, hu, hk⟩ := exec_keeps i s
  cases hu.symm.trans h
  exact hk

/-- A step is the idle tick or the command at the front of the queue, run with the rest of the queue. -/
theorem step_cases {s t : State} (h : step s = .next t) :
    (s.pending = [] ∧ t = tick s) ∨ ∃ c rest, s.pending = c :: rest ∧ exec c { s with pending := rest } = .next t := by
  unfold step at h
  split at h
  next hq => exact .inl ⟨hq, (Host.Outcome.next.inj h).symm⟩
  next c rest hq => exact .inr ⟨c, rest, hq, h⟩

theorem step_answers (s : State) : ∃ t, step s = .next t := by
  unfold step
  split
  · exact ⟨_, rfl⟩
  · next c rest _ =>
    obtain ⟨t, ht, -⟩ := exec_keeps c { s with pending := rest }
    exact ⟨t, ht⟩

/-- Settles O51: the definition of `step` at a queue that is not empty. -/
theorem stepRunsHead : Obligations.StepRunsHead := by
  intro c rest s h
  rw [step, h]

/-- Settles O53: part of what every command keeps. -/
theorem execKeepsQueueAndFuse : Obligations.ExecKeepsQueueAndFuse :=
  fun _ _ _ h => ⟨(exec_next_keeps h).pending, (exec_next_keeps h).fuse⟩

theorem safeRun_all (n : Nat) (s : State) : SafeRun n s := by
  induction n generalizing s with
  | zero => trivial
  | succ n ih =>
    obtain ⟨t, ht⟩ := step_answers s
    exact ⟨t, ht, ih t⟩

/-- Settles O54: every arm of `exec` answers a next state, so every step does, and a run goes on by induction on its length. -/
theorem everyCommandAnswers : Obligations.EveryCommandAnswers := by
  refine ⟨fun c s => ?_, safeRun_all⟩
  obtain ⟨t, ht, -⟩ := exec_keeps c s
  exact ⟨t, ht⟩

/-- Settles O56: an idle tick keeps the range by `tick_pow`, a command by `exec_keeps`. -/
theorem powerRangeKept : Obligations.PowerRangeKept := by
  intro s t hp h
  obtain ⟨-, rfl⟩ | ⟨c, rest, -, hexec⟩ := step_cases h
  · exact tick_pow s hp
  · exact (exec_next_keeps hexec).power hp

/-- Settles O57: an idle tick keeps the form by `tick_mem`, a command by `exec_keeps`. -/
theorem memoryFormKept : Obligations.MemoryFormKept := by
  intro s t hm h
  obtain ⟨-, rfl⟩ | ⟨c, rest, -, hexec⟩ := step_cases h
  · exact tick_mem s hm
  · exact (exec_next_keeps hexec).mem hm

end Sys2Proof.Machine
end

section
/-! Reset: the tables are empty, so each register reads as the default of the record that holds it. -/

namespace Sys2Proof.Machine

open Sys2Proof

theorem reset_power_ok : PowerOk State.reset.power := by
  unfold PowerOk
  decide

theorem reset_core (n : Nat) : State.reset.core n = {} := rfl
theorem reset_net (n : Nat) : State.reset.net n = {} := rfl
theorem reset_ctx (slot : Nat) : State.reset.ctx slot = {} := rfl
theorem reset_win (w : Nat) : State.reset.win w = {} := rfl
theorem reset_conn (c : Nat) : State.reset.conn c = {} := rfl

theorem reset_coreReg (n : Nat) : State.reset.coreReg n 0x20 = 0 ∧ State.reset.coreReg n 0x28 = 0 := by
  simp only [State.coreReg, reset_core]
  decide

theorem reset_netReg (n : Nat) : State.reset.netReg n 0x00 = 0 ∧ State.reset.netReg n 0x68 = 0 := by
  simp only [State.netReg, reset_net]
  decide

/-- Settles O55: every register at reset reads a field of a default record. -/
theorem resetValues : Obligations.ResetValues := by
  refine ⟨rfl, rfl, rfl, rfl, rfl, rfl, rfl, rfl, rfl, rfl, rfl, rfl, rfl, rfl, rfl, rfl, rfl, rfl, rfl, rfl, rfl, rfl, rfl, ?_⟩
  exact ⟨fun n => reset_coreReg n.val, fun n => reset_netReg n.val, reset_ctx, reset_win, reset_conn, rfl, rfl, reset_power_ok⟩

end Sys2Proof.Machine
end

section
/-! The encoding of Kwemin (R142 to R145): slices of a word and of a chain of fields, the readers on an encoded word, and the word
that the fields read fold back into. -/
namespace Sys2Proof.Machine
open Sys2Proof

theorem ofBool_getLsbD_eq_slice {n : Nat} (w : BitVec n) (i : Nat) : BitVec.ofBool (w.getLsbD i) = w.extractLsb' i 1 := by
  ext j hj
  have : j = 0 := by omega
  subst this
  simp

theorem slice_append_slice {n s l a m : Nat} (w : BitVec n) (h : a = s + m) :
    w.extractLsb' a l ++ w.extractLsb' s m = w.extractLsb' s (l + m) := by
  ext j hj
  subst h
  simp only [BitVec.getElem_append, BitVec.getElem_extractLsb']
  split
  · rfl
  · congr 1; omega

theorem zero_eq_slice {n : Nat} {w mask : BitVec n} (h : w &&& mask = 0#n) {s m : Nat}
    (hm : mask.extractLsb' s m = BitVec.allOnes m) : 0#m = w.extractLsb' s m := by
  have h2 := congrArg (BitVec.extractLsb' s m) h
  rw [BitVec.extractLsb'_and, hm, BitVec.and_allOnes] at h2
  rw [h2]
  ext j hj
  simp

theorem slice_append_zero {n : Nat} {w mask : BitVec n} (h : w &&& mask = 0#n) {a l m : Nat} (ha : m ≤ a)
    (hm : mask.extractLsb' (a - m) m = BitVec.allOnes m) : w.extractLsb' a l ++ 0#m = w.extractLsb' (a - m) (l + m) := by
  rw [zero_eq_slice h hm]
  exact slice_append_slice w (by omega)

theorem zero_append_slice {n : Nat} {w mask : BitVec n} (h : w &&& mask = 0#n) {s l m : Nat}
    (hm : mask.extractLsb' (s + m) l = BitVec.allOnes l) : 0#l ++ w.extractLsb' s m = w.extractLsb' s (l + m) := by
  rw [zero_eq_slice h hm]
  exact slice_append_slice w rfl

/-- The word `w` holds the value `b` in the bits from `p` on. -/
def HoldsAt {n m : Nat} (w : BitVec n) (p : Nat) (b : BitVec m) : Prop := w.extractLsb' p m = b

theorem holdsAt_append {n l m p : Nat} {w : BitVec n} {a : BitVec l} {b : BitVec m} :
    HoldsAt w p (a ++ b) ↔ HoldsAt w (p + m) a ∧ HoldsAt w p b := by
  unfold HoldsAt
  rw [← slice_append_slice w rfl]
  constructor
  · intro h
    have hl := congrArg (BitVec.extractLsb' m l) h
    have hm := congrArg (BitVec.extractLsb' 0 m) h
    rw [BitVec.extractLsb'_append_eq_of_le (Nat.le_refl _), BitVec.extractLsb'_append_eq_of_le (Nat.le_refl _)] at hl
    rw [BitVec.extractLsb'_append_eq_of_add_le (by omega), BitVec.extractLsb'_append_eq_of_add_le (by omega)] at hm
    simp only [Nat.sub_self] at hl hm
    rw [BitVec.extractLsb'_eq_self, BitVec.extractLsb'_eq_self] at hl hm
    exact ⟨hl, hm⟩
  · rintro ⟨rfl, rfl⟩
    rfl

theorem holdsAt_ofBool {n i : Nat} {w : BitVec n} {b : Bool} : HoldsAt w i (BitVec.ofBool b) ↔ w.getLsbD i = b := by
  unfold HoldsAt
  rw [← ofBool_getLsbD_eq_slice]
  cases b <;> cases w.getLsbD i <;> decide



theorem append_and_slice {n l m s : Nat} {a : BitVec l} {b : BitVec m} {k : BitVec n} (ha : a &&& k.extractLsb' (s + m) l = 0#l)
    (hb : b &&& k.extractLsb' s m = 0#m) : (a ++ b) &&& k.extractLsb' s (l + m) = 0#(l + m) := by
  rw [← slice_append_slice k rfl, BitVec.and_append, ha, hb]
  exact BitVec.zero_append_zero 

theorem bits_and_reservedMask (t : KwTail) (o : KwOp) : o.bits t &&& o.reservedMask.extractLsb' 24 104 = 0#104 := by
  cases o
  all_goals simp only [KwOp.bits, KwOp.reservedMask, BitVec.zero_and]
  all_goals repeat' refine append_and_slice ?_ ?_
  all_goals simp only [Nat.reduceAdd, BitVec.reduceExtractLsb', BitVec.and_zero, BitVec.zero_and]

theorem holdsAt_self {n : Nat} (w : BitVec n) : HoldsAt w 0 w := BitVec.extractLsb'_eq_self

theorem read_of_holdsAt {o : KwOp} {t : KwTail} {w : BitVec 128} (hw : HoldsAt w 24 (o.bits t)) (hc : HoldsAt w 8 o.code.1)
    (ho : HoldsAt w 0 o.code.2) (h2 : o.tailKind = 2 ∨ t.dctr = 0#16 ∧ t.en = false)
    (h1 : 1 ≤ o.tailKind ∨ t.push = false ∧ t.pop = false) : KwOp.read w = some o ∧ KwTail.read o.tailKind w = t := by
  obtain ⟨dctr, en, push, pop⟩ := t
  unfold HoldsAt at hc ho
  cases o
  all_goals simp only [KwOp.code] at hc ho
  all_goals simp only [KwOp.tailKind, OfNat.zero_ne_ofNat, OfNat.one_ne_ofNat, Nat.reduceLeDiff, false_or, true_or] at h2 h1
  all_goals simp only [KwOp.read, hc, ho, BitVec.toNat_ofNat, Nat.reducePow, Nat.reduceMod, KwOp.tailKind,
      KwTail.read, OfNat.ofNat_ne_zero, OfNat.ofNat_ne_one, one_ne_zero, ↓reduceIte]
  case endl | meridian | halt | lend => simp only [h1, h2, and_self]
  all_goals unfold KwOp.bits at hw
  all_goals change HoldsAt (m := _ + _) w 24 (_ ++ _) at hw
  all_goals simp only [holdsAt_append, holdsAt_ofBool] at hw
  all_goals simp only [HoldsAt, Nat.reduceAdd] at hw
  all_goals simp only [LoadwF.read, RunF.read, AccReadF.read, AccWriteF.read,
      RscaleF.read, ResumeF.read, AluF.read, RedF.read, OsmxF.read, FillF.read, VdropF.read, MvF.read, TloadF.read, GatherF.read,
      DwtqF.read, WaitF.read, IncF.read, TokenF.read, CollF.read, LoopF.read, JmpF.read, BrcF.read, XregF.read, SclrF.read,
      LayerF.read, hw, h2, h1, and_self]

theorem read_code {w : BitVec 128} {o : KwOp} (ho : KwOp.read w = some o) : o.code = (w.extractLsb' 8 4, w.extractLsb' 0 8) := by
  unfold KwOp.read at ho
  split at ho
  all_goals cases ho
  all_goals next hc hp => exact Prod.ext (BitVec.eq_of_toNat_eq hc.symm) (BitVec.eq_of_toNat_eq hp.symm)

theorem bits_read {w : BitVec 128} {o : KwOp} (ho : KwOp.read w = some o) (hm : w &&& o.reservedMask = 0#128) :
    o.bits (KwTail.read o.tailKind w) = w.extractLsb' 24 104 := by
  unfold KwOp.read at ho
  split at ho
  all_goals cases ho
  all_goals simp only [KwOp.reservedMask] at hm
  all_goals simp only [KwOp.bits, KwOp.tailKind, KwTail.read, LoadwF.read, RunF.read, AccReadF.read, AccWriteF.read,
      RscaleF.read, ResumeF.read, AluF.read, RedF.read, OsmxF.read, FillF.read, VdropF.read, MvF.read, TloadF.read, GatherF.read,
      DwtqF.read, WaitF.read, IncF.read, TokenF.read, CollF.read, LoopF.read, JmpF.read, BrcF.read, XregF.read, SclrF.read,
      LayerF.read, ofBool_getLsbD_eq_slice, OfNat.ofNat_ne_zero, OfNat.ofNat_ne_one, one_ne_zero, ↓reduceIte]
  all_goals simp (disch := decide) only [zero_eq_slice (s := 24) (m := 104) hm, slice_append_slice, slice_append_zero hm, zero_append_slice hm]

theorem reservedMask_low (o : KwOp) : o.reservedMask.extractLsb' 0 18 = 0#18 := by
  apply BitVec.eq_of_toNat_eq
  cases o <;> simp only [KwOp.reservedMask, BitVec.extractLsb'_toNat, BitVec.toNat_ofNat, Nat.shiftRight_zero, Nat.reduceMod, Nat.reducePow]

theorem reservedMask_gap (o : KwOp) : o.reservedMask.extractLsb' 18 6 = BitVec.allOnes 6 := by
  cases o <;> simp only [KwOp.reservedMask] <;> decide

theorem reservedMask_below (o : KwOp) {s m : Nat} (h : s + m ≤ 18) : o.reservedMask.extractLsb' s m = 0#m := by
  have hs : o.reservedMask.extractLsb' s m = (o.reservedMask.extractLsb' 0 18).extractLsb' s m := by
    ext i hi
    simp only [BitVec.getElem_extractLsb', BitVec.getLsbD_extractLsb']
    have : s + i < 18 := by omega
    simp [this]
  rw [hs, reservedMask_low]
  ext i hi
  simp

theorem code_class_lt (o : KwOp) : o.code.1.toNat < 8 := by
  cases o <;> simp [KwOp.code]

theorem tailKind_le (o : KwOp) : o.tailKind ≤ 2 := by
  cases o <;> simp [KwOp.tailKind]

/-- The fields of R142 stand in the word where the layout puts them. -/
theorem encode_holdsAt (k : Kw) : HoldsAt k.encode 24 (k.op.bits k.tail) ∧ k.encode.getLsbD 17 = k.stats ∧ k.encode.getLsbD 16 = k.dfr
    ∧ HoldsAt k.encode 12 k.tag ∧ HoldsAt k.encode 8 k.op.code.1 ∧ HoldsAt k.encode 0 k.op.code.2 := by
  have h := holdsAt_self k.encode
  conv at h => arg 3; unfold Kw.encode
  change HoldsAt (m := _ + _) k.encode 0 (_ ++ _) at h
  simp only [holdsAt_append, holdsAt_ofBool, Nat.zero_add] at h
  simp only [Nat.reduceAdd] at h
  obtain ⟨⟨⟨⟨⟨⟨hb, -⟩, hs⟩, hd⟩, ht⟩, hc⟩, hp⟩ := h
  exact ⟨hb, hs, hd, ht, hc, hp⟩

theorem encode_and_reservedMask (k : Kw) : k.encode &&& k.op.reservedMask = 0#128 := by
  have h : k.encode &&& k.op.reservedMask.extractLsb' 0 128 = 0#128 := by
    unfold Kw.encode
    have below {l s : Nat} (a : BitVec l) (hs : s + l ≤ 18) : a &&& k.op.reservedMask.extractLsb' s l = 0#l := by
      rw [reservedMask_below _ hs, BitVec.and_zero]
    refine append_and_slice (append_and_slice (append_and_slice (append_and_slice (append_and_slice
      (append_and_slice (bits_and_reservedMask _ _) (BitVec.zero_and)) ?_) ?_) ?_) ?_) ?_
    all_goals exact below _ (by decide)
  rwa [BitVec.extractLsb'_eq_self] at h

theorem wf_iff (x : StrmId) (k : Kw) : k.wf x = true ↔ (k.tag.toNat = strmTag x ∧ (k.dfr = true → deferLegal x k.op = true)
    ∧ k.op.badSide k.tail = false ∧ k.op.badEnum = false ∧ (k.tail.en = true ∨ k.tail.dctr = 0#16) ∧ k.op.badRange = false)
    ∧ (k.op.tailKind = 2 ∨ k.tail.dctr = 0#16 ∧ k.tail.en = false)
    ∧ (1 ≤ k.op.tailKind ∨ k.tail.push = false ∧ k.tail.pop = false) := by
  unfold Kw.wf
  cases k.dfr <;> simp [and_assoc]

theorem decodeKw_ok_iff (x : StrmId) (w : BitVec 128) (k : Kw) : decodeKw x w = .ok k ↔
    ¬ 8 ≤ (w.extractLsb' 8 4).toNat ∧ ∃ o, KwOp.read w = some o ∧ k = Kw.read o w ∧ k.tag.toNat = strmTag x
      ∧ (k.dfr = true → deferLegal x o = true) ∧ o.badSide k.tail = false ∧ k.reserved w = false ∧ o.badRange = false := by
  unfold decodeKw
  by_cases h8 : 8 ≤ (w.extractLsb' 8 4).toNat
  · simp only [h8, if_true, not_true_eq_false, false_and, reduceCtorEq]
  simp only [h8, if_false, not_false_eq_true, true_and]
  cases ho : KwOp.read w with
  | none => simp only [reduceCtorEq, false_and, exists_false]
  | some o =>
    simp only [Option.some.injEq, exists_eq_left']
    constructor
    · intro h
      split at h
      · cases h
      next htag =>
        split at h
        · cases h
        next hdfr =>
          split at h
          · cases h
          next hside =>
            split at h
            · cases h
            next hres =>
              split at h
              · cases h
              next hrange =>
                cases h
                simp only [Bool.and_eq_true, Bool.not_eq_true', not_and, Bool.not_eq_false, Bool.not_eq_true, not_not] at htag hdfr hside hres hrange
                exact ⟨rfl, htag, hdfr, hside, hres, hrange⟩
    · rintro ⟨rfl, htag, hdfr, hside, hres, hrange⟩
      cases hd : (Kw.read o w).dfr <;> simp_all

theorem reserved_eq_false_iff (k : Kw) (w : BitVec 128) : k.reserved w = false ↔
    w &&& k.op.reservedMask = 0#128 ∧ k.op.badEnum = false ∧ (k.tail.en = true ∨ k.tail.dctr = 0#16) := by
  unfold Kw.reserved
  cases k.tail.en <;> simp [and_assoc]

theorem encode_read {w : BitVec 128} {o : KwOp} (ho : KwOp.read w = some o) (hm : w &&& o.reservedMask = 0#128) : (Kw.read o w).encode = w := by
  unfold Kw.encode Kw.read
  have hz : 0#6 = w.extractLsb' 18 6 := zero_eq_slice hm (reservedMask_gap o)
  simp only [bits_read ho hm, read_code ho, ofBool_getLsbD_eq_slice, hz]
  simp (disch := decide) only [slice_append_slice]
  exact BitVec.extractLsb'_eq_self

theorem tailKind_read (k : Nat) (hk : k ≤ 2) (w : BitVec 128) : (k = 2 ∨ (KwTail.read k w).dctr = 0#16 ∧ (KwTail.read k w).en = false)
    ∧ (1 ≤ k ∨ (KwTail.read k w).push = false ∧ (KwTail.read k w).pop = false) := by
  unfold KwTail.read
  split
  · simp
  · split
    · simp; omega
    · omega

theorem decodeKw_encode {x : StrmId} {k : Kw} (h : k.wf x = true) : decodeKw x k.encode = .ok k := by
  obtain ⟨⟨htag, hdfr, hside, henum, hen, hrange⟩, h2, h1⟩ := (wf_iff x k).1 h
  obtain ⟨hb, hs, hd, ht, hc, hp⟩ := encode_holdsAt k
  obtain ⟨ho, htail⟩ := read_of_holdsAt hb hc hp h2 h1
  have hk : k = Kw.read k.op k.encode := by
    unfold Kw.read
    rw [hs, hd, show k.encode.extractLsb' 12 4 = k.tag from ht, htail]
  refine (decodeKw_ok_iff x _ k).2 ⟨?_, k.op, ho, hk, htag, hdfr, hside,
    (reserved_eq_false_iff _ _).2 ⟨encode_and_reservedMask k, henum, hen⟩, hrange⟩
  rw [show k.encode.extractLsb' 8 4 = k.op.code.1 from hc]
  exact Nat.not_le.2 (code_class_lt k.op)

theorem encode_of_decodeKw {x : StrmId} {w : BitVec 128} {k : Kw} (h : decodeKw x w = .ok k) : k.wf x = true ∧ k.encode = w := by
  obtain ⟨-, o, ho, rfl, htag, hdfr, hside, hres, hrange⟩ := (decodeKw_ok_iff x w k).1 h
  obtain ⟨hm, henum, hen⟩ := (reserved_eq_false_iff _ _).1 hres
  obtain ⟨h2, h1⟩ := tailKind_read o.tailKind (tailKind_le o) w
  exact ⟨(wf_iff _ _).2 ⟨⟨htag, hdfr, hside, henum, hen, hrange⟩, h2, h1⟩, encode_read ho hm⟩

/-- Settles O58: the fields of an encoded word stand where the readers take them from, and the fields read, with the reserved bits at zero,
fold back into the word. -/
theorem kweminRoundTrip : Obligations.KweminRoundTrip :=
  ⟨fun _ _ => decodeKw_encode, fun _ _ _ => encode_of_decodeKw⟩

end Sys2Proof.Machine
end

section
/-! What an issue leaves, whether its instruction goes in flight or has a zero count and completes at once. -/

namespace Sys2Proof

open Sys2Proof.Machine

namespace Machine

theorem raiseCtr_counters (s : State) (k n : Nat) : (s.raiseCtr k n).counters =
    match s.ctrOwner k with
    | none => s.counters
    | some _ => Tbl.write 0 s.counters k (satAdd Config.counterMax (s.counter k) n) := by
  unfold State.raiseCtr
  cases s.ctrOwner k with
  | none => simp
  | some slot =>
    dsimp only
    split <;> simp

/-- What a raise does to the counters rests on the contexts and the counters alone. -/
theorem raiseCtr_counters_congr {s t : State} (hx : s.ctxs = t.ctxs) (hc : s.counters = t.counters) (k n : Nat) :
    (s.raiseCtr k n).counters = (t.raiseCtr k n).counters := by
  rw [raiseCtr_counters, raiseCtr_counters]
  unfold State.ctrOwner State.counter
  rw [hx, hc]

theorem raiseCtr_core (s : State) (k n m : Nat) : (s.raiseCtr k n).core m = s.core m := by
  simp [State.core]

theorem signal_counters (s : State) (n : Nat) (x : StrmId) (slot : Nat) (inBr : Bool) (k amount : Nat) :
    (signal s n x slot inBr k amount).counters = if inBr = true ∨ (s.ctx slot).ctrFrozen slot k = true then s.counters
      else (s.raiseCtr ((s.ctx slot).desc.ctrBase + k) amount).counters := by
  unfold signal
  cases inBr with
  | true =>
    simp only [if_true, true_or]
    cases ((s.core n).live.strm x).bracket with
    | none => rfl
    | some b => simp
  | false =>
    simp only [Bool.false_eq_true, if_false, false_or]
    split <;> rfl

theorem setStream_live (s : State) (n : Nat) (x : StrmId) (t : Stream) :
    ((s.setStream n x t).core n).live = (s.core n).live.setStrm x t := by
  rw [State.setStream_core_self]

/-- A signal changes of its core at most the held amounts of its stream's bracket. -/
theorem signal_live (s : State) (n : Nat) (x : StrmId) (slot : Nat) (inBr : Bool) (k amount : Nat) :
    ∃ u : Stream, ((signal s n x slot inBr k amount).core n).live = (s.core n).live.setStrm x u
      ∧ u.flights = ((s.core n).live.strm x).flights ∧ u.spills = ((s.core n).live.strm x).spills := by
  have self : (s.core n).live = (s.core n).live.setStrm x ((s.core n).live.strm x) := by cases x <;> rfl
  unfold signal
  split
  · dsimp only
    split
    · exact ⟨_, setStream_live _ _ _ _, rfl, rfl⟩
    · exact ⟨_, self, rfl, rfl⟩
  · split
    · exact ⟨_, self, rfl, rfl⟩
    · rw [raiseCtr_core]
      exact ⟨_, self, rfl, rfl⟩

/-- The flights of a stream but for one, as its completion leaves them. -/
def Stream.without (t : Stream) (f : Flight) : List Flight :=
  t.flights.filter fun g => decide (g.idx ≠ f.idx) || decide (g.onA ≠ f.onA)

theorem completeFlight_live (s : State) (n : Nat) (x : StrmId) (slot : Nat) (f : Flight) :
    ∃ u : Stream, ((completeFlight s n x slot f).core n).live = (s.core n).live.setStrm x u
      ∧ u.flights = ((s.core n).live.strm x).without f ∧ u.spills = ((s.core n).live.strm x).spills := by
  unfold completeFlight
  dsimp only
  split
  · next k hk =>
    obtain ⟨u, h1, h2, h3⟩ := signal_live (s.setStream n x { (s.core n).live.strm x with
      flights := ((s.core n).live.strm x).without f
      hand := if f.pushQ then ((s.core n).live.strm x).hand.fill f.idx else ((s.core n).live.strm x).hand }) n x slot f.inBr k 1
    rw [State.setStream_core_self] at h1 h2 h3
    simp only [CoreCtx.setStrm_setStrm, CoreCtx.strm_setStrm_self] at h1 h2 h3
    exact ⟨u, h1, h2, h3⟩
  · exact ⟨_, setStream_live _ _ _ _, rfl, rfl⟩

theorem completeFlight_counters (s : State) (n : Nat) (x : StrmId) (slot : Nat) (f : Flight) :
    (completeFlight s n x slot f).counters =
      match f.dctr with
      | some k => if f.inBr = true ∨ (s.ctx slot).ctrFrozen slot k = true then s.counters
          else (s.raiseCtr ((s.ctx slot).desc.ctrBase + k) 1).counters
      | none => s.counters := by
  unfold completeFlight
  dsimp only
  cases f.dctr with
  | none => simp
  | some k =>
    dsimp only
    rw [signal_counters]
    have hx : ∀ t, ((s.setStream n x t).ctx slot) = s.ctx slot := fun t => by simp [State.ctx]
    rw [hx]
    split
    · simp
    · exact raiseCtr_counters_congr (by simp) (by simp) _ _

/-- An issue with a zero count is a plain one whose flight completes at once (R82). -/
theorem finish_fin (e : Env) (access : Bool) (d : Done) (h : goesOn e d.num) (hf : d.fault = none) (h1 : d.fin = true)
    (h2 : d.inc = none) (h3 : d.wait = none) :
    finish e access d = completeFlight (finish e access { d with fin := false }) e.n e.x e.slot d.fl := by
  obtain ⟨g1, g2, g3⟩ := h
  have hn : (if e.p.inBr then (match d.num.classOvf with | some c => novaFor e.ctx e c | none => none) else none) = none := by
    split
    · next hb =>
      cases hc : d.num.classOvf with
      | none => rfl
      | some c => exact g3 hb c hc
    · rfl
  unfold finish
  dsimp only
  simp only [hf, Option.isSome_none, Bool.false_eq_true, if_false, g1, g2, h1, h2, h3, if_true]
  split
  · next v hv => exact nomatch (hn.symm.trans hv)
  · rfl

end Machine

/-- The flight is the instruction's, whatever it says of what was written. -/
def Flies (e : Env) (access : Bool) (fl : Flight) : Prop :=
  fl.idx = e.p.idx ∧ fl.onA = access ∧ fl.inBr = e.p.inBr
    ∧ fl.dctr = if e.p.kw.tail.en then some e.p.kw.tail.dctr.toNat else none

/-- What is asked of an instruction's work so that its issue leaves its results: no fault of its own, no increment and no wait. -/
structure Plain (e : Env) (access : Bool) (d : Done) : Prop where
  goes : goesOn e d.num
  faultless : d.fault = none
  noInc : d.inc = none
  noWait : d.wait = none
  flies : Flies e access d.fl

/-- What the next state holds after an issue, of an instruction in flight or of one that completes at once. -/
theorem Issues.leaves {s : State} {n : CoreId} {x : StrmId} {dfr access : Bool} {o : KwOp} {e : Env}
    (h : Issues s n.val x dfr access o e) {want : KwOp → Bool} {run : Env → Except FaultCode Done} {d : Done}
    (hr : run e = .ok d) (hw : want o = true) (hp : Plain e access d) (hc : d.s.counters = s.counters)
    (hx : d.fin = true → d.s.ctxs = s.ctxs) :
    ∃ t, kwemin n x (phaseOf dfr) access want run s = t ∧ issued e access d.fin s t ∧ dataKept d.s t ∧ t.ctxs = d.s.ctxs
      ∧ (coreOf t n).acc = d.l.acc ∧ (coreOf t n).spill = d.l.spill ∧ (coreOf t n).os = d.l.os
      ∧ (coreOf t n).vregs = d.l.vregs ∧ (coreOf t n).tiles = d.l.tiles
      ∧ ((coreOf t n).strm x).spills = (d.l.strm x).spills := by
  obtain ⟨hg, hf, h2, h3, hidx, honA, hinBr, hdctr⟩ := hp
  cases hfin : d.fin with
  | false =>
    obtain ⟨t, ht, hfly, hkept, hctx, hrest⟩ := h.plain hr hw hg hf hfin h2 h3 hidx honA
    refine ⟨t, ht, ?_, hkept.2, hctx, hrest⟩
    simp only [issued, Bool.false_eq_true, if_false]
    exact ⟨hfly, hkept.1.trans hc⟩
  | true =>
    obtain ⟨e1, e2, -, -, ectx, -⟩ := h.sees
    subst e2
    let d0 : Done := { noted d e with fin := false }
    have hplain := finish_plain e access d0 hg hf rfl h2 h3
    obtain ⟨k1, k2, k3, k4⟩ := hplain
    have hfinish : finish e access (noted d e) = completeFlight (finish e access d0) e.n e.x e.slot d.fl :=
      finish_fin e access (noted d e) hg hf hfin h2 h3
    obtain ⟨u, hu, huf, hus⟩ := completeFlight_live (finish e access d0) e.n e.x e.slot d.fl
    have hcore : coreOf (s.settle (finish e access (noted d e))) n = d.l.setStrm e.x u := by
      unfold coreOf
      rw [State.settle_core, hfinish, ← e1, hu, k1, CoreCtx.setStrm_setStrm]
      rfl
    rw [k1] at huf hus
    simp only [CoreCtx.strm_setStrm_self] at huf hus
    obtain ⟨m1, m2⟩ := noted_kept d e
    have hctxs : (finish e access d0).ctxs = s.ctxs := k2.trans (m2.trans (hx hfin))
    have hctrs : (finish e access d0).counters = s.counters := k4.trans (m1.1.trans hc)
    have keep := CoreCtx.setStrm_keeps d.l e.x u
    obtain ⟨keep1, keep2, keep3, keep4, keep5⟩ := keep
    refine ⟨_, h.next hw hr, ?_, ?_, ?_, ?_, ?_, ?_, ?_, ?_, ?_⟩
    · simp only [issued, if_true]
      constructor
      · intro f hfm
        rw [show ((s.settle (finish e access (noted d e))).core e.n).live = d.l.setStrm e.x u from e1 ▸ hcore] at hfm
        rw [CoreCtx.strm_setStrm_self, huf] at hfm
        simp only [Stream.without, List.mem_filter, Bool.or_eq_true, decide_eq_true_eq, hidx, honA] at hfm
        exact hfm.2
      · rw [show (s.settle (finish e access (noted d e))).counters = (finish e access (noted d e)).counters by simp, hfinish,
          completeFlight_counters, hdctr, hinBr,
          show (finish e access d0).ctx e.slot = e.ctx by rw [ectx]; unfold State.ctx; rw [hctxs]]
        cases hen : e.p.kw.tail.en with
        | false => simpa using hctrs
        | true =>
          simp only [if_true, true_and]
          cases hb : e.p.inBr with
          | true => simpa using hctrs
          | false =>
            cases hfz : e.ctx.ctrFrozen e.slot e.p.kw.tail.dctr.toNat with
            | true => simpa using hctrs
            | false => simpa using raiseCtr_counters_congr hctxs hctrs _ _
    · rw [hfinish]
      obtain ⟨-, m3⟩ := m1
      unfold dataKept at m3 ⊢
      simp only [State.settle_same, completeFlight_same, k3, finish_same]
      exact m3
    · rw [hfinish]
      simp [k2, m2, d0]
    · rw [hcore]; exact keep1
    · rw [hcore]; exact keep2
    · rw [hcore]; exact keep3
    · rw [hcore]; exact keep4
    · rw [hcore]; exact keep5
    · rw [hcore, CoreCtx.strm_setStrm_self]
      exact hus

end Sys2Proof
end

section
/-! MM.LOADW, MM.RUN and the spill. -/

namespace Sys2Proof

open Sys2Proof.Machine

namespace Machine

@[simp] theorem ok_bind {ε α β : Type} (a : α) (f : α → Except ε β) : (Except.ok a >>= f) = f a := rfl

/-- A check that passes leaves the rest of the instruction to be carried out. -/
theorem ok_then {ε α β : Type} {x : Except ε α} {a : α} {f : α → Except ε β} {r : Except ε β} (h : x = .ok a) (k : f a = r) :
    (x >>= f) = r := by
  rw [h]
  exact k

theorem if_ok_then {ε β : Type} {p : Prop} [Decidable p] {x : Except ε PUnit} {f : PUnit → Except ε β} {r : Except ε β}
    (h : p → x = .ok ()) (k : f () = r) : (if p then x >>= f else f ()) = r := by
  split
  · next hp => exact ok_then (h hp) k
  · exact k

theorem failIf_ok {b : Bool} {f : FaultCode} (h : b = false) : failIf b f = .ok () := by rw [h]; rfl

@[simp] theorem failIf_false (f : FaultCode) : failIf false f = .ok () := rfl

theorem failIf_of_not {p : Prop} [Decidable p] (f : FaultCode) (h : ¬p) : failIf (decide p) f = .ok () := by simp [failIf, h]

@[simp] theorem CoreCtx.accWrote_keeps (l : CoreCtx) (k m n : Nat) : (l.accWrote k m n).acc = l.acc ∧ (l.accWrote k m n).spill = l.spill
    ∧ (l.accWrote k m n).tiles = l.tiles ∧ (l.accWrote k m n).os = l.os ∧ (l.accWrote k m n).vregs = l.vregs
    ∧ ∀ x, (l.accWrote k m n).strm x = l.strm x :=
  ⟨rfl, rfl, rfl, rfl, rfl, fun x => by cases x <;> rfl⟩

@[simp] theorem CoreCtx.setTile_keeps (l : CoreCtx) (x : StrmId) (b : Nat) (t : Option Tile) : (l.setTile x b t).acc = l.acc
    ∧ (l.setTile x b t).spill = l.spill ∧ (l.setTile x b t).os = l.os ∧ (l.setTile x b t).vregs = l.vregs
    ∧ ∀ y, (l.setTile x b t).strm y = l.strm y :=
  ⟨rfl, rfl, rfl, rfl, fun y => by cases y <;> rfl⟩

@[simp] theorem CoreCtx.setSlot_keeps (l : CoreCtx) (k : Nat) (a : AccSlot) : (l.setSlot k a).acc = Tbl.put l.acc k a
    ∧ (l.setSlot k a).spill = l.spill ∧ (l.setSlot k a).tiles = l.tiles ∧ (l.setSlot k a).os = l.os
    ∧ (l.setSlot k a).vregs = l.vregs ∧ ∀ y, (l.setSlot k a).strm y = l.strm y :=
  ⟨rfl, rfl, rfl, rfl, rfl, fun y => by cases y <;> rfl⟩

@[simp] theorem CoreCtx.setSpill_keeps (l : CoreCtx) (k : Nat) (a : SpillSlot) : (l.setSpill k a).spill = Tbl.put l.spill k a
    ∧ (l.setSpill k a).acc = l.acc ∧ (l.setSpill k a).tiles = l.tiles ∧ (l.setSpill k a).os = l.os
    ∧ (l.setSpill k a).vregs = l.vregs ∧ ∀ y, (l.setSpill k a).strm y = l.strm y :=
  ⟨rfl, rfl, rfl, rfl, rfl, fun y => by cases y <;> rfl⟩

@[simp] theorem CoreCtx.tile_setTile_self (l : CoreCtx) (x : StrmId) (b : Nat) (t : Option Tile) : (l.setTile x b t).tile x b = t :=
  Tbl.get_put_same _ _ _ _

theorem CoreCtx.tile_setTile_ne (l : CoreCtx) (x : StrmId) {b c : Nat} (t : Option Tile) (h : c ≠ b) :
    (l.setTile x b t).tile x c = l.tile x c :=
  Tbl.get_put_other _ _ _ (by omega)

end Machine

theorem Issues.live {s : State} {n : CoreId} {x : StrmId} {dfr access : Bool} {o : KwOp} {e : Env}
    (h : Issues s n.val x dfr access o e) : e.live = coreOf s n ∧ e.x = x ∧ e.p.kw.op = o := by
  obtain ⟨-, h2, h3, h4, -⟩ := h.sees
  exact ⟨h4, h2, h3⟩

theorem Issues.same {s : State} {n : CoreId} {x : StrmId} {dfr access : Bool} {o : KwOp} {e : Env}
    (h : Issues s n.val x dfr access o e) : dataKept s e.s ∧ e.s.counters = s.counters ∧ e.s.ctxs = s.ctxs := by
  obtain ⟨-, -, -, -, -, -, -, -, hx, -⟩ := h.sees
  exact ⟨h.kept.2, h.kept.1, hx⟩

theorem dataKept.trans {s t u : State} (h : dataKept s t) (k : dataKept t u) : dataKept s u := by
  obtain ⟨h1, h2, h3, h4, h5, h6, h7⟩ := h
  obtain ⟨k1, k2, k3, k4, k5, k6, k7⟩ := k
  exact ⟨k1.trans h1, k2.trans h2, k3.trans h3, k4.trans h4, k5.trans h5, k6.trans h6, k7.trans h7⟩

theorem goesOn_none (e : Env) : goesOn e {} := ⟨rfl, rfl, fun _ _ h => nomatch h⟩

theorem flies_flight (e : Env) (access : Bool) : Flies e access (e.flight access) :=
  ⟨rfl, rfl, rfl, rfl⟩

/-- The tile buffers after MM.LOADW. -/
def loadTile (l : CoreCtx) (x : StrmId) (tb : Bool) (t : Tile) : CoreCtx :=
  if t.eff.fmt = .fp32 then (l.setTile x 0 (some t)).setTile x 1 (some t)
  else (if ((l.tile x (1 - b2n tb)).map fun u => decide (u.eff.fmt = .fp32)).getD false
    then l.setTile x (1 - b2n tb) none else l).setTile x (b2n tb) (some t)

theorem loadTile_tile (l : CoreCtx) (x : StrmId) (tb : Bool) (t : Tile) : (loadTile l x tb t).tile x (b2n tb) = some t
    ∧ (t.eff.fmt = .fp32 → (loadTile l x tb t).tile x 0 = some t ∧ (loadTile l x tb t).tile x 1 = some t) := by
  unfold loadTile
  split
  · have h0 : ((l.setTile x 0 (some t)).setTile x 1 (some t)).tile x 0 = some t := by
      rw [CoreCtx.tile_setTile_ne _ _ _ (by decide), CoreCtx.tile_setTile_self]
    have h1 : ((l.setTile x 0 (some t)).setTile x 1 (some t)).tile x 1 = some t := CoreCtx.tile_setTile_self _ _ _ _
    refine ⟨?_, fun _ => ⟨h0, h1⟩⟩
    cases tb
    · exact h0
    · exact h1
  · next h => exact ⟨CoreCtx.tile_setTile_self _ _ _ _, fun hf => absurd hf h⟩

theorem loadTile_keeps (l : CoreCtx) (x : StrmId) (tb : Bool) (t : Tile) : (loadTile l x tb t).acc = l.acc
    ∧ (loadTile l x tb t).spill = l.spill ∧ (loadTile l x tb t).os = l.os ∧ (loadTile l x tb t).vregs = l.vregs := by
  unfold loadTile
  split
  · simp
  · split <;> simp

theorem runLoadw_ok {f : LoadwF} {e : Env} {kp : Nat} {rows : List RowCodes} (hctr : e.chkCtr = .ok ())
    (hcls : e.chkClass f.cls.toNat = .ok ()) (hkp : (e.eff f.cls.toNat f.lsrc).fmt.kp = some kp) (hkl : f.kl.toNat ≤ kp)
    (hbr : e.chkBracket false = .ok ())
    (hos : e.chkOs (osAddr e.p.x1 f.off.toNat) (f.stride.toNat * 64) (if f.kl = 0#11 then 0 else f.nl.toNat)
      ((e.eff f.cls.toNat f.lsrc).rowBytes f.kl.toNat) = .ok ())
    (hrows : e.readRows (e.eff f.cls.toNat f.lsrc) (osAddr e.p.x1 f.off.toNat) (f.stride.toNat * 64)
      (if f.kl = 0#11 then 0 else f.nl.toNat) f.kl.toNat = .ok rows) :
    runLoadw f e = .ok { s := e.s, fl := e.flight false, fin := e.zero
                         l := loadTile e.live e.x f.tb { eff := e.eff f.cls.toNat f.lsrc, kl := f.kl.toNat, nl := f.nl.toNat, cols := rows } } := by
  unfold runLoadw
  have hlt : failIf (decide (kp < f.kl.toNat)) .insnRange = .ok () := failIf_of_not _ (by omega)
  simp only [hctr, hcls, hkp, hbr, hos, hrows, hlt, ok_bind]
  rfl

theorem carryLoadw_eq {e : Env} {f : LoadwF} (h : e.p.kw.op = .loadw f) : carryLoadw e = runLoadw f e := by
  unfold carryLoadw
  rw [h]

theorem carryRun_eq {e : Env} {f : RunF} (h : e.p.kw.op = .run f) : carryRun e = runRun f e := by
  unfold carryRun
  rw [h]

/-- The stream owes a spill, where the run calls for one. -/
def owe (l : CoreCtx) (x : StrmId) (b : Bool) (d : SpillDue) : CoreCtx :=
  if b then l.setStrm x { l.strm x with spills := (l.strm x).spills ++ [d] } else l

theorem owe_keeps (l : CoreCtx) (x : StrmId) (b : Bool) (d : SpillDue) : (owe l x b d).acc = l.acc ∧ (owe l x b d).spill = l.spill
    ∧ (owe l x b d).tiles = l.tiles ∧ (owe l x b d).os = l.os ∧ (owe l x b d).vregs = l.vregs
    ∧ ((owe l x b d).strm x).spills = (l.strm x).spills ++ if b then [d] else [] := by
  unfold owe
  cases b
  · simp
  · simp only [if_true]
    obtain ⟨k1, k2, k3, k4, k5⟩ := CoreCtx.setStrm_keeps l x { l.strm x with spills := (l.strm x).spills ++ [d] }
    exact ⟨k1, k2, k5, k3, k4, by rw [CoreCtx.strm_setStrm_self]⟩

/-- The core state after the spill that a run owes. -/
def spilled (l : CoreCtx) (d : SpillDue) : CoreCtx :=
  (((l.setSlot d.slot (spillInto d.slot (l.slot d.slot) (l.spillSlot d.spillSlot)).1).setSpill d.spillSlot
    (spillInto d.slot (l.slot d.slot) (l.spillSlot d.spillSlot)).2.1).accWrote d.slot 256 256).accWrote (64 + d.spillSlot) 256 256

/-- A filter by either of two tests that pick no uncorrectable word picks none. -/
theorem any_ue_filter {l : List SramErr} {f g : SramErr → Bool} (hf : (l.any fun y => y.ue && f y) = false)
    (hg : (l.any fun y => y.ue && g y) = false) : ((l.filter fun y => f y || g y).any (·.ue)) = false := by
  simp only [List.any_eq_false, List.mem_filter, Bool.and_eq_true, Bool.or_eq_true, not_and] at hf hg ⊢
  rintro y ⟨hy, h | h⟩ hue
  · exact hf y hy hue h
  · exact hg y hy hue h

theorem spillNext_leaves {s : State} {n : Nat} {x : StrmId} {i : Site} {d : SpillDue} {ds : List SpillDue}
    (hsite : site s n x = some i) (hdue : i.t.spills = d :: ds) (hb1 : (s.core n).live.accBad d.slot 256 256 = false)
    (hb2 : (s.core n).live.accBad (64 + d.spillSlot) 256 256 = false)
    (hovf : ((spillInto d.slot ((s.core n).live.slot d.slot) ((s.core n).live.spillSlot d.spillSlot)).2.2
      && !recOvfRecord i.ctx.recipe) = false) :
    ((spillNext n x s).core n).live = (spilled (s.core n).live d).setStrm x { i.t with spills := ds }
      ∧ tiersKept s (spillNext n x s) := by
  obtain ⟨hcore, -, -, -⟩ := site_facts hsite
  have hmet := any_ue_filter hb1 hb2
  unfold spillNext
  simp only [hsite, hdue, hcore, hmet, hovf, Bool.false_eq_true, if_false, State.core_setCore_self]
  refine ⟨rfl, ?_⟩
  unfold tiersKept dataKept
  simp

/-- Settles O1, row by row through what an issue leaves; the spill by what `spillNext` does once its words can be read. -/
theorem arrayRowsComplete : Obligations.ArrayRowsComplete := by
  unfold Obligations.ArrayRowsComplete
  refine ⟨?_, ?_, ?_⟩
  · intro s n x dfr f e kp rows g cols h hctr hcls hkp hkl hbr hos hrows
    obtain ⟨hl, rfl, ho⟩ := h.live
    obtain ⟨hd, hctrs, hctxs⟩ := h.same
    obtain ⟨t, ht, hiss, hdata, -, hacc, hspill, hosk, hv, htiles, -⟩ :=
      h.leaves ((carryLoadw_eq ho).trans (runLoadw_ok hctr hcls hkp hkl hbr hos hrows)) (want := isLoadw) rfl
        ⟨goesOn_none e, rfl, rfl, rfl, flies_flight _ _⟩ hctrs (fun _ => hctxs)
    obtain ⟨k1, k2, k3, k4⟩ := loadTile_keeps e.live e.x f.tb { eff := g, kl := f.kl.toNat, nl := f.nl.toNat, cols := rows }
    obtain ⟨t1, t2⟩ := loadTile_tile e.live e.x f.tb { eff := g, kl := f.kl.toNat, nl := f.nl.toNat, cols := rows }
    unfold CoreCtx.tile at t1 t2 ⊢
    refine ⟨t, congrArg Host.Outcome.next ht, ?_, ?_, ?_, ?_, ⟨?_, ?_⟩, hd.trans hdata, hiss⟩
    · rw [htiles]; exact t1
    · rw [htiles]; exact t2
    · rw [hacc, k1, hl]
    · rw [hspill, k2, hl]
    · rw [hosk, k3, hl]
    · rw [hv, k4, hl]
  · intro s n x dfr f e kp rows a tile t int typ slot sp k m works count spills r reads h hctr hslot hsp hcls hkp hk harr hgrp htyp
      hspint howner hbr hcar hos hbad hrows hgo
    obtain ⟨hl, rfl, ho⟩ := h.live
    obtain ⟨hd, hctrs, hctxs⟩ := h.same
    let l1 := if works then (e.live.setSlot f.slot.toNat { r.1 with k := min 65535 count }).accWrote f.slot.toNat
        (if decide (slot.typ ≠ typ) then 256 else f.m.toNat) (if decide (slot.typ ≠ typ) then 256 else m) else e.live
    have hrun : runRun f e = .ok { s := e.s, fl := e.flight false, fin := !works, num := { fp32Ovf := works && r.2 }
                                   l := owe l1 e.x spills ⟨f.slot.toNat, f.spillSlot.toNat, e.p.idx⟩ } := by
      unfold runRun
      refine ok_then hctr (ok_then hslot (if_ok_then hsp (ok_then hcls ?_)))
      extract_lets int' typ'
      have hint : int' = int := by
        change (a.plainInt && (tile.map fun t => t.eff.plainInt).getD true) = (a.plainInt && t.eff.plainInt)
        cases htile : tile with
        | none => simp [t, htile]
        | some u => simp [t, htile]
      have htyp' : typ' = typ := by
        change (if int' then SlotType.int32 else .fp32) = _
        rw [hint]
      clear_value int' typ'
      subst hint htyp'
      have harr' : ((tile.map fun t => decide (t.eff.fmt.arrayClass ≠ a.fmt.arrayClass)).getD false) = false := by
        cases htile : tile with
        | none => rfl
        | some u => simpa [t, htile] using harr
      have howner' : (spills && (sp.owner.map fun o => decide (o ≠ f.slot.toNat)).getD false) = false := by
        cases hs : spills with
        | false => rfl
        | true => rcases howner hs with h0 | h0 <;> simp [h0]
      have htyp0 : (!f.mode && decide (slot.typ ≠ .empty) && decide (slot.typ ≠ typ)) = false := by
        rcases htyp with h0 | h0 | h0 <;> simp [h0]
      split
      · next hn => exact nomatch hn.symm.trans hkp
      next kp' hs =>
      obtain rfl : kp' = kp := Option.some.inj (hs.symm.trans hkp)
      refine ok_then (failIf_ok harr') (ok_then (failIf_of_not _ hgrp) (ok_then (failIf_ok htyp0) (ok_then (failIf_ok hspint)
        (ok_then (failIf_ok howner') (ok_then (failIf_of_not _ (by omega)) (ok_then hbr (ok_then hcar (ok_then hos
        (ok_then (failIf_ok hbad) (ok_then hrows ?_))))))))))
      cases hw : works with
      | false =>
        have hs : spills = false := by
          change (f.spill && works && _) = false
          rw [hw, Bool.and_false, Bool.false_and]
        simp only [l1, hw, hs, Bool.not_false, Bool.false_and, Bool.false_eq_true, if_true, if_false]
        rfl
      | true =>
        rw [show l1 = _ from if_pos hw, if_neg (by decide : ¬(!true) = true)]
        rfl
    obtain ⟨u, hu, hiss, hdata, -, hacc, hspill, hosk, hv, htiles, hdue⟩ := h.leaves ((carryRun_eq ho).trans hrun) (want := isRun) rfl
        ⟨hgo, rfl, rfl, rfl, flies_flight _ _⟩ hctrs (fun _ => hctxs)
    obtain ⟨k1, k2, k3, k4, k5, k6⟩ := owe_keeps l1 e.x spills ⟨f.slot.toNat, f.spillSlot.toNat, e.p.idx⟩
    have hl1 : l1.acc = (if works then Tbl.put e.live.acc f.slot.toNat { r.1 with k := min 65535 count } else e.live.acc)
        ∧ l1.spill = e.live.spill ∧ l1.tiles = e.live.tiles ∧ l1.os = e.live.os ∧ l1.vregs = e.live.vregs
        ∧ l1.strm e.x = e.live.strm e.x := by
      cases hw : works <;> simp [l1, hw]
    obtain ⟨m1, m2, m3, m4, m5, m6⟩ := hl1
    refine ⟨u, congrArg Host.Outcome.next hu, ?_, ?_, ?_, ?_, ⟨?_, ?_⟩, hd.trans hdata, hiss⟩
    · rw [hacc, k1, m1, hl]
    · rw [hdue, k6, m6, hl]
    · rw [hspill, k2, m2, hl]
    · rw [htiles, k3, m3, hl]
    · rw [hosk, k4, m4, hl]
    · rw [hv, k5, m5, hl]
  · intro s n x i d ds r hsite hdue hb1 hb2 hovf
    obtain ⟨hcore, hstrm, hctx, hres⟩ := site_facts hsite
    obtain ⟨hlive, hkept⟩ := spillNext_leaves hsite hdue hb1 hb2 hovf
    have hcoreOf : coreOf (s.settle (spillNext n.val x s)) n = (spilled (coreOf s n) d).setStrm x { i.t with spills := ds } := by
      unfold coreOf
      rw [State.settle_core, hlive]
    obtain ⟨k1, k2, k3, k4, k5⟩ := CoreCtx.setStrm_keeps (spilled (coreOf s n) d) x { i.t with spills := ds }
    refine ⟨_, rfl, ?_⟩
    rw [hcoreOf, k1, k2, k5, CoreCtx.strm_setStrm_self]
    refine ⟨rfl, rfl, rfl, rfl, rfl, rfl, rfl, rfl, ⟨k3, k4⟩, ?_⟩
    unfold tiersKept dataKept at hkept ⊢
    simpa only [State.settle_same] using hkept

end Sys2Proof
end

section
/-! What an instruction's work comes to, check by check, and what its issue then leaves. -/

namespace Sys2Proof

open Sys2Proof.Machine

/-- Work that passes its checks and leaves state `u` and core state `l`, completing at once where `zero` says so (R82). -/
def Does (e : Env) (access zero : Bool) (r : Except FaultCode Done) (u : State) (l : CoreCtx) : Prop :=
  ∃ d, r = .ok d ∧ Plain e access d ∧ d.fin = zero ∧ d.s = u ∧ d.l = l

theorem Does.then {e : Env} {access zero : Bool} {u : State} {l : CoreCtx} {α : Type} {x : Except FaultCode α} {a : α}
    {f : α → Except FaultCode Done} (h : x = .ok a) (k : Does e access zero (f a) u l) : Does e access zero (x >>= f) u l := by
  rw [h]
  exact k

theorem Does.if_then {e : Env} {access zero : Bool} {u : State} {l : CoreCtx} {p : Prop} [Decidable p]
    {x : Except FaultCode PUnit} {f : PUnit → Except FaultCode Done} (h : p → x = .ok ()) (k : Does e access zero (f ()) u l) :
    Does e access zero (if p then x >>= f else f ()) u l := by
  split
  · next hp => exact .then (h hp) k
  · exact k

theorem Does.either {e : Env} {access zero : Bool} {u : State} {l : CoreCtx} {p : Prop} [Decidable p] {α : Type}
    {x y : Except FaultCode α} {a : α} {f : α → Except FaultCode Done} (h : (if p then x else y) = .ok a)
    (k : Does e access zero (f a) u l) : Does e access zero (if p then x >>= f else y >>= f) u l := by
  split
  · next hp => exact .then (by rwa [if_pos hp] at h) k
  · next hp => exact .then (by rwa [if_neg hp] at h) k

theorem Does.ite {e : Env} {access zero : Bool} {u : State} {l : CoreCtx} {p : Prop} [Decidable p] {x y : Except FaultCode Done}
    (hp : p → Does e access zero x u l) (hn : ¬p → Does e access zero y u l) : Does e access zero (if p then x else y) u l := by
  split
  · next h => exact hp h
  · next h => exact hn h

/-- The end of the work, with no numeric outcome to act on. -/
theorem Does.done {e : Env} {access zero : Bool} {u : State} {l : CoreCtx} {fl : Flight} (h : Flies e access fl) :
    Does e access zero (.ok { s := u, l := l, fl := fl, fin := zero }) u l :=
  ⟨_, rfl, ⟨goesOn_none e, rfl, rfl, rfl, h⟩, rfl, rfl, rfl⟩

/-- The end of the work, with a numeric outcome that goes on. -/
theorem Does.goes {e : Env} {access zero : Bool} {u : State} {l : CoreCtx} {fl : Flight} {m : Numeric} (h : Flies e access fl)
    (hm : goesOn e m) : Does e access zero (.ok { s := u, l := l, fl := fl, num := m, fin := zero }) u l :=
  ⟨_, rfl, ⟨hm, rfl, rfl, rfl, h⟩, rfl, rfl, rfl⟩

theorem Issues.does {s : State} {n : CoreId} {x : StrmId} {dfr access zero : Bool} {o : KwOp} {e : Env}
    (h : Issues s n.val x dfr access o e) {want : KwOp → Bool} {run : Env → Except FaultCode Done} {u : State} {l : CoreCtx}
    (hr : Does e access zero (run e) u l) (hw : want o = true) (hc : u.counters = s.counters) (hx : zero = true → u.ctxs = s.ctxs) :
    ∃ t, kwemin n x (phaseOf dfr) access want run s = t ∧ issued e access zero s t ∧ dataKept u t ∧ t.ctxs = u.ctxs
      ∧ (coreOf t n).acc = l.acc ∧ (coreOf t n).spill = l.spill ∧ (coreOf t n).os = l.os
      ∧ (coreOf t n).vregs = l.vregs ∧ (coreOf t n).tiles = l.tiles ∧ ((coreOf t n).strm x).spills = (l.strm x).spills := by
  obtain ⟨d, hd, hp, rfl, rfl, rfl⟩ := hr
  exact h.leaves hd hw hp hc hx

end Sys2Proof
end

section
/-! ACC.READ, ACC.WRITE, ACC.RSCALE and ACC.RESUME. -/

namespace Sys2Proof

open Sys2Proof.Machine

@[simp] theorem osWrite_keeps (l : CoreCtx) (a : Nat) (bs : List Byte) : (l.osWrite a bs).acc = l.acc ∧ (l.osWrite a bs).spill = l.spill
    ∧ (l.osWrite a bs).tiles = l.tiles ∧ (l.osWrite a bs).vregs = l.vregs :=
  ⟨rfl, rfl, rfl, rfl⟩

@[simp] theorem osWriteRows_keeps (l : CoreCtx) (base stride : Nat) (rows : List (List Byte)) :
    (l.osWriteRows base stride rows).acc = l.acc ∧ (l.osWriteRows base stride rows).spill = l.spill
      ∧ (l.osWriteRows base stride rows).tiles = l.tiles ∧ (l.osWriteRows base stride rows).vregs = l.vregs := by
  unfold CoreCtx.osWriteRows
  generalize rows.zipIdx = ps
  induction ps generalizing l with
  | nil => simp
  | cons p ps ih =>
    obtain ⟨h1, h2, h3, h4⟩ := osWrite_keeps l (base + p.2 * stride) p.1
    obtain ⟨i1, i2, i3, i4⟩ := ih (l.osWrite (base + p.2 * stride) p.1)
    exact ⟨i1.trans h1, i2.trans h2, i3.trans h3, i4.trans h4⟩

/-- The operand-store bytes after a write of rows rest on the bytes before alone. -/
theorem osWriteRows_os_congr {l m : CoreCtx} (h : l.os = m.os) (base stride : Nat) (rows : List (List Byte)) :
    (l.osWriteRows base stride rows).os = (m.osWriteRows base stride rows).os := by
  unfold CoreCtx.osWriteRows
  generalize rows.zipIdx = ps
  induction ps generalizing l m with
  | nil => exact h
  | cons p ps ih => exact ih (by simp only [CoreCtx.osWrite, h])

theorem dataKept.refl (s : State) : dataKept s s := ⟨rfl, rfl, rfl, rfl, rfl, rfl, rfl⟩

theorem recorded_kept (e : Env) (cls : Nat) (lsrc : Bool) (named : Nat) (t : Tally) :
    dataKept e.s (e.recorded cls lsrc named t) ∧ (e.recorded cls lsrc named t).counters = e.s.counters := by
  unfold dataKept
  simp

theorem recorded_ctx (e : Env) (cls : Nat) (lsrc : Bool) (named : Nat) (t : Tally) :
    (e.recorded cls lsrc named t).ctx e.slot = e.ctx.record e.n (statSlots e.p.kw.stats named (recAutoSlot (recipeEnt e.ctx.recipe cls))
      (decide ((e.eff cls lsrc).fmt ≠ recFmt (recipeEnt e.ctx.recipe cls)))) t := by
  unfold Env.recorded
  exact State.ctx_setCtx_self _ _ _

theorem accClear_leaves (l : CoreCtx) (f : AccReadF) :
    (accClear l f).acc = (if f.clear ∧ f.src = false then Tbl.put l.acc f.slot.toNat { written := true } else l.acc)
      ∧ (accClear l f).spill = (if f.clear ∧ f.src = true then Tbl.put l.spill f.slot.toNat { written := true } else l.spill)
      ∧ (accClear l f).tiles = l.tiles ∧ (accClear l f).os = l.os ∧ (accClear l f).vregs = l.vregs := by
  unfold accClear
  cases f.clear <;> cases f.src <;> simp

theorem carryAccRead_eq {e : Env} {f : AccReadF} (h : e.p.kw.op = .accRead f) : carryAccRead e = runAccRead f e := by
  unfold carryAccRead
  rw [h]

theorem carryAccWrite_eq {e : Env} {f : AccWriteF} (h : e.p.kw.op = .accWrite f) : carryAccWrite e = runAccWrite f e := by
  unfold carryAccWrite
  rw [h]

theorem carryRscale_eq {e : Env} {f : RscaleF} (h : e.p.kw.op = .rscale f) : carryRscale e = runRscale f e := by
  unfold carryRscale
  rw [h]

theorem carryResume_eq {e : Env} {f : ResumeF} (h : e.p.kw.op = .resume f) : carryResume e = runResume f e := by
  unfold carryResume
  rw [h]

/-- The rows of a field pair are none exactly where one of the fields is 0. -/
theorem rows_eq_zero (m n : BitVec 9) : ((if n = 0#9 then 0 else m.toNat) = 0) ↔ m = 0#9 ∨ n = 0#9 := by
  have hm : m.toNat = 0 ↔ m = 0#9 := ⟨fun h => BitVec.eq_of_toNat_eq (by simpa using h), fun h => by simp [h]⟩
  split
  · next h => simp [h]
  · next h => simp [h, hm]

/-- Settles O2, row by row through what an issue leaves. -/
theorem accRowsComplete : Obligations.AccRowsComplete := by
  unfold Obligations.AccRowsComplete
  refine ⟨?_, ?_, ?_, ?_⟩
  · intro s n x dfr f e g base stride m len o h hctr hslot hcls hbr hcar hos hstride hbad hgo
    obtain ⟨hl, rfl, ho⟩ := h.live
    obtain ⟨hd, hctrs, hctxs⟩ := h.same
    have hzero : e.zero = decide (m = 0) := by
      unfold Env.zero
      simp only [ho, m, rows_eq_zero, Bool.decide_or]
    have hstride' : (decide (2 ≤ m) && decide (stride < len)) = false := by
      rcases hstride with h0 | h0 <;> simp <;> omega
    have hbad' : (decide (0 < m) && e.live.accBad (f.slot.toNat + if f.src then 64 else 0) m f.n.toNat) = false := by
      by_cases h0 : 0 < m
      · rw [hbad h0, Bool.and_false]
      · simp [h0]
    have hrun : Does e false e.zero (carryAccRead e) (if m = 0 then e.s else e.recorded f.cls.toNat f.lsrc f.statsSlot.toNat o.tally)
        (accClear (if m = 0 then e.live else e.live.osWriteRows base stride o.rows) f) := by
      rw [carryAccRead_eq ho]
      unfold runAccRead
      refine .then hctr (.either hslot (.then hcls (.then hbr (.then hcar (.then hos (.then (failIf_ok hstride')
        (.then (failIf_ok hbad') (.ite (fun (hm : m = 0) => ?_) (fun (hm : ¬m = 0) => ?_)))))))))
      · simp only [hzero, if_pos hm, decide_eq_true hm]
        exact .done ⟨rfl, rfl, rfl, rfl⟩
      · simp only [hzero, if_neg hm, decide_eq_false hm]
        exact .goes ⟨rfl, rfl, rfl, rfl⟩ (hgo (by omega))
    obtain ⟨t, ht, hiss, hdata, hctx, hacc, hspill, hosk, hv, htiles, -⟩ := h.does hrun (want := isAccRead) rfl
      (by split <;> simp [hctrs]) (by rw [hzero]; intro hm; rw [if_pos (by simpa using hm)]; exact hctxs)
    have hsame : (if m = 0 then e.live else e.live.osWriteRows base stride o.rows).acc = e.live.acc
        ∧ (if m = 0 then e.live else e.live.osWriteRows base stride o.rows).spill = e.live.spill
        ∧ (if m = 0 then e.live else e.live.osWriteRows base stride o.rows).tiles = e.live.tiles
        ∧ (if m = 0 then e.live else e.live.osWriteRows base stride o.rows).vregs = e.live.vregs := by
      split <;> simp
    obtain ⟨o1, o2, o3, o4⟩ := hsame
    obtain ⟨c1, c2, c3, c4, c5⟩ := accClear_leaves (if m = 0 then e.live else e.live.osWriteRows base stride o.rows) f
    refine ⟨t, congrArg Host.Outcome.next ht, ?_, ?_, ?_, ?_, ?_, ?_, hd.trans (.trans ?_ hdata), hiss⟩
    · rw [hosk, c4, ← hl]; split <;> rfl
    · rw [hacc, c1, o1, ← hl]
    · rw [hspill, c2, o2, ← hl]
    · intro hm
      rw [if_neg (by omega)] at hctx
      unfold State.ctx
      rw [hctx]
      exact recorded_ctx _ _ _ _ _
    · rw [hv, c5, o4, ← hl]
    · rw [htiles, c3, o3, ← hl]
    · split
      · exact dataKept.refl _
      · exact (recorded_kept _ _ _ _ _).1
  · intro s n x dfr f e rows g slot m h hctr hslot hcls hfmt hbr hcar hos hrows
    obtain ⟨hl, rfl, ho⟩ := h.live
    obtain ⟨hd, hctrs, hctxs⟩ := h.same
    have hzero : e.zero = decide (m = 0) := by
      unfold Env.zero
      simp only [ho, m, rows_eq_zero, Bool.decide_or]
    have hrun : Does e false e.zero (carryAccWrite e) e.s (if m = 0 then e.live else
        (e.live.setSlot f.slot.toNat (accWriteSlot g rows f.n.toNat slot)).accWrote f.slot.toNat
          (if g.retypes slot then 256 else m) (if g.retypes slot then 256 else f.n.toNat)) := by
      rw [carryAccWrite_eq ho]
      unfold runAccWrite
      refine .then hctr (.then hslot (.then hcls (.then (failIf_of_not _ hfmt) (.then hbr (.then hcar (.then hos (.then hrows
        (.ite (fun (hm : m = 0) => ?_) (fun (hm : ¬m = 0) => ?_)))))))))
      · simp only [hzero, if_pos hm, decide_eq_true hm]
        exact .done ⟨rfl, rfl, rfl, rfl⟩
      · simp only [hzero, if_neg hm, decide_eq_false hm]
        exact .done ⟨rfl, rfl, rfl, rfl⟩
    obtain ⟨t, ht, hiss, hdata, hctx, hacc, hspill, hosk, hv, htiles, -⟩ := h.does hrun (want := isAccWrite) rfl hctrs (fun _ => hctxs)
    refine ⟨t, congrArg Host.Outcome.next ht, ?_, ?_, ?_, ⟨?_, ?_⟩, hd.trans hdata, hiss⟩
    · rw [hacc, ← hl]; split <;> simp
    · rw [hspill, ← hl]; split <;> simp
    · rw [htiles, ← hl]; split <;> simp
    · rw [hosk, ← hl]; split <;> simp
    · rw [hv, ← hl]; split <;> simp
  · intro s n x dfr f e slot h hctr hslot hreg htyp hbr hcar hbad
    obtain ⟨hl, rfl, ho⟩ := h.live
    obtain ⟨hd, hctrs, hctxs⟩ := h.same
    have hzero : e.zero = decide (f.m = 0#9) := by
      unfold Env.zero
      simp only [ho]
    have hrun : Does e false e.zero (carryRscale e) e.s (if slot.typ = .empty ∨ f.m = 0#9 then e.live else
        (e.live.setSlot f.slot.toNat (rscaleSlot e.live f.vreg.toNat f.m.toNat slot)).accWrote f.slot.toNat f.m.toNat 256) := by
      rw [carryRscale_eq ho]
      unfold runRscale
      refine .then hctr (.then hslot (.then hreg (.then (failIf_of_not _ htyp) (.then hbr (.then hcar (.then (failIf_ok hbad)
        (.ite (fun hm => ?_) (fun hm => ?_))))))))
      all_goals simp only [Bool.or_eq_true, decide_eq_true_eq] at hm
      · rw [if_pos hm]
        exact .done ⟨rfl, rfl, rfl, rfl⟩
      · rw [if_neg hm, hzero, decide_eq_false (fun h0 => hm (.inr h0))]
        exact .done ⟨rfl, rfl, rfl, rfl⟩
    obtain ⟨t, ht, hiss, hdata, hctx, hacc, hspill, hosk, hv, htiles, -⟩ := h.does hrun (want := isRscale) rfl hctrs (fun _ => hctxs)
    refine ⟨t, congrArg Host.Outcome.next ht, ?_, ?_, ?_, ⟨?_, ?_⟩, hd.trans hdata, hiss⟩
    · rw [hacc, ← hl]; split <;> simp
    · rw [hspill, ← hl]; split <;> simp
    · rw [htiles, ← hl]; split <;> simp
    · rw [hosk, ← hl]; split <;> simp
    · rw [hv, ← hl]; split <;> simp
  · intro s n x dfr f e slot sp r h hctr hslot hspl htyp howner hbr hcar hbad hgo
    obtain ⟨hl, rfl, ho⟩ := h.live
    obtain ⟨hd, hctrs, hctxs⟩ := h.same
    have hzero : e.zero = false := by
      unfold Env.zero
      simp only [ho]
    have howner' : ((sp.owner.map fun o => decide (o ≠ f.slot.toNat)).getD false) = false := by
      rcases howner with h0 | h0 <;> simp [h0]
    have hbad' : (sp.full && (e.live.accBad f.slot.toNat 256 256 || e.live.accBad (64 + f.spillSlot.toNat) 256 256)) = false := by
      cases hf : sp.full with
      | false => rfl
      | true => simp [hbad hf]
    have hrun : Does e false e.zero (carryResume e) e.s (if sp.full then
        (((e.live.setSlot f.slot.toNat { slot with typ := .fp32, written := true, elems := r.1 }).setSpill
            f.spillSlot.toNat { written := true }).accWrote f.slot.toNat 256 256).accWrote (64 + f.spillSlot.toNat) 256 256
        else e.live) := by
      rw [carryResume_eq ho, hzero]
      unfold runResume
      refine .then hctr (.then hslot (.then hspl (.then (failIf_of_not _ htyp) (.then (failIf_ok howner') (.then hbr (.then hcar
        (.then (failIf_ok hbad') (.ite (fun hm => ?_) (fun hm => ?_)))))))))
      all_goals simp only [Bool.not_eq_true', Bool.not_eq_false] at hm
      · rw [hm]
        exact .done ⟨rfl, rfl, rfl, rfl⟩
      · rw [hm] at hgo ⊢
        exact .goes ⟨rfl, rfl, rfl, rfl⟩ hgo
    obtain ⟨t, ht, hiss, hdata, hctx, hacc, hspill, hosk, hv, htiles, -⟩ := h.does hrun (want := isResume) rfl hctrs (fun _ => hctxs)
    refine ⟨t, congrArg Host.Outcome.next ht, ?_, ?_, ?_, ⟨?_, ?_⟩, hd.trans hdata, hiss⟩
    · rw [hacc, ← hl]; split <;> simp
    · rw [hspill, ← hl]; split <;> simp
    · rw [htiles, ← hl]; split <;> simp
    · rw [hosk, ← hl]; split <;> simp
    · rw [hv, ← hl]; split <;> simp

end Sys2Proof
end

section
/-! VEC.ALU, VEC.FILL, VEC.DROP, VEC.RED and VEC.OSMX. -/

namespace Sys2Proof

open Sys2Proof.Machine

@[simp] theorem setLanes_keeps (l : CoreCtx) (r lane : Nat) (vs : List W32) : (l.setLanes r lane vs).acc = l.acc
    ∧ (l.setLanes r lane vs).spill = l.spill ∧ (l.setLanes r lane vs).tiles = l.tiles ∧ (l.setLanes r lane vs).os = l.os :=
  ⟨rfl, rfl, rfl, rfl⟩

theorem Issues.key {s : State} {n : CoreId} {x : StrmId} {dfr access : Bool} {o : KwOp} {e : Env}
    (h : Issues s n.val x dfr access o e) : (e.s.core e.n).key = (s.core n.val).key := by
  obtain ⟨i, p, hm, ho, rfl, -⟩ := h
  exact (clearAge_core _ _ _ _ _ _ _).2

theorem count_eq_zero (c : BitVec 11) : c.toNat = 0 ↔ c = 0#11 :=
  ⟨fun h => BitVec.eq_of_toNat_eq (by simpa using h), fun h => by simp [h]⟩

theorem carryAlu_eq {e : Env} {f : AluF} (h : e.p.kw.op = .alu f) : carryAlu e = runAlu f e := by
  unfold carryAlu
  rw [h]

theorem carryFill_eq {e : Env} {f : FillF} (h : e.p.kw.op = .fill f) : carryFill e = runFill f e := by
  unfold carryFill
  rw [h]

theorem carryVdrop_eq {e : Env} {f : VdropF} (h : e.p.kw.op = .vdrop f) : carryVdrop e = runVdrop f e := by
  unfold carryVdrop
  rw [h]

theorem carryRed_eq {e : Env} {f : RedF} (h : e.p.kw.op = .red f) : carryRed e = runRed f e := by
  unfold carryRed
  rw [h]

theorem carryOsmx_eq {e : Env} {f : OsmxF} (h : e.p.kw.op = .osmx f) : carryOsmx e = runOsmx f e := by
  unfold carryOsmx
  rw [h]

/-- The state after a reciprocal's free results are drawn. -/
def drawnFor (fn n : Nat) (s : State) : State := if fn = 18 ∨ fn = 19 then s.drawn n else s

theorem drawnFor_kept (fn n : Nat) (s : State) : dataKept s (drawnFor fn n s) ∧ (drawnFor fn n s).counters = s.counters
    ∧ (drawnFor fn n s).ctxs = s.ctxs := by
  unfold drawnFor
  split
  · exact ⟨dataKept.refl s, rfl, rfl⟩
  · exact ⟨dataKept.refl s, rfl, rfl⟩

/-- Drawing free values does not change how rows go through a class. -/
theorem classRows_drawnFor (e : Env) (fn n cls : Nat) (lsrc : Bool) (base stride : Nat) (rows : List (List Src)) :
    ({ e with s := drawnFor fn n e.s } : Env).classRows cls lsrc base stride rows = e.classRows cls lsrc base stride rows := by
  unfold drawnFor
  split <;> rfl

/-- Work that writes a row group through a class (R156). -/
theorem Does.writeGroup {e : Env} {u : State} {cls : Nat} {lsrc : Bool} {base stride w named : Nat} {vs : List W32} {l : CoreCtx}
    {o : ClassOut} (ho : ({ e with s := u } : Env).classRows cls lsrc base stride (groupSrcs w vs) = o)
    (hg : goesOn e (e.classNumeric cls lsrc o.tally)) :
    Does e false false (.ok (({ e with s := u } : Env).writeGroup cls lsrc base stride w named vs l))
      (({ e with s := u } : Env).recorded cls lsrc named o.tally) (l.osWriteRows base stride o.rows) := by
  subst ho
  exact ⟨_, rfl, ⟨hg, rfl, rfl, rfl, ⟨rfl, rfl, rfl, rfl⟩⟩, rfl, rfl, rfl⟩

/-- Settles O3, row by row through what an issue leaves. -/
theorem vectorLanes : Obligations.VectorLanes := by
  unfold Obligations.VectorLanes
  refine ⟨?_, ?_, ?_⟩
  · intro s n x dfr f e as fn c g base stride w vs o h hctr hregs hcls hbr hgrp has hgo
    obtain ⟨hl, rfl, ho⟩ := h.live
    obtain ⟨hd, hctrs, hctxs⟩ := h.same
    obtain ⟨-, -, -, -, -, -, -, -, -, -, -, hfresh, -⟩ := h.sees
    have hzero : e.zero = decide (c = 0) := by
      unfold Env.zero
      simp only [ho, c, count_eq_zero]
    obtain ⟨hdraw, hdctr, hdctx⟩ := drawnFor_kept fn c e.s
    let u := if c = 0 then e.s else if f.osr = 2#2 then
      ({ e with s := drawnFor fn c e.s } : Env).recorded f.cls.toNat f.lsrc f.statsSlot.toNat o.tally else drawnFor fn c e.s
    let l := if c = 0 then e.live else if f.osr = 2#2 then e.live.osWriteRows base stride o.rows else e.live.setLanes f.vd.toNat 0 vs
    have hrun : Does e false e.zero (carryAlu e) u l := by
      rw [carryAlu_eq ho]
      unfold runAlu
      refine .then hctr (.then hregs (.if_then hcls (.then hbr (.then hgrp (.ite (fun (hm : c = 0) => ?_) (fun (hm : ¬c = 0) => ?_))))))
      · simp only [u, l, hzero, if_pos hm, decide_eq_true hm]
        exact .done ⟨rfl, rfl, rfl, rfl⟩
      · rw [hzero, decide_eq_false hm, show u = _ from if_neg hm, show l = _ from if_neg hm]
        rw [if_neg hm] at has
        refine .either has ?_
        have hvs : (as.zipIdx.map fun p => aluFn fn (e.s.fresh + p.2) p.1
            (if aluUsesB fn then e.live.lane f.vb.toNat (if f.bb then 0 else p.2) else 0#32)
            (if aluUsesD fn then e.live.lane f.vd.toNat p.2 else 0#32)) = vs := by
          rw [hfresh]
        refine .ite (fun hosr => ?_) (fun hosr => ?_)
        · rw [if_pos hosr, if_pos hosr]
          exact .writeGroup ((classRows_drawnFor e fn c _ _ _ _ _).trans
            (congrArg (fun v => e.classRows f.cls.toNat f.lsrc base stride (groupSrcs w v)) hvs)) (hgo hosr hm)
        · rw [if_neg hosr, if_neg hosr, ← hvs]
          exact .done ⟨rfl, rfl, rfl, rfl⟩
    have hu : dataKept e.s u ∧ u.counters = s.counters ∧ (c = 0 → u.ctxs = s.ctxs) := by
      by_cases hm : c = 0
      · simp only [u, if_pos hm]
        exact ⟨dataKept.refl _, hctrs, fun _ => hctxs⟩
      · by_cases hosr : f.osr = 2#2
        · obtain ⟨r1, r2⟩ := recorded_kept ({ e with s := drawnFor fn c e.s } : Env) f.cls.toNat f.lsrc f.statsSlot.toNat o.tally
          simp only [u, if_neg hm, if_pos hosr]
          exact ⟨hdraw.trans r1, r2.trans (hdctr.trans hctrs), fun h0 => absurd h0 hm⟩
        · simp only [u, if_neg hm, if_neg hosr]
          exact ⟨hdraw, hdctr.trans hctrs, fun h0 => absurd h0 hm⟩
    obtain ⟨u1, u2, u3⟩ := hu
    have hlk : l.acc = e.live.acc ∧ l.spill = e.live.spill ∧ l.tiles = e.live.tiles := by
      by_cases hm : c = 0 <;> by_cases hosr : f.osr = 2#2 <;> simp [l, hm, hosr]
    obtain ⟨l1, l2, l3⟩ := hlk
    obtain ⟨t, ht, hiss, hdata, hctx, hacc, hspill, hosk, hv, htiles, -⟩ := h.does hrun (want := isAlu) rfl u2
      (by rw [hzero]; intro hm; exact u3 (of_decide_eq_true hm))
    refine ⟨t, congrArg Host.Outcome.next ht, ?_, ?_, ?_, ⟨?_, ?_, ?_⟩, hd.trans (u1.trans hdata), hiss⟩
    · intro hosr hm
      rw [hv, hosk, ← hl]
      rw [show l = _ from if_neg hm, if_neg hosr]
      exact ⟨rfl, rfl⟩
    · intro hosr hm
      rw [hv, hosk, ← hl]
      rw [show l = _ from if_neg hm, if_pos hosr]
      exact ⟨rfl, (osWriteRows_keeps _ _ _ _).2.2.2⟩
    · intro hm
      unfold storeKept
      rw [hv, hosk, ← hl]
      rw [show l = _ from if_pos hm]
      exact ⟨rfl, rfl⟩
    · rw [hacc, l1, hl]
    · rw [hspill, l2, hl]
    · rw [htiles, l3, hl]
  · intro s n x dfr f e h hctr hreg hlane hbr
    obtain ⟨hl, rfl, ho⟩ := h.live
    obtain ⟨hd, hctrs, hctxs⟩ := h.same
    have hrun : Does e false e.zero (carryFill e) e.s
        (e.live.setLanes f.vd.toNat f.lane.toNat (List.replicate f.count.toNat f.imm)) := by
      rw [carryFill_eq ho]
      unfold runFill
      exact .then hctr (.then hreg (.then (failIf_of_not _ (by omega)) (.then hbr (.done ⟨rfl, rfl, rfl, rfl⟩))))
    obtain ⟨t, ht, hiss, hdata, hctx, hacc, hspill, hosk, hv, htiles, -⟩ := h.does hrun (want := isFill) rfl hctrs (fun _ => hctxs)
    refine ⟨t, congrArg Host.Outcome.next ht, ?_, ?_, ⟨?_, ?_, ?_⟩, hd.trans hdata, hiss⟩
    · rw [hv, hl]
    · rw [hosk, ← hl]; rfl
    · rw [hacc, ← hl]; rfl
    · rw [hspill, ← hl]; rfl
    · rw [htiles, ← hl]; rfl
  · intro s n x dfr f e h hctr hregs hbr
    obtain ⟨hl, rfl, ho⟩ := h.live
    obtain ⟨hd, hctrs, hctxs⟩ := h.same
    have hrun : Does e false e.zero (carryVdrop e) e.s (e.live.setLanes f.vd.toNat 0 ((e.live.lanes f.va.toNat f.count.toNat).zipIdx.map
        fun p => dropLane (e.s.core e.n).key f.layer e.ctx.step f.w16 e.p.x1.toNat f.thresh.toNat p.2 p.1 (e.live.lane f.vb.toNat 0))) := by
      rw [carryVdrop_eq ho]
      unfold runVdrop
      exact .then hctr (.then hregs (.then hbr (.done ⟨rfl, rfl, rfl, rfl⟩)))
    obtain ⟨t, ht, hiss, hdata, hctx, hacc, hspill, hosk, hv, htiles, -⟩ := h.does hrun (want := isVdrop) rfl hctrs (fun _ => hctxs)
    refine ⟨t, congrArg Host.Outcome.next ht, ?_, ?_, ⟨?_, ?_, ?_⟩, hd.trans hdata, hiss⟩
    · rw [hv, h.key, hl]
    · rw [hosk, ← hl]; rfl
    · rw [hacc, ← hl]; rfl
    · rw [hspill, ← hl]; rfl
    · rw [htiles, ← hl]; rfl

/-- Settles O4, row by row through what an issue leaves. -/
theorem vectorReductions : Obligations.VectorReductions := by
  unfold Obligations.VectorReductions
  refine ⟨?_, ?_⟩
  · intro s n x dfr f e vs c g base stride w segs rs l1 h hctr hregs hlane hvb hcls hbr hgrp hvs
    obtain ⟨hl, rfl, ho⟩ := h.live
    obtain ⟨hd, hctrs, hctxs⟩ := h.same
    have hzero : e.zero = decide (c = 0) := by
      unfold Env.zero
      simp only [ho, c, count_eq_zero]
    have hrange : (decide (1024 < f.lane.toNat + segs) || (decide (f.fn = 3#6) && decide (f.vd = f.vb))) = false := by
      rw [decide_eq_false (by omega), Bool.false_or, ← Bool.decide_and, decide_eq_false hvb]
    let l := if c = 0 then e.live else
      let l1 := e.live.setLanes f.vd.toNat f.lane.toNat (rs.map Prod.fst)
      if f.fn = 3#6 then l1.setLanes f.vb.toNat f.lane.toNat (rs.map Prod.snd) else l1
    have hrun : Does e false e.zero (carryRed e) e.s l := by
      rw [carryRed_eq ho]
      unfold runRed
      refine .then hctr (.then hregs (.then (failIf_ok hrange) (.if_then hcls (.then hbr (.then hgrp
        (.ite (fun (hm : c = 0) => ?_) (fun (hm : ¬c = 0) => ?_)))))))
      · simp only [l, hzero, if_pos hm, decide_eq_true hm]
        exact .done ⟨rfl, rfl, rfl, rfl⟩
      · simp only [l, hzero, if_neg hm, decide_eq_false hm]
        exact .either hvs (.done ⟨rfl, rfl, rfl, rfl⟩)
    obtain ⟨t, ht, hiss, hdata, hctx, hacc, hspill, hosk, hv, htiles, -⟩ := h.does hrun (want := isRed) rfl hctrs (fun _ => hctxs)
    have hlk : l.acc = e.live.acc ∧ l.spill = e.live.spill ∧ l.tiles = e.live.tiles ∧ l.os = e.live.os := by
      by_cases hm : c = 0 <;> by_cases hf : f.fn = 3#6 <;> simp [l, hm, hf]
    obtain ⟨k1, k2, k3, k4⟩ := hlk
    refine ⟨t, congrArg Host.Outcome.next ht, ?_, ?_, ⟨?_, ?_, ?_⟩, hd.trans hdata, hiss⟩
    · rw [hv]
      simp only [l, l1, hl]
      split
      · rfl
      · split <;> rfl
    · rw [hosk, k4, hl]
    · rw [hacc, k1, hl]
    · rw [hspill, k2, hl]
    · rw [htiles, k3, hl]
  · intro s n x dfr f e xs c vm ln g base stride w segs regs rs l1 ps o h hctr hvm hregs hapart hlane hcls hbr hgrp hxs hgo
    obtain ⟨hl, rfl, ho⟩ := h.live
    obtain ⟨hd, hctrs, hctxs⟩ := h.same
    have hzero : e.zero = decide (c = 0) := by
      unfold Env.zero
      simp only [ho, c, count_eq_zero]
    have hapart' : (regs.any fun r => decide (vm ≤ r) && decide (r ≤ vm + 2)) = false := by
      rw [List.any_eq_false]
      intro r hr
      have := hapart r hr
      simp
      omega
    let l0 := ((e.live.setLanes vm ln (rs.map (·.m))).setLanes (vm + 1) ln (rs.map (·.s))).setLanes (vm + 2) ln (rs.map (·.c))
    let u := if c = 0 then e.s else if f.osr = 2#2 then e.recorded f.cls.toNat f.lsrc f.statsSlot.toNat o.tally else e.s
    let l := if c = 0 then e.live else if f.osr = 2#2 then l0.osWriteRows base stride o.rows else l0.setLanes f.vd.toNat 0 ps
    have hrun : Does e false e.zero (carryOsmx e) u l := by
      rw [carryOsmx_eq ho]
      unfold runOsmx
      refine .then hctr (.then (failIf_of_not _ (by omega)) (.then hregs (.then (failIf_ok hapart') (.then (failIf_of_not _ (Nat.not_lt.2 hlane))
        (.if_then hcls (.then hbr (.then hgrp (.ite (fun (hm : c = 0) => ?_) (fun (hm : ¬c = 0) => ?_)))))))))
      · rw [hzero, decide_eq_true hm, show u = _ from if_pos hm, show l = _ from if_pos hm]
        exact .done ⟨rfl, rfl, rfl, rfl⟩
      · rw [hzero, decide_eq_false hm, show u = _ from if_neg hm, show l = _ from if_neg hm]
        refine .either hxs (.ite (fun hosr => ?_) (fun hosr => ?_))
        · rw [if_pos hosr, if_pos hosr]
          exact .goes ⟨rfl, rfl, rfl, rfl⟩ (hgo hosr hm)
        · rw [if_neg hosr, if_neg hosr]
          exact .done ⟨rfl, rfl, rfl, rfl⟩
    have hu : dataKept e.s u ∧ u.counters = s.counters ∧ (c = 0 → u.ctxs = s.ctxs) := by
      by_cases hm : c = 0
      · rw [show u = _ from if_pos hm]
        exact ⟨dataKept.refl _, hctrs, fun _ => hctxs⟩
      · rw [show u = _ from if_neg hm]
        obtain ⟨r1, r2⟩ := recorded_kept e f.cls.toNat f.lsrc f.statsSlot.toNat o.tally
        split
        · exact ⟨r1, r2.trans hctrs, fun h0 => absurd h0 hm⟩
        · exact ⟨dataKept.refl _, hctrs, fun h0 => absurd h0 hm⟩
    obtain ⟨u1, u2, u3⟩ := hu
    have hlk : l.acc = e.live.acc ∧ l.spill = e.live.spill ∧ l.tiles = e.live.tiles := by
      by_cases hm : c = 0 <;> by_cases hosr : f.osr = 2#2 <;> simp [l, l0, hm, hosr]
    obtain ⟨k1, k2, k3⟩ := hlk
    obtain ⟨t, ht, hiss, hdata, hctx, hacc, hspill, hosk, hv, htiles, -⟩ := h.does hrun (want := isOsmx) rfl u2
      (by rw [hzero]; intro hm; exact u3 (of_decide_eq_true hm))
    refine ⟨t, congrArg Host.Outcome.next ht, ?_, ?_, ⟨?_, ?_, ?_⟩, hd.trans (u1.trans hdata), hiss⟩
    · intro hm
      rw [hv, hosk, show l = _ from if_neg hm, show l1 = l0 by simp only [l1, l0, hl]]
      by_cases hosr : f.osr = 2#2
      · rw [if_pos hosr, if_pos hosr, if_pos hosr]
        exact ⟨(osWriteRows_keeps _ _ _ _).2.2.2, rfl⟩
      · rw [if_neg hosr, if_neg hosr, if_neg hosr, ← hl]
        exact ⟨rfl, rfl⟩
    · intro hm
      unfold storeKept
      rw [hv, hosk, ← hl, show l = _ from if_pos hm]
      exact ⟨rfl, rfl⟩
    · rw [hacc, k1, hl]
    · rw [hspill, k2, hl]
    · rw [htiles, k3, hl]

end Sys2Proof
end

section
/-! MOVE.STORE with the reserved value 3 of ADD, which only decoding refuses: it adds BF16 elements, and so writes twice the bytes that
the statement gives its rows. -/

namespace Sys2Proof

open Sys2Proof.Machine

namespace StoreAddThree

/-- One row of 64 bytes, ADD = 3. -/
def fields : MvF := { mx := 0, mstride := 0, osx := 0, off := 0, stride := 0, rows := 1, rowLen := 1, add := 3 }

/-- The instruction at the head of the access side of F, its memory operand at 0x200000. -/
def entry : Pend :=
  { idx := 0, kw := { stats := false, dfr := false, tag := 0, tail := {}, op := .mstore fields }, pendA := true, pendE := false
    x1 := 0x200000, x2 := 0, x3 := 0, src := none, inBr := false, loopIx := 0, seq := 0 }

/-- A RUNNING context on core 0 whose page 1 lies in the package tier; element 16 of its operand store is the BF16 value 1. -/
def before : State :=
  { cores := [(0, { resident := some 0, state := .running, clock := 1150
                    live := { f := { st := .running, next := 1, q := [entry] }, os := [(32, 0x80), (33, 0x3F)] } })]
    ctxs := [(0, { st := .running, recipe := [0, 0x1001]
                   desc := { mask := 1, entries := [(0, { fGrant := { present := true }, bankCount := 1 })] } })]
    tiers := { pt := [(1, { frame := 49152 })] } }

def siteF : Site := ⟨0, before.ctx 0, before.core 0, (before.core 0).live.f⟩

def env : Env := issueEnv before 0 .F false true siteF entry

theorem issues : Issues before 0 .F false true (.mstore fields) env :=
  ⟨siteF, entry, ⟨rfl, by decide, rfl, by decide, by decide, by decide⟩, rfl, rfl, by decide⟩

/-- The address of a byte after the first 64 of the page's frame. -/
def beyond : Nat := 49152 * 2097152 + 67

/-- The bytes from 0x200000 + 64 on are none of the 64 that the statement gives the row. -/
theorem not_storedAt : ∀ k < 1, ¬ storedAt before 0 (memRow 0x200000 0 k) 64 beyond := by
  rintro k hk ⟨j, hj, p, hp, f, hf, ha⟩
  obtain rfl : k = 0 := by omega
  have hrow : (memRow 0x200000 0 0 + j) % addrTop = 0x200000 + j := by
    simp only [memRow, addrTop]
    omega
  have hpage : vpage (0x200000 + j) = 1 := by
    simp only [vpage, addrTop, Config.pageBytes]
    omega
  rw [hrow, hpage] at hp
  obtain rfl : p = { frame := 49152 } := (Option.some.inj (show some _ = some p from hp)).symm
  rw [show memRow 0x200000 0 0 = 0x200000 by decide] at ha
  rcases hf with rfl | hf
  · simp only [Config.pageBytes, beyond] at ha
    omega
  · exact nomatch hf

theorem byte_changes : Tbl.get 0#8 (storeRows 0 0x200000 0 3#2 [env.live.osRead 0 64] 0 env.s).1.tiers.mem beyond
    ≠ Tbl.get 0#8 before.tiers.mem beyond := by
  decide +kernel

end StoreAddThree

/-- Refutes O5: MOVE.STORE with the reserved ADD = 3 at the head of its queue writes bytes beyond its row. -/
theorem not_movesComplete : ¬ Obligations.MovesComplete := by
  unfold Obligations.MovesComplete
  rintro ⟨-, hstore, -⟩
  obtain ⟨t, -, htiers, hbytes, -⟩ := hstore StoreAddThree.before 0 .F false StoreAddThree.fields StoreAddThree.env StoreAddThree.issues
    rfl rfl (by decide +kernel) (by decide +kernel) (by decide +kernel) (by decide) rfl (by decide) (by decide +kernel)
  refine StoreAddThree.byte_changes ?_
  have hkept := hbytes (by decide) (by decide) (fun _ _ _ _ hp => nomatch hp) StoreAddThree.beyond StoreAddThree.not_storedAt
  rw [htiers] at hkept
  exact hkept

end Sys2Proof
end

section
/-! The event log and its alert, and the steps of the power manager (01 R29 to R35). -/

namespace Sys2Proof

open Sys2Proof.Machine

theorem alertBit (a : BitVec 7) {k : Nat} (hk : k < 7) : (a ||| BitVec.ofNat 7 (2 ^ k)).getLsbD k = true := by
  rw [BitVec.getLsbD_or, BitVec.getLsbD_ofNat, Nat.testBit_two_pow_self, decide_eq_true hk, Bool.and_self, Bool.or_true]

/-- Raising one alert leaves the other bits. -/
theorem raiseAlert_bit_ne (s : State) {k j : Nat} (hj : j ≠ k) : (s.raiseAlert k).mgt.alert.getLsbD j = s.mgt.alert.getLsbD j := by
  have hbit : (s.mgt.alert ||| BitVec.ofNat 7 (2 ^ k)).getLsbD j = s.mgt.alert.getLsbD j := by
    rw [BitVec.getLsbD_or, BitVec.getLsbD_ofNat, Nat.testBit_two_pow, decide_eq_false (Ne.symm hj), Bool.and_false, Bool.or_false]
  unfold State.raiseAlert
  split
  · rfl
  · unfold State.msix State.alertPin State.emit
    dsimp only
    (repeat' split) <;> exact hbit

/-- A bit that rises unmasked takes ALERT_N low. -/
theorem raiseAlert_pin {s : State} {k : Nat} (hk : k < 7) (hnew : s.mgt.alert.getLsbD k = false)
    (hmask : s.mgt.mask.getLsbD k = true) : (s.raiseAlert k).modl.alertN = false := by
  have hne : (s.mgt.alert ||| BitVec.ofNat 7 (2 ^ k)) &&& s.mgt.mask ≠ 0#7 := by
    intro h
    have hbit := congrArg (fun b : BitVec 7 => b.getLsbD k) h
    rw [BitVec.getLsbD_and, alertBit _ hk, hmask] at hbit
    simp at hbit
  unfold State.raiseAlert State.msix State.alertPin State.emit
  rw [if_neg (by rw [hnew]; decide)]
  dsimp only
  (repeat' split) <;> exact decide_eq_false hne

/-- A log entry goes to the end of the RAM ring under the next SEQ; besides that only the alert and the reservation change. -/
structure Logged (s t : State) (e x : LogEnt) : Prop where
  mgt : ∃ r a, t.mgt = { s.mgt with ramLog := pushRing 32768 s.mgt.ramLog x, nextSeq := s.mgt.nextSeq + 1, reserved := r, alert := a }
  seq : x.seq = s.mgt.nextSeq
  event : x.event = e.event
  source : x.source = e.source
  bits : ∀ j, j ≠ 2 → t.mgt.alert.getLsbD j = s.mgt.alert.getLsbD j

theorem logEv_logged (s : State) (e : LogEnt) : ∃ x, Logged s (s.logEv e) e x := by
  unfold State.logEv
  extract_lets own e1 e2 g s1
  have hg : s1.mgt = { s.mgt with ramLog := pushRing 32768 s.mgt.ramLog e2, nextSeq := s.mgt.nextSeq + 1, reserved := s1.mgt.reserved } := rfl
  have he : e2.seq = s.mgt.nextSeq ∧ e2.event = e.event ∧ e2.source = e.source := ⟨rfl, rfl, rfl⟩
  obtain ⟨hseq, hevent, hsource⟩ := he
  clear_value s1 e2
  have halert : s1.mgt.alert = s.mgt.alert := by rw [hg]
  refine ⟨e2, ?_, hseq, hevent, hsource, fun j h => ?_⟩
  · split
    · exact ⟨s1.mgt.reserved, (s1.raiseAlert 2).mgt.alert, by rw [State.raiseAlert_mgt, hg]⟩
    · exact ⟨s1.mgt.reserved, s.mgt.alert, hg⟩
  · split
    · rw [raiseAlert_bit_ne s1 h, halert]
    · rw [halert]

/-! Samples, the control tick and the raise -/

@[simp] theorem setPower_clock_eq (c p : Nat) (s : State) : (setPower c p s).power.clock = c := (setPower_clock c p s).1

@[simp] theorem setPower_pacing_eq (c p : Nat) (s : State) : (setPower c p s).power.pacing = p := (setPower_clock c p s).2

/-- What calls for less power at a control tick. -/
def lowers (u : State) : Bool := if u.power.fixedClock.isSome then u.hot else u.power.overCap || u.hot

/-- What lets power be given back. -/
def raises (u : State) : Bool := !u.hot && (u.power.fixedClock.isSome || u.power.wellBelow)

theorem controlTick_eq (s : State) : controlTick s =
    if lowers (takeCap s) = true then
      if 575 < (takeCap s).power.clock then setPower (max 575 ((takeCap s).power.clock - 25)) (takeCap s).power.pacing (takeCap s)
      else if 8 < (takeCap s).power.pacing then setPower (takeCap s).power.clock ((takeCap s).power.pacing - 1) (takeCap s)
      else takeCap s
    else takeCap s := by
  rw [show controlTick s = if (!lowers (takeCap s)) = true then takeCap s else _ from rfl]
  cases lowers (takeCap s) <;> rfl

theorem raises_iff (u : State) : raises u = true ↔ u.hot = false ∧ (u.power.fixedClock.isNone && !u.power.wellBelow) = false := by
  unfold raises
  cases u.hot <;> cases u.power.fixedClock <;> cases u.power.wellBelow <;> simp

theorem powerRaise_pacing (s : State) (hr : raises (takeCap s) = true) (hp : (takeCap s).power.pacing < 16) :
    powerRaise s = setPower (takeCap s).power.clock ((takeCap s).power.pacing + 1) (takeCap s) := by
  obtain ⟨hhot, hbelow⟩ := (raises_iff _).mp hr
  unfold powerRaise
  dsimp only
  rw [if_neg (by rw [hhot]; decide), if_neg (by rw [hbelow]; decide), if_pos hp]

theorem powerRaise_clock (s : State) (hr : raises (takeCap s) = true) (hp : 16 ≤ (takeCap s).power.pacing)
    (hf : (takeCap s).power.fixedClock = none) (hc : (takeCap s).power.clock < (takeCap s).topClock) :
    powerRaise s = setPower (min ((takeCap s).power.clock + 25) (takeCap s).topClock) (takeCap s).power.pacing (takeCap s) := by
  obtain ⟨hhot, hbelow⟩ := (raises_iff _).mp hr
  unfold powerRaise
  dsimp only
  rw [if_neg (by rw [hhot]; decide), if_neg (by rw [hbelow]; decide), if_neg (Nat.not_lt.mpr hp), if_neg (by rw [hf]; decide), if_pos hc]
  rfl

theorem powerRaise_idle (s : State) (hr : raises (takeCap s) = false) : powerRaise s = takeCap s := by
  unfold powerRaise
  dsimp only
  split
  · rfl
  next hhot =>
    rw [if_pos]
    revert hr hhot
    unfold raises
    cases (takeCap s).hot <;> cases (takeCap s).power.fixedClock <;> cases (takeCap s).power.wellBelow <;> simp

theorem capUnmet_logs (s : State) (hover : s.power.overCap = true) (hc : s.power.clock ≤ 575) (hp : s.power.pacing ≤ 8) :
    capUnmet s = (s.logEv (ev 2 0x02 0x42)).raiseAlert 3 :=
  if_pos (by rw [hover, decide_eq_true (show s.power.clock ≤ Config.clockFloor from hc), decide_eq_true hp]; rfl)

/-- Settles O14: each row of the power manager is one equation of `controlTick`, `powerRaise` or `capUnmet` about the state with its cap taken. -/
theorem powerSteps : Obligations.PowerSteps := by
  refine ⟨fun s hready => ⟨fun w => ?_, ?_, ?_⟩, fun s hready hover hc hp => ?_⟩
  · exact ⟨_, congrArg Host.Outcome.next (if_neg (by rw [hready]; decide)), rfl, rfl, rfl, rfl⟩
  · refine ⟨_, congrArg Host.Outcome.next (if_pos hready), ?_, ?_, ?_, ?_, ?_⟩
    · intro hl hc
      rw [controlTick_eq, if_pos (show lowers (takeCap s) = true from hl), if_pos hc]
      exact ⟨setPower_clock_eq .., setPower_pacing_eq ..⟩
    · intro hl hc hp
      rw [controlTick_eq, if_pos (show lowers (takeCap s) = true from hl), if_neg (Nat.not_lt.mpr hc), if_pos hp]
      exact ⟨setPower_clock_eq .., setPower_pacing_eq ..⟩
    · intro hl hc hp
      rw [controlTick_eq, if_pos (show lowers (takeCap s) = true from hl), if_neg (Nat.not_lt.mpr hc), if_neg (Nat.not_lt.mpr hp)]
    · intro hl
      rw [controlTick_eq, if_neg (show ¬lowers (takeCap s) = true by rw [show lowers (takeCap s) = false from hl]; decide)]
    · simp
  · refine ⟨_, congrArg Host.Outcome.next (if_pos hready), ?_, ?_, ?_, ?_⟩
    · intro hr hp
      rw [powerRaise_pacing s hr hp]
      exact ⟨setPower_pacing_eq .., setPower_clock_eq ..⟩
    · intro hr hp hf hc
      rw [powerRaise_clock s hr hp hf hc]
      exact ⟨setPower_clock_eq .., setPower_pacing_eq ..⟩
    · exact powerRaise_idle s
    · simp
  · refine ⟨_, congrArg Host.Outcome.next ((if_pos hready).trans (capUnmet_logs s hover hc hp)), ?_⟩
    obtain ⟨x, hlog⟩ := logEv_logged s (ev 2 0x02 0x42)
    refine ⟨by simp, State.raiseAlert_bit _ (by decide), fun hmask => ?_, ⟨x, ?_, hlog.seq, hlog.event, hlog.source⟩, by simp, by simp⟩
    · obtain ⟨r, a, hmgt⟩ := hlog.mgt
      have hmask' : (s.logEv (ev 2 0x02 0x42)).mgt.mask.getLsbD 3 = true := by
        rw [State.raiseAlert_mgt] at hmask
        exact hmask
      cases h3 : (s.logEv (ev 2 0x02 0x42)).mgt.alert.getLsbD 3
      · exact .inl (raiseAlert_pin (by decide) h3 hmask')
      · exact .inr ((hlog.bits 3 (by decide)).symm.trans h3)
    · obtain ⟨r, a, hmgt⟩ := hlog.mgt
      rw [State.raiseAlert_mgt, hmgt]

end Sys2Proof
end

section
/-! The array self-test of a core (02 R77, R78, R83). -/

namespace Sys2Proof

open Sys2Proof.Machine

theorem core_of_cores {s t : State} (h : t.cores = s.cores) (n : Nat) : t.core n = s.core n := by rw [State.core, h, State.core]

@[simp] theorem core_logEv (s : State) (e : LogEnt) (n : Nat) : (s.logEv e).core n = s.core n := core_of_cores (by simp) n

/-! Spares: every function of them reads and writes the spare map alone -/

theorem healthySpare_congr {c d : Machine.Core} (h : c.spareMap = d.spareMap) (fails : List Nat) :
    c.healthySpare fails = d.healthySpare fails := by
  unfold Core.healthySpare Core.spare
  rw [h]

theorem mapSpares_congr (fails : List Nat) (later : Bool) (l : List Nat) {c d : Machine.Core} (h : c.spareMap = d.spareMap) :
    (Core.mapSpares fails later l c).1 = { c with spareMap := (Core.mapSpares fails later l d).1.spareMap }
      ∧ (Core.mapSpares fails later l c).2 = (Core.mapSpares fails later l d).2 := by
  induction l generalizing c d with
  | nil => exact ⟨by rw [Core.mapSpares, Core.mapSpares, ← h], rfl⟩
  | cons col l ih =>
    cases hd : d.healthySpare fails with
    | none =>
      simp only [Core.mapSpares, Core.mapSpare, healthySpare_congr h fails, hd, Bool.false_eq_true, if_false, and_true]
      rw [← h]
    | some k =>
      simp only [Core.mapSpares, Core.mapSpare, healthySpare_congr h fails, hd, if_true]
      exact ih (c := { c with spareMap := _ }) (d := { d with spareMap := _ }) (by rw [h])

theorem dropSpares_congr (fails : List Nat) {c d : Machine.Core} (h : c.spareMap = d.spareMap) :
    fails.foldl Core.dropSpare c = { c with spareMap := (fails.foldl Core.dropSpare d).spareMap } := by
  induction fails generalizing c d with
  | nil => rw [List.foldl_nil, List.foldl_nil, ← h]
  | cons p fails ih =>
    simp only [List.foldl_cons, Core.dropSpare]
    split
    · exact ih h
    · rw [ih (c := { c with spareMap := _ }) (d := { d with spareMap := Tbl.put d.spareMap (p - 256) { source := 3 } }) (by rw [h])]

/-! The end of a test -/

/-- The core after a test, but for its spares. -/
def tested (s : State) (n : Nat) (fails : List Nat) : Machine.Core :=
  let gates := decide ((s.core n).state = .idle) && !s.hif.ready && decide (n ∉ s.mgt.replanning)
  { s.core n with busy := false, done := true, pass := ((fails.filterMap (s.core n).logicalOf).dedup).isEmpty
                  firstFail := fails.foldl min 0x1FF, failCount := min 255 fails.length
                  state := if gates then .gated else (s.core n).state, clock := if gates then 0 else (s.core n).clock }

/-- The spares after a test, and whether they sufficed. -/
def testedSpares (s : State) (n : Nat) (fails : List Nat) : Machine.Core × Bool :=
  Core.mapSpares fails s.hif.ready (fails.filterMap (s.core n).logicalOf).dedup (fails.foldl Core.dropSpare (s.core n))

theorem selftestDone_core (s : State) (n : Nat) (fails : List Nat) (hbusy : (s.core n).busy = true)
    (hspare : (testedSpares s n fails).2 = true) : ∃ u, u = s.setCore n { tested s n fails with spareMap := (testedSpares s n fails).1.spareMap }
      ∧ (selftestDone n fails s = u ∨ selftestDone n fails s = u.errCore n 4) := by
  refine ⟨_, rfl, ?_⟩
  have hdrop := dropSpares_congr fails (c := tested s n fails) (d := s.core n) rfl
  obtain ⟨hmap, hleft⟩ := mapSpares_congr fails s.hif.ready (fails.filterMap (s.core n).logicalOf).dedup
    (c := fails.foldl Core.dropSpare (tested s n fails)) (d := fails.foldl Core.dropSpare (s.core n)) (by rw [hdrop])
  have hcore : (Core.mapSpares fails s.hif.ready (fails.filterMap (s.core n).logicalOf).dedup (fails.foldl Core.dropSpare (tested s n fails))).1
      = { tested s n fails with spareMap := (testedSpares s n fails).1.spareMap } := by
    rw [hmap, hdrop]
    rfl
  have hdone : selftestDone n fails s =
      (if ((fails.filterMap (s.core n).logicalOf).dedup).isEmpty
        then s.setCore n { tested s n fails with spareMap := (testedSpares s n fails).1.spareMap }
        else (s.setCore n { tested s n fails with spareMap := (testedSpares s n fails).1.spareMap }).errCore n 4) := by
    rw [← hcore]
    exact (if_neg (by rw [hbusy]; decide)).trans (if_pos (hleft.trans hspare))
  rw [hdone]
  split
  · exact .inl rfl
  · exact .inr rfl

theorem errCore_core (s : State) (n k : Nat) :
    (∃ e, (s.errCore n k).core n = { s.core n with err := e }) ∧ ∀ m, m ≠ n → (s.errCore n k).core m = s.core m := by
  unfold State.errCore
  dsimp only
  split
  · exact ⟨⟨_, rfl⟩, fun m _ => rfl⟩
  · exact ⟨⟨_, by rw [core_logEv, State.core_setCore_self]⟩, fun m hm => by rw [core_logEv, State.core_setCore_ne _ _ hm]⟩

theorem selftestStart_starts (s : State) (n : Nat) (hi : (s.core n).state = .idle) (hb : (s.core n).busy = false)
    (hu : s.usersOf n = []) : selftestStart n s = s.setCore n { s.core n with busy := true } :=
  if_pos ⟨hi, hb, by rw [hu]; rfl⟩

theorem selftestStart_refused (s : State) (n : Nat) (h : (s.core n).state ≠ .idle ∨ (s.core n).busy = true ∨ s.usersOf n ≠ []) :
    selftestStart n s = s.logEv { ev 1 0x07 0x40 with core := n } := by
  refine if_neg fun ⟨hi, hb, hu⟩ => ?_
  rcases h with h | h | h
  · exact h hi
  · exact absurd (hb.symm.trans h) (by decide)
  · exact h (List.isEmpty_iff.mp hu)

/-- Settles O15: the two outcomes of a start, and the core that `selftestDone` writes, of which an error bit alone may change further. -/
theorem selfTestRows : Obligations.SelfTestRows := by
  refine ⟨fun s n => ⟨fun hi hb hu => ?_, fun h => ?_⟩, fun s n fails => ?_⟩
  · exact ⟨_, congrArg Host.Outcome.next (selftestStart_starts s n.val hi hb hu), State.core_setCore_self .., rfl,
      fun m hm => State.core_setCore_ne s _ hm⟩
  · obtain ⟨x, hlog⟩ := logEv_logged s { ev 1 0x07 0x40 with core := n.val }
    obtain ⟨r, a, hmgt⟩ := hlog.mgt
    exact ⟨_, congrArg Host.Outcome.next (selftestStart_refused s n.val h), by simp, by rw [hmgt]⟩
  · intro fs cols hbusy hspare
    obtain ⟨u, hu, ht⟩ := selftestDone_core s n.val fs hbusy hspare
    have hself : ∃ e, (selftestDone n.val fs s).core n.val = { u.core n.val with err := e } := by
      rcases ht with ht | ht
      · exact ⟨_, by rw [ht]⟩
      · rw [ht]
        exact (errCore_core u n.val 4).1
    have hother : ∀ m, m ≠ n.val → (selftestDone n.val fs s).core m = u.core m := by
      rcases ht with ht | ht
      · exact fun m _ => by rw [ht]
      · rw [ht]
        exact (errCore_core u n.val 4).2
    have htiers : (selftestDone n.val fs s).tiers = u.tiers := by
      rcases ht with ht | ht <;> rw [ht]
      simp
    obtain ⟨e, hcore⟩ := hself
    rw [hu, State.core_setCore_self] at hcore
    have hgate : (decide ((s.core n.val).state = .idle) && !s.hif.ready && decide (n.val ∉ s.mgt.replanning)) = true
        ↔ (s.core n.val).state = .idle ∧ s.hif.ready = false ∧ n.val ∉ s.mgt.replanning := by
      simp [and_assoc]
    refine ⟨_, rfl, ?_⟩
    rw [hcore]
    refine ⟨rfl, rfl, rfl, rfl, rfl, ?_, ?_, rfl, by rw [htiers, hu]; rfl, fun m hm => ?_⟩
    · exact if_congr hgate rfl rfl
    · exact if_congr hgate rfl rfl
    · rw [hother m hm, hu, State.core_setCore_ne s _ hm]

end Sys2Proof
end

section
/-! Dispatch (04 R121) and the sequencer's own instructions (05 R170 to R173). -/

namespace Sys2Proof

open Sys2Proof.Machine

/-! What a written stream leaves -/

theorem settle_kept (s t : State) : tiersKept t (s.settle t) ∧ (s.settle t).ctxs = t.ctxs := by
  simp [tiersKept, dataKept]

theorem setStream_kept (s : State) (n : Nat) (x : StrmId) (t : Stream) : tiersKept s (s.setStream n x t) ∧ (s.setStream n x t).ctxs = s.ctxs := by
  simp [tiersKept, dataKept]

/-- Of the machine only stream `x` of core `n` may differ, which is `u`. -/
structure OnlyStream (s t : State) (n : CoreId) (x : StrmId) (u : Stream) : Prop where
  strm : (coreOf t n).strm x = u
  resident : (t.core n.val).resident = (s.core n.val).resident
  tiers : tiersKept s t
  ctxs : t.ctxs = s.ctxs
  store : storeKept (coreOf s n) (coreOf t n)
  array : arrayKept (coreOf s n) (coreOf t n)

@[simp] theorem settle_coreOf (s t : State) (n : CoreId) : coreOf (s.settle t) n = coreOf t n := by
  rw [coreOf, State.settle_core, coreOf]

theorem setStream_only (s : State) (n : CoreId) (x : StrmId) (u : Stream) : OnlyStream s (s.setStream n.val x u) n x u := by
  have hcore := State.setStream_core_self s n.val x u
  obtain ⟨hacc, hspill, hos, hvregs, htiles⟩ := CoreCtx.setStrm_keeps (s.core n.val).live x u
  obtain ⟨hkept, hctxs⟩ := setStream_kept s n.val x u
  refine ⟨?_, by rw [hcore], hkept, hctxs, ?_, ?_⟩
  · rw [coreOf, hcore, CoreCtx.strm_setStrm_self]
  · rw [storeKept, coreOf, coreOf, hcore]
    exact ⟨hos, hvregs⟩
  · rw [arrayKept, coreOf, coreOf, hcore]
    exact ⟨hacc, hspill, htiles⟩

theorem OnlyStream.settle {s t r : State} {n : CoreId} {x : StrmId} {u : Stream} (h : OnlyStream s t n x u) :
    OnlyStream s (r.settle t) n x u := by
  obtain ⟨hkept, hctxs⟩ := settle_kept r t
  refine ⟨by rw [settle_coreOf, h.strm], by rw [State.settle_core, h.resident], h.tiers.trans hkept, hctxs.trans h.ctxs, ?_, ?_⟩
  · rw [settle_coreOf]
    exact h.store
  · rw [settle_coreOf]
    exact h.array

theorem settle_setStream (s : State) (n : CoreId) (x : StrmId) (u : Stream) :
    OnlyStream s (s.settle (s.setStream n.val x u)) n x u :=
  (setStream_only s n x u).settle

/-! The commands of the operations -/

/-- A command of an operation runs `kwemin` with the side, the test and the work that the statements name. -/
theorem kwCommand_exec {n : CoreId} {x : StrmId} {ph : Phase} {sd : Side} {o : KwOp} {c : Instr} (h : kwCommand n x ph sd o = some c) :
    ∃ (want : KwOp → Bool) (run : Env → Except FaultCode Done),
      (∀ s, exec c s = .next (kwemin n x ph (kwAccess sd o) want run s)) ∧ want o = true ∧ ∀ e, e.p.kw.op = o → run e = kwCarry sd e := by
  have sides : ∀ {p : Bool} {d : Instr}, (if p = true then some d else none) = some c → p = true ∧ d = c := by
    intro p d hd
    cases p
    · exact nomatch hd
    · exact ⟨rfl, Option.some.inj hd⟩
  cases o with
  | wait f =>
    obtain ⟨hside, rfl⟩ := sides h
    exact ⟨_, _, fun s => rfl, hside, fun e he => by rw [kwCarry, he]⟩
  | inc f =>
    obtain ⟨hside, rfl⟩ := sides h
    exact ⟨_, _, fun s => rfl, hside, fun e he => by rw [kwCarry, he]⟩
  | token f =>
    obtain ⟨hside, rfl⟩ := sides h
    exact ⟨_, _, fun s => rfl, hside, fun e he => by rw [kwCarry, he]⟩
  | loop f => exact nomatch h
  | endl => exact nomatch h
  | jmp f => exact nomatch h
  | brc f => exact nomatch h
  | xset f => exact nomatch h
  | xadd f => exact nomatch h
  | sclr f => exact nomatch h
  | halt => exact nomatch h
  | _ =>
    obtain rfl := Option.some.inj h
    exact ⟨_, _, fun s => rfl, rfl, fun e he => by rw [kwCarry, he]⟩

/-! Dispatch -/

@[simp] theorem seqEffect_pc (t u : Stream) (o : KwOp) : (t.seqEffect u o).pc = t.pc := by
  unfold Stream.seqEffect
  (repeat' split) <;> rfl

@[simp] theorem seqEffect_next (t u : Stream) (o : KwOp) : (t.seqEffect u o).next = t.next := by
  unfold Stream.seqEffect
  (repeat' split) <;> rfl

@[simp] theorem seqEffect_q (t u : Stream) (o : KwOp) : (t.seqEffect u o).q = t.q := by
  unfold Stream.seqEffect
  (repeat' split) <;> rfl

@[simp] theorem seqEffect_dq (t u : Stream) (o : KwOp) : (t.seqEffect u o).dq = t.dq := by
  unfold Stream.seqEffect
  (repeat' split) <;> rfl

/-- The entry that a dispatched instruction becomes joins the end of its queue. -/
theorem enqueue_entry (t : Stream) (c : Ctx) (k : Kw) : ∃ p : Pend, p.idx = t.next ∧ p.kw = k ∧ p.x1 = t.xr k.op.xsel.1 ∧ p.inBr = t.opened
    ∧ if k.dfr = true then (t.enqueue c k).dq = t.dq ++ [p] ∧ (t.enqueue c k).q = t.q
      else (t.enqueue c k).q = t.q ++ [p] ∧ (t.enqueue c k).dq = t.dq := by
  unfold Stream.enqueue
  cases hk : k.dfr <;> exact ⟨_, rfl, rfl, rfl, rfl, rfl, rfl⟩

theorem enqueue_pc (t : Stream) (c : Ctx) (k : Kw) : (t.enqueue c k).pc = pcAdd t.pc 1 := rfl

theorem enqueue_next (t : Stream) (c : Ctx) (k : Kw) : (t.enqueue c k).next = t.next + 1 := rfl

theorem strmCode_running {t : State} {n : CoreId} {x : StrmId} {slot : Nat} (hres : (t.core n.val).resident = some slot)
    (hrun : ((coreOf t n).strm x).st = .running) :
    t.strmCode slot n.val x = if t.headHeld slot n.val x ((coreOf t n).strm x) then 2 else 1 := by
  have hlive : t.coreCtx slot n.val = coreOf t n := if_pos hres
  unfold State.strmCode
  rw [hlive]
  dsimp only
  rw [hrun]

theorem kwemin_dispatches {s : State} {n : CoreId} {x : StrmId} {i : Site} {k : Kw} (h : AtPc s n.val x i k) {want : KwOp → Bool}
    (access : Bool) (run : Env → Except FaultCode Done) (hw : want k.op = true) (hr : i.t.room k = true) (hb : i.t.beginWaits k.op = false) :
    kwemin n x .dispatch access want run s = s.settle (s.setStream n.val x ((i.t.enqueue i.ctx k).seqEffect i.t k.op)) :=
  congrArg s.settle (dispatch_at n.val x want s h hw hr hb)

/-- Settles O6: `dispatch_at` says what a dispatch writes, `enqueue` and `seqEffect` what the stream then is. -/
theorem dispatchQueues : Obligations.DispatchQueues := by
  refine ⟨fun s n x sd i k c hat hc hroom hwaits => ?_, fun s n x i k hat hop hroom => ?_⟩
  · obtain ⟨want, run, hexec, hwant, -⟩ := kwCommand_exec hc
    have hleft := settle_setStream s n x ((i.t.enqueue i.ctx k).seqEffect i.t k.op)
    have hres : (s.core n.val).resident = some i.slot := (site_facts hat.here).2.2.2
    refine ⟨_, (hexec s).trans (congrArg Host.Outcome.next (kwemin_dispatches hat _ run hwant hroom hwaits)), hleft.strm,
      strmCode_running (hleft.resident.trans hres), ?_, ?_, ?_, hleft.tiers, hleft.store, hleft.array⟩
    · rw [hleft.strm, seqEffect_pc, enqueue_pc]
    · rw [hleft.strm, seqEffect_next, enqueue_next]
    · rw [hleft.strm, seqEffect_q, seqEffect_dq]
      exact enqueue_entry i.t i.ctx k
  · have hleft := settle_setStream s n x ((i.t.enqueue i.ctx k).seqEffect i.t k.op)
    refine ⟨_, congrArg (fun t : State => Host.Outcome.next (t.close (haltEnds n.val t)))
      (kwemin_dispatches hat true carryHalt (want := isHalt) (by rw [hop]; rfl) hroom (by rw [hop]; rfl)), ?_, hleft.tiers⟩
    rw [hleft.strm, seqEffect_pc, enqueue_pc]

/-! The sequencer -/

theorem AtPc.decodes {s : State} {n : Nat} {x : StrmId} {i : Site} {k : Kw} (h : AtPc s n x i k) {want : KwOp → Bool}
    (hw : want k.op = true) : fetchDecode s i x want = .ok (some k) := by
  obtain ⟨w, hfetch, hdecode⟩ := h.word
  simp [fetchDecode, h.trained, hfetch, decodeKw_read hdecode, hw, hdecode, Except.map]

theorem sequencer_goes {s : State} {n : CoreId} {x : StrmId} {i : Site} {k : Kw} (h : AtPc s n.val x i k) {want : KwOp → Bool}
    {run : State → Site → KwOp → SeqOut} {t : Stream} (hw : want k.op = true) (hr : run s i k.op = .go t) :
    sequencer n.val x want run s = s.setStream n.val x { t with dispatched := i.t.dispatched + 1 } := by
  unfold sequencer
  simp only [h.here, h.free, Bool.not_true, Bool.false_eq_true, if_false, h.decodes hw, hr]

/-- What an instruction that the sequencer carries out leaves. -/
theorem sequencer_leaves {s : State} {n : CoreId} {x : StrmId} {i : Site} {k : Kw} (h : AtPc s n.val x i k) {want : KwOp → Bool}
    {run : State → Site → KwOp → SeqOut} {pc : W48} {loops : List LoopRec} {xs : Tbl W48} (hw : want k.op = true)
    (hr : run s i k.op = .go { i.t with pc := pc, loops := loops, xs := xs }) {c : Instr}
    (hc : exec c s = .next (s.settle (sequencer n.val x want run s))) :
    ∃ u, exec c s = .next u ∧ ((coreOf u n).strm x).pc = pc ∧ ((coreOf u n).strm x).loops = loops
      ∧ ((coreOf u n).strm x).xs = xs ∧ ((coreOf u n).strm x).q = i.t.q
      ∧ ((coreOf u n).strm x).dispatched = i.t.dispatched + 1
      ∧ tiersKept s u ∧ u.ctxs = s.ctxs ∧ storeKept (coreOf s n) (coreOf u n) ∧ arrayKept (coreOf s n) (coreOf u n) := by
  rw [sequencer_goes h hw hr] at hc
  have hleft := settle_setStream s n x { i.t with pc := pc, loops := loops, xs := xs, dispatched := i.t.dispatched + 1 }
  refine ⟨_, hc, ?_, ?_, ?_, ?_, ?_, hleft.tiers, hleft.ctxs, hleft.store, hleft.array⟩ <;> rw [hleft.strm]

theorem sclr_leaves {s : State} {n : CoreId} {x : StrmId} {i : Site} {k : Kw} (h : AtPc s n.val x i k) {f : SclrF} (ho : k.op = .sclr f)
    (hdone : i.t.doneBefore i.t.next none none = true) (hspills : i.t.spills = []) :
    sclr n.val x s = (s.setCtx i.slot (i.ctx.clearStats n.val f.first.toNat f.count.toNat)).setStream n.val x
      { i.t with pc := pcAdd i.t.pc 1, dispatched := i.t.dispatched + 1 } := by
  unfold sclr
  rw [h.here]
  dsimp only
  rw [h.free, h.decodes (by rw [ho])]
  dsimp only
  rw [ho, hdone, hspills]
  rfl

/-- Settles O10: a row of CTRL is the stream that its function of `Machine/Sync` gives, put back. -/
theorem ctrlComplete : Obligations.CtrlComplete := by
  intro s n x i k hat
  refine ⟨fun f ho hcount hdepth => ?_, fun f w ho hcount hskip hfetch hend => ?_, fun ls r ho hls hmore => ?_, fun ls r ho hls hlast => ?_,
    fun f ho => ?_, fun f ho hmet hctr => ?_, fun f ho => ?_, fun f ho => ?_, fun f ho hdone hspills => ?_⟩
  · refine sequencer_leaves hat (c := .ctrlLoop n x) (run := seqLoop x) (want := isLoop) (by rw [ho]; rfl) ?_ rfl
    rw [ho]
    exact (if_neg hcount).trans (if_neg (Nat.not_le.mpr hdepth))
  · refine sequencer_leaves hat (c := .ctrlLoop n x) (run := seqLoop x) (want := isLoop) (by rw [ho]; rfl) ?_ rfl
    rw [ho]
    refine (if_pos hcount).trans ((if_neg hskip).trans ?_)
    rw [hfetch]
    exact if_pos hend
  · refine sequencer_leaves hat (c := .ctrlEndl n x) (run := seqEndl) (want := isEndl) (by rw [ho]; rfl) ?_ rfl
    rw [seqEndl, hls, List.getLast?_concat, List.dropLast_concat]
    exact if_pos hmore
  · refine sequencer_leaves hat (c := .ctrlEndl n x) (run := seqEndl) (want := isEndl) (by rw [ho]; rfl) ?_ rfl
    rw [seqEndl, hls, List.getLast?_concat, List.dropLast_concat]
    exact if_neg (Nat.not_lt.mpr hlast)
  · refine sequencer_leaves hat (c := .ctrlJmp n x) (run := seqJmp) (want := isJmp) (by rw [ho]; rfl) ?_ rfl
    rw [ho]
    rfl
  · refine sequencer_leaves hat (c := .ctrlBrc n x) (run := seqBrc) (want := isBrc) (by rw [ho]; rfl) ?_ rfl
    rw [ho]
    refine (if_neg (by rw [hmet]; decide)).trans ((if_neg (Nat.not_le.mpr hctr)).trans ?_)
    split <;> rfl
  · refine sequencer_leaves hat (c := .ctrlXset n x) (run := seqXset) (want := isXset) (by rw [ho]; rfl) ?_ rfl
    rw [ho]
    rfl
  · refine sequencer_leaves hat (c := .ctrlXadd n x) (run := seqXadd) (want := isXadd) (by rw [ho]; rfl) ?_ rfl
    rw [ho]
    rfl
  · refine ⟨_, congrArg (fun u => Host.Outcome.next (s.settle u)) (sclr_leaves hat ho hdone hspills), ?_⟩
    have hleft := setStream_only (s.setCtx i.slot (i.ctx.clearStats n.val f.first.toNat f.count.toNat)) n x
      { i.t with pc := pcAdd i.t.pc 1, dispatched := i.t.dispatched + 1 }
    refine ⟨?_, ?_, hleft.tiers.trans (settle_kept s _).1, ?_, ?_⟩
    · rw [settle_coreOf, hleft.strm]
    · rw [State.settle_ctx, State.ctx, hleft.ctxs]
      exact State.ctx_setCtx_self ..
    · rw [settle_coreOf]
      exact hleft.store
    · rw [settle_coreOf]
      exact hleft.array

end Sys2Proof
end

section
/-! What the issue of an instruction with no numeric outcome leaves of its stream: in flight, completed at once, or held. -/

namespace Sys2Proof

open Sys2Proof.Machine

/-! Signals and completions -/

theorem signal_held {s : State} {n : Nat} {x : StrmId} {slot k amount : Nat} {b : Machine.Bracket}
    (h : ((s.core n).live.strm x).bracket = some b) :
    signal s n x slot true k amount
      = s.setStream n x { (s.core n).live.strm x with bracket := some { b with held := addHeld b.held k amount } } := by
  rw [signal, if_pos rfl]
  dsimp only
  rw [h]

theorem signal_unbracketed {s : State} {n : Nat} {x : StrmId} {slot k amount : Nat} (h : ((s.core n).live.strm x).bracket = none) :
    signal s n x slot true k amount = s := by
  rw [signal, if_pos rfl]
  dsimp only
  rw [h]

/-- A signal changes at most the held amounts of its stream's bracket, and inside a bracket no counter. -/
theorem signal_strm (s : State) (n : Nat) (x : StrmId) (slot : Nat) (inBr : Bool) (k amount : Nat) :
    ∃ br, ((signal s n x slot inBr k amount).core n).live = (s.core n).live.setStrm x { (s.core n).live.strm x with bracket := br }
      ∧ (inBr = false → br = ((s.core n).live.strm x).bracket)
      ∧ (inBr = true → ∀ b, ((s.core n).live.strm x).bracket = some b → br = some { b with held := addHeld b.held k amount }) := by
  have self : (s.core n).live = (s.core n).live.setStrm x { (s.core n).live.strm x with bracket := ((s.core n).live.strm x).bracket } := by
    cases x <;> rfl
  cases inBr with
  | true =>
    cases hb : ((s.core n).live.strm x).bracket with
    | none =>
      rw [signal_unbracketed hb, ← hb]
      exact ⟨_, self, fun _ => rfl, fun _ b h => nomatch hb.symm.trans h⟩
    | some b =>
      rw [signal_held hb]
      refine ⟨_, setStream_live _ _ _ _, (fun h => nomatch h), fun _ c hc => ?_⟩
      rw [Option.some.inj hc]
  | false =>
    refine ⟨_, ?_, fun _ => rfl, fun h => nomatch h⟩
    rw [signal, if_neg Bool.false_ne_true]
    split
    · exact self
    · rw [raiseCtr_core]
      exact self

/-- The stream that a completion leaves, but for its bracket. -/
def completed (t : Stream) (f : Flight) : Stream :=
  { t with flights := Machine.Stream.without t f, hand := if f.pushQ then t.hand.fill f.idx else t.hand }

theorem completeFlight_strm (s : State) (n : Nat) (x : StrmId) (slot : Nat) (f : Flight) :
    ∃ br, ((completeFlight s n x slot f).core n).live
        = (s.core n).live.setStrm x { completed ((s.core n).live.strm x) f with bracket := br }
      ∧ (f.dctr = none ∨ f.inBr = false → br = ((s.core n).live.strm x).bracket)
      ∧ (∀ c b, f.dctr = some c → f.inBr = true → ((s.core n).live.strm x).bracket = some b →
          br = some { b with held := addHeld b.held c 1 }) := by
  have hlive := setStream_live s n x (completed ((s.core n).live.strm x) f)
  have heq : completeFlight s n x slot f = match f.dctr with
      | some k => signal (s.setStream n x (completed ((s.core n).live.strm x) f)) n x slot f.inBr k 1
      | none => s.setStream n x (completed ((s.core n).live.strm x) f) := rfl
  rw [heq]
  cases hd : f.dctr with
  | none => exact ⟨_, hlive, fun _ => rfl, fun c b h => nomatch h⟩
  | some k =>
    obtain ⟨br, hbr, hout, hin⟩ := signal_strm (s.setStream n x (completed ((s.core n).live.strm x) f)) n x slot f.inBr k 1
    rw [hlive, CoreCtx.strm_setStrm_self] at hout hin
    rw [hlive, CoreCtx.strm_setStrm_self, CoreCtx.setStrm_setStrm] at hbr
    refine ⟨br, hbr, fun h => hout (h.resolve_left fun h => nomatch h), fun c b hc hb hsome => ?_⟩
    rw [← Option.some.inj hc]
    exact hin hb b hsome

/-! Quiet work -/

/-- The work ended with no numeric outcome and no fault of its own. -/
structure Quiet (d : Done) : Prop where
  num : d.num = {}
  fault : d.fault = none

/-- The stream that an issuing side leaves, before its flight. -/
def Machine.Done.issuing (d : Done) (e : Env) (access : Bool) : Stream := (d.l.strm e.x).take e.p access

/-- The state in which the instruction is in flight. -/
def Machine.Done.launched (d : Done) (e : Env) (access : Bool) : State :=
  (d.s.setCore e.n { d.s.core e.n with live := d.l.setStrm e.x (d.issuing e access) }).setStream e.n e.x
    { d.issuing e access with flights := (d.issuing e access).flights ++ [d.fl] }

/-- The launched state with the increment of the instruction applied. -/
def Machine.Done.raised (d : Done) (e : Env) (access : Bool) : State :=
  match d.inc with
  | some (k, a) => if a = 0 then d.launched e access else signal (d.launched e access) e.n e.x e.slot e.p.inBr k a
  | none => d.launched e access

theorem finish_quiet (e : Env) (access : Bool) (d : Done) (h : Quiet d) :
    finish e access d = match d.wait with
      | some w => (d.raised e access).setStream e.n e.x ((d.issuing e access).hold e.p.kw.dfr access w)
      | none => if d.fin then completeFlight (d.raised e access) e.n e.x e.slot d.fl else d.raised e access := by
  have hnova : (if e.p.inBr then (none : Option NovaRec) else none) = none := by cases e.p.inBr <;> rfl
  unfold finish Done.raised Done.launched
  simp only [h.num, h.fault, Option.isSome_none, Bool.false_and, Bool.false_eq_true, if_false, hnova, Option.any_none, Bool.and_false,
    Done.issuing, State.core_setCore_self, CoreCtx.strm_setStrm_self] <;> rfl

theorem launched_live (e : Env) (access : Bool) (d : Done) : ((d.launched e access).core e.n).live =
    d.l.setStrm e.x { d.issuing e access with flights := (d.issuing e access).flights ++ [d.fl] } := by
  rw [Done.launched, setStream_live, State.core_setCore_self, CoreCtx.setStrm_setStrm]

theorem launched_kept (e : Env) (access : Bool) (d : Done) :
    tiersKept d.s (d.launched e access) ∧ (d.launched e access).ctxs = d.s.ctxs := by
  simp [tiersKept, dataKept, Done.launched]

/-- What a quiet issue leaves of its core, as far as its stream: `u` is the stream, `d` the work. -/
structure QuietLeft (n : CoreId) (x : StrmId) (d : Done) (t : State) (u : Stream) : Prop where
  core : coreOf t n = d.l.setStrm x u
  data : dataKept d.s t
  ctxs : t.ctxs = d.s.ctxs

theorem QuietLeft.store {n : CoreId} {x : StrmId} {d : Done} {t : State} {u : Stream} (h : QuietLeft n x d t u) :
    storeKept d.l (coreOf t n) ∧ arrayKept d.l (coreOf t n) := by
  obtain ⟨hacc, hspill, hos, hvregs, htiles⟩ := CoreCtx.setStrm_keeps d.l x u
  rw [h.core]
  exact ⟨⟨hos, hvregs⟩, hacc, hspill, htiles⟩

theorem QuietLeft.strm {n : CoreId} {x : StrmId} {d : Done} {t : State} {u : Stream} (h : QuietLeft n x d t u) :
    (coreOf t n).strm x = u := by
  rw [h.core, CoreCtx.strm_setStrm_self]

section
variable {s : State} {n : CoreId} {x : StrmId} {dfr access : Bool} {o : KwOp} {e : Env} {want : KwOp → Bool}
  {run : Env → Except FaultCode Done} {d : Done}

/-- An instruction that waits holds its side. -/
theorem Issues.holds (h : Issues s n.val x dfr access o e) (hw : want o = true) (hr : run e = .ok d) (hq : Quiet d) {w : HeldWait}
    (hinc : d.inc = none) (hwait : d.wait = some w) :
    ∃ t, kwemin n x (phaseOf dfr) access want run s = t
      ∧ QuietLeft n x d t ((d.issuing e access).hold e.p.kw.dfr access w) ∧ t.counters = d.s.counters := by
  obtain ⟨e1, e2, -⟩ := h.sees
  subst e2
  have hfin : finish e access (noted d e)
      = ((noted d e).launched e access).setStream e.n e.x ((d.issuing e access).hold e.p.kw.dfr access w) := by
    rw [finish_quiet e access (noted d e) ⟨hq.num, hq.fault⟩]
    simp only [Done.raised, noted, hinc, hwait]
    rfl
  obtain ⟨hkept, hctxs⟩ := launched_kept e access (noted d e)
  obtain ⟨hnoted, hnctx⟩ := noted_kept d e
  obtain ⟨hset, hsctx⟩ := setStream_kept ((noted d e).launched e access) e.n e.x ((d.issuing e access).hold e.p.kw.dfr access w)
  obtain ⟨hsettle, hsettlectx⟩ := settle_kept s (finish e access (noted d e))
  have hall := ((hnoted.trans hkept).trans hset).trans (hfin ▸ hsettle)
  refine ⟨_, h.next hw hr, ⟨?_, ?_, ?_⟩, ?_⟩
  · rw [settle_coreOf, hfin, coreOf, ← e1, setStream_live, launched_live, CoreCtx.setStrm_setStrm]
    rfl
  · rw [hfin]
    exact hall.2
  · rw [hsettlectx, hfin, hsctx, hctxs, hnctx]
  · rw [hfin]
    exact hall.1

/-- An instruction that stays in flight. -/
theorem Issues.stays (h : Issues s n.val x dfr access o e) (hw : want o = true) (hr : run e = .ok d) (hq : Quiet d)
    (hinc : d.inc = none) (hwait : d.wait = none) (hfin : d.fin = false) :
    ∃ t, kwemin n x (phaseOf dfr) access want run s = t
      ∧ QuietLeft n x d t { d.issuing e access with flights := (d.issuing e access).flights ++ [d.fl] } ∧ t.counters = d.s.counters := by
  obtain ⟨e1, e2, -⟩ := h.sees
  subst e2
  have hfin : finish e access (noted d e) = (noted d e).launched e access := by
    rw [finish_quiet e access (noted d e) ⟨hq.num, hq.fault⟩]
    simp only [Done.raised, noted, hinc, hwait, hfin, Bool.false_eq_true, if_false]
  obtain ⟨hkept, hctxs⟩ := launched_kept e access (noted d e)
  obtain ⟨hnoted, hnctx⟩ := noted_kept d e
  obtain ⟨hsettle, hsettlectx⟩ := settle_kept s ((noted d e).launched e access)
  have hall := (hnoted.trans hkept).trans hsettle
  refine ⟨_, h.next hw hr, ⟨?_, ?_, ?_⟩, ?_⟩
  · rw [settle_coreOf, hfin, coreOf, ← e1, launched_live]
    rfl
  · rw [hfin]
    exact hall.2
  · rw [hfin, hsettlectx, hctxs, hnctx]
  · rw [hfin]
    exact hall.1

/-- An instruction that completes at once, with no increment of its own. -/
theorem Issues.completes (h : Issues s n.val x dfr access o e) (hw : want o = true) (hr : run e = .ok d) (hq : Quiet d)
    (hinc : d.inc = none) (hwait : d.wait = none) (hfin : d.fin = true) :
    ∃ t br, kwemin n x (phaseOf dfr) access want run s = t
      ∧ QuietLeft n x d t { completed { d.issuing e access with flights := (d.issuing e access).flights ++ [d.fl] } d.fl with bracket := br }
      ∧ (d.fl.dctr = none → br = (d.issuing e access).bracket ∧ t.counters = d.s.counters) := by
  obtain ⟨e1, e2, -⟩ := h.sees
  subst e2
  have hfin : finish e access (noted d e) = completeFlight ((noted d e).launched e access) e.n e.x e.slot d.fl := by
    rw [finish_quiet e access (noted d e) ⟨hq.num, hq.fault⟩]
    simp only [Done.raised, noted, hinc, hwait, hfin, if_true]
  obtain ⟨hkept, hctxs⟩ := launched_kept e access (noted d e)
  obtain ⟨hnoted, hnctx⟩ := noted_kept d e
  obtain ⟨br, hlive, hout, -⟩ := completeFlight_strm ((noted d e).launched e access) e.n e.x e.slot d.fl
  rw [launched_live, CoreCtx.strm_setStrm_self] at hlive hout
  refine ⟨_, br, h.next hw hr, ⟨?_, ?_, ?_⟩, fun hd => ⟨hout (.inl hd), ?_⟩⟩
  · rw [settle_coreOf, hfin, coreOf, ← e1, hlive, CoreCtx.setStrm_setStrm]
    rfl
  · rw [hfin]
    obtain ⟨-, hdata⟩ := hnoted.trans hkept
    simpa only [dataKept, State.settle_same, completeFlight_same] using hdata
  · rw [hfin]
    simp [hctxs, hnctx]
  · rw [hfin]
    simp [completeFlight_counters, hd, hkept.1, hnoted.1]

/-- An instruction that completes at once after its increment, with no completion counter. -/
theorem Issues.raises (h : Issues s n.val x dfr access o e) (hw : want o = true) (hr : run e = .ok d) (hq : Quiet d) {k a : Nat}
    (hinc : d.inc = some (k, a)) (hwait : d.wait = none) (hfin : d.fin = true) (hd : d.fl.dctr = none) :
    ∃ t br, kwemin n x (phaseOf dfr) access want run s = t
      ∧ QuietLeft n x d t { completed { d.issuing e access with flights := (d.issuing e access).flights ++ [d.fl] } d.fl with bracket := br }
      ∧ t.counters = (if a = 0 ∨ e.p.inBr = true ∨ (d.s.ctx e.slot).ctrFrozen e.slot k = true then d.s.counters
          else (d.s.raiseCtr ((d.s.ctx e.slot).desc.ctrBase + k) a).counters)
      ∧ (a ≠ 0 → e.p.inBr = true → ∀ b, (d.issuing e access).bracket = some b → br = some { b with held := addHeld b.held k a }) := by
  obtain ⟨e1, e2, -⟩ := h.sees
  subst e2
  have hfin : finish e access (noted d e) = completeFlight ((noted d e).raised e access) e.n e.x e.slot d.fl := by
    rw [finish_quiet e access (noted d e) ⟨hq.num, hq.fault⟩]
    simp only [noted, hwait, hfin, if_true]
  obtain ⟨hkept, hctxs⟩ := launched_kept e access (noted d e)
  obtain ⟨hnoted, hnctx⟩ := noted_kept d e
  have hctx : ((noted d e).launched e access).ctx e.slot = d.s.ctx e.slot := by rw [State.ctx, hctxs, hnctx, State.ctx]
  have hctrs : ((noted d e).launched e access).counters = d.s.counters := hkept.1.trans hnoted.1
  have hraised : (noted d e).raised e access = if a = 0 then (noted d e).launched e access
      else signal ((noted d e).launched e access) e.n e.x e.slot e.p.inBr k a := by
    simp only [Done.raised, noted, hinc]
  -- The stream and the counters after the increment.
  have hmid : ∃ br, (((noted d e).raised e access).core e.n).live
        = d.l.setStrm e.x { d.issuing e access with flights := (d.issuing e access).flights ++ [d.fl], bracket := br }
      ∧ (a ≠ 0 → e.p.inBr = true → ∀ b, (d.issuing e access).bracket = some b → br = some { b with held := addHeld b.held k a }) := by
    rw [hraised]
    split
    next h0 => exact ⟨_, launched_live e access (noted d e), fun h => absurd h0 h⟩
    next =>
      obtain ⟨br, hsig, -, hin⟩ := signal_strm ((noted d e).launched e access) e.n e.x e.slot e.p.inBr k a
      rw [launched_live, CoreCtx.strm_setStrm_self, CoreCtx.setStrm_setStrm] at hsig
      rw [launched_live, CoreCtx.strm_setStrm_self] at hin
      exact ⟨br, hsig, fun _ => hin⟩
  have hcount : ((noted d e).raised e access).counters
      = if a = 0 ∨ e.p.inBr = true ∨ (d.s.ctx e.slot).ctrFrozen e.slot k = true then d.s.counters
        else (d.s.raiseCtr ((d.s.ctx e.slot).desc.ctrBase + k) a).counters := by
    rw [hraised, ← hctrs]
    by_cases h0 : a = 0
    · rw [if_pos h0, if_pos (.inl h0)]
    · rw [if_neg h0, signal_counters, hctx, raiseCtr_counters_congr (hctxs.trans hnctx) hctrs]
      simp only [h0, false_or]
  have hdata : dataKept d.s ((noted d e).raised e access) ∧ ((noted d e).raised e access).ctxs = d.s.ctxs := by
    obtain ⟨-, hlaunched⟩ := hnoted.trans hkept
    rw [hraised]
    split
    · exact ⟨hlaunched, hctxs.trans hnctx⟩
    · exact ⟨by simpa only [dataKept, signal_same] using hlaunched, by simp [hctxs, hnctx]⟩
  obtain ⟨br, hlive, hbr⟩ := hmid
  obtain ⟨br', hdone, hout, -⟩ := completeFlight_strm ((noted d e).raised e access) e.n e.x e.slot d.fl
  rw [hlive, CoreCtx.strm_setStrm_self] at hdone hout
  refine ⟨_, br, h.next hw hr, ⟨?_, ?_, ?_⟩, ?_, hbr⟩
  · rw [settle_coreOf, hfin, coreOf, ← e1, hdone, CoreCtx.setStrm_setStrm, hout (.inl hd)]
    rfl
  · rw [hfin]
    simpa only [dataKept, State.settle_same, completeFlight_same] using hdata.1
  · rw [hfin]
    simp [hdata.2]
  · rw [hfin, ← hcount]
    simp [completeFlight_counters, hd]

end

end Sys2Proof
end

section
/-! The SYNC class (05 R168), and MERIDIAN, HALT and the LAYER class at issue (04 R135, R136; 05 R175). -/

namespace Sys2Proof

open Sys2Proof.Machine

/-! Facts about an issuing instruction -/

theorem Issues.unheld {s : State} {n : CoreId} {x : StrmId} {dfr access : Bool} {o : KwOp} {e : Env}
    (h : Issues s n.val x dfr access o e) : ((coreOf s n).strm x).heldOn e.p.kw.dfr access = none := by
  obtain ⟨i, p, hm, -, rfl, -⟩ := h
  obtain ⟨-, ht, -, -⟩ := site_facts hm.here
  have hready := hm.ready
  unfold Env.ready at hready
  simp only [Bool.and_eq_true] at hready
  have hnone : (i.t.heldOn p.kw.dfr access).isNone = true := by tauto
  rw [ht] at hnone
  exact Option.isNone_iff_eq_none.mp hnone

/-- An instruction whose operation has no completion counter completes none. -/
theorem flight_noCtr {x : StrmId} {e : Env} (hwf : e.p.kw.wf x = true) (hk : e.p.kw.op.tailKind ≠ 2) (access : Bool) :
    (e.flight access).dctr = none := by
  have hen : e.p.kw.tail.en = false := by
    unfold Kw.wf at hwf
    simp only [Bool.and_eq_true] at hwf
    obtain ⟨⟨-, htail⟩, -⟩ := hwf
    rw [decide_eq_false hk, Bool.false_or, Bool.and_eq_true, Bool.not_eq_true'] at htail
    exact htail.2
  exact if_neg (by rw [hen]; decide)

theorem take_bracket (t : Stream) {p : Pend} (access : Bool) (hpop : p.kw.tail.pop = false) : (t.take p access).bracket = t.bracket := by
  unfold Stream.take
  dsimp only
  rw [hpop]
  split <;> simp_all

section
variable {s : State} {n : CoreId} {x : StrmId} {dfr access : Bool} {o : KwOp} {e : Env}

theorem Issues.core (h : Issues s n.val x dfr access o e) : e.live = coreOf s n ∧ e.x = x ∧ e.p.kw.op = o := by
  obtain ⟨-, hx, ho, hlive, -⟩ := h.sees
  exact ⟨hlive, hx, ho⟩

end

/-! SYNC -/

theorem meetWait_meets {s : State} {n : CoreId} {x : StrmId} {dfr access : Bool} {i : Site} {w : HeldWait} (hs : site s n.val x = some i)
    (hw : i.t.heldOn dfr access = some w) (hc : w.target ≤ s.relCtr i.slot w.ctr) :
    meetWait n.val x access dfr s = s.setStream n.val x
      (if w.push then { i.t.unhold dfr access with hand := (i.t.unhold dfr access).hand.fill w.idx } else i.t.unhold dfr access) := by
  unfold meetWait
  rw [hs]
  dsimp only
  rw [hw]
  exact if_neg (Nat.not_lt.mpr hc)

theorem unhold_keeps (t : Stream) (dfr access : Bool) : (t.unhold dfr access).heldOn dfr access = none ∧ (t.unhold dfr access).hand = t.hand := by
  cases dfr <;> cases access <;> exact ⟨rfl, rfl⟩

theorem heldOn_hold (t : Stream) (dfr access : Bool) (w : HeldWait) : (t.hold dfr access w).heldOn dfr access = some w := by
  cases dfr <;> cases access <;> rfl

theorem heldOn_hand (t : Stream) (h : Handoff) (dfr access : Bool) : ({ t with hand := h } : Stream).heldOn dfr access = t.heldOn dfr access := by
  cases dfr <;> cases access <;> rfl

/-- Taking an entry and completing it leave what the sides hold. -/
theorem completed_heldOn (t : Stream) (p : Pend) (access : Bool) (l : List Flight) (f : Flight) (br : Option Machine.Bracket) (d a : Bool) :
    ({ completed { t.take p access with flights := l } f with bracket := br } : Stream).heldOn d a = t.heldOn d a := by
  cases d <;> cases a <;> rfl

theorem runWait_eq {f : WaitF} {access : Bool} {e : Env} (hi : e.chkIndex f.ctr.toNat = .ok ()) (hb : e.chkBracket false = .ok ()) :
    runWait f access e = if waitTarget f e.ctx.s.toNat e.p.loopIx ≤ e.s.relCtr e.slot f.ctr.toNat
      then .ok { s := e.s, l := e.live, fl := e.flight access, fin := true }
      else .ok { s := e.s, l := e.live, fl := e.flight access
                 wait := some { idx := e.p.idx, ctr := f.ctr.toNat, target := waitTarget f e.ctx.s.toNat e.p.loopIx, dfr := e.p.kw.dfr
                                push := e.p.kw.tail.push } } := by
  rw [runWait, hi, hb]
  rfl

theorem runInc_eq {f : IncF} {access : Bool} {e : Env} (hi : e.chkIndex f.ctr.toNat = .ok ()) (hb : e.chkBracket false = .ok ())
    (hf : (e.p.inBr && decide (f.amount ≠ 0#32) && e.heldFull f.ctr.toNat) = false) :
    runInc f access e = .ok { s := e.s, l := e.foldOut f.ctr.toNat (leBytes 4 f.amount.toNat) e.live, fl := e.flight access, fin := true
                              inc := some (f.ctr.toNat, f.amount.toNat) } := by
  rw [runInc, hi, hb, hf]
  rfl

/-- The fold of what an instruction puts out changes neither the operand store nor the array nor a stream. -/
theorem foldOut_keeps (e : Env) (a : Nat) (bs : List Byte) (l : CoreCtx) :
    storeKept l (e.foldOut a bs l) ∧ arrayKept l (e.foldOut a bs l) ∧ ∀ x, (e.foldOut a bs l).strm x = l.strm x := by
  unfold Env.foldOut
  split
  · exact ⟨⟨rfl, rfl⟩, ⟨rfl, rfl, rfl⟩, fun x => by cases x <;> rfl⟩
  · exact ⟨⟨rfl, rfl⟩, ⟨rfl, rfl, rfl⟩, fun x => rfl⟩

theorem relCtr_congr {s t : State} (hx : t.ctxs = s.ctxs) (hc : t.counters = s.counters) (slot k : Nat) : t.relCtr slot k = s.relCtr slot k := by
  unfold State.relCtr State.counter State.ctx
  rw [hx, hc]

/-- Settles O8: the issue rows through `Issues.completes`, `holds` and `raises`, the meeting of a wait through the stream it writes. -/
theorem syncComplete : Obligations.SyncComplete := by
  refine ⟨fun s n x dfr sd f e => ?_, fun s n x dfr sd i w hs hw hc => ?_,
    fun s n x dfr sd f e h hside hwf hi hb hfull => ?_, fun s n x dfr sd f e h hside hwf hb => ?_⟩
  · intro target h hside hwf hi hb
    obtain ⟨hlive, rfl, ho⟩ := h.core
    obtain ⟨-, -, -, -, hctx, -, -, hctrs, hctxs, -⟩ := h.sees
    have hrun : carryWait (Side.acc sd) e = runWait f (Side.acc sd) e := by rw [carryWait, ho]
    have hctr := flight_noCtr hwf (by simp [ho, KwOp.tailKind]) (Side.acc sd)
    rw [runWait_eq hi hb, relCtr_congr hctxs hctrs] at hrun
    by_cases hmet : target ≤ s.relCtr e.slot f.ctr.toNat
    · rw [if_pos hmet] at hrun
      obtain ⟨t, br, ht, hleft, hout⟩ := h.completes (want := isWait (Side.acc sd)) hside hrun ⟨rfl, rfl⟩ rfl rfl rfl
      refine ⟨t, congrArg Host.Outcome.next ht, ?_, ?_, hlive ▸ hleft.store⟩
      · rw [if_pos hmet, hleft.strm]
        refine (completed_heldOn _ _ _ _ _ _ _ _).trans ?_
        rw [hlive]
        exact h.unheld
      · exact h.kept.trans ⟨(hout hctr).2, hleft.data⟩
    · rw [if_neg hmet] at hrun
      obtain ⟨t, ht, hleft, hout⟩ := h.holds (want := isWait (Side.acc sd)) hside hrun ⟨rfl, rfl⟩ rfl rfl
      refine ⟨t, congrArg Host.Outcome.next ht, ?_, h.kept.trans ⟨hout, hleft.data⟩, hlive ▸ hleft.store⟩
      rw [if_neg hmet, hleft.strm, heldOn_hold]
  · have hleft := settle_setStream s n x
      (if w.push then { i.t.unhold dfr (Side.acc sd) with hand := (i.t.unhold dfr (Side.acc sd)).hand.fill w.idx } else i.t.unhold dfr (Side.acc sd))
    obtain ⟨hheld, hhand⟩ := unhold_keeps i.t dfr (Side.acc sd)
    refine ⟨_, congrArg (fun u => Host.Outcome.next (s.settle u)) (meetWait_meets hs hw hc), ?_, ?_, hleft.tiers, hleft.store, hleft.array⟩
    · rw [hleft.strm]
      split
      · rw [heldOn_hand, hheld]
      · exact hheld
    · rw [hleft.strm, ← hhand]
      cases w.push <;> rfl
  · obtain ⟨hlive, rfl, ho⟩ := h.core
    obtain ⟨-, -, -, -, hctx, -, htiers, hctrs, hctxs, hdwt, -⟩ := h.sees
    have hrun : carryInc (Side.acc sd) e = runInc f (Side.acc sd) e := by rw [carryInc, ho]
    have hctr := flight_noCtr hwf (by simp [ho, KwOp.tailKind]) (Side.acc sd)
    rw [runInc_eq hi hb hfull] at hrun
    obtain ⟨t, br, ht, hleft, hcount, hbr⟩ := h.raises (want := isInc (Side.acc sd)) hside hrun ⟨rfl, rfl⟩ rfl rfl rfl hctr
    obtain ⟨hstore, harray, hstrm⟩ := foldOut_keeps e f.ctr.toNat (leBytes 4 f.amount.toNat) e.live
    have hectx : e.s.ctx e.slot = e.ctx := by rw [State.ctx, hctxs, hctx, State.ctx]
    rw [hectx, hctrs, raiseCtr_counters_congr hctxs hctrs] at hcount
    obtain ⟨htier, hd, -⟩ := hleft.data
    obtain ⟨hs1, ha1⟩ := hleft.store
    refine ⟨t, congrArg Host.Outcome.next ht, fun hin => ?_, fun hin => ⟨?_, fun b hb' hne hpop => ?_⟩, htier.trans htiers, hd.trans hdwt, ?_, ?_⟩
    · rw [hcount, hin]
      simp only [Bool.false_eq_true, false_or]
    · rw [hcount, if_pos (.inr (.inl hin))]
    · rw [hleft.strm]
      refine hbr hne hin b ?_
      rw [Done.issuing, take_bracket _ _ hpop, hstrm, hlive, hb']
    · exact hlive ▸ ⟨hs1.1.trans hstore.1, hs1.2.trans hstore.2⟩
    · exact hlive ▸ ⟨ha1.1.trans harray.1, ha1.2.1.trans harray.2.1, ha1.2.2.trans harray.2.2⟩
  · obtain ⟨hlive, rfl, ho⟩ := h.core
    have hrun : carryToken (Side.acc sd) e = .ok { s := e.s, l := e.live, fl := e.flight (Side.acc sd), fin := true } := by
      rw [carryToken, hb]
      rfl
    obtain ⟨t, br, ht, hleft, hout⟩ := h.completes (want := isToken (Side.acc sd)) hside hrun ⟨rfl, rfl⟩ rfl rfl rfl
    have hctr := flight_noCtr hwf (by simp [ho, KwOp.tailKind]) (Side.acc sd)
    refine ⟨t, congrArg Host.Outcome.next ht, ?_, h.kept.trans ⟨(hout hctr).2, hleft.data⟩, hlive ▸ hleft.store⟩
    rw [hleft.strm, ← hlive]
    rfl

/-! MERIDIAN, HALT and the LAYER class -/

/-- Of a core state only the slots, spill slots and tiles may differ. -/
def OffArray (l m : CoreCtx) : Prop := storeKept l m ∧ ∀ x, m.strm x = l.strm x

theorem OffArray.refl (l : CoreCtx) : OffArray l l := ⟨⟨rfl, rfl⟩, fun _ => rfl⟩

theorem OffArray.trans {l m k : CoreCtx} (h : OffArray l m) (g : OffArray m k) : OffArray l k :=
  ⟨⟨g.1.1.trans h.1.1, g.1.2.trans h.1.2⟩, fun x => (g.2 x).trans (h.2 x)⟩

theorem OffArray.fold {f : CoreCtx → Nat → CoreCtx} (hf : ∀ m k, OffArray m (f m k)) (ks : List Nat) (m : CoreCtx) :
    OffArray m (ks.foldl f m) := by
  induction ks generalizing m with
  | nil => exact .refl m
  | cons k ks ih => exact (hf m k).trans (ih (f m k))

theorem offArray_setSlot (l : CoreCtx) (k : Nat) (a : AccSlot) : OffArray l (l.setSlot k a) := ⟨⟨rfl, rfl⟩, fun x => by cases x <;> rfl⟩

theorem offArray_setSpill (l : CoreCtx) (k : Nat) (a : SpillSlot) : OffArray l (l.setSpill k a) :=
  ⟨⟨rfl, rfl⟩, fun x => by cases x <;> rfl⟩

theorem offArray_markCarried (g : Grant) (l : CoreCtx) : OffArray l (markCarried g l) := by
  refine .trans (.fold (fun m k => ?_) _ l) (.fold (fun m k => ?_) _ _)
  · dsimp only
    split
    · exact .refl m
    · exact offArray_setSlot ..
  · dsimp only
    split
    · exact .refl m
    · exact offArray_setSpill ..

theorem carryMeridian_eq {e : Env} (hc : e.chkCtr = .ok ()) (hb : e.p.inBr = false) (hh : (e.live.strm e.x).hand.any = false) :
    carryMeridian e = .ok { s := e.s, l := e.live.setStrm e.x { e.live.strm e.x with atSync := true }, fl := e.flight true, fin := true } := by
  exact ok_then hc (ok_then (failIf_ok hb) (ok_then (failIf_ok hh) rfl))

theorem carryHalt_eq {e : Env} (hc : e.chkCtr = .ok ()) (hb : e.p.inBr = false) :
    carryHalt e = .ok { s := e.s, l := e.live.setStrm e.x { e.live.strm e.x with st := .halted }, fl := e.flight true, fin := true } := by
  exact ok_then hc (ok_then (failIf_ok hb) rfl)

/-- The core state in which LAYER.BEGIN has marked what it carries. -/
def begun (e : Env) : CoreCtx :=
  (markCarried e.grant e.live).setStrm e.x { (markCarried e.grant e.live).strm e.x with
    bracket := ((markCarried e.grant e.live).strm e.x).bracket.map fun b => { b with begun := true } }

theorem carryLbegin_eq {f : LayerF} {e : Env} (ho : e.p.kw.op = .lbegin f) (hb : e.p.inBr = false) (hid : f.layer ≠ 0xFFFFFFFF#32)
    (hnew : f.layer ∉ e.ctx.opened) :
    carryLbegin e = .ok { s := e.s.setCtx e.slot { e.ctx with opened := e.ctx.opened ++ [f.layer] }, l := begun e, fl := e.flight false
                          fin := true } := by
  rw [carryLbegin, ho]
  exact ok_then (failIf_ok hb) (ok_then (failIf_ok (decide_eq_false hid)) (ok_then (failIf_ok (decide_eq_false hnew)) rfl))

theorem carryLend_eq {e : Env} (hb : e.p.inBr = true) :
    carryLend e = .ok { s := e.s, fl := e.flight false
                        l := e.live.setStrm e.x { e.live.strm e.x with
                          bracket := (e.live.strm e.x).bracket.map fun b => { b with endIdx := some e.p.idx } } } := by
  exact ok_then (failIf_ok (by rw [hb]; rfl)) rfl

/-- Two core states hold the same data. -/
def DataSame (l m : CoreCtx) : Prop := storeKept l m ∧ arrayKept l m

theorem DataSame.trans {l m k : CoreCtx} (h : DataSame l m) (g : DataSame m k) : DataSame l k :=
  ⟨⟨g.1.1.trans h.1.1, g.1.2.trans h.1.2⟩, g.2.1.trans h.2.1, g.2.2.1.trans h.2.2.1, g.2.2.2.trans h.2.2.2⟩

theorem setStrm_same (l : CoreCtx) (x : StrmId) (u : Stream) : DataSame l (l.setStrm x u) := by
  obtain ⟨hacc, hspill, hos, hvregs, htiles⟩ := CoreCtx.setStrm_keeps l x u
  exact ⟨⟨hos, hvregs⟩, hacc, hspill, htiles⟩

theorem inFlight_last {n : CoreId} {x : StrmId} {access : Bool} {e : Env} {d : Done} {t : State} {l : List Flight} {u : Stream}
    (he : e.n = n.val) (hx : e.x = x) (hleft : QuietLeft n x d t { u with flights := l ++ [d.fl] }) (hidx : d.fl.idx = e.p.idx)
    (hacc : d.fl.onA = access) : inFlight e access t := by
  refine ⟨d.fl, ?_, hidx, hacc⟩
  rw [he, hx]
  change d.fl ∈ ((coreOf t n).strm x).flights
  rw [hleft.strm]
  exact List.mem_append_right _ (List.mem_singleton.mpr rfl)

/-- Settles O11: each row is the work that its checks let through, and what `Issues.completes` or `Issues.stays` says that it leaves. -/
theorem bracketRowsComplete : Obligations.BracketRowsComplete := by
  refine ⟨fun s n x dfr e h hc hb hh => ?_, fun s n x dfr e h hc hb => ?_, fun s n x dfr f e h hwf hb hid hnew => ?_,
    fun s n x dfr e b h hwf hb hbr hpop => ?_, fun s n x dfr f e h hwf => ?_⟩
  · obtain ⟨hlive, rfl, ho⟩ := h.core
    obtain ⟨t, br, ht, hleft, -⟩ := h.completes (want := isMeridian) rfl (carryMeridian_eq hc hb (hlive ▸ hh)) ⟨rfl, rfl⟩ rfl rfl rfl
    obtain ⟨-, htiers, hdwt, -⟩ := h.kept
    obtain ⟨htiers', hdwt', -⟩ := hleft.data
    refine ⟨t, congrArg Host.Outcome.next ht, ?_, htiers'.trans htiers, hdwt'.trans hdwt, hlive ▸ (setStrm_same _ _ _).trans hleft.store⟩
    rw [hleft.strm, Done.issuing, CoreCtx.strm_setStrm_self]
    rfl
  · obtain ⟨hlive, rfl, ho⟩ := h.core
    obtain ⟨t, br, ht, hleft, -⟩ := h.completes (want := isHalt) rfl (carryHalt_eq hc hb) ⟨rfl, rfl⟩ rfl rfl rfl
    obtain ⟨-, htiers, hdwt, -⟩ := h.kept
    obtain ⟨htiers', hdwt', -⟩ := hleft.data
    refine ⟨t, congrArg (fun u : State => Host.Outcome.next (u.close (haltEnds n.val u))) ht, ?_, htiers'.trans htiers, hdwt'.trans hdwt,
      hlive ▸ (setStrm_same _ _ _).trans hleft.store⟩
    rw [hleft.strm, Done.issuing, CoreCtx.strm_setStrm_self]
    rfl
  · obtain ⟨hlive, rfl, ho⟩ := h.core
    obtain ⟨t, br, ht, hleft, hout⟩ := h.completes (want := isLbegin) rfl (carryLbegin_eq ho hb hid hnew) ⟨rfl, rfl⟩ rfl rfl rfl
    obtain ⟨hbr, hctrs⟩ := hout (flight_noCtr hwf (by simp [ho, KwOp.tailKind]) false)
    obtain ⟨⟨hos, hv⟩, hacc, hspill, -⟩ := (setStrm_same (markCarried e.grant e.live) e.x _).trans hleft.store
    obtain ⟨⟨hos', hv'⟩, hstrm⟩ := offArray_markCarried e.grant e.live
    rw [hlive] at hos' hv' hacc hspill
    refine ⟨t, congrArg Host.Outcome.next ht, ?_, hacc, hspill, fun b hb' hpop => ?_, h.kept.trans ⟨hctrs, hleft.data⟩, ?_⟩
    · rw [State.ctx, hleft.ctxs]
      exact congrArg Ctx.opened (State.ctx_setCtx_self ..)
    · rw [hleft.strm]
      change br = _
      rw [hbr, Done.issuing, take_bracket _ _ hpop, begun, CoreCtx.strm_setStrm_self, hstrm, hlive, hb']
      rfl
    · exact ⟨hos.trans (hlive ▸ hos'), hv.trans (hlive ▸ hv')⟩
  · obtain ⟨hlive, rfl, ho⟩ := h.core
    obtain ⟨hn, -⟩ := h.sees
    obtain ⟨t, ht, hleft, hctrs⟩ := h.stays (want := isLend) rfl (carryLend_eq hb) ⟨rfl, rfl⟩ rfl rfl rfl
    refine ⟨t, congrArg Host.Outcome.next ht, ?_, inFlight_last hn rfl hleft rfl rfl, h.kept.trans ⟨hctrs, hleft.data⟩,
      hlive ▸ (setStrm_same _ _ _).trans hleft.store⟩
    rw [hleft.strm, Done.issuing, CoreCtx.strm_setStrm_self]
    refine (take_bracket _ _ hpop).trans ?_
    rw [hlive, hbr]
    rfl
  · obtain ⟨hlive, rfl, ho⟩ := h.core
    obtain ⟨-, -, -, -, -, -, -, -, hctxs, -⟩ := h.sees
    obtain ⟨t, br, ht, hleft, hout⟩ := h.completes (want := isSrcid) (run := carrySrcid) rfl rfl ⟨rfl, rfl⟩ rfl rfl rfl
    obtain ⟨-, hctrs⟩ := hout (flight_noCtr hwf (by simp [ho, KwOp.tailKind]) false)
    exact ⟨t, congrArg Host.Outcome.next ht, hleft.ctxs.trans hctxs, h.kept.trans ⟨hctrs, hleft.data⟩, hlive ▸ hleft.store⟩

end Sys2Proof
end

section
/-! The completion of an instruction, the fault of a context, nova events and ageing (04 R126, R129, R134; 03 R102 to R107). -/

namespace Sys2Proof

open Sys2Proof.Machine

/-! Completion -/

theorem instructionComplete_plain {s : State} {n : CoreId} {x : StrmId} {k : Nat} {i : Site} {f : Flight} (hs : site s n.val x = some i)
    (hf : i.t.flights.find? (fun g => decide (g.idx = k)) = some f) (hb : ∀ b, i.t.bracket = some b → b.endIdx ≠ some k)
    (hd : ∀ d ∈ i.t.spills, d.idx ≠ k) : instructionComplete n.val x k s = completeFlight s n.val x i.slot f := by
  have hspill : (i.t.spills.any fun d => decide (d.idx = k)) = false := by
    rw [List.any_eq_false]
    exact fun d hmem => by rw [decide_eq_false (hd d hmem)]; decide
  unfold instructionComplete
  rw [hs]
  dsimp only
  rw [hf]
  dsimp only
  cases hbr : i.t.bracket with
  | none => exact if_neg (by rw [hspill]; decide)
  | some b =>
    dsimp only
    rw [if_neg (hb b hbr)]
    exact if_neg (by rw [hspill]; decide)

theorem instructionComplete_commits {s : State} {n : CoreId} {x : StrmId} {k : Nat} {i : Site} {f : Flight} {b : Machine.Bracket}
    (hs : site s n.val x = some i) (hf : i.t.flights.find? (fun g => decide (g.idx = k)) = some f) (hb : i.t.bracket = some b)
    (hend : b.endIdx = some k) (hdone : i.t.bracketDone k = true) : instructionComplete n.val x k s = commitBracket n.val x i b k s := by
  unfold instructionComplete
  rw [hs]
  dsimp only
  rw [hf]
  dsimp only
  rw [hb]
  dsimp only
  rw [if_pos hend, if_pos hdone]

/-- The core state of a committed bracket. -/
def committed (n : Nat) (x : StrmId) (i : Site) (k : Nat) : CoreCtx :=
  (clearCarried ((i.ctx.desc.core n).grant x) i.core.live).setStrm x
    { i.t with bracket := none, flights := i.t.flights.filter fun f => decide (f.idx ≠ k) }

theorem commitBracket_eq (n : Nat) (x : StrmId) (i : Site) (b : Machine.Bracket) (k : Nat) (s : State) : commitBracket n x i b k s
    = releaseHeld i.ctx.desc.ctrBase (b.held.filter fun p => !i.ctx.ctrFrozen i.slot p.1)
        (s.setCore n { i.core with live := committed n x i k }) := rfl

/-- Releasing held amounts changes counters alone of what a core, the tiers and the contexts hold. -/
theorem releaseHeld_keeps (base : Nat) (l : List (Nat × Nat)) (s : State) :
    (releaseHeld base l s).cores = s.cores ∧ (releaseHeld base l s).tiers = s.tiers ∧ (releaseHeld base l s).ctxs = s.ctxs := by
  induction l generalizing s with
  | nil => exact ⟨rfl, rfl, rfl⟩
  | cons p l ih =>
    obtain ⟨h1, h2, h3⟩ := ih (s.raiseCtr (base + p.1) p.2)
    exact ⟨h1.trans (by simp), h2.trans (by simp), h3.trans (by simp)⟩

theorem releaseHeld_congr (base : Nat) (l : List (Nat × Nat)) {s t : State} (hx : s.ctxs = t.ctxs) (hc : s.counters = t.counters) :
    (releaseHeld base l s).counters = (releaseHeld base l t).counters := by
  induction l generalizing s t with
  | nil => exact hc
  | cons p l ih => exact ih (by simp [hx]) (raiseCtr_counters_congr hx hc _ _)

theorem offArray_clearCarried (g : Grant) (l : CoreCtx) : OffArray l (clearCarried g l) := by
  refine .trans (.fold (fun m k => ?_) _ l) (.fold (fun m k => ?_) _ _)
  · dsimp only
    split
    · exact offArray_setSlot ..
    · exact .refl m
  · dsimp only
    split
    · exact offArray_setSpill ..
    · exact .refl m

theorem offArray_rewindSlots (g : Grant) (x : StrmId) (l : CoreCtx) : OffArray l (rewindSlots g x l) := by
  have tile : ∀ (m : CoreCtx) (k : Nat), OffArray m (m.setTile x k none) := fun m k => ⟨⟨rfl, rfl⟩, fun y => by cases y <;> rfl⟩
  refine .trans (.fold (fun m k => ?_) _ l) (.trans (.fold (fun m k => ?_) _ _) (.trans (tile _ 0) (tile _ 1)))
  · split
    · exact offArray_setSlot ..
    · exact .refl m
  · split
    · exact offArray_setSpill ..
    · exact .refl m

/-! A context fault -/

theorem contextFault_faults {s : State} {n : CoreId} {x : StrmId} {i : Site} {f : FaultRec} (hs : site s n.val x = some i)
    (hf : i.t.fault = some f) (hslot : i.slot ≠ replaySlot) (hst : i.ctx.st = .running) (hd : i.t.drained = true)
    (hn : s.noFlights i.slot = true) :
    contextFault n.val x s
      = faultNow i.slot causeProgram n.val (strmTag x) f.code.name (s.setStream n.val x { i.t with st := .faulted }) := by
  unfold contextFault
  rw [hs]
  dsimp only
  rw [hf]
  dsimp only
  rw [if_neg hslot, hst, hd, hn]
  rfl

/-- The context as its fault leaves it. -/
def faultedCtx (s : State) (slot cause core strm : Nat) : Ctx :=
  { s.ctx slot with st := .faulted, faulting := true, cause := cause, faultCore := core, faultStream := strm
                    logSeq := BitVec.ofNat 64 s.mgt.nextSeq }

theorem faultNow_ctx (s : State) (slot cause core strm : Nat) (name : String) (hn : (s.ctx slot).st ≠ .none) (hf : (s.ctx slot).st ≠ .faulted) :
    ∃ l, faultNow slot cause core strm name s = (s.setCtx slot (faultedCtx s slot cause core strm)).logEv l :=
  ⟨_, if_neg (not_or.mpr ⟨hn, hf⟩)⟩

theorem logEv_kept (s : State) (e : LogEnt) : tiersKept s (s.logEv e) ∧ (s.logEv e).ctxs = s.ctxs := by
  simp [tiersKept, dataKept]

/-! Nova events and ageing -/

theorem novaEvent_rewinds {s : State} {n : CoreId} {x : StrmId} {i : Site} {v : NovaRec} {b : Machine.Bracket} (hs : site s n.val x = some i)
    (hst : i.ctx.st ≠ .eclipse) (hv : i.t.nova = some v) (hb : i.t.bracket = some b) (hd : i.t.drained = true) :
    ∃ l, novaEvent n.val x s = (((s.setCore n.val { i.core with
      live := (rewindSlots ((i.ctx.desc.core n).grant x) x i.core.live).setStrm x (i.t.rewind b) }).setCtx i.slot
        (i.ctx.addRaise v.layer v.cls v.newFmt)).logEv l) := by
  unfold novaEvent
  rw [hs]
  dsimp only
  rw [if_neg hst, hv, hb]
  dsimp only
  rw [hd]
  exact ⟨_, if_neg (by decide)⟩

theorem mem_insertNew {α : Type} [DecidableEq α] (a : α) (l : List α) : a ∈ insertNew a l := by
  unfold insertNew
  split
  next h => exact h
  next => exact List.mem_append_right _ (List.mem_singleton.mpr rfl)

theorem find_idx {l : List Flight} {k : Nat} {f : Flight} (h : l.find? (fun g => decide (g.idx = k)) = some f) : f.idx = k :=
  of_decide_eq_true (p := f.idx = k) (List.find?_some (p := fun g : Flight => decide (g.idx = k)) h)

/-- Settles O12: each row is an equation for its function, read through the laws of completion, of the log and of one stream. -/
theorem completionsAndRewinds : Obligations.CompletionsAndRewinds := by
  refine ⟨fun s n x k i f hs hf hb hd => ?_, fun s n x k i f b hs hf hb hend hdone => ?_, fun s n x i f hs hf hslot hst hd hn => ?_,
    fun s n x i v b hs hst hv hb hd => ?_, fun s n x i hs hst hr => ?_, fun s n k u hready => ?_⟩
  · obtain ⟨-, ht, hctx, -⟩ := site_facts hs
    obtain ⟨br, hlive, hout, hin⟩ := completeFlight_strm s n.val x i.slot f
    have hidx := find_idx hf
    rw [← ht] at hlive hout hin
    have hcore : coreOf (s.settle (completeFlight s n.val x i.slot f)) n
        = (s.core n.val).live.setStrm x { completed i.t f with bracket := br } := by rw [settle_coreOf, coreOf, hlive]
    have hctrs := completeFlight_counters s n.val x i.slot f
    rw [← hctx] at hctrs
    refine ⟨_, congrArg (fun u => Host.Outcome.next (s.settle u)) (instructionComplete_plain hs hf hb hd), ?_, ?_, fun hnone => ⟨?_, ?_⟩,
      fun c hc hbr hfroz => ?_, fun c b hc hbr hsome => ⟨?_, ?_⟩, by simp, ?_⟩
    · rw [hcore, CoreCtx.strm_setStrm_self, ← hidx]
      rfl
    · rw [hcore, CoreCtx.strm_setStrm_self, ← hidx]
      rfl
    · simp [hctrs, hnone]
    · rw [hcore, CoreCtx.strm_setStrm_self]
      exact hout (.inl hnone)
    · simp [hctrs, hc, hbr, hfroz]
    · simp [hctrs, hc, hbr]
    · rw [hcore, CoreCtx.strm_setStrm_self]
      exact hin c b hc hbr hsome
    · rw [hcore]
      exact setStrm_same _ _ _
  · obtain ⟨hc, -, hctx, -⟩ := site_facts hs
    obtain ⟨hcores, htiers, -⟩ := releaseHeld_keeps i.ctx.desc.ctrBase (b.held.filter fun p => !i.ctx.ctrFrozen i.slot p.1)
      (s.setCore n.val { i.core with live := committed n.val x i k })
    have hcore : coreOf (s.settle (commitBracket n.val x i b k s)) n = committed n.val x i k := by
      rw [settle_coreOf, coreOf, commitBracket_eq, core_of_cores hcores, State.core_setCore_self]
    obtain ⟨hacc, -, hos, hvregs, -⟩ := CoreCtx.setStrm_keeps (clearCarried ((i.ctx.desc.core n.val).grant x) i.core.live) x
      { i.t with bracket := none, flights := i.t.flights.filter fun f => decide (f.idx ≠ k) }
    obtain ⟨⟨hos', hvregs'⟩, -⟩ := offArray_clearCarried ((i.ctx.desc.core n.val).grant x) i.core.live
    refine ⟨_, congrArg (fun u => Host.Outcome.next (s.settle u)) (instructionComplete_commits hs hf hb hend hdone), ?_, ?_, ?_, ?_, ?_, ?_⟩
    · rw [hcore, committed, CoreCtx.strm_setStrm_self]
    · rw [commitBracket_eq]
      simpa using releaseHeld_congr _ _ (by simp) (by simp)
    · rw [commitBracket_eq]
      simpa using htiers
    · rw [hcore, committed, hacc, hc]
      rfl
    · rw [hcore, committed, hos, hos', hc]
      rfl
    · rw [hcore, committed, hvregs, hvregs', hc]
      rfl
  · obtain ⟨-, -, hctx, -⟩ := site_facts hs
    have hleft := setStream_only s n x { i.t with st := .faulted }
    have hctx' : (s.setStream n.val x { i.t with st := .faulted }).ctx i.slot = i.ctx := by
      rw [State.ctx, hleft.ctxs, hctx, State.ctx]
    obtain ⟨l, hl⟩ := faultNow_ctx (s.setStream n.val x { i.t with st := .faulted }) i.slot causeProgram n.val (strmTag x) f.code.name
      (by rw [hctx', hst]; decide) (by rw [hctx', hst]; decide)
    refine ⟨_, congrArg (fun u => Host.Outcome.next (s.close u)) ((contextFault_faults hs hf hslot hst hd hn).trans hl), ?_⟩
    obtain ⟨hkept, hctxs⟩ := logEv_kept ((s.setStream n.val x { i.t with st := .faulted }).setCtx i.slot
      (faultedCtx (s.setStream n.val x { i.t with st := .faulted }) i.slot causeProgram n.val (strmTag x))) l
    have hfaulted : ((((s.setStream n.val x { i.t with st := .faulted }).setCtx i.slot
        (faultedCtx (s.setStream n.val x { i.t with st := .faulted }) i.slot causeProgram n.val (strmTag x))).logEv l).ctx i.slot)
        = faultedCtx (s.setStream n.val x { i.t with st := .faulted }) i.slot causeProgram n.val (strmTag x) := by
      rw [State.ctx, hctxs]
      exact State.ctx_setCtx_self ..
    rw [hfaulted, coreOf, core_logEv, State.core_setCtx]
    refine ⟨rfl, rfl, rfl, rfl, ?_, rfl, hleft.tiers.trans (tiersKept.trans ⟨rfl, rfl, rfl, rfl, rfl, rfl, rfl, rfl⟩ hkept)⟩
    exact congrArg Stream.st hleft.strm
  · obtain ⟨hc, -, hctx, -⟩ := site_facts hs
    obtain ⟨l, hl⟩ := novaEvent_rewinds hs hst hv hb hd
    obtain ⟨hacc, -, hos, hvregs, -⟩ := CoreCtx.setStrm_keeps (rewindSlots ((i.ctx.desc.core n.val).grant x) x i.core.live) x (i.t.rewind b)
    obtain ⟨⟨hos', hvregs'⟩, -⟩ := offArray_rewindSlots ((i.ctx.desc.core n.val).grant x) x i.core.live
    have hcore : coreOf (s.settle (novaEvent n.val x s)) n
        = (rewindSlots ((i.ctx.desc.core n.val).grant x) x i.core.live).setStrm x (i.t.rewind b) := by
      rw [settle_coreOf, hl, coreOf, core_logEv, State.core_setCtx, State.core_setCore_self]
    obtain ⟨hkept, hctxs⟩ := logEv_kept ((s.setCore n.val { i.core with
      live := (rewindSlots ((i.ctx.desc.core n.val).grant x) x i.core.live).setStrm x (i.t.rewind b) }).setCtx i.slot
        (i.ctx.addRaise v.layer v.cls v.newFmt)) l
    have hstrm : (coreOf (s.settle (novaEvent n.val x s)) n).strm x = i.t.rewind b := by rw [hcore, CoreCtx.strm_setStrm_self]
    refine ⟨_, rfl, hstrm, ?_, ?_, ?_, ?_, ?_, ?_, ?_, ?_⟩
    · rw [hstrm]
      rfl
    · rw [hstrm]
      rfl
    · rw [hstrm]
      rfl
    · rw [hstrm]
      rfl
    · rw [State.settle_ctx, hl, State.ctx, hctxs]
      exact State.ctx_setCtx_self ..
    · rw [hcore, hacc, hc]
      rfl
    · rw [hl]
      exact (tiersKept.trans ⟨rfl, rfl, rfl, rfl, rfl, rfl, rfl, rfl⟩ hkept).trans (settle_kept s _).1
    · rw [hcore]
      exact ⟨hos.trans (hos'.trans (by rw [hc]; rfl)), hvregs.trans (hvregs'.trans (by rw [hc]; rfl))⟩
  · have hleft := settle_setStream s n x { i.t with rerun := false }
    have hrerun : novaRerun n.val x s = s.setStream n.val x { i.t with rerun := false } := by
      unfold novaRerun
      rw [hs]
      exact if_pos (by rw [hr]; simpa using hst)
    exact ⟨_, congrArg (fun u => Host.Outcome.next (s.settle u)) hrerun, hleft.strm, hleft.ctxs, hleft.tiers, hleft.store, hleft.array⟩
  · refine ⟨_, congrArg Host.Outcome.next (if_pos hready), ?_, ?_, rfl, ⟨rfl, rfl, rfl, rfl, rfl, rfl, rfl, rfl⟩⟩
    · rw [State.core_setCore_self]
      exact mem_insertNew ..
    · rw [coreOf, State.core_setCore_self, coreOf]

end Sys2Proof
end

section
/-! The fault of an instruction: what raising it leaves (04 R134, 02 R80). -/

namespace Sys2Proof

open Sys2Proof.Machine

/-- The stream as a stop at `idx` leaves it. -/
def stopped (t : Stream) (idx : Nat) : Stream :=
  { t with
    q := t.q.filter fun p => decide (p.idx < idx)
    dq := t.dq.filter fun p => decide (p.idx < idx)
    flights := t.flights.filter fun f => decide (f.idx < idx)
    spills := t.spills.filter fun d => decide (d.idx < idx)
    heldA := Machine.Stream.heldBefore t.heldA idx
    heldE := Machine.Stream.heldBefore t.heldE idx
    dheldA := Machine.Stream.heldBefore t.dheldA idx
    dheldE := Machine.Stream.heldBefore t.dheldE idx
    hand := t.hand.keep fun k => decide (k.idx < idx)
    atSync := false }

theorem stopAt_strm (s : State) (l : CoreCtx) (x : StrmId) (idx : Nat) : (stopAt s l x idx).2.strm x = stopped (l.strm x) idx :=
  CoreCtx.strm_setStrm_self ..

/-- With nothing later in flight a stop discards no result. -/
theorem stopAt_last {s : State} {l : CoreCtx} {x : StrmId} {idx : Nat} (h : ∀ g ∈ (l.strm x).flights, g.idx ≤ idx) :
    stopAt s l x idx = (s, l.setStrm x (stopped (l.strm x) idx)) := by
  have hnone : (l.strm x).flights.filter (fun f => decide (idx < f.idx)) = [] := by
    rw [List.filter_eq_nil_iff]
    exact fun g hg => by rw [decide_eq_false (Nat.not_lt.mpr (h g hg))]; decide
  unfold stopAt
  dsimp only
  rw [hnone]
  rfl

theorem errCore_kept (s : State) (n k : Nat) : (s.errCore n k).ctxs = s.ctxs ∧ (s.errCore n k).tiers = s.tiers := by simp

/-- What a fault that is the first of its stream leaves. -/
structure Raised (s t : State) (n : Nat) (x : StrmId) (slot idx : Nat) (code : FaultCode) : Prop where
  live : (t.core n).live = (stopAt s (s.core n).live x idx).2.setStrm x
    { stopped ((s.core n).live.strm x) idx with fault := some { code := code, idx := idx }, nova := none }
  faulting : (t.ctx slot).faulting = true
  tiers : t.tiers = (stopAt s (s.core n).live x idx).1.tiers
  kept : t.counters = s.counters ∧ t.dwt = s.dwt ∧ t.col = s.col

/-- The stream stopped, its fault recorded and its context faulting. -/
def faultedState (s : State) (n : Nat) (x : StrmId) (slot idx : Nat) (code : FaultCode) : State :=
  let r := stopAt s (s.core n).live x idx
  let s1 := r.1.setCore n { r.1.core n with
    live := r.2.setStrm x { r.2.strm x with fault := some { code := code, idx := idx }, nova := none } }
  s1.setCtx slot { s1.ctx slot with faulting := true }

theorem faultedState_raised (s : State) (n : Nat) (x : StrmId) (slot idx : Nat) (code : FaultCode) :
    Raised s (faultedState s n x slot idx code) n x slot idx code := by
  refine ⟨?_, by rw [faultedState, State.ctx_setCtx_self], rfl, by simp [faultedState]⟩
  rw [faultedState, State.core_setCtx, State.core_setCore_self]
  dsimp only
  rw [stopAt_strm]

theorem raiseFault_eq {s : State} {n : Nat} {x : StrmId} (slot idx : Nat) (code : FaultCode) (h : ((s.core n).live.strm x).fault = none) :
    raiseFault s n x slot idx code = match code with
      | .sramUe .acc => (faultedState s n x slot idx code).errCore n 3
      | .sramUe .os => (faultedState s n x slot idx code).errCore n 1
      | .nearTag => (faultedState s n x slot idx code).tagViolation slot
      | _ => faultedState s n x slot idx code := by
  unfold raiseFault
  refine (if_neg ?_).trans rfl
  rw [h]
  exact Bool.false_ne_true

/-- Only cores, the log and the security part differ after a fault is flagged. -/
theorem Raised.flagged {s t u : State} {n : Nat} {x : StrmId} {slot idx : Nat} {code : FaultCode} (h : Raised s t n x slot idx code)
    (hlive : (u.core n).live = (t.core n).live) (hctxs : u.ctxs = t.ctxs) (htiers : u.tiers = t.tiers) (hctrs : u.counters = t.counters)
    (hdwt : u.dwt = t.dwt) (hcol : u.col = t.col) : Raised s u n x slot idx code := by
  obtain ⟨hc, hd, hl⟩ := h.kept
  refine ⟨hlive.trans h.live, ?_, htiers.trans h.tiers, hctrs.trans hc, hdwt.trans hd, hcol.trans hl⟩
  rw [State.ctx, hctxs]
  exact h.faulting

theorem raiseFault_raised {s : State} {n : Nat} {x : StrmId} (slot idx : Nat) (code : FaultCode) (h : ((s.core n).live.strm x).fault = none) :
    Raised s (raiseFault s n x slot idx code) n x slot idx code := by
  have hfirst := faultedState_raised s n x slot idx code
  rw [raiseFault_eq slot idx code h]
  generalize faultedState s n x slot idx code = t at hfirst
  split
  · exact hfirst.flagged (errCore_live ..) (by simp) (by simp) (by simp) (by simp) (by simp)
  · exact hfirst.flagged (errCore_live ..) (by simp) (by simp) (by simp) (by simp) (by simp)
  · exact hfirst.flagged (by rw [core_of_cores (s := t) (by simp)]) (by simp) (by simp) (by simp) (by simp) (by simp)
  · exact hfirst

/-! Where the commands raise it -/

/-- The state in which a failed check raises its fault: the grant is taken, and uncorrectable errors that were met are noted. -/
def faultsIn (e : Env) (f : FaultCode) : State :=
  match f with
  | .sramUe _ => e.s.noteSram e.n (e.ctx.desc.core e.n).bankBase (e.met.filter (·.ue))
  | _ => e.s

theorem faultsIn_kept (e : Env) (f : FaultCode) : tiersKept e.s (faultsIn e f) ∧ ((faultsIn e f).core e.n).live = (e.s.core e.n).live := by
  unfold faultsIn
  split
  · exact ⟨by simp [tiersKept, dataKept], noteSram_live ..⟩
  · exact ⟨⟨rfl, rfl, rfl, rfl, rfl, rfl, rfl, rfl⟩, rfl⟩

section
variable {s : State} {n : CoreId} {x : StrmId} {dfr access : Bool} {i : Site} {p : Pend} {want : KwOp → Bool} {run : Env → Except FaultCode Done}

theorem kwemin_issue_eq (h : MayIssue s n.val x dfr access i p) (hw : want p.kw.op = true) :
    kwemin n x (phaseOf dfr) access want run s = s.settle (match run (issueEnv s n.val x dfr access i p) with
      | .error f => raiseFault (faultsIn (issueEnv s n.val x dfr access i p) f) n.val x i.slot p.idx f
      | .ok d => if cleanLanes (issueEnv s n.val x dfr access i p) = true
          then finish (issueEnv s n.val x dfr access i p) access (noted d (issueEnv s n.val x dfr access i p))
          else raiseFault (faultsIn (issueEnv s n.val x dfr access i p) (.sramUe .vec)) n.val x i.slot p.idx (.sramUe .vec)) := by
  have key : issue n.val x dfr access want run s = match run (issueEnv s n.val x dfr access i p) with
      | .error f => raiseFault (faultsIn (issueEnv s n.val x dfr access i p) f) n.val x i.slot p.idx f
      | .ok d => if cleanLanes (issueEnv s n.val x dfr access i p) = true
          then finish (issueEnv s n.val x dfr access i p) access (noted d (issueEnv s n.val x dfr access i p))
          else raiseFault (faultsIn (issueEnv s n.val x dfr access i p) (.sramUe .vec)) n.val x i.slot p.idx (.sramUe .vec) := by
    unfold issue
    simp only [h.here, h.clear, h.head, hw, h.ready, h.grant, Bool.not_true, Bool.and_self, Bool.false_eq_true, if_false]
    change (match run (issueEnv s n.val x dfr access i p) with | .error f => _ | .ok d => _) = _
    cases run (issueEnv s n.val x dfr access i p) with
    | error f => cases f <;> rfl
    | ok d =>
      unfold cleanLanes
      change (if ((issueEnv s n.val x dfr access i p).met.any fun y => y.ue && decide (y.mem = .vec)) = true then _ else _) = _
      cases (issueEnv s n.val x dfr access i p).met.any fun y => y.ue && decide (y.mem = .vec) <;> rfl
  unfold kwemin
  cases dfr with
  | false => simp only [phaseOf, Bool.false_eq_true, if_false]; rw [key]
  | true => simp only [phaseOf, if_true, h.onB rfl]; rw [← h.onB rfl, key]

end

theorem Raised.settle {s t r : State} {n : Nat} {x : StrmId} {slot idx : Nat} {code : FaultCode} (h : Raised s t n x slot idx code) :
    Raised s (r.settle t) n x slot idx code :=
  h.flagged (by rw [State.settle_core]) (by simp) (by simp) (by simp) (by simp) (by simp)

/-- The queues keep nothing from the fault on. -/
theorem Raised.queues {s t : State} {n : CoreId} {x : StrmId} {slot idx : Nat} {code : FaultCode} (h : Raised s t n.val x slot idx code) :
    ((coreOf t n).strm x).fault = some { code := code, idx := idx } ∧ (∀ p ∈ ((coreOf t n).strm x).q, p.idx < idx)
      ∧ ∀ p ∈ ((coreOf t n).strm x).dq, p.idx < idx := by
  have hstrm : (coreOf t n).strm x
      = { stopped ((s.core n.val).live.strm x) idx with fault := some { code := code, idx := idx }, nova := none } := by
    rw [coreOf, h.live, CoreCtx.strm_setStrm_self]
  rw [hstrm]
  exact ⟨rfl, fun p hp => of_decide_eq_true (List.mem_filter.mp hp).2, fun p hp => of_decide_eq_true (List.mem_filter.mp hp).2⟩

/-- With nothing later in flight the data of the tiers and of the core stay. -/
theorem Raised.last {s t : State} {n : CoreId} {x : StrmId} {slot idx : Nat} {code : FaultCode} (h : Raised s t n.val x slot idx code)
    (hlast : ∀ g ∈ ((coreOf s n).strm x).flights, g.idx ≤ idx) : t.tiers = s.tiers ∧ DataSame (coreOf s n) (coreOf t n) := by
  have hlive := h.live
  have htiers := h.tiers
  rw [show stopAt s (s.core n.val).live x idx = _ from stopAt_last hlast] at hlive htiers
  refine ⟨htiers, ?_⟩
  rw [coreOf, coreOf, hlive]
  exact (setStrm_same _ _ _).trans (setStrm_same _ _ _)

/-- The commands of an instruction that may issue raise the fault of its work. -/
theorem issue_raises {s : State} {n : CoreId} {x : StrmId} {dfr access : Bool} {i : Site} {p : Pend} {want : KwOp → Bool}
    {run : Env → Except FaultCode Done} {f : FaultCode} (h : MayIssue s n.val x dfr access i p) (hw : want p.kw.op = true)
    (hnone : ((coreOf s n).strm x).fault = none)
    (hr : run (issueEnv s n.val x dfr access i p) = .error f
      ∨ f = .sramUe .vec ∧ cleanLanes (issueEnv s n.val x dfr access i p) = false ∧ ∃ d, run (issueEnv s n.val x dfr access i p) = .ok d) :
    ∃ t u, kwemin n x (phaseOf dfr) access want run s = t ∧ Raised u t n.val x i.slot p.idx f ∧ tiersKept s u
      ∧ (u.core n.val).live = (s.core n.val).live := by
  have hraise : kwemin n x (phaseOf dfr) access want run s
      = s.settle (raiseFault (faultsIn (issueEnv s n.val x dfr access i p) f) n.val x i.slot p.idx f) := by
    rw [kwemin_issue_eq h hw]
    rcases hr with hr | ⟨rfl, hlanes, d, hr⟩
    · rw [hr]
    · rw [hr, hlanes]
      rfl
  obtain ⟨hkept, hlive⟩ := faultsIn_kept (issueEnv s n.val x dfr access i p) f
  have hage : tiersKept s (issueEnv s n.val x dfr access i p).s ∧ ((issueEnv s n.val x dfr access i p).s.core n.val).live = (s.core n.val).live := by
    refine ⟨?_, (clearAge_core _ _ _ _ _ _ _).1⟩
    unfold tiersKept dataKept issueEnv clearAge
    dsimp only
    split <;> exact ⟨rfl, rfl, rfl, rfl, rfl, rfl, rfl, rfl⟩
  have hsame : ((faultsIn (issueEnv s n.val x dfr access i p) f).core n.val).live = (s.core n.val).live := hlive.trans hage.2
  refine ⟨_, _, hraise, (raiseFault_raised i.slot p.idx f ?_).settle, hage.1.trans hkept, hsame⟩
  rw [hsame]
  exact hnone

/-- Settles O7: where a command raises a fault, and what `raiseFault` leaves, whatever the instruction. -/
theorem failedCheckFaults : Obligations.FailedCheckFaults := by
  refine ⟨fun s n x dfr sd o e c f h hc hr hnone => ?_, fun s n x dfr sd i p c d => ?_, fun s n x sd o i c f hs hopen htrain hc hword => ?_⟩
  · obtain ⟨want, run, hexec, hwant, hrun⟩ := kwCommand_exec hc
    obtain ⟨i, p, hmay, ho, rfl, -⟩ := h
    obtain ⟨t, u, ht, hraised, ⟨hctrs, htiers, hdwt, hcol, -⟩, hlive⟩ := issue_raises hmay (want := want) (by rw [ho]; exact hwant) hnone
      (.inl ((hrun _ ho).trans hr))
    have hcore : coreOf u n = coreOf s n := hlive
    obtain ⟨hc', hd', hl'⟩ := hraised.kept
    obtain ⟨hfault, hq, hdq⟩ := hraised.queues
    refine ⟨t, (hexec s).trans (congrArg _ ht), hfault, hraised.faulting, hq, hdq, hc'.trans hctrs, hd'.trans hdwt,
      hl'.trans hcol, fun hlast => ?_⟩
    obtain ⟨htier, hdata⟩ := hraised.last (by rw [hcore]; exact hlast)
    exact ⟨htier.trans htiers, hcore ▸ hdata⟩
  · intro e hmay hc hlanes hr hnone
    obtain ⟨want, run, hexec, hwant, hrun⟩ := kwCommand_exec hc
    obtain ⟨t, u, ht, hraised, ⟨hctrs, -, hdwt, hcol, -⟩, -⟩ := issue_raises hmay hwant hnone
      (.inr ⟨rfl, hlanes, d, (hrun e rfl).trans hr⟩)
    obtain ⟨hc', hd', hl'⟩ := hraised.kept
    exact ⟨t, (hexec s).trans (congrArg _ ht), hraised.queues.1, hraised.faulting, hc'.trans hctrs, hd'.trans hdwt, hl'.trans hcol⟩
  · obtain ⟨want, run, hexec, hwant, -⟩ := kwCommand_exec hc
    have hfetch : fetchDecode s i x want = .error f := by
      unfold fetchDecode
      rw [htrain, if_neg Bool.false_ne_true]
      rcases hword with hf | ⟨w, hf, hdec, hread | hread⟩
      · rw [hf]
      · rw [hf]
        dsimp only
        rw [hread]
        dsimp only
        rw [hwant, hdec]
        rfl
      · rw [hf]
        dsimp only
        rw [hread, hdec]
        rfl
    have hdispatch : dispatch n.val x want s = raiseFault s n.val x i.slot i.t.next f := by
      unfold dispatch
      rw [hs]
      dsimp only
      rw [hopen, hfetch]
      rfl
    obtain ⟨-, ht, -, -⟩ := site_facts hs
    have hnone : ((s.core n.val).live.strm x).fault = none := by
      rw [← ht]
      unfold Site.open_ at hopen
      simp only [Bool.and_eq_true, Option.isNone_iff_eq_none] at hopen
      tauto
    have hraised := (raiseFault_raised i.slot i.t.next f hnone).settle (r := s)
    obtain ⟨hc', hd', hl'⟩ := hraised.kept
    exact ⟨_, (hexec s).trans (congrArg (fun u => Host.Outcome.next (s.settle u)) hdispatch), hraised.queues.1, hraised.faulting, hc', hd', hl'⟩

end Sys2Proof
end

section
/-! The acceptance of a collective (05 R169, 09 R273, R276). -/

namespace Sys2Proof

open Sys2Proof.Machine

theorem readPMap_ctxs {slot va : Nat} {s u : State} {m : PMap} (h : readPMap slot va s = .ok u m) : u.ctxs = s.ctxs := by
  unfold readPMap at h
  dsimp only at h
  repeat (replace h := PMapOut.ite_ok (by simp) h)
  injection h with h _
  subst h
  simp

/-- The parameter map of an accepted collective: the step's where it has one or needs none, else one that is read now. -/
theorem takeMap_accepts {op : Nat} {e : Env} {d : CollDesc} {s : State}
    (h : op = 3 ∨ d.pmapVa = 0 ∨ (∃ m, (s.ctx e.slot).pmap = some m ∧ m.va = d.pmapVa)
      ∨ (s.ctx e.slot).pmap = none ∧ ∃ u m, readPMap e.slot d.pmapVa s = .ok u m) :
    ∃ u m, takeMap op e d s = .ok (acceptColl e d u m) ∧ u.ctxs = s.ctxs ∧ u.counters = s.counters
      ∧ (op ≠ 3 → d.pmapVa ≠ 0 → ∃ k, m = some k) ∧ (op = 3 ∨ d.pmapVa = 0 ∨ (s.ctx e.slot).pmap ≠ none → m = (s.ctx e.slot).pmap) := by
  have own : op = 3 ∨ d.pmapVa = 0 → ∃ u m, takeMap op e d s = .ok (acceptColl e d u m) ∧ u.ctxs = s.ctxs ∧ u.counters = s.counters
      ∧ (op ≠ 3 → d.pmapVa ≠ 0 → ∃ k, m = some k) ∧ (op = 3 ∨ d.pmapVa = 0 ∨ (s.ctx e.slot).pmap ≠ none → m = (s.ctx e.slot).pmap) :=
    fun ho => ⟨s, _, if_pos ho, rfl, rfl, fun h3 h0 => absurd ho (not_or.mpr ⟨h3, h0⟩), fun _ => rfl⟩
  by_cases ho : op = 3 ∨ d.pmapVa = 0
  · exact own ho
  rcases h with h | h | ⟨m, hm, hva⟩ | ⟨hnone, u, m, hread⟩
  · exact own (.inl h)
  · exact own (.inr h)
  · refine ⟨s, (s.ctx e.slot).pmap, ?_, rfl, rfl, fun _ _ => ⟨m, hm⟩, fun _ => rfl⟩
    refine (if_neg ho).trans ?_
    rw [hm]
    exact if_pos hva
  · obtain ⟨-, -, -, -, -, -, -, hctrs, -⟩ := readPMap_same _ _ _ hread
    refine ⟨u, some m, ?_, readPMap_ctxs hread, hctrs, fun _ _ => ⟨m, rfl⟩, fun h => ?_⟩
    · refine (if_neg ho).trans ?_
      rw [hnone]
      dsimp only
      rw [hread]
    · rcases h with h | h | h
      · exact absurd (.inl h) ho
      · exact absurd (.inr h) ho
      · exact absurd hnone h

theorem acceptColl_ctx (e : Env) (d : CollDesc) (u : State) (m : Option PMap) :
    ((acceptColl e d u m).s.ctx e.slot).colls
        = (if e.slot = replaySlot then (u.ctx e.slot).colls else (u.ctx e.slot).colls ++ [{ num := (u.ctx e.slot).collNext, d := d }])
      ∧ ((acceptColl e d u m).s.ctx e.slot).collNext = (if e.slot = replaySlot then (u.ctx e.slot).collNext else (u.ctx e.slot).collNext + 1)
      ∧ ((acceptColl e d u m).s.ctx e.slot).pmap = m ∧ (acceptColl e d u m).s.counters = u.counters := by
  unfold acceptColl
  dsimp only
  split
  · exact ⟨by rw [State.ctx_setCtx_self], by rw [State.ctx_setCtx_self], by rw [State.ctx_setCtx_self], rfl⟩
  · exact ⟨by rw [State.ctx_setCtx_self], by rw [State.ctx_setCtx_self], by rw [State.ctx_setCtx_self], rfl⟩

/-- Settles O9: the checks pass one by one, `takeMap` gives the map and `acceptColl` what the context takes. -/
theorem collAccepted : Obligations.CollAccepted := by
  intro s n x dfr e o op c va r d old hop h hctr hbr hlead halign hmapped htag hpoison hdesc hregion hcctr hconn hmap
  obtain ⟨hl, rfl, ho⟩ := h.live
  obtain ⟨-, hctrs, hctxs⟩ := h.same
  have hctx : r.s.ctx e.slot = old := by
    rw [State.ctx, show r.s.ctxs = e.s.ctxs by simp [r], hctxs]
    rfl
  rw [← hctx] at hmap
  obtain ⟨u, m, htake, huctx, huctr, hsome, hold⟩ := takeMap_accepts hmap
  rw [hctx] at hold
  have huold : u.ctx e.slot = old := by rw [State.ctx, huctx, ← State.ctx, hctx]
  have hrun : Does e true false (runColl op e) (acceptColl e d u m).s e.live := by
    refine .then hctr (.then hbr (.then (failIf_ok (by rw [hlead]; rfl)) (.then (failIf_ok (by simpa using halign))
      (.then (failIf_ok (by rw [hmapped]; rfl)) (.then htag (.then (failIf_ok hpoison) (.then (failIf_ok hdesc)
        (.then (failIf_ok hregion) (.then (failIf_ok hcctr) (.then (failIf_ok hconn) ?_))))))))))
    rw [htake]
    exact .done (flies_flight e true)
  obtain ⟨hcolls, hnext, hpmap, hactr⟩ := acceptColl_ctx e d u m
  rw [huold] at hcolls hnext
  have hcounters : (acceptColl e d u m).s.counters = s.counters := by
    rw [hactr, huctr, ← hctrs]
    simp [r]
  have hwant : ∃ want : KwOp → Bool, want o = true ∧ exec c s = .next (kwemin n e.x (phaseOf dfr) true want (runColl op) s) := by
    rcases hop with ⟨⟨f, rfl⟩, rfl, rfl⟩ | ⟨⟨f, rfl⟩, rfl, rfl⟩ | ⟨⟨f, rfl⟩, rfl, rfl⟩
    · exact ⟨isReduce, rfl, rfl⟩
    · exact ⟨isCollGather, rfl, rfl⟩
    · exact ⟨isNorm, rfl, rfl⟩
  obtain ⟨want, hw, hexec⟩ := hwant
  obtain ⟨t, ht, hiss, -, hctxt, hacc, hspill, hos, hv, htiles, -⟩ := h.does hrun hw hcounters (fun hz => nomatch hz)
  rw [issued, if_neg Bool.false_ne_true] at hiss
  have hctxe : t.ctx e.slot = (acceptColl e d u m).s.ctx e.slot := by rw [State.ctx, hctxt, ← State.ctx]
  refine ⟨t, hexec.trans (congrArg _ ht), ?_, ?_, ?_, ?_, hiss.2, ?_, ?_, hiss.1⟩
  · rw [hctxe, hcolls]
  · rw [hctxe, hnext]
  · rw [hctxe, hpmap]
    exact hsome
  · rw [hctxe, hpmap]
    exact hold
  · rw [← hl]
    exact ⟨hos, hv⟩
  · rw [← hl]
    exact ⟨hacc, hspill, htiles⟩

end Sys2Proof
end

section
/-! Refused mailbox commands (13 R399). -/

namespace Sys2Proof

open Sys2Proof.Machine

/-- A refused command shows its status with no output, whatever stands in its buffer. -/
theorem mailbox_refusal {s : State} {m : Mbox} {c : MbCmd} {k : Nat} (hserves : s.serves m = true) (hup : m = .host → s.mgt.awake = true)
    (h : s.mbRefuse c = some k) : ∃ t, mailbox m c s = s.close t ∧ mboxShows t m c k [] ∧ mboxOnly s t := by
  refine ⟨_, mailbox_of_refused hserves h, ?_, mbDone_mboxOnly (mboxOnly_refl s) m c⟩
  cases m with
  | host => simp [mbDone, mboxShows, hup, Tbl.slice, State.raiseAlert_bit, -BitVec.getLsbD_eq_getElem]
  | i3c => simp [mbDone, mboxShows, Tbl.slice]

/-- Settles O40: every command of the list is its mailbox's, which refuses it by its general checks. -/
theorem mailboxRefusals : Obligations.MailboxRefusals := by
  intro s m arg inp sig i c k hi hserves hup hrefuse
  have hexec : exec i s = .next (mailbox m c s) := by
    rcases hi with h | h | h | h | h | h | h | h | h | h | h | h | h | h | h | h <;> obtain ⟨rfl, rfl⟩ := h <;> rfl
  exact exec_of_mailbox hexec (mailbox_refusal hserves hup hrefuse)

end Sys2Proof
end

section
/-! The module on the I3C bus: its address and its answers (13 R409 to R411). -/

namespace Sys2Proof

open Sys2Proof.Machine

theorem entdaa_assigns {s : State} (hs : s.modl.standby = true) {a : Nat} (h : s.mgt.i3cAddr = 0 ∧ a ≠ 0) : entdaa true a s =
    { s with mgt := { s.mgt with ordIn := true, i3cAddr := a, ordOut := true, hotJoin := false } } := by
  rw [entdaa, hs]
  exact if_pos h

theorem entdaa_keeps {s : State} (hs : s.modl.standby = true) {a : Nat} (h : ¬(s.mgt.i3cAddr = 0 ∧ a ≠ 0)) :
    entdaa true a s = { s with mgt := { s.mgt with ordIn := true } } := by
  rw [entdaa, hs]
  exact if_neg h

theorem entdaa_drops {s : State} (hs : s.modl.standby = true) (a : Nat) : entdaa false a s = ordFalls s := by
  rw [entdaa, hs]
  rfl

theorem ccc_answers {s : State} (hs : s.modl.standby = true) (ha : s.mgt.i3cAddr ≠ 0) (bs : List Byte) : ccc bs s = s.emit (.i3c bs) :=
  if_pos (by rw [hs, decide_eq_true ha]; rfl)

/-- Settles O45: each row is one branch of its function, the standby domain being up. -/
theorem twilightBus : Obligations.TwilightBus := by
  intro s hs
  refine ⟨fun addr h0 hne => ?_, fun addr h => ?_, fun addr => ?_, ?_, ?_, fun hord h0 => ?_, fun ha => ⟨?_, ?_, ?_, ?_⟩⟩
  · have hnat : addr.toNat ≠ 0 := fun h => hne (BitVec.eq_of_toNat_eq h)
    exact ⟨_, congrArg Host.Outcome.next (entdaa_assigns hs ⟨h0, hnat⟩), rfl, rfl, rfl, rfl, rfl, rfl⟩
  · have hno : ¬(s.mgt.i3cAddr = 0 ∧ addr.toNat ≠ 0) := by
      rintro ⟨h0, hne⟩
      exact h.elim (fun h => h h0) fun h => hne (by rw [h]; rfl)
    exact ⟨_, congrArg Host.Outcome.next (entdaa_keeps hs hno), rfl, rfl, rfl⟩
  · exact ⟨_, congrArg Host.Outcome.next (entdaa_drops hs addr.toNat), rfl, rfl, rfl⟩
  · exact ⟨_, congrArg Host.Outcome.next (if_pos hs), rfl, rfl, rfl, rfl⟩
  · exact ⟨_, congrArg Host.Outcome.next (if_pos hs), rfl, rfl, rfl, rfl⟩
  · refine ⟨_, congrArg Host.Outcome.next (if_pos (by rw [hs, hord]; rfl)), rfl, ?_, h0⟩
    exact (Bool.or_eq_true _ _).mpr (.inl (decide_eq_true h0))
  · exact ⟨_, congrArg Host.Outcome.next (ccc_answers hs ha _), rfl, rfl⟩
  · exact ⟨_, congrArg Host.Outcome.next (ccc_answers hs ha _), rfl, rfl⟩
  · exact ⟨_, congrArg Host.Outcome.next (ccc_answers hs ha _), rfl, rfl⟩
  · exact ⟨_, beBytes 2 (s.free.toNat % 65536), congrArg (fun u : State => Host.Outcome.next (u.drawn 1)) (ccc_answers hs ha _),
      by simp [beBytes], rfl, rfl⟩

end Sys2Proof
end

section
/-! The inputs of the module and its reference clocks (15 R453, R456, R459). -/

namespace Sys2Proof

open Sys2Proof.Machine

theorem raiseAlert_modl (s : State) (k : Nat) : ∃ p, (s.raiseAlert k).modl = { s.modl with alertN := p } := by
  unfold State.raiseAlert State.msix State.alertPin State.emit
  split
  · exact ⟨s.modl.alertN, rfl⟩
  · dsimp only
    (repeat' split) <;> exact ⟨_, rfl⟩

/-- Of the module a log entry can only move ALERT_N. -/
theorem logEv_modl (s : State) (e : LogEnt) : ∃ p, (s.logEv e).modl = { s.modl with alertN := p } := by
  unfold State.logEv
  extract_lets own e1 e2 g s1
  split
  · exact raiseAlert_modl s1 2
  · exact ⟨s.modl.alertN, rfl⟩

theorem logEv_net (s : State) (e : LogEnt) (n : Nat) : (s.logEv e).net n = s.net n :=
  by
  simp only [State.net, State.logEv_same]

/-! A step over the ports of one SerDes reference -/

theorem foldl_net_other {f : State → Nat → State} {b : Nat} (hout : ∀ u k n, n ≠ b + k → (f u k).net n = u.net n) {n : Nat} :
    ∀ (l : List Nat) (s : State), (∀ k ∈ l, n ≠ b + k) → (l.foldl f s).net n = s.net n
  | [], _, _ => rfl
  | k :: l, s, h => by
    rw [List.foldl_cons, foldl_net_other hout l _ fun j hj => h j (.tail _ hj), hout s k n (h k (.head _))]

theorem foldl_net_each {f : State → Nat → State} {b : Nat} {I : State → Prop} {P Q : Net → Prop} (hI : ∀ u k, I u → I (f u k))
    (hout : ∀ u k n, n ≠ b + k → (f u k).net n = u.net n)
    (hin : ∀ u, ∀ k < 4, I u → Q (u.net (b + k)) → P ((f u k).net (b + k))) :
    ∀ (l : List Nat) (s : State), l.Nodup → (∀ k ∈ l, k < 4) → I s → (∀ k ∈ l, Q (s.net (b + k))) → ∀ k ∈ l, P ((l.foldl f s).net (b + k))
  | [], _, _, _, _, _ => fun _ h => nomatch h
  | k :: l, s, hd, hlt, hs, hq => by
    obtain ⟨hk, hd⟩ := List.nodup_cons.mp hd
    have hne : ∀ j ∈ l, b + j ≠ b + k := fun j hj h => hk (Nat.add_left_cancel h ▸ hj)
    intro j hj
    obtain rfl | hj := List.mem_cons.mp hj
    · rw [List.foldl_cons, foldl_net_other hout l _ fun i hi => (hne i hi).symm]
      exact hin s j (hlt j (.head _)) hs (hq j (.head _))
    · exact foldl_net_each hI hout hin l (f s k) hd (fun i hi => hlt i (.tail _ hi)) (hI s k hs)
        (fun i hi => by rw [hout s k _ (hne i hi)]; exact hq i (.tail _ hi)) j hj

/-- The ports of a SerDes reference are four. -/
theorem axis_ne {a n : Nat} (h : n / 4 ≠ a) : ∀ k ∈ List.range 4, n ≠ 4 * a + k := by
  intro k hk hn
  have := List.mem_range.mp hk
  omega

theorem setPort_other (m : Option Member) (s : State) {n j : Nat} (h : j ≠ n) : (setPort m s n).net j = s.net j := by
  unfold setPort
  dsimp only
  split
  · rfl
  · exact State.net_setNet_ne s _ h

/-- A port under the map is powered exactly where it has a kind, is not retired and has its clock. -/
theorem setPort_own (m : Option Member) (s : State) (n : Nat) :
    ((setPort m s n).net n).powered = (decide (((setPort m s n).net n).kind ≠ 0) && !((setPort m s n).net n).retired
      && Tbl.get false s.modl.sdClk (portAxis n)) ∧ ((s.net n).linkUp = false → ((setPort m s n).net n).linkUp = false) := by
  unfold setPort
  extract_lets p kind on
  split
  next h =>
    obtain ⟨hk, hp⟩ := h
    exact ⟨hp.trans (congrArg (fun k => decide (k ≠ 0) && !p.retired && _) hk.symm), id⟩
  next => rw [State.net_setNet_self]; exact ⟨rfl, fun _ => rfl⟩

theorem linkFalls_other (s : State) {n j : Nat} (h : j ≠ n) : (linkFalls n s).net j = s.net j := by
  unfold linkFalls State.errNet
  dsimp only
  split
  · exact State.net_setNet_ne s _ h
  · rw [logEv_net, State.net_setNet_ne _ _ h, State.net_setNet_ne s _ h]

theorem linkFalls_down (s : State) (n : Nat) : ((linkFalls n s).net n).linkUp = false := by
  unfold linkFalls State.errNet
  dsimp only
  split
  · rw [State.net_setNet_self]; rfl
  · rw [logEv_net, State.net_setNet_self, State.net_setNet_self]; rfl

/-- A link that runs falls. -/
def fallIfUp (b : Nat) (u : State) (k : Nat) : State := if (u.net (b + k)).linkUp then linkFalls (b + k) u else u

theorem fallIfUp_other (b : Nat) (u : State) (k n : Nat) (h : n ≠ b + k) : (fallIfUp b u k).net n = u.net n := by
  unfold fallIfUp
  split
  · exact linkFalls_other u h
  · rfl

theorem fallIfUp_down (b : Nat) (u : State) (k : Nat) : ((fallIfUp b u k).net (b + k)).linkUp = false := by
  unfold fallIfUp
  split
  · exact linkFalls_down u _
  next h => exact Bool.not_eq_true _ ▸ h

/-- What the clock `on` makes of a port under the map. -/
def Machine.Net.clocked (on : Bool) (p : Net) : Prop := p.powered = (decide (p.kind ≠ 0) && !p.retired && on)

theorem clockPorts_other (a : Nat) (s : State) {n : Nat} (h : n / 4 ≠ a) : (clockPorts a s).net n = s.net n :=
  foldl_net_other (fun u _ _ h => setPort_other u.self u h) (List.range 4) s (axis_ne h)

/-- The four ports of a reference are powered as its clock says, and links that were down stay down. -/
theorem clockPorts_own {a : Nat} {on : Bool} {s : State} (hclk : Tbl.get false s.modl.sdClk a = on) {k : Nat} (hk : k < 4) :
    ((clockPorts a s).net (4 * a + k)).clocked on
    ∧ ((∀ j < 4, (s.net (4 * a + j)).linkUp = false) → ((clockPorts a s).net (4 * a + k)).linkUp = false) := by
  have hI : ∀ (u : State) (j : Nat), Tbl.get false u.modl.sdClk a = on → Tbl.get false (setPort u.self u (4 * a + j)).modl.sdClk a = on := by
    intro u j h
    rw [← h]
    simp
  have hlt : ∀ j ∈ List.range 4, j < 4 := fun j hj => List.mem_range.mp hj
  have hother := fun (u : State) (j n : Nat) (h : n ≠ 4 * a + j) => setPort_other u.self u h
  constructor
  · refine foldl_net_each (Q := fun _ => True) hI hother (fun u j hj hu _ => ?_) (List.range 4) s List.nodup_range hlt hclk
      (fun _ _ => trivial) k (List.mem_range.mpr hk)
    have haxis : portAxis (4 * a + j) = a := by
      unfold portAxis
      omega
    have hpow := (setPort_own u.self u (4 * a + j)).1
    rw [haxis, hu] at hpow
    exact hpow
  · intro hdown
    exact foldl_net_each (P := fun p => p.linkUp = false) (Q := fun p => p.linkUp = false) hI hother
      (fun u j _ _ => (setPort_own u.self u (4 * a + j)).2) (List.range 4) s List.nodup_range hlt hclk
      (fun j hj => hdown j (hlt j hj)) k (List.mem_range.mpr hk)

theorem clockPorts_modl (a : Nat) (s : State) : (clockPorts a s).modl = s.modl := by simp

theorem fallIfUp_tiers_cores (b : Nat) (u : State) (k : Nat) : (fallIfUp b u k).tiers = u.tiers ∧ (fallIfUp b u k).cores = u.cores := by
  unfold fallIfUp
  split <;> simp

theorem foldl_tiers_cores {f : State → Nat → State} (hf : ∀ u k, (f u k).tiers = u.tiers ∧ (f u k).cores = u.cores) :
    ∀ (l : List Nat) (s : State), (l.foldl f s).tiers = s.tiers ∧ (l.foldl f s).cores = s.cores
  | [], _ => ⟨rfl, rfl⟩
  | k :: l, s => by
    obtain ⟨ht, hc⟩ := foldl_tiers_cores hf l (f s k)
    exact ⟨ht.trans (hf s k).1, hc.trans (hf s k).2⟩

/-- The state of a missing reference before its ports are set: their links are down, the clock is off. -/
def axisDown (a : Nat) (s : State) : State :=
  let t := (List.range 4).foldl (fallIfUp (4 * a)) s
  { t with modl := { t.modl with sdClk := Tbl.put t.modl.sdClk a false } }

theorem refclkMissing_eq {a : Nat} {s : State} (h : s.hubOut = true) :
    refclkMissing a s = (clockPorts a (axisDown a s)).logEv { ev 2 0x02 0x54 with detail := 1 + a } :=
  if_neg (by rw [h]; decide)

theorem axisDown_tiers_cores (a : Nat) (s : State) : (axisDown a s).tiers = s.tiers ∧ (axisDown a s).cores = s.cores :=
  foldl_tiers_cores (fallIfUp_tiers_cores (4 * a)) (List.range 4) s

theorem axisDown_other (a : Nat) (s : State) {n : Nat} (h : n / 4 ≠ a) : (axisDown a s).net n = s.net n :=
  foldl_net_other (fallIfUp_other (4 * a)) (List.range 4) s (axis_ne h)

theorem axisDown_own (a : Nat) (s : State) : ∀ k < 4, ((axisDown a s).net (4 * a + k)).linkUp = false := fun k hk =>
  foldl_net_each (I := fun _ => True) (Q := fun _ => True) (P := fun p => p.linkUp = false) (fun _ _ _ => trivial) (fallIfUp_other (4 * a))
    (fun u j _ _ _ => fallIfUp_down (4 * a) u j) (List.range 4) s List.nodup_range (fun _ h => List.mem_range.mp h) trivial
    (fun _ _ => trivial) k (List.mem_range.mpr hk)

theorem axisDown_clk (a : Nat) (s : State) : Tbl.get false (axisDown a s).modl.sdClk a = false := Tbl.get_put_same _ _ _ _

/-! The power stages stop -/

/-- A store older than 40 ms is not lost. -/
theorem loseStore_store {s : State} (h : ∀ a, s.mgt.storeAt = some a → a + 1311 < s.ticks) : (loseStore s).mgt.store = s.mgt.store := by
  have hdone : s.storing = false := by
    unfold State.storing
    cases hat : s.mgt.storeAt with
    | none => rfl
    | some a =>
      have := h a hat
      exact decide_eq_false (by omega)
  unfold loseStore
  dsimp only
  rw [if_pos (by rw [hdone]; rfl)]

/-- What the loss of power leaves (R394): no tier, no context, no management processor, and the settings store. -/
theorem powerDown_leaves (s : State) : (powerDown s).modl.phase = .standby ∧ (powerDown s).modl.pwrGood = false
    ∧ (powerDown s).mgt.awake = false ∧ (powerDown s).tiers.mem = [] ∧ (powerDown s).ctxs = [] ∧ (powerDown s).ticks = s.ticks
    ∧ (powerDown s).mgt.store = s.mgt.store := 
  ⟨rfl, rfl, rfl, rfl, rfl, by simp, rfl⟩

theorem inputOut_logs {mv : Nat} {s : State} (hon : s.stagesOn = true) (hnew : s.modl.inputOut = false)
    (hmv : (38000 ≤ mv ∧ mv < 40000) ∨ (60000 < mv ∧ mv ≤ 62000)) : execInputOutOfRange mv s = .next
      { s.logEv { ev 1 0x02 0x52 with detail := mv } with
        modl := { (s.logEv { ev 1 0x02 0x52 with detail := mv }).modl with inputOut := true, alertN := false } } := by
  have hout : (decide (38000 ≤ mv) && decide (mv < 40000) || decide (60000 < mv) && decide (mv ≤ 62000)) = true := by
    simpa using hmv
  unfold execInputOutOfRange
  dsimp only
  rw [hout, hon, hnew]
  rfl

theorem inputOutOfRange_row {mv : Nat} {s : State} (hon : s.stagesOn = true) (hnew : s.modl.inputOut = false)
    (hmv : (38000 ≤ mv ∧ mv < 40000) ∨ (60000 < mv ∧ mv ≤ 62000)) : ∃ t, execInputOutOfRange mv s = .next t ∧ t.modl.inputOut = true
    ∧ t.modl.alertN = false ∧ t.mgt.nextSeq = s.mgt.nextSeq + 1 ∧ t.modl.phase = s.modl.phase ∧ t.tiers = s.tiers ∧ t.cores = s.cores
    ∧ execInputOutOfRange mv t = .next t := by
  refine ⟨_, inputOut_logs hon hnew hmv, rfl, rfl, ?_⟩
  generalize { ev 1 0x02 0x52 with detail := mv } = e
  obtain ⟨x, hlog⟩ := logEv_logged s e
  obtain ⟨_, _, hmgt⟩ := hlog.mgt
  obtain ⟨_, hmodl⟩ := logEv_modl s e
  have hphase : (s.logEv e).modl.phase = s.modl.phase := by rw [hmodl]
  have hseq : (s.logEv e).mgt.nextSeq = s.mgt.nextSeq + 1 := by rw [hmgt]
  exact ⟨hseq, hphase, (State.logEv_same s e).2.2.2.2.2.2.2.2.2.1, (State.logEv_same s e).2.2.2.2.2.1,
    congrArg Host.Outcome.next (if_pos (Bool.or_true _))⟩

theorem refclkMissing_row {a : Nat} {s : State} (hhub : s.hubOut = true) : Tbl.get false (refclkMissing a s).modl.sdClk a = false
    ∧ (∀ k < 4, ((refclkMissing a s).net (4 * a + k)).linkUp = false ∧ ((refclkMissing a s).net (4 * a + k)).powered = false)
    ∧ (∀ n, n / 4 ≠ a → (refclkMissing a s).net n = s.net n) ∧ (refclkMissing a s).tiers = s.tiers ∧ (refclkMissing a s).cores = s.cores := by
  rw [refclkMissing_eq hhub]
  generalize { ev 2 0x02 0x54 with detail := 1 + a } = e
  obtain ⟨htiers, hcores⟩ := axisDown_tiers_cores a s
  refine ⟨?_, fun k hk => ?_, fun n hn => ?_, ?_, ?_⟩
  · obtain ⟨_, hmodl⟩ := logEv_modl (clockPorts a (axisDown a s)) e
    rw [hmodl]
    dsimp only
    rw [clockPorts_modl]
    exact axisDown_clk a s
  · obtain ⟨hpow, hup⟩ := clockPorts_own (axisDown_clk a s) hk
    rw [logEv_net]
    exact ⟨hup (axisDown_own a s), hpow.trans (Bool.and_false _)⟩
  · rw [logEv_net, clockPorts_other _ _ hn, axisDown_other _ _ hn]
  · simp [htiers]
  · simp [hcores]

theorem refclkCheck_row {a : Fin 4} {s : State} (hhub : s.hubOut = true) (hclk : Tbl.get false s.modl.sdClk a.val = false) :
    ∃ t, execRefclkCheck a true s = .next t ∧ Tbl.get false t.modl.sdClk a.val = true
    ∧ (∀ k < 4, (t.net (4 * a.val + k)).kind ≠ 0 → (t.net (4 * a.val + k)).retired = false → (t.net (4 * a.val + k)).powered = true)
    ∧ (∀ n, n / 4 ≠ a.val → t.net n = s.net n) ∧ t.tiers = s.tiers ∧ t.cores = s.cores := by
  have hset : Tbl.get false (Tbl.put s.modl.sdClk a.val true) a.val = true := Tbl.get_put_same _ _ _ _
  refine ⟨_, congrArg Host.Outcome.next (if_pos (by rw [hhub, hclk]; rfl)), ?_, fun k hk hkind hret => ?_, fun n hn => clockPorts_other _ _ hn,
    by simp, by simp⟩
  · rw [clockPorts_modl]
    exact hset
  · refine (clockPorts_own hset hk).1.trans ?_
    rw [decide_eq_true hkind, hret]
    rfl

theorem powerStagesStop_row {mv : Nat} {s : State} (hon : s.stagesOn = true) (hmv : mv < 38000 ∨ 62000 < mv) :
    ∃ t, execPowerStagesStop mv s = .next t ∧ t.modl.phase = .standby ∧ t.modl.pwrGood = false ∧ t.modl.powerLost = true
    ∧ t.mgt.awake = false ∧ t.tiers.mem = [] ∧ t.ctxs = [] ∧ t.modl.input = false ∧ t.ticks = s.ticks
    ∧ ((∀ a, s.mgt.storeAt = some a → a + 1311 < s.ticks) → t.mgt.store = s.mgt.store) := by
  have hno : ¬(38000 ≤ mv ∧ mv ≤ 62000) := by omega
  refine ⟨_, congrArg Host.Outcome.next ((if_neg hno).trans (if_pos hon)), ?_⟩
  obtain ⟨hphase, hgood, hawake, hmem, hctxs, hticks, hstore⟩ := powerDown_leaves (loseStore s)
  generalize powerDown (loseStore s) = t at *
  exact ⟨hphase, hgood, rfl, hawake, hmem, hctxs, rfl, hticks.trans (by simp), fun h => hstore.trans (loseStore_store h)⟩

theorem standbyLost_row {mv : Nat} {s : State} (hstb : s.modl.standby = true) (hmv : mv < 3135 ∨ 3465 < mv) :
    ∃ t, execStandbyLost mv s = .next t ∧ t.modl = {} ∧ t.ticks = 0 ∧ t.mgt.i3cAddr = 0 ∧ t.rcv.history = [] ∧ t.tiers.mem = []
    ∧ ((∀ a, s.mgt.storeAt = some a → a + 1311 < s.ticks) → t.mgt.store = s.mgt.store) := by
  have hno : ¬((3135 ≤ mv ∧ mv ≤ 3465) ∨ s.modl.standby = false) := by
    rw [hstb]
    simp
    omega
  refine ⟨_, congrArg Host.Outcome.next (if_neg hno), ?_⟩
  obtain ⟨-, -, -, hmem, -, -, hstore⟩ := powerDown_leaves (if s.stagesOn then loseStore s else s)
  generalize powerDown (if s.stagesOn then loseStore s else s) = t at *
  refine ⟨rfl, rfl, rfl, rfl, hmem, fun h => hstore.trans ?_⟩
  split
  · exact loseStore_store h
  · rfl

/-- Settles O50: each row is one branch of its function; the ports of a reference clock by one step over its four ports. -/
theorem inputFaultsAndClocks : Obligations.InputFaultsAndClocks :=
  ⟨fun _ => rfl, fun _ _ hon hnew hmv => inputOutOfRange_row hon hnew hmv, fun _ _ hon hmv => powerStagesStop_row hon hmv,
    fun _ _ hon hmv => congrArg Host.Outcome.next ((if_neg (by omega)).trans (if_neg (by rw [hon]; decide))),
    fun _ _ hstb hmv => standbyLost_row hstb hmv, fun _ _ hhub => ⟨_, rfl, refclkMissing_row hhub⟩,
    fun _ _ hhub hclk => refclkCheck_row hhub hclk⟩

end Sys2Proof
end

section
/-! Settings, the power cap and the store (13 R412 to R415, 01 R29, R34), and the row of a mailbox command that is carried out. -/

namespace Sys2Proof

open Sys2Proof.Machine

/-! What of the management part no log entry touches -/

def Machine.Mgt.sansLog (g : Mgt) : Mgt := { g with ramLog := [], nextSeq := 0, reserved := 0, alert := 0 }

@[simp] theorem raiseAlert_sansLog (s : State) (k : Nat) : (s.raiseAlert k).mgt.sansLog = s.mgt.sansLog := by
  rw [State.raiseAlert_mgt]
  rfl

@[simp] theorem logEv_sansLog (s : State) (e : LogEnt) : (s.logEv e).mgt.sansLog = s.mgt.sansLog := by
  obtain ⟨x, hlog⟩ := logEv_logged s e
  obtain ⟨_, _, hmgt⟩ := hlog.mgt
  rw [hmgt]
  rfl

theorem fields_of_sansLog {g h : Mgt} (e : g.sansLog = h.sansLog) : g.working = h.working ∧ g.store = h.store ∧ g.awake = h.awake
    ∧ g.ready = h.ready ∧ g.storeSeq = h.storeSeq ∧ g.older = h.older ∧ g.bank0 = h.bank0 ∧ g.bank1 = h.bank1 :=
  ⟨(congrArg Mgt.working e :), (congrArg Mgt.store e :), (congrArg Mgt.awake e :), (congrArg Mgt.ready e :), (congrArg Mgt.storeSeq e :),
    (congrArg Mgt.older e :), (congrArg Mgt.bank0 e :), (congrArg Mgt.bank1 e :)⟩

theorem mbox_of_sansLog {s t : State} (e : s.mgt.sansLog = t.mgt.sansLog) (m : Mbox) : s.mbox m = t.mbox m := by
  cases m
  · exact (congrArg Mgt.host e :)
  · exact (congrArg Mgt.i3c e :)

theorem almanac_of_sansLog {s t : State} (e : s.mgt.sansLog = t.mgt.sansLog) (hfuse : s.fuse = t.fuse) : s.almanac = t.almanac := by
  obtain ⟨-, hstore, -⟩ := fields_of_sansLog e
  rw [State.almanac, State.almanac, hstore, hfuse]

/-! The row of a command that its mailbox carries out -/

theorem mailbox_acts {s : State} {m : Mbox} {c : MbCmd} {o : MbOut} (h : MboxOk s m c) (ho : mbCommand c s = o) :
    mailbox m c s = s.close (mbDone m c o) := ho ▸ mailbox_of_accepted h

theorem shows_of_kept {s : State} {m : Mbox} {c : MbCmd} {o : MbOut} (h : MboxOk s m c) (hgone : o.gone = false)
    (hawake : o.s.mgt.awake = s.mgt.awake) (hbox : o.s.mbox m = s.mbox m) : mboxShows (mbDone m c o) m c o.status o.out :=
  mbDone_shows hgone (fun hm => hawake.trans (h.up hm)) (hbox ▸ h.buf)

/-- A command whose effect on the management part is a log entry at most leaves its mailbox to show it. -/
theorem shows_of_sansLog {s : State} {m : Mbox} {c : MbCmd} {o : MbOut} (h : MboxOk s m c) (hgone : o.gone = false)
    (hlog : o.s.mgt.sansLog = s.mgt.sansLog) : mboxShows (mbDone m c o) m c o.status o.out :=
  shows_of_kept h hgone (fields_of_sansLog hlog).2.2.1 (mbox_of_sansLog hlog m)

/-- A command that does nothing but answer its status. -/
theorem mailbox_status {s : State} {m : Mbox} {c : MbCmd} {k : Nat} (h : MboxOk s m c) (hout : mbCommand c s = ⟨s, k, [], false⟩) :
    ∃ t, mailbox m c s = s.close t ∧ mboxShows t m c k [] ∧ mboxOnly s t :=
  ⟨_, mailbox_acts h hout, shows_of_sansLog h rfl rfl, mbDone_mboxOnly (mboxOnly_refl s) m c⟩

theorem mbDone_working (m : Mbox) (c : MbCmd) (o : MbOut) : (mbDone m c o).mgt.working = o.s.mgt.working :=
  (congrArg Mgt.working (mbDone_sansMbox m c o) :)

theorem mbDone_store (m : Mbox) (c : MbCmd) (o : MbOut) : (mbDone m c o).mgt.store = o.s.mgt.store :=
  (congrArg Mgt.store (mbDone_sansMbox m c o) :)

/-! Clock, pacing and the cap -/

theorem applyClocks_mgt (s : State) : (applyClocks s).mgt = s.mgt := by simp

theorem noteLimiting_sansLog (s : State) : (noteLimiting s).mgt.sansLog = s.mgt.sansLog := by
  unfold noteLimiting
  split
  · rfl
  · rw [logEv_sansLog]

theorem setPower_sansLog (clock pacing : Nat) (s : State) : (setPower clock pacing s).mgt.sansLog = s.mgt.sansLog := by
  unfold setPower
  rw [noteLimiting_sansLog, applyClocks_mgt]

theorem noteLimiting_power (s : State) : ∃ l, (noteLimiting s).power = { s.power with limiting := l } := by
  unfold noteLimiting
  split
  · exact ⟨s.power.limiting, rfl⟩
  · exact ⟨s.limited, by simp⟩

/-- New clock and pacing leave the rest of the power manager but its note of limiting. -/
theorem setPower_power (clock pacing : Nat) (s : State) :
    ∃ l, (setPower clock pacing s).power = { s.power with clock := clock, pacing := pacing, limiting := l } := by
  obtain ⟨l, hp⟩ := noteLimiting_power (applyClocks { s with power := { s.power with clock := clock, pacing := pacing } })
  exact ⟨l, by rw [setPower, hp]; simp⟩

theorem fixedStep_congr {s t : State} (halm : s.almanac = t.almanac) (hcap : s.power.cap = t.power.cap) :
    ∀ n, s.fixedStep n = t.fixedStep n
  | 0 => rfl
  | n + 1 => by
    unfold State.fixedStep State.stepFits
    rw [halm, hcap, fixedStep_congr halm hcap n]

theorem takeCap_sansLog (s : State) : (takeCap s).mgt.sansLog = s.mgt.sansLog := by
  unfold takeCap
  split
  · rfl
  · dsimp only
    split
    · rfl
    · exact setPower_sansLog ..

theorem takeCap_cap (s : State) : (takeCap s).power.cap = s.mgt.working.powerCap := by
  unfold takeCap
  split
  next h => exact h.symm
  · dsimp only
    split
    · rfl
    · obtain ⟨l, hp⟩ := setPower_power (State.fixedFor { s with power := { s.power with cap := s.mgt.working.powerCap } }) 16
        { s with power := { s.power with cap := s.mgt.working.powerCap
                                         fixedClock := some (State.fixedFor { s with power := { s.power with cap := s.mgt.working.powerCap } }) } }
      rw [hp]

/-- A new cap under a fixed clock fixes the clock anew (R34). -/
theorem takeCap_fixed {s : State} (hnew : s.mgt.working.powerCap ≠ s.power.cap) (hfix : s.power.fixedClock ≠ none) :
    (takeCap s).power.fixedClock = some (State.fixedFor { s with power := { s.power with cap := s.mgt.working.powerCap } }) := by
  unfold takeCap
  rw [if_neg hnew]
  dsimp only
  split
  next h => exact absurd h hfix
  next =>
    obtain ⟨l, hp⟩ := setPower_power (State.fixedFor { s with power := { s.power with cap := s.mgt.working.powerCap } }) 16
      { s with power := { s.power with cap := s.mgt.working.powerCap
                                       fixedClock := some (State.fixedFor { s with power := { s.power with cap := s.mgt.working.powerCap } }) } }
    rw [hp]

theorem capSet_sansLog (s : State) : (capSet s).mgt.sansLog = s.mgt.sansLog := by
  unfold capSet
  split
  · exact takeCap_sansLog s
  · rfl

theorem capSet_fixed {s : State} (hfix : s.power.fixedClock ≠ none) : capSet s = takeCap s :=
  if_pos (Option.isSome_iff_ne_none.mpr hfix)

theorem capSet_free {s : State} (hfree : s.power.fixedClock = none) : capSet s = s := if_neg (by rw [hfree]; decide)

theorem controlTick_cap (s : State) : (controlTick s).power.cap = s.mgt.working.powerCap := by
  have hset : ∀ c p, (setPower c p (takeCap s)).power.cap = s.mgt.working.powerCap := by
    intro c p
    obtain ⟨l, hp⟩ := setPower_power c p (takeCap s)
    rw [hp]
    exact takeCap_cap s
  rw [controlTick_eq]
  split
  · split
    · exact hset ..
    · split
      · exact hset ..
      · exact takeCap_cap s
  · exact takeCap_cap s

/-! The device reset (R362, R461) -/

/-- The state in which a device reset finds the engines: the contexts unloaded, the near tier empty. -/
def emptied (s : State) : State :=
  let s1 := (s.affected .device).foldl (fun u k => unloadNow k u) (endReplay false s)
  if s1.tablesBad then emptyTiers s1 else zeroNear s1

theorem foldl_unloadNow_keeps (ks : List Nat) (s : State) : (ks.foldl (fun u k => unloadNow k u) s).mgt = s.mgt
    ∧ (ks.foldl (fun u k => unloadNow k u) s).rcv = s.rcv ∧ (ks.foldl (fun u k => unloadNow k u) s).modl = s.modl := by
  induction ks generalizing s with
  | nil => exact ⟨rfl, rfl, rfl⟩
  | cons k ks ih =>
    obtain ⟨hmgt, hrcv, hmodl⟩ := ih (unloadNow k s)
    exact ⟨hmgt.trans (by simp), hrcv.trans (by simp), hmodl.trans (by simp)⟩

theorem emptied_keeps (s : State) : (emptied s).mgt = s.mgt ∧ (emptied s).modl = s.modl ∧ (emptied s).rcv = (endReplay false s).rcv := by
  obtain ⟨hmgt, hrcv, hmodl⟩ := foldl_unloadNow_keeps (s.affected .device) (endReplay false s)
  unfold emptied
  dsimp only
  split <;> simp [hmgt, hrcv, hmodl]

/-- The state of a device reset before its error and its alert are shown. -/
def restarted (s : State) : State :=
  let t := coldRest (coldUnits (clearHub (emptied s)))
  { t with modl := { t.modl with phase := if t.modl.pwrGood || t.hubOut then .perst else t.modl.phase, thermalStop := false } }

/-- A reset that finds its tables lost logs that. -/
theorem resetDevice_eq (s : State) : resetDevice s = (restarted s).alertPin ∨ resetDevice s = ((restarted s).errRcv 8).alertPin := by
  by_cases hlost : ((s.affected .device).foldl (fun u k => unloadNow k u) (endReplay false s)).tablesBad = true
  · right
    unfold resetDevice restarted emptied
    dsimp only
    rw [if_pos hlost, if_pos hlost]
  · left
    unfold resetDevice restarted emptied
    dsimp only
    rw [if_neg hlost, if_neg hlost]

theorem errRcv_sansLog (s : State) (k slot core port : Nat) : (s.errRcv k slot core port).mgt.sansLog = s.mgt.sansLog := by
  unfold State.errRcv
  split
  · rfl
  · simp

theorem resetDevice_sansLog (s : State) : (resetDevice s).mgt.sansLog = (coldMgt s.mgt).sansLog := by
  have hstart : (restarted s).mgt = coldMgt s.mgt := congrArg coldMgt (by simp [emptied_keeps])
  rcases resetDevice_eq s with h | h <;> rw [h]
  · exact congrArg Mgt.sansLog hstart
  · exact (errRcv_sansLog (restarted s) 8 _ _ _).trans (congrArg Mgt.sansLog hstart)

theorem resetDevice_power (s : State) : (resetDevice s).power = { cap := s.mgt.store.settings.powerCap } := by
  have hstart : (restarted s).power = { cap := s.mgt.store.settings.powerCap } :=
    congrArg (fun g : Mgt => ({ cap := g.store.settings.powerCap } : Power)) (by simp [emptied_keeps])
  rcases resetDevice_eq s with h | h
  · rw [h, State.alertPin, hstart]
  · rw [h]
    exact (by simp : ((restarted s).errRcv 8).power = (restarted s).power).trans hstart

/-! A setting takes its value -/

theorem settings_get_put (t : Settings) {id : Nat} (v : Nat) (h : (t.get id).isSome = true) : (t.put id v).get id = some v := by
  unfold Settings.get at h ⊢
  unfold Settings.put
  split at h
  case h_10 => exact absurd h (by decide)
  all_goals rfl

theorem settings_get_put_ne (t : Settings) {id j : Nat} (v : Nat) (h : j ≠ id) : (t.put id v).get j = t.get j := by
  unfold Settings.put
  split <;> unfold Settings.get <;> split <;> simp_all

theorem applySetting_sansLog (id v : Nat) (s : State) : (applySetting id v s).mgt.sansLog = s.mgt.sansLog := by
  unfold applySetting
  split
  case h_1 => exact capSet_sansLog s
  all_goals simp

/-- The state in which a setting has its value and has not acted yet. -/
def withSetting (id v : Nat) (s : State) : State := { s with mgt := { s.mgt with working := s.mgt.working.put id v } }

theorem putSetting_sansLog (id v : Nat) (s : State) : (putSetting id v s).mgt.sansLog = (withSetting id v s).mgt.sansLog :=
  applySetting_sansLog id v (withSetting id v s)

theorem putSetting_working (id v : Nat) (s : State) : (putSetting id v s).mgt.working = s.mgt.working.put id v :=
  (fields_of_sansLog (putSetting_sansLog id v s)).1

theorem putSetting_shows {s : State} {m : Mbox} {c : MbCmd} (h : MboxOk s m c) (id v : Nat) :
    mboxShows (mbDone m c ⟨putSetting id v s, 0, [], false⟩) m c 0 [] :=
  shows_of_kept (o := ⟨putSetting id v s, 0, [], false⟩) h rfl (fields_of_sansLog (putSetting_sansLog id v s)).2.2.1
    ((mbox_of_sansLog (putSetting_sansLog id v s) m).trans (by cases m <;> rfl))

/-- The cap alone acts on the power manager, and only under a fixed clock (R34). -/
theorem applySetting_power_ne {id : Nat} (h : id ≠ 1) (v : Nat) (s : State) : (applySetting id v s).power = s.power := by
  revert h
  unfold applySetting
  split
  case h_1 => exact fun h => absurd rfl h
  case h_2 => exact fun _ => by simp
  all_goals exact fun _ => rfl

/-- A port takes a prior for its underrun threshold. -/
def setPrior (v : Nat) (u : State) (k : Nat) : State := u.setNet k { u.net k with prior := v }

theorem setPrior_other (v : Nat) (u : State) (k n : Nat) (h : n ≠ 0 + k) : (setPrior v u k).net n = u.net n :=
  State.net_setNet_ne u _ (by rwa [Nat.zero_add] at h)

theorem setPriors_prior (v n : Nat) (l : List Nat) (s : State) (h : n ∈ l) : ((l.foldl (setPrior v) s).net n).prior = v := by
  induction l generalizing s with
  | nil => nomatch h
  | cons k l ih =>
    by_cases hl : n ∈ l
    · exact ih _ hl
    · obtain rfl : n = k := (List.mem_cons.mp h).resolve_right hl
      rw [List.foldl_cons, foldl_net_other (setPrior_other v) l _ fun j hj hn => hl (by rwa [hn, Nat.zero_add]), setPrior,
        State.net_setNet_self]

theorem not_isNone {α : Type} {o : Option α} (h : o.isSome = true) : ¬(o.isNone = true) := by
  cases o
  · exact absurd h Bool.false_ne_true
  · exact nofun

theorem mailbox_setSetting {s : State} {m : Mbox} {arg : W32} {inp : List Byte} (h : MboxOk s m (withInput 0x06 arg inp))
    (hset : (s.mgt.working.get arg.toNat).isSome = true) (hlo : (settingBounds arg.toNat).1 ≤ leNat (inp.take 8))
    (hhi : leNat (inp.take 8) ≤ (settingBounds arg.toNat).2) : mailbox m (withInput 0x06 arg inp) s
      = s.close (mbDone m (withInput 0x06 arg inp) ⟨putSetting arg.toNat (leNat (inp.take 8)) s, 0, [], false⟩) := by
  refine mailbox_acts h ((if_neg (not_isNone hset)).trans (if_neg ?_))
  exact fun hout => hout.elim (Nat.not_lt.mpr hlo) (Nat.not_lt.mpr hhi)

theorem putSetting_cap {s : State} (hfix : s.power.fixedClock ≠ none) (v : Nat) : (putSetting 1 v s).power.cap = v
    ∧ (v ≠ s.power.cap → (putSetting 1 v s).power.fixedClock = some (State.fixedFor { s with power := { s.power with cap := v } })) := by
  have hput : putSetting 1 v s = takeCap (withSetting 1 v s) := capSet_fixed (s := withSetting 1 v s) hfix
  refine ⟨by rw [hput]; exact takeCap_cap _, fun hne => ?_⟩
  rw [hput, takeCap_fixed (s := withSetting 1 v s) hne hfix]
  exact congrArg some (fixedStep_congr rfl rfl _)

/-- What a setting acts on at once (R412). -/
theorem putSetting_acts (id v : Nat) (s : State) : (id = 1 → s.power.fixedClock ≠ none → (putSetting id v s).power.cap = v)
    ∧ (id ≠ 1 → (putSetting id v s).power = s.power) ∧ (id = 3 → ∀ n < 16, ((putSetting id v s).net n).prior = v)
    ∧ (id = 4 → (putSetting id v s).rcv.streamMs = v) ∧ (id = 5 → (putSetting id v s).rcv.queueMs = v)
    ∧ (id = 6 → (putSetting id v s).rcv.drainUs = v) ∧ (id = 7 → (putSetting id v s).rcv.replayMs = v) := by
  refine ⟨?_, fun hid => applySetting_power_ne hid v (withSetting id v s), ?_, ?_, ?_, ?_, ?_⟩
  · rintro rfl hfix
    exact (putSetting_cap hfix v).1
  · rintro rfl n hn
    exact setPriors_prior v n (List.range 16) (withSetting 3 v s) (List.mem_range.mpr hn)
  all_goals rintro rfl; rfl

/-- The row of SET_SETTING: what its mailbox shows, the setting, and what it acts on. -/
theorem setSetting_row {s t : State} {m : Mbox} {c : MbCmd} {id v : Nat} (h : MboxOk s m c) (hset : (s.mgt.working.get id).isSome = true)
    (ht : t = mbDone m c ⟨putSetting id v s, 0, [], false⟩) : mboxShows t m c 0 [] ∧ t.mgt.working.get id = some v
    ∧ (∀ j, j ≠ id → t.mgt.working.get j = s.mgt.working.get j) ∧ t.mgt.store = s.mgt.store ∧ t.tiers = s.tiers ∧ t.ctxs = s.ctxs
    ∧ (id = 1 → s.power.fixedClock ≠ none → t.power.cap = v) ∧ (id ≠ 1 → t.power = s.power)
    ∧ (id = 3 → ∀ n < 16, (t.net n).prior = v) ∧ (id = 4 → t.rcv.streamMs = v) ∧ (id = 5 → t.rcv.queueMs = v)
    ∧ (id = 6 → t.rcv.drainUs = v) ∧ (id = 7 → t.rcv.replayMs = v) := by
  have hworking : t.mgt.working = s.mgt.working.put id v := by rw [ht, mbDone_working, putSetting_working]
  have hstore : t.mgt.store = s.mgt.store := by
    rw [ht, mbDone_store]
    exact (fields_of_sansLog (putSetting_sansLog id v s)).2.1
  have hkept : t.tiers = s.tiers ∧ t.ctxs = s.ctxs ∧ t.rcv = (putSetting id v s).rcv ∧ t.power = (putSetting id v s).power
      ∧ t.nets = (putSetting id v s).nets := by
    rw [ht]
    simp
  obtain ⟨htiers, hctxs, hrcv, hpow, hnets⟩ := hkept
  refine ⟨ht ▸ putSetting_shows h id v, ?_, fun j hj => ?_, hstore, htiers, hctxs, ?_⟩
  · rw [hworking]
    exact settings_get_put _ v hset
  · rw [hworking]
    exact settings_get_put_ne _ v hj
  · rw [hrcv, hpow]
    simp only [State.net, hnets]
    exact putSetting_acts id v s

/-- STORE: the working settings go to the other bank with the highest SEQ (R413). -/
theorem mbStore_commits {s : State} (h : s.mgt.nextWear ≤ 100000) :
    mbStore s = ⟨commitStore (fun t => { t with settings := s.mgt.working }) s, 0, [], false⟩ := if_neg (by omega)

theorem commitStore_mgt (f : Store → Store) (s : State) :
    (commitStore f s).mgt.store = { f s.mgt.store with highSeq := s.mgt.nextSeq - 1 } ∧ (commitStore f s).mgt.older = s.mgt.store
    ∧ (if s.mgt.nextBank = 0 then (commitStore f s).mgt.bank0 else (commitStore f s).mgt.bank1) = hdrOf (s.mgt.storeSeq + 1)
    ∧ (commitStore f s).mgt.storeSeq = s.mgt.storeSeq + 1 ∧ (commitStore f s).mgt.working = s.mgt.working
    ∧ (commitStore f s).mgt.awake = s.mgt.awake ∧ (commitStore f s).mgt.host = s.mgt.host ∧ (commitStore f s).mgt.i3c = s.mgt.i3c := by
  unfold commitStore
  dsimp only
  split <;> exact ⟨rfl, rfl, rfl, rfl, rfl, rfl, rfl, rfl⟩

/-- Settles O42: each command is run to its answer by `mailbox_acts`; the cap through `takeCap`, and the reset of it through `resetDevice_power`. -/
theorem settingsRows : Obligations.SettingsRows := by
  intro s m arg inp id v c
  refine ⟨fun h hset hlo hhi => ?_, fun h hset hout => ?_, fun h hlo hhi => ?_, fun h hout => ?_, rfl, rfl, fun hready => ?_,
    fun micros hlong hgood => ?_, fun h hwear => ?_, fun h hworn => ?_, fun h => ?_⟩
  · exact exec_of_mailbox rfl ⟨_, mailbox_setSetting h hset hlo hhi, setSetting_row h hset rfl⟩
  · exact exec_of_mailbox rfl (mailbox_status h ((if_neg (not_isNone hset)).trans (if_pos hout)))
  · have hexec : mbCommand (plain 0x08 arg) s = ⟨putSetting 1 id s, 0, [], false⟩ :=
      if_neg (fun hout => hout.elim (Nat.not_lt.mpr hlo) (Nat.not_lt.mpr hhi))
    refine exec_of_mailbox rfl ⟨_, mailbox_acts h hexec, putSetting_shows h 1 id, ?_, ?_, fun hfree => ?_, fun hfix => ?_⟩
    · rw [mbDone_working, putSetting_working]
      rfl
    · rw [mbDone_store]
      exact (fields_of_sansLog (putSetting_sansLog 1 id s)).2.1
    · have hput : putSetting 1 id s = withSetting 1 id s := capSet_free (s := withSetting 1 id s) hfree
      rw [show (mbDone m (plain 0x08 arg) ⟨putSetting 1 id s, 0, [], false⟩).power = (putSetting 1 id s).power by simp, hput]
      rfl
    · rw [show (mbDone m (plain 0x08 arg) ⟨putSetting 1 id s, 0, [], false⟩).power = (putSetting 1 id s).power by simp]
      exact putSetting_cap hfix id
  · exact exec_of_mailbox rfl (mailbox_status h (if_pos hout))
  · exact ⟨_, congrArg Host.Outcome.next (if_pos hready), controlTick_cap s⟩
  · refine ⟨_, congrArg Host.Outcome.next ((if_neg (by omega)).trans (if_pos (by rw [hgood]; rfl))), ?_, ?_⟩
    · rw [resetDevice_power]
    · rw [(fields_of_sansLog (resetDevice_sansLog _)).1]
      rfl
  · obtain ⟨hstore, holder, hbank, hseq, hworking, hawake, hhost, hi3c⟩ := commitStore_mgt (fun t => { t with settings := s.mgt.working }) s
    refine exec_of_mailbox rfl ⟨_, mailbox_acts h (mbStore_commits hwear), ?_⟩
    generalize hu : commitStore (fun t => { t with settings := s.mgt.working }) s = u at *
    have hbox : u.mbox m = s.mbox m := by
      cases m
      · exact hhost
      · exact hi3c
    have hkept := mbDone_sansMbox m (plain 0x07 arg) ⟨u, 0, [], false⟩
    refine ⟨shows_of_kept h rfl hawake hbox, (mbDone_store ..).trans hstore, ((congrArg Mgt.older hkept :).trans holder), ?_,
      ((congrArg Mgt.storeSeq hkept :).trans hseq), (mbDone_working ..).trans hworking, ?_⟩
    · have h0 : (mbDone m (plain 0x07 arg) ⟨u, 0, [], false⟩).mgt.bank0 = u.mgt.bank0 := (congrArg Mgt.bank0 hkept :)
      have h1 : (mbDone m (plain 0x07 arg) ⟨u, 0, [], false⟩).mgt.bank1 = u.mgt.bank1 := (congrArg Mgt.bank1 hkept :)
      rw [← hbank, h0, h1]
    · rw [← hu]
      simp
  · exact exec_of_mailbox rfl (mailbox_status h (if_pos hworn))
  · refine exec_of_mailbox rfl ⟨_, mailbox_acts h rfl, shows_of_kept h rfl rfl (by cases m <;> rfl), ?_, mbDone_mboxOnly ?_ m _⟩
    · exact (congrArg Mgt.slot (mbDone_sansMbox m (plain 0x10 arg) _) :)
    · exact ⟨rfl, rfl, rfl, rfl, rfl, rfl, rfl, rfl, rfl, rfl⟩

end Sys2Proof
end

section
/-! Power states, maintenance and firmware (13 R393, R394, R416 to R419, R426). -/

namespace Sys2Proof

open Sys2Proof.Machine

theorem releaseTrip_only (s : State) : mboxOnly s (releaseTrip s) ∧ (releaseTrip s).modl.phase = s.modl.phase
    ∧ (releaseTrip s).modl.input = s.modl.input ∧ (releaseTrip s).modl.tripped = false ∧ (releaseTrip s).mgt = s.mgt := by
  unfold releaseTrip
  split
  · exact ⟨⟨rfl, rfl, rfl, rfl, rfl, rfl, rfl, rfl, rfl, rfl⟩, rfl, rfl, rfl, rfl⟩
  next h => exact ⟨⟨rfl, rfl, rfl, rfl, rfl, rfl, rfl, rfl, rfl, rfl⟩, rfl, rfl, Bool.not_eq_true _ ▸ h, rfl⟩

/-- The end of a command leaves the module but for ALERT_N. -/
theorem mbDone_modl (m : Mbox) (c : MbCmd) (o : MbOut) : ∃ p, (mbDone m c o).modl = { o.s.modl with alertN := p } := by
  unfold mbDone
  split
  · exact ⟨o.s.modl.alertN, rfl⟩
  · extract_lets b buf t
    have ht : t.modl = o.s.modl := by cases m <;> rfl
    clear_value t
    split
    · obtain ⟨p, hp⟩ := raiseAlert_modl t 0
      exact ⟨p, by rw [hp, ht]⟩
    · exact ⟨o.s.modl.alertN, ht⟩

theorem wake_up {s : State} (hphase : s.modl.phase = .standby) (hinput : s.modl.input = true) :
    wake s = { releaseTrip s with modl := { (releaseTrip s).modl with phase := .stagesUp } } := by
  obtain ⟨-, hp, hi, -⟩ := releaseTrip_only s
  exact if_pos ⟨hp.trans hphase, hi.trans hinput⟩

/-! SET_STATE -/

/-- A command whose state differs from the old one in what `mboxOnly` leaves open, and not in the management part. -/
theorem mailbox_only {s u : State} {m : Mbox} {c : MbCmd} (h : MboxOk s m c) (hout : mbCommand c s = ⟨u, 0, [], false⟩)
    (honly : mboxOnly s u) (hmgt : u.mgt = s.mgt) : ∃ t, mailbox m c s = s.close t ∧ mboxShows t m c 0 [] ∧ mboxOnly s t
      ∧ t.modl.phase = u.modl.phase ∧ t.modl.tripped = u.modl.tripped := by
  obtain ⟨p, hmodl⟩ := mbDone_modl m c ⟨u, 0, [], false⟩
  refine ⟨_, mailbox_acts h hout, shows_of_sansLog h rfl (congrArg Mgt.sansLog hmgt), mbDone_mboxOnly honly m c, ?_, ?_⟩ <;> rw [hmodl]

theorem setState_wakes {s : State} (ha : s.mgt.awake = false) : setState 1 s = ⟨wake s, 0, [], false⟩ :=
  (if_pos rfl).trans (by rw [ha]; rfl)

theorem setState_up {s : State} (ha : s.mgt.awake = true) : setState 1 s = ⟨releaseTrip s, 0, [], false⟩ :=
  (if_pos rfl).trans (by rw [ha]; rfl)

theorem setState_refused {s : State} {arg : Nat} (h1 : arg ≠ 1) (ho : s.rcv.outOfService = true) :
    setState arg s = ⟨s, stateRefused, [], false⟩ := (if_neg h1).trans (if_pos ho)

theorem setState_stays {s : State} {arg : Nat} (h1 : arg ≠ 1) (ho : s.rcv.outOfService = false) (h : arg ≠ 0 ∨ s.mgt.awake = false) :
    setState arg s = ⟨s, 0, [], false⟩ :=
  (if_neg h1).trans ((if_neg (by rw [ho]; decide)).trans (if_pos (by rcases h with h | h <;> simp [h])))

theorem setState_night {s : State} (ha : s.mgt.awake = true) (hn : s.mayNight = true) : setState 0 s = ⟨powerDown s, 0, [], false⟩ := by
  have ho : s.rcv.outOfService = false := by
    unfold State.mayNight at hn
    cases ho : s.rcv.outOfService
    · rfl
    · rw [ho] at hn
      exact absurd hn Bool.false_ne_true
  exact (if_neg nofun).trans ((if_neg (by rw [ho]; decide)).trans ((if_neg (by rw [ha]; decide)).trans (if_pos hn)))

theorem setState_busy {s : State} (ha : s.mgt.awake = true) (hn : s.mayNight = false) : setState 0 s = ⟨s, stateRefused, [], false⟩ := by
  refine (if_neg nofun).trans ?_
  split
  · rfl
  · exact (if_neg (by rw [ha]; decide)).trans (if_neg (by rw [hn]; decide))

/-- NIGHT: the host's mailbox goes with it, the other shows its answer (R394, R395). -/
theorem night_row {s : State} {m : Mbox} {arg : W32} (h : MboxOk s m (plain 0x09 arg)) (ha : s.mgt.awake = true) (harg : arg = 0#32)
    (hn : s.mayNight = true) : ∃ t, mailbox m (plain 0x09 arg) s = s.close t
      ∧ (m = .i3c → mboxShows t m (plain 0x09 arg) 0 []) ∧ (m = .host → t.mgt.host = {}) ∧ t.mgt.awake = false ∧ t.mgt.ready = false
      ∧ t.modl.phase = .standby ∧ t.modl.pwrGood = false ∧ t.tiers.mem = [] ∧ t.tiers.pt = [] ∧ t.ctxs = []
      ∧ t.mgt.store = s.mgt.store ∧ t.ticks = s.ticks := by
  have hout : mbCommand (plain 0x09 arg) s = ⟨powerDown s, 0, [], false⟩ := by
    rw [harg]
    exact setState_night ha hn
  obtain ⟨hphase, hgood, hawake, hmem, hctxs, hticks, hstore⟩ := powerDown_leaves s
  have hpt : (powerDown s).tiers.pt = [] := rfl
  have hready : (powerDown s).mgt.ready = false := rfl
  have hhost : (powerDown s).mgt.host = {} := rfl
  have hi3c : (powerDown s).mgt.i3c = {} := rfl
  generalize powerDown s = u at *
  obtain ⟨p, hmodl⟩ := mbDone_modl m (plain 0x09 arg) ⟨u, 0, [], false⟩
  have hkept := mbDone_sansMbox m (plain 0x09 arg) ⟨u, 0, [], false⟩
  refine ⟨_, mailbox_acts h hout, fun hm => ?_, fun hm => ?_, (congrArg Mgt.awake hkept :).trans hawake,
    (congrArg Mgt.ready hkept :).trans hready, ?_, ?_, ?_, ?_, ?_, (mbDone_store ..).trans hstore, ?_⟩
  · refine mbDone_shows rfl (fun hh => nomatch hm.symm.trans hh) ?_
    rw [hm, State.mbox, hi3c]
    rfl
  · have hgone : mbDone m (plain 0x09 arg) ⟨u, 0, [], false⟩ = u := if_pos (by rw [decide_eq_true hm, hawake]; rfl)
    rw [hgone, hhost]
  · rw [hmodl]; exact hphase
  · rw [hmodl]; exact hgood
  all_goals simp [hmem, hpt, hctxs, hticks]

/-! What a device reset leaves of the recovery controller -/

theorem dropReplay_rcv (s : State) : ∃ r, (dropReplay s).rcv = { s.rcv with replay := r } := by
  unfold dropReplay
  split
  · exact ⟨s.rcv.replay, rfl⟩
  · exact ⟨none, by simp⟩

theorem endReplay_rcv (res : Bool) (s : State) :
    (endReplay res s).rcv.outOfService = s.rcv.outOfService ∧ (endReplay res s).rcv.failures = s.rcv.failures := by
  unfold endReplay
  split
  · exact ⟨rfl, rfl⟩
  · obtain ⟨r, hr⟩ := dropReplay_rcv s
    dsimp only
    rw [hr]
    exact ⟨rfl, rfl⟩

theorem errRcv_rcv (s : State) (k slot core port : Nat) : ∃ e, (s.errRcv k slot core port).rcv = { s.rcv with err := e } := by
  unfold State.errRcv
  split
  · exact ⟨s.rcv.err, rfl⟩
  · exact ⟨setBit s.rcv.err k, by simp⟩

/-- R362: counters and engines start over; what R374 keeps of the recovery controller stays. -/
theorem resetDevice_leaves (s : State) : (resetDevice s).counters = [] ∧ (resetDevice s).rcv.ready = false
    ∧ (resetDevice s).rcv.outOfService = s.rcv.outOfService ∧ (resetDevice s).rcv.failures = s.rcv.failures := by
  obtain ⟨-, -, hrcv⟩ := emptied_keeps s
  obtain ⟨hout, hfail⟩ := endReplay_rcv false s
  have hcounters : (restarted s).counters = [] := rfl
  have hready : (restarted s).rcv.ready = false := rfl
  have hkept : (clearHub (emptied s)).rcv = (endReplay false s).rcv := by simp [hrcv]
  have hout' : (restarted s).rcv.outOfService = s.rcv.outOfService := (congrArg Rcv.outOfService hkept).trans hout
  have hfail' : (restarted s).rcv.failures = s.rcv.failures := (congrArg Rcv.failures hkept).trans hfail
  generalize hu : restarted s = u at *
  rcases resetDevice_eq s with h | h
  · rw [h, hu]
    exact ⟨hcounters, hready, hout', hfail'⟩
  · obtain ⟨e, he⟩ := errRcv_rcv u 8 0xFFFF 0xFF 0xFF
    rw [h, hu]
    refine ⟨(by simp : (u.errRcv 8).counters = u.counters).trans hcounters, ?_⟩
    dsimp only [State.alertPin]
    rw [he]
    exact ⟨hready, hout', hfail'⟩

/-! MAINTAIN and REINSTATE -/

theorem maintain_busy {s : State} {arg : Nat} (h : s.unitBusy (bits arg 7 0) (bits arg 15 8) = true) :
    maintain arg s = ⟨s, mgtUnitBusy, [], false⟩ := if_pos h

theorem ungate_keeps (n : Nat) (s : State) : (ungate n s).mgt = s.mgt ∧ (ungate n s).tiers = s.tiers ∧ (ungate n s).ctxs = s.ctxs
    ∧ (ungate n s).nets = s.nets ∧ ((s.core n).state = .gated → ((ungate n s).core n).state = .locking)
    ∧ ∀ k, k ≠ n → (ungate n s).core k = s.core k := by
  unfold ungate
  dsimp only
  split
  · exact ⟨rfl, rfl, rfl, rfl, fun _ => by rw [State.core_setCore_self], fun k hk => State.core_setCore_ne s _ hk⟩
  next h => exact ⟨rfl, rfl, rfl, rfl, fun hg => absurd hg h, fun _ _ => rfl⟩

/-- The state in which a unit waits for its maintenance. -/
def withTraining (u : CalUnit) (s : State) : State := { s with mgt := { s.mgt with training := insertNew u s.mgt.training } }

/-- What MAINTAIN leaves for a unit that load re-verification watches. -/
def maintained (code k : Nat) (u : CalUnit) (s : State) : State :=
  if code = 5 then retrainPort k (withTraining u s)
  else if code = 1 ∨ code = 2 then ungate k (withTraining u s) else withTraining u s

theorem maintain_unit {s : State} {arg : Nat} {u : CalUnit} (h : s.unitBusy (bits arg 7 0) (bits arg 15 8) = false)
    (hu : unitOf (bits arg 7 0) (bits arg 15 8) = some u) :
    maintain arg s = ⟨maintained (bits arg 7 0) (bits arg 15 8) u s, 0, [], false⟩ := by
  unfold maintain
  dsimp only
  rw [if_neg (by rw [h]; decide), hu]
  rfl

theorem maintained_keeps (code k : Nat) (u : CalUnit) (s : State) : (maintained code k u s).mgt = (withTraining u s).mgt
    ∧ (maintained code k u s).tiers = s.tiers ∧ (maintained code k u s).ctxs = s.ctxs
    ∧ (code = 1 ∨ code = 2 → (s.core k).state = .gated → ((maintained code k u s).core k).state = .locking)
    ∧ (code = 5 → ((maintained code k u s).net k).linkUp = false) ∧ (code ≠ 5 → (maintained code k u s).nets = s.nets) := by
  obtain ⟨hmgt, htiers, hctxs, hnets, hlock, -⟩ := ungate_keeps k (withTraining u s)
  unfold maintained
  split
  next h5 =>
    refine ⟨by simp, by simp; rfl, by simp; rfl, fun h => absurd h5 (by omega), fun _ => ?_, fun h => absurd h5 h⟩
    rw [retrainPort, State.net_setNet_self]
    rfl
  next h5 =>
    split
    · exact ⟨hmgt, htiers, hctxs, fun _ => hlock, fun h => absurd h h5, fun _ => hnets⟩
    next h12 => exact ⟨rfl, rfl, rfl, fun h => absurd h h12, fun h => absurd h h5, fun _ => rfl⟩

theorem maintain_plan {s : State} {arg : Nat} (h : s.unitBusy (bits arg 7 0) (bits arg 15 8) = false)
    (hu : unitOf (bits arg 7 0) (bits arg 15 8) = none) :
    maintain arg s = ⟨ungate (bits arg 15 8) { s with mgt := { s.mgt with replanning := insertNew (bits arg 15 8) s.mgt.replanning } },
      0, [], false⟩ := by
  unfold maintain
  dsimp only
  rw [if_neg (by rw [h]; decide), hu]

/-- The end of a command leaves what MAINTAIN queued. -/
theorem mbDone_queued (m : Mbox) (c : MbCmd) (o : MbOut) : (mbDone m c o).mgt.training = o.s.mgt.training
    ∧ (mbDone m c o).mgt.replanning = o.s.mgt.replanning :=
  ⟨(congrArg Mgt.training (mbDone_sansMbox m c o) :), (congrArg Mgt.replanning (mbDone_sansMbox m c o) :)⟩

theorem maintain_unit_row {s : State} {m : Mbox} {arg : W32} (h : MboxOk s m (plain 0x0E arg)) {u : CalUnit}
    (hfree : s.unitBusy (bits arg.toNat 7 0) (bits arg.toNat 15 8) = false) (hu : unitOf (bits arg.toNat 7 0) (bits arg.toNat 15 8) = some u) :
    ∃ t, mailbox m (plain 0x0E arg) s = s.close t
      ∧ mboxShows t m (plain 0x0E arg) 0 [] ∧ u ∈ t.mgt.training ∧ t.mgt.replanning = s.mgt.replanning ∧ t.tiers = s.tiers ∧ t.ctxs = s.ctxs
      ∧ (bits arg.toNat 7 0 = 1 ∨ bits arg.toNat 7 0 = 2 → (s.core (bits arg.toNat 15 8)).state = .gated →
          (t.core (bits arg.toNat 15 8)).state = .locking)
      ∧ (bits arg.toNat 7 0 = 5 → (t.net (bits arg.toNat 15 8)).linkUp = false) ∧ (bits arg.toNat 7 0 ≠ 5 → t.nets = s.nets) := by
  have hout : mbCommand (plain 0x0E arg) s = ⟨maintained (bits arg.toNat 7 0) (bits arg.toNat 15 8) u s, 0, [], false⟩ := maintain_unit hfree hu
  obtain ⟨hmgt, hkept⟩ := maintained_keeps (bits arg.toNat 7 0) (bits arg.toNat 15 8) u s
  generalize maintained (bits arg.toNat 7 0) (bits arg.toNat 15 8) u s = v at *
  obtain ⟨htrain, hplan⟩ := mbDone_queued m (plain 0x0E arg) ⟨v, 0, [], false⟩
  have hshows : mboxShows (mbDone m (plain 0x0E arg) ⟨v, 0, [], false⟩) m (plain 0x0E arg) 0 [] :=
    shows_of_kept (o := ⟨v, 0, [], false⟩) h rfl (by rw [hmgt]; rfl) (by cases m <;> simp only [State.mbox, hmgt] <;> rfl)
  refine ⟨_, mailbox_acts h hout, hshows, ?_, ?_, ?_⟩
  · rw [htrain, hmgt]
    exact mem_insertNew ..
  · rw [hplan, hmgt]
    rfl
  · simpa [State.core, State.net] using hkept

theorem maintain_plan_row {s : State} {m : Mbox} {arg : W32} (h : MboxOk s m (plain 0x0E arg))
    (hfree : s.unitBusy (bits arg.toNat 7 0) (bits arg.toNat 15 8) = false) (hu : unitOf (bits arg.toNat 7 0) (bits arg.toNat 15 8) = none) :
    ∃ t, mailbox m (plain 0x0E arg) s = s.close t ∧ mboxShows t m (plain 0x0E arg) 0 [] ∧ bits arg.toNat 15 8 ∈ t.mgt.replanning
      ∧ t.mgt.training = s.mgt.training
      ∧ ((s.core (bits arg.toNat 15 8)).state = .gated → (t.core (bits arg.toNat 15 8)).state = .locking)
      ∧ (∀ n, n ≠ bits arg.toNat 15 8 → t.core n = s.core n) ∧ t.tiers = s.tiers ∧ t.ctxs = s.ctxs ∧ t.nets = s.nets := by
  have hout : mbCommand (plain 0x0E arg) s =
      ⟨ungate (bits arg.toNat 15 8) { s with mgt := { s.mgt with replanning := insertNew (bits arg.toNat 15 8) s.mgt.replanning } },
        0, [], false⟩ := maintain_plan hfree hu
  generalize bits arg.toNat 15 8 = k at *
  obtain ⟨hmgt, htiers, hctxs, hnets, hlock, hother⟩ := ungate_keeps k { s with mgt := { s.mgt with replanning := insertNew k s.mgt.replanning } }
  generalize ungate k { s with mgt := { s.mgt with replanning := insertNew k s.mgt.replanning } } = v at *
  obtain ⟨htrain, hplan⟩ := mbDone_queued m (plain 0x0E arg) ⟨v, 0, [], false⟩
  have hshows : mboxShows (mbDone m (plain 0x0E arg) ⟨v, 0, [], false⟩) m (plain 0x0E arg) 0 [] :=
    shows_of_kept (o := ⟨v, 0, [], false⟩) h rfl (by rw [hmgt]) (by cases m <;> simp only [State.mbox, hmgt])
  have hcores : (mbDone m (plain 0x0E arg) ⟨v, 0, [], false⟩).cores = v.cores := by simp
  refine ⟨_, mailbox_acts h hout, hshows, ?_, ?_, ?_, ?_, ?_⟩
  · rw [hplan, hmgt]
    exact mem_insertNew ..
  · rw [htrain, hmgt]
  · rw [core_of_cores hcores]
    exact hlock
  · intro n hn
    rw [core_of_cores hcores]
    exact hother n hn
  · simp [htiers, hctxs, hnets]


theorem logEv_store (s : State) (e : LogEnt) : (s.logEv e).mgt.store = s.mgt.store := (fields_of_sansLog (logEv_sansLog s e)).2.1

/-- A store of the device's own records commits, and past the rating logs that. -/
theorem devStore_eq (f : Store → Store) (s : State) : devStore f s = commitStore f s ∨ ∃ e, devStore f s = (commitStore f s).logEv e := by
  unfold devStore
  extract_lets t
  split
  · exact .inr ⟨_, rfl⟩
  · exact .inl rfl

theorem devStore_store (f : Store → Store) (s : State) : (devStore f s).mgt.store = { f s.mgt.store with highSeq := s.mgt.nextSeq - 1 } := by
  rcases devStore_eq f s with h | ⟨e, h⟩
  · rw [h, (commitStore_mgt f s).1]
  · rw [h, logEv_store, (commitStore_mgt f s).1]

theorem nvmCopy_mgt (e : LogEnt) (s : State) : ∃ l, (nvmCopy e s).mgt = { s.mgt with nvmLog := l } := by
  unfold nvmCopy
  split
  · exact ⟨_, rfl⟩
  · exact ⟨s.mgt.nvmLog, rfl⟩

/-- What a flush of the log leaves of the management part: all but the NVM ring. -/
theorem nvmFlush_mgt (s : State) : ∃ l, (nvmFlush s).mgt = { s.mgt with nvmLog := l } := by
  unfold nvmFlush
  induction s.mgt.ramLog generalizing s with
  | nil => exact ⟨s.mgt.nvmLog, rfl⟩
  | cons e es ih =>
    obtain ⟨l, hl⟩ := ih (nvmCopy e s)
    obtain ⟨l1, hl1⟩ := nvmCopy_mgt e s
    exact ⟨l, hl.trans (by rw [hl1])⟩

theorem resetDevice_store (s : State) : (resetDevice s).mgt.store = s.mgt.store ∧ (resetDevice s).mgt.ready = false :=
  ⟨(fields_of_sansLog (resetDevice_sansLog s)).2.1, (fields_of_sansLog (resetDevice_sansLog s)).2.2.2.1⟩

theorem mbDone_gone {m : Mbox} {c : MbCmd} {u : State} : mbDone m c ⟨u, 0, [], true⟩ = u := rfl

theorem reinstate_row {s : State} {m : Mbox} {arg : W32} (h : MboxOk s m (plain 0x0F arg)) (ho : s.rcv.outOfService = true) :
    ∃ t, mailbox m (plain 0x0F arg) s = s.close t ∧ t.rcv.outOfService = false ∧ t.mgt.store.outOfService = false ∧ t.mgt.ready = false
      ∧ t.rcv.ready = false ∧ t.counters = [] ∧ t.rcv.failures = s.rcv.failures := by
  have hacc : ¬(!s.rcv.outOfService) = true := by rw [ho]; decide
  refine ⟨_, (mailbox_acts h (if_neg hacc)).trans (congrArg s.close mbDone_gone), ?_⟩
  generalize hv : devStore (fun t => { t with outOfService := false, dayResets := 0 })
    { s with rcv := { s.rcv with outOfService := false, history := s.rcv.history.filter fun h => decide (h.dom ≠ 25) } } = v
  have hrcv : (nvmFlush (v.logEv (ev 1 0x02 0x4E))).rcv
      = { s.rcv with outOfService := false, history := s.rcv.history.filter fun h => decide (h.dom ≠ 25) } := by
    rw [← hv]
    simp
  have hstore : (nvmFlush (v.logEv (ev 1 0x02 0x4E))).mgt.store.outOfService = false := by
    obtain ⟨l, hl⟩ := nvmFlush_mgt (v.logEv (ev 1 0x02 0x4E))
    rw [hl, ← hv]
    exact congrArg Store.outOfService ((logEv_store _ _).trans (devStore_store _ _))
  obtain ⟨hcounters, hready, hout, hfail⟩ := resetDevice_leaves (nvmFlush (v.logEv (ev 1 0x02 0x4E)))
  obtain ⟨hkeep, hmready⟩ := resetDevice_store (nvmFlush (v.logEv (ev 1 0x02 0x4E)))
  exact ⟨hout.trans (congrArg Rcv.outOfService hrcv), (congrArg Store.outOfService hkeep).trans hstore, hmready, hready, hcounters,
    hfail.trans (by rw [hrcv])⟩

/-- Settles O43: each command is one branch of its function, and a mailbox leaves it as `mbDone` does. -/
theorem stateRows : Obligations.StateRows := by
  intro s m arg c
  refine ⟨fun h ha harg hn => ?_, fun h ha harg hn => ?_, fun h ha harg hp hi => ?_, fun h ho harg => ?_, fun h ho harg => ?_,
    fun h ha harg => ?_, fun h => ⟨fun hb => ?_, fun u hf hu => ?_, fun hf hu => ?_⟩, fun h ho => ?_, fun h ho => ?_⟩
  · exact exec_of_mailbox rfl (night_row h ha harg hn)
  · exact exec_of_mailbox rfl (mailbox_status h (by subst harg; exact setState_busy ha hn))
  · obtain ⟨honly, -, -, htrip, hmgt⟩ := releaseTrip_only s
    have hout : mbCommand c s = _ := (show mbCommand c s = setState 1 s by subst harg; rfl).trans
      ((setState_wakes ha).trans (by rw [wake_up hp hi]))
    obtain ⟨t, hclose, hshows, htonly, htphase, httrip⟩ := mailbox_only h hout honly hmgt
    exact exec_of_mailbox rfl ⟨t, hclose, hshows, htphase, httrip.trans htrip, htonly⟩
  · have hne : arg.toNat ≠ 1 := fun hn => harg (BitVec.eq_of_toNat_eq hn)
    exact exec_of_mailbox rfl (mailbox_status h (setState_refused hne ho))
  · refine exec_of_mailbox rfl (mailbox_status h (setState_stays ?_ ho ?_))
    · rcases harg with rfl | ⟨rfl, -⟩ <;> exact nofun
    · exact harg.imp (fun h2 => by subst h2; exact nofun) (·.2)
  · obtain ⟨honly, hphase, -, htrip, hmgt⟩ := releaseTrip_only s
    have hout : mbCommand c s = _ := (show mbCommand c s = setState 1 s by subst harg; rfl).trans
      (setState_up ha)
    obtain ⟨t, hclose, hshows, htonly, htphase, httrip⟩ := mailbox_only h hout honly hmgt
    exact exec_of_mailbox rfl ⟨t, hclose, hshows, httrip.trans htrip, htphase.trans hphase, htonly⟩
  · exact exec_of_mailbox rfl (mailbox_status h (maintain_busy hb))
  · exact exec_of_mailbox rfl (maintain_unit_row h hf hu)
  · exact exec_of_mailbox rfl (maintain_plan_row h hf hu)
  · exact exec_of_mailbox rfl (reinstate_row h ho)
  · exact exec_of_mailbox rfl (mailbox_status h (if_pos (by rw [ho]; rfl)))

/-! Firmware (R416 to R419) -/

theorem setFw_self (s : State) (k : Nat) (f : FwSlot) : (s.setFw k f).fwSlot k = f := by
  unfold State.fwSlot State.setFw
  by_cases hk : k = 0 <;> simp [hk]

theorem setFw_run (s : State) (k : Nat) (f : FwSlot) : (s.setFw k f).mgt.fwRun = s.mgt.fwRun ∧ (s.setFw k f).mgt.store = s.mgt.store
    ∧ (s.setFw k f).mgt.awake = s.mgt.awake ∧ (s.setFw k f).mgt.nextSeq = s.mgt.nextSeq ∧ mboxOnly s (s.setFw k f)
    ∧ ∀ m, (s.setFw k f).mbox m = s.mbox m := by
  unfold State.setFw
  split <;> exact ⟨rfl, rfl, rfl, rfl, ⟨rfl, rfl, rfl, rfl, rfl, rfl, rfl, rfl, rfl, rfl⟩, fun m => by cases m <;> rfl⟩

/-- With two slots, the one that runs is not the idle one. -/
theorem setFw_idle (s : State) (f : FwSlot) (h : s.mgt.fwRun < 2) : (s.setFw s.mgt.idleSlot f).fwSlot s.mgt.fwRun = s.fwSlot s.mgt.fwRun := by
  unfold State.fwSlot State.setFw Mgt.idleSlot
  generalize s.mgt.fwRun = k at *
  obtain rfl | rfl : k = 0 ∨ k = 1 := by omega
  all_goals rfl

theorem fwSlot_of_mgt {s t : State} (ha : t.mgt.fwA = s.mgt.fwA) (hb : t.mgt.fwB = s.mgt.fwB) (k : Nat) : t.fwSlot k = s.fwSlot k := by
  rw [State.fwSlot, ha, hb, State.fwSlot]

theorem fwSlot_of_sansLog {s t : State} (h : t.mgt.sansLog = s.mgt.sansLog) (k : Nat) : t.fwSlot k = s.fwSlot k :=
  fwSlot_of_mgt (congrArg Mgt.fwA h :) (congrArg Mgt.fwB h :) k

theorem mbDone_fw (m : Mbox) (c : MbCmd) (o : MbOut) : (mbDone m c o).mgt.fwRun = o.s.mgt.fwRun
    ∧ (mbDone m c o).mgt.fwUncommitted = o.s.mgt.fwUncommitted ∧ ∀ k, (mbDone m c o).fwSlot k = o.s.fwSlot k :=
  ⟨(congrArg Mgt.fwRun (mbDone_sansMbox m c o) :), (congrArg Mgt.fwUncommitted (mbDone_sansMbox m c o) :),
    fwSlot_of_mgt (congrArg Mgt.fwA (mbDone_sansMbox m c o) :) (congrArg Mgt.fwB (mbDone_sansMbox m c o) :)⟩

/-- A staged slot: its bytes, and no bundle that is checked. -/
def staged (off : Nat) (data : List Byte) (f : FwSlot) : FwSlot :=
  { f with bytes := Tbl.writeList 0#8 f.bytes off data, valid := false, committed := false }

theorem fwStage_writes {inp : List Byte} {s : State} (h : leNat (inp.take 8) + (inp.drop 8).length ≤ 16777216) : fwStage inp s
    = ⟨s.setFw s.mgt.idleSlot (staged (leNat (inp.take 8)) (inp.drop 8) (s.fwSlot s.mgt.idleSlot)), 0, [], false⟩ :=
  if_neg (Nat.not_lt.mpr h)

theorem fwStage_row {s : State} {m : Mbox} {arg : W32} {inp : List Byte} (h : MboxOk s m (withInput 0x0A arg inp))
    (hfit : leNat (inp.take 8) + (inp.drop 8).length ≤ 16777216) (hbytes : Tbl.rising (s.fwSlot s.mgt.idleSlot).bytes = true)
    (hrun : s.mgt.fwRun < 2) : ∃ t, mailbox m (withInput 0x0A arg inp) s = s.close t ∧ mboxShows t m (withInput 0x0A arg inp) 0 []
      ∧ (t.fwSlot s.mgt.idleSlot).valid = false
      ∧ Tbl.slice 0#8 (t.fwSlot s.mgt.idleSlot).bytes (leNat (inp.take 8)) (inp.drop 8).length = inp.drop 8
      ∧ t.fwSlot s.mgt.fwRun = s.fwSlot s.mgt.fwRun ∧ t.mgt.fwRun = s.mgt.fwRun ∧ mboxOnly s t := by
  generalize hf : staged (leNat (inp.take 8)) (inp.drop 8) (s.fwSlot s.mgt.idleSlot) = f
  have hout : mbCommand (withInput 0x0A arg inp) s = ⟨s.setFw s.mgt.idleSlot f, 0, [], false⟩ := hf ▸ fwStage_writes hfit
  obtain ⟨hkeep, -, hawake, -, honly, hbox⟩ := setFw_run s s.mgt.idleSlot f
  obtain ⟨hdrun, -, hslot⟩ := mbDone_fw m (withInput 0x0A arg inp) ⟨s.setFw s.mgt.idleSlot f, 0, [], false⟩
  refine ⟨_, mailbox_acts h hout, shows_of_kept h rfl hawake (hbox m), ?_, ?_, ?_, hdrun.trans hkeep, mbDone_mboxOnly honly m _⟩
  · rw [hslot, setFw_self, ← hf]
    rfl
  · rw [hslot, setFw_self, ← hf]
    exact Tbl.slice_writeList 0#8 _ _ hbytes
  · rw [hslot]
    exact setFw_idle s f hrun

/-- The state that FW_ACTIVATE resets: the log flushed, the staged bundle checked and chosen (R417). -/
def activated (f : FwSlot) (s : State) : State :=
  let s1 := nvmFlush ((s.logEv (ev 1 0x02 0x4B)).raiseAlert 1)
  let s2 := s1.setFw s1.mgt.idleSlot f.checked
  { s2 with mgt := { s2.mgt with fwRun := s2.mgt.idleSlot, fwUncommitted := true } }

theorem fwActivate_takes {s : State} {sig : Bool} {f : FwSlot} (hf : s.fwSlot s.mgt.idleSlot = f)
    (hform : f.valid = true ∨ f.wellFormed = true) (hsig : sig = true) (hroll : s.mgt.store.rollback ≤ f.checked.svn)
    (hidle : ∀ p ∈ s.ctxs, p.2.st = .none) : fwActivate sig s = ⟨resetDevice (activated f s), 0, [], true⟩ := by
  have hany : s.ctxs.any (fun p => decide (p.2.st ≠ .none)) = false :=
    List.any_eq_false.mpr fun p hp => by rw [hidle p hp]; decide
  have hno : (!f.valid && !f.wellFormed) = false := by
    rcases hform with h | h <;> simp [h]
  unfold fwActivate
  rw [hf, hsig, hany]
  dsimp only
  rw [decide_eq_false (Nat.not_lt.mpr hroll), hno]
  rfl

theorem activated_mgt (f : FwSlot) (s : State) : (activated f s).mgt.fwRun = s.mgt.idleSlot ∧ (activated f s).mgt.fwUncommitted = true
    ∧ (activated f s).fwSlot s.mgt.idleSlot = f.checked ∧ (activated f s).mgt.store = s.mgt.store := by
  obtain ⟨l, hflush⟩ := nvmFlush_mgt ((s.logEv (ev 1 0x02 0x4B)).raiseAlert 1)
  have hlog : ((s.logEv (ev 1 0x02 0x4B)).raiseAlert 1).mgt.sansLog = s.mgt.sansLog := by rw [raiseAlert_sansLog, logEv_sansLog]
  have hrun : (nvmFlush ((s.logEv (ev 1 0x02 0x4B)).raiseAlert 1)).mgt.fwRun = s.mgt.fwRun := by
    rw [hflush]
    exact (congrArg Mgt.fwRun hlog :)
  have hstore : (nvmFlush ((s.logEv (ev 1 0x02 0x4B)).raiseAlert 1)).mgt.store = s.mgt.store := by
    rw [hflush]
    exact (congrArg Mgt.store hlog :)
  unfold activated
  generalize nvmFlush ((s.logEv (ev 1 0x02 0x4B)).raiseAlert 1) = v at hrun hstore
  have hidle : v.mgt.idleSlot = s.mgt.idleSlot := by rw [Mgt.idleSlot, hrun, Mgt.idleSlot]
  obtain ⟨hkeep, hkstore, -⟩ := setFw_run v v.mgt.idleSlot f.checked
  refine ⟨?_, rfl, ?_, hkstore.trans hstore⟩
  · exact (congrArg (1 - ·) hkeep).trans hidle
  · exact (fwSlot_of_mgt rfl rfl _).trans (hidle ▸ setFw_self v v.mgt.idleSlot f.checked)

theorem fwActivate_badSig {s : State} (hform : (s.fwSlot s.mgt.idleSlot).valid = true ∨ (s.fwSlot s.mgt.idleSlot).wellFormed = true) :
    fwActivate false s = ⟨s, fwBadSignature, [], false⟩ := by
  have hno : (!(s.fwSlot s.mgt.idleSlot).valid && !(s.fwSlot s.mgt.idleSlot).wellFormed) = false := by
    rcases hform with h | h <;> simp [h]
  unfold fwActivate
  dsimp only
  rw [hno]
  rfl

/-- A device reset keeps the firmware slots and which of them runs. -/
theorem resetDevice_fw (s : State) : (resetDevice s).mgt.fwRun = s.mgt.fwRun ∧ (resetDevice s).mgt.fwUncommitted = s.mgt.fwUncommitted
    ∧ ∀ k, (resetDevice s).fwSlot k = s.fwSlot k := by
  have h := resetDevice_sansLog s
  exact ⟨(congrArg Mgt.fwRun h :), (congrArg Mgt.fwUncommitted h :), fwSlot_of_mgt (congrArg Mgt.fwA h :) (congrArg Mgt.fwB h :)⟩

theorem fwActivate_row {s : State} {m : Mbox} {arg : W32} {sig : Bool} (h : MboxOk s m { plain 0x0B arg with sig := sig })
    (hform : (s.fwSlot s.mgt.idleSlot).valid = true ∨ (s.fwSlot s.mgt.idleSlot).wellFormed = true) (hsig : sig = true)
    (hroll : s.mgt.store.rollback ≤ (s.fwSlot s.mgt.idleSlot).checked.svn) (hidle : ∀ p ∈ s.ctxs, p.2.st = .none) :
    ∃ t, mailbox m { plain 0x0B arg with sig := sig } s = s.close t ∧ t.mgt.fwRun = s.mgt.idleSlot ∧ t.mgt.fwUncommitted = true
      ∧ t.mgt.ready = false ∧ t.fwSlot s.mgt.idleSlot = (s.fwSlot s.mgt.idleSlot).checked ∧ t.mgt.store = s.mgt.store ∧ t.counters = [] := by
  have hout : mbCommand { plain 0x0B arg with sig := sig } s = ⟨resetDevice (activated (s.fwSlot s.mgt.idleSlot) s), 0, [], true⟩ :=
    fwActivate_takes rfl hform hsig hroll hidle
  obtain ⟨hrun, hunc, hslot, hstore⟩ := activated_mgt (s.fwSlot s.mgt.idleSlot) s
  refine ⟨_, (mailbox_acts h hout).trans (congrArg s.close mbDone_gone), ?_⟩
  generalize activated (s.fwSlot s.mgt.idleSlot) s = v at *
  obtain ⟨hrrun, hrunc, hrslot⟩ := resetDevice_fw v
  obtain ⟨hrstore, hready⟩ := resetDevice_store v
  exact ⟨hrrun.trans hrun, hrunc.trans hunc, hready, (hrslot _).trans hslot, hrstore.trans hstore, (resetDevice_leaves v).1⟩

/-- The state of a commit before it is logged. -/
def fwCommitted (s : State) : State :=
  let f := s.fwSlot s.mgt.fwRun
  let s1 := s.setFw s.mgt.fwRun { f with committed := true }
  devStore (fun t => { t with rollback := max t.rollback f.svn }) { s1 with mgt := { s1.mgt with fwUncommitted := false } }

theorem fwCommit_commits {s : State} (h : s.mgt.fwUncommitted = true) :
    fwCommit s = ⟨((fwCommitted s).logEv (ev 0 0x02 0x4D)).raiseAlert 1, 0, [], false⟩ := if_neg (by rw [h]; decide)

/-- What a store of the device's own records leaves of the firmware and of the mailboxes. -/
theorem devStore_fw (f : Store → Store) (s : State) : (devStore f s).mgt.fwRun = s.mgt.fwRun
    ∧ (devStore f s).mgt.fwUncommitted = s.mgt.fwUncommitted ∧ (∀ k, (devStore f s).fwSlot k = s.fwSlot k)
    ∧ (devStore f s).mgt.awake = s.mgt.awake ∧ ∀ m, (devStore f s).mbox m = s.mbox m := by
  have hcommit : (commitStore f s).mgt.fwRun = s.mgt.fwRun ∧ (commitStore f s).mgt.fwUncommitted = s.mgt.fwUncommitted
      ∧ (∀ k, (commitStore f s).fwSlot k = s.fwSlot k) ∧ (commitStore f s).mgt.awake = s.mgt.awake
      ∧ ∀ m, (commitStore f s).mbox m = s.mbox m := by
    unfold commitStore
    dsimp only
    split <;> exact ⟨rfl, rfl, fun _ => rfl, rfl, fun m => by cases m <;> rfl⟩
  rcases devStore_eq f s with h | ⟨e, h⟩ <;> rw [h]
  · exact hcommit
  · obtain ⟨hrun, hunc, hslot, hawake, hbox⟩ := hcommit
    have hlog := logEv_sansLog (commitStore f s) e
    exact ⟨(congrArg Mgt.fwRun hlog :).trans hrun, (congrArg Mgt.fwUncommitted hlog :).trans hunc,
      fun k => (fwSlot_of_sansLog hlog k).trans (hslot k), (congrArg Mgt.awake hlog :).trans hawake,
      fun m => (mbox_of_sansLog hlog m).trans (hbox m)⟩

theorem fwCommitted_mgt (s : State) : (fwCommitted s).mgt.fwRun = s.mgt.fwRun ∧ (fwCommitted s).mgt.fwUncommitted = false
    ∧ ((fwCommitted s).fwSlot s.mgt.fwRun).committed = true
    ∧ (fwCommitted s).mgt.store
      = { s.mgt.store with rollback := max s.mgt.store.rollback (s.fwSlot s.mgt.fwRun).svn, highSeq := s.mgt.nextSeq - 1 }
    ∧ (fwCommitted s).mgt.awake = s.mgt.awake ∧ ∀ m, (fwCommitted s).mbox m = s.mbox m := by
  obtain ⟨hrun, hstore, hawake, hseq, -, hbox⟩ := setFw_run s s.mgt.fwRun { s.fwSlot s.mgt.fwRun with committed := true }
  have hslot := setFw_self s s.mgt.fwRun { s.fwSlot s.mgt.fwRun with committed := true }
  unfold fwCommitted
  dsimp only
  generalize s.setFw s.mgt.fwRun { s.fwSlot s.mgt.fwRun with committed := true } = v at *
  obtain ⟨hdrun, hdunc, hdslot, hdawake, hdbox⟩ := devStore_fw
    (fun t => { t with rollback := max t.rollback (s.fwSlot s.mgt.fwRun).svn }) { v with mgt := { v.mgt with fwUncommitted := false } }
  refine ⟨hdrun.trans hrun, hdunc, ?_, ?_, hdawake.trans hawake, fun m => (hdbox m).trans ?_⟩
  · rw [hdslot]
    exact congrArg FwSlot.committed ((fwSlot_of_mgt rfl rfl _).trans hslot)
  · rw [devStore_store]
    dsimp only
    rw [hstore, hseq]
  · rw [← hbox m]
    cases m <;> rfl

theorem fwCommit_row {s : State} {m : Mbox} {arg : W32} (h : MboxOk s m (plain 0x0C arg)) (hunc : s.mgt.fwUncommitted = true) :
    ∃ t, mailbox m (plain 0x0C arg) s = s.close t ∧ mboxShows t m (plain 0x0C arg) 0 [] ∧ t.mgt.fwUncommitted = false
      ∧ (t.fwSlot s.mgt.fwRun).committed = true
      ∧ t.mgt.store = { s.mgt.store with rollback := max s.mgt.store.rollback (s.fwSlot s.mgt.fwRun).svn, highSeq := s.mgt.nextSeq - 1 }
      ∧ t.mgt.fwRun = s.mgt.fwRun := by
  have hout : mbCommand (plain 0x0C arg) s = ⟨((fwCommitted s).logEv (ev 0 0x02 0x4D)).raiseAlert 1, 0, [], false⟩ := fwCommit_commits hunc
  obtain ⟨hrun, hfree, hslot, hstore, hawake, hbox⟩ := fwCommitted_mgt s
  have hlog : (((fwCommitted s).logEv (ev 0 0x02 0x4D)).raiseAlert 1).mgt.sansLog = (fwCommitted s).mgt.sansLog := by
    rw [raiseAlert_sansLog, logEv_sansLog]
  generalize ((fwCommitted s).logEv (ev 0 0x02 0x4D)).raiseAlert 1 = v at *
  obtain ⟨hdrun, hdunc, hdslot⟩ := mbDone_fw m (plain 0x0C arg) ⟨v, 0, [], false⟩
  refine ⟨_, mailbox_acts h hout, shows_of_kept h rfl ((congrArg Mgt.awake hlog :).trans hawake)
    ((mbox_of_sansLog hlog m).trans (hbox m)), hdunc.trans ((congrArg Mgt.fwUncommitted hlog :).trans hfree), ?_,
    (mbDone_store ..).trans ((congrArg Mgt.store hlog :).trans hstore), hdrun.trans ((congrArg Mgt.fwRun hlog :).trans hrun)⟩
  rw [hdslot, fwSlot_of_sansLog hlog]
  exact hslot

/-- The fall back resets into the previous slot and flags it (R418). -/
theorem fwFallBack_row {s : State} (hunc : s.mgt.fwUncommitted = true) (hr : s.mgt.ready = false) (ha : s.mgt.awake = true)
    (hv : (s.fwSlot s.mgt.idleSlot).valid = true) : (fwFallBack s).mgt.fwRun = s.mgt.idleSlot ∧ (fwFallBack s).mgt.fwUncommitted = false
      ∧ (fwFallBack s).mgt.err.getLsbD 0 = true ∧ (fwFallBack s).mgt.alert.getLsbD 1 = true ∧ (fwFallBack s).mgt.store = s.mgt.store := by
  have heq : fwFallBack s = ((resetDevice { s with mgt := { s.mgt with fwRun := s.mgt.idleSlot, fwUncommitted := false } }).errMgt 0
      (ev 2 0x02 0x4C)).raiseAlert 1 := if_neg (by rw [hunc, hr, ha, hv]; decide)
  obtain ⟨hrun, hrunc, -⟩ := resetDevice_fw { s with mgt := { s.mgt with fwRun := s.mgt.idleSlot, fwUncommitted := false } }
  obtain ⟨hstore, -⟩ := resetDevice_store { s with mgt := { s.mgt with fwRun := s.mgt.idleSlot, fwUncommitted := false } }
  generalize resetDevice { s with mgt := { s.mgt with fwRun := s.mgt.idleSlot, fwUncommitted := false } } = v at *
  have herr : (v.errMgt 0 (ev 2 0x02 0x4C)).mgt.err.getLsbD 0 = true ∧ (v.errMgt 0 (ev 2 0x02 0x4C)).mgt.fwRun = v.mgt.fwRun
      ∧ (v.errMgt 0 (ev 2 0x02 0x4C)).mgt.fwUncommitted = v.mgt.fwUncommitted
      ∧ (v.errMgt 0 (ev 2 0x02 0x4C)).mgt.store = v.mgt.store := by
    unfold State.errMgt
    split
    next hset => exact ⟨hset, rfl, rfl, rfl⟩
    next hclear =>
      have hlog := logEv_sansLog { v with mgt := { v.mgt with err := setBit v.mgt.err 0 } } (ev 2 0x02 0x4C)
      refine ⟨?_, (congrArg Mgt.fwRun hlog :), (congrArg Mgt.fwUncommitted hlog :), (congrArg Mgt.store hlog :)⟩
      have hset : (setBit v.mgt.err 0).getLsbD 0 = true := by simp [setBit]
      exact (congrArg (fun g : Mgt => g.err.getLsbD 0) hlog :).trans hset
  obtain ⟨hbit, herun, heunc, hestore⟩ := herr
  rw [heq]
  have hal := raiseAlert_sansLog (v.errMgt 0 (ev 2 0x02 0x4C)) 1
  refine ⟨(congrArg Mgt.fwRun hal :).trans (herun.trans hrun), (congrArg Mgt.fwUncommitted hal :).trans (heunc.trans hrunc), ?_,
    State.raiseAlert_bit _ (by decide), (congrArg Mgt.store hal :).trans (hestore.trans hstore)⟩
  exact (congrArg (fun g : Mgt => g.err.getLsbD 0) hal :).trans hbit

/-- Settles O44: a row of each firmware command, the two resets through what a device reset keeps of the management part. -/
theorem firmwareRows : Obligations.FirmwareRows := by
  intro s m arg inp sig k f
  refine ⟨fun h hfit hbytes hrun => exec_of_mailbox rfl (fwStage_row h hfit hbytes hrun),
    fun h hform hsig hroll hidle => exec_of_mailbox rfl (fwActivate_row h hform hsig hroll hidle), fun h hform hsig => ?_,
    fun h hunc => exec_of_mailbox rfl (fwCommit_row h hunc),
    fun h hunc => exec_of_mailbox rfl (mailbox_status h (if_pos (by rw [hunc]; rfl))),
    fun hunc hr ha hv => ⟨_, rfl, fwFallBack_row hunc hr ha hv⟩⟩
  subst hsig
  have hout : mbCommand { plain 0x0B arg with sig := false } s = ⟨s, fwBadSignature, [], false⟩ := fwActivate_badSig hform
  exact exec_of_mailbox rfl ⟨_, mailbox_acts h hout, shows_of_sansLog h rfl rfl, mbDone_mboxOnly (mboxOnly_refl s) m _, (mbDone_fw m _ _).1⟩

end Sys2Proof
end

section
/-! The almanac, load re-verification and the thermal responses (13 R421 to R425, 15 R462 to R464). -/

namespace Sys2Proof

open Sys2Proof.Machine

/-! Clocks of the cores -/

theorem clockCore_core (s : State) (n k : Nat) : ∃ c, (clockCore s n).core k = { s.core k with clock := c } := by
  by_cases hk : k = n
  · subst hk
    unfold clockCore
    split
    · exact ⟨_, State.core_setCore_self ..⟩
    · exact ⟨_, State.core_setCore_self ..⟩
    · exact ⟨(s.core k).clock, rfl⟩
  · refine ⟨(s.core k).clock, ?_⟩
    unfold clockCore
    split
    · exact State.core_setCore_ne s _ hk
    · exact State.core_setCore_ne s _ hk
    · rfl

theorem foldl_clockCore_core (k : Nat) (l : List Nat) (s : State) : ∃ c, (l.foldl clockCore s).core k = { s.core k with clock := c } := by
  induction l generalizing s with
  | nil => exact ⟨(s.core k).clock, rfl⟩
  | cons n l ih =>
    obtain ⟨c, hc⟩ := ih (clockCore s n)
    obtain ⟨d, hd⟩ := clockCore_core s n k
    exact ⟨c, hc.trans (by rw [hd])⟩

/-- New clocks change nothing else of a core. -/
theorem applyClocks_core (s : State) (k : Nat) : ∃ c, (applyClocks s).core k = { s.core k with clock := c } :=
  foldl_clockCore_core k (List.range 8) s

theorem gateStarted_core (s : State) (n : Nat) : ∃ st c, (gateStarted n s).core n = { s.core n with state := st, clock := c } := by
  unfold gateStarted
  dsimp only
  split
  · exact ⟨.gated, 0, State.core_setCore_self ..⟩
  · exact ⟨(s.core n).state, (s.core n).clock, rfl⟩

/-! The error bits of the management part -/

/-- An error that is logged even where its bit stands. -/
theorem errMgt_bit (s : State) {k : Nat} (hk : k < 5) (e : LogEnt) : (s.errMgt k e).mgt.err.getLsbD k = true := by
  unfold State.errMgt
  split
  next hset => exact hset
  next =>
    have hbit : (setBit s.mgt.err k).getLsbD k = true := by
      rw [setBit, BitVec.getLsbD_or, BitVec.getLsbD_ofNat, Nat.testBit_two_pow_self, decide_eq_true hk, Bool.and_self, Bool.or_true]
    exact (congrArg (fun g : Mgt => g.err.getLsbD k) (logEv_sansLog { s with mgt := { s.mgt with err := setBit s.mgt.err k } } e) :).trans hbit

/-- What of the management part is neither of the log nor an error bit. -/
def Machine.Mgt.sansErr (g : Mgt) : Mgt := { g.sansLog with err := 0 }

theorem logEv_sansErr (s : State) (e : LogEnt) : (s.logEv e).mgt.sansErr = s.mgt.sansErr :=
  congrArg (fun g : Mgt => { g with err := 0 }) (logEv_sansLog s e)

theorem errMgt_sansErr (s : State) (k : Nat) (e : LogEnt) : (s.errMgt k e).mgt.sansErr = s.mgt.sansErr := by
  unfold State.errMgt
  split
  · rfl
  · exact logEv_sansErr ..

theorem logEv_err (s : State) (e : LogEnt) : (s.logEv e).mgt.err = s.mgt.err := (congrArg Mgt.err (logEv_sansLog s e) :)

theorem logDerate_mgt (n : Nat) (s : State) : (logDerate n s).mgt.sansErr = s.mgt.sansErr ∧ (logDerate n s).mgt.err.getLsbD 2 = true := by
  unfold logDerate
  dsimp only
  split
  next h => exact ⟨logEv_sansErr .., by rw [logEv_err]; exact h⟩
  next => exact ⟨errMgt_sansErr .., errMgt_bit s (by decide) _⟩

theorem foldl_logDerate (n : Nat) (l : List Nat) (s : State) : (l.foldl (fun u _ => logDerate n u) s).mgt.sansErr = s.mgt.sansErr
    ∧ (l.foldl (fun u _ => logDerate n u) s).cores = s.cores
    ∧ (s.mgt.err.getLsbD 2 = true ∨ l ≠ [] → (l.foldl (fun u _ => logDerate n u) s).mgt.err.getLsbD 2 = true) := by
  induction l generalizing s with
  | nil => exact ⟨rfl, rfl, fun h => h.resolve_right fun h => h rfl⟩
  | cons k l ih =>
    obtain ⟨hmgt, hcores, hbit⟩ := ih (logDerate n s)
    obtain ⟨hmgt1, hbit1⟩ := logDerate_mgt n s
    exact ⟨hmgt.trans hmgt1, hcores.trans (by simp), fun _ => hbit (.inl hbit1)⟩

theorem devStore_rest (f : Store → Store) (s : State) : (devStore f s).mgt.err = s.mgt.err ∧ (devStore f s).mgt.replanning = s.mgt.replanning := by
  have hcommit : (commitStore f s).mgt.err = s.mgt.err ∧ (commitStore f s).mgt.replanning = s.mgt.replanning := by
    unfold commitStore
    dsimp only
    split <;> exact ⟨rfl, rfl⟩
  rcases devStore_eq f s with h | ⟨e, h⟩ <;> rw [h]
  · exact hcommit
  · have hlog := logEv_sansLog (commitStore f s) e
    exact ⟨(congrArg Mgt.err hlog :).trans hcommit.1, (congrArg Mgt.replanning hlog :).trans hcommit.2⟩

/-! The log's copies and the re-plan -/

theorem nvmCopy_takes {s : State} {e : LogEnt} (hn : e.nvm = true) (hnew : ∀ f ∈ s.mgt.nvmLog, f.seq ≠ e.seq) : nvmCopy e s
    = { s with mgt := { s.mgt with nvmLog := (insertSeq e s.mgt.nvmLog).drop (s.mgt.nvmLog.length + 1 - 8192) } } :=
  if_pos ⟨hn, List.any_eq_false.mpr fun f hf => by rw [decide_eq_false (hnew f hf)]; decide⟩

/-- What a re-plan makes of its core. -/
def replanCore (n steps : Nat) (s : State) : Core :=
  { s.core n with planSteps := steps - 12, voltage := Tbl.get 0 s.fuse.voltage n + 5000 * min steps 12, sincePlan := 0 }.planned

/-- The state of a re-plan before the log shows it. -/
def replanSet (n steps : Nat) (s : State) : State :=
  { s.setCore n (replanCore n steps s) with mgt := { s.mgt with replanning := s.mgt.replanning.filter fun k => decide (k ≠ n) } }

/-- The state of a re-plan once the log shows its steps. -/
def replanLogged (n steps : Nat) (s : State) : State :=
  (List.range (steps - 12 - (s.core n).planSteps)).foldl (fun u _ => logDerate n u) (replanSet n steps s)

theorem replanLogged_facts (n steps : Nat) (s : State) : (replanLogged n steps s).core n = replanCore n steps s
    ∧ n ∉ (replanLogged n steps s).mgt.replanning
    ∧ ((s.core n).planSteps < steps - 12 → (replanLogged n steps s).mgt.err.getLsbD 2 = true) := by
  obtain ⟨hmgt, hcores, hbit⟩ := foldl_logDerate n (List.range (steps - 12 - (s.core n).planSteps)) (replanSet n steps s)
  refine ⟨(core_of_cores hcores n).trans (State.core_setCore_self ..), ?_, fun h => hbit (.inr fun hnil => ?_)⟩
  · have hplan : (replanLogged n steps s).mgt.replanning = (replanSet n steps s).mgt.replanning := (congrArg Mgt.replanning hmgt :)
    rw [hplan]
    simp [replanSet]
  · have : steps - 12 - (s.core n).planSteps = 0 := List.range_eq_nil.mp hnil
    omega

theorem replan_takes {n steps : Nat} {table : List (Nat × Nat)} {s : State} (h : s.mayReplan n = true) : ∃ e, replan n steps table s
    = gateStarted n (applyClocks ((devStore (fun t => { t with almanac := some (s.almanac.replanned n (steps - 12)
        (Tbl.get 0 s.fuse.voltage n + 5000 * min steps 12) table) }) (replanLogged n steps s)).logEv e)) :=
  ⟨_, if_neg (by rw [h]; decide)⟩

theorem replan_row {n steps : Nat} {table : List (Nat × Nat)} {s t : State} (h : s.mayReplan n = true) (ht : t = replan n steps table s) :
    (t.core n).planSteps = steps - 12 ∧ (t.core n).voltage = Tbl.get 0 s.fuse.voltage n + 5000 * min steps 12
    ∧ (t.core n).ceiling = Config.clockTop - Config.clockStep * (steps - 12 + (s.core n).loadSteps)
    ∧ t.mgt.store.almanac = some (s.almanac.replanned n (steps - 12) (Tbl.get 0 s.fuse.voltage n + 5000 * min steps 12) table)
    ∧ n ∉ t.mgt.replanning ∧ (t.core n).sincePlan = 0 ∧ ((s.core n).planSteps < steps - 12 → t.mgt.err.getLsbD 2 = true)
    ∧ t.tiers = s.tiers := by
  obtain ⟨hcore, hplan, herr⟩ := replanLogged_facts n steps s
  have htiers : t.tiers = s.tiers := by rw [ht]; simp
  obtain ⟨e, he⟩ := replan_takes (steps := steps) (table := table) h
  rw [he] at ht
  generalize some (s.almanac.replanned n (steps - 12) (Tbl.get 0 s.fuse.voltage n + 5000 * min steps 12) table) = alm at ht ⊢
  generalize replanLogged n steps s = v at *
  generalize hw : devStore (fun t => { t with almanac := alm }) v = w at *
  obtain ⟨hwerr, hwplan⟩ := devStore_rest (fun t => { t with almanac := alm }) v
  have hwcore : w.core n = v.core n := core_of_cores (by rw [← hw]; simp) n
  have hwstore : w.mgt.store.almanac = alm := by rw [← hw, devStore_store]
  rw [hw] at hwerr hwplan
  have hmgt : t.mgt = (w.logEv e).mgt := by rw [ht]; simp
  have hlog := logEv_sansLog w e
  obtain ⟨c1, hc1⟩ := applyClocks_core (w.logEv e) n
  obtain ⟨st, c2, hc2⟩ := gateStarted_core (applyClocks (w.logEv e)) n
  have htcore : t.core n = { v.core n with state := st, clock := c2 } := by
    rw [ht, hc2, hc1, core_logEv, hwcore]
  rw [htcore, hcore]
  refine ⟨rfl, rfl, rfl, ?_, ?_, rfl, fun hs => ?_, htiers⟩
  · rw [hmgt, logEv_store, hwstore]
  · rw [hmgt, show (w.logEv e).mgt.replanning = w.mgt.replanning from (congrArg Mgt.replanning hlog :), hwplan]
    exact hplan
  · rw [hmgt, logEv_err, hwerr]
    exact herr hs

/-! Load re-verification (R423 to R425) -/

theorem loadWin_setLoadWin (s : State) (u : CalUnit) (w : LoadWin) : (s.setLoadWin u w).loadWin u = w := by
  have hnone : (s.mgt.load.filter fun p => decide (p.1 ≠ u)).find? (fun p => decide (p.1 = u)) = none := by
    rw [List.find?_eq_none]
    intro p hp
    simpa using (List.mem_filter.mp hp).2
  simp only [State.loadWin, State.setLoadWin, List.find?_append, hnone]
  simp

theorem loadWin_of_load {s t : State} (h : t.mgt.load = s.mgt.load) (u : CalUnit) : t.loadWin u = s.loadWin u := by
  rw [State.loadWin, h, State.loadWin]

theorem loadWin_logEv (s : State) (e : LogEnt) (u : CalUnit) : (s.logEv e).loadWin u = s.loadWin u :=
  loadWin_of_load (congrArg Mgt.load (logEv_sansLog s e) :) u

theorem loadWin_raiseAlert (s : State) (k : Nat) (u : CalUnit) : (s.raiseAlert k).loadWin u = s.loadWin u :=
  loadWin_of_load (congrArg Mgt.load (raiseAlert_sansLog s k) :) u

/-- What the steps of a unit do to its own setting. -/
theorem setDerate_unit (u : CalUnit) (k : Nat) (s : State) : (setDerate u k s).mgt = s.mgt
    ∧ (u = .package → (setDerate u k s).tiers.packageDerated = k) ∧ (u = .board → (setDerate u k s).tiers.boardDerated = k)
    ∧ (∀ n, u = .core n → ((setDerate u k s).core n.val).loadSteps = k ∧ ((setDerate u k s).core n.val).derated = decide (0 < k))
    ∧ (∀ n, u = .port n → ((setDerate u k s).net n.val).retrainDue = decide (0 < k)
        ∧ ((setDerate u k s).net n.val).linkUp = (s.net n.val).linkUp) := by
  refine ⟨by simp, ?_, ?_, ?_, ?_⟩
  · rintro rfl; rfl
  · rintro rfl; rfl
  · rintro n rfl
    obtain ⟨c, hc⟩ := applyClocks_core (s.setCore n.val { s.core n.val with loadSteps := k, derated := decide (0 < k) }.planned) n.val
    rw [State.core_setCore_self] at hc
    rw [setDerate, hc]
    exact ⟨rfl, rfl⟩
  · rintro n rfl
    rw [setDerate, State.net_setNet_self]
    exact ⟨rfl, rfl⟩

/-- The window that a unit opens after a step (R424). -/
def Machine.LoadWin.stepped (w : LoadWin) : LoadWin := { opened := true, steps := w.steps + 1, derated := true, guard := w.guard }

theorem loadDerated_steps {s : State} {u : CalUnit} {mv : Nat} (hready : s.mgt.ready = true) (hopen : (s.loadWin u).opened = true)
    (hmv : mv < 15) (hsteps : (s.loadWin u).steps < unitSteps u) : loadDerated u mv s
      = ((setDerate u ((s.loadWin u).steps + 1) (s.setLoadWin u (s.loadWin u).stepped)).logEv (unitLog u (ev 1 0x02 0x43))).raiseAlert 5 := by
  have hgo : ¬(!s.mgt.ready || !(s.loadWin u).opened || decide (15 ≤ mv)) = true := by
    rw [hready, hopen, decide_eq_false (by omega)]
    decide
  exact (if_neg hgo).trans (if_neg (by omega))

theorem loadDerated_faults {s : State} {u : CalUnit} {mv : Nat} (hready : s.mgt.ready = true) (hopen : (s.loadWin u).opened = true)
    (hmv : mv < 15) (hsteps : unitSteps u ≤ (s.loadWin u).steps) : loadDerated u mv s = domainFault (unitDomain u) (logMargin u s) := by
  have hgo : ¬(!s.mgt.ready || !(s.loadWin u).opened || decide (15 ≤ mv)) = true := by
    rw [hready, hopen, decide_eq_false (by omega)]
    decide
  exact (if_neg hgo).trans (if_pos hsteps)

theorem logMargin_bit (u : CalUnit) (s : State) : (logMargin u s).mgt.err.getLsbD 1 = true := by
  unfold logMargin
  dsimp only
  split
  next h => rw [logEv_err]; exact h
  next => exact errMgt_bit s (by decide) _

theorem loadDerated_row {s t : State} {u : CalUnit} {mv : Nat} (hready : s.mgt.ready = true) (hopen : (s.loadWin u).opened = true)
    (hmv : mv < 15) (hsteps : (s.loadWin u).steps < unitSteps u) (ht : t = loadDerated u mv s) :
    t.loadWin u = (s.loadWin u).stepped
    ∧ t.mgt.alert.getLsbD 5 = true ∧ t.mgt.nextSeq = s.mgt.nextSeq + 1 ∧ (u = .package → t.tiers.packageDerated = (s.loadWin u).steps + 1)
    ∧ (∀ n, u = .core n → (t.core n.val).loadSteps = (s.loadWin u).steps + 1 ∧ (t.core n.val).derated = true)
    ∧ (∀ n, u = .port n → (t.net n.val).retrainDue = true) := by
  rw [loadDerated_steps hready hopen hmv hsteps] at ht
  generalize (s.loadWin u).stepped = w at ht ⊢
  generalize (s.loadWin u).steps = k at ht ⊢
  have hwin := loadWin_setLoadWin s u w
  have hseq : (s.setLoadWin u w).mgt.nextSeq = s.mgt.nextSeq := rfl
  generalize s.setLoadWin u w = v at *
  obtain ⟨hmgt, hpackage, -, hcore, hport⟩ := setDerate_unit u (k + 1) v
  generalize setDerate u (k + 1) v = d at *
  obtain ⟨x, hlog⟩ := logEv_logged d (unitLog u (ev 1 0x02 0x43))
  obtain ⟨_, _, hlmgt⟩ := hlog.mgt
  have hdwin : d.loadWin u = v.loadWin u := loadWin_of_load (by rw [hmgt]) u
  have hsame : t.tiers = d.tiers ∧ t.cores = d.cores ∧ t.nets = d.nets := by rw [ht]; simp
  obtain ⟨htiers, hcores, hnets⟩ := hsame
  have hk : decide (0 < k + 1) = true := decide_eq_true (Nat.succ_pos k)
  refine ⟨?_, ?_, ?_, fun h => ?_, fun n h => ?_, fun n h => ?_⟩
  · rw [ht, loadWin_raiseAlert, loadWin_logEv, hdwin, hwin]
  · rw [ht]
    exact State.raiseAlert_bit _ (by decide)
  · rw [ht, State.raiseAlert_mgt, hlmgt]
    dsimp only
    rw [hmgt, hseq]
  · rw [htiers]
    exact hpackage h
  · rw [core_of_cores hcores]
    exact ⟨(hcore n h).1, (hcore n h).2.trans hk⟩
  · rw [State.net, hnets]
    exact (hport n h).1.trans hk

theorem loadVerified_row {s : State} {u : CalUnit} {mv : Nat} (hready : s.mgt.ready = true) (hopen : (s.loadWin u).opened = true)
    (hmv : 15 ≤ mv) (hsec : 600 ≤ (s.loadWin u).seconds) : (loadVerified u mv s).loadWin u = { s.loadWin u with opened := false }
      ∧ (loadVerified u mv s).mgt.nextSeq = s.mgt.nextSeq + 1 ∧ (loadVerified u mv s).cores = s.cores
      ∧ (loadVerified u mv s).nets = s.nets ∧ (loadVerified u mv s).tiers = s.tiers := by
  have hgo : ¬(!s.mgt.ready || !(s.loadWin u).opened || decide ((s.loadWin u).seconds < 600) || decide (mv < 15)) = true := by
    rw [hready, hopen, decide_eq_false (Nat.not_lt.mpr hsec), decide_eq_false (Nat.not_lt.mpr hmv)]
    decide
  have heq : loadVerified u mv s = (s.setLoadWin u { s.loadWin u with opened := false }).logEv (unitLog u (ev 0 0x02 0x44)) := if_neg hgo
  rw [heq]
  generalize unitLog u (ev 0 0x02 0x44) = e
  obtain ⟨x, hlog⟩ := logEv_logged (s.setLoadWin u { s.loadWin u with opened := false }) e
  obtain ⟨_, _, hmgt⟩ := hlog.mgt
  refine ⟨by rw [loadWin_logEv, loadWin_setLoadWin], by rw [hmgt]; rfl, by simp, by simp, by simp⟩

theorem loadVerified_waits {s : State} {u : CalUnit} (mv : Nat) (hsec : (s.loadWin u).seconds < 600) : loadVerified u mv s = s :=
  if_pos (by rw [decide_eq_true hsec, Bool.or_true, Bool.true_or])

/-! Retraining and gating -/

/-- The end of a retrain before the log shows it. -/
def retrained (u : CalUnit) (s : State) : State :=
  let s1 := calibrate u (retrainLink u s)
  { s1 with mgt := { s1.mgt with training := s1.mgt.training.filter fun x => decide (x ≠ u) } }

theorem retrainDone_takes {s : State} {u : CalUnit} (hready : s.mgt.ready = true) (hr : s.retrains u = true) (hq : s.unitQuiet u = true) :
    retrainDone u s = (retrained u s).logEv (unitLog u (ev 0 0x02 0x45)) := if_neg (by rw [hready, hr, hq]; decide)

theorem retrainLink_mgt (u : CalUnit) (s : State) : (retrainLink u s).mgt = s.mgt ∧ (retrainLink u s).fuse = s.fuse := by
  unfold retrainLink
  split
  · split <;> simp
  · exact ⟨rfl, rfl⟩

theorem retrained_facts (u : CalUnit) (s : State) : (retrained u s).loadWin u = { opened := true, guard := s.guardBand u }
    ∧ u ∉ (retrained u s).mgt.training ∧ (u = .board → (retrained u s).tiers.boardDerated = 0)
    ∧ (∀ n, u = .core n → ((retrained u s).core n.val).loadSteps = 0 ∧ ((retrained u s).core n.val).derated = false)
    ∧ (∀ n, u = .port n → ((retrained u s).net n.val).retrainDue = false ∧ (u ∉ s.mgt.training → ((retrained u s).net n.val).linkUp = false)) := by
  obtain ⟨hrmgt, hrfuse⟩ := retrainLink_mgt u s
  have hguard : (retrainLink u s).guardBand u = s.guardBand u := by
    rw [State.guardBand, State.almanac, hrmgt, hrfuse, State.guardBand, State.almanac]
  have hlink : ∀ n, u = .port n → u ∉ s.mgt.training → ((retrainLink u s).net n.val).linkUp = false := by
    rintro n rfl hu
    rw [show retrainLink (.port n) s = retrainPort n.val s from if_neg hu, retrainPort, State.net_setNet_self]
    rfl
  have hwin := loadWin_setLoadWin (retrainLink u s) u { opened := true, guard := (retrainLink u s).guardBand u }
  have hnets : ∀ k, ((retrainLink u s).setLoadWin u { opened := true, guard := (retrainLink u s).guardBand u }).net k
      = (retrainLink u s).net k := fun _ => rfl
  unfold retrained calibrate
  rw [hguard] at hwin hnets ⊢
  generalize (retrainLink u s).setLoadWin u { opened := true, guard := s.guardBand u } = v at *
  obtain ⟨hmgt, -, hboard, hcore, hport⟩ := setDerate_unit u 0 v
  generalize setDerate u 0 v = d at *
  refine ⟨?_, by simp, hboard, hcore, fun n hn => ⟨(hport n hn).1, fun hu => (hport n hn).2.trans ?_⟩⟩
  · rw [← hwin]
    exact loadWin_of_load (congrArg Mgt.load hmgt) u
  · rw [hnets]
    exact hlink n hn hu

theorem retrainDone_row {s t : State} {u : CalUnit} (hready : s.mgt.ready = true) (hr : s.retrains u = true) (hq : s.unitQuiet u = true)
    (ht : t = retrainDone u s) : t.loadWin u = { opened := true, guard := s.guardBand u } ∧ u ∉ t.mgt.training
    ∧ (u = .board → t.tiers.boardDerated = 0) ∧ (∀ n, u = .core n → (t.core n.val).loadSteps = 0 ∧ (t.core n.val).derated = false)
    ∧ (∀ n, u = .port n → (t.net n.val).retrainDue = false ∧ (u ∉ s.mgt.training → (t.net n.val).linkUp = false)) := by
  rw [retrainDone_takes hready hr hq] at ht
  obtain ⟨hwin, htrain, hrest⟩ := retrained_facts u s
  generalize retrained u s = v at *
  have htmgt : t.mgt.training = v.mgt.training := by
    rw [ht]
    exact (congrArg Mgt.training (logEv_sansLog v _) :)
  have hsame : t.tiers = v.tiers ∧ t.cores = v.cores ∧ t.nets = v.nets := by rw [ht]; simp
  obtain ⟨htiers, hcores, hnets⟩ := hsame
  refine ⟨by rw [ht, loadWin_logEv, hwin], by rw [htmgt]; exact htrain, ?_⟩
  simp only [State.core, State.net] at hrest ⊢
  rw [htiers, hcores, hnets]
  exact hrest

theorem coreGate_takes {s : State} {n : Nat} (hidle : (s.core n).state = .idle) (hres : (s.core n).resident = none)
    (hheld : s.heldOn n = false) : coreGate n s = s.setCore n { s.core n with state := .gated, clock := 0 } :=
  if_pos (by rw [hidle, hres, hheld]; rfl)

/-! The thermal responses (R462 to R464) -/

/-- Only the log, and with it ALERT bit 2 and ALERT_N, may differ in the management part and the module. -/
structure LogOnly (s t : State) : Prop where
  mgt : t.mgt.sansLog = s.mgt.sansLog
  modl : ∃ p, t.modl = { s.modl with alertN := p }
  bits : ∀ j, j ≠ 2 → t.mgt.alert.getLsbD j = s.mgt.alert.getLsbD j

theorem LogOnly.of_eq {s t : State} (hmgt : t.mgt = s.mgt) (hmodl : t.modl = s.modl) : LogOnly s t :=
  ⟨by rw [hmgt], ⟨s.modl.alertN, hmodl⟩, fun _ _ => by rw [hmgt]⟩

theorem LogOnly.trans {s t u : State} (h : LogOnly s t) (k : LogOnly t u) : LogOnly s u := by
  obtain ⟨p, hp⟩ := h.modl
  obtain ⟨q, hq⟩ := k.modl
  exact ⟨k.mgt.trans h.mgt, ⟨q, by rw [hq, hp]⟩, fun j hj => (k.bits j hj).trans (h.bits j hj)⟩

theorem LogOnly.logEv (s : State) (e : LogEnt) : LogOnly s (s.logEv e) :=
  ⟨logEv_sansLog s e, logEv_modl s e, (logEv_logged s e).choose_spec.bits⟩

theorem LogOnly.applyClocks (s : State) : LogOnly s (applyClocks s) := .of_eq (by simp) (by simp)

theorem LogOnly.noteLimiting (s : State) : LogOnly s (noteLimiting s) := by
  unfold Machine.noteLimiting
  split
  · exact .of_eq rfl rfl
  · generalize hu : ({ s with power := { s.power with limiting := s.limited } } : State) = u
    exact (LogOnly.of_eq (t := u) (by rw [← hu]) (by rw [← hu])).trans (.logEv u _)

theorem LogOnly.setPower (clock pacing : Nat) (s : State) : LogOnly s (setPower clock pacing s) :=
  (LogOnly.of_eq (s := s) (t := Machine.applyClocks { s with power := { s.power with clock := clock, pacing := pacing } }) (by simp)
    (by simp)).trans (.noteLimiting _)

theorem LogOnly.thermalExit (s : State) : LogOnly { s with modl := { s.modl with thermalStop := false } } (thermalExit s) := by
  unfold Machine.thermalExit
  generalize { ev 2 0x02 0x50 with detail := 0 } = e
  exact (LogOnly.logEv _ e).trans (.setPower Config.clockFloor 8 _)

theorem LogOnly.thermalEnter (s : State) : LogOnly { s with modl := { s.modl with thermalStop := true } } (thermalEnter s) := by
  unfold Machine.thermalEnter
  generalize { ev 2 0x02 0x50 with detail := 1 } = e
  exact (LogOnly.logEv _ e).trans (.applyClocks _)

/-- The thermal stop as the hottest junction makes it. -/
theorem thermalStop_facts (s : State) : ∃ b, LogOnly { s with modl := { s.modl with thermalStop := b } } (thermalStop s)
    ∧ (celsius 105 ≤ s.hottest → b = true) ∧ (s.hottest ≤ celsius 100 → b = false)
    ∧ (celsius 100 < s.hottest → s.hottest < celsius 105 → b = s.modl.thermalStop) := by
  unfold thermalStop
  split
  next h =>
    obtain ⟨hhot, -⟩ := h
    exact ⟨true, .thermalEnter s, fun _ => rfl, fun hc => absurd hc (by unfold celsius at *; omega),
      fun _ hc => absurd hc (by omega)⟩
  next hin =>
    split
    next h =>
      obtain ⟨hcool, -⟩ := h
      exact ⟨false, .thermalExit s, fun hc => absurd hc (by unfold celsius at *; omega), fun _ => rfl,
        fun hc => absurd hc (by omega)⟩
    next hout =>
      refine ⟨s.modl.thermalStop, .of_eq rfl rfl, fun hc => ?_, fun hc => ?_, fun _ _ => rfl⟩
      · cases hs : s.modl.thermalStop with
        | true => rfl
        | false => exact absurd ⟨hc, hs⟩ hin
      · cases hs : s.modl.thermalStop with
        | false => rfl
        | true => exact absurd ⟨hc, hs⟩ hout

theorem thermalStop_data (s : State) : (thermalStop s).ctxs = s.ctxs ∧ (thermalStop s).tiers = s.tiers
    ∧ (thermalStop s).counters = s.counters := by
  unfold thermalStop thermalEnter thermalExit
  (repeat' split) <;> simp

/-- THERM_N as the hottest junction makes it; of the module only the pin moves. -/
theorem thermPin_facts (s : State) : ∃ b, (thermPin s).modl = { s.modl with thermN := b } ∧ (thermPin s).mgt = s.mgt
    ∧ (celsius 103 ≤ s.hottest → b = false) ∧ (s.hottest ≤ celsius 98 → s.modl.tripped = false → b = true) := by
  have hnotHot : s.hottest ≤ celsius 98 → s.hot = false := fun h => decide_eq_false (by unfold celsius at h; omega)
  unfold thermPin
  extract_lets floors since long p s1
  have hlong : s.hottest ≤ celsius 98 → long = false := by
    intro h
    have hsince : since = none := if_neg (by rw [hnotHot h, Bool.false_and]; decide)
    simp only [long, hsince]
  split
  next h =>
    refine ⟨false, rfl, rfl, fun _ => rfl, fun hc => absurd h ?_⟩
    rw [hlong hc]
    unfold celsius at hc ⊢
    simp only [Bool.false_eq_true, or_false]
    omega
  next h =>
    split
    · exact ⟨true, rfl, rfl, fun hc => absurd (.inl hc) h, fun _ _ => rfl⟩
    next hn => exact ⟨s.modl.thermN, rfl, rfl, fun hc => absurd (.inl hc) h, fun hc ht => absurd ⟨hc, ht⟩ hn⟩

theorem hottest_of_sensors {s t : State} (h : t.mgt.sensors = s.mgt.sensors) : t.hottest = s.hottest := by
  rw [State.hottest, State.hottest]
  simp only [State.sensor, h]

theorem inputBack_facts (s : State) : (inputBack s).mgt = s.mgt ∧ (inputBack s).modl.thermalStop = s.modl.thermalStop
    ∧ (inputBack s).modl.tripped = s.modl.tripped ∧ (inputBack s).ctxs = s.ctxs ∧ (inputBack s).tiers = s.tiers
    ∧ (inputBack s).counters = s.counters := by
  unfold inputBack
  dsimp only
  split <;> exact ⟨rfl, rfl, rfl, rfl, rfl, rfl⟩

/-- The readings taken, and the alert of 100 °C raised on its rise. -/
def sensed (rs : List (Nat × W32)) (s : State) : State :=
  let t := inputBack (takeReadings rs s)
  if t.hot && !s.hot then t.raiseAlert 4 else t

theorem sensorUpdate_eq {rs : List (Nat × W32)} {s : State} (hready : s.mgt.ready = true) :
    sensorUpdate rs s = thermalTrip (thermalStop (thermPin (sensed rs s))) := if_neg (by rw [hready]; decide)

theorem sensed_facts (rs : List (Nat × W32)) (s : State) : (sensed rs s).hottest = (takeReadings rs s).hottest
    ∧ (sensed rs s).modl.thermalStop = s.modl.thermalStop ∧ (sensed rs s).modl.tripped = s.modl.tripped ∧ (sensed rs s).ctxs = s.ctxs
    ∧ (sensed rs s).tiers = s.tiers ∧ (sensed rs s).counters = s.counters ∧ (sensed rs s).mgt.awake = s.mgt.awake
    ∧ (celsius 100 ≤ (takeReadings rs s).hottest → s.hottest < celsius 100 → (sensed rs s).mgt.alert.getLsbD 4 = true) := by
  obtain ⟨hmgt, hstop, htrip, hctxs, htiers, hcounters⟩ := inputBack_facts (takeReadings rs s)
  have hawake : (takeReadings rs s).mgt.awake = s.mgt.awake := rfl
  have hhottest : (inputBack (takeReadings rs s)).hottest = (takeReadings rs s).hottest := hottest_of_sensors (by rw [hmgt])
  have hmodl : (takeReadings rs s).modl = s.modl := rfl
  unfold sensed
  generalize inputBack (takeReadings rs s) = t at *
  dsimp only
  split
  next =>
    have hal := raiseAlert_sansLog t 4
    obtain ⟨p, hp⟩ := raiseAlert_modl t 4
    refine ⟨(hottest_of_sensors (congrArg Mgt.sensors hal :)).trans hhottest, ?_, ?_, ?_, ?_, ?_, ?_, fun _ _ => State.raiseAlert_bit t (by decide)⟩
    · rw [hp]; exact hstop
    · rw [hp]; exact htrip
    · exact (by simp : (t.raiseAlert 4).ctxs = t.ctxs).trans hctxs
    · exact (by simp : (t.raiseAlert 4).tiers = t.tiers).trans htiers
    · exact (by simp : (t.raiseAlert 4).counters = t.counters).trans hcounters
    · exact (congrArg Mgt.awake hal :).trans (by rw [hmgt]; rfl)
  next hno =>
    refine ⟨hhottest, hstop, htrip, hctxs, htiers, hcounters, by rw [hmgt]; rfl, fun h hs => absurd ?_ hno⟩
    have hhot : t.hot = true := decide_eq_true (by rw [hhottest]; exact h)
    have hcold : s.hot = false := decide_eq_false (by unfold celsius at hs; omega)
    rw [hhot, hcold]
    rfl

theorem thermalTrip_below {s : State} (h : s.hottest < celsius 115) : thermalTrip s = s := if_pos h

theorem thermalTrip_trips {s : State} (h : celsius 115 ≤ s.hottest) : thermalTrip s = { powerDown (loseStore s) with
    modl := { (powerDown (loseStore s)).modl with thermN := false, tripped := true, tripLog := true } } := if_neg (not_lt.mpr h)

/-- What the device answers to the hottest junction `h` (R462 to R464), `x` holding the readings. -/
structure ThermalAnswer (s x t : State) : Prop where
  stop : x.hottest < 115 * 256 → 105 * 256 ≤ x.hottest → t.modl.thermalStop = true
  run : x.hottest ≤ 100 * 256 → t.modl.thermalStop = false
  hold : 100 * 256 < x.hottest → x.hottest < 105 * 256 → t.modl.thermalStop = s.modl.thermalStop
  hotPin : 103 * 256 ≤ x.hottest → t.modl.thermN = false
  coolPin : x.hottest ≤ 98 * 256 → s.modl.tripped = false → t.modl.thermN = true
  alert : x.hottest < 115 * 256 → 100 * 256 ≤ x.hottest → s.hottest < 100 * 256 → t.mgt.alert.getLsbD 4 = true
  trip : 115 * 256 ≤ x.hottest → t.modl.tripped = true ∧ t.modl.pwrGood = false ∧ t.modl.phase = .standby ∧ t.mgt.awake = false ∧ t.ctxs = []
    ∧ t.tiers.mem = []
  data : x.hottest < 115 * 256 → t.ctxs = s.ctxs ∧ t.tiers = s.tiers ∧ t.counters = s.counters ∧ t.mgt.awake = s.mgt.awake

theorem sensorUpdate_answers (rs : List (Nat × W32)) {s : State} (hready : s.mgt.ready = true) :
    ThermalAnswer s (takeReadings rs s) (sensorUpdate rs s) := by
  obtain ⟨hh, hstop, htrip, hctxs, htiers, hcounters, hawake, halert⟩ := sensed_facts rs s
  rw [sensorUpdate_eq hready]
  generalize takeReadings rs s = x at *
  generalize sensed rs s = y at *
  obtain ⟨pin, hpinmodl, hpinmgt, hpinhot, hpincool⟩ := thermPin_facts y
  have hpinh : (thermPin y).hottest = x.hottest := (hottest_of_sensors (by rw [hpinmgt])).trans hh
  have hpindata : (thermPin y).ctxs = y.ctxs ∧ (thermPin y).tiers = y.tiers ∧ (thermPin y).counters = y.counters := by simp
  obtain ⟨hpc, hpt, hpk⟩ := hpindata
  generalize thermPin y = z at *
  obtain ⟨b, hlog, hbstop, hbrun, hbhold⟩ := thermalStop_facts z
  obtain ⟨hzctxs, hztiers, hzcounters⟩ := thermalStop_data z
  obtain ⟨p, hwmodl⟩ := hlog.modl
  have hwh : (thermalStop z).hottest = x.hottest := (hottest_of_sensors (congrArg Mgt.sensors hlog.mgt :)).trans hpinh
  have hwawake : (thermalStop z).mgt.awake = s.mgt.awake := (congrArg Mgt.awake hlog.mgt :).trans ((congrArg Mgt.awake hpinmgt :).trans hawake)
  have hwalert : (thermalStop z).mgt.alert.getLsbD 4 = y.mgt.alert.getLsbD 4 := (hlog.bits 4 (by decide)).trans (by rw [← hpinmgt])
  rw [hpinh] at hbstop hbrun hbhold
  rw [hh] at hpinhot hpincool
  generalize thermalStop z = w at *
  have hwstop : w.modl.thermalStop = b := by rw [hwmodl]
  have hwpin : w.modl.thermN = pin := by rw [hwmodl]; exact congrArg (·.thermN) hpinmodl
  have hzstop : z.modl.thermalStop = s.modl.thermalStop := (by rw [hpinmodl] : z.modl.thermalStop = y.modl.thermalStop).trans hstop
  unfold celsius at *
  by_cases h115 : 115 * 256 ≤ x.hottest
  · rw [thermalTrip_trips (by unfold celsius; omega)]
    obtain ⟨hphase, hgood, hasleep, hmem, hnone, -, -⟩ := powerDown_leaves (loseStore w)
    have hoff : (powerDown (loseStore w)).modl.thermalStop = false := rfl
    generalize powerDown (loseStore w) = v at *
    exact ⟨fun h => absurd h (by omega), fun _ => hoff, fun _ h => absurd h (by omega), fun _ => rfl, fun h => absurd h (by omega),
      fun h => absurd h (by omega), fun _ => ⟨rfl, hgood, hphase, hasleep, hnone, hmem⟩, fun h => absurd h (by omega)⟩
  · rw [thermalTrip_below (by unfold celsius; omega)]
    exact ⟨fun _ h => hwstop.trans (hbstop (by omega)), fun h => hwstop.trans (hbrun (by omega)),
      fun h k => hwstop.trans ((hbhold (by omega) (by omega)).trans hzstop), fun h => hwpin.trans (hpinhot (by omega)),
      fun h k => hwpin.trans (hpincool (by omega) (htrip.trans k)), fun _ h k => hwalert.trans (halert (by omega) (by omega)),
      fun h => absurd h h115, fun _ => ⟨hzctxs.trans (hpc.trans hctxs), hztiers.trans (hpt.trans htiers),
        hzcounters.trans (hpk.trans hcounters), hwawake⟩⟩

end Sys2Proof
end

section
/-! The start-up of the module (15 R453, R460, R461; 01 R15). -/

namespace Sys2Proof

open Sys2Proof.Machine

theorem LogOnly.after {s u t : State} (h : LogOnly u t) (hmgt : u.mgt = s.mgt) (hmodl : u.modl = s.modl) : LogOnly s t :=
  (LogOnly.of_eq hmgt hmodl).trans h

theorem LogOnly.errSec (s : State) (k encl : Nat) : LogOnly s (s.errSec k encl) := by
  unfold State.errSec
  split
  · exact .of_eq rfl rfl
  · exact .after (.logEv _ _) rfl rfl

theorem LogOnly.followShares (s : State) : LogOnly s (followShares s) := by
  unfold Machine.followShares
  split
  · exact .after (.setPower _ _ _) rfl rfl
  · exact .after (.noteLimiting _) rfl rfl
  · exact .of_eq rfl rfl

/-! What the load of the stored image leaves of a start -/

/-- Of what a start has settled before the stored image is loaded nothing changes but ALERT_N. -/
structure DawnKept (s t : State) : Prop where
  modl : ∃ p, t.modl = { s.modl with alertN := p }
  startCount : t.mgt.store.startCount = s.mgt.store.startCount
  almanac : t.mgt.store.almanac = s.mgt.store.almanac
  storeLog : t.mgt.storeLog = s.mgt.storeLog
  planDue : t.mgt.planDue = s.mgt.planDue
  dakOk : t.sec.dakOk = s.sec.dakOk
  shown : t.hif.startCount = s.hif.startCount

theorem DawnKept.trans {s t u : State} (h : DawnKept s t) (k : DawnKept t u) : DawnKept s u := by
  obtain ⟨p, hp⟩ := h.modl
  obtain ⟨q, hq⟩ := k.modl
  exact ⟨⟨q, by rw [hq, hp]⟩, k.startCount.trans h.startCount, k.almanac.trans h.almanac, k.storeLog.trans h.storeLog,
    k.planDue.trans h.planDue, k.dakOk.trans h.dakOk, k.shown.trans h.shown⟩

/-- A log entry, with nothing else of these parts. -/
theorem DawnKept.of_log {s t : State} (h : LogOnly s t) (hdak : t.sec.dakOk = s.sec.dakOk) (hhif : t.hif.startCount = s.hif.startCount) :
    DawnKept s t :=
  ⟨h.modl, (congrArg (fun g : Mgt => g.store.startCount) h.mgt :), (congrArg (fun g : Mgt => g.store.almanac) h.mgt :),
    (congrArg Mgt.storeLog h.mgt :), (congrArg Mgt.planDue h.mgt :), hdak, hhif⟩

theorem DawnKept.of_eq {s t : State} (hmodl : t.modl = s.modl) (hmgt : t.mgt = s.mgt) (hdak : t.sec.dakOk = s.sec.dakOk)
    (hhif : t.hif.startCount = s.hif.startCount) : DawnKept s t := .of_log (.of_eq hmgt hmodl) hdak hhif

theorem DawnKept.foldl {α : Type} {f : State → α → State} (hf : ∀ u x, DawnKept u (f u x)) : ∀ (l : List α) (s : State), DawnKept s (l.foldl f s)
  | [], _ => .of_eq rfl rfl rfl rfl
  | x :: l, s => (hf s x).trans (DawnKept.foldl hf l (f s x))

/-- A store of the device's own records that keeps the start count and the almanac. -/
theorem DawnKept.devStore {f : Store → Store} (hf : ∀ t, (f t).startCount = t.startCount ∧ (f t).almanac = t.almanac) (s : State) :
    DawnKept s (devStore f s) := by
  have hcommit : DawnKept s (commitStore f s) := by
    obtain ⟨hstart, halm⟩ := hf s.mgt.store
    unfold commitStore
    dsimp only
    split <;> exact ⟨⟨s.modl.alertN, rfl⟩, hstart, halm, rfl, rfl, rfl, rfl⟩
  rcases devStore_eq f s with h | ⟨e, h⟩ <;> rw [h]
  · exact hcommit
  · exact hcommit.trans (.of_log (.logEv _ e) (by simp) (by simp))

theorem DawnKept.leaveEncl (s : State) (k : Nat) : DawnKept s (leaveEncl s k) := by
  refine .of_eq (by simp) (by simp) ?_ (by simp)
  unfold Machine.leaveEncl
  split
  · rfl
  · simp [State.setEncl, clearWins, dropKeys]

theorem DawnKept.enterEncl (i : Image) (s : State) (k : Nat) : DawnKept s (enterEncl i s k) := by
  refine .of_eq (by simp) (by simp) ?_ (by simp)
  unfold Machine.enterEncl
  split <;> rfl

theorem DawnKept.followShares (s : State) : DawnKept s (followShares s) := .of_log (.followShares s) (by simp) (by simp)

theorem DawnKept.errSec (s : State) (k encl : Nat) : DawnKept s (s.errSec k encl) := by
  refine .of_log (.errSec s k encl) ?_ (by simp)
  unfold State.errSec
  split
  · rfl
  · simp

theorem DawnKept.dropImage (s : State) : DawnKept s (dropImage s) := by
  have hleft := DawnKept.foldl DawnKept.leaveEncl (s.entries.map (·.index)) s
  unfold Machine.dropImage
  dsimp only
  generalize (s.entries.map (·.index)).foldl Machine.leaveEncl s = v at *
  exact hleft.trans ((DawnKept.of_eq (s := v) (t := setPorts { v with sec := { v.sec with image := none } }) (by simp) (by simp) (by simp)
    (by simp)).trans (.followShares _))

theorem DawnKept.applyImage (i : Image) (ks : List Nat) (s : State) : DawnKept s (applyImage i ks false s) := by
  have hleft := DawnKept.foldl DawnKept.leaveEncl ks s
  unfold Machine.applyImage
  dsimp only
  generalize ks.foldl Machine.leaveEncl s = v at *
  have hset : DawnKept v { zeroUnused v with sec := { (zeroUnused v).sec with image := some i } } := .of_eq (by simp) (by simp) (by simp) (by simp)
  rw [if_neg Bool.false_ne_true]
  generalize ({ zeroUnused v with sec := { (zeroUnused v).sec with image := some i } } : State) = w at *
  have hin := DawnKept.foldl (DawnKept.enterEncl i) ks w
  generalize ks.foldl (Machine.enterEncl i) w = x at *
  have hlock : DawnKept x (lockAll (setPorts x)) := .of_eq (by simp) (by simp) (by simp) (by simp [lockAll])
  have hunshed : ∀ y, DawnKept y (unshedPorts y) := fun y => .of_eq (by simp) (by simp) (by simp) (by simp)
  exact hleft.trans (hset.trans (hin.trans (hlock.trans ((DawnKept.followShares _).trans (hunshed _)))))

theorem DawnKept.restoreSealed (s : State) (x : SealedKey) : DawnKept s (restoreSealed s x) := by
  unfold Machine.restoreSealed
  split
  · exact .of_eq (by simp) (by simp) rfl (by simp)
  · exact (DawnKept.devStore (f := unsealKey x.index) (fun _ => ⟨rfl, rfl⟩) s).trans (.errSec _ _ _)

theorem DawnKept.loadStored (s : State) : DawnKept s (loadStored s) := by
  have hzero : ∀ y, DawnKept y (zeroTiers y) := fun y => .of_eq (by simp) (by simp) (by simp) (by simp)
  have hunkeyed : ∀ y, DawnKept y (zeroUnkeyed y) := fun y => .of_eq (by simp) (by simp) (by simp) (by simp)
  unfold Machine.loadStored
  split
  · exact (DawnKept.dropImage s).trans (hzero _)
  · split
    · exact (DawnKept.dropImage s).trans ((DawnKept.errSec _ _ _).trans (hzero _))
    · exact (DawnKept.applyImage _ _ s).trans ((DawnKept.foldl DawnKept.restoreSealed _ _).trans (hunkeyed _))

/-! Before the image: the log, the security engine, the written-back fields -/

theorem logStore_facts (s : State) : (logStore s).mgt.sansErr = ({ s.mgt with storeLog := 0 } : Mgt).sansErr
    ∧ ∃ p, (logStore s).modl = { s.modl with alertN := p } := by
  have herr : ∀ (t : State) (k : Nat) (e : LogEnt), ∃ p, (t.errMgt k e).modl = { t.modl with alertN := p } := by
    intro t k e
    unfold State.errMgt
    split
    · exact ⟨t.modl.alertN, rfl⟩
    · exact logEv_modl _ e
  unfold logStore
  dsimp only
  split
  next h => exact ⟨by rw [← h], s.modl.alertN, rfl⟩
  next => exact ⟨errMgt_sansErr .., herr ..⟩
  next => exact ⟨errMgt_sansErr .., herr ..⟩

theorem logPast_facts (s : State) : (logPast s).mgt.sansErr = ({ s.mgt with storeLog := 0 } : Mgt).sansErr
    ∧ ∃ p, (logPast s).modl = { s.modl with alertN := p, powerLost := false, tripLog := false } := by
  have hlog : ∀ (b : Bool) (t : State) (e : LogEnt), LogOnly t (if b then t.logEv e else t) := by
    intro b t e
    split
    · exact .logEv t e
    · exact .of_eq rfl rfl
  obtain ⟨hmgt, p, hmodl⟩ := logStore_facts s
  unfold logPast
  extract_lets a b c
  have hab : LogOnly a b := hlog _ _ _
  have hbc : LogOnly b c := hlog _ _ _
  obtain ⟨q, hq⟩ := (hab.trans hbc).modl
  have hc : c.modl = { s.modl with alertN := q } := by rw [hq, hmodl]
  exact ⟨(congrArg (fun g : Mgt => { g with err := 0 }) (hab.trans hbc).mgt).trans hmgt, q,
    congrArg (fun m : Machine.Module => { m with tripLog := false, powerLost := false }) hc⟩

theorem devStore_start (f : Store → Store) (s : State) : (devStore f s).mgt.storeLog = s.mgt.storeLog
    ∧ (devStore f s).mgt.planDue = s.mgt.planDue ∧ ∃ p, (devStore f s).modl = { s.modl with alertN := p } := by
  have hcommit : (commitStore f s).mgt.storeLog = s.mgt.storeLog ∧ (commitStore f s).mgt.planDue = s.mgt.planDue
      ∧ (commitStore f s).modl = s.modl := by
    unfold commitStore
    dsimp only
    split <;> exact ⟨rfl, rfl, rfl⟩
  obtain ⟨hlog, hplan, hmodl⟩ := hcommit
  rcases devStore_eq f s with h | ⟨e, h⟩ <;> rw [h]
  · exact ⟨hlog, hplan, s.modl.alertN, hmodl⟩
  · obtain ⟨p, hp⟩ := logEv_modl (commitStore f s) e
    have hsans := logEv_sansLog (commitStore f s) e
    exact ⟨(congrArg Mgt.storeLog hsans :).trans hlog, (congrArg Mgt.planDue hsans :).trans hplan, p, by rw [hp, hmodl]⟩

/-- The security engine with its start count shown and its device key derived. -/
def secShown (s : State) : State :=
  { s with
    hif := { s.hif with startCount := s.mgt.store.startCount + 1 }
    ctxs := s.ctxs.map fun p => (p.1, { p.2 with sealedOut := 0 })
    sec := { s.sec with dak := s.fuse.dakScalar, sealing := s.fuse.secret.toNat } }

/-- The start count stored, before the device key is compared with its certificate. -/
def secStored (s : State) : State := devStore (fun t => { t with startCount := s.mgt.store.startCount + 1 }) (secShown s)

theorem startSecurity_eq (s : State) : startSecurity s =
    if Config.p384Public (drawReserved (secStored s)).sec.dak = (drawReserved (secStored s)).fuse.certKey then
      { drawReserved (secStored s) with sec := { (drawReserved (secStored s)).sec with dakOk := true } }
    else (drawReserved (secStored s)).errSec 1 := by
  unfold startSecurity secStored secShown
  rfl

theorem drawReserved_dak (s : State) : (drawReserved s).sec.dak = s.sec.dak := by
  unfold drawReserved
  split <;> rfl

theorem secStored_facts (s : State) : (drawReserved (secStored s)).mgt.store.startCount = s.mgt.store.startCount + 1
    ∧ (drawReserved (secStored s)).hif.startCount = s.mgt.store.startCount + 1
    ∧ (drawReserved (secStored s)).mgt.store.almanac = s.mgt.store.almanac
    ∧ (drawReserved (secStored s)).mgt.storeLog = s.mgt.storeLog ∧ (drawReserved (secStored s)).mgt.planDue = s.mgt.planDue
    ∧ (∃ p, (drawReserved (secStored s)).modl = { s.modl with alertN := p })
    ∧ (drawReserved (secStored s)).sec.dak = s.fuse.dakScalar ∧ (drawReserved (secStored s)).fuse = s.fuse := by
  obtain ⟨hlog, hplan, p, hmodl⟩ := devStore_start (fun t => { t with startCount := s.mgt.store.startCount + 1 }) (secShown s)
  have hstore := devStore_store (fun t => { t with startCount := s.mgt.store.startCount + 1 }) (secShown s)
  have hmgt : (drawReserved (secStored s)).mgt = (secStored s).mgt := by simp
  rw [hmgt]
  refine ⟨(congrArg Store.startCount hstore :), ?_, (congrArg Store.almanac hstore :), hlog, hplan, ⟨p, ?_⟩, ?_, ?_⟩
  · simp [secStored]
    rfl
  · exact (by simp : (drawReserved (secStored s)).modl = (secStored s).modl).trans hmodl
  · rw [drawReserved_dak]
    exact (congrArg Sec.dak (by simp [secStored] : (secStored s).sec = (secShown s).sec))
  · simp [secStored]
    rfl

/-- The security engine's start (R332, R344, R444). -/
theorem startSecurity_facts (s : State) : (startSecurity s).mgt.store.startCount = s.mgt.store.startCount + 1
    ∧ (startSecurity s).hif.startCount = s.mgt.store.startCount + 1 ∧ (startSecurity s).mgt.store.almanac = s.mgt.store.almanac
    ∧ (startSecurity s).mgt.storeLog = s.mgt.storeLog ∧ (startSecurity s).mgt.planDue = s.mgt.planDue
    ∧ (∃ p, (startSecurity s).modl = { s.modl with alertN := p })
    ∧ (Config.p384Public s.fuse.dakScalar = s.fuse.certKey → (startSecurity s).sec.dakOk = true) := by
  obtain ⟨hcount, hshown, halm, hlog, hplan, ⟨p, hmodl⟩, hdak, hfuse⟩ := secStored_facts s
  rw [startSecurity_eq, hdak, hfuse]
  generalize drawReserved (secStored s) = v at *
  split
  · exact ⟨hcount, hshown, halm, hlog, hplan, ⟨p, hmodl⟩, fun _ => rfl⟩
  next hno =>
    have herr := LogOnly.errSec v 1 0xFF
    obtain ⟨q, hq⟩ := herr.modl
    exact ⟨(congrArg (fun g : Mgt => g.store.startCount) herr.mgt :).trans hcount, (by simp : (v.errSec 1).hif.startCount = _).trans hshown,
      (congrArg (fun g : Mgt => g.store.almanac) herr.mgt :).trans halm, (congrArg Mgt.storeLog herr.mgt :).trans hlog,
      (congrArg Mgt.planDue herr.mgt :).trans hplan, ⟨q, by rw [hq, hmodl]⟩, fun h => absurd h hno⟩

/-! Calibration and the tests of the cores -/

theorem loadWin_setLoadWin_ne (s : State) {u v : CalUnit} (w : LoadWin) (h : v ≠ u) : (s.setLoadWin u w).loadWin v = s.loadWin v := by
  have hfind : (s.mgt.load.filter fun p => decide (p.1 ≠ u)).find? (fun p => decide (p.1 = v))
      = s.mgt.load.find? (fun p => decide (p.1 = v)) := by
    rw [List.find?_filter]
    congr 1
    funext p
    by_cases hp : p.1 = v <;> simp [hp, h]
  simp only [State.loadWin, State.setLoadWin, List.find?_append, hfind]
  cases s.mgt.load.find? (fun p => decide (p.1 = v)) <;> simp [Ne.symm h]

theorem guardBand_of {s t : State} (halm : t.mgt.store.almanac = s.mgt.store.almanac) (hfuse : t.fuse = s.fuse) (u : CalUnit) :
    t.guardBand u = s.guardBand u := by
  rw [State.guardBand, State.guardBand, State.almanac, State.almanac, halm, hfuse]

theorem calibrate_mgt (u : CalUnit) (s : State) : ∃ l, (calibrate u s).mgt = { s.mgt with load := l } := by
  obtain ⟨hmgt, -⟩ := setDerate_unit u 0 (s.setLoadWin u { opened := true, guard := s.guardBand u })
  exact ⟨_, hmgt⟩

theorem calibrate_loadWin (u : CalUnit) (s : State) : (calibrate u s).loadWin u = { opened := true, guard := s.guardBand u }
    ∧ ∀ v, v ≠ u → (calibrate u s).loadWin v = s.loadWin v := by
  obtain ⟨hmgt, -⟩ := setDerate_unit u 0 (s.setLoadWin u { opened := true, guard := s.guardBand u })
  have hload := congrArg Mgt.load hmgt
  exact ⟨(loadWin_of_load hload u).trans (loadWin_setLoadWin s u _),
    fun v hv => (loadWin_of_load hload v).trans (loadWin_setLoadWin_ne s _ hv)⟩

theorem foldl_calibrate (l : List CalUnit) (s : State) : (∃ x, (l.foldl (fun u x => calibrate x u) s).mgt = { s.mgt with load := x })
    ∧ (∀ c ∈ l, (l.foldl (fun u x => calibrate x u) s).loadWin c = { opened := true, guard := s.guardBand c })
    ∧ ∀ c, c ∉ l → (l.foldl (fun u x => calibrate x u) s).loadWin c = s.loadWin c := by
  induction l generalizing s with
  | nil => exact ⟨⟨s.mgt.load, rfl⟩, (fun _ h => nomatch h), fun _ _ => rfl⟩
  | cons u l ih =>
    obtain ⟨⟨x, hx⟩, hin, hout⟩ := ih (calibrate u s)
    obtain ⟨y, hy⟩ := calibrate_mgt u s
    obtain ⟨hself, hother⟩ := calibrate_loadWin u s
    have hguard : ∀ c, (calibrate u s).guardBand c = s.guardBand c := fun c => guardBand_of (by rw [hy]) (by simp) c
    refine ⟨⟨x, hx.trans (by rw [hy])⟩, fun c hc => ?_, fun c hc => ?_⟩
    · by_cases hl : c ∈ l
      · rw [← hguard c]
        exact hin c hl
      · obtain rfl : c = u := (List.mem_cons.mp hc).resolve_right hl
        exact (hout c hl).trans hself
    · exact (hout c fun h => hc (.tail _ h)).trans (hother c fun h => hc (h ▸ .head _))

/-- A core that is retired, or idle under its self-test. -/
def Machine.Core.underTest (c : Core) : Prop := c.state = .retired ∨ (c.state = .idle ∧ c.busy = true)

theorem startTest_own (s : State) (n : Nat) : ((startTest s n).core n).underTest := by
  unfold startTest
  dsimp only
  split
  next h => exact .inl h
  next => rw [State.core_setCore_self]; exact .inr ⟨rfl, rfl⟩

theorem startTest_keeps (s : State) (n k : Nat) (h : (s.core k).underTest) : ((startTest s n).core k).underTest := by
  by_cases hk : k = n
  · subst hk
    exact startTest_own s k
  · unfold startTest
    dsimp only
    split
    · exact h
    · rw [State.core_setCore_ne s _ hk]
      exact h

theorem foldl_startTest (k : Nat) (l : List Nat) (s : State) (h : (s.core k).underTest ∨ k ∈ l) : ((l.foldl startTest s).core k).underTest := by
  induction l generalizing s with
  | nil => exact h.resolve_right nofun
  | cons n l ih =>
    refine ih (startTest s n) ?_
    rcases h with h | h
    · exact .inl (startTest_keeps s n k h)
    · obtain rfl | h := List.mem_cons.mp h
      · exact .inl (startTest_own s k)
      · exact .inr h

/-! DAWN (R460) -/

/-- What the start has settled before it loads the stored image. -/
def dawnSecured (s : State) : State := writeBackHub ((List.range 16).foldl writeBackPort (startSecurity (logPast s)))

/-- The engines said to be in DAWN. -/
def enterDawn (s : State) : State :=
  { s with sec := { s.sec with ready := true }, rcv := { s.rcv with ready := true }, modl := { s.modl with phase := .dawn } }

theorem dawnEntry_eq (s : State) :
    dawnEntry s = startPlans (startTests (calUnits.foldl (fun u x => calibrate x u) (enterDawn (loadStored (dawnSecured s))))) := by
  unfold dawnEntry enterDawn dawnSecured
  dsimp only

theorem writeBackHub_kept (s : State) : DawnKept s (writeBackHub s) := .of_eq rfl rfl rfl rfl

theorem writeBackPorts_kept (s : State) : DawnKept s ((List.range 16).foldl writeBackPort s) :=
  .of_eq (by simp) (by simp) (by simp) (by simp)

/-- The state in which the engines start: the counts shown, the past logged, and the key judged. -/
theorem dawnLoaded_facts (s : State) : (loadStored (dawnSecured s)).mgt.store.startCount = s.mgt.store.startCount + 1
    ∧ (loadStored (dawnSecured s)).hif.startCount = s.mgt.store.startCount + 1
    ∧ (loadStored (dawnSecured s)).mgt.store.almanac = s.mgt.store.almanac
    ∧ (loadStored (dawnSecured s)).mgt.storeLog = 0 ∧ (loadStored (dawnSecured s)).mgt.planDue = s.mgt.planDue
    ∧ (loadStored (dawnSecured s)).fuse = s.fuse
    ∧ (loadStored (dawnSecured s)).modl.powerLost = false ∧ (loadStored (dawnSecured s)).modl.tripLog = false
    ∧ (Config.p384Public s.fuse.dakScalar = s.fuse.certKey → (loadStored (dawnSecured s)).sec.dakOk = true) := by
  obtain ⟨hpmgt, p, hpmodl⟩ := logPast_facts s
  have hpstore : (logPast s).mgt.store = s.mgt.store := (congrArg Mgt.store hpmgt :)
  have hplog : (logPast s).mgt.storeLog = 0 := (congrArg Mgt.storeLog hpmgt :)
  have hpplan : (logPast s).mgt.planDue = s.mgt.planDue := (congrArg Mgt.planDue hpmgt :)
  have hpfuse : (logPast s).fuse = s.fuse := by simp
  obtain ⟨hcount, hshown, halm, hlog, hplan, ⟨q, hmodl⟩, hdak⟩ := startSecurity_facts (logPast s)
  rw [hpstore] at hcount hshown halm
  rw [hpfuse] at hdak
  have hfuse : (loadStored (dawnSecured s)).fuse = s.fuse := by simp [dawnSecured]
  have hall : DawnKept (startSecurity (logPast s)) (loadStored (dawnSecured s)) :=
    (writeBackPorts_kept _).trans ((writeBackHub_kept _).trans (DawnKept.loadStored _))
  generalize loadStored (dawnSecured s) = w at *
  generalize startSecurity (logPast s) = v at *
  obtain ⟨r, hr⟩ := hall.modl
  refine ⟨hall.startCount.trans hcount, hall.shown.trans hshown, hall.almanac.trans halm, hall.storeLog.trans (hlog.trans hplog),
    hall.planDue.trans (hplan.trans hpplan), hfuse, ?_, ?_, fun h => hall.dakOk.trans (hdak h)⟩
  · rw [hr, hmodl, hpmodl]
  · rw [hr, hmodl, hpmodl]

theorem startPlans_mgt (s : State) : (startPlans s).mgt.store = s.mgt.store ∧ (startPlans s).mgt.storeLog = s.mgt.storeLog
    ∧ (startPlans s).mgt.load = s.mgt.load ∧ (s.mgt.planDue = true → (startPlans s).mgt.replanning
      = (List.range 8).filter fun n => decide ((s.core n).state ≠ .retired)) := by
  unfold startPlans
  split
  next h => exact ⟨rfl, rfl, rfl, fun hp => absurd h (by rw [hp]; decide)⟩
  next => exact ⟨rfl, rfl, rfl, fun _ => rfl⟩

/-- The cores of a start: their self-tests run, and their re-plans are due where the start asks for them. -/
theorem startPlans_startTests {s u : State} (hu : u = startPlans (startTests s)) : u.modl = s.modl ∧ u.sec = s.sec ∧ u.rcv = s.rcv
    ∧ u.hif = s.hif ∧ u.mgt.store = s.mgt.store ∧ u.mgt.storeLog = s.mgt.storeLog ∧ u.mgt.load = s.mgt.load
    ∧ (s.mgt.planDue = true → ∀ n < 8, (u.core n).state ≠ .retired → n ∈ u.mgt.replanning) ∧ ∀ n < 8, (u.core n).underTest := by
  have htest : ∀ n < 8, ((startTests s).core n).underTest := fun n hn => foldl_startTest n (List.range 8) s (.inr (List.mem_range.mpr hn))
  have htmgt : (startTests s).mgt = s.mgt := by simp
  obtain ⟨hstore, hlog, hload, hplan⟩ := startPlans_mgt (startTests s)
  have hcore : ∀ n, u.core n = (startTests s).core n := fun n => core_of_cores (by rw [hu]; simp) n
  rw [htmgt] at hstore hlog hload hplan
  rw [← hu] at hstore hlog hload hplan
  refine ⟨by rw [hu]; simp, by rw [hu]; simp, by rw [hu]; simp, by rw [hu]; simp, hstore, hlog, hload, fun h n hn hr => ?_, fun n hn => ?_⟩
  · rw [hplan h]
    rw [hcore n] at hr
    exact List.mem_filter.mpr ⟨List.mem_range.mpr hn, decide_eq_true hr⟩
  · rw [hcore n]
    exact htest n hn

/-- The units of a start, from the state in which the engines are said to be in DAWN. -/
theorem startUnits_facts {v u : State} (hu : u = startPlans (startTests (calUnits.foldl (fun u x => calibrate x u) v))) :
    u.modl = v.modl ∧ u.sec = v.sec ∧ u.rcv = v.rcv ∧ u.hif = v.hif ∧ u.mgt.store = v.mgt.store ∧ u.mgt.storeLog = v.mgt.storeLog
    ∧ (∀ c ∈ calUnits, u.loadWin c = { opened := true, guard := v.guardBand c })
    ∧ (v.mgt.planDue = true → ∀ n < 8, (u.core n).state ≠ .retired → n ∈ u.mgt.replanning) ∧ ∀ n < 8, (u.core n).underTest := by
  obtain ⟨⟨x, hx⟩, hwin, -⟩ := foldl_calibrate calUnits v
  obtain ⟨hmodl, hsec, hrcv, hhif, hstore, hlog, hload, hplan, htest⟩ := startPlans_startTests hu
  rw [hx] at hstore hlog hplan
  refine ⟨hmodl.trans (by simp), hsec.trans (by simp), hrcv.trans (by simp), hhif.trans (by simp), hstore, hlog, fun c hc => ?_, hplan, htest⟩
  exact (loadWin_of_load hload c).trans (hwin c hc)

theorem dawnEntry_row {s u : State} (hu : u = dawnEntry s) : u.modl.phase = .dawn ∧ u.sec.ready = true ∧ u.rcv.ready = true
    ∧ u.mgt.store.startCount = s.mgt.store.startCount + 1 ∧ u.hif.startCount = s.mgt.store.startCount + 1
    ∧ u.modl.powerLost = false ∧ u.modl.tripLog = false ∧ u.mgt.storeLog = 0
    ∧ (∀ c ∈ calUnits, u.loadWin c = { opened := true, guard := s.guardBand c })
    ∧ (Config.p384Public s.fuse.dakScalar = s.fuse.certKey → u.sec.dakOk = true)
    ∧ (s.mgt.planDue = true → ∀ n < 8, (u.core n).state ≠ .retired → n ∈ u.mgt.replanning)
    ∧ ∀ n < 8, (u.core n).underTest := by
  obtain ⟨hcount, hshown, halm, hlog, hplan, hfuse, hlost, htrip, hdak⟩ := dawnLoaded_facts s
  rw [dawnEntry_eq] at hu
  generalize loadStored (dawnSecured s) = v at *
  obtain ⟨humodl, husec, hurcv, huhif, hustore, hulog, hwin, huplan, htest⟩ := startUnits_facts hu
  have hguard : ∀ c, (enterDawn v).guardBand c = s.guardBand c := fun c => guardBand_of halm hfuse c
  refine ⟨by rw [humodl]; rfl, by rw [husec]; rfl, by rw [hurcv]; rfl, ?_, ?_, ?_, ?_, ?_, fun c hc => ?_, fun h => ?_, fun h => ?_, htest⟩
  · rw [hustore]; exact hcount
  · rw [huhif]; exact hshown
  · rw [humodl]; exact hlost
  · rw [humodl]; exact htrip
  · rw [hulog]; exact hlog
  · rw [hwin c hc, hguard]
  · rw [husec]; exact hdak h
  · exact huplan (hplan.trans h)

/-! The power stages, and the hub out of reset (R15, R461) -/

theorem coldResets_of_powerDown (s : State) :
    (coldRcv (coldCounts (powerDown { s with tiers := { s.tiers with lost := s.mgt.store.lost } }))).coldResets = s.coldResets := by
  simp

/-- A cold reset: what power holds starts over, and the settings store stays. -/
theorem powerStagesStart_row {s : State} (hp : s.modl.phase = .standby) (hin : s.modl.input = false) :
    ∃ t, exec .powerStagesStart s = .next t ∧ t.ticks = 0 ∧ t.coldResets = s.coldResets + 1
      ∧ t.modl.phase = .stagesUp ∧ t.mgt.i3cAddr = 0 ∧ t.tiers.mem = [] ∧ t.tiers.ce = [] ∧ t.rcv.history = [] ∧ t.mgt.store = s.mgt.store
      ∧ t.ctxs = [] ∧ t.dwt.wins = [] ∧ t.tiers.lost = s.mgt.store.lost ∧ t.rcv.failures = s.mgt.store.failures := by
  have hexec : exec .powerStagesStart s = .next (coldStart s) := by
    change execPowerStagesStart s = _
    rw [execPowerStagesStart, if_pos ⟨hp, hin⟩]
  have hcount : (coldStart s).coldResets = s.coldResets + 1 := congrArg (· + 1) (coldResets_of_powerDown s)
  exact ⟨coldStart s, hexec, rfl, hcount, rfl, rfl, rfl, rfl, rfl, rfl, rfl, rfl, rfl, rfl⟩

theorem referencesPresent : ∀ a < 4, Tbl.get false ((List.range 4).map fun a => (a, true)) a = true := by decide

theorem hubLeavesReset_row {s : State} (hgood : s.modl.pwrGood = true) (hp : s.modl.phase = .powerGood ∨ s.modl.phase = .perst) :
    ∃ t, exec .hubLeavesReset s = .next t ∧ t.modl.phase = .hubOut ∧ t.mgt.awake = true ∧ t.modl.perstN = true
      ∧ t.modl.pcieClk = true ∧ (∀ a < 4, Tbl.get false t.modl.sdClk a = true) ∧ t.tiers = s.tiers ∧ t.cores = s.cores ∧ t.nets = s.nets := by
  have hok : (s.modl.pwrGood && (decide (s.modl.phase = .powerGood) || decide (s.modl.phase = .perst))) = true := by
    rcases hp with h | h <;> rw [hgood, h] <;> decide
  refine ⟨{ s with
    mgt := { s.mgt with awake := true }
    modl := { s.modl with phase := .hubOut, perstN := true, pcieClk := true, sdClk := (List.range 4).map fun a => (a, true) } },
    ?_, rfl, rfl, rfl, rfl, referencesPresent, rfl, rfl, rfl⟩
  change execHubLeavesReset s = _
  rw [execHubLeavesReset, if_pos hok]

/-! PERST_N, and the phase a device reset leaves -/

theorem restarted_modl (s : State) : (restarted s).modl = { s.modl with
    phase := if s.modl.pwrGood || s.hubOut then .perst else s.modl.phase, thermalStop := false } := by
  have hmodl : (coldRest (coldUnits (clearHub (emptied s)))).modl = s.modl := by simp [emptied_keeps]
  have hout : (coldRest (coldUnits (clearHub (emptied s)))).hubOut = s.hubOut := by rw [State.hubOut, State.hubOut, hmodl]
  unfold restarted
  dsimp only
  rw [hmodl, hout]

theorem errRcv_modl (s : State) (k slot core port : Nat) : ∃ p, (s.errRcv k slot core port).modl = { s.modl with alertN := p } := by
  unfold State.errRcv
  split
  · exact ⟨s.modl.alertN, rfl⟩
  · obtain ⟨p, hp⟩ := logEv_modl { s with rcv := { s.rcv with err := setBit s.rcv.err k } }
      { ev 2 0x09 k with slot := slot, core := core, port := port }
    exact ⟨p, (by simp : (State.msix _ 0 19).modl = _).trans hp⟩

theorem resetDevice_modl (s : State) : ∃ p, (resetDevice s).modl = { s.modl with
    phase := if s.modl.pwrGood || s.hubOut then .perst else s.modl.phase, thermalStop := false, alertN := p } := by
  rcases resetDevice_eq s with h | h
  · exact ⟨_, by rw [h, State.alertPin, restarted_modl]⟩
  · obtain ⟨p, hp⟩ := errRcv_modl (restarted s) 8 0xFFFF 0xFF 0xFF
    exact ⟨_, by rw [h, State.alertPin, hp, restarted_modl]⟩

/-- The slots of a list have been unloaded. -/
theorem foldl_unloadNow_gone (ks : List Nat) (s : State) (k : Nat) (h : k ∈ ks ∨ (s.ctx k).st = .none) :
    ((ks.foldl (fun u k => unloadNow k u) s).ctx k).st = .none := by
  induction ks generalizing s with
  | nil => exact h.resolve_left nofun
  | cons j ks ih =>
    refine ih (unloadNow j s) ?_
    by_cases hj : k = j
    · right
      rw [hj]
      unfold unloadNow
      simp
    · refine h.imp (fun hk => (List.mem_cons.mp hk).resolve_left hj) fun hk => ?_
      unfold unloadNow
      dsimp only
      rw [State.ctx_setCtx_ne _ _ hj]
      exact hk

/-- What a table whose rows are all changed lists. -/
theorem Tbl.get_map {α β : Type} (d : α) (f : α → β) (t : Tbl α) (k : Nat) :
    Tbl.get (f d) (t.map fun p => (p.1, f p.2)) k = f (Tbl.get d t k) := by
  induction t with
  | nil => rfl
  | cons p t ih =>
    rw [List.map_cons, Tbl.get, Tbl.get, ih]
    split <;> rfl

theorem clearHub_ctx (s : State) (k : Nat) : (clearHub s).ctx k = { s.ctx k with colls := [], early := [], collOpened := false } := by
  have hmoves : (dropMoves s).ctxs = s.ctxs := by simp
  exact (Tbl.get_map {} (fun c : Ctx => { c with colls := [], early := [], collOpened := false }) (dropMoves s).ctxs k).trans
    (by rw [hmoves])

theorem emptied_ctxs (s : State) :
    (emptied s).ctxs = ((s.affected .device).foldl (fun u k => unloadNow k u) (endReplay false s)).ctxs := by
  unfold emptied
  dsimp only
  split <;> rfl

theorem restarted_ctxs (s : State) : (restarted s).ctxs = (clearHub (emptied s)).ctxs := by
  unfold restarted
  rfl

theorem resetDevice_ctxs (s : State) : (resetDevice s).ctxs = (clearHub (emptied s)).ctxs := by
  rcases resetDevice_eq s with h | h <;> rw [h]
  · exact restarted_ctxs s
  · exact (by simp : ((restarted s).errRcv 8).alertPin.ctxs = (restarted s).ctxs).trans (restarted_ctxs s)

theorem ctx_of_ctxs {s t : State} (h : t.ctxs = s.ctxs) (k : Nat) : t.ctx k = s.ctx k := by
  rw [State.ctx, State.ctx, h]

theorem resetDevice_unloads (s : State) (slot : Nat) (h : slot ∈ s.affected .device) : ((resetDevice s).ctx slot).st = .none := by
  rw [ctx_of_ctxs (resetDevice_ctxs s), clearHub_ctx, ctx_of_ctxs (emptied_ctxs s)]
  exact foldl_unloadNow_gone (s.affected .device) (endReplay false s) slot (.inl h)

theorem endReplay_history (res : Bool) (s : State) : (endReplay res s).rcv.history = s.rcv.history := by
  unfold endReplay
  split
  · rfl
  · obtain ⟨r, hr⟩ := dropReplay_rcv s
    dsimp only
    rw [hr]

theorem resetDevice_history (s : State) : (resetDevice s).rcv.history = s.rcv.history := by
  obtain ⟨-, -, hrcv⟩ := emptied_keeps s
  have hkept : (clearHub (emptied s)).rcv = (endReplay false s).rcv := by simp [hrcv]
  have hstart : (restarted s).rcv.history = s.rcv.history := (congrArg Rcv.history hkept).trans (endReplay_history false s)
  rcases resetDevice_eq s with h | h <;> rw [h]
  · exact hstart
  · obtain ⟨e, he⟩ := errRcv_rcv (restarted s) 8 0xFFFF 0xFF 0xFF
    exact (congrArg Rcv.history he).trans hstart

theorem resetDevice_hif (s : State) : (resetDevice s).hif.ready = false := by
  have hstart : (restarted s).hif.ready = false := rfl
  rcases resetDevice_eq s with h | h <;> rw [h]
  · exact hstart
  · have hhif : ((restarted s).errRcv 8).alertPin.hif.ready = (restarted s).hif.ready := by simp
    exact hhif.trans hstart

/-- PERST_N low. -/
def perstLow (s : State) : State := { s with modl := { s.modl with perstN := false } }

theorem perstLow_facts (s : State) : (perstLow s).modl.perstN = false ∧ (perstLow s).rcv = s.rcv ∧ (perstLow s).mgt = s.mgt
    ∧ (perstLow s).ticks = s.ticks ∧ (perstLow s).coldResets = s.coldResets
    ∧ ((perstLow s).modl.pwrGood || (perstLow s).hubOut) = (s.modl.pwrGood || s.hubOut)
    ∧ (perstLow s).affected .device = s.affected .device := ⟨rfl, rfl, rfl, rfl, rfl, rfl, rfl⟩

theorem perstN_row {s : State} {micros : Nat} (hlong : 10 ≤ micros) (hhub : s.modl.pwrGood = true ∨ s.hubOut = true) :
    ∃ t, exec (.perstNAssert micros) s = .next t ∧ t.modl.phase = .perst
      ∧ t.modl.perstN = false ∧ t.mgt.ready = false ∧ t.hif.ready = false ∧ t.counters = [] ∧ t.rcv.history = s.rcv.history
      ∧ t.ticks = s.ticks ∧ t.coldResets = s.coldResets ∧ t.mgt.store = s.mgt.store
      ∧ ∀ slot ∈ s.affected .device, (t.ctx slot).st = .none := by
  have hon : (s.modl.pwrGood || s.hubOut) = true := by rcases hhub with h | h <;> simp [h]
  have hexec : exec (.perstNAssert micros) s = .next (resetDevice (perstLow s)) := by
    change execPerstNAssert micros s = _
    rw [execPerstNAssert, if_neg (by omega)]
    dsimp only
    rw [if_pos hon]
    rfl
  obtain ⟨hpin, hrcv, hmgt, hticks, hcold, hvisible, haff⟩ := perstLow_facts s
  refine ⟨_, hexec, ?_⟩
  rw [← haff, ← hrcv, ← hmgt, ← hticks, ← hcold]
  generalize perstLow s = v at *
  obtain ⟨p, hmodl⟩ := resetDevice_modl v
  obtain ⟨hstore, hready⟩ := resetDevice_store v
  obtain ⟨hcounters, -⟩ := resetDevice_leaves v
  refine ⟨?_, ?_, hready, resetDevice_hif v, hcounters, resetDevice_history v, by simp, by simp, hstore, resetDevice_unloads v⟩
  · rw [hmodl]; exact if_pos (hvisible.trans hon)
  · rw [hmodl]; exact hpin

/-! Firmware that fails its check (R416) -/

theorem fwFallBack_phase {s : State} (hunc : s.mgt.fwUncommitted = true) (hr : s.mgt.ready = false) (ha : s.mgt.awake = true)
    (hv : (s.fwSlot s.mgt.idleSlot).valid = true) (hgood : s.modl.pwrGood = true) :
    (fwFallBack s).modl.phase = .perst ∧ (fwFallBack s).mgt.ready = false := by
  have heq : fwFallBack s = ((resetDevice { s with mgt := { s.mgt with fwRun := s.mgt.idleSlot, fwUncommitted := false } }).errMgt 0
      (ev 2 0x02 0x4C)).raiseAlert 1 := if_neg (by rw [hunc, hr, ha, hv]; decide)
  have hvisible : ({ s with mgt := { s.mgt with fwRun := s.mgt.idleSlot, fwUncommitted := false } } : State).modl.pwrGood = true := hgood
  rw [heq]
  generalize ({ s with mgt := { s.mgt with fwRun := s.mgt.idleSlot, fwUncommitted := false } } : State) = v at *
  obtain ⟨p, hmodl⟩ := resetDevice_modl v
  obtain ⟨-, hready⟩ := resetDevice_store v
  generalize resetDevice v = w at *
  have herr : (w.errMgt 0 (ev 2 0x02 0x4C)).modl.phase = w.modl.phase ∧ (w.errMgt 0 (ev 2 0x02 0x4C)).mgt.ready = w.mgt.ready := by
    unfold State.errMgt
    split
    · exact ⟨rfl, rfl⟩
    · obtain ⟨q, hq⟩ := logEv_modl { w with mgt := { w.mgt with err := setBit w.mgt.err 0 } } (ev 2 0x02 0x4C)
      have hlog := logEv_sansLog { w with mgt := { w.mgt with err := setBit w.mgt.err 0 } } (ev 2 0x02 0x4C)
      exact ⟨congrArg (·.phase) hq, (congrArg Mgt.ready hlog :)⟩
  obtain ⟨hephase, heready⟩ := herr
  obtain ⟨q, hq⟩ := raiseAlert_modl (w.errMgt 0 (ev 2 0x02 0x4C)) 1
  have halert := raiseAlert_sansLog (w.errMgt 0 (ev 2 0x02 0x4C)) 1
  refine ⟨(congrArg (·.phase) hq).trans (hephase.trans ?_), (congrArg Mgt.ready halert :).trans (heready.trans hready)⟩
  rw [hmodl, hvisible]
  rfl

/-- Settles O49: each step of the start is one equation of the model; the cold reset leaves what power does not hold, the warm one
what `resetDevice` keeps, and DAWN is followed through the units it prepares. -/
theorem startUpSteps : Obligations.StartUpSteps := by
  unfold Obligations.StartUpSteps
  refine ⟨fun s h => ?_, fun s h hin => ?_, fun s h hin => powerStagesStart_row h hin, fun s h hgood => ?_,
    fun s hgood h => hubLeavesReset_row hgood h, fun s h => ?_, fun s h hunc hr ha hv hgood => ?_, fun s h => ?_, fun s h => ?_,
    fun s micros => ⟨fun hshort => ?_, fun hlong hhub => perstN_row hlong hhub⟩⟩
  · change execStandbyGood s = _
    rw [execStandbyGood, if_pos h]
  · change execPowerStagesStart s = _
    rw [execPowerStagesStart, if_neg (by rw [hin]; simp)]
  · change execPwrGood s = _
    rw [execPwrGood, if_neg (by rw [h, hgood]; decide), if_pos h]
  · change execFirmwareVerified true s = _
    rw [execFirmwareVerified, if_neg (not_not_intro h), if_pos rfl]
  · have hexec : exec (.firmwareVerified false) s = .next (fwFallBack s) := by
      change execFirmwareVerified false s = _
      rw [execFirmwareVerified, if_neg (not_not_intro h), if_neg Bool.false_ne_true]
    obtain ⟨hrun, hcommitted, -, halert, -⟩ := fwFallBack_row hunc hr ha hv
    obtain ⟨hphase, hready⟩ := fwFallBack_phase hunc hr ha hv hgood
    exact ⟨_, hexec, hrun, hcommitted, hphase, hready, halert⟩
  · have hexec : exec .dawnEntry s = .next (s.close (dawnEntry s)) := by
      change execDawnEntry s = _
      rw [execDawnEntry, if_pos h]
    generalize hu : dawnEntry s = u at *
    exact ⟨u, hexec, dawnEntry_row hu.symm⟩
  · have hexec : exec .readyAll s = .next { s with
        tiers := { s.tiers with ready := true }, dwt := { s.dwt with ready := true }, col := { s.col with ready := true }
        hif := { s.hif with ready := true }, modl := { s.modl with phase := .ready } } := by
      change execReadyAll s = _
      rw [execReadyAll, if_pos h]
    exact ⟨_, hexec, rfl, rfl, rfl, rfl, rfl, rfl, rfl, rfl⟩
  · change execPerstNAssert micros s = _
    rw [execPerstNAssert, if_pos hshort]

end Sys2Proof
end

section
/-! The reference clock of the PCIe link (15 R456): what its loss logs, and the ALERT_N pin that the statement forgets. -/

namespace Sys2Proof

open Sys2Proof.Machine

namespace ReferenceLost

/-- A hub out of reset whose link is down and whose reference runs, with LOG_ERROR unmasked (MGT.MASK bit 2). -/
def before : State := { modl := { phase := .hubOut, pcieClk := true }, mgt := { mask := 4 } }

/-- The entry that the loss of the reference logs. -/
def entry : LogEnt := { ev 2 0x02 0x54 with detail := 0 }

def after : State := State.logEv { before with modl := { before.modl with pcieClk := false } } entry

theorem exec_eq : exec (.pcieTrainRetry false) before = .next after := rfl

theorem alertN_before : before.modl.alertN = true := rfl

/-- The ERROR entry raises LOG_ERROR, and the unmasked bit pulls ALERT_N low. -/
theorem alertN_after : after.modl.alertN = false := by decide

end ReferenceLost

/-- Refutes O47: a retry of the link's training that finds the reference gone logs an ERROR entry, whose LOG_ERROR alert moves the
ALERT_N pin of an unmasked bit; the statement keeps every field of the module but the clock. -/
theorem not_hostRingsAndLink : ¬ Obligations.HostRingsAndLink := by
  unfold Obligations.HostRingsAndLink
  rintro ⟨-, -, -, hretry, -⟩
  obtain ⟨t, hexec, hmodl, -⟩ := hretry ReferenceLost.before false rfl rfl
  rw [ReferenceLost.exec_eq] at hexec
  obtain rfl : ReferenceLost.after = t := Host.Outcome.next.inj hexec
  have hpin := congrArg Machine.Module.alertN hmodl
  rw [ReferenceLost.alertN_after] at hpin
  exact absurd (hpin.trans ReferenceLost.alertN_before) Bool.false_ne_true

end Sys2Proof
end

section
/-! The registers of BAR0 and of the doorbell pages under a write (00 R13 to R16; 14 R433 to R437). -/

namespace Sys2Proof

open Sys2Proof.Machine

/-! Where a write of BAR0 arrives -/

/-- A write at an offset of a block. -/
def blockWrite : Block × Nat → RegWrite → State → State
  | (.hif, o) => hifWrite o
  | (.mgt, o) => mgtWrite o
  | (.sec, o) => secWrite o
  | (.dwt, o) => dwtWrite o
  | (.col, o) => colWrite o
  | (.tier, o) => tierWrite o
  | (.core n, o) => coreWrite n o
  | (.net n, o) => netWrite n o
  | (.rcv, o) => rcvWrite o
  | (.none, _) => fun _ s => s

theorem bar0Write_on {s : State} (hon : s.bar0On = true) (a : Nat) (w : RegWrite) : bar0Write a w s = blockWrite (blockAt a) w s := by
  rw [bar0Write, if_neg (by rw [hon]; decide)]
  obtain ⟨b, o⟩ := blockAt a
  cases b <;> rfl

theorem blockAt_core {n o : Nat} (hn : n < 8) (ho : o < if n = 7 then 0x900000 else 0x100000) :
    blockAt (0x1000000 + n * 0x100000 + o) = (.core n, o) := by
  unfold blockAt
  split at ho
  next h =>
    subst h
    by_cases hlow : o < 0x100000
    · rw [if_neg (by omega), if_neg (by omega), if_neg (by omega), if_neg (by omega), if_neg (by omega), if_neg (by omega),
        if_neg (by omega), if_pos (by omega)]
      simp only [Prod.mk.injEq, true_and]
      omega
    · rw [if_neg (by omega), if_neg (by omega), if_neg (by omega), if_neg (by omega), if_neg (by omega), if_neg (by omega),
        if_neg (by omega), if_pos (by omega)]
      simp only [Prod.mk.injEq, true_and]
      omega
  next =>
    rw [if_neg (by omega), if_neg (by omega), if_neg (by omega), if_neg (by omega), if_neg (by omega), if_neg (by omega),
      if_pos (by omega)]
    simp only [Prod.mk.injEq, Block.core.injEq]
    omega

theorem blockAt_net {n o : Nat} (hn : n < 16) (ho : o < if n = 15 then 0xC40000 else 0x40000) :
    blockAt (0x2000000 + n * 0x40000 + o) = (.net n, o) := by
  unfold blockAt
  split at ho
  next h =>
    subst h
    rw [if_neg (by omega), if_neg (by omega), if_neg (by omega), if_neg (by omega), if_neg (by omega), if_neg (by omega),
      if_neg (by omega), if_neg (by omega), if_neg (by omega), if_pos (by omega)]
    simp only [Prod.mk.injEq, true_and]
    omega
  next =>
    rw [if_neg (by omega), if_neg (by omega), if_neg (by omega), if_neg (by omega), if_neg (by omega), if_neg (by omega),
      if_neg (by omega), if_neg (by omega), if_pos (by omega)]
    simp only [Prod.mk.injEq, Block.net.injEq]
    omega

theorem blockAt_none {a : Nat} (h : 0x4000000 ≤ a) : blockAt a = (.none, 0) := by
  unfold blockAt
  rw [if_neg (by omega), if_neg (by omega), if_neg (by omega), if_neg (by omega), if_neg (by omega), if_neg (by omega),
    if_neg (by omega), if_neg (by omega), if_neg (by omega), if_neg (by omega), if_neg (by omega)]

/-! Offsets without a writable register -/

section Unlisted

variable {o : Nat} (w : RegWrite) (s : State)

theorem hifWrite_unlisted (h : o ∉ [0x10, 0x18, 0x20, 0x28, 0x30]) : hifWrite o w s = s := by
  unfold hifWrite
  split <;> simp_all

theorem mgtWrite_unlisted (h8 : o % 8 = 0) (h : o ∉ [0x10, 0x18, 0x28, 0x30, 0x40] ++ (List.range 512).map (0x1000 + 8 * ·)) :
    mgtWrite o w s = s := by
  obtain ⟨hfield, hbuf⟩ := not_or.mp (mt List.mem_append.mpr h)
  have hout : ¬(0x1000 ≤ o ∧ o < 0x2000) := fun hin =>
    hbuf (List.mem_map.mpr ⟨(o - 0x1000) / 8, List.mem_range.mpr (by omega), by omega⟩)
  unfold mgtWrite
  split <;> simp_all

theorem secWrite_unlisted (h : o ∉ [0x10, 0x18, 0x48, 0x50]) : secWrite o w s = s := by
  unfold secWrite
  split <;> simp_all

theorem dwtWrite_unlisted (h : o ∉ [0x10, 0x20, 0x28, 0x30, 0x38, 0x40, 0x48]) : dwtWrite o w s = s := by
  unfold dwtWrite
  split <;> simp_all

theorem colWrite_unlisted (h : o ∉ [0x08, 0x10, 0x18, 0x20, 0x28, 0x30]) : colWrite o w s = s := by
  unfold colWrite
  split <;> simp_all

theorem tierWrite_unlisted (h : o ∉ [0x80, 0x88, 0x90, 0x98, 0xC8]) : tierWrite o w s = s := by
  unfold tierWrite
  split <;> simp_all

theorem rcvWrite_unlisted (h : o ∉ [0x08, 0x10, 0x30, 0x38]) : rcvWrite o w s = s := by
  unfold rcvWrite
  split <;> simp_all

theorem coreWrite_unlisted (n : Nat) (h : o ∉ [0x20, 0x28, 0x38]) : coreWrite n o w s = s := by
  unfold coreWrite
  split <;> simp_all

theorem netWrite_unlisted (n : Nat) (h : o ∉ [0x08, 0x10, 0x18, 0x20, 0x28, 0x30, 0x38, 0x40, 0x48, 0x58, 0x60, 0x68]
    ++ (List.range 20).map (0x100 + 8 * ·)) : netWrite n o w s = s := by
  obtain ⟨hfield, hcount⟩ := not_or.mp (mt List.mem_append.mpr h)
  have hout : ¬(0x100 ≤ o ∧ o < 0x1A0 ∧ o % 8 = 0) := fun hin =>
    hcount (List.mem_map.mpr ⟨(o - 0x100) / 8, List.mem_range.mpr (by omega), by omega⟩)
  unfold netWrite
  split <;> simp_all

end Unlisted

/-- R433: a write of a block's offset that its map does not give as writable leaves all as it was. -/
theorem blockWrite_unlisted {b : RegBlock} (hb : b ∈ regBlocks) {a : Nat} (ha8 : a % 8 = 0) (hlow : b.base ≤ a) (hhigh : a < b.base + b.size)
    (hout : a - b.base ∉ b.writes) (w : RegWrite) (s : State) : blockWrite (blockAt a) w s = s := by
  rcases List.mem_append.mp hb with hb | hb
  · rcases List.mem_append.mp hb with hb | hb
    · simp only [List.mem_cons, List.not_mem_nil, or_false] at hb
      rcases hb with rfl | rfl | rfl | rfl | rfl | rfl | rfl <;> dsimp only at hlow hhigh hout
      · have hat : blockAt a = (.hif, a) := by rw [blockAt, if_pos (by omega)]
        rw [hat]
        exact hifWrite_unlisted w s hout
      · have hat : blockAt a = (.mgt, a - 0x100000) := by rw [blockAt, if_neg (by omega), if_pos (by omega)]
        have ho8 : (a - 0x100000) % 8 = 0 := by omega
        rw [hat]
        generalize a - 0x100000 = o at *
        exact mgtWrite_unlisted w s ho8 hout
      · have hat : blockAt a = (.sec, a - 0x200000) := by rw [blockAt, if_neg (by omega), if_neg (by omega), if_pos (by omega)]
        rw [hat]
        generalize a - 0x200000 = o at *
        exact secWrite_unlisted w s hout
      · have hat : blockAt a = (.dwt, a - 0x400000) := by
          rw [blockAt, if_neg (by omega), if_neg (by omega), if_neg (by omega), if_pos (by omega)]
        rw [hat]
        generalize a - 0x400000 = o at *
        exact dwtWrite_unlisted w s hout
      · have hat : blockAt a = (.col, a - 0x600000) := by
          rw [blockAt, if_neg (by omega), if_neg (by omega), if_neg (by omega), if_neg (by omega), if_pos (by omega)]
        rw [hat]
        generalize a - 0x600000 = o at *
        exact colWrite_unlisted w s hout
      · have hat : blockAt a = (.tier, a - 0x800000) := by
          rw [blockAt, if_neg (by omega), if_neg (by omega), if_neg (by omega), if_neg (by omega), if_neg (by omega), if_pos (by omega)]
        rw [hat]
        generalize a - 0x800000 = o at *
        exact tierWrite_unlisted w s hout
      · have hat : blockAt a = (.rcv, a - 0x3000000) := by
          rw [blockAt, if_neg (by omega), if_neg (by omega), if_neg (by omega), if_neg (by omega), if_neg (by omega), if_neg (by omega),
            if_neg (by omega), if_neg (by omega), if_neg (by omega), if_neg (by omega), if_pos (by omega)]
        rw [hat]
        generalize a - 0x3000000 = o at *
        exact rcvWrite_unlisted w s hout
    · obtain ⟨n, hn, rfl⟩ := List.mem_map.mp hb
      dsimp only at hlow hhigh hout
      have hat := blockAt_core (List.mem_range.mp hn) (o := a - (0x1000000 + n * 0x100000)) (by omega)
      rw [Nat.add_sub_cancel' hlow] at hat
      rw [hat]
      generalize a - (0x1000000 + n * 0x100000) = o at *
      exact coreWrite_unlisted w s n hout
  · obtain ⟨n, hn, rfl⟩ := List.mem_map.mp hb
    dsimp only at hlow hhigh hout
    have hat := blockAt_net (List.mem_range.mp hn) (o := a - (0x2000000 + n * 0x40000)) (by omega)
    rw [Nat.add_sub_cancel' hlow] at hat
    rw [hat]
    generalize a - (0x2000000 + n * 0x40000) = o at *
    exact netWrite_unlisted w s n hout

/-! Locked fields, and registers with conditions of their own -/

/-- What an LCK register gives, whatever a command of it is then said to give (R16). -/
theorem lckWrite_gives {w : RegWrite} {fields old : Nat} {locked : Bool} {put : Nat → State} {s : State} {P : State → Prop}
    (h : P (lckWrite w fields locked old put s)) : (¬(w.mask &&& fields ≠ 0) → P s)
      ∧ (w.mask &&& fields ≠ 0 → locked = true → P (s.logEv (ev 1 0x02 0x40)))
      ∧ (w.mask &&& fields ≠ 0 → locked = false → P (put (w.over old))) := by
  unfold lckWrite RegWrite.touches lockedWrite at h
  refine ⟨fun hout => ?_, fun hin hl => ?_, fun hin hl => ?_⟩
  · rwa [if_pos (by simpa using hout)] at h
  · rwa [if_neg (by simpa using hin), if_pos hl] at h
  · rwa [if_neg (by simpa using hin), if_neg (by rw [hl]; decide)] at h

/-! RCV.RESET (R390) -/

theorem resetTarget_core {v : Nat} (c : CoreId) (hkind : bits v 3 1 = 1) (hk : bits v 15 8 = c.val) : resetTarget v = some (.core c) := by
  unfold resetTarget
  dsimp only
  rw [hkind, hk]
  refine (if_pos c.isLt).trans ?_
  exact congrArg (fun c => some (Domain.core c)) (Fin.ext (Nat.mod_eq_of_lt c.isLt))

theorem resetTarget_port {v : Nat} (n : PortId) (hkind : bits v 3 1 = 2) (hk : bits v 15 8 = n.val) : resetTarget v = some (.port n) := by
  unfold resetTarget
  dsimp only
  rw [hkind, hk]
  refine (if_pos n.isLt).trans ?_
  exact congrArg (fun n => some (Domain.port n)) (Fin.ext (Nat.mod_eq_of_lt n.isLt))

theorem resetTarget_encl {v : Nat} (i : EnclId) (hkind : bits v 3 1 = 3) (hk : bits v 15 8 = i.val) : resetTarget v = some (.encl i) := by
  unfold resetTarget
  dsimp only
  rw [hkind, hk]
  refine (if_pos i.isLt).trans ?_
  exact congrArg (fun i => some (Domain.encl i)) (Fin.ext (Nat.mod_eq_of_lt i.isLt))

theorem resetTarget_hub {v : Nat} (hkind : bits v 3 1 = 4) : resetTarget v = some .hub := by
  unfold resetTarget
  dsimp only
  rw [hkind]
  rfl

theorem resetTarget_device {v : Nat} (hkind : bits v 3 1 = 5) : resetTarget v = some .device := by
  unfold resetTarget
  dsimp only
  rw [hkind]
  rfl

theorem resetTarget_none {v : Nat} (h : bits v 3 1 = 0 ∨ 5 < bits v 3 1 ∨ (bits v 3 1 = 1 ∧ 8 ≤ bits v 15 8)
    ∨ (bits v 3 1 = 2 ∧ 16 ≤ bits v 15 8) ∨ (bits v 3 1 = 3 ∧ 64 ≤ bits v 15 8)) : resetTarget v = none := by
  unfold resetTarget
  dsimp only
  split
  next hkind => exact if_neg (by omega)
  next hkind => exact if_neg (by omega)
  next hkind => exact if_neg (by omega)
  next hkind => omega
  next hkind => omega
  next => rfl

theorem rcvReset_none {o : Nat} {w : RegWrite} {s : State} (ho : o = 0x10) (h : w.ones.testBit 0 = false) : rcvWrite o w s = s := by
  unfold rcvWrite
  dsimp only
  split
  next => cases ho
  next => exact if_pos (by rw [bit, h]; rfl)
  next => cases ho
  next => cases ho
  next => rfl

theorem rcvReset_target {o : Nat} {w : RegWrite} {s : State} {d : Domain} (ho : o = 0x10) (h : w.ones.testBit 0 = true)
    (hd : resetTarget w.ones = some d) : rcvWrite o w s = operatorReset d s := by
  unfold rcvWrite
  dsimp only
  split
  next => cases ho
  next => rw [if_neg (by rw [bit, h]; decide), hd]
  next => cases ho
  next => cases ho
  next hne _ _ => exact absurd ho hne

theorem rcvReset_unknown {o : Nat} {w : RegWrite} {s : State} (ho : o = 0x10) (h : w.ones.testBit 0 = true)
    (hd : resetTarget w.ones = none) : rcvWrite o w s = s.logEv (ev 1 0x09 0x40) := by
  unfold rcvWrite
  dsimp only
  split
  next => cases ho
  next => rw [if_neg (by rw [bit, h]; decide), hd]
  next => cases ho
  next => cases ho
  next hne _ _ => exact absurd ho hne

/-! NETn.THRESHOLD (R304) -/

theorem setBit_self {m : Nat} (v : BitVec m) {k : Nat} (h : k < m) : (setBit v k).getLsbD k = true := by
  have hpow : (2 ^ k).testBit k = true := by simp
  rw [setBit, BitVec.getLsbD_or, BitVec.getLsbD_ofNat, hpow]
  simp [h]

theorem errNet_raised (s : State) (n : Nat) {k : Nat} (hk : k < 8) : ((s.errNet n k).net n).err.getLsbD k = true
    ∧ ((s.errNet n k).net n).threshold = (s.net n).threshold := by
  unfold State.errNet
  dsimp only
  split
  next h => exact ⟨h, rfl⟩
  next =>
    rw [logEv_net, State.net_setNet_self]
    exact ⟨setBit_self _ hk, rfl⟩

theorem errNet_other (s : State) {n m : Nat} (k : Nat) (h : m ≠ n) : (s.errNet n k).net m = s.net m := by
  unfold State.errNet
  dsimp only
  split
  · rfl
  · rw [logEv_net, State.net_setNet_ne _ _ h]

/-- The register takes the threshold, and at 9 KiB the port says that it is there. -/
theorem threshold_row (s : State) (n t : Nat) : ∃ u, reachT n t (s.setNet n { s.net n with threshold := t }) = u ∧ (u.net n).threshold = t
    ∧ (t = 9 → (u.net n).err.getLsbD 7 = true) ∧ portKept s u n := by
  refine ⟨_, rfl, ?_⟩
  unfold reachT
  split
  next h =>
    obtain ⟨hbit, hthr⟩ := errNet_raised (s.setNet n { s.net n with threshold := t }) n (k := 7) (by decide)
    refine ⟨hthr.trans (by rw [State.net_setNet_self]), fun _ => hbit, fun m hm => ?_, by simp, by simp, by simp, by simp, by simp, by simp, by simp⟩
    rw [errNet_other _ _ hm, State.net_setNet_ne _ _ hm]
  next h =>
    rw [State.net_setNet_self]
    refine ⟨rfl, fun h9 => absurd h9 h, fun m hm => State.net_setNet_ne _ _ hm, rfl, rfl, rfl, rfl, rfl, rfl, rfl⟩

/-! DB.DOORBELL (R436) -/

theorem errHif_page (s : State) (k slot j : Nat) : (s.errHif k slot).page j = s.page j := by
  simp only [State.page, State.errHif_same]

theorem postAt_queues {slot : Nat} {p : Post} {control : Bool} {e : BitVec 512} {recs : List HostRec} {abort : Bool} {s : State}
    (hfree : (s.page slot).pending.getLsbD p.index.toNat = false) : ∃ x, ((postAt slot p control e recs abort s).page slot).queue
        = (s.page slot).queue ++ [x] ∧ x.index = p.index.toNat ∧ x.control = control ∧ x.fn = p.fn ∧ x.entry = e
      ∧ ((postAt slot p control e recs abort s).page slot).pending.getLsbD p.index.toNat = true
      ∧ (postAt slot p control e recs abort s).tiers = s.tiers ∧ (postAt slot p control e recs abort s).ctxs = s.ctxs := by
  have hbit := setBit_self (s.page slot).pending (k := p.index.toNat) p.index.isLt
  unfold postAt
  rw [if_neg (by rw [hfree]; decide)]
  dsimp only
  split
  · rw [errHif_page, State.page_setPage_self]
    exact ⟨_, rfl, rfl, rfl, rfl, rfl, hbit, by simp, by simp⟩
  · rw [State.page_setPage_self]
    exact ⟨_, rfl, rfl, rfl, rfl, rfl, hbit, rfl, rfl⟩

theorem doorbell_posts (fn slot v : Nat) (s : State) : ∃ recs abort k, doorbell fn slot v s = postAt slot
    { fn := fn, page := 0, index := BitVec.ofNat 5 (bits v 4 0), entry := Tbl.get 0 (s.page slot).entries (bits v 4 0), ide := s.ideCovers }
    (bit v 8) (Tbl.get 0 (s.page slot).entries (bits v 4 0)) recs abort (s.drawn k) := by
  unfold doorbell
  exact ⟨_, _, _, rfl⟩

theorem drawn_page (s : State) (k j : Nat) : (s.drawn k).page j = s.page j := rfl

theorem doorbell_row {fn slot v : Nat} {s : State} (hfree : (s.page slot).pending.getLsbD (bits v 4 0) = false) :
    ∃ x, ((doorbell fn slot v s).page slot).queue = (s.page slot).queue ++ [x] ∧ x.index = bits v 4 0 ∧ x.control = bit v 8 ∧ x.fn = fn
      ∧ x.entry = Tbl.get 0 (s.page slot).entries (bits v 4 0) ∧ ((doorbell fn slot v s).page slot).pending.getLsbD (bits v 4 0) = true
      ∧ (doorbell fn slot v s).tiers = s.tiers ∧ (doorbell fn slot v s).ctxs = s.ctxs := by
  have hix : (BitVec.ofNat 5 (bits v 4 0)).toNat = bits v 4 0 := by
    rw [BitVec.toNat_ofNat]
    exact Nat.mod_eq_of_lt (Nat.mod_lt _ (by decide))
  obtain ⟨recs, abort, k, heq⟩ := doorbell_posts fn slot v s
  rw [heq]
  generalize hp : ({ fn := fn, page := 0, index := BitVec.ofNat 5 (bits v 4 0), entry := Tbl.get 0 (s.page slot).entries (bits v 4 0)
                     ide := s.ideCovers } : Post) = p
  have hpix : p.index.toNat = bits v 4 0 := by rw [← hp]; exact hix
  have hpfn : p.fn = fn := by rw [← hp]
  obtain ⟨x, hq, hxi, hxc, hxf, hxe, hbit, htiers, hctxs⟩ := postAt_queues (p := p) (control := bit v 8)
    (e := Tbl.get 0 (s.page slot).entries (bits v 4 0)) (recs := recs) (abort := abort) (s := s.drawn k)
    (by rw [drawn_page, hpix]; exact hfree)
  rw [drawn_page] at hq
  rw [hpix] at hxi hbit
  exact ⟨x, hq, hxi, hxc, hxf.trans hpfn, hxe, hbit, htiers, hctxs⟩

theorem pageWrite_status {o : Nat} (ho : o = 0x820) (fn slot : Nat) (w : RegWrite) (s : State) : pageWrite fn slot o w s
    = s.setPage slot { s.page slot with statusVA := bits (w.over (s.page slot).statusVA) 47 0 / 64 * 64 } := by
  unfold pageWrite
  rw [if_neg (by omega)]
  dsimp only
  split
  iterate 3 next => cases ho
  next => rfl
  next => cases ho
  next hne _ => exact absurd ho hne

theorem pageWrite_doorbell {o : Nat} (ho : o = 0x800) (fn slot : Nat) (w : RegWrite) (s : State) : pageWrite fn slot o w s
    = if w.lo then doorbell fn slot w.ones s else s := by
  unfold pageWrite
  rw [if_neg (by omega)]
  split
  next => rfl
  iterate 4 next => cases ho
  next hne _ _ _ _ => exact absurd ho hne

/-! The commands -/

theorem exec_bar0 {s : State} (hon : s.bar0On = true) (offset : Nat) (v : W64) (lo hi : Bool) :
    exec (.registerWrite false 0 offset v lo hi) s = .next (s.close (blockWrite (blockAt (offset / 8 * 8)) ⟨v.toNat, lo, hi⟩ s)) := by
  rw [← bar0Write_on hon]
  rfl

theorem exec_bar0_off {s : State} {fn : Nat} (hoff : fn ≠ 0 ∨ s.bar0On = false) (offset : Nat) (v : W64) (lo hi : Bool) :
    exec (.registerWrite false fn offset v lo hi) s = .next (s.close s) := by
  have heq : (if fn = 0 then bar0Write (offset / 8 * 8) ⟨v.toNat, lo, hi⟩ s else s) = s := by
    split
    next h => exact if_pos (by rw [hoff.resolve_left (not_not_intro h)]; rfl)
    next => rfl
  exact congrArg (fun u => Host.Outcome.next (s.close u)) heq

theorem exec_bar2 {s : State} {fn slot offset : Nat} (hs : s.bar2Slot fn (offset / 8 * 8 / 0x10000) = some slot) (v : W64) (lo hi : Bool) :
    exec (.registerWrite true fn offset v lo hi) s
      = .next (s.close (pageWrite fn slot (offset / 8 * 8 % 0x10000) ⟨v.toNat, lo, hi⟩ s)) := by
  have heq : bar2Write fn (offset / 8 * 8) ⟨v.toNat, lo, hi⟩ s = pageWrite fn slot (offset / 8 * 8 % 0x10000) ⟨v.toNat, lo, hi⟩ s := by
    unfold bar2Write
    rw [hs]
  exact congrArg (fun u => Host.Outcome.next (s.close u)) heq

theorem exec_bar2_none {s : State} {fn offset : Nat} (hs : s.bar2Slot fn (offset / 8 * 8 / 0x10000) = none) (v : W64) (lo hi : Bool) :
    exec (.registerWrite true fn offset v lo hi) s = .next (s.close s) := by
  have heq : bar2Write fn (offset / 8 * 8) ⟨v.toNat, lo, hi⟩ s = s := by
    unfold bar2Write
    rw [hs]
  exact congrArg (fun u => Host.Outcome.next (s.close u)) heq

/-- A half that is not written is zero among the ones (R13). -/
theorem ones_low_off (w : RegWrite) (hlo : w.lo = false) : w.ones.testBit 0 = false := by
  have heven : w.ones % 2 = 0 := by
    unfold RegWrite.ones RegWrite.over
    rw [if_neg (by rw [hlo]; decide)]
    generalize (if w.hi then w.v / 2 ^ 32 % 2 ^ 32 else 0 / 2 ^ 32) = x
    omega
  rw [Nat.testBit_zero, heven]
  rfl

/-- The ones of a low half. -/
theorem ones_low_testBit (w : RegWrite) (hlo : w.lo = true) {k : Nat} (hk : k < 32) : w.ones.testBit k = w.v.testBit k := by
  have hlow : w.ones % 2 ^ 32 = w.v % 2 ^ 32 := by
    unfold RegWrite.ones RegWrite.over
    rw [if_pos hlo]
    omega
  have h : (w.ones % 2 ^ 32).testBit k = (w.v % 2 ^ 32).testBit k := by rw [hlow]
  rw [Nat.testBit_mod_two_pow, Nat.testBit_mod_two_pow] at h
  simpa only [hk, decide_true, Bool.true_and] using h

theorem ones_low_bits (w : RegWrite) (hlo : w.lo = true) : bits w.ones 4 0 = bits w.v 4 0 := by
  have hlow : w.ones % 2 ^ 32 = w.v % 2 ^ 32 := by
    unfold RegWrite.ones RegWrite.over
    rw [if_pos hlo]
    omega
  unfold bits
  omega

/-- A half that is written, with a value that the field takes. -/
theorem both_iff {b : Bool} {p : Prop} [Decidable p] : (b && decide p) = true ↔ b = true ∧ p := by simp

theorem mgtWrite_buf {o : Nat} (w : RegWrite) (s : State) (hlow : 0x1000 ≤ o) (hhigh : o < 0x2000) :
    mgtWrite o w s = { s with mgt := { s.mgt with host := bufWrite (o - 0x1000) w s.mgt.host } } := by
  unfold mgtWrite
  dsimp only
  split
  next => omega
  next => omega
  next => omega
  next => omega
  next => omega
  next => exact if_pos ⟨hlow, hhigh⟩

theorem mgtWrite_go {o : Nat} (ho : o = 0x18) (w : RegWrite) (s : State) : mgtWrite o w s = if bit w.ones 0 then mboxGo s else s := by
  unfold mgtWrite
  dsimp only
  split
  next => cases ho
  next => rfl
  iterate 3 next => cases ho
  next hne _ _ _ => exact absurd ho hne

theorem secWrite_ring {o : Nat} (ho : o = 0x10) (w : RegWrite) (s : State) : secWrite o w s
    = if 4096 < bits (w.over (s.sec.ringBase + at_ s.sec.ringEntries 48)) 60 48 then s
      else { s with sec := { s.sec with
        ringEntries := bits (w.over (s.sec.ringBase + at_ s.sec.ringEntries 48)) 60 48
        ringBase := bits (w.over (s.sec.ringBase + at_ s.sec.ringEntries 48)) 47 0 / 64 * 64 } } := by
  unfold secWrite
  dsimp only
  split
  next => rfl
  iterate 3 next => cases ho
  next hne _ _ _ => exact absurd ho hne

theorem secWrite_tail {o : Nat} (ho : o = 0x18) (w : RegWrite) (s : State) : secWrite o w s
    = if w.lo && decide (bits (w.over s.sec.tail) 12 0 < s.sec.ringEntries) then
        { s with sec := { s.sec with tail := bits (w.over s.sec.tail) 12 0 } }
      else s := by
  unfold secWrite
  dsimp only
  split
  next => cases ho
  next => rfl
  iterate 2 next => cases ho
  next hne _ _ => exact absurd ho hne

theorem netWrite_count {k : Nat} (hk : k < 20) (n : Nat) (w : RegWrite) (s : State) : netWrite n (0x100 + 8 * k) w s
    = s.setNet n { s.net n with counters := Tbl.put (s.net n).counters k (w.over (Tbl.get 0 (s.net n).counters k)) } := by
  have hix : (0x100 + 8 * k - 0x100) / 8 = k := by omega
  generalize ho : 0x100 + 8 * k = o at *
  unfold netWrite
  dsimp only
  split
  iterate 12 next => omega
  next => rw [if_pos (by omega), hix]

theorem pageWrite_rest {o : Nat} (h : o = 0x808 ∨ 0x830 ≤ o) (fn slot : Nat) (w : RegWrite) (s : State) : pageWrite fn slot o w s = s := by
  unfold pageWrite
  rw [if_neg (by omega)]
  split
  iterate 5 next => omega
  next => rfl

theorem selftest_high {o : Nat} {w : RegWrite} {s : State} (n : Nat) (ho : o = 0x38) (hlo : w.lo = false) : coreWrite n o w s = s := by
  unfold coreWrite
  dsimp only
  split
  next => cases ho
  next => cases ho
  next => rw [if_neg (by rw [bit, ones_low_off w hlo]; decide), if_neg (by rw [hlo]; decide)]
  next => rfl

theorem selftest_low {o : Nat} {w : RegWrite} {s : State} (n : Nat) (ho : o = 0x38) (hlo : w.lo = true) : coreWrite n o w s
    = if w.v.testBit 0 then selftestStart n (s.setCore n { s.core n with auto := w.v.testBit 4 })
      else s.setCore n { s.core n with auto := w.v.testBit 4 } := by
  have hstart : bit w.ones 0 = w.v.testBit 0 := ones_low_testBit _ hlo (by decide)
  unfold coreWrite
  dsimp only
  split
  next => cases ho
  next => cases ho
  next => rw [hstart, if_pos hlo, bit]
  next hne => exact absurd ho hne

/-! The blocks of the cores, the ports and the pages -/

section Blocks

variable {s : State} {offset : Nat} {v : W64} {lo hi : Bool}

/-- What a write of BAR0 gives. -/
def Bar0Gives (s : State) (offset : Nat) (v : W64) (lo hi : Bool) (u : State) : Prop :=
  exec (.registerWrite false 0 offset v lo hi) s = .next (s.close u)

theorem bar0Gives_of_block {k : Nat} {u : State} (hon : s.bar0On = true) (ha : offset / 8 * 8 = k)
    (hu : blockWrite (blockAt k) ⟨v.toNat, lo, hi⟩ s = u) : Bar0Gives s offset v lo hi u := by
  rw [← hu, ← ha]
  exact exec_bar0 hon offset v lo hi

theorem bar0Gives_of_core (hon : s.bar0On = true) (n : CoreId) {o : Nat} {u : State} (ho : o < 0x100000)
    (ha : offset / 8 * 8 = 0x1000000 + n.val * 0x100000 + o) (hu : coreWrite n.val o ⟨v.toNat, lo, hi⟩ s = u) :
    Bar0Gives s offset v lo hi u :=
  bar0Gives_of_block hon ha (by rw [blockAt_core n.isLt (by split <;> omega)]; exact hu)

theorem bar0Gives_of_net (hon : s.bar0On = true) (n : PortId) {o : Nat} {u : State} (ho : o < 0x40000)
    (ha : offset / 8 * 8 = 0x2000000 + n.val * 0x40000 + o) (hu : netWrite n.val o ⟨v.toNat, lo, hi⟩ s = u) :
    Bar0Gives s offset v lo hi u :=
  bar0Gives_of_block hon ha (by rw [blockAt_net n.isLt (by split <;> omega)]; exact hu)

theorem netWrite_threshold {o : Nat} (ho : o = 0x48) (n : Nat) (w : RegWrite) (s : State) : netWrite n o w s
    = if w.lo && decide (2 ≤ bits (w.over (s.net n).threshold) 3 0) && decide (bits (w.over (s.net n).threshold) 3 0 ≤ 9) then
        reachT n (bits (w.over (s.net n).threshold) 3 0) (s.setNet n { s.net n with threshold := bits (w.over (s.net n).threshold) 3 0 })
      else s := by
  unfold netWrite
  dsimp only
  split
  iterate 8 next => cases ho
  next => rfl
  iterate 3 next => cases ho
  next hne _ _ _ => exact absurd ho hne

theorem netWrite_ring {o : Nat} (ho : o = 0x58) (n : Nat) (w : RegWrite) (s : State) : netWrite n o w s
    = if 4096 < bits (w.over ((s.net n).rawBase + at_ (s.net n).rawEntries 48)) 60 48 then s
      else s.setNet n { s.net n with
        rawEntries := bits (w.over ((s.net n).rawBase + at_ (s.net n).rawEntries 48)) 60 48
        rawBase := bits (w.over ((s.net n).rawBase + at_ (s.net n).rawEntries 48)) 47 0 / 64 * 64 } := by
  unfold netWrite
  dsimp only
  split
  iterate 9 next => cases ho
  next => rfl
  iterate 2 next => cases ho
  next hne _ _ => exact absurd ho hne

theorem netWrite_tail {o : Nat} (ho : o = 0x60) (n : Nat) (w : RegWrite) (s : State) : netWrite n o w s
    = if w.lo && decide (bits (w.over (s.net n).rawTail) 12 0 < (s.net n).rawEntries) then
        s.setNet n { s.net n with rawTail := bits (w.over (s.net n).rawTail) 12 0 }
      else s := by
  unfold netWrite
  dsimp only
  split
  iterate 10 next => cases ho
  next => rfl
  next => cases ho
  next hne _ => exact absurd ho hne

/-- What a write of an LCK register gives. -/
def LckGives (s : State) (offset : Nat) (v : W64) (lo hi : Bool) (fields old : Nat) (locked : Bool) (put : Nat → State) : Prop :=
  (¬(RegWrite.mask ⟨v.toNat, lo, hi⟩ &&& fields ≠ 0) → Bar0Gives s offset v lo hi s)
    ∧ (RegWrite.mask ⟨v.toNat, lo, hi⟩ &&& fields ≠ 0 → locked = true → Bar0Gives s offset v lo hi (s.logEv (ev 1 0x02 0x40)))
    ∧ (RegWrite.mask ⟨v.toNat, lo, hi⟩ &&& fields ≠ 0 → locked = false →
      Bar0Gives s offset v lo hi (put (RegWrite.over ⟨v.toNat, lo, hi⟩ old)))

theorem lckGives_of_net (hon : s.bar0On = true) (n : PortId) {o fields old : Nat} {f : NetCfg → Nat → NetCfg} (ho : o < 0x40000)
    (ha : offset / 8 * 8 = 0x2000000 + n.val * 0x40000 + o)
    (hu : netWrite n.val o ⟨v.toNat, lo, hi⟩ s = netLck n.val ⟨v.toNat, lo, hi⟩ fields old f s) :
    LckGives s offset v lo hi fields old (s.net n.val).locked fun x => s.setNet n.val { s.net n.val with cfg := f (s.net n.val).cfg x } := by
  have hw := bar0Gives_of_net hon n ho ha hu
  unfold netLck at hw
  obtain ⟨hout, hlocked, hput⟩ := lckWrite_gives (P := Bar0Gives s offset v lo hi) hw
  exact ⟨hout, hlocked, hput⟩

/-- The LCK registers of a port (R312). -/
theorem lck_of_port (hon : s.bar0On = true) (n : PortId) {o : Nat} (ha : offset / 8 * 8 = 0x2000000 + n.val * 0x40000 + o) :
    let p := s.net n.val
    let gives := fun fields old (f : Nat → NetCfg) => LckGives s offset v lo hi fields old p.locked fun x => s.setNet n.val { p with cfg := f x }
    (o = 0x08 → gives 0xFF3E07 (netConfig p.cfg) (setNetConfig p.cfg))
    ∧ (o = 0x18 → gives (2 ^ 48 - 1) p.cfg.mac.toNat fun x => { p.cfg with mac := BitVec.ofNat 48 x })
    ∧ (o = 0x20 → gives (2 ^ 48 - 1) p.cfg.nextHop.toNat fun x => { p.cfg with nextHop := BitVec.ofNat 48 x })
    ∧ (o = 0x28 → gives (2 ^ 32 - 1) p.cfg.ipv4.toNat fun x => { p.cfg with ipv4 := BitVec.ofNat 32 x })
    ∧ (o = 0x30 → gives (2 ^ 64 - 1) p.cfg.ipv6Hi.toNat fun x => { p.cfg with ipv6Hi := BitVec.ofNat 64 x })
    ∧ (o = 0x38 → gives (2 ^ 64 - 1) p.cfg.ipv6Lo.toNat fun x => { p.cfg with ipv6Lo := BitVec.ofNat 64 x })
    ∧ (o = 0x40 → gives 0x1FFF (p.cfg.vid + at_ (b2n p.cfg.vlanEn) 12) (setVlan p.cfg)) := by
  intro p gives
  refine ⟨fun h => ?_, fun h => ?_, fun h => ?_, fun h => ?_, fun h => ?_, fun h => ?_, fun h => ?_⟩ <;> subst h
  · exact lckGives_of_net hon n (f := setNetConfig) (by decide) ha rfl
  · exact lckGives_of_net hon n (f := fun c x => { c with mac := BitVec.ofNat 48 x }) (by decide) ha rfl
  · exact lckGives_of_net hon n (f := fun c x => { c with nextHop := BitVec.ofNat 48 x }) (by decide) ha rfl
  · exact lckGives_of_net hon n (f := fun c x => { c with ipv4 := BitVec.ofNat 32 x }) (by decide) ha rfl
  · exact lckGives_of_net hon n (f := fun c x => { c with ipv6Hi := BitVec.ofNat 64 x }) (by decide) ha rfl
  · exact lckGives_of_net hon n (f := fun c x => { c with ipv6Lo := BitVec.ofNat 64 x }) (by decide) ha rfl
  · exact lckGives_of_net hon n (f := setVlan) (by decide) ha rfl

/-- NETn.THRESHOLD and the raw ring of a port (R301, R304). -/
theorem ring_of_port (hon : s.bar0On = true) (n : PortId) {o : Nat} (ha : offset / 8 * 8 = 0x2000000 + n.val * 0x40000 + o) :
    let p := s.net n.val
    let half := RegWrite.over ⟨v.toNat, lo, hi⟩
    (o = 0x48 → let x := bits (half p.threshold) 3 0
      (lo = true ∧ 2 ≤ x ∧ x ≤ 9 → ∃ u, Bar0Gives s offset v lo hi u ∧ (u.net n.val).threshold = x
          ∧ (x = 9 → (u.net n.val).err.getLsbD 7 = true) ∧ portKept s u n.val)
      ∧ (¬(lo = true ∧ 2 ≤ x ∧ x ≤ 9) → Bar0Gives s offset v lo hi s))
    ∧ (o = 0x58 → let x := half (p.rawBase + at_ p.rawEntries 48)
      (4096 < bits x 60 48 → Bar0Gives s offset v lo hi s)
      ∧ (bits x 60 48 ≤ 4096 → Bar0Gives s offset v lo hi
          (s.setNet n.val { p with rawEntries := bits x 60 48, rawBase := bits x 47 0 / 64 * 64 })))
    ∧ (o = 0x60 → let x := bits (half p.rawTail) 12 0
      (lo = true ∧ x < p.rawEntries → Bar0Gives s offset v lo hi (s.setNet n.val { p with rawTail := x }))
      ∧ (¬(lo = true ∧ x < p.rawEntries) → Bar0Gives s offset v lo hi s)) := by
  intro p half
  refine ⟨fun h => ?_, fun h => ?_, fun h => ?_⟩
  · intro x
    have hw := netWrite_threshold h n.val ⟨v.toNat, lo, hi⟩ s
    refine ⟨fun ⟨hlo, hlow, hhigh⟩ => ?_, fun hx => ?_⟩
    · obtain ⟨u, hu, hthr, herr, hkept⟩ := threshold_row s n.val x
      rw [if_pos (both_iff.mpr ⟨both_iff.mpr ⟨hlo, hlow⟩, hhigh⟩)] at hw
      exact ⟨u, bar0Gives_of_net hon n (by omega) ha (hw.trans hu), hthr, herr, hkept⟩
    · rw [if_neg fun hc => hx ⟨(both_iff.mp (both_iff.mp hc).1).1, (both_iff.mp (both_iff.mp hc).1).2, (both_iff.mp hc).2⟩] at hw
      exact bar0Gives_of_net hon n (by omega) ha hw
  · intro x
    have hw := netWrite_ring h n.val ⟨v.toNat, lo, hi⟩ s
    refine ⟨fun hx => ?_, fun hx => ?_⟩
    · rw [if_pos hx] at hw
      exact bar0Gives_of_net hon n (by omega) ha hw
    · rw [if_neg (Nat.not_lt.mpr hx)] at hw
      exact bar0Gives_of_net hon n (by omega) ha hw
  · intro x
    have hw := netWrite_tail h n.val ⟨v.toNat, lo, hi⟩ s
    refine ⟨fun hx => ?_, fun hx => ?_⟩
    · rw [if_pos (both_iff.mpr hx)] at hw
      exact bar0Gives_of_net hon n (by omega) ha hw
    · rw [if_neg (mt both_iff.mp hx)] at hw
      exact bar0Gives_of_net hon n (by omega) ha hw

theorem lckGives_of_block (hon : s.bar0On = true) {k fields old : Nat} {locked : Bool} {put : Nat → State} (ha : offset / 8 * 8 = k)
    (hu : blockWrite (blockAt k) ⟨v.toNat, lo, hi⟩ s = lckWrite ⟨v.toNat, lo, hi⟩ fields locked old put s) :
    LckGives s offset v lo hi fields old locked put := by
  obtain ⟨hout, hlocked, hput⟩ := lckWrite_gives (P := Bar0Gives s offset v lo hi) (bar0Gives_of_block hon ha hu)
  exact ⟨hout, hlocked, hput⟩

theorem blockWrite_mgt (o : Nat) : blockWrite (.mgt, o) = mgtWrite o := rfl

theorem buf_of_mgt (hon : s.bar0On = true) (hlow : 0x101000 ≤ offset / 8 * 8) (hhigh : offset / 8 * 8 < 0x102000) :
    Bar0Gives s offset v lo hi
      { s with mgt := { s.mgt with host := bufWrite (offset / 8 * 8 - 0x101000) ⟨v.toNat, lo, hi⟩ s.mgt.host } } := by
  have hat : blockAt (offset / 8 * 8) = (.mgt, offset / 8 * 8 - 0x100000) := by rw [blockAt, if_neg (by omega), if_pos (by omega)]
  have hoff : offset / 8 * 8 - 0x101000 = offset / 8 * 8 - 0x100000 - 0x1000 := by omega
  have hbuf := mgtWrite_buf ⟨v.toNat, lo, hi⟩ s (o := offset / 8 * 8 - 0x100000) (by omega) (by omega)
  rw [hoff]
  refine bar0Gives_of_block hon rfl ?_
  rw [hat, blockWrite_mgt, hbuf]

theorem go_of_mgt (hon : s.bar0On = true) (ha : offset / 8 * 8 = 0x100018) {u : State}
    (hu : (if bit (RegWrite.ones ⟨v.toNat, lo, hi⟩) 0 then mboxGo s else s) = u) : Bar0Gives s offset v lo hi u := by
  have hat : blockAt 0x100018 = (.mgt, 0x18) := by decide
  refine bar0Gives_of_block hon ha ?_
  rw [hat]
  exact (mgtWrite_go rfl _ s).trans hu

theorem ring_of_sec (hon : s.bar0On = true) (ha : offset / 8 * 8 = 0x200010) {u : State}
    (hu : (if 4096 < bits (RegWrite.over ⟨v.toNat, lo, hi⟩ (s.sec.ringBase + at_ s.sec.ringEntries 48)) 60 48 then s
      else { s with sec := { s.sec with
        ringEntries := bits (RegWrite.over ⟨v.toNat, lo, hi⟩ (s.sec.ringBase + at_ s.sec.ringEntries 48)) 60 48
        ringBase := bits (RegWrite.over ⟨v.toNat, lo, hi⟩ (s.sec.ringBase + at_ s.sec.ringEntries 48)) 47 0 / 64 * 64 } }) = u) :
    Bar0Gives s offset v lo hi u := by
  have hat : blockAt 0x200010 = (.sec, 0x10) := by decide
  refine bar0Gives_of_block hon ha ?_
  rw [hat]
  exact (secWrite_ring rfl _ s).trans hu

theorem tail_of_sec (hon : s.bar0On = true) (ha : offset / 8 * 8 = 0x200018) {u : State}
    (hu : (if lo && decide (bits (RegWrite.over ⟨v.toNat, lo, hi⟩ s.sec.tail) 12 0 < s.sec.ringEntries) then
        { s with sec := { s.sec with tail := bits (RegWrite.over ⟨v.toNat, lo, hi⟩ s.sec.tail) 12 0 } } else s) = u) :
    Bar0Gives s offset v lo hi u := by
  have hat : blockAt 0x200018 = (.sec, 0x18) := by decide
  refine bar0Gives_of_block hon ha ?_
  rw [hat]
  exact (secWrite_tail rfl _ s).trans hu

theorem ce_of_tier (hon : s.bar0On = true) {k : Nat} (hk : k < 3) (ha : offset / 8 * 8 = 0x800088 + 8 * k) :
    Bar0Gives s offset v lo hi (ceWrite k ⟨v.toNat, lo, hi⟩ s) := by
  obtain rfl | rfl | rfl : k = 0 ∨ k = 1 ∨ k = 2 := by omega
  · exact bar0Gives_of_block hon ha rfl
  · exact bar0Gives_of_block hon ha rfl
  · exact bar0Gives_of_block hon ha rfl

theorem reset_of_rcv (hon : s.bar0On = true) (ha : offset / 8 * 8 = 0x3000010) :
    let x := RegWrite.ones ⟨v.toNat, lo, hi⟩
    let gives := fun d => Bar0Gives s offset v lo hi (operatorReset d s)
    (x.testBit 0 = false → Bar0Gives s offset v lo hi s)
    ∧ (x.testBit 0 = true → (∀ c : CoreId, bits x 3 1 = 1 → bits x 15 8 = c.val → gives (.core c))
      ∧ (∀ n : PortId, bits x 3 1 = 2 → bits x 15 8 = n.val → gives (.port n))
      ∧ (∀ i : EnclId, bits x 3 1 = 3 → bits x 15 8 = i.val → gives (.encl i))
      ∧ (bits x 3 1 = 4 → gives .hub) ∧ (bits x 3 1 = 5 → gives .device)
      ∧ (bits x 3 1 = 0 ∨ 5 < bits x 3 1 ∨ (bits x 3 1 = 1 ∧ 8 ≤ bits x 15 8) ∨ (bits x 3 1 = 2 ∧ 16 ≤ bits x 15 8)
        ∨ (bits x 3 1 = 3 ∧ 64 ≤ bits x 15 8) → Bar0Gives s offset v lo hi (s.logEv (ev 1 0x09 0x40)))) := by
  intro x gives
  have hat : blockAt 0x3000010 = (.rcv, 0x10) := by decide
  have hwrite : ∀ {u}, rcvWrite 0x10 ⟨v.toNat, lo, hi⟩ s = u → Bar0Gives s offset v lo hi u :=
    fun hu => bar0Gives_of_block hon ha (by rw [hat]; exact hu)
  have hreset : ∀ d, x.testBit 0 = true → resetTarget x = some d → gives d := fun d hbit hd => hwrite (rcvReset_target rfl hbit hd)
  exact ⟨fun hbit => hwrite (rcvReset_none rfl hbit), fun hbit => ⟨fun c hkind hk => hreset _ hbit (resetTarget_core c hkind hk),
    fun n hkind hk => hreset _ hbit (resetTarget_port n hkind hk), fun i hkind hk => hreset _ hbit (resetTarget_encl i hkind hk),
    fun hkind => hreset _ hbit (resetTarget_hub hkind), fun hkind => hreset _ hbit (resetTarget_device hkind),
    fun hnone => hwrite (rcvReset_unknown rfl hbit (resetTarget_none hnone))⟩⟩

/-- The registers of the host interface (R447). -/
theorem hif_registers (hon : s.bar0On = true) :
    let a := offset / 8 * 8
    let half := RegWrite.over ⟨v.toNat, lo, hi⟩
    let gives := Bar0Gives s offset v lo hi
    (a = 0x10 → LckGives s offset v lo hi 1 (b2n s.hif.ideRequired) s.hif.ideLocked fun x =>
      { s with hif := { s.hif with ideRequired := x.testBit 0 } })
    ∧ (a = 0x18 → gives { s with hif := { s.hif with inBytes := half s.hif.inBytes } })
    ∧ (a = 0x20 → gives { s with hif := { s.hif with outBytes := half s.hif.outBytes } })
    ∧ (a = 0x28 → gives { s with hif := { s.hif with linkCe := half s.hif.linkCe } })
    ∧ (a = 0x30 → gives { s with hif := { s.hif with err := s.hif.err &&& ~~~(BitVec.ofNat 5 (half 0)) } }) := by
  intro a half gives
  exact ⟨fun h => lckGives_of_block hon h rfl, fun h => bar0Gives_of_block hon h rfl, fun h => bar0Gives_of_block hon h rfl,
    fun h => bar0Gives_of_block hon h rfl, fun h => bar0Gives_of_block hon h rfl⟩

/-- The registers of the management processor (R428). -/
theorem mgt_registers (hon : s.bar0On = true) :
    let a := offset / 8 * 8
    let half := RegWrite.over ⟨v.toNat, lo, hi⟩
    let gives := Bar0Gives s offset v lo hi
    (a = 0x100010 → let x := half (mboxCmd s.mgt.host)
        gives { s with mgt := { s.mgt with host := { s.mgt.host with opcode := bits x 7 0, inLen := bits x 28 16, arg := BitVec.ofNat 32 (x / 2 ^ 32) } } })
    ∧ (a = 0x100018 → (half 0).testBit 0 = false → gives s)
    ∧ (a = 0x100018 → (half 0).testBit 0 = true → ∃ sig, gives (mailbox .host ⟨s.mgt.host.opcode, s.mgt.host.arg.toNat, s.mgt.host.inLen,
          Tbl.slice 0#8 s.mgt.host.buf 0 (min s.mgt.host.inLen 4096), sig⟩ (s.drawn 1)))
    ∧ (a = 0x100028 → gives (State.alertPin { s with mgt := { s.mgt with alert := s.mgt.alert &&& ~~~(BitVec.ofNat _ (half 0)) } }))
    ∧ (a = 0x100030 → gives (State.alertPin { s with mgt := { s.mgt with mask := BitVec.ofNat 7 (half s.mgt.mask.toNat) } }))
    ∧ (a = 0x100040 → gives { s with mgt := { s.mgt with err := s.mgt.err &&& ~~~(BitVec.ofNat _ (half 0)) } })
    ∧ (0x101000 ≤ a → a < 0x102000 → let x := half (leNat (Tbl.slice 0#8 s.mgt.host.buf (a - 0x101000) 8))
        gives { s with mgt := { s.mgt with host := { s.mgt.host with buf := Tbl.writeList 0#8 s.mgt.host.buf (a - 0x101000) (leBytes 8 x) } } }) := by
  intro a half gives
  exact ⟨fun h => bar0Gives_of_block hon h rfl, fun h hbit => go_of_mgt hon h (if_neg (Bool.eq_false_iff.mp hbit)),
    fun h hbit => ⟨bit s.free.toNat 0, go_of_mgt hon h (if_pos hbit)⟩, fun h => bar0Gives_of_block hon h rfl,
    fun h => bar0Gives_of_block hon h rfl, fun h => bar0Gives_of_block hon h rfl, fun hlow hhigh => buf_of_mgt hon hlow hhigh⟩

/-- The registers of the security engine (R357). -/
theorem sec_registers (hon : s.bar0On = true) :
    let a := offset / 8 * 8
    let half := RegWrite.over ⟨v.toNat, lo, hi⟩
    let low := fun old : Nat => half old % 2 ^ 32
    let gives := Bar0Gives s offset v lo hi
    (a = 0x200010 → let x := half (s.sec.ringBase + at_ s.sec.ringEntries 48)
        (4096 < bits x 60 48 → gives s)
        ∧ (bits x 60 48 ≤ 4096 → gives { s with sec := { s.sec with ringEntries := bits x 60 48, ringBase := bits x 47 0 / 64 * 64 } }))
    ∧ (a = 0x200018 → let x := bits (half s.sec.tail) 12 0
        (lo = true ∧ x < s.sec.ringEntries → gives { s with sec := { s.sec with tail := x } }) ∧ (¬(lo = true ∧ x < s.sec.ringEntries) → gives s))
    ∧ (a = 0x200048 → gives { s with sec := { s.sec with err := s.sec.err &&& ~~~(BitVec.ofNat _ (half 0)) } })
    ∧ (a = 0x200050 → gives { s with sec := { s.sec with tagFaults := low s.sec.tagFaults } }) := by
  intro a half low gives
  exact ⟨fun h => ⟨fun hx => ring_of_sec hon h (if_pos hx), fun hx => ring_of_sec hon h (if_neg (Nat.not_lt.mpr hx))⟩,
    fun h => ⟨fun hx => tail_of_sec hon h (if_pos (both_iff.mpr hx)), fun hx => tail_of_sec hon h (if_neg (mt both_iff.mp hx))⟩,
    fun h => bar0Gives_of_block hon h rfl, fun h => bar0Gives_of_block hon h rfl⟩

/-- The registers of the window transport (R268). -/
theorem dwt_registers (hon : s.bar0On = true) :
    let a := offset / 8 * 8
    let half := RegWrite.over ⟨v.toNat, lo, hi⟩
    let low := fun old : Nat => half old % 2 ^ 32
    let gives := Bar0Gives s offset v lo hi
    (a = 0x400010 → LckGives s offset v lo hi 0xFFFF s.dwt.udpPort s.dwt.udpLocked fun x =>
      if x % 65536 = 0 then s else { s with dwt := { s.dwt with udpPort := x % 65536 } })
    ∧ (a = 0x400020 → gives { s with dwt := { s.dwt with authFail := low s.dwt.authFail } })
    ∧ (a = 0x400028 → gives { s with dwt := { s.dwt with nakSent := low s.dwt.nakSent } })
    ∧ (a = 0x400030 → gives { s with dwt := { s.dwt with replayResets := low s.dwt.replayResets } })
    ∧ (a = 0x400038 → gives { s with dwt := { s.dwt with retransmits := low s.dwt.retransmits } })
    ∧ (a = 0x400040 → let x := half (s.dwt.malformed + at_ s.dwt.fragments 32)
        gives { s with dwt := { s.dwt with malformed := x % 2 ^ 32, fragments := x / 2 ^ 32 } })
    ∧ (a = 0x400048 → gives { s with dwt := { s.dwt with err := s.dwt.err &&& ~~~(BitVec.ofNat _ (half 0)) } }) := by
  intro a half low gives
  exact ⟨fun h => lckGives_of_block hon h rfl, fun h => bar0Gives_of_block hon h rfl, fun h => bar0Gives_of_block hon h rfl,
    fun h => bar0Gives_of_block hon h rfl, fun h => bar0Gives_of_block hon h rfl, fun h => bar0Gives_of_block hon h rfl,
    fun h => bar0Gives_of_block hon h rfl⟩

/-- The registers of the collective engine (R292). -/
theorem col_registers (hon : s.bar0On = true) :
    let a := offset / 8 * 8
    let half := RegWrite.over ⟨v.toNat, lo, hi⟩
    let gives := Bar0Gives s offset v lo hi
    (a = 0x600008 → LckGives s offset v lo hi 1 (b2n s.col.policyHalt) s.col.policyLocked fun x =>
      { s with col := { s.col with policyHalt := x.testBit 0 } })
    ∧ (a = 0x600010 → let x := half (s.col.sent + at_ s.col.skipped 32)
        gives { s with col := { s.col with sent := x % 2 ^ 32, skipped := x / 2 ^ 32 } })
    ∧ (a = 0x600018 → gives { s with col := { s.col with bytesSent := half s.col.bytesSent } })
    ∧ (a = 0x600020 → gives { s with col := { s.col with bytesRelayed := half s.col.bytesRelayed } })
    ∧ (a = 0x600028 → let x := half (s.col.mismatched + at_ s.col.unmatched 16 + at_ s.col.beaconsSent 32)
        gives { s with col := { s.col with mismatched := bits x 15 0, unmatched := bits x 31 16, beaconsSent := x / 2 ^ 32 } })
    ∧ (a = 0x600030 → gives { s with col := { s.col with err := s.col.err &&& ~~~(BitVec.ofNat _ (half 0)) } }) := by
  intro a half gives
  exact ⟨fun h => lckGives_of_block hon h rfl, fun h => bar0Gives_of_block hon h rfl, fun h => bar0Gives_of_block hon h rfl,
    fun h => bar0Gives_of_block hon h rfl, fun h => bar0Gives_of_block hon h rfl, fun h => bar0Gives_of_block hon h rfl⟩

/-- The registers of the tiers (R207). -/
theorem tier_registers (hon : s.bar0On = true) :
    let a := offset / 8 * 8
    let half := RegWrite.over ⟨v.toNat, lo, hi⟩
    let low := fun old : Nat => half old % 2 ^ 32
    let gives := Bar0Gives s offset v lo hi
    (a = 0x800080 → gives { s with tiers := { s.tiers with err := s.tiers.err &&& ~~~(BitVec.ofNat _ (half 0)) } })
    ∧ (∀ k < 3, a = 0x800088 + 8 * k → gives { s with tiers := { s.tiers with ce := Tbl.put s.tiers.ce k (low (Tbl.get 0 s.tiers.ce k)) } })
    ∧ (a = 0x8000C8 → gives { s with tiers := { s.tiers with intervalH := half s.tiers.intervalH % 256 } }) := by
  intro a half low gives
  exact ⟨fun h => bar0Gives_of_block hon h rfl, fun k hk h => ce_of_tier hon hk h, fun h => bar0Gives_of_block hon h rfl⟩

/-- The registers of the recovery controller (R390). -/
theorem rcv_registers (hon : s.bar0On = true) :
    let a := offset / 8 * 8
    let half := RegWrite.over ⟨v.toNat, lo, hi⟩
    let gives := Bar0Gives s offset v lo hi
    (a = 0x3000008 → let x := half (s.rcv.streamMs + at_ s.rcv.queueMs 16 + at_ s.rcv.drainUs 32 + at_ s.rcv.replayMs 48)
        let drain := if bits x 47 32 = 0 then s.rcv.drainUs else bits x 47 32
        let replay := if bits x 63 48 = 0 then s.rcv.replayMs else bits x 63 48
        gives { s with rcv := { s.rcv with streamMs := bits x 15 0, queueMs := bits x 31 16, drainUs := drain, replayMs := replay } })
    ∧ (a = 0x3000010 → let kind := bits (half 0) 3 1
        let k := bits (half 0) 15 8
        let as_ := fun i : Instr => exec (.registerWrite false 0 offset v lo hi) s = exec i s
        ((half 0).testBit 0 = false → gives s)
        ∧ ((half 0).testBit 0 = true →
          (∀ c : CoreId, kind = 1 → k = c.val → as_ (.coreReset c)) ∧ (∀ n : PortId, kind = 2 → k = n.val → as_ (.portReset n))
          ∧ (∀ i : EnclId, kind = 3 → k = i.val → as_ (.enclosureReset i)) ∧ (kind = 4 → as_ .hubReset) ∧ (kind = 5 → as_ .deviceReset)
          ∧ (kind = 0 ∨ 5 < kind ∨ (kind = 1 ∧ 8 ≤ k) ∨ (kind = 2 ∧ 16 ≤ k) ∨ (kind = 3 ∧ 64 ≤ k) → gives (s.logEv (ev 1 0x09 0x40)))))
    ∧ (a = 0x3000030 → gives { s with rcv := { s.rcv with err := s.rcv.err &&& ~~~(BitVec.ofNat _ (half 0)) } })
    ∧ (a = 0x3000038 → gives { s with rcv := { s.rcv with fabricRetries := half s.rcv.fabricRetries } }) := by
  intro a half gives
  exact ⟨fun h => bar0Gives_of_block hon h rfl, fun h => reset_of_rcv hon h, fun h => bar0Gives_of_block hon h rfl,
    fun h => bar0Gives_of_block hon h rfl⟩

end Blocks


/-! The registers of a core, of a port, and of a doorbell page -/

section Units

variable {s : State} {offset : Nat} {v : W64} {lo hi : Bool}

/-- The registers of a core (R83). -/
theorem core_registers (hon : s.bar0On = true) (n : CoreId) : let c := s.core n.val
    let half := RegWrite.over ⟨v.toNat, lo, hi⟩
    let at_ := fun o : Nat => offset / 8 * 8 = 0x1000000 + n.val * 0x100000 + o
    let gives := Bar0Gives s offset v lo hi
    (at_ 0x20 → gives (s.setCore n.val { c with err := c.err &&& ~~~(BitVec.ofNat _ (half 0)) }))
    ∧ (at_ 0x28 → let x := half (c.osCe + c.accCe * 2 ^ 32)
        gives (s.setCore n.val { c with osCe := x % 2 ^ 32, accCe := x / 2 ^ 32 }))
    ∧ (at_ 0x38 → lo = false → gives s)
    ∧ (at_ 0x38 → lo = true → let t := s.setCore n.val { c with auto := v.getLsbD 4 }
        gives (if v.getLsbD 0 then selftestStart n.val t else t)) := by
  intro c half at_ gives
  exact ⟨fun h => bar0Gives_of_core hon n (by decide) h rfl, fun h => bar0Gives_of_core hon n (by decide) h rfl,
    fun h hlo => bar0Gives_of_core hon n (by decide) h (selftest_high n.val rfl hlo),
    fun h hlo => bar0Gives_of_core hon n (by decide) h (selftest_low n.val rfl hlo)⟩

theorem retrain_of_port {o : Nat} (ho : o = 0x10) (n : Nat) (w : RegWrite) (s : State) :
    netWrite n o w s = if bit w.ones 0 then retrainPort n s else s := by
  unfold netWrite
  dsimp only
  split
  next => cases ho
  next => rfl
  iterate 10 next => cases ho
  next hne _ _ _ _ _ _ _ _ _ _ => exact absurd ho hne

/-- The registers of a port that no image locks (R312). -/
theorem port_registers (hon : s.bar0On = true) (n : PortId) : let p := s.net n.val
    let half := RegWrite.over ⟨v.toNat, lo, hi⟩
    let at_ := fun o : Nat => offset / 8 * 8 = 0x2000000 + n.val * 0x40000 + o
    let gives := Bar0Gives s offset v lo hi
    (at_ 0x10 → (half 0).testBit 0 = false → gives s)
    ∧ (at_ 0x10 → (half 0).testBit 0 = true → ∃ u, exec (.retrain n) s = .next u ∧ gives u)
    ∧ (at_ 0x68 → gives (s.setNet n.val { p with err := p.err &&& ~~~(BitVec.ofNat _ (half 0)) }))
    ∧ (∀ k < 20, at_ (0x100 + 8 * k) → gives (s.setNet n.val { p with counters := Tbl.put p.counters k (half (Tbl.get 0 p.counters k)) })) := by
  intro p half at_ gives
  exact ⟨fun h hbit => bar0Gives_of_net hon n (by decide) h ((retrain_of_port rfl ..).trans (if_neg (Bool.eq_false_iff.mp hbit))),
    fun h hbit => ⟨_, rfl, bar0Gives_of_net hon n (by decide) h ((retrain_of_port rfl ..).trans (if_pos hbit))⟩,
    fun h => bar0Gives_of_net hon n (by decide) h rfl,
    fun k hk h => bar0Gives_of_net hon n (by omega) h (netWrite_count hk n.val _ s)⟩

/-- The registers of a doorbell page (R436, R440). -/
theorem page_registers {fn slot : Nat} (hs : s.bar2Slot fn (offset / 8 * 8 / 0x10000) = some slot) : let p := s.page slot
    let o := offset / 8 * 8 % 0x10000
    let half := RegWrite.over ⟨v.toNat, lo, hi⟩
    let page := fun u : State => exec (.registerWrite true fn offset v lo hi) s = .next (s.close u)
    (o = 0x820 → page (s.setPage slot { p with statusVA := bits (half p.statusVA) 47 0 / 64 * 64 }))
    ∧ (o = 0x800 → lo = false → page s)
    ∧ (o = 0x800 → lo = true → p.pending.getLsbD (bits v.toNat 4 0) = false → ∃ u x, page u ∧ (u.page slot).queue = p.queue ++ [x]
        ∧ x.index = bits v.toNat 4 0 ∧ x.control = v.getLsbD 8 ∧ x.fn = fn ∧ x.entry = Tbl.get 0 p.entries (bits v.toNat 4 0)
        ∧ (u.page slot).pending.getLsbD (bits v.toNat 4 0) = true ∧ u.tiers = s.tiers ∧ u.ctxs = s.ctxs)
    ∧ (o = 0x808 ∨ 0x830 ≤ o → page s) := by
  intro p o half page
  have hgive : ∀ {u : State}, pageWrite fn slot o ⟨v.toNat, lo, hi⟩ s = u → page u :=
    fun hu => (exec_bar2 hs v lo hi).trans (congrArg (fun x => Host.Outcome.next (s.close x)) hu)
  refine ⟨fun h => hgive (pageWrite_status h ..), fun h hlo => hgive ((pageWrite_doorbell h ..).trans (if_neg (Bool.eq_false_iff.mp hlo))),
    fun h hlo hfree => ?_, fun h => hgive (pageWrite_rest h fn slot _ s)⟩
  have hix := ones_low_bits ⟨v.toNat, lo, hi⟩ hlo
  have hcontrol := ones_low_testBit ⟨v.toNat, lo, hi⟩ hlo (k := 8) (by decide)
  obtain ⟨x, hq, hxi, hxc, hxf, hxe, hbit, htiers, hctxs⟩ := doorbell_row (fn := fn) (v := RegWrite.ones ⟨v.toNat, lo, hi⟩)
    (by rw [hix]; exact hfree)
  rw [hix] at hxi hxe hbit
  exact ⟨_, x, hgive ((pageWrite_doorbell h ..).trans (if_pos hlo)), hq, hxi, hxc.trans hcontrol, hxf, hxe, hbit, htiers, hctxs⟩

end Units

/-- Settles O48: an address finds its block and offset, and each register of a block is one equation of the model. -/
theorem registerWrites : Obligations.RegisterWrites := by
  unfold Obligations.RegisterWrites
  intro s fn offset v lo hi a half low gives page touched lck hif mgt sec dwt col tiers rcv
  refine ⟨fun h => exec_bar0_off h offset v lo hi, fun h => ?_, fun h => exec_bar2_none h v lo hi, fun hon => ?_,
    fun slot hs => page_registers hs⟩
  · by_cases hon : s.bar0On = true
    · exact bar0Gives_of_block hon rfl (by rw [blockAt_none h]; rfl)
    · exact exec_bar0_off (.inr (Bool.eq_false_iff.mpr hon)) offset v lo hi
  · obtain ⟨hif1, hif2, hif3, hif4, hif5⟩ := hif_registers (offset := offset) (v := v) (lo := lo) (hi := hi) hon
    obtain ⟨mgt1, mgt2, mgt3, mgt4, mgt5, mgt6, mgt7⟩ := mgt_registers (offset := offset) (v := v) (lo := lo) (hi := hi) hon
    obtain ⟨sec1, sec2, sec3, sec4⟩ := sec_registers (offset := offset) (v := v) (lo := lo) (hi := hi) hon
    obtain ⟨dwt1, dwt2, dwt3, dwt4, dwt5, dwt6, dwt7⟩ := dwt_registers (offset := offset) (v := v) (lo := lo) (hi := hi) hon
    obtain ⟨col1, col2, col3, col4, col5, col6⟩ := col_registers (offset := offset) (v := v) (lo := lo) (hi := hi) hon
    obtain ⟨tier1, tier2, tier3⟩ := tier_registers (offset := offset) (v := v) (lo := lo) (hi := hi) hon
    obtain ⟨rcv1, rcv2, rcv3, rcv4⟩ := rcv_registers (offset := offset) (v := v) (lo := lo) (hi := hi) hon
    refine ⟨fun b hb hlow hhigh hout => bar0Gives_of_block hon rfl (blockWrite_unlisted hb (Nat.mul_mod_left _ _) hlow hhigh hout _ s),
      hif1, hif2, hif3, hif4, hif5, mgt1, mgt2, mgt3, mgt4, mgt5, mgt6, mgt7, sec1, sec2, sec3, sec4, dwt1, dwt2, dwt3, dwt4, dwt5, dwt6,
      dwt7, col1, col2, col3, col4, col5, col6, tier1, tier2, tier3, rcv1, rcv2, rcv3, rcv4, fun n => core_registers hon n, fun n => ?_⟩
    obtain ⟨port1, port2, port3, port4⟩ := port_registers (offset := offset) (v := v) (lo := lo) (hi := hi) hon n
    exact ⟨fun h => (lck_of_port hon n h).1 rfl, port1, port2, fun h => (lck_of_port hon n h).2.1 rfl,
      fun h => (lck_of_port hon n h).2.2.1 rfl, fun h => (lck_of_port hon n h).2.2.2.1 rfl, fun h => (lck_of_port hon n h).2.2.2.2.1 rfl,
      fun h => (lck_of_port hon n h).2.2.2.2.2.1 rfl, fun h => (lck_of_port hon n h).2.2.2.2.2.2 rfl,
      fun h => (ring_of_port hon n h).1 rfl, fun h => (ring_of_port hon n h).2.1 rfl, fun h => (ring_of_port hon n h).2.2 rfl,
      port3, port4⟩

end Sys2Proof
end

section
/-! One port of the device: what its operations leave of the others and of the machine, and flow control (10 R298, R305, R306). -/

namespace Sys2Proof

open Sys2Proof.Machine

/-! Only one port differs -/

theorem portKept.refl (s : State) (n : Nat) : portKept s s n := ⟨fun _ _ => rfl, rfl, rfl, rfl, rfl, rfl, rfl, rfl⟩

theorem portKept.trans {s t u : State} {n : Nat} (h : portKept s t n) (k : portKept t u n) : portKept s u n := by
  obtain ⟨hnet, htiers, hcores, hctxs, hcounters, hdwt, hpower, hrcv⟩ := h
  obtain ⟨knet, ktiers, kcores, kctxs, kcounters, kdwt, kpower, krcv⟩ := k
  exact ⟨fun m hm => (knet m hm).trans (hnet m hm), ktiers.trans htiers, kcores.trans hcores, kctxs.trans hctxs,
    kcounters.trans hcounters, kdwt.trans hdwt, kpower.trans hpower, krcv.trans hrcv⟩

theorem portKept.setNet (s : State) (n : Nat) (p : Net) : portKept s (s.setNet n p) n :=
  ⟨fun _ hm => State.net_setNet_ne s p hm, rfl, rfl, rfl, rfl, rfl, rfl, rfl⟩

theorem portKept.emit (s : State) (n : Nat) (x : Output) : portKept s (s.emit x) n := ⟨fun _ _ => rfl, rfl, rfl, rfl, rfl, rfl, rfl, rfl⟩

theorem portKept.drawn (s : State) (n k : Nat) : portKept s (s.drawn k) n := ⟨fun _ _ => rfl, rfl, rfl, rfl, rfl, rfl, rfl, rfl⟩

theorem portKept.countNet (s : State) (n i k : Nat) : portKept s (s.countNet n i k) n := .setNet s n _

theorem portKept.logEv (s : State) (n : Nat) (e : LogEnt) : portKept s (s.logEv e) n :=
  ⟨fun m _ => logEv_net s e m, by simp, by simp, by simp, by simp, by simp, by simp, by simp⟩

theorem portKept.msix (s : State) (n fn v : Nat) : portKept s (s.msix fn v) n := by
  unfold State.msix
  split
  · exact .emit s n _
  · exact .refl s n

theorem portKept.errNet (s : State) (n k : Nat) : portKept s (s.errNet n k) n := by
  unfold State.errNet
  dsimp only
  split
  · exact .refl s n
  · exact (portKept.setNet s n _).trans (.logEv _ n _)

/-! The counters of a port -/

theorem countNet_net (s : State) (n i k : Nat) : (s.countNet n i k).net n = (s.net n).count i k := State.net_setNet_self s n _

theorem portCount_countNet (s : State) (n i k : Nat) : portCount (s.countNet n i k) n i = satAdd Config.sat64 (portCount s n i) k := by
  rw [portCount, countNet_net]
  exact Tbl.get_put_same _ _ _ _

theorem portCount_countNet_ne (s : State) (n k : Nat) {i j : Nat} (h : j ≠ i) : portCount (s.countNet n i k) n j = portCount s n j := by
  rw [portCount, countNet_net]
  exact Tbl.get_put_other _ _ _ h

/-- A port after frames: of the fields only those of flow control and the counters of some numbers differ. -/
structure FrameKept (js : List Nat) (p q : Net) : Prop where
  fields : q = { p with rxLevel := q.rxLevel, xoff := q.xoff, fcHeld := q.fcHeld, counters := q.counters }
  counts : ∀ j, j ∉ js → Tbl.get 0 q.counters j = Tbl.get 0 p.counters j

theorem FrameKept.refl (js : List Nat) (p : Net) : FrameKept js p p := ⟨rfl, fun _ _ => rfl⟩

theorem FrameKept.trans {js : List Nat} {p q r : Net} (h : FrameKept js p q) (k : FrameKept js q r) : FrameKept js p r :=
  ⟨by rw [k.fields, h.fields], fun j hj => (k.counts j hj).trans (h.counts j hj)⟩

theorem FrameKept.mono {js ks : List Nat} {p q : Net} (h : FrameKept js p q) (hs : ∀ j ∈ js, j ∈ ks) : FrameKept ks p q :=
  ⟨h.fields, fun j hj => h.counts j fun hm => hj (hs j hm)⟩

theorem FrameKept.count (p : Net) {js : List Nat} {i : Nat} (k : Nat) (h : i ∈ js) : FrameKept js p (p.count i k) :=
  ⟨rfl, fun _ hj => Tbl.get_put_other _ _ _ fun he => hj (he ▸ h)⟩

/-- The flow-control fields of a port set. -/
theorem FrameKept.flow (js : List Nat) (p : Net) (level : Tbl Nat) (xoff : List Nat) (held : Bool) :
    FrameKept js p { p with rxLevel := level, xoff := xoff, fcHeld := held } := ⟨rfl, fun _ _ => rfl⟩

/-! MAC Control frames (R306) -/

/-- What a MAC Control frame leaves. -/
structure MacSent (n opcode : Nat) (fields : List Nat) (s t : State) : Prop where
  out : t.out = s.out ++ [.macCtl n opcode fields]
  kept : portKept s t n
  flow : (t.net n).xoff = (s.net n).xoff ∧ (t.net n).rxLevel = (s.net n).rxLevel ∧ (t.net n).fcHeld = (s.net n).fcHeld
  net : FrameKept [0, 1, 3] (s.net n) (t.net n)
  mgt : t.mgt = s.mgt
  hif : t.hif = s.hif

theorem macSend_sent (n opcode : Nat) (fields : List Nat) (s : State) : MacSent n opcode fields s (macSend n opcode fields s) := by
  have hnet : (macSend n opcode fields s).net n = ((s.net n).count 0 1).count 1 64 := by
    rw [macSend, countNet_net, countNet_net, State.net_emit]
  refine ⟨rfl, ((portKept.emit s n _).trans (.countNet _ n 0 1)).trans (.countNet _ n 1 64), ?_, ?_, rfl, rfl⟩
  · rw [hnet]
    exact ⟨rfl, rfl, rfl⟩
  · rw [hnet]
    exact (FrameKept.count _ 1 (by decide)).trans (.count _ 64 (by decide))

theorem MacSent.counted {n opcode : Nat} {fields : List Nat} {s t : State} (h : MacSent n opcode fields s t) (k : Nat) :
    MacSent n opcode fields s (t.countNet n 3 k) := by
  obtain ⟨hxoff, hlevel, hheld⟩ := h.flow
  refine ⟨h.out, h.kept.trans (.countNet t n 3 k), ?_, ?_, h.mgt, h.hif⟩
  · rw [countNet_net]
    exact ⟨hxoff, hlevel, hheld⟩
  · rw [countNet_net]
    exact h.net.trans (.count _ k (by decide))

/-- What a PAUSE or PFC frame of a class leaves, in each mode of flow control. -/
structure FcSent (n cls time : Nat) (s t : State) : Prop where
  pause : (s.net n).cfg.fcMode = 1 → Output.macCtl n 0x0001 [time] ∈ t.out
  pfc : (s.net n).cfg.fcMode = 2 → bit (s.net n).cfg.pfcEn cls = true → Output.macCtl n 0x0101 [2 ^ cls, time] ∈ t.out
  kept : portKept s t n
  flow : (t.net n).xoff = (s.net n).xoff ∧ (t.net n).rxLevel = (s.net n).rxLevel ∧ (t.net n).fcHeld = (s.net n).fcHeld
  net : FrameKept [0, 1, 3] (s.net n) (t.net n)

theorem sendFc_sent (n cls time : Nat) (s : State) : FcSent n cls time s (sendFc n cls time s) := by
  unfold sendFc
  dsimp only
  split
  next h1 =>
    have h := (macSend_sent n 0x0001 [time] s).counted 1
    refine ⟨fun _ => ?_, fun h2 => by omega, h.kept, h.flow, h.net⟩
    rw [h.out]
    exact List.mem_append_right _ (.head _)
  next h1 =>
    split
    next h2 =>
      have h := (macSend_sent n 0x0101 [2 ^ cls, time] s).counted 1
      refine ⟨fun h1' => absurd h1' h1, fun _ _ => ?_, h.kept, h.flow, h.net⟩
      rw [h.out]
      exact List.mem_append_right _ (.head _)
    next h2 => exact ⟨fun h1' => absurd h1' h1, fun hm hb => absurd ⟨hm, hb⟩ h2, .refl s n, ⟨rfl, rfl, rfl⟩, .refl _ _⟩

/-! The levels of the receive buffer -/

theorem setLevel_net (n cls level : Nat) (s : State) :
    (setLevel n cls level s).net n = { s.net n with rxLevel := Tbl.put (s.net n).rxLevel cls level } := State.net_setNet_self ..

theorem setLevel_kept (n cls level : Nat) (s : State) : portKept s (setLevel n cls level s) n := .setNet ..

theorem setLevel_frame (js : List Nat) (n cls level : Nat) (s : State) : FrameKept js (s.net n) ((setLevel n cls level s).net n) := by
  rw [setLevel_net]
  exact .flow js (s.net n) _ (s.net n).xoff (s.net n).fcHeld

theorem xoffAt_low {n cls level : Nat} {s : State} (h : level ≤ 49152 ∨ cls ∈ (s.net n).xoff) : xoffAt n cls level s = setLevel n cls level s := by
  unfold xoffAt
  dsimp only
  rw [setLevel_net]
  exact if_pos h

/-- The port with XOFF sent, as the sending of its frame finds it. -/
theorem xoffAt_high {n cls level : Nat} {s : State} (h : 49152 < level) (hx : cls ∉ (s.net n).xoff) : xoffAt n cls level s
    = sendFc n cls 0xFFFF ((setLevel n cls level s).setNet n { s.net n with
        rxLevel := Tbl.put (s.net n).rxLevel cls level, xoff := (s.net n).xoff ++ [cls], fcHeld := true }) := by
  unfold xoffAt
  dsimp only
  rw [setLevel_net]
  exact if_neg (not_or.mpr ⟨Nat.not_le.mpr h, hx⟩)

/-- Whatever the level, a class's fill changes the port's flow control only. -/
theorem xoffAt_kept (n cls level : Nat) (s : State) :
    portKept s (xoffAt n cls level s) n ∧ FrameKept [0, 1, 3] (s.net n) ((xoffAt n cls level s).net n) := by
  by_cases h : level ≤ 49152 ∨ cls ∈ (s.net n).xoff
  · rw [xoffAt_low h]
    exact ⟨setLevel_kept .., setLevel_frame ..⟩
  · obtain ⟨hlevel, hx⟩ := not_or.mp h
    rw [xoffAt_high (Nat.not_le.mp hlevel) hx]
    generalize hu : (setLevel n cls level s).setNet n _ = u
    have hkept : portKept s u n := by
      rw [← hu]
      exact (setLevel_kept ..).trans (.setNet ..)
    have hnet : FrameKept [0, 1, 3] (s.net n) (u.net n) := by
      rw [← hu, State.net_setNet_self]
      exact .flow _ (s.net n) _ _ _
    have hsent := sendFc_sent n cls 0xFFFF u
    exact ⟨hkept.trans hsent.kept, hnet.trans hsent.net⟩

/-! An accepted frame (R298) -/

/-- An accepted frame counts, fills its class and may send XOFF; the rest of the port is as it was. -/
theorem rxChecked_ok {takes : Bool} {n : Nat} {f : RxFacts} {s : State} (h : (rxChecked takes n f s).ok = true) :
    portKept s (rxChecked takes n f s).s n
      ∧ FrameKept [0, 1, 3, 4, 5, 10] (s.net n) ((rxChecked takes n f s).s.net n) := by
  have hcount : ∀ (u : State) (i k : Nat), i ∈ [0, 1, 3, 4, 5, 10] →
      portKept u (u.countNet n i k) n ∧ FrameKept [0, 1, 3, 4, 5, 10] (u.net n) ((u.countNet n i k).net n) := by
    intro u i k hi
    refine ⟨.countNet u n i k, ?_⟩
    rw [countNet_net]
    exact .count _ k hi
  unfold rxChecked at h ⊢
  extract_lets p cls level trunc s1 at h ⊢
  have hs1 : portKept s s1 n ∧ FrameKept [0, 1, 3, 4, 5, 10] (s.net n) (s1.net n) := by
    unfold s1
    split
    · exact hcount s 10 1 (by decide)
    · exact ⟨.refl s n, .refl _ _⟩
  by_cases h1 : (!p.linkUp) = true
  · rw [if_pos h1] at h
    exact nomatch h
  rw [if_neg h1] at h ⊢
  by_cases h2 : f.fecBad = true
  · rw [if_pos h2] at h
    exact nomatch h
  rw [if_neg h2] at h ⊢
  by_cases h3 : f.len < 64
  · rw [if_pos h3] at h
    exact nomatch h
  rw [if_neg h3] at h ⊢
  by_cases h4 : f.stomped = true
  · rw [if_pos h4] at h
    exact nomatch h
  rw [if_neg h4] at h ⊢
  by_cases h5 : f.fcsBad = true
  · rw [if_pos h5] at h
    exact nomatch h
  rw [if_neg h5] at h ⊢
  by_cases h6 : 9216 < f.len ∧ p.cfg.compatTv4 = false
  · rw [if_pos h6] at h
    exact nomatch h
  rw [if_neg h6] at h ⊢
  by_cases h7 : (!takes || p.badTag f) = true
  · rw [if_pos h7] at h
    exact nomatch h
  rw [if_neg h7] at h ⊢
  by_cases h8 : rxBuffer < level
  · rw [if_pos h8] at h
    exact nomatch h
  rw [if_neg h8] at h ⊢
  obtain ⟨hkept, hnet⟩ := hs1
  obtain ⟨hkept4, hnet4⟩ := hcount s1 4 1 (by decide)
  obtain ⟨hkept5, hnet5⟩ := hcount (s1.countNet n 4 1) 5 f.len (by decide)
  obtain ⟨hkeptx, hnetx⟩ := xoffAt_kept n cls level ((s1.countNet n 4 1).countNet n 5 f.len)
  exact ⟨((hkept.trans hkept4).trans hkept5).trans hkeptx, ((hnet.trans hnet4).trans hnet5).trans (hnetx.mono (by decide))⟩

theorem rxFrame_ok {n : Nat} {f : RxFacts} {s : State} (h : (rxFrame n f s).ok = true) :
    portKept s (rxFrame n f s).s n ∧ FrameKept [0, 1, 3, 4, 5, 10] (s.net n) ((rxFrame n f s).s.net n) := rxChecked_ok h

theorem rxControl_ok {n : Nat} {f : RxFacts} {s : State} (h : (rxControl n f s).ok = true) :
    portKept s (rxControl n f s).s n ∧ FrameKept [0, 1, 3, 4, 5, 10] (s.net n) ((rxControl n f s).s.net n) :=
  rxChecked_ok (Bool.and_eq_true_iff.mp h).1

theorem rxLane_ok {n : Nat} {f : RxFacts} {s : State} (h : (rxLane n f s).ok = true) :
    portKept s (rxLane n f s).s n ∧ FrameKept [0, 1, 3, 4, 5, 10] (s.net n) ((rxLane n f s).s.net n) :=
  rxChecked_ok (Bool.and_eq_true_iff.mp h).1

/-! PAUSE and PFC received (R305) -/

theorem setPause_kept (n : Nat) (qs : List (Nat × Nat)) (s : State) : portKept s (setPause n qs s) n := .setNet ..

theorem setPause_net (n : Nat) (qs : List (Nat × Nat)) (s : State) :
    (setPause n qs s).net n = { s.net n with pause := qs.foldl (fun t q => Tbl.put t q.1 q.2) (s.net n).pause } := State.net_setNet_self ..

/-- What a table lists once each key of a list has its value. -/
theorem get_foldl_put (g : Nat → Nat) (ks : List Nat) (t : Tbl Nat) (c : Nat) :
    Tbl.get 0 ((ks.map fun k => (k, g k)).foldl (fun t q => Tbl.put t q.1 q.2) t) c = if c ∈ ks then g c else Tbl.get 0 t c := by
  induction ks generalizing t with
  | nil => exact (if_neg nofun).symm
  | cons k ks ih =>
    rw [List.map_cons, List.foldl_cons, ih]
    by_cases hc : c ∈ ks
    · rw [if_pos hc, if_pos (.tail _ hc)]
    · rw [if_neg hc]
      by_cases hk : c = k
      · subst hk
        rw [if_pos (.head _), Tbl.get_put_same]
      · rw [if_neg (by simp [hk, hc]), Tbl.get_put_other _ _ _ hk]

/-- The state of a port whose pause times a frame sets: the frame is accepted, the times are set, the frame counts. -/
theorem paused_row {n : Nat} {f : RxFacts} {s : State} (h : (rxControl n f s).ok = true) (g : Nat → Nat) (ks : List Nat) :
    let t := (setPause n (ks.map fun k => (k, g k)) (rxControl n f s).s).countNet n 13 1
    (∀ c, Tbl.get 0 (t.net n).pause c = if c ∈ ks then g c else Tbl.get 0 (s.net n).pause c)
      ∧ portCount t n 13 = satAdd Config.sat64 (portCount s n 13) 1 ∧ (t.net n).txq = (s.net n).txq ∧ portKept s t n := by
  intro t
  obtain ⟨hkept, hnet⟩ := rxControl_ok h
  have hfields : (t.net n).pause = (ks.map fun k => (k, g k)).foldl (fun t q => Tbl.put t q.1 q.2) (s.net n).pause
      ∧ (t.net n).txq = (s.net n).txq := by
    rw [countNet_net, Net.count, setPause_net, hnet.fields]
    exact ⟨rfl, rfl⟩
  obtain ⟨hpause, htxq⟩ := hfields
  have hcount : portCount (setPause n (ks.map fun k => (k, g k)) (rxControl n f s).s) n 13 = portCount s n 13 := by
    rw [portCount, setPause_net]
    exact hnet.counts 13 (by decide)
  refine ⟨fun c => by rw [hpause, get_foldl_put], ?_, htxq, (hkept.trans (setPause_kept ..)).trans (.countNet ..)⟩
  rw [portCount_countNet, hcount]

theorem ignored_row {n : Nat} {f : RxFacts} {s : State} (h : (rxControl n f s).ok = true) :
    ((ctlIgnored n (rxControl n f s).s).net n).pause = (s.net n).pause
      ∧ portCount (ctlIgnored n (rxControl n f s).s) n 14 = satAdd Config.sat64 (portCount s n 14) 1
      ∧ portKept s (ctlIgnored n (rxControl n f s).s) n := by
  obtain ⟨hkept, hnet⟩ := rxControl_ok h
  refine ⟨?_, ?_, hkept.trans (.countNet ..)⟩
  · rw [ctlIgnored, countNet_net, Net.count, hnet.fields]
  · rw [ctlIgnored, portCount_countNet]
    exact congrArg (satAdd Config.sat64 · 1) (hnet.counts 14 (by decide))

theorem pause_received {n : PortId} {f : RxFacts} {s : State} (h : (rxControl n.val f s).ok = true) (q : W16) :
    exec (.pause n f q) s = .next (if (s.net n.val).cfg.fcMode = 1 then
        (setPause n.val ((List.range 8).map fun c => (c, q.toNat)) (rxControl n.val f s).s).countNet n.val 13 1
      else ctlIgnored n.val (rxControl n.val f s).s) := by
  change execPause n f q s = _
  unfold execPause
  dsimp only
  rw [if_neg (by rw [h]; decide)]

theorem pfc_received {n : PortId} {f : RxFacts} {s : State} (h : (rxControl n.val f s).ok = true) (en : Byte) (times : List W16) :
    exec (.pfc n f en times) s = .next (if (s.net n.val).cfg.fcMode = 2 then
        (setPause n.val (((List.range 8).filter fun c => en.getLsbD c && bit (s.net n.val).cfg.pfcEn c).map
          fun c => (c, (times.getD c 0#16).toNat)) (rxControl n.val f s).s).countNet n.val 13 1
      else ctlIgnored n.val (rxControl n.val f s).s) := by
  change execPfc n f en times s = _
  unfold execPfc
  dsimp only
  rw [if_neg (by rw [h]; decide)]

theorem pauseExpiry_row {n : PortId} {q : Fin 8} {s : State} (h : Tbl.get 0 (s.net n.val).pause q.val ≠ 0) :
    ∃ t, exec (.pauseExpiry n q) s = .next t ∧ Tbl.get 0 (t.net n.val).pause q.val = 0
      ∧ (∀ c, c ≠ q.val → Tbl.get 0 (t.net n.val).pause c = Tbl.get 0 (s.net n.val).pause c) ∧ portKept s t n.val := by
  have hexec : exec (.pauseExpiry n q) s = .next (setPause n.val [(q.val, 0)] s) := by
    change execPauseExpiry n q s = _
    rw [execPauseExpiry, if_neg h]
  refine ⟨_, hexec, ?_, fun c hc => ?_, setPause_kept ..⟩
  · rw [setPause_net]
    exact Tbl.get_put_same ..
  · rw [setPause_net]
    exact Tbl.get_put_other _ _ _ hc

/-! XON (R306) -/

/-- A port whose class has fallen, before XON goes out. -/
def released (n cls level : Nat) (s : State) : State :=
  (setLevel n cls level s).setNet n { s.net n with
    rxLevel := Tbl.put (s.net n).rxLevel cls level, xoff := (s.net n).xoff.filter fun c => decide (c ≠ cls) }

theorem released_net (n cls level : Nat) (s : State) : (released n cls level s).net n = { s.net n with
    rxLevel := Tbl.put (s.net n).rxLevel cls level, xoff := (s.net n).xoff.filter fun c => decide (c ≠ cls) } := State.net_setNet_self ..

theorem released_kept (n cls level : Nat) (s : State) : portKept s (released n cls level s) n := (setLevel_kept ..).trans (.setNet ..)

theorem xon_eq {n cls level : Nat} {s : State} (h : level ≤ 24576) : xon n cls level s =
    if (s.net n).cfg.fcMode = 1 then
      if !(s.net n).fcHeld || (List.range 8).any (fun c => decide (24576 < Tbl.get 0 (Tbl.put (s.net n).rxLevel cls level) c)) then
        released n cls level s
      else sendFc n cls 0 ((released n cls level s).setNet n { (released n cls level s).net n with fcHeld := false })
    else if cls ∈ (s.net n).xoff then sendFc n cls 0 (released n cls level s)
    else released n cls level s := by
  unfold xon released
  dsimp only
  rw [if_neg (Nat.not_lt.mpr h), setLevel_net]

theorem not_mem_filter_ne (l : List Nat) (k : Nat) : k ∉ l.filter fun c => decide (c ≠ k) := by simp

/-- XON sent from a state with the class released. -/
theorem xon_sent {n cls level : Nat} {s u : State} (hkept : portKept s u n)
    (hnet : u.net n = { (released n cls level s).net n with fcHeld := (u.net n).fcHeld }) :
    ((s.net n).cfg.fcMode = 1 → Output.macCtl n 0x0001 [0] ∈ (sendFc n cls 0 u).out)
      ∧ ((s.net n).cfg.fcMode = 2 → bit (s.net n).cfg.pfcEn cls = true → Output.macCtl n 0x0101 [2 ^ cls, 0] ∈ (sendFc n cls 0 u).out)
      ∧ cls ∉ ((sendFc n cls 0 u).net n).xoff ∧ Tbl.get 0 ((sendFc n cls 0 u).net n).rxLevel cls = level
      ∧ ((sendFc n cls 0 u).net n).fcHeld = (u.net n).fcHeld ∧ portKept s (sendFc n cls 0 u) n := by
  have hsent := sendFc_sent n cls 0 u
  obtain ⟨hxoff, hlevel, hheld⟩ := hsent.flow
  rw [released_net] at hnet
  have hcfg : (u.net n).cfg = (s.net n).cfg := by rw [hnet]
  refine ⟨fun h => hsent.pause (by rw [hcfg, h]), fun h hb => hsent.pfc ((congrArg NetCfg.fcMode hcfg).trans h) ((congrArg (fun g : NetCfg => bit g.pfcEn _) hcfg).trans hb), ?_, ?_, hheld, hkept.trans hsent.kept⟩
  · rw [hxoff, hnet]
    exact not_mem_filter_ne _ _
  · rw [hlevel, hnet]
    exact Tbl.get_put_same ..

/-- Settles O26: an accepted frame leaves the port but for its flow control and counters, and each command is then one update of the port. -/
theorem flowControl : Obligations.FlowControl := by
  unfold Obligations.FlowControl
  refine ⟨fun s n f q en times hok => ?_, fun s n q h => pauseExpiry_row h, fun s n cls level => ?_⟩
  · intro p
    have hpause := pause_received hok q
    have hpfc := pfc_received hok en times
    refine ⟨fun hm => ?_, fun hm => ?_, fun hm => ?_, fun hm => ?_⟩
    · rw [if_pos hm] at hpause
      obtain ⟨htimes, hcount, htxq, hkept⟩ := paused_row hok (fun _ => q.toNat) (List.range 8)
      exact ⟨_, hpause, fun c hc => (htimes c).trans (if_pos (List.mem_range.mpr hc)), hcount, htxq, hkept⟩
    · rw [if_neg hm] at hpause
      exact ⟨_, hpause, ignored_row hok⟩
    · rw [if_pos hm] at hpfc
      obtain ⟨htimes, hcount, htxq, hkept⟩ := paused_row hok (fun c => (times.getD c 0#16).toNat)
        ((List.range 8).filter fun c => en.getLsbD c && bit (s.net n.val).cfg.pfcEn c)
      refine ⟨_, hpfc, fun c hc => (htimes c).trans ?_, hcount, htxq, hkept⟩
      simp only [List.mem_filter, List.mem_range, hc, true_and]
      rfl
    · rw [if_neg hm] at hpfc
      exact ⟨_, hpfc, ignored_row hok⟩
  · intro p sent
    refine ⟨fun hl hx => ?_, fun hl => ?_, fun hx hl => ?_, fun hl hm hx => ?_, fun hl hm hheld hall => ?_, fun hl hm hsome => ?_⟩
    · have hexec : exec (.xoff n cls level) s = .next (xoffAt n.val cls.val level s) := rfl
      rw [xoffAt_high hl hx] at hexec
      generalize hu : (setLevel n.val cls.val level s).setNet n.val _ = u at hexec
      have hnet : u.net n.val = { s.net n.val with
          rxLevel := Tbl.put (s.net n.val).rxLevel cls.val level, xoff := (s.net n.val).xoff ++ [cls.val], fcHeld := true } := by
        rw [← hu, State.net_setNet_self]
      have hkept : portKept s u n.val := by
        rw [← hu]
        exact (setLevel_kept ..).trans (.setNet ..)
      have hsent := sendFc_sent n.val cls.val 0xFFFF u
      obtain ⟨hxoff, hlevel, -⟩ := hsent.flow
      have hcfg : (u.net n.val).cfg = p.cfg := by rw [hnet]
      refine ⟨_, hexec, ⟨fun h => hsent.pause (by rw [hcfg, h]), fun h hb => hsent.pfc ((congrArg NetCfg.fcMode hcfg).trans h) ((congrArg (fun g : NetCfg => bit g.pfcEn _) hcfg).trans hb)⟩, ?_, ?_,
        hkept.trans hsent.kept⟩
      · rw [hxoff, hnet]
      · rw [hlevel, hnet]
        exact Tbl.get_put_same ..
    · have hexec : exec (.xoff n cls level) s = .next (xoffAt n.val cls.val level s) := rfl
      rw [xoffAt_low (.inl hl)] at hexec
      refine ⟨_, hexec, rfl, ?_, setLevel_kept ..⟩
      rw [setLevel_net]
    · have hexec : exec (.xoffRepeat n cls) s = .next (sendFc n.val cls.val 0xFFFF s) := by
        change execXoffRepeat n cls s = _
        rw [execXoffRepeat, if_pos ⟨hx, hl⟩]
      have hsent := sendFc_sent n.val cls.val 0xFFFF s
      exact ⟨_, hexec, ⟨hsent.pause, hsent.pfc⟩, hsent.flow.1, hsent.kept⟩
    · have hexec : exec (.xon n cls level) s = .next (xon n.val cls.val level s) := rfl
      rw [xon_eq hl, if_neg hm, if_pos hx] at hexec
      obtain ⟨hpause, hpfc, hxoff, hlevel, -, hkept⟩ := xon_sent (released_kept n.val cls.val level s) rfl
      exact ⟨_, hexec, ⟨hpause, hpfc⟩, hxoff, hlevel, hkept⟩
    · have hexec : exec (.xon n cls level) s = .next (xon n.val cls.val level s) := rfl
      have hnone : (!(s.net n.val).fcHeld || (List.range 8).any (fun c => decide (24576 < Tbl.get 0 (Tbl.put (s.net n.val).rxLevel cls.val level) c)))
          ≠ true := by
        have hlow : ∀ c < 8, Tbl.get 0 (Tbl.put p.rxLevel cls.val level) c ≤ 24576 := by
          intro c hc
          by_cases hcc : c = cls.val
          · rw [hcc, Tbl.get_put_same]
            exact hl
          · rw [Tbl.get_put_other _ _ _ hcc]
            exact hall c hc hcc
        intro hany
        rw [show (s.net n.val).fcHeld = true from hheld, Bool.not_true, Bool.false_or] at hany
        obtain ⟨c, hc, hhigh⟩ := List.any_eq_true.mp hany
        exact absurd (of_decide_eq_true hhigh) (Nat.not_lt.mpr (hlow c (List.mem_range.mp hc)))
      rw [xon_eq hl, if_pos hm, if_neg hnone] at hexec
      generalize hu : (released n.val cls.val level s).setNet n.val { (released n.val cls.val level s).net n.val with fcHeld := false } = u at hexec
      have hkept : portKept s u n.val := by
        rw [← hu]
        exact (released_kept ..).trans (.setNet ..)
      have hnet : u.net n.val = { (released n.val cls.val level s).net n.val with fcHeld := false } := by
        rw [← hu, State.net_setNet_self]
      have hdown : (u.net n.val).fcHeld = false := by rw [hnet]
      obtain ⟨hpause, hpfc, hxoff, -, hfc, hsent⟩ := xon_sent (cls := cls.val) (level := level) hkept (by rw [hdown]; exact hnet)
      exact ⟨_, hexec, ⟨hpause, hpfc⟩, hxoff, hfc.trans hdown, hsent⟩
    · obtain ⟨c, hc, hcc, hhigh⟩ := hsome
      have hexec : exec (.xon n cls level) s = .next (xon n.val cls.val level s) := rfl
      have hany : (!(s.net n.val).fcHeld || (List.range 8).any (fun c => decide (24576 < Tbl.get 0 (Tbl.put (s.net n.val).rxLevel cls.val level) c)))
          = true := by
        refine Bool.or_eq_true_iff.mpr (.inr (List.any_eq_true.mpr ⟨c, List.mem_range.mpr hc, decide_eq_true ?_⟩))
        rw [Tbl.get_put_other _ _ _ hcc]
        exact hhigh
      rw [xon_eq hl, if_pos hm, if_pos hany] at hexec
      refine ⟨_, hexec, rfl, ?_, ?_, released_kept ..⟩
      · rw [released_net]
        exact not_mem_filter_ne _ _
      · rw [released_net]

end Sys2Proof
end

section
/-! The raw receive ring and the transmitter of a port (10 R300 to R304; 11 R349, R350). -/

namespace Sys2Proof

open Sys2Proof.Machine

/-! The raw ring (R300, R301) -/

/-- A port after its raw frame, as the ring finds it. -/
theorem rawFrame_drops {n buf : Nat} {frame : List Byte} {trunc : Bool} {s : State}
    (h : (s.net n).rawEntries = 0 ∨ (s.net n).rawHead = (s.net n).rawTail) : rawFrame n buf frame trunc s = rawDrop n s := by
  unfold rawFrame
  exact if_pos (by simpa using h)

theorem rawDrop_row (n : Nat) (s : State) : ((rawDrop n s).net n).rawHead = (s.net n).rawHead
    ∧ portCount (rawDrop n s) n 15 = satAdd Config.sat64 (portCount s n 15) 1 ∧ ((rawDrop n s).net n).err.getLsbD 0 = true
    ∧ portKept s (rawDrop n s) n := by
  have herr : ∀ u : State, ((u.errNet n 0).net n).rawHead = (u.net n).rawHead ∧ portCount (u.errNet n 0) n 15 = portCount u n 15 := by
    intro u
    unfold State.errNet portCount
    dsimp only
    split
    · exact ⟨rfl, rfl⟩
    · rw [logEv_net, State.net_setNet_self]
      exact ⟨rfl, rfl⟩
  obtain ⟨hhead, hcount⟩ := herr (s.countNet n 15 1)
  unfold rawDrop
  refine ⟨hhead.trans (by rw [countNet_net]; rfl), hcount.trans (portCount_countNet ..), (errNet_raised _ n (by decide)).1,
    (portKept.countNet ..).trans (.errNet ..)⟩

theorem rawFrame_row {n buf : Nat} {frame : List Byte} {trunc : Bool} {s : State} (he : (s.net n).rawEntries ≠ 0)
    (hr : (s.net n).rawHead ≠ (s.net n).rawTail) :
    ((rawFrame n buf frame trunc s).net n).rawHead = ((s.net n).rawHead + 1) % (s.net n).rawEntries
      ∧ ((rawFrame n buf frame trunc s).net n).rawTail = (s.net n).rawTail
      ∧ Output.hostWrite buf (frame.take 9216) ∈ (rawFrame n buf frame trunc s).out
      ∧ Output.hostWrite ((s.net n).rawBase + 16 * (s.net n).rawHead + 8)
          (leBytes 8 ((frame.take 9216).length + at_ (b2n trunc) 16 + at_ 1 31)) ∈ (rawFrame n buf frame trunc s).out
      ∧ (s.hif.linkUp = true → Output.msix 0 (2 + n) ∈ (rawFrame n buf frame trunc s).out)
      ∧ portKept s (rawFrame n buf frame trunc s) n := by
  have heq : rawFrame n buf frame trunc s = (((s.emit (.hostWrite buf (frame.take 9216))).emit
      (.hostWrite ((s.net n).rawBase + 16 * (s.net n).rawHead + 8)
        (leBytes 8 ((frame.take 9216).length + at_ (b2n trunc) 16 + at_ 1 31)))).setNet n
      { s.net n with rawHead := ((s.net n).rawHead + 1) % (s.net n).rawEntries }).msix 0 (2 + n) := by
    unfold rawFrame
    exact if_neg (by simp [he, hr])
  have hsignal : ∀ (u : State) (fn k : Nat), (u.msix fn k).nets = u.nets ∧ (∀ x ∈ u.out, x ∈ (u.msix fn k).out)
      ∧ (u.hif.linkUp = true → Output.msix fn k ∈ (u.msix fn k).out) := by
    intro u fn k
    unfold State.msix
    split
    next h => exact ⟨rfl, fun x hx => List.mem_append_left _ hx, fun _ => List.mem_append_right _ (.head _)⟩
    next h => exact ⟨rfl, fun x hx => hx, fun hup => absurd hup h⟩
  rw [heq]
  generalize hu : State.setNet _ n _ = u
  have hout : Output.hostWrite buf (frame.take 9216) ∈ u.out ∧ Output.hostWrite ((s.net n).rawBase + 16 * (s.net n).rawHead + 8)
      (leBytes 8 ((frame.take 9216).length + at_ (b2n trunc) 16 + at_ 1 31)) ∈ u.out := by
    rw [← hu]
    exact ⟨List.mem_append_left _ (List.mem_append_right _ (.head _)), List.mem_append_right _ (.head _)⟩
  have hkept : portKept s u n := by
    rw [← hu]
    exact ((portKept.emit ..).trans (.emit ..)).trans (.setNet ..)
  have hnet : u.net n = { s.net n with rawHead := ((s.net n).rawHead + 1) % (s.net n).rawEntries } := by
    rw [← hu, State.net_setNet_self]
  have hhif : u.hif = s.hif := by rw [← hu]; rfl
  obtain ⟨hnets, hstay, hmsix⟩ := hsignal u 0 (2 + n)
  have hself : (u.msix 0 (2 + n)).net n = u.net n := by rw [State.net, State.net, hnets]
  refine ⟨?_, ?_, hstay _ hout.1, hstay _ hout.2, fun hup => hmsix (by rw [hhif, hup]), hkept.trans (.msix ..)⟩
  · rw [hself, hnet]
  · rw [hself, hnet]

/-! Which frame a queue offers (R302) -/

/-- The frames of a class and an enclosure, in their order. -/
def framesOf (l : List TxFrame) (k e : Nat) : List TxFrame := l.filter fun y => decide (y.cls = k) && decide (y.encl = e)

theorem framesOf_cons_ne {t : TxFrame} {k e : Nat} (l : List TxFrame) (h : ¬(t.cls = k ∧ t.encl = e)) :
    framesOf (t :: l) k e = framesOf l k e := List.filter_cons_of_neg (by simpa using h)

theorem framesOf_cons_self (t : TxFrame) (l : List TxFrame) : framesOf (t :: l) t.cls t.encl = t :: framesOf l t.cls t.encl :=
  List.filter_cons_of_pos (by simp)

/-- Each frame of `oldestEach` is of the class, and the first of its enclosure. -/
theorem mem_oldestEach {c : Nat} {x : TxFrame} : ∀ {l : List TxFrame} {seen : List Nat}, x ∈ oldestEach c l seen →
    x ∈ l ∧ x.cls = c ∧ x.encl ∉ seen ∧ (framesOf l c x.encl).head? = some x
  | [], _, h => nomatch h
  | t :: l, seen, h => by
    unfold oldestEach at h
    split at h
    next ht =>
      obtain ⟨htc, hts⟩ := ht
      rcases List.mem_cons.mp h with rfl | h
      · refine ⟨.head _, htc, hts, ?_⟩
        rw [← htc, framesOf_cons_self]
        rfl
      · obtain ⟨hmem, hcls, hseen, hhead⟩ := mem_oldestEach h
        obtain ⟨hne, hseen⟩ := not_or.mp (mt List.mem_cons.mpr hseen)
        refine ⟨.tail _ hmem, hcls, hseen, ?_⟩
        rw [framesOf_cons_ne l (fun he => hne he.2.symm)]
        exact hhead
    next ht =>
      obtain ⟨hmem, hcls, hseen, hhead⟩ := mem_oldestEach h
      refine ⟨.tail _ hmem, hcls, hseen, ?_⟩
      rw [framesOf_cons_ne l (fun he => ht ⟨he.1, by rw [he.2]; exact hseen⟩)]
      exact hhead

/-- An enclosure with a frame of the class has one among the oldest. -/
theorem exists_oldestEach {c : Nat} {y : TxFrame} (hc : y.cls = c) : ∀ {l : List TxFrame} {seen : List Nat}, y ∈ l → y.encl ∉ seen →
    ∃ x ∈ oldestEach c l seen, x.encl = y.encl
  | t :: l, seen, hy, hs => by
    unfold oldestEach
    split
    next ht =>
      by_cases he : t.encl = y.encl
      · exact ⟨t, .head _, he⟩
      · rcases List.mem_cons.mp hy with rfl | hy
        · exact absurd rfl he
        · obtain ⟨x, hx, hxe⟩ := exists_oldestEach hc (seen := t.encl :: seen) hy (by simp [Ne.symm he, hs])
          exact ⟨x, .tail _ hx, hxe⟩
    next ht =>
      rcases List.mem_cons.mp hy with rfl | hy
      · exact absurd ⟨hc, hs⟩ ht
      · exact exists_oldestEach hc hy hs

/-- Frames of one enclosure may all go out, or none. -/
theorem framesOf_sendable {p : Net} {l : List TxFrame} {c e : Nat} {x : TxFrame} (he : x.encl = e) (hx : p.sendable x = true) :
    framesOf (l.filter p.sendable) c e = framesOf l c e := by
  unfold framesOf
  rw [List.filter_filter]
  refine List.filter_congr fun y _ => ?_
  by_cases hy : y.encl = e
  · have hs : p.sendable y = true := by
      rw [← hx]
      unfold Net.sendable
      rw [hy, he]
    rw [hs, Bool.and_true]
  · simp [hy]

theorem mostCredit_mem {cr : Tbl Int} : ∀ {l : List TxFrame} {x : TxFrame}, mostCredit cr l = some x → x ∈ l
  | t :: l, x, h => by
    unfold mostCredit at h
    split at h
    next u hu =>
      split at h
      · cases h
        exact .tail _ (mostCredit_mem hu)
      · cases h
        exact .head _
    next => cases h; exact .head _

theorem mostCredit_some {cr : Tbl Int} {y : TxFrame} : ∀ {l : List TxFrame}, y ∈ l → ∃ x, mostCredit cr l = some x
  | t :: l, _ => by
    unfold mostCredit
    split
    · split
      · exact ⟨_, rfl⟩
      · exact ⟨_, rfl⟩
    · exact ⟨_, rfl⟩

theorem slotOwner_none {n : Nat} : ∀ {l : List EnclEntry} {k : Nat}, (∀ e ∈ l, e.fixedShare = false) → slotOwner n l k = none
  | [], _, _ => rfl
  | e :: l, k, h => by
    unfold slotOwner
    dsimp only
    rw [if_neg (by rw [h e (.head _)]; exact Nat.not_lt_zero _)]
    exact slotOwner_none fun x hx => h x (.tail _ hx)

/-! The frame that a port starts (R302, R349, R350) -/

/-- Whether the shares of the port let a frame that is not the device's own go out now. -/
def Machine.State.shareAllows (s : State) (n : Nat) (y : TxFrame) : Prop :=
  match slotOwner n s.entries (s.free.toNat % 256) with
  | some e => y.encl = e
  | none => (s.entry y.encl).fixedShare = false

theorem shareAllows_encl {s : State} {n : Nat} {x y : TxFrame} (h : x.encl = y.encl) (hy : s.shareAllows n y) : s.shareAllows n x := by
  unfold State.shareAllows at hy ⊢
  rw [h]
  exact hy

/-- What a port may start of a class: the oldest of its enclosure, the device's own, or one that its HELLO and the shares let go. -/
theorem txNext_row {s : State} {n c : Nat} {x : TxFrame} {cr : Tbl Int} (h : s.txNext n c = some (x, cr)) :
    x ∈ (s.net n).txq ∧ x.cls = c ∧ (framesOf (s.net n).txq c x.encl).head? = some x
      ∧ (x.encl = ownFrame ∨ (((s.net n).torus = true → (s.net n).helloOk = true) ∧ s.shareAllows n x)) := by
  have hold : ∀ {y}, y ∈ oldestEach c ((s.net n).txq.filter (s.net n).sendable) [] → y ∈ (s.net n).txq ∧ y.cls = c
      ∧ (framesOf (s.net n).txq c y.encl).head? = some y
      ∧ (y.encl = ownFrame ∨ ((s.net n).torus = true → (s.net n).helloOk = true)) := by
    intro y hy
    obtain ⟨hmem, hcls, -, hhead⟩ := mem_oldestEach hy
    obtain ⟨hmem, hsend⟩ := List.mem_filter.mp hmem
    rw [framesOf_sendable rfl hsend] at hhead
    refine ⟨hmem, hcls, hhead, ?_⟩
    unfold Net.sendable at hsend
    by_cases ho : y.encl = ownFrame
    · exact .inl ho
    · refine .inr fun ht => ?_
      simpa [ho, ht] using hsend
  unfold State.txNext at h
  dsimp only at h
  split at h
  next t ht =>
    cases h
    obtain ⟨hmem, hcls, hhead, -⟩ := hold (List.mem_of_find?_eq_some ht)
    exact ⟨hmem, hcls, hhead, .inl (of_decide_eq_true (List.find?_some ht :))⟩
  next =>
    split at h
    next e hslot =>
      obtain ⟨t, ht, htx⟩ := Option.map_eq_some_iff.mp h
      cases htx
      obtain ⟨hmem, hcls, hhead, hgo⟩ := hold (List.mem_of_find?_eq_some ht)
      refine ⟨hmem, hcls, hhead, hgo.imp id fun hh => ⟨hh, ?_⟩⟩
      unfold State.shareAllows
      rw [hslot]
      exact of_decide_eq_true (List.find?_some ht :)
    next hslot =>
      obtain ⟨t, ht, htx⟩ := Option.map_eq_some_iff.mp h
      cases htx
      obtain ⟨hin, hshare⟩ := List.mem_filter.mp (mostCredit_mem ht)
      obtain ⟨hmem, hcls, hhead, hgo⟩ := hold hin
      refine ⟨hmem, hcls, hhead, hgo.imp id fun hh => ⟨hh, ?_⟩⟩
      unfold State.shareAllows
      rw [hslot]
      simpa using hshare

/-- A frame that may go out makes the port start one. -/
theorem txNext_some {s : State} {n c : Nat} {y : TxFrame} (hy : y ∈ (s.net n).txq) (hc : y.cls = c)
    (hgo : y.encl = ownFrame ∨ ((s.net n).sendable y = true ∧ s.shareAllows n y)) : ∃ r, s.txNext n c = some r := by
  have hsend : (s.net n).sendable y = true := hgo.elim (fun h => by simp [Net.sendable, h]) And.left
  obtain ⟨x, hx, hxe⟩ := exists_oldestEach hc (List.mem_filter.mpr ⟨hy, hsend⟩) (seen := []) nofun
  unfold State.txNext
  dsimp only
  split
  · exact ⟨_, rfl⟩
  next hnone =>
    have hown : x.encl ≠ ownFrame := by simpa using List.find?_eq_none.mp hnone x hx
    have hallow := (hgo.resolve_left fun h => hown (hxe.trans h)).2
    unfold State.shareAllows at hallow
    split
    next e hslot =>
      rw [hslot] at hallow
      have hfound : ((oldestEach c ((s.net n).txq.filter (s.net n).sendable) []).find? fun t => decide (t.encl = e)).isSome = true :=
        List.find?_isSome.mpr ⟨x, hx, decide_eq_true (hxe.trans hallow)⟩
      obtain ⟨t, ht⟩ := Option.isSome_iff_exists.mp hfound
      exact ⟨_, by rw [ht]; rfl⟩
    next hslot =>
      rw [hslot] at hallow
      have hfixed : (s.entry x.encl).fixedShare = false := by
        rw [hxe]
        exact hallow
      have hin : x ∈ (oldestEach c ((s.net n).txq.filter (s.net n).sendable) []).filter fun t => !(s.entry t.encl).fixedShare :=
        List.mem_filter.mpr ⟨hx, by simpa using hfixed⟩
      obtain ⟨t, ht⟩ := mostCredit_some (cr := raiseCredits (s.portWeight n) (Tbl.get [] (s.net n).credits c)
        ((oldestEach c ((s.net n).txq.filter (s.net n).sendable) []).filter fun t => !(s.entry t.encl).fixedShare)) hin
      exact ⟨_, by rw [ht]; rfl⟩

/-- With no frame that may go out, the port starts none. -/
theorem txNext_none {s : State} {n c : Nat} (h : ∀ y ∈ (s.net n).txq, y.cls = c → y.encl ≠ ownFrame
    ∧ ((s.net n).sendable y = true → ¬s.shareAllows n y)) : s.txNext n c = none := by
  cases hr : s.txNext n c with
  | none => rfl
  | some r =>
    obtain ⟨x, cr⟩ := r
    obtain ⟨hmem, hcls, hhead, hgo⟩ := txNext_row hr
    obtain ⟨hown, hshare⟩ := h x hmem hcls
    obtain ⟨hhello, hallow⟩ := hgo.resolve_left hown
    refine absurd hallow (hshare ?_)
    unfold Net.sendable
    by_cases ht : (s.net n).torus = true
    · simp [hhello ht]
    · simp [ht]

/-! The frame leaves its queue -/

theorem dropTx_of {c e : Nat} : ∀ {l : List TxFrame}, framesOf l c e ≠ [] → (dropTx c e l).length + 1 = l.length
    ∧ framesOf (dropTx c e l) c e = (framesOf l c e).tail ∧ ∀ k f, k ≠ c ∨ f ≠ e → framesOf (dropTx c e l) k f = framesOf l k f
  | [], h => absurd rfl h
  | t :: l, h => by
    unfold dropTx
    split
    next ht =>
      obtain ⟨rfl, rfl⟩ := ht
      refine ⟨rfl, by rw [framesOf_cons_self]; rfl, fun k f hkf => (framesOf_cons_ne l fun he => ?_).symm⟩
      rcases hkf with hk | hf
      · exact hk he.1.symm
      · exact hf he.2.symm
    next ht =>
      rw [framesOf_cons_ne l ht] at h ⊢
      obtain ⟨hlen, hself, hother⟩ := dropTx_of h
      refine ⟨by rw [List.length_cons, hlen, List.length_cons], ?_, fun k f hkf => ?_⟩
      · rw [framesOf_cons_ne _ ht, hself]
      · by_cases hk : t.cls = k ∧ t.encl = f
        · obtain ⟨rfl, rfl⟩ := hk
          rw [framesOf_cons_self, framesOf_cons_self, hother _ _ hkf]
        · rw [framesOf_cons_ne _ hk, framesOf_cons_ne _ hk, hother _ _ hkf]

/-! TX_FRAME_START -/

/-- A port's queue with a frame taken from it. -/
def startedNet (p : Net) (c staged : Nat) (x : TxFrame) (cr : Tbl Int) : Net :=
  { p with txq := dropTx c x.encl p.txq, sending := some x, staging := min (min staged stagingBuffer) x.len, credits := Tbl.put p.credits c cr }

/-- The state in which a frame has started. -/
def started (n c staged : Nat) (x : TxFrame) (cr : Tbl Int) (s : State) : State :=
  (((s.setNet n (startedNet (s.net n) c staged x cr)).emit (.frame n x.frame)).countNet n 0 1).countNet n 1 x.len

theorem drawnShare_net (s : State) (n : Nat) : (if s.entries.any (·.fixedShare) then s.drawn 1 else s).net n = s.net n
    ∧ (if s.entries.any (·.fixedShare) then s.drawn 1 else s).nets = s.nets
    ∧ (if s.entries.any (·.fixedShare) then s.drawn 1 else s).out = s.out := by
  split <;> exact ⟨rfl, rfl, rfl⟩

theorem drawnShare_kept (s : State) (n : Nat) : portKept s (if s.entries.any (·.fixedShare) then s.drawn 1 else s) n := by
  split
  · exact .drawn s n 1
  · exact .refl s n

theorem txStart_none {n c staged : Nat} {s : State} (hup : (s.net n).linkUp = true) (hc : (s.net n).txClass = some c)
    (hnext : s.txNext n c = none) : txStart n staged s = if s.entries.any (·.fixedShare) then s.drawn 1 else s := by
  unfold txStart
  dsimp only
  split
  next c' _ hc' =>
    cases hc.symm.trans hc'
    rw [hnext]
  next hno => exact absurd hc (hno c hup)

theorem txStart_some {n c staged : Nat} {s : State} {x : TxFrame} {cr : Tbl Int} (hup : (s.net n).linkUp = true)
    (hc : (s.net n).txClass = some c) (hnext : s.txNext n c = some (x, cr))
    (hstaged : min ((s.net n).threshold * 1024) x.len ≤ min staged stagingBuffer) :
    txStart n staged s = started n c staged x cr (if s.entries.any (·.fixedShare) then s.drawn 1 else s) := by
  unfold txStart
  dsimp only
  split
  next c' _ hc' =>
    cases hc.symm.trans hc'
    rw [hnext]
    dsimp only
    rw [if_neg (by omega), started, (drawnShare_net s n).1, startedNet]
  next hno => exact absurd hc (hno c hup)

/-- What a port leaves when it starts a frame. -/
theorem started_row (n c staged : Nat) (x : TxFrame) (cr : Tbl Int) (s : State) :
    (∃ k, (started n c staged x cr s).net n = { startedNet (s.net n) c staged x cr with counters := k })
      ∧ Output.frame n x.frame ∈ (started n c staged x cr s).out
      ∧ portCount (started n c staged x cr s) n 0 = satAdd Config.sat64 (portCount s n 0) 1
      ∧ portCount (started n c staged x cr s) n 1 = satAdd Config.sat64 (portCount s n 1) x.len
      ∧ portKept s (started n c staged x cr s) n := by
  have hcounters : ∀ i, portCount ((s.setNet n (startedNet (s.net n) c staged x cr)).emit (.frame n x.frame)) n i = portCount s n i := by
    intro i
    rw [portCount, State.net_emit, State.net_setNet_self]
    rfl
  unfold started
  refine ⟨⟨(((startedNet (s.net n) c staged x cr).count 0 1).count 1 x.len).counters, ?_⟩, List.mem_append_right _ (.head _), ?_, ?_,
    (((portKept.setNet ..).trans (.emit ..)).trans (.countNet ..)).trans (.countNet ..)⟩
  · rw [countNet_net, countNet_net, State.net_emit, State.net_setNet_self]
    rfl
  · rw [portCount_countNet_ne _ _ _ (by decide), portCount_countNet, hcounters]
  · rw [portCount_countNet, portCount_countNet_ne _ _ _ (by decide), hcounters]

/-- The class a port serves is not paused, and every higher one with a frame that may go out is. -/
theorem txClass_row {p : Net} {c : Nat} (h : p.txClass = some c) : Tbl.get 0 p.pause c = 0
    ∧ ∀ y ∈ p.txq, c < y.cls → y.cls < 8 → p.sendable y = true → Tbl.get 0 p.pause y.cls ≠ 0 := by
  have hgood := List.find?_some h
  refine ⟨of_decide_eq_true (Bool.and_eq_true_iff.mp hgood).1, fun y hy hlt h8 hs hp => ?_⟩
  have hfound : ∀ k, c < k → k < 8 → (decide (Tbl.get 0 p.pause k = 0) && p.txq.any fun t => decide (t.cls = k) && p.sendable t) = false := by
    intro k hk h8
    obtain ⟨-, as, bs, hsplit, hbefore⟩ := List.find?_eq_some_iff_append.mp h
    refine Bool.eq_false_iff.mpr fun hk' => ?_
    have hmem : k ∈ as := by
      have hin : k ∈ as ++ c :: bs := by
        rw [← hsplit]
        simp only [List.mem_cons, List.not_mem_nil, or_false]
        omega
      have hsorted : (as ++ c :: bs).Pairwise (· > ·) := by
        rw [← hsplit]
        decide
      rcases List.mem_append.mp hin with hin | hin
      · exact hin
      · rcases List.mem_cons.mp hin with rfl | hin
        · omega
        · have := (List.pairwise_cons.mp (List.pairwise_append.mp hsorted).2.1).1 k hin
          omega
    have hno : (!(decide (Tbl.get 0 p.pause k = 0) && p.txq.any fun t => decide (t.cls = k) && p.sendable t)) = true := hbefore k hmem
    rw [hk'] at hno
    exact nomatch hno
  have hno := hfound y.cls hlt h8
  rw [hp, Bool.and_eq_false_iff] at hno
  rcases hno with hno | hno
  · exact absurd rfl (of_decide_eq_false hno)
  · have hany : (p.txq.any fun t => decide (t.cls = y.cls) && p.sendable t) = true := List.any_eq_true.mpr ⟨y, hy, by simp [hs]⟩
    exact absurd hany (by rw [hno]; decide)

/-- A frame that is next starts. -/
theorem txStart_row {n : PortId} {c staged : Nat} {s : State} (hup : (s.net n.val).linkUp = true) (hc : (s.net n.val).txClass = some c)
    (hstaged : ∀ x ∈ (s.net n.val).txq, x.cls = c → min ((s.net n.val).threshold * 1024) x.len ≤ min staged stagingBuffer)
    {y : TxFrame} (hy : y ∈ (s.net n.val).txq) (hyc : y.cls = c)
    (hgo : y.encl = ownFrame ∨ ((s.net n.val).sendable y = true ∧ s.shareAllows n.val y)) :
    ∃ t, ∃ x ∈ (s.net n.val).txq, exec (.txFrameStart n staged) s = .next t ∧ (x.cls = c ∧ (framesOf (s.net n.val).txq c x.encl).head? = some x
      ∧ (t.net n.val).sending = some x ∧ (t.net n.val).staging = min (min staged stagingBuffer) x.len
      ∧ Output.frame n.val x.frame ∈ t.out ∧ (t.net n.val).txq.length + 1 = (s.net n.val).txq.length
      ∧ (∀ k e, k ≠ c ∨ e ≠ x.encl → framesOf (t.net n.val).txq k e = framesOf (s.net n.val).txq k e)
      ∧ framesOf (t.net n.val).txq c x.encl = (framesOf (s.net n.val).txq c x.encl).tail
      ∧ (x.encl = ownFrame ∨ (((s.net n.val).torus = true → (s.net n.val).helloOk = true) ∧ s.shareAllows n.val x))
      ∧ portCount t n.val 0 = satAdd Config.sat64 (portCount s n.val 0) 1
      ∧ portCount t n.val 1 = satAdd Config.sat64 (portCount s n.val 1) x.len) ∧ portKept s t n.val := by
  obtain ⟨⟨x, cr⟩, hnext⟩ := txNext_some hy hyc hgo
  obtain ⟨hmem, hcls, hhead, hallow⟩ := txNext_row hnext
  have hexec : exec (.txFrameStart n staged) s = .next (txStart n.val staged s) := rfl
  rw [txStart_some hup hc hnext (hstaged x hmem hcls)] at hexec
  obtain ⟨hdnet, -, -⟩ := drawnShare_net s n.val
  have hdkept := drawnShare_kept s n.val
  generalize (if s.entries.any (·.fixedShare) then s.drawn 1 else s) = u at *
  obtain ⟨⟨k, hnet⟩, hout, hcount0, hcount1, hkept⟩ := started_row n.val c staged x cr u
  have hne : framesOf (s.net n.val).txq c x.encl ≠ [] := fun h => by rw [h] at hhead; exact nomatch hhead
  obtain ⟨hlen, hself, hother⟩ := dropTx_of hne
  have hqueue : ((started n.val c staged x cr u).net n.val).txq = dropTx c x.encl (s.net n.val).txq := by
    rw [hnet, hdnet, startedNet]
  refine ⟨_, x, hmem, hexec, ⟨hcls, hhead, ?_, ?_, hout, ?_, ?_, ?_, hallow, ?_, ?_⟩, hdkept.trans hkept⟩
  · rw [hnet, startedNet]
  · rw [hnet, startedNet]
  · rw [hqueue, hlen]
  · rw [hqueue]
    exact hother
  · rw [hqueue, hself]
  · rw [hcount0, portCount, portCount, hdnet]
  · rw [hcount1, portCount, portCount, hdnet]

theorem shareAllows_of_plain {s : State} {n : Nat} (h : s.fixedShare = false) (y : TxFrame) : s.shareAllows n y := by
  have hall : ∀ e ∈ s.entries, e.fixedShare = false := by simpa [State.fixedShare] using h
  unfold State.shareAllows
  rw [slotOwner_none hall]
  unfold State.entry
  cases hf : s.entries.find? fun e => decide (e.index = y.encl) with
  | none => rfl
  | some e => exact hall e (List.mem_of_find?_eq_some hf)

theorem txClass_frame {p : Net} {c : Nat} (h : p.txClass = some c) : ∃ y ∈ p.txq, y.cls = c ∧ p.sendable y = true := by
  obtain ⟨y, hy, hyc⟩ := List.any_eq_true.mp (Bool.and_eq_true_iff.mp (List.find?_some h :)).2
  obtain ⟨hc, hs⟩ := Bool.and_eq_true_iff.mp hyc
  exact ⟨y, hy, of_decide_eq_true hc, hs⟩

/-! The threshold (R304) -/

theorem logEv_out {x : Output} (s : State) (e : LogEnt) (h : x ∈ s.out) : x ∈ (s.logEv e).out := by
  have halert : ∀ (u : State) (k : Nat), x ∈ u.out → x ∈ (u.raiseAlert k).out := by
    intro u k hu
    have hmsix : ∀ (v : State) (fn j : Nat), x ∈ v.out → x ∈ (v.msix fn j).out := by
      intro v fn j hv
      unfold State.msix
      split
      · exact List.mem_append_left _ hv
      · exact hv
    unfold State.raiseAlert
    dsimp only
    split
    · exact hu
    · split
      · split
        · exact List.mem_append_left _ (hmsix _ 0 0 hu)
        · exact List.mem_append_left _ hu
      · split
        · exact hmsix _ 0 0 hu
        · exact hu
  unfold State.logEv
  dsimp only
  split
  · exact halert _ 2 h
  · exact h

theorem txUnderrun_row {n : PortId} {s : State} {x : TxFrame} (hsend : (s.net n.val).sending = some x) (hst : (s.net n.val).staging < x.len)
    (hthr : (s.net n.val).threshold < 9) : ∃ t, exec (.txUnderrun n) s = .next t ∧ (t.net n.val).sending = none ∧ Output.stomped n.val ∈ t.out
      ∧ (t.net n.val).threshold = (s.net n.val).threshold + 1 ∧ (t.net n.val).threshold ≤ 9
      ∧ portCount t n.val 2 = satAdd Config.sat64 (portCount s n.val 2) 1
      ∧ ((t.net n.val).threshold = 9 → (t.net n.val).err.getLsbD 7 = true) ∧ portKept s t n.val := by
  have hgo : ¬((s.net n.val).sending.all (fun t => decide (t.len ≤ (s.net n.val).staging)) || decide (9 ≤ (s.net n.val).threshold)) = true := by
    rw [hsend]
    simp [hst, hthr]
  have hexec : exec (.txUnderrun n) s = .next (txUnderrun n.val s) := rfl
  unfold txUnderrun at hexec
  dsimp only at hexec
  rw [if_neg hgo] at hexec
  generalize hu : State.countNet _ n.val 2 1 = u at hexec
  have hnet : (u.net n.val).sending = none ∧ (u.net n.val).threshold = (s.net n.val).threshold + 1 := by
    rw [← hu, countNet_net, State.net_emit, State.net_setNet_self]
    exact ⟨rfl, rfl⟩
  have hcount : portCount u n.val 2 = satAdd Config.sat64 (portCount s n.val 2) 1 := by
    rw [← hu, portCount_countNet, portCount, State.net_emit, State.net_setNet_self, portCount]
  have hout : Output.stomped n.val ∈ u.out := by
    rw [← hu]
    exact List.mem_append_right _ (.head _)
  have hkept : portKept s u n.val := by
    rw [← hu]
    exact ((portKept.setNet ..).trans (.emit ..)).trans (.countNet ..)
  obtain ⟨hnosend, hnext⟩ := hnet
  refine ⟨_, hexec, ?_⟩
  unfold reachT
  split
  next h9 =>
    have hsame : ((u.errNet n.val 7).net n.val).sending = (u.net n.val).sending ∧ portCount (u.errNet n.val 7) n.val 2 = portCount u n.val 2
        ∧ Output.stomped n.val ∈ (u.errNet n.val 7).out := by
      unfold State.errNet portCount
      dsimp only
      split
      · exact ⟨rfl, rfl, hout⟩
      · rw [logEv_net, State.net_setNet_self]
        exact ⟨rfl, rfl, logEv_out _ _ (by exact hout)⟩
    obtain ⟨hbit, hthr9⟩ := errNet_raised u n.val (k := 7) (by decide)
    exact ⟨hsame.1.trans hnosend, hsame.2.2, hthr9.trans hnext, by omega, hsame.2.1.trans hcount, fun _ => hbit, hkept.trans (.errNet ..)⟩
  next h9 => exact ⟨hnosend, hout, hnext, by omega, hcount, fun h => absurd (hnext.symm.trans h) h9, hkept⟩

/-- Settles O25: the ring's frame is one update; the transmitter takes the oldest frame of an enclosure, which `txNext` finds exactly where
one may go out; an underrun steps the threshold. -/
theorem rawRingAndTransmit : Obligations.RawRingAndTransmit := by
  unfold Obligations.RawRingAndTransmit
  refine ⟨fun s n f buf frame hkind hok => ?_, fun s n staged c => ?_, fun s n x hsend hst hthr => txUnderrun_row hsend hst hthr,
    fun s n h => ?_⟩
  · intro r p
    have hexec : exec (.rawFrameReceived n f buf frame) s = .next (rawFrame n.val buf.toNat frame r.trunc r.s) := by
      change execRawFrameReceived n f buf frame s = _
      unfold execRawFrameReceived
      dsimp only
      rw [hkind]
      exact congrArg Host.Outcome.next (if_pos hok)
    obtain ⟨hkept, hnet⟩ := rxFrame_ok hok
    have hfields := hnet.fields
    have hring : (r.s.net n.val).rawEntries = p.rawEntries ∧ (r.s.net n.val).rawHead = p.rawHead ∧ (r.s.net n.val).rawTail = p.rawTail
        ∧ (r.s.net n.val).rawBase = p.rawBase := by
      rw [hfields]
      exact ⟨rfl, rfl, rfl, rfl⟩
    have hhif : r.s.hif = s.hif := by simp [r]
    obtain ⟨hentries, hhead, htail, hbase⟩ := hring
    refine ⟨fun he hr => ?_, fun hfull => ?_⟩
    · obtain ⟨h1, h2, h3, h4, h5, h6⟩ := rawFrame_row (buf := buf.toNat) (frame := frame) (trunc := r.trunc) (s := r.s) (n := n.val)
        (by rw [hentries]; exact he) (by rw [hhead, htail]; exact hr)
      rw [hhead, hentries] at h1
      rw [htail] at h2
      rw [hbase, hhead] at h4
      rw [hhif] at h5
      exact ⟨_, hexec, h1, h2, h3, h4, h5, hkept.trans h6⟩
    · rw [rawFrame_drops (by rw [hentries, hhead, htail]; exact hfull)] at hexec
      obtain ⟨h1, h2, h3, h4⟩ := rawDrop_row n.val r.s
      refine ⟨_, hexec, h1.trans hhead, h2.trans ?_, h3, hkept.trans h4⟩
      exact congrArg (satAdd Config.sat64 · 1) (hnet.counts 15 (by decide))
  · intro p of owner may sent hup hc hstaged
    obtain ⟨hpause, hhigher⟩ := txClass_row hc
    refine ⟨hpause, hhigher, fun hplain => ?_, fun _ => ⟨fun ⟨y, hy, hyc, hgo⟩ => txStart_row hup hc hstaged hy hyc hgo, fun hnone => ?_⟩⟩
    · obtain ⟨y, hy, hyc, hsend⟩ := txClass_frame hc
      exact txStart_row hup hc hstaged hy hyc (.inr ⟨hsend, shareAllows_of_plain hplain y⟩)
    · have hexec : exec (.txFrameStart n staged) s = .next (txStart n.val staged s) := rfl
      rw [txStart_none hup hc (txNext_none hnone)] at hexec
      obtain ⟨-, hnets, hout⟩ := drawnShare_net s n.val
      exact ⟨_, hexec, hnets, hout⟩
  · have hexec : exec (.underrunDecay n) s = .next (s.setNet n.val { s.net n.val with threshold := (s.net n.val).threshold - 1 }) := by
      change execUnderrunDecay n s = _
      rw [execUnderrunDecay, if_pos h]
    refine ⟨_, hexec, ?_, ?_, ?_, .setNet ..⟩
    · rw [State.net_setNet_self]
      exact Nat.sub_add_cancel (Nat.lt_of_le_of_lt (Nat.zero_le _) h)
    · rw [State.net_setNet_self]
      exact Nat.le_sub_one_of_lt h
    · rw [State.net_setNet_self]

end Sys2Proof
end

section
/-! Lane repair and lane shedding (10 R295 to R297, R307 to R309). -/

namespace Sys2Proof

open Sys2Proof.Machine

/-! Lane-control frames -/

/-- A lane-control frame leaves the port but for its frame counters. -/
theorem sendLane_sent (n code lane seq : Nat) (s : State) : MacSent n 0x0F10 [code, lane, seq] s (sendLane n code lane seq s) :=
  macSend_sent ..

theorem MacSent.mem {n opcode : Nat} {fields : List Nat} {s t : State} (h : MacSent n opcode fields s t) :
    Output.macCtl n opcode fields ∈ t.out := by
  rw [h.out]
  exact List.mem_append_right _ (.head _)

/-- What a lane request leaves: the request awaits its answer, and its frame has gone. -/
theorem laneRequest_row (n code lane : Nat) (s : State) : ∃ q : LaneReq, q.code = code ∧ q.lane = lane ∧ q.sends = 1
    ∧ FrameKept [0, 1, 3] { s.net n with laneSeq := q.seq, laneReqs := (s.net n).laneReqs ++ [q] } ((laneRequest n code lane s).net n)
    ∧ Output.macCtl n 0x0F10 [code, lane, q.seq] ∈ (laneRequest n code lane s).out
    ∧ portKept s (laneRequest n code lane s) n ∧ (laneRequest n code lane s).mgt = s.mgt := by
  refine ⟨⟨code, lane, ((s.net n).laneSeq + 1) % 65536, 1⟩, rfl, rfl, rfl, ?_⟩
  unfold laneRequest
  dsimp only
  generalize hu : s.setNet n _ = u
  have hnet : u.net n = _ := (congrArg (fun v : State => v.net n) hu).symm
  have hsent := sendLane_sent n code lane (((s.net n).laneSeq + 1) % 65536) u
  have hkept : portKept s u n := by
    rw [← hu]
    exact .setNet ..
  have hmgt : u.mgt = s.mgt := by rw [← hu]; rfl
  rw [State.net_setNet_self] at hnet
  refine ⟨?_, hsent.mem, hkept.trans hsent.kept, hsent.mgt.trans hmgt⟩
  rw [← hnet]
  exact hsent.net

/-! A link that falls (R311) -/

theorem errNet_net (s : State) (n k : Nat) : ∃ e, ((s.errNet n k).net n) = { s.net n with err := e } := by
  unfold State.errNet
  dsimp only
  split
  · exact ⟨(s.net n).err, rfl⟩
  · rw [logEv_net, State.net_setNet_self]
    exact ⟨_, rfl⟩

theorem linkFalls_row (n : Nat) (s : State) : ((linkFalls n s).net n).linkUp = false ∧ ((linkFalls n s).net n).err.getLsbD 2 = true
    ∧ portKept s (linkFalls n s) n := by
  obtain ⟨e, he⟩ := errNet_net (s.setNet n (s.net n).fall) n 2
  refine ⟨?_, (errNet_raised _ n (by decide)).1, (portKept.setNet ..).trans (.errNet ..)⟩
  rw [linkFalls, he, State.net_setNet_self]
  rfl

/-- The link falls with the lane lost. -/
theorem laneLost_row (n : Nat) (p : Net) (s : State) : ((linkFalls n (s.setNet n p)).net n).linkUp = false
    ∧ ((linkFalls n (s.setNet n p)).net n).err.getLsbD 2 = true ∧ portKept s (linkFalls n (s.setNet n p)) n := by
  obtain ⟨hup, herr, hkept⟩ := linkFalls_row n (s.setNet n p)
  exact ⟨hup, herr, (portKept.setNet ..).trans hkept⟩

/-! A lane fails (R295, R296) -/

section Failed

variable {n : PortId} {lane : Fin 4} {s : State} (hup : (s.net n.val).linkUp = true)
  (hlane : lane.val < rateLanes (s.net n.val).rate)

include hup hlane

theorem laneSpared_noSpare (hsp : (s.net n.val).sparePresent = false) :
    exec (.laneSpared n lane) s = .next (linkFalls n.val (s.setNet n.val ((s.net n.val).loseLane lane.val))) := by
  change execLaneSpared n lane s = _
  rw [execLaneSpared, laneSpared]
  dsimp only
  rw [if_neg (by simp [hup, hlane]), if_pos (by simp [hsp])]

theorem laneDegraded_falls (hsp : (s.net n.val).sparePresent = false
      ∨ ((s.net n.val).rxSpare ≠ none ∧ ((s.net n.val).loseLane lane.val).healthy < 2)) :
    exec (.laneDegraded n lane) s = .next (linkFalls n.val (s.setNet n.val ((s.net n.val).loseLane lane.val))) := by
  have hfirst : ¬((s.net n.val).direct && (s.net n.val).sparePresent && (s.net n.val).rxSpare.isNone) = true := by
    rcases hsp with h | ⟨h, -⟩
    · simp [h]
    · simp [h]
  have hsecond : (!(s.net n.val).direct || !(s.net n.val).sparePresent || decide (((s.net n.val).loseLane lane.val).healthy < 2)) = true := by
    rcases hsp with h | ⟨-, h⟩
    · simp [h]
    · simp [h]
  change execLaneDegraded n lane s = _
  rw [execLaneDegraded, laneDegraded]
  dsimp only
  rw [if_neg (by simp [hup, hlane]), if_neg hfirst, if_pos hsecond]

theorem laneSpared_row (hdir : (s.net n.val).direct = true) (hsp : (s.net n.val).sparePresent = true) (hrx : (s.net n.val).rxSpare = none) :
    ∃ t, exec (.laneSpared n lane) s = .next t ∧ (t.net n.val).rxSpare = some lane.val ∧ (t.net n.val).linkUp = true
      ∧ (t.net n.val).lanes = (s.net n.val).lanes ∧ (t.net n.val).err.getLsbD 4 = true
      ∧ portCount t n.val 19 = satAdd Config.sat64 (portCount s n.val 19) 1
      ∧ (∃ q, (t.net n.val).laneReqs = (s.net n.val).laneReqs ++ [q] ∧ q.code = 4 ∧ q.lane = lane.val ∧ q.sends = 1
          ∧ Output.macCtl n.val 0x0F10 [4, lane.val, q.seq] ∈ t.out)
      ∧ t.mgt.store.laneSwaps = s.mgt.store.laneSwaps ++ [(n.val, lane.val)] ∧ portKept s t n.val := by
  have hexec : exec (.laneSpared n lane) s = .next (laneSpared n.val lane.val s) := rfl
  unfold laneSpared at hexec
  dsimp only at hexec
  rw [if_neg (by simp [hup, hlane]), if_neg (by simp [hdir, hsp]), if_neg (by simp [hrx])] at hexec
  generalize hu : ({ (s.setNet n.val { s.net n.val with rxSpare := some lane.val }).countNet n.val 19 1 with mgt := _ } : State) = u at hexec
  have hswaps : u.mgt.store.laneSwaps = s.mgt.store.laneSwaps ++ [(n.val, lane.val)] := by rw [← hu]; rfl
  have hnet : u.net n.val = { s.net n.val with rxSpare := some lane.val }.count 19 1 := by
    rw [← hu]
    exact (countNet_net ..).trans (congrArg (fun p : Net => p.count 19 1) (State.net_setNet_self ..))
  have hkept : portKept s u n.val := by
    rw [← hu]
    exact (portKept.setNet s n.val _).trans (.countNet _ n.val 19 1)
  obtain ⟨e, he⟩ := errNet_net u n.val 4
  obtain ⟨hbit, -⟩ := errNet_raised u n.val (k := 4) (by decide)
  have hsame : (u.errNet n.val 4).mgt.store.laneSwaps = u.mgt.store.laneSwaps := by
    unfold State.errNet
    dsimp only
    split
    · rfl
    · rw [logEv_store]
      rfl
  have hekept := hkept.trans (.errNet u n.val 4)
  generalize u.errNet n.val 4 = v at *
  obtain ⟨q, hcode, hqlane, hsends, hq, hout, hqkept, hmgt⟩ := laneRequest_row n.val codeSpare lane.val v
  rw [he, hnet] at hq
  rw [he] at hbit
  refine ⟨_, hexec, ?_, ?_, ?_, ?_, ?_, ⟨q, ?_, hcode, hqlane, hsends, hout⟩, ?_, hekept.trans hqkept⟩
  · rw [hq.fields]; rfl
  · rw [hq.fields]; exact hup
  · rw [hq.fields]; rfl
  · rw [hq.fields]; exact hbit
  · rw [portCount, hq.counts 19 (by decide)]
    exact Tbl.get_put_same ..
  · rw [hq.fields]; rfl
  · rw [hmgt, hsame, hswaps]

theorem laneDegraded_row (hdir : (s.net n.val).direct = true) (hsp : (s.net n.val).sparePresent = true) (hrx : (s.net n.val).rxSpare ≠ none)
    (hdeg : (s.net n.val).degraded = false) (hhealthy : 2 ≤ ((s.net n.val).loseLane lane.val).healthy) :
    ∃ t, exec (.laneDegraded n lane) s = .next t ∧ (t.net n.val).degraded = true ∧ (t.net n.val).lanes = 2 ∧ (t.net n.val).linkUp = true
      ∧ (t.net n.val).err.getLsbD 5 = true
      ∧ (∃ q, (t.net n.val).laneReqs = (s.net n.val).laneReqs ++ [q] ∧ q.code = 5 ∧ Output.macCtl n.val 0x0F10 [5, 0, q.seq] ∈ t.out)
      ∧ portKept s t n.val := by
  have hexec : exec (.laneDegraded n lane) s = .next (laneDegraded n.val lane.val s) := rfl
  unfold laneDegraded at hexec
  dsimp only at hexec
  rw [if_neg (by simp [hup, hlane]), if_neg (by simp [hrx]), if_neg (by simp [hdir, hsp, Nat.not_lt.mpr hhealthy]), if_neg (by simp [hdeg])] at hexec
  generalize hu : (s.setNet n.val _).countNet n.val 19 1 = u at hexec
  have hnet : u.net n.val = { (s.net n.val).loseLane lane.val with degraded := true, lanes := 2 }.count 19 1 := by
    rw [← hu, countNet_net, State.net_setNet_self]
  have hkept : portKept s u n.val := by
    rw [← hu]
    exact (portKept.setNet ..).trans (.countNet ..)
  obtain ⟨e, he⟩ := errNet_net u n.val 5
  obtain ⟨hbit, -⟩ := errNet_raised u n.val (k := 5) (by decide)
  have hekept := hkept.trans (.errNet u n.val 5)
  generalize u.errNet n.val 5 = v at *
  obtain ⟨q, hcode, -, -, hq, hout, hqkept, -⟩ := laneRequest_row n.val codeDegrade 0 v
  rw [he, hnet] at hq
  rw [he] at hbit
  refine ⟨_, hexec, ?_, ?_, ?_, ?_, ⟨q, ?_, hcode, hout⟩, hekept.trans hqkept⟩
  · rw [hq.fields]; rfl
  · rw [hq.fields]; rfl
  · rw [hq.fields]; exact hup
  · rw [hq.fields]; exact hbit
  · rw [hq.fields]; rfl

end Failed

/-! Requests of the peer carried out -/

/-- A port after an accepted lane-control frame: its lanes and its requests are as they were. -/
theorem rxLane_fields {n : Nat} {f : RxFacts} {s : State} (h : (rxLane n f s).ok = true) :
    ((rxLane n f s).s.net n).direct = (s.net n).direct ∧ ((rxLane n f s).s.net n).sparePresent = (s.net n).sparePresent
      ∧ ((rxLane n f s).s.net n).lanes = (s.net n).lanes ∧ ((rxLane n f s).s.net n).rate = (s.net n).rate
      ∧ ((rxLane n f s).s.net n).degraded = (s.net n).degraded ∧ ((rxLane n f s).s.net n).low = (s.net n).low
      ∧ ((rxLane n f s).s.net n).laneReqs = (s.net n).laneReqs ∧ ((rxLane n f s).s.net n).txSpare = (s.net n).txSpare
      ∧ ((rxLane n f s).s.net n).shed = (s.net n).shed
      ∧ portCount (rxLane n f s).s n 18 = portCount s n 18 ∧ portKept s (rxLane n f s).s n := by
  obtain ⟨hkept, hnet⟩ := rxLane_ok h
  refine ⟨?_, ?_, ?_, ?_, ?_, ?_, ?_, ?_, ?_, hnet.counts 18 (by decide), hkept⟩ <;> rw [hnet.fields] <;> rfl

/-- What an end checks before it sheds reads nothing that an accepted frame changes. -/
theorem rxLane_mayShed {n : Nat} {f : RxFacts} {s : State} (h : (rxLane n f s).ok = true) : (rxLane n f s).s.mayShed n = s.mayShed n := by
  obtain ⟨-, hnet⟩ := rxLane_ok h
  have hsec : (rxLane n f s).s.sec = s.sec := by simp
  have hfixed : (rxLane n f s).s.fixedShare = s.fixedShare := by
    rw [State.fixedShare, State.fixedShare, State.entries, State.entries, hsec]
  unfold State.mayShed
  dsimp only
  rw [hfixed, hnet.fields]
  rfl

/-- A port changed and its answer sent. -/
theorem answered_row (n code seq : Nat) (p : Net) (s : State) :
    FrameKept [0, 1, 3] p ((sendLane n code 0 seq (s.setNet n p)).net n)
      ∧ Output.macCtl n 0x0F10 [code, 0, seq] ∈ (sendLane n code 0 seq (s.setNet n p)).out
      ∧ portKept s (sendLane n code 0 seq (s.setNet n p)) n := by
  have hsent := sendLane_sent n code 0 seq (s.setNet n p)
  have hnet := hsent.net
  rw [State.net_setNet_self] at hnet
  exact ⟨hnet, hsent.mem, (portKept.setNet ..).trans hsent.kept⟩

theorem spareReceived_row {n lane seq : Nat} {s : State} (hdir : (s.net n).direct = true) (hsp : (s.net n).sparePresent = true) :
    ((spareReceived n lane seq s).net n).txSpare = some lane ∧ Output.macCtl n 0x0F10 [6, 0, seq] ∈ (spareReceived n lane seq s).out
      ∧ ((spareReceived n lane seq s).net n).lanes = (s.net n).lanes ∧ portKept s (spareReceived n lane seq s) n := by
  have heq : spareReceived n lane seq s = sendLane n codeAck 0 seq (s.setNet n { s.net n with txSpare := some lane }) := by
    unfold spareReceived
    dsimp only
    rw [if_neg (by simp [hdir]), if_neg (by simp [hsp])]
  obtain ⟨hnet, hout, hkept⟩ := answered_row n codeAck seq { s.net n with txSpare := some lane } s
  rw [heq]
  exact ⟨by rw [hnet.fields], hout, by rw [hnet.fields], hkept⟩

theorem spareReceived_noSpare {n lane seq : Nat} {s : State} (hdir : (s.net n).direct = true) (hsp : (s.net n).sparePresent = false) :
    spareReceived n lane seq s = s := by
  unfold spareReceived
  dsimp only
  rw [if_neg (by simp [hdir]), if_pos (by simp [hsp])]

theorem degradeReceived_row {n seq : Nat} {s : State} (hdir : (s.net n).direct = true) :
    ((degradeReceived n seq s).net n).txDegraded = true ∧ ((degradeReceived n seq s).net n).degraded = (s.net n).degraded
      ∧ ((degradeReceived n seq s).net n).lanes = min 2 (rateLanes (s.net n).rate)
      ∧ Output.macCtl n 0x0F10 [6, 0, seq] ∈ (degradeReceived n seq s).out ∧ portKept s (degradeReceived n seq s) n := by
  have heq : degradeReceived n seq s
      = sendLane n codeAck 0 seq (s.setNet n { s.net n with txDegraded := true, lanes := min 2 (rateLanes (s.net n).rate) }) := by
    unfold degradeReceived
    dsimp only
    rw [if_neg (by simp [hdir])]
  obtain ⟨hnet, hout, hkept⟩ := answered_row n codeAck seq { s.net n with txDegraded := true, lanes := min 2 (rateLanes (s.net n).rate) } s
  rw [heq]
  exact ⟨by rw [hnet.fields], by rw [hnet.fields], by rw [hnet.fields], hout, hkept⟩

/-! Requests sent again (R307) -/

/-- Whether a request is sent once more. -/
def sentAgain (q : LaneReq) : Bool := decide (q.sends < 3) || decide (q.code = 4) || decide (q.code = 5)

def bumped (q : LaneReq) : LaneReq := { q with sends := q.sends + 1 }

theorem sentAgain_iff (q : LaneReq) : sentAgain q = true ↔ q.sends < 3 ∨ q.lasting = true := by
  unfold sentAgain LaneReq.lasting codeSpare codeDegrade
  simp [or_assoc]

/-- The requests of a port after one of them was sent again, or given up. -/
def resent (q : LaneReq) (l : List LaneReq) : List LaneReq :=
  if sentAgain q then l.map fun r => if r = q then bumped q else r else l.filter fun r => decide (r.seq ≠ q.seq)

theorem resendLane_row (n : Nat) (s : State) (q : LaneReq) :
    FrameKept [0, 1, 3] { s.net n with laneReqs := resent q (s.net n).laneReqs } ((resendLane n s q).net n)
    ∧ (∀ x ∈ s.out, x ∈ (resendLane n s q).out) ∧ (sentAgain q = true → Output.macCtl n 0x0F10 [q.code, q.lane, q.seq] ∈ (resendLane n s q).out)
    ∧ (sentAgain q = false → (resendLane n s q).out = s.out) ∧ portKept s (resendLane n s q) n := by
  unfold resendLane resent
  by_cases h : sentAgain q = true
  · rw [if_pos ((sentAgain_iff q).mp h), if_pos h]
    dsimp only
    have hsent := sendLane_sent n q.code q.lane q.seq (s.setNet n { s.net n with
      laneReqs := (s.net n).laneReqs.map fun r => if r = q then { q with sends := q.sends + 1 } else r })
    have hnet := hsent.net
    rw [State.net_setNet_self] at hnet
    refine ⟨hnet, fun x hx => ?_, fun _ => hsent.mem, fun hno => absurd h (by rw [hno]; decide), (portKept.setNet ..).trans hsent.kept⟩
    rw [hsent.out]
    exact List.mem_append_left _ hx
  · rw [if_neg fun hh => h ((sentAgain_iff q).mpr hh), if_neg h, State.net_setNet_self]
    exact ⟨.refl _ _, fun x hx => hx, fun hh => absurd hh h, fun _ => rfl, .setNet ..⟩

theorem map_bumped_filter_ne {l : List LaneReq} {k : Nat} (h : k ∉ l.map (·.seq)) :
    ((l.filter sentAgain).map bumped).filter (fun r => decide (r.seq ≠ k)) = (l.filter sentAgain).map bumped := by
  refine List.filter_eq_self.mpr fun r hr => ?_
  obtain ⟨x, hx, rfl⟩ := List.mem_map.mp hr
  exact decide_eq_true fun he => h (List.mem_map.mpr ⟨x, (List.mem_filter.mp hx).1, he⟩)

theorem map_if_eq_self {l : List LaneReq} {q b : LaneReq} (h : q.seq ∉ l.map (·.seq)) : (l.map fun r => if r = q then b else r) = l := by
  conv => rhs; rw [← List.map_id l]
  refine List.map_congr_left fun r hr => ?_
  exact if_neg fun he => h (List.mem_map.mpr ⟨r, hr, by rw [he]⟩)

/-- The requests `qs` of a port are sent again or given up in turn, those before them having been. -/
theorem foldl_resendLane (n : Nat) : ∀ (qs pre : List LaneReq) (s : State), (s.net n).laneReqs = (pre.filter sentAgain).map bumped ++ qs →
    ((pre ++ qs).map (·.seq)).Nodup →
    ((qs.foldl (resendLane n) s).net n).laneReqs = ((pre ++ qs).filter sentAgain).map bumped
      ∧ (∀ x ∈ s.out, x ∈ (qs.foldl (resendLane n) s).out)
      ∧ (∀ q ∈ qs, sentAgain q = true → Output.macCtl n 0x0F10 [q.code, q.lane, q.seq] ∈ (qs.foldl (resendLane n) s).out)
      ∧ ((∀ q ∈ qs, sentAgain q = false) → (qs.foldl (resendLane n) s).out = s.out) ∧ portKept s (qs.foldl (resendLane n) s) n
  | [], pre, s, hreqs, _ => by
    rw [List.append_nil] at hreqs ⊢
    exact ⟨hreqs, fun x hx => hx, (fun _ h => nomatch h), fun _ => rfl, .refl s n⟩
  | q :: qs, pre, s, hreqs, hnodup => by
    obtain ⟨hnet, hstay, hmem, hsilent, hkept⟩ := resendLane_row n s q
    have hsplit : (pre ++ q :: qs) = (pre ++ [q]) ++ qs := by simp
    have hdistinct : q.seq ∉ pre.map (·.seq) ∧ q.seq ∉ qs.map (·.seq) := by
      rw [List.map_append, List.map_cons] at hnodup
      obtain ⟨-, hright, hcross⟩ := List.nodup_append.mp hnodup
      exact ⟨fun h => hcross _ h _ (.head _) rfl, (List.nodup_cons.mp hright).1⟩
    obtain ⟨hpre, hqs⟩ := hdistinct
    have hbumped : q.seq ∉ ((pre.filter sentAgain).map bumped).map (·.seq) := by
      intro h
      obtain ⟨r, hr, he⟩ := List.mem_map.mp h
      obtain ⟨x, hx, rfl⟩ := List.mem_map.mp hr
      exact hpre (List.mem_map.mpr ⟨x, (List.mem_filter.mp hx).1, he⟩)
    have hnext : ((resendLane n s q).net n).laneReqs = ((pre ++ [q]).filter sentAgain).map bumped ++ qs := by
      rw [hnet.fields]
      dsimp only
      rw [hreqs, List.filter_append, List.map_append]
      unfold resent
      split
      next h =>
        rw [List.map_append, List.map_cons, map_if_eq_self hbumped, map_if_eq_self hqs, if_pos rfl, List.filter_cons_of_pos h]
        simp
      next h =>
        have hkeep : qs.filter (fun r => decide (r.seq ≠ q.seq)) = qs :=
          List.filter_eq_self.mpr fun r hr => decide_eq_true fun he => hqs (List.mem_map.mpr ⟨r, hr, he⟩)
        rw [List.filter_append, map_bumped_filter_ne hpre, List.filter_cons_of_neg (by simp), hkeep, List.filter_cons_of_neg h]
        simp
    rw [hsplit] at hnodup ⊢
    obtain ⟨hreqs', hstay', hmem', hsilent', hkept'⟩ := foldl_resendLane n qs (pre ++ [q]) (resendLane n s q) hnext hnodup
    rw [List.foldl_cons]
    refine ⟨hreqs', fun x hx => hstay' x (hstay x hx), fun r hr hagain => ?_, fun hnone => ?_, hkept.trans hkept'⟩
    · rcases List.mem_cons.mp hr with rfl | hr
      · exact hstay' _ (hmem hagain)
      · exact hmem' r hr hagain
    · exact (hsilent' fun r hr => hnone r (.tail _ hr)).trans (hsilent (hnone q (.head _)))

theorem laneRequestResend_row {n : PortId} {s : State} (hnodup : ((s.net n.val).laneReqs.map (·.seq)).Nodup) :
    ∃ t, exec (.laneRequestResend n) s = .next t ∧ (t.net n.val).laneReqs = ((s.net n.val).laneReqs.filter sentAgain).map bumped
      ∧ (∀ q ∈ (s.net n.val).laneReqs.filter sentAgain, Output.macCtl n.val 0x0F10 [q.code, q.lane, q.seq] ∈ t.out)
      ∧ ((s.net n.val).laneReqs.filter sentAgain = [] → t.out = s.out) ∧ portKept s t n.val := by
  obtain ⟨hreqs, -, hmem, hsilent, hkept⟩ := foldl_resendLane n.val (s.net n.val).laneReqs [] s rfl hnodup
  refine ⟨_, rfl, hreqs, fun q hq => hmem q (List.mem_filter.mp hq).1 (List.mem_filter.mp hq).2, fun hnone => hsilent fun q hq => ?_, hkept⟩
  exact Bool.eq_false_iff.mpr (List.filter_eq_nil_iff.mp hnone q hq)

/-! Shedding (R308, R309) -/

theorem setWidth_row (n lanes : Nat) (s : State) : (setWidth n lanes s).net n = { s.net n with
      lanes := lanes, low := false, laneReqs := (s.net n).laneReqs.filter LaneReq.lasting }.count 18 1
    ∧ portCount (setWidth n lanes s) n 18 = satAdd Config.sat64 (portCount s n 18) 1 ∧ (setWidth n lanes s).out = s.out
    ∧ portKept s (setWidth n lanes s) n := by
  have hnet : (setWidth n lanes s).net n = { s.net n with
      lanes := lanes, low := false, laneReqs := (s.net n).laneReqs.filter LaneReq.lasting }.count 18 1 := by
    rw [setWidth, countNet_net, State.net_setNet_self]
  refine ⟨hnet, ?_, rfl, (portKept.setNet ..).trans (.countNet ..)⟩
  rw [portCount, hnet]
  exact Tbl.get_put_same ..

theorem utilisationEnd_row {n : PortId} {s : State} {tx rx : Nat} (htx : tx < 20) (hrx : rx < 20) (hshed : s.mayShed n.val = true)
    (hnone : (s.net n.val).laneReqs = []) (hlower : s.fuse.serial.toNat < (s.net n.val).peerId.toNat)
    (hlanes : (s.net n.val).lanes = 4 ∨ (s.net n.val).lanes = 2) :
    ∃ t q, exec (.utilisationWindowEnd n tx rx) s = .next t ∧ (t.net n.val).low = true ∧ (t.net n.val).laneReqs = [q]
      ∧ q.code = (if (s.net n.val).lanes = 4 then 1 else 2) ∧ Output.macCtl n.val 0x0F10 [q.code, 0, q.seq] ∈ t.out
      ∧ (t.net n.val).lanes = (s.net n.val).lanes ∧ portKept s t n.val := by
  have hexec : exec (.utilisationWindowEnd n tx rx) s = .next (laneRequest n.val (if (s.net n.val).lanes = 4 then 1 else 2) 0
      (s.setNet n.val { s.net n.val with low := true })) := by
    change execUtilisationWindowEnd n tx rx s = _
    rw [execUtilisationWindowEnd, utilisationEnd]
    rw [if_pos (by simp [htx, hrx, hshed, hnone, hlower])]
    rcases hlanes with h | h
    · rw [if_pos h, if_pos h]
      simp [htx, hrx, codeShed2]
    · rw [if_neg (by omega), if_pos h, if_neg (by omega)]
      simp [htx, hrx, codeShed1]
  obtain ⟨q, hcode, -, -, hq, hout, hkept, -⟩ := laneRequest_row n.val (if (s.net n.val).lanes = 4 then 1 else 2) 0
    (s.setNet n.val { s.net n.val with low := true })
  rw [State.net_setNet_self] at hq
  have hreqs : (((laneRequest n.val (if (s.net n.val).lanes = 4 then 1 else 2) 0
      (s.setNet n.val { s.net n.val with low := true })).net n.val).laneReqs) = (s.net n.val).laneReqs ++ [q] := by rw [hq.fields]
  refine ⟨_, q, hexec, ?_, hreqs.trans (by rw [hnone]; rfl), hcode, by rw [hcode]; exact hout, ?_, (portKept.setNet ..).trans hkept⟩
  · rw [hq.fields]
  · rw [hq.fields]

theorem shedTo_sheds {n w seq : Nat} {s : State} (hdir : (s.net n).direct = true) (hmay : s.mayShed n = true) (hlow : (s.net n).low = true)
    (hlanes : (s.net n).lanes = 2 * w) : ((shedTo n w seq s).net n).lanes = w ∧ ((shedTo n w seq s).net n).low = false
      ∧ Output.macCtl n 0x0F10 [6, 0, seq] ∈ (shedTo n w seq s).out
      ∧ portCount (shedTo n w seq s) n 18 = satAdd Config.sat64 (portCount s n 18) 1 ∧ portKept s (shedTo n w seq s) n := by
  have heq : shedTo n w seq s = setWidth n w (sendLane n codeAck 0 seq s) := by
    unfold shedTo
    dsimp only
    rw [if_neg (by simp [hdir]), if_pos (by simp [hmay, hlow, hlanes])]
  have hsent := sendLane_sent n codeAck 0 seq s
  obtain ⟨hnet, hcount, hout, hkept⟩ := setWidth_row n w (sendLane n codeAck 0 seq s)
  rw [heq]
  refine ⟨by rw [hnet]; rfl, by rw [hnet]; rfl, by rw [hout]; exact hsent.mem, hcount.trans ?_, hsent.kept.trans hkept⟩
  exact congrArg (satAdd Config.sat64 · 1) (hsent.net.counts 18 (by decide))

theorem shedTo_refuses {n w seq : Nat} {s : State} (hdir : (s.net n).direct = true)
    (hno : s.mayShed n = false ∨ (s.net n).low = false ∨ (s.net n).lanes ≠ 2 * w) :
    ((shedTo n w seq s).net n).lanes = (s.net n).lanes ∧ ((shedTo n w seq s).net n).low = false
      ∧ Output.macCtl n 0x0F10 [7, 0, seq] ∈ (shedTo n w seq s).out ∧ portKept s (shedTo n w seq s) n := by
  have heq : shedTo n w seq s = sendLane n codeRefuse 0 seq (s.setNet n { s.net n with low := false }) := by
    unfold shedTo
    dsimp only
    rw [if_neg (by simp [hdir]), if_neg]
    rcases hno with h | h | h
    · simp [h]
    · simp [h]
    · simp [h]
  obtain ⟨hnet, hout, hkept⟩ := answered_row n codeRefuse seq { s.net n with low := false } s
  rw [heq]
  exact ⟨by rw [hnet.fields], by rw [hnet.fields], hout, hkept⟩

theorem restoreReceived_row {n seq : Nat} {s : State} (hdir : (s.net n).direct = true) :
    Output.macCtl n 0x0F10 [6, 0, seq] ∈ (restoreReceived n seq s).out
      ∧ ((restoreReceived n seq s).net n).lanes = (if (s.net n).shed then rateLanes (s.net n).rate else (s.net n).lanes)
      ∧ portKept s (restoreReceived n seq s) n := by
  have hsent := sendLane_sent n codeAck 0 seq s
  unfold restoreReceived
  dsimp only
  rw [if_neg (by simp [hdir])]
  by_cases h : (s.net n).shed = true
  · rw [if_pos h, if_pos h]
    obtain ⟨hnet, -, hout, hkept⟩ := setWidth_row n (rateLanes (s.net n).rate) (sendLane n codeAck 0 seq s)
    exact ⟨by rw [hout]; exact hsent.mem, by rw [hnet]; rfl, hsent.kept.trans hkept⟩
  · rw [if_neg h, if_neg h]
    exact ⟨hsent.mem, by rw [hsent.net.fields], hsent.kept⟩

theorem restoreSend_row {n : PortId} {s : State} (f : RxFacts) (lane : Byte) (seq : W16) (hdir : (s.net n.val).direct = true)
    (hup : (s.net n.val).linkUp = true) (hshed : (s.net n.val).shed = true) (hfull : ∃ c < 8, 16384 < (s.net n.val).queueBytes c) :
    ∃ t q, exec (.restore n false f lane seq) s = .next t ∧ (t.net n.val).lanes = rateLanes (s.net n.val).rate ∧ (t.net n.val).low = false
      ∧ (t.net n.val).laneReqs = (s.net n.val).laneReqs.filter LaneReq.lasting ++ [q] ∧ q.code = 3
      ∧ Output.macCtl n.val 0x0F10 [3, 0, q.seq] ∈ t.out ∧ portKept s t n.val := by
  obtain ⟨c, hc, hbytes⟩ := hfull
  have hexec : exec (.restore n false f lane seq) s
      = .next (laneRequest n.val codeRestore 0 (setWidth n.val (rateLanes (s.net n.val).rate) s)) := by
    change execRestore n false f lane seq s = _
    rw [execRestore, if_neg Bool.false_ne_true, restoreSend,
      if_pos (List.any_eq_true.mpr ⟨c, List.mem_range.mpr hc, decide_eq_true hbytes⟩), unshed]
    rw [if_pos (by simp [hdir, hup, hshed])]
  obtain ⟨hnet, -, -, hkept⟩ := setWidth_row n.val (rateLanes (s.net n.val).rate) s
  obtain ⟨q, hcode, -, -, hq, hout, hqkept, -⟩ := laneRequest_row n.val codeRestore 0 (setWidth n.val (rateLanes (s.net n.val).rate) s)
  rw [hnet] at hq
  refine ⟨_, q, hexec, ?_, ?_, ?_, hcode, hout, hkept.trans hqkept⟩
  · rw [hq.fields]; rfl
  · rw [hq.fields]; rfl
  · rw [hq.fields]; rfl

/-! Answers to requests (R307, R308) -/

theorem settle_laneReqs (p : Net) (seq : Nat) : ∀ r ∈ (p.settle seq).laneReqs, r ∈ p.laneReqs ∧ r.seq ≠ seq := fun _ hr =>
  ⟨(List.mem_filter.mp hr).1, of_decide_eq_true (List.mem_filter.mp hr).2⟩

theorem ackReceived_row {n seq : Nat} {s : State} {q : LaneReq} (hdir : (s.net n).direct = true) (hq : (s.net n).reqOf seq = some q) :
    (∀ r ∈ ((ackReceived n seq s).net n).laneReqs, r ∈ (s.net n).laneReqs ∧ r.seq ≠ seq)
      ∧ ((q.code = 1 ∨ q.code = 2) ∧ s.mayShed n = true → ((ackReceived n seq s).net n).lanes = (if q.code = 1 then 2 else 1))
      ∧ (¬((q.code = 1 ∨ q.code = 2) ∧ s.mayShed n = true) → ((ackReceived n seq s).net n).lanes = (s.net n).lanes)
      ∧ portKept s (ackReceived n seq s) n := by
  unfold ackReceived
  dsimp only
  rw [if_neg (by simp [hdir]), hq]
  dsimp only
  by_cases h : (q.code = codeShed2 ∨ q.code = codeShed1) ∧ s.mayShed n = true
  · rw [if_pos h]
    obtain ⟨hnet, -, -, hkept⟩ := setWidth_row n (if q.code = codeShed2 then 2 else 1) (s.setNet n ((s.net n).settle seq))
    rw [State.net_setNet_self] at hnet
    refine ⟨fun r hr => ?_, fun _ => by rw [hnet]; rfl, fun hno => absurd h hno, (portKept.setNet ..).trans hkept⟩
    rw [hnet] at hr
    exact settle_laneReqs (s.net n) seq r (List.mem_filter.mp hr).1
  · rw [if_neg h, State.net_setNet_self]
    exact ⟨settle_laneReqs (s.net n) seq, fun hyes => absurd hyes h, fun _ => rfl, .setNet ..⟩

theorem refuseReceived_row {n seq : Nat} {s : State} {q : LaneReq} (hdir : (s.net n).direct = true) (hq : (s.net n).reqOf seq = some q)
    (hcode : q.code = 1 ∨ q.code = 2) : ((refuseReceived n seq s).net n).reqOf seq = none ∧ ((refuseReceived n seq s).net n).low = false
      ∧ ((refuseReceived n seq s).net n).lanes = (s.net n).lanes ∧ portKept s (refuseReceived n seq s) n := by
  have heq : refuseReceived n seq s = s.setNet n { (s.net n).settle seq with low := false } := by
    unfold refuseReceived
    dsimp only
    rw [if_neg (by simp [hdir]), hq]
    exact if_pos hcode
  rw [heq, State.net_setNet_self]
  refine ⟨List.find?_eq_none.mpr fun r hr => ?_, rfl, rfl, .setNet ..⟩
  simpa using (settle_laneReqs (s.net n) seq r hr).2

/-- Settles O27: an accepted lane-control frame leaves the port's lanes and requests, and each command is then one update of the port
with its frame sent. -/
theorem laneRepairAndShedding : Obligations.LaneRepairAndShedding := by
  unfold Obligations.LaneRepairAndShedding
  refine ⟨fun s n lane => ?_, fun s n f lane seq hok hdir => ?_, fun s n hnodup => ?_,
    fun s n tx rx htx hrx hshed hnone hlower hlanes => utilisationEnd_row htx hrx hshed hnone hlower hlanes,
    fun s n f seq w i hi hok hdir => ?_, fun s n f lane seq => ?_, fun s n f seq q hok hdir hq => ?_⟩
  · intro p hup hdir hlane
    refine ⟨fun hsp i hi => ?_, fun hsp hrx => laneSpared_row hup hlane hdir hsp hrx,
      fun hsp hrx hdeg hhealthy => laneDegraded_row hup hlane hdir hsp hrx hdeg hhealthy, fun hsp hrx hfew =>
        ⟨_, laneDegraded_falls hup hlane (.inr ⟨hrx, hfew⟩), laneLost_row ..⟩⟩
    rcases hi with rfl | rfl
    · exact ⟨_, laneSpared_noSpare hup hlane hsp, laneLost_row ..⟩
    · exact ⟨_, laneDegraded_falls hup hlane (.inl hsp), laneLost_row ..⟩
  · obtain ⟨hdir', hspare, hlanes, hrate, hdeg, -, -, htx, -, -, hkept⟩ := rxLane_fields hok
    rw [hdir] at hdir'
    have hspared : exec (.spare n f lane seq) s = .next (spareReceived n.val lane.val seq.toNat (rxLane n.val f s).s) :=
      congrArg Host.Outcome.next (if_pos hok)
    have hdegraded : exec (.degrade n f seq) s = .next (degradeReceived n.val seq.toNat (rxLane n.val f s).s) :=
      congrArg Host.Outcome.next (if_pos hok)
    refine ⟨fun hsp => ?_, fun hsp => ?_, ?_⟩
    · obtain ⟨h1, h2, h3, h4⟩ := spareReceived_row (lane := lane.val) (seq := seq.toNat) hdir' (hspare.trans hsp)
      exact ⟨_, hspared, h1, h2, h3.trans hlanes, hkept.trans h4⟩
    · rw [spareReceived_noSpare hdir' (hspare.trans hsp)] at hspared
      exact ⟨_, hspared, htx, hlanes, hkept⟩
    · obtain ⟨h1, h2, h3, h4, h5⟩ := degradeReceived_row (seq := seq.toNat) hdir'
      exact ⟨_, hdegraded, h1, h2.trans hdeg, h3.trans (by rw [hrate]), h4, hkept.trans h5⟩
  · exact laneRequestResend_row hnodup
  · obtain ⟨hdir', -, hlanes, -, -, hlow, -, -, -, hcount, hkept⟩ := rxLane_fields hok
    rw [hdir] at hdir'
    have hexec : exec i s = .next (shedTo n.val w seq.toNat (rxLane n.val f s).s) := by
      rcases hi with ⟨rfl, rfl⟩ | ⟨rfl, rfl⟩
      · exact congrArg Host.Outcome.next (if_pos hok)
      · exact congrArg Host.Outcome.next (if_pos hok)
    intro r
    refine ⟨fun hmay hl hw => ?_, fun hno => ?_⟩
    · obtain ⟨h1, h2, h3, h4, h5⟩ := shedTo_sheds (seq := seq.toNat) hdir' hmay (hlow.trans hl) (hlanes.trans hw)
      exact ⟨_, hexec, h1, h2, h3, h4.trans (by rw [hcount]), hkept.trans h5⟩
    · obtain ⟨h1, h2, h3, h4⟩ := shedTo_refuses (seq := seq.toNat) hdir' (w := w) (by rw [hlow, hlanes]; exact hno)
      exact ⟨_, hexec, h1.trans hlanes, h2, h3, hkept.trans h4⟩
  · refine ⟨fun hdir hok => ?_, fun hdir hup hshed hfull => restoreSend_row f lane seq hdir hup hshed hfull⟩
    obtain ⟨hdir', -, hlanes, hrate, -, -, -, -, hshed, -, hkept⟩ := rxLane_fields hok
    have hexec : exec (.restore n true f lane seq) s = .next (restoreReceived n.val seq.toNat (rxLane n.val f s).s) :=
      congrArg Host.Outcome.next ((if_pos rfl).trans (if_pos hok))
    obtain ⟨h1, h2, h3⟩ := restoreReceived_row (seq := seq.toNat) (hdir'.trans hdir)
    rw [hshed, hrate, hlanes] at h2
    exact ⟨_, hexec, h1, h2, hkept.trans h3⟩
  · obtain ⟨hdir', -, hlanes, -, -, -, hreqs, -, -, -, hkept⟩ := rxLane_fields hok
    have hmay := rxLane_mayShed hok
    have hq' : ((rxLane n.val f s).s.net n.val).reqOf seq.toNat = some q := by
      rw [Net.reqOf, hreqs]
      exact hq
    have hacked : exec (.ack n f seq) s = .next (ackReceived n.val seq.toNat (rxLane n.val f s).s) := congrArg Host.Outcome.next (if_pos hok)
    have hrefused : exec (.refuse n f seq) s = .next (refuseReceived n.val seq.toNat (rxLane n.val f s).s) :=
      congrArg Host.Outcome.next (if_pos hok)
    intro sheds
    refine ⟨?_, fun hcode => ?_⟩
    · obtain ⟨h1, h2, h3, h4⟩ := ackReceived_row (hdir'.trans hdir) hq'
      rw [hreqs] at h1
      rw [hmay] at h2 h3
      rw [hlanes] at h3
      exact ⟨_, hacked, h1, h2, h3, hkept.trans h4⟩
    · obtain ⟨h1, h2, h3, h4⟩ := refuseReceived_row (hdir'.trans hdir) hq' hcode
      exact ⟨_, hrefused, h1, h2, h3.trans hlanes, hkept.trans h4⟩

end Sys2Proof
end

section
/-! Link bring-up and loss, and HELLO (10 R293, R310, R311; 08 R239). -/

namespace Sys2Proof

open Sys2Proof.Machine

/-- A HELLO reads the port's settings and kind, the image, the serial number and the UDP port. -/
theorem helloFrame_congr {s t : State} {n : Nat} (hcfg : (t.net n).cfg = (s.net n).cfg) (hkind : (t.net n).kind = (s.net n).kind)
    (hsec : t.sec = s.sec) (hfuse : t.fuse = s.fuse) (hdwt : t.dwt = s.dwt) : t.helloFrame n = s.helloFrame n := by
  have hself : t.self = s.self := by rw [State.self, State.self, hsec, hfuse]
  have hneighbour : ∀ a d, t.neighbour a d = s.neighbour a d := by
    intro a d
    rw [State.neighbour, State.neighbour, hsec, hself]
  have haddr : t.neighbourAddr n = s.neighbourAddr n := by
    rw [State.neighbourAddr, State.neighbourAddr, hsec, hneighbour]
  have hdirect : (t.net n).direct = (s.net n).direct := by rw [Net.direct, Net.direct, hkind]
  have hudp : ∀ v6 dst a b c, (t.net n).udp v6 dst a b c = (s.net n).udp v6 dst a b c := by
    intro v6 dst a b c
    rw [Net.udp, Net.udp, Net.addr, Net.addr, hcfg]
  have htorus : ∀ a b, t.torusNet n a b = s.torusNet n a b := by
    intro a b
    unfold State.torusNet
    dsimp only
    rw [hdirect, haddr, hdwt]
    simp only [hudp]
  have hhead : ∀ dst net cls body, t.frameHead n dst net cls body = s.frameHead n dst net cls body := by
    intro dst net cls body
    unfold State.frameHead
    dsimp only
    rw [hcfg]
  have hbytes : t.helloBytes n = s.helloBytes n := by
    rw [State.helloBytes, State.helloBytes, hself, hfuse]
  unfold State.helloFrame
  dsimp only
  rw [hdirect, hcfg, htorus, hhead, hbytes]

theorem sendHello_net (n : Nat) (s : State) : (sendHello n s).net n = { s.net n with txq := (s.net n).txq ++ [s.helloFrame n] } :=
  State.net_setNet_self ..

theorem sendHello_kept (n : Nat) (s : State) : portKept s (sendHello n s) n := .setNet ..

/-! A link comes up (R293, R310) -/

/-- A port whose link has come up at a rate. -/
def Machine.Net.up (p : Net) (rate : Nat) (spare : Bool) : Net :=
  { p with linkUp := true, rate := rate, lanes := if p.narrow then min 2 (rateLanes rate) else rateLanes rate,
           rxHealthy := p.trained, sparePresent := spare && p.direct, retrainDue := false }

theorem linkUp_eq {n rate : Nat} {spare : Bool} {s : State} (hpow : (s.net n).powered = true) (hret : (s.net n).retired = false)
    (hdown : (s.net n).linkUp = false) (hrate : (s.net n).rateOk rate = true) : linkUp n rate spare s =
      if (s.net n).torus then sendHello n ((s.setNet n ((s.net n).up rate spare)).logEv { ev 0 0x08 0x40 with port := n })
      else (s.setNet n ((s.net n).up rate spare)).logEv { ev 0 0x08 0x40 with port := n } := by
  unfold linkUp Net.up
  dsimp only
  rw [if_neg (by simp [hpow, hret, hdown, hrate])]

theorem linkUp_row {n : PortId} {rate : Fin 5} (spare : Bool) {s : State} (hpow : (s.net n.val).powered = true)
    (hret : (s.net n.val).retired = false) (hdown : (s.net n.val).linkUp = false) (hrate : (s.net n.val).rateOk rate.val = true) :
    ∃ t, exec (.linkUp n rate spare) s = .next t ∧ (t.net n.val).linkUp = true ∧ (t.net n.val).rate = rate.val
      ∧ (t.net n.val).lanes = (if (s.net n.val).narrow then min 2 (rateLanes rate.val) else rateLanes rate.val)
      ∧ (t.net n.val).sparePresent = (spare && (s.net n.val).direct)
      ∧ ((s.net n.val).degraded = false → (t.net n.val).rxHealthy = 0xF) ∧ (t.net n.val).helloOk = (s.net n.val).helloOk
      ∧ t.mgt.nextSeq = s.mgt.nextSeq + 1 ∧ ((s.net n.val).torus = true → s.helloFrame n.val ∈ (t.net n.val).txq) ∧ portKept s t n.val := by
  have hexec : exec (.linkUp n rate spare) s = .next (linkUp n.val rate.val spare s) := rfl
  rw [linkUp_eq hpow hret hdown hrate] at hexec
  have hlog := (portKept.setNet s n.val ((s.net n.val).up rate.val spare)).trans (.logEv _ n.val { ev 0 0x08 0x40 with port := n.val })
  have hseq : ((s.setNet n.val ((s.net n.val).up rate.val spare)).logEv { ev 0 0x08 0x40 with port := n.val }).mgt.nextSeq = s.mgt.nextSeq + 1 := by
    obtain ⟨x, hx⟩ := logEv_logged (s.setNet n.val ((s.net n.val).up rate.val spare)) { ev 0 0x08 0x40 with port := n.val }
    obtain ⟨r, a, hm⟩ := hx.mgt
    rw [hm]
    rfl
  have hframe : ((s.setNet n.val ((s.net n.val).up rate.val spare)).logEv { ev 0 0x08 0x40 with port := n.val }).helloFrame n.val
      = s.helloFrame n.val := by
    refine helloFrame_congr ?_ ?_ (by simp) (by simp) (by simp)
    · rw [logEv_net, State.net_setNet_self]; rfl
    · rw [logEv_net, State.net_setNet_self]; rfl
  have hnet : ((s.setNet n.val ((s.net n.val).up rate.val spare)).logEv { ev 0 0x08 0x40 with port := n.val }).net n.val
      = (s.net n.val).up rate.val spare := by rw [logEv_net, State.net_setNet_self]
  generalize (s.setNet n.val ((s.net n.val).up rate.val spare)).logEv { ev 0 0x08 0x40 with port := n.val } = u at *
  have htrained : (s.net n.val).degraded = false → ((s.net n.val).up rate.val spare).rxHealthy = 0xF := by
    intro h
    have hno : ¬((s.net n.val).degraded && decide (2 ≤ ((List.range 4).filter fun k => bit (s.net n.val).rxHealthy k).length)) = true := by
      rw [h]
      simp
    exact if_neg hno
  by_cases ht : (s.net n.val).torus = true
  · rw [if_pos ht] at hexec
    have hsent := sendHello_net n.val u
    rw [hnet, hframe] at hsent
    refine ⟨_, hexec, ?_, ?_, ?_, ?_, fun h => ?_, ?_, hseq, fun _ => ?_, hlog.trans (sendHello_kept ..)⟩
    · rw [hsent]; rfl
    · rw [hsent]; rfl
    · rw [hsent]; rfl
    · rw [hsent]; rfl
    · rw [hsent]; exact htrained h
    · rw [hsent]; rfl
    · rw [hsent]; exact List.mem_append_right _ (.head _)
  · rw [if_neg ht] at hexec
    refine ⟨_, hexec, ?_, ?_, ?_, ?_, fun h => ?_, ?_, hseq, fun h => absurd h ht, hlog⟩
    · rw [hnet]; rfl
    · rw [hnet]; rfl
    · rw [hnet]; rfl
    · rw [hnet]; rfl
    · rw [hnet]; exact htrained h
    · rw [hnet]; rfl

/-! HELLO (R239, R41) -/

theorem helloReceived_fits {n : Nat} {f : RxFacts} {h : Hello} {s : State} (ht : (s.net n).torus = true) (hver : h.ver = 1#4)
    (hresv : h.resv = false) (hfits : s.helloFits n h = true) : helloReceived n f h s = s.setNet n { s.net n with
      helloOk := true, helloLast := !(s.net n).helloOk || (s.net n).helloLast, peerMac := some f.src, peerId := h.endpoint } := by
  unfold helloReceived
  dsimp only
  rw [if_neg (by simp [ht]), if_neg (by simp [hver, hresv]), if_pos hfits]

theorem helloReceived_unfit {n : Nat} {f : RxFacts} {h : Hello} {s : State} (ht : (s.net n).torus = true) (hver : h.ver = 1#4)
    (hresv : h.resv = false) (hfits : s.helloFits n h = false) :
    helloReceived n f h s = (s.setNet n { s.net n with helloOk := false }).errNet n 3 := by
  unfold helloReceived
  dsimp only
  rw [if_neg (by simp [ht]), if_neg (by simp [hver, hresv]), if_neg (by simp [hfits])]

theorem helloFits_congr {s t : State} (hsec : t.sec = s.sec) (hfuse : t.fuse = s.fuse) (n : Nat) (h : Hello) :
    t.helloFits n h = s.helloFits n h := by
  have hself : t.self = s.self := by rw [State.self, State.self, hsec, hfuse]
  have hneighbour : ∀ a d, t.neighbour a d = s.neighbour a d := by
    intro a d
    rw [State.neighbour, State.neighbour, hsec, hself]
  unfold State.helloFits
  rw [hneighbour]

theorem rxHello_row {n : PortId} {f : RxFacts} {h : Hello} {s : State} (hkind : s.rxKind n.val f = .dwt) (hfrag : isFragment f = false)
    (hok : (rxFrame n.val f s).ok = true) (htrunc : (rxFrame n.val f s).trunc = false) (ht : (s.net n.val).torus = true) (hver : h.ver = 1#4)
    (hresv : h.resv = false) :
    (s.helloFits n.val h = true → ∃ t, exec (.rxHello n f h) s = .next t ∧ (t.net n.val).helloOk = true ∧ (t.net n.val).peerId = h.endpoint
      ∧ (t.net n.val).peerMac = some f.src ∧ ((s.net n.val).helloOk = false → (t.net n.val).helloLast = true) ∧ portKept s t n.val)
    ∧ (s.helloFits n.val h = false → ∃ t, exec (.rxHello n f h) s = .next t ∧ (t.net n.val).helloOk = false
      ∧ (t.net n.val).err.getLsbD 3 = true ∧ portKept s t n.val) := by
  have hexec : exec (.rxHello n f h) s = .next (helloReceived n.val f h (rxFrame n.val f s).s) := by
    change execRxHello n f h s = _
    unfold execRxHello
    dsimp only
    rw [hkind]
    dsimp only
    rw [if_neg (by rw [hok]; decide), if_neg (by rw [hfrag]; decide), if_neg (by rw [htrunc]; decide)]
  obtain ⟨hkept, hnet⟩ := rxFrame_ok hok
  have hfields : ((rxFrame n.val f s).s.net n.val).torus = (s.net n.val).torus
      ∧ ((rxFrame n.val f s).s.net n.val).helloOk = (s.net n.val).helloOk := by
    rw [hnet.fields]
    exact ⟨rfl, rfl⟩
  have hsame := helloFits_congr (s := s) (t := (rxFrame n.val f s).s) (by simp) (by simp) n.val h
  obtain ⟨htorus, hhello⟩ := hfields
  rw [ht] at htorus
  refine ⟨fun hfits => ?_, fun hfits => ?_⟩
  · rw [helloReceived_fits htorus hver hresv (hsame.trans hfits)] at hexec
    refine ⟨_, hexec, ?_, ?_, ?_, fun hno => ?_, hkept.trans (.setNet ..)⟩ <;> rw [State.net_setNet_self]
    rw [hhello, hno]
    rfl
  · rw [helloReceived_unfit htorus hver hresv (hsame.trans hfits)] at hexec
    obtain ⟨e, he⟩ := errNet_net ((rxFrame n.val f s).s.setNet n.val { (rxFrame n.val f s).s.net n.val with helloOk := false }) n.val 3
    refine ⟨_, hexec, ?_, (errNet_raised _ n.val (by decide)).1, (hkept.trans (.setNet ..)).trans (.errNet ..)⟩
    rw [he, State.net_setNet_self]

theorem helloResend_row {n : PortId} {s : State} (hup : (s.net n.val).linkUp = true) (ht : (s.net n.val).torus = true) :
    ((s.net n.val).helloOk = false → ∃ t, exec (.helloResend n) s = .next t ∧ (t.net n.val).txq = (s.net n.val).txq ++ [s.helloFrame n.val]
      ∧ portKept s t n.val)
    ∧ ((s.net n.val).helloOk = true → (s.net n.val).helloLast = true → ∃ t, exec (.helloResend n) s = .next t
      ∧ (t.net n.val).helloLast = false ∧ (t.net n.val).txq = (s.net n.val).txq ++ [s.helloFrame n.val] ∧ portKept s t n.val)
    ∧ ((s.net n.val).helloOk = false → ∃ t, exec (.linkMiswired n) s = .next t ∧ (t.net n.val).err.getLsbD 3 = true
      ∧ (t.net n.val).helloOk = false ∧ (t.net n.val).linkUp = true ∧ portKept s t n.val) := by
  have hexec : exec (.helloResend n) s = .next (helloResend n.val s) := rfl
  unfold helloResend at hexec
  dsimp only at hexec
  rw [if_neg (by simp [hup, ht])] at hexec
  refine ⟨fun hno => ?_, fun hok hlast => ?_, fun hno => ?_⟩
  · rw [if_pos (by simp [hno])] at hexec
    exact ⟨_, hexec, by rw [sendHello_net], sendHello_kept ..⟩
  · rw [if_neg (by simp [hok]), if_pos hlast] at hexec
    have hframe := helloFrame_congr (s := s) (t := s.setNet n.val { s.net n.val with helloLast := false }) (n := n.val)
      (by rw [State.net_setNet_self]) (by rw [State.net_setNet_self]) rfl rfl rfl
    refine ⟨_, hexec, ?_, ?_, (portKept.setNet ..).trans (sendHello_kept ..)⟩
    · rw [sendHello_net, State.net_setNet_self]
    · rw [sendHello_net, hframe, State.net_setNet_self]
  · have hflag : exec (.linkMiswired n) s = .next (s.errNet n.val 3) := by
      change execLinkMiswired n s = _
      rw [execLinkMiswired, if_pos (by simp [hup, ht, hno])]
    obtain ⟨e, he⟩ := errNet_net s n.val 3
    exact ⟨_, hflag, (errNet_raised s n.val (by decide)).1, by rw [he]; exact hno, by rw [he]; exact hup, .errNet ..⟩

/-- Settles O28: each command of a link is one update of its port; a HELLO reads nothing that its sending or an accepted frame changes. -/
theorem linkRows : Obligations.LinkRows := by
  unfold Obligations.LinkRows
  refine ⟨fun s n rate spare hpow hret hdown hrate => linkUp_row spare hpow hret hdown hrate, fun s n => ?_,
    fun s n f h hkind hfrag hok htrunc ht hver hresv => rxHello_row hkind hfrag hok htrunc ht hver hresv⟩
  intro p down
  refine ⟨fun hup => ?_, ?_, fun hup ht => helloResend_row hup ht⟩
  · have hexec : exec (.linkDown n) s = .next (linkFalls n.val s) := congrArg Host.Outcome.next (if_pos hup)
    obtain ⟨e, he⟩ := errNet_net (s.setNet n.val (s.net n.val).fall) n.val 2
    rw [State.net_setNet_self] at he
    obtain ⟨-, herr, hkept⟩ := linkFalls_row n.val s
    have hfell : (linkFalls n.val s).net n.val = { (s.net n.val).fall with err := e } := he
    refine ⟨_, hexec, ⟨?_, ?_, ?_, ?_, ?_, ?_, ?_, hkept⟩, herr⟩ <;> rw [hfell] <;> rfl
  · refine ⟨retrainPort n.val s, rfl, ⟨?_, ?_, ?_, ?_, ?_, ?_, ?_, .setNet ..⟩, ?_, ?_⟩ <;> rw [retrainPort, State.net_setNet_self] <;> rfl

end Sys2Proof
end

section
/-! Beacons compared with the digest history (09 R290, R291). -/

namespace Sys2Proof

open Sys2Proof.Machine

/-! A message of the transport that is received -/

/-- What a message does that is received on a connection: its engine runs in the state that the receive checks left. -/
theorem received_on {n : PortId} {f : RxFacts} {m : Msg} {typ cn : Nat} {run : Nat → State → State} {s s1 : State}
    (h : dwtIn n.val f m typ s = ⟨s1, some cn⟩) : received n f m typ run s = s.close (run cn s1) := by
  unfold received
  dsimp only
  rw [h]

theorem tiers_of_dwtIn {n : PortId} {f : RxFacts} {m : Msg} {typ cn : Nat} {s s1 : State} (h : dwtIn n.val f m typ s = ⟨s1, some cn⟩) :
    s1.tiers = s.tiers := by
  have hs : (dwtIn n.val f m typ s).s.tiers = s.tiers := by simp
  rw [h] at hs
  exact hs

/-! The errors of the collective engine -/

theorem logEv_nextSeq (s : State) (e : LogEnt) : (s.logEv e).mgt.nextSeq = s.mgt.nextSeq + 1 := by
  obtain ⟨x, hx⟩ := logEv_logged s e
  obtain ⟨r, a, hm⟩ := hx.mgt
  rw [hm]

theorem errCol_row (s : State) {k : Nat} (hk : k < 5) (slot : Nat) : (s.errCol k slot).col.err.getLsbD k = true
    ∧ (s.errCol k slot).col = { s.col with err := (s.errCol k slot).col.err } ∧ (s.errCol k slot).ctxs = s.ctxs := by
  unfold State.errCol
  split
  next h => exact ⟨h, rfl, rfl⟩
  next =>
    have hcol : (State.logEv { s with col := { s.col with err := setBit s.col.err k } } { ev 2 0x05 k with slot := slot }).col
        = { s.col with err := setBit s.col.err k } := by simp
    have hctxs : (State.logEv { s with col := { s.col with err := setBit s.col.err k } } { ev 2 0x05 k with slot := slot }).ctxs = s.ctxs := by simp
    refine ⟨?_, ?_, hctxs⟩
    · rw [hcol]
      exact setBit_self _ hk
    · rw [hcol]

/-- A mismatch is logged whether or not its error bit was set (R290). -/
theorem mismatch_logged (slot : Nat) (s : State) :
    let u := if s.col.err.getLsbD 0 then s.logEv { ev 2 0x05 0 with slot := slot } else s.errCol 0 slot
    u.col.err.getLsbD 0 = true ∧ u.col = { s.col with err := u.col.err } ∧ u.ctxs = s.ctxs ∧ u.mgt.nextSeq = s.mgt.nextSeq + 1 := by
  intro u
  by_cases h : s.col.err.getLsbD 0 = true
  · have hu : u = s.logEv { ev 2 0x05 0 with slot := slot } := if_pos h
    have hcol : u.col = s.col := by rw [hu]; simp
    refine ⟨by rw [hcol]; exact h, by rw [hcol], by rw [hu]; simp, by rw [hu, logEv_nextSeq]⟩
  · have hu : u = s.errCol 0 slot := if_neg h
    obtain ⟨hbit, hcol, hctxs⟩ := errCol_row s (k := 0) (by decide) slot
    rw [hu]
    refine ⟨hbit, hcol, hctxs, ?_⟩
    rw [State.errCol, if_neg h, logEv_nextSeq]

theorem digestMismatch_row (slot : Nat) (s : State) : (digestMismatch slot s).col.err.getLsbD 0 = true
    ∧ (digestMismatch slot s).col.mismatched = s.col.mismatched ∧ (digestMismatch slot s).col.unmatched = s.col.unmatched
    ∧ (s.col.policyHalt = true → ((digestMismatch slot s).ctx slot).mismatch = true)
    ∧ (s.col.policyHalt = false → (digestMismatch slot s).ctxs = s.ctxs) ∧ (digestMismatch slot s).mgt.nextSeq = s.mgt.nextSeq + 1 := by
  obtain ⟨hbit, hcol, hctxs, hseq⟩ := mismatch_logged slot s
  unfold digestMismatch
  dsimp only
  generalize (if s.col.err.getLsbD 0 then s.logEv { ev 2 0x05 0 with slot := slot } else s.errCol 0 slot) = u at *
  have hpolicy : u.col.policyHalt = s.col.policyHalt := by rw [hcol]
  have hcounts : u.col.mismatched = s.col.mismatched ∧ u.col.unmatched = s.col.unmatched := by
    rw [hcol]
    exact ⟨rfl, rfl⟩
  obtain ⟨hmis, hun⟩ := hcounts
  split
  next h =>
    refine ⟨hbit, hmis, hun, fun _ => ?_, fun hno => ?_, hseq⟩
    · rw [State.ctx_setCtx_self]
    · rw [hpolicy, hno] at h
      exact nomatch h
  next h =>
    refine ⟨hbit, hmis, hun, fun hyes => ?_, fun _ => hctxs, hseq⟩
    rw [hpolicy, hyes] at h
    exact absurd rfl h

/-- Settles O31: the beacon meets the digest of its step, or waits, or counts as unmatched; a difference is one mismatch. -/
theorem beaconsCompared : Obligations.BeaconsCompared := by
  unfold Obligations.BeaconsCompared
  intro s s1 n f m step digest cn hin hcoll slot found now
  have hexec : exec (.rxBeacon n f m step digest) s = .next (s.close (beaconReceived cn step digest s1)) :=
    congrArg Host.Outcome.next ((received_on hin).trans (congrArg s.close (if_pos hcoll)))
  have htiers := tiers_of_dwtIn hin
  unfold beaconReceived at hexec
  dsimp only at hexec
  refine ⟨fun hf hlow hhigh => ?_, fun hf hout => ?_, fun p hf hp => ?_, fun p hf hp => ?_⟩
  · have hfound : (s1.ctx (s1.conn cn).ctx).digests.find? (fun p => decide (p.1 = step)) = none := hf
    rw [hfound] at hexec
    dsimp only at hexec
    rw [if_pos ⟨hlow, hhigh⟩] at hexec
    exact ⟨_, hexec, by rw [State.ctx_setCtx_self], rfl, htiers⟩
  · have hfound : (s1.ctx (s1.conn cn).ctx).digests.find? (fun p => decide (p.1 = step)) = none := hf
    rw [hfound] at hexec
    have hlate : step.toNat < (s1.ctx (s1.conn cn).ctx).step.toNat ∨ (s1.ctx (s1.conn cn).ctx).step.toNat + 8 ≤ step.toNat := hout
    dsimp only at hexec
    rw [if_neg (by omega)] at hexec
    obtain ⟨hbit, hcol, hctxs⟩ := errCol_row { s1 with col := { s1.col with unmatched := satAdd 65535 s1.col.unmatched 1 } } (k := 1)
      (by decide) (s1.conn cn).ctx
    refine ⟨_, hexec, ?_, ?_, hbit, hctxs⟩
    · rw [hcol]
    · rw [hcol]
  · have hfound : (s1.ctx (s1.conn cn).ctx).digests.find? (fun p => decide (p.1 = step)) = some p := hf
    rw [hfound] at hexec
    dsimp only at hexec
    rw [compareBeacon, if_pos hp] at hexec
    exact hexec
  · have hfound : (s1.ctx (s1.conn cn).ctx).digests.find? (fun p => decide (p.1 = step)) = some p := hf
    rw [hfound] at hexec
    dsimp only at hexec
    rw [compareBeacon, if_neg hp] at hexec
    obtain ⟨hbit, hmis, hun, hhalt, hgo, hseq⟩ := digestMismatch_row (s1.conn cn).ctx
      { s1 with col := { s1.col with mismatched := satAdd 65535 s1.col.mismatched 1 } }
    exact ⟨_, hexec, hmis, hun, hbit, hhalt, hgo, hseq⟩

end Sys2Proof
end

section
/-! What closing a state leaves as it is: the security engine's requests, image and enclosures, the windows of the load
re-verification, the retrains that run and the board tier's derating. -/

namespace Sys2Proof.Machine

variable {β : Type}

@[simp] theorem Mgt.ite_load (c : Prop) [Decidable c] (a b : Mgt) : (if c then a else b).load = if c then a.load else b.load := by
  split <;> rfl

@[simp] theorem Mgt.ite_training (c : Prop) [Decidable c] (a b : Mgt) :
    (if c then a else b).training = if c then a.training else b.training := by
  split <;> rfl

@[simp] theorem Sec.ite_busy (c : Prop) [Decidable c] (a b : Sec) : (if c then a else b).busy = if c then a.busy else b.busy := by
  split <;> rfl

@[simp] theorem Sec.ite_image (c : Prop) [Decidable c] (a b : Sec) : (if c then a else b).image = if c then a.image else b.image := by
  split <;> rfl

@[simp] theorem Sec.ite_encls (c : Prop) [Decidable c] (a b : Sec) : (if c then a else b).encls = if c then a.encls else b.encls := by
  split <;> rfl

@[simp] theorem Tiers.ite_boardDerated (c : Prop) [Decidable c] (a b : Tiers) :
    (if c then a else b).boardDerated = if c then a.boardDerated else b.boardDerated := by
  split <;> rfl

@[simp] theorem State.foldl_sec_busy (f : State → β → State) (l : List β) (s : State)
    (h : ∀ s x, (f s x).sec.busy = s.sec.busy) :
    (l.foldl f s).sec.busy = s.sec.busy := foldl_keeps (fun u => u.sec.busy) f l s h

@[simp] theorem State.foldl_sec_image (f : State → β → State) (l : List β) (s : State)
    (h : ∀ s x, (f s x).sec.image = s.sec.image) :
    (l.foldl f s).sec.image = s.sec.image := foldl_keeps (fun u => u.sec.image) f l s h

@[simp] theorem State.foldl_sec_encls (f : State → β → State) (l : List β) (s : State)
    (h : ∀ s x, (f s x).sec.encls = s.sec.encls) :
    (l.foldl f s).sec.encls = s.sec.encls := foldl_keeps (fun u => u.sec.encls) f l s h

@[simp] theorem State.foldl_mgt_load (f : State → β → State) (l : List β) (s : State)
    (h : ∀ s x, (f s x).mgt.load = s.mgt.load) :
    (l.foldl f s).mgt.load = s.mgt.load := foldl_keeps (fun u => u.mgt.load) f l s h

@[simp] theorem State.foldl_mgt_training (f : State → β → State) (l : List β) (s : State)
    (h : ∀ s x, (f s x).mgt.training = s.mgt.training) :
    (l.foldl f s).mgt.training = s.mgt.training := foldl_keeps (fun u => u.mgt.training) f l s h

@[simp] theorem State.foldl_tiers_boardDerated (f : State → β → State) (l : List β) (s : State)
    (h : ∀ s x, (f s x).tiers.boardDerated = s.tiers.boardDerated) :
    (l.foldl f s).tiers.boardDerated = s.tiers.boardDerated := foldl_keeps (fun u => u.tiers.boardDerated) f l s h

@[simp] theorem State.raiseAlert_still (s : State) (k : Nat) :
    (State.raiseAlert s k).mgt.load = s.mgt.load ∧ (State.raiseAlert s k).mgt.training = s.mgt.training := by
  have h := raiseAlert_sansLog s k
  exact ⟨(congrArg Mgt.load h :), (congrArg Mgt.training h :)⟩

@[simp] theorem State.logEv_still (s : State) (e : LogEnt) :
    (State.logEv s e).mgt.load = s.mgt.load ∧ (State.logEv s e).mgt.training = s.mgt.training := by
  have h := logEv_sansLog s e
  exact ⟨(congrArg Mgt.load h :), (congrArg Mgt.training h :)⟩

@[simp] theorem State.errCore_still (s : State) (n k : Nat) :
    (State.errCore s n k).mgt.load = s.mgt.load ∧ (State.errCore s n k).mgt.training = s.mgt.training := by
  simp [State.errCore]

@[simp] theorem State.errTier_still (s : State) (k : Nat) :
    (State.errTier s k).mgt.load = s.mgt.load ∧ (State.errTier s k).mgt.training = s.mgt.training ∧
    (State.errTier s k).tiers.boardDerated = s.tiers.boardDerated := by
  simp [State.errTier]

@[simp] theorem State.errSec_still (s : State) (k : Nat) (encl : Nat) :
    (State.errSec s k encl).sec.busy = s.sec.busy ∧ (State.errSec s k encl).sec.image = s.sec.image ∧
    (State.errSec s k encl).sec.encls = s.sec.encls ∧ (State.errSec s k encl).mgt.load = s.mgt.load ∧
    (State.errSec s k encl).mgt.training = s.mgt.training := by
  simp [State.errSec]

@[simp] theorem State.errRcv_still (s : State) (k : Nat) (slot : Nat) (core : Nat) (port : Nat) :
    (State.errRcv s k slot core port).mgt.load = s.mgt.load ∧ (State.errRcv s k slot core port).mgt.training = s.mgt.training := by
  have h := errRcv_sansLog s k slot core port
  exact ⟨(congrArg Mgt.load h :), (congrArg Mgt.training h :)⟩

@[simp] theorem State.errHif_still (s : State) (k : Nat) (slot : Nat) :
    (State.errHif s k slot).mgt.load = s.mgt.load ∧ (State.errHif s k slot).mgt.training = s.mgt.training := by
  simp [State.errHif]

@[simp] theorem State.raiseCtr_still (s : State) (k n : Nat) :
    (State.raiseCtr s k n).mgt.load = s.mgt.load ∧ (State.raiseCtr s k n).mgt.training = s.mgt.training := by
  unfold State.raiseCtr
  (repeat' split) <;> simp

@[simp] theorem State.raiseRel_still (s : State) (slot k n : Nat) :
    (State.raiseRel s slot k n).mgt.load = s.mgt.load ∧ (State.raiseRel s slot k n).mgt.training = s.mgt.training := by
  simp [State.raiseRel]

@[simp] theorem State.setPte_still (s : State) (slot vp : Nat) (p : Pte) :
    (State.setPte s slot vp p).tiers.boardDerated = s.tiers.boardDerated := by
  simp [State.setPte]

@[simp] theorem State.leaveFrame_still (s : State) (f : Nat) :
    (State.leaveFrame s f).tiers.boardDerated = s.tiers.boardDerated := by
  unfold State.leaveFrame
  (repeat' split) <;> simp

@[simp] theorem State.dropPte_still (s : State) (slot vp : Nat) :
    (State.dropPte s slot vp).tiers.boardDerated = s.tiers.boardDerated := by
  unfold State.dropPte
  dsimp only
  (repeat' split) <;> simp [-Option.foldl_toList, -List.foldl_cons]

@[simp] theorem State.tagViolation_still (s : State) (slot : Nat) :
    (State.tagViolation s slot).sec.busy = s.sec.busy ∧ (State.tagViolation s slot).sec.image = s.sec.image ∧
    (State.tagViolation s slot).sec.encls = s.sec.encls ∧ (State.tagViolation s slot).mgt.load = s.mgt.load ∧
    (State.tagViolation s slot).mgt.training = s.mgt.training := by
  simp [State.tagViolation]

@[simp] theorem State.zeroFrame_still (s : State) (frame : Nat) :
    (State.zeroFrame s frame).tiers.boardDerated = s.tiers.boardDerated := by
  simp [State.zeroFrame]

@[simp] theorem State.fillFrame_still (s : State) (frame : Nat) (bs : List (Nat × Byte)) :
    (State.fillFrame s frame bs).tiers.boardDerated = s.tiers.boardDerated := by
  simp [State.fillFrame]

@[simp] theorem State.copyFrame_still (s : State) (src dst : Nat) :
    (State.copyFrame s src dst).tiers.boardDerated = s.tiers.boardDerated := by
  simp [State.copyFrame]

@[simp] theorem State.physWrite_still (s : State) (a : Nat) (bs : List Byte) :
    (State.physWrite s a bs).tiers.boardDerated = s.tiers.boardDerated := by
  simp [State.physWrite]

@[simp] theorem State.addCe_still (s : State) (t : Tier) (n : Nat) :
    (State.addCe s t n).mgt.load = s.mgt.load ∧ (State.addCe s t n).mgt.training = s.mgt.training ∧
    (State.addCe s t n).tiers.boardDerated = s.tiers.boardDerated := by
  simp [State.addCe]

@[simp] theorem State.noteHit_still (s : State) (line : Nat) (ue : Bool) :
    (State.noteHit s line ue).tiers.boardDerated = s.tiers.boardDerated := by
  simp [State.noteHit]

@[simp] theorem State.foundCe_still (s : State) (line : Nat) :
    (State.foundCe s line).mgt.load = s.mgt.load ∧ (State.foundCe s line).mgt.training = s.mgt.training ∧
    (State.foundCe s line).tiers.boardDerated = s.tiers.boardDerated := by
  simp [State.foundCe]

@[simp] theorem State.addUe_still (s0 : State) (line : Nat) :
    (State.addUe s0 line).mgt.load = s0.mgt.load ∧ (State.addUe s0 line).mgt.training = s0.mgt.training ∧
    (State.addUe s0 line).tiers.boardDerated = s0.tiers.boardDerated := by
  simp [State.addUe]

@[simp] theorem State.meetErr_still (s : State) (e : TierErr) :
    (State.meetErr s e).mgt.load = s.mgt.load ∧ (State.meetErr s e).mgt.training = s.mgt.training ∧
    (State.meetErr s e).tiers.boardDerated = s.tiers.boardDerated := by
  simp [State.meetErr]

@[simp] theorem State.meetLines_still (s : State) (a n : Nat) :
    (State.meetLines s a n).mgt.load = s.mgt.load ∧ (State.meetLines s a n).mgt.training = s.mgt.training ∧
    (State.meetLines s a n).tiers.boardDerated = s.tiers.boardDerated := by
  simp [State.meetLines]

@[simp] theorem State.meetPage_still (w : SWin) (va n : Nat) (s : State) (vp : Nat) :
    (State.meetPage w va n s vp).mgt.load = s.mgt.load ∧ (State.meetPage w va n s vp).mgt.training = s.mgt.training ∧
    (State.meetPage w va n s vp).tiers.boardDerated = s.tiers.boardDerated := by
  unfold State.meetPage
  (repeat' split) <;> simp

@[simp] theorem State.copyIn_still (s0 : State) (w : SWin) (va n frame off : Nat) :
    (State.copyIn s0 w va n frame off).mgt.load = s0.mgt.load ∧ (State.copyIn s0 w va n frame off).mgt.training = s0.mgt.training ∧
    (State.copyIn s0 w va n frame off).tiers.boardDerated = s0.tiers.boardDerated := by
  simp [State.copyIn]

@[simp] theorem State.setSwin_still (s : State) (w : Nat) (sw : SWin) :
    (State.setSwin s w sw).tiers.boardDerated = s.tiers.boardDerated := by
  simp [State.setSwin]

@[simp] theorem State.refreshPage_still (s : State) (w i : Nat) :
    (State.refreshPage s w i).mgt.load = s.mgt.load ∧ (State.refreshPage s w i).mgt.training = s.mgt.training ∧
    (State.refreshPage s w i).tiers.boardDerated = s.tiers.boardDerated := by
  unfold State.refreshPage
  dsimp only
  (repeat' split) <;> simp_all

@[simp] theorem State.followFetch_still (s : State) (w vp : Nat) :
    (State.followFetch s w vp).1.mgt.load = s.mgt.load ∧ (State.followFetch s w vp).1.mgt.training = s.mgt.training ∧
    (State.followFetch s w vp).1.tiers.boardDerated = s.tiers.boardDerated := by
  unfold State.followFetch
  (repeat' split) <;> simp

@[simp] theorem State.followRead_still (s : State) (w vp : Nat) :
    (State.followRead s w vp).1.mgt.load = s.mgt.load ∧ (State.followRead s w vp).1.mgt.training = s.mgt.training ∧
    (State.followRead s w vp).1.tiers.boardDerated = s.tiers.boardDerated := by
  unfold State.followRead
  dsimp only
  (repeat' split) <;> simp_all

@[simp] theorem copyWinPage_still (w : SWin) (u : State) (pg : Nat) :
    (copyWinPage w u pg).mgt.load = u.mgt.load ∧ (copyWinPage w u pg).mgt.training = u.mgt.training ∧
    (copyWinPage w u pg).tiers.boardDerated = u.tiers.boardDerated := by
  unfold copyWinPage
  (repeat' split) <;> simp

@[simp] theorem landPage_still (w : SWin) (u : State) (pg : Nat) :
    (landPage w u pg).mgt.load = u.mgt.load ∧ (landPage w u pg).mgt.training = u.mgt.training ∧
    (landPage w u pg).tiers.boardDerated = u.tiers.boardDerated := by
  simp [landPage]

@[simp] theorem State.landed_still (s : State) (w i : Nat) (sw : SWin) :
    (State.landed s w i sw).mgt.load = s.mgt.load ∧ (State.landed s w i sw).mgt.training = s.mgt.training ∧
    (State.landed s w i sw).tiers.boardDerated = s.tiers.boardDerated := by
  unfold State.landed
  (repeat' split) <;> simp

@[simp] theorem State.readFrame_still (s : State) (slot vp : Nat) :
    (State.readFrame s slot vp).1.mgt.load = s.mgt.load ∧ (State.readFrame s slot vp).1.mgt.training = s.mgt.training ∧
    (State.readFrame s slot vp).1.tiers.boardDerated = s.tiers.boardDerated := by
  unfold State.readFrame
  (repeat' split) <;> simp

@[simp] theorem State.readPages_still (slot : Nat) (a1 : Nat) (a2 : Nat) (a3 : Nat) (s : State) :
    (State.readPages slot a1 a2 a3 s).s.sec.busy = s.sec.busy ∧ (State.readPages slot a1 a2 a3 s).s.sec.image = s.sec.image ∧
    (State.readPages slot a1 a2 a3 s).s.sec.encls = s.sec.encls ∧ (State.readPages slot a1 a2 a3 s).s.mgt.load = s.mgt.load ∧
    (State.readPages slot a1 a2 a3 s).s.mgt.training = s.mgt.training ∧
    (State.readPages slot a1 a2 a3 s).s.tiers.boardDerated = s.tiers.boardDerated := by
  induction a1 generalizing a2 a3 s with
  | zero => simp [State.readPages]
  | succ n ih =>
    simp only [State.readPages]
    (repeat' split) <;> simp [ih]

@[simp] theorem State.readVA_still (s : State) (slot va n : Nat) :
    (State.readVA s slot va n).s.sec.busy = s.sec.busy ∧ (State.readVA s slot va n).s.sec.image = s.sec.image ∧
    (State.readVA s slot va n).s.sec.encls = s.sec.encls ∧ (State.readVA s slot va n).s.mgt.load = s.mgt.load ∧
    (State.readVA s slot va n).s.mgt.training = s.mgt.training ∧ (State.readVA s slot va n).s.tiers.boardDerated = s.tiers.boardDerated := by
  simp [State.readVA]

@[simp] theorem State.copyPage_still (s : State) (slot src dst : Nat) :
    (State.copyPage s slot src dst).mgt.load = s.mgt.load ∧ (State.copyPage s slot src dst).mgt.training = s.mgt.training ∧
    (State.copyPage s slot src dst).tiers.boardDerated = s.tiers.boardDerated := by
  unfold State.copyPage
  (repeat' split) <;> simp

@[simp] theorem State.undoHook_still (s : State) (slot vp : Nat) :
    (State.undoHook s slot vp).mgt.load = s.mgt.load ∧ (State.undoHook s slot vp).mgt.training = s.mgt.training ∧
    (State.undoHook s slot vp).tiers.boardDerated = s.tiers.boardDerated := by
  unfold State.undoHook
  dsimp only
  (repeat' split) <;> simp_all

@[simp] theorem State.takeScratch_still (s : State) (vp : Nat) :
    (State.takeScratch s vp).tiers.boardDerated = s.tiers.boardDerated := by
  unfold State.takeScratch
  (repeat' split) <;> simp

@[simp] theorem State.scratchHook_still (s : State) (slot vp : Nat) :
    (State.scratchHook s slot vp).tiers.boardDerated = s.tiers.boardDerated := by
  simp [State.scratchHook]

@[simp] theorem State.beforeWrite_still (s : State) (slot vp : Nat) :
    (State.beforeWrite s slot vp).mgt.load = s.mgt.load ∧ (State.beforeWrite s slot vp).mgt.training = s.mgt.training ∧
    (State.beforeWrite s slot vp).tiers.boardDerated = s.tiers.boardDerated := by
  unfold State.beforeWrite
  dsimp only
  (repeat' split) <;> simp_all

@[simp] theorem State.writeFrames_still (s : State) (p : Pte) (off : Nat) (bs : List Byte) :
    (State.writeFrames s p off bs).tiers.boardDerated = s.tiers.boardDerated := by
  unfold State.writeFrames
  (repeat' split) <;> simp

@[simp] theorem State.writePages_still (slot : Nat) (a1 : Nat) (a2 : Nat) (a3 : List Byte) (s : State) :
    (State.writePages slot a1 a2 a3 s).sec.busy = s.sec.busy ∧ (State.writePages slot a1 a2 a3 s).sec.image = s.sec.image ∧
    (State.writePages slot a1 a2 a3 s).sec.encls = s.sec.encls ∧ (State.writePages slot a1 a2 a3 s).mgt.load = s.mgt.load ∧
    (State.writePages slot a1 a2 a3 s).mgt.training = s.mgt.training ∧
    (State.writePages slot a1 a2 a3 s).tiers.boardDerated = s.tiers.boardDerated := by
  induction a1 generalizing a2 a3 s with
  | zero => simp [State.writePages]
  | succ n ih =>
    simp only [State.writePages]
    (repeat' split) <;> simp [ih]

@[simp] theorem State.writeVA_still (s : State) (slot va : Nat) (bs : List Byte) :
    (State.writeVA s slot va bs).sec.busy = s.sec.busy ∧ (State.writeVA s slot va bs).sec.image = s.sec.image ∧
    (State.writeVA s slot va bs).sec.encls = s.sec.encls ∧ (State.writeVA s slot va bs).mgt.load = s.mgt.load ∧
    (State.writeVA s slot va bs).mgt.training = s.mgt.training ∧ (State.writeVA s slot va bs).tiers.boardDerated = s.tiers.boardDerated := by
  simp [State.writeVA]

@[simp] theorem State.noteSram_still (s : State) (n bankBase : Nat) (met : List SramErr) :
    (State.noteSram s n bankBase met).mgt.load = s.mgt.load ∧ (State.noteSram s n bankBase met).mgt.training = s.mgt.training := by
  simp [State.noteSram]

@[simp] theorem State.tagFrame_still (s : State) (encl frame : Nat) :
    (State.tagFrame s encl frame).tiers.boardDerated = s.tiers.boardDerated := by
  simp [State.tagFrame]

@[simp] theorem mapPools_still (slot encl : Nat) (a1 : Nat) (a2 : List Pool) (s : State) :
    (mapPools slot encl a1 a2 s).tiers.boardDerated = s.tiers.boardDerated := by
  induction a2 generalizing a1 s with
  | nil => simp [mapPools]
  | cons x l ih =>
    simp only [mapPools]
    simp [ih]

@[simp] theorem tierAlloc_still (slot encl : Nat) (e : BitVec 512) (s : State) :
    (tierAlloc slot encl e s).s.tiers.boardDerated = s.tiers.boardDerated := by
  unfold tierAlloc
  dsimp only
  (repeat' split) <;> simp_all

@[simp] theorem unmapRange_still (slot : Nat) (o : AllocObj) (va pages : Nat) (s : State) :
    (unmapRange slot o va pages s).tiers.boardDerated = s.tiers.boardDerated := by
  simp [unmapRange]

@[simp] theorem endObj_still (o : AllocObj) (s : State) :
    (endObj o s).tiers.boardDerated = s.tiers.boardDerated := by
  simp [endObj]

@[simp] theorem freeRange_still (slot va pages : Nat) (s : State) :
    (freeRange slot va pages s).tiers.boardDerated = s.tiers.boardDerated := by
  unfold freeRange
  (repeat' split) <;> simp

@[simp] theorem tierFree_still (slot : Nat) (atMeridian : Bool) (e : BitVec 512) (s : State) :
    (tierFree slot atMeridian e s).s.tiers.boardDerated = s.tiers.boardDerated := by
  unfold tierFree
  dsimp only
  (repeat' split) <;> simp_all

@[simp] theorem State.stayPut_still (s : State) (m : Move) :
    (State.stayPut s m).tiers.boardDerated = s.tiers.boardDerated := by
  unfold State.stayPut
  (repeat' split) <;> simp

@[simp] theorem cancelMoves_still (f : Move → Bool) (s : State) :
    (cancelMoves f s).tiers.boardDerated = s.tiers.boardDerated := by
  simp [cancelMoves]

@[simp] theorem endRebalance_still (slot : Nat) (s : State) :
    (endRebalance slot s).tiers.boardDerated = s.tiers.boardDerated := by
  simp [endRebalance]

@[simp] theorem reserveMoves_still (slot : Nat) (retire : Bool) (rebal : Bool) (a1 : List (Nat × Pool)) (s : State) :
    (reserveMoves slot retire rebal a1 s).tiers.boardDerated = s.tiers.boardDerated := by
  induction a1 generalizing s with
  | nil => simp [reserveMoves]
  | cons x l ih =>
    simp only [reserveMoves]
    simp [ih]

@[simp] theorem tierMigrate_still (slot encl : Nat) (started : Bool) (e : BitVec 512) (s0 : State) :
    (tierMigrate slot encl started e s0).s.tiers.boardDerated = s0.tiers.boardDerated := by
  unfold tierMigrate
  dsimp only
  (repeat' split) <;> simp_all

@[simp] theorem takeFrames_still (slot encl core : Nat) (view : Option Nat) (a1 : Nat) (a2 : Nat) (s : State) :
    (takeFrames slot encl core view a1 a2 s).1.tiers.boardDerated = s.tiers.boardDerated := by
  induction a1 generalizing a2 s with
  | zero => simp [takeFrames]
  | succ n ih =>
    simp only [takeFrames]
    (repeat' split) <;> simp [ih]

@[simp] theorem tierWinCreate_still (slot encl : Nat) (e : BitVec 512) (s : State) :
    (tierWinCreate slot encl e s).s.sec.busy = s.sec.busy ∧ (tierWinCreate slot encl e s).s.sec.image = s.sec.image ∧
    (tierWinCreate slot encl e s).s.sec.encls = s.sec.encls ∧ (tierWinCreate slot encl e s).s.mgt.load = s.mgt.load ∧
    (tierWinCreate slot encl e s).s.mgt.training = s.mgt.training ∧
    (tierWinCreate slot encl e s).s.tiers.boardDerated = s.tiers.boardDerated := by
  unfold tierWinCreate
  dsimp only
  (repeat' split) <;> simp_all

@[simp] theorem writeWinRecords_still (slot : Nat) (s : State) :
    (writeWinRecords slot s).sec.busy = s.sec.busy ∧ (writeWinRecords slot s).sec.image = s.sec.image ∧
    (writeWinRecords slot s).sec.encls = s.sec.encls ∧ (writeWinRecords slot s).mgt.load = s.mgt.load ∧
    (writeWinRecords slot s).mgt.training = s.mgt.training ∧ (writeWinRecords slot s).tiers.boardDerated = s.tiers.boardDerated := by
  simp [writeWinRecords]

@[simp] theorem destroyWin_still (w : SWin) (s : State) :
    (destroyWin w s).sec.busy = s.sec.busy ∧ (destroyWin w s).sec.image = s.sec.image ∧ (destroyWin w s).sec.encls = s.sec.encls ∧
    (destroyWin w s).mgt.load = s.mgt.load ∧ (destroyWin w s).mgt.training = s.mgt.training ∧
    (destroyWin w s).tiers.boardDerated = s.tiers.boardDerated := by
  simp [destroyWin]

@[simp] theorem tierWinDestroy_still (slot : Nat) (atMeridian : Bool) (e : BitVec 512) (s : State) :
    (tierWinDestroy slot atMeridian e s).s.sec.busy = s.sec.busy ∧ (tierWinDestroy slot atMeridian e s).s.sec.image = s.sec.image ∧
    (tierWinDestroy slot atMeridian e s).s.sec.encls = s.sec.encls ∧ (tierWinDestroy slot atMeridian e s).s.mgt.load = s.mgt.load ∧
    (tierWinDestroy slot atMeridian e s).s.mgt.training = s.mgt.training ∧
    (tierWinDestroy slot atMeridian e s).s.tiers.boardDerated = s.tiers.boardDerated := by
  unfold tierWinDestroy
  dsimp only
  (repeat' split) <;> simp_all

@[simp] theorem tierCommand_still (slot encl : Nat) (atMeridian started : Bool) (e : BitVec 512) (s : State) :
    (tierCommand slot encl atMeridian started e s).s.sec.busy = s.sec.busy ∧
    (tierCommand slot encl atMeridian started e s).s.sec.image = s.sec.image ∧
    (tierCommand slot encl atMeridian started e s).s.sec.encls = s.sec.encls ∧
    (tierCommand slot encl atMeridian started e s).s.mgt.load = s.mgt.load ∧
    (tierCommand slot encl atMeridian started e s).s.mgt.training = s.mgt.training ∧
    (tierCommand slot encl atMeridian started e s).s.tiers.boardDerated = s.tiers.boardDerated := by
  unfold tierCommand
  (repeat' split) <;> simp

@[simp] theorem State.report_still (s : State) (q : Nat) (t : Started) (status bytes : Nat) :
    (State.report s q t status bytes).sec.busy = s.sec.busy ∧ (State.report s q t status bytes).sec.image = s.sec.image ∧
    (State.report s q t status bytes).sec.encls = s.sec.encls ∧ (State.report s q t status bytes).mgt.load = s.mgt.load ∧
    (State.report s q t status bytes).mgt.training = s.mgt.training ∧
    (State.report s q t status bytes).tiers.boardDerated = s.tiers.boardDerated := by
  simp [State.report]

@[simp] theorem State.dwtComplete_still (s : State) (q num status bytes : Nat) :
    (State.dwtComplete s q num status bytes).sec.busy = s.sec.busy ∧ (State.dwtComplete s q num status bytes).sec.image = s.sec.image ∧
    (State.dwtComplete s q num status bytes).sec.encls = s.sec.encls ∧ (State.dwtComplete s q num status bytes).mgt.load = s.mgt.load ∧
    (State.dwtComplete s q num status bytes).mgt.training = s.mgt.training ∧
    (State.dwtComplete s q num status bytes).tiers.boardDerated = s.tiers.boardDerated := by
  unfold State.dwtComplete
  dsimp only
  (repeat' split) <;> simp_all

@[simp] theorem failOps_still (cn status : Nat) (s : State) :
    (failOps cn status s).sec.busy = s.sec.busy ∧ (failOps cn status s).sec.image = s.sec.image ∧
    (failOps cn status s).sec.encls = s.sec.encls ∧ (failOps cn status s).mgt.load = s.mgt.load ∧
    (failOps cn status s).mgt.training = s.mgt.training ∧ (failOps cn status s).tiers.boardDerated = s.tiers.boardDerated := by
  simp [failOps]

@[simp] theorem readRest_still (slot va n : Nat) (h : MemRead) :
    (readRest slot va n h).mid.sec.busy = h.s.sec.busy ∧ (readRest slot va n h).mid.sec.image = h.s.sec.image ∧
    (readRest slot va n h).mid.sec.encls = h.s.sec.encls ∧ (readRest slot va n h).mid.mgt.load = h.s.mgt.load ∧
    (readRest slot va n h).mid.mgt.training = h.s.mgt.training ∧ (readRest slot va n h).mid.tiers.boardDerated = h.s.tiers.boardDerated ∧
    (readRest slot va n h).fin.sec.busy = h.s.sec.busy ∧ (readRest slot va n h).fin.sec.image = h.s.sec.image ∧
    (readRest slot va n h).fin.sec.encls = h.s.sec.encls ∧ (readRest slot va n h).fin.mgt.load = h.s.mgt.load ∧
    (readRest slot va n h).fin.mgt.training = h.s.mgt.training ∧ (readRest slot va n h).fin.tiers.boardDerated = h.s.tiers.boardDerated := by
  unfold readRest
  dsimp only
  simp

@[simp] theorem checkDesc_still (slot encl va : Nat) (reload : Bool) (s : State) :
    (checkDesc slot encl va reload s).s.sec.busy = s.sec.busy ∧ (checkDesc slot encl va reload s).s.sec.image = s.sec.image ∧
    (checkDesc slot encl va reload s).s.sec.encls = s.sec.encls ∧ (checkDesc slot encl va reload s).s.mgt.load = s.mgt.load ∧
    (checkDesc slot encl va reload s).s.mgt.training = s.mgt.training ∧
    (checkDesc slot encl va reload s).s.tiers.boardDerated = s.tiers.boardDerated := by
  unfold checkDesc
  dsimp only
  (repeat' split) <;> simp

@[simp] theorem loadCtx_still (slot encl va : Nat) (s : State) :
    (loadCtx slot encl va s).1.sec.busy = s.sec.busy ∧ (loadCtx slot encl va s).1.sec.image = s.sec.image ∧
    (loadCtx slot encl va s).1.sec.encls = s.sec.encls ∧ (loadCtx slot encl va s).1.mgt.load = s.mgt.load ∧
    (loadCtx slot encl va s).1.mgt.training = s.mgt.training ∧ (loadCtx slot encl va s).1.tiers.boardDerated = s.tiers.boardDerated := by
  unfold loadCtx
  dsimp only
  (repeat' split) <;> simp

@[simp] theorem replaceCtx_still (slot encl va : Nat) (s : State) :
    (replaceCtx slot encl va s).sec.busy = s.sec.busy ∧ (replaceCtx slot encl va s).sec.image = s.sec.image ∧
    (replaceCtx slot encl va s).sec.encls = s.sec.encls ∧ (replaceCtx slot encl va s).mgt.load = s.mgt.load ∧
    (replaceCtx slot encl va s).mgt.training = s.mgt.training ∧ (replaceCtx slot encl va s).tiers.boardDerated = s.tiers.boardDerated := by
  simp [replaceCtx]

@[simp] theorem coreStats_still (slot : Nat) (c : Ctx) (s : State) (n : Nat) :
    (coreStats slot c s n).sec.busy = s.sec.busy ∧ (coreStats slot c s n).sec.image = s.sec.image ∧
    (coreStats slot c s n).sec.encls = s.sec.encls ∧ (coreStats slot c s n).mgt.load = s.mgt.load ∧
    (coreStats slot c s n).mgt.training = s.mgt.training ∧ (coreStats slot c s n).tiers.boardDerated = s.tiers.boardDerated := by
  simp [coreStats]

@[simp] theorem writeStats_still (slot : Nat) (s : State) :
    (writeStats slot s).sec.busy = s.sec.busy ∧ (writeStats slot s).sec.image = s.sec.image ∧ (writeStats slot s).sec.encls = s.sec.encls ∧
    (writeStats slot s).mgt.load = s.mgt.load ∧ (writeStats slot s).mgt.training = s.mgt.training ∧
    (writeStats slot s).tiers.boardDerated = s.tiers.boardDerated := by
  simp only [writeStats, State.foldl_sec_busy, State.foldl_sec_image, State.foldl_sec_encls, State.foldl_mgt_load,
    State.foldl_mgt_training, State.foldl_tiers_boardDerated, coreStats_still, implies_true, and_self]

@[simp] theorem unloadCtx_still (slot : Nat) (s : State) :
    (unloadCtx slot s).1.sec.busy = s.sec.busy ∧ (unloadCtx slot s).1.sec.image = s.sec.image ∧
    (unloadCtx slot s).1.sec.encls = s.sec.encls ∧ (unloadCtx slot s).1.mgt.load = s.mgt.load ∧
    (unloadCtx slot s).1.mgt.training = s.mgt.training ∧ (unloadCtx slot s).1.tiers.boardDerated = s.tiers.boardDerated := by
  unfold unloadCtx
  dsimp only
  (repeat' split) <;> simp

@[simp] theorem switchInNow_still (slot encl : Nat) (s00 : State) :
    (switchInNow slot encl s00).tiers.boardDerated = s00.tiers.boardDerated := by
  simp [switchInNow]

@[simp] theorem saveReads_still (d : Desc) (s : State) (n : Nat) :
    (saveReads d s n).mgt.load = s.mgt.load ∧ (saveReads d s n).mgt.training = s.mgt.training := by
  simp [saveReads]

@[simp] theorem switchOutNow_still (slot : Nat) (s : State) :
    (switchOutNow slot s).sec.busy = s.sec.busy ∧ (switchOutNow slot s).sec.image = s.sec.image ∧
    (switchOutNow slot s).sec.encls = s.sec.encls ∧ (switchOutNow slot s).mgt.load = s.mgt.load ∧
    (switchOutNow slot s).mgt.training = s.mgt.training ∧ (switchOutNow slot s).tiers.boardDerated = s.tiers.boardDerated := by
  simp [switchOutNow]

@[simp] theorem dropFaulted_still (slot : Nat) (s0 : State) :
    (dropFaulted slot s0).sec.busy = s0.sec.busy ∧ (dropFaulted slot s0).sec.image = s0.sec.image ∧
    (dropFaulted slot s0).sec.encls = s0.sec.encls ∧ (dropFaulted slot s0).mgt.load = s0.mgt.load ∧
    (dropFaulted slot s0).mgt.training = s0.mgt.training ∧ (dropFaulted slot s0).tiers.boardDerated = s0.tiers.boardDerated := by
  simp [dropFaulted]

@[simp] theorem faultWhole_still (slot cause : Nat) (name : String) (s : State) :
    (faultWhole slot cause name s).mgt.load = s.mgt.load ∧ (faultWhole slot cause name s).mgt.training = s.mgt.training := by
  simp [faultWhole]

@[simp] theorem commitStore_still (f : Store → Store) (s : State) :
    (commitStore f s).mgt.load = s.mgt.load ∧ (commitStore f s).mgt.training = s.mgt.training := by
  simp [commitStore]

@[simp] theorem devStore_still (f : Store → Store) (s : State) :
    (devStore f s).mgt.load = s.mgt.load ∧ (devStore f s).mgt.training = s.mgt.training := by
  simp [devStore]

@[simp] theorem logRetired_still (core port : Nat) (s : State) :
    (logRetired core port s).mgt.load = s.mgt.load ∧ (logRetired core port s).mgt.training = s.mgt.training := by
  simp [logRetired]

@[simp] theorem retiredUser_still (s : State) (slot : Nat) :
    (retiredUser s slot).sec.busy = s.sec.busy ∧ (retiredUser s slot).sec.image = s.sec.image ∧
    (retiredUser s slot).sec.encls = s.sec.encls ∧ (retiredUser s slot).mgt.load = s.mgt.load ∧
    (retiredUser s slot).mgt.training = s.mgt.training ∧ (retiredUser s slot).tiers.boardDerated = s.tiers.boardDerated := by
  simp [retiredUser]

@[simp] theorem retireCore_still (n : Nat) (s : State) :
    (retireCore n s).sec.busy = s.sec.busy ∧ (retireCore n s).sec.image = s.sec.image ∧ (retireCore n s).sec.encls = s.sec.encls ∧
    (retireCore n s).mgt.load = s.mgt.load ∧ (retireCore n s).mgt.training = s.mgt.training ∧
    (retireCore n s).tiers.boardDerated = s.tiers.boardDerated := by
  simp [retireCore]

@[simp] theorem repairCore_still (s : State) (n : Nat) :
    (repairCore s n).sec.busy = s.sec.busy ∧ (repairCore s n).sec.image = s.sec.image ∧ (repairCore s n).sec.encls = s.sec.encls ∧
    (repairCore s n).mgt.load = s.mgt.load ∧ (repairCore s n).mgt.training = s.mgt.training ∧
    (repairCore s n).tiers.boardDerated = s.tiers.boardDerated := by
  simp [repairCore]

@[simp] theorem repairIdle_still (s : State) :
    (repairIdle s).sec.busy = s.sec.busy ∧ (repairIdle s).sec.image = s.sec.image ∧ (repairIdle s).sec.encls = s.sec.encls ∧
    (repairIdle s).mgt.load = s.mgt.load ∧ (repairIdle s).mgt.training = s.mgt.training ∧
    (repairIdle s).tiers.boardDerated = s.tiers.boardDerated := by
  simp [repairIdle]

@[simp] theorem checkRcv_still (slot va : Nat) (s : State) :
    (checkRcv slot va s).1.sec.busy = s.sec.busy ∧ (checkRcv slot va s).1.sec.image = s.sec.image ∧
    (checkRcv slot va s).1.sec.encls = s.sec.encls ∧ (checkRcv slot va s).1.mgt.load = s.mgt.load ∧
    (checkRcv slot va s).1.mgt.training = s.mgt.training ∧ (checkRcv slot va s).1.tiers.boardDerated = s.tiers.boardDerated := by
  unfold checkRcv
  (repeat' split) <;> simp

@[simp] theorem applyRcv_still (slot : Nat) (s : State) :
    (applyRcv slot s).sec.busy = s.sec.busy ∧ (applyRcv slot s).sec.image = s.sec.image ∧ (applyRcv slot s).sec.encls = s.sec.encls ∧
    (applyRcv slot s).mgt.load = s.mgt.load ∧ (applyRcv slot s).mgt.training = s.mgt.training ∧
    (applyRcv slot s).tiers.boardDerated = s.tiers.boardDerated := by
  unfold applyRcv
  (repeat' split) <;> simp

@[simp] theorem rcvSet_still (slot va : Nat) (s : State) :
    (rcvSet slot va s).1.sec.busy = s.sec.busy ∧ (rcvSet slot va s).1.sec.image = s.sec.image ∧
    (rcvSet slot va s).1.sec.encls = s.sec.encls ∧ (rcvSet slot va s).1.mgt.load = s.mgt.load ∧
    (rcvSet slot va s).1.mgt.training = s.mgt.training ∧ (rcvSet slot va s).1.tiers.boardDerated = s.tiers.boardDerated := by
  unfold rcvSet
  dsimp only
  (repeat' split) <;> simp

@[simp] theorem makeObj_still (slot encl : Nat) (r : AllocObj × List Nat) (s : State) {z : State}
    (h : makeObj slot encl r s = some z) : z.tiers.boardDerated = s.tiers.boardDerated := by
  unfold makeObj at h
  dsimp only at h
  (repeat' split at h) <;> first | (cases h; done) | (injection h with h; subst h; simp)

@[simp] theorem makeObjs_still (slot encl : Nat) (l : List (AllocObj × List Nat)) (s : State) {z : State}
    (h : makeObjs slot encl l s = some z) : z.tiers.boardDerated = s.tiers.boardDerated := by
  induction l generalizing s with
  | nil => simp only [makeObjs, Option.some.injEq] at h; subst h; simp
  | cons r l ih =>
    simp only [makeObjs] at h
    split at h
    · cases h
    · exact (ih _ h).trans (makeObj_still _ _ _ _ ‹makeObj _ _ _ _ = some _›)

@[simp] theorem restorePage_still (slot : Nat) (s : State) (p : Nat × List (Nat × Byte)) :
    (restorePage slot s p).tiers.boardDerated = s.tiers.boardDerated := by
  unfold restorePage
  (repeat' split) <;> simp

@[simp] theorem restorePages_still (slot : Nat) (mirror : Bool) (x : Starfix) (s : State) :
    (restorePages slot mirror x s).mgt.load = s.mgt.load ∧ (restorePages slot mirror x s).mgt.training = s.mgt.training ∧
    (restorePages slot mirror x s).tiers.boardDerated = s.tiers.boardDerated := by
  unfold restorePages
  (repeat' split) <;> simp

@[simp] theorem restoreWin_still (slot : Nat) (s : State) (r : Nat × Nat) :
    (restoreWin slot s r).mgt.load = s.mgt.load ∧ (restoreWin slot s r).mgt.training = s.mgt.training ∧
    (restoreWin slot s r).tiers.boardDerated = s.tiers.boardDerated := by
  unfold restoreWin
  (repeat' split) <;> simp

@[simp] theorem endConn_still (slot : Nat) (s : State) (p : Nat × ConnDesc) :
    (endConn slot s p).sec.busy = s.sec.busy ∧ (endConn slot s p).sec.image = s.sec.image ∧ (endConn slot s p).sec.encls = s.sec.encls ∧
    (endConn slot s p).mgt.load = s.mgt.load ∧ (endConn slot s p).mgt.training = s.mgt.training ∧
    (endConn slot s p).tiers.boardDerated = s.tiers.boardDerated := by
  simp [endConn]

@[simp] theorem restoreFrom_still (slot encl : Nat) (mirror : Bool) (x : Starfix) (s : State) :
    (restoreFrom slot encl mirror x s).sec.busy = s.sec.busy ∧ (restoreFrom slot encl mirror x s).sec.image = s.sec.image ∧
    (restoreFrom slot encl mirror x s).sec.encls = s.sec.encls ∧ (restoreFrom slot encl mirror x s).mgt.load = s.mgt.load ∧
    (restoreFrom slot encl mirror x s).mgt.training = s.mgt.training ∧
    (restoreFrom slot encl mirror x s).tiers.boardDerated = s.tiers.boardDerated := by
  simp [restoreFrom]

@[simp] theorem restore_still (slot encl : Nat) (step : W64) (mirror : Bool) (s : State) :
    (restore slot encl step mirror s).1.sec.busy = s.sec.busy ∧ (restore slot encl step mirror s).1.sec.image = s.sec.image ∧
    (restore slot encl step mirror s).1.sec.encls = s.sec.encls ∧ (restore slot encl step mirror s).1.mgt.load = s.mgt.load ∧
    (restore slot encl step mirror s).1.mgt.training = s.mgt.training ∧
    (restore slot encl step mirror s).1.tiers.boardDerated = s.tiers.boardDerated := by
  unfold restore
  dsimp only
  split
  · simp
  · split
    · simp
    · split
      · simp
      · rename_i x _ _ s1 h
        have h1 : s1.sec.busy = s.sec.busy ∧ s1.sec.image = s.sec.image ∧
            s1.sec.encls = s.sec.encls ∧ s1.mgt.load = s.mgt.load ∧
            s1.mgt.training = s.mgt.training ∧ s1.tiers.boardDerated = s.tiers.boardDerated := by
          split at h
          · simp [makeObjs_still _ _ _ _ h, makeObjs_same _ _ _ _ h]
          · simp only [Option.some.injEq] at h; subst h; simp
        (repeat' split) <;> simp [h1]

@[simp] theorem acceptRec_still (slot : Nat) (r : HostRec) (s : State) :
    (acceptRec slot r s).sec.busy = s.sec.busy ∧ (acceptRec slot r s).sec.image = s.sec.image ∧
    (acceptRec slot r s).sec.encls = s.sec.encls ∧ (acceptRec slot r s).mgt.load = s.mgt.load ∧
    (acceptRec slot r s).mgt.training = s.mgt.training ∧ (acceptRec slot r s).tiers.boardDerated = s.tiers.boardDerated := by
  simp [acceptRec]

@[simp] theorem takeRecs_still (slot encl : Nat) (abort : Bool) (l : List HostRec) (left got : Nat) (s : State) :
    (takeRecs slot encl abort l left got s).1.sec.busy = s.sec.busy ∧ (takeRecs slot encl abort l left got s).1.sec.image = s.sec.image ∧
    (takeRecs slot encl abort l left got s).1.sec.encls = s.sec.encls ∧ (takeRecs slot encl abort l left got s).1.mgt.load = s.mgt.load ∧
    (takeRecs slot encl abort l left got s).1.mgt.training = s.mgt.training ∧
    (takeRecs slot encl abort l left got s).1.tiers.boardDerated = s.tiers.boardDerated := by
  induction l generalizing left got s with
  | nil => unfold takeRecs; (repeat' split) <;> simp
  | cons r l ih =>
    unfold takeRecs
    (repeat' split) <;> simp [ih]

@[simp] theorem dmaCount_still (slot : Nat) (e : BitVec 512) (status : Nat) (s : State) :
    (dmaCount slot e status s).mgt.load = s.mgt.load ∧ (dmaCount slot e status s).mgt.training = s.mgt.training := by
  simp [dmaCount]

@[simp] theorem noIdeErr_still (slot k : Nat) (s : State) :
    (noIdeErr slot k s).mgt.load = s.mgt.load ∧ (noIdeErr slot k s).mgt.training = s.mgt.training := by
  simp [noIdeErr]

@[simp] theorem dmaIn_still (slot encl : Nat) (e : BitVec 512) (recs : List HostRec) (abort started : Bool) (s : State) :
    (dmaIn slot encl e recs abort started s).s.sec.busy = s.sec.busy ∧ (dmaIn slot encl e recs abort started s).s.sec.image = s.sec.image ∧
    (dmaIn slot encl e recs abort started s).s.sec.encls = s.sec.encls ∧ (dmaIn slot encl e recs abort started s).s.mgt.load = s.mgt.load ∧
    (dmaIn slot encl e recs abort started s).s.mgt.training = s.mgt.training ∧
    (dmaIn slot encl e recs abort started s).s.tiers.boardDerated = s.tiers.boardDerated := by
  unfold dmaIn
  (repeat' split) <;> simp

@[simp] theorem sealRecs_still (slot encl : Nat) (a1 : Nat) (a2 : Nat) (a3 : Nat) (a4 : Nat) (a5 : Nat) (s : State) :
    (sealRecs slot encl a1 a2 a3 a4 a5 s).1.sec.busy = s.sec.busy ∧ (sealRecs slot encl a1 a2 a3 a4 a5 s).1.sec.image = s.sec.image ∧
    (sealRecs slot encl a1 a2 a3 a4 a5 s).1.sec.encls = s.sec.encls ∧ (sealRecs slot encl a1 a2 a3 a4 a5 s).1.mgt.load = s.mgt.load ∧
    (sealRecs slot encl a1 a2 a3 a4 a5 s).1.mgt.training = s.mgt.training ∧
    (sealRecs slot encl a1 a2 a3 a4 a5 s).1.tiers.boardDerated = s.tiers.boardDerated := by
  induction a1 generalizing a2 a3 a4 a5 s with
  | zero => simp [sealRecs]
  | succ n ih =>
    simp only [sealRecs]
    (repeat' split) <;> simp [ih]

@[simp] theorem dmaOut_still (slot encl : Nat) (e : BitVec 512) (started : Bool) (s : State) :
    (dmaOut slot encl e started s).s.sec.busy = s.sec.busy ∧ (dmaOut slot encl e started s).s.sec.image = s.sec.image ∧
    (dmaOut slot encl e started s).s.sec.encls = s.sec.encls ∧ (dmaOut slot encl e started s).s.mgt.load = s.mgt.load ∧
    (dmaOut slot encl e started s).s.mgt.training = s.mgt.training ∧
    (dmaOut slot encl e started s).s.tiers.boardDerated = s.tiers.boardDerated := by
  unfold dmaOut
  dsimp only
  (repeat' split) <;> simp

@[simp] theorem stepEight_still (slot encl : Nat) (s : State) :
    (stepEight slot encl s).sec.busy = s.sec.busy ∧ (stepEight slot encl s).sec.image = s.sec.image ∧
    (stepEight slot encl s).sec.encls = s.sec.encls ∧ (stepEight slot encl s).mgt.load = s.mgt.load ∧
    (stepEight slot encl s).mgt.training = s.mgt.training ∧ (stepEight slot encl s).tiers.boardDerated = s.tiers.boardDerated := by
  unfold stepEight
  (repeat' split) <;> simp

@[simp] theorem resumeCtx_still (slot encl : Nat) (s : State) :
    (resumeCtx slot encl s).s.sec.busy = s.sec.busy ∧ (resumeCtx slot encl s).s.sec.image = s.sec.image ∧
    (resumeCtx slot encl s).s.sec.encls = s.sec.encls ∧ (resumeCtx slot encl s).s.mgt.load = s.mgt.load ∧
    (resumeCtx slot encl s).s.mgt.training = s.mgt.training ∧ (resumeCtx slot encl s).s.tiers.boardDerated = s.tiers.boardDerated := by
  unfold resumeCtx
  dsimp only
  (repeat' split) <;> simp

@[simp] theorem switchOut_still (slot : Nat) (preempt started : Bool) (s : State) :
    (switchOut slot preempt started s).s.sec.busy = s.sec.busy ∧ (switchOut slot preempt started s).s.sec.image = s.sec.image ∧
    (switchOut slot preempt started s).s.sec.encls = s.sec.encls ∧ (switchOut slot preempt started s).s.mgt.load = s.mgt.load ∧
    (switchOut slot preempt started s).s.mgt.training = s.mgt.training ∧
    (switchOut slot preempt started s).s.tiers.boardDerated = s.tiers.boardDerated := by
  unfold switchOut
  dsimp only
  (repeat' split) <;> simp

@[simp] theorem switchIn_still (slot encl : Nat) (started : Bool) (s : State) :
    (switchIn slot encl started s).s.tiers.boardDerated = s.tiers.boardDerated := by
  unfold switchIn
  dsimp only
  (repeat' split) <;> simp

@[simp] theorem dwtPost_still (slot : Nat) (e : BitVec 512) (s : State) :
    (dwtPost slot e s).s.sec.busy = s.sec.busy ∧ (dwtPost slot e s).s.sec.image = s.sec.image ∧
    (dwtPost slot e s).s.sec.encls = s.sec.encls ∧ (dwtPost slot e s).s.mgt.load = s.mgt.load ∧
    (dwtPost slot e s).s.mgt.training = s.mgt.training ∧ (dwtPost slot e s).s.tiers.boardDerated = s.tiers.boardDerated := by
  unfold dwtPost
  dsimp only
  (repeat' split) <;> simp

@[simp] theorem ctxLoad_still (slot encl va : Nat) (s : State) :
    (ctxLoad slot encl va s).s.sec.busy = s.sec.busy ∧ (ctxLoad slot encl va s).s.sec.image = s.sec.image ∧
    (ctxLoad slot encl va s).s.sec.encls = s.sec.encls ∧ (ctxLoad slot encl va s).s.mgt.load = s.mgt.load ∧
    (ctxLoad slot encl va s).s.mgt.training = s.mgt.training ∧ (ctxLoad slot encl va s).s.tiers.boardDerated = s.tiers.boardDerated := by
  unfold ctxLoad
  dsimp only
  (repeat' split) <;> simp

@[simp] theorem controlCommand_still (slot encl : Nat) (x : Posted) (s : State) :
    (controlCommand slot encl x s).s.sec.busy = s.sec.busy ∧ (controlCommand slot encl x s).s.sec.image = s.sec.image ∧
    (controlCommand slot encl x s).s.sec.encls = s.sec.encls ∧ (controlCommand slot encl x s).s.mgt.load = s.mgt.load ∧
    (controlCommand slot encl x s).s.mgt.training = s.mgt.training ∧
    (controlCommand slot encl x s).s.tiers.boardDerated = s.tiers.boardDerated := by
  unfold controlCommand
  dsimp only
  (repeat' split) <;> simp

@[simp] theorem runPosted_still (mer : Bool) (slot : Nat) (x : Posted) (s : State) :
    (runPosted mer slot x s).s.sec.busy = s.sec.busy ∧ (runPosted mer slot x s).s.sec.image = s.sec.image ∧
    (runPosted mer slot x s).s.sec.encls = s.sec.encls ∧ (runPosted mer slot x s).s.mgt.load = s.mgt.load ∧
    (runPosted mer slot x s).s.mgt.training = s.mgt.training ∧ (runPosted mer slot x s).s.tiers.boardDerated = s.tiers.boardDerated := by
  unfold runPosted
  (repeat' split) <;> simp

@[simp] theorem pumpSlot_still (mer : Bool) (slot : Nat) (a1 : Nat) (s : State) :
    (pumpSlot mer slot a1 s).sec.busy = s.sec.busy ∧ (pumpSlot mer slot a1 s).sec.image = s.sec.image ∧
    (pumpSlot mer slot a1 s).sec.encls = s.sec.encls ∧ (pumpSlot mer slot a1 s).mgt.load = s.mgt.load ∧
    (pumpSlot mer slot a1 s).mgt.training = s.mgt.training ∧ (pumpSlot mer slot a1 s).tiers.boardDerated = s.tiers.boardDerated := by
  induction a1 generalizing s with
  | zero => simp [pumpSlot]
  | succ n ih =>
    simp only [pumpSlot]
    (repeat' split) <;> simp [ih]

@[simp] theorem pumpRounds_still (mer : Option Nat) (a1 : Nat) (s : State) :
    (pumpRounds mer a1 s).sec.busy = s.sec.busy ∧ (pumpRounds mer a1 s).sec.image = s.sec.image ∧
    (pumpRounds mer a1 s).sec.encls = s.sec.encls ∧ (pumpRounds mer a1 s).mgt.load = s.mgt.load ∧
    (pumpRounds mer a1 s).mgt.training = s.mgt.training ∧ (pumpRounds mer a1 s).tiers.boardDerated = s.tiers.boardDerated := by
  induction a1 generalizing s with
  | zero => simp [pumpRounds]
  | succ n ih =>
    simp only [pumpRounds]
    simp [ih]

@[simp] theorem State.pumpAt_still (s : State) (mer : Option Nat) :
    (State.pumpAt s mer).sec.busy = s.sec.busy ∧ (State.pumpAt s mer).sec.image = s.sec.image ∧
    (State.pumpAt s mer).sec.encls = s.sec.encls ∧ (State.pumpAt s mer).mgt.load = s.mgt.load ∧
    (State.pumpAt s mer).mgt.training = s.mgt.training ∧ (State.pumpAt s mer).tiers.boardDerated = s.tiers.boardDerated := by
  simp [State.pumpAt]

@[simp] theorem State.close_still (s t : State) :
    (State.close s t).sec.busy = t.sec.busy ∧ (State.close s t).sec.image = t.sec.image ∧ (State.close s t).sec.encls = t.sec.encls ∧
    (State.close s t).mgt.load = t.mgt.load ∧ (State.close s t).mgt.training = t.mgt.training ∧
    (State.close s t).tiers.boardDerated = t.tiers.boardDerated := by
  simp [State.close]

end Sys2Proof.Machine
end

section
/-! What closing a state leaves of every core's derating and of every port's link. -/

namespace Sys2Proof.Machine

variable {β : Type}

/-- The steps that the load re-verification took from core `i` of a table, and whether it is derated (R423). -/
def coreDerating (cs : Tbl Core) (i : Nat) : Nat × Bool := ((Tbl.get {} cs i).loadSteps, (Tbl.get {} cs i).derated)

/-- Whether port `i` of a table owes a retrain, and whether its link is up. -/
def portLine (ps : Tbl Net) (i : Nat) : Bool × Bool := ((Tbl.get {} ps i).retrainDue, (Tbl.get {} ps i).linkUp)

@[simp] theorem coreDerating_ite (c : Prop) [Decidable c] (a b : Tbl Core) (i : Nat) :
    coreDerating (if c then a else b) i = if c then coreDerating a i else coreDerating b i := apply_ite (coreDerating · i) c a b

@[simp] theorem portLine_ite (c : Prop) [Decidable c] (a b : Tbl Net) (i : Nat) :
    portLine (if c then a else b) i = if c then portLine a i else portLine b i := apply_ite (portLine · i) c a b

@[simp] theorem coreDerating_foldl (f : State → β → State) (l : List β) (s : State) (i : Nat)
    (h : ∀ s x, coreDerating (f s x).cores i = coreDerating s.cores i) :
    coreDerating (l.foldl f s).cores i = coreDerating s.cores i := foldl_keeps (fun u => coreDerating u.cores i) f l s h

@[simp] theorem portLine_foldl (f : State → β → State) (l : List β) (s : State) (i : Nat)
    (h : ∀ s x, portLine (f s x).nets i = portLine s.nets i) :
    portLine (l.foldl f s).nets i = portLine s.nets i := foldl_keeps (fun u => portLine u.nets i) f l s h

/-- A table of cores whose every row keeps its core's derating. -/
theorem coreDerating_map (g : Nat × Core → Nat × Core)
    (h : ∀ p, (g p).1 = p.1 ∧ (g p).2.loadSteps = p.2.loadSteps ∧ (g p).2.derated = p.2.derated) (cs : Tbl Core) (i : Nat) :
    coreDerating (cs.map g) i = coreDerating cs i := by
  induction cs with
  | nil => rfl
  | cons p cs ih =>
    obtain ⟨hkey, hsteps, hderated⟩ := h p
    simp only [coreDerating, List.map_cons, Tbl.get, hkey] at ih ⊢
    split
    · rw [hsteps, hderated]
    · exact ih

@[simp] theorem Core.noteRows_derating (c : Core) (now : Nat) (ce ue : List Nat) :
    (c.noteRows now ce ue).loadSteps = c.loadSteps ∧ (c.noteRows now ce ue).derated = c.derated := ⟨rfl, rfl⟩

@[simp] theorem Core.applySpares_derating (c : Core) : c.applySpares.loadSteps = c.loadSteps ∧ c.applySpares.derated = c.derated :=
  ⟨rfl, rfl⟩

@[simp] theorem Core.wakes_derating (c : Core) (mhz : Nat) : (c.wakes mhz).loadSteps = c.loadSteps ∧ (c.wakes mhz).derated = c.derated := by
  unfold Core.wakes
  split <;> exact ⟨rfl, rfl⟩

theorem Core.replaceRow_derating (r : Core × Bool) (row : Nat) :
    (Core.replaceRow r row).1.loadSteps = r.1.loadSteps ∧ (Core.replaceRow r row).1.derated = r.1.derated := by
  unfold Core.replaceRow
  dsimp only
  split <;> exact ⟨rfl, rfl⟩

@[simp] theorem Core.replaceRows_derating (c : Core) :
    c.replaceRows.1.loadSteps = c.loadSteps ∧ c.replaceRows.1.derated = c.derated := by
  suffices h : ∀ (l : List Nat) (r : Core × Bool), (l.foldl Core.replaceRow r).1.loadSteps = r.1.loadSteps
      ∧ (l.foldl Core.replaceRow r).1.derated = r.1.derated from h c.rowMarks ({ c with rowMarks := [] }, true)
  intro l
  induction l with
  | nil => exact fun _ => ⟨rfl, rfl⟩
  | cons x l ih =>
    intro r
    obtain ⟨h1, h2⟩ := ih (Core.replaceRow r x)
    obtain ⟨h3, h4⟩ := Core.replaceRow_derating r x
    exact ⟨h1.trans h3, h2.trans h4⟩

/-- A core written with its derating kept leaves every core's. -/
@[simp] theorem State.setCore_derating (s : State) (n : Nat) (c : Core) (i : Nat)
    (h1 : c.loadSteps = (s.core n).loadSteps) (h2 : c.derated = (s.core n).derated) :
    coreDerating (State.setCore s n c).cores i = coreDerating s.cores i := by
  change (((s.setCore n c).core i).loadSteps, ((s.setCore n c).core i).derated) = ((s.core i).loadSteps, (s.core i).derated)
  by_cases hi : i = n
  · rw [hi, State.core_setCore_self, h1, h2]
  · rw [State.core_setCore_ne s c hi]

@[simp] theorem State.errCore_derating (s : State) (n k : Nat) (i : Nat) :
    coreDerating (State.errCore s n k).cores i = coreDerating s.cores i := by
  simp [State.errCore]

@[simp] theorem State.setCoreCtx_derating (s : State) (slot n : Nat) (l : CoreCtx) (i : Nat) :
    coreDerating (State.setCoreCtx s slot n l).cores i = coreDerating s.cores i := by
  simp [State.setCoreCtx]

@[simp] theorem State.noteSram_derating (s : State) (n bankBase : Nat) (met : List SramErr) (i : Nat) :
    coreDerating (State.noteSram s n bankBase met).cores i = coreDerating s.cores i := by
  simp [State.noteSram]

@[simp] theorem replaceCtx_derating (slot encl va : Nat) (s : State) (i : Nat) :
    coreDerating (replaceCtx slot encl va s).cores i = coreDerating s.cores i := by
  simp [replaceCtx]

@[simp] theorem dropCores_derating (slot : Nat) (s : State) (i : Nat) :
    coreDerating (dropCores slot s).cores i = coreDerating s.cores i := by
  refine coreDerating_map _ (fun p => ?_) s.cores i
  (repeat' split) <;> exact ⟨rfl, rfl, rfl⟩

@[simp] theorem unloadNow_derating (slot : Nat) (s : State) (i : Nat) :
    coreDerating (unloadNow slot s).cores i = coreDerating s.cores i := by
  simp [unloadNow]

@[simp] theorem unloadCtx_derating (slot : Nat) (s : State) (i : Nat) :
    coreDerating (unloadCtx slot s).1.cores i = coreDerating s.cores i := by
  unfold unloadCtx
  dsimp only
  (repeat' split) <;> simp

@[simp] theorem shadowCore_derating (slot : Nat) (s : State) (n : Nat) (i : Nat) :
    coreDerating (shadowCore slot s n).cores i = coreDerating s.cores i := by
  simp [shadowCore]

@[simp] theorem showShadow_derating (slot : Nat) (s : State) (i : Nat) :
    coreDerating (showShadow slot s).cores i = coreDerating s.cores i := by
  simp [showShadow]

@[simp] theorem switchInNow_derating (slot encl : Nat) (s00 : State) (i : Nat) :
    coreDerating (switchInNow slot encl s00).cores i = coreDerating s00.cores i := by
  simp [switchInNow]

@[simp] theorem saveReads_derating (d : Desc) (s : State) (n : Nat) (i : Nat) :
    coreDerating (saveReads d s n).cores i = coreDerating s.cores i := by
  simp [saveReads]

@[simp] theorem switchOutNow_derating (slot : Nat) (s : State) (i : Nat) :
    coreDerating (switchOutNow slot s).cores i = coreDerating s.cores i := by
  simp [switchOutNow]

@[simp] theorem dropFaulted_derating (slot : Nat) (s0 : State) (i : Nat) :
    coreDerating (dropFaulted slot s0).cores i = coreDerating s0.cores i := by
  simp [dropFaulted]

@[simp] theorem retiredUser_derating (s : State) (slot : Nat) (i : Nat) :
    coreDerating (retiredUser s slot).cores i = coreDerating s.cores i := by
  simp [retiredUser]

@[simp] theorem retireCore_derating (n : Nat) (s : State) (i : Nat) :
    coreDerating (retireCore n s).cores i = coreDerating s.cores i := by
  simp [retireCore]

@[simp] theorem repairCore_derating (s : State) (n : Nat) (i : Nat) :
    coreDerating (repairCore s n).cores i = coreDerating s.cores i := by
  simp [repairCore]

@[simp] theorem repairIdle_derating (s : State) (i : Nat) :
    coreDerating (repairIdle s).cores i = coreDerating s.cores i := by
  simp [repairIdle]

@[simp] theorem State.dropShadow_derating (s : State) (slot : Nat) (i : Nat) :
    coreDerating (State.dropShadow s slot).cores i = coreDerating s.cores i := by
  refine coreDerating_map _ (fun p => ?_) s.cores i
  (repeat' split) <;> exact ⟨rfl, rfl, rfl⟩

@[simp] theorem applyRcv_derating (slot : Nat) (s : State) (i : Nat) :
    coreDerating (applyRcv slot s).cores i = coreDerating s.cores i := by
  unfold applyRcv
  (repeat' split) <;> simp

@[simp] theorem rcvSet_derating (slot va : Nat) (s : State) (i : Nat) :
    coreDerating (rcvSet slot va s).1.cores i = coreDerating s.cores i := by
  unfold rcvSet
  dsimp only
  (repeat' split) <;> simp

@[simp] theorem restoreFrom_derating (slot encl : Nat) (mirror : Bool) (x : Starfix) (s : State) (i : Nat) :
    coreDerating (restoreFrom slot encl mirror x s).cores i = coreDerating s.cores i := by
  simp [restoreFrom]

@[simp] theorem restore_derating (slot encl : Nat) (step : W64) (mirror : Bool) (s : State) (i : Nat) :
    coreDerating (restore slot encl step mirror s).1.cores i = coreDerating s.cores i := by
  unfold restore
  dsimp only
  split
  · simp
  · split
    · simp
    · split
      · simp
      · rename_i x _ _ s1 h
        have h1 : coreDerating s1.cores i = coreDerating s.cores i := by
          split at h
          · rw [show s1.cores = s.cores by simp [makeObjs_same _ _ _ _ h]]
          · simp only [Option.some.injEq] at h; subst h; simp
        (repeat' split) <;> simp [h1]

@[simp] theorem resumeStreams_derating (slot : Nat) (s : State) (i : Nat) :
    coreDerating (resumeStreams slot s).cores i = coreDerating s.cores i := by
  simp [resumeStreams]

@[simp] theorem stepEight_derating (slot encl : Nat) (s : State) (i : Nat) :
    coreDerating (stepEight slot encl s).cores i = coreDerating s.cores i := by
  unfold stepEight
  (repeat' split) <;> simp

@[simp] theorem resumeCtx_derating (slot encl : Nat) (s : State) (i : Nat) :
    coreDerating (resumeCtx slot encl s).s.cores i = coreDerating s.cores i := by
  unfold resumeCtx
  dsimp only
  (repeat' split) <;> simp

@[simp] theorem switchOut_derating (slot : Nat) (preempt started : Bool) (s : State) (i : Nat) :
    coreDerating (switchOut slot preempt started s).s.cores i = coreDerating s.cores i := by
  unfold switchOut
  dsimp only
  (repeat' split) <;> simp

@[simp] theorem switchIn_derating (slot encl : Nat) (started : Bool) (s : State) (i : Nat) :
    coreDerating (switchIn slot encl started s).s.cores i = coreDerating s.cores i := by
  unfold switchIn
  dsimp only
  (repeat' split) <;> simp

@[simp] theorem controlCommand_derating (slot encl : Nat) (x : Posted) (s : State) (i : Nat) :
    coreDerating (controlCommand slot encl x s).s.cores i = coreDerating s.cores i := by
  unfold controlCommand
  dsimp only
  (repeat' split) <;> simp

@[simp] theorem runPosted_derating (mer : Bool) (slot : Nat) (x : Posted) (s : State) (i : Nat) :
    coreDerating (runPosted mer slot x s).s.cores i = coreDerating s.cores i := by
  unfold runPosted
  (repeat' split) <;> simp

@[simp] theorem pumpSlot_derating (mer : Bool) (slot : Nat) (a1 : Nat) (s : State) (i : Nat) :
    coreDerating (pumpSlot mer slot a1 s).cores i = coreDerating s.cores i := by
  induction a1 generalizing s with
  | zero => simp [pumpSlot]
  | succ n ih =>
    simp only [pumpSlot]
    (repeat' split) <;> simp [ih]

@[simp] theorem pumpRounds_derating (mer : Option Nat) (a1 : Nat) (s : State) (i : Nat) :
    coreDerating (pumpRounds mer a1 s).cores i = coreDerating s.cores i := by
  induction a1 generalizing s with
  | zero => simp [pumpRounds]
  | succ n ih =>
    simp only [pumpRounds]
    simp [ih]

@[simp] theorem State.pumpAt_derating (s : State) (mer : Option Nat) (i : Nat) :
    coreDerating (State.pumpAt s mer).cores i = coreDerating s.cores i := by
  simp [State.pumpAt]

@[simp] theorem State.close_derating (s t : State) (i : Nat) :
    coreDerating (State.close s t).cores i = coreDerating t.cores i := by
  simp [State.close]

/-- A port written with its link kept leaves every port's. -/
@[simp] theorem State.setNet_line (s : State) (n : Nat) (p : Net) (i : Nat)
    (h1 : p.retrainDue = (s.net n).retrainDue) (h2 : p.linkUp = (s.net n).linkUp) :
    portLine (State.setNet s n p).nets i = portLine s.nets i := by
  change (((s.setNet n p).net i).retrainDue, ((s.setNet n p).net i).linkUp) = ((s.net i).retrainDue, (s.net i).linkUp)
  by_cases hi : i = n
  · rw [hi, State.net_setNet_self, h1, h2]
  · rw [State.net_setNet_ne s p hi]

@[simp] theorem txPush_line (n : Nat) (t : TxFrame) (s : State) (i : Nat) :
    portLine (txPush n t s).nets i = portLine s.nets i := by
  simp [txPush]

@[simp] theorem State.sendSealed_line (s : State) (cn txn key : Nat) (h : Hdr) (size : Nat) (payload : Payload) (i : Nat) :
    portLine (State.sendSealed s cn txn key h size payload).nets i = portLine s.nets i := by
  unfold State.sendSealed
  dsimp only
  (repeat' split) <;> simp

@[simp] theorem sendOpen_line (cn : Nat) (s : State) (i : Nat) :
    portLine (sendOpen cn s).nets i = portLine s.nets i := by
  simp [sendOpen]

@[simp] theorem openCollOne_line (slot encl : Nat) (s : State) (d : (Nat × Nat) × Nat) (i : Nat) :
    portLine (openCollOne slot encl s d).nets i = portLine s.nets i := by
  simp [openCollOne]

@[simp] theorem openColl_line (slot encl : Nat) (s : State) (i : Nat) :
    portLine (openColl slot encl s).nets i = portLine s.nets i := by
  simp [openColl]

@[simp] theorem switchInNow_line (slot encl : Nat) (s00 : State) (i : Nat) :
    portLine (switchInNow slot encl s00).nets i = portLine s00.nets i := by
  simp [switchInNow]

@[simp] theorem restoreConn_line (slot encl : Nat) (s : State) (p : Nat × ConnDesc) (i : Nat) :
    portLine (restoreConn slot encl s p).nets i = portLine s.nets i := by
  simp [restoreConn]

@[simp] theorem restoreFrom_line (slot encl : Nat) (mirror : Bool) (x : Starfix) (s : State) (i : Nat) :
    portLine (restoreFrom slot encl mirror x s).nets i = portLine s.nets i := by
  simp [restoreFrom]

@[simp] theorem restore_line (slot encl : Nat) (step : W64) (mirror : Bool) (s : State) (i : Nat) :
    portLine (restore slot encl step mirror s).1.nets i = portLine s.nets i := by
  unfold restore
  dsimp only
  split
  · simp
  · split
    · simp
    · split
      · simp
      · rename_i x _ _ s1 h
        have h1 : portLine s1.nets i = portLine s.nets i := by
          split at h
          · rw [show s1.nets = s.nets by simp [makeObjs_same _ _ _ _ h]]
          · simp only [Option.some.injEq] at h; subst h; simp
        (repeat' split) <;> simp [h1]

@[simp] theorem switchIn_line (slot encl : Nat) (started : Bool) (s : State) (i : Nat) :
    portLine (switchIn slot encl started s).s.nets i = portLine s.nets i := by
  unfold switchIn
  dsimp only
  (repeat' split) <;> simp

@[simp] theorem controlCommand_line (slot encl : Nat) (x : Posted) (s : State) (i : Nat) :
    portLine (controlCommand slot encl x s).s.nets i = portLine s.nets i := by
  unfold controlCommand
  dsimp only
  (repeat' split) <;> simp

@[simp] theorem runPosted_line (mer : Bool) (slot : Nat) (x : Posted) (s : State) (i : Nat) :
    portLine (runPosted mer slot x s).s.nets i = portLine s.nets i := by
  unfold runPosted
  (repeat' split) <;> simp

@[simp] theorem pumpSlot_line (mer : Bool) (slot : Nat) (a1 : Nat) (s : State) (i : Nat) :
    portLine (pumpSlot mer slot a1 s).nets i = portLine s.nets i := by
  induction a1 generalizing s with
  | zero => simp [pumpSlot]
  | succ n ih =>
    simp only [pumpSlot]
    (repeat' split) <;> simp [ih]

@[simp] theorem pumpRounds_line (mer : Option Nat) (a1 : Nat) (s : State) (i : Nat) :
    portLine (pumpRounds mer a1 s).nets i = portLine s.nets i := by
  induction a1 generalizing s with
  | zero => simp [pumpRounds]
  | succ n ih =>
    simp only [pumpRounds]
    simp [ih]

@[simp] theorem State.pumpAt_line (s : State) (mer : Option Nat) (i : Nat) :
    portLine (State.pumpAt s mer).nets i = portLine s.nets i := by
  simp [State.pumpAt]

@[simp] theorem State.close_line (s t : State) (i : Nat) :
    portLine (State.close s t).nets i = portLine t.nets i := by
  simp [State.close]

end Sys2Proof.Machine
end

section
/-! The calibration and the thermal responses (13 R420 to R424, 15 R462 to R464). -/

namespace Sys2Proof

open Sys2Proof.Machine

theorem core_of_derating {s t : State} (h : ∀ i, coreDerating t.cores i = coreDerating s.cores i) (n : Nat) :
    (t.core n).loadSteps = (s.core n).loadSteps ∧ (t.core n).derated = (s.core n).derated := Prod.ext_iff.mp (h n)

theorem net_of_line {s t : State} (h : ∀ i, portLine t.nets i = portLine s.nets i) (n : Nat) :
    (t.net n).retrainDue = (s.net n).retrainDue ∧ (t.net n).linkUp = (s.net n).linkUp := Prod.ext_iff.mp (h n)

/-- What a retrain gives back, in a state that keeps the windows, the retrains and every derating that it left. -/
theorem retrainDone_kept {s t t' : State} {u : CalUnit} (hready : s.mgt.ready = true) (hr : s.retrains u = true)
    (hq : s.unitQuiet u = true) (ht : t = retrainDone u s) (hload : t'.mgt.load = t.mgt.load) (htraining : t'.mgt.training = t.mgt.training)
    (hderated : t'.tiers.boardDerated = t.tiers.boardDerated) (hcores : ∀ i, coreDerating t'.cores i = coreDerating t.cores i)
    (hnets : ∀ i, portLine t'.nets i = portLine t.nets i) :
    t'.loadWin u = { opened := true, guard := s.guardBand u } ∧ u ∉ t'.mgt.training
    ∧ (u = .board → t'.tiers.boardDerated = 0) ∧ (∀ n, u = .core n → (t'.core n.val).loadSteps = 0 ∧ (t'.core n.val).derated = false)
    ∧ (∀ n, u = .port n → (t'.net n.val).retrainDue = false ∧ (u ∉ s.mgt.training → (t'.net n.val).linkUp = false)) := by
  obtain ⟨hwin, htrain, hboard, hcore, hport⟩ := retrainDone_row hready hr hq ht
  refine ⟨(loadWin_of_load hload u).trans hwin, by rwa [htraining], fun h => hderated.trans (hboard h), fun n h => ?_, fun n h => ?_⟩
  · rw [(core_of_derating hcores n.val).1, (core_of_derating hcores n.val).2]
    exact hcore n h
  · rw [(net_of_line hnets n.val).1, (net_of_line hnets n.val).2]
    exact hport n h

theorem logNvmCopy_takes {s : State} {seq : W64} {e : LogEnt} {l : List LogEnt}
    (hfind : s.mgt.ramLog.find? (fun e => decide (e.seq = seq.toNat)) = some e) (hn : e.nvm = true) (hnew : ∀ f ∈ s.mgt.nvmLog, f.seq ≠ e.seq)
    (hl : (insertSeq e s.mgt.nvmLog).drop (s.mgt.nvmLog.length + 1 - 8192) = l) :
    exec (.logNvmCopy seq) s = .next { s with mgt := { s.mgt with nvmLog := l } } := by
  change execLogNvmCopy seq s = _
  rw [execLogNvmCopy, hfind]
  change Host.Outcome.next (nvmCopy e s) = _
  rw [nvmCopy_takes hn hnew, hl]

theorem logNvmCopy_row {s : State} {seq : W64} {e : LogEnt}
    (hfind : s.mgt.ramLog.find? (fun e => decide (e.seq = seq.toNat)) = some e) (hn : e.nvm = true) (hnew : ∀ f ∈ s.mgt.nvmLog, f.seq ≠ e.seq) :
    ∃ t, exec (.logNvmCopy seq) s = .next t ∧ t.mgt.nvmLog = (insertSeq e s.mgt.nvmLog).drop (s.mgt.nvmLog.length + 1 - 8192)
      ∧ t.mgt.ramLog = s.mgt.ramLog ∧ t.mgt.store = s.mgt.store ∧ t.cores = s.cores ∧ t.tiers = s.tiers := by
  obtain ⟨l, hl⟩ : ∃ l, l = (insertSeq e s.mgt.nvmLog).drop (s.mgt.nvmLog.length + 1 - 8192) := ⟨_, rfl⟩
  rw [← hl]
  exact ⟨_, logNvmCopy_takes hfind hn hnew hl.symm, rfl, rfl, rfl, rfl, rfl⟩

theorem exec_sensorUpdate (s : State) (rs : List (Fin 1024 × W32)) :
    exec (.sensorUpdate rs) s = .next (s.close (sensorUpdate (rs.map fun p => (p.1.val, p.2)) s)) := rfl

/-- Settles O46: a row of each command; the thermal responses are `sensorUpdate_answers`. -/
theorem calibrationAndThermal : Obligations.CalibrationAndThermal := by
  refine ⟨fun s seq e hfind hn hnew => ?_, fun s n steps table => ⟨fun h => ?_, fun h => ?_⟩, fun s u mv hready hopen => ⟨?_, ?_, ?_, ?_⟩,
    fun s u hready hr hq => ?_, fun s n hidle hres hheld => ?_, fun s rs hready => ?_⟩
  · exact logNvmCopy_row hfind hn hnew
  · exact congrArg Host.Outcome.next (if_pos (by rw [h]; rfl))
  · exact ⟨replan n.val steps table s, rfl, replan_row h rfl⟩
  · exact fun hmv hsteps => ⟨loadDerated u mv s, rfl, loadDerated_row hready hopen hmv hsteps rfl⟩
  · intro hmv hsteps
    refine ⟨logMargin u s, ?_, logMargin_bit u s, by simp, by simp⟩
    change execLoadDerated u mv s = _
    rw [execLoadDerated, loadDerated_faults hready hopen hmv hsteps]
  · intro hsec
    change execLoadVerified u mv s = _
    rw [execLoadVerified, loadVerified_waits (s := s) (u := u) mv hsec]
  · exact fun hmv hsec => ⟨loadVerified u mv s, rfl, loadVerified_row hready hopen hmv hsec⟩
  · obtain ⟨-, -, -, hload, htraining, hderated⟩ := State.close_still s (retrainDone u s)
    obtain ⟨h1, h2, h3, h4, h5⟩ := retrainDone_kept hready hr hq rfl hload htraining hderated (State.close_derating s _) (State.close_line s _)
    exact ⟨s.close (retrainDone u s), rfl, h1, h2, h3, h4, h5⟩
  · exact ⟨_, congrArg Host.Outcome.next (coreGate_takes hidle hres hheld), State.core_setCore_self .., rfl,
      fun k hk => State.core_setCore_ne s _ hk⟩
  · have hexec := exec_sensorUpdate s rs
    generalize (rs.map fun p => (p.1.val, p.2)) = l at hexec ⊢
    obtain ⟨h1, h2, h3, h4, h5, h6, h7, h8⟩ := sensorUpdate_answers l hready
    generalize sensorUpdate l s = t at *
    exact ⟨t, hexec, h1, h2, h3, h4, h5, h6, h7, h8⟩

end Sys2Proof
end

section
/-! Security requests whose OUT_ADDR is not aligned (11 R355, R356): the model refuses each of them with BAD_ADDR, and the
statements on the requests' own rows do not ask that it is. -/

namespace Sys2Proof

open Sys2Proof.Machine

/-- A request that is otherwise in order but asks for its output at an odd address is refused with BAD_ADDR. -/
theorem secRequest_misaligned {r : SecReq} {inOk serves : Bool} {outNeed : Nat} {own : State → SecOut} {s : State} {refused : State → State}
    (htakes : s.takesReq = true) (hresv : r.resvOk = true) (hodd : r.outAddr.toNat % 64 ≠ 0) :
    secRequest r inOk outNeed serves own s refused = s.close (finishReq r ⟨refused s, secBadAddr, [], false⟩) := by
  have hbusy : s.sec.busy = none := by
    simp only [State.takesReq, Bool.and_eq_true, Option.isNone_iff_eq_none] at htakes
    exact htakes.1.1.1.2
  have hend : endLoad s = s := by rw [endLoad, hbusy]
  rw [secRequest, hend, htakes, hresv]
  simp [firstOf, hodd]

@[simp] theorem finishReq_sec (r : SecReq) (o : SecOut) : (finishReq r o).sec.busy = o.s.sec.busy ∧ (finishReq r o).sec.image = o.s.sec.image
    ∧ (finishReq r o).sec.encls = o.s.sec.encls := by
  simp only [finishReq, finishAt, State.msix]
  split <;> split <;> simp

/-- What two states share that close to the same. -/
theorem sec_of_close {s t u : State} (h : (.next (s.close t) : Host.Outcome State Fault Refusal) = .next (s.close u)) :
    t.sec.busy = u.sec.busy ∧ t.sec.image = u.sec.image ∧ t.sec.encls = u.sec.encls := by
  obtain ⟨hb, hi, he, -⟩ := State.close_still s t
  obtain ⟨hb', hi', he', -⟩ := State.close_still s u
  have hclose : s.close t = s.close u := Host.Outcome.next.inj h
  rw [← hb, ← hi, ← he, hclose]
  exact ⟨hb', hi', he'⟩

/-- A security engine that takes a request. -/
def reqReady (sec : Sec) (store : Store := {}) : State :=
  { sec := { sec with ready := true, ringEntries := 2, tail := 1 }, hif := { linkUp := true }, mgt := { store := store } }

/-- A request that asks for its output at address 1. -/
def oddReq (inLen outLen : Nat) : SecReq :=
  { encl := 0, resvOk := true, addrOk := true, inLen := inLen, outAddr := 1, outLen := outLen, tag := 0 }

theorem oddReq_ok (sec : Sec) (store : Store) (hbusy : sec.busy = none) (hhead : sec.head = 0) (inLen outLen : Nat) (serves : Bool) :
    ReqOk (reqReady sec store) (oddReq inLen outLen) inLen outLen serves := by
  refine ⟨?_, ⟨rfl, rfl, rfl⟩, Nat.le_refl _, .inl rfl⟩
  simp [State.takesReq, reqReady, hbusy, hhead]

/-- Refutes O32: DECOMMISSION with an odd OUT_ADDR is refused, so the image stays. -/
theorem not_reportsAndOperatorKeys : ¬ Obligations.ReportsAndOperatorKeys := by
  rintro ⟨-, -, h⟩
  have hok := oddReq_ok { image := some {} } {} rfl rfl 104 0 false
  obtain ⟨-, -, hdec⟩ := h (reqReady { image := some {} }) (oddReq 104 0) 1 0 0 (.inl rfl) (by decide)
  obtain ⟨t, hexec, -, -, -, -, -, himage, -⟩ := hdec hok (fun e he => nomatch he)
  have hrefused : exec (.decommission (oddReq 104 0) 1 0) (reqReady { image := some {} }) = .next ((reqReady { image := some {} }).close _) :=
    congrArg Host.Outcome.next (secRequest_misaligned hok.takes rfl (by decide))
  obtain ⟨-, hsame, -⟩ := sec_of_close (hrefused.symm.trans hexec)
  rw [himage, (finishReq_sec _ _).2.1] at hsame
  exact absurd hsame (by simp [reqReady])

/-- The enclosure 0 of the witness, which waits for the root key of the import key 7. -/
def waitingEncl : Encl := { st := .awaitingKey, importPriv := some 7 }

/-- A blob that opens under that import key. -/
def openingBlob : ImportBlob :=
  { version := 1, persist := false, resv := false, tenant := 0, sealedTo := Config.p384Public 7, serial := 0, index := 0, trk := 0, intact := true }

/-- Refutes O34: KEY_IMPORT with an odd OUT_ADDR is refused, so the enclosure still waits for its key. -/
theorem not_enclosureKeys : ¬ Obligations.EnclosureKeys := by
  rintro ⟨h, -, -⟩
  have hok := oddReq_ok { encls := [(0, waitingEncl)] } {} rfl rfl 168 0 false
  obtain ⟨himport, -⟩ := h (reqReady { encls := [(0, waitingEncl)] }) (oddReq 168 0) openingBlob hok rfl
  obtain ⟨t, hexec, -, hst, -⟩ := himport (by simp [State.blobOpens, reqReady, waitingEncl, openingBlob, State.encl, oddReq, Tbl.get])
  have hrefused : exec (.keyImport (oddReq 168 0) openingBlob) (reqReady { encls := [(0, waitingEncl)] })
      = .next ((reqReady { encls := [(0, waitingEncl)] }).close _) :=
    congrArg Host.Outcome.next (secRequest_misaligned hok.takes rfl (by decide))
  obtain ⟨-, -, hsame⟩ := sec_of_close (hrefused.symm.trans hexec)
  rw [State.encl, ← hsame, (finishReq_sec _ _).2.2] at hst
  exact absurd hst (by decide)

/-- A constellation image of no enclosures and a ring of eight modules, with `signer` as the hash of its signing key. -/
def ringImage (signer : BitVec 384) : List Byte :=
  leBytes 8 0x201 ++ leBytes 8 560 ++ leBytes 8 1 ++ leBytes 8 0 ++ (beBytes 48 signer.toNat ++ (List.replicate 48 0
    ++ leBytes 8 (1 + at_ 192 32) ++ leBytes 8 0 ++ leBytes 8 (2 + at_ 192 32) ++ leBytes 8 272 ++ List.replicate 32 0
    ++ [8, 1, 1, 1, 8, 0] ++ List.replicate 10 0
    ++ (List.range 8).flatMap (fun k => leBytes 8 k ++ leBytes 8 k ++ leBytes 8 0x55 ++ leBytes 8 0) ++ List.replicate 96 0))

theorem ringImage_signer (h : BitVec 384) : (readImage (ringImage h)).signer = h := by
  have hbytes : ((ringImage h).drop 0x20).take 48 = beBytes 48 h.toNat := rfl
  rw [readImage, hbytes, beNat, beBytes, List.reverse_reverse, leNat_leBytes_of_lt (by have := h.isLt; omega)]
  simp

/-- The hash of the operator key 0. -/
def signerHash : BitVec 384 := Config.sha384 (beBytes 96 (0 : BitVec 768).toNat)

theorem ringImage_passes : imageChecks (ringImage signerHash) (some 0) none (reqReady {} { opKeys := [0] }) = none := by
  have hform : imageFormBad (ringImage signerHash) = false := by decide +kernel
  have hrest : let i := readImage (ringImage signerHash)
      let s := reqReady {} { opKeys := [0] }
      i.members.any (fun m => decide (m.serial = s.fuse.serial)) = true ∧ i.torusBad s = false ∧ i.overCapacity s = false ∧ i.overlap = false
      ∧ i.coreConflict s = false ∧ i.keySlotBad = false ∧ i.sharesBad = false := by decide +kernel
  have hkey : (reqReady {} { opKeys := [0] }).signerKey (readImage (ringImage signerHash)) = some 0 := by
    rw [State.signerKey, ringImage_signer]
    simp [reqReady, signerHash]
  obtain ⟨hmember, htorus, hcap, hoverlap, hcores, hslots, hshares⟩ := hrest
  simp only [imageChecks, hform, hkey, hmember, htorus, hcap, hoverlap, hcores, hslots, hshares]
  simp [firstOf, Image.rollsBack]

/-- Refutes O33: LOAD_IMAGE with an odd OUT_ADDR is refused, so no load runs. -/
theorem not_imageLoads : ¬ Obligations.ImageLoads := by
  intro h
  have hok := oddReq_ok {} { opKeys := [0] } rfl rfl (ringImage signerHash).length 0 false
  obtain ⟨hload, -, -⟩ := h (reqReady {} { opKeys := [0] }) (oddReq (ringImage signerHash).length 0) (ringImage signerHash) 0 hok
  obtain ⟨u, hexec, hbusy, -⟩ := hload ringImage_passes (by decide +kernel)
  have hrefused : exec (.loadImage (oddReq (ringImage signerHash).length 0) (ringImage signerHash) 0) (reqReady {} { opKeys := [0] })
      = .next ((reqReady {} { opKeys := [0] }).close _) :=
    congrArg Host.Outcome.next (secRequest_misaligned hok.takes rfl (by decide))
  obtain ⟨hsame, -, -⟩ := sec_of_close (hrefused.symm.trans hexec)
  rw [hbusy, (finishReq_sec _ _).1] at hsame
  exact absurd hsame (by simp [reqReady])

end Sys2Proof
end

section
/-! The tick at which a full hour in DAY is stored past the wear rating (13 R403, R412): what it logs, and the ALERT_N pin that the
statement on the tick forgets. -/

namespace Sys2Proof

open Sys2Proof.Machine

namespace WornHour

/-- A device in DAY whose core 0 is idle, one tick before a full hour is stored into banks at their wear rating. -/
def before : State :=
  { modl := { standby := true }, mgt := { awake := true, wear0 := 100000, wear1 := 100000 }, rcv := { dayTicks := hourTicks }
    cores := [(0, { state := .idle })] }

theorem tickLock_ungated {s : State} {n : Nat} {c : Core} (h : c.state = .idle) : (tickLock s n c).ungated = true := by
  rw [tickLock, if_neg (by simp [h]), Core.ungated, h]

theorem tickTest_idle {s : State} {n : Nat} {c : Core} (h : c.state = .idle) : (tickTest s n c).state = .idle := by
  unfold tickTest
  split
  · exact h
  · split
    · rfl
    · exact h

theorem tickSram_state (w k : Nat) (c : Core) : (tickSram w k c).state = c.state := by
  unfold tickSram
  dsimp only
  split <;> rfl

theorem tickCore_ungated {s : State} {n : Nat} {c : Core} (h : c.state = .idle) : (tickCore s n c).ungated = true := by
  refine tickLock_ungated (tickTest_idle ((tickSram_state ..).trans ?_))
  have hcycles : (tickCycles (s.fresh + 4 * n) c).state = c.state := by
    unfold tickCycles
    split <;> rfl
  unfold tickPlan
  split <;> exact hcycles.trans h

/-- The device after its cores, tiers, ports and requests have had their tick. -/
def ticked : State := tickWaits (tickSecond (tickUnits before))

theorem ticked_eq : ticked = tickUnits before := by
  have hsecond : tickSecond (tickUnits before) = tickUnits before := if_pos (by decide)
  rw [ticked, hsecond]
  exact if_pos rfl

theorem ticked_day : ticked.powerState = 2 := by
  have hcore : (ticked.core 0).ungated = true := by
    rw [ticked_eq]
    exact tickCore_ungated (c := { state := .idle }) rfl
  have hawake : ticked.mgt.awake = true := by rw [ticked_eq]; rfl
  rw [State.powerState, hawake]
  exact if_pos (List.any_eq_true.mpr ⟨0, by decide, hcore⟩)

theorem commitStore_alert (f : Store → Store) (s : State) :
    (commitStore f s).mgt.alert = s.mgt.alert ∧ (commitStore f s).mgt.mask = s.mgt.mask := by
  unfold commitStore
  dsimp only
  split <;> exact ⟨rfl, rfl⟩

/-- The hour's store is logged as an ERROR, whose unmasked LOG_ERROR pulls ALERT_N low. -/
theorem alertN_after : (tick before).modl.alertN = false := by
  have hmgt : ticked.mgt = before.mgt := by rw [ticked_eq]; rfl
  have hday : ticked.rcv.dayTicks = hourTicks := by rw [ticked_eq]; rfl
  have htick : tick before = tickDay ticked := rfl
  rw [htick, tickDay, if_neg (by rw [ticked_day]; decide), if_neg (by rw [hday]; omega)]
  dsimp only
  rw [devStore, if_pos (by rw [hmgt]; decide), State.logEv, if_pos (by decide)]
  obtain ⟨halert, hmask⟩ := commitStore_alert (fun t => { t with hours := satAdd Config.sat32 ticked.rcv.hours 1 })
    { ticked with rcv := { ticked.rcv with dayTicks := 0, hours := satAdd Config.sat32 ticked.rcv.hours 1 } }
  refine raiseAlert_pin (by decide) ((congrArg (BitVec.getLsbD · 2) halert).trans ?_) ((congrArg (BitVec.getLsbD · 2) hmask).trans ?_)
  · rw [hmgt]; decide
  · rw [hmgt]; decide

end WornHour

/-- Refutes O52: at the tick of a full hour in DAY the hours are stored; past the wear rating that logs an ERROR entry, whose LOG_ERROR alert
moves the ALERT_N pin of an unmasked bit, while the statement keeps the whole module. -/
theorem not_idleTick : ¬ Obligations.IdleTick := by
  intro h
  obtain ⟨t, hstep, -, -, -, -, -, hrest⟩ := (h WornHour.before rfl).2 rfl
  obtain ⟨-, -, -, -, -, hmodl, -⟩ := hrest rfl (fun p hp => nomatch hp)
  have ht : t = tick WornHour.before := (Host.Outcome.next.inj hstep).symm
  have hpin := WornHour.alertN_after
  rw [← ht, hmodl] at hpin
  exact absurd hpin (by decide)

end Sys2Proof
end

section
/-! Resets of a core or a port on request (12 R362 to R365). -/

namespace Sys2Proof

open Sys2Proof.Machine

/-! Fencing -/

theorem fence_rcv (d : Domain) (s : State) : (fence d false s).rcv = { s.rcv with eclipse := insertNew d s.rcv.eclipse } := by
  simp [fence]

theorem fence_core (n : CoreId) (s : State) : fence (.core n) false s
    = eclipseCore (((s.core n.val).resident <|> (s.core n.val).shadow).toList.foldl eclipseCtx
        { s with rcv := { s.rcv with eclipse := insertNew (.core n) s.rcv.eclipse } }) n.val := rfl

theorem fence_port (n : PortId) (s : State) :
    fence (.port n) false s = { s with rcv := { s.rcv with eclipse := insertNew (.port n) s.rcv.eclipse } } := rfl

/-- An operator's reset of a domain in service whose context no replay runs: it ends at once, or waits for its drain. -/
theorem operatorReset_eq {d : Domain} {s : State} (hready : s.rcv.ready = true) (hthere : s.domThere d = true) (hreplay : s.replayIn d = false) :
    operatorReset d s = if (fence d false s).outstanding d then fence d false s else finishReset d (fence d false s) := by
  rw [operatorReset, hready, hthere, startReset, hreplay]
  simp only [Bool.and_self, if_true, Bool.false_and, Bool.false_eq_true, if_false]
  split <;> rfl

/-- A core whose SRAM is zeroed and whose self-test starts. -/
def clearedCore (c : Core) (clock : Nat) : Core :=
  { c.applySpares with live := {}, state := .idle, clock := clock, busyCycles := 0, cycles := 0, err := 0, busy := true, done := false
                       pass := false, firstFail := 0x1FF, failCount := 0, aged := [] }

theorem resetCore_eq {n : Nat} {s : State} (h : (s.core n).state ≠ .retired) :
    resetCore n s = s.setCore n (clearedCore (s.core n) (s.runClock n)) := if_neg h

theorem finishReplays_busy {d : Domain} {s : State} (h : s.domBusy d = true) : finishReplays d s = s := by
  rw [finishReplays]
  exact if_pos (by rw [h, Bool.or_true])

theorem finishReplays_none {d : Domain} {s : State} (h : ∀ x ∈ s.rcv.suspects, x.dom ≠ d) : finishReplays d s = s := by
  have hmine : s.rcv.suspects.filter (fun x => decide (x.dom = d)) = [] :=
    List.filter_eq_nil_iff.mpr fun x hx => by simpa using h x hx
  rw [finishReplays, hmine]
  rfl

/-- What an operator's reset of a domain clears, once what is outstanding has been answered. -/
def clearedBy (d : Domain) (s : State) : State :=
  let t := answerFenced d s
  resetDomain d false { t with rcv := { t.rcv with suspects := t.rcv.suspects ++ operatorSuspects d false t } }

/-- The domain leaves eclipse. -/
def leaveEclipse (d : Domain) (s : State) : State :=
  { s with rcv := { s.rcv with
    eclipse := s.rcv.eclipse.filter fun x => decide (x ≠ d), counting := s.rcv.counting.filter fun x => decide (x ≠ d) } }

/-- The end of a reset that no engine fault started. -/
theorem finishReset_operator {d : Domain} {s : State} (hcount : d ∉ s.rcv.counting) :
    finishReset d s = finishReplays d (match d with
      | .encl i => eraseEnds i.val (leaveEclipse d (clearedBy d s))
      | _ => leaveEclipse d (clearedBy d s)) := by
  have hfault : decide (d ∈ s.rcv.counting) = false := decide_eq_false hcount
  unfold finishReset leaveEclipse clearedBy
  rw [hfault]
  simp only [Bool.false_and, Bool.false_eq_true, if_false]
  cases d <;> rfl

theorem leaveEclipse_rcv (d : Domain) (s : State) : d ∉ (leaveEclipse d s).rcv.eclipse := by simp [leaveEclipse]

/-- The end of an operator's reset of a core: its streams are cleared and its self-test runs, so no suspect is judged yet. -/
theorem finishReset_core {s : State} {n : CoreId} (hst : (s.core n.val).state ≠ .retired) (hcount : Domain.core n ∉ s.rcv.counting) :
    ∃ r : Rcv, finishReset (.core n) s = { s.setCore n.val (clearedCore (s.core n.val) (s.runClock n.val)) with rcv := r }
      ∧ Domain.core n ∉ r.eclipse := by
  have hclear : ∃ r, clearedBy (.core n) s = { s.setCore n.val (clearedCore (s.core n.val) (s.runClock n.val)) with rcv := r } :=
    ⟨_, resetCore_eq hst⟩
  obtain ⟨r, hclear⟩ := hclear
  have hbusy : (leaveEclipse (.core n) (clearedBy (.core n) s)).domBusy (.core n) = true := by
    rw [hclear]
    exact congrArg Core.busy (State.core_setCore_self s n.val _)
  refine ⟨(leaveEclipse (.core n) (clearedBy (.core n) s)).rcv, ?_, leaveEclipse_rcv _ _⟩
  rw [finishReset_operator hcount]
  dsimp only
  rw [finishReplays_busy hbusy, hclear]
  rfl

/-! Cores -/

theorem eclipseCore_other {s : State} {n m : Nat} (h : m ≠ n) : (eclipseCore s n).core m = s.core m := by
  unfold eclipseCore
  dsimp only
  split
  · rfl
  · exact State.core_setCore_ne _ _ h

theorem eclipseCore_state {s : State} {n : Nat} (h : (s.core n).state ≠ .retired) : ((eclipseCore s n).core n).state = .eclipse := by
  unfold eclipseCore
  dsimp only
  split
  next hc => exact hc.resolve_left h
  next => rw [State.core_setCore_self]

theorem eclipseCore_ctx (s : State) (n k : Nat) : (eclipseCore s n).ctx k = s.ctx k := ctx_of_ctxs (by simp) k

theorem eclipseCtx_st (s : State) (k : Nat) : ((eclipseCtx s k).ctx k).st = .eclipse := by
  unfold eclipseCtx
  dsimp only
  split
  next h => exact h
  next => rw [State.ctx_setCtx_self]

theorem fence_core_cores (n : CoreId) (s : State) (l : List Nat) (m : Nat) :
    (l.foldl eclipseCtx { s with rcv := { s.rcv with eclipse := insertNew (.core n) s.rcv.eclipse } }).core m = s.core m :=
  core_of_cores (by simp) m

/-- What fencing a core leaves. -/
theorem fence_core_facts (n : CoreId) {s : State} (h : (s.core n.val).state ≠ .retired) :
    ((fence (.core n) false s).core n.val).state = .eclipse ∧ (∀ m, m ≠ n.val → (fence (.core n) false s).core m = s.core m)
    ∧ (∀ k, (s.core n.val).resident = some k → ((fence (.core n) false s).ctx k).st = .eclipse) := by
  rw [fence_core]
  refine ⟨eclipseCore_state ?_, fun m hm => (eclipseCore_other hm).trans (fence_core_cores n s _ m), fun k hk => ?_⟩
  · rwa [fence_core_cores]
  · rw [hk, eclipseCore_ctx]
    exact eclipseCtx_st _ k

/-- A core as its reset leaves it, beside what stays. -/
structure CoreReset (n : CoreId) (s u : State) : Prop where
  core : ∃ c clock, u.core n.val = clearedCore c clock
  others : ∀ m, m ≠ n.val → u.core m = s.core m
  left : Domain.core n ∉ u.rcv.eclipse
  kept : u.tiers = s.tiers ∧ u.counters = s.counters ∧ u.nets = s.nets

theorem finishReset_core_row {s : State} {n : CoreId} (hst : (s.core n.val).state ≠ .retired) (hcount : Domain.core n ∉ s.rcv.counting) :
    CoreReset n s (finishReset (.core n) s) := by
  obtain ⟨r, hreset, hleft⟩ := finishReset_core hst hcount
  rw [hreset]
  exact ⟨⟨_, _, State.core_setCore_self s n.val _⟩, fun m hm => State.core_setCore_ne s _ hm, hleft, rfl, rfl, rfl⟩

theorem CoreReset.facts {n : CoreId} {s u : State} (h : CoreReset n s u) : (u.core n.val).state = .idle ∧ (u.core n.val).busy = true
    ∧ (u.core n.val).done = false ∧ (u.core n.val).live = {} ∧ (u.core n.val).err = 0 ∧ (u.core n.val).firstFail = 0x1FF
    ∧ Domain.core n ∉ u.rcv.eclipse ∧ (∀ m, m ≠ n.val → u.core m = s.core m) ∧ u.tiers = s.tiers ∧ u.counters = s.counters ∧ u.nets = s.nets := by
  obtain ⟨⟨c, clock, hcore⟩, hothers, hleft, htiers, hcounters, hnets⟩ := h
  rw [hcore]
  exact ⟨rfl, rfl, rfl, rfl, rfl, rfl, hleft, hothers, htiers, hcounters, hnets⟩

/-- An operator's reset of a core: it stands in eclipse until its drain, or is reset at once. -/
theorem coreReset_row {s : State} {n : CoreId} (hready : s.rcv.ready = true) (hthere : bit s.rcv.coresRetired n.val = false)
    (hst : (s.core n.val).state ≠ .retired) (hcount : Domain.core n ∉ s.rcv.counting) (hreplay : s.replayIn (.core n) = false) :
    ((fence (.core n) false s).outstanding (.core n) = true → operatorReset (.core n) s = fence (.core n) false s)
    ∧ ((fence (.core n) false s).outstanding (.core n) = false → CoreReset n s (operatorReset (.core n) s)) := by
  rw [operatorReset_eq hready (by rw [State.domThere, hthere]; rfl) hreplay]
  obtain ⟨heclipse, hothers, -⟩ := fence_core_facts n hst
  have hkept : (fence (.core n) false s).tiers = s.tiers ∧ (fence (.core n) false s).counters = s.counters
      ∧ (fence (.core n) false s).nets = s.nets := by simp
  have hfenced : Domain.core n ∉ (fence (.core n) false s).rcv.counting := by rwa [fence_rcv]
  generalize fence (.core n) false s = v at *
  refine ⟨fun h => if_pos h, fun h => ?_⟩
  rw [if_neg (by rw [h]; decide)]
  obtain ⟨hcore, hm, hleft, htiers, hcounters, hnets⟩ := finishReset_core_row (by rw [heclipse]; decide) hfenced
  obtain ⟨hvt, hvc, hvn⟩ := hkept
  exact ⟨hcore, fun m h => (hm m h).trans (hothers m h), hleft, htiers.trans hvt, hcounters.trans hvc, hnets.trans hvn⟩

/-! Ports -/

/-- A port whose link, sparing and degradation are cleared, its settings unlocked. -/
def clearedPort (p : Net) : Net :=
  { p.fall with sparePresent := false, degraded := false, txDegraded := false, credits := [], rxHealthy := 0xF, txSpare := none
                rxSpare := none, txq := [], err := 0, locked := false, retrainDue := false, peerMac := none, peerId := 0 }

/-- The end of an operator's reset of a port, which no replay can be a suspect of. -/
theorem finishReset_port {s : State} {n : PortId} (hsusp : ∀ x ∈ s.rcv.suspects, x.dom ≠ .port n) (hcount : Domain.port n ∉ s.rcv.counting) :
    finishReset (.port n) s = leaveEclipse (.port n) (s.setNet n.val (clearedPort (s.net n.val))) := by
  have hclear : clearedBy (.port n) s = s.setNet n.val (clearedPort (s.net n.val)) := by
    change resetPort n.val { s with rcv := { s.rcv with suspects := s.rcv.suspects ++ [] } } = _
    rw [List.append_nil]
    rfl
  rw [finishReset_operator hcount]
  dsimp only
  rw [hclear]
  exact finishReplays_none hsusp

theorem portReset_facts {s u : State} {n : PortId} (hu : u = leaveEclipse (.port n) (s.setNet n.val (clearedPort (s.net n.val)))) :
    (u.net n.val).linkUp = false ∧ (u.net n.val).helloOk = false ∧ (u.net n.val).degraded = false
      ∧ (u.net n.val).txDegraded = false ∧ (u.net n.val).rxHealthy = 0xF
      ∧ (u.net n.val).txSpare = none ∧ (u.net n.val).rxSpare = none ∧ (u.net n.val).txq = [] ∧ (u.net n.val).err = 0
      ∧ (u.net n.val).locked = false ∧ (u.net n.val).cfg = (s.net n.val).cfg ∧ (u.net n.val).counters = (s.net n.val).counters
      ∧ Domain.port n ∉ u.rcv.eclipse ∧ (∀ m, m ≠ n.val → u.net m = s.net m) ∧ u.tiers = s.tiers ∧ u.cores = s.cores ∧ u.ctxs = s.ctxs := by
  have hnet : u.net n.val = clearedPort (s.net n.val) := by rw [hu]; exact State.net_setNet_self s n.val _
  rw [hnet]
  refine ⟨rfl, rfl, rfl, rfl, rfl, rfl, rfl, rfl, rfl, rfl, rfl, rfl, ?_, fun m hm => ?_, ?_, ?_, ?_⟩
  · rw [hu]; exact leaveEclipse_rcv _ _
  · rw [hu]; exact State.net_setNet_ne s _ hm
  all_goals rw [hu]; rfl

theorem portReset_row {s : State} {n : PortId} (hready : s.rcv.ready = true) (hthere : bit s.rcv.portsRetired n.val = false)
    (hcount : Domain.port n ∉ s.rcv.counting) (hsusp : ∀ x ∈ s.rcv.suspects, x.dom ≠ .port n) :
    ((fence (.port n) false s).outstanding (.port n) = true → operatorReset (.port n) s = fence (.port n) false s)
    ∧ ((fence (.port n) false s).outstanding (.port n) = false → operatorReset (.port n) s
      = leaveEclipse (.port n) ((fence (.port n) false s).setNet n.val (clearedPort (s.net n.val)))) := by
  have hreplay : s.replayIn (.port n) = false := by
    unfold State.replayIn
    cases s.replayed <;> rfl
  rw [operatorReset_eq hready (by rw [State.domThere, hthere]; rfl) hreplay]
  exact ⟨fun h => if_pos h, fun h => (if_neg (by rw [h]; decide)).trans (finishReset_port (s := fence (.port n) false s) hsusp hcount)⟩

/-- Settles O35: a reset ends at once or after its drain, in the same `finishReset`. -/
theorem coreAndPortResets : Obligations.CoreAndPortResets := by
  refine ⟨fun s n hready hthere hst hcount hreplay => ⟨fun h => ?_, fun h => ?_, fun h => ?_⟩,
    fun s n hready hthere hcount hsusp => ⟨fun h => ?_, fun h => ?_, fun h => ?_⟩⟩
  · obtain ⟨heclipse, -, hctx⟩ := fence_core_facts n hst
    have hwait := (coreReset_row hready hthere hst hcount hreplay).1 h
    refine ⟨congrArg (fun u => Host.Outcome.next (s.close u)) hwait, ?_, heclipse, hctx, by simp⟩
    rw [fence_rcv]
    exact mem_insertNew _ _
  · exact ⟨_, rfl, ((coreReset_row hready hthere hst hcount hreplay).2 h).facts⟩
  · exact ⟨_, congrArg Host.Outcome.next (if_pos h), (finishReset_core_row hst hcount).facts⟩
  · have hwait := (portReset_row hready hthere hcount hsusp).1 h
    refine ⟨congrArg (fun u => Host.Outcome.next (s.close u)) hwait, ?_, by simp⟩
    rw [fence_rcv]
    exact mem_insertNew _ _
  · exact ⟨_, rfl, portReset_facts (s := fence (.port n) false s) ((portReset_row hready hthere hcount hsusp).2 h)⟩
  · exact ⟨_, congrArg Host.Outcome.next ((if_pos h).trans (congrArg s.close (finishReset_port hsusp hcount))), portReset_facts rfl⟩

end Sys2Proof
end

section
/-! Resets of an enclosure, the hub and the device on request (12 R362 to R365, 11 R318, R320). -/

namespace Sys2Proof

open Sys2Proof.Machine

/-- What is outstanding decides whether an operator's reset waits. -/
theorem operatorReset_row {d : Domain} {s : State} (hready : s.rcv.ready = true) (hthere : s.domThere d = true) (hreplay : s.replayIn d = false) :
    ((fence d false s).outstanding d = true → operatorReset d s = fence d false s)
    ∧ ((fence d false s).outstanding d = false → operatorReset d s = finishReset d (fence d false s)) := by
  rw [operatorReset_eq hready hthere hreplay]
  exact ⟨fun h => if_pos h, fun h => if_neg (by rw [h]; decide)⟩

theorem Tbl.get_of_not_listed {α : Type} (d : α) {t : Tbl α} {k : Nat} (h : ∀ p ∈ t, p.1 ≠ k) : Tbl.get d t k = d := by
  induction t with
  | nil => rfl
  | cons p t ih =>
    obtain ⟨hp, ht⟩ := List.forall_mem_cons.mp h
    rw [Tbl.get, if_neg hp]
    exact ih ht

theorem Tbl.get_of_listed {α : Type} (d : α) {t : Tbl α} {k : Nat} (h : Tbl.get d t k ≠ d) : ∃ v, (k, v) ∈ t ∧ Tbl.get d t k = v := by
  induction t with
  | nil => exact absurd rfl h
  | cons p t ih =>
    obtain ⟨j, v⟩ := p
    rw [Tbl.get] at h ⊢
    split at h
    next hj => exact ⟨v, by rw [hj]; exact List.mem_cons_self .., by rw [if_pos hj]⟩
    next hj =>
      obtain ⟨w, hw, hg⟩ := ih h
      exact ⟨w, List.mem_cons_of_mem _ hw, by rw [if_neg hj, hg]⟩

/-! Enclosures -/

/-- The context in a slot of an enclosure that is emptied. -/
def unloadSlot (u : State) (k : Nat) : State :=
  let v := if (u.ctx k).st = .none then u else unloadNow k u
  v.setCtx k { v.ctx k with importMeas := 0, lastIn := 0, rcv := {} }

theorem unloadEncl_eq (e : EnclEntry) (s : State) :
    unloadEncl e s = ((s.ctxs.filter fun p => e.ownsSlot p.1).map Prod.fst).foldl unloadSlot s := rfl

theorem unloadSlot_self (u : State) (k : Nat) : ((unloadSlot u k).ctx k).st = .none := by
  unfold unloadSlot
  dsimp only
  rw [State.ctx_setCtx_self]
  split
  next h => exact h
  next => unfold unloadNow; simp

theorem unloadSlot_other {u : State} {k j : Nat} (hj : j ≠ k) : (unloadSlot u k).ctx j = u.ctx j := by
  unfold unloadSlot
  dsimp only
  rw [State.ctx_setCtx_ne _ _ hj]
  split
  · rfl
  · unfold unloadNow
    dsimp only
    rw [State.ctx_setCtx_ne _ _ hj]
    rfl

theorem foldl_unloadSlot_gone (l : List Nat) (u : State) {k : Nat} (h : k ∈ l ∨ (u.ctx k).st = .none) :
    ((l.foldl unloadSlot u).ctx k).st = .none := by
  induction l generalizing u with
  | nil => exact h.resolve_left nofun
  | cons j l ih =>
    refine ih _ ?_
    by_cases hj : k = j
    · exact .inr (by rw [hj, unloadSlot_self])
    · exact h.imp (fun hk => (List.mem_cons.mp hk).resolve_left hj) fun hnone => by rw [unloadSlot_other hj, hnone]

/-- The contexts of an enclosure are gone once it has been emptied. -/
theorem unloadEncl_gone (e : EnclEntry) (s : State) {k : Nat} (hk : e.ownsSlot k = true) : ((unloadEncl e s).ctx k).st = .none := by
  rw [unloadEncl_eq]
  refine foldl_unloadSlot_gone _ s ?_
  by_cases hlisted : ∃ p ∈ s.ctxs, p.1 = k
  · obtain ⟨p, hp, rfl⟩ := hlisted
    exact .inl (List.mem_map_of_mem (List.mem_filter.mpr ⟨hp, hk⟩))
  · right
    rw [State.ctx, Tbl.get_of_not_listed {} fun p hp h => hlisted ⟨p, hp, h⟩]

/-- An enclosure that holds nothing of its own but its keys. -/
structure Emptied (e : EnclEntry) (u : State) : Prop where
  ctxs : ∀ k, e.ownsSlot k = true → (u.ctx k).st = .none
  pages : ∀ p ∈ u.tiers.pt, e.ownsSlot (p.1 / vpages) = false
  conns : ∀ p ∈ u.dwt.conns, e.ownsConn p.1 = false
  queues : ∀ p ∈ u.dwt.queues, inRange p.1 e.queueBase e.queueCount = false
  wins : ∀ p ∈ u.dwt.wins, inRange p.1 e.winBase e.winCount = true → p.2.st = .closed

theorem Emptied.congr {e : EnclEntry} {s u : State} (h : Emptied e s) (hctxs : u.ctxs = s.ctxs) (htiers : u.tiers = s.tiers) (hdwt : u.dwt = s.dwt) :
    Emptied e u := by
  obtain ⟨h1, h2, h3, h4, h5⟩ := h
  exact ⟨fun k hk => by rw [ctx_of_ctxs hctxs, h1 k hk], by rwa [htiers], by rwa [hdwt], by rwa [hdwt], by rwa [hdwt]⟩

theorem emptyEncl_emptied (e : EnclEntry) (s : State) : Emptied e (emptyEncl e s) where
  ctxs k hk := by rw [ctx_of_ctxs (s := unloadEncl e s) (by simp [emptyEncl]) k, unloadEncl_gone e s hk]
  pages p hp := by simpa using (List.mem_filter.mp hp).2
  conns p hp := by simpa using (List.mem_filter.mp hp).2
  queues p hp := by simpa using (List.mem_filter.mp hp).2
  wins p hp hr := by
    obtain ⟨q, -, rfl⟩ := List.mem_map.mp hp
    revert hr
    split
    · exact fun _ => rfl
    next hq => exact fun hr => absurd hr hq

/-- What an enclosure's reset leaves, beside what stays. -/
structure EnclReset (i : EnclId) (s u : State) : Prop where
  encl : ∃ before, u.encl i.val = { s.encl i.val with st := .resetting, before := before }
    ∧ before = if (s.encl i.val).trk.isSome then .active else .awaitingKey
  emptied : Emptied (s.entry i.val) u
  left : Domain.encl i ∉ u.rcv.eclipse
  nets : u.nets = s.nets

theorem resetEncl_row {i : Nat} {s : State} (h : (s.encl i).st ≠ .absent) :
    (resetEncl i s).encl i = { s.encl i with st := .resetting, before := if (s.encl i).trk.isSome then .active else .awaitingKey }
    ∧ Emptied (s.entry i) (resetEncl i s) ∧ (resetEncl i s).sec.busy = s.sec.busy := by
  have hempty : Emptied (s.entry i) ((List.range 8).foldl uncoverCore (emptyEncl (s.entry i) s)) :=
    (emptyEncl_emptied (s.entry i) s).congr (by simp) (by simp) (by simp)
  have hsec : ((List.range 8).foldl uncoverCore (emptyEncl (s.entry i) s)).sec = s.sec := by simp
  unfold resetEncl
  generalize (List.range 8).foldl uncoverCore (emptyEncl (s.entry i) s) = t at *
  have hencl : t.encl i = s.encl i := by rw [State.encl, hsec, State.encl]
  dsimp only
  rw [hencl, if_neg h]
  exact ⟨Tbl.get_put_same .., hempty.congr rfl rfl rfl, (congrArg Sec.busy hsec :)⟩

theorem eraseEnds_idle {k : Nat} {s : State} (h : s.sec.busy = none) : eraseEnds k s = s := by rw [eraseEnds, h]

theorem answerFenced_encl (i : EnclId) (s : State) : answerFenced (.encl i) s = (s.fencedPages (.encl i)).foldl fencePage s := rfl

theorem finishReset_encl {s : State} {i : EnclId} (hst : (s.encl i.val).st ≠ .absent) (hcount : Domain.encl i ∉ s.rcv.counting)
    (hsusp : ∀ x ∈ s.rcv.suspects, x.dom ≠ .encl i) (hbusy : s.sec.busy = none) : EnclReset i s (finishReset (.encl i) s) := by
  have hctxs : (answerFenced (.encl i) s).ctxs = s.ctxs := by rw [answerFenced_encl]; simp
  have hsec : (answerFenced (.encl i) s).sec = s.sec := by simp
  have hrcv : (answerFenced (.encl i) s).rcv = s.rcv := by simp
  have hnets : (answerFenced (.encl i) s).nets = s.nets := by simp
  have hclear : clearedBy (.encl i) s = resetEncl i.val (answerFenced (.encl i) s) := by
    change resetEncl i.val { answerFenced (.encl i) s with rcv := { (answerFenced (.encl i) s).rcv with
      suspects := (answerFenced (.encl i) s).rcv.suspects ++ [] } } = _
    rw [List.append_nil]
  rw [finishReset_operator hcount]
  dsimp only
  rw [hclear]
  generalize answerFenced (.encl i) s = w at *
  have hencl : w.encl i.val = s.encl i.val := by rw [State.encl, hsec, State.encl]
  have hentry : w.entry i.val = s.entry i.val := by rw [State.entry, State.entries, hsec, State.entry, State.entries]
  obtain ⟨hrow, hempty, hb⟩ := resetEncl_row (s := w) (i := i.val) (by rwa [hencl])
  rw [hsec, hbusy] at hb
  have hrcv' : (resetEncl i.val w).rcv = s.rcv := by simp [hrcv]
  have hnets' : (resetEncl i.val w).nets = s.nets := by simp [hnets]
  generalize resetEncl i.val w = t at *
  rw [eraseEnds_idle (s := leaveEclipse (.encl i) t) hb, finishReplays_none]
  · rw [hencl, hentry] at *
    exact ⟨⟨_, hrow, rfl⟩, hempty.congr rfl rfl rfl, leaveEclipse_rcv _ _, hnets'⟩
  · intro x hx
    exact hsusp x (by rw [← hrcv']; exact hx)

/-! Loaded contexts -/

theorem mem_affected_hub {s : State} {k : Nat} (h : (s.ctx k).st ≠ .none) : k ∈ s.affected .hub := by
  have hne : Tbl.get {} s.ctxs k ≠ {} := fun he => h (congrArg Ctx.st he)
  obtain ⟨c, hc, hg⟩ := Tbl.get_of_listed ({} : Ctx) hne
  have hst : c.st ≠ .none := by rw [← hg]; exact h
  exact List.mem_map.mpr ⟨(k, c), List.mem_filter.mpr ⟨hc, decide_eq_true hst⟩, rfl⟩

theorem eclipseCtx_other {s : State} {k j : Nat} (h : j ≠ k) : (eclipseCtx s k).ctx j = s.ctx j := by
  unfold eclipseCtx
  dsimp only
  split
  · rfl
  · exact State.ctx_setCtx_ne _ _ h

theorem foldl_eclipseCtx_st (l : List Nat) (s : State) {k : Nat} (h : k ∈ l ∨ (s.ctx k).st = .eclipse) :
    ((l.foldl eclipseCtx s).ctx k).st = .eclipse := by
  induction l generalizing s with
  | nil => exact h.resolve_left nofun
  | cons j l ih =>
    refine ih _ ?_
    by_cases hj : k = j
    · exact .inr (by rw [hj, eclipseCtx_st])
    · exact h.imp (fun hk => (List.mem_cons.mp hk).resolve_left hj) fun hst => by rw [eclipseCtx_other hj, hst]

/-- Fencing the hub or the device puts every loaded context into eclipse. -/
theorem fence_ctx_st {d : Domain} {s : State} {k : Nat} (hk : k ∈ s.affected d) : ((fence d false s).ctx k).st = .eclipse := by
  have hctxs : (fence d false s).ctxs = ((s.affected d).foldl eclipseCtx
      { s with rcv := { s.rcv with eclipse := insertNew d s.rcv.eclipse } }).ctxs := by simp [fence]
  rw [ctx_of_ctxs hctxs]
  exact foldl_eclipseCtx_st _ _ (.inl hk)

theorem ctx_logEv (s : State) (e : LogEnt) (k : Nat) : (s.logEv e).ctx k = s.ctx k := ctx_of_ctxs (by simp) k

theorem faultWhole_self {s : State} {k cause : Nat} {name : String} (h : (s.ctx k).st ≠ .none) :
    ((faultWhole k cause name s).ctx k).st = .faulted ∧ ((s.ctx k).st ≠ .faulted → ((faultWhole k cause name s).ctx k).cause = cause) := by
  unfold faultWhole
  dsimp only
  split
  next hf => exact ⟨hf.resolve_left h, fun hnf => absurd (hf.resolve_left h) hnf⟩
  next =>
    rw [ctx_logEv, State.ctx_setCtx_self]
    exact ⟨rfl, fun _ => rfl⟩

theorem faultWhole_other {s : State} {k j cause : Nat} {name : String} (h : j ≠ k) : (faultWhole k cause name s).ctx j = s.ctx j := by
  unfold faultWhole
  dsimp only
  split
  · rfl
  · rw [ctx_logEv, State.ctx_setCtx_ne _ _ h]

/-- A context that is faulted stays as it is. -/
theorem faultWhole_faulted {s : State} {k j cause : Nat} {name : String} (h : (s.ctx j).st = .faulted) :
    (faultWhole k cause name s).ctx j = s.ctx j := by
  by_cases hj : j = k
  · subst hj
    rw [faultWhole, if_pos (.inr h)]
  · exact faultWhole_other hj

theorem foldl_faultWhole_faulted (l : List Nat) {s : State} {j cause : Nat} {name : String} (h : (s.ctx j).st = .faulted) :
    (l.foldl (fun u k => faultWhole k cause name u) s).ctx j = s.ctx j := by
  induction l generalizing s with
  | nil => rfl
  | cons k l ih =>
    have hstep := faultWhole_faulted (k := k) (cause := cause) (name := name) h
    exact (ih (by rw [hstep, h])).trans hstep

/-- Every loaded context of a list is faulted, with the cause given where it was not before. -/
theorem foldl_faultWhole_st (l : List Nat) {s : State} {j cause : Nat} {name : String} (hj : j ∈ l) (h : (s.ctx j).st ≠ .none) :
    ((l.foldl (fun u k => faultWhole k cause name u) s).ctx j).st = .faulted
    ∧ ((s.ctx j).st ≠ .faulted → ((l.foldl (fun u k => faultWhole k cause name u) s).ctx j).cause = cause) := by
  induction l generalizing s with
  | nil => exact nomatch hj
  | cons k l ih =>
    by_cases hk : j = k
    · subst hk
      obtain ⟨hst, hcause⟩ := faultWhole_self (cause := cause) (name := name) h
      have hrest := foldl_faultWhole_faulted (cause := cause) (name := name) l hst
      rw [List.foldl_cons, hrest]
      exact ⟨hst, hcause⟩
    · have hstep := faultWhole_other (s := s) (cause := cause) (name := name) hk
      obtain ⟨hst, hcause⟩ := ih (s := faultWhole k cause name s) ((List.mem_cons.mp hj).resolve_left hk) (by rwa [hstep])
      rw [hstep] at hcause
      exact ⟨hst, hcause⟩

/-! The hub -/

theorem foldl_resetPort_links (l : List Nat) (s : State) {n : Nat} (h : n ∈ l ∨ (s.net n).linkUp = false) :
    ((l.foldl (fun u n => resetPort n u) s).net n).linkUp = false := by
  induction l generalizing s with
  | nil => exact h.resolve_left nofun
  | cons m l ih =>
    refine ih _ ?_
    by_cases hm : n = m
    · subst hm
      exact .inr (congrArg Net.linkUp (State.net_setNet_self s n _))
    · refine h.imp (fun hn => (List.mem_cons.mp hn).resolve_left hm) fun hl => ?_
      exact (congrArg Net.linkUp (State.net_setNet_ne s _ hm)).trans hl

/-- What a hub reset leaves, beside what stays; `w` is the state that it finds. -/
structure HubReset (w u : State) : Prop where
  ctxs : ∀ k, (w.ctx k).st ≠ .none → (u.ctx k).st = .faulted ∧ (u.ctx k).colls = []
  causes : ∀ k, (w.ctx k).st ≠ .none → (w.ctx k).st ≠ .faulted → (u.ctx k).cause = 0x303
  engines : u.counters = [] ∧ u.pages = [] ∧ u.dwt.conns = [] ∧ u.dwt.queues = [] ∧ (∀ p ∈ u.dwt.wins, p.2.st = .closed)
    ∧ u.dwt.ready = false ∧ u.col.ready = false ∧ u.tiers.ready = false ∧ u.hif.ready = false
  links : ∀ n < 16, (u.net n).linkUp = false
  kept : u.tiers.mem = w.tiers.mem ∧ u.cores = w.cores

theorem leaveFrame_mem (s : State) (f : Nat) : (s.leaveFrame f).tiers.mem = s.tiers.mem := by
  unfold State.leaveFrame
  (repeat' split) <;> rfl

theorem dropMoves_mem (s : State) : (dropMoves s).tiers.mem = s.tiers.mem := by
  unfold dropMoves
  exact foldl_keeps (fun u : State => u.tiers.mem) State.leaveFrame _ s leaveFrame_mem

theorem clearHub_engines (s : State) : (clearHub s).counters = [] ∧ (clearHub s).pages = [] ∧ (clearHub s).dwt.conns = []
    ∧ (clearHub s).dwt.queues = [] ∧ (∀ p ∈ (clearHub s).dwt.wins, p.2.st = .closed) ∧ (clearHub s).dwt.ready = false
    ∧ (clearHub s).col.ready = false ∧ (clearHub s).tiers.ready = false ∧ (clearHub s).hif.ready = false := by
  refine ⟨rfl, rfl, rfl, rfl, fun p hp => ?_, rfl, rfl, rfl, rfl⟩
  obtain ⟨q, -, rfl⟩ := List.mem_map.mp hp
  rfl

theorem resetHub_row (w : State) : HubReset w (resetHub false w) := by
  have hfault := fun k (h : (w.ctx k).st ≠ .none) => foldl_faultWhole_st (cause := 0x303) (name := "HUB_RESET") (w.affected .hub)
    (mem_affected_hub h) h
  have htiers : ((w.affected .hub).foldl (fun u k => faultWhole k 0x303 "HUB_RESET" u) w).tiers = w.tiers := by simp
  have hcores : ((w.affected .hub).foldl (fun u k => faultWhole k 0x303 "HUB_RESET" u) w).cores = w.cores := by simp
  rw [resetHub]
  generalize (w.affected .hub).foldl (fun u k => faultWhole k 0x303 "HUB_RESET" u) w = x at *
  have hengines := clearHub_engines x
  have hcctx := clearHub_ctx x
  have hcmem : (clearHub x).tiers.mem = w.tiers.mem := (dropMoves_mem x).trans (congrArg Tiers.mem htiers)
  have hccores : (clearHub x).cores = w.cores := by simp [hcores]
  generalize clearHub x = y at *
  have hlinks := fun n (hn : n ∈ List.range 16) => foldl_resetPort_links (List.range 16) y (.inl hn)
  have hsame : ((List.range 16).foldl (fun u n => resetPort n u) y).ctxs = y.ctxs
    ∧ ((List.range 16).foldl (fun u n => resetPort n u) y).pages = y.pages
      ∧ ((List.range 16).foldl (fun u n => resetPort n u) y).counters = y.counters ∧ ((List.range 16).foldl (fun u n => resetPort n u) y).dwt = y.dwt
      ∧ ((List.range 16).foldl (fun u n => resetPort n u) y).col = y.col ∧ ((List.range 16).foldl (fun u n => resetPort n u) y).tiers = y.tiers
      ∧ ((List.range 16).foldl (fun u n => resetPort n u) y).hif = y.hif
      ∧ ((List.range 16).foldl (fun u n => resetPort n u) y).cores = y.cores := by simp
  generalize (List.range 16).foldl (fun u n => resetPort n u) y = z at *
  obtain ⟨h1, h2, h3, h4, h5, h6, h7, h8⟩ := hsame
  have hctx : ∀ k, (uncoverEncls z).ctx k = { x.ctx k with colls := [], early := [], collOpened := false } := fun k =>
    (ctx_of_ctxs h1 k).trans (hcctx k)
  have hu : (uncoverEncls z).counters = y.counters ∧ (uncoverEncls z).pages = y.pages ∧ (uncoverEncls z).dwt = y.dwt ∧ (uncoverEncls z).col = y.col
      ∧ (uncoverEncls z).tiers = y.tiers ∧ (uncoverEncls z).hif = y.hif ∧ (uncoverEncls z).cores = y.cores := ⟨h3, h2, h4, h5, h6, h7, h8⟩
  have hnet : ∀ n, (uncoverEncls z).net n = z.net n := fun _ => rfl
  rw [if_neg (by decide)]
  generalize uncoverEncls z = u at *
  obtain ⟨hc, hp, hd, hcol, ht, hh, hco⟩ := hu
  refine ⟨fun k hk => ?_, fun k hk hnf => ?_, ?_, fun n hn => ?_, by rw [ht, hcmem], by rw [hco, hccores]⟩
  · rw [hctx k]; exact ⟨(hfault k hk).1, rfl⟩
  · rw [hctx k]; exact (hfault k hk).2 hnf
  · rw [hc, hp, hd, hcol, ht, hh]; exact hengines
  · rw [hnet n]; exact hlinks n (List.mem_range.mpr hn)

theorem memInFlight_congr {s t : State} (hctxs : t.ctxs = s.ctxs) (hcores : t.cores = s.cores) (k : Nat) :
    t.memInFlight k = s.memInFlight k := by
  have hctx := ctx_of_ctxs hctxs
  have hcore := core_of_cores hcores
  simp only [State.memInFlight, State.coreCtx, hctx, hcore]

/-- A context with nothing in flight waits for no memory request. -/
theorem memInFlight_of_noFlights {s : State} {k : Nat} (h : s.inFlight k = false) : s.memInFlight k = false := by
  have hnone : s.noFlights k = true := by rwa [State.inFlight, Bool.not_eq_false'] at h
  rw [State.memInFlight, List.any_eq_false]
  intro n hn
  rw [Bool.not_eq_true, List.any_eq_false]
  intro x hx
  have hempty := List.all_eq_true.mp (List.all_eq_true.mp hnone n hn) x hx
  rw [List.isEmpty_iff.mp (Bool.and_eq_true_iff.mp hempty).1]
  decide

/-- A stream that waits for the hub's memory requests faults its context. -/
def faultWaiting (u : State) (k : Nat) : State := if u.memInFlight k then faultWhole k 0x302 "FENCED" u else u

theorem answerFenced_hub (s : State) : answerFenced .hub s
    = (((s.fencedPages .hub).foldl fencePage s).affected .hub).foldl faultWaiting ((s.fencedPages .hub).foldl fencePage s) := rfl

theorem faultWaiting_loaded {u : State} {j : Nat} (k : Nat) (h : (u.ctx j).st ≠ .none) : ((faultWaiting u k).ctx j).st ≠ .none := by
  unfold faultWaiting
  split
  · by_cases hj : j = k
    · subst hj
      rw [(faultWhole_self h).1]
      decide
    · rwa [faultWhole_other hj]
  · exact h

theorem foldl_faultWaiting_loaded (l : List Nat) {u : State} {j : Nat} (h : (u.ctx j).st ≠ .none) : ((l.foldl faultWaiting u).ctx j).st ≠ .none := by
  induction l generalizing u with
  | nil => exact h
  | cons k l ih => exact ih (faultWaiting_loaded k h)

theorem foldl_faultWaiting_idle {l : List Nat} {u : State} (h : ∀ k ∈ l, u.memInFlight k = false) : l.foldl faultWaiting u = u := by
  induction l with
  | nil => rfl
  | cons k l ih =>
    obtain ⟨hk, hl⟩ := List.forall_mem_cons.mp h
    have hstep : faultWaiting u k = u := by rw [faultWaiting, hk]; rfl
    rw [List.foldl_cons, hstep, ih hl]

/-- What answering the hub's requests does to the loaded contexts. -/
theorem answerFenced_hub_ctx (s : State) :
    (∀ k, (s.ctx k).st ≠ .none → ((answerFenced .hub s).ctx k).st ≠ .none)
    ∧ (s.outstanding .hub = false → ∀ k, (answerFenced .hub s).ctx k = s.ctx k) := by
  have hctxs : ((s.fencedPages .hub).foldl fencePage s).ctxs = s.ctxs := by simp
  have hcores : ((s.fencedPages .hub).foldl fencePage s).cores = s.cores := by simp
  rw [answerFenced_hub]
  generalize (s.fencedPages .hub).foldl fencePage s = x at *
  refine ⟨fun k hk => foldl_faultWaiting_loaded _ (by rwa [ctx_of_ctxs hctxs]), fun hout k => ?_⟩
  have hidle : ∀ k ∈ x.affected .hub, x.memInFlight k = false := by
    intro k hk
    rw [memInFlight_congr hctxs hcores]
    have haff : s.affected .hub = x.affected .hub := by rw [State.affected, State.affected, hctxs]
    simp only [State.outstanding, Bool.or_eq_false_iff, List.any_eq_false, Bool.not_eq_true] at hout
    exact memInFlight_of_noFlights (hout.1.1 k (haff ▸ hk))
  rw [foldl_faultWaiting_idle hidle, ctx_of_ctxs hctxs]

theorem finishReset_hub {s : State} (hcount : Domain.hub ∉ s.rcv.counting) (hsusp : ∀ x ∈ s.rcv.suspects, x.dom ≠ .hub) :
    HubReset (answerFenced .hub s) (finishReset .hub s) ∧ Domain.hub ∉ (finishReset .hub s).rcv.eclipse := by
  have hrcv : (answerFenced .hub s).rcv = s.rcv := by simp
  have hclear : clearedBy .hub s = resetHub false (answerFenced .hub s) := by
    change resetHub false { answerFenced .hub s with rcv := { (answerFenced .hub s).rcv with
      suspects := (answerFenced .hub s).rcv.suspects ++ [] } } = _
    rw [List.append_nil]
  rw [finishReset_operator hcount]
  dsimp only
  rw [hclear]
  generalize answerFenced .hub s = w at *
  have hrow := resetHub_row w
  have hrcv' : (resetHub false w).rcv = s.rcv := by simp [hrcv]
  generalize resetHub false w = t at *
  rw [finishReplays_none]
  · obtain ⟨h1, h2, h3, h4, h5⟩ := hrow
    exact ⟨⟨h1, h2, h3, h4, h5⟩, leaveEclipse_rcv _ _⟩
  · intro x hx
    exact hsusp x (by rw [← hrcv']; exact hx)

/-! The device -/

/-- What a device reset leaves, beside the module and the settings store. -/
structure DeviceReset (w u : State) : Prop where
  ctxs : ∀ k, (u.ctx k).st = .none
  engines : u.counters = [] ∧ u.dwt.conns = [] ∧ u.mgt.ready = false ∧ u.rcv.ready = false ∧ u.hif.ready = false ∧ u.sec.ready = false
    ∧ u.sec.image = none
  recovery : u.rcv.suspects = [] ∧ u.rcv.eclipse = []
  near : ∀ a < packageBase * Config.pageBytes, Tbl.get 0#8 u.tiers.mem a = 0#8
  store : u.mgt.store = w.mgt.store
  modl : u.modl.phase = (if w.modl.pwrGood || w.hubOut then .perst else w.modl.phase) ∧ u.modl.thermalStop = false

theorem emptied_near (s : State) {a : Nat} (ha : a < packageBase * Config.pageBytes) : Tbl.get 0#8 (emptied s).tiers.mem a = 0#8 := by
  unfold emptied
  dsimp only
  split
  · rfl
  · refine Tbl.get_of_not_listed _ fun p hp h => ?_
    have hle := of_decide_eq_true (List.mem_filter.mp hp).2
    omega

theorem resetDevice_rest (s : State) : (resetDevice s).dwt.conns = [] ∧ (resetDevice s).sec.ready = false ∧ (resetDevice s).sec.image = none
    ∧ (resetDevice s).rcv.suspects = [] ∧ (resetDevice s).rcv.eclipse = [] ∧ (resetDevice s).tiers.mem = (emptied s).tiers.mem := by
  have hstart : (restarted s).dwt.conns = [] ∧ (restarted s).sec.ready = false ∧ (restarted s).sec.image = none
      ∧ (restarted s).rcv.suspects = [] ∧ (restarted s).rcv.eclipse = [] ∧ (restarted s).tiers.mem = (emptied s).tiers.mem :=
    ⟨rfl, rfl, rfl, rfl, rfl, dropMoves_mem (emptied s)⟩
  generalize hu : restarted s = u at *
  rcases resetDevice_eq s with h | h <;> rw [h, hu]
  · exact hstart
  · obtain ⟨e, he⟩ := errRcv_rcv u 8 0xFFFF 0xFF 0xFF
    have hdwt : (u.errRcv 8).dwt = u.dwt := by simp
    have hsec : (u.errRcv 8).sec = u.sec := by simp
    have htiers : (u.errRcv 8).tiers = u.tiers := by simp
    generalize u.errRcv 8 = x at *
    obtain ⟨h1, h2, h3, h4, h5, h6⟩ := hstart
    exact ⟨(congrArg Dwt.conns hdwt).trans h1, (congrArg Sec.ready hsec).trans h2, (congrArg Sec.image hsec).trans h3,
      (congrArg Rcv.suspects he).trans h4, (congrArg Rcv.eclipse he).trans h5, (congrArg Tiers.mem htiers).trans h6⟩

theorem mem_affected_device {s : State} {k : Nat} (h : (s.ctx k).st ≠ .none) : k ∈ s.affected .device := mem_affected_hub h

theorem resetDevice_row {w : State} (hreplay : w.rcv.replaying = none) : DeviceReset w (resetDevice w) := by
  obtain ⟨hconns, hsec, himage, hsusp, hecl, hmem⟩ := resetDevice_rest w
  obtain ⟨hcounters, hrcv, -⟩ := resetDevice_leaves w
  obtain ⟨hstore, hmgt⟩ := resetDevice_store w
  obtain ⟨p, hmodl⟩ := resetDevice_modl w
  refine ⟨fun k => ?_, ⟨hcounters, hconns, hmgt, hrcv, resetDevice_hif w, hsec, himage⟩, ⟨hsusp, hecl⟩, fun a ha => by rw [hmem, emptied_near w ha],
    hstore, by rw [hmodl], by rw [hmodl]⟩
  by_cases hk : (w.ctx k).st = .none
  · have hend : endReplay false w = w := by rw [endReplay, hreplay]
    rw [ctx_of_ctxs (resetDevice_ctxs w), clearHub_ctx, ctx_of_ctxs (emptied_ctxs w)]
    exact foldl_unloadNow_gone (w.affected .device) (endReplay false w) k (.inr (by rwa [hend]))
  · exact resetDevice_unloads w k (mem_affected_device hk)

theorem finishReset_device {s : State} (hcount : Domain.device ∉ s.rcv.counting) (hreplay : s.rcv.replaying = none) :
    DeviceReset s (finishReset .device s) := by
  have hanswer : answerFenced .device s = (s.fencedPages .device).foldl fencePage s := rfl
  have hrcv : (answerFenced .device s).rcv = s.rcv := by simp
  have hmgt : (answerFenced .device s).mgt = s.mgt := by rw [hanswer]; simp
  have hmodl : (answerFenced .device s).modl = s.modl := by rw [hanswer]; simp
  have hclear : clearedBy .device s = resetDevice (answerFenced .device s) := by
    change resetDevice { answerFenced .device s with rcv := { (answerFenced .device s).rcv with
      suspects := (answerFenced .device s).rcv.suspects ++ [] } } = _
    rw [List.append_nil]
  rw [finishReset_operator hcount]
  dsimp only
  rw [hclear]
  generalize answerFenced .device s = w at *
  have hrow := resetDevice_row (w := w) (by rwa [hrcv])
  generalize resetDevice w = t at *
  obtain ⟨hctxs, hengines, ⟨hsusp, hecl⟩, hnear, hstore, hphase, hstop⟩ := hrow
  rw [finishReplays_none (by intro x hx; rw [show (leaveEclipse .device t).rcv.suspects = [] from hsusp] at hx; exact nomatch hx)]
  refine ⟨hctxs, hengines, ⟨hsusp, ?_⟩, hnear, hstore.trans (by rw [hmgt]), hphase.trans ?_, hstop⟩
  · change t.rcv.eclipse.filter _ = []
    rw [hecl]
    rfl
  · rw [State.hubOut, State.hubOut, hmodl]

theorem replaying_none {s : State} (h : s.replayIn .device = false) : s.rcv.replaying = none := by
  revert h
  unfold State.replayIn State.replayed
  cases s.rcv.replaying
  · exact fun _ => rfl
  · exact fun h => absurd h (by simp)

/-! The three resets -/

/-- What eclipse keeps of an enclosure. -/
structure EnclKept (i : EnclId) (s v : State) : Prop where
  encl : (v.encl i.val).trk = (s.encl i.val).trk ∧ (v.encl i.val).pubs = (s.encl i.val).pubs ∧ (v.encl i.val).epoch = (s.encl i.val).epoch
  entry : v.entry i.val = s.entry i.val
  busy : v.sec.busy = s.sec.busy

theorem eclipseEncl_row {i : EnclId} {s : State} (h : (s.encl i.val).st ≠ .absent) :
    ((eclipseEncl s i.val).encl i.val).st = .eclipse ∧ EnclKept i s (eclipseEncl s i.val) := by
  unfold eclipseEncl
  dsimp only
  split
  next hst => exact ⟨hst.resolve_left h, ⟨rfl, rfl, rfl⟩, rfl, rfl⟩
  next =>
    refine ⟨?_, ?_, rfl, rfl⟩
    · rw [show (s.setEncl i.val _).encl i.val = _ from Tbl.get_put_same ..]
    · rw [show (s.setEncl i.val _).encl i.val = _ from Tbl.get_put_same ..]
      exact ⟨rfl, rfl, rfl⟩

theorem fence_encl_row {i : EnclId} {s : State} (h : (s.encl i.val).st ≠ .absent) :
    ((fence (.encl i) false s).encl i.val).st = .eclipse ∧ EnclKept i s (fence (.encl i) false s) := by
  have hfence : (fence (.encl i) false s).sec = (eclipseEncl ((s.affected (.encl i)).foldl eclipseCtx
      { s with rcv := { s.rcv with eclipse := insertNew (.encl i) s.rcv.eclipse } }) i.val).sec := by
    simp [fence, State.affectedEncls]
  have hsec : ((s.affected (.encl i)).foldl eclipseCtx { s with rcv := { s.rcv with eclipse := insertNew (.encl i) s.rcv.eclipse } }).sec
      = s.sec := by simp
  generalize (s.affected (.encl i)).foldl eclipseCtx { s with rcv := { s.rcv with eclipse := insertNew (.encl i) s.rcv.eclipse } } = x at *
  generalize fence (.encl i) false s = v at *
  have hxe : x.encl i.val = s.encl i.val := by rw [State.encl, hsec, State.encl]
  have hve : v.encl i.val = (eclipseEncl x i.val).encl i.val := by rw [State.encl, hfence, State.encl]
  obtain ⟨hst, ⟨htrk, hpubs, hepoch⟩, hentry, hbusy⟩ := eclipseEncl_row (s := x) (by rwa [hxe])
  refine ⟨by rw [hve, hst], ⟨?_, ?_, ?_⟩, ?_, by rw [hfence, hbusy, hsec]⟩
  · rw [hve, htrk, hxe]
  · rw [hve, hpubs, hxe]
  · rw [hve, hepoch, hxe]
  · rw [State.entry, State.entries, hfence]
    exact hentry.trans (by rw [State.entry, State.entries, hsec, State.entry, State.entries])

theorem fence_encl_nets (i : EnclId) (s : State) : (fence (.encl i) false s).nets = s.nets := by simp

/-- The facts of an enclosure's reset, told of the state before its eclipse. -/
theorem EnclReset.facts {i : EnclId} {s v u : State} (hv : EnclKept i s v) (hnets : v.nets = s.nets) (h : EnclReset i v u) :
    (u.encl i.val).st = .resetting ∧ (u.encl i.val).before = (if (s.encl i.val).trk.isSome then .active else .awaitingKey)
      ∧ (u.encl i.val).trk = (s.encl i.val).trk ∧ (u.encl i.val).pubs = (s.encl i.val).pubs ∧ (u.encl i.val).epoch = (s.encl i.val).epoch
      ∧ (∀ k, (s.entry i.val).ownsSlot k = true → (u.ctx k).st = .none) ∧ (∀ p ∈ u.tiers.pt, (s.entry i.val).ownsSlot (p.1 / vpages) = false)
      ∧ (∀ p ∈ u.dwt.conns, (s.entry i.val).ownsConn p.1 = false)
      ∧ (∀ p ∈ u.dwt.queues, inRange p.1 (s.entry i.val).queueBase (s.entry i.val).queueCount = false)
      ∧ (∀ p ∈ u.dwt.wins, inRange p.1 (s.entry i.val).winBase (s.entry i.val).winCount = true → p.2.st = .closed)
      ∧ Domain.encl i ∉ u.rcv.eclipse ∧ u.nets = s.nets := by
  obtain ⟨⟨htrk, hpubs, hepoch⟩, hentry, -⟩ := hv
  obtain ⟨⟨before, hencl, hbefore⟩, hempty, hleft, hn⟩ := h
  obtain ⟨h1, h2, h3, h4, h5⟩ := hentry ▸ hempty
  rw [hencl, hbefore, htrk]
  exact ⟨rfl, rfl, rfl, hpubs, hepoch, h1, h2, h3, h4, h5, hleft, hn.trans hnets⟩

/-- The state `u` is what a reset of the hub leaves of `s`. -/
def hubCleared (s u : State) : Prop :=
  (∀ k, (s.ctx k).st ≠ .none → (u.ctx k).st = .faulted ∧ (u.ctx k).colls = []) ∧ u.counters = [] ∧ u.pages = []
    ∧ u.dwt.conns = [] ∧ u.dwt.queues = [] ∧ (∀ p ∈ u.dwt.wins, p.2.st = .closed) ∧ u.dwt.ready = false ∧ u.col.ready = false
    ∧ u.tiers.ready = false ∧ u.hif.ready = false ∧ u.tiers.mem = s.tiers.mem ∧ (∀ n < 16, (u.net n).linkUp = false)
    ∧ Domain.hub ∉ u.rcv.eclipse ∧ u.cores = s.cores

/-- The facts of a hub's reset, told of the state before its eclipse. -/
theorem HubReset.facts {s w u : State} (h : HubReset w u) (hloaded : ∀ k, (s.ctx k).st ≠ .none → (w.ctx k).st ≠ .none)
    (htiers : w.tiers = s.tiers) (hcores : w.cores = s.cores) (hleft : Domain.hub ∉ u.rcv.eclipse) : hubCleared s u := by
  obtain ⟨hctxs, -, ⟨h1, h2, h3, h4, h5, h6, h7, h8, h9⟩, hlinks, hmem, hc⟩ := h
  exact ⟨fun k hk => hctxs k (hloaded k hk), h1, h2, h3, h4, h5, h6, h7, h8, h9, by rw [hmem, htiers], hlinks, hleft, hc.trans hcores⟩

theorem DeviceReset.facts {s w u : State} (h : DeviceReset w u) (hmgt : w.mgt = s.mgt) (hmodl : w.modl = s.modl) :
    (∀ k, (u.ctx k).st = .none) ∧ u.counters = [] ∧ u.dwt.conns = []
      ∧ u.mgt.ready = false ∧ u.rcv.ready = false ∧ u.hif.ready = false ∧ u.sec.ready = false ∧ u.sec.image = none
      ∧ u.mgt.store = s.mgt.store ∧ u.rcv.suspects = [] ∧ u.rcv.eclipse = []
      ∧ (∀ a < packageBase * Config.pageBytes, Tbl.get 0#8 u.tiers.mem a = 0#8)
      ∧ u.modl.phase = (if s.modl.pwrGood || s.hubOut then .perst else s.modl.phase) ∧ u.modl.thermalStop = false := by
  obtain ⟨hctxs, ⟨h1, h2, h3, h4, h5, h6, h7⟩, ⟨h8, h9⟩, hnear, hstore, hphase, hstop⟩ := h
  refine ⟨hctxs, h1, h2, h3, h4, h5, h6, h7, by rw [hstore, hmgt], h8, h9, hnear, ?_, hstop⟩
  rw [hphase, State.hubOut, State.hubOut, hmodl]

theorem enclosureReset_block {s : State} {i : EnclId} (hready : s.rcv.ready = true) (hst : (s.encl i.val).st ≠ .absent)
    (hcount : Domain.encl i ∉ s.rcv.counting) (hsusp : ∀ x ∈ s.rcv.suspects, x.dom ≠ .encl i) (hbusy : s.sec.busy = none)
    (hreplay : s.replayIn (.encl i) = false) : 
    ((fence (.encl i) false s).outstanding (.encl i) = true → operatorReset (.encl i) s = fence (.encl i) false s)
    ∧ ((fence (.encl i) false s).outstanding (.encl i) = false → EnclReset i (fence (.encl i) false s) (operatorReset (.encl i) s)) := by
  obtain ⟨hwait, hnow⟩ := operatorReset_row hready (by rw [State.domThere]; exact decide_eq_true hst) hreplay
  obtain ⟨hv, -, -, hb⟩ := fence_encl_row hst
  refine ⟨hwait, fun h => ?_⟩
  rw [hnow h]
  have hrcv := fence_rcv (.encl i) s
  generalize fence (.encl i) false s = v at *
  exact finishReset_encl (by rw [hv]; decide) (by rwa [hrcv]) (by rwa [hrcv]) (hb.trans hbusy)

theorem fence_hub_loaded {s : State} {k : Nat} (h : (s.ctx k).st ≠ .none) : ((fence .hub false s).ctx k).st = .eclipse :=
  fence_ctx_st (mem_affected_hub h)

theorem hubReset_block {s : State} (hready : s.rcv.ready = true) (hcount : Domain.hub ∉ s.rcv.counting)
    (hsusp : ∀ x ∈ s.rcv.suspects, x.dom ≠ .hub) (hreplay : s.replayIn .hub = false) :
    ((fence .hub false s).outstanding .hub = true → operatorReset .hub s = fence .hub false s)
    ∧ ((fence .hub false s).outstanding .hub = false →
      HubReset (answerFenced .hub (fence .hub false s)) (operatorReset .hub s) ∧ Domain.hub ∉ (operatorReset .hub s).rcv.eclipse) := by
  obtain ⟨hwait, hnow⟩ := operatorReset_row (d := .hub) hready rfl hreplay
  refine ⟨hwait, fun h => ?_⟩
  rw [hnow h]
  have hrcv := fence_rcv .hub s
  generalize fence .hub false s = v at *
  exact finishReset_hub (by rwa [hrcv]) (by rwa [hrcv])

theorem deviceReset_block {s : State} (hready : s.rcv.ready = true) (hcount : Domain.device ∉ s.rcv.counting)
    (hreplay : s.replayIn .device = false) :
    ((fence .device false s).outstanding .device = true → operatorReset .device s = fence .device false s)
    ∧ ((fence .device false s).outstanding .device = false → DeviceReset (fence .device false s) (operatorReset .device s)) := by
  obtain ⟨hwait, hnow⟩ := operatorReset_row (d := .device) hready rfl hreplay
  refine ⟨hwait, fun h => ?_⟩
  rw [hnow h]
  have hrcv := fence_rcv .device s
  have hnone := replaying_none hreplay
  generalize fence .device false s = v at *
  exact finishReset_device (by rwa [hrcv]) (by rw [hrcv]; exact hnone)

theorem fence_eclipse (d : Domain) (s : State) : d ∈ (fence d false s).rcv.eclipse := by
  rw [fence_rcv]
  exact mem_insertNew _ _

theorem fence_cores_hub (s : State) : (fence .hub false s).cores = s.cores := by simp [fence, State.domCores]

theorem exec_enclosureReset (i : EnclId) (s : State) : exec (.enclosureReset i) s = .next (s.close (operatorReset (.encl i) s)) := rfl
theorem exec_hubReset (s : State) : exec .hubReset s = .next (s.close (operatorReset .hub s)) := rfl
theorem exec_deviceReset (s : State) : exec .deviceReset s = .next (s.close (operatorReset .device s)) := rfl

theorem exec_drainExpiry {d : Domain} {s : State} (h : d ∈ s.rcv.eclipse) : exec (.drainExpiry d) s = .next (s.close (finishReset d s)) :=
  congrArg Host.Outcome.next (if_pos h)

theorem enclosureReset_rows (s : State) (i : EnclId) (hready : s.rcv.ready = true) (hst : (s.encl i.val).st ≠ .absent)
    (hcount : Domain.encl i ∉ s.rcv.counting) (hsusp : ∀ x ∈ s.rcv.suspects, x.dom ≠ .encl i) (hbusy : s.sec.busy = none)
    (hreplay : s.replayIn (.encl i) = false) :
    let v := fence (.encl i) false s
    (v.outstanding (.encl i) = true → exec (.enclosureReset i) s = .next (s.close v) ∧ Domain.encl i ∈ v.rcv.eclipse
      ∧ (v.encl i.val).st = .eclipse ∧ (v.encl i.val).trk = (s.encl i.val).trk ∧ v.tiers = s.tiers)
    ∧ (v.outstanding (.encl i) = false → EnclReset i v (operatorReset (.encl i) s) ∧ EnclKept i s v ∧ v.nets = s.nets)
    ∧ (Domain.encl i ∈ s.rcv.eclipse → exec (.drainExpiry (.encl i)) s = .next (s.close (finishReset (.encl i) s))
    ∧ EnclReset i s (finishReset (.encl i) s)) := by
  obtain ⟨hwait, hnow⟩ := enclosureReset_block hready hst hcount hsusp hbusy hreplay
  obtain ⟨hv, hkept⟩ := fence_encl_row hst
  have htiers : (fence (.encl i) false s).tiers = s.tiers := by simp
  refine ⟨fun h => ⟨?_, fence_eclipse _ s, hv, hkept.encl.1, htiers⟩, fun h => ⟨hnow h, hkept, fence_encl_nets i s⟩,
    fun h => ⟨exec_drainExpiry h, finishReset_encl hst hcount hsusp hbusy⟩⟩
  rw [exec_enclosureReset, hwait h]

theorem hubReset_rows (s : State) (hready : s.rcv.ready = true) (hcount : Domain.hub ∉ s.rcv.counting)
    (hsusp : ∀ x ∈ s.rcv.suspects, x.dom ≠ .hub) (hreplay : s.replayIn .hub = false) :
    let v := fence .hub false s
    (v.outstanding .hub = true → exec .hubReset s = .next (s.close v) ∧ Domain.hub ∈ v.rcv.eclipse
      ∧ (∀ k, (s.ctx k).st ≠ .none → (v.ctx k).st = .eclipse) ∧ v.tiers = s.tiers ∧ v.nets = s.nets)
    ∧ (v.outstanding .hub = false → hubCleared s (operatorReset .hub s))
    ∧ (v.outstanding .hub = false → ∀ k, (s.ctx k).st ≠ .none → ((operatorReset .hub s).ctx k).cause = 0x303)
    ∧ hubCleared s (finishReset .hub s) := by
  obtain ⟨hwait, hnow⟩ := hubReset_block hready hcount hsusp hreplay
  have hexec := exec_hubReset s
  have hecl := fence_eclipse .hub s
  have hloaded := fun k => fence_hub_loaded (s := s) (k := k)
  have htiers : (fence .hub false s).tiers = s.tiers := by simp
  have hnets : (fence .hub false s).nets = s.nets := by simp
  have hcores := fence_cores_hub s
  dsimp only
  generalize fence .hub false s = v at *
  obtain ⟨hstay, hidle⟩ := answerFenced_hub_ctx v
  have hwt : (answerFenced .hub v).tiers = s.tiers := by simp [htiers]
  have hwc : (answerFenced .hub v).cores = s.cores := by simp [hcores]
  refine ⟨fun h => ⟨by rw [hexec, hwait h], hecl, hloaded, htiers, hnets⟩, fun h => ?_, fun h k hk => ?_, ?_⟩
  · obtain ⟨hreset, hleft⟩ := hnow h
    exact hreset.facts (fun k hk => hstay k (by rw [hloaded k hk]; decide)) hwt hwc hleft
  · have hw := hidle h k
    exact (hnow h).1.causes k (by rw [hw, hloaded k hk]; decide) (by rw [hw, hloaded k hk]; decide)
  · obtain ⟨hreset, hleft⟩ := finishReset_hub hcount hsusp
    exact hreset.facts (answerFenced_hub_ctx s).1 (by simp) (by simp) hleft

/-- Settles O36: each reset ends at once or after its drain, in the same `finishReset`. -/
theorem wideResets : Obligations.WideResets := by
  refine ⟨fun s i hready hst hcount hsusp hbusy hreplay => ?_, fun s hready hcount hsusp hreplay => ?_, fun s hready hcount hreplay => ?_⟩
  · obtain ⟨h1, h2, h3⟩ := enclosureReset_rows s i hready hst hcount hsusp hbusy hreplay
    refine ⟨h1, fun h => ⟨_, exec_enclosureReset i s, ?_⟩, fun h => ⟨_, (h3 h).1, ?_⟩⟩
    · obtain ⟨hreset, hkept, hnets⟩ := h2 h
      exact hreset.facts hkept hnets
    · exact (h3 h).2.facts ⟨⟨rfl, rfl, rfl⟩, rfl, rfl⟩ rfl
  · obtain ⟨h1, h2, h3, h4⟩ := hubReset_rows s hready hcount hsusp hreplay
    exact ⟨h1, fun h => ⟨_, exec_hubReset s, h2 h, h3 h⟩, fun h => ⟨_, exec_drainExpiry h, h4⟩⟩
  · obtain ⟨hwait, hnow⟩ := deviceReset_block hready hcount hreplay
    have htiers : (fence .device false s).tiers = s.tiers := by simp
    have hnets : (fence .device false s).nets = s.nets := by simp
    have hmgt : (fence .device false s).mgt = s.mgt := by simp
    have hmodl : (fence .device false s).modl = s.modl := by simp
    refine ⟨fun h => ⟨?_, fence_eclipse _ s, fun k hk => fence_ctx_st (mem_affected_device hk), htiers, hnets⟩,
      fun h => ⟨_, exec_deviceReset s, (hnow h).facts hmgt hmodl⟩,
      fun h => ⟨_, exec_drainExpiry h, (finishReset_device hcount (replaying_none hreplay)).facts rfl rfl⟩⟩
    rw [exec_deviceReset, hwait h]

end Sys2Proof
end

section
/-! Engine faults (12 R368 to R371, R373): a replay whose record of a core is that of a retired one. The statement asks that the core is in
service at the fault, and forgets that the end of the replay puts it back to what the record says. -/

namespace Sys2Proof

open Sys2Proof.Machine

namespace RecordedRetired

/-- Core 0 runs a replay of a suspect of port 0, whose record says that the core was retired before. -/
def before : State :=
  { cores := [(0, { state := .running, resident := some replaySlot })]
    rcv := { replaying := some (.port 0, 0), replay := some { cores := [(0, { state := .retired })] } } }

theorem ended_core : ((endReplay false before).core 0).state = .retired ∧ ((endReplay false before).core 0).resident = none
    ∧ ((endReplay false before).core 0).shadow = none := by decide

theorem ended_suspects : (endReplay false before).rcv.suspects = [] := by decide

theorem ended_ctxs : (endReplay false before).ctxs = [] := by decide

end RecordedRetired

/-- A first counted reset is not the third. -/
theorem countedIn_first {s : State} (h : s.rcv.history = []) (d : Nat) (span : Nat) : (addCounted d s).countedIn d span < 3 := by
  have hlen : (addCounted d s).rcv.history.length = 1 := by simp [addCounted, h]
  exact lt_of_le_of_lt (List.length_filter_le ..) (by rw [hlen]; decide)

/-- A counted reset that is not the third only counts. -/
theorem countReset_core {n : CoreId} {s : State} (h : (addCounted n.val s).countedIn n.val tenMinutes < 3) :
    countReset (.core n) s = countFailure (addCounted n.val s) := by
  have hthree : decide (3 ≤ (addCounted n.val s).countedIn n.val tenMinutes) = false := decide_eq_false (Nat.not_le.mpr h)
  exact if_neg (by rw [show domNum (.core n) = n.val from rfl, hthree]; decide)

theorem countFailure_rcv (s : State) : (countFailure s).rcv = { s.rcv with failures := satAdd Config.sat32 s.rcv.failures 1 } := by
  simp [countFailure]

/-- The end of a core's reset that an engine fault started. -/
theorem finishReset_core_fault {s : State} {n : CoreId} (hcount : Domain.core n ∈ s.rcv.counting) :
    let t := countReset (.core n) (leaveEclipse (.core n) (resetCore n.val { s with rcv := { s.rcv with suspects := s.rcv.suspects ++ [] } }))
    finishReset (.core n) s = finishReplays (.core n)
      (if (t.rcv.suspects.filter fun x => decide (x.dom = .core n)).isEmpty then t.errRcv 4 (core := n.val) else t) := by
  have hfault : decide (Domain.core n ∈ s.rcv.counting) = true := decide_eq_true hcount
  unfold finishReset leaveEclipse
  rw [hfault]
  simp only [Bool.true_and, if_true]
  rfl

/-- The end of the first counted reset of a retired core leaves the core as it is. -/
theorem finishReset_retired {s : State} {n : CoreId} (hst : (s.core n.val).state = .retired) (hsusp : s.rcv.suspects = [])
    (hhist : s.rcv.history = []) (hcount : Domain.core n ∈ s.rcv.counting) : (finishReset (.core n) s).core n.val = s.core n.val := by
  rw [finishReset_core_fault hcount, List.append_nil]
  dsimp only
  rw [show resetCore n.val s = s from if_pos hst]
  have hleft : (leaveEclipse (.core n) s).rcv.history = [] := hhist
  have hcores : (leaveEclipse (.core n) s).cores = s.cores := rfl
  have hs : (leaveEclipse (.core n) s).rcv.suspects = [] := hsusp
  generalize leaveEclipse (.core n) s = x at *
  rw [countReset_core (countedIn_first hleft n.val tenMinutes)]
  have hc : (countFailure (addCounted n.val x)).cores = s.cores := by simp [addCounted, hcores]
  have hnone : (countFailure (addCounted n.val x)).rcv.suspects = [] := by rw [countFailure_rcv]; exact hs
  generalize countFailure (addCounted n.val x) = y at *
  obtain ⟨e, he⟩ := errRcv_rcv y 4 0xFFFF n.val 0xFF
  have hyc : (y.errRcv 4 (core := n.val)).cores = s.cores := by simp [hc]
  have hys : (y.errRcv 4 (core := n.val)).rcv.suspects = [] := (congrArg Rcv.suspects he).trans hnone
  rw [hnone]
  simp only [List.filter_nil, List.isEmpty_nil, if_true]
  rw [finishReplays_none (by rw [hys]; exact fun x hx => nomatch hx)]
  exact core_of_cores hyc n.val

/-- The first counted reset of a core that is retired leaves it as it is. -/
theorem startReset_retired {v : State} {n : CoreId} (hst : (v.core n.val).state = .retired) (hres : (v.core n.val).resident = none)
    (hshadow : (v.core n.val).shadow = none) (hreplay : v.rcv.replaying = none) (hsusp : v.rcv.suspects = []) (hhist : v.rcv.history = []) :
    (fence (.core n) true v).outstanding (.core n) = false ∧ ((startReset (.core n) true v).core n.val).state = .retired := by
  have hfence : fence (.core n) true v = { v with rcv := { v.rcv with
      eclipse := insertNew (.core n) v.rcv.eclipse, counting := insertNew (.core n) v.rcv.counting } } := by
    have haff : v.affected (.core n) = [] := by rw [State.affected, hres, hshadow]; rfl
    rw [fence, haff]
    exact if_pos (.inl hst)
  have hreplay' : v.replayIn (.core n) = false := by rw [State.replayIn, State.replayed, hreplay]; rfl
  have hcount : Domain.core n ∈ (fence (.core n) true v).rcv.counting := by rw [hfence]; exact mem_insertNew _ _
  have hfacts : (fence (.core n) true v).core n.val = v.core n.val ∧ (fence (.core n) true v).rcv.suspects = []
      ∧ (fence (.core n) true v).rcv.history = [] := by rw [hfence]; exact ⟨rfl, hsusp, hhist⟩
  have hstart : startReset (.core n) true v = if (fence (.core n) true v).outstanding (.core n) then fence (.core n) true v
      else finishReset (.core n) (fence (.core n) true v) := by
    rw [startReset, hreplay', hreplay]
    rfl
  rw [hstart]
  generalize fence (.core n) true v = t at *
  obtain ⟨hcore, hsusp', hhist'⟩ := hfacts
  have hout : t.outstanding (.core n) = false := by
    have haff : t.affected (.core n) = [] := by rw [State.affected, hcore, hres, hshadow]; rfl
    have hstarted : t.startedIn (.core n) = false := by simp [State.startedIn]
    change ((t.affected (.core n)).any t.inFlight || ([] : List Nat).any (fun k => !(t.page k).queue.isEmpty) || t.startedIn (.core n)) = false
    rw [haff, hstarted]
    rfl
  refine ⟨hout, ?_⟩
  rw [if_neg (by rw [hout]; decide), finishReset_retired (by rw [hcore, hst]) hsusp' hhist' hcount, hcore, hst]

/-- Refutes O37: the core that the replay had recorded as retired is retired again after the fault, and no reset makes it IDLE. -/
theorem not_engineFaults : ¬ Obligations.EngineFaults := by
  rintro ⟨h, -, -, -⟩
  obtain ⟨v, -, -, hcores, -, -, hhist, -, hreplay, hsusp, hnow⟩ := h RecordedRetired.before 0 (by decide) (by decide)
  obtain ⟨hst, hres, hshadow⟩ := RecordedRetired.ended_core
  have hcore : v.core 0 = (endReplay false RecordedRetired.before).core 0 := core_of_cores hcores 0
  have hnone : v.rcv.suspects = [] := (hsusp (by rw [RecordedRetired.ended_suspects]; exact fun x hx => nomatch hx)).trans (by decide)
  obtain ⟨hout, hretired⟩ := startReset_retired (v := v) (n := 0) (by rw [← hst]; exact congrArg Core.state hcore)
    (by rw [← hres]; exact congrArg Core.resident hcore) (by rw [← hshadow]; exact congrArg Core.shadow hcore) hreplay hnone hhist
  obtain ⟨-, -, -, hfew, -⟩ := hnow hout
  obtain ⟨hidle, -⟩ := hfew (countedIn_first rfl 0 tenMinutes)
  exact absurd (hidle.symm.trans hretired) (by decide)

end Sys2Proof
end

section
/-! The meridian and the switches of contexts (04 R136, R137, R139, R140). -/

namespace Sys2Proof

open Sys2Proof.Machine

/-! The new step -/

theorem newStep_ctx (slot : Nat) (v : State) :
    ((newStep slot v).ctx slot).s = (v.ctx slot).s + 1 ∧ ((newStep slot v).ctx slot).opened = [] ∧ ((newStep slot v).ctx slot).collNext = 0 := by
  have h : (newStep slot v).ctx slot = { v.ctx slot with
      s := (v.ctx slot).s + 1, opened := [], collNext := 0, pmap := none, folded := false, mismatch := false, held := (v.ctx slot).mismatch
      cause := if (v.ctx slot).mismatch then causeDigest else (v.ctx slot).cause } :=
    State.ctx_setCtx_self v slot _
  rw [h]
  exact ⟨rfl, rfl, rfl⟩

/-- A meridian whose conditions hold and whose checks find nothing. -/
theorem meridian_row {s : State} {slot : Nat} {d : Bool} (hready : s.meridianReady slot = true) (hrun : s.allHalted slot = false)
    (hres : (firstThree slot (writeWinRecords slot s)).resident slot = true)
    (hcheck : (meridianCheck slot d (firstThree slot (writeWinRecords slot s))).2 = none) :
    meridian slot d s =
      ((s.settle (repairIdle
        (if ((lastSteps slot (meridianCheck slot d (firstThree slot (writeWinRecords slot s))).1).ctx slot).held
          then lastSteps slot (meridianCheck slot d (firstThree slot (writeWinRecords slot s))).1
          else stepEight slot (((lastSteps slot (meridianCheck slot d (firstThree slot (writeWinRecords slot s))).1).enclOfSlot slot).getD 0xFF)
            (lastSteps slot (meridianCheck slot d (firstThree slot (writeWinRecords slot s))).1)))).pumpAt (some slot)).pumpAt none := by
  unfold meridian
  simp only [hready, hrun, hres, hcheck, Bool.not_true, Bool.false_eq_true, if_false]

/-! A context comes onto its cores -/

/-- A step over a list that touches at each number its own core alone. -/
theorem core_foldl_of_mem {f : State → Nat → State} {P : Nat → Core → Core → Prop} (hother : ∀ u m k, k ≠ m → (f u m).core k = u.core k)
    (hself : ∀ u m, P m (u.core m) ((f u m).core m)) {l : List Nat} (hl : l.Nodup) (s : State) {n : Nat} (hn : n ∈ l) :
    P n (s.core n) ((l.foldl f s).core n) := by
  have hkeep : ∀ (l : List Nat) (u : State), n ∉ l → (l.foldl f u).core n = u.core n := by
    intro l
    induction l with
    | nil => exact fun _ _ => rfl
    | cons m l ih =>
      intro u hnot
      rw [List.foldl_cons, ih _ fun h => hnot (List.mem_cons_of_mem _ h), hother u m n fun h => hnot (h ▸ List.mem_cons_self ..)]
  induction l generalizing s with
  | nil => exact absurd hn nofun
  | cons m l ih =>
    obtain ⟨hm, hl⟩ := List.nodup_cons.mp hl
    rcases List.mem_cons.mp hn with rfl | hn
    · rw [List.foldl_cons, hkeep l _ hm]
      exact hself s n
    · rw [List.foldl_cons, ← hother s m n fun h => hm (h ▸ hn)]
      exact ih hl _ hn

theorem maskCores_nodup (m : Nat) : (maskCores m).Nodup := List.nodup_range.filter _

/-- A core takes the context of a slot. -/
def takeCore (slot : Nat) (c : Ctx) (u : State) (n : Nat) : State :=
  u.setCore n { (u.core n).applySpares.wakes (u.runClock n) with
    resident := some slot, live := Tbl.get {} c.saved n, aged := [], key := c.desc.seed }

theorem switchInNow_eq (slot encl : Nat) (s : State) :
    switchInNow slot encl s =
      openColl slot encl (showShadow slot
        (((maskCores ((endRebalance slot s).ctx slot).desc.mask).foldl (takeCore slot ((endRebalance slot s).ctx slot))
          (noteSwitch slot (endRebalance slot s))).setCtx slot
          { (endRebalance slot s).ctx slot with st := ((endRebalance slot s).ctx slot).inState, saved := [] })) := rfl

/-- What core `b` is once the context `c` of a slot has come onto core `a`. -/
def TookCtx (slot n : Nat) (c : Ctx) (a b : Core) : Prop :=
  b.resident = some slot ∧ b.live = Tbl.get {} c.saved n ∧ b.key = c.desc.seed
    ∧ (a.takes = true → b.state = if a.state = .idle then .running else .locking)

theorem wakes_state {c : Core} (mhz : Nat) (h : c.takes = true) :
  (c.applySpares.wakes mhz).state = if c.state = .idle then .running else .locking := by
  have hst : c.applySpares.state = c.state := rfl
  unfold Core.takes at h
  unfold Core.wakes
  rw [hst]
  cases hc : c.state <;> simp_all

theorem core_takeCore (slot : Nat) (c : Ctx) (u : State) (n : Nat) :
    TookCtx slot n c (u.core n) ((takeCore slot c u n).core n) := by
  unfold takeCore
  rw [State.core_setCore_self]
  exact ⟨rfl, rfl, rfl, wakes_state _⟩

theorem core_shadowCore (slot : Nat) (u : State) (m : Nat) {k : Nat} (h : (u.core k).resident.isSome = true) :
    (shadowCore slot u m).core k = u.core k := by
  unfold shadowCore
  dsimp only
  split
  next ht =>
    refine State.core_setCore_ne _ _ fun hk => ?_
    rw [← hk, Core.takes, Option.isNone_eq_false_iff.mpr h] at ht
    simp at ht
  next => rfl

theorem core_showShadow (slot : Nat) (u : State) {k : Nat} (h : (u.core k).resident.isSome = true) : (showShadow slot u).core k = u.core k := by
  have hfold : ∀ (l : List Nat) (v : State), v.core k = u.core k → (l.foldl (shadowCore slot) v).core k = u.core k := by
    intro l
    induction l with
    | nil => exact fun _ h => h
    | cons m l ih => exact fun v hv => ih _ (by rw [core_shadowCore slot v m (by rw [hv]; exact h), hv])
  unfold showShadow
  split
  · exact hfold _ u rfl
  · rfl

theorem foldl_takeCore_ctxs (slot : Nat) (c : Ctx) (l : List Nat) (u : State) : (l.foldl (takeCore slot c) u).ctxs = u.ctxs :=
  foldl_keeps State.ctxs _ l u fun _ _ => rfl

theorem openColl_core (slot encl : Nat) (u : State) (n : Nat) : (openColl slot encl u).core n = u.core n := core_of_cores (by simp) n

theorem showShadow_ctx (slot : Nat) (u : State) (k : Nat) : (showShadow slot u).ctx k = u.ctx k := ctx_of_ctxs (by simp) k

theorem switchInNow_core (slot encl : Nat) (s : State) {n : Nat} (hn : n ∈ maskCores (s.ctx slot).desc.mask) :
    TookCtx slot n (s.ctx slot) (s.core n) ((switchInNow slot encl s).core n) := by
  have hctx : (endRebalance slot s).ctx slot = s.ctx slot := ctx_of_ctxs (by simp) slot
  have htook : TookCtx slot n (s.ctx slot) (s.core n) (((maskCores (s.ctx slot).desc.mask).foldl (takeCore slot (s.ctx slot))
      (noteSwitch slot (endRebalance slot s))).core n) := by
    have h := core_foldl_of_mem (f := takeCore slot (s.ctx slot)) (P := fun n => TookCtx slot n (s.ctx slot))
      (fun u m k hk => State.core_setCore_ne _ _ hk) (core_takeCore slot _) (maskCores_nodup _) (noteSwitch slot (endRebalance slot s)) hn
    rwa [core_of_cores (s := s) (t := noteSwitch slot (endRebalance slot s)) (by simp) n] at h
  rw [switchInNow_eq, hctx, openColl_core, core_showShadow slot]
  · exact htook
  · exact Option.isSome_iff_exists.mpr ⟨slot, htook.1⟩

theorem openColl_st (slot encl : Nat) (u : State) : ((openColl slot encl u).ctx slot).st = (u.ctx slot).st := by
  have h : ∀ (l : List ((Nat × Nat) × Nat)) (v : State), (l.foldl (openCollOne slot encl) v).ctxs = v.ctxs := fun l v =>
    foldl_keeps State.ctxs _ l v fun _ _ => by simp
  unfold openColl
  split
  · rfl
  · dsimp only
    rw [ctx_of_ctxs (h _ _), State.ctx_setCtx_self]

theorem switchInNow_st (slot encl : Nat) (s : State) : ((switchInNow slot encl s).ctx slot).st = (s.ctx slot).inState := by
  have hctx : (endRebalance slot s).ctx slot = s.ctx slot := ctx_of_ctxs (by simp) slot
  rw [switchInNow_eq, hctx, openColl_st, showShadow_ctx, State.ctx_setCtx_self]

/-- A waiting CTX_SWITCH_IN of a context that can run, once its cores are free. -/
theorem switchIn_row {slot encl : Nat} {started : Bool} {s : State} (hst : (s.ctx slot).st = .ready ∨ (s.ctx slot).st = .done)
    (hres : s.resident slot = false) (hfree : s.coresFree slot = true) :
    switchIn slot encl started s = .done (switchInNow slot encl s) 0 := by
  have hnone : (s.ctx slot).st ≠ .none := by rcases hst with h | h <;> rw [h] <;> exact nofun
  unfold switchIn
  simp only [hnone, hres, hst, hfree, Bool.false_eq_true, if_false, and_self, if_true]

theorem runPosted_switchIn {mer : Bool} {slot : Nat} {x : Posted} {s : State} (hearly : x.early = none) (hcontrol : x.control = true)
    (hform : ctlReserved x.entry = false) (hop : entOp x.entry = 0x43) (hst : (s.ctx slot).st = .ready ∨ (s.ctx slot).st = .done)
    (hres : s.resident slot = false) (hfree : s.coresFree slot = true) (hreplay : s.replayed ≠ some slot) :
    runPosted mer slot x s = .done (switchInNow slot ((s.enclOfSlot slot).getD 0xFF) s) 0 := by
  unfold runPosted controlCommand
  simp only [hearly, hreplay, hcontrol, hform, hop, Bool.false_eq_true, if_false, if_true]
  exact switchIn_row hst hres hfree

/-- The head of a queue that ends leaves it, and its completion goes out. -/
theorem pumpSlot_done {mer : Bool} {slot n k b : Nat} {s t : State} {x : Posted} {xs : List Posted} (hq : (s.page slot).queue = x :: xs)
    (hheld : (s.page slot).held = []) (hrun : runPosted mer slot x s = ⟨t, some (k, b)⟩) :
    pumpSlot mer slot (n + 1) s =
      pumpSlot mer slot n ((s.settle (t.setPage slot { t.page slot with queue := xs })).addCpl slot (x.cpl k b)) := by
  rw [pumpSlot]
  simp only [hq, hheld, hrun, List.isEmpty_nil, Bool.not_true, Bool.false_eq_true, if_false]

theorem coresFree_takes {s : State} {slot n : Nat} (h : s.coresFree slot = true) (hn : n ∈ maskCores (s.ctx slot).desc.mask) :
    (s.core n).takes = true := by
  unfold State.coresFree at h
  have hall := List.all_eq_true.mp (Bool.and_eq_true_iff.mp h).2 n hn
  exact (Bool.and_eq_true_iff.mp hall).1

/-- What a context that left its cores keeps of their state. -/
theorem switchOutNow_ctx (slot : Nat) (s : State) :
    ((switchOutNow slot s).ctx slot).preempt = false ∧ ((switchOutNow slot s).ctx slot).switchOut = false
    ∧ ((switchOutNow slot s).ctx slot).saved =
      (maskCores ((noteSwitch slot (writeWinRecords slot (writeStats slot s))).ctx slot).desc.mask).map fun n =>
        (n, { ((noteSwitch slot (writeWinRecords slot (writeStats slot s))).core n).live with
          errs := ((noteSwitch slot (writeWinRecords slot (writeStats slot s))).core n).live.savedErrs }) := by
  unfold switchOutNow
  generalize noteSwitch slot (writeWinRecords slot (writeStats slot s)) = s0
  dsimp only
  rw [State.ctx_setCtx_self]
  exact ⟨rfl, rfl, rfl⟩

/-- Settles O13: the meridian's definition with its conditions, one round of the pump, and the save of a preemption. -/
theorem meridianAndSwitches : Obligations.MeridianAndSwitches := by
  unfold Obligations.MeridianAndSwitches
  refine ⟨fun s slot d => ?_, fun s slot x xs hq hheld hearly hcontrol hform hop hst hres hfree hreplay => ?_,
    fun s slot => ?_⟩
  · intro a r v hready hrun hres hcheck
    exact ⟨_, rfl, congrArg Host.Outcome.next (meridian_row hready hrun hres hcheck), newStep_ctx slot.val v⟩
  · have hpump := pumpSlot_done (n := 32) hq hheld (runPosted_switchIn (mer := false) hearly hcontrol hform hop hst hres hfree hreplay)
    refine ⟨_, congrArg (fun u : State => Host.Outcome.next (u.pumpAt none)) hpump, ?_, fun n hn => ?_⟩
    · rw [ctx_of_ctxs (State.addCpl_same _ _ _).2.2.2.2.2.2.2.2.1, State.settle_ctx, State.ctx_setPage, switchInNow_st]
    · rw [core_of_cores (State.addCpl_same _ _ _).2.2.2.2.2.2.2.1, State.settle_core, State.core_setPage]
      obtain ⟨h1, h2, h3, h4⟩ := switchInNow_core slot.val ((s.enclOfSlot slot.val).getD 0xFF) s hn
      exact ⟨h1, h2, h3, h4 (coresFree_takes hfree hn)⟩
  · intro s0 hstop hpre hres hfl hnova hmer
    have hrow : preemptiveSwitch slot.val s = switchOutNow slot.val s := by
      unfold preemptiveSwitch
      simp only [hstop, hpre, hres, hfl, hnova, hmer, Bool.not_true, Bool.or_self, Bool.false_eq_true, if_false]
    refine ⟨_, congrArg (fun u => Host.Outcome.next (s.close u)) hrow, ?_⟩
    exact switchOutNow_ctx slot.val s

end Sys2Proof
end

section
/-! The upkeep of the tiers: the fills of streaming windows, patrol passes, page moves and the return of displaced allocations
(06 R180, R195, R198, R204, R206). -/

namespace Sys2Proof

open Sys2Proof.Machine

/-! What the errors of lines and the bytes of frames do not touch -/

/-- The tiers without their bytes and what is known of the errors of their lines. -/
def Machine.Tiers.plan (t : Tiers) : Tiers := { t with
  err := 0, ce := [], occasions := [], poison := [], latent := [], mem := [], leftKeys := [], tags := [] }

theorem Machine.Tiers.plan_rows {t u : Tiers} (h : t.plan = u.plan) :
    t.wins = u.wins ∧ t.pt = u.pt ∧ t.moves = u.moves ∧ t.objs = u.objs ∧ t.movesDone = u.movesDone ∧ t.passes = u.passes := by
  have field {β : Type} (f : Tiers → β) : f t.plan = f u.plan := by rw [h]
  exact ⟨field Tiers.wins, field Tiers.pt, field Tiers.moves, field Tiers.objs, field Tiers.movesDone, field Tiers.passes⟩

theorem tiers_logEv (s : State) (e : LogEnt) : (s.logEv e).tiers = s.tiers := by simp

theorem errTier_tiers (s : State) (k : Nat) : (s.errTier k).tiers.plan = s.tiers.plan ∧ (s.errTier k).tiers.mem = s.tiers.mem
    ∧ (s.errTier k).tiers.poison = s.tiers.poison ∧ (s.errTier k).tiers.latent = s.tiers.latent := by
  unfold State.errTier
  split
  · exact ⟨rfl, rfl, rfl, rfl⟩
  · rw [tiers_logEv]
    exact ⟨rfl, rfl, rfl, rfl⟩

theorem insertNew_keeps {α : Type} [DecidableEq α] {a b : α} {l : List α} (h : b ∈ l) : b ∈ insertNew a l := by
  unfold insertNew
  split
  · exact h
  · exact List.mem_append_left _ h

/-- A found error marks lines as poisoned and leaves the plan and the bytes. -/
structure ErrorFound (s u : State) : Prop where
  plan : u.tiers.plan = s.tiers.plan
  mem : u.tiers.mem = s.tiers.mem
  poison : ∀ l ∈ s.tiers.poison, l ∈ u.tiers.poison
  latent : u.tiers.latent = s.tiers.latent

theorem ErrorFound.refl (s : State) : ErrorFound s s := ⟨rfl, rfl, fun _ h => h, rfl⟩

theorem ErrorFound.trans {s t u : State} (h1 : ErrorFound s t) (h2 : ErrorFound t u) : ErrorFound s u where
  plan := h2.plan.trans h1.plan
  mem := h2.mem.trans h1.mem
  poison l hl := h2.poison l (h1.poison l hl)
  latent := h2.latent.trans h1.latent

theorem ErrorFound.errTier (s : State) (k : Nat) : ErrorFound s (s.errTier k) :=
  have ⟨h1, h2, h3, h4⟩ := errTier_tiers s k
  ⟨h1, h2, fun _ h => h3 ▸ h, h4⟩

theorem ErrorFound.addCe (s : State) (t : Tier) (n : Nat) : ErrorFound s (s.addCe t n) := by
  unfold State.addCe
  split
  · exact .refl s
  · dsimp only
    exact .trans (t := { s with tiers := { s.tiers with
      ce := Tbl.put s.tiers.ce (tierNum t) (satAdd Config.sat32 (Tbl.get 0 s.tiers.ce (tierNum t)) n) } })
      ⟨rfl, rfl, fun _ h => h, rfl⟩ (.errTier _ _)

theorem ErrorFound.foundCe (s : State) (l : Nat) : ErrorFound s (s.foundCe l) :=
  .trans (t := s.noteHit l false) ⟨rfl, rfl, fun _ h => h, rfl⟩ (.addCe _ _ _)

theorem ErrorFound.addUe (s : State) (l : Nat) : ErrorFound s (s.addUe l) ∧ l ∈ (s.addUe l).tiers.poison := by
  have hrow (u : State) (h : u.tiers.poison = insertNew l s.tiers.poison) (k : Nat) : l ∈ (u.errTier k).tiers.poison := by
    rw [(errTier_tiers u k).2.2.1, h]
    exact mem_insertNew ..
  refine ⟨.trans (t := { s.noteHit l true with tiers := { (s.noteHit l true).tiers with poison := insertNew l s.tiers.poison } })
    ⟨rfl, rfl, fun _ h => insertNew_keeps h, rfl⟩ (.errTier _ _), hrow _ rfl _⟩

theorem ErrorFound.meetErr (s : State) (e : TierErr) : ErrorFound s (s.meetErr e) ∧ (e.ue = true → e.line ∈ (s.meetErr e).tiers.poison) := by
  unfold State.meetErr
  cases e.ue
  · exact ⟨.foundCe s _, nofun⟩
  · exact ⟨(ErrorFound.addUe s _).1, fun _ => (ErrorFound.addUe s _).2⟩

theorem ErrorFound.foldl {β : Type} {f : State → β → State} (hf : ∀ u b, ErrorFound u (f u b)) (l : List β) (s : State) :
    ErrorFound s (l.foldl f s) := by
  induction l generalizing s with
  | nil => exact .refl s
  | cons b l ih => exact (hf s b).trans (ih _)

/-- An element of the list has left its line poisoned at the end of the fold. -/
theorem ErrorFound.foldl_mem {β : Type} {f : State → β → State} (hf : ∀ u b, ErrorFound u (f u b)) {b : β} {line : Nat}
    (hb : ∀ u, line ∈ (f u b).tiers.poison) {l : List β} (h : b ∈ l) (s : State) : line ∈ (l.foldl f s).tiers.poison := by
  induction l generalizing s with
  | nil => exact absurd h nofun
  | cons c l ih =>
    rcases List.mem_cons.mp h with rfl | h
    · exact (ErrorFound.foldl hf l _).poison _ (hb s)
    · exact ih h _

theorem meetLines_found (s : State) (a n : Nat) : (s.meetLines a n).tiers.plan = s.tiers.plan ∧ (s.meetLines a n).tiers.mem = s.tiers.mem :=
  have h := ErrorFound.foldl (fun u e => (ErrorFound.meetErr u e).1)
    (s.tiers.latent.filter fun e : TierErr => decide (0 < n) && decide (a / 64 ≤ e.line) && decide (e.line * 64 < a + n))
    { s with tiers := { s.tiers with latent := s.tiers.latent.filter fun e =>
        !(decide (0 < n) && decide (a / 64 ≤ e.line) && decide (e.line * 64 < a + n)) } }
  ⟨h.plan, h.mem⟩

/-! Landing pages -/

theorem meetPage_plan (w : SWin) (va n : Nat) (s : State) (vp : Nat) : (s.meetPage w va n vp).tiers.plan = s.tiers.plan := by
  unfold State.meetPage
  cases s.srcPte w vp with
  | none => rfl
  | some p => exact (meetLines_found s _ _).1

theorem copyIn_plan (s : State) (w : SWin) (va n frame off : Nat) : (s.copyIn w va n frame off).tiers.plan = s.tiers.plan := by
  have h : ((pagesOf va n).foldl (State.meetPage w va n) s).tiers.plan = s.tiers.plan :=
    foldl_keeps (fun u : State => u.tiers.plan) _ _ s fun u vp => meetPage_plan w va n u vp
  exact h

theorem landPage_plan (w : SWin) (u : State) (pg : Nat) : (landPage w u pg).tiers.plan = u.tiers.plan := by
  unfold landPage copyWinPage
  cases w.pageExtent pg with
  | none => rfl
  | some x => exact copyIn_plan _ w _ _ _ _

theorem foldl_landPage {α : Type} (w : SWin) (f : α → Nat) (l : List α) (s : State) :
    (l.foldl (fun u i => landPage w u (f i)) s).tiers.plan = s.tiers.plan ∧ (l.foldl (fun u i => landPage w u (f i)) s).counters = s.counters
    ∧ (l.foldl (fun u i => landPage w u (f i)) s).cores = s.cores ∧ (l.foldl (fun u i => landPage w u (f i)) s).ctxs = s.ctxs :=
  ⟨foldl_keeps (fun u : State => u.tiers.plan) _ l s fun u i => landPage_plan w u (f i), foldl_keeps State.counters _ l s fun _ _ => by simp,
    foldl_keeps State.cores _ l s fun _ _ => by simp, foldl_keeps State.ctxs _ l s fun _ _ => by simp⟩

/-- The place that a window has in the list. -/
theorem winAt_place {s : State} {slot view k : Nat} {w : SWin} (h : s.winAt slot view = some (k, w)) : s.tiers.wins[k]? = some w := by
  unfold State.winAt at h
  obtain ⟨⟨v, i⟩, hfind, hp⟩ := Option.map_eq_some_iff.mp h
  obtain ⟨rfl, rfl⟩ := Prod.mk.injEq .. ▸ hp
  exact List.mem_zipIdx_iff_getElem?.mp (List.mem_of_find?_eq_some hfind)

theorem setSwin_place {s : State} {k : Nat} {w : SWin} (h : s.tiers.wins[k]? = some w) (v : SWin) : (s.setSwin k v).tiers.wins[k]? = some v := by
  obtain ⟨hk, -⟩ := List.getElem?_eq_some_iff.mp h
  exact List.getElem?_set_self hk

/-! Who owns a counter -/

/-- A property of values that the default does not have holds of one of them after a `put` of a value as good as the one that it replaces. -/
theorem Tbl.any_put {α : Type} {d : α} {P : α → Bool} (hd : P d = false) (t : Tbl α) (k : Nat) {v : α} (hv : P v = P (Tbl.get d t k)) :
    (Tbl.put t k v).any (fun p => P p.2) = t.any fun p => P p.2 := by
  have hlisted (t : Tbl α) (h : P (Tbl.get d t k) = true) : t.any (fun p => P p.2) = true := by
    obtain ⟨w, hw, heq⟩ := Tbl.get_of_listed d (t := t) (k := k) fun h0 => by rw [h0, hd] at h; cases h
    exact List.any_eq_true.mpr ⟨_, hw, heq ▸ h⟩
  induction t with
  | nil => simpa [Tbl.put, Tbl.get, hd] using hv
  | cons p t ih =>
    obtain ⟨j, w⟩ := p
    have hcons := hlisted ((j, w) :: t)
    rw [← hv] at hcons
    rw [Tbl.put]
    split
    · rw [List.any_cons]
      cases hp : P v
      · exact Bool.false_or _
      · rw [hcons hp]
        rfl
    split
    next hj =>
      rw [Tbl.get, if_pos hj.symm] at hv
      rw [List.any_cons, List.any_cons, hv]
    next hj =>
      rw [Tbl.get, if_neg (Ne.symm hj)] at hv
      rw [List.any_cons, List.any_cons, ih hv]

theorem ctrOwner_isSome (s : State) (k : Nat) : (s.ctrOwner k).isSome = s.ctxs.any fun p => decide (p.2.st ≠ .none)
    && decide (p.2.desc.ctrBase ≤ k) && decide (k < p.2.desc.ctrBase + p.2.desc.ctrCount) := by
  unfold State.ctrOwner
  rw [Option.isSome_map, List.isSome_find?]

theorem markOther_ctrOwner (s : State) (slot j k : Nat) : ((s.markOther slot j).ctrOwner k).isSome = (s.ctrOwner k).isSome := by
  rw [ctrOwner_isSome, ctrOwner_isSome]
  exact Tbl.any_put (d := {}) (P := fun c : Ctx => decide (c.st ≠ .none) && decide (c.desc.ctrBase ≤ k)
    && decide (k < c.desc.ctrBase + c.desc.ctrCount)) rfl s.ctxs slot rfl

/-- What a raise does to the counters rests on the counters and on whether the counter has an owner. -/
theorem raiseCtr_counters_owner {s t : State} {k : Nat} (howner : (s.ctrOwner k).isSome = (t.ctrOwner k).isSome)
    (hcounters : s.counters = t.counters) (n : Nat) : (s.raiseCtr k n).counters = (t.raiseCtr k n).counters := by
  rw [raiseCtr_counters, raiseCtr_counters, State.counter, State.counter, hcounters]
  cases hs : s.ctrOwner k <;> cases ht : t.ctrOwner k <;> simp [hs, ht] at howner ⊢

theorem ctrOwner_congr {s t : State} (h : s.ctxs = t.ctxs) (k : Nat) : s.ctrOwner k = t.ctrOwner k := by
  rw [State.ctrOwner, h, State.ctrOwner]

/-! Fills (R195) -/

theorem fillStart_row {s : State} {slot view k : Nat} {w : SWin} (h : s.winAt slot view = some (k, w)) (hlist : w.follow = false)
    (hents : w.list ≠ []) (hidle : w.copying = none) (hheld : w.held = false)
    (hroom : w.pos < w.depth ∨ w.pos - w.depth + 1 ≤ s.counter w.relCtr) :
    ∃ pages, fillStart slot view s = s.setSwin k { w with
      copying := some w.pos, entryIn := Tbl.put w.entryIn (w.pos % w.depth) w.pos, pages := pages } := by
  have hfree : ¬(w.follow || w.list.isEmpty || w.copying.isSome || w.held) = true := by simp [hlist, hents, hidle, hheld]
  have hgo : ¬(!(decide (w.pos < w.depth) || decide (w.pos - w.depth + 1 ≤ s.counter w.relCtr))) = true := by
    simpa [Decidable.or_iff_not_imp_left] using hroom
  unfold fillStart
  rw [h]
  dsimp only
  rw [if_neg hfree, if_neg hgo]
  exact ⟨_, rfl⟩

theorem settle_tiers (s t : State) : (s.settle t).tiers = t.tiers := by simp

theorem windowFillStart_row {s : State} {slot : SlotId} {view : W48} {k : Nat} {w : SWin} (h : s.winAt slot.val view.toNat = some (k, w))
    (hlist : w.follow = false) (hents : w.list ≠ []) (hidle : w.copying = none) (hheld : w.held = false)
    (hroom : w.pos < w.depth ∨ w.pos - w.depth + 1 ≤ s.counter w.relCtr) :
    ∃ t z, exec (.windowFillStart slot view) s = .next t ∧ t.tiers.wins[k]? = some z ∧ z.copying = some w.pos
      ∧ z.entryIn = Tbl.put w.entryIn (w.pos % w.depth) w.pos ∧ z.pos = w.pos ∧ z.frames = w.frames ∧ t.tiers.mem = s.tiers.mem
      ∧ t.counters = s.counters ∧ t.cores = s.cores := by
  obtain ⟨pages, hrow⟩ := fillStart_row h hlist hents hidle hheld hroom
  have hplace := setSwin_place (winAt_place h) { w with
    copying := some w.pos, entryIn := Tbl.put w.entryIn (w.pos % w.depth) w.pos, pages := pages }
  refine ⟨_, { w with copying := some w.pos, entryIn := Tbl.put w.entryIn (w.pos % w.depth) w.pos, pages := pages },
    congrArg (fun u => Host.Outcome.next (s.settle u)) hrow, ?_⟩
  exact ⟨by rw [settle_tiers]; exact hplace, rfl, rfl, rfl, rfl, by simp [State.setSwin],
    by simp [State.setSwin], by simp [State.setSwin]⟩

/-- A window once the last byte of an entry has landed. -/
def landedWin (w : SWin) (n : Nat) : SWin :=
  { w with copying := none, pos := n + 1, filled := w.filled + 1, held := decide ((n + 1) % w.list.length = 0) }

theorem entryLanded_row {s : State} {slot view k n : Nat} {w : SWin} (h : s.winAt slot view = some (k, w)) (hcopying : w.copying = some n) :
    entryLanded slot view s =
      (((((List.range w.slotPages).foldl (fun u i => landPage w u (n % w.depth * w.slotPages + i)) s).setSwin k (landedWin w n)).markOther slot
        (w.fillCtr - (s.ctx slot).desc.ctrBase)).raiseCtr w.fillCtr 1) := by
  unfold entryLanded
  simp only [h, hcopying]
  rfl

theorem markOther_ctxs {s t : State} (h : t.ctxs = s.ctxs) (slot k : Nat) : (t.markOther slot k).ctxs = (s.markOther slot k).ctxs := by
  unfold State.markOther State.setCtx
  rw [ctx_of_ctxs h]
  dsimp only
  rw [h]

theorem windowEntryLanded_row {s : State} {slot : SlotId} {view : W48} {k n : Nat} {w : SWin}
    (h : s.winAt slot.val view.toNat = some (k, w)) (hcopying : w.copying = some n) :
    ∃ t z, exec (.windowEntryLanded slot view) s = .next t ∧ t.tiers.wins[k]? = some z ∧ z.copying = none ∧ z.pos = n + 1
      ∧ z.filled = w.filled + 1 ∧ z.held = decide ((n + 1) % w.list.length = 0)
      ∧ t.counters = (s.raiseCtr w.fillCtr 1).counters
      ∧ t.tiers.mem = ((List.range w.slotPages).foldl (fun u i => landPage w u (n % w.depth * w.slotPages + i)) s).tiers.mem
      ∧ t.cores = s.cores ∧ t.ctxs = (s.markOther slot.val (w.fillCtr - (s.ctx slot.val).desc.ctrBase)).ctxs := by
  refine ⟨_, landedWin w n, congrArg (fun u => Host.Outcome.next (s.settle u)) (entryLanded_row h hcopying), ?_⟩
  obtain ⟨hplan, hcounters, hcores, hctxs⟩ := foldl_landPage w (fun i => n % w.depth * w.slotPages + i) (List.range w.slotPages) s
  generalize (List.range w.slotPages).foldl (fun u i => landPage w u (n % w.depth * w.slotPages + i)) s = v at *
  have hplace : (v.setSwin k (landedWin w n)).tiers.wins[k]? = some (landedWin w n) :=
    setSwin_place (by rw [(Tiers.plan_rows hplan).1]; exact winAt_place h) _
  have hctxs' : (v.setSwin k (landedWin w n)).ctxs = s.ctxs := hctxs
  have hmark := markOther_ctxs hctxs' slot.val (w.fillCtr - (s.ctx slot.val).desc.ctrBase)
  have hraise := raiseCtr_counters_owner
    (s := (v.setSwin k (landedWin w n)).markOther slot.val (w.fillCtr - (s.ctx slot.val).desc.ctrBase)) (t := s)
    (by rw [markOther_ctrOwner, ctrOwner_congr hctxs' w.fillCtr]) (by simpa using hcounters) 1
  simp only [State.settle_same, State.raiseCtr_same, State.markOther_same]
  exact ⟨hplace, rfl, rfl, rfl, rfl, hraise, rfl, hcores, hmark⟩

/-! Run-ahead (R198) -/

theorem runaheadFetch_row {s : State} {slot : SlotId} {view : W48} {k : Nat} {w : SWin} (page : Nat)
    (h : s.winAt slot.val view.toNat = some (k, w)) (hfollow : w.follow = true) :
    (vpage w.src + page ∈ w.ahead → ∃ t, exec (.runaheadFetch slot view page) s = .next t
      ∧ t = runahead slot.val view.toNat (vpage w.src + page) w.runahead 1
        (s.setSwin k { w with ahead := w.ahead.filter fun q => decide (q ≠ vpage w.src + page) })
      ∧ t.counters = s.counters ∧ t.cores = s.cores ∧ t.ctxs = s.ctxs)
    ∧ (vpage w.src + page ∉ w.ahead → exec (.runaheadFetch slot view page) s = .next s) := by
  have hexec : exec (.runaheadFetch slot view page) s = .next (aheadFetch slot.val view.toNat page s) := rfl
  unfold aheadFetch at hexec
  rw [h] at hexec
  dsimp only at hexec
  have hahead : (w.follow && decide (vpage w.src + page ∈ w.ahead)) = decide (vpage w.src + page ∈ w.ahead) := by rw [hfollow, Bool.true_and]
  simp only [hahead, decide_eq_true_eq] at hexec
  refine ⟨fun hmem => ?_, fun hmem => by rw [hexec, if_neg hmem]⟩
  rw [if_pos hmem] at hexec
  exact ⟨_, hexec, rfl, by simp, by simp, by simp⟩

/-! Patrol (R180, R181) -/

theorem patrolScrub_row {s : State} (corrected failed : List Nat) (h : s.tiers.intervalH ≠ 0) :
    ∃ t, exec (.patrolScrub corrected failed) s = .next t ∧ t.tiers.passes = (s.tiers.passes + 1) % 2 ^ 32
      ∧ (∀ l ∈ failed, l ∈ t.tiers.poison) ∧ t.tiers.latent = [] ∧ (∀ e ∈ s.tiers.latent, e.ue = true → e.line ∈ t.tiers.poison)
      ∧ t.tiers.mem = s.tiers.mem ∧ t.tiers.pt = s.tiers.pt ∧ t.cores = s.cores ∧ t.ctxs = s.ctxs := by
  have hexec : exec (.patrolScrub corrected failed) s = .next (patrol corrected failed s) := rfl
  unfold patrol at hexec
  rw [if_neg h] at hexec
  dsimp only at hexec
  have h0 := ErrorFound.foldl (fun u e => (ErrorFound.meetErr u e).1) s.tiers.latent { s with tiers := { s.tiers with latent := [] } }
  have hue : ∀ e ∈ s.tiers.latent, e.ue = true →
      e.line ∈ (s.tiers.latent.foldl State.meetErr { s with tiers := { s.tiers with latent := [] } }).tiers.poison := fun e he hbad =>
    ErrorFound.foldl_mem (fun u e => (ErrorFound.meetErr u e).1) (fun u => (ErrorFound.meetErr u e).2 hbad) he _
  have hstill : (s.tiers.latent.foldl State.meetErr { s with tiers := { s.tiers with latent := [] } }).cores = s.cores
      ∧ (s.tiers.latent.foldl State.meetErr { s with tiers := { s.tiers with latent := [] } }).ctxs = s.ctxs := by simp
  generalize s.tiers.latent.foldl State.meetErr { s with tiers := { s.tiers with latent := [] } } = s0 at *
  have h1 := ErrorFound.foldl ErrorFound.foundCe corrected s0
  have hstill1 : (corrected.foldl State.foundCe s0).cores = s0.cores ∧ (corrected.foldl State.foundCe s0).ctxs = s0.ctxs := by simp
  generalize corrected.foldl State.foundCe s0 = s1 at *
  have h2 := ErrorFound.foldl (fun u l => (ErrorFound.addUe u l).1) failed s1
  have hfailed : ∀ l ∈ failed, l ∈ (failed.foldl State.addUe s1).tiers.poison := fun l hl =>
    ErrorFound.foldl_mem (fun u l => (ErrorFound.addUe u l).1) (fun u => (ErrorFound.addUe u l).2) hl s1
  have hstill2 : (failed.foldl State.addUe s1).cores = s1.cores ∧ (failed.foldl State.addUe s1).ctxs = s1.ctxs := by simp
  generalize failed.foldl State.addUe s1 = s2 at *
  obtain ⟨-, hpt, -, -, -, hpasses⟩ := Tiers.plan_rows ((h0.trans h1).trans h2).plan
  exact ⟨_, hexec, congrArg (fun n => (n + 1) % 2 ^ 32) hpasses, hfailed, ((h0.trans h1).trans h2).latent,
    fun e he hbad => (h1.trans h2).poison _ (hue e he hbad), ((h0.trans h1).trans h2).mem, hpt,
    hstill2.1.trans (hstill1.1.trans hstill.1), hstill2.2.trans (hstill1.2.trans hstill.2)⟩

/-! Page moves (R204) -/

theorem rebalance_without_pages {s : State} (h : s.anyPages = []) : rebalance s = s := by
  unfold rebalance
  rw [h]
  rfl

theorem pte_setPte (s : State) (slot vp : Nat) (p : Pte) : (s.setPte slot vp p).pte slot vp = some p := Tbl.look_put_same _ _ _

theorem beginMove_pte {s : State} {m : Move} {ms : List Move} {q : Pte} (hm : s.tiers.moves = m :: ms) (hq : s.pte m.slot m.vpage = some q) :
    (beginMove s).pte m.slot m.vpage = some { q with moving := some m.dest } := by
  unfold beginMove
  simp only [hm, hq, pte_setPte]

theorem leaveFrame_plan (s : State) (f : Nat) : (s.leaveFrame f).tiers.plan = s.tiers.plan := by
  unfold State.leaveFrame
  split <;> rfl

theorem tagFrame_plan (s : State) (encl f : Nat) : (s.tagFrame encl f).tiers.plan = s.tiers.plan := by
  unfold State.tagFrame
  split <;> rfl

theorem copyFrame_plan (s : State) (a b : Nat) : (s.copyFrame a b).tiers.plan = s.tiers.plan := rfl

theorem endMove_row {s : State} {m : Move} {ms : List Move} {q : Pte} (hm : s.tiers.moves = m :: ms) (hq : s.pte m.slot m.vpage = some q) :
    (endMove m s).pte m.slot m.vpage = some { q with frame := m.dest, moving := none }
    ∧ (endMove m s).tiers.moves = ms ∧ (endMove m s).tiers.movesDone = (s.tiers.movesDone + 1) % 2 ^ 32 := by
  unfold endMove
  rw [hq]
  dsimp only
  have hcopy : (if (s.objOf m.slot m.vpage).isNone = true then s.copyFrame q.frame m.dest else s).tiers.plan = s.tiers.plan := by
    split
    · exact copyFrame_plan s _ _
    · rfl
  generalize (if (s.objOf m.slot m.vpage).isNone = true then s.copyFrame q.frame m.dest else s) = v at *
  have hleft := (leaveFrame_plan v q.frame).trans hcopy
  generalize v.leaveFrame q.frame = x at *
  have htag := tagFrame_plan (x.setPte m.slot m.vpage { q with frame := m.dest, moving := none }) ((s.enclOfSlot m.slot).getD 0xFF) m.dest
  obtain ⟨-, hpt, hmoves, -, hdone, -⟩ := Tiers.plan_rows htag
  obtain ⟨-, -, hmoves', -, hdone', -⟩ := Tiers.plan_rows hleft
  refine ⟨?_, ?_, ?_⟩
  · exact (congrArg (fun t => Tbl.look t (m.slot * vpages + m.vpage)) hpt).trans (pte_setPte x _ _ _)
  · exact (congrArg (List.drop 1) (hmoves.trans (hmoves'.trans hm))).trans rfl
  · exact congrArg (fun n => (n + 1) % 2 ^ 32) (hdone.trans hdone')

theorem pageMove_row {s : State} {m : Move} {ms : List Move} {q : Pte} (hm : s.tiers.moves = m :: ms) (hq : s.pte m.slot m.vpage = some q)
    (hreplay : s.replayed ≠ some m.slot) (hdest : s.trains m.dest = false) (hsrc : s.trains q.frame = false) :
    pageMove s = if q.moving.isSome then beginMove (endMove m s) else beginMove s := by
  unfold pageMove
  simp only [hm, hq, hreplay, hdest, hsrc, decide_false, Option.map_some, Option.getD_some, Bool.or_self, Bool.false_eq_true, if_false]

/-! Displaced allocations (R206) -/

theorem reserveMoves_objs (slot : Nat) (retire rebal : Bool) (l : List (Nat × Pool)) (s : State) :
    (reserveMoves slot retire rebal l s).tiers.objs = s.tiers.objs ∧ (reserveMoves slot retire rebal l s).tiers.mem = s.tiers.mem := by
  induction l generalizing s with
  | nil => exact ⟨rfl, rfl⟩
  | cons p l ih => exact ih _

theorem displacedReturn_row {s : State} {slot : SlotId} {base : W48} {o : AllocObj} {encl : Nat} {l : List (Nat × Pool)}
    (hobj : s.objAt slot.val base.toNat = some o) (hencl : s.enclOfSlot slot.val = some encl) (hdisplaced : o.displaced = true)
    (hleft : s.leaving o = false) (hplan : planMoves s slot.val encl ((placePools o.flags).take 1) (s.objPages o) [] = some l) :
    ∃ t, exec (.displacedReturn slot base) s = .next t ∧ t.tiers.moves = (reserveMoves slot.val false false l s).tiers.moves
      ∧ t.tiers.objs = s.tiers.objs.map (fun q => if q = o then { q with displaced := false } else q) ∧ t.tiers.mem = s.tiers.mem := by
  have hexec : exec (.displacedReturn slot base) s = .next (displacedReturn slot.val base.toNat s) := rfl
  unfold displacedReturn at hexec
  simp only [hobj, hencl, hdisplaced, hleft, hplan, Bool.not_true, Bool.or_self, Bool.false_eq_true, if_false] at hexec
  obtain ⟨hobjs, hmem⟩ := reserveMoves_objs slot.val false false l s
  exact ⟨_, hexec, rfl, congrArg _ hobjs, hmem⟩

/-- Settles O17, a lemma per clause. -/
theorem windowFillsAndUpkeep : Obligations.WindowFillsAndUpkeep := by
  unfold Obligations.WindowFillsAndUpkeep
  refine ⟨fun s slot view k w => windowFillStart_row, fun s slot view k n w => windowEntryLanded_row,
    fun s slot view page k w => runaheadFetch_row page, fun s corrected failed => patrolScrub_row corrected failed, fun s hm => ?_,
    fun s m ms q hm hq hreplay hdest hsrc => ?_, fun s slot base o encl l => displacedReturn_row⟩
  · refine ⟨congrArg (fun u => Host.Outcome.next (s.close u)) ?_, rebalance_without_pages⟩
    unfold pageMove
    rw [hm]
  · have hrow := pageMove_row hm hq hreplay hdest hsrc
    refine ⟨_, congrArg (fun u => Host.Outcome.next (s.close u)) hrow, fun hstill => ?_, fun hmoving => ?_⟩
    · rw [hstill]
      exact ⟨rfl, beginMove_pte hm hq⟩
    · rw [Option.isSome_iff_ne_none.mpr hmoving]
      exact ⟨rfl, endMove_row hm hq⟩

end Sys2Proof
end

section
/-! The tier commands ALLOC, FREE, MIGRATE, WIN_CREATE and WIN_DESTROY (06 R187 to R192, R195, R200). -/

namespace Sys2Proof

open Sys2Proof.Machine

/-! What a posted tier command comes to -/

theorem entOp_withOp (e : BitVec 512) {op : Nat} (h : op < 256) : entOp (withOp e op) = op := by
  unfold entOp entWord withOp
  rw [BitVec.toNat_ofNat]
  omega

theorem firstOf_ne_zero {l : List (Bool × Nat)} (h : ∀ p ∈ l, p.2 ≠ 0) {k : Nat} (hk : firstOf l = some k) : k ≠ 0 := by
  induction l with
  | nil => exact absurd hk nofun
  | cons p l ih =>
    obtain ⟨b, j⟩ := p
    obtain ⟨hj, hl⟩ := List.forall_mem_cons.mp h
    rw [firstOf] at hk
    split at hk
    · exact Option.some.inj hk ▸ hj
    · exact ih hl hk

/-- A posted tier command, carried out in the state in which its page holds it. -/
theorem runPosted_tier {s : State} {slot : Nat} {p : Post} (h : HostFree s slot p) {op : Nat} :
    runPosted false slot (hostCmd p false op [] false) (hostStart s slot (hostCmd p false op [] false)) =
      tierCommand slot ((s.enclOfSlot slot).getD 0xFF) false false (hostCmd p false op [] false).entry
        (hostStart s slot (hostCmd p false op [] false)) := by
  have hstill : (hostStart s slot (hostCmd p false op [] false)).replayed ≠ some slot := h.still
  unfold runPosted
  simp only [hstill, if_false]
  rfl

theorem post_tier_ends {s : State} {slot : Nat} {p : Post} (h : HostFree s slot p) {op : Nat} {r : CmdOut}
    (hr : tierCommand slot ((s.enclOfSlot slot).getD 0xFF) false false (hostCmd p false op [] false).entry
      (hostStart s slot (hostCmd p false op [] false)) = r) {k b : Nat} (hres : r.res = some (k, b)) :
    post p false op [] false s =
      hostEnd (hostStart s slot (hostCmd p false op [] false)) slot (hostCmd p false op [] false) r.s k b :=
  post_done s slot p false op [] false h ((runPosted_tier h).trans (by rw [hr, ← hres]))

theorem post_tier_waits {s : State} {slot : Nat} {p : Post} (h : HostFree s slot p) {op : Nat} {r : CmdOut}
    (hr : tierCommand slot ((s.enclOfSlot slot).getD 0xFF) false false (hostCmd p false op [] false).entry
      (hostStart s slot (hostCmd p false op [] false)) = r) (hres : r.res = none) :
    post p false op [] false s = hostWaits slot (hostCmd p false op [] false) r.s :=
  post_waits s slot p false op [] false h ((runPosted_tier h).trans (by rw [hr, ← hres]))

/-! Which command an opcode names -/

section
variable {slot encl : Nat} {mer started : Bool} {e : BitVec 512} {s : State}

theorem tierCommand_alloc (h : entOp e = 1) : tierCommand slot encl mer started e s = tierAlloc slot encl e s := by
  simp only [tierCommand, h]

theorem tierCommand_free (h : entOp e = 2) : tierCommand slot encl mer started e s = tierFree slot mer e s := by
  simp only [tierCommand, h]

theorem tierCommand_migrate (h : entOp e = 3) : tierCommand slot encl mer started e s = tierMigrate slot encl started e s := by
  simp only [tierCommand, h]

theorem tierCommand_winCreate (h : entOp e = 4) : tierCommand slot encl mer started e s = tierWinCreate slot encl e s := by
  simp only [tierCommand, h]

theorem tierCommand_winDestroy (h : entOp e = 5) : tierCommand slot encl mer started e s = tierWinDestroy slot mer e s := by
  simp only [tierCommand, h]

end

/-! ALLOC -/

theorem tierAlloc_none {slot encl : Nat} {e : BitVec 512} {s : State} (hn : entWord e 2 = 0) : (tierAlloc slot encl e s).s = s := by
  unfold tierAlloc
  dsimp only
  generalize firstOf _ = st
  cases st with
  | some k => rfl
  | none =>
    dsimp only
    rw [if_pos hn]
    rfl

theorem pickPools_length {s : State} {encl : Nat} {ps : List Pool} {n : Nat} {taken l : List Pool} (h : pickPools s encl ps n taken = some l) :
    l.length = taken.length + n := by
  induction n generalizing taken with
  | zero => exact congrArg List.length (Option.some.inj h).symm
  | succ n ih =>
    rw [pickPools] at h
    split at h
    · exact absurd h nofun
    · rw [ih h, List.length_append, List.length_singleton]
      omega

theorem pte_mapped {s u : State} (h : u.tiers.pt = s.tiers.pt) (slot vp : Nat) (p : Pte) {sl j : Nat} (hj : (s.pte sl j).isSome = true) :
    ((u.setPte slot vp p).pte sl j).isSome = true := by
  show (Tbl.look (Tbl.put u.tiers.pt _ p) _).isSome = true
  rw [h]
  by_cases hk : sl * vpages + j = slot * vpages + vp
  · rw [hk, Tbl.look_put_same]
    rfl
  · rw [Tbl.look_put_other _ _ hk]
    exact hj

/-- Mapping pages maps them and unmaps none. -/
theorem mapPools_pte {slot encl vp : Nat} {ps : List Pool} {s : State} :
    (∀ k < ps.length, ((mapPools slot encl vp ps s).pte slot (vp + k)).isSome = true)
    ∧ (∀ sl j, (s.pte sl j).isSome = true → ((mapPools slot encl vp ps s).pte sl j).isSome = true) := by
  induction ps generalizing vp s with
  | nil => exact ⟨fun _ h => absurd h (Nat.not_lt_zero _), fun _ _ h => h⟩
  | cons p ps ih =>
    have hpt : ((s.zeroFrame (s.freeFrame p)).tagFrame encl (s.freeFrame p)).tiers.pt = s.tiers.pt :=
      (Tiers.plan_rows (tagFrame_plan _ _ _)).2.1
    obtain ⟨hnew, hkept⟩ := ih (vp := vp + 1)
      (s := ((s.zeroFrame (s.freeFrame p)).tagFrame encl (s.freeFrame p)).setPte slot vp { frame := s.freeFrame p })
    refine ⟨fun k hk => ?_, fun sl j h => hkept sl j (pte_mapped hpt slot vp _ h)⟩
    cases k with
    | zero => exact hkept slot vp (by rw [pte_setPte]; rfl)
    | succ k =>
      rw [show vp + (k + 1) = vp + 1 + k by omega]
      exact hnew k (Nat.lt_of_succ_lt_succ hk)

/-- A status that stands for a failed check. -/
theorem done_ne_ok {t : State} {k : Nat} (hk : k ≠ 0) (hres : (CmdOut.done t k).res = some (0, 0)) : False :=
  hk (Prod.mk.inj (Option.some.inj hres)).1

/-- An ALLOC that succeeds has its object, and every page of it is mapped. -/
theorem tierAlloc_row {slot encl : Nat} {e : BitVec 512} {s : State} (h : (tierAlloc slot encl e s).res = some (0, 0)) (hn : entWord e 2 ≠ 0) :
    (∃ o ∈ (tierAlloc slot encl e s).s.tiers.objs, o.slot = slot ∧ o.base = entWord e 1 ∧ o.pages = entWord e 2 ∧ o.flags = entWord e 3)
    ∧ ∀ k < entWord e 2, ((tierAlloc slot encl e s).s.pte slot (vpage (entWord e 1) + k)).isSome = true := by
  revert h
  unfold tierAlloc
  dsimp only
  generalize hst : firstOf _ = st
  cases st with
  | some k =>
    refine fun hres => (done_ne_ok (firstOf_ne_zero ?_ hst) hres).elim
    simp [tierReserved, allocBadAddr, allocBadFlags]
  | none =>
    dsimp only
    rw [if_neg hn]
    split
    · exact fun hres => (done_ne_ok (by decide) hres).elim
    split
    · exact fun hres => (done_ne_ok (by decide) hres).elim
    next ps hps =>
      intro _
      have hlen : (ps.take (entWord e 2)).length = entWord e 2 := by
        have := pickPools_length hps
        rw [List.length_take, this, List.length_nil]
        split <;> omega
      have hmapped := (mapPools_pte (slot := slot) (encl := encl) (vp := vpage (entWord e 1)) (ps := ps.take (entWord e 2)) (s := s)).1
      rw [hlen] at hmapped
      refine ⟨⟨{ slot := slot, base := entWord e 1, pages := entWord e 2, flags := entWord e 3
                 partner := if decide (flagRole (entWord e 3) = 1) then some (entWord e 4) else none },
        List.mem_append_right _ ?_, rfl, rfl, rfl, rfl⟩, fun k hk => ?_⟩
      · split <;> exact List.mem_cons_self ..
      · split
        · exact mapPools_pte.2 _ _ (hmapped k hk)
        · exact hmapped k hk

/-! FREE -/

theorem tierFree_ok {slot : Nat} {e : BitVec 512} {s : State} (h : (tierFree slot false e s).res = some (0, 0)) :
    (tierFree slot false e s).s = if entWord e 2 = 0 then s else freeRange slot (entWord e 1) (entWord e 2) s := by
  revert h
  unfold tierFree
  dsimp only
  generalize hst : firstOf _ = st
  cases st with
  | some k =>
    refine fun hres => (done_ne_ok (firstOf_ne_zero ?_ hst) hres).elim
    simp [tierReserved, allocBadAddr, allocNotFound, allocWindowOpen, swinActive]
  | none =>
    dsimp only
    split
    · exact fun _ => rfl
    split
    · exact fun hres => absurd hres nofun
    · exact fun _ => rfl

/-- A FREE of mapped pages waits where the context is resident, and has begun nothing. -/
theorem tierFree_waits {slot : Nat} {e : BitVec 512} {s : State} (h : (tierFree slot false e s).res = none) :
    (tierFree slot false e s).s = s ∧ s.resident slot = true := by
  revert h
  unfold tierFree
  dsimp only
  generalize firstOf _ = st
  cases st with
  | some k => exact fun hres => absurd hres nofun
  | none =>
    dsimp only
    split
    · exact fun hres => absurd hres nofun
    split
    next hres => exact fun _ => ⟨rfl, (Bool.and_eq_true_iff.mp hres).1⟩
    · exact fun hres => absurd hres nofun

/-! MIGRATE -/

theorem cancelMoves_objs (f : Move → Bool) (s : State) : (cancelMoves f s).tiers.objs = s.tiers.objs := by
  have hstay (u : State) (m : Move) : (u.stayPut m).tiers.objs = u.tiers.objs := by
    unfold State.stayPut
    split
    · split
      · exact (Tiers.plan_rows (leaveFrame_plan u _)).2.2.2.1
      · rfl
    · rfl
  exact foldl_keeps (fun u : State => u.tiers.objs) _ _ s hstay

/-- A MIGRATE that its checks accept: the placement changes, and the moves are queued. -/
theorem tierMigrate_row {slot encl : Nat} {e : BitVec 512} {s : State} {o : AllocObj} {l : List (Nat × Pool)}
    (hobj : (endRebalance slot s).objAt slot (entWord e 1) = some o)
    (hplan : planMoves (endRebalance slot s) slot encl (placePools (entWord e 3)) ((endRebalance slot s).objPages o) [] = some l)
    (h : (tierMigrate slot encl false e s).res = none ∨ (tierMigrate slot encl false e s).res = some (0, 0)) :
    (tierMigrate slot encl false e s).res =
        (if (reserveMoves slot false false l (endRebalance slot s)).movesOf o then none else some (0, 0))
    ∧ (tierMigrate slot encl false e s).s.tiers.moves = (reserveMoves slot false false l (endRebalance slot s)).tiers.moves
    ∧ (tierMigrate slot encl false e s).s.tiers.objs = s.tiers.objs.map fun q =>
        if q = o ∨ some q = (endRebalance slot s).partnerOf o then { q with flags := setPlace q.flags (entWord e 3) } else q := by
  revert h
  unfold tierMigrate
  simp only [Bool.false_eq_true, if_false]
  rw [hobj]
  generalize hst : firstOf _ = st
  cases st with
  | some k =>
    refine fun hres => (hres.elim (fun h => absurd h nofun) (done_ne_ok (firstOf_ne_zero ?_ hst))).elim
    simp [tierReserved, allocBadAddr, allocNotFound, allocBadFlags, swinActive]
  | none =>
    dsimp only
    rw [hplan]
    dsimp only
    have hobjs : (reserveMoves slot false false l (endRebalance slot s)).tiers.objs = s.tiers.objs :=
      (reserveMoves_objs slot false false l _).1.trans (cancelMoves_objs _ s)
    rw [hobjs]
    intro _
    split <;> exact ⟨rfl, rfl, rfl⟩

/-! WIN_CREATE and WIN_DESTROY -/

theorem takeFrames_row {slot encl core : Nat} {view : Option Nat} {n i : Nat} {s : State} :
    (takeFrames slot encl core view n i s).1.tiers.wins = s.tiers.wins ∧ (takeFrames slot encl core view n i s).2.length = n := by
  induction n generalizing i s with
  | zero => exact ⟨rfl, rfl⟩
  | succ n ih =>
    unfold takeFrames
    dsimp only
    refine ⟨ih.1.trans ?_, congrArg (· + 1) ih.2⟩
    have htag (f : Nat) : ((s.zeroFrame f).tagFrame encl f).tiers.wins = s.tiers.wins := (Tiers.plan_rows (tagFrame_plan _ _ _)).1
    cases view <;> exact htag _

theorem tierWinCreate_row {slot encl : Nat} {e : BitVec 512} {s : State} (h : (tierWinCreate slot encl e s).res = some (0, 0)) :
    ∃ z, (tierWinCreate slot encl e s).s.tiers.wins = (s.readVA slot (entWord e 5) (16 * entWord e 2)).s.tiers.wins ++ [z]
      ∧ z.slot = slot ∧ z.src = entWord e 1
      ∧ z.view = entWord e 4 ∧ z.follow = bit (entWord e 3) 3 ∧ z.core = bits (entWord e 3) 2 0 ∧ z.depth = bits (entWord e 3) 7 4 + 1
      ∧ z.slotPages = bits (entWord e 3) 15 8 + 1 ∧ z.frames.length = z.depth * z.slotPages ∧ z.copying = none := by
  revert h
  unfold tierWinCreate
  dsimp only
  generalize hst : firstOf _ = st
  cases st with
  | some k =>
    refine fun hres => (done_ne_ok (firstOf_ne_zero ?_ hst) hres).elim
    simp [tierReserved, allocBadAddr, allocNotFound, allocOverlap, swinNotStream, swinBadList, swinCounterRange, swinLimit, allocNoSpace]
  | none =>
    intro _
    obtain ⟨hwins, hlen⟩ := takeFrames_row (slot := slot) (encl := encl) (core := bits (entWord e 3) 2 0)
      (view := if bit (entWord e 3) 3 = true then none else some (vpage (entWord e 4)))
      (n := (bits (entWord e 3) 7 4 + 1) * (bits (entWord e 3) 15 8 + 1)) (i := 0) (s := (s.readVA slot (entWord e 5) (16 * entWord e 2)).s)
    generalize hr : takeFrames slot encl _ _ _ 0 _ = r at hwins hlen
    exact ⟨_, congrArg (· ++ [_]) hwins, rfl, rfl, rfl, rfl, rfl, rfl, rfl, hlen, rfl⟩

theorem tierWinDestroy_ok {slot : Nat} {e : BitVec 512} {s : State} (h : (tierWinDestroy slot false e s).res = some (0, 0)) :
    ∃ z ∈ s.tiers.wins, z.slot = slot ∧ z.view = entWord e 1 ∧ (tierWinDestroy slot false e s).s = destroyWin z s := by
  revert h
  unfold tierWinDestroy
  dsimp only
  generalize hst : firstOf _ = st
  cases st with
  | some k =>
    refine fun hres => (done_ne_ok (firstOf_ne_zero ?_ hst) hres).elim
    simp [tierReserved, allocBadAddr, allocNotFound]
  | none =>
    cases hw : s.tiers.wins.find? fun w => decide (w.slot = slot) && decide (w.view = entWord e 1) with
    | none => exact fun hres => (done_ne_ok (by decide) hres).elim
    | some z =>
      dsimp only
      split
      · exact fun hres => absurd hres nofun
      · have hz := List.find?_some hw
        rw [Bool.and_eq_true, decide_eq_true_eq, decide_eq_true_eq] at hz
        exact fun _ => ⟨z, List.mem_of_find?_eq_some hw, hz.1, hz.2, rfl⟩

theorem tierWinDestroy_waits {slot : Nat} {e : BitVec 512} {s : State} (h : (tierWinDestroy slot false e s).res = none) :
    (tierWinDestroy slot false e s).s = s ∧ s.resident slot = true := by
  revert h
  unfold tierWinDestroy
  dsimp only
  generalize firstOf _ = st
  cases st with
  | some k => exact fun hres => absurd hres nofun
  | none =>
    cases s.tiers.wins.find? fun w => decide (w.slot = slot) && decide (w.view = entWord e 1) with
    | none => exact fun hres => absurd hres nofun
    | some z =>
      dsimp only
      split
      next hres => exact fun _ => ⟨rfl, (Bool.and_eq_true_iff.mp hres).1⟩
      · exact fun hres => absurd hres nofun

/-- Settles O16: what each command comes to once its checks pass, posted where nothing holds it back. -/
theorem tierCommandsComplete : Obligations.TierCommandsComplete := by
  unfold Obligations.TierCommandsComplete
  intro s slot p hfree x v encl w
  have hop (op : Nat) (h : op < 256) : entOp (x op).entry = op := entOp_withOp p.entry h
  refine ⟨fun hres => ⟨?_, fun hn => tierAlloc_none hn, fun hn => tierAlloc_row hres hn⟩, ⟨fun hres => ⟨?_, tierFree_ok hres⟩, fun hres => ?_⟩,
    fun o l hobj hplan hres => ?_, fun hres => ⟨?_, tierWinCreate_row hres⟩, ⟨fun hres => ⟨?_, tierWinDestroy_ok hres⟩, fun hres => ?_⟩⟩
  · exact congrArg Host.Outcome.next (post_tier_ends hfree (tierCommand_alloc (hop 1 (by decide))) hres)
  · exact congrArg Host.Outcome.next (post_tier_ends hfree (tierCommand_free (hop 2 (by decide))) hres)
  · obtain ⟨hs, hresident⟩ := tierFree_waits hres
    refine ⟨congrArg Host.Outcome.next ?_, hresident⟩
    rw [post_tier_waits hfree (tierCommand_free (hop 2 (by decide))) hres, hs]
  · obtain ⟨hrow, hmoves, hobjs⟩ := tierMigrate_row hobj hplan hres
    refine ⟨congrArg Host.Outcome.next ?_, hmoves, hobjs⟩
    split
    next hmove => exact post_tier_waits hfree (tierCommand_migrate (hop 3 (by decide))) (hrow.trans (if_pos hmove))
    next hmove => exact post_tier_ends hfree (tierCommand_migrate (hop 3 (by decide))) (hrow.trans (if_neg hmove))
  · exact congrArg Host.Outcome.next (post_tier_ends hfree (tierCommand_winCreate (hop 4 (by decide))) hres)
  · exact congrArg Host.Outcome.next (post_tier_ends hfree (tierCommand_winDestroy (hop 5 (by decide))) hres)
  · obtain ⟨hs, hresident⟩ := tierWinDestroy_waits hres
    refine ⟨congrArg Host.Outcome.next ?_, hresident⟩
    rw [post_tier_waits hfree (tierCommand_winDestroy (hop 5 (by decide))) hres, hs]

end Sys2Proof
end

section
/-! What a write of context memory leaves of a context's record, and what the replacement of marked rows leaves of a context that is off
its cores (06 R380, 04 R79). -/

namespace Sys2Proof

open Sys2Proof.Machine

/-! Writes -/

/-- The record of a context without what the recovery controller keeps of its pages. -/
def Machine.Ctx.body (c : Ctx) : Ctx := { c with rcv := {}, flags := 0 }

theorem copyPage_ctxs (s : State) (slot src dst : Nat) : (s.copyPage slot src dst).ctxs = s.ctxs := by simp

theorem setCtx_body {s : State} {k : Nat} {c : Ctx} (h : c.body = (s.ctx k).body) (j : Nat) : ((s.setCtx k c).ctx j).body = (s.ctx j).body := by
  by_cases hj : j = k
  · rw [hj, State.ctx_setCtx_self, h]
  · rw [State.ctx_setCtx_ne _ _ hj]

theorem undoHook_body (s : State) (slot vp j : Nat) : ((s.undoHook slot vp).ctx j).body = (s.ctx j).body := by
  unfold State.undoHook
  dsimp only
  split
  · rfl
  split
  · refine setCtx_body ?_ j
    rfl
  split
  · refine setCtx_body ?_ j
    rfl
  split
  · refine setCtx_body ?_ j
    rfl
  · rw [setCtx_body (by rw [ctx_of_ctxs (copyPage_ctxs ..)]; rfl), ctx_of_ctxs (copyPage_ctxs ..)]

theorem beforeWrite_body (s : State) (slot vp j : Nat) : ((s.beforeWrite slot vp).ctx j).body = (s.ctx j).body := by
  have hscratch : (s.scratchHook slot vp).ctxs = s.ctxs := by simp
  have hundo : (((s.scratchHook slot vp).undoHook slot vp).ctx j).body = (s.ctx j).body := by rw [undoHook_body, ctx_of_ctxs hscratch]
  unfold State.beforeWrite
  dsimp only
  split
  · exact hundo
  · exact hundo

theorem writePages_body (slot fuel va : Nat) (bs : List Byte) (s : State) (j : Nat) :
    ((State.writePages slot fuel va bs s).ctx j).body = (s.ctx j).body := by
  induction fuel generalizing va bs s with
  | zero => rfl
  | succ n ih =>
    rw [State.writePages]
    split
    · rfl
    dsimp only
    rw [ih]
    split
    · split
      · rw [ctx_of_ctxs (State.tagViolation_same s slot).2.2.2.2.2.2.1]
      · rw [ctx_of_ctxs (by simp : (State.writeFrames _ _ _ _).ctxs = (s.beforeWrite slot (vpage va)).ctxs), beforeWrite_body]
    · rfl

theorem writeVA_body (s : State) (slot va : Nat) (bs : List Byte) (j : Nat) : ((s.writeVA slot va bs).ctx j).body = (s.ctx j).body :=
  writePages_body ..

theorem foldl_body {β : Type} {f : State → β → State} (hf : ∀ u b j, ((f u b).ctx j).body = (u.ctx j).body) (l : List β) (s : State) (j : Nat) :
    ((l.foldl f s).ctx j).body = (s.ctx j).body := foldl_keeps (fun u : State => (u.ctx j).body) f l s fun u b => hf u b j

theorem writeStats_body (slot : Nat) (s : State) (j : Nat) : ((writeStats slot s).ctx j).body = (s.ctx j).body :=
  foldl_body (fun u _ j => writeVA_body u _ _ _ j) _ s j

theorem writeWinRecords_body (slot : Nat) (s : State) (j : Nat) : ((writeWinRecords slot s).ctx j).body = (s.ctx j).body :=
  foldl_body (fun u _ j => writeVA_body u _ _ _ j) _ s j

theorem Machine.Ctx.body_rows {c d : Ctx} (h : c.body = d.body) : c.st = d.st ∧ c.switchOut = d.switchOut ∧ c.preempt = d.preempt ∧ c.desc = d.desc
    ∧ c.saved = d.saved :=
  have field {β : Type} (f : Ctx → β) : f c.body = f d.body := by rw [h]
  ⟨field Ctx.st, field Ctx.switchOut, field Ctx.preempt, field Ctx.desc, field Ctx.saved⟩

/-! A context that is off its cores -/

/-- What the retirement of cores leaves of a context that is not loaded, is on no core, or has no switch due. -/
structure Machine.KeepsOff (j : Nat) (s u : State) : Prop where
  unloaded : (s.ctx j).st = .none → (u.ctx j).st = .none
  away : s.resident j = false → u.resident j = false
  noSwitch : (s.ctx j).switchOut = false → (u.ctx j).switchOut = false
  noPreempt : (s.ctx j).preempt = false → (u.ctx j).preempt = false

theorem Machine.KeepsOff.refl (j : Nat) (s : State) : KeepsOff j s s := ⟨id, id, id, id⟩

theorem Machine.KeepsOff.trans {j : Nat} {s t u : State} (h1 : KeepsOff j s t) (h2 : KeepsOff j t u) : KeepsOff j s u :=
  ⟨h2.unloaded ∘ h1.unloaded, h2.away ∘ h1.away, h2.noSwitch ∘ h1.noSwitch, h2.noPreempt ∘ h1.noPreempt⟩

theorem Machine.KeepsOff.of_body {j : Nat} {s u : State} (hcores : u.cores = s.cores) (hctx : (u.ctx j).body = (s.ctx j).body) : KeepsOff j s u :=
  have ⟨hst, hswitch, hpreempt, _, _⟩ := Ctx.body_rows hctx
  ⟨fun h => hst.trans h, fun h => by rwa [State.resident, hcores], fun h => hswitch.trans h, fun h => hpreempt.trans h⟩

theorem Machine.KeepsOff.of_same {j : Nat} {s u : State} (hcores : u.cores = s.cores) (hctxs : u.ctxs = s.ctxs) : KeepsOff j s u :=
  .of_body hcores (by rw [ctx_of_ctxs hctxs])

theorem Machine.KeepsOff.foldl {β : Type} {j : Nat} {f : State → β → State} (hf : ∀ u b, KeepsOff j u (f u b)) (l : List β) (s : State) :
    KeepsOff j s (l.foldl f s) := by
  induction l generalizing s with
  | nil => exact .refl j s
  | cons b l ih => exact (hf s b).trans (ih _)

/-- A core whose resident stays, or that no context is resident on. -/
theorem Machine.KeepsOff.setCore {j : Nat} (s : State) (n : Nat) {c : Core} (h : c.resident = (s.core n).resident ∨ c.resident = none) :
    KeepsOff j s (s.setCore n c) := by
  refine ⟨id, fun haway => ?_, id, id⟩
  rcases h with h | h
  · exact (Tbl.any_put (d := {}) (P := fun c : Core => decide (c.resident = some j)) rfl s.cores n (by rw [h]; rfl)).trans haway
  · refine List.any_eq_false.mpr fun p hp => ?_
    rcases Tbl.mem_put hp with rfl | hp
    · simp [h]
    · exact List.any_eq_false.mp haway p hp

theorem Machine.KeepsOff.setCtx {j : Nat} (s : State) (k : Nat) {c : Ctx} (hnone : (s.ctx k).st = .none → c.st = .none)
    (hswitch : (s.ctx k).switchOut = false → c.switchOut = false) (hpreempt : (s.ctx k).preempt = false → c.preempt = false) :
    KeepsOff j s (s.setCtx k c) := by
  by_cases hj : j = k
  · subst hj
    exact ⟨fun h => by rw [State.ctx_setCtx_self, hnone h], id, fun h => by rw [State.ctx_setCtx_self, hswitch h],
      fun h => by rw [State.ctx_setCtx_self, hpreempt h]⟩
  · exact ⟨fun h => by rw [State.ctx_setCtx_ne _ _ hj, h], id, fun h => by rw [State.ctx_setCtx_ne _ _ hj, h],
      fun h => by rw [State.ctx_setCtx_ne _ _ hj, h]⟩

theorem logEv_off (j : Nat) (s : State) (e : LogEnt) : KeepsOff j s (s.logEv e) := .of_same (by simp) (by simp)

theorem faultWhole_off (j k cause : Nat) (name : String) (s : State) : KeepsOff j s (faultWhole k cause name s) := by
  unfold faultWhole
  dsimp only
  split
  · exact .refl j s
  next h =>
    refine .trans ?_ (logEv_off j _ _)
    refine .setCtx s k (fun hnone => absurd (.inl hnone) h) ?_ ?_
    · exact id
    · exact id

theorem dropCores_away (slot j : Nat) (s : State) (h : s.resident j = false) : (dropCores slot s).resident j = false := by
  refine List.any_eq_false.mpr fun p hp => ?_
  obtain ⟨q, hq, rfl⟩ := List.mem_map.mp hp
  have hq := List.any_eq_false.mp h q hq
  split
  · simp
  split
  · exact hq
  · exact hq

theorem dropFaulted_off (j k : Nat) (s : State) : KeepsOff j s (dropFaulted k s) := by
  unfold dropFaulted
  dsimp only
  have hwrites : KeepsOff j s (writeWinRecords k (writeStats k s)) :=
    .of_body (by simp) ((writeWinRecords_body k _ j).trans (writeStats_body k s j))
  generalize writeWinRecords k (writeStats k s) = t at *
  refine hwrites.trans (.trans (t := noteSwitch k t) (.of_same (by simp) (by simp)) ?_)
  have hctx : (noteSwitch k t).ctx k = t.ctx k := rfl
  rw [← hctx]
  generalize noteSwitch k t = v
  refine .trans (t := dropCores k v) ⟨id, dropCores_away k j v, id, id⟩ (.setCtx _ k ?_ ?_ ?_)
  · exact id
  · exact fun _ => rfl
  · exact fun _ => rfl

theorem retiredUser_off (j k : Nat) (s : State) : KeepsOff j s (retiredUser s k) := by
  unfold retiredUser
  dsimp only
  split
  · exact (faultWhole_off ..).trans (dropFaulted_off ..)
  · exact faultWhole_off ..

theorem retireCore_off (j n : Nat) (s : State) : KeepsOff j s (retireCore n s) := by
  unfold retireCore
  dsimp only
  split
  · exact .refl j s
  · refine .trans ?_ (.setCore _ n (.inr rfl))
    refine .trans ?_ (.foldl (fun u k => retiredUser_off j k u) _ _)
    exact .of_same (by simp) (by simp)

theorem replaceRows_resident (c : Core) : c.replaceRows.1.resident = c.resident := by
  have hrow (r : Core × Bool) (row : Nat) : (Core.replaceRow r row).1.resident = r.1.resident := by
    unfold Core.replaceRow
    dsimp only
    split <;> rfl
  have hrows (l : List Nat) (r : Core × Bool) : (l.foldl Core.replaceRow r).1.resident = r.1.resident := by
    induction l generalizing r with
    | nil => rfl
    | cons row l ih => exact (ih _).trans (hrow r row)
  exact hrows _ _

theorem repairCore_off (j n : Nat) (s : State) : KeepsOff j s (repairCore s n) := by
  unfold repairCore
  dsimp only
  split
  · exact .refl j s
  · have hset := KeepsOff.setCore (j := j) s n (c := { (s.core n).replaceRows.1 with
      live := (s.core n).live.spared (s.bankBaseOf n) (s.core n).rowMarks }) (.inl (replaceRows_resident _))
    split
    · exact hset
    · exact hset.trans (retireCore_off ..)

/-- The replacement of marked rows of free cores leaves a context that is off its cores as it is. -/
theorem repairIdle_off (j : Nat) (s : State) : KeepsOff j s (repairIdle s) := by
  refine .foldl (fun u n => ?_) _ s
  split
  · exact repairCore_off ..
  · exact .refl j u

/-! The control commands -/

/-- A posted control command, carried out in the state in which its page holds it. -/
theorem runPosted_control {s : State} {slot : Nat} {p : Post} (h : HostFree s slot p) {op : Nat} {recs : List HostRec} {abort : Bool} :
    runPosted false slot (hostCmd p true op recs abort) (hostStart s slot (hostCmd p true op recs abort)) =
      controlCommand slot ((s.enclOfSlot slot).getD 0xFF) (hostCmd p true op recs abort) (hostStart s slot (hostCmd p true op recs abort)) := by
  have hstill : (hostStart s slot (hostCmd p true op recs abort)).replayed ≠ some slot := h.still
  unfold runPosted
  simp only [hstill, if_false]
  rfl

theorem post_control_ends {s : State} {slot : Nat} {p : Post} (h : HostFree s slot p) {op : Nat} {recs : List HostRec} {abort : Bool} {u : State}
    {k b : Nat} (hr : controlCommand slot ((s.enclOfSlot slot).getD 0xFF) (hostCmd p true op recs abort)
      (hostStart s slot (hostCmd p true op recs abort)) = ⟨u, some (k, b)⟩) :
    post p true op recs abort s =
      hostEnd (hostStart s slot (hostCmd p true op recs abort)) slot (hostCmd p true op recs abort) u k b :=
  post_done s slot p true op recs abort h ((runPosted_control h).trans hr)

theorem post_control_waits {s : State} {slot : Nat} {p : Post} (h : HostFree s slot p) {op : Nat} {recs : List HostRec} {abort : Bool} {u : State}
    (hr : controlCommand slot ((s.enclOfSlot slot).getD 0xFF) (hostCmd p true op recs abort)
      (hostStart s slot (hostCmd p true op recs abort)) = ⟨u, none⟩) :
    post p true op recs abort s = hostWaits slot (hostCmd p true op recs abort) u :=
  post_waits s slot p true op recs abort h ((runPosted_control h).trans hr)

section
variable {slot encl : Nat} {x : Posted} {s : State}

theorem controlCommand_load (hform : ctlReserved x.entry = false) (h : entOp x.entry = 0x40) :
    controlCommand slot encl x s = ctxLoad slot encl (entWord x.entry 1) s := by
  simp only [controlCommand, hform, h, Bool.false_eq_true, if_false]

theorem controlCommand_reload (hform : ctlReserved x.entry = false) (h : entOp x.entry = 0x41) :
    controlCommand slot encl x s = reloadCtx slot (entWord x.entry 1) s := by
  simp only [controlCommand, hform, h, Bool.false_eq_true, if_false]

theorem controlCommand_unload (hform : ctlReserved x.entry = false) (h : entOp x.entry = 0x42) :
    controlCommand slot encl x s = .done (repairIdle (unloadCtx slot s).1) (unloadCtx slot s).2 := by
  simp only [controlCommand, hform, h, Bool.false_eq_true, if_false]

theorem controlCommand_switchIn (hform : ctlReserved x.entry = false) (h : entOp x.entry = 0x43) :
    controlCommand slot encl x s = switchIn slot encl x.started s := by
  simp only [controlCommand, hform, h, Bool.false_eq_true, if_false]

theorem controlCommand_switchOut (hform : ctlReserved x.entry = false) (h : entOp x.entry = 0x44) :
    controlCommand slot encl x s = switchOut slot (bit (entWord x.entry 2) 0) x.started s := by
  simp only [controlCommand, hform, h, Bool.false_eq_true, if_false]

theorem controlCommand_resume (hform : ctlReserved x.entry = false) (h : entOp x.entry = 0x45) :
    controlCommand slot encl x s = resumeCtx slot encl s := by
  simp only [controlCommand, hform, h, Bool.false_eq_true, if_false]

theorem controlCommand_dwtPost (hform : ctlReserved x.entry = false) (h : entOp x.entry = 0x50) :
    controlCommand slot encl x s = dwtPost slot x.entry s := by
  simp only [controlCommand, hform, h, Bool.false_eq_true, if_false]

end

/-! CTX_LOAD -/

theorem loadCtx_ok {slot encl va : Nat} {s : State} (h : (loadCtx slot encl va s).2 = 0) :
    (s.ctx slot).st = .none ∧ (checkDesc slot encl va false s).status = 0 := by
  revert h
  unfold loadCtx
  dsimp only
  split
  · exact fun h => absurd (show (0x400 : Nat) = 0 from h) (by decide)
  next hst =>
    split
    next hstatus => exact fun h => absurd h hstatus
    next hstatus => exact fun _ => ⟨not_not.mp hst, not_not.mp hstatus⟩

theorem loadCtx_row {slot encl va : Nat} {s : State} (h : (loadCtx slot encl va s).2 = 0) :
    ((loadCtx slot encl va s).1.ctx slot).st = .ready ∧ ((loadCtx slot encl va s).1.ctx slot).desc = (checkDesc slot encl va false s).d
    ∧ ((loadCtx slot encl va s).1.ctx slot).recipe = (checkDesc slot encl va false s).recipe
    ∧ ((loadCtx slot encl va s).1.ctx slot).saved = (checkDesc slot encl va false s).d.startCores
    ∧ (loadCtx slot encl va s).1.counters = Tbl.clear s.counters (checkDesc slot encl va false s).d.ctrBase
    (checkDesc slot encl va false s).d.ctrCount
    ∧ (loadCtx slot encl va s).1.cores = s.cores := by
  obtain ⟨hst, hstatus⟩ := loadCtx_ok h
  have hsame : (checkDesc slot encl va false s).s.counters = s.counters ∧ (checkDesc slot encl va false s).s.cores = s.cores := by simp
  unfold loadCtx
  simp only [hst, hstatus, ne_eq, not_true_eq_false, if_false]
  generalize checkDesc slot encl va false s = o at *
  refine ⟨?_, ?_, ?_, ?_, ?_, hsame.2⟩
  · exact congrArg Ctx.st (State.ctx_setCtx_self o.s slot _)
  · exact congrArg Ctx.desc (State.ctx_setCtx_self o.s slot _)
  · exact congrArg Ctx.recipe (State.ctx_setCtx_self o.s slot _)
  · exact congrArg Ctx.saved (State.ctx_setCtx_self o.s slot _)
  · exact congrArg (fun t => Tbl.clear t _ _) hsame.1

/-- A load waits while a core that it names runs its self-test (R78). -/
theorem ctxLoad_row {slot encl va : Nat} {s : State} (h : (loadCtx slot encl va s).2 = 0) :
    ctxLoad slot encl va s =
      if (maskCores (checkDesc slot encl va false s).d.mask).any (fun n => (s.core n).busy) then ⟨s, none⟩
      else .done (loadCtx slot encl va s).1 0 := by
  obtain ⟨hst, hstatus⟩ := loadCtx_ok h
  unfold ctxLoad
  simp only [hst, hstatus, decide_true, Bool.true_and, h]

/-! CTX_UNLOAD -/

theorem unloadCtx_row {slot : Nat} {s : State} (hst : (s.ctx slot).st ≠ .none) (h : s.resident slot = false ∨ (s.ctx slot).st = .faulted) :
    unloadCtx slot s = (unloadNow slot (if s.resident slot then writeWinRecords slot (writeStats slot s) else s), 0) := by
  have hgo : ¬(s.resident slot && decide ((s.ctx slot).st ≠ .faulted)) = true := by
    rcases h with h | h
    · simp [h]
    · simp [h]
  unfold unloadCtx
  dsimp only
  rw [if_neg hst, if_neg hgo]

theorem unloadNow_st (slot : Nat) (s : State) : ((unloadNow slot s).ctx slot).st = .none := by
  unfold unloadNow
  dsimp only
  rw [State.ctx_setCtx_self]

theorem dropCores_leaves (slot : Nat) (s : State) : (dropCores slot s).resident slot = false := by
  refine List.any_eq_false.mpr fun p hp => ?_
  obtain ⟨q, hq, rfl⟩ := List.mem_map.mp hp
  split
  · simp
  next hq =>
    split
    · simpa using hq
    · simpa using hq

theorem unloadNow_away (slot : Nat) (s : State) : (unloadNow slot s).resident slot = false := dropCores_leaves slot s

theorem unloadNow_queues (slot : Nat) (s : State) : ∀ q ∈ (unloadNow slot s).dwt.queues, q.2.ctx ≠ some slot := by
  intro q hq
  obtain ⟨k, hk, rfl⟩ := List.mem_map.mp (show q ∈ s.dwt.queues.map _ from hq)
  split
  · exact nofun
  next h => exact h

/-- A core once the context of a slot has been taken off it. -/
def Machine.Core.dropped (slot : Nat) (c : Core) : Core :=
  if c.resident = some slot then { c with resident := none, live := {}, aged := [], state := if c.state = .running then .idle else c.state }
  else if c.shadow = some slot then { c with shadow := none, state := if c.state = .running then .idle else c.state }
  else c

theorem dropCores_core (slot : Nat) (s : State) (n : Nat) : (dropCores slot s).core n = (s.core n).dropped slot := by
  have hcores : (dropCores slot s).cores = s.cores.map fun p => (p.1, p.2.dropped slot) := by
    refine List.map_congr_left fun p _ => ?_
    unfold Core.dropped
    split
    · rfl
    · split <;> rfl
  rw [State.core, hcores]
  exact Tbl.get_map {} (Core.dropped slot) s.cores n

theorem not_resident_core {s : State} {slot : Nat} (h : s.resident slot = false) (n : Nat) : (s.core n).resident ≠ some slot := by
  intro hn
  obtain ⟨c, hc, heq⟩ := Tbl.get_of_listed {} (t := s.cores) (k := n) fun h0 => by rw [State.core, h0] at hn; cases hn
  rw [State.core, heq] at hn
  exact absurd (decide_eq_true hn) (List.any_eq_false.mp h _ hc)

theorem unloadNow_core (slot : Nat) (s : State) (haway : s.resident slot = false) (n : Nat) :
    ((unloadNow slot s).core n).resident = (s.core n).resident ∧ ((unloadNow slot s).core n).rowMarks = (s.core n).rowMarks := by
  rw [show (unloadNow slot s).core n = (s.core n).dropped slot from dropCores_core slot s n, Core.dropped, if_neg (not_resident_core haway n)]
  split <;> exact ⟨rfl, rfl⟩

/-- Where the context was on no core no row is left to replace. -/
theorem unloadNow_repaired {slot : Nat} {s : State} (haway : s.resident slot = false)
    (hrows : ∀ n < 8, (s.core n).resident = none → (s.core n).rowMarks = []) : repairIdle (unloadNow slot s) = unloadNow slot s :=
  repairIdle_of_clean fun n hn hnone => by
    obtain ⟨hresident, hmarks⟩ := unloadNow_core slot s haway n
    rw [hmarks]
    exact hrows n hn (hresident ▸ hnone)

/-! CTX_SWITCH_OUT -/

theorem switchOutNow_due (slot : Nat) (s : State) :
    ((repairIdle (switchOutNow slot s)).ctx slot).switchOut = false ∧ ((repairIdle (switchOutNow slot s)).ctx slot).preempt = false :=
  have ⟨hpreempt, hswitch, _⟩ := switchOutNow_ctx slot s
  ⟨(repairIdle_off slot _).noSwitch hswitch, (repairIdle_off slot _).noPreempt hpreempt⟩

section
variable {slot : Nat} {preempt : Bool} {s : State}

theorem switchOut_away (hst : (s.ctx slot).st ≠ .none) (h : s.resident slot = false) : switchOut slot preempt false s = .done s 0 := by
  unfold switchOut
  simp only [hst, h, Bool.not_false, if_true, if_false]

theorem switchOut_faulted (h : s.resident slot = true) (hst : (s.ctx slot).st = .faulted) :
    switchOut slot preempt false s = .done (repairIdle (dropFaulted slot s)) 0 := by
  unfold switchOut
  simp only [hst, h, reduceCtorEq, Bool.not_true, Bool.false_eq_true, if_true, if_false]

theorem switchOut_now (hst : (s.ctx slot).st ≠ .none) (h : s.resident slot = true) (hlive : (s.ctx slot).st ≠ .faulted)
    (hnow : (s.ctx slot).st = .done ∨ (s.ctx slot).held = true) :
    switchOut slot preempt false s = .done (repairIdle (switchOutNow slot s)) 0 := by
  unfold switchOut
  simp only [hst, h, hlive, hnow, Bool.not_true, Bool.false_eq_true, if_true, if_false]

theorem switchOut_later (hst : (s.ctx slot).st ≠ .none) (h : s.resident slot = true) (hlive : (s.ctx slot).st ≠ .faulted)
    (hnow : ¬((s.ctx slot).st = .done ∨ (s.ctx slot).held = true)) :
    switchOut slot preempt false s = ⟨s.setCtx slot { s.ctx slot with
      preempt := preempt && !s.allAtMeridian slot, switchOut := !(preempt && !s.allAtMeridian slot) }, none⟩ := by
  unfold switchOut
  simp only [hst, h, hlive, hnow, Bool.not_true, Bool.false_eq_true, if_false]

end

/-! CTX_RESUME -/

theorem resumeCtx_row {slot encl : Nat} {s : State} (hst : (s.ctx slot).st ≠ .none) (hheld : (s.ctx slot).held = true) :
    resumeCtx slot encl s = .done (stepEight slot encl (s.setCtx slot { s.ctx slot with held := false, cause := 0 })) 0 := by
  have hgo : ¬(!(s.ctx slot).held) = true := by simp [hheld]
  unfold resumeCtx
  dsimp only
  rw [if_neg hst, if_neg hgo]

/-! DWT_POST -/

theorem dwtPost_row {slot q : Nat} {e : BitVec 512} {s : State} (hst : (s.ctx slot).st ≠ .none)
    (hq : s.queueOf slot (bits (entWord e 2) 12 0) = some q) (hown : s.queueForeign q slot = false) (hn : 0 < bits (entWord e 2) 24 16)
    (hmapped : s.mapped slot (entWord e 1) (64 * bits (entWord e 2) 24 16) = true)
    (htrains : s.memTrains slot (entWord e 1) (64 * bits (entWord e 2) 24 16) = false)
    (hroom : (s.queue q).entries.length + bits (entWord e 2) 24 16 ≤ Config.queueEntries)
    (hbad : (s.readVA slot (entWord e 1) (64 * bits (entWord e 2) 24 16)).bad = false) :
    dwtPost slot e s = .done ((s.readVA slot (entWord e 1) (64 * bits (entWord e 2) 24 16)).s.postEntries q slot
      (readQEnts (s.readVA slot (entWord e 1) (64 * bits (entWord e 2) 24 16)).bytes)) 0 := by
  unfold dwtPost
  simp only [hst, hq, hown, hmapped, htrains, hbad, Nat.ne_of_gt hn, Nat.not_lt.mpr hroom, Bool.false_eq_true, Bool.not_true, or_self, if_false]

theorem postEntries_queue (s : State) (q slot : Nat) (es : List QEnt) :
    ((s.postEntries q slot es).queue q).ctx = some slot
    ∧ ((s.postEntries q slot es).queue q).entries = (s.queue q).entries ++ es.zipIdx.map fun p => ((s.queue q).next + p.2, p.1) := by
  unfold State.postEntries
  dsimp only
  rw [State.queue_setQueue_self]
  exact ⟨rfl, rfl⟩

theorem queue_of_dwt {s t : State} (h : t.dwt = s.dwt) (q : Nat) : t.queue q = s.queue q := by rw [State.queue, h, State.queue]

/-- Settles O18: what each control command comes to, posted where nothing holds it back. -/
theorem contextCommandsComplete : Obligations.ContextCommandsComplete := by
  unfold Obligations.ContextCommandsComplete
  intro s slot p hfree x v encl c w ok
  have hop (op : Nat) (h : op < 256) : entOp (x op).entry = op := entOp_withOp p.entry h
  refine ⟨fun hok hload => ⟨fun hbusy => ?_, fun hbusy => ?_⟩, fun hok hst => ?_, fun hok hst haway => ?_, fun hok hst haway hcores => ?_,
    fun hok hst hres hlive => ?_, fun hok hst hres hfaulted => ?_, fun hok hst haway => ?_, fun hok hst hheld => ?_, fun q hok hst hq hown => ?_⟩
  · refine congrArg Host.Outcome.next (post_control_waits hfree ?_)
    rw [controlCommand_load hok (hop _ (by decide)), ctxLoad_row hload]
    exact if_pos hbusy
  · obtain ⟨hst, hdesc, hrecipe, hsaved, hcounters, hcores⟩ := loadCtx_row hload
    refine ⟨_, congrArg Host.Outcome.next (post_control_ends hfree ?_), (loadCtx_ok hload).2, hst, hdesc, hrecipe, hsaved, hcounters, hcores⟩
    rw [controlCommand_load hok (hop _ (by decide)), ctxLoad_row hload]
    exact if_neg (by rw [Bool.not_eq_true]; exact hbusy)
  · have hrow : reloadCtx slot (w 0x41 1) (v 0x41) = .done ((v 0x41).setCtx slot { c with replace := some (BitVec.ofNat 48 (w 0x41 1)) }) 0 :=
      if_neg hst
    refine ⟨_, congrArg Host.Outcome.next (post_control_ends hfree ((controlCommand_reload hok (hop _ (by decide))).trans hrow)), ?_, ?_, rfl, rfl⟩
    · rw [State.ctx_setCtx_self]
    · rw [State.ctx_setCtx_self]
  · have hrow := unloadCtx_row (s := v 0x42) hst haway
    have hexec : post p true 0x42 [] false s = _ := post_control_ends hfree ((controlCommand_unload hok (hop _ (by decide))).trans
      (by rw [hrow]; rfl))
    generalize hw : (if (v 0x42).resident slot then writeWinRecords slot (writeStats slot (v 0x42)) else v 0x42) = y at *
    have hcounters : y.counters = s.counters := by
      rw [← hw]
      split
      · simp [v, hostStart, State.setPage]
      · rfl
    refine ⟨_, congrArg Host.Outcome.next hexec, (repairIdle_off slot _).unloaded (unloadNow_st slot y),
      (repairIdle_off slot _).away (unloadNow_away slot y), congrArg (fun t => repairIdle (unloadNow slot t)) hw.symm, ?_, fun haway => ?_, ?_⟩
    · rw [(repairIdle_same _).2.2.2.2.2.2.2.1]
      exact unloadNow_queues slot y
    · have hy : y = v 0x42 := hw.symm.trans (if_neg (by rw [Bool.not_eq_true]; exact haway))
      rw [hy, unloadNow_repaired (s := v 0x42) haway hfree.rows]
      rfl
    · rw [(repairIdle_same _).2.2.2.2.2.2.1]
      exact hcounters
  · refine ⟨_, congrArg Host.Outcome.next (post_control_ends hfree ((controlCommand_switchIn hok (hop _ (by decide))).trans
      (switchIn_row (s := v 0x43) hst haway hcores))), rfl, fun n hn => ?_⟩
    obtain ⟨h1, h2, h3, h4⟩ := switchInNow_core slot encl (v 0x43) hn
    exact ⟨h1, h2, h3, h4 (coresFree_takes (s := v 0x43) hcores hn)⟩
  · have hrow := controlCommand_switchOut (slot := slot) (encl := encl) (s := v 0x44) hok (hop _ (by decide))
    split
    next hnow =>
      exact ⟨_, congrArg Host.Outcome.next (post_control_ends hfree (hrow.trans (switchOut_now (s := v 0x44) hst hres hlive hnow))), rfl,
        switchOutNow_due slot (v 0x44)⟩
    next hnow =>
      refine ⟨_, congrArg Host.Outcome.next (post_control_waits hfree (hrow.trans (switchOut_later (s := v 0x44) hst hres hlive hnow))), ?_, ?_, rfl⟩
      · rw [State.ctx_setCtx_self]
        rfl
      · rw [State.ctx_setCtx_self]
  · exact congrArg Host.Outcome.next (post_control_ends hfree ((controlCommand_switchOut hok (hop _ (by decide))).trans
      (switchOut_faulted (s := v 0x44) hres hfaulted)))
  · exact congrArg Host.Outcome.next (post_control_ends hfree ((controlCommand_switchOut hok (hop _ (by decide))).trans
      (switchOut_away (s := v 0x44) hst haway)))
  · exact congrArg Host.Outcome.next (post_control_ends hfree ((controlCommand_resume hok (hop _ (by decide))).trans
      (resumeCtx_row (s := v 0x45) hst hheld)))
  · intro n m hn hmapped htrains hroom hbad
    obtain ⟨hctx, hentries⟩ := postEntries_queue m.s q slot (readQEnts m.bytes)
    rw [queue_of_dwt (State.readVA_same _ _ _ _).2.2.2.2.2.2.2.2.2.1] at hentries
    have hrow := dwtPost_row (s := v 0x50) hst hq hown hn hmapped htrains hroom hbad
    refine ⟨_, congrArg Host.Outcome.next (post_control_ends hfree ((controlCommand_dwtPost hok (hop _ (by decide))).trans hrow)), hctx,
      hentries, ?_, ?_⟩
    · exact (State.readVA_same _ _ _ _).2.2.2.2.2.1
    · exact (State.readVA_same _ _ _ _).2.2.2.2.2.2.2.2.1

end Sys2Proof
end

section
/-! Received segments: what closing a state leaves of the number of replay resets, and the segments of a collective connection. -/

namespace Sys2Proof.Machine

variable {β : Type}

@[simp] theorem Dwt.ite_replayResets (c : Prop) [Decidable c] (a b : Dwt) :
    (if c then a else b).replayResets = if c then a.replayResets else b.replayResets := by
  split <;> rfl

@[simp] theorem State.foldl_replays (f : State → β → State) (l : List β) (s : State)
    (h : ∀ s x, (f s x).dwt.replayResets = s.dwt.replayResets) :
    (l.foldl f s).dwt.replayResets = s.dwt.replayResets := foldl_keeps (fun u => u.dwt.replayResets) f l s h

@[simp] theorem State.setWin_replays (s : State) (k : Nat) (w : DwtWin) :
    (State.setWin s k w).dwt.replayResets = s.dwt.replayResets := by
  simp [State.setWin]

@[simp] theorem State.setConn_replays (s : State) (k : Nat) (c : DwtConn) :
    (State.setConn s k c).dwt.replayResets = s.dwt.replayResets := by
  simp [State.setConn]

@[simp] theorem State.setQueue_replays (s : State) (k : Nat) (q : DwtQueue) :
    (State.setQueue s k q).dwt.replayResets = s.dwt.replayResets := by
  simp [State.setQueue]

@[simp] theorem State.postEntries_replays (s : State) (q slot : Nat) (es : List QEnt) :
    (State.postEntries s q slot es).dwt.replayResets = s.dwt.replayResets := by
  simp [State.postEntries]

@[simp] theorem State.dwtComplete_replays (s : State) (q num status bytes : Nat) :
    (State.dwtComplete s q num status bytes).dwt.replayResets = s.dwt.replayResets := by
  unfold State.dwtComplete
  dsimp only
  (repeat' split) <;> simp_all

@[simp] theorem failOps_replays (cn status : Nat) (s : State) :
    (failOps cn status s).dwt.replayResets = s.dwt.replayResets := by
  simp [failOps]

@[simp] theorem closeColl_replays (slot : Nat) (s : State) :
    (closeColl slot s).dwt.replayResets = s.dwt.replayResets := by
  simp [closeColl]

@[simp] theorem unbindQueues_replays (slot : Nat) (s : State) :
    (unbindQueues slot s).dwt.replayResets = s.dwt.replayResets := by
  simp [unbindQueues]

@[simp] theorem unloadNow_replays (slot : Nat) (s : State) :
    (unloadNow slot s).dwt.replayResets = s.dwt.replayResets := by
  simp [unloadNow]

@[simp] theorem unloadCtx_replays (slot : Nat) (s : State) :
    (unloadCtx slot s).1.dwt.replayResets = s.dwt.replayResets := by
  unfold unloadCtx
  dsimp only
  (repeat' split) <;> simp

@[simp] theorem openCollOne_replays (slot encl : Nat) (s : State) (d : (Nat × Nat) × Nat) :
    (openCollOne slot encl s d).dwt.replayResets = s.dwt.replayResets := by
  simp [openCollOne]

@[simp] theorem openColl_replays (slot encl : Nat) (s : State) :
    (openColl slot encl s).dwt.replayResets = s.dwt.replayResets := by
  simp [openColl]

@[simp] theorem switchInNow_replays (slot encl : Nat) (s00 : State) :
    (switchInNow slot encl s00).dwt.replayResets = s00.dwt.replayResets := by
  simp [switchInNow]

@[simp] theorem restoreDwtWins_replays (slot : Nat) (x : Starfix) (s : State) :
    (restoreDwtWins slot x s).dwt.replayResets = s.dwt.replayResets := by
  simp [restoreDwtWins]

@[simp] theorem endConn_replays (slot : Nat) (s : State) (p : Nat × ConnDesc) :
    (endConn slot s p).dwt.replayResets = s.dwt.replayResets := by
  simp [endConn]

@[simp] theorem restoreConn_replays (slot encl : Nat) (s : State) (p : Nat × ConnDesc) :
    (restoreConn slot encl s p).dwt.replayResets = s.dwt.replayResets := by
  simp [restoreConn]

@[simp] theorem restoreFrom_replays (slot encl : Nat) (mirror : Bool) (x : Starfix) (s : State) :
    (restoreFrom slot encl mirror x s).dwt.replayResets = s.dwt.replayResets := by
  simp [restoreFrom]

@[simp] theorem restore_replays (slot encl : Nat) (step : W64) (mirror : Bool) (s : State) :
    (restore slot encl step mirror s).1.dwt.replayResets = s.dwt.replayResets := by
  unfold restore
  dsimp only
  split
  · simp
  · split
    · simp
    · split
      · simp
      · rename_i x _ _ s1 h
        have hdwt : s1.dwt = s.dwt := by
          split at h
          · simp [makeObjs_same _ _ _ _ h]
          · simp only [Option.some.injEq] at h; subst h; rfl
        (repeat' split) <;> simp [hdwt]

@[simp] theorem switchIn_replays (slot encl : Nat) (started : Bool) (s : State) :
    (switchIn slot encl started s).s.dwt.replayResets = s.dwt.replayResets := by
  unfold switchIn
  dsimp only
  (repeat' split) <;> simp

@[simp] theorem dwtPost_replays (slot : Nat) (e : BitVec 512) (s : State) :
    (dwtPost slot e s).s.dwt.replayResets = s.dwt.replayResets := by
  unfold dwtPost
  dsimp only
  (repeat' split) <;> simp

@[simp] theorem controlCommand_replays (slot encl : Nat) (x : Posted) (s : State) :
    (controlCommand slot encl x s).s.dwt.replayResets = s.dwt.replayResets := by
  unfold controlCommand
  dsimp only
  (repeat' split) <;> simp

@[simp] theorem runPosted_replays (mer : Bool) (slot : Nat) (x : Posted) (s : State) :
    (runPosted mer slot x s).s.dwt.replayResets = s.dwt.replayResets := by
  unfold runPosted
  (repeat' split) <;> simp

@[simp] theorem pumpSlot_replays (mer : Bool) (slot : Nat) (a1 : Nat) (s : State) :
    (pumpSlot mer slot a1 s).dwt.replayResets = s.dwt.replayResets := by
  induction a1 generalizing s with
  | zero => simp [pumpSlot]
  | succ n ih =>
    simp only [pumpSlot]
    (repeat' split) <;> simp [ih]

@[simp] theorem pumpRounds_replays (mer : Option Nat) (a1 : Nat) (s : State) :
    (pumpRounds mer a1 s).dwt.replayResets = s.dwt.replayResets := by
  induction a1 generalizing s with
  | zero => simp [pumpRounds]
  | succ n ih =>
    simp only [pumpRounds]
    simp [ih]

@[simp] theorem State.pumpAt_replays (s : State) (mer : Option Nat) :
    (State.pumpAt s mer).dwt.replayResets = s.dwt.replayResets := by
  simp [State.pumpAt]

@[simp] theorem State.close_replays (s t : State) :
    (State.close s t).dwt.replayResets = t.dwt.replayResets := by
  simp [State.close]

end Sys2Proof.Machine

namespace Sys2Proof

open Sys2Proof.Machine

/-- A data frame for a port, its CRC good. -/
def dataFrame : RxFacts :=
  { len := 64, fecBad := false, stomped := false, fcsBad := false, dst := 0, src := 1, tagged := false, vid := 0, cls := 0, net := .ether 0x88B5 }

/-- A WRITE of no bytes to connection 4, its SEQ 0. -/
def staleWrite : Msg :=
  { ver := 1, typ := 1, resv := false, first := true, last := true, dstConn := 4, srcConn := 0, txn := 0, seq := 0, ref := 0, window := 0, wgen := 1
    length := 1, offset := 0, status := 0, payload := [0], sealKey := 0, sealDir := false, intact := true, frameLenOk := true }

/-- A device whose connection 4 is a collective's, and has received SEQ 65536. -/
def collReady : State :=
  { nets := [(0, { kind := kindDirect, linkUp := true, helloOk := true, lanes := 4 })]
    dwt := { conns := [(4, { st := .open_, peerR := some 1, coll := true, high := some 65536 })] } }

/-- The state in which the segment has reached its connection. -/
def collReceived : State := (dwtIn (0 : PortId).val dataFrame staleWrite 1 collReady).s

theorem collReceived_eq : dwtIn (0 : PortId).val dataFrame staleWrite 1 collReady = ⟨collReceived, some 4⟩ := by
  have hconn : (dwtIn (0 : PortId).val dataFrame staleWrite 1 collReady).cn = some 4 := by decide +kernel
  rw [← hconn]
  rfl

/-- On a collective connection a WRITE does nothing more (R278). -/
theorem exec_rxWrite_coll {s s1 : State} {n : PortId} {f : RxFacts} {m : Msg} {cn : Nat} (hin : dwtIn n.val f m 1 s = ⟨s1, some cn⟩)
    (hcoll : (s1.conn cn).coll = true) : exec (.rxWrite n f m) s = .next (s.close s1) := by
  refine congrArg Host.Outcome.next ?_
  simp [received, hin, dataArrives, hcoll]

/-- Refutes O23: a WRITE below the replay bitmap of a collective connection resets nothing. -/
theorem not_segmentsReceived : ¬ Obligations.SegmentsReceived := by
  intro h
  obtain ⟨-, -, -, -, -, hreset⟩ := h collReady collReceived 0 dataFrame staleWrite 4 1 _ (.inl ⟨rfl, rfl⟩) collReceived_eq
  obtain ⟨u, hexec, -, -, hcount, -⟩ := hreset (by decide +kernel)
  rw [exec_rxWrite_coll collReceived_eq (by decide +kernel)] at hexec
  have hsame := congrArg (fun t : State => t.dwt.replayResets) (Host.Outcome.next.inj hexec)
  simp only [State.close_replays, hcount] at hsame
  exact absurd hsame (by decide +kernel)

end Sys2Proof
end

section
/-! Received answers: the mirrored write of the recovery controller. -/

namespace Sys2Proof

open Sys2Proof.Machine

/-- The mirrored write of the recovery controller, its one segment unanswered. -/
def mirrorOp : DwtOp :=
  { queue := rcvQueue, ent := 0, length := 64, segs := 1, sent := 1
    q := { op := 1, waitEn := false, fence := false, ctrEn := false, recEn := false, conn := 0, localVa := 0, length := 64, rwgen := 0, window := 0
           roffset := 0, waitCtr := 0, waitTarget := 0, doneCtr := 0, recVa := 0, extra := 0, resv := false } }

def mirrorSeg : Seg :=
  { seq := 9, typ := 1, queue := rcvQueue, ent := 0, window := 0, wgen := 0, offset := 0, length := 64, at_ := 0, first := true, last := true,
    ref := 9 }

/-- The ACK of the segment. -/
def mirrorAck : Msg :=
  { ver := 1, typ := 5, resv := false, first := false, last := false, dstConn := 4, srcConn := 0, txn := 0, seq := 0, ref := 9, window := 0, wgen := 0
    length := 0, offset := 0, status := 0, payload := [], sealKey := 0, sealDir := false, intact := true, frameLenOk := true }

/-- A device whose connection 4 mirrors context 0. -/
def mirrorReady : State :=
  { nets := [(0, { kind := kindDirect, linkUp := true, helloOk := true, lanes := 4 })]
    dwt := { conns := [(4, { st := .open_, peerR := some 1, ops := [mirrorOp], segs := [mirrorSeg] })] }
    ctxs := [(0, { st := .ready })] }

/-- The state in which the ACK has reached its connection. -/
def mirrorReceived : State := (dwtIn (0 : PortId).val dataFrame mirrorAck 5 mirrorReady).s

theorem mirrorReceived_eq : dwtIn (0 : PortId).val dataFrame mirrorAck 5 mirrorReady = ⟨mirrorReceived, some 4⟩ := by
  have hconn : (dwtIn (0 : PortId).val dataFrame mirrorAck 5 mirrorReady).cn = some 4 := by decide +kernel
  rw [← hconn]
  rfl

/-- An ACK that reached a connection is the connection's, or the collective engine's. -/
theorem exec_rxAck {s s1 : State} {n : PortId} {f : RxFacts} {m : Msg} {cn : Nat} (hin : dwtIn n.val f m 5 s = ⟨s1, some cn⟩) :
    exec (.rxAck n f m) s = .next (s.close (anyAnswer cn m s1)) := by
  refine congrArg Host.Outcome.next ?_
  simp [received, hin]

/-- Refutes O24: the answer of the mirrored write also tells the recovery controller that the mirror has acknowledged (R381). -/
theorem not_answersAndHandshakes : ¬ Obligations.AnswersAndHandshakes := by
  intro h
  obtain ⟨hack, -, -⟩ := h.1 mirrorReady mirrorReceived 0 dataFrame mirrorAck 4 5 _ mirrorOp mirrorSeg (.inr (.inl ⟨rfl, rfl⟩)) mirrorReceived_eq
    (by decide +kernel) (by decide +kernel) (by decide +kernel) (by decide +kernel) (by decide +kernel) rfl rfl rfl rfl rfl (by decide)
  obtain ⟨u, hexec, hu, -⟩ := hack rfl (by decide) (by decide)
  rw [exec_rxAck mirrorReceived_eq, hu] at hexec
  have hsame := congrArg (fun t : State => (t.ctx 0).rcv.mirrored) (Host.Outcome.next.inj hexec)
  exact absurd hsame (by decide +kernel)

end Sys2Proof
end

section
/-! Collectives that start, are skipped or fail (09 R276, R277, R281, R284). -/

namespace Sys2Proof

open Sys2Proof.Machine

/-! Which counters have an owner -/

/-- A context's record written with its state and its descriptor kept. -/
theorem setCtx_owner (s : State) (slot k : Nat) {c : Ctx} (hst : c.st = (s.ctx slot).st) (hdesc : c.desc = (s.ctx slot).desc) :
    ((s.setCtx slot c).ctrOwner k).isSome = (s.ctrOwner k).isSome := by
  rw [ctrOwner_isSome, ctrOwner_isSome]
  refine Tbl.any_put (d := {}) (P := fun c : Ctx => decide (c.st ≠ .none) && decide (c.desc.ctrBase ≤ k)
    && decide (k < c.desc.ctrBase + c.desc.ctrCount)) rfl s.ctxs slot ?_
  rw [hst, hdesc]
  rfl

theorem undoHook_owner (s : State) (slot vp k : Nat) : ((s.undoHook slot vp).ctrOwner k).isSome = (s.ctrOwner k).isSome := by
  unfold State.undoHook
  dsimp only
  split
  · rfl
  split
  · exact setCtx_owner _ _ _ rfl rfl
  split
  · exact setCtx_owner _ _ _ rfl rfl
  split
  · exact setCtx_owner _ _ _ rfl rfl
  · rw [setCtx_owner _ _ _ (by rw [ctx_of_ctxs (copyPage_ctxs ..)]) (by rw [ctx_of_ctxs (copyPage_ctxs ..)]), ctrOwner_congr (copyPage_ctxs ..)]

theorem beforeWrite_owner (s : State) (slot vp k : Nat) : ((s.beforeWrite slot vp).ctrOwner k).isSome = (s.ctrOwner k).isSome := by
  have hundo : (((s.scratchHook slot vp).undoHook slot vp).ctrOwner k).isSome = (s.ctrOwner k).isSome := by
    rw [undoHook_owner, ctrOwner_congr (by simp : (s.scratchHook slot vp).ctxs = s.ctxs)]
  unfold State.beforeWrite
  dsimp only
  split
  · exact hundo
  · exact hundo

theorem writePages_owner (slot fuel va : Nat) (bs : List Byte) (s : State) (k : Nat) :
    ((State.writePages slot fuel va bs s).ctrOwner k).isSome = (s.ctrOwner k).isSome := by
  induction fuel generalizing va bs s with
  | zero => rfl
  | succ n ih =>
    rw [State.writePages]
    split
    · rfl
    dsimp only
    rw [ih]
    split
    · split
      · rw [ctrOwner_congr (State.tagViolation_same s slot).2.2.2.2.2.2.1]
      · rw [ctrOwner_congr (by simp : (State.writeFrames _ _ _ _).ctxs = (s.beforeWrite slot (vpage va)).ctxs), beforeWrite_owner]
    · rfl

theorem writeVA_owner (s : State) (slot va : Nat) (bs : List Byte) (k : Nat) :
    ((s.writeVA slot va bs).ctrOwner k).isSome = (s.ctrOwner k).isSome := writePages_owner ..

/-- What a raise of a context's counter does to the counters rests on them, on the owners and on the context's state and base. -/
theorem raiseRel_counters_owner {s t : State} {slot : Nat} (hst : (s.ctx slot).st = (t.ctx slot).st) (hdesc : (s.ctx slot).desc = (t.ctx slot).desc)
    (howner : ∀ k, (s.ctrOwner k).isSome = (t.ctrOwner k).isSome) (hcounters : s.counters = t.counters) (k n : Nat)
    (hloaded : (t.ctx slot).st ≠ .none) :
    (s.raiseRel slot k n).counters = (t.raiseCtr ((t.ctx slot).desc.ctrBase + k) n).counters := by
  rw [State.raiseRel, if_neg (by rw [hst]; exact hloaded), hdesc]
  refine raiseCtr_counters_owner ?_ (by simp [State.markOther, hcounters]) n
  rw [markOther_ctrOwner, howner]

theorem raiseRel_body (s : State) (slot k n : Nat) (j : Nat) : ((s.raiseRel slot k n).ctx j).body = (s.ctx j).body := by
  unfold State.raiseRel
  split
  · rw [ctx_logEv]
  · rw [ctx_of_ctxs (State.raiseCtr_same ..).2.2.2.2.2.2.1]
    exact setCtx_body (by rfl) j

theorem Machine.Ctx.body_colls {c d : Ctx} (h : c.body = d.body) : c.colls = d.colls ∧ c.folded = d.folded :=
  have field {β : Type} (f : Ctx → β) : f c.body = f d.body := by rw [h]
  ⟨field Ctx.colls, field Ctx.folded⟩

/-! The end of a collective -/

theorem collRecorded_row (slot : Nat) (k : Coll) (status : Nat) (s : State) :
    ((collRecorded slot k status s).ctx slot).colls = (s.ctx slot).colls.filter (fun q => decide (q.num ≠ k.num))
    ∧ ((collRecorded slot k status s).ctx slot).st = (s.ctx slot).st ∧ ((collRecorded slot k status s).ctx slot).desc = (s.ctx slot).desc
    ∧ (∀ j, ((collRecorded slot k status s).ctrOwner j).isSome = (s.ctrOwner j).isSome)
    ∧ (k.d.recEn = false → (collRecorded slot k status s).tiers = s.tiers) := by
  unfold collRecorded
  dsimp only
  have hrec : ∀ t : State, (t.ctx slot).body = (s.ctx slot).body → (∀ j, (t.ctrOwner j).isSome = (s.ctrOwner j).isSome) →
      let u := t.setCtx slot { t.ctx slot with colls := (t.ctx slot).colls.filter fun q => decide (q.num ≠ k.num) }
      (u.ctx slot).colls = (s.ctx slot).colls.filter (fun q => decide (q.num ≠ k.num)) ∧ (u.ctx slot).st = (s.ctx slot).st
        ∧ (u.ctx slot).desc = (s.ctx slot).desc ∧ (∀ j, (u.ctrOwner j).isSome = (s.ctrOwner j).isSome) := by
    intro t hbody howner u
    obtain ⟨hst, -, -, hdesc, -⟩ := Ctx.body_rows hbody
    rw [show u.ctx slot = _ from State.ctx_setCtx_self ..]
    exact ⟨by rw [(Ctx.body_colls hbody).1], hst, hdesc, fun j => (setCtx_owner t slot j (by rfl) (by rfl)).trans (howner j)⟩
  split
  next hen =>
    obtain ⟨h1, h2, h3, h4⟩ := hrec (s.writeVA slot k.d.recVa _) (writeVA_body ..) fun _ => writeVA_owner ..
    exact ⟨h1, h2, h3, h4, fun h => absurd (hen.symm.trans h) (by decide)⟩
  next =>
    obtain ⟨h1, h2, h3, h4⟩ := hrec s rfl fun _ => rfl
    exact ⟨h1, h2, h3, h4, fun _ => rfl⟩

/-- The state in which a collective that ends without fault raises its counter. -/
theorem collDone_eq (slot : Nat) (k : Coll) (status : Nat) (s : State) : ∃ t : State,
    collDone slot k status s = (if k.d.ctrEn then t.raiseRel slot k.d.doneCtr 1 else t)
    ∧ t.ctxs = (collRecorded slot k status s).ctxs ∧ t.tiers = (collRecorded slot k status s).tiers ∧ t.counters = s.counters
    ∧ t.col = (if status = 0 then { s.col with sent := satAdd Config.sat32 s.col.sent 1 }
      else { s.col with skipped := satAdd Config.sat32 s.col.skipped 1 }) :=
  ⟨_, rfl, rfl, rfl, by simp, by simp⟩

/-- A collective that ends without fault leaves the engine, counts, and raises its counter. -/
theorem collDone_row (slot : Nat) (k : Coll) (status : Nat) (s : State) :
    ((collDone slot k status s).ctx slot).colls = (s.ctx slot).colls.filter (fun q => decide (q.num ≠ k.num))
    ∧ (collDone slot k status s).col = (if status = 0 then { s.col with sent := satAdd Config.sat32 s.col.sent 1 }
      else { s.col with skipped := satAdd Config.sat32 s.col.skipped 1 })
    ∧ (k.d.recEn = false → (collDone slot k status s).tiers = s.tiers) ∧ (k.d.ctrEn = false → (collDone slot k status s).counters = s.counters)
    ∧ (k.d.ctrEn = true → (s.ctx slot).st ≠ .none →
      (collDone slot k status s).counters = (s.raiseCtr ((s.ctx slot).desc.ctrBase + k.d.doneCtr) 1).counters) := by
  obtain ⟨hcolls, hst, hdesc, howner, htiers⟩ := collRecorded_row slot k status s
  obtain ⟨t, hdone, hctxs, hmem, hcounters, hcol⟩ := collDone_eq slot k status s
  rw [hdone]
  rw [← ctx_of_ctxs hctxs] at hcolls hst hdesc
  split
  next hen =>
    refine ⟨(Ctx.body_colls (raiseRel_body ..)).1.trans hcolls, by simp [hcol], fun h => ?_, fun h => absurd (hen.symm.trans h) (by decide),
      fun _ hloaded => ?_⟩
    · simp [hmem, htiers h]
    · exact raiseRel_counters_owner hst hdesc (fun j => by rw [ctrOwner_congr hctxs, howner]) hcounters _ _ hloaded
  next hen => exact ⟨hcolls, hcol, fun h => hmem.trans (htiers h), fun _ => hcounters, fun h => absurd h hen⟩

theorem find_num {l : List Coll} {p : Coll → Bool} {k : Coll} (h : l.find? p = some k) : ∃ q, l.find? (fun q => decide (q.num = k.num)) = some q := by
  cases hq : l.find? (fun q => decide (q.num = k.num)) with
  | some q => exact ⟨q, rfl⟩
  | none => exact absurd (List.find?_eq_none.mp hq k (List.mem_of_find?_eq_some h)) (by simp)

/-- A collective whose link went down flags it, and its context runs no more (R281). -/
theorem collFail_linkDown {slot : Nat} {k : Coll} {s : State} {p : Coll → Bool} (h : (s.ctx slot).colls.find? p = some k) :
    (collFail slot k.num collLinkDown s).col.err.getLsbD 3 = true ∧ ((collFail slot k.num collLinkDown s).ctx slot).st ≠ .running
    ∧ (collFail slot k.num collLinkDown s).counters = s.counters := by
  obtain ⟨q, hq⟩ := find_num h
  have hcoll : s.collOf slot k.num = some q := hq
  have hfail : collFail slot k.num collLinkDown s
      = faultWhole slot 0x309 "COLLECTIVE" ((collRecorded slot q collLinkDown s).errCol 3 slot) := by
    rw [collFail, hcoll]
    rfl
  rw [hfail]
  generalize ht : (collRecorded slot q collLinkDown s).errCol 3 slot = t
  have hbit : t.col.err.getLsbD 3 = true := by rw [← ht]; exact (errCol_row _ (by decide) _).1
  refine ⟨by simp [hbit], ?_, by simp [← ht]⟩
  by_cases hnone : (t.ctx slot).st = .none
  · rw [faultWhole, if_pos (.inl hnone), hnone]
    decide
  · rw [(faultWhole_self hnone).1]
    decide

/-! Starting -/

theorem copyTile_body (slot : Nat) (d : CollDesc) (s : State) (tile j : Nat) : ((copyTile slot d s tile).ctx j).body = (s.ctx j).body := by
  unfold copyTile
  dsimp only
  rw [writeVA_body, ctx_of_ctxs (State.readVA_same ..).2.2.2.2.2.2.1]

theorem setColl_colls (s : State) (slot : Nat) (k : Coll) :
    ((s.setColl slot k).ctx slot).colls = (s.ctx slot).colls.map fun q => if q.num = k.num then k else q := by
  rw [State.setColl, State.ctx_setCtx_self]

theorem touch_body (s : State) (slot j : Nat) : ((s.touch slot).ctx j).body = (s.ctx j).body := by
  unfold State.touch
  dsimp only
  split
  · rfl
  · exact setCtx_body (by rfl) j

/-- Settles O29: the branches of `collStart`. -/
theorem collectiveStarts : Obligations.CollectiveStarts := by
  intro s slot k c fold run hk
  have hexec : exec (.collStart slot) s = .next (s.close (collStart slot.val s)) := rfl
  refine ⟨fun hdown => ?_, fun hup hgood hst hopen hmet hfew => ⟨fun hno hop => ?_, fun hno hop => ?_, fun hsends => ?_⟩⟩
  · have hrow : collStart slot.val s = collFail slot.val k.num collLinkDown s := by
      unfold collStart
      dsimp only
      rw [show (s.ctx slot.val).colls.find? _ = some k from hk]
      exact if_pos hdown
    exact ⟨_, hexec, hrow, by rw [hrow]; exact collFail_linkDown hk⟩
  all_goals
    have hrow : collStart slot.val s = (if !c.sends k.d then collDone slot.val k collSkipped
          (if k.d.op = 2 then (List.range k.d.tiles).foldl (copyTile slot.val k.d) s else s)
        else
          let s1 := (s.setColl slot.val run).touch slot.val
          let s2 := s1.setCtx slot.val { s1.ctx slot.val with folded := c.folded || fold }
          takeEarly slot.val k.num (if k.d.op = 2 then sendGather slot.val run s2 else advance slot.val k.num s2)) := by
      unfold collStart
      dsimp only
      rw [show (s.ctx slot.val).colls.find? _ = some k from hk]
      dsimp only
      rw [if_neg (by rw [hup]; decide), if_neg (by rw [hgood]; decide), if_neg]
      simp only [hopen, hmet, Bool.not_true, Bool.or_false, Bool.or_eq_true, decide_eq_true_eq, not_or, not_le]
      exact ⟨hst, hfew⟩
  · rw [hno, if_pos (by decide), if_neg hop] at hrow
    obtain ⟨hcolls, hcol, htiers, hsame, hraised⟩ := collDone_row slot.val k collSkipped s
    rw [if_neg (by decide)] at hcol
    exact ⟨_, hexec, hrow ▸ hcolls, by rw [hrow, hcol], by rw [hrow, hcol], hrow ▸ htiers, hrow ▸ hsame, hrow ▸ hraised⟩
  · rw [hno, if_pos (by decide), if_pos hop] at hrow
    refine ⟨_, hexec, hrow, ?_⟩
    rw [hrow, (collDone_row ..).1, (Ctx.body_colls (foldl_body (fun u b j => copyTile_body slot.val k.d u b j) _ s slot.val)).1]
  · rw [hsends, if_neg (by decide)] at hrow
    refine ⟨_, ((s.setColl slot.val run).touch slot.val).setCtx slot.val
      { ((s.setColl slot.val run).touch slot.val).ctx slot.val with folded := c.folded || fold }, hexec, by simp, by simp, by simp, ?_, ?_,
      fun hop => ?_, fun hop => ?_⟩
    · rw [State.ctx_setCtx_self, (Ctx.body_colls (touch_body ..)).1]
      exact setColl_colls s slot.val run
    · rw [State.ctx_setCtx_self]
    · rw [hrow]
      dsimp only
      rw [if_pos hop]
    · rw [hrow]
      dsimp only
      rw [if_neg hop]

end Sys2Proof
end

section
/-! Queue entries and the connections that carry them: what a message sent, an entry completed and the end of an answer leave of the
other connections, the windows and the queues (08 R248, R251, R256, R257). -/

namespace Sys2Proof

open Sys2Proof.Machine

theorem conn_of_dwt {s u : State} (h : u.dwt = s.dwt) (d : Nat) : u.conn d = s.conn d := by rw [State.conn, h, State.conn]

theorem win_of_dwt {s u : State} (h : u.dwt = s.dwt) (w : Nat) : u.win w = s.win w := by rw [State.win, h, State.win]

/-! Messages sent -/

@[simp] theorem sendSealed_dwt (s : State) (cn txn key : Nat) (h : Hdr) (size : Nat) (p : Payload) :
    (s.sendSealed cn txn key h size p).dwt = s.dwt := by simp

/-- A message sent under the connection key takes the connection's next TXN and changes nothing else of the engine. -/
theorem sendNext_dwt (s : State) (cn : Nat) (h : Hdr) (size : Nat) (p : Payload) :
    (s.sendNext cn h size p).dwt = (s.setConn cn { s.conn cn with txn := (s.conn cn).txn + 1 }).dwt := by
  unfold State.sendNext
  exact sendSealed_dwt ..

theorem sendMsg_conn (s : State) (cn : Nat) (h : Hdr) (bs : List Byte) :
    (s.sendMsg cn h bs).conn cn = { s.conn cn with txn := (s.conn cn).txn + 1 } := by
  rw [State.sendMsg, conn_of_dwt (sendNext_dwt ..), State.conn_setConn_self]

/-! What a command on one connection leaves -/

/-- What a command on connection `cn` leaves: the other connections, the windows, the number of retransmissions, the
entries that wait, and of the started entries no
others than before. -/
structure Machine.OnConn (cn : Nat) (s u : State) : Prop where
  others : ∀ d, d ≠ cn → u.conn d = s.conn d
  wins : u.dwt.wins = s.dwt.wins
  retransmits : u.dwt.retransmits = s.dwt.retransmits
  entries : ∀ q, (u.queue q).entries = (s.queue q).entries
  started : ∀ q, (u.queue q).started ⊆ (s.queue q).started

theorem Machine.OnConn.of_dwt {cn : Nat} {s u : State} (h : u.dwt = s.dwt) : OnConn cn s u where
  others d _ := conn_of_dwt h d
  wins := by rw [h]
  retransmits := by rw [h]
  entries q := by rw [queue_of_dwt h]
  started q := by rw [queue_of_dwt h]; exact List.Subset.refl _

theorem Machine.OnConn.refl (cn : Nat) (s : State) : OnConn cn s s := .of_dwt rfl

theorem Machine.OnConn.trans {cn : Nat} {s t u : State} (h1 : OnConn cn s t) (h2 : OnConn cn t u) : OnConn cn s u where
  others d hd := (h2.others d hd).trans (h1.others d hd)
  wins := h2.wins.trans h1.wins
  retransmits := h2.retransmits.trans h1.retransmits
  entries q := (h2.entries q).trans (h1.entries q)
  started q := List.Subset.trans (h2.started q) (h1.started q)

theorem Machine.OnConn.foldl {β : Type} {cn : Nat} {f : State → β → State} (hf : ∀ u b, OnConn cn u (f u b)) (l : List β) (s : State) :
    OnConn cn s (l.foldl f s) := by
  induction l generalizing s with
  | nil => exact .refl cn s
  | cons b l ih => exact (hf s b).trans (ih _)

theorem Machine.OnConn.setConn (s : State) (cn : Nat) (c : DwtConn) : OnConn cn s (s.setConn cn c) where
  others _ hd := State.conn_setConn_ne _ _ hd
  wins := rfl
  retransmits := rfl
  entries _ := rfl
  started _ := List.Subset.refl _

theorem Machine.OnConn.sendMsg (s : State) (cn : Nat) (h : Hdr) (bs : List Byte) : OnConn cn s (s.sendMsg cn h bs) :=
  (OnConn.setConn s cn _).trans (.of_dwt (sendNext_dwt ..))

/-! An entry that completes -/

theorem dwtComplete_conn (s : State) (q num status bytes d : Nat) : (s.dwtComplete q num status bytes).conn d = s.conn d := by
  unfold State.dwtComplete
  dsimp only
  split
  · rfl
  · rw [conn_of_dwt (State.report_same ..).2.2.2.2.2.2.2.1]
    rfl

theorem dwtComplete_wins (s : State) (q num status bytes : Nat) : (s.dwtComplete q num status bytes).dwt.wins = s.dwt.wins := by
  unfold State.dwtComplete
  dsimp only
  split
  · rfl
  · rw [(State.report_same ..).2.2.2.2.2.2.2.1]
    rfl

theorem dwtComplete_retransmits (s : State) (q num status bytes : Nat) :
    (s.dwtComplete q num status bytes).dwt.retransmits = s.dwt.retransmits := by
  unfold State.dwtComplete
  dsimp only
  split
  · rfl
  · rw [(State.report_same ..).2.2.2.2.2.2.2.1]
    rfl

theorem dwtComplete_win (s : State) (q num status bytes w : Nat) : (s.dwtComplete q num status bytes).win w = s.win w := by
  rw [State.win, dwtComplete_wins, State.win]

/-- A completed entry leaves the started entries of its queue. -/
theorem dwtComplete_queue (s : State) (q num status bytes : Nat) :
    (s.dwtComplete q num status bytes).queue q = { s.queue q with started := (s.queue q).started.filter fun x => decide (x.num ≠ num) } := by
  unfold State.dwtComplete
  dsimp only
  split
  next h =>
    have hall : (s.queue q).started.filter (fun x => decide (x.num ≠ num)) = (s.queue q).started :=
      List.filter_eq_self.mpr fun x hx => by simpa using List.find?_eq_none.mp h x hx
    rw [hall]
  next =>
    rw [queue_of_dwt (State.report_same ..).2.2.2.2.2.2.2.1, State.queue_setQueue_self]

theorem dwtComplete_queue_ne (s : State) {q j : Nat} (num status bytes : Nat) (h : j ≠ q) :
    (s.dwtComplete q num status bytes).queue j = s.queue j := by
  unfold State.dwtComplete
  dsimp only
  split
  · rfl
  · rw [queue_of_dwt (State.report_same ..).2.2.2.2.2.2.2.1, State.queue_setQueue_ne _ _ h]

/-- A completed entry no longer runs. -/
theorem dwtComplete_started (s : State) (q num status bytes : Nat) :
    ∀ x ∈ ((s.dwtComplete q num status bytes).queue q).started, x.num ≠ num := by
  intro x hx
  rw [dwtComplete_queue] at hx
  simpa using (List.mem_filter.mp hx).2

theorem Machine.OnConn.dwtComplete (cn : Nat) (s : State) (q num status bytes : Nat) : OnConn cn s (s.dwtComplete q num status bytes) where
  others d _ := dwtComplete_conn ..
  wins := dwtComplete_wins ..
  retransmits := dwtComplete_retransmits ..
  entries j := by
    by_cases hj : j = q
    · rw [hj, dwtComplete_queue]
    · rw [dwtComplete_queue_ne s num status bytes hj]
  started j := by
    by_cases hj : j = q
    · rw [hj, dwtComplete_queue]
      exact fun x hx => (List.mem_filter.mp hx).1
    · rw [dwtComplete_queue_ne s num status bytes hj]
      exact List.Subset.refl _

/-! The end of an answer -/

theorem Machine.OnConn.finishOps (cn : Nat) (s : State) : OnConn cn s (finishOps cn s) := by
  have hdone (l : List DwtOp) (t : State) : OnConn cn t (l.foldl (fun u o => u.dwtComplete o.queue o.ent o.status o.landed) t) :=
    .foldl (fun u _ => .dwtComplete cn u ..) l t
  unfold Machine.finishOps
  dsimp only
  split
  · exact ((OnConn.setConn s cn _).trans (hdone _ _)).trans (.of_dwt (State.setCtx_same ..).2.2.2.2.2.2.2.2.2.2.2.2.1)
  · exact (OnConn.setConn s cn _).trans (hdone _ _)

theorem Machine.OnConn.sendSeg (s : State) (cn : Nat) (o : DwtOp) (g : Seg) : OnConn cn s (s.sendSeg cn o g) := by
  have hread (slot va n : Nat) : OnConn cn s (s.readVA slot va n).s := .of_dwt (State.readVA_same ..).2.2.2.2.2.2.2.2.2.1
  unfold State.sendSeg
  dsimp only
  split
  · split
    · exact (hread ..).trans (.setConn ..)
    · exact ((hread ..).trans (.setConn ..)).trans (.sendMsg ..)
  · exact (OnConn.setConn ..).trans (.sendMsg ..)

theorem Machine.OnConn.dwtSend (cn fuel : Nat) (s : State) : OnConn cn s (State.dwtSend cn fuel s) := by
  induction fuel generalizing s with
  | zero => exact .refl cn s
  | succ n ih =>
    rw [State.dwtSend]
    dsimp only
    split
    · exact .refl cn s
    · split
      · exact .refl cn s
      · exact (OnConn.sendSeg ..).trans (ih _)

theorem Machine.OnConn.closeConn (cn : Nat) (s : State) : OnConn cn s (closeConn cn s) := by
  unfold Machine.closeConn
  dsimp only
  split
  · exact .refl cn s
  · split
    · exact .refl cn s
    · exact ((((OnConn.sendMsg ..).trans (.sendMsg ..)).trans (.sendMsg ..)).trans (.setConn ..)).trans (.dwtComplete ..)

theorem Machine.OnConn.sendOpen (cn : Nat) (s : State) : OnConn cn s (sendOpen cn s) := .of_dwt (by simp)

/-- A handshake draws a random value for the connection, and forgets the peer's. -/
theorem shake_dwt (cn : Nat) (s : State) : (shake cn s).dwt = (s.setConn cn { s.conn cn with
    r := Config.freeWord s.fresh ++ Config.freeWord (s.fresh + 1), peerR := none, shaking := true }).dwt := by
  unfold Machine.shake
  dsimp only
  rw [(sendOpen_same ..).2.2.2.2.2.2.2.2.2.2.2.2.1]
  rfl

theorem Machine.OnConn.shake (cn : Nat) (s : State) : OnConn cn s (shake cn s) := (OnConn.setConn s cn _).trans (.of_dwt (shake_dwt cn s))

theorem Machine.OnConn.maybeShake (cn : Nat) (s : State) : OnConn cn s (maybeShake cn s) := by
  unfold Machine.maybeShake
  dsimp only
  split
  · exact .shake cn s
  · exact .refl cn s

theorem Machine.OnConn.afterAnswer (cn : Nat) (s : State) : OnConn cn s (afterAnswer cn s) :=
  ((((OnConn.finishOps cn s).trans (.dwtSend ..)).trans (.finishOps ..)).trans (.closeConn ..)).trans (.maybeShake ..)

theorem Machine.OnConn.failOps (cn status : Nat) (s : State) : OnConn cn s (failOps cn status s) :=
  (OnConn.setConn s cn _).trans (.foldl (fun u _ => .dwtComplete cn u ..) _ _)

/-! An entry that starts -/

/-- The state in which the front entry of a queue has started. -/
def begunAt (q : Nat) (t : Started) (s : State) : State :=
  (s.setQueue q { s.queue q with entries := (s.queue q).entries.tail, started := (s.queue q).started ++ [t] }).touch t.slot

theorem begunAt_conn (q : Nat) (t : Started) (s : State) (d : Nat) : (begunAt q t s).conn d = s.conn d :=
  conn_of_dwt (State.touch_same ..).2.2.2.2.2.2.2.2.2.2.2.2.1 d

theorem begunAt_win (q : Nat) (t : Started) (s : State) (w : Nat) : (begunAt q t s).win w = s.win w :=
  win_of_dwt (State.touch_same ..).2.2.2.2.2.2.2.2.2.2.2.2.1 w

theorem begunAt_queue (q : Nat) (t : Started) (s : State) : (begunAt q t s).queue q
    = { s.queue q with entries := (s.queue q).entries.tail, started := (s.queue q).started ++ [t] } := by
  rw [begunAt, queue_of_dwt (State.touch_same ..).2.2.2.2.2.2.2.2.2.2.2.2.1, State.queue_setQueue_self]

theorem begunAt_same (q : Nat) (t : Started) (s : State) : (begunAt q t s).tiers = s.tiers ∧ (begunAt q t s).counters = s.counters
    ∧ (begunAt q t s).sec = s.sec ∧ (begunAt q t s).fuse = s.fuse ∧ (begunAt q t s).nets = s.nets ∧ (begunAt q t s).pages = s.pages := by
  simp [begunAt]

theorem begunAt_body (q : Nat) (t : Started) (s : State) (j : Nat) : ((begunAt q t s).ctx j).body = (s.ctx j).body :=
  touch_body _ _ j

theorem touch_owner (s : State) (slot k : Nat) : ((s.touch slot).ctrOwner k).isSome = (s.ctrOwner k).isSome := by
  unfold State.touch
  dsimp only
  split
  · rfl
  · exact setCtx_owner _ _ _ rfl rfl

theorem begunAt_owner (q : Nat) (t : Started) (s : State) (k : Nat) : ((begunAt q t s).ctrOwner k).isSome = (s.ctrOwner k).isSome := by
  rw [begunAt, touch_owner]
  rfl

/-- The front entry starts where its operation is the command's. -/
theorem startEntry_run {q op : Nat} {run : Started → State → Option State} {s u : State} {t : Started} (h : s.startable q = some t)
    (hknown : opKnown op = true) (hop : t.e.op = op) (hrun : run t (begunAt q t s) = some u) : startEntry q op run s = u := by
  unfold startEntry
  rw [h]
  dsimp only
  rw [hop, if_neg (by rw [hknown]; decide), if_neg (by simp), show run t (State.touch _ _) = some u from hrun]

end Sys2Proof
end

section
/-! Windows opened and revoked (08 R245, R246, R263). -/

namespace Sys2Proof

open Sys2Proof.Machine

theorem firstOf_append {l m : List (Bool × Nat)} (h : firstOf l = none) : firstOf (l ++ m) = firstOf m := by
  induction l with
  | nil => rfl
  | cons p l ih =>
    obtain ⟨b, k⟩ := p
    rw [firstOf] at h
    split at h
    · cases h
    next hb =>
      rw [List.cons_append, firstOf, if_neg hb]
      exact ih h

theorem begunAt_encl (q : Nat) (t : Started) (s : State) (j : Nat) : (begunAt q t s).enclOfSlot j = s.enclOfSlot j
    ∧ (begunAt q t s).entry = s.entry := by
  unfold begunAt State.touch
  dsimp only
  split <;> exact ⟨rfl, rfl⟩

/-- The window that WIN_OPEN opens: its generation is the next one, never 0 (R245). -/
def openedWin (t : Started) (en : EnclEntry) (d : DwtWin) : DwtWin :=
  { st := .open_, gen := if d.gen = 0xFFFF then 1 else d.gen + 1, ctx := t.slot, base := t.e.localVa, size := t.e.length
    perm := BitVec.ofNat 3 t.e.extra
    bind := if bit t.e.extra 32 then some (en.connBase + bits t.e.extra 46 33) else none
    notify := if bit t.e.extra 3 then some (bits t.e.extra 31 16) else none }

theorem openedWin_gen (t : Started) (en : EnclEntry) (d : DwtWin) : (openedWin t en d).gen ≠ 0 := by
  unfold openedWin
  dsimp only
  split <;> omega

theorem winOpen_row {q : Nat} {t : Started} {s : State} {en : EnclEntry} (hen : s.entry ((s.enclOfSlot t.slot).getD 0) = en)
    (hcommon : firstOf (t.e.common s t.slot) = none) (hrange : t.e.window < en.winCount) (hst : (s.win (en.winBase + t.e.window)).st = .closed)
    (hbind : bit t.e.extra 32 = true → (s.connOf t.slot (bits t.e.extra 46 33)).isSome = true) (hsize : 0 < t.e.length)
    (hva : t.e.localVa % 64 = 0) (hlen : t.e.length % 64 = 0) (hok : s.winRangeOk t.slot t.e.localVa t.e.length = true)
    (hadd : bit t.e.extra 2 = true → s.inPackage t.slot t.e.localVa t.e.length = true) (hmap : s.mapped t.slot t.e.roffset 32 = true)
    (hview : s.touchesView t.slot t.e.roffset 32 = false) :
    let w := en.winBase + t.e.window
    let d := openedWin t en (s.win w)
    winOpen q t s = ((s.setWin w d).writeVA t.slot t.e.roffset (s.handle w d)).dwtComplete q t.num 0 0 := by
  intro w d
  have hbound : (bit t.e.extra 32 && (s.connOf t.slot (bits t.e.extra 46 33)).isNone) = false := by
    cases hb : bit t.e.extra 32 with
    | false => rfl
    | true => simpa [Option.isNone_iff_eq_none, Option.isSome_iff_ne_none] using hbind hb
  have hadder : (bit t.e.extra 2 && !s.inPackage t.slot t.e.localVa t.e.length) = false := by
    cases hb : bit t.e.extra 2 with
    | false => rfl
    | true => rw [hadd hb]; rfl
  unfold winOpen
  dsimp only
  rw [hen, firstOf_append hcommon, hbound, hadder, hok, hmap, hview, hst, hva, hlen, decide_eq_false (Nat.not_le.mpr hrange),
    decide_eq_false (Nat.pos_iff_ne_zero.mp hsize)]
  rfl

theorem winRevoke_row {q : Nat} {t : Started} {s : State} {en : EnclEntry} (hen : s.entry ((s.enclOfSlot t.slot).getD 0) = en)
    (hcommon : firstOf (t.e.common s t.slot) = none) (hrange : t.e.window < en.winCount) (hst : (s.win (en.winBase + t.e.window)).st = .open_) :
    let w := en.winBase + t.e.window
    winRevoke q t s = s.setWin w { s.win w with st := .closing, revoked := true, revoker := some (q, t.num), refused := 0 } := by
  intro w
  unfold winRevoke
  dsimp only
  rw [hen, firstOf_append hcommon, hst, decide_eq_false (Nat.not_le.mpr hrange)]
  rfl

theorem writeVA_dwt (s : State) (slot va : Nat) (bs : List Byte) : (s.writeVA slot va bs).dwt = s.dwt :=
  (State.writeVA_same ..).2.2.2.2.2.2.2.2.1

/-- Settles O21: the rows of WIN_OPEN and WIN_REVOKE, and the end of a revocation. -/
theorem windowRowsComplete : Obligations.WindowRowsComplete := by
  refine ⟨?_, fun s w q num hst hrevoker => ?_⟩
  · intro s q t hstart k s1 en w x hcommon hrange
    have hen : s1.entry ((s1.enclOfSlot t.slot).getD 0) = en := by
      obtain ⟨hencl, hentry⟩ := begunAt_encl q.val t s t.slot
      rw [show s1 = begunAt q.val t s from rfl, hencl, hentry]
    have hwin : ∀ v, s1.win v = s.win v := begunAt_win q.val t s
    refine ⟨fun hop hclosed hbind hsize hva hlen hok hadd hmap hview => ?_, fun hop hopen => ?_⟩
    · have hrow := winOpen_row (q := q.val) hen hcommon hrange ((congrArg DwtWin.st (hwin w)).trans hclosed) hbind hsize hva hlen hok hadd hmap hview
      dsimp only at hrow
      rw [show s1.win (en.winBase + t.e.window) = s.win w from hwin w] at hrow
      have hrun : startEntry q.val 0x10 (fun t u => some (winOpen q.val t u)) s = _ :=
        startEntry_run hstart (by decide) hop (congrArg some hrow)
      generalize hu : State.dwtComplete _ q.val t.num 0 0 = u at hrun
      have hself : u.win w = openedWin t en (s.win w) := by
        rw [← hu, dwtComplete_win, win_of_dwt (writeVA_dwt ..), State.win_setWin_self]
      refine ⟨u, congrArg (fun u => Host.Outcome.next (s.close u)) hrun, ?_⟩
      rw [hself]
      refine ⟨rfl, rfl, openedWin_gen t en _, rfl, rfl, rfl, rfl, rfl, rfl, hu.symm, fun v hv => ?_⟩
      rw [← hu, dwtComplete_win, win_of_dwt (writeVA_dwt ..), State.win_setWin_ne _ _ hv]
      exact hwin v
    · have hrow := winRevoke_row (q := q.val) hen hcommon hrange ((congrArg DwtWin.st (hwin w)).trans hopen)
      have hrun : startEntry q.val 0x11 (fun t u => some (winRevoke q.val t u)) s = _ :=
        startEntry_run hstart (by decide) hop (congrArg some hrow)
      refine ⟨_, congrArg (fun u => Host.Outcome.next (s.close u)) hrun, ?_, ?_, ?_, fun v hv => ?_⟩
      · rw [State.win_setWin_self, hwin]
      · exact congrArg DwtQueue.started (begunAt_queue q.val t s)
      · exact (begunAt_same q.val t s).1
      · rw [State.win_setWin_ne _ _ hv]
        exact hwin v
  · have hrow : revokeComplete w.val s
        = (s.setWin w.val { s.win w.val with st := .closed, revoker := none }).dwtComplete q num 0 (s.win w.val).refused := by
      unfold revokeComplete
      dsimp only
      rw [if_neg (by rw [hst]; decide), hrevoker]
    have hself : (revokeComplete w.val s).win w.val = { s.win w.val with st := .closed, revoker := none } := by
      rw [hrow, dwtComplete_win, State.win_setWin_self]
    refine ⟨_, rfl, by rw [hself], by rw [hself], by rw [hself], hrow, fun v hv => ?_⟩
    rw [hrow, dwtComplete_win, State.win_setWin_ne _ _ hv]

end Sys2Proof
end

section
/-! The life of a connection at its initiator (08 R240, R241, R243, R244, R259; 09 R281). -/

namespace Sys2Proof

open Sys2Proof.Machine

/-! Errors of the transport -/

theorem errDwt_row (s : State) {k : Nat} (hk : k < 4) (cn : Nat) : (s.errDwt k cn).dwt.err.getLsbD k = true
    ∧ (s.errDwt k cn).dwt = { s.dwt with err := (s.errDwt k cn).dwt.err } := by
  unfold State.errDwt
  split
  next h => exact ⟨h, rfl⟩
  next =>
    have hdwt : (State.logEv { s with dwt := { s.dwt with err := setBit s.dwt.err k } } { ev 2 0x04 k with detail := cn }).dwt
        = { s.dwt with err := setBit s.dwt.err k } := by simp
    rw [hdwt]
    exact ⟨setBit_self _ hk, rfl⟩

/-! The end of an answer, on its own connection -/

theorem foldl_complete_conn {β : Type} (q num status bytes : β → Nat) (l : List β) (s : State) (d : Nat) :
    (l.foldl (fun u o => u.dwtComplete (q o) (num o) (status o) (bytes o)) s).conn d = s.conn d :=
  foldl_keeps (fun u : State => u.conn d) _ l s fun u _ => dwtComplete_conn u _ _ _ _ d

theorem finishOps_conn (cn : Nat) (s : State) :
    (finishOps cn s).conn cn = { s.conn cn with ops := (s.conn cn).ops.filter fun o => !(s.conn cn).opDone o } := by
  unfold finishOps
  dsimp only
  split
  · rw [conn_of_dwt (State.setCtx_same ..).2.2.2.2.2.2.2.2.2.2.2.2.1, foldl_complete_conn, State.conn_setConn_self]
  · rw [foldl_complete_conn, State.conn_setConn_self]

theorem foldl_complete_started {l : List DwtOp} {o : DwtOp} (h : o ∈ l) (status : DwtOp → Nat) (s : State) :
    ∀ x ∈ ((l.foldl (fun u o => u.dwtComplete o.queue o.ent (status o) o.landed) s).queue o.queue).started, x.num ≠ o.ent := by
  obtain ⟨l1, l2, rfl⟩ := List.append_of_mem h
  rw [List.foldl_append, List.foldl_cons]
  intro x hx
  refine dwtComplete_started _ _ _ _ _ x ((OnConn.foldl (cn := 0) (fun u _ => .dwtComplete 0 u ..) l2 _).started _ hx)

theorem finishOps_started {cn : Nat} {s : State} {o : DwtOp} (ho : o ∈ (s.conn cn).ops) (hdone : (s.conn cn).opDone o = true) :
    ∀ x ∈ ((finishOps cn s).queue o.queue).started, x.num ≠ o.ent := by
  have hmem : o ∈ (s.conn cn).ops.filter (s.conn cn).opDone := List.mem_filter.mpr ⟨ho, hdone⟩
  unfold finishOps
  dsimp only
  split
  · rw [State.queue_setCtx]
    exact foldl_complete_started hmem _ _
  · exact foldl_complete_started hmem _ _

theorem dwtSend_nothing {cn : Nat} {s : State} (h : (s.conn cn).ops = []) (fuel : Nat) : State.dwtSend cn fuel s = s := by
  cases fuel with
  | zero => rfl
  | succ n =>
    rw [State.dwtSend]
    dsimp only
    rw [h]
    rfl

theorem closeConn_open {cn : Nat} {s : State} (h : (s.conn cn).closer = none) : closeConn cn s = s := by
  unfold closeConn
  dsimp only
  rw [h]

theorem shake_conn (cn : Nat) (s : State) : (shake cn s).conn cn
    = { s.conn cn with r := Config.freeWord s.fresh ++ Config.freeWord (s.fresh + 1), peerR := none, shaking := true } := by
  rw [conn_of_dwt (shake_dwt cn s), State.conn_setConn_self]

/-- A connection without what a handshake writes to it. -/
def Machine.DwtConn.sansShake (c : DwtConn) : DwtConn := { c with r := 0, peerR := none, shaking := false }

theorem maybeShake_sansShake (cn : Nat) (s : State) : ((maybeShake cn s).conn cn).sansShake = (s.conn cn).sansShake := by
  unfold maybeShake
  dsimp only
  split
  · rw [shake_conn]
    rfl
  · rfl

theorem Machine.DwtConn.sansShake_rows {c d : DwtConn} (h : c.sansShake = d.sansShake) :
    c.st = d.st ∧ c.ops = d.ops ∧ c.segs = d.segs ∧ c.seq = d.seq ∧ c.txn = d.txn :=
  have field {β : Type} (f : DwtConn → β) : f c.sansShake = f d.sansShake := by rw [h]
  ⟨field DwtConn.st, field DwtConn.ops, field DwtConn.segs, field DwtConn.seq, field DwtConn.txn⟩

/-- The last operation of a connection ends with its answer: nothing is left on the connection, and its entry no longer runs. -/
theorem afterAnswer_last {cn : Nat} {s : State} {o : DwtOp} (hops : (s.conn cn).ops = [o]) (hsegs : (s.conn cn).segs = [])
    (hcloser : (s.conn cn).closer = none) (hdone : (s.conn cn).opDone o = true) :
    ((afterAnswer cn s).conn cn).ops = [] ∧ ((afterAnswer cn s).conn cn).segs = []
    ∧ ∀ x ∈ ((afterAnswer cn s).queue o.queue).started, x.num ≠ o.ent := by
  have hended : (finishOps cn s).conn cn = { s.conn cn with ops := [] } := by
    rw [finishOps_conn, hops]
    simp [hdone]
  have hagain : (finishOps cn (finishOps cn s)).conn cn = { s.conn cn with ops := [] } := by
    rw [finishOps_conn, hended]
    rfl
  have hrow : afterAnswer cn s = maybeShake cn (finishOps cn (finishOps cn s)) := by
    unfold afterAnswer
    rw [dwtSend_nothing (by rw [hended]), closeConn_open (by rw [hagain]; exact hcloser)]
  have hconn := maybeShake_sansShake cn (finishOps cn (finishOps cn s))
  rw [← hrow, hagain] at hconn
  obtain ⟨-, hnoops, hnosegs, -, -⟩ := DwtConn.sansShake_rows hconn
  refine ⟨hnoops, hnosegs.trans hsegs, fun x hx => ?_⟩
  rw [hrow] at hx
  exact finishOps_started (by rw [hops]; exact List.mem_singleton_self o) hdone x
    ((OnConn.finishOps cn _).started _ ((OnConn.maybeShake cn _).started _ hx))

/-! A connection that falls (R259, R281) -/

theorem failOps_conn (cn status : Nat) (s : State) : (failOps cn status s).conn cn
    = { s.conn cn with ops := [], segs := [], cq := [], csegs := [], notify := [] } := by
  unfold failOps
  dsimp only
  rw [foldl_complete_conn, State.conn_setConn_self]

theorem markFallen_conn (s : State) (cn d : Nat) : (s.markFallen cn).conn d = s.conn d := rfl

/-- A connection that is DOWN, with nothing left on it. -/
def Machine.DwtConn.fallen (c : DwtConn) : DwtConn :=
  { c with ops := [], segs := [], cq := [], csegs := [], notify := [], st := .down, shaking := false, opens := false }

theorem connFalls_row {cn : Nat} {s : State} (h : (s.conn cn).closer = none) : (connFalls cn s).conn cn = (s.conn cn).fallen
    ∧ (connFalls cn s).dwt.err.getLsbD 3 = true ∧ ∀ d, d ≠ cn → (connFalls cn s).conn d = s.conn d := by
  unfold connFalls
  dsimp only
  generalize hu : (State.setConn _ cn _) = u
  have hself : u.conn cn = (s.conn cn).fallen := by
    rw [← hu, State.conn_setConn_self, markFallen_conn, failOps_conn]
    rfl
  have hother : ∀ d, d ≠ cn → u.conn d = s.conn d := fun d hd => by
    rw [← hu, State.conn_setConn_ne _ _ hd, markFallen_conn, (OnConn.failOps cn connDown s).others d hd]
  obtain ⟨hbit, hdwt⟩ := errDwt_row u (k := 3) (by decide) cn
  have hconn : ∀ d, (u.errDwt 3 cn).conn d = u.conn d := fun d => by rw [State.conn, hdwt, State.conn]
  rw [closeConn_open (by rw [hconn, hself]; exact h)]
  exact ⟨(hconn cn).trans hself, hbit, fun d hd => (hconn d).trans (hother d hd)⟩

theorem logEv_ctxs (s : State) (e : LogEnt) : (s.logEv e).ctxs = s.ctxs := by simp

theorem faultWhole_colls (slot cause : Nat) (name : String) (s : State) (j : Nat) :
    ((faultWhole slot cause name s).ctx j).colls = (s.ctx j).colls := by
  unfold faultWhole
  dsimp only
  split
  · rfl
  · rw [ctx_logEv]
    by_cases hj : j = slot
    · rw [hj, State.ctx_setCtx_self]
    · rw [State.ctx_setCtx_ne _ _ hj]

/-- A collective that fails leaves the engine. -/
theorem collFail_colls (slot num status : Nat) (s : State) :
    ((collFail slot num status s).ctx slot).colls = (s.ctx slot).colls.filter fun q => decide (q.num ≠ num) := by
  unfold collFail
  split
  next h =>
    refine (List.filter_eq_self.mpr fun q hq => ?_).symm
    simpa using List.find?_eq_none.mp h q hq
  next k hk =>
    have hnum : k.num = num := by simpa using List.find?_some hk
    dsimp only
    rw [faultWhole_colls, ← hnum, ← (collRecorded_row slot k status s).1]
    refine congrArg Ctx.colls (ctx_of_ctxs ?_ slot)
    (repeat' split) <;> simp

theorem foldl_collFail_colls (slot status : Nat) (l : List Coll) (s : State) :
    ((l.foldl (fun u k => collFail slot k.num status u) s).ctx slot).colls
      = (s.ctx slot).colls.filter fun q => !l.any fun k => decide (q.num = k.num) := by
  induction l generalizing s with
  | nil => simp
  | cons k l ih =>
    rw [List.foldl_cons, ih, collFail_colls, List.filter_filter]
    refine List.filter_congr fun q _ => ?_
    simp [Bool.and_comm]

/-- A connection that fell leaves its context no collective. -/
theorem collsFall_colls (slot : Nat) (s : State) : ((collsFall slot s).ctx slot).colls = [] := by
  rw [collsFall, foldl_collFail_colls, List.filter_eq_nil_iff]
  intro q hq
  simp only [Bool.not_eq_true', Bool.not_eq_false, List.any_eq_true]
  exact ⟨q, hq, by simp⟩

/-! What the collective engine learns of a connection (R259, R281) -/

theorem collLose_dwt (slot : Nat) (s : State) (g : CollSeg) (d : Nat) :
    { (collLose slot s g).conn d with bits := [] } = { s.conn d with bits := [] } ∧ (collLose slot s g).dwt.err = s.dwt.err
    ∧ (collLose slot s g).dwt.retransmits = s.dwt.retransmits := by
  unfold collLose
  split
  next p _ =>
    dsimp only
    by_cases hd : d = p.1
    · rw [hd, State.conn_setConn_self]
      exact ⟨rfl, rfl, rfl⟩
    · rw [State.conn_setConn_ne _ _ hd]
      exact ⟨rfl, rfl, rfl⟩
  · split <;> exact ⟨rfl, rfl, rfl⟩
  · exact ⟨rfl, rfl, rfl⟩

theorem foldl_collLose_dwt (slot : Nat) (l : List CollSeg) (s : State) (d : Nat) :
    { (l.foldl (collLose slot) s).conn d with bits := [] } = { s.conn d with bits := [] }
    ∧ (l.foldl (collLose slot) s).dwt.err = s.dwt.err :=
  ⟨foldl_keeps (fun u : State => { u.conn d with bits := [] }) _ l s fun u g => (collLose_dwt slot u g d).1,
    foldl_keeps (fun u : State => u.dwt.err) _ l s fun u g => (collLose_dwt slot u g d).2.1⟩

theorem collWatch_other {cn : Nat} {s : State} (h : (s.conn cn).coll = false) (t : State) : collWatch cn s t = t := by
  unfold collWatch
  dsimp only
  rw [h]
  rfl

theorem CollSeg_same_self (a : CollSeg) (seq tries : Nat) : CollSeg.same a { a with seq := seq, tries := tries } = true := by
  simp [CollSeg.same]

/-- Where every message of the connection is still there and the connection has not fallen, the engine learns nothing. -/
theorem collWatch_kept {cn : Nat} {s t : State} (hst : (t.conn cn).st = (s.conn cn).st)
    (hkept : ∀ g ∈ (s.conn cn).cq ++ (s.conn cn).csegs, ((t.conn cn).cq ++ (t.conn cn).csegs).any g.same = true) : collWatch cn s t = t := by
  have hlost : ((s.conn cn).cq ++ (s.conn cn).csegs).filter (fun g => !((t.conn cn).cq ++ (t.conn cn).csegs).any g.same) = [] :=
    List.filter_eq_nil_iff.mpr fun g hg => by rw [hkept g hg]; decide
  unfold collWatch
  dsimp only
  rw [hlost, hst]
  split
  · rfl
  · exact if_neg fun h => h.2 h.1

/-- A connection that falls keeps its record, and the error that was raised; its context then has no collective (R281). -/
theorem collWatch_fallen (cn : Nat) (s t : State) :
    { (collWatch cn s t).conn cn with bits := [] } = { t.conn cn with bits := [] } ∧ (collWatch cn s t).dwt.err = t.dwt.err
    ∧ ((s.conn cn).coll = true → (t.conn cn).st = .down → (s.conn cn).st ≠ .down → ((collWatch cn s t).ctx (s.conn cn).ctx).colls = []) := by
  unfold collWatch
  dsimp only
  split
  next h => exact ⟨rfl, rfl, fun hc => absurd h (by rw [hc]; decide)⟩
  obtain ⟨hconn, herr⟩ := foldl_collLose_dwt (s.conn cn).ctx
    (((s.conn cn).cq ++ (s.conn cn).csegs).filter fun g => !((t.conn cn).cq ++ (t.conn cn).csegs).any g.same) t cn
  split
  · have hdwt := (collsFall_same (s.conn cn).ctx (((s.conn cn).cq ++ (s.conn cn).csegs).filter
      (fun g => !((t.conn cn).cq ++ (t.conn cn).csegs).any g.same) |>.foldl (collLose (s.conn cn).ctx) t)).2.2.2.2.2.2.2.2.1
    refine ⟨?_, ?_, fun _ _ _ => collsFall_colls _ _⟩
    · rw [conn_of_dwt hdwt]
      exact hconn
    · rw [hdwt]
      exact herr
  next h => exact ⟨hconn, herr, fun _ hdown hst => absurd ⟨hdown, hst⟩ h⟩

theorem Machine.DwtConn.sansBits_rows {c d : DwtConn} (h : { c with bits := [] } = { d with bits := [] }) :
    c.st = d.st ∧ c.ops = d.ops ∧ c.segs = d.segs ∧ c.notify = d.notify :=
  ⟨(congrArg DwtConn.st h :), (congrArg DwtConn.ops h :), (congrArg DwtConn.segs h :), (congrArg DwtConn.notify h :)⟩

end Sys2Proof
end

section
/-! Connections opened, closed, rekeyed and retransmitted (08 R240, R241, R243, R244, R259). -/

namespace Sys2Proof

open Sys2Proof.Machine

theorem begunAt_rest (q : Nat) (t : Started) (s : State) : (begunAt q t s).rcv = s.rcv ∧ (begunAt q t s).mgt = s.mgt ∧
    (begunAt q t s).openKeyOf = s.openKeyOf := by
  unfold begunAt State.touch
  dsimp only
  split <;> exact ⟨rfl, rfl, rfl⟩

/-! Opening and closing -/

/-- A connection that CONN_OPEN makes OPENING, in the state in which its random value is drawn. -/
def openingConn (q : Nat) (t : Started) (s u : State) (d : ConnDesc) : DwtConn :=
  { st := .opening, ctx := t.slot, encl := (s.enclOfSlot t.slot).getD 0, desc := d, opener := some (q, t.num)
    r := Config.freeWord u.fresh ++ Config.freeWord (u.fresh + 1), openKey := s.openKeyOf ((s.enclOfSlot t.slot).getD 0) }

theorem connOpen_row {q cn : Nat} {t : Started} {s : State} (hcommon : firstOf (t.e.common s t.slot) = none)
    (hconn : s.connOf t.slot t.e.conn = some cn) (hst : (s.conn cn).st = .closed) (hmap : s.mapped t.slot t.e.localVa 64 = true) :
    let m := s.readVA t.slot t.e.localVa 64
    m.bad = false → s.descBad ((s.enclOfSlot t.slot).getD 0) (readConnDesc m.bytes).1 (readConnDesc m.bytes).2 = false →
    connOpen q t s = sendOpen cn ((m.s.drawn 2).setConn cn (openingConn q t s m.s (readConnDesc m.bytes).1)) := by
  intro m hbad hdesc
  unfold connOpen
  dsimp only
  rw [firstOf_append hcommon, hconn, Option.getD_some, hst, hmap, show (s.readVA t.slot t.e.localVa 64).bad = false from hbad,
    show s.descBad ((s.enclOfSlot t.slot).getD 0) _ _ = false from hdesc]
  rfl

theorem connClose_row {q cn : Nat} {t : Started} {s : State} (hcommon : firstOf (t.e.common s t.slot) = none)
    (hconn : s.connOf t.slot t.e.conn = some cn) (hst : (s.conn cn).st = .open_ ∨ (s.conn cn).st = .rekeying ∨ (s.conn cn).st = .down)
    (hcloser : (s.conn cn).closer = none) :
    connClose q t s = closeConn cn (s.setConn cn { s.conn cn with closer := some (q, t.num) }) := by
  have hopen : (decide ((s.conn cn).st = .closed) || decide ((s.conn cn).st = .opening) || (s.conn cn).closer.isSome) = false := by
    rw [hcloser]
    rcases hst with h | h | h <;> rw [h] <;> rfl
  unfold connClose
  dsimp only
  rw [firstOf_append hcommon, hconn, Option.getD_some, hopen]
  rfl

/-- CONN_CLOSE with no operation in flight: the connection is gone, and its entry completes. -/
theorem closeConn_idle {q num cn : Nat} {s : State} (hcloser : (s.conn cn).closer = some (q, num)) (hops : (s.conn cn).ops = []) :
    (closeConn cn s).conn cn = {} ∧ ∀ x ∈ ((closeConn cn s).queue q).started, x.num ≠ num := by
  unfold closeConn
  dsimp only
  rw [hcloser, hops]
  dsimp only
  rw [if_neg (by decide)]
  exact ⟨by rw [dwtComplete_conn, State.conn_setConn_self], dwtComplete_started _ q num 0 0⟩

theorem closeConn_busy {q num cn : Nat} {s : State} (hcloser : (s.conn cn).closer = some (q, num)) (hops : (s.conn cn).ops ≠ []) :
    closeConn cn s = s := by
  unfold closeConn
  dsimp only
  rw [hcloser]
  exact if_pos (by simpa using hops)

/-! OPEN sent again -/

theorem txPush_txq (n : Nat) (t : TxFrame) (s : State) : ((txPush n t s).net n).txq = (s.net n).txq ++ [t] := by
  rw [txPush, State.net_setNet_self]

/-- A message sealed on a port that carries it waits in the port's queue. -/
theorem sendSealed_queued {s : State} {cn n : Nat} (h : s.pickPort (s.conn cn) = some n) (txn key : Nat) (hd : Hdr) (bs : List Byte) :
    queuedMsg s (s.sendSealed cn txn key hd bs.length (.bytes bs)) n cn txn key hd bs := by
  unfold State.sendSealed
  dsimp only
  rw [h]
  dsimp only
  unfold queuedMsg
  dsimp only
  rw [txPush_txq]
  exact List.mem_append_right _ (List.mem_singleton_self _)

theorem sendSealed_fresh (s : State) (cn txn key : Nat) (h : Hdr) (size : Nat) (p : Payload) :
    (s.sendSealed cn txn key h size p).fresh = s.fresh := by simp

/-! Retransmission -/

/-- A connection whose segment is sent once more. -/
def Machine.DwtConn.retried (c : DwtConn) (seq : Nat) : DwtConn :=
  { c with segs := c.segs.map fun h => if h.seq = seq then { h with tries := h.tries + 1 } else h }

/-- The state in which the retransmission is counted. -/
def retriedAt (cn seq : Nat) (s : State) : State := countRetransmit (s.setConn cn ((s.conn cn).retried seq))

theorem retriedAt_row (cn seq : Nat) (s : State) : (retriedAt cn seq s).conn cn = (s.conn cn).retried seq
    ∧ (retriedAt cn seq s).dwt.retransmits = satAdd Config.sat32 s.dwt.retransmits 1 ∧ (retriedAt cn seq s).counters = s.counters
    ∧ (retriedAt cn seq s).cores = s.cores :=
  ⟨State.conn_setConn_self .., rfl, rfl, rfl⟩

theorem sendMsg_retransmits (s : State) (cn : Nat) (h : Hdr) (bs : List Byte) : (s.sendMsg cn h bs).dwt.retransmits = s.dwt.retransmits := by
  rw [State.sendMsg, sendNext_dwt]
  rfl

theorem retransmit_row {cn seq : Nat} {g : Seg} {s : State} (hg : (s.conn cn).segs.find? (fun g => decide (g.seq = seq)) = some g)
    (htries : g.tries < 8) : retransmit cn seq s =
      if g.writes then
        match (s.conn cn).ops.find? fun o => decide (o.queue = g.queue) && decide (o.ent = g.ent) with
        | some o =>
          let m := (retriedAt cn seq s).readVA (s.conn cn).ctx (o.q.localVa + g.at_) g.length
          if m.bad then afterAnswer cn (m.s.setConn cn (((s.conn cn).answered seq).setOp (o.nakAt seq localPoisoned)))
          else m.s.sendMsg cn g.hdr m.bytes
        | none => retriedAt cn seq s
      else (retriedAt cn seq s).sendMsg cn g.hdr [] := by
  unfold retransmit
  dsimp only
  rw [hg]
  dsimp only
  rw [if_neg (Nat.not_le.mpr htries)]
  rfl

theorem retransmit_falls {cn seq : Nat} {g : Seg} {s : State} (hg : (s.conn cn).segs.find? (fun g => decide (g.seq = seq)) = some g)
    (htries : 8 ≤ g.tries) : retransmit cn seq s = connFalls cn s := by
  unfold retransmit
  dsimp only
  rw [hg]
  exact if_pos htries

/-- A segment that is sent again. -/
theorem retransmit_again {cn seq : Nat} {g : Seg} {s : State} (hg : (s.conn cn).segs.find? (fun g => decide (g.seq = seq)) = some g)
    (htries : g.tries < 8)
    (hgood : g.writes = true → ∀ o, ((s.conn cn).ops.find? fun o => decide (o.queue = g.queue) && decide (o.ent = g.ent)) = some o →
      ((retriedAt cn seq s).readVA (s.conn cn).ctx (o.q.localVa + g.at_) g.length).bad = false) :
    (∃ n, (retransmit cn seq s).conn cn = { (s.conn cn).retried seq with txn := n })
    ∧ (retransmit cn seq s).dwt.retransmits = satAdd Config.sat32 s.dwt.retransmits 1 ∧ (retransmit cn seq s).counters = s.counters
    ∧ (retransmit cn seq s).cores = s.cores := by
  obtain ⟨hconn, hcount, hcounters, hcores⟩ := retriedAt_row cn seq s
  rw [retransmit_row hg htries]
  split
  next hw =>
    split
    next o ho =>
      have hdwt : ∀ slot va n, ((retriedAt cn seq s).readVA slot va n).s.dwt = (retriedAt cn seq s).dwt := fun slot va n => by simp
      dsimp only
      rw [hgood hw o ho]
      refine ⟨⟨_, by rw [if_neg (by decide), sendMsg_conn, conn_of_dwt (hdwt ..), hconn]⟩, ?_, by simp [hcounters], by simp [hcores]⟩
      rw [if_neg (by decide), sendMsg_retransmits, hdwt, hcount]
    next => exact ⟨⟨_, hconn⟩, hcount, hcounters, hcores⟩
  next => exact ⟨⟨_, by rw [sendMsg_conn, hconn]⟩, by rw [sendMsg_retransmits, hcount], by simp [hcounters], by simp [hcores]⟩

theorem retransmitColl_row {cn seq : Nat} {h : CollSeg} {s : State} (hnone : ∀ g ∈ (s.conn cn).segs, g.seq ≠ seq)
    (hh : (s.conn cn).csegs.find? (fun g => decide (g.seq = seq)) = some h) : retransmit cn seq s =
      if 8 ≤ h.tries then connFalls cn s
      else (countRetransmit (s.setConn cn { s.conn cn with
        csegs := (s.conn cn).csegs.map fun h => if h.seq = seq then { h with tries := h.tries + 1 } else h })).sendNext cn
          { typ := h.typ, seq := seq, ref := seq, length := h.bytes, first := true, last := true } h.bytes (.coll h.msg) := by
  unfold retransmit
  dsimp only
  rw [List.find?_eq_none.mpr fun g hg => by simpa using hnone g hg]
  dsimp only
  unfold retransmitColl
  dsimp only
  rw [hh]

theorem connFalls_watched {cn : Nat} {s : State} (hcloser : (s.conn cn).closer = none) :
    let u := collWatch cn s (connFalls cn s)
    (u.conn cn).st = .down ∧ (u.conn cn).ops = [] ∧ (u.conn cn).segs = [] ∧ (u.conn cn).notify = [] ∧ u.dwt.err.getLsbD 3 = true
    ∧ ((s.conn cn).coll = false → ∀ d, d ≠ cn → u.conn d = s.conn d)
    ∧ ((s.conn cn).coll = true → (s.conn cn).st ≠ .down → (u.ctx (s.conn cn).ctx).colls = []) := by
  intro u
  obtain ⟨hself, hbit, hothers⟩ := connFalls_row hcloser
  obtain ⟨hkept, herr, hcolls⟩ := collWatch_fallen cn s (connFalls cn s)
  obtain ⟨hst, hops, hsegs, hnotify⟩ := DwtConn.sansBits_rows hkept
  rw [hself] at hst hops hsegs hnotify hcolls
  refine ⟨hst, hops, hsegs, hnotify, by rw [herr]; exact hbit, fun hcoll d hd => ?_, fun hcoll => hcolls hcoll rfl⟩
  rw [show u = connFalls cn s from collWatch_other hcoll _]
  exact hothers d hd

end Sys2Proof
end

section
/-! The life of a connection, settled (08 R240 to R244, R259). -/

namespace Sys2Proof

open Sys2Proof.Machine

/-- An entry that starts on a connection. -/
theorem connEntries_row (s : State) (q : QueueId) (t : Started) (hstart : s.startable q.val = some t) :
    let s1 := begunAt q.val t s
    let encl := (s.enclOfSlot t.slot).getD 0
    firstOf (t.e.common s1 t.slot) = none → ∀ cn, s1.connOf t.slot t.e.conn = some cn →
    (t.e.op = 0x30 → (s.conn cn).st = .closed → s1.mapped t.slot t.e.localVa 64 = true →
      let m := s1.readVA t.slot t.e.localVa 64
      m.bad = false → s1.descBad encl (readConnDesc m.bytes).1 (readConnDesc m.bytes).2 = false →
      ∃ u, exec (.connOpen q) s = .next (s.close u) ∧ (u.conn cn).st = .opening ∧ (u.conn cn).ctx = t.slot
        ∧ (u.conn cn).encl = encl ∧ (u.conn cn).desc = (readConnDesc m.bytes).1 ∧ (u.conn cn).opener = some (q.val, t.num)
        ∧ (u.conn cn).peerR = none ∧ (u.conn cn).r = Config.freeWord m.s.fresh ++ Config.freeWord (m.s.fresh + 1)
        ∧ (u.conn cn).openKey = s.openKeyOf encl ∧ (u.queue q.val).started = (s.queue q.val).started ++ [t]
        ∧ ∀ d, d ≠ cn → u.conn d = s.conn d)
    ∧ (t.e.op = 0x31 → ((s.conn cn).st = .open_ ∨ (s.conn cn).st = .rekeying ∨ (s.conn cn).st = .down) → (s.conn cn).closer = none →
      ∃ u, exec (.connClose q) s = .next (s.close u)
        ∧ ((s.conn cn).ops = [] → u.conn cn = {} ∧ (∀ x ∈ (u.queue q.val).started, x.num ≠ t.num))
        ∧ ((s.conn cn).ops ≠ [] → u.conn cn = { s.conn cn with closer := some (q.val, t.num) }
            ∧ (u.queue q.val).started = (s.queue q.val).started ++ [t])
        ∧ ∀ d, d ≠ cn → u.conn d = s.conn d) := by
  intro s1 encl hcommon cn hconn
  have hsame : ∀ d, s1.conn d = s.conn d := begunAt_conn q.val t s
  have hqueue : s1.queue q.val = { s.queue q.val with entries := (s.queue q.val).entries.tail, started := (s.queue q.val).started ++ [t] } :=
    begunAt_queue q.val t s
  have hencl : (s1.enclOfSlot t.slot).getD 0 = encl := by rw [(begunAt_encl q.val t s t.slot).1]
  refine ⟨?_, fun hop hst hcloser => ?_⟩
  · intro hop hst hmap m hbad hdesc
    have hrow := connOpen_row (q := q.val) hcommon hconn ((congrArg DwtConn.st (hsame cn)).trans hst) hmap
    rw [hencl] at hrow
    have hrun : startEntry q.val 0x30 (fun t u => some (connOpen q.val t u)) s = _ :=
      startEntry_run hstart (by decide) hop (congrArg some (hrow hbad hdesc))
    have hread : m.s.dwt = s1.dwt := (State.readVA_same ..).2.2.2.2.2.2.2.2.2.1
    have hsend : ∀ c : DwtConn, (sendOpen cn ((m.s.drawn 2).setConn cn c)).dwt = (s1.setConn cn c).dwt := fun c => by
      rw [(sendOpen_same ..).2.2.2.2.2.2.2.2.2.2.2.2.1, State.setConn, State.setConn, (State.drawn_same ..).2.2.2.2.2.2.2.2.2.2.2.2.1, hread]
    refine ⟨_, congrArg (fun u => Host.Outcome.next (s.close u)) hrun, ?_⟩
    rw [conn_of_dwt (hsend _), State.conn_setConn_self]
    refine ⟨rfl, rfl, hencl, rfl, rfl, rfl, rfl, ?_, ?_, fun d hd => ?_⟩
    · rw [openingConn, hencl]
      exact congrFun (begunAt_rest q.val t s).2.2 encl
    · rw [queue_of_dwt (hsend _), State.queue_setConn, hqueue]
    · rw [conn_of_dwt (hsend _), State.conn_setConn_ne _ _ hd, hsame]
  · have hrow := connClose_row (q := q.val) hcommon hconn (by rw [hsame]; exact hst) (by rw [hsame]; exact hcloser)
    rw [hsame] at hrow
    have hrun : startEntry q.val 0x31 (fun t u => some (connClose q.val t u)) s = _ :=
      startEntry_run hstart (by decide) hop (congrArg some hrow)
    generalize hv : s1.setConn cn { s.conn cn with closer := some (q.val, t.num) } = v at hrun
    have hself : v.conn cn = { s.conn cn with closer := some (q.val, t.num) } := by rw [← hv, State.conn_setConn_self]
    have hother : ∀ d, d ≠ cn → v.conn d = s.conn d := fun d hd => by rw [← hv, State.conn_setConn_ne _ _ hd, hsame]
    refine ⟨_, congrArg (fun u => Host.Outcome.next (s.close u)) hrun, fun hops => closeConn_idle (by rw [hself]) (by rw [hself, hops]),
      fun hops => ?_,
      fun d hd => ((OnConn.closeConn cn v).others d hd).trans (hother d hd)⟩
    rw [closeConn_busy (q := q.val) (num := t.num) (by rw [hself]) (by rw [hself]; exact hops)]
    refine ⟨hself, ?_⟩
    rw [← hv, State.queue_setConn, hqueue]

/-- The timers of a connection at its initiator. -/
theorem connTimers_row (s : State) (cn : ConnId) :
    let c := s.conn cn.val
    (((c.st = .opening ∨ (c.st = .rekeying ∧ c.shaking = true) ∨ (c.st = .open_ ∧ c.opens = true)) →
        ∃ u, exec (.openResend cn) s = .next u ∧ u = sendOpen cn.val s ∧ u.conn cn.val = c ∧ u.fresh = s.fresh + 1
          ∧ ∀ n, s.pickPort c = some n → queuedMsg s u n cn.val s.free.toNat c.openKey { typ := 7, length := 32 }
              (beBytes 16 c.r.toNat ++ beBytes 8 s.fuse.serial.toNat ++ leBytes 1 (b2n c.peerR.isSome) ++ leBytes 7 0))
    ∧ (∀ q num, c.st = .opening → c.opener = some (q, num) →
        ∃ u, exec (.connNoPeer cn) s = .next (s.close u) ∧ (u.conn cn.val).st = .closed ∧ (u.conn cn.val).opener = none
          ∧ u = (s.setConn cn.val { coll := c.coll, ctx := c.ctx, encl := c.encl, desc := c.desc }).dwtComplete q num 0x22 0
          ∧ ∀ d, d ≠ cn.val → u.conn d = s.conn d)
    ∧ (∀ o, c.ops.find? DwtOp.more = some o → c.st = .open_ → c.mustRekey o = true →
        ∃ u, exec (.rekey cn) s = .next u ∧ (u.conn cn.val).st = .rekeying ∧ (u.conn cn.val).ops = c.ops ∧ (u.conn cn.val).segs = c.segs
          ∧ (u.conn cn.val).shaking = (c.segs.isEmpty && c.csegs.isEmpty)
          ∧ ((u.conn cn.val).shaking = true → (u.conn cn.val).peerR = none)
          ∧ ∀ d, d ≠ cn.val → u.conn d = s.conn d)) := by
  intro c
  refine ⟨fun hst => ?_, fun q num hst hopener => ?_, fun o ho hst hmust => ?_⟩
  · have hrow : openResend cn.val s = sendOpen cn.val s := by
      unfold openResend
      exact if_pos hst
    refine ⟨_, congrArg Host.Outcome.next hrow, rfl, conn_of_dwt (by simp) _, ?_, fun n hn => ?_⟩
    · unfold sendOpen
      dsimp only
      rw [sendSealed_fresh]
      rfl
    · exact sendSealed_queued (s := s.drawn 1) hn ..
  · have hrow : connNoPeerEnd cn.val s
        = (s.setConn cn.val { coll := c.coll, ctx := c.ctx, encl := c.encl, desc := c.desc }).dwtComplete q num 0x22 0 := by
      unfold connNoPeerEnd
      dsimp only
      rw [if_neg (by rw [hst]; exact fun h => h rfl), hopener]
      rfl
    refine ⟨_, congrArg (fun u => Host.Outcome.next (s.close u)) hrow, ?_, ?_, rfl, fun d hd => ?_⟩
    · rw [dwtComplete_conn, State.conn_setConn_self]
    · rw [dwtComplete_conn, State.conn_setConn_self]
    · rw [dwtComplete_conn, State.conn_setConn_ne _ _ hd]
  · have hrow : rekey cn.val s = maybeShake cn.val (s.setConn cn.val { c with st := .rekeying, shaking := false }) := by
      unfold rekey
      dsimp only
      rw [show (s.conn cn.val).ops.find? DwtOp.more = some o from ho]
      refine if_pos ⟨hst, ?_⟩
      rw [Option.map_some, Option.getD_some, show (s.conn cn.val).mustRekey o = true from hmust]
      rfl
    have hconn := maybeShake_sansShake cn.val (s.setConn cn.val { c with st := .rekeying, shaking := false })
    rw [State.conn_setConn_self] at hconn
    obtain ⟨hrekeying, hops, hsegs, -, -⟩ := DwtConn.sansShake_rows hconn
    refine ⟨_, congrArg Host.Outcome.next hrow, hrekeying, hops, hsegs, ?_, ?_,
      fun d hd => ((OnConn.setConn s cn.val _).trans (.maybeShake cn.val _)).others d hd⟩
    all_goals
      unfold maybeShake
      dsimp only
      rw [State.conn_setConn_self]
      by_cases hidle : c.segs.isEmpty = true ∧ c.csegs.isEmpty = true
    · rw [if_pos ⟨rfl, hidle.1, hidle.2, rfl⟩, shake_conn, hidle.1, hidle.2]
      rfl
    · rw [if_neg fun h => hidle ⟨h.2.1, h.2.2.1⟩, State.conn_setConn_self]
      simpa using hidle
    · rw [if_pos ⟨rfl, hidle.1, hidle.2, rfl⟩, shake_conn]
      exact fun _ => rfl
    · rw [if_neg fun h => hidle ⟨h.2.1, h.2.2.1⟩, State.conn_setConn_self]
      exact fun h => absurd h Bool.false_ne_true

theorem retransmit_exec (cn : ConnId) (seq : W32) (s : State) :
    exec (.retransmit cn seq) s = .next (s.close (collWatch cn.val s (retransmit cn.val seq.toNat s))) := rfl

/-- An unanswered segment of an operation. -/
theorem retransmitSeg_row (s : State) (cn : ConnId) (seq : W32) (g : Seg) :
    let c := s.conn cn.val
    let s1 := retriedAt cn.val seq.toNat s
    let source := fun o : DwtOp => s1.readVA c.ctx (o.q.localVa + g.at_) g.length
    let op := c.ops.find? fun o => decide (o.queue = g.queue) && decide (o.ent = g.ent)
    c.segs.find? (fun g => decide (g.seq = seq.toNat)) = some g →
    (∀ o, c.coll = false → g.tries < 8 → g.writes = true → op = some o → (source o).bad = true → c.ops = [o] → c.segs = [g] → c.closer = none
      → o.nak = none →
      o.mismatch = false → ∃ u, exec (.retransmit cn seq) s = .next (s.close u) ∧ (u.conn cn.val).ops = [] ∧ (u.conn cn.val).segs = []
      ∧ u.dwt.retransmits = satAdd Config.sat32 s.dwt.retransmits 1 ∧ u.cores = s.cores
      ∧ (∀ x ∈ (u.queue o.queue).started, x.num ≠ o.ent))
    ∧ (g.tries < 8 → (g.writes = true → ∀ o, op = some o → (source o).bad = false) → ∃ u, exec (.retransmit cn seq) s = .next (s.close u)
      ∧ (u.conn cn.val).segs = c.segs.map (fun h => if h.seq = seq.toNat then { h with tries := h.tries + 1 } else h)
      ∧ (u.conn cn.val).ops = c.ops ∧ (u.conn cn.val).seq = c.seq ∧ (u.conn cn.val).st = c.st
      ∧ u.dwt.retransmits = satAdd Config.sat32 s.dwt.retransmits 1 ∧ u.counters = s.counters ∧ u.cores = s.cores)
    ∧ (8 ≤ g.tries → c.closer = none → ∃ u, exec (.retransmit cn seq) s = .next (s.close u) ∧ (u.conn cn.val).st = .down
      ∧ (u.conn cn.val).ops = [] ∧ (u.conn cn.val).segs = [] ∧ (u.conn cn.val).notify = []
      ∧ u.dwt.err.getLsbD 3 = true ∧ (c.coll = false → ∀ d, d ≠ cn.val → u.conn d = s.conn d)
      ∧ (c.coll = true → c.st ≠ .down → (u.ctx c.ctx).colls = [])) := by
  intro c s1 source op hg
  refine ⟨fun o hcoll htries hw hop hbad hops hsegs hcloser hnak hmis => ?_, fun htries hgood => ?_, fun htries hcloser => ?_⟩
  · have hrow : retransmit cn.val seq.toNat s
        = afterAnswer cn.val ((source o).s.setConn cn.val ((c.answered seq.toNat).setOp (o.nakAt seq.toNat localPoisoned))) := by
      rw [retransmit_row hg htries, if_pos hw, show (s.conn cn.val).ops.find? _ = some o from hop]
      exact if_pos hbad
    generalize hv : (source o).s.setConn cn.val _ = v at hrow
    have hseq : g.seq = seq.toNat := by simpa using List.find?_some hg
    have hconn : v.conn cn.val = { c with ops := [o.nakAt seq.toNat localPoisoned], segs := [] } := by
      rw [← hv, State.conn_setConn_self]
      simp [DwtConn.answered, DwtConn.setOp, hops, hsegs, hseq, DwtOp.nakAt]
    obtain ⟨hnoops, hnosegs, hstarted⟩ := afterAnswer_last (o := o.nakAt seq.toNat localPoisoned) (by rw [hconn]) (by rw [hconn])
      (by rw [hconn]; exact hcloser) (by rw [hconn]; simp [DwtConn.opDone, DwtOp.more, DwtOp.nakAt, hnak])
    refine ⟨_, (retransmit_exec ..).trans (by rw [collWatch_other hcoll, hrow]), hnoops, hnosegs, ?_, ?_, hstarted⟩
    · rw [(OnConn.afterAnswer cn.val v).retransmits, ← hv]
      change (source o).s.dwt.retransmits = _
      rw [show (source o).s.dwt = s1.dwt from (State.readVA_same ..).2.2.2.2.2.2.2.2.2.1]
      exact (retriedAt_row cn.val seq.toNat s).2.1
    · rw [(afterAnswer_same ..).2.2.2.2.2.1, ← hv]
      simp [source, s1, retriedAt, countRetransmit]
  · obtain ⟨⟨n, hconn⟩, hcount, hcounters, hcores⟩ := retransmit_again hg htries hgood
    have hkept : collWatch cn.val s (retransmit cn.val seq.toNat s) = retransmit cn.val seq.toNat s := by
      refine collWatch_kept (by rw [hconn]; rfl) fun g hg => ?_
      rw [hconn]
      exact List.any_eq_true.mpr ⟨g, hg, CollSeg_same_self g g.seq g.tries⟩
    refine ⟨_, (retransmit_exec ..).trans (by rw [hkept]), ?_, ?_, ?_, ?_, hcount, hcounters, hcores⟩ <;> rw [hconn] <;> rfl
  · refine ⟨_, retransmit_exec .., ?_⟩
    rw [retransmit_falls hg htries]
    exact connFalls_watched hcloser

/-- An unanswered message of the collective engine. -/
theorem retransmitColl_rows (s : State) (cn : ConnId) (seq : W32) (h : CollSeg) :
    let c := s.conn cn.val
    (∀ g ∈ c.segs, g.seq ≠ seq.toNat) → c.csegs.find? (fun g => decide (g.seq = seq.toNat)) = some h →
    (h.tries < 8 → ∃ u, exec (.retransmit cn seq) s = .next (s.close u) ∧ (u.conn cn.val).st = c.st
      ∧ (u.conn cn.val).csegs = c.csegs.map (fun g => if g.seq = seq.toNat then { g with tries := g.tries + 1 } else g)
      ∧ (u.conn cn.val).txn = c.txn + 1 ∧ u.dwt.retransmits = satAdd Config.sat32 s.dwt.retransmits 1 ∧ u.tiers = s.tiers ∧ u.ctxs = s.ctxs)
    ∧ (8 ≤ h.tries → c.closer = none → ∃ u, exec (.retransmit cn seq) s = .next (s.close u) ∧ (u.conn cn.val).st = .down
      ∧ u.dwt.err.getLsbD 3 = true ∧ (c.coll = true → c.st ≠ .down → (u.ctx c.ctx).colls = [])) := by
  intro c hnone hh
  have hrow := retransmitColl_row hnone hh
  refine ⟨fun htries => ?_, fun htries hcloser => ?_⟩
  · rw [if_neg (Nat.not_le.mpr htries)] at hrow
    generalize hv : countRetransmit _ = v at hrow
    have hconn : (retransmit cn.val seq.toNat s).conn cn.val = { c with
        csegs := c.csegs.map (fun g => if g.seq = seq.toNat then { g with tries := g.tries + 1 } else g), txn := c.txn + 1 } := by
      have hself : v.conn cn.val = { c with csegs := c.csegs.map (fun g => if g.seq = seq.toNat then { g with tries := g.tries + 1 } else g) } := by
        rw [← hv]
        exact State.conn_setConn_self ..
      rw [hrow, conn_of_dwt (sendNext_dwt ..), State.conn_setConn_self, hself]
    have hkept : collWatch cn.val s (retransmit cn.val seq.toNat s) = retransmit cn.val seq.toNat s := by
      refine collWatch_kept (by rw [hconn]) fun g hg => ?_
      rw [hconn, List.any_append]
      rcases List.mem_append.mp hg with hq | hq
      · rw [List.any_eq_true.mpr ⟨g, hq, CollSeg_same_self g g.seq g.tries⟩]
        rfl
      · refine Bool.or_eq_true_iff.mpr (.inr (List.any_eq_true.mpr ⟨_, List.mem_map_of_mem hq, ?_⟩))
        split
        · exact CollSeg_same_self g g.seq _
        · exact CollSeg_same_self g g.seq g.tries
    refine ⟨_, (retransmit_exec ..).trans (by rw [hkept]), by rw [hconn], by rw [hconn], by rw [hconn], ?_, ?_, ?_⟩
    · rw [hrow, sendNext_dwt, ← hv]
      rfl
    · rw [hrow, ← hv]
      simp [countRetransmit]
    · rw [hrow, ← hv]
      simp [countRetransmit]
  · refine ⟨_, retransmit_exec .., ?_⟩
    rw [hrow, if_pos htries]
    obtain ⟨hst, -, -, -, herr, -, hcolls⟩ := connFalls_watched hcloser
    exact ⟨hst, herr, hcolls⟩

/-- Settles O22: the entries of a connection, its timers, and its retransmissions. -/
theorem connectionRowsComplete : Obligations.ConnectionRowsComplete :=
  ⟨connEntries_row, connTimers_row, retransmitSeg_row, retransmitColl_rows⟩

end Sys2Proof
end

section
/-! A read of context memory and the window transport: it neither reads nor changes the transport's state. -/

namespace Sys2Proof

open Sys2Proof.Machine

/-- The state with another record of the window transport. -/
def Machine.State.withDwt (s : State) (d : Dwt) : State := { s with dwt := d }

theorem foldl_withDwt {β : Type} {f : State → β → State} {d : Dwt} (hf : ∀ u b, f (u.withDwt d) b = (f u b).withDwt d) (l : List β)
    {s t : State} (h : t = s.withDwt d) : l.foldl f t = (l.foldl f s).withDwt d := by
  induction l generalizing s t with
  | nil => exact h
  | cons b l ih => exact ih (by rw [h, hf])

section
variable {s t : State} {d : Dwt} (h : t = s.withDwt d)
include h

theorem withDwt_raiseAlert (k : Nat) : t.raiseAlert k = (s.raiseAlert k).withDwt d := by
  subst h
  unfold State.raiseAlert State.withDwt State.msix State.alertPin State.emit
  dsimp only
  (repeat' split) <;> rfl

theorem withDwt_logEv (e : LogEnt) : t.logEv e = (s.logEv e).withDwt d := by
  subst h
  have hseal : ∀ x, (s.withDwt d).sealTenant x = s.sealTenant x := fun _ => rfl
  have hmgt : (s.withDwt d).mgt = s.mgt := rfl
  have hfresh : (s.withDwt d).fresh = s.fresh := rfl
  have hfree : (s.withDwt d).free = s.free := rfl
  have hticks : (s.withDwt d).ticks = s.ticks := rfl
  have hcold : (s.withDwt d).coldResets = s.coldResets := rfl
  unfold State.logEv
  simp only [hseal, hmgt, hfresh, hfree, hticks, hcold]
  split
  · refine withDwt_raiseAlert ?_ 2
    rfl
  · rfl

theorem withDwt_errTier (k : Nat) : t.errTier k = (s.errTier k).withDwt d := by
  subst h
  refine Eq.trans (if_congr (Iff.rfl : s.tiers.err.getLsbD k = true ↔ _) rfl (withDwt_logEv (s := { s with tiers := { s.tiers with
    err := setBit s.tiers.err k } }) ?_ _)) (apply_ite (State.withDwt · d) _ _ _).symm
  rfl

theorem withDwt_meetErr (e : TierErr) : t.meetErr e = (s.meetErr e).withDwt d := by
  subst h
  unfold State.meetErr State.addUe State.foundCe State.addCe
  split
  · refine withDwt_errTier ?_ _
    rfl
  · refine withDwt_errTier ?_ _
    rfl

theorem withDwt_meetLines (a n : Nat) : t.meetLines a n = (s.meetLines a n).withDwt d := by
  subst h
  refine foldl_withDwt (fun u e => withDwt_meetErr rfl e) _ ?_
  rfl

theorem withDwt_meetPage (w : SWin) (va n vp : Nat) : State.meetPage w va n t vp = (State.meetPage w va n s vp).withDwt d := by
  subst h
  unfold State.meetPage
  rw [show (s.withDwt d).srcPte w vp = s.srcPte w vp from rfl]
  split
  · exact withDwt_meetLines rfl _ _
  · rfl

theorem withDwt_copyIn (w : SWin) (va n frame off : Nat) : t.copyIn w va n frame off = (s.copyIn w va n frame off).withDwt d := by
  unfold State.copyIn
  dsimp only
  rw [foldl_withDwt (fun u vp => withDwt_meetPage rfl w va n vp) _ h]
  rfl

theorem withDwt_refreshPage (w i : Nat) : t.refreshPage w i = (s.refreshPage w i).withDwt d := by
  subst h
  unfold State.refreshPage
  rw [show (s.withDwt d).tiers = s.tiers from rfl]
  split
  · rfl
  next sw _ =>
    dsimp only
    rw [show (s.withDwt d).gen = s.gen from rfl, show (s.withDwt d).gensOf = s.gensOf from rfl]
    split
    · rfl
    · split
      · rfl
      · refine withDwt_copyIn ?_ _ _ _ _ _
        rfl

theorem withDwt_followFetch (w vp : Nat) : t.followFetch w vp = ((s.followFetch w vp).1.withDwt d, (s.followFetch w vp).2) := by
  subst h
  unfold State.followFetch
  rw [show (s.withDwt d).tiers = s.tiers from rfl]
  split
  · rfl
  · refine Prod.ext (withDwt_copyIn ?_ _ _ _ _ _) rfl
    rfl

theorem withDwt_followRead (w vp : Nat) : t.followRead w vp = ((s.followRead w vp).1.withDwt d, (s.followRead w vp).2) := by
  unfold State.followRead
  rw [withDwt_followFetch h]
  subst h
  rw [show (s.withDwt d).tiers = s.tiers from rfl]
  split
  · rfl
  · split
    · refine Prod.ext (withDwt_refreshPage ?_ _ _) rfl
      rfl
    · dsimp only
      rw [show ((s.followFetch w vp).1.withDwt d).tiers = (s.followFetch w vp).1.tiers from rfl]
      split <;> rfl

theorem withDwt_landed (w i : Nat) (sw : SWin) : t.landed w i sw = (s.landed w i sw).withDwt d := by
  unfold State.landed
  split
  · split
    · unfold landPage copyWinPage
      subst h
      split
      · refine withDwt_copyIn ?_ _ _ _ _ _
        rfl
      · rfl
    · exact withDwt_refreshPage h w i
  · exact withDwt_refreshPage h w i

theorem withDwt_readFrame (slot vp : Nat) : t.readFrame slot vp = ((s.readFrame slot vp).1.withDwt d, (s.readFrame slot vp).2) := by
  unfold State.readFrame
  simp only [withDwt_followRead h, withDwt_landed h]
  subst h
  rw [show (s.withDwt d).viewAt slot vp = s.viewAt slot vp from rfl, show (s.withDwt d).tiers = s.tiers from rfl]
  split
  · split
    · split <;> rfl
    · rfl
  · rfl

theorem withDwt_errSec (k encl : Nat) : t.errSec k encl = (s.errSec k encl).withDwt d := by
  subst h
  refine Eq.trans (if_congr (Iff.rfl : s.sec.err.getLsbD k = true ↔ _) rfl (withDwt_logEv (s := { s with sec := { s.sec with
    err := setBit s.sec.err k } }) ?_ _)) (apply_ite (State.withDwt · d) _ _ _).symm
  rfl

theorem withDwt_tagViolation (slot : Nat) : t.tagViolation slot = (s.tagViolation slot).withDwt d := by
  subst h
  refine withDwt_errSec ?_ _ _
  rfl

theorem withDwt_readPages (slot fuel va n : Nat) : State.readPages slot fuel va n t
    = ⟨(State.readPages slot fuel va n s).s.withDwt d, (State.readPages slot fuel va n s).bytes, (State.readPages slot fuel va n s).bad⟩ := by
  induction fuel generalizing va n s t with
  | zero => rw [h]; rfl
  | succ fuel ih =>
    rw [State.readPages, State.readPages]
    split
    · rw [h]
    dsimp only
    rw [withDwt_readFrame h]
    dsimp only
    cases (s.readFrame slot (vpage va)).2 with
    | none => rfl
    | some f =>
      dsimp only
      rw [show ((s.readFrame slot (vpage va)).1.withDwt d).tagWrong slot f = (s.readFrame slot (vpage va)).1.tagWrong slot f from rfl]
      split
      · rw [withDwt_tagViolation rfl]
      · rw [withDwt_meetLines rfl, ih rfl]
        rfl

/-- A read of context memory finds the same whatever the transport holds, and leaves it as it is. -/
theorem withDwt_readVA (slot va n : Nat) : t.readVA slot va n
    = ⟨(s.readVA slot va n).s.withDwt d, (s.readVA slot va n).bytes, (s.readVA slot va n).bad⟩ := withDwt_readPages h ..

end

end Sys2Proof
end

section
/-! The entries of the queues that start: NOP, the moves and PULL (08 R248, R255, R256, R257). -/

namespace Sys2Proof

open Sys2Proof.Machine

/-! NOP -/

theorem firstOf_none {l : List (Bool × Nat)} (h : firstOf l = none) {p : Bool × Nat} (hp : p ∈ l) : p.1 = false := by
  induction l with
  | nil => exact absurd hp List.not_mem_nil
  | cons x l ih =>
    obtain ⟨b, k⟩ := x
    rw [firstOf] at h
    split at h
    · cases h
    next hb =>
      rcases List.mem_cons.mp hp with rfl | hp
      · exact Bool.eq_false_iff.mpr hb
      · exact ih h hp

/-- What the shared checks find sound: the record of an entry and its counter. -/
theorem common_sound {s : State} {slot : Nat} {e : QEnt} (h : firstOf (e.common s slot) = none) : e.recBad s slot = false
  ∧ e.ctrBad s slot = false := by
  have hrange : e.ctrRange s slot = false := firstOf_none h (p := (e.ctrRange s slot, entryCtrRange)) (by simp [QEnt.common])
  have hrec : e.recBad s slot = false := firstOf_none h (p := (e.recBad s slot, entryUnmapped)) (by simp [QEnt.common])
  simp only [QEnt.ctrRange, Bool.or_eq_false_iff] at hrange
  exact ⟨hrec, hrange.1.1⟩

/-- What a completed entry of a loaded context leaves: its record, then its counter. -/
theorem report_row {s : State} {q status bytes : Nat} {t : Started} (hst : (s.ctx t.slot).st ≠ .none) (hrec : t.e.recBad s t.slot = false)
    (hctr : t.e.ctrBad s t.slot = false) : s.report q t status bytes =
      (let u := if t.e.recEn then s.writeVA t.slot t.e.recVa (recBytes (s.relQueue t.slot q) t.e.op status bytes) else s
       if t.e.ctrEn then u.raiseRel t.slot t.e.doneCtr 1 else u) := by
  unfold State.report
  dsimp only
  rw [if_neg hst, hrec, hctr]
  rfl

theorem report_kept {s : State} {q status bytes : Nat} {t : Started} (hst : (s.ctx t.slot).st ≠ .none) (hrec : t.e.recBad s t.slot = false)
    (hctr : t.e.ctrBad s t.slot = false) :
    (t.e.ctrEn = true → (s.report q t status bytes).counters = (s.raiseCtr ((s.ctx t.slot).desc.ctrBase + t.e.doneCtr) 1).counters)
    ∧ (t.e.recEn = false → (s.report q t status bytes).tiers = s.tiers) := by
  rw [report_row hst hrec hctr]
  dsimp only
  refine ⟨fun hen => ?_, fun hen => ?_⟩
  · rw [if_pos hen]
    split
    · obtain ⟨hs, -, -, hd, -⟩ := Ctx.body_rows (writeVA_body s t.slot t.e.recVa (recBytes (s.relQueue t.slot q) t.e.op status bytes) t.slot)
      exact raiseRel_counters_owner hs hd (fun _ => writeVA_owner ..) (by simp) _ _ hst
    · exact raiseRel_counters_owner rfl rfl (fun _ => rfl) rfl _ _ hst
  · simp only [hen, Bool.false_eq_true, if_false]
    split
    · simp
    · rfl

/-- The last of the started entries of a queue, of a number that no other has. -/
theorem dwtComplete_own {s : State} {q status bytes : Nat} {t : Started} {l : List Started} (hstarted : (s.queue q).started = l ++ [t])
    (hother : ∀ x ∈ l,
      x.num ≠ t.num) : s.dwtComplete q t.num status bytes = (s.setQueue q { s.queue q with started := l }).report q t status bytes := by
  have hfind : (l ++ [t]).find? (fun x => decide (x.num = t.num)) = some t := by
    rw [List.find?_append, List.find?_eq_none.mpr fun x hx => by simpa using hother x hx]
    simp
  have hleft : (l ++ [t]).filter (fun x => decide (x.num ≠ t.num)) = l := by
    rw [List.filter_append, List.filter_eq_self.mpr fun x hx => by simpa using hother x hx]
    simp
  unfold State.dwtComplete
  dsimp only
  rw [hstarted, hfind]
  dsimp only
  rw [hleft]

/-! The first segment of an operation (R248) -/

theorem finishOps_idle {cn : Nat} {s : State} (h : ∀ o ∈ (s.conn cn).ops, (s.conn cn).opDone o = false) :
    finishOps cn s = s.setConn cn (s.conn cn) := by
  have hdone : (s.conn cn).ops.filter (s.conn cn).opDone = [] := List.filter_eq_nil_iff.mpr fun o ho => by rw [h o ho]; decide
  have hleft : (s.conn cn).ops.filter (fun o => !(s.conn cn).opDone o) = (s.conn cn).ops :=
    List.filter_eq_self.mpr fun o ho => by rw [h o ho]; decide
  unfold finishOps
  dsimp only
  rw [hdone, hleft]
  rfl

theorem dwtSend_done {cn : Nat} {s : State} (h : (s.conn cn).ops.find? DwtOp.more = none) (fuel : Nat) : State.dwtSend cn fuel s = s := by
  cases fuel with
  | zero => rfl
  | succ n =>
    rw [State.dwtSend]
    dsimp only
    rw [h]

theorem closeConn_ops {cn : Nat} {s : State} (h : (s.conn cn).ops ≠ []) : closeConn cn s = s := by
  cases hc : (s.conn cn).closer with
  | none => exact closeConn_open hc
  | some p => exact closeConn_busy (q := p.1) (num := p.2) hc h

theorem maybeShake_open {cn : Nat} {s : State} (h : (s.conn cn).st = .open_) : maybeShake cn s = s := by
  unfold maybeShake
  dsimp only
  rw [if_neg fun hr => absurd (h.symm.trans hr.1) (by decide)]

/-- The first segment of an operation of one segment goes out, and waits for its answer. -/
theorem sendSeg_first {cn : Nat} {s : State} {c : DwtConn} {o : DwtOp} {g : Seg} (hconn : s.conn cn = { c with ops := [o], segs := [] })
    (hgood : g.writes = true → (s.readVA c.ctx (o.q.localVa + g.at_) g.length).bad = false) :
    (s.sendSeg cn o g).conn cn = { c with ops := [{ o with sent := o.sent + 1, first := g.ref }], segs := [g], seq := c.seq + 1, txn := c.txn + 1 }
    ∧ ∀ q, (s.sendSeg cn o g).queue q = s.queue q := by
  have hread (slot va n : Nat) : (s.readVA slot va n).s.dwt = s.dwt := (State.readVA_same ..).2.2.2.2.2.2.2.2.2.1
  unfold State.sendSeg
  dsimp only
  rw [hconn]
  split
  next hw =>
    rw [if_neg (by rw [hgood hw]; decide)]
    refine ⟨?_, fun q => ?_⟩
    · rw [sendMsg_conn, State.conn_setConn_self]
      simp [DwtConn.setOp]
    · rw [State.sendMsg, queue_of_dwt (sendNext_dwt ..), State.queue_setConn, State.queue_setConn, queue_of_dwt (hread ..)]
  next =>
    refine ⟨?_, fun q => ?_⟩
    · rw [sendMsg_conn, State.conn_setConn_self]
      simp [DwtConn.setOp]
    · rw [State.sendMsg, queue_of_dwt (sendNext_dwt ..), State.queue_setConn, State.queue_setConn]

/-- An operation of one segment that is put on an open connection with nothing in flight. -/
theorem afterAnswer_first {cn : Nat} {s : State} {c : DwtConn} {o : DwtOp} (hconn : s.conn cn = { c with ops := [o], segs := [] })
    (hst : c.st = .open_) (hsent : o.sent = 0) (hsegs : o.segs = 1) (hnak : o.nak = none) (hmis : o.mismatch = false) (hmust : c.mustRekey o = false)
    (hgood : (o.seg c.desc.maxSeg c.seq 0).writes = true → (s.readVA c.ctx o.q.localVa (min c.desc.maxSeg o.length)).bad = false) :
    (afterAnswer cn s).conn cn
      = { c with ops := [{ o with sent := 1, first := c.seq }], segs := [o.seg c.desc.maxSeg c.seq 0], seq := c.seq + 1, txn := c.txn + 1 }
    ∧ ∀ q, (afterAnswer cn s).queue q = s.queue q := by
  generalize hg : o.seg c.desc.maxSeg c.seq 0 = g at hgood
  have hmore : o.more = true := by simp [DwtOp.more, hsent, hsegs, hnak, hmis]
  have hwait : finishOps cn s = s.setConn cn { c with ops := [o], segs := [] } := by
    rw [finishOps_idle fun p hp => ?_, hconn]
    rw [hconn] at hp ⊢
    rw [List.mem_singleton.mp hp]
    simp [DwtConn.opDone, hmore]
  generalize hv : s.setConn cn { c with ops := [o], segs := [] } = v at hwait
  have hvconn : v.conn cn = { c with ops := [o], segs := [] } := by rw [← hv, State.conn_setConn_self]
  have hvread : (v.readVA c.ctx (o.q.localVa + g.at_) g.length).bad = (s.readVA c.ctx o.q.localVa (min c.desc.maxSeg o.length)).bad := by
    rw [withDwt_readVA (s := s) (d := v.dwt) (by rw [← hv]; rfl), ← hg]
    simp [DwtOp.seg]
  obtain ⟨hsentConn, hsentQueue⟩ := sendSeg_first hvconn fun hw => hvread.trans (hgood hw)
  generalize hw : v.sendSeg cn o g = w at hsentConn hsentQueue
  have hsend : State.dwtSend cn 65536 v = w := by
    rw [State.dwtSend]
    dsimp only
    rw [hvconn]
    dsimp only
    rw [List.find?_cons_of_pos hmore]
    dsimp only
    rw [hsent, hg, if_neg, hw]
    · exact dwtSend_done (by rw [hsentConn]; simp [DwtOp.more, hsent, hsegs]) _
    · rw [show DwtConn.mustRekey { c with ops := [o], segs := [] } o = c.mustRekey o from rfl, hmust]
      simp [hst]
  have hlast : finishOps cn w = w.setConn cn (w.conn cn) := finishOps_idle fun p hp => by
    rw [hsentConn] at hp ⊢
    rw [List.mem_singleton.mp hp, ← hg]
    simp [DwtConn.opDone, DwtOp.seg]
  have hself : (w.setConn cn (w.conn cn)).conn cn = w.conn cn := State.conn_setConn_self ..
  have hrow : afterAnswer cn s = w.setConn cn (w.conn cn) := by
    unfold afterAnswer
    rw [hwait, hsend, hlast, closeConn_ops (by rw [hself, hsentConn]; exact List.cons_ne_nil _ _),
      maybeShake_open (by rw [hself, hsentConn]; exact hst)]
  rw [hrow, hself, hsentConn, hsent, ← hg]
  refine ⟨rfl, fun q => ?_⟩
  rw [State.queue_setConn, hsentQueue, ← hv, State.queue_setConn]

end Sys2Proof
end

section
/-! Queue entries that start, settled (08 R248, R255, R256, R264). -/

namespace Sys2Proof

open Sys2Proof.Machine

/-- An operation put on its connection. -/
theorem beginOp_entries (cn q : Nat) (t : Started) (o : DwtOp) (s : State) (j : Nat) : ((beginOp cn q t o s).queue j).entries = (s.queue j).entries :=
  ((OnConn.setConn s cn _).trans (.afterAnswer cn _)).entries j

/-- The last started entry of a loaded context completes. -/
theorem dwtComplete_kept {s : State} {q status bytes : Nat} {t : Started} {l : List Started} (hstarted : (s.queue q).started = l ++ [t])
    (hother : ∀ x ∈ l, x.num ≠ t.num) (hst : (s.ctx t.slot).st ≠ .none) (hrec : t.e.recBad s t.slot = false) (hctr : t.e.ctrBad s t.slot = false) :
    (t.e.ctrEn = true → (s.dwtComplete q t.num status bytes).counters = (s.raiseCtr ((s.ctx t.slot).desc.ctrBase + t.e.doneCtr) 1).counters)
    ∧ (t.e.recEn = false → (s.dwtComplete q t.num status bytes).tiers = s.tiers) := by
  rw [dwtComplete_own hstarted hother]
  generalize hv : s.setQueue q { s.queue q with started := l } = v
  have hctx : v.ctx = s.ctx := by rw [← hv]; rfl
  have hctxs : v.ctxs = s.ctxs := by rw [← hv]; rfl
  have hcounters : v.counters = s.counters := by rw [← hv]; rfl
  have htiers : v.tiers = s.tiers := by rw [← hv]; rfl
  have hrecv : t.e.recBad v t.slot = false := by rw [← hv]; exact hrec
  have hctrv : t.e.ctrBad v t.slot = false := by rw [← hv]; exact hctr
  obtain ⟨hraised, hsame⟩ := report_kept (q := q) (status := status) (bytes := bytes) (by rw [hctx]; exact hst) hrecv hctrv
  refine ⟨fun hen => ?_, fun hen => (hsame hen).trans htiers⟩
  rw [hraised hen, hctx]
  exact raiseCtr_counters_congr hctxs hcounters _ _

theorem nop_row {s : State} {q : QueueId} {t : Started} (hstart : s.startable q.val = some t) (hother : ∀ x ∈ (s.queue q.val).started, x.num ≠ t.num)
    (hcommon : firstOf (t.e.common (begunAt q.val t s) t.slot) = none) (hop : t.e.op = 0) :
    let k := s.queue q.val
    ∃ u, exec (.nop q) s = .next (s.close u) ∧ u = (begunAt q.val t s).dwtComplete q.val t.num 0 0
      ∧ (u.queue q.val).entries = k.entries.tail ∧ (u.queue q.val).started = k.started
      ∧ ((s.ctx t.slot).st ≠ .none → t.e.ctrEn = true → u.counters = (s.raiseCtr ((s.ctx t.slot).desc.ctrBase + t.e.doneCtr) 1).counters)
      ∧ ((s.ctx t.slot).st ≠ .none → t.e.recEn = false → u.tiers = s.tiers) := by
  intro k
  have hqueue := begunAt_queue q.val t s
  have hrun : startEntry q.val 0 (dwtNop q.val) s = (begunAt q.val t s).dwtComplete q.val t.num 0 0 :=
    startEntry_run hstart (by decide) hop (by rw [dwtNop, hcommon]; rfl)
  obtain ⟨hrec, hctr⟩ := common_sound hcommon
  obtain ⟨hst, -, -, hdesc, -⟩ := Ctx.body_rows (begunAt_body q.val t s t.slot)
  obtain ⟨htiers, hcounters, -⟩ := begunAt_same q.val t s
  have howner := begunAt_owner q.val t s
  have hexec : exec (.nop q) s = .next (s.close ((begunAt q.val t s).dwtComplete q.val t.num 0 0)) :=
    congrArg (fun u => Host.Outcome.next (s.close u)) hrun
  generalize begunAt q.val t s = v at hqueue hrec hctr hst hdesc htiers hcounters howner hexec ⊢
  have hstarted : (v.queue q.val).started = k.started ++ [t] := by rw [hqueue]
  have hkept (hloaded : (s.ctx t.slot).st ≠ .none) := dwtComplete_kept (status := 0) (bytes := 0) hstarted hother (hst ▸ hloaded) hrec hctr
  refine ⟨_, hexec, rfl, ?_, ?_, fun hloaded hen => ?_, fun hloaded hen => ((hkept hloaded).2 hen).trans htiers⟩
  · rw [(OnConn.dwtComplete 0 v q.val t.num 0 0).entries, hqueue]
  · rw [dwtComplete_queue, hstarted, List.filter_append, List.filter_eq_self.mpr fun x hx => by simpa using hother x hx]
    simp
  · rw [(hkept hloaded).1 hen, hdesc]
    exact raiseCtr_counters_owner (howner _) hcounters 1

/-- A WRITE, READ or ACCUM whose checks hold is put on its connection. -/
theorem dwtMove_row {q : Nat} {t : Started} {s : State} (hcommon : firstOf (t.e.common s t.slot) = none) :
    let cn := (s.connOf t.slot t.e.conn).getD 0
    firstOf (moveChecks s t cn t.e.length (decide (t.e.op = 2))) = none → (s.conn cn).full = false →
    dwtMove q t s = some (beginOp cn q t
      { queue := q, ent := t.num, q := t.e, length := t.e.length, segs := segCount (s.conn cn).desc.maxSeg t.e.length } s) := by
  intro cn hchecks hroom
  unfold dwtMove
  dsimp only
  rw [firstOf_append hcommon, show firstOf (moveChecks s t ((s.connOf t.slot t.e.conn).getD 0) _ _) = none from hchecks]
  exact if_neg (by rw [hroom]; decide)

theorem beginOp_first {cn q : Nat} {t : Started} {o : DwtOp} {s : State} (hst : (s.conn cn).st = .open_) (hops : (s.conn cn).ops = [])
    (hsegs : (s.conn cn).segs = []) (hq : o.queue = q) (hent : o.ent = t.num) (hsent : o.sent = 0) (hone : o.segs = 1) (hnak : o.nak = none)
    (hmis : o.mismatch = false) (hmust : (s.conn cn).mustRekey o = false)
    (hgood : o.q.op = 2 ∨ (s.readVA (s.conn cn).ctx o.q.localVa (min (s.conn cn).desc.maxSeg o.length)).bad = false) :
    let c := s.conn cn
    let u := beginOp cn q t o s
    u.conn cn = { c with ops := [{ o with sent := 1, first := c.seq }], segs := [o.seg c.desc.maxSeg c.seq 0], seq := c.seq + 1, txn := c.txn + 1 }
    ∧ ∀ j, u.queue j = s.queue j := by
  subst hq
  have hrow : beginOp cn o.queue t o s = afterAnswer cn (s.setConn cn { s.conn cn with ops := [o], segs := [] }) := by
    unfold beginOp
    dsimp only
    rw [hops, ← hent]
    exact congrArg (fun c => afterAnswer cn (s.setConn cn c)) (by rw [← hsegs]; rfl)
  dsimp only
  rw [hrow]
  obtain ⟨hconn, hqueue⟩ := afterAnswer_first (State.conn_setConn_self ..) hst hsent hone hnak hmis hmust fun hw => by
    rw [withDwt_readVA (s := s) (by rfl)]
    refine hgood.resolve_left fun hop => ?_
    simp [Seg.writes, DwtOp.seg, hop] at hw
  exact ⟨hconn, fun j => by rw [hqueue, State.queue_setConn]⟩

theorem pull_begins {q : Nat} {t : Started} {signer : BitVec 768} {s : State} (hchecks : pullStatus t signer s = none) :
    let cn := (s.connOf t.slot t.e.conn).getD 0
    let m := readManifest (s.readVA t.slot (bits t.e.extra 47 0) 128).bytes
    let r := s.readVA t.slot (bits t.e.extra 47 0 + 128) (48 * m.count)
    (t.e.length = 0 → pull q t signer s = some (r.s.dwtComplete q t.num 0 0))
    ∧ (t.e.length ≠ 0 → (s.conn cn).full = false → ∃ p, pull q t signer s = some (beginOp cn q t p
          (r.s.writeVA t.slot (t.e.localVa + t.e.length) (List.replicate (roundUp t.e.length 64 - t.e.length) 0#8)))
        ∧ p.length = t.e.length ∧ p.segs = segCount (s.conn cn).desc.maxSeg t.e.length ∧ p.chunkBytes = m.chunkBytes) := by
  intro cn m r
  have hpull : pull q t signer s = pullBegin q t s := by
    unfold pull
    rw [hchecks]
  rw [hpull]
  unfold pullBegin
  dsimp only
  refine ⟨fun hempty => if_pos hempty, fun hsome hroom => ?_⟩
  rw [if_neg hsome, if_neg (by rw [hroom]; decide)]
  exact ⟨_, rfl, rfl, rfl, rfl⟩

/-- Settles O20: an entry that starts is on its connection, its first segment sent, or complete. -/
theorem queueEntriesStart : Obligations.QueueEntriesStart := by
  intro s q t hstart hother k s1 cn c n o hcommon
  have hentries : (s1.queue q.val).entries = k.entries.tail := congrArg DwtQueue.entries (begunAt_queue q.val t s)
  refine ⟨fun hop => nop_row hstart hother hcommon hop, fun i hi hchecks hroom => ?_, fun signer hop hchecks => ?_⟩
  · have hrow : dwtMove q.val t s1 = some (beginOp cn q.val t o s1) := dwtMove_row hcommon hchecks hroom
    have hexec : exec i s = .next (s.close (beginOp cn q.val t o s1)) := by
      rcases hi with ⟨hop, rfl⟩ | ⟨hop, rfl⟩ | ⟨hop, rfl⟩ <;>
        exact congrArg (fun u => Host.Outcome.next (s.close u)) (startEntry_run hstart (by decide) hop hrow)
    refine ⟨_, hexec, rfl, (beginOp_entries ..).trans hentries, fun hst hops hsegs hmust hgood hone => ?_⟩
    obtain ⟨hconn, hqueue⟩ := beginOp_first (cn := cn) (q := q.val) (t := t) (o := o) (s := s1) hst hops hsegs rfl rfl rfl hone rfl rfl hmust hgood
    rw [hconn]
    refine ⟨rfl, rfl, rfl, rfl, ?_⟩
    rw [hqueue]
    exact congrArg DwtQueue.started (begunAt_queue q.val t s)
  · obtain ⟨hempty, hsome⟩ := pull_begins (q := q.val) hchecks
    refine ⟨fun hlen => ?_, fun hlen hroom => ?_⟩
    · exact congrArg (fun u => Host.Outcome.next (s.close u)) (startEntry_run hstart (by decide) hop (hempty hlen))
    · obtain ⟨p, hrow, hplen, hpsegs, hchunk⟩ := hsome hlen hroom
      refine ⟨_, p, congrArg (fun u => Host.Outcome.next (s.close u)) (startEntry_run hstart (by decide) hop hrow), rfl, hplen, hpsegs, hchunk, ?_⟩
      rw [beginOp_entries, queue_of_dwt (writeVA_dwt ..), queue_of_dwt (State.readVA_same ..).2.2.2.2.2.2.2.2.2.1]
      exact hentries

end Sys2Proof
end

section
/-! The bytes of a frame: what a fill, a copy and a refreshed window page leave of memory (06 R180, R195, R204). -/

namespace Sys2Proof

open Sys2Proof.Machine

/-! Tables -/

theorem Tbl.mem_unique {α : Type} {t : Tbl α} (h : Tbl.rising t = true) {k : Nat} {v : α} (hv : (k, v) ∈ t) (d : α) : Tbl.get d t k = v := by
  induction t with
  | nil => exact absurd hv List.not_mem_nil
  | cons p t ih =>
    obtain ⟨j, w⟩ := p
    obtain ⟨habove, hrising⟩ : Tbl.above j t = true ∧ Tbl.rising t = true := by simpa [Tbl.rising] using h
    rcases List.mem_cons.mp hv with hp | hp
    · obtain ⟨rfl, rfl⟩ := Prod.mk.inj hp
      simp [Tbl.get]
    · have hlt : j < k := by simpa using List.all_eq_true.mp habove _ hp
      rw [Tbl.get, if_neg (by omega)]
      exact ih hrising hp

theorem Tbl.rising_nodup {α : Type} {t : Tbl α} (h : Tbl.rising t = true) : (t.map Prod.fst).Nodup := by
  induction t with
  | nil => exact List.nodup_nil
  | cons p t ih =>
    obtain ⟨habove, hrising⟩ : Tbl.above p.1 t = true ∧ Tbl.rising t = true := by simpa [Tbl.rising] using h
    refine List.nodup_cons.mpr ⟨fun hmem => ?_, ih hrising⟩
    obtain ⟨q, hq, heq⟩ := List.mem_map.mp hmem
    have hlt : p.1 < q.1 := by simpa using List.all_eq_true.mp habove _ hq
    omega

theorem Tbl.get_filter {α : Type} (t : Tbl α) (d : α) (f : Nat → Bool) (k : Nat) :
    Tbl.get d (t.filter fun p => f p.1) k = if f k then Tbl.get d t k else d := by
  induction t with
  | nil => simp [Tbl.get]
  | cons p t ih =>
    obtain ⟨j, w⟩ := p
    by_cases hj : f j = true
    · rw [List.filter_cons_of_pos (p := fun p : Nat × α => f p.1) (a := (j, w)) hj, Tbl.get, Tbl.get]
      by_cases hk : j = k
      · rw [if_pos hk, if_pos hk, if_pos (hk ▸ hj)]
      · rw [if_neg hk, if_neg hk, ih]
    · rw [List.filter_cons_of_neg (p := fun p : Nat × α => f p.1) (a := (j, w)) hj, ih, Tbl.get]
      by_cases hk : j = k
      · rw [if_neg (hk ▸ hj), if_neg (hk ▸ hj)]
      · rw [if_neg hk]

/-- A table whose keys are all moved down. -/
theorem Tbl.get_shift {α : Type} {b : Nat} {t : Tbl α} (h : ∀ p ∈ t, b ≤ p.1) (d : α) (o : Nat) :
    Tbl.get d (t.map fun p => (p.1 - b, p.2)) o = Tbl.get d t (b + o) := by
  induction t with
  | nil => rfl
  | cons p t ih =>
    have hp := h p List.mem_cons_self
    rw [List.map_cons, Tbl.get, Tbl.get, ih fun q hq => h q (List.mem_cons_of_mem _ hq)]
    exact if_congr (by omega) rfl rfl

theorem Tbl.wf_shift {α : Type} [DecidableEq α] {d : α} {b : Nat} {t : Tbl α} (h : ∀ p ∈ t, b ≤ p.1) (hwf : Tbl.wf d t = true) :
    Tbl.wf d (t.map fun p => (p.1 - b, p.2)) = true := by
  rw [Tbl.wf_iff] at hwf ⊢
  obtain ⟨hrising, hne⟩ := hwf
  refine ⟨?_, fun q hq => ?_⟩
  · clear hne
    induction t with
    | nil => rfl
    | cons p t ih =>
      obtain ⟨habove, hrest⟩ : Tbl.above p.1 t = true ∧ Tbl.rising t = true := by simpa [Tbl.rising] using hrising
      have hp := h p List.mem_cons_self
      rw [List.map_cons, Tbl.rising, ih (fun q hq => h q (List.mem_cons_of_mem _ hq)) hrest, Bool.and_true]
      refine List.all_eq_true.mpr fun q hq => ?_
      obtain ⟨r, hr, rfl⟩ := List.mem_map.mp hq
      have hlt : p.1 < r.1 := by simpa using List.all_eq_true.mp habove _ hr
      simp only [decide_eq_true_eq]
      omega
  · obtain ⟨r, hr, rfl⟩ := List.mem_map.mp hq
    exact hne r hr

/-- What writes at the keys of a list leave at key `k`. -/
theorem Tbl.get_foldl_write {α : Type} [DecidableEq α] {d : α} (base : Nat) (l : List (Nat × α)) (hl : (l.map Prod.fst).Nodup) {t : Tbl α}
    (ht : Tbl.wf d t = true) (k : Nat) : Tbl.get d (l.foldl (fun m p => Tbl.write d m (base + p.1) p.2) t) k
      = if (l.map fun p => base + p.1).contains k then Tbl.get d l (k - base) else Tbl.get d t k := by
  induction l generalizing t with
  | nil => simp
  | cons p l ih =>
    obtain ⟨hnew, hrest⟩ := List.nodup_cons.mp hl
    rw [List.foldl_cons, ih hrest (Tbl.wf_write _ _ ht), Tbl.get]
    by_cases hk : base + p.1 = k
    · have hout : (l.map fun q => base + q.1).contains k = false := by
        simp only [List.contains_eq_mem, decide_eq_false_iff_not, List.mem_map, not_exists, not_and]
        intro q hq heq
        exact hnew (List.mem_map.mpr ⟨q, hq, by omega⟩)
      have hin : ((p :: l).map fun q => base + q.1).contains k = true := by simp [hk]
      rw [hout, hin, if_neg (by decide), if_pos rfl, if_pos (by omega), ← hk, Tbl.get_write_same _ _ ht]
    · have hcons : ((p :: l).map fun q => base + q.1).contains k = (l.map fun q => base + q.1).contains k := by
        rw [List.map_cons, List.contains_cons, beq_eq_false_iff_ne.mpr (Ne.symm hk), Bool.false_or]
      rw [hcons, Tbl.get_write_other _ _ _ (Ne.symm hk)]
      split
      next hmem =>
        rw [if_neg]
        simp only [List.contains_eq_mem, decide_eq_true_eq, List.mem_map] at hmem
        obtain ⟨q, -, hq⟩ := hmem
        omega
      · rfl

/-! Frames -/

/-- Byte `a` of physical memory. -/
def byteAt (s : State) (a : Nat) : Byte := Tbl.get 0#8 s.tiers.mem a

/-- Address `a` lies in a frame. -/
def inFrame (f a : Nat) : Bool := decide (f * Config.pageBytes ≤ a) && decide (a < (f + 1) * Config.pageBytes)

theorem inFrame_offset {f a : Nat} (h : inFrame f a = true) : f * Config.pageBytes + (a - f * Config.pageBytes) = a ∧
    a - f * Config.pageBytes < Config.pageBytes := by
  simp only [inFrame, Bool.and_eq_true, decide_eq_true_eq, Nat.add_mul, Nat.one_mul] at h
  omega

theorem inFrame_ne {f g a : Nat} (h : f ≠ g) (hf : inFrame f a = true) : inFrame g a = false := by
  simp only [inFrame, Bool.and_eq_true, decide_eq_true_eq] at hf
  by_contra hg
  simp only [inFrame, Bool.and_eq_true, decide_eq_true_eq, Bool.not_eq_false] at hg
  rcases Nat.lt_or_gt_of_ne h with hlt | hgt
  · have hle : (f + 1) * Config.pageBytes ≤ g * Config.pageBytes := Nat.mul_le_mul_right _ hlt
    omega
  · have hle : (g + 1) * Config.pageBytes ≤ f * Config.pageBytes := Nat.mul_le_mul_right _ hgt
    omega

theorem inFrame_add {f o : Nat} (h : o < Config.pageBytes) : inFrame f (f * Config.pageBytes + o) = true := by
  simp only [inFrame, Bool.and_eq_true, decide_eq_true_eq, Nat.add_mul, Nat.one_mul]
  omega

/-- A list of bytes of a page: in canonical form, each within the page. -/
structure PageList (bs : List (Nat × Byte)) : Prop where
  form : Tbl.wf 0#8 bs = true
  inside : ∀ p ∈ bs, p.1 < Config.pageBytes

/-- A filled frame holds the listed bytes, and no other frame changes. -/
theorem fillFrame_byte {s : State} {bs : List (Nat × Byte)} (hmem : Memory.wf s.tiers.mem = true) (hbs : PageList bs) (f a : Nat) :
    byteAt (s.fillFrame f bs) a = if inFrame f a then Tbl.get 0#8 bs (a - f * Config.pageBytes) else byteAt s a := by
  obtain ⟨hrising, -⟩ := (Tbl.wf_iff _ _).mp hbs.form
  have hclear : Tbl.get 0#8 (Tbl.clear s.tiers.mem (f * Config.pageBytes) Config.pageBytes) a = if inFrame f a then 0#8 else byteAt s a := by
    have hsame : Tbl.clear s.tiers.mem (f * Config.pageBytes) Config.pageBytes = s.tiers.mem.filter fun p => !inFrame f p.1 := by
      refine List.filter_congr fun p _ => ?_
      simp only [inFrame, Nat.add_mul, Nat.one_mul]
      by_cases h1 : f * Config.pageBytes ≤ p.1 <;> by_cases h2 : p.1 < f * Config.pageBytes + Config.pageBytes <;> simp [h1, h2] <;> omega
    rw [hsame, Tbl.get_filter _ 0#8 (fun k => !inFrame f k)]
    cases inFrame f a <;> rfl
  have hfold := Tbl.get_foldl_write (d := 0#8) (f * Config.pageBytes) bs (Tbl.rising_nodup hrising) (Tbl.wf_clear
    (f * Config.pageBytes) Config.pageBytes hmem) a
  refine hfold.trans ?_
  rw [hclear]
  by_cases ha : inFrame f a = true
  · rw [if_pos ha, if_pos ha]
    split
    · rfl
    next hout =>
      refine (Tbl.get_of_not_listed _ fun p hp heq => hout ?_).symm
      simp only [List.contains_eq_mem, decide_eq_true_eq, List.mem_map]
      exact ⟨p, hp, by rw [heq]; exact (inFrame_offset ha).1⟩
  · rw [if_neg ha, if_neg ha, if_neg]
    simp only [List.contains_eq_mem, decide_eq_true_eq, List.mem_map, not_exists, not_and]
    rintro p hp rfl
    exact ha (inFrame_add (hbs.inside p hp))

theorem pageBytesOf_list {s : State} (hmem : Memory.wf s.tiers.mem = true) (f : Nat) : PageList (s.pageBytesOf f) ∧
    ∀ o < Config.pageBytes, Tbl.get 0#8 (s.pageBytesOf f) o = byteAt s (f * Config.pageBytes + o) := by
  have hlow : ∀ p ∈ s.tiers.mem.filter (fun p => inFrame f p.1), f * Config.pageBytes ≤ p.1 := fun p hp => by
    have hin := (List.mem_filter.mp hp).2
    simp only [inFrame, Bool.and_eq_true, decide_eq_true_eq] at hin
    exact hin.1
  refine ⟨⟨Tbl.wf_shift hlow (Tbl.wf_filter _ hmem), fun p hp => ?_⟩, fun o ho => ?_⟩
  · obtain ⟨q, hq, rfl⟩ := List.mem_map.mp hp
    exact (inFrame_offset (List.mem_filter.mp hq).2).2
  · refine (Tbl.get_shift hlow 0#8 o).trans ?_
    rw [Tbl.get_filter _ 0#8 (fun k => inFrame f k), if_pos (inFrame_add ho)]
    rfl

/-- A copied frame holds the bytes of its source, and no other frame changes. -/
theorem copyFrame_byte {s : State} (hmem : Memory.wf s.tiers.mem = true) (src dst a : Nat) : byteAt (s.copyFrame src dst) a
    = if inFrame dst a then byteAt s (src * Config.pageBytes + (a - dst * Config.pageBytes)) else byteAt s a := by
  obtain ⟨hlist, hbytes⟩ := pageBytesOf_list hmem src
  refine (fillFrame_byte hmem hlist dst a).trans ?_
  by_cases ha : inFrame dst a = true
  · rw [if_pos ha, if_pos ha, hbytes _ (inFrame_offset ha).2]
  · rw [if_neg ha, if_neg ha]

theorem meetLines_byte (s : State) (b n a : Nat) : byteAt (s.meetLines b n) a = byteAt s a := by
  rw [byteAt, (meetLines_found s b n).2, byteAt]

theorem meetPage_byte (w : SWin) (va n : Nat) (s : State) (vp a : Nat) : byteAt (State.meetPage w va n s vp) a = byteAt s a := by
  unfold State.meetPage
  split
  · exact meetLines_byte ..
  · rfl

/-- What a copy of the bytes of a window's source leaves outside the frame that it goes to. -/
theorem copyIn_byte (s : State) (w : SWin) (va : Nat) {n frame a : Nat} (hn : n ≤ Config.pageBytes) (ha : inFrame frame a = false) :
    byteAt (s.copyIn w va n frame 0) a = byteAt s a := by
  have hmet : byteAt ((pagesOf va n).foldl (State.meetPage w va n) s) a = byteAt s a :=
    foldl_keeps (fun u : State => byteAt u a) _ _ s fun u vp => meetPage_byte w va n u vp a
  refine (Tbl.get_writeList_other 0#8 _ _ ?_).trans hmet
  rw [List.length_map, List.length_range]
  simp only [inFrame, Bool.and_eq_false_iff, decide_eq_false_iff_not, Nat.add_mul, Nat.one_mul] at ha
  omega

theorem copyWinPage_byte (w : SWin) (s : State) (pg : Nat) {a : Nat} (ha : inFrame (w.frames.getD pg 0) a = false) :
    byteAt (copyWinPage w s pg) a = byteAt s a := by
  unfold copyWinPage
  split
  next x hx =>
    refine copyIn_byte s w x.1 ?_ ha
    unfold SWin.pageExtent at hx
    split at hx
    · dsimp only at hx
      split at hx
      · rw [← Option.some.inj hx]
        exact Nat.min_le_left _ _
      · cases hx
    · cases hx
  · rfl

end Sys2Proof
end

section
/-! Pages copied back by a restore (12 R385). -/

namespace Sys2Proof

open Sys2Proof.Machine

/-- Where a page lies: its frame, and the frame that it moves to. -/
def pageAt (s : State) (slot vp : Nat) : Option (Nat × Option Nat) := (s.pte slot vp).map fun p => (p.frame, p.moving)

theorem pageByte_eq (s : State) (slot vp o : Nat) : pageByte s slot vp o
    = (pageAt s slot vp).map fun q => byteAt s (q.1 * Config.pageBytes + o) := by
  unfold pageByte pageAt
  rw [Option.map_map]
  rfl

theorem pte_setPte_ne (s : State) (slot : Nat) {vp j : Nat} (p : Pte) (h : j ≠ vp) : (s.setPte slot vp p).pte slot j = s.pte slot j :=
  Tbl.look_put_other _ _ (by omega)

/-- The pages of a slot lie in frames of their own, none under a move, in a memory in canonical form. -/
structure PagesApart (s : State) (slot : Nat) : Prop where
  form : Memory.wf s.tiers.mem = true
  apart : ∀ a b p q, pageAt s slot a = some p → pageAt s slot b = some q → p.1 = q.1 → a = b
  still : ∀ a p, pageAt s slot a = some p → p.2 = none

/-- Pages stay where they are, and the windows are the same. -/
structure PagesKept (slot : Nat) (s u : State) : Prop where
  places : ∀ vp, pageAt u slot vp = pageAt s slot vp
  wins : u.tiers.wins = s.tiers.wins
  form : Memory.wf u.tiers.mem = true

theorem PagesApart.kept {slot : Nat} {s u : State} (h : PagesApart s slot) (hk : PagesKept slot s u) : PagesApart u slot where
  form := hk.form
  apart a b p q ha hb := h.apart a b p q (by rw [← hk.places]; exact ha) (by rw [← hk.places]; exact hb)
  still a p ha := h.still a p (by rw [← hk.places]; exact ha)

theorem PagesApart.ofOwnFrames {s : State} {slot : Nat} (h : OwnFrames s slot) (hmem : Memory.wf s.tiers.mem = true) : PagesApart s slot where
  form := hmem
  apart a b p q ha hb heq := by
    obtain ⟨x, hx, rfl⟩ := Option.map_eq_some_iff.mp ha
    obtain ⟨y, hy, rfl⟩ := Option.map_eq_some_iff.mp hb
    exact h.apart a b x y hx hy heq
  still a p ha := by
    obtain ⟨x, hx, rfl⟩ := Option.map_eq_some_iff.mp ha
    exact h.still a x hx

theorem pageAt_setPte {s : State} {slot vp : Nat} {p : Pte} (hp : s.pte slot vp = some p) (q : Pte) (hframe : q.frame = p.frame)
    (hmoving : q.moving = p.moving) (j : Nat) : pageAt (s.setPte slot vp q) slot j = pageAt s slot j := by
  unfold pageAt
  by_cases hj : j = vp
  · rw [hj, pte_setPte, hp, Option.map_some, Option.map_some, hframe, hmoving]
  · rw [pte_setPte_ne _ _ _ hj]

/-- A page whose frame is written, and its generation raised: the pages stay, and the other pages keep their bytes. -/
theorem writtenPage {s v : State} {slot vp : Nat} {p : Pte} (h : PagesApart s slot) (hp : s.pte slot vp = some p)
  (hplan : v.tiers.plan = s.tiers.plan)
    (hform : Memory.wf v.tiers.mem = true) (hother : ∀ a, inFrame p.frame a = false → byteAt v a = byteAt s a) (g : Nat) :
    let u := v.setPte slot vp { p with gen := g }
    PagesKept slot s u ∧ (∀ j o, j ≠ vp → o < Config.pageBytes → pageByte u slot j o = pageByte s slot j o)
    ∧ ∀ o, pageByte u slot vp o = some (byteAt v (p.frame * Config.pageBytes + o)) := by
  intro u
  obtain ⟨hwins, hpt, -⟩ := Tiers.plan_rows hplan
  have hpte : ∀ j, v.pte slot j = s.pte slot j := fun j => by rw [State.pte, hpt, State.pte]
  have hplaces : ∀ j, pageAt u slot j = pageAt s slot j := fun j => by
    rw [show pageAt u slot j = pageAt v slot j from pageAt_setPte ((hpte vp).trans hp) { p with gen := g } rfl rfl j, pageAt, hpte, pageAt]
  have hbyte : ∀ a, byteAt u a = byteAt v a := fun _ => rfl
  refine ⟨⟨hplaces, hwins, hform⟩, fun j o hj ho => ?_, fun o => ?_⟩
  · rw [pageByte_eq, pageByte_eq, hplaces]
    cases hat : pageAt s slot j with
    | none => rfl
    | some q =>
      have hne : q.1 ≠ p.frame := fun heq => hj (h.apart j vp q (p.frame, p.moving) hat (by rw [pageAt, hp]; rfl) heq)
      rw [Option.map_some, Option.map_some, hbyte, hother _ (inFrame_ne hne (inFrame_add ho))]
  · rw [pageByte_eq, hplaces, pageAt, hp]
    rfl

/-- A step that writes page `key b`, if any, and leaves the others, for each sound `b`. -/
structure PageStep {β : Type} (slot : Nat) (key : β → Nat) (sound : β → Prop) (g : State → β → State) : Prop where
  kept : ∀ s b, sound b → PagesApart s slot → PagesKept slot s (g s b)
  other : ∀ s b vp o, sound b → PagesApart s slot → vp ≠ key b → o < Config.pageBytes → pageByte (g s b) slot vp o = pageByte s slot vp o

theorem PagesKept.refl {slot : Nat} {s : State} (h : PagesApart s slot) : PagesKept slot s s := ⟨fun _ => rfl, rfl, h.form⟩

theorem PageStep.foldl {β : Type} {slot : Nat} {key : β → Nat} {sound : β → Prop} {g : State → β → State} (hg : PageStep slot key sound g)
    {l : List β} (hl : ∀ b ∈ l, sound b) {s : State} (h : PagesApart s slot) : PagesKept slot s (l.foldl g s)
    ∧ ∀ vp o, (∀ b ∈ l, vp ≠ key b) → o < Config.pageBytes → pageByte (l.foldl g s) slot vp o = pageByte s slot vp o := by
  induction l generalizing s with
  | nil => exact ⟨.refl h, fun _ _ _ _ => rfl⟩
  | cons b l ih =>
    have hsound := hl b List.mem_cons_self
    have hb := hg.kept s b hsound h
    obtain ⟨hkept, hbytes⟩ := ih (fun c hc => hl c (List.mem_cons_of_mem _ hc)) (h.kept hb)
    refine ⟨⟨fun vp => (hkept.places vp).trans (hb.places vp), hkept.wins.trans hb.wins, hkept.form⟩, fun vp o hvp ho => ?_⟩
    rw [List.foldl_cons, hbytes vp o (fun c hc => hvp c (List.mem_cons_of_mem _ hc)) ho,
      hg.other s b vp o hsound h (hvp b List.mem_cons_self) ho]

/-- What a run of steps that each write another page leaves in one of them: what its own step put there. -/
theorem PageStep.foldl_mem {β : Type} {slot : Nat} {key : β → Nat} {sound : β → Prop} {g : State → β → State} (hg : PageStep slot key sound g)
    {l : List β} (hl : ∀ b ∈ l, sound b) {s : State} (h : PagesApart s slot) (hkeys : (l.map key).Nodup) {b : β} (hb : b ∈ l) :
    ∃ v, PagesApart v slot ∧ (∀ vp, pageAt v slot vp = pageAt s slot vp)
      ∧ (∀ vp o, (∀ c ∈ l, vp ≠ key c) → o < Config.pageBytes → pageByte v slot vp o = pageByte s slot vp o)
      ∧ ∀ o < Config.pageBytes, pageByte (l.foldl g s) slot (key b) o = pageByte (g v b) slot (key b) o := by
  obtain ⟨l1, l2, rfl⟩ := List.append_of_mem hb
  obtain ⟨hkept, hbytes⟩ := hg.foldl (fun c hc => hl c (List.mem_append_left _ hc)) h
  have hv := h.kept hkept
  refine ⟨l1.foldl g s, hv, hkept.places, fun vp o hvp ho => hbytes vp o (fun c hc => hvp c (List.mem_append_left _ hc)) ho, fun o ho => ?_⟩
  rw [List.foldl_append, List.foldl_cons]
  refine (hg.foldl (fun c hc => hl c (List.mem_append_right _ (List.mem_cons_of_mem _ hc))) (hv.kept (hg.kept _ b (hl b hb) hv))).2 _ _
    (fun c hc heq => ?_) ho
  rw [List.map_append, List.map_cons] at hkeys
  exact (List.nodup_cons.mp (List.nodup_append.mp hkeys).2.1).1 (List.mem_map.mpr ⟨c, hc, heq.symm⟩)

/-! Copies -/

/-- What a copy of a mapped page over another leaves. -/
theorem copyPage_written {s : State} {slot src dst : Nat} {p q : Pte} (h : PagesApart s slot) (hp : s.pte slot src = some p)
    (hq : s.pte slot dst = some q) :
    PagesKept slot s (s.copyPage slot src dst)
    ∧ (∀ j o, j ≠ dst → o < Config.pageBytes → pageByte (s.copyPage slot src dst) slot j o = pageByte s slot j o)
    ∧ ∀ o < Config.pageBytes, pageByte (s.copyPage slot src dst) slot dst o = pageByte s slot src o := by
  have hmov : q.moving = none := h.still dst (q.frame, q.moving) (by rw [pageAt, hq]; rfl)
  have hrow : s.copyPage slot src dst = ((s.meetLines (p.frame * Config.pageBytes) Config.pageBytes).copyFrame p.frame q.frame).setPte slot dst
      { q with gen := (q.gen + 1) % addrTop } := by
    unfold State.copyPage
    rw [hp, hq]
    dsimp only
    rw [hmov]
  have hmet : Memory.wf (s.meetLines (p.frame * Config.pageBytes) Config.pageBytes).tiers.mem = true := by
    rw [(meetLines_found ..).2]
    exact h.form
  have hbyte := copyFrame_byte hmet p.frame q.frame
  obtain ⟨hkept, hother, hself⟩ := writtenPage h hq
    (v := (s.meetLines (p.frame * Config.pageBytes) Config.pageBytes).copyFrame p.frame q.frame) (meetLines_found ..).1
      (State.copyFrame_mem _ _ _ hmet)
    (fun a ha => by rw [hbyte, ha, if_neg (by decide), meetLines_byte]) ((q.gen + 1) % addrTop)
  rw [hrow]
  refine ⟨hkept, hother, fun o ho => ?_⟩
  rw [hself, hbyte, if_pos (inFrame_add ho), Nat.add_sub_cancel_left, meetLines_byte, pageByte_eq, pageAt, hp]
  rfl

theorem copyPage_unmapped {s : State} {slot src dst : Nat} (h : s.pte slot src = none ∨ s.pte slot dst = none) : s.copyPage slot src dst = s := by
  unfold State.copyPage
  split
  next a b ha hb => rcases h with h | h <;> simp_all
  · rfl

theorem copyPage_step (slot : Nat) : PageStep slot Prod.snd (fun _ => True) (fun s (p : Nat × Nat) => s.copyPage slot p.1 p.2) := by
  have hcase : ∀ (s : State) (p : Nat × Nat), PagesApart s slot → PagesKept slot s (s.copyPage slot p.1 p.2)
      ∧ ∀ j o, j ≠ p.2 → o < Config.pageBytes → pageByte (s.copyPage slot p.1 p.2) slot j o = pageByte s slot j o := by
    intro s p h
    cases ha : s.pte slot p.1 with
    | none =>
      rw [copyPage_unmapped (.inl ha)]
      exact ⟨.refl h, fun _ _ _ _ => rfl⟩
    | some a =>
      cases hb : s.pte slot p.2 with
      | none =>
        rw [copyPage_unmapped (.inr hb)]
        exact ⟨.refl h, fun _ _ _ _ => rfl⟩
      | some b =>
        obtain ⟨hkept, hother, -⟩ := copyPage_written h ha hb
        exact ⟨hkept, hother⟩
  exact ⟨fun s p _ h => (hcase s p h).1, fun s p vp o _ h hvp ho => (hcase s p h).2 vp o hvp ho⟩

/-! Pages from a mirror -/

theorem restorePage_written {s : State} {slot : Nat} {x : Nat × List (Nat × Byte)} {q : Pte} (h : PagesApart s slot) (hx : PageList x.2)
    (hq : s.pte slot x.1 = some q) :
    PagesKept slot s (restorePage slot s x)
    ∧ (∀ j o, j ≠ x.1 → o < Config.pageBytes → pageByte (restorePage slot s x) slot j o = pageByte s slot j o)
    ∧ ∀ o < Config.pageBytes, pageByte (restorePage slot s x) slot x.1 o = some (Tbl.get 0#8 x.2 o) := by
  have hmov : q.moving = none := h.still x.1 (q.frame, q.moving) (by rw [pageAt, hq]; rfl)
  have hrow : restorePage slot s x = (s.fillFrame q.frame x.2).setPte slot x.1 { q with gen := (q.gen + 1) % addrTop } := by
    unfold restorePage
    rw [hq]
    dsimp only
    rw [hmov]
  have hbyte := fillFrame_byte h.form hx q.frame
  obtain ⟨hkept, hother, hself⟩ := writtenPage h hq (v := s.fillFrame q.frame x.2) rfl (State.fillFrame_mem _ _ _ h.form)
    (fun a ha => by rw [hbyte, ha, if_neg (by decide)]) ((q.gen + 1) % addrTop)
  rw [hrow]
  refine ⟨hkept, hother, fun o ho => ?_⟩
  rw [hself, hbyte, if_pos (inFrame_add ho), Nat.add_sub_cancel_left]

theorem restorePage_unmapped {s : State} {slot : Nat} {x : Nat × List (Nat × Byte)} (h : s.pte slot x.1 = none) : restorePage slot s x = s := by
  unfold restorePage
  rw [h]

theorem restorePage_step (slot : Nat) : PageStep slot Prod.fst (fun x => PageList x.2) (restorePage slot) := by
  have hcase : ∀ (s : State) (x : Nat × List (Nat × Byte)), PageList x.2 → PagesApart s slot → PagesKept slot s (restorePage slot s x)
      ∧ ∀ j o, j ≠ x.1 → o < Config.pageBytes → pageByte (restorePage slot s x) slot j o = pageByte s slot j o := by
    intro s x hx h
    cases hq : s.pte slot x.1 with
    | none =>
      rw [restorePage_unmapped hq]
      exact ⟨.refl h, fun _ _ _ _ => rfl⟩
    | some q =>
      obtain ⟨hkept, hother, -⟩ := restorePage_written h hx hq
      exact ⟨hkept, hother⟩
  exact ⟨fun s x hx h => (hcase s x hx h).1, fun s x vp o hx h hvp ho => (hcase s x hx h).2 vp o hvp ho⟩

theorem pageAt_isSome {s : State} {slot vp : Nat} (h : (pageAt s slot vp).isSome = true) : ∃ p, s.pte slot vp = some p := by
  cases hp : s.pte slot vp with
  | none => simp [pageAt, hp] at h
  | some p => exact ⟨p, rfl⟩

/-- The pages of a mirror, each in its own frame: every mapped one reads as its copy. -/
theorem restoreMirror_bytes {s : State} {slot : Nat} {l : List (Nat × List (Nat × Byte))} (h : PagesApart s slot) (hl : ∀ x ∈ l, PageList x.2)
    (hkeys : (l.map Prod.fst).Nodup) : PagesKept slot s (l.foldl (restorePage slot) s)
    ∧ ∀ x ∈ l, ∀ o < Config.pageBytes, (s.pte slot x.1).isSome = true →
      pageByte (l.foldl (restorePage slot) s) slot x.1 o = some (Tbl.get 0#8 x.2 o) := by
  refine ⟨((restorePage_step slot).foldl hl h).1, fun x hx o ho hmap => ?_⟩
  obtain ⟨v, hv, hplaces, -, hlast⟩ := (restorePage_step slot).foldl_mem hl h hkeys hx
  obtain ⟨q, hq⟩ := pageAt_isSome (s := v) (slot := slot) (vp := x.1) (by rw [hplaces, pageAt, Option.isSome_map]; exact hmap)
  exact (hlast o ho).trans ((restorePage_written hv (hl x hx) hq).2.2 o ho)

/-- The pages of a starfix area, none of them a page that is restored: every mapped page reads as its copy. -/
theorem restoreLocal_bytes {s : State} {slot : Nat} {l : List (Nat × Nat)} (h : PagesApart s slot) (hkeys : (l.map Prod.snd).Nodup)
    (hsrc : ∀ p ∈ l, (s.pte slot p.1).isSome = true ∧ p.1 ∉ l.map Prod.snd) :
    PagesKept slot s (l.foldl (fun u p => u.copyPage slot p.1 p.2) s)
    ∧ ∀ p ∈ l, ∀ o < Config.pageBytes, (s.pte slot p.2).isSome = true →
      pageByte (l.foldl (fun u p => u.copyPage slot p.1 p.2) s) slot p.2 o = pageByte s slot p.1 o := by
  have hall : ∀ p ∈ l, True := fun _ _ => trivial
  refine ⟨((copyPage_step slot).foldl hall h).1, fun p hp o ho hmap => ?_⟩
  obtain ⟨v, hv, hplaces, hbytes, hlast⟩ := (copyPage_step slot).foldl_mem hall h hkeys hp
  obtain ⟨a, ha⟩ := pageAt_isSome (s := v) (slot := slot) (vp := p.1) (by rw [hplaces, pageAt, Option.isSome_map]; exact (hsrc p hp).1)
  obtain ⟨b, hb⟩ := pageAt_isSome (s := v) (slot := slot) (vp := p.2) (by rw [hplaces, pageAt, Option.isSome_map]; exact hmap)
  refine (hlast o ho).trans (((copyPage_written hv ha hb).2.2 o ho).trans (hbytes p.1 o (fun c hc heq => ?_) ho))
  exact (hsrc p hp).2 (List.mem_map.mpr ⟨c, hc, heq.symm⟩)

end Sys2Proof
end

section
/-! Windows put back at a recorded position (12 R385, 06 R195). -/

namespace Sys2Proof

open Sys2Proof.Machine

/-- What a restore leaves of a window: whose it is, its view and its frames. -/
def winShape (w : SWin) : Nat × Nat × List Nat × Nat × Nat := (w.slot, w.view, w.frames, w.depth, w.slotPages)

/-- A window at a recorded position, its slots holding the entries that come before it. -/
def placedWin (pos : Nat) (w : SWin) : SWin :=
  (List.range w.depth).foldl (fun v j =>
    let p := pos - w.depth + j
    if p < pos then { v with entryIn := Tbl.put v.entryIn (p % w.depth) p } else v)
    { w with pos := pos, copying := none, held := decide (0 < pos) && decide (pos % w.list.length = 0) }

theorem placedWin_row (pos : Nat) (w : SWin) : (placedWin pos w).pos = pos ∧ winShape (placedWin pos w) = winShape w := by
  have hfold : ∀ (l : List Nat) (v : SWin), let u := l.foldl (fun v j =>
      let p := pos - w.depth + j
      if p < pos then { v with entryIn := Tbl.put v.entryIn (p % w.depth) p } else v) v
      u.pos = v.pos ∧ winShape u = winShape v := by
    intro l
    induction l with
    | nil => exact fun v => ⟨rfl, rfl⟩
    | cons j l ih =>
      intro v
      obtain ⟨hpos, hshape⟩ := ih (if pos - w.depth + j < pos then
        { v with entryIn := Tbl.put v.entryIn ((pos - w.depth + j) % w.depth) (pos - w.depth + j) } else v)
      refine ⟨hpos.trans ?_, hshape.trans ?_⟩ <;> split <;> rfl
  exact hfold _ _

theorem copyWinPage_plan (w : SWin) (u : State) (pg : Nat) : (copyWinPage w u pg).tiers.plan = u.tiers.plan := by
  unfold copyWinPage
  split
  · exact copyIn_plan ..
  · rfl

theorem restoreWin_none {s : State} {slot : Nat} {r : Nat × Nat} (h : s.winAt slot r.1 = none) : restoreWin slot s r = s := by
  unfold restoreWin
  rw [h]

/-- What the restore of a window leaves: the window at its position, the page tables, and every byte outside its frames. -/
theorem restoreWin_row {s : State} {slot k : Nat} {r : Nat × Nat} {w : SWin} (h : s.winAt slot r.1 = some (k, w))
    (hwhole : w.frames.length = w.depth * w.slotPages) (hmem : Memory.wf s.tiers.mem = true) :
    let u := restoreWin slot s r
    (∃ v, u.tiers.wins = s.tiers.wins.set k v ∧ v.pos = r.2 ∧ winShape v = winShape w) ∧ u.tiers.pt = s.tiers.pt ∧ Memory.wf u.tiers.mem = true
    ∧ ∀ a, (∀ f ∈ w.frames, inFrame f a = false) → byteAt u a = byteAt s a := by
  obtain ⟨hpos, hshape⟩ := placedWin_row r.2 w
  have hrow : ∃ pages, restoreWin slot s r
      = (List.range (w.depth * w.slotPages)).foldl (copyWinPage (placedWin r.2 w)) (s.setSwin k { placedWin r.2 w with pages := pages }) := by
    unfold restoreWin
    rw [h]
    exact ⟨_, rfl⟩
  obtain ⟨pages, hrow⟩ := hrow
  have hplan : (restoreWin slot s r).tiers.plan = (s.setSwin k { placedWin r.2 w with pages := pages }).tiers.plan := by
    rw [hrow]
    exact foldl_keeps (fun u : State => u.tiers.plan) _ _ _ fun u pg => copyWinPage_plan ..
  obtain ⟨hwins, hpt, -⟩ := Tiers.plan_rows hplan
  have hframes : (placedWin r.2 w).frames = w.frames := congrArg (fun q => q.2.2.1) hshape
  refine ⟨⟨_, hwins, hpos, hshape⟩, hpt, restoreWin_mem _ _ _ hmem, fun a ha => ?_⟩
  have hfold : ∀ (l : List Nat) (u : State), (∀ i ∈ l, i < w.frames.length) →
      byteAt (l.foldl (copyWinPage (placedWin r.2 w)) u) a = byteAt u a := by
    intro l
    induction l with
    | nil => exact fun _ _ => rfl
    | cons i l ih =>
      intro u hl
      rw [List.foldl_cons, ih _ fun j hj => hl j (List.mem_cons_of_mem _ hj)]
      refine copyWinPage_byte _ _ _ (ha _ ?_)
      have hi := hl i List.mem_cons_self
      rw [hframes, List.getD_eq_getElem _ _ hi]
      exact List.getElem_mem hi
  rw [hrow, hfold _ _ fun i hi => by rw [hwhole]; exact List.mem_range.mp hi]
  rfl

/-! Which window a view names -/

theorem winAt_index (s : State) (slot view : Nat) :
    (s.winAt slot view).map Prod.fst = s.tiers.wins.findIdx? fun w => decide (w.slot = slot) && decide (w.view = view) := by
  unfold State.winAt
  rw [Option.map_map, List.findIdx?_eq_fst_find?_zipIdx]
  rfl

/-- A view names the same place in two states whose windows have the same shapes. -/
theorem winAt_shapes {s u : State} (h : u.tiers.wins.map winShape = s.tiers.wins.map winShape) (slot view : Nat) :
    (u.winAt slot view).map Prod.fst = (s.winAt slot view).map Prod.fst := by
  have hshape : ∀ v : State, (v.winAt slot view).map Prod.fst
      = (v.tiers.wins.map winShape).findIdx? fun q => decide (q.1 = slot) && decide (q.2.1 = view) := fun v => by
    rw [winAt_index, List.findIdx?_map]
    rfl
  rw [hshape, hshape, h]

theorem winAt_view {s : State} {slot view k : Nat} {w : SWin} (h : s.winAt slot view = some (k, w)) : w.view = view := by
  unfold State.winAt at h
  obtain ⟨q, hfind, hq⟩ := Option.map_eq_some_iff.mp h
  obtain ⟨-, rfl⟩ := Prod.mk.inj hq
  have hmatch := List.find?_some hfind
  simp only [Bool.and_eq_true, decide_eq_true_eq] at hmatch
  exact hmatch.2

/-! All windows of a context -/

/-- What restores of windows leave: the shapes of the windows, the page tables, and every byte outside the windows' frames. -/
structure WinsKept (s u : State) : Prop where
  shapes : u.tiers.wins.map winShape = s.tiers.wins.map winShape
  pt : u.tiers.pt = s.tiers.pt
  form : Memory.wf u.tiers.mem = true
  bytes : ∀ a, (∀ w ∈ s.tiers.wins, ∀ f ∈ w.frames, inFrame f a = false) → byteAt u a = byteAt s a

theorem shape_of_mem {l m : List SWin} (h : m.map winShape = l.map winShape) {v : SWin} (hv : v ∈ m) : ∃ w ∈ l, winShape w = winShape v := by
  have hmem : winShape v ∈ l.map winShape := h ▸ List.mem_map_of_mem hv
  exact List.mem_map.mp hmem

/-- Each window holds its frames. -/
def WholeWins (s : State) : Prop := ∀ w ∈ s.tiers.wins, w.frames.length = w.depth * w.slotPages

theorem WholeWins.kept {s u : State} (h : WholeWins s) (hk : WinsKept s u) : WholeWins u := by
  intro v hv
  obtain ⟨w, hw, hshape⟩ := shape_of_mem hk.shapes hv
  simp only [winShape, Prod.mk.injEq] at hshape
  obtain ⟨-, -, hframes, hdepth, hpages⟩ := hshape
  rw [← hframes, ← hdepth, ← hpages]
  exact h w hw

theorem WinsKept.trans {s u v : State} (h : WinsKept s u) (k : WinsKept u v) : WinsKept s v where
  shapes := k.shapes.trans h.shapes
  pt := k.pt.trans h.pt
  form := k.form
  bytes a ha := by
    refine (k.bytes a fun x hx f hf => ?_).trans (h.bytes a ha)
    obtain ⟨w, hw, hshape⟩ := shape_of_mem h.shapes hx
    have hframes : w.frames = x.frames := congrArg (fun q => q.2.2.1) hshape
    exact ha w hw f (by rw [hframes]; exact hf)

theorem restoreWin_kept (slot : Nat) (r : Nat × Nat) {s : State} (hwhole : WholeWins s) (hmem : Memory.wf s.tiers.mem = true) :
    WinsKept s (restoreWin slot s r) := by
  cases hat : s.winAt slot r.1 with
  | none =>
    rw [restoreWin_none hat]
    exact ⟨rfl, rfl, hmem, fun _ _ => rfl⟩
  | some q =>
    obtain ⟨k, w⟩ := q
    have hplace := winAt_place hat
    have hin := List.mem_of_getElem? hplace
    obtain ⟨⟨v, hwins, -, hshape⟩, hpt, hform, hbytes⟩ := restoreWin_row hat (hwhole w hin) hmem
    refine ⟨?_, hpt, hform, fun a ha => hbytes a (ha w hin)⟩
    rw [hwins, List.map_set, hshape]
    refine List.ext_getElem? fun j => ?_
    by_cases hj : j = k
    · subst hj
      obtain ⟨hlt, hget⟩ := List.getElem?_eq_some_iff.mp hplace
      rw [List.getElem?_set_self (by rw [List.length_map]; exact hlt), List.getElem?_map, hplace]
      rfl
    · rw [List.getElem?_set_ne (Ne.symm hj)]

/-- A restore of the window of another view leaves a window as it is. -/
theorem restoreWin_other {s : State} {slot view k : Nat} {r : Nat × Nat} {w : SWin} (hview : r.1 ≠ view) (hat : s.winAt slot view = some (k, w))
    (hwhole : WholeWins s) (hmem : Memory.wf s.tiers.mem = true) : (restoreWin slot s r).tiers.wins[k]? = some w := by
  have hplace := winAt_place hat
  cases hr : s.winAt slot r.1 with
  | none =>
    rw [restoreWin_none hr]
    exact hplace
  | some q =>
    obtain ⟨j, x⟩ := q
    have hx := winAt_place hr
    obtain ⟨⟨v, hwins, -, -⟩, -, -, -⟩ := restoreWin_row hr (hwhole x (List.mem_of_getElem? hx)) hmem
    have hne : j ≠ k := by
      rintro rfl
      obtain rfl := Option.some.inj (hx.symm.trans hplace)
      exact hview ((winAt_view hr).symm.trans (winAt_view hat))
    rw [hwins, List.getElem?_set_ne hne]
    exact hplace

/-- The place that a view names, after windows were restored. -/
theorem winAt_kept {s u : State} (hk : WinsKept s u) {slot view k : Nat} {w : SWin} (hat : s.winAt slot view = some (k, w)) :
    ∃ v, u.winAt slot view = some (k, v) := by
  have hfst := winAt_shapes hk.shapes slot view
  rw [hat, Option.map_some, Option.map_eq_some_iff] at hfst
  obtain ⟨⟨j, v⟩, hv, rfl⟩ := hfst
  exact ⟨v, hv⟩

theorem restoreWins_kept (slot : Nat) (l : List (Nat × Nat)) {s : State} (hwhole : WholeWins s) (hmem : Memory.wf s.tiers.mem = true) :
    WinsKept s (l.foldl (restoreWin slot) s) := by
  induction l generalizing s with
  | nil => exact ⟨rfl, rfl, hmem, fun _ _ => rfl⟩
  | cons r l ih =>
    have hr := restoreWin_kept slot r hwhole hmem
    exact hr.trans (ih (hwhole.kept hr) hr.form)

theorem restoreWins_other {slot view k : Nat} {w : SWin} (l : List (Nat × Nat)) (hl : view ∉ l.map Prod.fst) {s : State} {x : SWin}
    (hat : s.winAt slot view = some (k, x)) (hplace : s.tiers.wins[k]? = some w)
    (hwhole : WholeWins s) (hmem : Memory.wf s.tiers.mem = true) : (l.foldl (restoreWin slot) s).tiers.wins[k]? = some w := by
  induction l generalizing s x with
  | nil => exact hplace
  | cons r l ih =>
    rw [List.map_cons, List.mem_cons, not_or] at hl
    obtain ⟨hview, hrest⟩ := hl
    have hr := restoreWin_kept slot r hwhole hmem
    obtain rfl := Option.some.inj ((winAt_place hat).symm.trans hplace)
    obtain ⟨v, hv⟩ := winAt_kept hr hat
    exact ih hrest hv (restoreWin_other (Ne.symm hview) hat hwhole hmem) (hwhole.kept hr) hr.form

/-- Windows of views that are recorded once each stand at their recorded positions. -/
theorem restoreWins_pos {slot : Nat} (l : List (Nat × Nat)) (hl : (l.map Prod.fst).Nodup) {s : State} (hwhole : WholeWins s)
    (hmem : Memory.wf s.tiers.mem = true) {r : Nat × Nat} (hr : r ∈ l) {k : Nat} {w : SWin} (hat : s.winAt slot r.1 = some (k, w)) :
    ∃ v, (l.foldl (restoreWin slot) s).tiers.wins[k]? = some v ∧ v.pos = r.2 := by
  induction l generalizing s w with
  | nil => exact absurd hr List.not_mem_nil
  | cons q l ih =>
    obtain ⟨hq, hnodup⟩ := List.nodup_cons.mp hl
    have hkept := restoreWin_kept slot q hwhole hmem
    obtain ⟨x, hx⟩ := winAt_kept hkept hat
    rcases List.mem_cons.mp hr with rfl | hmem'
    · have hplace := winAt_place hat
      obtain ⟨⟨v, hwins, hpos, -⟩, -, -, -⟩ := restoreWin_row hat (hwhole w (List.mem_of_getElem? hplace)) hmem
      obtain ⟨hlt, -⟩ := List.getElem?_eq_some_iff.mp hplace
      exact ⟨v, restoreWins_other l hq hx (by rw [hwins, List.getElem?_set_self hlt]) (hwhole.kept hkept) hkept.form, hpos⟩
    · exact ih hnodup (hwhole.kept hkept) hkept.form hmem' hx

end Sys2Proof
end

section
/-! What a restore leaves of its context: the positions, counters and streams of the starfix, and its pages (12 R385, R387). -/

namespace Sys2Proof

open Sys2Proof.Machine

/-! Counters -/

/-- A list written where nothing was listed reads back, with the default behind its end. -/
theorem Tbl.get_writeList_unlisted {α : Type} [DecidableEq α] {d : α} (vs : List α) {t : Tbl α} {k n : Nat}
    (h : ∀ p ∈ t, p.1 < k ∨ k + n ≤ p.1) {i : Nat} (hi : i < n) : Tbl.get d (Tbl.writeList d t k vs) (k + i) = vs.getD i d := by
  induction vs generalizing t k n i with
  | nil => exact Tbl.get_of_not_listed d fun p hp => by have := h p hp; omega
  | cons v vs ih =>
    cases i with
    | zero =>
      rw [Tbl.writeList, Tbl.get_writeList_other d vs _ (by omega), Nat.add_zero, List.getD_cons_zero]
      unfold Tbl.write
      split
      next hv =>
        rw [hv]
        exact Tbl.get_of_not_listed d fun p hp => by have := h p (Tbl.mem_drop hp); omega
      · exact Tbl.get_put_same ..
    | succ i =>
      have hrest : ∀ p ∈ Tbl.write d t k v, p.1 < k + 1 ∨ k + 1 + (n - 1) ≤ p.1 := by
        intro p hp
        unfold Tbl.write at hp
        split at hp
        · have := h p (Tbl.mem_drop hp)
          omega
        · rcases Tbl.mem_put hp with rfl | hp
          · exact .inl (Nat.lt_succ_self _)
          · have := h p hp
            omega
      rw [Tbl.writeList, show k + (i + 1) = k + 1 + i by omega, ih hrest (by omega), List.getD_cons_succ]

theorem restoreCtrs_counter (slot : Nat) (l : List Nat) (s : State) {k : Nat} (hk : k < (s.ctx slot).desc.ctrCount) :
    (restoreCtrs slot l s).counter ((s.ctx slot).desc.ctrBase + k) = l.getD k 0 := by
  have hclear : ∀ p ∈ Tbl.clear s.counters (s.ctx slot).desc.ctrBase (s.ctx slot).desc.ctrCount,
      p.1 < (s.ctx slot).desc.ctrBase ∨ (s.ctx slot).desc.ctrBase + (s.ctx slot).desc.ctrCount ≤ p.1 := fun p hp => by
    have := (List.mem_filter.mp hp).2
    simpa using this
  refine (Tbl.get_writeList_unlisted (d := 0) _ hclear hk).trans ?_
  rw [List.getD_eq_getElem?_getD, List.getD_eq_getElem?_getD, List.getElem?_take_of_lt hk]

/-! Connections that open afresh -/

theorem report_body (s : State) (q : Nat) (t : Started) (status bytes j : Nat) : ((s.report q t status bytes).ctx j).body = (s.ctx j).body := by
  have hwrite : ∀ (b : Bool) (va : Nat) (bs : List Byte), ((if b = true then s.writeVA t.slot va bs else s).ctx j).body = (s.ctx j).body := by
    intro b va bs
    split
    · exact writeVA_body ..
    · rfl
  unfold State.report
  dsimp only
  split
  · split
    · rw [ctx_logEv]
      exact hwrite ..
    · exact hwrite ..
  split
  · rw [ctx_logEv]
  split
  · rw [raiseRel_body]
    exact hwrite ..
  · exact hwrite ..

theorem dwtComplete_body (s : State) (q num status bytes j : Nat) : ((s.dwtComplete q num status bytes).ctx j).body = (s.ctx j).body := by
  unfold State.dwtComplete
  dsimp only
  split
  · rfl
  · exact report_body ..

theorem failOps_body (cn status : Nat) (s : State) (j : Nat) : ((failOps cn status s).ctx j).body = (s.ctx j).body :=
  foldl_body (fun u _ j => dwtComplete_body u _ _ _ _ j) (s.conn cn).ops _ j

theorem endConn_body (slot : Nat) (s : State) (p : Nat × ConnDesc) (j : Nat) : ((endConn slot s p).ctx j).body = (s.ctx j).body := by
  unfold endConn
  split
  · exact failOps_body ..
  · rfl

/-- With no operation on it a connection's end touches the window transport alone. -/
theorem endConn_idle (slot : Nat) {s : State} {p : Nat × ConnDesc} (h : (s.conn p.1).ops = []) :
    (endConn slot s p).tiers = s.tiers ∧ (endConn slot s p).ctxs = s.ctxs
      ∧ ∀ cn, (s.conn cn).ops = [] → ((endConn slot s p).conn cn).ops = [] := by
  unfold endConn
  split
  · unfold failOps
    dsimp only
    rw [h]
    refine ⟨rfl, rfl, fun cn hcn => ?_⟩
    by_cases hne : cn = p.1
    · rw [hne, List.foldl_nil, State.conn_setConn_self]
    · rw [List.foldl_nil, State.conn_setConn_ne _ _ hne]
      exact hcn
  · exact ⟨rfl, rfl, fun _ hcn => hcn⟩

theorem endConns_idle (slot : Nat) (l : List (Nat × ConnDesc)) {s : State} (h : ∀ p ∈ l, (s.conn p.1).ops = []) :
    (l.foldl (endConn slot) s).tiers = s.tiers ∧ (l.foldl (endConn slot) s).ctxs = s.ctxs := by
  induction l generalizing s with
  | nil => exact ⟨rfl, rfl⟩
  | cons p l ih =>
    obtain ⟨htiers, hctxs, hops⟩ := endConn_idle slot (h p List.mem_cons_self)
    obtain ⟨htiers', hctxs'⟩ := ih fun q hq => hops q.1 (h q (List.mem_cons_of_mem _ hq))
    exact ⟨htiers'.trans htiers, hctxs'.trans hctxs⟩

/-! The state from which the pages are restored -/

/-- A context off its cores, its connections that open afresh with nothing in flight: what `restoreFrom` restores from. -/
def clearedFor (slot : Nat) (x : Starfix) (s : State) : State :=
  x.conns.foldl (endConn slot) (dropCores slot (if s.resident slot then noteSwitch slot s else s))

theorem leftCores_same (slot : Nat) (s : State) :
    let u := dropCores slot (if s.resident slot then noteSwitch slot s else s)
    u.tiers = s.tiers ∧ u.ctxs = s.ctxs ∧ u.dwt = s.dwt ∧ u.counters = s.counters := by
  dsimp only
  split <;> exact ⟨rfl, rfl, rfl, rfl⟩

theorem clearedFor_desc (slot : Nat) (x : Starfix) (s : State) : ((clearedFor slot x s).ctx slot).desc = (s.ctx slot).desc := by
  have hbody : ((clearedFor slot x s).ctx slot).body = (s.ctx slot).body := by
    unfold clearedFor
    rw [foldl_body fun u p j => endConn_body slot u p j, ctx_of_ctxs (leftCores_same slot s).2.1]
  have ⟨_, _, _, hdesc, _⟩ := Ctx.body_rows hbody
  exact hdesc

theorem clearedFor_idle (slot : Nat) {x : Starfix} {s : State} (h : ∀ p ∈ x.conns, (s.conn p.1).ops = []) :
    (clearedFor slot x s).tiers = s.tiers ∧ (clearedFor slot x s).ctxs = s.ctxs := by
  obtain ⟨htiers, hctxs, hdwt, -⟩ := leftCores_same slot s
  obtain ⟨htiers', hctxs'⟩ := endConns_idle slot x.conns (s := dropCores slot (if s.resident slot then noteSwitch slot s else s)) fun p hp => by
    rw [State.conn, hdwt]
    exact h p hp
  exact ⟨htiers'.trans htiers, hctxs'.trans hctxs⟩

/-! Pages -/

/-- The pairs of pages that a restore from the starfix area copies: where each copy lies, and the page. -/
def areaPairs (d : RcvDesc) (x : Starfix) : List (Nat × Nat) :=
  x.pages.zipIdx.map fun p => (d.slotPage x.half + recordPages + p.2, p.1.1)

theorem areaPairs_snd (d : RcvDesc) (x : Starfix) : (areaPairs d x).map Prod.snd = x.pages.map Prod.fst := by
  have hfst : x.pages.map Prod.fst = (x.pages.zipIdx.map Prod.fst).map Prod.fst := by rw [List.zipIdx_map_fst]
  unfold areaPairs
  rw [hfst, List.map_map, List.map_map]
  rfl

theorem restorePages_area {slot : Nat} {x : Starfix} {s : State} {d : RcvDesc} (hd : (s.ctx slot).rcv.desc = some d) :
    restorePages slot false x s = (areaPairs d x).foldl (fun u p => u.copyPage slot p.1 p.2) s := by
  unfold restorePages areaPairs
  rw [hd, List.foldl_map]

theorem GoodStarfix.lists {z : State} {slot : Nat} {x : Starfix} (h : GoodStarfix z slot x) : ∀ p ∈ x.pages, PageList p.2 := fun p hp =>
  have ⟨hwf, hbelow⟩ := h.bytes p hp
  ⟨hwf, hbelow⟩

theorem restorePages_kept {slot : Nat} {mirror : Bool} {x : Starfix} {s : State} (h : PagesApart s slot) (hx : ∀ p ∈ x.pages, PageList p.2) :
    PagesKept slot s (restorePages slot mirror x s) := by
  cases mirror with
  | true => exact ((restorePage_step slot).foldl hx h).1
  | false =>
    cases hd : (s.ctx slot).rcv.desc with
    | some d =>
      rw [restorePages_area hd]
      exact ((copyPage_step slot).foldl (fun _ _ => trivial) h).1
    | none =>
      have hrow : restorePages slot false x s = x.pages.foldl (restorePage slot) s := by
        unfold restorePages
        rw [hd]
      rw [hrow]
      exact ((restorePage_step slot).foldl hx h).1

/-- A page that lies in no window's frame reads as it did before windows were restored. -/
theorem pageByte_winsKept {s u : State} (hk : WinsKept s u) {slot vp o : Nat} (ho : o < Config.pageBytes)
    (hplain : ∀ q, pageAt s slot vp = some q → ∀ w ∈ s.tiers.wins, q.1 ∉ w.frames) : pageByte u slot vp o = pageByte s slot vp o := by
  have hat : pageAt u slot vp = pageAt s slot vp := by rw [pageAt, State.pte, hk.pt, pageAt, State.pte]
  rw [pageByte_eq, pageByte_eq, hat]
  cases hq : pageAt s slot vp with
  | none => rfl
  | some q =>
    have hapart : ∀ w ∈ s.tiers.wins, ∀ f ∈ w.frames, inFrame f (q.1 * Config.pageBytes + o) = false := fun w hw f hf =>
      inFrame_ne (fun heq => hplain q hq w hw (by rw [heq]; exact hf)) (inFrame_add ho)
    rw [Option.map_some, Option.map_some, hk.bytes _ hapart]

/-! The whole restore -/

/-- The state in which the context's record is restored. -/
def restoredRest (slot encl : Nat) (mirror : Bool) (x : Starfix) (s : State) : State :=
  let s2 := restorePages slot mirror x (clearedFor slot x s)
  let s3 := x.winPos.foldl (restoreWin slot) (restoreCtrs slot x.counters s2)
  x.conns.foldl (restoreConn slot encl) (restoreDwtWins slot x s3)

theorem restoredRest_counter (slot encl : Nat) (mirror : Bool) (x : Starfix) (s : State) {k : Nat} (hk : k < (s.ctx slot).desc.ctrCount) :
    (restoredRest slot encl mirror x s).counter ((s.ctx slot).desc.ctrBase + k) = x.counters.getD k 0 := by
  have hcounters : (restoredRest slot encl mirror x s).counters
      = (restoreCtrs slot x.counters (restorePages slot mirror x (clearedFor slot x s))).counters := by simp [restoredRest]
  have hdesc : ((restorePages slot mirror x (clearedFor slot x s)).ctx slot).desc = (s.ctx slot).desc := by
    rw [ctx_of_ctxs (by simp : (restorePages slot mirror x (clearedFor slot x s)).ctxs = (clearedFor slot x s).ctxs), clearedFor_desc]
  have hctr := restoreCtrs_counter slot x.counters (restorePages slot mirror x (clearedFor slot x s)) (k := k) (by rw [hdesc]; exact hk)
  rw [hdesc] at hctr
  rw [State.counter, hcounters]
  exact hctr

theorem restoredRest_tiers (slot encl : Nat) (mirror : Bool) (x : Starfix) (s : State) : (restoredRest slot encl mirror x s).tiers
    = (x.winPos.foldl (restoreWin slot) (restoreCtrs slot x.counters (restorePages slot mirror x (clearedFor slot x s)))).tiers := by
  simp [restoredRest]

/-- The context's record after a restore. -/
def restoredCtx (mirror : Bool) (x : Starfix) (v : State) (slot : Nat) : Ctx :=
  let c := v.ctx slot
  let resume := fun t : Stream => if t.st = .atMeridian then { t with st := .running, atSync := false } else t
  let streams := x.streams.map fun p => (p.1, { p.2 with f := resume p.2.f, b := resume p.2.b, u := resume p.2.u })
  let y := { x with committed := true }
  { c with
    st := .ready, s := x.s + 1, saved := streams, perm := x.perm, raise := [], opened := []
    faulting := false, held := false, mismatch := false, switchOut := false, preempt := false, cause := 0, faultCore := 0, faultStream := 0
    flags := if x.reference.isNone then 4 else 0
    colls := [], early := [], collNext := 0, pmap := none, folded := false
    rcv := { c.rcv with undo := [], undoFull := false, protect := v.covered slot, mCores := streams, mCounters := x.counters,
                        mPerm := x.perm, verify := x.reference, verifying := x.reference.isSome, copying := none, touched := false, others := [],
                        lastMer := none, copyTimes := [], copied := false, toMeasure := false
                        committedStep := some x.step, starfixes := if mirror then [] else [y] } }

theorem restoreFrom_rest (slot encl : Nat) (mirror : Bool) (x : Starfix) (s : State) : restoreFrom slot encl mirror x s
    = (restoredRest slot encl mirror x s).setCtx slot (restoredCtx mirror x (restoredRest slot encl mirror x s) slot) := rfl

/-- A stream that stood at its meridian runs on. -/
def resumed (t : Stream) : Stream := if t.st = .atMeridian then { t with st := .running, atSync := false } else t

theorem resumed_place (t : Stream) : (resumed t).pc = t.pc ∧ (resumed t).xs = t.xs ∧ (resumed t).loops = t.loops ∧ (resumed t).srcId = t.srcId := by
  unfold resumed
  split <;> exact ⟨rfl, rfl, rfl, rfl⟩

/-- The streams of a restored core state. -/
def resumedCore (l : CoreCtx) : CoreCtx := { l with f := resumed l.f, b := resumed l.b, u := resumed l.u }

theorem restoredCtx_streams (mirror : Bool) (x : Starfix) (v : State) (slot n : Nat) (st : StrmId) :
    let a := (Tbl.get {} (restoredCtx mirror x v slot).saved n).strm st
    let b := (Tbl.get {} x.streams n).strm st
    a.pc = b.pc ∧ a.xs = b.xs ∧ a.loops = b.loops ∧ a.srcId = b.srcId := by
  have hsaved : Tbl.get {} (restoredCtx mirror x v slot).saved n = resumedCore (Tbl.get {} x.streams n) := by
    have h := Tbl.get_map ({} : CoreCtx) resumedCore x.streams n
    rwa [show resumedCore {} = {} from rfl] at h
  dsimp only
  rw [hsaved]
  cases st <;> exact resumed_place _

/-- What a restore leaves of the windows and pages of a slot in order. -/
theorem restoredRest_data {slot encl : Nat} {mirror : Bool} {x : Starfix} {z : State} (hx : GoodStarfix z slot x) (hown : OwnFrames z slot)
    (hmem : Memory.wf z.tiers.mem = true) (hops : ∀ p ∈ x.conns, (z.conn p.1).ops = []) :
    let u := restoredRest slot encl mirror x z
    (∀ r ∈ x.winPos, ∀ k w, z.winAt slot r.1 = some (k, w) → ∃ v, u.tiers.wins[k]? = some v ∧ v.pos = r.2)
    ∧ (mirror = true → ∀ p ∈ x.pages, ∀ o < Config.pageBytes, (z.pte slot p.1).isSome = true →
        pageByte u slot p.1 o = some (Tbl.get 0#8 p.2 o))
    ∧ (mirror = false → ∀ d, (z.ctx slot).rcv.desc = some d →
        let at_ := fun i => d.slotPage x.half + recordPages + i
        (∀ i < x.pages.length, (z.pte slot (at_ i)).isSome = true ∧ z.viewAt slot (at_ i) = none ∧ at_ i ∉ x.pages.map Prod.fst) →
        ∀ i p, x.pages[i]? = some p → (z.pte slot p.1).isSome = true → ∀ o < Config.pageBytes,
          pageByte u slot p.1 o = pageByte z slot (at_ i) o) := by
  intro u
  obtain ⟨htiers, hctxs⟩ := clearedFor_idle slot hops
  generalize hv : clearedFor slot x z = v at htiers hctxs
  have hapart : PagesApart v slot := by
    have hz := PagesApart.ofOwnFrames hown hmem
    exact ⟨by rw [htiers]; exact hz.form, fun a b p q ha hb => hz.apart a b p q (by rw [pageAt, State.pte, ← htiers]; exact ha)
      (by rw [pageAt, State.pte, ← htiers]; exact hb), fun a p ha => hz.still a p (by rw [pageAt, State.pte, ← htiers]; exact ha)⟩
  have hkept : PagesKept slot v (restorePages slot mirror x v) := restorePages_kept hapart hx.lists
  have hwhole : WholeWins (restoreCtrs slot x.counters (restorePages slot mirror x v)) := by
    intro w hw
    exact hown.whole w (by rw [← htiers, ← hkept.wins]; exact hw)
  have hwins : WinsKept (restorePages slot mirror x v) (x.winPos.foldl (restoreWin slot) (restoreCtrs slot x.counters
    (restorePages slot mirror x v))) := by
    have h := restoreWins_kept slot x.winPos hwhole hkept.form
    exact ⟨h.shapes, h.pt, h.form, h.bytes⟩
  have hu : u.tiers = (x.winPos.foldl (restoreWin slot) (restoreCtrs slot x.counters (restorePages slot mirror x v))).tiers := by
    rw [← hv]
    exact restoredRest_tiers ..
  have hbyte : ∀ vp o, z.viewAt slot vp = none → o < Config.pageBytes → pageByte u slot vp o = pageByte (restorePages slot mirror x v) slot vp o := by
    intro vp o hview ho
    rw [pageByte, State.pte, hu]
    refine pageByte_winsKept hwins ho fun q hq w hw => ?_
    rw [hkept.places, pageAt, State.pte, htiers] at hq
    obtain ⟨p, hp, rfl⟩ := Option.map_eq_some_iff.mp hq
    exact hown.plain vp p hp hview w (by rw [← htiers, ← hkept.wins]; exact hw)
  have hpte : ∀ vp, v.pte slot vp = z.pte slot vp := fun vp => by rw [State.pte, htiers, State.pte]
  refine ⟨fun r hr k w hat => ?_, fun hm p hp o ho hmap => ?_, ?_⟩
  · have hat' : (restoreCtrs slot x.counters (restorePages slot mirror x v)).winAt slot r.1 = some (k, w) := by
      rw [State.winAt,
        show (restoreCtrs slot x.counters (restorePages slot mirror x v)).tiers.wins = z.tiers.wins from hkept.wins.trans (by rw [htiers])]
      exact hat
    rw [hu]
    exact restoreWins_pos x.winPos hx.once.2 hwhole hkept.form hr hat'
  · subst hm
    rw [hbyte p.1 o (hx.plain p hp) ho]
    exact (restoreMirror_bytes hapart hx.lists hx.once.1).2 p hp o ho (by rw [hpte]; exact hmap)
  · intro hm d hd at_ hsrc i p hi hmap o ho
    subst hm
    have hp := List.mem_of_getElem? hi
    have hpair : (at_ i, p.1) ∈ areaPairs d x := List.mem_map.mpr ⟨(p, i), List.mem_zipIdx_iff_getElem?.mpr hi, rfl⟩
    rw [hbyte p.1 o (hx.plain p hp) ho, restorePages_area (by rw [ctx_of_ctxs hctxs]; exact hd)]
    refine ((restoreLocal_bytes hapart (by rw [areaPairs_snd]; exact hx.once.1) fun q hq => ?_).2 _ hpair o ho (by rw [hpte]; exact hmap)).trans ?_
    · obtain ⟨⟨y, j⟩, hy, rfl⟩ := List.mem_map.mp hq
      obtain ⟨hlt, -⟩ := List.getElem?_eq_some_iff.mp (List.mem_zipIdx_iff_getElem?.mp hy)
      obtain ⟨hmapped, -, hout⟩ := hsrc j hlt
      exact ⟨by rw [hpte]; exact hmapped, by rw [areaPairs_snd]; exact hout⟩
    · rw [pageByte, pageByte, hpte, htiers]

/-- A restore from the starfix that was found leaves the context, its counters, its windows and its pages as recorded. -/
theorem restoreFrom_restored {slot encl : Nat} {step : W64} {mirror : Bool} {s z : State} {y : Starfix}
    (hz : (if mirror then makeObjs slot encl y.objs s else some s) = some z)
    (hy : y.step = step ∧ y.committed = true ∧ y.unusable = false)
    (hsrc : ∃ d, (s.ctx slot).rcv.desc = some d
      ∧ (if mirror then y ∈ Tbl.get [] s.rcv.mirrors d.mirrorKey else y ∈ (s.ctx slot).rcv.starfixes)) (status : Nat) :
    let r := restoreFrom slot encl mirror y z
    restored slot encl step mirror s z y (r.setCtx slot { r.ctx slot with rcvStatus := status }) := by
  intro r
  obtain ⟨hstep, hcommitted, husable⟩ := hy
  have hsame : z.ctxs = s.ctxs ∧ z.dwt = s.dwt := by
    cases mirror with
    | true =>
      have h := makeObjs_same slot encl y.objs s hz
      exact ⟨h.2.2.2.2.2.2.2.2.2.1, h.2.2.2.2.2.2.2.2.2.2.2.2.1⟩
    | false =>
      obtain rfl := Option.some.inj hz
      exact ⟨rfl, rfl⟩
  obtain ⟨hctxs, hdwt⟩ := hsame
  have hctx : z.ctx slot = s.ctx slot := ctx_of_ctxs hctxs slot
  have hrow : (r.setCtx slot { r.ctx slot with rcvStatus := status }).ctx slot
      = { restoredCtx mirror y (restoredRest slot encl mirror y z) slot with rcvStatus := status } := by
    have hr : r.ctx slot = restoredCtx mirror y (restoredRest slot encl mirror y z) slot := by
      rw [show r = _ from restoreFrom_rest .., State.ctx_setCtx_self]
    rw [State.ctx_setCtx_self, hr]
  refine ⟨hz, hstep, hcommitted, husable, hsrc, by rw [hrow]; rfl, by rw [hrow]; rfl, ?_, by rw [hrow]; rfl, by rw [hrow]; rfl, by rw [hrow]; rfl,
    fun k hk => ?_, fun n x => ?_, fun hx hown hmem hops => ?_⟩
  · rw [hrow, ← hstep]
    rfl
  · rw [← hctx]
    exact restoredRest_counter slot encl mirror y z (by rw [hctx]; exact hk)
  · rw [hrow]
    exact restoredCtx_streams mirror y (restoredRest slot encl mirror y z) slot n x
  · obtain ⟨hwins, hmirror, harea⟩ := restoredRest_data (encl := encl) (mirror := mirror) hx hown hmem fun p hp => by
      rw [State.conn, hdwt]
      exact hops p hp
    exact ⟨hwins, hmirror, fun hm d hd => harea hm d (by rw [hctx]; exact hd)⟩

/-- The starfix that a restore finds. -/
def restoreSource (slot encl : Nat) (step : W64) (mirror : Bool) (s : State) : Option Starfix :=
  match (s.ctx slot).rcv.desc with
  | none => none
  | some d =>
    if mirror then
      if (s.conn ((s.entry encl).connBase + d.mirrorConn)).st ≠ .open_ then none
      else (Tbl.get [] s.rcv.mirrors d.mirrorKey).find? fun x => decide (x.step = step) && x.committed && !x.unusable
    else (s.ctx slot).rcv.starfixes.find? fun x => decide (x.step = step) && x.committed && !x.unusable

/-- What a restore does with the starfix that it finds. -/
def restoreWith (slot encl : Nat) (mirror : Bool) (s : State) : Option Starfix → State × Nat
  | none => (s, rcvNoStarfix)
  | some x =>
    if mirror && s.objClash slot x then (s, rcvShape)
    else match (if mirror then makeObjs slot encl x.objs s else some s) with
      | none => (s, allocNoSpace)
      | some s1 =>
        if s1.shapeBad slot x then (s, rcvShape)
        else if s1.linkLost then (s, rcvLinkLost)
        else (restoreFrom slot encl mirror x s1, 0)

theorem restore_with (slot encl : Nat) (step : W64) (mirror : Bool) (s : State) :
    restore slot encl step mirror s = restoreWith slot encl mirror s (restoreSource slot encl step mirror s) := rfl

theorem restoreWith_found {slot encl : Nat} {mirror : Bool} {s : State} {src : Option Starfix} (h : (restoreWith slot encl mirror s src).2 = 0) :
    ∃ y z, src = some y ∧ (if mirror then makeObjs slot encl y.objs s else some s) = some z
      ∧ (restoreWith slot encl mirror s src).1 = restoreFrom slot encl mirror y z := by
  cases src with
  | none => exact absurd h (show rcvNoStarfix ≠ 0 by decide)
  | some y =>
    unfold restoreWith at h ⊢
    dsimp only at h ⊢
    split at h
    · exact absurd h (show rcvShape ≠ 0 by decide)
    next hclash =>
    rw [if_neg hclash]
    split at h
    · exact absurd h (show allocNoSpace ≠ 0 by decide)
    next z hz =>
    split at h
    · exact absurd h (show rcvShape ≠ 0 by decide)
    next hshape =>
    split at h
    · exact absurd h (show rcvLinkLost ≠ 0 by decide)
    next hlink => exact ⟨y, z, rfl, hz, by rw [if_neg hshape, if_neg hlink]⟩

theorem found_sound {l : List Starfix} {step : W64} {y : Starfix}
    (h : (l.find? fun x => decide (x.step = step) && x.committed && !x.unusable) = some y) :
    (y.step = step ∧ y.committed = true ∧ y.unusable = false) ∧ y ∈ l := by
  refine ⟨?_, List.mem_of_find?_eq_some h⟩
  have hy := List.find?_some h
  simp only [Bool.and_eq_true, decide_eq_true_eq, Bool.not_eq_true'] at hy
  obtain ⟨⟨hstep, hcommitted⟩, husable⟩ := hy
  exact ⟨hstep, hcommitted, husable⟩

theorem restoreSource_sound {slot encl : Nat} {step : W64} {mirror : Bool} {s : State} {y : Starfix}
    (h : restoreSource slot encl step mirror s = some y) : (y.step = step ∧ y.committed = true ∧ y.unusable = false)
      ∧ ∃ d, (s.ctx slot).rcv.desc = some d
        ∧ (if mirror then y ∈ Tbl.get [] s.rcv.mirrors d.mirrorKey else y ∈ (s.ctx slot).rcv.starfixes) := by
  unfold restoreSource at h
  split at h
  · cases h
  next d hd =>
  cases mirror with
  | true =>
    rw [if_pos rfl] at h
    split at h
    · cases h
    · obtain ⟨hy, hmem⟩ := found_sound h
      exact ⟨hy, d, hd, by rw [if_pos rfl]; exact hmem⟩
  | false =>
    rw [if_neg (by decide)] at h
    obtain ⟨hy, hmem⟩ := found_sound h
    exact ⟨hy, d, hd, by rw [if_neg (by decide)]; exact hmem⟩

/-- What a restore that succeeds leaves, with its status stored. -/
theorem restore_restored {slot encl : Nat} {step : W64} {mirror : Bool} {s : State} (h : (restore slot encl step mirror s).2 = 0) (status : Nat) :
    ∃ z y, restored slot encl step mirror s z y
      ((restore slot encl step mirror s).1.setCtx slot { (restore slot encl step mirror s).1.ctx slot with rcvStatus := status }) := by
  rw [restore_with] at h ⊢
  obtain ⟨y, z, hsrc, hz, hrow⟩ := restoreWith_found h
  obtain ⟨hy, hd⟩ := restoreSource_sound hsrc
  refine ⟨z, y, ?_⟩
  rw [hrow]
  exact restoreFrom_restored hz hy hd status

end Sys2Proof
end

section
/-! A region with no spare left retires; fills start and end (06 R205, 12 R375 to R377). -/

namespace Sys2Proof

open Sys2Proof.Machine

/-! Retirement -/

/-- The lost frames, and the error bit of a pool with no spare left. -/
def lostMark (s : State) : List Nat × Bool := (s.tiers.lost, s.tiers.err.getLsbD 6)

theorem lostMark_of_tiers {s u : State} (h : u.tiers = s.tiers) : lostMark u = lostMark s := by rw [lostMark, h, lostMark]

theorem displaceObj_mark (o : AllocObj) (s : State) : lostMark (displaceObj o s) = lostMark s := by
  unfold displaceObj
  split
  · rfl
  dsimp only
  unfold State.errTier
  split
  · exact (lostMark_of_tiers (tiers_logEv ..)).trans rfl
  · refine (lostMark_of_tiers (tiers_logEv ..)).trans ?_
    simp [lostMark, setBit]

theorem reserveMoves_mark (slot : Nat) (retire rebal : Bool) (l : List (Nat × Pool)) (s : State) :
    lostMark (reserveMoves slot retire rebal l s) = lostMark s := by
  induction l generalizing s with
  | nil => rfl
  | cons p l ih => exact (ih _).trans rfl

theorem retirePage_mark (s : State) (k : Nat × Pte) : lostMark (retirePage s k) = lostMark s := by
  unfold retirePage
  dsimp only
  split
  · rfl
  split
  · split
    · exact reserveMoves_mark ..
    split
    · rw [displaceObj_mark, reserveMoves_mark]
    · exact reserveMoves_mark ..
  · rfl

theorem retarget_mark (s : State) (m : Move) : lostMark (retarget s m) = lostMark s := by
  unfold retarget
  split
  · dsimp only
    split
    · rfl
    split
    · exact retirePage_mark ..
    split
    · rfl
    split
    · split
      · exact reserveMoves_mark ..
      split
      · rw [displaceObj_mark, reserveMoves_mark]
      · exact reserveMoves_mark ..
    · rfl
  · rfl

theorem tagFrame_mark (s : State) (encl f : Nat) : lostMark (s.tagFrame encl f) = lostMark s := by
  unfold State.tagFrame
  split <;> rfl

theorem retireCache_mark (gone : List Nat) (s : State) (k : Nat) : lostMark (retireCache gone s k) = lostMark s := by
  unfold retireCache
  split
  · rfl
  split
  · dsimp only
    split
    · rfl
    · exact tagFrame_mark ..
  · rfl

theorem retireCaches_mark (gone : List Nat) (s : State) : lostMark (retireCaches gone s) = lostMark s := by
  unfold retireCaches
  dsimp only
  rw [foldl_keeps lostMark (fun u f => poisonFrame f u) _ _ fun _ _ => rfl]
  exact foldl_keeps lostMark _ gone s fun u _ => foldl_keeps lostMark (retireCache gone) _ u (retireCache_mark gone)

theorem stayPut_mark (s : State) (m : Move) : lostMark (s.stayPut m) = lostMark s := by
  unfold State.stayPut
  split
  · split
    · unfold State.leaveFrame
      split <;> rfl
    · rfl
  · rfl

theorem cancelMoves_mark (f : Move → Bool) (s : State) : lostMark (cancelMoves f s) = lostMark s :=
  foldl_keeps lostMark State.stayPut (s.tiers.moves.filter f) s stayPut_mark

theorem retireRegion_mark (region : List Nat) (s : State) :
    lostMark (retireRegion region s) = (s.tiers.lost ++ region.filter (fun f => decide (f ∉ s.tiers.lost)), s.tiers.err.getLsbD 6) := by
  unfold retireRegion
  dsimp only
  rw [retireCaches_mark, foldl_keeps lostMark retarget _ _ retarget_mark, foldl_keeps lostMark retirePage _ _ retirePage_mark]
  refine (cancelMoves_mark _ _).trans ?_
  exact (lostMark_of_tiers (tiers_logEv ..)).trans rfl

theorem errTier_raised (s : State) {k : Nat} (hk : k < 8) : (s.errTier k).tiers.err.getLsbD k = true ∧ (s.errTier k).tiers.lost = s.tiers.lost := by
  unfold State.errTier
  split
  next h => exact ⟨h, rfl⟩
  · rw [tiers_logEv]
    exact ⟨setBit_self _ hk, rfl⟩

/-- What a region with no spare left leaves. -/
theorem exhausted_row (f : Fill) (s : State) : let u := exhausted f s
    (∀ g ∈ f.region, g ∈ u.tiers.lost) ∧ u.tiers.err.getLsbD 6 = true ∧ u.rcv.failures = satAdd Config.sat32 s.rcv.failures 1
    ∧ u.mgt.store.lost = u.tiers.lost := by
  intro u
  have hgone := retireRegion_mark f.region (s.errTier 6)
  obtain ⟨hbit, -⟩ := errTier_raised s (k := 6) (by decide)
  generalize hv : retireRegion f.region (s.errTier 6) = v at hgone
  obtain ⟨hlost, herr⟩ := Prod.mk.inj hgone
  have hrow : u = countFailure (devStore (fun t => { t with lost := v.tiers.lost }) v) := by rw [← hv]; rfl
  have htiers : u.tiers = v.tiers := by rw [hrow]; simp
  have hrcv : v.rcv = s.rcv := by rw [← hv]; simp
  refine ⟨fun g hg => ?_, by rw [htiers, herr, hbit], ?_, ?_⟩
  · rw [htiers, hlost, List.mem_append, List.mem_filter, decide_eq_true_eq]
    exact (em _).imp_right fun h => ⟨hg, h⟩
  · rw [hrow, countFailure_rcv]
    simp [hrcv]
  · rw [htiers, hrow]
    unfold countFailure
    dsimp only
    rw [devStore_store, devStore_store]

/-! Spares -/

/-- What was taken of the spares, by kind and pool. -/
def sparesUsed (bank : Bool) (s : State) (p : Nat) : Nat := Tbl.get 0 (if bank then s.tiers.banksUsed else s.tiers.rowsUsed) p

theorem takeSpare_none {f : Fill} {s : State} (h : poolSpares f.tier f.bank ≤ sparesUsed f.bank s
  (sparePool f.tier f.pool)) : takeSpare f s = none := by
  unfold takeSpare
  exact if_pos h

/-- A spare that is taken leaves the others, the bytes and every fill. -/
structure SpareTaken (f : Fill) (s u : State) : Prop where
  used : sparesUsed f.bank u (sparePool f.tier f.pool) = sparesUsed f.bank s (sparePool f.tier f.pool) + 1
  others : ∀ p, p ≠ sparePool f.tier f.pool → Tbl.get 0 u.tiers.rowsUsed p = Tbl.get 0 s.tiers.rowsUsed p
    ∧ Tbl.get 0 u.tiers.banksUsed p = Tbl.get 0 s.tiers.banksUsed p
  mem : u.tiers.mem = s.tiers.mem
  spared : u.tiers.spared = s.tiers.spared
  rcv : u.rcv = s.rcv
  seq : u.mgt = s.mgt

/-- One more spare is used. -/
def spareTook (f : Fill) (s : State) : State :=
  let k := sparePool f.tier f.pool
  if f.bank then { s with tiers := { s.tiers with banksUsed := Tbl.put s.tiers.banksUsed k (Tbl.get 0 s.tiers.banksUsed k + 1) } }
  else { s with tiers := { s.tiers with rowsUsed := Tbl.put s.tiers.rowsUsed k (Tbl.get 0 s.tiers.rowsUsed k + 1) } }

theorem takeSpare_some {f : Fill} {s : State} (h : sparesUsed f.bank s (sparePool f.tier f.pool) < poolSpares f.tier f.bank) :
    takeSpare f s = some (spareTook f s) := by
  unfold takeSpare spareTook
  refine (if_neg (Nat.not_le.mpr h)).trans ?_
  split <;> rfl

theorem spareTook_taken (f : Fill) (s : State) : SpareTaken f s (spareTook f s) := by
  obtain ⟨t, bank, pool, region⟩ := f
  cases bank with
  | true => exact ⟨Tbl.get_put_same 0 s.tiers.banksUsed (sparePool t pool) _, fun p hp => ⟨rfl, Tbl.get_put_other 0 s.tiers.banksUsed _ hp⟩, rfl,
    rfl, rfl, rfl⟩
  | false => exact ⟨Tbl.get_put_same 0 s.tiers.rowsUsed (sparePool t pool) _, fun p hp => ⟨Tbl.get_put_other 0 s.tiers.rowsUsed _ hp, rfl⟩, rfl,
    rfl, rfl, rfl⟩

theorem takeSpare_taken {f : Fill} {s u : State} (h : takeSpare f s = some u) : SpareTaken f s u := by
  by_cases hroom : sparesUsed f.bank s (sparePool f.tier f.pool) < poolSpares f.tier f.bank
  · rw [takeSpare_some hroom] at h
    exact Option.some.inj h ▸ spareTook_taken f s
  · rw [takeSpare_none (Nat.not_lt.mp hroom)] at h
    cases h

theorem spareNoted_row (bank : Bool) (l : Nat) (s : State) : let u := spareNoted bank l (s.drawn 1)
    u.tiers.rowsUsed = s.tiers.rowsUsed ∧ u.tiers.banksUsed = s.tiers.banksUsed ∧ u.tiers.mem = s.tiers.mem ∧ u.rcv = s.rcv
    ∧ (bank = false → u.tiers.spared = s.tiers.spared ++ [l]) := by
  cases bank with
  | true => exact ⟨rfl, rfl, rfl, rfl, nofun⟩
  | false => exact ⟨rfl, rfl, rfl, rfl, fun _ => rfl⟩

theorem execSpareFillStart_due {s : State} {t : Tier} {bank : Bool} {region : List Nat} {l : Nat}
    (h : (if bank then s.bankDue region else s.rowDue region) = some l) : exec (.spareFillStart t bank region) s
    = .next (s.close (spareStart ⟨t, bank, s.failPool t region, region⟩ (spareNoted bank l (s.drawn 1)))) := by
  show execSpareFillStart t bank region s = _
  unfold execSpareFillStart
  rw [h]

theorem execSpareFillStart_idle {s : State} {t : Tier} {bank : Bool} {region : List Nat}
    (h : (if bank then s.bankDue region else s.rowDue region) = none) : exec (.spareFillStart t bank region) s = .next s := by
  show execSpareFillStart t bank region s = _
  unfold execSpareFillStart
  rw [h]

/-- A fill that finds a spare starts, or waits behind one of its tier. -/
theorem spareStart_takes {f : Fill} {s v : State} (h : takeSpare f s = some v) : let u := spareStart f s
    u.tiers = v.tiers
    ∧ (if v.rcv.fillActive.any (fun g => decide (g.tier = f.tier)) then u.rcv.fillPending = v.rcv.fillPending ++ [f]
    ∧ u.rcv.fillActive = v.rcv.fillActive
        else u.rcv.fillActive = v.rcv.fillActive ++ [f] ∧ u.rcv.fillPending = v.rcv.fillPending) := by
  intro u
  unfold u spareStart
  rw [h]
  dsimp only
  by_cases hany : (v.rcv.fillActive.any fun g => decide (g.tier = f.tier)) = true
  · rw [if_pos hany, if_pos hany]
    exact ⟨rfl, rfl, rfl⟩
  · rw [if_neg hany, if_neg hany]
    exact ⟨rfl, rfl, rfl⟩

/-! Fills that end -/

theorem poisonedPage_row (f : Nat) (s : State) (k : Nat × Pte) : (poisonedPage f s k).tiers = s.tiers ∧ (poisonedPage f s k).rcv = s.rcv
    ∧ (poisonedPage f s k).cores = s.cores := by
  unfold poisonedPage
  dsimp only
  split
  · exact ⟨rfl, rfl, rfl⟩
  · simp

theorem fillLost_row (s : State) (l : Nat) : (fillLost s l).tiers = (s.addUe l).tiers ∧ (fillLost s l).rcv = s.rcv
  ∧ (fillLost s l).cores = s.cores := by
  have hrow := foldl_keeps (fun u : State => (u.tiers, u.rcv, u.cores)) (poisonedPage (l / 32768)) (s.addUe l).tiers.pt (s.addUe l) fun u k => by
    obtain ⟨htiers, hrcv, hcores⟩ := poisonedPage_row (l / 32768) u k
    rw [htiers, hrcv, hcores]
  simp only [Prod.mk.injEq] at hrow
  obtain ⟨htiers, hrcv, hcores⟩ := hrow
  exact ⟨htiers, hrcv.trans (by simp), hcores.trans (by simp)⟩

theorem fillLost_found (s : State) (l : Nat) : ErrorFound s (fillLost s l) ∧ l ∈ (fillLost s l).tiers.poison := by
  obtain ⟨⟨hplan, hmem, hpoison, hlatent⟩, hl⟩ := ErrorFound.addUe s l
  have htiers := (fillLost_row s l).1
  exact ⟨⟨by rw [htiers, hplan], by rw [htiers, hmem], by rw [htiers]; exact hpoison, by rw [htiers, hlatent]⟩, by rw [htiers]; exact hl⟩

/-- What the lines lost in a fill leave. -/
theorem fillLosses_row (failed : List Nat) (s : State) : let u := failed.foldl fillLost s
    (∀ l ∈ failed, l ∈ u.tiers.poison) ∧ u.tiers.mem = s.tiers.mem ∧ u.tiers.pt = s.tiers.pt ∧ u.rcv = s.rcv ∧ u.cores = s.cores := by
  have hfound := ErrorFound.foldl (fun u l => (fillLost_found u l).1) failed s
  exact ⟨fun l hl => ErrorFound.foldl_mem (b := l) (fun u l => (fillLost_found u l).1) (fun u => (fillLost_found u l).2) hl s, hfound.mem,
    (Tiers.plan_rows hfound.plan).2.1, foldl_keeps (fun u : State => u.rcv) fillLost failed s fun u l => (fillLost_row u l).2.1,
    foldl_keeps (fun u : State => u.cores) fillLost failed s fun u l => (fillLost_row u l).2.2⟩

/-- A fill that ends with none of its tier waiting. -/
theorem spareDone_row {s : State} {t : Tier} {f : Fill} {failed : List Nat} (hf : s.rcv.fillActive.find? (fun f => decide (f.tier = t)) = some f)
    (hlast : ∀ g ∈ s.rcv.fillPending, g.tier ≠ t) : let u := spareDone t false failed s
    u.rcv.fillDone = satAdd Config.sat32 s.rcv.fillDone 1 ∧ u.rcv.fillActive = s.rcv.fillActive.erase f
    ∧ (∀ l ∈ failed, l ∈ u.tiers.poison) ∧ u.tiers.mem = s.tiers.mem ∧ u.tiers.pt = s.tiers.pt ∧ u.cores = s.cores := by
  intro u
  obtain ⟨hpoison, hmem, hpt, hrcv, hcores⟩ := fillLosses_row failed s
  generalize hv : failed.foldl fillLost s = v at hpoison hmem hpt hrcv hcores
  have hnone : v.rcv.fillPending.find? (fun g => decide (g.tier = t)) = none := by
    rw [hrcv]
    exact List.find?_eq_none.mpr fun g hg => by rw [decide_eq_true_eq]; exact hlast g hg
  have hrow : u = { v with rcv := { v.rcv with fillActive := v.rcv.fillActive.erase f, fillDone := satAdd Config.sat32 v.rcv.fillDone 1 } } := by
    unfold u spareDone
    rw [hf]
    dsimp only
    rw [if_neg (by decide), hv]
    unfold nextFill
    dsimp only
    rw [hnone]
  rw [hrow]
  exact ⟨by rw [hrcv], by rw [hrcv], hpoison, hmem, hpt, hcores⟩

theorem spareDone_fails {s u : State} {t : Tier} {f : Fill} {failed : List Nat} (hf : s.rcv.fillActive.find? (fun f => decide (f.tier = t)) = some f)
    (hu : takeSpare f (s.logEv (ev 1 0x09 0x41)) = some u) : spareDone t true failed s = u := by
  unfold spareDone
  rw [hf]
  dsimp only
  rw [if_pos rfl]
  unfold spareFails
  dsimp only
  rw [hu]

/-! Starfixes that complete -/

theorem measureC_row (r : CtxRcv) : r.measureC.copying = r.copying ∧ r.measureC.starfixes = r.starfixes ∧ r.measureC.desc = r.desc := by
  unfold CtxRcv.measureC
  split
  · exact ⟨rfl, rfl, rfl⟩
  split
  · exact ⟨rfl, rfl, rfl⟩
  split <;> exact ⟨rfl, rfl, rfl⟩

theorem mapMirrors_ctxs (s : State) (slot : Nat) (f : List Starfix → List Starfix) : (s.mapMirrors slot f).ctxs = s.ctxs := by
  unfold State.mapMirrors
  split
  · split <;> rfl
  · rfl

/-- What a change of the mirrored copies leaves of them, and of the rest of the recovery controller. -/
theorem mapMirrors_row {s : State} {slot : Nat} {d : RcvDesc} (hd : (s.ctx slot).rcv.desc = some d) (f : List Starfix → List Starfix) :
    (d.mirrorEn = true → Tbl.get [] (s.mapMirrors slot f).rcv.mirrors d.mirrorKey = f (Tbl.get [] s.rcv.mirrors d.mirrorKey))
    ∧ (d.mirrorEn = false → (s.mapMirrors slot f).rcv = s.rcv) := by
  unfold State.mapMirrors
  rw [hd]
  dsimp only
  refine ⟨fun hen => ?_, fun hen => ?_⟩
  · rw [if_pos hen]
    exact Tbl.get_put_same ..
  · rw [if_neg (by rw [hen]; decide)]

theorem starfixComplete_waits {s : State} {slot : Nat} {x : Starfix} {d : RcvDesc} (hx : (s.ctx slot).rcv.copying = some x)
    (hd : (s.ctx slot).rcv.desc = some d) (hen : d.mirrorEn = true) (hm : (s.ctx slot).rcv.mirrored = false) : starfixComplete slot s = s := by
  unfold starfixComplete
  simp [hx, hd, hen, hm]

theorem starfixComplete_row {s : State} {slot : Nat} {x : Starfix} {d : RcvDesc} (hx : (s.ctx slot).rcv.copying = some x)
    (hd : (s.ctx slot).rcv.desc = some d) (hm : d.mirrorEn = true → (s.ctx slot).rcv.mirrored = true) : let u := starfixComplete slot s
    (u.ctx slot).rcv.copying = none
      ∧ (u.ctx slot).rcv.starfixes = (s.ctx slot).rcv.starfixes ++ [{ x with complete := true }] ∧ (u.ctx slot).st = (s.ctx slot).st
      ∧ (d.mirrorEn = true → Tbl.get [] u.rcv.mirrors d.mirrorKey
          = (Tbl.get [] s.rcv.mirrors d.mirrorKey).filter (·.committed) ++ [{ x with complete := true }])
      ∧ (d.mirrorEn = false → u.rcv = s.rcv) ∧ u.tiers = s.tiers ∧ u.cores = s.cores ∧ u.counters = s.counters := by
  obtain ⟨hcopying, hfixes, hdesc⟩ := measureC_row { (s.ctx slot).rcv with
    copying := none, copied := true, toMeasure := true, starfixes := (s.ctx slot).rcv.starfixes ++ [{ x with complete := true }] }
  intro u
  generalize hr : ({ (s.ctx slot).rcv with
    copying := none, copied := true, toMeasure := true,
      starfixes := (s.ctx slot).rcv.starfixes ++ [{ x with complete := true }] } : CtxRcv).measureC = r
    at hcopying hfixes hdesc
  have hrow : u = (s.setCtx slot { s.ctx slot with rcv := r }).mapMirrors slot fun l => l.filter (·.committed) ++ [{ x with complete := true }] := by
    have hgo : (d.mirrorEn && !(s.ctx slot).rcv.mirrored) = false := by
      cases hen : d.mirrorEn with
      | false => rfl
      | true => rw [hm hen]; rfl
    rw [← hr]
    unfold u starfixComplete
    simp only [hx, hd, hgo]
    rfl
  have hctx : u.ctx slot = { s.ctx slot with rcv := r } := by
    rw [hrow, ctx_of_ctxs (mapMirrors_ctxs ..), State.ctx_setCtx_self]
  have hmirror := mapMirrors_row (s := s.setCtx slot { s.ctx slot with rcv := r }) (slot := slot) (d := d)
    (by rw [State.ctx_setCtx_self, hdesc]; exact hd) fun l => l.filter (·.committed) ++ [{ x with complete := true }]
  rw [← hrow] at hmirror
  exact ⟨by rw [hctx]; exact hcopying, by rw [hctx]; exact hfixes, by rw [hctx], hmirror.1, hmirror.2, by rw [hrow]; simp, by rw [hrow]; simp,
    by rw [hrow]; simp⟩

/-! The automatic restore -/

/-- A FAULTED context that may be restored by itself runs its restore. -/
theorem autoRestore_runs {s : State} {slot encl : Nat} {step : W64} {d : RcvDesc} (hstep : (s.ctx slot).rcv.committedStep = some step)
    (hencl : s.enclOfSlot slot = some encl) (hst : (s.ctx slot).st = .faulted) (hcause : (s.ctx slot).cause ∈ autoCauses)
    (hd : (s.ctx slot).rcv.desc = some d) (hauto : d.autoRestore = true) (hcores : ∀ n ∈ maskCores (s.ctx slot).desc.mask,
      (s.core n).state ≠ .eclipse)
    (hown : s.ownEclipse slot = false) (hlink : s.linkLost = false) : autoRestore slot s
    = (restore slot encl step false s).1.setCtx slot
        { (restore slot encl step false s).1.ctx slot with rcvStatus := (restore slot encl step false s).2 } := by
  have hfenced : ((maskCores (s.ctx slot).desc.mask).any fun n => decide ((s.core n).state = .eclipse)) = false := by
    rw [List.any_eq_false]
    exact fun n hn => by rw [decide_eq_true_eq]; exact hcores n hn
  unfold autoRestore
  dsimp only
  rw [hstep, hencl]
  dsimp only
  rw [hd, hfenced, hown, hlink, if_neg (by simp [hst, hcause, hauto])]

/-- A restore that finds nothing changes nothing. -/
theorem restoreWith_cases (slot encl : Nat) (mirror : Bool) (s : State) (src : Option Starfix) :
    (restoreWith slot encl mirror s src).1 = s ∨ (restoreWith slot encl mirror s src).2 = 0 := by
  cases src with
  | none => exact .inl rfl
  | some x =>
    unfold restoreWith
    dsimp only
    split
    · exact .inl rfl
    split
    · exact .inl rfl
    split
    · exact .inl rfl
    split
    · exact .inl rfl
    · exact .inr rfl

theorem restore_refused {slot encl : Nat} {step : W64} {mirror : Bool} {s : State} (h : (restore slot encl step mirror s).2 ≠ 0) :
    (restore slot encl step mirror s).1 = s := by
  rw [restore_with] at h ⊢
  exact (restoreWith_cases slot encl mirror s _).resolve_right h

/-- Settles O39: a spare is taken from the pool that the region names, or the region retires; a fill marks its lost lines; a starfix joins the
complete ones; an automatic restore is the restore of the committed starfix. -/
theorem spareFillsAndStarfixes : Obligations.SpareFillsAndStarfixes := by
  unfold Obligations.SpareFillsAndStarfixes
  refine ⟨fun s t bank region => ?_, fun s t failed f hf => ⟨fun hlast => ⟨_, rfl, spareDone_row hf hlast⟩, fun u hu => ?_⟩, fun s slot x d => ?_,
    fun s slot step encl d => ?_⟩
  · intro f used due
    refine ⟨execSpareFillStart_idle, fun l hl hroom => ?_, fun hdue hfull => ?_⟩
    · obtain ⟨hrows, hbanks, hmem, hrcv, hspared⟩ := spareNoted_row bank l s
      generalize hv : spareNoted bank l (s.drawn 1) = v at hrows hbanks hmem hrcv hspared
      have hused : ∀ p, sparesUsed bank v p = sparesUsed bank s p := fun p => by rw [sparesUsed, hrows, hbanks, sparesUsed]
      have htake : takeSpare f v = some (spareTook f v) := takeSpare_some (by rw [show f.bank = bank from rfl, hused]; exact hroom)
      have htaken := spareTook_taken f v
      obtain ⟨htiers, hfills⟩ := spareStart_takes htake
      refine ⟨spareStart f v, by rw [execSpareFillStart_due hl, hv], ?_, fun p hp => ?_, ?_, fun hb => ?_, ?_⟩
      · show sparesUsed bank (spareStart f v) _ = sparesUsed bank s _ + 1
        rw [sparesUsed, htiers]
        exact htaken.used.trans (by rw [show f.bank = bank from rfl, hused])
      · rw [htiers, ← hrows, ← hbanks]
        exact htaken.others p hp
      · rw [htiers, htaken.mem, hmem]
      · rw [htiers, htaken.spared]
        exact hspared hb
      · rw [htaken.rcv, hrcv] at hfills
        exact hfills
    · obtain ⟨l, hl⟩ := Option.ne_none_iff_exists'.mp hdue
      obtain ⟨hrows, hbanks, -, hrcv, -⟩ := spareNoted_row bank l s
      generalize hv : spareNoted bank l (s.drawn 1) = v at hrows hbanks hrcv
      have hnone : takeSpare f v = none := takeSpare_none (by
        rw [show f.bank = bank from rfl, show sparesUsed bank v _ = sparesUsed bank s _ by rw [sparesUsed, hrows, hbanks, sparesUsed]]
        exact hfull)
      have hrow : spareStart f v = exhausted f v := by
        unfold spareStart
        rw [hnone]
      obtain ⟨hlost, hbit, hfail, hstore⟩ := exhausted_row f v
      refine ⟨exhausted f v, by rw [execSpareFillStart_due hl, hv, hrow], hlost, hbit, by rw [hfail, hrcv], hstore⟩
  · have htaken := takeSpare_taken hu
    refine ⟨congrArg (fun v => Host.Outcome.next (s.close v)) (spareDone_fails hf hu), by rw [htaken.rcv]; simp, by rw [htaken.mem, tiers_logEv], ?_⟩
    rw [htaken.seq, logEv_nextSeq]
  · intro c hx hd
    refine ⟨fun hen hm => congrArg (fun u => Host.Outcome.next (s.settle u)) (starfixComplete_waits hx hd hen hm), fun hm => ⟨_, rfl,
      starfixComplete_row hx hd hm⟩⟩
  · intro c hstep hencl hst hcause hd hauto hcores hown hlink r
    have hrow := autoRestore_runs hstep hencl hst hcause hd hauto hcores hown hlink
    refine ⟨fun hok => ?_, fun hbad => ?_⟩
    · obtain ⟨z, y, hrestored⟩ := restore_restored hok 0
      obtain rfl : s = z := Option.some.inj hrestored.1
      exact ⟨_, y, congrArg (fun u => Host.Outcome.next (s.close u)) (hrow.trans (by rw [hok])), rfl, hrestored, by rw [State.ctx_setCtx_self]⟩
    · refine congrArg (fun u => Host.Outcome.next (s.close u)) (hrow.trans ?_)
      rw [restore_refused hbad]

end Sys2Proof
end

section
/-! RCV_SET, RESTORE and the sealed records of a host's DMA (12 R385 to R387, 14 R441 to R444). -/

namespace Sys2Proof

open Sys2Proof.Machine

section
variable {slot encl : Nat} {x : Posted} {s : State}

theorem controlCommand_rcvSet (hform : ctlReserved x.entry = false) (h : entOp x.entry = 0x60) :
    controlCommand slot encl x s = .done (rcvSet slot (entWord x.entry 1) s).1 (rcvSet slot (entWord x.entry 1) s).2 := by
  simp only [controlCommand, hform, h, Bool.false_eq_true, if_false]

theorem controlCommand_restore (hform : ctlReserved x.entry = false) (h : entOp x.entry = 0x61) : controlCommand slot encl x s =
    let r := restore slot encl (BitVec.ofNat 64 (entWord x.entry 1)) (bit (entWord x.entry 2) 0) s
    .done (r.1.setCtx slot { r.1.ctx slot with rcvStatus := r.2 }) r.2 := by
  simp only [controlCommand, hform, h, Bool.false_eq_true, if_false]

theorem controlCommand_dmaIn (hform : ctlReserved x.entry = false) (h : entOp x.entry = 0x70) :
    controlCommand slot encl x s = dmaIn slot encl x.entry x.recs x.abort x.started (s.touch slot) := by
  simp only [controlCommand, hform, h, Bool.false_eq_true, if_false]

theorem controlCommand_dmaOut (hform : ctlReserved x.entry = false) (h : entOp x.entry = 0x71) :
    controlCommand slot encl x s = dmaOut slot encl x.entry x.started (s.touch slot) := by
  simp only [controlCommand, hform, h, Bool.false_eq_true, if_false]

end

theorem rcvSet_row {s : State} {slot va : Nat} (h : (s.ctx slot).st ≠ .none) :
    let u := s.setCtx slot { s.ctx slot with rcv := { (s.ctx slot).rcv with pending := some (BitVec.ofNat 48 va) } }
    rcvSet slot va s = (if s.resident slot then u else applyRcv slot u, 0) := by
  unfold rcvSet
  exact if_neg h

/-! Records -/

theorem dmaIn_row {s : State} {slot encl : Nat} {e : BitVec 512} {recs : List HostRec} {abort : Bool} (hstop : s.dmaStop slot e false = none)
    (htrain : (recs.any fun q => s.memTrains slot q.ctxVA.toNat q.length.toNat) = false) : dmaIn slot encl e recs abort false s =
    let r := takeRecs slot encl abort recs (bits (entWord e 2) 31 0) 0 (s.drawn 1)
    ⟨dmaCount slot e r.2.1 r.1, some (r.2.1, r.2.2)⟩ := by
  unfold dmaIn
  rw [hstop]
  dsimp only
  rw [if_neg (by rw [htrain]; decide)]

theorem dmaOut_row {s : State} {slot encl : Nat} {e : BitVec 512} (hstop : s.dmaStop slot e false = none)
    (hroom : entWord e 4 + 48 * ceilDiv (entWord e 4) 4194304 ≤ bits (entWord e 2) 31 0)
    (hmapped : s.mapped slot (entWord e 3) (entWord e 4) = true) (htrain : s.memTrains slot (entWord e 3) (entWord e 4) = false) :
    dmaOut slot encl e false s =
      let r := sealRecs slot encl (ceilDiv (entWord e 4) 4194304) (entWord e 3) (entWord e 1) (entWord e 4) 0 (s.drawn 1)
      ⟨dmaCount slot e r.2.1 r.1, some (r.2.1, r.2.2)⟩ := by
  unfold dmaOut
  rw [hstop]
  dsimp only
  rw [if_neg (Nat.not_lt.mpr hroom), if_neg (by rw [hmapped]; decide), if_neg (by rw [htrain]; decide)]

theorem acceptRec_lastIn (slot : Nat) (r : HostRec) (s : State) : ((acceptRec slot r s).ctx slot).lastIn = r.rseq := by
  have hself := State.ctx_setCtx_self (s.writeVA slot r.ctxVA.toNat r.payload) slot
    { (s.writeVA slot r.ctxVA.toNat r.payload).ctx slot with
      lastIn := r.rseq
      importMeas := Config.sha384 (digestBytes ((s.writeVA slot r.ctxVA.toNat r.payload).ctx slot).importMeas
        ++ digestBytes (Config.sha384 (hostHeader r ++ leBytes 16 r.tag.toNat))) }
  exact congrArg Ctx.lastIn hself

/-- Each record that is sealed raises the number of the records that have left. -/
theorem sealRecs_sealed {slot encl n va host left bytes k : Nat} {s : State}
    (h : (sealRecs slot encl n va host left bytes s).2.1 = 0) (hk : (s.ctx slot).sealedOut = k) :
    ((sealRecs slot encl n va host left bytes s).1.ctx slot).sealedOut = k + n := by
  induction n generalizing va host left bytes s k with
  | zero => exact hk
  | succ n ih =>
    unfold sealRecs at h ⊢
    dsimp only at h ⊢
    split at h
    · exact absurd h (show memPoisonedStatus ≠ 0 by decide)
    next hgood =>
    rw [if_neg hgood, show k + (n + 1) = k + 1 + n by omega]
    refine ih h ?_
    have hctx : (s.readVA slot va (min left 4194304)).s.ctx slot = s.ctx slot := ctx_of_ctxs (by simp) slot
    have hself := State.ctx_setCtx_self (s.readVA slot va (min left 4194304)).s slot
      { (s.readVA slot va (min left 4194304)).s.ctx slot with
        sealedOut := ((s.readVA slot va (min left 4194304)).s.ctx slot).sealedOut + 1 }
    refine (congrArg Ctx.sealedOut hself).trans ?_
    rw [hctx, hk]

theorem touch_mapped (s : State) (slot k va n : Nat) : (s.touch slot).mapped k va n = s.mapped k va n := by
  unfold State.touch
  dsimp only
  split <;> rfl

theorem touch_memTrains (s : State) (slot k va n : Nat) : (s.touch slot).memTrains k va n = s.memTrains k va n := by
  unfold State.touch
  dsimp only
  split <;> rfl

theorem hostStart_mapped (s : State) (slot : Nat) (x : Posted) (k va n : Nat) : (hostStart s slot x).mapped k va n = s.mapped k va n := rfl

theorem hostStart_memTrains (s : State) (slot : Nat) (x : Posted) (k va n : Nat) : (hostStart s slot x).memTrains k va n = s.memTrains k va n := rfl

theorem touch_sealedOut (s : State) (slot : Nat) : ((s.touch slot).ctx slot).sealedOut = (s.ctx slot).sealedOut := by
  unfold State.touch
  dsimp only
  split
  · rfl
  · rw [State.ctx_setCtx_self]

theorem dmaOut_ends {s : State} {slot : Nat} {p : Post} (hfree : HostFree s slot p) {src host len n : Nat} {x : Posted}
    (hx : x = hostCmd p true 0x71 [] false) (hsrc : entWord x.entry 3 = src) (hhost : entWord x.entry 1 = host)
    (hlen : entWord x.entry 4 = len) (hn : ceilDiv len 4194304 = n) (hok : ctlReserved x.entry = false)
    (hstop : ((hostStart s slot x).touch slot).dmaStop slot x.entry false = none) (htrain : s.memTrains slot src len = false)
    (hroom : len + 48 * n ≤ bits (entWord x.entry 2) 31 0) (hmapped : s.mapped slot src len = true) {r : State × Nat × Nat}
    (hr : r = sealRecs slot ((s.enclOfSlot slot).getD 0xFF) n src host len 0 (((hostStart s slot x).touch slot).drawn 1)) (hdone : r.2.1 = 0) :
    post p true 0x71 [] false s = hostEnd (hostStart s slot x) slot x (dmaCount slot x.entry 0 r.1) 0 r.2.2
    ∧ (r.1.ctx slot).sealedOut = (s.ctx slot).sealedOut + n := by
  subst hsrc hhost hlen hn
  refine ⟨?_, ?_⟩
  · subst hx
    refine post_control_ends hfree ?_
    rw [controlCommand_dmaOut hok (entOp_withOp p.entry (by decide))]
    refine (dmaOut_row hstop hroom (by rw [touch_mapped, hostStart_mapped, hmapped]) (by rw [touch_memTrains, hostStart_memTrains, htrain])).trans ?_
    dsimp only
    rw [← hr, hdone]
  · rw [hr] at hdone ⊢
    exact sealRecs_sealed hdone (touch_sealedOut (hostStart s slot x) slot)

/-- Settles O19: each command is what its row of the control commands does in the state that the posting starts it in. -/
theorem restoreAndDmaComplete : Obligations.RestoreAndDmaComplete := by
  unfold Obligations.RestoreAndDmaComplete
  intro s slot p hfree x v encl c w ok
  have hop (op : Nat) (h : op < 256) : entOp (x op).entry = op := entOp_withOp p.entry h
  refine ⟨fun hok hst => ?_, ?_, ?_, ?_⟩
  · exact congrArg Host.Outcome.next (post_control_ends hfree ((controlCommand_rcvSet hok (hop _ (by decide))).trans
      (by rw [rcvSet_row (s := v 0x60) hst]; rfl)))
  · intro hok step mirror r hr
    obtain ⟨z, y, hrestored⟩ := restore_restored hr 0
    refine ⟨_, z, y, congrArg Host.Outcome.next (post_control_ends hfree ?_), rfl, hrestored, by rw [State.ctx_setCtx_self]⟩
    refine (controlCommand_restore hok (hop _ (by decide))).trans ?_
    show CmdOut.done (r.1.setCtx slot { r.1.ctx slot with rcvStatus := r.2 }) r.2 = _
    rw [hr]
    rfl
  · intro recs abort y z r hok hstop htrain hr
    refine ⟨congrArg Host.Outcome.next (post_control_ends hfree ?_), acceptRec_lastIn slot⟩
    refine (controlCommand_dmaIn (x := y) hok (entOp_withOp p.entry (by decide))).trans ((dmaIn_row hstop htrain).trans ?_)
    show (⟨dmaCount slot y.entry r.2.1 r.1, some (r.2.1, r.2.2)⟩ : CmdOut) = _
    rw [hr]
  · intro z n r hok hstop htrain hroom hmapped hr
    have ⟨hends, hsealed⟩ := dmaOut_ends hfree (src := w 0x71 3) (host := w 0x71 1) (len := w 0x71 4) (n := n) (x := x 0x71) (r := r)
      rfl rfl rfl rfl rfl hok hstop htrain hroom hmapped rfl hr
    exact ⟨congrArg Host.Outcome.next hends, hsealed⟩

end Sys2Proof
end

section
/-! Messages of the collective engine that stay on their connections (09 R277, R281). -/

namespace Sys2Proof

open Sys2Proof.Machine

/-- What a message of the engine is, whatever its SEQ and how often it was sent. -/
def Machine.CollSeg.key (g : CollSeg) : CollMsg × Option Nat × Option (Nat × Nat) := (g.msg, g.num, g.up)

theorem CollSeg_same_key (a b : CollSeg) : a.same b = decide (a.key = b.key) := by
  simp [CollSeg.same, CollSeg.key, Prod.ext_iff, Bool.and_assoc]

/-- The messages of the engine that wait or are unanswered on a connection. -/
def Machine.DwtConn.mail (c : DwtConn) : List (CollMsg × Option Nat × Option (Nat × Nat)) := (c.cq ++ c.csegs).map CollSeg.key

/-- No connection loses a message of the engine, and none changes its state. -/
structure MailKept (s t : State) : Prop where
  st : ∀ cn, (t.conn cn).st = (s.conn cn).st
  mail : ∀ cn, (s.conn cn).mail ⊆ (t.conn cn).mail

theorem MailKept.refl (s : State) : MailKept s s := ⟨fun _ => rfl, fun _ => List.Subset.refl _⟩

theorem MailKept.trans {s t u : State} (h : MailKept s t) (k : MailKept t u) : MailKept s u :=
  ⟨fun cn => (k.st cn).trans (h.st cn), fun cn => List.Subset.trans (h.mail cn) (k.mail cn)⟩

theorem MailKept.of_dwt {s t : State} (h : t.dwt = s.dwt) : MailKept s t :=
  ⟨fun cn => by rw [conn_of_dwt h], fun cn => by rw [conn_of_dwt h]; exact List.Subset.refl _⟩

theorem MailKept.setConn {s : State} {cn : Nat} {c : DwtConn} (hst : c.st = (s.conn cn).st) (hmail : (s.conn cn).mail ⊆ c.mail) :
    MailKept s (s.setConn cn c) := by
  refine ⟨fun d => ?_, fun d => ?_⟩
  · by_cases hd : d = cn
    · rw [hd, State.conn_setConn_self, hst]
    · rw [State.conn_setConn_ne _ _ hd]
  · by_cases hd : d = cn
    · rw [hd, State.conn_setConn_self]
      exact hmail
    · rw [State.conn_setConn_ne _ _ hd]
      exact List.Subset.refl _

theorem MailKept.foldl {β : Type} {f : State → β → State} (hf : ∀ u b, MailKept u (f u b)) (l : List β) (s : State) : MailKept s (l.foldl f s) := by
  induction l generalizing s with
  | nil => exact .refl s
  | cons b l ih => exact (hf s b).trans (ih _)

theorem MailKept.foldl_fst {β γ : Type} {f : State × γ → β → State × γ} (hf : ∀ r b, MailKept r.1 (f r b).1) (l : List β) (r : State × γ) :
    MailKept r.1 (l.foldl f r).1 := by
  induction l generalizing r with
  | nil => exact .refl r.1
  | cons b l ih => exact (hf r b).trans (ih _)

/-- A command that loses no message of the engine needs no watch of the engine. -/
theorem MailKept.watch {s t : State} (h : MailKept s t) (cn : Nat) : collWatch cn s t = t := by
  refine collWatch_kept (h.st cn) fun g hg => ?_
  have hkey : g.key ∈ (t.conn cn).mail := h.mail cn (List.mem_map_of_mem hg)
  obtain ⟨b, hb, heq⟩ := List.mem_map.mp hkey
  exact List.any_eq_true.mpr ⟨b, hb, by rw [CollSeg_same_key, heq]; exact decide_eq_true rfl⟩

/-! Messages sent -/

theorem MailKept.sendNext (s : State) (cn : Nat) (h : Hdr) (size : Nat) (p : Payload) : MailKept s (s.sendNext cn h size p) :=
  .trans (t := s.setConn cn { s.conn cn with txn := (s.conn cn).txn + 1 }) (.setConn rfl (List.Subset.refl _)) (.of_dwt (sendNext_dwt ..))

theorem MailKept.sendMsg (s : State) (cn : Nat) (h : Hdr) (bs : List Byte) : MailKept s (s.sendMsg cn h bs) := .sendNext ..

theorem MailKept.answerAck (s : State) (cn : Nat) (m : Msg) : MailKept s (answerAck cn m s) := .sendMsg ..

theorem MailKept.sendNak (s : State) (cn : Nat) (m : Msg) (status : Nat) : MailKept s (sendNak cn m status s) :=
  .trans (t := { s with dwt := { s.dwt with nakSent := satAdd Config.sat32 s.dwt.nakSent 1 } })
    ⟨fun _ => rfl, fun _ => List.Subset.refl _⟩ (.sendMsg ..)

theorem MailKept.markSeq (s : State) (cn seq : Nat) : MailKept s (s.markSeq cn seq) := .setConn rfl (List.Subset.refl _)

theorem MailKept.sendColl {s : State} {cn : Nat} {g : CollSeg} {l : List CollSeg} (h : (s.conn cn).cq = g :: l) : MailKept s (s.sendColl cn g) := by
  refine .trans (.setConn (c := { s.conn cn with
    cq := (s.conn cn).cq.tail, csegs := (s.conn cn).csegs ++ [{ g with seq := (s.conn cn).seq }], seq := (s.conn cn).seq + 1 }) rfl ?_) (.sendNext ..)
  intro x hx
  unfold DwtConn.mail at hx ⊢
  rw [h] at hx ⊢
  simp only [List.cons_append, List.map_cons, List.mem_cons, List.map_append, List.mem_append, List.tail_cons] at hx ⊢
  rcases hx with rfl | hx | hx
  · exact .inr (.inr (.inl rfl))
  · exact .inl hx
  · exact .inr (.inl hx)

theorem MailKept.collSend (cn fuel : Nat) (s : State) : MailKept s (State.collSend cn fuel s) := by
  induction fuel generalizing s with
  | zero => exact .refl s
  | succ n ih =>
    unfold State.collSend
    dsimp only
    split
    · exact .refl s
    next g l hcq =>
      split
      · exact .refl s
      · exact (MailKept.sendColl hcq).trans (ih _)

theorem MailKept.collPost (slot : Nat) (d : Nat × Nat) (num : Option Nat) (up : Option (Nat × Nat)) (m : CollMsg) (s : State) :
    MailKept s (collPost slot d num up m s) := by
  unfold Machine.collPost
  split
  · exact .refl s
  next cn _ =>
    dsimp only
    refine .trans (.setConn (cn := cn) (c := { s.conn cn with
      cq := (s.conn cn).cq ++ [{ typ := collTyp m.body, num := num, up := up, msg := m, bytes := collBytes m.body }] }) rfl ?_) (.collSend cn 65536 _)
    intro x hx
    unfold DwtConn.mail at hx ⊢
    simp only [List.map_append, List.mem_append] at hx ⊢
    exact hx.imp_left .inl

theorem MailKept.setColl (s : State) (slot : Nat) (k : Coll) : MailKept s (s.setColl slot k) := .of_dwt (by simp)

theorem MailKept.countSent (slot num bytes : Nat) (s : State) : MailKept s (countSent slot num bytes s) := .of_dwt (by simp)

theorem MailKept.countRelayed (slot num bytes : Nat) (s : State) : MailKept s (countRelayed slot num bytes s) := .of_dwt (by simp)

theorem MailKept.collTo (slot num dest : Nat) (b : CollBody) (s : State) : MailKept s (collTo slot num dest b s) := by
  unfold Machine.collTo
  split
  · exact .trans (.setColl ..) (.trans (.collPost ..) (.countSent ..))
  · exact .refl s

/-! Exchanges -/

theorem MailKept.sendDense (slot num gradVa dest o n tile : Nat) (r : State × Bool) (i : Nat) :
    MailKept r.1 (sendDense slot num gradVa dest o n tile r i).1 := by
  unfold Machine.sendDense
  split
  · exact .refl _
  dsimp only
  split
  · exact .of_dwt (by simp)
  · exact .trans (.of_dwt (by simp)) (.collTo ..)

theorem MailKept.sendBlock (slot num gradVa kk dest o n tile : Nat) (r : State × Bool) (block : Nat) :
    MailKept r.1 (sendBlock slot num gradVa kk dest o n tile r block).1 := by
  unfold Machine.sendBlock
  split
  · exact .refl _
  dsimp only
  split
  · exact .of_dwt (by simp)
  · refine .trans (.trans (.of_dwt (by simp)) (.foldl (fun u i => ?_) _ (r.1.readVA slot (gradVa + tile * gradTile + block * 1024) 1024).s))
      (.collTo ..)
    exact .of_dwt (writeVA_dwt ..)

theorem MailKept.sendShard (slot : Nat) (k : Coll) (g dest o n : Nat) (s : State) : MailKept s (sendShard slot k g dest o n s).1 := by
  unfold Machine.sendShard
  dsimp only
  split
  · split
    · exact .refl s
    · exact .foldl_fst (fun r t => .foldl_fst (fun r b => .sendBlock ..) _ r) _ (s, false)
  · exact .foldl_fst (fun r t => .foldl_fst (fun r b => .sendDense ..) _ r) _ (s, false)

theorem MailKept.collFail (slot num status : Nat) (s : State) : MailKept s (collFail slot num status s) := .of_dwt (by simp)

theorem MailKept.advanceOne (slot num g r : Nat) (s : State) (p : Nat × Nat) : MailKept s (advanceOne slot num g r s p) := by
  unfold Machine.advanceOne
  split
  · exact .refl s
  next k _ =>
  dsimp only
  split
  · exact .refl s
  next recv send _ =>
  split
  · exact .refl s
  split
  · exact .trans (.setColl ..) (.collTo ..)
  split
  · have hsent : MailKept s (Machine.sendShard slot k g (s.jobOf k.d.axes recv) p.2 p.1 (s.setColl slot { k with sentLv := k.sentLv ++ [(p.2,
    p.1)] })).1 :=
      .trans (.setColl ..) (.sendShard ..)
    split
    · exact hsent.trans (.collFail ..)
    · exact hsent
  · exact .refl s

theorem MailKept.takeLeaf (slot num : Nat) (s : State) : MailKept s (takeLeaf slot num s) := .of_dwt (by simp)

theorem MailKept.treeRise (slot num : Nat) (s : State) : MailKept s (treeRise slot num s) := by
  unfold Machine.treeRise
  split
  · exact .refl s
  dsimp only
  split
  · exact .refl s
  split
  · exact .refl s
  split
  · split
    · exact .setColl ..
    · exact .trans (.setColl ..) (.collTo ..)
  · exact .setColl ..

theorem MailKept.treeFall (slot num : Nat) (s : State) : MailKept s (treeFall slot num s) := by
  unfold Machine.treeFall
  split
  · exact .refl s
  split
  · exact .refl s
  split
  · exact .refl s
  · exact .trans (.setColl ..) (.foldl (fun u n => .collTo ..) _ _)

theorem MailKept.advance (slot num : Nat) (s : State) : MailKept s (advance slot num s) := by
  unfold Machine.advance
  split
  · exact .refl s
  next k _ =>
  split
  · exact .refl s
  dsimp only
  have hexchange : MailKept s (if k.d.op = 1 then (exchanges (s.groupSize k.d.axes)).foldl
      (Machine.advanceOne slot num (s.groupSize k.d.axes) (s.groupRank k.d.axes)) s else s) := by
    split
    · exact .foldl (fun u p => .advanceOne ..) _ s
    · exact .refl s
  split
  · exact hexchange.trans (.trans (.takeLeaf ..) (.trans (.treeRise ..) (.treeFall ..)))
  · exact hexchange

/-! Messages taken -/

theorem MailKept.sendPrint (slot num dest : Nat) (s : State) : MailKept s (sendPrint slot num dest s) := by
  unfold Machine.sendPrint
  split
  · split
    · exact .refl s
    · exact .collTo ..
  · exact .refl s

theorem MailKept.gatherSegment (slot cn : Nat) (k : Coll) (m : CollMsg) (shard tile first : Nat) (data : List W16) (s : State) :
    MailKept s (gatherSegment slot cn k m shard tile first data s) := by
  unfold Machine.gatherSegment
  split
  · exact .refl s
  dsimp only
  exact .trans (.trans (.of_dwt (by simp)) (.foldl (fun u d => .collPost ..) _ _)) (.countRelayed ..)

theorem MailKept.reduceSegment (slot : Nat) (k : Coll) (shard level tile first : Nat) (data : List W16) (s : State) :
    MailKept s (reduceSegment slot k shard level tile first data s).s := by
  have hadd : (addSegment slot k tile first data (s.touch slot)).1.dwt = s.dwt := by simp
  unfold Machine.reduceSegment
  dsimp only
  split
  · exact .trans (.of_dwt hadd) (.collFail ..)
  split
  · exact .trans (.of_dwt hadd) (.trans (.setColl ..) (.advance ..))
  · exact .of_dwt hadd

theorem MailKept.collTake (slot cn : Nat) (m : CollMsg) (s : State) : MailKept s (collTake slot cn m s).s := by
  have hold : MailKept s (holdEarly slot cn m s) := .of_dwt rfl
  unfold Machine.collTake
  dsimp only
  split
  · exact hold
  split
  · dsimp only
    split
    · exact hold
    · exact .refl s
  split
  · exact .trans (.sendPrint ..) (.collFail ..)
  split
  · split
    · split
      · exact .gatherSegment ..
      · exact .refl s
    split
    · exact hold
    split
    · exact .reduceSegment ..
    · exact .refl s
  · split
    · exact hold
    · exact .trans (.setColl ..) (.advance ..)
  · split
    · exact hold
    · exact .trans (.setColl ..) (.advance ..)
  · exact .trans (.setColl ..) (.advance ..)

theorem MailKept.relayMsg (slot cn : Nat) (m : Msg) (b : CollMsg) (s : State) : MailKept s (relayMsg slot cn m b s) := by
  unfold Machine.relayMsg
  split
  · exact .refl s
  · exact .trans (.trans (.markSeq ..) (.collPost ..)) (.countRelayed ..)

theorem seen_mail (c : DwtConn) (seq : Nat) : (c.seen seq).st = c.st ∧ (c.seen seq).mail = c.mail := by
  unfold DwtConn.seen
  split
  · split <;> exact ⟨rfl, rfl⟩
  · exact ⟨rfl, rfl⟩

theorem MailKept.collArrives {cn : Nat} {m : Msg} {s : State} (hold : (s.conn cn).tooOld m.seq.toNat = false) (b : CollMsg) :
    MailKept s (collArrives cn m b s) := by
  have hseen : MailKept s (s.setConn cn ((s.conn cn).seen m.seq.toNat)) := by
    obtain ⟨hst, hmail⟩ := seen_mail (s.conn cn) m.seq.toNat
    exact .setConn hst (by rw [hmail]; exact List.Subset.refl _)
  unfold Machine.collArrives
  dsimp only
  split
  · exact .refl s
  split
  next h => exact absurd (h.symm.trans hold) (by decide)
  split
  · split
    · exact hseen
    · exact hseen.trans (.answerAck ..)
  split
  · exact hseen.trans (.sendNak ..)
  split
  · exact hseen.trans (.relayMsg ..)
  split
  · exact hseen.trans ((MailKept.collTake ..).trans (.sendNak ..))
  · exact hseen.trans ((MailKept.collTake ..).trans (.trans (.markSeq ..) (.answerAck ..)))

end Sys2Proof
end

section
/-! Messages of the collective engine received and taken (09 R273, R277, R278, R280, R283). -/

namespace Sys2Proof

open Sys2Proof.Machine

/-! Collectives of a context -/

theorem collOf_setColl {s : State} {slot : Nat} {k p : Coll} (h : (s.setColl slot k).collOf slot k.num = some p) : p = k := by
  unfold State.collOf at h
  rw [setColl_colls] at h
  have hnum := List.find?_some h
  obtain ⟨q, -, hq⟩ := List.mem_map.mp (List.mem_of_find?_eq_some h)
  rw [decide_eq_true_eq] at hnum
  split at hq
  · exact hq.symm
  next hne => exact absurd (hq ▸ hnum) hne

/-- The numbers of a context's collectives. -/
def collNums (s : State) (slot : Nat) : List Nat := (s.ctx slot).colls.map Coll.num

theorem collOf_isSome (s : State) (slot num : Nat) : (s.collOf slot num).isSome = true ↔ num ∈ collNums s slot := by
  rw [State.collOf, List.find?_isSome, collNums, List.mem_map]
  exact exists_congr fun k => and_congr_right' decide_eq_true_iff

theorem setColl_nums (s : State) (slot : Nat) (k : Coll) : collNums (s.setColl slot k) slot = collNums s slot := by
  unfold collNums
  rw [setColl_colls, List.map_map]
  refine List.map_congr_left fun q _ => ?_
  simp only [Function.comp_apply]
  split
  next h => exact h.symm
  · rfl

theorem nums_of_ctxs {s u : State} (h : u.ctxs = s.ctxs) (slot : Nat) : collNums u slot = collNums s slot := by
  rw [collNums, ctx_of_ctxs h, collNums]

theorem collPost_ctxs (slot : Nat) (d : Nat × Nat) (num : Option Nat) (up : Option (Nat × Nat)) (m : CollMsg) (s : State) :
    (collPost slot d num up m s).ctxs = s.ctxs := by simp

theorem countSent_row (slot num bytes : Nat) (s : State) : collNums (countSent slot num bytes s) slot = collNums s slot
    ∧ (countSent slot num bytes s).col.sent = s.col.sent := by
  unfold countSent
  dsimp only
  split
  · exact ⟨setColl_nums .., rfl⟩
  · exact ⟨rfl, rfl⟩

theorem collTo_row (slot num dest : Nat) (b : CollBody) (s : State) : collNums (collTo slot num dest b s) slot = collNums s slot
    ∧ (collTo slot num dest b s).col.sent = s.col.sent := by
  unfold collTo
  split
  · dsimp only
    obtain ⟨hnums, hsent⟩ := countSent_row slot num (collBytes b) (collPost slot _ (some num) none _ _)
    refine ⟨hnums.trans ?_, hsent.trans (by simp)⟩
    exact (nums_of_ctxs (collPost_ctxs ..) slot).trans (setColl_nums ..)
  · exact ⟨rfl, rfl⟩

theorem sendPrint_row (slot num dest : Nat) (s : State) : collNums (sendPrint slot num dest s) slot = collNums s slot
    ∧ (sendPrint slot num dest s).col.sent = s.col.sent := by
  unfold sendPrint
  split
  · split
    · exact ⟨rfl, rfl⟩
    · exact collTo_row ..
  · exact ⟨rfl, rfl⟩

/-- A collective that fails flags its cause; no collective counts as sent. -/
theorem collFail_flag {slot num status bit : Nat} {s : State} (hbit : (status = collPoisoned ∧ bit = 4) ∨ (status = collPeerMismatch ∧ bit = 2))
    (h : (s.collOf slot num).isSome = true) :
    (collFail slot num status s).col.err.getLsbD bit = true ∧ (collFail slot num status s).col.sent = s.col.sent := by
  obtain ⟨k, hk⟩ := Option.isSome_iff_exists.mp h
  have hlt : bit < 5 := by omega
  have hrow : collFail slot num status s = faultWhole slot causeProgram "COLLECTIVE" ((collRecorded slot k status s).errCol bit slot) := by
    unfold collFail
    rw [hk]
    rcases hbit with ⟨rfl, rfl⟩ | ⟨rfl, rfl⟩ <;> rfl
  obtain ⟨hflag, hcol, -⟩ := errCol_row (collRecorded slot k status s) hlt slot
  rw [hrow]
  generalize (collRecorded slot k status s).errCol bit slot = t at hflag hcol
  refine ⟨by simpa using hflag, ?_⟩
  have hsent : t.col.sent = (collRecorded slot k status s).col.sent := by rw [hcol]
  simpa using hsent

theorem gotOf_addGot (k : Coll) (o n j : Nat) : (k.addGot o n j).gotOf o n = k.gotOf o n + j := by
  have hnone : (k.got.filter fun p => decide (p.1 ≠ (o, n))).find? (fun p => decide (p.1 = (o, n))) = none :=
    List.find?_eq_none.mpr fun p hp => by
      have := (List.mem_filter.mp hp).2
      simpa using this
  unfold Coll.addGot
  rw [Coll.gotOf]
  dsimp only
  rw [List.find?_append, hnone]
  simp

/-! Adds -/

theorem addLine_body (s : State) (slot va : Nat) (xs : List W32) (j : Nat) : ((s.addLine slot va xs).1.ctx j).body = (s.ctx j).body := by
  have hmet : ∀ a n, (s.meetLines a n).ctxs = s.ctxs := fun a n => by simp
  unfold State.addLine
  split
  · rfl
  split
  · exact congrArg Ctx.body (ctx_of_ctxs (State.tagViolation_same s slot).2.2.2.2.2.2.1 j)
  dsimp only
  split
  · exact congrArg Ctx.body (ctx_of_ctxs (hmet ..) j)
  · have hwrite : ∀ (u : State) (p : Pte) (o : Nat) (bs : List Byte), (u.writeFrames p o bs).ctxs = u.ctxs := fun u p o bs => by simp
    rw [ctx_of_ctxs (hwrite ..), beforeWrite_body, ctx_of_ctxs (hmet ..)]

theorem addVA_body (s : State) (slot va : Nat) (xs : List W32) (j : Nat) : ((s.addVA slot va xs).1.ctx j).body = (s.ctx j).body := by
  have hlines : ∀ (fuel va : Nat) (xs : List W32) (s : State), ((State.addLines slot fuel va xs s).1.ctx j).body = (s.ctx j).body := by
    intro fuel
    induction fuel with
    | zero => exact fun _ _ _ => rfl
    | succ n ih =>
      intro va xs s
      unfold State.addLines
      split
      · rfl
      · exact (ih ..).trans (addLine_body ..)
  exact hlines ..

theorem collOf_body {s u : State} {slot : Nat} (h : (u.ctx slot).body = (s.ctx slot).body) (num : Nat) : u.collOf slot num = s.collOf slot num := by
  rw [State.collOf, (Ctx.body_colls h).1, State.collOf]

theorem frozen_body {c d : Ctx} (h : c.body = d.body) (e : CollDesc) (i : Nat) : c.frozen e i = d.frozen e i := by
  have hpmap : c.pmap = d.pmap := by
    show c.body.pmap = d.body.pmap
    rw [h]
  unfold Ctx.frozen
  rw [hpmap]

/-! Which command a message is -/

/-- The command of a message of the engine on a port, and the type under which it comes. -/
def EngineCommand (n : PortId) (f : RxFacts) (m : Msg) (b : CollMsg) (typ : Nat) (i : Instr) : Prop :=
  ((∃ o l, b.body = .ready o l) ∧ typ = m.typ.toNat ∧ i = .collReadyReceived n f m b)
    ∨ ((∃ o l tile first data, b.body = .segment o l tile first data ∧ typ = (if l = 0 then 1 else 2))
      ∧ i = .collSegmentReceived n f m b.k b.src b.dest b.fp b.body)

theorem exec_engine {s : State} {n : PortId} {f : RxFacts} {m : Msg} {b : CollMsg} {typ : Nat} {i : Instr} (hi : EngineCommand n f m b typ i) :
    exec i s = .next (received n f m typ (fun cn u => collWatch cn u (collArrives cn m b u)) s) := by
  rcases hi with ⟨⟨o, l, hb⟩, rfl, rfl⟩ | ⟨⟨o, l, tile, first, data, hb, rfl⟩, rfl⟩
  · show execCollReadyReceived n f m b s = _
    unfold execCollReadyReceived
    rw [hb]
  · obtain ⟨k, src, dest, fp, body⟩ := b
    obtain rfl : body = .segment o l tile first data := hb
    rfl

section
variable {s s1 : State} {n : PortId} {f : RxFacts} {m : Msg} {b : CollMsg} {cn typ : Nat} {i : Instr}

/-- A message that comes to the engine does what `collArrives` does. -/
theorem exec_arrives (hi : EngineCommand n f m b typ i) (hin : dwtIn n.val f m typ s = ⟨s1, some cn⟩)
    (hold : (s1.conn cn).tooOld m.seq.toNat = false) : exec i s = .next (s.close (collArrives cn m b s1)) := by
  rw [exec_engine hi, received_on hin, (MailKept.collArrives hold b).watch cn]

/-- What becomes of a new message that is in the window of the replay bitmap. -/
theorem collArrives_new (hcoll : (s1.conn cn).coll = true) (hold : (s1.conn cn).tooOld m.seq.toNat = false)
    (hnew : m.seq.toNat ∉ (s1.conn cn).bits) :
    let c := s1.conn cn
    let s2 := s1.setConn cn (c.seen m.seq.toNat)
    let r := collTake c.ctx cn b s2
    collArrives cn m b s1 = if s2.connFenced c then sendNak cn m dwtFenced s2
      else if b.dest ≠ s2.jobRank ∧ bodyGathers b.body = false then relayMsg c.ctx cn m b s2
      else if r.bad then sendNak cn m tgtPoisoned r.s else answerAck cn m (r.s.markSeq cn m.seq.toNat) := by
  unfold collArrives
  dsimp only
  rw [hcoll, hold, if_neg (by decide), if_neg (by decide), if_neg hnew]

end

/-! A message taken -/

/-- What a collective does with a message of its own. -/
def takeBody (slot cn : Nat) (b : CollMsg) (q : Coll) (s : State) : CollIn :=
  match b.body with
  | .segment shard level tile first data =>
    if level = 0 then (if q.d.op = 2 then ⟨gatherSegment slot cn q b shard tile first data s, false⟩ else ⟨s, false⟩)
    else if !q.started then ⟨holdEarly slot cn b s, false⟩
    else if q.d.op = 1 then reduceSegment slot q shard level tile first data s
    else ⟨s, false⟩
  | .ready shard level =>
    if !q.started then ⟨holdEarly slot cn b s, false⟩
    else ⟨advance slot q.num (s.setColl slot { q with ready := insertNew (shard, level) q.ready }), false⟩
  | .up level v =>
    if !q.started then ⟨holdEarly slot cn b s, false⟩
    else ⟨advance slot q.num (s.setColl slot { q with treeIn := q.treeIn ++ [(level, v)] }), false⟩
  | .down v => ⟨advance slot q.num (s.setColl slot { q with result := some v }), false⟩

section
variable {s : State} {slot cn : Nat} {b : CollMsg} {q : Coll}

theorem collTake_early (h : (s.ctx slot).step.toNat < b.k.step.toNat
      ∨ ((s.ctx slot).colls.find? (fun q => decide (q.num % 256 = b.k.k.toNat)) = none ∧ b.k.step = (s.ctx slot).step)) :
    collTake slot cn b s = ⟨holdEarly slot cn b s, false⟩ := by
  unfold collTake
  dsimp only
  rcases h with h | ⟨hnone, hstep⟩
  · rw [if_pos h]
  · rw [if_neg (by rw [hstep]; exact Nat.lt_irrefl _), hnone]
    dsimp only
    rw [if_pos hstep]

theorem collTake_differs (hq : (s.ctx slot).colls.find? (fun q => decide (q.num % 256 = b.k.k.toNat)) = some q)
    (hle : b.k.step.toNat ≤ (s.ctx slot).step.toNat)
    (h : b.k.step ≠ (s.ctx slot).step ∨ ∃ x, b.fp = some x ∧ x ≠ fingerprint (s.ctx slot) q) :
    collTake slot cn b s = ⟨collFail slot q.num collPeerMismatch (sendPrint slot q.num b.src s), false⟩ := by
  unfold collTake
  dsimp only
  rw [if_neg (Nat.not_lt.mpr hle), hq]
  dsimp only
  refine if_pos ?_
  rcases h with h | ⟨x, hx, hne⟩
  · simp [h]
  · simp [hx, hne]

/-- A message of the collective under way whose fingerprint, if any, is the own one goes by its body. -/
theorem collTake_own (hq : (s.ctx slot).colls.find? (fun q => decide (q.num % 256 = b.k.k.toNat)) = some q)
    (hstep : b.k.step = (s.ctx slot).step) (hfp : b.fp = none ∨ b.fp = some (fingerprint (s.ctx slot) q)) :
    collTake slot cn b s = takeBody slot cn b q s := by
  unfold collTake takeBody
  dsimp only
  rw [if_neg (by rw [hstep]; exact Nat.lt_irrefl _), hq]
  dsimp only
  refine (if_neg (by rcases hfp with h | h <;> simp [h, hstep])).trans ?_
  cases b.body <;> rfl

theorem takeBody_ready {o l : Nat} (hb : b.body = .ready o l) (hstart : q.started = true) :
    takeBody slot cn b q s = ⟨advance slot q.num (s.setColl slot { q with ready := insertNew (o, l) q.ready }), false⟩ := by
  unfold takeBody
  rw [hb]
  dsimp only
  rw [if_neg (by rw [hstart]; decide)]

variable {o l tile first : Nat} {data : List W16}

theorem takeBody_reduce (hb : b.body = .segment o l tile first data) (hl : l ≠ 0) (hstart : q.started = true) (hop : q.d.op = 1) :
    takeBody slot cn b q s = reduceSegment slot q o l tile first data s := by
  unfold takeBody
  rw [hb]
  dsimp only
  rw [if_neg hl, if_neg (by rw [hstart]; decide), if_pos hop]

theorem takeBody_gather (hb : b.body = .segment o 0 tile first data) (hop : q.d.op = 2) :
    takeBody slot cn b q s = ⟨gatherSegment slot cn q b o tile first data s, false⟩ := by
  unfold takeBody
  rw [hb]
  dsimp only
  rw [if_pos rfl, if_pos hop]

/-! Segments -/

theorem reduceSegment_frozen (hfrozen : (s.ctx slot).frozen q.d tile = true) (hq : s.collOf slot q.num = some q) :
    reduceSegment slot q o l tile first data s = ⟨advance slot q.num ((s.touch slot).setColl slot (q.addGot o l 0)), false⟩ := by
  have hrow : addSegment slot q tile first data (s.touch slot) = (s.touch slot, 0, false) :=
    if_pos ((frozen_body (touch_body s slot slot) q.d tile).trans hfrozen)
  unfold reduceSegment
  dsimp only
  rw [hrow]
  dsimp only
  rw [if_neg (by decide), collOf_body (touch_body s slot slot), hq]

theorem addSegment_dense (hfrozen : (s.ctx slot).frozen q.d tile = false) (htopk : q.d.topk = false) :
    let t := (s.touch slot).addVA slot (q.d.gradVa + tile * gradTile + 4 * first) (data.map fun w => widenBf16 w.toNat)
    addSegment slot q tile first data (s.touch slot) = (t.1, data.length, t.2) := by
  unfold addSegment
  dsimp only
  rw [if_neg (by rw [frozen_body (touch_body s slot slot), hfrozen]; decide), if_neg (by rw [htopk]; decide)]

/-- A segment of a reduce that is added, or that meets a poisoned line. -/
theorem reduceSegment_dense (hfrozen : (s.ctx slot).frozen q.d tile = false) (htopk : q.d.topk = false) (hq : s.collOf slot q.num = some q) :
    let t := (s.touch slot).addVA slot (q.d.gradVa + tile * gradTile + 4 * first) (data.map fun w => widenBf16 w.toNat)
    t.1.collOf slot q.num = some q
    ∧ (t.2 = false → reduceSegment slot q o l tile first data s = ⟨advance slot q.num (t.1.setColl slot (q.addGot o l data.length)), false⟩)
    ∧ (t.2 = true → reduceSegment slot q o l tile first data s = ⟨collFail slot q.num collPoisoned t.1, true⟩) := by
  intro t
  have hcoll : t.1.collOf slot q.num = some q := by rw [collOf_body (addVA_body ..), collOf_body (touch_body s slot slot), hq]
  have hrow : addSegment slot q tile first data (s.touch slot) = (t.1, data.length, t.2) := addSegment_dense hfrozen htopk
  refine ⟨hcoll, fun hgood => ?_, fun hbad => ?_⟩
  · unfold reduceSegment
    dsimp only
    rw [hrow, hgood]
    dsimp only
    rw [if_neg (by decide), hcoll]
  · unfold reduceSegment
    dsimp only
    rw [hrow, hbad]
    exact if_pos rfl

/-- A segment of a gather is written, and counts. -/
theorem gatherSegment_row (hrank : o ≠ s.groupRank q.d.axes) : let v := gatherSegment slot cn q b o tile first data s
    v.tiers = (s.writeVA slot (s.nextVa slot (q.d.paramVa + tile * paramTile) + 2 * first) (data.flatMap fun w => leBytes 2 w.toNat)).tiers
    ∧ ∀ p, v.collOf slot q.num = some p → p.gotOf o 0 = q.gotOf o 0 + data.length := by
  intro v
  generalize hs2 : ((s.writeVA slot (s.nextVa slot (q.d.paramVa + tile * paramTile) + 2 * first) (data.flatMap fun w => leBytes 2 w.toNat)).touch
    slot).setColl slot (q.addGot o 0 data.length) = s2
  have htiers : s2.tiers = (s.writeVA slot (s.nextVa slot (q.d.paramVa + tile * paramTile) + 2 * first)
      (data.flatMap fun w => leBytes 2 w.toNat)).tiers := by rw [← hs2]; simp
  have hcoll : ∀ p, s2.collOf slot q.num = some p → p = q.addGot o 0 data.length := by
    rw [← hs2]
    exact fun p hp => collOf_setColl hp
  have hrow : ∃ n, ∃ ds : List (Nat × Nat), v = countRelayed slot q.num n (ds.foldl (gatherPost slot q b) s2) := by
    unfold v gatherSegment
    rw [if_neg hrank, ← hs2]
    exact ⟨_, _, rfl⟩
  obtain ⟨n, ds, hrow⟩ := hrow
  have hctxs : (ds.foldl (gatherPost slot q b) s2).ctxs = s2.ctxs := by simp
  rw [hrow]
  refine ⟨by simp [htiers], fun p hp => ?_⟩
  unfold countRelayed at hp
  dsimp only at hp
  split at hp
  next k hk =>
    have hk2 : s2.collOf slot q.num = some k := by
      rw [State.collOf, ← ctx_of_ctxs hctxs slot]
      exact hk
    obtain rfl := hcoll k hk2
    obtain rfl := collOf_setColl (k := { q.addGot o 0 data.length with relayed := (q.addGot o 0 data.length).relayed + n }) hp
    exact gotOf_addGot ..
  next hnone => exact absurd (hp.symm.trans hnone) (by simp)

end

end Sys2Proof
end

section
/-! The messages of the collective engine settled: received ones, the end of a collective, and answers (09 R277 to R283, 08 R251). -/

namespace Sys2Proof

open Sys2Proof.Machine

/-! Messages -/

section
variable {s s1 : State} {n : PortId} {f : RxFacts} {m : Msg} {b : CollMsg} {cn typ : Nat} {i : Instr}

/-- A message that comes through has the type that its command names. -/
theorem typ_of_dwtIn (h : dwtIn n.val f m typ s = ⟨s1, some cn⟩) : m.typ.toNat = typ := by
  have hcn : (dwtIn n.val f m typ s).cn = some cn := by rw [h]
  unfold dwtIn at hcn
  dsimp only at hcn
  split at hcn
  · split at hcn
    · cases hcn
    split at hcn
    · cases hcn
    split at hcn
    · cases hcn
    split at hcn
    · cases hcn
    next hform =>
      by_contra hne
      exact hform (by rw [decide_eq_true hne]; rfl)
  · cases hcn

theorem counters_of_dwtIn (h : dwtIn n.val f m typ s = ⟨s1, some cn⟩) : s1.counters = s.counters := by
  have hs : (dwtIn n.val f m typ s).s.counters = s.counters := by simp
  rw [h] at hs
  exact hs

/-- The state in which a message's SEQ has joined the window of the replay bitmap. -/
def seenAt (cn : Nat) (m : Msg) (s : State) : State := s.setConn cn ((s.conn cn).seen m.seq.toNat)

/-- A new message comes to the engine through a port. -/
structure Comes (n : PortId) (f : RxFacts) (m : Msg) (b : CollMsg) (cn typ : Nat) (i : Instr) (s s1 : State) : Prop where
  command : EngineCommand n f m b typ i
  arrives : dwtIn n.val f m typ s = ⟨s1, some cn⟩
  coll : (s1.conn cn).coll = true
  window : (s1.conn cn).tooOld m.seq.toNat = false
  new : m.seq.toNat ∉ (s1.conn cn).bits

theorem Comes.exec_row (h : Comes n f m b cn typ i s s1) : exec i s = .next (s.close
    (if (seenAt cn m s1).connFenced (s1.conn cn) then sendNak cn m dwtFenced (seenAt cn m s1)
      else if b.dest ≠ (seenAt cn m s1).jobRank ∧ bodyGathers b.body = false then relayMsg (s1.conn cn).ctx cn m b (seenAt cn m s1)
      else if (collTake (s1.conn cn).ctx cn b (seenAt cn m s1)).bad then
        sendNak cn m tgtPoisoned (collTake (s1.conn cn).ctx cn b (seenAt cn m s1)).s
      else answerAck cn m ((collTake (s1.conn cn).ctx cn b (seenAt cn m s1)).s.markSeq cn m.seq.toNat))) :=
  (exec_arrives (b := b) h.command h.arrives h.window).trans
    (congrArg (fun u => Host.Outcome.next (s.close u)) (collArrives_new h.coll h.window h.new))

theorem Comes.fenced (h : Comes n f m b cn typ i s s1) (hfenced : (seenAt cn m s1).connFenced (s1.conn cn) = true) :
    exec i s = .next (s.close (sendNak cn m dwtFenced (seenAt cn m s1))) := by
  rw [h.exec_row, if_pos hfenced]

theorem Comes.relayed (h : Comes n f m b cn typ i s s1) (hopen : (seenAt cn m s1).connFenced (s1.conn cn) = false)
    (haway : b.dest ≠ (seenAt cn m s1).jobRank) (hplain : bodyGathers b.body = false) :
    exec i s = .next (s.close (relayMsg (s1.conn cn).ctx cn m b (seenAt cn m s1))) := by
  rw [h.exec_row, if_neg (by rw [hopen]; decide), if_pos ⟨haway, hplain⟩]

/-- A new message on a connection that is not fenced, for this device, is taken and answered. -/
theorem Comes.taken (h : Comes n f m b cn typ i s s1) (hopen : (seenAt cn m s1).connFenced (s1.conn cn) = false)
    (hhere : b.dest = (seenAt cn m s1).jobRank ∨ bodyGathers b.body = true) {r : CollIn}
    (hr : collTake (s1.conn cn).ctx cn b (seenAt cn m s1) = r) :
    exec i s = .next (s.close (if r.bad then sendNak cn m tgtPoisoned r.s else answerAck cn m (r.s.markSeq cn m.seq.toNat))) := by
  rw [h.exec_row, if_neg (by rw [hopen]; decide), if_neg (fun ho => hhere.elim ho.1 fun hg => absurd (ho.2.symm.trans hg) (by decide)), hr]

theorem Comes.data (h : Comes n f m b cn typ i s s1) : (seenAt cn m s1).tiers = s.tiers ∧ (seenAt cn m s1).counters = s.counters := by
  have htiers := tiers_of_dwtIn h.arrives
  have hcounters := counters_of_dwtIn h.arrives
  exact ⟨htiers, hcounters⟩

end

theorem relayMsg_data (slot cn : Nat) (m : Msg) (b : CollMsg) (s : State) : (relayMsg slot cn m b s).tiers = s.tiers
    ∧ (relayMsg slot cn m b s).counters = s.counters := by simp

/-! Own messages -/

/-- A collective under way that `b` names by its index and step, with its own fingerprint, if any. -/
structure OwnMessage (slot : Nat) (b : CollMsg) (q : Coll) (s : State) : Prop where
  known : (s.ctx slot).colls.find? (fun q => decide (q.num % 256 = b.k.k.toNat)) = some q
  step : b.k.step = (s.ctx slot).step
  print : b.fp = none ∨ b.fp = some (fingerprint (s.ctx slot) q)
  own : s.collOf slot q.num = some q

section
variable {s : State} {slot cn : Nat} {b : CollMsg} {q : Coll} {o l tile first : Nat} {data : List W16}

theorem OwnMessage.ready (h : OwnMessage slot b q s) (hb : b.body = .ready o l) (hstart : q.started = true) :
    ∃ v, collTake slot cn b s = ⟨advance slot q.num v, false⟩ ∧ v.tiers = s.tiers
      ∧ (v.ctx slot).colls = (s.ctx slot).colls.map fun p => if p.num = q.num then { q with ready := insertNew (o, l) q.ready } else p :=
  ⟨_, (collTake_own h.known h.step h.print).trans (takeBody_ready hb hstart), rfl, setColl_colls ..⟩

theorem OwnMessage.reduce (h : OwnMessage slot b q s) (hb : b.body = .segment o l tile first data) (hl : l ≠ 0) (hstart : q.started = true)
    (hop : q.d.op = 1) : collTake slot cn b s = reduceSegment slot q o l tile first data s :=
  (collTake_own h.known h.step h.print).trans (takeBody_reduce hb hl hstart hop)

theorem OwnMessage.frozen (h : OwnMessage slot b q s) (hb : b.body = .segment o l tile first data) (hl : l ≠ 0) (hstart : q.started = true)
    (hop : q.d.op = 1) (hfrozen : (s.ctx slot).frozen q.d tile = true) :
    ∃ v, collTake slot cn b s = ⟨advance slot q.num v, false⟩ ∧ v.tiers = s.tiers :=
  ⟨_, (h.reduce hb hl hstart hop).trans (reduceSegment_frozen hfrozen h.own), by simp⟩

theorem OwnMessage.added (h : OwnMessage slot b q s) (hb : b.body = .segment o l tile first data) (hl : l ≠ 0) (hstart : q.started = true)
    (hop : q.d.op = 1) (htopk : q.d.topk = false) (hfrozen : (s.ctx slot).frozen q.d tile = false) :
    let t := (s.touch slot).addVA slot (q.d.gradVa + tile * 262144 + 4 * first) (data.map fun w => widenBf16 w.toNat)
    (t.2 = false → ∃ v, collTake slot cn b s = ⟨advance slot q.num v, false⟩ ∧ v.tiers = t.1.tiers
        ∧ ∀ p, v.collOf slot q.num = some p → p.gotOf o l = q.gotOf o l + data.length)
    ∧ (t.2 = true → collTake slot cn b s = ⟨collFail slot q.num 0x112 t.1, true⟩
        ∧ (collFail slot q.num 0x112 t.1).col.err.getLsbD 4 = true) := by
  obtain ⟨hcoll, hadd, hbad⟩ := reduceSegment_dense (o := o) (l := l) (tile := tile) (first := first) (data := data) hfrozen htopk h.own
  rw [show gradTile = 262144 from rfl] at hcoll hadd hbad
  rw [show collPoisoned = 0x112 from rfl] at hbad
  generalize (s.touch slot).addVA slot (q.d.gradVa + tile * 262144 + 4 * first) (data.map fun w => widenBf16 w.toNat) = t at hcoll hadd hbad ⊢
  refine ⟨fun hgood => ⟨_, (h.reduce hb hl hstart hop).trans (hadd hgood), rfl, fun p hp => ?_⟩, fun hp =>
    ⟨(h.reduce hb hl hstart hop).trans (hbad hp), (collFail_flag (.inl ⟨rfl, rfl⟩) (by rw [hcoll]; rfl)).1⟩⟩
  obtain rfl := collOf_setColl (k := q.addGot o l data.length) hp
  exact gotOf_addGot ..

theorem OwnMessage.gathered (h : OwnMessage slot b q s) (hb : b.body = .segment o 0 tile first data) (hop : q.d.op = 2)
    (hrank : o ≠ s.groupRank q.d.axes) : ∃ v, collTake slot cn b s = ⟨v, false⟩
      ∧ v.tiers = (s.writeVA slot (s.nextVa slot (q.d.paramVa + tile * 131072) + 2 * first) (data.flatMap fun w => leBytes 2 w.toNat)).tiers
      ∧ ∀ p, v.collOf slot q.num = some p → p.gotOf o 0 = q.gotOf o 0 + data.length :=
  ⟨_, (collTake_own h.known h.step h.print).trans (takeBody_gather hb hop), gatherSegment_row hrank⟩

end

/-- A message that waits leaves the tiers and the collectives. -/
theorem holdEarly_row (slot cn : Nat) (b : CollMsg) (s : State) : let v := holdEarly slot cn b s
    (v.ctx slot).early = (s.ctx slot).early ++ [(cn, b)] ∧ v.tiers = s.tiers ∧ (v.ctx slot).colls = (s.ctx slot).colls := by
  intro v
  have hctx : v.ctx slot = { s.ctx slot with early := (s.ctx slot).early ++ [(cn, b)] } := State.ctx_setCtx_self ..
  rw [hctx]
  exact ⟨rfl, rfl, rfl⟩

/-- A collective whose peer differs fails, and the peer has the fingerprint. -/
theorem differs_flag {s : State} {slot num : Nat} (h : (s.collOf slot num).isSome = true) (src : Nat) :
    let v := collFail slot num collPeerMismatch (sendPrint slot num src s)
    v.col.err.getLsbD 2 = true ∧ v.col.sent = s.col.sent := by
  obtain ⟨hnums, hsent⟩ := sendPrint_row slot num src s
  have hcoll : ((sendPrint slot num src s).collOf slot num).isSome = true := by
    rw [collOf_isSome, hnums, ← collOf_isSome]
    exact h
  obtain ⟨hflag, hkept⟩ := collFail_flag (.inr ⟨rfl, rfl⟩) hcoll
  exact ⟨hflag, hkept.trans hsent⟩

/-! The end of a collective -/

/-- What the last writes of a collective leave. -/
structure EndKept (slot : Nat) (s u : State) : Prop where
  colls : (u.ctx slot).colls = (s.ctx slot).colls
  st : (u.ctx slot).st = (s.ctx slot).st
  desc : (u.ctx slot).desc = (s.ctx slot).desc
  owner : ∀ j, (u.ctrOwner j).isSome = (s.ctrOwner j).isSome
  counters : u.counters = s.counters
  sent : u.col.sent = s.col.sent ∧ u.col.skipped = s.col.skipped

theorem EndKept.refl (slot : Nat) (s : State) : EndKept slot s s := ⟨rfl, rfl, rfl, fun _ => rfl, rfl, rfl, rfl⟩

theorem EndKept.trans {slot : Nat} {s t u : State} (h : EndKept slot s t) (k : EndKept slot t u) : EndKept slot s u where
  colls := k.colls.trans h.colls
  st := k.st.trans h.st
  desc := k.desc.trans h.desc
  owner j := (k.owner j).trans (h.owner j)
  counters := k.counters.trans h.counters
  sent := ⟨k.sent.1.trans h.sent.1, k.sent.2.trans h.sent.2⟩

theorem EndKept.foldl {β : Type} {slot : Nat} {f : State → β → State} (hf : ∀ u b, EndKept slot u (f u b)) (l : List β) (s : State) :
    EndKept slot s (l.foldl f s) := by
  induction l generalizing s with
  | nil => exact .refl slot s
  | cons b l ih => exact (hf s b).trans (ih _)

theorem EndKept.writeVA (slot k va : Nat) (bs : List Byte) (s : State) : EndKept slot s (s.writeVA k va bs) := by
  have hbody := writeVA_body s k va bs slot
  obtain ⟨hst, -, -, hdesc, -⟩ := Ctx.body_rows hbody
  exact ⟨(Ctx.body_colls hbody).1, hst, hdesc, fun j => writeVA_owner .., by simp, by simp, by simp⟩

theorem EndKept.of_ctxs {slot : Nat} {s u : State} (h : u.ctxs = s.ctxs) (hcounters : u.counters = s.counters)
    (hsent : u.col.sent = s.col.sent ∧ u.col.skipped = s.col.skipped) : EndKept slot s u :=
  ⟨by rw [ctx_of_ctxs h], by rw [ctx_of_ctxs h], by rw [ctx_of_ctxs h], fun j => by rw [ctrOwner_congr h], hcounters, hsent⟩

theorem EndKept.setCtx {slot : Nat} {s : State} {c : Ctx} (hcolls : c.colls = (s.ctx slot).colls) (hst : c.st = (s.ctx slot).st)
    (hdesc : c.desc = (s.ctx slot).desc) : EndKept slot s (s.setCtx slot c) :=
  ⟨by rw [State.ctx_setCtx_self, hcolls], by rw [State.ctx_setCtx_self, hst], by rw [State.ctx_setCtx_self, hdesc],
    fun j => setCtx_owner s slot j hst hdesc, rfl, rfl, rfl⟩

theorem EndKept.copyTile (slot : Nat) (d : CollDesc) (s : State) (tile : Nat) : EndKept slot s (copyTile slot d s tile) := by
  unfold Machine.copyTile
  exact .trans (.of_ctxs (State.readVA_same ..).2.2.2.2.2.2.1 (by simp) (by simp)) (.writeVA ..)

theorem EndKept.zeroFrozen (slot : Nat) (k : Coll) (s : State) : EndKept slot s (zeroFrozen slot k s) :=
  .foldl (fun _ _ => .writeVA ..) _ s

theorem EndKept.digestMismatch (slot : Nat) (s : State) : EndKept slot s (digestMismatch slot s) := by
  have hflag : EndKept slot s (if s.col.err.getLsbD 0 then s.logEv { ev 2 0x05 0 with slot := slot } else s.errCol 0 slot) := by
    split
    · exact .of_ctxs (by simp) (by simp) (by simp)
    · have hcol := (errCol_row s (k := 0) (by decide) slot).2.1
      exact .of_ctxs (by simp) (by simp) (by rw [hcol]; exact ⟨rfl, rfl⟩)
  unfold Machine.digestMismatch
  dsimp only
  generalize (if s.col.err.getLsbD 0 then s.logEv { ev 2 0x05 0 with slot := slot } else s.errCol 0 slot) = t at hflag ⊢
  split
  · exact hflag.trans (.setCtx rfl rfl rfl)
  · exact hflag

theorem EndKept.treeFigures (slot : Nat) (v : TreeVal) (s : State) : EndKept slot s (treeFigures slot v s) := by
  unfold Machine.treeFigures
  dsimp only
  split
  · refine .trans ?_ (.of_ctxs (mapMirrors_ctxs ..) (by simp) (by simp))
    exact .setCtx rfl rfl rfl
  · exact .setCtx rfl rfl rfl

theorem EndKept.treeEnds (slot : Nat) (k : Coll) (v : TreeVal) (s : State) : EndKept slot s (treeEnds slot k v s) := by
  have hwrite := EndKept.writeVA slot slot k.d.outVa (normBytes v.hi v.lo (if k.fold then v.digest else none)) s
  unfold Machine.treeEnds
  dsimp only
  generalize s.writeVA slot k.d.outVa (normBytes v.hi v.lo (if k.fold then v.digest else none)) = t at hwrite ⊢
  split
  · exact hwrite
  split
  · exact hwrite.trans (.treeFigures ..)
  · exact .trans (hwrite.trans (.treeFigures ..)) (.digestMismatch ..)

/-- What a collective that completes leaves before it is recorded. -/
theorem collOk_row (slot : Nat) (k : Coll) (s : State) : ∃ t, EndKept slot s t ∧ collOk slot k s = collDone slot k 0 t := by
  refine ⟨_, ?_, rfl⟩
  have hlast : EndKept slot s (if k.d.op = 2 then ((List.range k.d.tiles).filter ((s.ctx slot).frozen k.d)).foldl (Machine.copyTile slot k.d) s
      else if k.d.op = 1 ∧ k.d.norm = false then Machine.zeroFrozen slot k s else s) := by
    split
    · exact .foldl (fun u t => .copyTile ..) _ s
    split
    · exact .zeroFrozen ..
    · exact .refl slot s
  split
  · split
    · exact hlast.trans (.treeEnds ..)
    · exact hlast
  · exact hlast

theorem collOk_ends (slot : Nat) (k : Coll) (s : State) : let u := collOk slot k s
    (u.ctx slot).colls = (s.ctx slot).colls.filter (fun p => decide (p.num ≠ k.num))
      ∧ u.col.sent = satAdd Config.sat32 s.col.sent 1 ∧ u.col.skipped = s.col.skipped
      ∧ (k.d.ctrEn = false → u.counters = s.counters)
      ∧ (k.d.ctrEn = true → (s.ctx slot).st ≠ .none → u.counters = (s.raiseCtr ((s.ctx slot).desc.ctrBase + k.d.doneCtr) 1).counters)
      ∧ u.dwt = s.dwt ∧ u.nets = s.nets := by
  obtain ⟨t, ht, hrow⟩ := collOk_row slot k s
  obtain ⟨hcolls, hcol, -, hsame, hraised⟩ := collDone_row slot k 0 t
  rw [if_pos rfl] at hcol
  intro u
  have hu : u = collDone slot k 0 t := hrow
  refine ⟨by rw [hu, hcolls, ht.colls], by rw [hu, hcol, ht.sent.1], by rw [hu, hcol, ht.sent.2], fun hen => by rw [hu, hsame hen, ht.counters],
    fun hen hst => ?_, by simp [u], by simp [u]⟩
  rw [hu, hraised hen (by rw [ht.st]; exact hst), ht.desc]
  exact raiseCtr_counters_owner (ht.owner _) ht.counters 1

/-! Answers -/

theorem collFail_dwt (slot num status : Nat) (s : State) : (collFail slot num status s).dwt = s.dwt := by simp

theorem collSend_idle {s : State} {cn : Nat} (h : (s.conn cn).cq = []) (fuel : Nat) : State.collSend cn fuel s = s := by
  cases fuel with
  | zero => rfl
  | succ n =>
    unfold State.collSend
    dsimp only
    rw [h]

/-- On an open connection with nothing that waits an answer moves nothing on. -/
theorem afterColl_idle {s : State} {cn : Nat} (hst : (s.conn cn).st = .open_) (hcq : (s.conn cn).cq = []) :
    maybeShake cn (State.collSend cn 65536 s) = s := by
  rw [collSend_idle hcq, maybeShake_open hst]

/-- The answer to an unanswered message of the engine's own, on an open connection with none that waits. -/
theorem collAnswered_own {s : State} {cn : Nat} {m : Msg} {g : CollSeg} (hst : (s.conn cn).st = .open_) (hcq : (s.conn cn).cq = [])
    (hg : (s.conn cn).csegs.find? (fun g => decide (g.seq = m.ref.toNat)) = some g) (hup : g.up = none) :
    let t := s.setConn cn { s.conn cn with csegs := (s.conn cn).csegs.filter fun h => decide (h.seq ≠ g.seq) }
    (m.typ ≠ 6#8 → collAnswered cn m s = t)
    ∧ (∀ num, m.typ = 6#8 → m.status = 0x16#16 → g.num = some num → collAnswered cn m s = collFail (s.conn cn).ctx num collPoisoned t) := by
  intro t
  have hconn : t.conn cn = { s.conn cn with csegs := (s.conn cn).csegs.filter fun h => decide (h.seq ≠ g.seq) } := State.conn_setConn_self ..
  have hidle : ∀ u : State, u.dwt = t.dwt → maybeShake cn (State.collSend cn 65536 u) = u := fun u hu =>
    afterColl_idle (by rw [conn_of_dwt hu, hconn]; exact hst) (by rw [conn_of_dwt hu, hconn]; exact hcq)
  refine ⟨fun htyp => ?_, fun num htyp hstatus hnum => ?_⟩
  · unfold collAnswered
    dsimp only
    rw [hg]
    dsimp only
    rw [hup]
    cases hnum : g.num with
    | none => exact hidle t rfl
    | some num =>
      dsimp only
      rw [if_pos htyp]
      exact hidle t rfl
  · unfold collAnswered
    dsimp only
    rw [hg]
    dsimp only
    rw [hup, hnum]
    dsimp only
    rw [if_neg (not_not.mpr htyp), if_pos (by rw [hstatus]; rfl)]
    exact hidle _ (collFail_dwt ..)

/-- What becomes of messages of the engine: the first part of the obligation. -/
theorem messages_row {s s1 : State} {n : PortId} {f : RxFacts} {m : Msg} {b : CollMsg} {cn typ : Nat} {i : Instr}
    (h : Comes n f m b cn typ i s s1) (hopen : (seenAt cn m s1).connFenced (s1.conn cn) = false)
    (hhere : b.dest = (seenAt cn m s1).jobRank ∨ bodyGathers b.body = true) {v : State}
    (hv : collTake (s1.conn cn).ctx cn b (seenAt cn m s1) = ⟨v, false⟩) :
    exec i s = .next (s.close (answerAck cn m (v.markSeq cn m.seq.toNat))) := by
  rw [h.taken hopen hhere hv, if_neg Bool.false_ne_true]

/-- A message whose data meets a poisoned line is refused with TGT_POISONED. -/
theorem messages_bad {s s1 : State} {n : PortId} {f : RxFacts} {m : Msg} {b : CollMsg} {cn typ : Nat} {i : Instr}
    (h : Comes n f m b cn typ i s s1) (hopen : (seenAt cn m s1).connFenced (s1.conn cn) = false)
    (hhere : b.dest = (seenAt cn m s1).jobRank ∨ bodyGathers b.body = true) {v : State}
    (hv : collTake (s1.conn cn).ctx cn b (seenAt cn m s1) = ⟨v, true⟩) :
    exec i s = .next (s.close (sendNak cn m 0x16 v)) := by
  rw [h.taken hopen hhere hv, if_pos rfl, show tgtPoisoned = 0x16 from rfl]

/-- What the engine does with a message of a collective under way that is for this device. -/
def OwnSettled (s s2 : State) (i : Instr) (m : Msg) (b : CollMsg) (cn slot : Nat) (q : Coll) : Prop :=
  let acked := fun v : State => exec i s = .next (s.close (answerAck cn m (v.markSeq cn m.seq.toNat)))
  (∀ o l, b.body = .ready o l → q.started = true → ∃ v, acked (advance slot q.num v) ∧ v.tiers = s.tiers
    ∧ (v.ctx slot).colls = (s2.ctx slot).colls.map (fun p => if p.num = q.num then { q with ready := insertNew (o, l) q.ready } else p))
  ∧ (∀ o l tile first data, b.body = .segment o l tile first data →
    (l ≠ 0 → q.started = true → q.d.op = 1 → q.d.topk = false →
      let t := (s2.touch slot).addVA slot (q.d.gradVa + tile * 262144 + 4 * first) (data.map fun w => widenBf16 w.toNat)
      ((s2.ctx slot).frozen q.d tile = true → ∃ v, acked (advance slot q.num v) ∧ v.tiers = s.tiers)
      ∧ ((s2.ctx slot).frozen q.d tile = false → t.2 = false → ∃ v, acked (advance slot q.num v) ∧ v.tiers = t.1.tiers
        ∧ ∀ p, v.collOf slot q.num = some p → p.gotOf o l = q.gotOf o l + data.length)
      ∧ ((s2.ctx slot).frozen q.d tile = false → t.2 = true → ∃ v, exec i s = .next (s.close (sendNak cn m 0x16 v))
        ∧ v = collFail slot q.num 0x112 t.1 ∧ v.col.err.getLsbD 4 = true))
    ∧ (l = 0 → q.d.op = 2 → o ≠ s2.groupRank q.d.axes → ∃ v, acked v
      ∧ v.tiers = (s2.writeVA slot (s2.nextVa slot (q.d.paramVa + tile * 131072) + 2 * first) (data.flatMap fun w => leBytes 2 w.toNat)).tiers
      ∧ ∀ p, v.collOf slot q.num = some p → p.gotOf o 0 = q.gotOf o 0 + data.length))

theorem ownSettled {s s2 : State} {i : Instr} {m : Msg} {b : CollMsg} {cn slot : Nat} {q : Coll} (hmem2 : s2.tiers = s.tiers)
    (hgood : ∀ v, collTake slot cn b s2 = ⟨v, false⟩ → exec i s = .next (s.close (answerAck cn m (v.markSeq cn m.seq.toNat))))
    (hbad : ∀ v, collTake slot cn b s2 = ⟨v, true⟩ → exec i s = .next (s.close (sendNak cn m 0x16 v)))
    (hmsg : OwnMessage slot b q s2) : OwnSettled s s2 i m b cn slot q := by
  refine ⟨fun o l hb hstart => ?_, fun o l tile first data hb => ⟨?_, ?_⟩⟩
  · obtain ⟨v, hv, hmem, hcolls⟩ := hmsg.ready (cn := cn) hb hstart
    exact ⟨v, hgood _ hv, hmem.trans hmem2, hcolls⟩
  · intro hl hstart hop htopk t
    refine ⟨fun hfrozen => ?_, fun hfrozen => ?_, fun hfrozen hp => ?_⟩
    · obtain ⟨v, hv, hmem⟩ := hmsg.frozen (cn := cn) hb hl hstart hop hfrozen
      exact ⟨v, hgood _ hv, hmem.trans hmem2⟩
    · intro hp
      obtain ⟨v, hv, hmem, hgot⟩ := (hmsg.added (cn := cn) hb hl hstart hop htopk hfrozen).1 hp
      exact ⟨v, hgood _ hv, hmem, hgot⟩
    · obtain ⟨hv, hflag⟩ := (hmsg.added (cn := cn) hb hl hstart hop htopk hfrozen).2 hp
      exact ⟨collFail slot q.num 0x112 t.1, hbad _ hv, rfl, hflag⟩
  · rintro rfl hop hrank
    obtain ⟨v, hv, hmem, hgot⟩ := hmsg.gathered (cn := cn) hb hop hrank
    exact ⟨v, hgood _ hv, hmem, hgot⟩

/-- The end of a collective, or its staying. -/
theorem collComplete_row {s : State} {slot : SlotId} {k : Byte} {q : Coll} (status : W16) (hi lo : W32) (root : Option (BitVec 384))
    (newest : Option W64) (hq : s.collByte slot.val k = some q) :
    (s.collReady slot.val q = true → q.endsWith status hi lo root newest = true →
      exec (.collComplete slot k status hi lo root newest) s = .next (s.close (collOk slot.val q s)))
    ∧ (s.collReady slot.val q = false ∨ q.endsWith status hi lo root newest = false →
      exec (.collComplete slot k status hi lo root newest) s = .next (s.close s)) := by
  have hrow : exec (.collComplete slot k status hi lo root newest) s = execCollComplete slot k status hi lo root newest s := rfl
  rw [hrow]
  unfold execCollComplete collEnds
  rw [hq]
  dsimp only
  refine ⟨fun hready hends => by rw [if_pos hends, if_pos hready], fun h => ?_⟩
  split
  next hends =>
    have hready : s.collReady slot.val q = false := h.resolve_right (by rw [hends]; decide)
    rw [if_neg (by rw [hready]; decide)]
  · rfl

/-- The answer to a message of the engine. -/
theorem exec_collAnswered {s s1 : State} {n : PortId} {f : RxFacts} {m : Msg} {cn typ : Nat} {i : Instr}
    (hi : (typ = 5 ∧ i = .rxAck n f m) ∨ (typ = 6 ∧ i = .rxNak n f m)) (hin : dwtIn n.val f m typ s = ⟨s1, some cn⟩)
    (hcoll : (s1.conn cn).coll = true) : exec i s = .next (s.close (collAnswered cn m s1)) := by
  have hany : anyAnswer cn m s1 = collAnswered cn m s1 := if_pos hcoll
  rw [← hany]
  rcases hi with ⟨rfl, rfl⟩ | ⟨rfl, rfl⟩
  · exact congrArg Host.Outcome.next (received_on hin)
  · exact congrArg Host.Outcome.next (received_on hin)

/-- Settles O30: what the engine does with a message that it takes, sends on or refuses, with the end of a collective, and with an answer. -/
theorem collectiveMessagesAndEnds : Obligations.CollectiveMessagesAndEnds := by
  unfold Obligations.CollectiveMessagesAndEnds
  refine ⟨?_, ?_, ?_⟩
  · intro s s1 n f m b cn typ i hi hin hcoll hold hnew c s2 slot now known acked
    have h : Comes n f m b cn typ i s s1 := ⟨hi, hin, hcoll, hold, hnew⟩
    obtain ⟨htiers, hcounters⟩ := h.data
    refine ⟨h.fenced, fun hopen => ⟨fun haway hplain => ?_, fun hhere => ?_⟩⟩
    · obtain ⟨hmem, hctr⟩ := relayMsg_data slot cn m b s2
      exact ⟨_, h.relayed hopen haway hplain, rfl, hmem.trans htiers, hctr.trans hcounters⟩
    have htaken : ∀ v, collTake slot cn b s2 = ⟨v, false⟩ → acked v := fun v hv => messages_row h hopen hhere hv
    refine ⟨fun hearly => ?_, fun q hq hle hdiff hown => ?_, fun q hq hstep hfp hown => ?_⟩
    · obtain ⟨hheld, hmem, hcolls⟩ := holdEarly_row slot cn b s2
      exact ⟨_, htaken _ (collTake_early hearly), hheld, hmem.trans htiers, hcolls⟩
    · obtain ⟨hflag, hsent⟩ := differs_flag (s := s2) (slot := slot) (num := q.num) (by rw [hown]; rfl) b.src
      exact ⟨_, htaken _ (collTake_differs hq hle hdiff), rfl, hflag, hsent⟩
    · exact ownSettled htiers htaken (fun v hv => messages_bad h hopen hhere hv) ⟨hq, hstep, hfp, hown⟩
  · intro s slot k q status hi lo root newest hq c i
    obtain ⟨hends, hstays⟩ := collComplete_row status hi lo root newest hq
    exact ⟨fun hready hend => ⟨_, hends hready hend, collOk_ends slot.val q s⟩, hstays⟩
  · intro s s1 n f m cn typ i g hi hin c hcoll hst hcq hg hup rest
    obtain ⟨hack, hnak⟩ := collAnswered_own hst hcq hg hup
    have hexec := exec_collAnswered hi hin hcoll
    refine ⟨fun htyp => ⟨_, hexec, ?_⟩, fun num htyp hstatus hnum => ⟨_, hexec, ?_⟩⟩
    · have hm : m.typ ≠ 6#8 := fun h6 => by
        have := typ_of_dwtIn hin
        rw [h6, htyp] at this
        exact absurd this (by decide)
      have htiers := tiers_of_dwtIn hin
      rw [hack hm]
      exact ⟨by rw [State.conn_setConn_self], rfl, htiers⟩
    · have hm : m.typ = 6#8 := BitVec.eq_of_toNat_eq ((typ_of_dwtIn hin).trans htyp)
      exact hnak num hm hstatus hnum

end Sys2Proof
end

section
/-! Suspects (12 R370): a counter of the replay's range that the table of counters lists twice. The statement says what every counter of the
range reads at the start of a replay, of every state, and forgets that a write of 0 takes only the first of two entries away. -/

namespace Sys2Proof

open Sys2Proof.Machine

/-! Doorbell pages: none goes where a state is closed, so one that is closed with none had none, and no host command went on -/

theorem Tbl.put_ne_nil {α : Type} (t : Tbl α) (k : Nat) (v : α) : Tbl.put t k v ≠ [] := by
  cases t with
  | nil => exact List.cons_ne_nil _ _
  | cons p t =>
    unfold Tbl.put
    split
    · exact List.cons_ne_nil _ _
    split <;> exact List.cons_ne_nil _ _

theorem setPage_pages (s : State) (k : Nat) (p : Page) : (s.setPage k p).pages ≠ [] := Tbl.put_ne_nil _ _ _

theorem writeCpl_pages (s : State) (slot : Nat) (c : Cpl) : (s.writeCpl slot c).pages ≠ [] := by
  unfold State.writeCpl
  dsimp only
  split
  · exact setPage_pages _ _ _
  split
  · rw [(State.pageSignal_same _ _).2.2.2.2.2.2.2.2.2.1]
    exact setPage_pages _ _ _
  · exact setPage_pages _ _ _

theorem flushCpl_pages (slot : Nat) (n : Nat) {s : State} (h : s.pages ≠ []) : (s.flushCpl slot n).pages ≠ [] := by
  induction n generalizing s with
  | zero => exact h
  | succ n ih =>
    unfold State.flushCpl
    dsimp only
    split
    · exact h
    split
    · exact h
    · exact ih (writeCpl_pages _ _ _)

theorem addCpl_pages (s : State) (slot : Nat) (c : Cpl) : (s.addCpl slot c).pages ≠ [] := flushCpl_pages slot _ (setPage_pages _ _ _)

theorem pumpSlot_pages (mer : Bool) (slot n : Nat) {s : State} (h : s.pages ≠ []) : (pumpSlot mer slot n s).pages ≠ [] := by
  induction n generalizing s with
  | zero => exact h
  | succ n ih =>
    unfold pumpSlot
    dsimp only
    split
    · exact h
    split
    · exact h
    split
    · exact setPage_pages _ _ _
    · exact ih (addCpl_pages _ _ _)

theorem pumpRounds_pages (mer : Option Nat) (n : Nat) {s : State} (h : s.pages ≠ []) : (pumpRounds mer n s).pages ≠ [] := by
  have hround : ∀ (l : List Nat) {u : State}, u.pages ≠ [] →
      (l.foldl (fun u k => pumpSlot (decide (mer = some k)) k 33 u) u).pages ≠ [] := by
    intro l
    induction l with
    | nil => exact fun h => h
    | cons k l ih => exact fun h => ih (pumpSlot_pages _ k 33 h)
  induction n generalizing s with
  | zero => exact h
  | succ n ih => exact ih (hround _ h)

theorem pumpRounds_none (mer : Option Nat) (n : Nat) {s : State} (h : s.pages = []) : pumpRounds mer n s = s := by
  induction n with
  | zero => rfl
  | succ n ih =>
    have hwaiting : s.waiting = [] := by rw [State.waiting, h]; rfl
    unfold pumpRounds
    rw [hwaiting]
    exact ih

theorem writeStatus_pages (s : State) (slot : Nat) : (s.writeStatus slot).pages = [] ↔ s.pages = [] := by
  have hnone : s.pages = [] → s.writeStatus slot = s := fun h => by
    have hva : (s.page slot).statusVA = 0 := by rw [State.page, h]; rfl
    unfold State.writeStatus State.sendStatus
    dsimp only
    rw [if_pos hva, if_pos hva, ite_self]
  refine ⟨fun h => ?_, fun h => by rw [hnone h, h]⟩
  by_contra hne
  refine absurd h ?_
  unfold State.writeStatus State.sendStatus
  dsimp only
  split
  · split
    · exact hne
    split
    · rw [(State.pageSignal_same _ _).2.2.2.2.2.2.2.2.2.1]
      exact setPage_pages _ _ _
    · exact setPage_pages _ _ _
  split
  · exact hne
  · exact hne

theorem settle_pages (s t : State) : (s.settle t).pages = [] ↔ t.pages = [] := by
  have hall : ∀ (l : List Nat) (u : State), (l.foldl State.writeStatus u).pages = [] ↔ u.pages = [] := by
    intro l
    induction l with
    | nil => exact fun _ => Iff.rfl
    | cons k l ih => exact fun u => (ih _).trans (writeStatus_pages u k)
  unfold State.settle
  dsimp only
  split
  · rfl
  · exact hall _ _

/-- Where a closed state has no doorbell page, closing has left the counters. -/
theorem close_counters (s t : State) (h : (s.close t).pages = []) : (s.close t).counters = t.counters := by
  have hsettled : (s.settle (repairIdle t)).pages = [] := by
    by_contra hne
    exact pumpRounds_pages none _ hne h
  have hrow : s.close t = s.settle (repairIdle t) := pumpRounds_none none _ hsettled
  rw [hrow, (State.settle_same _ _).2.2.2.2.2.2.2.2.2.1, (repairIdle_same _).2.2.2.2.2.2.1]

theorem close_pages {s t : State} (h : t.pages = []) : (s.close t).pages = [] := by
  have hsettled : (s.settle (repairIdle t)).pages = [] := (settle_pages ..).mpr ((repairIdle_same _).2.2.2.2.2.1.trans h)
  have hrow : s.close t = s.settle (repairIdle t) := pumpRounds_none none _ hsettled
  rw [hrow]
  exact hsettled

/-! The counterexample -/

namespace CounterTwice

/-- A recovery descriptor with room for undo copies. -/
def desc : RcvDesc :=
  { tolUlp := 0, undoSkip := 0, mirrorEn := false, shadow := false, autoRestore := false, snapMode := 0, localVa := 0, localPages := 0, undoVa := 0
    fixedSteps := 0, undoPages := 1, mirrorConn := 0, mirrorWgen := 0, mirrorWindow := 0, lossVa := 0 }

/-- A suspect of the hub. -/
def suspect : Suspect := { slot := 0, dom := .hub, fault := true, counts := [], ctrs := [], reproduced := none }

/-- The context in slot 0 of one counter, on no core, whose step can be undone; two entries for the first counter of a replay. -/
def before : State :=
  { ctxs := [(0, { st := .eclipse, before := .running, desc := { ctrCount := 1 }, rcv := { desc := some desc, mCores := [(0, {})] } })]
    counters := [(replayCtrs, 1), (replayCtrs, 5)]
    rcv := { suspects := [suspect] } }

theorem before_counters : (suspectReplay .hub 0 before).counter replayCtrs = 5 := by decide

end CounterTwice

/-- Refutes O38: a suspect of the hub is replayed where the table of counters has two entries for the first counter of a replay. No counter of
the context has a value at the meridian, so that the replay starts with 0 written to it; its second entry, 5, then shows. -/
theorem not_hangsAndReplays : ¬ Obligations.HangsAndReplays := by
  unfold Obligations.HangsAndReplays
  intro h
  obtain ⟨u, hu, -, -, -, -, -, -, hcounter, -⟩ :=
    (h.1 CounterTwice.before .hub 0 (by decide) (by decide) (by decide) (by decide)).1 CounterTwice.suspect
      (by decide) (by decide) (by decide) (by decide)
  have hclose : CounterTwice.before.close (suspectReplay .hub 0 CounterTwice.before) = CounterTwice.before.close u := Host.Outcome.next.inj hu
  have hpages : (CounterTwice.before.close (suspectReplay .hub 0 CounterTwice.before)).pages = [] :=
    close_pages ((suspectReplay_same ..).2.2.2.2.2.1.trans rfl)
  have hkept : u.counters = (suspectReplay .hub 0 CounterTwice.before).counters := by
    rw [← close_counters _ _ (hclose ▸ hpages), ← close_counters _ _ hpages, hclose]
  have hzero : u.counter replayCtrs = 0 := hcounter 0 (by decide)
  have hfive : u.counter replayCtrs = 5 := by
    rw [State.counter, hkept]
    exact CounterTwice.before_counters
  omega

end Sys2Proof
end
